-- ==== Sys2Proof/Word.lean ====
section
/-! DEFINITION. The word types of the device: what the manual reads, writes or masks as bits
(register words, addresses in flight, fields of a frame).  Everything else is a number, a name or a
list.  R8 and R7 (00_scope.md) fix byte order and bit numbering; the operations that follow them are
in Machine/Bits.lean. -/

namespace Sys2Proof

/-- A 32-bit register or argument word (R42, 02_steward_mailboxes.md). -/
abbrev Word := BitVec 32

/-- A 64-bit word: a parameter value, a table entry, an identity. -/
abbrev Word64 := BitVec 64

/-- A byte of a frame, a ring entry or a memory. -/
abbrev Byte := BitVec 8

/-- A sparse table: entries by number, in rising order of the number, each number at most once.
The operations (Machine/Tbl.lean) keep the order. -/
abbrev Tbl (α : Type) := List (Nat × α)

end Sys2Proof
end

