-- ==== Sys2Proof/Machine/Bits.lean ====
section
/-! DEFINITION. Bit fields, byte order and signs (R7, R8, 00_scope.md). -/

namespace Sys2Proof.Machine

/-- A number as a register word. -/
def wd (n : Nat) : Word := BitVec.ofNat 32 n

/-- Field [hi:lo] of a word (R7). -/
def fld (w : Word) (hi lo : Nat) : Nat := (w.toNat >>> lo) % 2 ^ (hi + 1 - lo)

/-- Field [hi:lo] of a number. -/
def nfld (n hi lo : Nat) : Nat := (n >>> lo) % 2 ^ (hi + 1 - lo)

/-- Bit i of a word. -/
def bit (w : Word) (i : Nat) : Bool := w.getLsbD i

/-- 1 for true. -/
def b2n (b : Bool) : Nat := if b then 1 else 0

/-- Bit i of a number. -/
def nbit (n i : Nat) : Bool := n.testBit i

/-- The number whose bits are those listed. -/
def bitsOf (l : List Nat) : Nat := l.foldl (fun a i => a ||| (1 <<< i)) 0

/-- The bits below n that are 1 in a number, rising. -/
def onesOf (n w : Nat) : List Nat := (List.range n).filter (fun i => w.testBit i)

/-- Little-endian bytes as a number (R8). -/
def leNat : List Byte → Nat
  | [] => 0
  | b :: r => b.toNat + 256 * leNat r

/-- Big-endian bytes as a number. -/
def beNat (l : List Byte) : Nat := l.foldl (fun a b => a * 256 + b.toNat) 0

/-- A number as n little-endian bytes. -/
def toLe : Nat → Nat → List Byte
  | 0, _ => []
  | n + 1, v => BitVec.ofNat 8 v :: toLe n (v / 256)

/-- A number as n big-endian bytes. -/
def toBe (n v : Nat) : List Byte := (toLe n v).reverse

/-- Bytes off to off + len - 1. -/
def slice (l : List Byte) (off len : Nat) : List Byte := (l.drop off).take len

/-- Byte at an offset, 0 beyond the end. -/
def byteAt (l : List Byte) (i : Nat) : Nat := (l.getD i 0).toNat

/-- Words as little-endian bytes. -/
def wordsLe (ws : List Word) : List Byte := ws.flatMap (fun w => toLe 4 w.toNat)

/-- Bytes as little-endian words; a shorter rest is dropped. -/
def leWords : List Byte → List Word
  | a :: b :: c :: d :: r => wd (leNat [a, b, c, d]) :: leWords r
  | _ => []

/-- The signed value of an n-bit two's complement number. -/
def sgn (n v : Nat) : Int := if v % 2 ^ n < 2 ^ (n - 1) then (v % 2 ^ n : Nat) else (v % 2 ^ n : Nat) - 2 ^ n

/-- A signed value as an n-bit two's complement number. -/
def unsgn (n : Nat) (v : Int) : Nat := (v % (2 ^ n : Nat)).toNat

/-- A signed value held within the limits of n bits. -/
def satInt (n : Nat) (v : Int) : Int :=
  if v > 2 ^ (n - 1) - 1 then 2 ^ (n - 1) - 1 else if v < -(2 ^ (n - 1)) then -(2 ^ (n - 1)) else v

/-- A signed value saturating at ±(2^31 − 1), as a register word. -/
def satWord (v : Int) : Word :=
  wd (unsgn 32 (if v > 2147483647 then 2147483647 else if v < -2147483647 then -2147483647 else v))

/-- A count that stops at a limit. -/
def satAdd (lim a b : Nat) : Nat := min lim (a + b)

/-- R267: a is at or before b, as 32-bit times compared by signed difference. -/
def timeLe (a b : Nat) : Bool := decide (0 ≤ sgn 32 (b + 2 ^ 32 - a % 2 ^ 32))

/-- A 64-bit value as two words, the low one first. -/
def twoWords (v : Nat) : List Word := [wd v, wd (v / 2 ^ 32)]

/-- Two words, the low one first, as a number. -/
def ofTwo (lo hi : Word) : Nat := lo.toNat + 2 ^ 32 * hi.toNat

end Sys2Proof.Machine
end

