-- ==== Sys2Proof/Machine/StAud.lean ====
section
/-! DEFINITION. State of the audio engine (11_audio.md).  A sample is a signed number; a media index
or frame index is a count of samples. -/

namespace Sys2Proof.Machine

/-- State of a receive leg (R300). -/
inductive LegState where
  | waiting | running | stale
  deriving DecidableEq, Repr

/-- A receive leg. -/
structure Leg where
  /-- WAITING, RUNNING or STALE; R300 (11); reset WAITING -/
  state : LegState := .waiting
  /-- Locked SSRC; 32 bits; R294 (11); reset none -/
  ssrc : Option Word := none
  /-- Device time of the last accepted packet; R300 (11); reset 0 -/
  heard : Nat := 0
  deriving DecidableEq, Repr

/-- A filled sample position of a jitter buffer: samples of the channels and the leg that filled it. -/
structure Filled where
  samples : List Int
  leg : Nat
  /-- Device time at which it was filled -/
  at_ : Nat
  deriving DecidableEq, Repr

/-- A receive stream's play state. -/
structure RxStream where
  /-- Legs A and B; R300 (11); reset WAITING -/
  legA : Leg := {}
  legB : Leg := {}
  /-- Filled positions by RTP timestamp; R297 (11); reset none -/
  buf : Tbl Filled := []
  /-- RTP timestamp of the next sample to play in adaptive mode; R301 (11); reset none -/
  play : Option Nat := none
  /-- Samples still to discard and silent samples still to play after a step; R293 (11); reset 0 -/
  skip : Nat := 0
  silence : Nat := 0
  /-- Samples of fade-out already played since the last filled one, and of fade-in; R298 (11); reset 32 and 32 -/
  fadeOut : Nat := 32
  fadeIn : Nat := 32
  /-- Last sample played on each channel; R298 (11); reset none -/
  last : List Int := []
  /-- Adaptive ratio, signed units of 0.01 ppm; R301 (11); reset 0 -/
  ratio : Int := 0
  /-- Samples by which the resampler's reading runs ahead, in 10^-8; R301 (11); reset 0 -/
  carry : Int := 0
  /-- Highest RTP sequence number and its timestamp; R298 (11); reset none -/
  top : Option (Nat × Nat) := none
  /-- RTP sequence numbers missing on both legs so far, with their timestamps; R298 (11); reset none -/
  missing : List (Nat × Nat) := []
  /-- Packets accepted this epoch; Table 11-6 (11); reset 0 -/
  packets : Nat := 0
  /-- Restart due in the first block after a flush; R302 (11); reset false -/
  restart : Bool := false
  /-- Step samples played or discarded this epoch; R293 (11); reset 0 -/
  stepSamples : Nat := 0
  /-- Samples played in the last block, by channel, for the buses; reset none -/
  out : List (List Int) := []
  deriving DecidableEq, Repr

/-- A transmit stream's state (R303). -/
structure TxStream where
  /-- Next RTP sequence number; 16 bits; R303 (11); reset 0 -/
  seq : Nat := 0
  /-- Frames gathered for the next packet; R303 (11); reset none -/
  frames : List (List Int) := []
  /-- Media index of the first gathered frame; R303 (11); reset 0 -/
  first : Int := 0
  /-- The next packet carries the marker bit, and the one being gathered carries it; R293 (11); reset false -/
  marker : Bool := false
  marked : Bool := false
  /-- Packets sent this epoch; Table 11-6 (11); reset 0 -/
  sent : Nat := 0
  deriving DecidableEq, Repr

/-- A prompt scheduled or playing (R310, R311). -/
structure Prompt where
  /-- Lane, or station player + 128 -/
  source : Nat
  /-- Clip set and prompt number -/
  tenant : Nat
  prompt : Nat
  /-- Frame index at which it starts -/
  frame : Int
  /-- Decision stamp, for R315 -/
  stamp : Nat
  /-- Samples of the clip, held from the scheduling on -/
  clip : List Int
  /-- Started; R310 (11) -/
  started : Bool := false
  /-- Buses on which it is not played; R308 (11) -/
  mutedOn : List Nat := []
  /-- A repeat of audio.emg_prompt; R312 (11) -/
  emg : Bool := false
  deriving DecidableEq, Repr

/-- A bus in service (R313). -/
structure BusState where
  /-- Audio pair carrying it -/
  pair : Option Nat := none
  /-- Attenuation of each source, in 0.001 dB; R307 (11); reset 0 -/
  duck : List Nat := [0, 0, 0, 0]
  /-- The samples output in the last block; reset none -/
  out : List Int := []
  /-- Prompts whose lane source a commit took away: key, gain and samples of fade-out left; R315 (11); reset none -/
  tails : List (Nat × Nat × Nat) := []
  deriving DecidableEq, Repr

/-- The audio engine. -/
structure Aud where
  /-- Receive streams by number; R289 (11); reset none running -/
  rx : Tbl RxStream := []
  /-- Transmit streams by number; R303 (11); reset none running -/
  tx : Tbl TxStream := []
  /-- Buses by their BLK1 name; R313 (11); reset none -/
  buses : Tbl BusState := []
  /-- Prompts scheduled or playing, by key; R310 (11); reset none -/
  prompts : Tbl Prompt := []
  /-- Key of the next prompt (the model's own); reset 0 -/
  nextKey : Nat := 0
  /-- Frame index F of the next block; R291 (11); reset 0 -/
  f : Nat := 0
  /-- Difference M minus F in force; R291 (11); reset 0 -/
  diff : Int := 0
  /-- Samples by which M moves at the next block boundary; R293 (11); reset 0 -/
  stepDue : Int := 0
  /-- Device time of the last step of the served clock; R315 (11); reset 0 -/
  stepAt : Nat := 0
  /-- Page set whose streams, buses and ports are in use, from a commit's flush on; R79, R315 (03, 11); reset 0 -/
  ver : Nat := 0
  /-- Mean-square sums of the last 80 blocks by source code, newest first; R307 (11); reset none -/
  power : Tbl (List Nat) := []
  /-- EV_AUD_NO_CELLS raised and not yet answered by room; R313 (11); reset false -/
  noCells : Bool := false
  /-- Buses muted and transmit streams stopped by zeroisation; 11 Absence of partners; reset false -/
  muted : Bool := false
  /-- Emergency loop: frame at which the next repeat starts; R312 (11); reset none -/
  emgNext : Option Int := none
  deriving DecidableEq, Repr

end Sys2Proof.Machine
end

