-- ==== Sys2Proof/Machine/StCap.lean ====
section
/-! DEFINITION. State of authority: the object table, capabilities, call gates, fault log
(05_capabilities.md), and of memory protection, caches and store buffers (13_memory.md). -/

namespace Sys2Proof.Machine

/-- State of an object table entry (R122). -/
inductive ObjState where
  | free | live | retired
  deriving DecidableEq, Repr

/-- What an object stands for (05 Model, Table 5-3). -/
inductive ObjFor where
  /-- Nothing of its own: its window -/
  | none
  /-- A window of the device address space -/
  | device
  /-- A window of an instance's I/O virtual address space -/
  | iova (tag : Nat)
  /-- Entry to a call gate of the caste image -/
  | gate (number : Nat)
  /-- A key of sealed key storage, by key slot -/
  | key (slot : Nat)
  /-- A lane -/
  | lane (n : Nat)
  /-- A session slot -/
  | slot (n : Nat)
  /-- A tenant's data: the staged bytes' place in external memory -/
  | dataset (kind : Nat)
  deriving DecidableEq, Repr

/-- An object table entry (R122): 16 bytes at 0x10_0000 + 16 × OBJECT of the device map, held here by field. -/
structure Obj where
  /-- FREE, LIVE or RETIRED; R122 (05); reset FREE -/
  state : ObjState := .free
  /-- Current generation; 16 bits; R122 (05); reset 0 -/
  gen : Nat := 0
  /-- TYPE; 4 bits; Table 5-3 (05); reset 0 -/
  type : Nat := 0
  /-- LEVEL; 2 bits; Table 5-2 (05); reset 0 -/
  level : Nat := 0
  /-- OWNER tag; 10 bits; R122 (05); reset 0 -/
  owner : Nat := 0
  /-- Rights ceiling; 16 bits; Table 5-4 (05); reset 0 -/
  rights : BitVec 16 := 0
  /-- Window: start address, offset in the root's window, length; 36, 32 and 32 bits; R122 (05); reset 0 -/
  base : Nat := 0
  offset : Nat := 0
  length : Nat := 0
  /-- Parent OBJECT, or 0; 16 bits; R122 (05); reset 0 -/
  parent : Nat := 0
  /-- Depth 1 to 4; R134 (05); reset 0 -/
  depth : Nat := 0
  /-- LABEL of an imported key; 32 bits; Table 5-13 (05); reset 0 -/
  label : Word := 0
  /-- What the entry stands for; R122 (05); reset nothing -/
  what : ObjFor := .none
  deriving DecidableEq, Repr

/-- A capability, internal form (Table 5-5). -/
structure Cap where
  gen : Nat := 0
  object : Nat := 0
  rights : BitVec 16 := 0
  type : Nat := 0
  level : Nat := 0
  owner : Nat := 0
  offset : Nat := 0
  length : Nat := 0
  deriving DecidableEq, Repr

/-- A capability register: its 128 bits by field and its hidden tag (R127). -/
structure CapReg where
  tag : Bool := false
  cap : Cap := {}
  deriving DecidableEq, Repr

/-- A slot of a call gate's argument descriptor (Table 5-7). -/
structure GateSlot where
  /-- Word A and word B -/
  a : Word := 0
  b : Word := 0
  deriving DecidableEq, Repr

/-- A call gate of the caste image set (05 Call gates): what CAP_GATE_INFO returns, its stack
capability and its entry point. -/
structure Gate where
  number : Nat
  /-- Caste, 0 to 4 (Table 5-13) -/
  caste : Nat
  level : Nat
  slots : List GateSlot
  /-- Stack capability loaded into c15 (R142) -/
  stack : CapReg := {}
  /-- Open to this caller level or lower -/
  entryPoint : Nat := 0
  deriving DecidableEq, Repr

/-- A call-gate frame in sealed scratch (R142). -/
structure Frame where
  /-- Caller's c15 -/
  c15 : CapReg
  level : Nat
  ret : Nat
  /-- Call gate entered -/
  gate : Nat
  /-- Number that the RETURN capability names -/
  serial : Nat
  deriving DecidableEq, Repr

/-- A fault record (Table 5-12). -/
structure FaultRec where
  seq : Nat
  cell : Nat
  cause : Nat
  /-- FLAGS [0] handling, [1] write, [3:2] level -/
  handling : Bool
  write : Bool
  level : Nat
  tag : Nat
  object : Nat
  genHeld : Nat
  genNow : Nat
  offset : Nat
  length : Nat
  reg : Nat
  size : Nat
  gate : Nat
  slot : Nat
  cid : Nat
  sec : Nat
  ns : Nat
  detail : Nat
  deriving DecidableEq, Repr

/-- A generation broadcast under way (R136): the objects changed, and the units still to acknowledge
(clusters 0 to 95, then 96 DMA, 97 Lane Link, 98 audio, 99 cartridges). -/
structure Broadcast where
  objs : List Nat
  units : List Nat
  deriving DecidableEq, Repr

/-- Authority. -/
structure CapSt where
  /-- Object table by OBJECT number, 65,536 entries, absent entries FREE; R122 (05); reset empty, every entry FREE -/
  objs : Tbl Obj := []
  /-- Device seal key, by the count of cold resets that drew it, none before stage 3 and after zeroisation; 256 bits hidden; R130 (05); reset none -/
  sealKey : Option Nat := none
  /-- Broadcasts not yet acknowledged by every unit; R136 (05); reset none -/
  broadcasts : List Broadcast := []
  /-- Fault log, newest first, at most 256; R148 (05); reset empty -/
  faults : List FaultRec := []
  /-- Sequence number of the next fault record; 32 bits; R148 (05); reset 1 -/
  faultSeq : Nat := 1
  /-- Uncorrectable object-table errors counted; R152 (05); reset 0 -/
  eccErrors : Nat := 0
  /-- Call gates of the caste image set in use; 05 Call gates; reset none, before the image is loaded -/
  gates : List Gate := []
  /-- Number of the next call-gate frame (the model's own); reset 0 -/
  frameSerial : Nat := 0
  deriving DecidableEq, Repr

/-- An MPU region descriptor (Tables 13-3 to 13-5). -/
structure Region where
  /-- BASE, address bits [35:8]; 28 bits; Table 13-3 (13); reset 0 -/
  base : Nat := 0
  /-- VALID; Table 13-3 (13); reset 0 -/
  valid : Bool := false
  /-- SIZE_LOG2; 6 bits; Table 13-4 (13); reset 0 -/
  sizeLog2 : Nat := 0
  /-- TAG and MATCH_TAG; Table 13-4 (13); reset 0 -/
  tag : Nat := 0
  matchTag : Bool := false
  /-- CAPST; Table 13-4 (13); reset 0 -/
  capst : Bool := false
  /-- CACHEABLE; Table 13-4 (13); reset 0 -/
  cacheable : Bool := false
  /-- PERM3 to PERM0, [11:0]; Table 13-4 (13); reset 0 -/
  perm : BitVec 12 := 0
  /-- SRD; 8 bits; Table 13-5 (13); reset 0 -/
  srd : BitVec 8 := 0
  deriving DecidableEq, Repr

/-- An MPU refusal record (Table 13-7). -/
structure Refusal13 where
  seq : Nat
  mpu : Nat
  region : Nat
  write : Bool
  exec : Bool
  level : Nat
  dma : Bool
  strict : Bool
  tag : Nat
  cell : Nat
  address : Nat
  sec : Nat
  ns : Nat
  deriving DecidableEq, Repr

/-- A line's directory state (13 Cluster coherence). -/
inductive DirState where
  | unowned
  | shared (sharers : List Nat)
  | owned (pos : Nat)
  deriving DecidableEq, Repr

/-- A line a cluster's directory knows (R352). -/
structure Line where
  dir : DirState := .unowned
  /-- The line bank's priority pointer; 3 bits; R353 (13); reset 0 (DESIGN CHOICE, log entry 16) -/
  ptr : Nat := 0
  /-- The cluster's copy of the line's 64 bytes, in its L2 or an L1; R354 (13); reset none -/
  data : Option (List Byte) := none
  /-- Granules 0 to 3 of the copy whose hidden tag is set; R127 (05); reset none -/
  tags : List Nat := []
  /-- The copy was written and its home does not hold the write yet; R354 (13); reset false -/
  dirty : Bool := false
  deriving DecidableEq, Repr

/-- State of a line in an L1 (13 Cluster coherence). -/
inductive L1State where
  | modified | shared
  deriving DecidableEq, Repr

/-- A cell's store buffer entry (R355). -/
structure StoreEntry where
  addr : Nat
  data : List Byte
  /-- A capability store's register content -/
  cap : Option CapReg := none
  /-- Region cacheable: the store drains into the L1 -/
  cached : Bool := false
  deriving DecidableEq, Repr

/-- Memory protection and memory. -/
structure MemSt where
  /-- MPU instances that refuse every access after an uncorrectable descriptor error, with the device time at which the steward has rewritten their descriptors; R362 (13); reset none -/
  eccBad : Tbl Nat := []
  /-- Overlap hits this epoch by MPU instance; R345 (13); reset 0 -/
  overlap : Tbl Nat := []
  /-- Firmware regions 24 to 31 by 32 × MPU instance + region; R341 (13); reset every field 0 until Frenal writes them -/
  fwRegions : Tbl Region := []
  /-- Correctable descriptor errors counted; R362 (13); reset 0 -/
  eccCorr : Nat := 0
  /-- Refusal log, newest first, at most 64; R351 (13); reset empty -/
  refusals : List Refusal13 := []
  /-- Sequence number of the next refusal record; 32 bits; R351 (13); reset 1 -/
  refusalSeq : Nat := 1
  /-- Bytes of the device address space of Table 13-2 that differ from 0; R342 (13); reset none listed, an unlisted byte reads 0 (DESIGN CHOICE, log entry 3: the spec gives no reset contents) -/
  bytes : List (Nat × Byte) := []
  /-- 16-byte granules of hub store and external memory whose hidden tag is set, by granule number, rising; R127 (13, 05); reset none -/
  tags : List Nat := []
  /-- External memory size in MiB, fifteen sixteenths of the fitted size; 32 bits; Table 13-10 (13), R399 (15); reset 1,920 (DESIGN CHOICE, log entry 14: the station of Table 0-5 fits 2 GiB) -/
  extMib : Nat := 1920
  /-- Cluster directories by 2^32 × cluster + line number; R352 (13); reset every line UNOWNED -/
  lines : Tbl Line := []
  deriving DecidableEq, Repr

end Sys2Proof.Machine
end

