-- ==== Sys2Proof/Machine/StCart.lean ====
section
/-! DEFINITION. State of the operator cartridges (09_cartridges.md). -/

namespace Sys2Proof.Machine

/-- Slot states of Table 9-1. -/
inductive CartState where
  | empty | init | ready | locked | unformatted | foreign | failed | erasing | ejected
  deriving DecidableEq, Repr

/-- A journal block being written or to be rewritten (R254). -/
structure CartBlock where
  /-- BSERIAL; 64 bits; Table 9-7 (09) -/
  serial : Nat
  /-- The 512 bytes -/
  bytes : List Byte
  /-- Records it holds, by number -/
  recs : List Nat
  /-- RSEQ and SEAL of the last of them -/
  lastRseq : Nat
  lastSeal : List Byte
  /-- Written once already and failed -/
  again : Bool := false
  /-- Device time at which its write started -/
  started : Nat := 0
  deriving DecidableEq, Repr

/-- One cartridge slot. -/
structure CartSlot where
  /-- Slot state; Table 9-1 (09); reset EMPTY -/
  state : CartState := .empty
  /-- Kn_CD_N level, true when high (no card); R244 (09); reset high (DESIGN CHOICE, log entry 14, no card seated) -/
  cdHigh : Bool := true
  /-- Device time of its last change; R244, R245 (09); reset 0 -/
  cdSince : Nat := 0
  /-- Kn_PWR_EN; R244 (09); reset low -/
  power : Bool := false
  /-- Next step of Table 9-4, 1 to 16; R247 (09); reset 1 -/
  step : Nat := 1
  /-- A power cycle holds Kn_PWR_EN low; R247 (09); reset false -/
  cycling : Bool := false
  /-- A step failed once in this insertion; R247 (09); reset false -/
  failedOnce : Bool := false
  /-- Voltage switch omitted for the rest of the insertion; R248 (09); reset false -/
  noSwitch : Bool := false
  /-- S18A seen and CCS at step 4; R247 (09); reset false -/
  s18a : Bool := false
  /-- cart.max_mode taken at step 5; R550 (09); reset 4 -/
  maxMode : Nat := 4
  /-- Bus mode in use; Table 9-2 (09); reset 0 -/
  mode : Nat := 0
  /-- 4-bit bus; Table 9-10 (09); reset false -/
  wide : Bool := false
  /-- 1.8 V signalling; Table 9-10 (09); reset false -/
  v18 : Bool := false
  /-- Locked at insertion; Table 9-10 (09); reset false -/
  wasLocked : Bool := false
  /-- Card status bit 25 at step 8; reset false -/
  lockedNow : Bool := false
  /-- Step 8 has run in this insertion, so that `wasLocked` stands; Table 9-10 (09); reset false -/
  lockSeen : Bool := false
  /-- An unlock attempt may be made; R251 (09); reset true -/
  mayUnlock : Bool := true
  /-- SCR shows CMD23; R260 (09); reset false -/
  cmd23 : Bool := false
  /-- Capacity in 512-byte blocks; 32 bits; Table 9-10 (09); reset 0 -/
  capacity : Nat := 0
  /-- Label: TENANT, CARTRIDGE_ID, DATA_LBA, DATA_BLOCKS, JRN_LBA, JRN_BLOCKS; Table 9-6 (09); reset 0 -/
  tenant : Nat := 0
  cartId : Nat := 0
  dataLba : Nat := 0
  dataBlocks : Nat := 0
  jrnLba : Nat := 0
  jrnBlocks : Nat := 0
  /-- Label block as read at step 12, for R250; 512 bytes; reset none -/
  label : List Byte := []
  /-- Highest block serial; 64 bits; R257 (09); reset 0 -/
  highest : Nat := 0
  /-- Last RSEQ and SEAL on the card; R257 (09); reset none -/
  lastRseq : Nat := 0
  lastSeal : List Byte := List.replicate 16 0
  /-- COLLECTED; 64 bits; R256 (09); reset 0 -/
  collected : Nat := 0
  /-- HINT_BSERIAL of the newest header; 64 bits; R256 (09); reset 0 -/
  hint : Nat := 0
  /-- HSERIAL of the newest header; 64 bits; Table 9-8 (09); reset 0 -/
  hserial : Nat := 0
  /-- The newest header is copy B; R256 (09); reset true, so that copy A is written first (DESIGN CHOICE, log entry 14) -/
  newestB : Bool := true
  /-- A header write is due before the next block; R256 (09); reset false -/
  headerDue : Bool := false
  /-- Journal full; R256 (09); reset false -/
  full : Bool := false
  /-- Block being written; R254 (09); reset none -/
  writing : Option CartBlock := none
  /-- Block whose last try failed and whose rewrite is due; R254 (09); reset none -/
  rewrite : Option CartBlock := none
  /-- Records waiting for the writer, by number, in RSEQ order; R254 (09); reset none -/
  queue : List Nat := []
  /-- Device time at which a forced erase gives up; R252 (09); reset 0 -/
  eraseBy : Nat := 0
  /-- Device time at which a power cycle's 50 ms end; R247 (09); reset 0 -/
  cycleEnds : Nat := 0
  /-- Ejecting once the block in progress completes; R263 (09); reset false -/
  ejecting : Bool := false
  /-- Powered off by zeroisation until the part starts again; 09 Absence of partners; reset false -/
  sealedOff : Bool := false
  /-- Set-password attempts that failed; Table 9-4 step 14 (09); reset 0 -/
  pwdFails : Nat := 0
  deriving DecidableEq, Repr

end Sys2Proof.Machine
end

