-- ==== Sys2Proof/Machine/StFare.lean ====
section
/-! DEFINITION. State of fare sessions, denylist shadows and the journal (08_fare_sessions.md). -/

namespace Sys2Proof.Machine

/-- What an APDU of a session is for (R218, R220, R222): the caste image knows, and names it when it
queues the APDU. -/
inductive ExKind where
  /-- SELECT by AID -/
  | select
  /-- A read exchange; `last` when the profile's reads end with it -/
  | read (last : Bool)
  /-- A write exchange that is not the commit exchange -/
  | write
  /-- The commit exchange -/
  | commit
  deriving DecidableEq, Repr

/-- Outcomes (08 Model), with their journal codes. -/
inductive Outcome8 where
  | accept | deny | refer | abort
  deriving DecidableEq, Repr

/-- Where a tap stands. -/
inductive Phase where
  /-- In the segment's admission queue (R24) -/
  | queued
  /-- A barcode transfer under way (R167) -/
  | transfer
  /-- Waiting for a cell (R25) -/
  | placing
  /-- Running on a Validator cell -/
  | running
  /-- Barcode ticket under verification (R225) -/
  | verifying
  /-- A Bloom hit waits for the exact search (R228) -/
  | searching
  /-- The tariff allows it; write exchanges run (01 The tap in outline) -/
  | writing
  /-- Outcome fixed; the record waits for the Ledger -/
  | sealing
  /-- Sealed, an Accept waiting for its first acceptance (R29) -/
  | sealed
  /-- Decision frame queued or sent; destinations still open -/
  | closing
  deriving DecidableEq, Repr

/-- Answer of one journal destination (Table 1-7). -/
inductive Dest where
  /-- Not offered -/
  | notOffered
  | waiting | accepted | refused
  deriving DecidableEq, Repr

/-- One tap's processing, held under its lane (R15, R216). -/
structure Session where
  /-- Tap stamp seconds and nanoseconds; 48 and 32 bits; R21 (01) -/
  tapSec : Nat := 0
  tapNs : Nat := 0
  /-- TIME_STATE at the tap; Table 8-8 (08) -/
  tapState : Nat := 0
  /-- Served time of the tap in the clock's own units -/
  phase : Phase := .queued
  /-- KIND of the TAP; Tables 6-6, 6-7 (06) -/
  kind : Nat := 0
  /-- UID of a card, 4 to 10 bytes -/
  uid : List Byte := []
  /-- Barcode ticket bytes received and TOTAL_LEN -/
  ticket : List Byte := []
  totalLen : Nat := 0
  /-- Device time at which the budget expires; R22, R26 (01) -/
  budget : Nat := 0
  /-- Validator cell and session slot; R195, R197 (07) -/
  cell : Option Nat := none
  slot : Option Nat := none
  /-- Configuration version in force at placement; R80 (03) -/
  cfg : Nat := 0
  /-- Bound tenant, 0 if unbound; R218 (08) -/
  tenant : Nat := 0
  /-- PROFILE of the bound application; Table 8-2 (08) -/
  profile : Nat := 0
  /-- Next AID to try, in the order of R218 -/
  aid : Nat := 0
  /-- XSEQ of the last exchange; R220 (08) -/
  xseq : Nat := 0
  /-- APDU queued at the segment controller and what it is for -/
  queued : Option (ExKind × List Byte) := none
  /-- Exchange awaiting its APDU_R: XSEQ, kind, device time of the ACK once it came -/
  awaiting : Option (Nat × ExKind × Option Nat) := none
  /-- When the session was last polled, device ns; R164 (06) -/
  polled : Nat := 0
  /-- Responses of the read exchanges, oldest first -/
  reads : List (List Byte) := []
  /-- Intent record: not begun, PREPARED or COMMITTED; R222 (08) -/
  prepared : Bool := false
  committed : Bool := false
  /-- Marked to abort at the next APDU boundary, with its reason; R26 (01), R36, R116 (04) -/
  abortMark : Option Nat := none
  /-- FLAGS: TRANSFER, DENY_HIT, EC_OK, PQ_OK, UNCERTAIN, FRAME; Table 8-8 (08) -/
  transfer : Bool := false
  denyHit : Bool := false
  ecOk : Bool := false
  pqOk : Bool := false
  uncertain : Bool := false
  frame : Bool := false
  /-- Table fields of the record -/
  stationId : Nat := 0
  tableSerial : Nat := 0
  product : Nat := 0
  fare : Nat := 0
  valueAfter : Int := 0
  ident : List Byte := []
  /-- Outcome, once fixed, its reason and prompt; R216, R217 (08) -/
  outcome : Option Outcome8 := none
  reason : Nat := 0
  prompt : Nat := 0
  /-- Decision stamp; R21 (01) -/
  decSec : Nat := 0
  decNs : Nat := 0
  /-- LANE capability with which the session sends APDUs; R154 (06) -/
  laneCap : Cap := {}
  /-- The decision frame was sent, or none follows; R216 (08) -/
  decided : Bool := false
  /-- The outcome was counted on the lane; R419 (16) -/
  counted : Bool := false
  /-- Seal-and-first-acceptance budget's end, device ns; R30 (01) -/
  sealBy : Option Nat := none
  /-- The record's place in the journal list, once sealed -/
  record : Option Nat := none
  deriving DecidableEq, Repr

/-- A sealed journal record offered to its destinations (R235). -/
structure JRec where
  /-- 128 bytes; Table 8-8 (08) -/
  bytes : List Byte
  tenant : Nat
  rseq : Nat
  lane : Nat
  slot : Option Nat
  /-- Host ring, cartridge and hub journal buffer -/
  ring : Dest := .notOffered
  cart : Dest := .notOffered
  hub : Dest := .notOffered
  /-- Index in the hub journal buffer when HELD there -/
  index : Option Nat := none
  /-- Slot of the cartridge offered -/
  cartSlot : Option Nat := none
  /-- Device time at which the cartridge refuses; R235 (08) -/
  cartBy : Nat := 0
  /-- Outcome and reason, for EV_FARE_UNPLACED -/
  outcome : Nat := 0
  reason : Nat := 0
  /-- Counted as unplaced already; R31 (01) -/
  unplaced : Bool := false
  deriving DecidableEq, Repr

/-- A tenant's seal chain (R234). -/
structure Chain where
  /-- RSEQ of the last record sealed; 64 bits; R234 (08); reset 0 -/
  rseq : Nat := 0
  /-- SEAL of that record; 16 bytes; R234 (08); reset 0 -/
  lastSeal : List Byte := List.replicate 16 0
  /-- The next record under a usable key restarts the chain; R234 (08); reset true -/
  restart : Bool := true
  deriving DecidableEq, Repr

/-- A denylist entry (Table 8-5). -/
structure DenyEntry where
  key : Nat
  reason : Nat
  expiry : Nat
  deriving DecidableEq, Repr

/-- A denylist: exact list in ascending KEY order and Bloom filter of 2^log2 bits (R227). -/
structure DenyList where
  entries : List DenyEntry := []
  /-- Bloom bits that are 1, rising -/
  bloom : List Nat := []
  log2 : Nat := 20
  deriving DecidableEq, Repr

/-- A tenant's shadow denylist (R229). -/
structure Shadow8 where
  list : DenyList := {}
  /-- A load has begun it and none has broken it -/
  complete : Bool := false
  deriving DecidableEq, Repr

/-- An entry of a tenant's used-ticket set (R226). -/
structure UsedTicket where
  ticket : Nat
  issuer : Nat
  validTo : Nat
  deriving DecidableEq, Repr

/-- Fare sessions and the journal. -/
structure Fare where
  /-- Taps queued, transferring, placed or closing, by lane; R216 (08); reset none -/
  sessions : Tbl Session := []
  /-- Sealed records whose destinations have not all answered, or that lie HELD, by number; R235 (08); reset none -/
  records : Tbl JRec := []
  /-- Number of the next record (the model's own); reset 0 -/
  nextRec : Nat := 0
  /-- Hub journal buffer: record number by index, absent entries FREE; R236 (08); reset every entry FREE -/
  hub : Tbl Nat := []
  /-- Append point; 13 bits; R236 (08); reset 0 -/
  append : Nat := 0
  /-- Seal chains by tenant, 0 for unbound records; R234 (08); reset each at its reset values -/
  chains : Tbl Chain := []
  /-- Shadow denylists by tenant; R229 (08); reset none -/
  shadows : Tbl Shadow8 := []
  /-- Used-ticket sets by tenant; R226 (08); reset empty -/
  used : Tbl (List UsedTicket) := []
  deriving DecidableEq, Repr

end Sys2Proof.Machine
end

