-- ==== Sys2Proof/Machine/StCfg.lean ====
section
/-! DEFINITION. The configuration, its pages, the staged changes and the manifests (03_manifests.md). -/

namespace Sys2Proof.Machine

/-- A lane binding (LANE_BIND, 06 Commands). -/
structure LaneBind where
  /-- Tenants named, VF numbers rising -/
  tenants : List Nat
  failOpen : Bool
  openTime : Nat
  deriving DecidableEq, Repr

/-- A rule of a tariff table (Table 8-7). -/
structure FareRule where
  product : Nat
  dayMask : BitVec 8
  action : Nat
  fromMin : Nat
  toMin : Nat
  fare : Nat
  transferFare : Nat
  prompt : Nat
  deriving DecidableEq, Repr

/-- A tariff table (Tables 8-6, 8-7). -/
structure FareTable where
  serial : Nat
  validFrom : Nat
  validTo : Nat
  stationId : Nat
  tzOffset : Int
  /-- AID and PROFILE, in table order -/
  apps : List (List Byte × Nat)
  issuers : List Nat
  rules : List FareRule
  transferWindow : Nat
  minValue : Int
  holidays : List Nat
  deriving DecidableEq, Repr

/-- A key bound to a role (FARE_KEY_BIND). -/
structure KeyBind where
  /-- 0 TABLE_EC, 1 TABLE_PQ, 2 TICKET_EC, 3 TICKET_PQ, 4 JOURNAL -/
  role : Nat
  issuer : Nat
  keyId : Nat
  /-- KEY object bound and its generation -/
  object : Nat
  gen : Nat
  deriving DecidableEq, Repr

/-- A cartridge slot's binding (CART_BIND). -/
structure CartBind where
  /-- VF tag -/
  tenant : Nat
  /-- Password KEY object and generation, if one is named -/
  pwd : Option (Nat × Nat)
  deriving DecidableEq, Repr

/-- A shadow clock's setting (TIME_DOMAIN_SET). -/
structure DomainCfg where
  enable : Bool
  port : Nat
  domain : Nat
  transport : Nat
  /-- 1 AES67 media profile -/
  profile : Nat
  deriving DecidableEq, Repr

/-- A master port's setting (TIME_MASTER_SET). -/
structure MasterCfg where
  enable : Bool
  domain : Nat
  transport : Nat
  profile : Nat
  oneStep : Bool
  logSync : Int
  logAnnounce : Int
  priority1 : Nat
  priority2 : Nat
  deriving DecidableEq, Repr

/-- A receive stream's setting (AUD_RX_SET). -/
structure RxCfg where
  enable : Bool
  adaptive : Bool
  /-- 0 L16, 1 L24 -/
  encoding : Nat
  channels : Nat
  packetTime : Nat
  payloadType : Nat
  /-- Link offset, 125 µs units -/
  linkOffset : Nat
  portA : Nat
  portB : Option Nat
  groupA : Word
  groupB : Word
  udpA : Nat
  udpB : Nat
  source : Word
  rtpOffset : Nat
  deriving DecidableEq, Repr

/-- A transmit stream's setting (AUD_TX_SET). -/
structure TxCfg where
  enable : Bool
  encoding : Nat
  channels : Nat
  packetTime : Nat
  payloadType : Nat
  portMask : Nat
  dscp : Nat
  ttl : Nat
  group : Word
  dstPort : Nat
  srcPort : Nat
  ssrc : Word
  rtpOffset : Nat
  deriving DecidableEq, Repr

/-- A bus's sources (AUD_BUS_SET): kind, priority, gain, index each. -/
structure BusSource where
  kind : Nat
  priority : Nat
  gain : Nat
  index : Nat
  deriving DecidableEq, Repr

/-- A TDM port's setting (AUD_TDM_SET). -/
structure TdmCfg where
  enable : Bool
  input : Bool
  wide : Bool
  fsFormat : Nat
  deriving DecidableEq, Repr

/-- A prompt clip (11 Prompts). -/
structure Clip where
  prompt : Nat
  samples : List Int
  deriving DecidableEq, Repr

/-- An Ethernet port's setting (NET_PORT_SET). -/
structure NetPortCfg where
  enable : Bool
  mode : Nat
  speed : Nat
  autoneg : Bool
  txDelay : Bool
  rxDelay : Bool
  promiscuous : Bool
  /-- Malformed frames go to the PF -/
  malformedToPf : Bool
  /-- Bytes 48 and 49 of Table 12-4 -/
  dest : Byte
  qos : Byte
  deriving DecidableEq, Repr

/-- A station interface (NET_IF_SET, R319). -/
structure NetIfCfg where
  vid : Nat
  mac : List Byte
  ipv4 : Word
  prefix_ : Nat
  /-- 16 bytes in wire order -/
  ipv6 : List Byte
  deriving DecidableEq, Repr

/-- A queue's setting (NET_QUEUE_SET). -/
structure QueueCfg where
  weight : Nat
  green : Nat
  yellow : Nat
  red : Nat
  deriving DecidableEq, Repr

/-- The kinds of configuration item (03 Model). -/
inductive ItemKind where
  | param | rights | mpuMode | mpuRegion | lane | segment | table | fareKey | denylist | castePlan
  | cartBind | cartFormat | cartErase | timeDomain | timeMaster | audRx | audTx | audBus | audTdm
  | clipSet | netPort | netIf | ingress | egress | netQueue | key | loops | debug
  deriving DecidableEq, Repr

/-- A configuration item: its kind and its number (a tag, a lane, a slot, a rule index). -/
structure Item where
  kind : ItemKind
  n : Nat
  deriving DecidableEq, Repr

/-- What a manifest entry does at the commit point (R68, R72). -/
inductive StagedOp where
  /-- Set the parameter of selector tag × 65,536 + ID -/
  | param (key : Nat) (v : Word64)
  | rights (tag : Nat) (areas : BitVec 16)
  | mpuMode (mpu : Nat) (layered : Bool)
  | mpuRegion (mpu region : Nat) (r : Region)
  | laneBind (lane : Nat) (b : LaneBind)
  | laneUnbind (lane : Nat)
  | segEnable (seg : Nat) (on : Bool)
  | fareTable (tenant : Nat) (t : FareTable)
  | keyBind (tenant : Nat) (b : KeyBind)
  /-- Additions, and keys removed, in the order of the delta: the Bool is removal -/
  | denyDelta (tenant : Nat) (es : List (DenyEntry × Bool))
  | denySwap (tenant : Nat)
  /-- Minimum and maximum of Validator, Cipher, Audio, Ledger, Sentinel -/
  | castePlan (p : List (Nat × Nat))
  | cartBind (slot : Nat) (b : Option CartBind)
  | cartFormat (slot dataBlocks jrnBlocks : Nat) (cartId : Nat)
  | cartErase (slot : Nat)
  | timeDomain (shadow : Nat) (d : DomainCfg)
  | timeMaster (port : Nat) (m : MasterCfg)
  | audRx (n : Nat) (c : RxCfg)
  | audTx (n : Nat) (c : TxCfg)
  | audBus (n : Nat) (s : List BusSource)
  | audTdm (n : Nat) (c : TdmCfg)
  | clips (tenant serial : Nat) (c : List Clip)
  | netPort (n : Nat) (c : NetPortCfg)
  | netIf (n : Nat) (c : NetIfCfg)
  /-- Rules of 64 or 48 bytes from an index -/
  | netRules (egress : Bool) (first : Nat) (rules : List (List Byte))
  | netQueue (port queue : Nat) (c : QueueCfg)
  /-- A key import: the key slot it fills and the object that stands for it -/
  | keyImport (slot object : Nat)
  | loops (mask : BitVec 4)
  | debugArm
  deriving DecidableEq, Repr

/-- One page set of committed configuration (03 Model): immutable but for live-class parameters,
which take effect when set (02 General-area commands). -/
structure Cfg where
  /-- Parameters set, by tag × 65,536 + ID; an absent one has its default; 64 bits each; 02 Commands and parameters; reset every parameter at its default -/
  params : Tbl Word64 := []
  /-- Area rights of an instance by tag, where withdrawn; R59 (02), R113 (04); reset all granted -/
  rights : Tbl (BitVec 16) := []
  /-- Layered mode of an MPU instance where a commit set it; R341, Table 13-1 (13); reset as Table 13-1 -/
  mpuMode : Tbl Bool := []
  /-- MPU regions 0 to 23 by 32 × instance + region; R341 (13); reset none VALID -/
  mpuRegions : Tbl Region := []
  /-- Lane bindings by lane; R92 (03), LANE_BIND (06); reset none bound -/
  lanes : Tbl LaneBind := []
  /-- Segments enabled; LANE_SEG_ENABLE, R178 (06); reset every segment enabled (R38, R463; DEDUCED, log entry 17) -/
  segs : List Nat := [0, 1, 2, 3, 4, 5, 6, 7]
  /-- Tariff tables by tenant; R230 (08); reset none -/
  tables : Tbl FareTable := []
  /-- Keys bound to roles by tenant, the PF's under 0; 08 Commands; reset none -/
  keys : Tbl (List KeyBind) := []
  /-- Denylists by tenant; R227 (08); reset none -/
  denies : Tbl DenyList := []
  /-- Caste plan, minimum and maximum of Validator, Cipher, Audio, Ledger, Sentinel; 10 bits each; R187 (07); reset Table 7-2 -/
  plan : List (Nat × Nat) := [(32, 256), (0, 640), (4, 32), (8, 64), (4, 32)]
  /-- Cartridge bindings by slot; R243 (09); reset none bound -/
  carts : Tbl CartBind := []
  /-- Shadow clocks A and B; R273 (10); reset DISABLED -/
  domains : Tbl DomainCfg := []
  /-- Master ports by port; R280 (10); reset disabled -/
  masters : Tbl MasterCfg := []
  /-- Receive and transmit streams; R289, R303 (11); reset none -/
  rx : Tbl RxCfg := []
  tx : Tbl TxCfg := []
  /-- Buses by 15-bit name; R305 (11); reset none -/
  buses : Tbl (List BusSource) := []
  /-- TDM ports; R304 (11); reset disabled -/
  tdm : Tbl TdmCfg := []
  /-- Clip sets by tenant, the PF's under 0; R309 (11); reset none -/
  clips : Tbl (List Clip) := []
  /-- SERIAL of each clip set; Table 11-5 (11); reset none -/
  clipSerials : Tbl Nat := []
  /-- Ethernet ports, interfaces, rules and queues; R316 to R333 (12); reset every port disabled, no interface, no rule -/
  ports : Tbl NetPortCfg := []
  ifs : Tbl NetIfCfg := []
  ingress : Tbl (List Byte) := []
  egress : Tbl (List Byte) := []
  /-- Queue settings by port × 16 + queue; 12 Commands; reset weight 1, thresholds 2,048, 1,024 and 256 -/
  queues : Tbl QueueCfg := []
  deriving DecidableEq, Repr

/-- One entry of a manifest (R72). -/
structure Entry where
  op : StagedOp
  /-- Code of the staging command -/
  code : Nat
  /-- Items touched with their versions at staging -/
  items : List (Item × Nat)
  /-- Bytes of bulk data -/
  bulk : Nat
  deriving DecidableEq, Repr

/-- Manifest states (Table 3-2); NONE is the absence of an entry. -/
inductive ManState where
  | open_ | checking | scheduled | frozen | applying | closed
  deriving DecidableEq, Repr

/-- One manifest. -/
structure Manifest where
  /-- Owning tag and SERIAL -/
  tag : Nat
  serial : Nat
  state : ManState := .open_
  entries : List Entry := []
  /-- Device time of the last staging command or MAN_COMMIT; R89 (03) -/
  touched : Nat := 0
  /-- Boundary in served seconds; R82 (03) -/
  boundary : Nat := 0
  /-- Order of scheduling, and of closing -/
  order : Nat := 0
  /-- Outcome status once CLOSED; R88 (03) -/
  outcome : Nat := 0
  /-- Commit stamp; R78 (03) -/
  sec : Nat := 0
  ns : Nat := 0
  /-- Device time of the commit point; R79 (03) -/
  at_ : Nat := 0
  /-- Quantities whose books the flush window excuses; R81 (03), R418 (16) -/
  windows : List (Nat × Nat) := []
  deriving DecidableEq, Repr

/-- The configuration and the manifests. -/
structure ManSt where
  /-- Page sets by number; R78, R80 (03); reset page set 0, every item at its default -/
  pages : Tbl Cfg := [(0, {})]
  /-- Current-version pointer; R78 (03); reset 0 -/
  cur : Nat := 0
  /-- Item versions, an absent item's being 0; 32 bits; 03 Model; reset 0 -/
  versions : List (Item × Nat) := []
  /-- Manifests by ID, TAG × 65,536 + SERIAL; Table 3-1 (03); reset none -/
  mans : Tbl Manifest := []
  /-- Last SERIAL given by tag; 16 bits; R71 (03); reset 0 -/
  serials : Tbl Nat := []
  /-- Order number of the next scheduling or closing (the model's own); reset 1 -/
  order : Nat := 1
  deriving DecidableEq, Repr

end Sys2Proof.Machine
end

