-- ==== Sys2Proof/Machine/StEvt.lean ====
section
/-! DEFINITION. State of the event fabric (18_events_errors.md). -/

namespace Sys2Proof.Machine

/-- An event raised and waiting for the fabric to write its records (R449): the raise row's state
change appends it, EVENT_RECORD_WRITE takes the oldest. -/
structure Raise where
  /-- Event code, Table 18-4 -/
  code : Nat
  /-- Source number, Table 18-1 -/
  source : Nat
  /-- Tag of the instance concerned, or 0x3FF -/
  tag : Nat
  /-- Device time of the raise -/
  at_ : Nat := 0
  /-- Recipients, with COPY (R450) -/
  rcpt : List (Nat × Bool)
  /-- Served seconds and nanoseconds of the raise -/
  sec : Nat
  ns : Nat
  /-- DATA, and the twelve extended bytes as three words when the event carries them (R447) -/
  data : Word
  ext : Option (Word × Word × Word) := none
  /-- COUNT and COALESCED of a closing record (R452) -/
  count : Nat := 1
  coalesced : Bool := false
  deriving DecidableEq, Repr

/-- An open coalescing window of one recipient (R452). -/
structure Window where
  /-- Recipient and whether its record is a COPY -/
  rcpt : Nat
  copy : Bool
  code : Nat
  source : Nat
  tag : Nat
  /-- End of the window, device ns -/
  ends : Nat
  /-- Occurrences held and the last of them -/
  held : Nat := 0
  last : Option Raise := none
  deriving DecidableEq, Repr

/-- One instance's event queue and its masks. -/
structure EvQueue where
  /-- Queue set up by INS_EQ_SETUP; R448 (18); reset false -/
  active : Bool := false
  /-- Base IOVA; 64 bits; Table 4-8 (04); reset 0 -/
  base : Nat := 0
  /-- Size log2, 6 to 16; R448 (18); reset 6 (DESIGN CHOICE, log entry 12, not readable while no queue is set up) -/
  log2 : Nat := 6
  /-- Vector; 6 bits; Table 4-8 (04); reset 0 -/
  vector : Nat := 0
  /-- Head index, QDB_EQ_HEAD; 16 bits; Table 22-5 (22); reset 0 -/
  head : Nat := 0
  /-- Tail index; 16 bits; R448 (18); reset 0 -/
  tail : Nat := 0
  /-- Entries written and not freed; 0 to the queue's size; R451 (18); reset 0 -/
  used : Nat := 0
  /-- PHASE written on this pass; R448 (18); reset 1 -/
  phase : Bool := true
  /-- Records lost since the previous EV_LOST; 32 bits saturating; R451 (18); reset 0 -/
  lostPending : Nat := 0
  /-- EV_LOST is due before the next record; R451 (18); reset false -/
  lostDue : Bool := false
  /-- Records lost this epoch and in the previous one; 32 bits; Table 18-5 (18); reset 0 -/
  lost : Nat := 0
  lostPrev : Nat := 0
  /-- Masked records this epoch; 32 bits; R454, Table 18-5 (18); reset 0 -/
  masked : Nat := 0
  /-- Codes masked for the instance's own tag; R454 (18); reset none -/
  mask : List Nat := []
  /-- Codes masked for the COPY records of the PF; R454 (18); reset none -/
  copyMask : List Nat := []
  /-- End of the current holdoff and whether records wait for it, by vector; R453 (18); reset none -/
  holdoff : Tbl (Nat × Bool) := []
  deriving DecidableEq, Repr

/-- The event fabric. -/
structure Evt where
  /-- Queue and masks by instance tag (a slice's entry holds its masks and its notify vector's holdoff); R448 to R454 (18); reset each at its reset values -/
  queues : Tbl EvQueue := []
  /-- Events raised and not yet written, oldest first; R449 (18); reset none -/
  raised : List Raise := []
  /-- Events of the steward's own source held until R67's step 5; 18 Start-up and resets; reset none -/
  heldBack : List Raise := []
  /-- Open coalescing windows by key; R452 (18); reset none -/
  windows : Tbl Window := []
  /-- Key given to the next window (the model's own numbering); reset 0 -/
  nextKey : Nat := 0
  /-- EVT_SRC_MASKn: masked sources; 1,217 bits; R455 (18), Table 22-15 (22); reset none -/
  srcMask : List Nat := []
  /-- EVT_LOST_TOTAL; 32 bits saturating; Table 22-15 (22); reset 0 -/
  lostTotal : Nat := 0
  /-- EV_SEC_ZEROISED pends for these instances; 18 Start-up and resets; reset none -/
  zeroisedFor : List Nat := []
  /-- Queues that zeroisation disabled and that are not set up again: R451 (18), Table 15-7 (15); reset none -/
  disabledByZ : List Nat := []
  deriving DecidableEq, Repr

end Sys2Proof.Machine
end

