-- ==== Sys2Proof/Machine/StIns.lean ====
section
/-! DEFINITION. State of the instances: queue pairs, translation, slices, PCI Express (04_instances.md). -/

namespace Sys2Proof.Machine

/-- State of a queue pair (R98). -/
inductive QpState where
  | disabled | active | error
  deriving DecidableEq, Repr

/-- A queue operation fetched and checked, waiting to run (R101). -/
structure SqOp where
  opcode : Nat
  cid : Nat
  noCqe : Bool
  /-- 128-bit sealed handle, or 0 -/
  handle : BitVec 128
  dataIova : Nat
  dataLen : Nat
  resLen : Nat
  resIova : Nat
  /-- PARAMS words 0 to 3 -/
  params : List Word
  /-- SQ head index after this entry -/
  sqHead : Nat
  deriving DecidableEq, Repr

/-- One queue pair. -/
structure Qp where
  /-- DISABLED, ACTIVE or ERROR; R98 (04); reset DISABLED -/
  state : QpState := .disabled
  /-- SQ base IOVA; 64 bits; Table 4-8 (04); reset 0 -/
  sqBase : Nat := 0
  /-- CQ base IOVA; 64 bits; Table 4-8 (04); reset 0 -/
  cqBase : Nat := 0
  /-- SQ size log2; R99 (04); reset 4 (DESIGN CHOICE, log entry 12, not readable while DISABLED) -/
  sqLog2 : Nat := 4
  /-- CQ size log2; R99 (04); reset 4 (DESIGN CHOICE, log entry 12) -/
  cqLog2 : Nat := 4
  /-- CQ vector; 6 bits; R103 (04); reset 0 -/
  vector : Nat := 0
  /-- Coalescing count, 1 to 255; R104 (04); reset 1 (DESIGN CHOICE, log entry 12) -/
  coalN : Nat := 1
  /-- Coalescing time in ns; R104 (04); reset 0 -/
  coalT : Nat := 0
  /-- SQ head and tail indexes; 16 bits; R97, R534 (04, 22); reset 0 -/
  sqHead : Nat := 0
  sqTail : Nat := 0
  /-- CQ head and tail indexes; 16 bits; R97, R534 (04, 22); reset 0 -/
  cqHead : Nat := 0
  cqTail : Nat := 0
  /-- CQ entries written and not freed; 0 to the CQ's size; R97, R102 (04); reset 0 -/
  cqUsed : Nat := 0
  /-- Phase bit of the CQ's pass; R100 (04); reset 1 -/
  cqPhase : Bool := true
  /-- CQ entries reserved for fetched entries; R102 (04); reset 0 -/
  reserved : Nat := 0
  /-- Completions dropped; 32 bits; Table 4-8 (04); reset 0 -/
  dropped : Nat := 0
  /-- Entries not yet signalled and the time of the first; R104 (04); reset none -/
  unsignalled : Nat := 0
  firstUnsig : Nat := 0
  /-- Operations fetched and waiting to run, oldest first; R101, R110 (04); reset none -/
  ops : List SqOp := []
  deriving DecidableEq, Repr

/-- A translation fault record (R108). -/
structure XlateFault where
  iova : Nat
  cause : Nat
  write : Bool
  source : Nat
  sec : Nat
  ns : Nat
  deriving DecidableEq, Repr

/-- An entry of the TLB (R106). -/
structure TlbEntry where
  tag : Nat
  page : Nat
  /-- Bus page number -/
  bus : Nat
  r : Bool
  w : Bool
  /-- Last use, in the order of uses -/
  used : Nat
  deriving DecidableEq, Repr

/-- A host batch job taken from a queue or running (R110, R547); chapter 7's Drover places it. -/
inductive InstPhase where
  | off
  | on
  /-- In its disable sequence, steps still to come (Table 4-12) -/
  | disabling
  deriving DecidableEq, Repr

/-- One instance. -/
structure Inst where
  /-- Enabled, disabled, or in its disable sequence; R116, R118 (04); reset disabled -/
  phase : InstPhase := .off
  /-- Queue pairs by number; R98 (04); reset all DISABLED -/
  qps : Tbl Qp := []
  /-- QDB_ERR.BAD_TAIL [0], BAD_HEAD [1], QP_ERROR [2]; Table 4-2 (04); reset 0 -/
  badTail : Bool := false
  badHead : Bool := false
  qpError : Bool := false
  /-- Root table bus address, when set; 64 bits; R105, Table 4-8 (04); reset none -/
  root : Option Nat := none
  /-- Fault log, oldest first, at most 8; R108 (04); reset none -/
  faults : List XlateFault := []
  /-- Records lost from the fault log; 8 bits saturating; Table 4-8 (04); reset 0 -/
  faultsLost : Nat := 0
  /-- PASID of a slice; 20 bits; R95 (04); reset 0 -/
  pasid : Nat := 0
  /-- Notify vector of a slice; 6 bits; R103 (04); reset 0 -/
  notify : Nat := 0
  /-- TIM snapshot of the instance's queue page, the whole served time; 96 bits; R285, R535 (10, 22); reset 0 -/
  snapshot : Nat := 0
  /-- The disable point's time, device ns; Table 4-12 (04); reset 0 -/
  disabledAt : Nat := 0
  deriving DecidableEq, Repr

/-- An MSI-X table entry (Table 22-6). -/
structure MsixEntry where
  /-- MSX_ADDR_LOv [31:2]; Table 22-6 (22); reset 0 -/
  addrLo : Word := 0
  /-- MSX_ADDR_HIv; 32 bits; Table 22-6 (22); reset 0 -/
  addrHi : Word := 0
  /-- MSX_DATAv; 32 bits; Table 22-6 (22); reset 0 -/
  data : Word := 0
  /-- MSX_CTLv.MASK [0]; Table 22-6 (22); reset 1 -/
  mask : Bool := true
  /-- MSX_PBA bit; Table 22-7 (22); reset 0 -/
  pend : Bool := false
  deriving DecidableEq, Repr

/-- One PCIe function: the PF is 0, VF n is n (R94). -/
structure Func where
  /-- MSI-X entries by vector; Tables 22-6, 22-7 (22); reset each at its reset values -/
  msix : Tbl MsixEntry := []
  /-- MSI-X Function Mask; 1 bit; Table 22-7 (22); reset 0 (PRESUMED, log entry 13, PCI Express) -/
  fnMask : Bool := false
  /-- MSI-X Enable; 1 bit; R104 (04); reset 0 (PRESUMED, log entry 13, PCI Express) -/
  msixEn : Bool := false
  /-- Bus Master Enable; 1 bit; R120 (04); reset 0 (PRESUMED, log entry 13, PCI Express) -/
  bme : Bool := false
  deriving DecidableEq, Repr

/-- The instances and the PCIe side of the hub. -/
structure Ins where
  /-- Instances by tag; R16, R93 (00, 04); reset each at its reset values -/
  insts : Tbl Inst := []
  /-- PCIe functions by number; R94, R527 (04, 22); reset each at its reset values -/
  fns : Tbl Func := []
  /-- TLB entries held, at most 2,048; R106 (04); reset none -/
  tlb : List TlbEntry := []
  /-- Use counter of the TLB's replacement order (the model's own); reset 0 -/
  tlbClock : Nat := 0
  /-- Invalidations replied to, as device time, tag, first page and page count (0 for all), which discard the walks begun
  before them; R121 (04); reset none -/
  invals : List (Nat × Nat × Nat × Nat) := []
  /-- VF Enable of the SR-IOV capability; 1 bit; R94, R116 (04); reset 0 (PRESUMED, log entry 13, PCI Express) -/
  vfEnable : Bool := false
  /-- NumVFs of the SR-IOV capability; 16 bits; R94 (04); reset 0 (PRESUMED, log entry 13, PCI Express) -/
  numVfs : Nat := 0
  /-- PASID Enable of the PF's PASID capability; 1 bit; Table 4-9 (04); reset 0 (PRESUMED, log entry 13, PCI Express) -/
  pasidEn : Bool := false
  /-- PCIe link up (L0); R475 (19); reset false -/
  linkUp : Bool := false
  /-- PERST_N level; R476 (19); reset asserted (low, false) -/
  perstN : Bool := false
  /-- Device time of PERST_N's last rise; R471, R475 (19); reset 0 -/
  perstAt : Nat := 0
  /-- GLB_SCRATCH; 32 bits; Table 22-8 (22); reset 0 -/
  scratch : Word := 0
  deriving DecidableEq, Repr

end Sys2Proof.Machine
end

