-- ==== Sys2Proof/Machine/StIsl.lean ====
section
/-! DEFINITION. State of the clock islands, die links and hardware loops (14_islands.md). -/

namespace Sys2Proof.Machine

/-- STATE of ISL_TELEM1 (Table 14-8). -/
inductive IslState where
  | run | reset | heldHot | absent
  deriving DecidableEq, Repr

/-- One clock island. -/
structure Island where
  /-- STATE; Table 14-8 (14); reset RESET until its loop starts -/
  state : IslState := .reset
  /-- Margin code M; 8 bits; R375 (14); reset 0 -/
  margin : Nat := 0
  /-- VCODE, voltage 0.55 V + 5 mV × VCODE; 0 to 70; Table 14-7 (14); reset 50, 0.80 V -/
  vcode : Nat := 50
  /-- FCODE, 25 MHz × FCODE; Table 14-7 (14); reset 16, a cluster's floor -/
  fcode : Nat := 16
  /-- Junction temperature in °C; Table 14-7 (14); reset −64, coded 0 in TJ and HOT_TJ -/
  tj : Int := -64
  /-- Timing errors since cold reset; R378 (14); reset 0 -/
  errorsTotal : Nat := 0
  /-- Timing errors this epoch for R378's alarm; reset 0 -/
  errors : Nat := 0
  /-- EV_ISL_ERROR_RATE raised this epoch; R378 (14); reset false -/
  rateRaised : Bool := false
  /-- Replay traps since cold reset; 16 bits; Table 14-10 (14); reset 0 -/
  replayTraps : Nat := 0
  /-- A timing error was flagged in the period under way; R376 (14); reset false -/
  flagged : Bool := false
  /-- Extra frequency steps down at the next boundary; R378 (14); reset 0 -/
  extraDown : Nat := 0
  /-- Periods of row 1's hold left; R376 (14); reset 0 -/
  hold : Nat := 0
  /-- AVFS freeze: device time of its end; R380 (14); reset none -/
  frozen : Option Nat := none
  /-- EV_ISL_LOOP_LIMIT raised and the state not left; R376 (14); reset false -/
  limitRaised : Bool := false
  /-- Thermal steps in force: warned, capped, at the floor, ineligible, held; R381 (14); reset false -/
  warned : Bool := false
  capped : Bool := false
  atFloor : Bool := false
  ineligible : Bool := false
  /-- Isolated; R366 (14); reset false -/
  isolated : Bool := false
  /-- Device time at which it entered reset; R366 (14); reset 0 -/
  resetAt : Nat := 0
  /-- Transfers held by its crossings: a free value at each isolation (log entry 52); R366 (14); reset 0 -/
  heldTransfers : Nat := 0
  /-- Device times of its LDO faults, newest first; 14 Failures; reset none -/
  ldoFaults : List Nat := []
  deriving DecidableEq, Repr

/-- State of a die link (Table 14-10). -/
inductive LinkState where
  | down | training | up | failed
  deriving DecidableEq, Repr

/-- Credits of one channel of one direction (R371). -/
structure Chan where
  /-- Free credits in the sender pool; R371 (14); reset the buffer size of Table 14-2 -/
  free : Nat := 0
  /-- Credits held by clusters, by cluster; R371 (14); reset none -/
  held : Tbl Nat := []
  /-- Flits in flight; R371 (14); reset 0 -/
  inFlight : Nat := 0
  /-- Occupied receive entries; R371 (14); reset 0 -/
  occupied : Nat := 0
  /-- Credits returning; R371 (14); reset 0 -/
  returning : Nat := 0
  /-- Credits restored by the last audit; Table 14-10 (14); reset 0 -/
  restored : Nat := 0
  deriving DecidableEq, Repr

/-- One direction of a die link. -/
structure LinkDir where
  /-- Channels REQ, RSP, DATA, EVT; Table 14-2 (14) -/
  chans : Tbl Chan := []
  /-- Flits since the key in use; 64 bits; R369 (14); reset 0 -/
  flits : Nat := 0
  /-- Number of the key in use, drawn anew at cold reset and at each change; R369 (14); reset 0 -/
  key : Nat := 0
  /-- Consecutive integrity failures; R369 (14); reset 0 -/
  failures : Nat := 0
  /-- Lanes 0 to 17 replaced or failed; R368, R434 (14, 17); reset none -/
  badLanes : List Nat := []
  deriving DecidableEq, Repr

/-- One die link. -/
structure DieLink where
  /-- State; Table 14-10 (14); reset DOWN -/
  state : LinkState := .down
  /-- Direction to the hub and from the hub -/
  toHub : LinkDir := {}
  fromHub : LinkDir := {}
  /-- Runs on 8 lanes at half rate; R368 (14); reset false -/
  half : Bool := false
  /-- Retrains since cold reset; Table 14-10 (14); reset 0 -/
  retrains : Nat := 0
  /-- Audits this epoch; Table 14-10 (14); reset 0 -/
  audits : Nat := 0
  /-- A credit audit of the swarm-side sender runs: markers are out; R373 (14); reset none -/
  auditing : Bool := false
  /-- A second audit runs at once after it; R374 (14); reset false -/
  auditAgain : Bool := false
  /-- Receive equaliser CTLE code and DFE tap 1; Table 14-4 (14); reset 0 (DESIGN CHOICE, log entry 15) -/
  ctle : Nat := 0
  dfe : Int := 0
  /-- Equaliser freeze: device time of its end; R380 (14); reset none -/
  frozen : Option Nat := none
  /-- Lanes covered by the running lane test, and the errors seen; R434 (17); reset 0 -/
  testLanes : Nat := 0
  testErrors : Nat := 0
  deriving DecidableEq, Repr

/-- Islands, die links and loops. -/
structure Isl where
  /-- Islands 0 to 107; R363 (14); reset each at its reset values -/
  islands : Tbl Island := []
  /-- Die links 0 to 3; 14 Die links; reset each at its reset values -/
  links : Tbl DieLink := []
  /-- ISL_SEL.ISLAND; 7 bits; Table 14-6 (14); reset 0 -/
  sel : Nat := 0
  /-- ISL_TELEM0; 32 bits; Table 14-7 (14); reset 0 -/
  telem0 : Word := 0
  /-- ISL_TELEM1; 32 bits; Table 14-8 (14); reset 0 -/
  telem1 : Word := 0
  /-- DQS drift of each byte lane in steps; R379 (14); reset 0 -/
  drift : List Int := [0, 0, 0, 0]
  /-- LPDDR4X retrains counted; R379 (14); reset 0 -/
  ddrRetrains : Nat := 0
  /-- LPDDR4X loop freeze and its limit event; R380, R379 (14); reset none -/
  ddrFrozen : Option Nat := none
  ddrLimit : Bool := false
  /-- SerDes equaliser freezes of E0 and E1 and their limit events; R380 (14); reset none -/
  eqFrozen : Tbl Nat := []
  eqLimit : List Nat := []
  /-- Dies whose link equaliser's limit event stands; R379 (14); reset none -/
  dieLimit : List Nat := []
  /-- Servo freezes of shadows A and B and their limit events; R380 (14); reset none -/
  servoFrozen : Tbl Nat := []
  servoLimit : List Nat := []
  deriving DecidableEq, Repr

end Sys2Proof.Machine
end

