-- ==== Sys2Proof/Machine/StLane.lean ====
section
/-! DEFINITION. State of Lane Link: segments, lane units, turns, roll call, the emergency path
(06_lane_link.md). -/

namespace Sys2Proof.Machine

/-- State of a unit address (06 Discovery by roll call). -/
inductive AddrState where
  | vacant | present | absent
  deriving DecidableEq, Repr

/-- A downstream or upstream Lane Link frame (Table 6-3), its fixed ADDR, TYPE and SEQ and its payload. -/
structure LFrame where
  addr : Nat
  type : Nat
  seq : Nat
  payload : List Byte
  deriving DecidableEq, Repr

/-- One lane unit address: segment s and address a, held under its lane number (R15). -/
structure LaneUnit where
  /-- VACANT, PRESENT or ABSENT; 2 bits; Table 6-14 (06); reset VACANT -/
  state : AddrState := .vacant
  /-- Identity; 64 bits; Table 6-14 (06); reset 0 -/
  identity : Word64 := 0
  /-- CAPS; 8 bits; Table 6-14 (06); reset 0 -/
  caps : Nat := 0
  /-- POSITION; 8 bits; Table 6-14 (06); reset 0 -/
  position : Nat := 0
  /-- Last NIL byte; 8 bits; Table 6-14 (06); reset 0 -/
  lastNil : Nat := 0
  /-- Glitch width G; 2 bits; R175 (06); reset 1, the default of lane.glitch_min -/
  g : Nat := 1
  /-- Code violations seen in this roll-call cycle; R175 (06); reset 0 -/
  violations : Nat := 0
  /-- Low 32 bits of served seconds of the last state change; Table 6-14 (06); reset 0 -/
  changed : Nat := 0
  /-- SEQ of the next downstream frame; 8 bits; R158, R172 (06); reset 0 -/
  txSeq : Nat := 0
  /-- SEQ of the last upstream frame accepted; 8 bits; R169 (06); reset none -/
  rxSeq : Option Nat := none
  /-- Downstream frame sent and not acknowledged; R153 (06); reset none -/
  outstanding : Option LFrame := none
  /-- Consecutive failed turns; R168 (06); reset 0 -/
  fails : Nat := 0
  /-- When the unit was last polled, device ns; R164, R167 (06); reset 0 -/
  polled : Nat := 0
  /-- A re-ASSIGN carrying a changed fail state is due; R173 (06); reset false -/
  reassign : Bool := false
  /-- ECHO due for the segment test, and the bytes it carries; R435 (17); reset none -/
  echo : Option (List Byte) := none
  /-- Fail state carried by the last acknowledged ASSIGN; 1 bit; R173 (06); reset 0 -/
  failState : Bool := false
  deriving DecidableEq, Repr

/-- A decision frame waiting to leave (R183). -/
structure Decision where
  lane : Nat
  /-- Frame TYPE: 0x10 OPEN, 0x11 DENY, 0x12 REFER -/
  type : Nat
  slot : Nat
  prompt : Nat
  openTime : Nat
  deriving DecidableEq, Repr

/-- The kinds of turn (06 Model, R164). -/
inductive TurnKind where
  | decision (d : Decision)
  /-- An APDU_C of the lane's session -/
  | apdu (lane : Nat)
  /-- A POLL of the lane's session -/
  | sessionPoll (lane : Nat)
  /-- A POLL for the next barcode fragment -/
  | fragment (lane : Nat)
  /-- A roll-call step with its prefix -/
  | rollcall (plen : Nat) (pfx : Word64)
  /-- An ASSIGN -/
  | assign (identity : Word64) (address : Nat)
  /-- A POLL of a PRESENT unit -/
  | poll (lane : Nat)
  /-- A probe POLL of an ABSENT unit -/
  | probe (lane : Nat)
  /-- An ECHO of the segment test -/
  | echo (lane : Nat)
  deriving DecidableEq, Repr

/-- An ASSIGN waiting for its turn or its ACK (R171, R172). -/
structure Assign where
  identity : Word64
  address : Nat
  caps : Nat
  position : Nat
  /-- SEQ of the ASSIGN, once sent -/
  seq : Nat := 0
  /-- A re-ASSIGN of R173 -/
  again : Bool := false
  failState : Bool := false
  deriving DecidableEq, Repr

/-- One segment controller. -/
structure Seg where
  /-- Left reset (R463, 19) -/
  started : Bool := false
  /-- Turns stopped by zeroisation; R34 (01), Table 15-7 (15); reset false -/
  stopped : Bool := false
  /-- LONELY; Table 6-14, R174 (06); reset false -/
  lonely : Bool := false
  /-- Cycles since the last answer; 16 bits saturating; Table 6-14 (06); reset 0 -/
  quiet : Nat := 0
  /-- An answer (HERE or probe) came in this cycle; R174 (06); reset false -/
  answered : Bool := false
  /-- A roll-call cycle has run since start; reset false -/
  cycled : Bool := false
  /-- Lanes whose card sessions are active, in order of admission; R164 (06), R24 (01); reset none -/
  active : List Nat := []
  /-- Lane of the session served last in the rotation; R164 (06); reset none -/
  lastServed : Option Nat := none
  /-- Lanes whose TAPs are queued, in arrival order, at most 12; R24 (01); reset none -/
  queue : List Nat := []
  /-- Decision frames waiting, oldest first; R164, R183 (06); reset none -/
  decisions : List Decision := []
  /-- Turn under way; R164 (06); reset none -/
  turn : Option TurnKind := none
  /-- Whether the turn under way is a repeat with RETRY set; R168 (06); reset false -/
  retrying : Bool := false
  /-- Failed turn of an active session, to repeat; R168 (06); reset none -/
  retrySession : Option TurnKind := none
  /-- Failed decision turn, to repeat as the next turn of its class; R168 (06); reset none -/
  retryDecision : Option TurnKind := none
  /-- Failed open turn, to repeat; R168 (06); reset none -/
  retryOpen : Option TurnKind := none
  /-- Roll-call steps due, in order; R170, R171 (06); reset none -/
  steps : List (Nat × Word64) := []
  /-- Probe POLLs due in this cycle; R168 (06); reset none -/
  probes : List Nat := []
  /-- ASSIGNs due or unacknowledged, in order; R171, R172 (06); reset none -/
  assigns : List Assign := []
  /-- SEQ of broadcasts and identity-addressed frames (address 0); 8 bits; R158 (06); reset 0 -/
  seq0 : Nat := 0
  /-- Identities whose position clash is reported; R172 (06); reset none -/
  clashes : List Word64 := []
  /-- Prefix branches not searched again in this cycle; R171 (06); reset none -/
  closed : List Word64 := []
  deriving DecidableEq, Repr

/-- Lane Link. -/
structure LaneSt where
  /-- Segment controllers 0 to 7; 06 Model; reset each at its reset values -/
  segs : Tbl Seg := []
  /-- Unit addresses by lane number; R170 (06); reset every address VACANT -/
  units : Tbl LaneUnit := []
  /-- EMG_OPEN_N reads low at the ball: GLB_EMG.INPUT; R178 (06), Table 22-11 (22); reset 0 -/
  emgInput : Bool := false
  /-- Device time of the input's last change; R178 (06); reset 0 -/
  emgSince : Nat := 0
  /-- GLB_EMG.ASSERTED, the filter of R178; Table 22-11 (22); reset 0 -/
  emg : Bool := false
  /-- GLB_EMG.RELEASING; Table 22-11 (22); reset 0 -/
  releasing : Bool := false
  /-- FREE_EXIT frames with CLEAR sent since the release; R180 (06); reset 0 -/
  clearSent : Nat := 0
  /-- Device time of the last FREE_EXIT; R179 (06); reset 0 -/
  freeExitAt : Nat := 0
  /-- The emergency path runs (R461, 19); reset false -/
  emgPath : Bool := false
  deriving DecidableEq, Repr

end Sys2Proof.Machine
end

