-- ==== Sys2Proof/Machine/StMbx.lean ====
section
/-! DEFINITION. State of the mailboxes and of the steward's command engine (02_steward_mailboxes.md). -/

namespace Sys2Proof.Machine

/-- One instance's mailbox page, Table 2-1 (R40, R42). -/
structure Page where
  /-- MBX_H2S; 32 bits RW; R42, R44 (02); reset 0 -/
  h2s : Word := 0
  /-- MBX_S2H; 32 bits RO; R42, R46 (02); reset 0 -/
  s2h : Word := 0
  /-- MBX_STAT.H2S_FULL [1]; Table 2-2, R44 (02); reset 0 -/
  h2sFull : Bool := false
  /-- MBX_STAT.H2S_COLLIDE [2]; Table 2-2, R44 (02); reset 0 -/
  h2sCollide : Bool := false
  /-- MBX_STAT.S2H_FULL [3]; Table 2-2, R46 (02); reset 0 -/
  s2hFull : Bool := false
  /-- MBX_STAT.S2H_COLLIDE [4]; Table 2-2, R46 (02); reset 0 -/
  s2hCollide : Bool := false
  /-- MBX_STAT.READY [8]; Table 2-2, R66 (02); reset 0 -/
  ready : Bool := false
  /-- MBX_CTL.S2H_IE [1]; Table 2-3 (02); reset 0 -/
  s2hIe : Bool := false
  /-- MBX_CTL.DONE_IE [0]; Table 2-3 (02); reset 0 -/
  doneIe : Bool := false
  /-- MBX_BLK0 to MBX_BLK15; 16 words RW; R42 (02); reset 0 -/
  blk : List Word := List.replicate 16 0
  /-- MBX_BLKCTL.WRITE_IGNORED [3]; Table 2-4, R48 (02); reset 0 -/
  writeIgnored : Bool := false
  /-- MBX_BLKCTL.TAKEN [2]; Table 2-4, R50 (02); reset 0 -/
  taken : Bool := false
  /-- MBX_BLKCTL.DONE [1]; Table 2-4, R50 (02); reset 0 -/
  done : Bool := false
  /-- MBX_BLKCTL.GO [0]; Table 2-4, R48 (02); reset 0 -/
  go : Bool := false
  deriving DecidableEq, Repr

/-- A command that replied ST_PENDING and whose work goes on (R51). -/
structure PendingCmd where
  /-- Posting instance's tag -/
  tag : Nat
  /-- Command code -/
  code : Nat
  /-- Sequence number of the request -/
  seq : Nat
  /-- Argument words of the request -/
  args : List Word
  /-- Device time of the request; R384 (14), R440 (17) -/
  at_ : Nat := 0
  /-- W_CANCEL ended its work (R57, R263, R440) -/
  cancelled : Bool := false
  deriving DecidableEq, Repr

/-- What the steward keeps of one instance's commands. -/
structure CmdRec where
  /-- SEQ and reply words of the last completed command; none or 8 bits and 16 words; R54 (02); reset none -/
  stored : Option (Nat × List Word) := none
  /-- Rate tokens held; 0 to 16; R109 (04); reset 16 (DESIGN CHOICE, log entry 12, the spec gives no start level) -/
  tokens : Nat := 16
  deriving DecidableEq, Repr

/-- The steward's phase: GLB_STEWARD.STATE (Table 22-10). -/
inductive StewardState where
  | booting | serving | restarting | stopped
  deriving DecidableEq, Repr

/-- What a TAKEN command whose work is not done yet waits for. -/
inductive HeldFor where
  /-- The acknowledgements of a generation broadcast (R136) -/
  | broadcast
  /-- The disable sequence of a slice (R114) -/
  | teardown (slice : Nat)
  /-- The boundary's commit points (R85): the manifest -/
  | commit (man : Nat)
  deriving DecidableEq, Repr

/-- A TAKEN command that replies when its wait ends. -/
structure Held where
  tag : Nat
  /-- Status and result words of its reply -/
  status : Nat := 0
  results : List Word
  wait : HeldFor
  deriving DecidableEq, Repr

/-- The mailboxes and the steward's command engine. -/
structure Mbx where
  /-- Mailbox pages by instance tag; R40 (02); reset every page at its reset values -/
  pages : Tbl Page := []
  /-- Per instance command record by tag; R54, R109 (02, 04); reset each at its reset value -/
  recs : Tbl CmdRec := []
  /-- GLB_STEWARD.STATE; 2 bits; Table 22-10 (22); reset booting -/
  state : StewardState := .booting
  /-- GLB_STEWARD.RESTARTS; 16 bits; Table 22-10 (22), Table 2-6 (02); reset 0 -/
  restarts : Nat := 0
  /-- Whether the take before was the PF's; R109 (04); reset false -/
  lastWasPf : Bool := false
  /-- Tenant page last taken; R109 (04); reset 287, so that the scan starts at tag 1 (DESIGN CHOICE, log entry 12) -/
  lastTenant : Nat := 287
  /-- Commands that replied ST_PENDING, by ticket; R51 (02); reset none -/
  tickets : Tbl PendingCmd := []
  /-- Ticket given next; 16 bits; R51 (02); reset 1 (DESIGN CHOICE, log entry 12, the spec gives no numbering) -/
  nextTicket : Nat := 1
  /-- TAKEN command whose reply waits; R85 (03), R114 (04), R138 (05); reset none -/
  held : Option Held := none
  deriving DecidableEq, Repr

end Sys2Proof.Machine
end

