-- ==== Sys2Proof/Machine/StNet.lean ====
section
/-! DEFINITION. State of the Ethernet ports (12_network.md). -/

namespace Sys2Proof.Machine

/-- Where a copy came from (Table 12-7 ORIGINS). -/
inductive Origin where
  | forwarded | pf | timeEngine | audio | steward
  deriving DecidableEq, Repr

/-- What waits for the transmit stamp of a copy (R318, R271, R281, Table 12-9). -/
inductive TxFor where
  | nothing
  /-- A NET_TX completion, by key -/
  | netTx (key : Nat)
  /-- A shadow's Delay_Req, with its sequence number -/
  | delayReq (shadow seq : Nat)
  /-- A two-step Sync: its Follow_Up carries the stamp -/
  | sync (seq : Nat)
  deriving DecidableEq, Repr

/-- A NET_TX operation that completes with a transmit stamp. -/
structure TxWait where
  qp : Nat
  cid : Nat
  noCqe : Bool
  sqHead : Nat
  mask : Nat
  deriving DecidableEq, Repr

/-- A copy in a port's queue (R328, R329). -/
structure Copy where
  /-- The frame without FCS -/
  bytes : List Byte
  origin : Origin
  cls : Nat
  colour : Nat
  units : Nat
  /-- Configuration version in force when its frame came (R339) -/
  cfg : Nat
  /-- What its transmit stamp is for -/
  for_ : TxFor := .nothing
  /-- One-step Sync: the port writes the origin time as it leaves (R281) -/
  oneStep : Bool := false
  deriving DecidableEq, Repr

/-- One port. -/
structure Port where
  /-- Link up; Table 12-9 (12); reset false -/
  link : Bool := false
  /-- Queues 0 to 15, oldest copy first; R329 (12); reset empty -/
  queues : Tbl (List Copy) := []
  /-- Deficits of queues 0 to 11 and the queue served next by deficit round robin; R331 (12); reset 0 -/
  deficits : Tbl Nat := []
  next : Nat := 0
  /-- MAC errors this epoch; Table 12-9 (12); reset 0 -/
  macErrors : Nat := 0
  /-- PAUSE frames consumed; R317 (12); reset 0 -/
  pauses : Nat := 0
  /-- CTLE code; 4 bits; Table 14-4 (14); reset 0 (DESIGN CHOICE, log entry 15) -/
  ctle : Nat := 0
  /-- DFE taps 1 to 5; signed, each -31 to 31; Table 14-4 (14); reset 0 (DESIGN CHOICE, log entry 15) -/
  dfe : List Int := [0, 0, 0, 0, 0]
  /-- Eye margin code; 8 bits; Table 12-9 (12); reset 0 (DESIGN CHOICE, log entry 15) -/
  eye : Nat := 0
  deriving DecidableEq, Repr

/-- A NET_RX_POST entry waiting for a frame (R335). -/
structure RxPost where
  cid : Nat
  noCqe : Bool
  resIova : Nat
  resLen : Nat
  sqHead : Nat
  qp : Nat
  deriving DecidableEq, Repr

/-- The network block. -/
structure Net where
  /-- Ports E0 to E3; R316 (12); reset each at its reset values -/
  ports : Tbl Port := []
  /-- Frames at the steward's input, oldest first, with their port; R327 (12); reset none -/
  stewardIn : List (Nat × List Byte) := []
  /-- NET_TX operations waiting for a transmit stamp, by key, and the next key (the model's own); R318 (12); reset none -/
  txWaits : Tbl TxWait := []
  nextTx : Nat := 0
  /-- NET_RX_POST entries, oldest first; R335 (12); reset none -/
  rxPosts : List RxPost := []
  /-- Frames dropped at the steward's full input; R329 (12); reset 0 -/
  inputDrops : Nat := 0
  /-- Drops by port × 64 + queue × 4 + colour; R330 (12); reset 0 -/
  queueDrops : Tbl Nat := []
  /-- Frames dropped at the steward's input while it restarted; R327 (12); reset 0 -/
  stewardDrops : Nat := 0
  deriving DecidableEq, Repr

end Sys2Proof.Machine
end

