-- ==== Sys2Proof/Machine/StOut.lean ====
section
/-! DEFINITION. What the device has sent to the outside, newest first: the model's own record of its
outputs, which no rule of the device reads. -/

namespace Sys2Proof.Machine

/-- An output of the device. -/
inductive Output where
  /-- Bytes written to an instance's I/O virtual address space by the hub's DMA -/
  | dma (tag iova : Nat) (bytes : List Byte)
  /-- An MSI-X message of a function: address and data -/
  | msix (fn vector : Nat) (addr : Nat) (data : Word)
  /-- A downstream Lane Link frame on a segment: ADDR, TYPE, SEQ, RETRY, payload -/
  | lane (seg addr type seq : Nat) (retry : Bool) (payload : List Byte)
  /-- A frame sent on an Ethernet port, without FCS -/
  | eth (port : Nat) (bytes : List Byte)
  /-- A command to a cartridge: slot, command number, argument, data -/
  | card (slot cmd : Nat) (arg : Word) (data : List Byte)
  /-- A pin driven: its name in Table 20-x by number of the model's own, and its level -/
  | pin (name : String) (level : Bool)
  /-- Samples output on a TDM port, one list a frame -/
  | tdm (port : Nat) (frames : List (List Int))
  /-- A line of Frenal's console (R507): boot stage, failure cause or event, with its number -/
  | console (kind : String) (n : Nat)
  /-- A reply on the JTAG port -/
  | jtag (bytes : List Byte)
  deriving DecidableEq, Repr

end Sys2Proof.Machine
end

