-- ==== Sys2Proof/Machine/StSea.lean ====
section
/-! DEFINITION. State of the cells and the Drover (07_cell_sea.md). -/

namespace Sys2Proof.Machine

/-- Castes, in the order of the DRV commands (07 Commands). -/
inductive Caste where
  | validator | cipher | audio | ledger | sentinel | reserve
  deriving DecidableEq, Repr

/-- Cell states of Table 7-1. -/
inductive CellState where
  | available | moving | faulted | testing | quarantined | absent
  deriving DecidableEq, Repr

/-- What a busy context of a cell runs (R185). -/
inductive Work where
  /-- The session of a lane -/
  | session (lane : Nat)
  /-- A piece of a batch job -/
  | piece (job : Nat)
  /-- Sealing of a lane's record -/
  | sealing (lane : Nat)
  /-- The audio mix of a pair, or its spare -/
  | mix
  /-- A check or test run by a Sentinel cell on another cell -/
  | check (cell : Nat)
  deriving DecidableEq, Repr

/-- A task input (07 Task inputs). -/
structure TaskInput where
  /-- COUNT; 8 bits; R199 (07); reset 0 -/
  count : Nat := 0
  /-- FIRST; 6 bits; R199 (07); reset 0 -/
  first : Nat := 0
  /-- OVF; 1 bit; R199 (07); reset 0 -/
  ovf : Bool := false
  /-- The cycle of the last takes and arrivals, as its device time plus 1, what the fields held before it, and what it
  took and brought (the model's own, for the order of R200); reset none -/
  cycle : Nat := 0
  count0 : Nat := 0
  first0 : Nat := 0
  ovf0 : Bool := false
  taken : Nat := 0
  arrived : List Nat := []
  deriving DecidableEq, Repr

/-- One cell. -/
structure Cell where
  /-- State; Table 7-1 (07); reset ABSENT until its start-up check, R215 -/
  state : CellState := .absent
  /-- Caste; R187 (07); reset Reserve -/
  caste : Caste := .reserve
  /-- Caste moved into, while MOVING; R190 (07); reset Reserve -/
  next : Caste := .reserve
  /-- MOVING towards quarantine by DRV_CELL_QUARANTINE; R212 (07); reset false -/
  toQuarantine : Bool := false
  /-- The image of the caste moved into is loading; R190 (07); reset false -/
  loading : Bool := false
  /-- A full test is scheduled by DRV_CELL_RETURN; R207 (07); reset false -/
  returnTest : Bool := false
  /-- Busy contexts, at most 4; R185 (07); reset none -/
  work : List Work := []
  /-- Holder generation; 16 bits; R201 (07); reset 0 -/
  hgen : Nat := 0
  /-- Device times of its faults, newest first; R205 (07); reset none -/
  faultTimes : List Nat := []
  /-- Low 32 bits of served seconds of the last state change; Table 7-5 (07); reset 0 -/
  changed : Nat := 0
  /-- Order of the last placement on it; R195 (07); reset 0 -/
  placed : Nat := 0
  /-- Score of the last tick; 16 bits; R193 (07); reset 0 -/
  score : Nat := 0
  /-- Score terms M, T, L, D of the last tick; 8 bits each; Table 7-3 (07); reset 0 -/
  terms : List Nat := [0, 0, 0, 0]
  /-- Task inputs 0 to 15; 07 Task inputs; reset each at 0 -/
  inputs : Tbl TaskInput := []
  /-- Capability registers c0 to c15; R127 (05); reset untagged -/
  c : Tbl CapReg := []
  /-- General registers g0 to g15 in use by the call gates; 32 bits; Table 5-8 (05); reset 0 -/
  gr : Tbl Word := []
  /-- Current level; 2 bits; Table 5-2 (05); reset 0 -/
  level : Nat := 0
  /-- Instance charged; 10 bits; R343 (13); reset 0x3FF -/
  charge : Nat := 0x3FF
  /-- Return point of the running code, as the calls name it; R142 (05); reset 0 -/
  point : Nat := 0
  /-- Call-gate frames, innermost first, at most 4; R142 (05); reset none -/
  frames : List Frame := []
  /-- Job whose hub-entered request runs, and whose return ends it; R144 (05); reset none -/
  request : Option Nat := none
  /-- Store buffer, oldest first, at most 8; R355 (13); reset empty -/
  stores : List StoreEntry := []
  /-- Bytes delivered by the last load that was not stalled; R355 (13); reset none -/
  loaded : List Byte := []
  /-- The last load or store issue stalled; R355, R356 (13); reset false -/
  stalled : Bool := false
  /-- The last request to the directory received RETRY; R353 (13); reset false -/
  retry : Bool := false
  /-- L1 lines by line number; 13 Cluster coherence; reset all Invalid -/
  l1 : Tbl L1State := []
  /-- Sealed scratch holds something to zeroise; R146, R190 (05, 07); reset false -/
  scratchUsed : Bool := false
  /-- The state it was lent to test from; R427 (17); reset AVAILABLE in its caste -/
  lentCaste : Caste := .reserve
  deriving DecidableEq, Repr

/-- State of a session slot (R197). -/
inductive SlotState where
  | free | active | draining
  deriving DecidableEq, Repr

/-- A session slot. -/
structure Slot where
  /-- FREE, ACTIVE or DRAINING; R197 (07); reset FREE -/
  state : SlotState := .free
  /-- Instance charged; R197 (07); reset none -/
  charged : Option Nat := none
  deriving DecidableEq, Repr

/-- A placement waiting for a cell (R25, R191, R210). -/
structure Waiting where
  work : Work
  caste : Caste
  since : Nat
  deriving DecidableEq, Repr

/-- State of an intent record (R202). -/
inductive IntentState where
  | clear | prepared | committed
  deriving DecidableEq, Repr

/-- A lease's intent record (R202). -/
structure Intent where
  state : IntentState := .clear
  /-- Address protected, its pre-image and its post-image -/
  addr : Nat := 0
  pre : List Byte := []
  post : List Byte := []
  deriving DecidableEq, Repr

/-- A lease: its word lies in the lease table of hub store at its address. -/
structure Lease where
  /-- HGEN; 16 bits; Table 7-4 (07) -/
  hgen : Nat
  /-- HOLDER; 10 bits; Table 7-4 (07) -/
  holder : Nat
  /-- EXPIRY; 32 bits of served microseconds; Table 7-4 (07) -/
  expiry : Nat
  /-- Session slot of a slot lease, none for a lock -/
  slot : Option Nat := none
  intent : Intent := {}
  deriving DecidableEq, Repr

/-- A batch job (07 Batch jobs). -/
structure Job where
  /-- Instance, queue pair and queue operation -/
  tag : Nat
  qp : Nat
  cid : Nat
  noCqe : Bool
  sqHead : Nat
  /-- Call gate, and what its slots named -/
  gate : Nat
  gateCap : Cap
  dataIova : Nat
  dataLen : Nat
  resIova : Nat
  resLen : Nat
  params : List Word
  /-- Objects of the windows over its buffers, which its cells hold in c0 and c1 -/
  objs : List Nat := []
  /-- Slot 2 handle's internal form, when the descriptor asks for one -/
  arg : Option Cap := none
  /-- Session slot granted; R111 (04) -/
  slot : Option Nat := none
  /-- Pieces running, at most 8 -/
  pieces : Nat := 0
  /-- Discarded by its instance's disable: stops at the next job boundary; Table 4-12 (04) -/
  discard : Bool := false
  /-- Its pair was reset: it ends without a completion -/
  orphan : Bool := false
  /-- Status that ends it, once decided by a trap or a fault -/
  ended : Option Nat := none
  since : Nat := 0
  deriving DecidableEq, Repr

/-- An Audio pair, by the number of its even cell / 2 (R208). -/
structure Pair where
  /-- The odd cell is the active one; R208 (07); reset false -/
  oddActive : Bool := false
  /-- A switch is due at the next packet boundary; R209 (07); reset false -/
  due : Bool := false
  /-- The switch was requested by test, so that no sample is lost; R209 (07), R431 (17); reset false -/
  byTest : Bool := false
  deriving DecidableEq, Repr

/-- The cells and the Drover. -/
structure Sea where
  /-- Cells by number; Table 7-1 (07); reset every cell ABSENT until its start-up check -/
  cells : Tbl Cell := []
  /-- Session slots 0 to 1,023, absent entries FREE; R197 (07); reset every slot FREE -/
  slots : Tbl Slot := []
  /-- Targets of Validator, Cipher, Audio, Ledger, Sentinel; R189 (07); reset the minimums of Table 7-2 (DESIGN CHOICE, log entry 16) -/
  targets : List Nat := [32, 0, 4, 8, 4]
  /-- Peak busy cells this epoch, by caste in that order; R189 (07); reset 0 -/
  peaks : List Nat := [0, 0, 0, 0, 0]
  /-- Measured latency by cluster island, in 10 ns units; Table 7-3, R194 (07); reset 0 -/
  latency : Tbl Nat := []
  /-- Cells and clusters marked for drain by test; R195, R211 (07); reset none -/
  drainCells : List Nat := []
  drainClusters : List Nat := []
  /-- Placements waiting; R25 (01), R191 (07); reset none -/
  waiting : List Waiting := []
  /-- Order number of the next placement (the model's own); reset 1 -/
  placeClock : Nat := 1
  /-- Lease table, by lease number; R201 (07); reset empty -/
  leases : Tbl Lease := []
  /-- Batch jobs by number; 07 Batch jobs; reset none -/
  jobs : Tbl Job := []
  /-- Number of the next batch job (the model's own); reset 0 -/
  nextJob : Nat := 0
  /-- Castes whose shortfall is reported; R192 (07); reset none -/
  shortRaised : List Caste := []
  /-- End of the suspension of a reset of H.DROV, device ns; R214 (07); reset 0 -/
  suspended : Nat := 0
  /-- Audio pairs; R208 (07); reset each at its reset values -/
  pairs : Tbl Pair := []
  /-- Clusters whose L2 is being checked before its cells return; R206 (07); reset none -/
  l2Check : List Nat := []
  /-- Dies declared permanently failed; R206 (07); reset none -/
  deadDies : List Nat := []
  deriving DecidableEq, Repr

end Sys2Proof.Machine
end

