-- ==== Sys2Proof/Machine/StSec.lean ====
section
/-! DEFINITION. State of security: Elytra, the battery domain, keys, debug (15_security.md), and of
start-up, fuses, boot flash, lifecycle and supplies (19_startup_lifecycle.md, 20_package_power.md). -/

namespace Sys2Proof.Machine

/-- A security log record (Table 15-9). -/
structure SecRec where
  seq : Nat
  cls : Nat
  source : Nat
  onBattery : Bool
  timeValid : Bool
  sec : Nat
  ns : Nat
  detail : Nat := 0
  detail2 : Nat := 0
  deriving DecidableEq, Repr

/-- A key held in the key store (R394, Table 15-3): its bytes lie hidden under the key store key. -/
structure KeyRec where
  /-- KEYTYPE; Table 15-3 (15) -/
  type : Nat
  /-- Public key bytes, or the hidden secret's -/
  bytes : List Byte
  /-- Object that stands for it -/
  object : Nat
  /-- Manifest whose commit it waits for; R397 (15) -/
  pending : Option Nat := none
  deriving DecidableEq, Repr

/-- Battery domain (R387). -/
structure Battery where
  /-- BKR, none when empty; 256 bits with a check; R387 (15); reset empty (DESIGN CHOICE, log entry 14, a part never enrolled) -/
  bkr : Option (BitVec 256) := none
  /-- Loop enable mask; 4 bits; R390 (15); reset 0 -/
  mask : BitVec 4 := 0
  /-- Security log, newest first, at most 64; R406 (15); reset empty -/
  log : List SecRec := []
  /-- SEQ of the next record; 32 bits; R406 (15); reset 1 -/
  seq : Nat := 1
  /-- Domain fed from VBAT; R391 (15); reset true until VDD_HUB is good -/
  onBattery : Bool := true
  /-- VBAT in mV as last measured; 16 bits; Table 22-14 (22); reset 0; each measurement is a free value (log entry 55) -/
  vbat : Nat := 0
  deriving DecidableEq, Repr

/-- Security. -/
structure Sec where
  /-- The battery domain; R387 (15) -/
  bat : Battery := {}
  /-- ZEROISED state; R405 (15); reset false -/
  zeroised : Bool := false
  /-- Zeroisation has run its hardware steps and waits for the steward's restart: cause, sessions and records of its log record; R403 (15), Table 15-9 (15); reset none -/
  zeroising : Option (Nat × Nat × Nat) := none
  /-- Debug open; R407 (15); reset false -/
  debugOpen : Bool := false
  /-- Device time of the commit point of a SEC_DEBUG_ARM manifest; Table 15-10 (15); reset none -/
  debugArmed : Option Nat := none
  /-- UNLOCK nonce and its device time; R407 (15); reset none -/
  nonce : Option (BitVec 128 × Nat) := none
  /-- Loops with one mismatching sample; 4 bits; Table 15-11 (15); reset 0 -/
  mismatch : List Nat := []
  /-- TMPn_OUT levels driven; R389 (15); reset low -/
  loopOut : List Nat := []
  /-- A stable DUK copy: none, 0 or 1; R392 (15); reset none -/
  duk : Option Nat := none
  /-- Keys made by the TRNG at stage 3 hold; Table 15-2 (15); reset false -/
  keysMade : Bool := false
  /-- TRNG health passed; R402 (15); reset false -/
  trngOk : Bool := false
  /-- Memory keys' number, drawn at each cold reset; R399 (15); reset 0 -/
  memKey : Nat := 0
  /-- Key store by key slot; R394 (15); reset empty -/
  keys : Tbl KeyRec := []
  /-- Number of the next key slot (the model's own); reset 0 -/
  nextKey : Nat := 0
  /-- Import failures in the last 60 s by tag, device times; R396 (15); reset none -/
  importFails : Tbl (List Nat) := []
  /-- End of an import refusal window by tag; R396 (15); reset none -/
  importUntil : Tbl Nat := []
  /-- Memory tag failures in the last second, device times; R400 (15); reset none -/
  memFails : List Nat := []
  deriving DecidableEq, Repr

/-- The three boot reads of a fuse word (R464). -/
structure FuseReads where
  normal : Word := 0
  low : Word := 0
  high : Word := 0
  deriving DecidableEq, Repr

/-- A firmware image in a bank of boot flash as R469 sees it: layout, fields, key blocks' hashes,
and whether both signatures verify under the slot chosen. -/
structure Image where
  layoutOk : Bool := false
  rollback : Nat := 0
  slots : BitVec 16 := 0
  version : Word := 0
  casteSet : Word := 0
  /-- SHA-256 of each slot's KEY_BLOCK, by slot, as 8 words -/
  hashes : Tbl (List Word) := []
  /-- Slots under whose key block both signatures verify -/
  sigOk : List Nat := []
  deriving DecidableEq, Repr

/-- A copy of the boot descriptor (R468). -/
structure Descriptor where
  dserial : Nat
  bank : Nat
  deriving DecidableEq, Repr

/-- What the last reset was (LAST_RESET, Table 19-10). -/
inductive LastReset where
  | powerOn | cold | warm
  deriving DecidableEq, Repr

/-- Start-up and lifecycle. -/
structure Lcy where
  /-- Power-good; R459 (19); reset false -/
  powerGood : Bool := false
  /-- Device time of power-good or of the cold LCY_RESET; R462 (19); reset 0 -/
  bootStart : Nat := 0
  /-- GLB_BOOT_STATUS.STAGE; 4 bits; Table 19-10 (19); reset 0 -/
  stage : Nat := 0
  /-- Stages 4, 5 and 6 ended; R462 (19); reset none -/
  ended : List Nat := []
  /-- GLB_BOOT_STATUS.FAIL; 4 bits; Table 19-6 (19); reset 0 -/
  fail : Nat := 0
  /-- SLOTS_DISABLED; 4 bits; Table 19-10 (19); reset 0 -/
  slotsDisabled : List Nat := []
  /-- DBG_DISABLED; 2 bits; Table 19-10 (19); reset 0 -/
  dbgDisabled : List Nat := []
  /-- SLOT used; 2 bits; Table 19-10 (19); reset 0 -/
  slot : Nat := 0
  /-- BANK booted; 1 bit; Table 19-10 (19); reset 0 -/
  bank : Nat := 0
  /-- FALLBACK; Table 19-10 (19); reset 0 -/
  fallback : Bool := false
  /-- MARGINAL, words; 8 bits saturating; Table 19-10 (19); reset none -/
  marginal : List Nat := []
  /-- TRIM_MISMATCH; Table 19-10 (19); reset 0 -/
  trimMismatch : Bool := false
  /-- DUK_COPY; Table 19-10 (19); reset 0 -/
  dukCopy : Nat := 0
  /-- LAST_RESET; Table 19-10 (19); reset 0, power-on -/
  lastReset : LastReset := .powerOn
  /-- Fuse words burnt, by word, as they stand in the array; R463 (19); reset all 0 -/
  fuses : Tbl Word := []
  /-- Values in use by word; FUS_USEw, R464 (19), Table 22-13 (22); reset 0 -/
  use : Tbl Word := []
  /-- Boot reads by word where one differs from the value in use; R464 (19); reset none -/
  bootReads : Tbl FuseReads := []
  /-- Latest re-reads of drifted words; R437 (17); reset none -/
  drifted : Tbl FuseReads := []
  /-- Boot flash: descriptor copies 0 and 1; R468 (19); reset none -/
  desc : Tbl Descriptor := []
  /-- Boot flash: images in banks 0 (A) and 1 (B); Table 19-5 (19); reset none -/
  banks : Tbl Image := []
  /-- Device certificate in boot flash; 3,880 bytes; Table 15-5 (15); reset empty -/
  cert : List Byte := []
  /-- Boot flash answers; Table 19-6 (19); reset false -/
  flashOk : Bool := false
  /-- Image running: its VERSION, CASTE_SET and ROLLBACK; Table 2-12 (02); reset 0 -/
  version : Word := 0
  casteSet : Word := 0
  rollback : Nat := 0
  /-- Boot ROM version; 32 bits; Table 2-12 (02); reset 0 (DESIGN CHOICE, log entry 14, the spec gives no value) -/
  romVersion : Word := 0
  /-- Configuration Request Retry Status in force; R475 (19); reset true -/
  crs : Bool := true
  /-- A warm reset is in progress; R477 (19); reset false -/
  warm : Bool := false
  /-- That warm reset was started by the fourth steward restart; R477 (19); reset false -/
  warmByRestart : Bool := false
  /-- Device times of steward restarts in the last 60 s; R477 (19); reset none -/
  restartTimes : List Nat := []
  /-- Swarm dies present, 4 on the AT768 and 2 on the AT384; Table 22-9 (22); reset 4 (DESIGN CHOICE, log entry 14: State.reset is an AT768) -/
  dies : Nat := 4
  /-- GPIO pins: direction, output level, level applied at the balls; 8 bits each; R508 (20); reset inputs, low -/
  gpioDir : BitVec 8 := 0
  gpioOut : BitVec 8 := 0
  gpioIn : BitVec 8 := 0
  deriving DecidableEq, Repr

end Sys2Proof.Machine
end

