-- ==== Sys2Proof/Machine/StStat.lean ====
section
/-! DEFINITION. State of the statistics, the epochs and the books (16_epochs_books.md). -/

namespace Sys2Proof.Machine

/-- The flags of an epoch, Table 16-1. -/
structure EpochFlags where
  cold : Bool := false
  short : Bool := false
  stepped : Bool := false
  late : Bool := false
  reset : Bool := false
  excused : Bool := false
  imbalance : Bool := false
  deriving DecidableEq, Repr

/-- One completed epoch of the ledger bank (R413, R415). -/
structure LedgerEpoch where
  /-- Epoch number (R411) -/
  number : Nat
  /-- Counters and gauges by statistic key -/
  stats : Tbl Nat := []
  /-- Group instances marked SATURATED (R414), by statistic key of index 0 -/
  saturated : List Nat := []
  /-- Table 16-1 flags -/
  flags : EpochFlags := {}
  /-- Served end, seconds and nanoseconds -/
  endSec : Nat := 0
  endNs : Nat := 0
  /-- Failed quantities, 1 to 13 (R420) -/
  failed : List Nat := []
  /-- Excused quantities, 1 to 13 (R418) -/
  excused : List Nat := []
  /-- Quantities whose end snapshot lies in an unbalanced window (R418): quantity and instance -/
  windows : List (Nat × Nat) := []
  /-- Gauges at its start, and the quantities in an unbalanced window there (R417, R418) -/
  start : Tbl Nat := []
  startWindows : List (Nat × Nat) := []
  /-- The check has not run yet (R421) -/
  pending : Bool := true
  deriving DecidableEq, Repr

/-- The statistics and the books. -/
structure Stat where
  /-- Live counters of Table 16-2 by statistic key, an absent key counting 0; 48 bits each; R413, R414, R416 (16); reset 0 -/
  live : Tbl Nat := []
  /-- Group instances whose counter reached its limit this epoch; R414 (16); reset none -/
  saturated : List Nat := []
  /-- Current epoch number; 32 bits; R411 (16); reset 1 -/
  epoch : Nat := 1
  /-- Served seconds of the epoch's start; 64 bits; Table 16-4 (16); reset 0 -/
  startSec : Nat := 0
  /-- Served nanoseconds of the epoch's start; 30 bits; Table 16-4 (16); reset 0 -/
  startNs : Nat := 0
  /-- Whether the epoch began at an on-time firing; R411 (16); reset false -/
  startOnTime : Bool := false
  /-- epoch.length_s in force at the epoch's start; R411 (16); reset 900 -/
  startLen : Nat := 900
  /-- Flags set so far; Table 16-1, R423 (16); reset COLD and SHORT -/
  flags : EpochFlags := { cold := true, short := true }
  /-- Ledger bank, newest first, at most two epochs; R415 (16); reset empty -/
  ledger : List LedgerEpoch := []
  /-- Gauges at the end of the epoch before the older one are not kept; the start gauges of the current epoch; R417 (16); reset 0 -/
  startGauges : Tbl Nat := []
  /-- Quantities excused at the start snapshot; R418 (16); reset none -/
  startWindows : List (Nat × Nat) := []
  /-- Windows of R418 that a warm reset or a buffer restart opened in this epoch; reset none -/
  openWindows : List (Nat × Nat) := []
  /-- Next boundary armed in compare unit 0, in served seconds; R410 (16); reset 900 -/
  boundary : Nat := 900
  /-- The freeze point of the armed boundary has passed; R82 (03), R549 (10); reset false -/
  frozenPast : Bool := false
  /-- A step of the served clock carried served time past the armed boundary, which fires LATE; Table 16-1 (16); reset false -/
  lateDue : Bool := false
  deriving DecidableEq, Repr

end Sys2Proof.Machine
end

