-- ==== Sys2Proof/Machine/StTest.lean ====
section
/-! DEFINITION. State of in-service test (17_in_service_test.md). -/

namespace Sys2Proof.Machine

/-- Result codes of Table 17-3. -/
inductive TestResult where
  | never | pass | fail | part | drift
  deriving DecidableEq, Repr

/-- What is kept of a test unit, by class × 1024 + number. -/
structure TestUnit where
  /-- Result of the last test; Table 17-3 (17); reset NEVER -/
  result : TestResult := .never
  /-- Low 32 bits of served seconds of the last pass and of the last attempt; Table 17-4 (17); reset 0 -/
  lastPass : Nat := 0
  lastTry : Nat := 0
  /-- Device time from which its age runs; R438 (17); reset 0, an age of 0 at cold reset -/
  ageFrom : Nat := 0
  /-- Class-specific detail of TEST_RESULT BLK4; Table 17-4 (17); reset 0 -/
  detail : Nat := 0
  /-- Times EV_TEST_OVERDUE was raised since its last test; R439 (17); reset 0 -/
  overdue : Nat := 0
  deriving DecidableEq, Repr

/-- A request pending for a unit (R440, R441). -/
structure TestReq where
  /-- Ticket of the TEST_REQUEST, none for a forced request -/
  ticket : Option Nat
  /-- Drain mode -/
  drain : Bool
  /-- Device time at which a drain gives up -/
  until_ : Nat
  /-- The drain mark is set -/
  marked : Bool
  /-- The test of this request runs -/
  running : Bool := false
  deriving DecidableEq, Repr

/-- In-service test. -/
structure TestSt where
  /-- Units by class × 1024 + number; R426, R438 (17); reset each at its reset values -/
  units : Tbl TestUnit := []
  /-- Requests pending by unit; R441 (17); reset none -/
  reqs : Tbl TestReq := []
  /-- Requests deferred this epoch; Table 17-4 (17); reset 0 -/
  deferred : Nat := 0
  /-- Deferred forced requests and when they are made again; R438 (17); reset none -/
  again : Tbl Nat := []
  /-- Cells under test and the Sentinel cell that tests each; R427 (17); reset none -/
  loans : Tbl Nat := []
  /-- Clusters under the L2 test; R429 (17); reset none -/
  l2 : List Nat := []
  /-- Next line of the hub store march; 17 bits; R432 (17); reset 0 -/
  line : Nat := 0
  /-- Lines remapped, at most 64; R433 (17); reset none -/
  remapped : List Nat := []
  /-- A line failed in the pass under way; R432 (17); reset false -/
  passFailed : Bool := false
  /-- Echo mismatches by segment; R435 (17); reset 0 -/
  echoBad : Tbl Nat := []
  /-- Segments whose next test carries the count instead of 0x55 and 0xAA; R435 (17); reset none -/
  echoCount : List Nat := []
  /-- Lanes whose ECHO of the running segment test is still open, by segment; R435 (17); reset none -/
  echoOpen : Tbl (List Nat) := []
  /-- SerDes ports in loopback; R436 (17); reset none -/
  loopback : List Nat := []
  /-- Device times of the last Audio pair switches made for test; R431 (17); reset none -/
  pairSwitch : Tbl Nat := []
  deriving DecidableEq, Repr

end Sys2Proof.Machine
end

