-- ==== Sys2Proof/Machine/StTime.lean ====
section
/-! DEFINITION. State of time: the served clock, the shadow clocks, PTP, compare units, PPS
(10_time.md).  A clock's value is a number of 2^-16 ns since the PTP timescale origin (Table 10-1);
a frequency correction is a signed number of 10^-12. -/

namespace Sys2Proof.Machine

/-- Shadow clock states of Table 10-4. -/
inductive ShadowState where
  | disabled | listening | acquiring | locked | refused
  deriving DecidableEq, Repr

/-- A PTP port identity. -/
structure PortId where
  clock : Word64 := 0
  port : Nat := 0
  deriving DecidableEq, Repr

/-- The data of an Announce (R271). -/
structure MasterData where
  source : PortId := {}
  priority1 : Nat := 0
  clockClass : Nat := 0
  accuracy : Nat := 0
  variance : Nat := 0
  priority2 : Nat := 0
  grandmaster : Word64 := 0
  stepsRemoved : Nat := 0
  utcOffset : Int := 0
  utcValid : Bool := false
  timescale : Bool := true
  timeSource : Nat := 0
  logAnnounce : Int := 0
  /-- Device time of the Announce before its last, for the qualification of IEEE 1588 -/
  prev : Option Nat := none
  /-- Device time of its last Announce -/
  heard : Nat := 0
  deriving DecidableEq, Repr

/-- A PTP message as the time engine sees it, parsed; `malformed` and `unsupported` say that it breaks
the standard's layout or needs what Table 10-3 leaves out. -/
structure PtpMsg where
  malformed : Bool := false
  unsupported : Bool := false
  domain : Nat := 0
  seq : Nat := 0
  logInterval : Int := 0
  twoStep : Bool := false
  /-- originTimestamp, preciseOriginTimestamp or receiveTimestamp, in 2^-16 ns -/
  origin : Nat := 0
  /-- correctionField, in 2^-16 ns -/
  correction : Int := 0
  /-- Requesting port of a Delay_Resp -/
  requesting : PortId := {}
  data : MasterData := {}
  deriving DecidableEq, Repr

/-- One shadow clock. -/
structure Shadow where
  /-- State; Table 10-4 (10); reset DISABLED -/
  state : ShadowState := .disabled
  /-- Clock value; Table 10-1 (10); reset 0 -/
  value : Nat := 0
  /-- Fraction below FRAC; R268 (10); reset 0 -/
  sub : Nat := 0
  /-- Frequency correction; signed, at most 500 ppm; R268 (10); reset 0 -/
  corr : Int := 0
  /-- Qualified masters heard; R271 (10); reset none -/
  masters : List MasterData := []
  /-- Master followed; R271 (10); reset none -/
  master : Option MasterData := none
  /-- Path-delay samples, newest first, at most 8, in 2^-16 ns; R272 (10); reset none -/
  delays : List Int := []
  /-- Mean path delay in 2^-16 ns; R272 (10); reset 0 -/
  meanDelay : Int := 0
  /-- Last master offset in 2^-16 ns; Table 10-12 (10); reset 0 -/
  offset : Int := 0
  /-- Servo's predicted offset in 2^-16 ns; R272 (10); reset 0 -/
  predicted : Int := 0
  /-- Offsets of the servo's history, newest first; R272 (10); reset none -/
  history : List Int := []
  /-- Consecutive outliers; R272 (10); reset 0 -/
  outliers : Nat := 0
  /-- Consecutive offsets within the lock threshold; Table 10-5 (10); reset 0 -/
  within : Nat := 0
  /-- Sync interval in force, log2 seconds; Table 10-3 (10); reset 0 -/
  logSync : Int := 0
  /-- Device time of the last accepted Sync; Table 10-5 (10); reset 0 -/
  lastSync : Nat := 0
  /-- A two-step Sync waiting for its Follow_Up: seq and receive capture; R272 (10); reset none -/
  pendingSync : Option (Nat × Nat × Int) := none
  /-- Last Sync's master-to-shadow difference, in 2^-16 ns; R272 (10); reset 0 -/
  t2t1 : Int := 0
  /-- Delay_Req of its own waiting for its Delay_Resp: seq, and its egress capture once it has left; R272 (10); reset none -/
  delayReq : Option (Nat × Option Int) := none
  /-- Device time of its last Delay_Req, none before the first; R271 (10); reset none -/
  delayAt : Option Nat := none
  /-- Device time of its last check against the jump limit; R275 (10); reset 0 -/
  checkedAt : Nat := 0
  /-- Sequence number of the next Delay_Req; 16 bits; R271 (10); reset 0 -/
  delaySeq : Nat := 0
  /-- log2 of the master's minimum Delay_Req interval; R271 (10); reset 0 -/
  logDelayReq : Int := 0
  /-- Device time since which it is LOCKED without a break; R274 (10); reset 0 -/
  lockedSince : Nat := 0
  deriving DecidableEq, Repr

/-- What the served clock does (R274). -/
inductive Following where
  /-- Runs free: before the first lock -/
  | free
  | shadow (n : Nat)
  | holdover
  deriving DecidableEq, Repr

/-- A time-compare unit (R282). -/
structure CmpUnit where
  /-- Target seconds; 32 bits; R282 (10); reset 0 -/
  sec : Nat := 0
  /-- Target nanoseconds; 30 bits; R282 (10); reset 0 -/
  ns : Nat := 0
  /-- ARMED; R282 (10); reset 0 -/
  armed : Bool := false
  /-- LATE; R282 (10); reset 0 -/
  late : Bool := false
  /-- Period in seconds; 16 bits; R282 (10); reset 0 -/
  period : Nat := 0
  /-- Fire count; 16 bits; R282 (10); reset 0 -/
  count : Nat := 0
  /-- A step or its arming put the target into the past, so that the next firing is late; R282 (10); reset false -/
  past : Bool := false
  deriving DecidableEq, Repr

/-- A master port on E2 or E3 (R280). -/
structure MasterPort where
  /-- Sequence numbers of Sync and Announce; 16 bits; R280 (10); reset 0 -/
  syncSeq : Nat := 0
  annSeq : Nat := 0
  /-- Device times of its last Sync and Announce, none before the first; R280 (10); reset none -/
  syncAt : Option Nat := none
  annAt : Option Nat := none
  /-- Announces received and dropped; R280 (10); reset 0 -/
  dropped : Nat := 0
  deriving DecidableEq, Repr

/-- Time. -/
structure Tim where
  /-- Served clock value; Table 10-1 (10); reset 0 -/
  served : Nat := 0
  /-- Its fraction below FRAC; R268 (10); reset 0 -/
  sub : Nat := 0
  /-- Its frequency correction; R268 (10); reset 0 -/
  corr : Int := 0
  /-- What it follows; R274 (10); reset running free -/
  following : Following := .free
  /-- TIM_STATE.SLEWING; Table 10-11 (10); reset 0 -/
  slewing : Bool := false
  /-- TIM_STATE.TIME_STATE; 2 bits; R279 (10); reset 0 -/
  timeState : Nat := 0
  /-- Corrections of the time it followed a shadow, newest first, as (ns, correction), 64 s in all; R278 (10); reset none -/
  followLog : List (Nat × Int) := []
  /-- Device time at which holdover began, and whether its alarm was raised; R278 (10); reset 0 -/
  holdSince : Nat := 0
  holdAlarm : Bool := false
  /-- Steps since cold reset; 32 bits; Table 10-12 (10); reset 0 -/
  steps : Nat := 0
  /-- Shadow whose TIME_JUMP_ACCEPT is followed until R274 selects otherwise; R287 (10); reset none -/
  accepted : Option Nat := none
  /-- Shadow clocks A (0) and B (1); R273 (10); reset each at its reset values -/
  shadows : Tbl Shadow := []
  /-- Compare units 0 to 15; R282 (10); reset each at its reset values -/
  cmps : Tbl CmpUnit := []
  /-- Master ports, 2 for E2 and 3 for E3; R280 (10); reset each at its reset values -/
  masters : Tbl MasterPort := []
  /-- Last accepted PPS_IN edge, and its device time; R283 (10); reset none -/
  ppsIn : Option (Nat × Nat) := none
  /-- PPS_IN edges this epoch; Table 10-12 (10); reset 0 -/
  ppsEdges : Nat := 0
  /-- currentUtcOffset and its validity as received from the grandmaster last followed; Tables 10-6, 10-12 (10); reset 0, not valid -/
  utcOffset : Int := 0
  utcValid : Bool := false
  /-- Device times at which the PPS pulses in progress end; R284 (10); reset 0 -/
  ppsFall0 : Nat := 0
  ppsFall1 : Nat := 0
  /-- PPS_OUT0 and PPS_OUT1 levels; R284 (10); reset low -/
  ppsOut0 : Bool := false
  ppsOut1 : Bool := false
  deriving DecidableEq, Repr

end Sys2Proof.Machine
end

