-- ==== Sys2Proof/Env.lean ====
section
/-! DEFINITION. What a command of the table brings from outside the block: host memory read by DMA,
frames received, card responses, reads of fuses and flash.  Each is the operand of the row whose
step receives it. -/

namespace Sys2Proof
open Sys2Proof.Machine

/-- What the host's memory, the card or the running time contributes to a command (R51, R53). -/
structure HostIo where
  /-- Cause of Table 4-6 when the indirect argument buffer does not translate -/
  indFault : Option Nat := none
  /-- Argument words read from the indirect buffer -/
  ind : List Word := []
  /-- Cause of Table 4-6 when a data or result buffer does not translate -/
  dataFault : Option Nat := none
  /-- Cause of Table 4-6 when the CQ write does not translate -/
  cqFault : Option Nat := none
  /-- Causes of Table 4-6 with which event-queue writes do not translate, by the queue's instance -/
  eqFaults : Tbl Nat := []
  /-- Bytes read from the data buffer (or an SQ entry's 64 bytes) -/
  data : List Byte := []
  /-- The command's work outlasts 10 ms (R51) -/
  slow : Bool := false
  /-- Bytes read from the cartridge, none on an I/O error -/
  card : Option (List Byte) := none
  /-- Reads that show a fuse step just burnt: normal, tight-low, tight-high (R467) -/
  burnt : BitVec 3 := 7
  /-- An erase or program of the boot flash failed (Table 19-12) -/
  flashBad : Bool := false
  deriving DecidableEq, Repr

/-- The table entries that a walk read; none where the read failed (R105, cause 6 of Table 4-6). -/
structure Walk where
  root : Option Word64
  leaf : Option Word64
  write : Bool
  /-- Source code of Table 4-7 -/
  source : Nat
  /-- Device time at which the walk began (R121) -/
  began : Nat
  deriving DecidableEq, Repr

/-- The access that trapped (Table 5-12). -/
structure TrapInfo where
  /-- Capability register, 0xFF for none -/
  reg : Nat := 0xFF
  offset : Nat := 0
  size : Nat := 0
  write : Bool := false
  /-- Call gate entered or being entered, 0xFFFF for none -/
  gate : Nat := 0xFFFF
  detail : Nat := 0
  deriving DecidableEq, Repr

/-- Why a received transmission was dropped, and the ADDR it carried where that is readable (R159 to R161). -/
inductive DropCause where
  /-- A code violation in a transmission whose sender is known -/
  | code
  | len
  | crc
  | header
  deriving DecidableEq, Repr

/-- A transmission dropped at a segment. -/
structure RawLine where
  cause : DropCause
  /-- Unit address whose reply it was, none when unknown -/
  addr : Option Nat := none
  deriving DecidableEq, Repr

/-- A Lane Link frame received (Table 6-3). -/
structure LaneFrame where
  addr : Nat
  type : Nat
  seq : Nat
  retry : Bool := false
  payload : List Byte := []
  deriving DecidableEq, Repr

/-- Work to place (R195). -/
inductive PlaceWork where
  /-- The session of a lane -/
  | session (lane : Nat)
  /-- A piece of a batch job -/
  | job (n : Nat)
  deriving DecidableEq, Repr

/-- The card's answer to one step of Table 9-4. -/
structure CardResp where
  /-- Every response was valid (R247) -/
  valid : Bool := true
  /-- The step's time limit passed -/
  timeout : Bool := false
  /-- CMD8's echo, ACMD41's OCR or CMD13's card status -/
  word : Word := 0
  /-- CSD structure, and the capacity in 512-byte blocks -/
  csd : Nat := 1
  capacity : Nat := 0
  /-- The voltage switch of R248 succeeded -/
  switchOk : Bool := true
  /-- CMD42 unlocked the card, or set the password with the card status clean (R251) -/
  lockOk : Bool := true
  /-- SCR: 4-bit support and CMD23 -/
  scrWide : Bool := true
  scrCmd23 : Bool := false
  /-- SD Status read DAT_BUS_WIDTH 0b10 with a good CRC (R249) -/
  widthOk : Bool := true
  /-- Modes of Table 9-2 that pass every point of R250 -/
  modes : List Nat := []
  /-- Block at LBA 0, the two journal header copies, and the journal blocks read forward -/
  label : List Byte := []
  headerA : List Byte := []
  headerB : List Byte := []
  blocks : List (List Byte) := []
  deriving DecidableEq, Repr

/-- A datagram at a receive leg: its IPv4 source and its UDP payload (R294, R297). -/
structure RtpPkt where
  source : Word
  bytes : List Byte
  deriving DecidableEq, Repr

/-- One piece of a hub DMA transfer (R348). -/
structure DmaReq where
  /-- Cell the transfer is made for, none for an SQ entry or a command without a cell -/
  cell : Option Nat
  /-- Instance charged -/
  tag : Nat
  /-- Level of the transfer -/
  level : Nat
  /-- Capability register of the cell that authorises it -/
  reg : Option Nat
  /-- Device address of the first byte; offset in the capability's window -/
  addr : Nat
  offset : Nat
  /-- Bytes moved in: written to the device address; empty for a piece read out of it -/
  data : List Byte
  /-- Bytes of the piece -/
  len : Nat
  write : Bool
  /-- Host buffer's IOVA and owner for a piece read out to the host -/
  iova : Nat
  /-- Translation fault cause at the host side -/
  fault : Option Nat
  deriving DecidableEq, Repr

/-- An integrity frame of a die link: whether its tag checks, and its flits by channel (R369). -/
structure FlitFrame where
  tagOk : Bool
  /-- Channel and cluster of each data flit it carries -/
  flits : List (Nat × Nat) := []
  deriving DecidableEq, Repr

/-- How power-good was lost (R459). -/
inductive PowerLoss where
  | sysReset
  /-- A rail, by number of Table 20-10, left its window -/
  | rail (n : Nat)
  deriving DecidableEq, Repr

/-- What a boot stage found when it ended (R462). -/
structure StageResult where
  /-- The stage that ends -/
  stage : Nat
  /-- Stage 2: the three reads of each fuse word -/
  fuses : Tbl FuseReads := []
  /-- Stage 3: the TRNG passed its health tests in time (R402, R470) -/
  trngOk : Bool := true
  /-- Stage 3: reads that show a ZCOUNT step just burnt (R467, R470) -/
  burnt : BitVec 3 := 7
  /-- Stage 4: what the boot flash holds -/
  flashOk : Bool := true
  desc : Tbl Descriptor := []
  banks : Tbl Image := []
  cert : List Byte := []
  romVersion : Word := 0
  /-- Stage 5: every byte lane trained, and the memory fitted in MiB -/
  ddrOk : Bool := true
  extMib : Nat := 2048
  /-- Stage 6: lanes that trained good, by die -/
  links : Tbl Nat := []
  /-- Stage 7: call gates and firmware MPU regions of the image, and the cells that failed their start-up check -/
  gates : List Gate := []
  regions : Tbl Region := []
  badCells : List Nat := []
  deriving DecidableEq, Repr

/-- A host register whose write has no row of its own (R9, 22_registers.md). -/
inductive HostReg where
  | mbxStat (tag : Nat)
  | mbxCtl (tag : Nat)
  /-- MBX_BLKCTL but for its GO bit -/
  | mbxBlkctl (tag : Nat)
  | qdbErr (tag : Nat)
  | scratch
  | msxAddrLo (fn v : Nat)
  | msxAddrHi (fn v : Nat)
  | msxData (fn v : Nat)
  | msxCtl (fn v : Nat)
  /-- MSI-X Message Control: [15] enable, [14] function mask -/
  | msixControl (fn : Nat)
  /-- PASID Enable of the PF: [0] -/
  | pasidCtl
  /-- Any other address: RO, RSV or unassigned -/
  | other (addr : Nat)
  deriving DecidableEq, Repr

end Sys2Proof
end

