-- ==== Sys2Proof/Syntax.lean ====
section
/-! DEFINITION. The commands of the block: one constructor for each row of spec/opcode_table.json, in
the table's order.  The first operand of each is `t`, the device time in nanoseconds at which the step
falls; a block command names the mailbox page it was posted on and what the host memory brings. -/

namespace Sys2Proof
open Sys2Proof.Machine

/-- The commands and events of spec/opcode_table.json. -/
inductive Instr where
  /-- MBX_H2S_WRITE (R44) -/
  | mbxH2sWrite (t tag : Nat) (word : Word)
  /-- W_PING (R47) -/
  | wPing (t tag : Nat)
  /-- W_CANCEL (R57) -/
  | wCancel (t tag : Nat)
  /-- BAD_WORD (R47) -/
  | badWord (t tag : Nat)
  /-- MBX_BLK_WRITE (R48) -/
  | mbxBlkWrite (t tag i : Nat) (v : Word)
  /-- GO (R48) -/
  | go (t tag : Nat)
  /-- RATE_TOKEN (R109) -/
  | rateToken (t tag : Nat)
  /-- PENDING_DONE (R51) -/
  | pendingDone (t ticket : Nat) (io : HostIo)
  /-- STEWARD_RESET (R66) -/
  | stewardReset (t : Nat)
  /-- STEWARD_RESTART_DONE (R67) -/
  | stewardRestartDone (t : Nat)
  /-- GEN_IDENTIFY (R64) -/
  | genIdentify (t tag : Nat) (io : HostIo)
  /-- GEN_VERSION (R64) -/
  | genVersion (t tag : Nat) (io : HostIo)
  /-- GEN_PING (R64) -/
  | genPing (t tag : Nat) (io : HostIo)
  /-- GEN_PARAM_GET (R63) -/
  | genParamGet (t tag : Nat) (io : HostIo)
  /-- GEN_PARAM_SET (R61) -/
  | genParamSet (t tag : Nat) (io : HostIo)
  /-- GEN_PARAM_INFO (R545) -/
  | genParamInfo (t tag : Nat) (io : HostIo)
  /-- GEN_PARAM_NEXT (R62) -/
  | genParamNext (t tag : Nat) (io : HostIo)
  /-- GEN_GPIO_SET (R508) -/
  | genGpioSet (t tag : Nat) (io : HostIo)
  /-- GEN_GPIO_GET (R508) -/
  | genGpioGet (t tag : Nat) (io : HostIo)
  /-- MAN_BEGIN (R69) -/
  | manBegin (t tag : Nat) (io : HostIo)
  /-- MAN_COMMIT (R75) -/
  | manCommit (t tag : Nat) (io : HostIo)
  /-- MAN_ROLLBACK (R87) -/
  | manRollback (t tag : Nat) (io : HostIo)
  /-- MAN_STATUS (R88) -/
  | manStatus (t tag : Nat) (io : HostIo)
  /-- MAN_OPEN_TIMEOUT (R89) -/
  | manOpenTimeout (t tag : Nat)
  /-- FREEZE_POINT (R83) -/
  | freezePoint (t : Nat)
  /-- DEFERRED_IMMEDIATE_COMMIT (R85) -/
  | deferredImmediateCommit (t tag : Nat)
  /-- MAN_FLUSH_END (R79) -/
  | manFlushEnd (t man : Nat)
  /-- EPOCH_BOUNDARY (R412) -/
  | epochBoundary (t : Nat)
  /-- BOOKS_CHECK (R421) -/
  | booksCheck (t : Nat)
  /-- QDB_SQ_TAIL_WRITE (R97) -/
  | qdbSqTailWrite (t tag q : Nat) (v : Word)
  /-- QDB_CQ_HEAD_WRITE (R97) -/
  | qdbCqHeadWrite (t tag q : Nat) (v : Word)
  /-- QDB_EQ_HEAD_WRITE (R451) -/
  | qdbEqHeadWrite (t tag : Nat) (v : Word)
  /-- SQ_ENTRY_FETCH (R101) -/
  | sqEntryFetch (t tag q : Nat) (io : HostIo)
  /-- CQ_COALESCE_TIMEOUT (R104) -/
  | cqCoalesceTimeout (t tag q : Nat)
  /-- MSIX_VECTOR_UNMASK (R104) -/
  | msixVectorUnmask (t fn v : Nat)
  /-- TLB_FILL (R106) -/
  | tlbFill (t tag iova : Nat) (walk : Walk)
  /-- INS_QP_SETUP (R113) -/
  | insQpSetup (t tag : Nat) (io : HostIo)
  /-- INS_QP_RESET (R98) -/
  | insQpReset (t tag : Nat) (io : HostIo)
  /-- INS_QP_STATUS (R98) -/
  | insQpStatus (t tag : Nat) (io : HostIo)
  /-- INS_EQ_SETUP (R448) -/
  | insEqSetup (t tag : Nat) (io : HostIo)
  /-- INS_XLATE_SET (R113) -/
  | insXlateSet (t tag : Nat) (io : HostIo)
  /-- INS_XLATE_INVAL (R107) -/
  | insXlateInval (t tag : Nat) (io : HostIo)
  /-- INS_FAULT_GET (R108) -/
  | insFaultGet (t tag : Nat) (io : HostIo)
  /-- INS_SLICE_CREATE (R95) -/
  | insSliceCreate (t tag : Nat) (io : HostIo)
  /-- INS_SLICE_DESTROY (R114) -/
  | insSliceDestroy (t tag : Nat) (io : HostIo)
  /-- INS_STATUS (R112) -/
  | insStatus (t tag : Nat) (io : HostIo)
  /-- INS_RIGHTS_SET (R112) -/
  | insRightsSet (t tag : Nat) (io : HostIo)
  /-- FUNCTION_LEVEL_RESET (R116) -/
  | functionLevelReset (t fn : Nat)
  /-- VF_ENABLE_CHANGE (R116) -/
  | vfEnableChange (t : Nat) (enable : Bool) (n : Nat)
  /-- PCIE_LINK_DOWN (R116) -/
  | pcieLinkDown (t : Nat)
  /-- PASID_ENABLE_CLEAR (R116) -/
  | pasidEnableClear (t : Nat)
  /-- BUS_MASTER_ENABLE_CHANGE (R120) -/
  | busMasterEnableChange (t fn : Nat) (level : Bool)
  /-- DISABLE_REVOKE (R116) -/
  | disableRevoke (t tag : Nat)
  /-- PERST_N_FALL (R476) -/
  | perstNFall (t : Nat)
  /-- PERST_N_RISE (R475) -/
  | perstNRise (t : Nat)
  /-- PF_PAGE_READY (R476) -/
  | pfPageReady (t : Nat)
  /-- MEM_MPU_MODE (R360) -/
  | memMpuMode (t tag : Nat) (io : HostIo)
  /-- MEM_MPU_REGION (R344) -/
  | memMpuRegion (t tag : Nat) (io : HostIo)
  /-- MEM_MPU_READ (R360) -/
  | memMpuRead (t tag : Nat) (io : HostIo)
  /-- MEM_MPU_FAULT_GET (R351) -/
  | memMpuFaultGet (t tag : Nat) (io : HostIo)
  /-- MEM_MAP (R342) -/
  | memMap (t tag : Nat) (io : HostIo)
  /-- CAP_INFO (R123) -/
  | capInfo (t tag : Nat) (io : HostIo)
  /-- CAP_DERIVE (R134) -/
  | capDerive (t tag : Nat) (io : HostIo)
  /-- CAP_REVOKE (R138) -/
  | capRevoke (t tag : Nat) (io : HostIo)
  /-- GENERATION_BROADCAST_ACK (R136) -/
  | generationBroadcastAck (t unit : Nat)
  /-- CAP_RELEASE (R138) -/
  | capRelease (t tag : Nat) (io : HostIo)
  /-- CAP_GRANT (R134) -/
  | capGrant (t tag : Nat) (io : HostIo)
  /-- CAP_LIST (R149) -/
  | capList (t tag : Nat) (io : HostIo)
  /-- CAP_GATE_OPEN (R149) -/
  | capGateOpen (t tag : Nat) (io : HostIo)
  /-- CAP_GATE_INFO (R141) -/
  | capGateInfo (t tag : Nat) (io : HostIo)
  /-- CAP_FAULT_GET (R148) -/
  | capFaultGet (t tag : Nat) (io : HostIo)
  /-- CAPABILITY_STORE (R127) -/
  | capabilityStore (t cell auth off src : Nat)
  /-- CAPABILITY_LOAD (R128) -/
  | capabilityLoad (t cell auth off dst : Nat)
  /-- REGISTER_DERIVE (R129) -/
  | registerDerive (t cell dst src rights off len level : Nat)
  /-- CALL_GATE_ENTRY (R142) -/
  | callGateEntry (t cell reg ret : Nat)
  /-- CALL_GATE_RETURN (R143) -/
  | callGateReturn (t cell reg : Nat)
  /-- HUB_REQUEST_RETURN (R144) -/
  | hubRequestReturn (t cell : Nat) (body : List Byte) (io : HostIo)
  /-- CELL_TRAP (R145) -/
  | cellTrap (t cell cause : Nat) (info : TrapInfo) (io : HostIo)
  /-- OBJECT_TABLE_ECC (R152) -/
  | objectTableEcc (t obj : Nat)
  /-- TURN_START (R164) -/
  | turnStart (t seg : Nat) (mismatch : Bool)
  /-- TURN_FAILED (R168) -/
  | turnFailed (t seg : Nat)
  /-- TRANSMISSION_DROPPED (R161) -/
  | transmissionDropped (t seg : Nat) (raw : RawLine)
  /-- TAP_RECEIVED (R24) -/
  | tapReceived (t seg : Nat) (f : LaneFrame)
  /-- CONT_RECEIVED (R167) -/
  | contReceived (t seg : Nat) (f : LaneFrame)
  /-- APDU_R_RECEIVED (R221) -/
  | apduRReceived (t seg : Nat) (f : LaneFrame)
  /-- ECHO_R_RECEIVED (R435) -/
  | echoRReceived (t seg : Nat) (f : LaneFrame)
  /-- ACK_RECEIVED (R169) -/
  | ackReceived (t seg addr seq : Nat)
  /-- NIL_RECEIVED (R177) -/
  | nilReceived (t seg addr bits : Nat)
  /-- HERE_RECEIVED (R172) -/
  | hereReceived (t seg slot : Nat) (f : LaneFrame)
  /-- HERE_GARBLE (R171) -/
  | hereGarble (t seg slot : Nat)
  /-- ROLLCALL_CYCLE (R170) -/
  | rollcallCycle (t seg : Nat)
  /-- BARCODE_TRANSFER_TIMEOUT (R167) -/
  | barcodeTransferTimeout (t lane : Nat)
  /-- EMG_FILTER_ASSERT (R179) -/
  | emgFilterAssert (t : Nat)
  /-- FREE_EXIT_REPEAT (R179) -/
  | freeExitRepeat (t : Nat)
  /-- EMG_FILTER_RELEASE (R180) -/
  | emgFilterRelease (t : Nat)
  /-- FREE_EXIT_CLEAR_REPEAT (R180) -/
  | freeExitClearRepeat (t : Nat)
  /-- APDU_COMMAND_QUEUE (R154) -/
  | apduCommandQueue (t lane : Nat) (kind : ExKind) (apdu : List Byte)
  /-- EXCHANGE_TIMEOUT (R220) -/
  | exchangeTimeout (t lane : Nat)
  /-- LANE_BIND (R181) -/
  | laneBind (t tag : Nat) (io : HostIo)
  /-- LANE_UNBIND (R181) -/
  | laneUnbind (t tag : Nat) (io : HostIo)
  /-- LANE_STATUS (R181) -/
  | laneStatus (t tag : Nat) (io : HostIo)
  /-- LANE_SEG_STATUS (R181) -/
  | laneSegStatus (t tag : Nat) (io : HostIo)
  /-- LANE_SEG_ENABLE (R182) -/
  | laneSegEnable (t tag : Nat) (io : HostIo)
  /-- LANE_ROLLCALL (R170) -/
  | laneRollcall (t tag : Nat) (io : HostIo)
  /-- LANE_FORGET (R181) -/
  | laneForget (t tag : Nat) (io : HostIo)
  /-- PLACEMENT (R195) -/
  | placement (t : Nat) (work : PlaceWork)
  /-- PLACEMENT_RETRY (R25) -/
  | placementRetry (t lane : Nat)
  /-- SESSION_BUDGET_EXPIRED (R26) -/
  | sessionBudgetExpired (t lane : Nat)
  /-- DENYLIST_EXACT_SEARCH (R228) -/
  | denylistExactSearch (t lane : Nat)
  /-- BARCODE_VERIFY (R225) -/
  | barcodeVerify (t lane : Nat)
  /-- JOURNAL_SEAL (R234) -/
  | journalSeal (t lane cell : Nat) (io : HostIo)
  /-- USED_TICKET_PURGE (R226) -/
  | usedTicketPurge (t tag : Nat)
  /-- SEAL_BUDGET_EXPIRED (R30) -/
  | sealBudgetExpired (t lane : Nat)
  /-- CART_ACCEPT_TIMEOUT (R235) -/
  | cartAcceptTimeout (t rec : Nat)
  /-- FARE_TABLE_LOAD (R232) -/
  | fareTableLoad (t tag : Nat) (io : HostIo)
  /-- FARE_KEY_BIND (R238) -/
  | fareKeyBind (t tag : Nat) (io : HostIo)
  /-- FARE_DENY_DELTA (R229) -/
  | fareDenyDelta (t tag : Nat) (io : HostIo)
  /-- FARE_DENY_SWAP (R229) -/
  | fareDenySwap (t tag : Nat) (io : HostIo)
  /-- FARE_DENY_STATUS (R229) -/
  | fareDenyStatus (t tag : Nat) (io : HostIo)
  /-- FARE_DENY_LOAD (R229) -/
  | fareDenyLoad (t tag q : Nat) (io : HostIo)
  /-- FARE_JOURNAL_READ (R238) -/
  | fareJournalRead (t tag : Nat) (io : HostIo)
  /-- FARE_JOURNAL_ACK (R236) -/
  | fareJournalAck (t tag : Nat) (io : HostIo)
  /-- FARE_STATUS (R238) -/
  | fareStatus (t tag : Nat) (io : HostIo)
  /-- JOB_RUN (R547) -/
  | jobRun (t tag q : Nat) (io : HostIo)
  /-- JOB_BOUNDARY (R210) -/
  | jobBoundary (t cell : Nat) (last : Bool)
  /-- SCORE_TICK (R193) -/
  | scoreTick (t : Nat)
  /-- CASTE_IMAGE_LOAD (R190) -/
  | casteImageLoad (t cell : Nat)
  /-- CASTE_MOVE_DONE (R190) -/
  | casteMoveDone (t cell : Nat)
  /-- CASTE_GROW (R191) -/
  | casteGrow (t caste : Nat)
  /-- LEASE_EXPIRED (R203) -/
  | leaseExpired (t lease : Nat)
  /-- CELL_CHECK_DONE (R205) -/
  | cellCheckDone (t cell : Nat) (pass : Bool)
  /-- CLUSTER_L2_ERROR (R206) -/
  | clusterL2Error (t island : Nat) (dir : Bool)
  /-- TASK_INPUT_EVENT (R199) -/
  | taskInputEvent (t cell input : Nat) (sources : List Nat)
  /-- TASK_INPUT_TAKE (R200) -/
  | taskInputTake (t cell input n : Nat)
  /-- TASK_OVF_CLEAR (R199) -/
  | taskOvfClear (t cell input : Nat)
  /-- HOT_SPARE_SWITCH (R209) -/
  | hotSpareSwitch (t pair : Nat)
  /-- DROVER_RESET (R214) -/
  | droverReset (t : Nat)
  /-- DRV_CASTE_PLAN (R212) -/
  | drvCastePlan (t tag : Nat) (io : HostIo)
  /-- DRV_CASTE_STATUS (R212) -/
  | drvCasteStatus (t tag : Nat) (io : HostIo)
  /-- DRV_CELL_STATUS (R212) -/
  | drvCellStatus (t tag : Nat) (io : HostIo)
  /-- DRV_CELL_QUARANTINE (R212) -/
  | drvCellQuarantine (t tag : Nat) (io : HostIo)
  /-- DRV_CELL_RETURN (R207) -/
  | drvCellReturn (t tag : Nat) (io : HostIo)
  /-- DRV_SLOT_STATUS (R197) -/
  | drvSlotStatus (t tag : Nat) (io : HostIo)
  /-- CART_INSERTED (R244) -/
  | cartInserted (t slot : Nat)
  /-- CART_REMOVED (R245) -/
  | cartRemoved (t slot : Nat)
  /-- CART_INIT_STEP (R247) -/
  | cartInitStep (t slot : Nat) (resp : CardResp)
  /-- CART_POWER_CYCLE_END (R247) -/
  | cartPowerCycleEnd (t slot : Nat)
  /-- CART_BLOCK_WRITE (R254) -/
  | cartBlockWrite (t slot : Nat)
  /-- CART_BLOCK_DONE (R254) -/
  | cartBlockDone (t slot : Nat) (good : Bool)
  /-- CART_BUSY_TIMEOUT (R254) -/
  | cartBusyTimeout (t slot : Nat)
  /-- CART_ERASE_DONE (R252) -/
  | cartEraseDone (t slot : Nat) (ok : Bool)
  /-- CART_BIND (R261) -/
  | cartBind (t tag : Nat) (io : HostIo)
  /-- CART_STATUS (R242) -/
  | cartStatus (t tag : Nat) (io : HostIo)
  /-- CART_JOURNAL_READ (R263) -/
  | cartJournalRead (t tag : Nat) (io : HostIo)
  /-- CART_JOURNAL_MARK (R263) -/
  | cartJournalMark (t tag : Nat) (io : HostIo)
  /-- CART_DATA_LIST (R263) -/
  | cartDataList (t tag : Nat) (io : HostIo)
  /-- CART_DATA_STAGE (R259) -/
  | cartDataStage (t tag : Nat) (io : HostIo)
  /-- CART_FORMAT (R262) -/
  | cartFormat (t tag : Nat) (io : HostIo)
  /-- CART_FORCE_ERASE (R252) -/
  | cartForceErase (t tag : Nat) (io : HostIo)
  /-- CART_EJECT (R263) -/
  | cartEject (t tag : Nat) (io : HostIo)
  /-- PTP_SYNC (R272) -/
  | ptpSync (t shadow : Nat) (m : PtpMsg)
  /-- PTP_FOLLOW_UP (R272) -/
  | ptpFollowUp (t shadow : Nat) (m : PtpMsg)
  /-- PTP_ANNOUNCE (R271) -/
  | ptpAnnounce (t shadow : Nat) (m : PtpMsg)
  /-- PTP_DELAY_RESP (R272) -/
  | ptpDelayResp (t shadow : Nat) (m : PtpMsg)
  /-- DELAY_REQ_SEND (R271) -/
  | delayReqSend (t shadow : Nat)
  /-- ANNOUNCE_RECEIPT_TIMEOUT (R273) -/
  | announceReceiptTimeout (t shadow : Nat)
  /-- SYNC_TIMEOUT (R273) -/
  | syncTimeout (t shadow : Nat)
  /-- REFUSED_RECHECK (R275) -/
  | refusedRecheck (t shadow : Nat)
  /-- PREFERRED_REVERT (R274) -/
  | preferredRevert (t : Nat)
  /-- SLEW_END (R276) -/
  | slewEnd (t : Nat)
  /-- HOLDOVER_ALARM (R278) -/
  | holdoverAlarm (t : Nat)
  /-- MASTER_SYNC_SEND (R281) -/
  | masterSyncSend (t port : Nat)
  /-- MASTER_ANNOUNCE_SEND (R280) -/
  | masterAnnounceSend (t port : Nat)
  /-- MASTER_DELAY_REQ (R280) -/
  | masterDelayReq (t port : Nat) (m : PtpMsg)
  /-- COMPARE_FIRE (R282) -/
  | compareFire (t unit : Nat)
  /-- PPS_OUT_RISE (R284) -/
  | ppsOutRise (t out : Nat)
  /-- PPS_OUT_FALL (R284) -/
  | ppsOutFall (t out : Nat)
  /-- PPS_IN_EDGE (R283) -/
  | ppsInEdge (t : Nat)
  /-- TIME_STATUS (R286) -/
  | timeStatus (t tag : Nat) (io : HostIo)
  /-- TIME_SHADOW_STATUS (R286) -/
  | timeShadowStatus (t tag : Nat) (io : HostIo)
  /-- TIME_DOMAIN_SET (R286) -/
  | timeDomainSet (t tag : Nat) (io : HostIo)
  /-- TIME_MASTER_SET (R280) -/
  | timeMasterSet (t tag : Nat) (io : HostIo)
  /-- TIME_JUMP_ACCEPT (R287) -/
  | timeJumpAccept (t tag : Nat) (io : HostIo)
  /-- TIME_CMP_SET (R282) -/
  | timeCmpSet (t tag : Nat) (io : HostIo)
  /-- TIME_CMP_STATUS (R282) -/
  | timeCmpStatus (t tag : Nat) (io : HostIo)
  /-- TIME_PPS_IN_GET (R283) -/
  | timePpsInGet (t tag : Nat) (io : HostIo)
  /-- TIM_SERVED_NS_READ (R285) -/
  | timServedNsRead (t tag : Nat)
  /-- RTP_PACKET (R297) -/
  | rtpPacket (t stream leg : Nat) (p : RtpPkt)
  /-- AUDIO_BLOCK (R291) -/
  | audioBlock (t : Nat) (tdmIn : List (List Int))
  /-- LEG_STALE (R300) -/
  | legStale (t stream leg : Nat)
  /-- ADAPTIVE_MEASURE (R301) -/
  | adaptiveMeasure (t stream : Nat)
  /-- PROMPT_START (R310) -/
  | promptStart (t key : Nat)
  /-- EMERGENCY_PROMPT_LOOP (R312) -/
  | emergencyPromptLoop (t : Nat)
  /-- AUD_RX_SET (R314) -/
  | audRxSet (t tag : Nat) (io : HostIo)
  /-- AUD_TX_SET (R314) -/
  | audTxSet (t tag : Nat) (io : HostIo)
  /-- AUD_BUS_SET (R306) -/
  | audBusSet (t tag : Nat) (io : HostIo)
  /-- AUD_TDM_SET (R305) -/
  | audTdmSet (t tag : Nat) (io : HostIo)
  /-- AUD_PROMPT_LOAD (R314) -/
  | audPromptLoad (t tag : Nat) (io : HostIo)
  /-- AUD_PLAY (R311) -/
  | audPlay (t tag : Nat) (io : HostIo)
  /-- AUD_STREAM_STATUS (R314) -/
  | audStreamStatus (t tag : Nat) (io : HostIo)
  /-- AUD_STATUS (R314) -/
  | audStatus (t tag : Nat) (io : HostIo)
  /-- FRAME_RECEIVED (R317) -/
  | frameReceived (t port : Nat) (frame : List Byte) (fcsOk : Bool) (io : HostIo)
  /-- PORT_TRANSMIT (R331) -/
  | portTransmit (t port : Nat) (io : HostIo)
  /-- ETH_LINK_DOWN (R336) -/
  | ethLinkDown (t port : Nat) (io : HostIo)
  /-- ETH_LINK_UP (R316) -/
  | ethLinkUp (t port : Nat)
  /-- STEWARD_NET_RX (R327) -/
  | stewardNetRx (t : Nat)
  /-- NET_PORT_SET (R338) -/
  | netPortSet (t tag : Nat) (io : HostIo)
  /-- NET_IF_SET (R319) -/
  | netIfSet (t tag : Nat) (io : HostIo)
  /-- NET_RULE_WRITE (R338) -/
  | netRuleWrite (t tag : Nat) (io : HostIo)
  /-- NET_RULE_READ (R338) -/
  | netRuleRead (t tag : Nat) (io : HostIo)
  /-- NET_RULE_HITS (R325) -/
  | netRuleHits (t tag : Nat) (io : HostIo)
  /-- NET_QUEUE_SET (R329) -/
  | netQueueSet (t tag : Nat) (io : HostIo)
  /-- NET_PORT_STATUS (R338) -/
  | netPortStatus (t tag : Nat) (io : HostIo)
  /-- NET_TX (R338) -/
  | netTx (t q : Nat) (io : HostIo)
  /-- NET_RX_POST (R335) -/
  | netRxPost (t q : Nat) (io : HostIo)
  /-- CELL_LOAD (R355) -/
  | cellLoad (t cell auth off size : Nat)
  /-- CELL_STORE (R356) -/
  | cellStore (t cell auth off : Nat) (data : List Byte)
  /-- STORE_DRAIN (R356) -/
  | storeDrain (t cell : Nat)
  /-- FENCE (R357) -/
  | fence (t cell : Nat)
  /-- ATOMIC_OPERATION (R357) -/
  | atomicOperation (t cell auth off : Nat) (expect new : BitVec 64)
  /-- READ (R353) -/
  | read (t cell line : Nat)
  /-- OWN (R353) -/
  | own (t cell line : Nat)
  /-- WRITEBACK (R353) -/
  | writeback (t cell line : Nat)
  /-- DMA_PIECE (R348) -/
  | dmaPiece (t : Nat) (job : DmaReq)
  /-- MPU_ECC (R362) -/
  | mpuEcc (t mpu : Nat)
  /-- LOOP_PERIOD (R376) -/
  | loopPeriod (t island margin : Nat)
  /-- TIMING_ERROR (R378) -/
  | timingError (t cell : Nat) (again : Bool)
  /-- THERMAL_SAMPLE (R381) -/
  | thermalSample (t island : Nat) (tj : Int)
  /-- LDO_FAULT (R367) -/
  | ldoFault (t island : Nat)
  /-- CLUSTER_RESET_DONE (R367) -/
  | clusterResetDone (t island : Nat)
  /-- HUB_ISLAND_RESET (R367) -/
  | hubIslandReset (t island : Nat)
  /-- ISOLATION_TIMEOUT (R366) -/
  | isolationTimeout (t island : Nat)
  /-- INTEGRITY_FRAME (R369) -/
  | integrityFrame (t die dir : Nat) (f : FlitFrame)
  /-- LINK_TRAINED (R368) -/
  | linkTrained (t die good : Nat)
  /-- KEY_ROLLOVER (R369) -/
  | keyRollover (t die dir : Nat)
  /-- AUDIT_MARKER_RETURN (R373) -/
  | auditMarkerReturn (t die : Nat)
  /-- DDR_OSC_READ (R379) -/
  | ddrOscRead (t : Nat) (drifts : List Int)
  /-- LOOP_FREEZE_EXPIRY (R380) -/
  | loopFreezeExpiry (t loop target : Nat)
  /-- ISL_SEL_WRITE (R383) -/
  | islSelWrite (t : Nat) (v : Word)
  /-- ISL_STATUS (R384) -/
  | islStatus (t tag : Nat) (io : HostIo)
  /-- ISL_LINK_STATUS (R384) -/
  | islLinkStatus (t tag : Nat) (io : HostIo)
  /-- ISL_LOOP_FREEZE (R380) -/
  | islLoopFreeze (t tag : Nat) (io : HostIo)
  /-- ISL_LOOP_STATUS (R380) -/
  | islLoopStatus (t tag : Nat) (io : HostIo)
  /-- ISL_RESET (R384) -/
  | islReset (t tag : Nat) (io : HostIo)
  /-- DETECTOR_TRIP (R388) -/
  | detectorTrip (t n value : Nat)
  /-- TAMPER_LOOP_SAMPLE (R389) -/
  | tamperLoopSample (t loop : Nat) (level : Bool)
  /-- BATTERY_SWITCH (R391) -/
  | batterySwitch (t : Nat) (onBattery : Bool)
  /-- BATTERY_LOSS (R391) -/
  | batteryLoss (t : Nat)
  /-- MEM_INTEGRITY_FAIL (R400) -/
  | memIntegrityFail (t cell : Nat)
  /-- UNLOCK_CHALLENGE (R407) -/
  | unlockChallenge (t : Nat)
  /-- UNLOCK_RESPONSE (R407) -/
  | unlockResponse (t : Nat) (sig : List Byte)
  /-- SEC_STATUS (R408) -/
  | secStatus (t tag : Nat) (io : HostIo)
  /-- SEC_LOG_READ (R406) -/
  | secLogRead (t tag : Nat) (io : HostIo)
  /-- SEC_CERT_GET (R398) -/
  | secCertGet (t tag : Nat) (io : HostIo)
  /-- SEC_KEY_IMPORT (R395) -/
  | secKeyImport (t tag : Nat) (io : HostIo)
  /-- SEC_LOOP_SET (R390) -/
  | secLoopSet (t tag : Nat) (io : HostIo)
  /-- SEC_ZEROISE (R408) -/
  | secZeroise (t tag : Nat) (io : HostIo)
  /-- SEC_REENROL (R405) -/
  | secReenrol (t tag : Nat) (io : HostIo)
  /-- SEC_DEBUG_ARM (R407) -/
  | secDebugArm (t tag : Nat) (io : HostIo)
  /-- STAT_EPOCH (R411) -/
  | statEpoch (t tag : Nat) (io : HostIo)
  /-- STAT_READ (R423) -/
  | statRead (t tag : Nat) (io : HostIo)
  /-- STAT_BOOKS (R424) -/
  | statBooks (t tag : Nat) (io : HostIo)
  /-- TEST_LOAN (R427) -/
  | testLoan (t cell sentinel : Nat)
  /-- CELL_TEST_DONE (R428) -/
  | cellTestDone (t cell : Nat) (pass : Bool)
  /-- L2_TEST_DONE (R429) -/
  | l2TestDone (t island : Nat) (pass : Bool)
  /-- DRAIN_IDLE (R211) -/
  | drainIdle (t cls num : Nat)
  /-- DRAIN_TIMEOUT (R440) -/
  | drainTimeout (t cls num : Nat)
  /-- HUB_MARCH_LINE (R432) -/
  | hubMarchLine (t : Nat) (ok : Bool)
  /-- DIE_LINK_LANE_TEST (R434) -/
  | dieLinkLaneTest (t die dir lane errors : Nat)
  /-- SEGMENT_ECHO_TEST (R435) -/
  | segmentEchoTest (t seg : Nat)
  /-- PORT_TEST (R436) -/
  | portTest (t port eye : Nat)
  /-- FUSE_REREAD (R437) -/
  | fuseReread (t : Nat) (reads : Tbl FuseReads)
  /-- FORCED_REQUEST (R438) -/
  | forcedRequest (t cls num : Nat)
  /-- TEST_OVERDUE (R439) -/
  | testOverdue (t cls num : Nat)
  /-- TEST_REQUEST (R440) -/
  | testRequest (t tag : Nat) (io : HostIo)
  /-- TEST_RESULT (R442) -/
  | testResult (t tag : Nat) (io : HostIo)
  /-- TEST_COVERAGE (R439) -/
  | testCoverage (t tag : Nat) (io : HostIo)
  /-- EVENT_RECORD_WRITE (R449) -/
  | eventRecordWrite (t : Nat) (io : HostIo)
  /-- COALESCE_WINDOW_END (R452) -/
  | coalesceWindowEnd (t tag key : Nat) (io : HostIo)
  /-- IRQ_HOLDOFF_END (R453) -/
  | irqHoldoffEnd (t tag vec : Nat)
  /-- EVT_MASK_SET (R454) -/
  | evtMaskSet (t tag : Nat) (io : HostIo)
  /-- EVT_MASK_GET (R454) -/
  | evtMaskGet (t tag : Nat) (io : HostIo)
  /-- EVT_SRC_MASK (R455) -/
  | evtSrcMask (t tag : Nat) (io : HostIo)
  /-- EVT_STATUS (R457) -/
  | evtStatus (t tag : Nat) (io : HostIo)
  /-- POWER_GOOD (R459) -/
  | powerGood (t : Nat)
  /-- POWER_GOOD_LOST (R459) -/
  | powerGoodLost (t : Nat) (cause : PowerLoss)
  /-- EMERGENCY_PATH_START (R461) -/
  | emergencyPathStart (t : Nat)
  /-- BOOT_STAGE_COMPLETE (R462) -/
  | bootStageComplete (t : Nat) (r : StageResult)
  /-- BOOT_FAIL_CRS_END (R471) -/
  | bootFailCrsEnd (t : Nat)
  /-- SEGMENT_CONTROLLER_START (R463) -/
  | segmentControllerStart (t : Nat)
  /-- WARM_RESET (R477) -/
  | warmReset (t : Nat) (imageOk : Bool)
  /-- LCY_STATUS (R479) -/
  | lcyStatus (t tag : Nat) (io : HostIo)
  /-- LCY_ADVANCE (R473) -/
  | lcyAdvance (t tag : Nat) (io : HostIo)
  /-- LCY_FUSE_READ (R479) -/
  | lcyFuseRead (t tag : Nat) (io : HostIo)
  /-- LCY_FW_WRITE (R479) -/
  | lcyFwWrite (t tag : Nat) (io : HostIo)
  /-- LCY_FW_SELECT (R479) -/
  | lcyFwSelect (t tag : Nat) (io : HostIo)
  /-- LCY_ROLLBACK_ADVANCE (R479) -/
  | lcyRollbackAdvance (t tag : Nat) (io : HostIo)
  /-- LCY_SLOT_REVOKE (R479) -/
  | lcySlotRevoke (t tag : Nat) (io : HostIo)
  /-- LCY_RESET (R477) -/
  | lcyReset (t tag : Nat) (io : HostIo)
  /-- REGISTER_WRITE (R9) -/
  | registerWrite (t : Nat) (reg : HostReg) (v : Word)
  /-- UNKNOWN_COMMAND (R543) -/
  | unknownCommand (t tag : Nat) (io : HostIo)
  /-- EMG_OPEN_N_CHANGE (R178) -/
  | emgOpenNChange (t : Nat) (level : Bool)
  /-- CARD_DETECT_CHANGE (R245) -/
  | cardDetectChange (t slot : Nat) (level : Bool)
  /-- L2_CHECK_DONE (R206) -/
  | l2CheckDone (t island : Nat) (pass : Bool)
  /-- PORT_LOOPBACK_DONE (R436) -/
  | portLoopbackDone (t port errors : Nat)
  deriving DecidableEq, Repr

end Sys2Proof
end

