-- ==== Sys2Proof/Machine/State.lean ====
section
/-! DEFINITION. The state of the AT768 block: one field for each chapter's state, and the queue of the
commands that wait. -/

namespace Sys2Proof.Machine

/-- Why a step can stop with a fault.  No rule of the spec stops the block: an access to an
unassigned address is ignored (R9), and every error is dropped and counted (R33). -/
inductive Fault where
  /-- Raised by no command: kept for an address that the spec would say does not exist; safe. -/
  | hole (addr : Nat)
  deriving DecidableEq, Repr

/-- Why a step can be refused. -/
inductive Refusal where
  /-- Raised by an arm of exec whose command has no meaning yet; safe. -/
  | notModelled (mnemonic : String)
  deriving DecidableEq, Repr

/-- The state of the block. -/
structure State where
  /-- Device time in ns, which the operands of the commands carry; reset 0 -/
  now : Nat := 0
  /-- Mailboxes and the steward (02) -/
  mbx : Mbx := {}
  /-- Configuration and manifests (03) -/
  man : ManSt := {}
  /-- Queues, translation, slices, PCI Express (04) -/
  ins : Ins := {}
  /-- Authority (05) -/
  cap : CapSt := {}
  /-- Memory protection and memory (13) -/
  mem : MemSt := {}
  /-- Lane Link (06) -/
  lane : LaneSt := {}
  /-- Cells and the Drover (07) -/
  sea : Sea := {}
  /-- Fare sessions and the journal (08) -/
  fare : Fare := {}
  /-- Cartridge slots K0 to K3 (09) -/
  cart : Tbl CartSlot := []
  /-- Time (10) -/
  tim : Tim := {}
  /-- Audio (11) -/
  aud : Aud := {}
  /-- Ethernet (12) -/
  net : Net := {}
  /-- Clock islands, die links, loops (14) -/
  isl : Isl := {}
  /-- Security (15) -/
  sec : Sec := {}
  /-- Statistics and books (16) -/
  stat : Stat := {}
  /-- In-service test (17) -/
  test : TestSt := {}
  /-- Event fabric (18) -/
  evt : Evt := {}
  /-- Start-up, fuses, boot flash, lifecycle, pins (19, 20) -/
  lcy : Lcy := {}
  /-- Outputs of the device, newest first (the model's own record) -/
  out : List Output := []
  /-- Counter of the free values drawn so far (the model's own); reset 0 (DESIGN CHOICE, log entry 1) -/
  freeCtr : Nat := 0
  /-- Commands waiting, first in, first out (the model's own); reset none -/
  pending : List Instr := []
  deriving DecidableEq, Repr

/-- The block before power-good (R459): every field at its reset value. -/
def State.reset : State := {}

end Sys2Proof.Machine
end

