-- ==== Sys2Proof/Machine/Tbl.lean ====
section
/-! DEFINITION. Sparse tables: entries by number in rising order, each at most once. -/

namespace Sys2Proof.Machine

variable {α : Type}

/-- The entry of a number, if it is listed. -/
def tfind (t : Tbl α) (k : Nat) : Option α :=
  match t with
  | [] => none
  | (j, a) :: r => if j = k then some a else tfind r k

/-- The entry of a number, or what an absent one holds. -/
def tget (t : Tbl α) (k : Nat) (d : α) : α := (tfind t k).getD d

/-- The table with an entry set. -/
def tset (t : Tbl α) (k : Nat) (a : α) : Tbl α :=
  match t with
  | [] => [(k, a)]
  | (j, b) :: r => if k < j then (k, a) :: (j, b) :: r else if j = k then (k, a) :: r else (j, b) :: tset r k a

/-- The table without an entry. -/
def terase (t : Tbl α) (k : Nat) : Tbl α := t.filter (fun p => p.1 ≠ k)

/-- The table with an entry, or what an absent one holds, changed. -/
def tmod (t : Tbl α) (k : Nat) (d : α) (f : α → α) : Tbl α := tset t k (f (tget t k d))

/-- The table with an entry changed if it is listed. -/
def tupd (t : Tbl α) (k : Nat) (f : α → α) : Tbl α :=
  t.map (fun p => if p.1 = k then (p.1, f p.2) else p)

/-- Every listed entry changed, with its number. -/
def tmap (t : Tbl α) (f : Nat → α → α) : Tbl α := t.map (fun p => (p.1, f p.1 p.2))

/-- Whether an entry is listed. -/
def tmem (t : Tbl α) (k : Nat) : Bool := (tfind t k).isSome

/-- The numbers listed. -/
def tkeys (t : Tbl α) : List Nat := t.map (·.1)

/-- The numbers of the table rise. -/
def twf (t : Tbl α) : Bool :=
  match t with
  | [] => true
  | [_] => true
  | (j, _) :: (k, b) :: r => decide (j < k) && twf ((k, b) :: r)

/-- Insert into a rising list without repeats. -/
def linsert (l : List Nat) (k : Nat) : List Nat :=
  match l with
  | [] => [k]
  | j :: r => if k < j then k :: j :: r else if j = k then j :: r else j :: linsert r k

/-- Put in or take out. -/
def lput (l : List Nat) (k : Nat) (on : Bool) : List Nat := if on then linsert l k else l.filter (· ≠ k)

/-- Insert into a list sorted by an order, before its equals. -/
def insBy (le : α → α → Bool) (a : α) : List α → List α
  | [] => [a]
  | b :: r => if le a b then a :: b :: r else b :: insBy le a r

/-- A list sorted by an order; equals keep their order. -/
def sortBy (le : α → α → Bool) (l : List α) : List α := l.foldr (insBy le) []

end Sys2Proof.Machine
end

