-- ==== Sys2Proof/Machine/Params.lean ====
section
/-! DEFINITION. The firmware parameters: their IDs, scopes, classes, ranges and defaults (02 Commands and
parameters, and each chapter's parameter table), and their values in force. -/

namespace Sys2Proof.Machine

/-- The PF is tag 0, VF n is tag n, slices are 32 to 287 (R16). -/
def isPf (tag : Nat) : Bool := tag == 0
def isVf (tag : Nat) : Bool := decide (1 ≤ tag ∧ tag ≤ 31)
def isSlice (tag : Nat) : Bool := decide (32 ≤ tag ∧ tag ≤ 287)

/-- A parameter's definition. -/
structure ParamDef where
  id : Nat
  /-- Instance scope -/
  inst : Bool
  /-- Staged class -/
  staged : Bool
  /-- Tenant-writable; every parameter is tenant-readable -/
  tenantW : Bool
  lo : Int
  hi : Int
  /-- Values allowed are multiples of this -/
  mult : Int := 1
  /-- Default for the PF or the device, for a VF, for a slice -/
  pf : Int
  vf : Int
  slice : Int
  deriving DecidableEq, Repr

/-- A device parameter. -/
def devParam (id : Nat) (staged : Bool) (lo hi d : Int) (mult : Int := 1) : ParamDef :=
  { id, inst := false, staged, tenantW := false, lo, hi, mult, pf := d, vf := d, slice := d }

/-- An instance parameter. -/
def insParam (id : Nat) (staged : Bool) (lo hi pf vf slice : Int) (tenantW : Bool := false) : ParamDef :=
  { id, inst := true, staged, tenantW, lo, hi, pf, vf, slice }

/-- Parameters of chapters 3 to 8, in rising ID. -/
def paramsA : List ParamDef :=
  [ insParam 0x0201 false 1000 3600000 60000 60000 60000
  , insParam 0x0301 true 10 100000 2000 2000 500
  , insParam 0x0302 true 1 64 8 4 1
  , insParam 0x0303 true 0 768 0 0 0
  , insParam 0x0304 true 0 768 768 256 16
  , insParam 0x0305 false 0 3 0 0 0 true
  , devParam 0x0501 false 0 3 1
  , devParam 0x0502 true 200 10000 1000
  , devParam 0x0503 false 10 100 50
  , insParam 0x0601 true 0 3 0 0 0 true
  , devParam 0x0602 true 5 100 40
  , devParam 0x0603 true 4 24 16
  , insParam 0x0604 true 16 23 20 20 20
  , devParam 0x0605 false 50 2000 500
  , devParam 0x0606 false 0 1 0
  , devParam 0x06C1 true 0 15 4
  , devParam 0x06C2 true 0 15 2
  , devParam 0x06C3 true 0 15 6
  , devParam 0x06C4 true 0 15 3
  , devParam 0x06C5 true 1000 100000 20000
  , devParam 0x06C6 true 10 1000 50
  , devParam 0x06C7 false 1 16 3
  , insParam 0x06C8 true 0 3 1 2 3 ]

/-- Parameters of chapters 9 to 12. -/
def paramsB : List ParamDef :=
  [ devParam 0x0701 false 0 4 4
  , devParam 0x0702 true 0 1 1
  , devParam 0x0703 false 0 1 1
  , devParam 0x0801 false 0 3 0
  , devParam 0x0802 false 0 3600 60
  , devParam 0x0803 false 1000 1000000000 1000000
  , devParam 0x0804 false 100 100000 1000
  , devParam 0x0805 true 1 1000 100
  , devParam 0x0806 false 1000 1000000 50000
  , devParam 0x0807 false 60 86400 14400
  , devParam 0x0808 false 0 2 2
  , devParam 0x0809 false 1 500000 100000
  , devParam 0x080A false 0 999999999 0
  , devParam 0x0810 true (-10000) 10000 0
  , devParam 0x0811 true (-10000) 10000 0
  , devParam 0x0812 true (-10000) 10000 0
  , devParam 0x0813 true (-10000) 10000 0
  , devParam 0x0814 true (-10000) 10000 0
  , devParam 0x0815 true (-10000) 10000 0
  , devParam 0x0816 true (-10000) 10000 0
  , devParam 0x0817 true (-10000) 10000 0
  , devParam 0x0901 true 48 96 48 48
  , devParam 0x0902 false 500 20000 2000
  , devParam 0x0903 false 0 60 18
  , devParam 0x0904 false 1 100 10
  , devParam 0x0905 false 10 5000 500
  , devParam 0x0906 false (-80) (-20) (-50)
  , devParam 0x0907 false 10 1000 100
  , devParam 0x0908 true 1 1000 50
  , devParam 0x0909 true 0 2 0
  , devParam 0x090A true 0 2 0
  , devParam 0x090B false 0 0xFFFE 0
  , devParam 0x0A01 true 0 15 15
  , devParam 0x0A02 true 12 15 14 ]

/-- Parameters of chapters 14 to 18. -/
def paramsC : List ParamDef :=
  [ devParam 0x0B01 true 1 86400 900
  , devParam 0x0C01 true 4 24 24
  , devParam 0x0C02 true 1 12 4
  , devParam 0x0C03 false 1 32 8
  , devParam 0x0C04 false 10 1000 100
  , devParam 0x0C05 false 10 3600 60
  , devParam 0x0C06 false 10 3600 300
  , devParam 0x0C07 false 0 255 40
  , devParam 0x0CC1 true 400 1400 1400 25
  , devParam 0x0CC2 true 400 1400 800 25
  , devParam 0x0CC3 false 8 247 160
  , devParam 0x0CC4 false 16 255 200
  , devParam 0x0CC5 true 85 105 100
  , devParam 0x0CC6 false 1 65535 256
  , devParam 0x0CC7 true 10 1000 100
  , devParam 0x0D01 true 1 256 16
  , devParam 0x0D02 true 1 1000 16
  , devParam 0x0D03 true 60 3600 600
  , insParam 0x0E01 false 0 100000 1000 1000 1000
  , insParam 0x0E02 false 0 10000 0 0 0 ]

/-- Every parameter, in rising ID. -/
def allParams : List ParamDef := paramsA ++ paramsB ++ paramsC

/-- The definition of an ID. -/
def paramDef (id : Nat) : Option ParamDef := allParams.find? (fun p => p.id = id)

/-- A parameter's default for a tag. -/
def ParamDef.default (p : ParamDef) (tag : Nat) : Int :=
  if isPf tag then p.pf else if isVf tag then p.vf else p.slice

/-- A value lies in a parameter's range. -/
def ParamDef.inRange (p : ParamDef) (v : Int) : Bool :=
  decide (p.lo ≤ v ∧ v ≤ p.hi ∧ v % p.mult = 0)

/-- The page set of a version. -/
def State.cfgOf (s : State) (ver : Nat) : Cfg := tget s.man.pages ver {}

/-- The page set in force (03 Model). -/
def State.cfg (s : State) : Cfg := s.cfgOf s.man.cur

/-- A parameter's value in a page set. -/
def Cfg.param (c : Cfg) (tag id : Nat) : Int :=
  match tfind c.params (tag * 65536 + id) with
  | some v => v.toInt
  | none => match paramDef id with
    | some p => p.default tag
    | none => 0

/-- A device parameter in force. -/
def State.dev (s : State) (id : Nat) : Int := s.cfg.param 0 id

/-- A device parameter in force, as a count. -/
def State.devN (s : State) (id : Nat) : Nat := (s.dev id).toNat

/-- An instance parameter in force, as a count. -/
def State.insN (s : State) (tag id : Nat) : Nat := (s.cfg.param tag id).toNat

/-- The page set with a parameter set. -/
def Cfg.setParam (c : Cfg) (tag id : Nat) (v : Word64) : Cfg :=
  { c with params := tset c.params (tag * 65536 + id) v }

/-- The page in force changed in place: live-class parameters, and what a teardown resets. -/
def State.modCfg (s : State) (f : Cfg → Cfg) : State :=
  { s with man := { s.man with pages := tset s.man.pages s.man.cur (f s.cfg) } }

end Sys2Proof.Machine
end

