-- ==== Sys2Proof/WellFormed.lean ====
section
/-! DEFINITION. Well-formed commands: every number that names a part of the device names one that the spec
gives it.  A command that is not well formed still has its meaning (Machine/Dispatch.lean is total). -/

namespace Sys2Proof
open Sys2Proof.Machine

/-- Instance tags (R16). -/
def tagOk (n : Nat) : Bool := decide (n < 288)

/-- PCIe functions: the PF and 31 VFs (R94). -/
def fnOk (n : Nat) : Bool := decide (n < 32)

/-- Cells (R185). -/
def cellOk (n : Nat) : Bool := decide (n < 768)

/-- Segments (06 Model). -/
def segOk (n : Nat) : Bool := decide (n < 8)

/-- Lanes (R15). -/
def laneOk (n : Nat) : Bool := decide (n < 128)

/-- Clock islands (R363). -/
def islandOk (n : Nat) : Bool := decide (n < 108)

/-- Swarm dies. -/
def dieOk (n : Nat) : Bool := decide (n < 4)

/-- Shadow clocks (R273). -/
def shadowOk (n : Nat) : Bool := decide (n < 2)

/-- MPU instances (R341). -/
def mpuOk (n : Nat) : Bool := decide (n < 6)

/-- Numbers of a range that starts at 0. -/
def below (lim n : Nat) : Bool := decide (n < lim)

/-- A command is well formed. -/
def Instr.wf : Instr → Bool
  | .mbxH2sWrite _ tag _ => tagOk tag
  | .wPing _ tag => tagOk tag
  | .wCancel _ tag => tagOk tag
  | .badWord _ tag => tagOk tag
  | .mbxBlkWrite _ tag i _ => tagOk tag && below 16 i
  | .go _ tag => tagOk tag
  | .rateToken _ tag => tagOk tag
  | .pendingDone _ _ _ => true
  | .stewardReset _ => true
  | .stewardRestartDone _ => true
  | .genIdentify _ tag _ => tagOk tag
  | .genVersion _ tag _ => tagOk tag
  | .genPing _ tag _ => tagOk tag
  | .genParamGet _ tag _ => tagOk tag
  | .genParamSet _ tag _ => tagOk tag
  | .genParamInfo _ tag _ => tagOk tag
  | .genParamNext _ tag _ => tagOk tag
  | .genGpioSet _ tag _ => tagOk tag
  | .genGpioGet _ tag _ => tagOk tag
  | .manBegin _ tag _ => tagOk tag
  | .manCommit _ tag _ => tagOk tag
  | .manRollback _ tag _ => tagOk tag
  | .manStatus _ tag _ => tagOk tag
  | .manOpenTimeout _ tag => tagOk tag
  | .freezePoint _ => true
  | .deferredImmediateCommit _ tag => tagOk tag
  | .manFlushEnd _ _ => true
  | .epochBoundary _ => true
  | .booksCheck _ => true
  | .qdbSqTailWrite _ tag q _ => tagOk tag && below 16 q
  | .qdbCqHeadWrite _ tag q _ => tagOk tag && below 16 q
  | .qdbEqHeadWrite _ tag _ => tagOk tag
  | .sqEntryFetch _ tag q _ => tagOk tag && below 16 q
  | .cqCoalesceTimeout _ tag q => tagOk tag && below 16 q
  | .msixVectorUnmask _ fn v => fnOk fn && below 64 v
  | .tlbFill _ tag _ _ => tagOk tag
  | .insQpSetup _ tag _ => tagOk tag
  | .insQpReset _ tag _ => tagOk tag
  | .insQpStatus _ tag _ => tagOk tag
  | .insEqSetup _ tag _ => tagOk tag
  | .insXlateSet _ tag _ => tagOk tag
  | .insXlateInval _ tag _ => tagOk tag
  | .insFaultGet _ tag _ => tagOk tag
  | .insSliceCreate _ tag _ => tagOk tag
  | .insSliceDestroy _ tag _ => tagOk tag
  | .insStatus _ tag _ => tagOk tag
  | .insRightsSet _ tag _ => tagOk tag
  | .functionLevelReset _ fn => fnOk fn
  | .vfEnableChange _ _ _ => true
  | .pcieLinkDown _ => true
  | .pasidEnableClear _ => true
  | .busMasterEnableChange _ fn _ => fnOk fn
  | .disableRevoke _ tag => tagOk tag
  | .perstNFall _ => true
  | .perstNRise _ => true
  | .pfPageReady _ => true
  | .memMpuMode _ tag _ => tagOk tag
  | .memMpuRegion _ tag _ => tagOk tag
  | .memMpuRead _ tag _ => tagOk tag
  | .memMpuFaultGet _ tag _ => tagOk tag
  | .memMap _ tag _ => tagOk tag
  | .capInfo _ tag _ => tagOk tag
  | .capDerive _ tag _ => tagOk tag
  | .capRevoke _ tag _ => tagOk tag
  | .generationBroadcastAck _ unit => below 100 unit
  | .capRelease _ tag _ => tagOk tag
  | .capGrant _ tag _ => tagOk tag
  | .capList _ tag _ => tagOk tag
  | .capGateOpen _ tag _ => tagOk tag
  | .capGateInfo _ tag _ => tagOk tag
  | .capFaultGet _ tag _ => tagOk tag
  | .capabilityStore _ cell auth _ src => cellOk cell && below 16 auth && below 16 src
  | .capabilityLoad _ cell auth _ dst => cellOk cell && below 16 auth && below 16 dst
  | .registerDerive _ cell dst src _ _ _ level => cellOk cell && below 16 dst && below 16 src && below 4 level
  | .callGateEntry _ cell reg _ => cellOk cell && below 16 reg
  | .callGateReturn _ cell reg => cellOk cell && below 16 reg
  | .hubRequestReturn _ cell _ _ => cellOk cell
  | .cellTrap _ cell _ _ _ => cellOk cell
  | .objectTableEcc _ obj => below 65536 obj
  | .turnStart _ seg _ => segOk seg
  | .turnFailed _ seg => segOk seg
  | .transmissionDropped _ seg _ => segOk seg
  | .tapReceived _ seg _ => segOk seg
  | .contReceived _ seg _ => segOk seg
  | .apduRReceived _ seg _ => segOk seg
  | .echoRReceived _ seg _ => segOk seg
  | .ackReceived _ seg addr seq => segOk seg && below 256 addr && below 256 seq
  | .nilReceived _ seg addr bits => segOk seg && below 256 addr && below 256 bits
  | .hereReceived _ seg slot _ => segOk seg && below 16 slot
  | .hereGarble _ seg slot => segOk seg && below 16 slot
  | .rollcallCycle _ seg => segOk seg
  | .barcodeTransferTimeout _ lane => laneOk lane
  | .emgFilterAssert _ => true
  | .freeExitRepeat _ => true
  | .emgFilterRelease _ => true
  | .freeExitClearRepeat _ => true
  | .apduCommandQueue _ lane _ _ => laneOk lane
  | .exchangeTimeout _ lane => laneOk lane
  | .laneBind _ tag _ => tagOk tag
  | .laneUnbind _ tag _ => tagOk tag
  | .laneStatus _ tag _ => tagOk tag
  | .laneSegStatus _ tag _ => tagOk tag
  | .laneSegEnable _ tag _ => tagOk tag
  | .laneRollcall _ tag _ => tagOk tag
  | .laneForget _ tag _ => tagOk tag
  | .placement _ _ => true
  | .placementRetry _ lane => laneOk lane
  | .sessionBudgetExpired _ lane => laneOk lane
  | .denylistExactSearch _ lane => laneOk lane
  | .barcodeVerify _ lane => laneOk lane
  | .journalSeal _ lane cell _ => laneOk lane && cellOk cell
  | .usedTicketPurge _ tag => tagOk tag
  | .sealBudgetExpired _ lane => laneOk lane
  | .cartAcceptTimeout _ _ => true
  | .fareTableLoad _ tag _ => tagOk tag
  | .fareKeyBind _ tag _ => tagOk tag
  | .fareDenyDelta _ tag _ => tagOk tag
  | .fareDenySwap _ tag _ => tagOk tag
  | .fareDenyStatus _ tag _ => tagOk tag
  | .fareDenyLoad _ tag q _ => tagOk tag && below 16 q
  | .fareJournalRead _ tag _ => tagOk tag
  | .fareJournalAck _ tag _ => tagOk tag
  | .fareStatus _ tag _ => tagOk tag
  | .jobRun _ tag q _ => tagOk tag && below 16 q
  | .jobBoundary _ cell _ => cellOk cell
  | .scoreTick _ => true
  | .casteImageLoad _ cell => cellOk cell
  | .casteMoveDone _ cell => cellOk cell
  | .casteGrow _ caste => below 5 caste
  | .leaseExpired _ _ => true
  | .cellCheckDone _ cell _ => cellOk cell
  | .clusterL2Error _ island _ => islandOk island
  | .taskInputEvent _ cell input _ => cellOk cell && below 16 input
  | .taskInputTake _ cell input _ => cellOk cell && below 16 input
  | .taskOvfClear _ cell input => cellOk cell && below 16 input
  | .hotSpareSwitch _ pair => below 384 pair
  | .droverReset _ => true
  | .drvCastePlan _ tag _ => tagOk tag
  | .drvCasteStatus _ tag _ => tagOk tag
  | .drvCellStatus _ tag _ => tagOk tag
  | .drvCellQuarantine _ tag _ => tagOk tag
  | .drvCellReturn _ tag _ => tagOk tag
  | .drvSlotStatus _ tag _ => tagOk tag
  | .cartInserted _ slot => below 4 slot
  | .cartRemoved _ slot => below 4 slot
  | .cartInitStep _ slot _ => below 4 slot
  | .cartPowerCycleEnd _ slot => below 4 slot
  | .cartBlockWrite _ slot => below 4 slot
  | .cartBlockDone _ slot _ => below 4 slot
  | .cartBusyTimeout _ slot => below 4 slot
  | .cartEraseDone _ slot _ => below 4 slot
  | .cartBind _ tag _ => tagOk tag
  | .cartStatus _ tag _ => tagOk tag
  | .cartJournalRead _ tag _ => tagOk tag
  | .cartJournalMark _ tag _ => tagOk tag
  | .cartDataList _ tag _ => tagOk tag
  | .cartDataStage _ tag _ => tagOk tag
  | .cartFormat _ tag _ => tagOk tag
  | .cartForceErase _ tag _ => tagOk tag
  | .cartEject _ tag _ => tagOk tag
  | .ptpSync _ shadow _ => shadowOk shadow
  | .ptpFollowUp _ shadow _ => shadowOk shadow
  | .ptpAnnounce _ shadow _ => shadowOk shadow
  | .ptpDelayResp _ shadow _ => shadowOk shadow
  | .delayReqSend _ shadow => shadowOk shadow
  | .announceReceiptTimeout _ shadow => shadowOk shadow
  | .syncTimeout _ shadow => shadowOk shadow
  | .refusedRecheck _ shadow => shadowOk shadow
  | .preferredRevert _ => true
  | .slewEnd _ => true
  | .holdoverAlarm _ => true
  | .masterSyncSend _ port => below 4 port
  | .masterAnnounceSend _ port => below 4 port
  | .masterDelayReq _ port _ => below 4 port
  | .compareFire _ unit => below 16 unit
  | .ppsOutRise _ out => below 2 out
  | .ppsOutFall _ out => below 2 out
  | .ppsInEdge _ => true
  | .timeStatus _ tag _ => tagOk tag
  | .timeShadowStatus _ tag _ => tagOk tag
  | .timeDomainSet _ tag _ => tagOk tag
  | .timeMasterSet _ tag _ => tagOk tag
  | .timeJumpAccept _ tag _ => tagOk tag
  | .timeCmpSet _ tag _ => tagOk tag
  | .timeCmpStatus _ tag _ => tagOk tag
  | .timePpsInGet _ tag _ => tagOk tag
  | .timServedNsRead _ tag => tagOk tag
  | .rtpPacket _ stream leg _ => below 64 stream && below 2 leg
  | .audioBlock _ _ => true
  | .legStale _ stream leg => below 64 stream && below 2 leg
  | .adaptiveMeasure _ stream => below 64 stream
  | .promptStart _ _ => true
  | .emergencyPromptLoop _ => true
  | .audRxSet _ tag _ => tagOk tag
  | .audTxSet _ tag _ => tagOk tag
  | .audBusSet _ tag _ => tagOk tag
  | .audTdmSet _ tag _ => tagOk tag
  | .audPromptLoad _ tag _ => tagOk tag
  | .audPlay _ tag _ => tagOk tag
  | .audStreamStatus _ tag _ => tagOk tag
  | .audStatus _ tag _ => tagOk tag
  | .frameReceived _ port _ _ _ => below 4 port
  | .portTransmit _ port _ => below 4 port
  | .ethLinkDown _ port _ => below 4 port
  | .ethLinkUp _ port => below 4 port
  | .stewardNetRx _ => true
  | .netPortSet _ tag _ => tagOk tag
  | .netIfSet _ tag _ => tagOk tag
  | .netRuleWrite _ tag _ => tagOk tag
  | .netRuleRead _ tag _ => tagOk tag
  | .netRuleHits _ tag _ => tagOk tag
  | .netQueueSet _ tag _ => tagOk tag
  | .netPortStatus _ tag _ => tagOk tag
  | .netTx _ q _ => below 16 q
  | .netRxPost _ q _ => below 16 q
  | .cellLoad _ cell auth _ _ => cellOk cell && below 16 auth
  | .cellStore _ cell auth _ _ => cellOk cell && below 16 auth
  | .storeDrain _ cell => cellOk cell
  | .fence _ cell => cellOk cell
  | .atomicOperation _ cell auth _ _ _ => cellOk cell && below 16 auth
  | .read _ cell _ => cellOk cell
  | .own _ cell _ => cellOk cell
  | .writeback _ cell _ => cellOk cell
  | .dmaPiece _ _ => true
  | .mpuEcc _ mpu => mpuOk mpu
  | .loopPeriod _ island margin => islandOk island && below 256 margin
  | .timingError _ cell _ => cellOk cell
  | .thermalSample _ island _ => islandOk island
  | .ldoFault _ island => islandOk island
  | .clusterResetDone _ island => islandOk island
  | .hubIslandReset _ island => islandOk island
  | .isolationTimeout _ island => islandOk island
  | .integrityFrame _ die dir _ => dieOk die && below 2 dir
  | .linkTrained _ die _ => dieOk die
  | .keyRollover _ die dir => dieOk die && below 2 dir
  | .auditMarkerReturn _ die => dieOk die
  | .ddrOscRead _ _ => true
  | .loopFreezeExpiry _ loop _ => below 4 loop
  | .islSelWrite _ _ => true
  | .islStatus _ tag _ => tagOk tag
  | .islLinkStatus _ tag _ => tagOk tag
  | .islLoopFreeze _ tag _ => tagOk tag
  | .islLoopStatus _ tag _ => tagOk tag
  | .islReset _ tag _ => tagOk tag
  | .detectorTrip _ _ _ => true
  | .tamperLoopSample _ loop _ => below 4 loop
  | .batterySwitch _ _ => true
  | .batteryLoss _ => true
  | .memIntegrityFail _ cell => cellOk cell
  | .unlockChallenge _ => true
  | .unlockResponse _ _ => true
  | .secStatus _ tag _ => tagOk tag
  | .secLogRead _ tag _ => tagOk tag
  | .secCertGet _ tag _ => tagOk tag
  | .secKeyImport _ tag _ => tagOk tag
  | .secLoopSet _ tag _ => tagOk tag
  | .secZeroise _ tag _ => tagOk tag
  | .secReenrol _ tag _ => tagOk tag
  | .secDebugArm _ tag _ => tagOk tag
  | .statEpoch _ tag _ => tagOk tag
  | .statRead _ tag _ => tagOk tag
  | .statBooks _ tag _ => tagOk tag
  | .testLoan _ cell _ => cellOk cell
  | .cellTestDone _ cell _ => cellOk cell
  | .l2TestDone _ island _ => islandOk island
  | .drainIdle _ _ _ => true
  | .drainTimeout _ _ _ => true
  | .hubMarchLine _ _ => true
  | .dieLinkLaneTest _ die dir lane _ => dieOk die && below 2 dir && below 18 lane
  | .segmentEchoTest _ seg => segOk seg
  | .portTest _ port eye => below 4 port && below 256 eye
  | .fuseReread _ _ => true
  | .forcedRequest _ _ _ => true
  | .testOverdue _ _ _ => true
  | .testRequest _ tag _ => tagOk tag
  | .testResult _ tag _ => tagOk tag
  | .testCoverage _ tag _ => tagOk tag
  | .eventRecordWrite _ _ => true
  | .coalesceWindowEnd _ tag _ _ => tagOk tag
  | .irqHoldoffEnd _ tag vec => tagOk tag && below 64 vec
  | .evtMaskSet _ tag _ => tagOk tag
  | .evtMaskGet _ tag _ => tagOk tag
  | .evtSrcMask _ tag _ => tagOk tag
  | .evtStatus _ tag _ => tagOk tag
  | .powerGood _ => true
  | .powerGoodLost _ _ => true
  | .emergencyPathStart _ => true
  | .bootStageComplete _ _ => true
  | .bootFailCrsEnd _ => true
  | .segmentControllerStart _ => true
  | .warmReset _ _ => true
  | .lcyStatus _ tag _ => tagOk tag
  | .lcyAdvance _ tag _ => tagOk tag
  | .lcyFuseRead _ tag _ => tagOk tag
  | .lcyFwWrite _ tag _ => tagOk tag
  | .lcyFwSelect _ tag _ => tagOk tag
  | .lcyRollbackAdvance _ tag _ => tagOk tag
  | .lcySlotRevoke _ tag _ => tagOk tag
  | .lcyReset _ tag _ => tagOk tag
  | .registerWrite _ _ _ => true
  | .unknownCommand _ tag _ => tagOk tag
  | .emgOpenNChange _ _ => true
  | .cardDetectChange _ slot _ => below 4 slot
  | .l2CheckDone _ island _ => islandOk island
  | .portLoopbackDone _ port _ => below 4 port

end Sys2Proof
end

