-- ==== Sys2Proof/Decode.lean ====
section
/-! DEFINITION. Reading a command from the bits of spec/opcode_table.json.  The table gives its rows no
bits (each row is a command or an event, not a word), so no word spells a command. -/

namespace Sys2Proof

/-- The command that a word of the table spells: none. -/
def decodeTableWord (_nbits _w : Nat) : Option Instr := none

end Sys2Proof
end

