-- ==== Sys2Proof/Config.lean ====
section
/-! DEFINITION. What an implementation fixes and what the spec leaves open: functions with no body,
about which nothing can be proved but that they are functions.  Cryptography is here as well: the
model uses its results and claims nothing about their values.  Each is named in the assumption log. -/

namespace Sys2Proof.Config
open Sys2Proof.Machine

/-- Free values: the n-th open value that the device produced (log entry 1). -/
opaque freeValue : Nat → Nat

/-- The SEAL of a handle: first 48 bits of the AES-CMAC, under the n-th device seal key, of handle bits
[127:64] followed by eight zero bytes (Table 5-6, R130). -/
opaque cmac48 : Nat → BitVec 64 → BitVec 48

/-- SHA-256. -/
opaque sha256 : List Byte → List Byte

/-- HMAC-SHA-256 of a message under a key. -/
opaque hmac : List Byte → List Byte → List Byte

/-- ECDSA P-256 with SHA-256 verification: public key, message, signature. -/
opaque ecVerify : List Byte → List Byte → List Byte → Bool

/-- ML-DSA-44 verification: public key, message, signature. -/
opaque pqVerify : List Byte → List Byte → List Byte → Bool

/-- ECDSA P-256 signature by the DAK that a DUK gives: DUK, number of the signature's nonce, message (R393, R398). -/
opaque ecSign : List Word → Nat → List Byte → List Byte

/-- ML-DSA-44 signature by the DAK that a DUK gives: DUK, message (R393, R398). -/
opaque pqSign : List Word → List Byte → List Byte

/-- The DIK's public keys that a DUK and a BKR give: ECDH point x and y, then the ML-KEM-768 encapsulation key (R393). -/
opaque dik : List Word → BitVec 256 → List Byte

/-- A public key of a KEYTYPE of Table 15-3 is valid (R396). -/
opaque keyValid : Nat → List Byte → Bool

/-- The key bytes that a wrapped envelope opens to under a DUK and a BKR, if every step of R395 succeeds. -/
opaque unwrap : List Word → BitVec 256 → List Byte → Option (List Byte)

/-- The TRNG's n-th draw. -/
opaque random : Nat → Nat

/-- The product a card's reads show, its balance, and the served seconds of its last log entries,
by profile (Table 8-2): the card profiles are part of the caste image (R219, R220). -/
opaque cardReading : Nat → List (List Byte) → Nat × Int × List Nat

/-- The servo's new frequency correction and predicted offset: bandwidth in mHz, history, offset (R272). -/
opaque servo : Nat → List Int → Int → Int × Int

/-- Attenuated sample: sample, attenuation in 0.001 dB (R307). -/
opaque attenuate : Int → Nat → Int

/-- Sample under a gain code (R306). -/
opaque gain : Int → Nat → Int

/-- Sample at step k of a fade of n samples (R298). -/
opaque fade : Int → Nat → Nat → Int

/-- Resampled block of an adaptive stream: samples wanted, ratio, samples read (R301). -/
opaque resample : Nat → Int → List (List Int) → List (List Int)

/-- Sample between two of a clip, at 96 kHz (Table 11-5). -/
opaque between : Int → Int → Int

/-- New ratio of an adaptive stream in 0.01 ppm: bandwidth in mHz, ratio in force, fill above L less N (R301). -/
opaque adaptive : Nat → Int → Int → Int

/-- Whether a mean-square sum lies at or above a level in dBFS (R307). -/
opaque aboveDbfs : Nat → Int → Bool

end Sys2Proof.Config
end

