-- ==== Sys2Proof/Machine/Ops.lean ====
section
/-! DEFINITION. The named operations that the commands share: time, pages, notices, message-signalled
interrupts, the taking of a posted command. -/

namespace Sys2Proof.Machine

/-! ### Time (R266 to R268, R276, R278) -/

/-- Units of 2^-16 ns in a nanosecond and in a second. -/
def nsUnit : Nat := 65536
def secUnit : Nat := 65536000000000

/-- A clock after dt ns of the crystal under a correction in 10^-12: value and fraction below FRAC (R268). -/
def clockAdvance (dt : Nat) (corr : Int) (value sub : Nat) : Nat × Nat :=
  let acc : Int := dt * nsUnit * (1000000000000 + corr) + sub
  (value + (acc / 1000000000000).toNat, (acc % 1000000000000).toNat)

/-- Served seconds, nanoseconds and fraction of a clock value (Table 10-1). -/
def secOf (v : Nat) : Nat := v / secUnit
def nsOf (v : Nat) : Nat := v % secUnit / nsUnit
def fracOf (v : Nat) : Nat := v % nsUnit

def State.servedSec (s : State) : Nat := secOf s.tim.served
def State.servedNs (s : State) : Nat := nsOf s.tim.served
def State.sec32 (s : State) : Nat := s.servedSec % 2 ^ 32

def Tim.shadow (t : Tim) (n : Nat) : Shadow := tget t.shadows n {}

/-- The list of (ns, correction) with a stretch added in front, cut to 64 s in all (R278). -/
def logStretch (dt : Nat) (c : Int) (l : List (Nat × Int)) : List (Nat × Int) :=
  let l := match l with
    | (d, e) :: r => if e = c then (d + dt, e) :: r else (dt, c) :: l
    | [] => [(dt, c)]
  (l.foldl (fun (a : Nat × List (Nat × Int)) p =>
      if a.1 = 0 then a else (a.1 - min a.1 p.1, (min a.1 p.1, p.2) :: a.2)) (64000000000, [])).2.reverse

/-- The mean correction of a list of stretches, 0 for an empty one (R278). -/
def meanCorr (l : List (Nat × Int)) : Int :=
  let d : Nat := l.foldl (fun a p => a + p.1) 0
  if d = 0 then 0 else l.foldl (fun (a : Int) p => a + (p.1 : Int) * p.2) 0 / (d : Int)

/-- The served clock over dt while it slews towards a shadow at 100 ppm beside the shadow's rate (R276). -/
def slewTo (dt old : Nat) (shOld shNew : Nat) : Nat :=
  let own := old + (shNew - shOld)
  let move := dt * nsUnit / 10000
  if shNew ≥ own then min shNew (own + move) else max shNew (own - min own move)

/-- The three clocks after dt ns (R268, R276, R278). -/
def Tim.advance (dt : Nat) (t : Tim) : Tim :=
  let adv (sh : Shadow) : Shadow :=
    if sh.state = .disabled then sh else
      let p := clockAdvance dt sh.corr sh.value sh.sub
      { sh with value := p.1, sub := p.2 }
  let shs := tmap t.shadows (fun _ sh => adv sh)
  match t.following with
  | .shadow n =>
    let o := t.shadow n
    let sh := tget shs n {}
    if t.slewing then
      { t with shadows := shs, served := slewTo dt t.served o.value sh.value, sub := 0, corr := sh.corr
               followLog := logStretch dt sh.corr t.followLog }
    else
      { t with shadows := shs, served := sh.value, sub := sh.sub, corr := sh.corr
               followLog := logStretch dt sh.corr t.followLog }
  | _ =>
    let p := clockAdvance dt t.corr t.served t.sub
    { t with shadows := shs, served := p.1, sub := p.2 }

/-- Device time moves to t, or stands if t is past; the clocks run from power-good on (Table 19-1). -/
def State.tick (s : State) (t : Nat) : State :=
  if t ≤ s.now then s
  else if s.lcy.powerGood then { s with now := t, tim := s.tim.advance (t - s.now) }
  else { s with now := t }

/-- 12-byte time value in memory (Table 10-1). -/
def timeBytes (v : Nat) : List Byte := toLe 6 (secOf v) ++ toLe 4 (nsOf v) ++ toLe 2 (fracOf v)

/-! ### Free values -/

/-- The next free value and the state that has drawn it. -/
def State.free (s : State) : Nat × State := (Config.freeValue s.freeCtr, { s with freeCtr := s.freeCtr + 1 })

/-! ### Instances (04) -/

def State.inst (s : State) (tag : Nat) : Inst := tget s.ins.insts tag {}
def State.modInst (s : State) (tag : Nat) (f : Inst → Inst) : State :=
  { s with ins := { s.ins with insts := tmod s.ins.insts tag {} f } }
def State.enabled (s : State) (tag : Nat) : Bool := (s.inst tag).phase == .on
def State.enabledTags (s : State) : List Nat := (s.ins.insts.filter (fun p => p.2.phase == .on)).map (·.1)

/-- The PCIe function of an instance: a slice's is the PF's. -/
def fnOf (tag : Nat) : Nat := if isSlice tag then 0 else tag
def State.func (s : State) (fn : Nat) : Func := tget s.ins.fns fn {}
def State.modFunc (s : State) (fn : Nat) (f : Func → Func) : State :=
  { s with ins := { s.ins with fns := tmod s.ins.fns fn {} f } }
def State.bme (s : State) (tag : Nat) : Bool := (s.func (fnOf tag)).bme

def State.qp (s : State) (tag q : Nat) : Qp := tget (s.inst tag).qps q {}
def State.modQp (s : State) (tag q : Nat) (f : Qp → Qp) : State :=
  s.modInst tag (fun i => { i with qps := tmod i.qps q {} f })

/-- Queue pairs of an instance (Table 4-1). -/
def qpCount (tag : Nat) : Nat := if isPf tag then 16 else if isVf tag then 4 else 1

/-! ### Output -/

def State.emitOut (s : State) (o : Output) : State := { s with out := o :: s.out }

/-- An access uses the translations of its pages that the TLB holds (R106). -/
def State.tlbTouch (s : State) (tag iova len : Nat) : State :=
  if len = 0 then s else
    let first := iova / 4096
    let last := (iova + len - 1) / 4096
    let use (e : TlbEntry) : TlbEntry :=
      if e.tag = tag ∧ first ≤ e.page ∧ e.page ≤ last then { e with used := s.ins.tlbClock } else e
    { s with ins := { s.ins with tlb := s.ins.tlb.map use, tlbClock := s.ins.tlbClock + 1 } }

/-- A write of the hub's DMA to an instance's buffer. -/
def State.dmaOut (s : State) (tag iova : Nat) (bytes : List Byte) : State :=
  (s.tlbTouch tag iova bytes.length).emitOut (.dma tag iova bytes)

/-- Bytes of a ring entry, the byte that carries the phase written last (R100, R448). -/
def State.dmaPhaseLast (s : State) (tag iova : Nat) (bytes : List Byte) (pos : Nat) : State :=
  ((s.dmaOut tag iova (bytes.take pos)).dmaOut tag (iova + pos + 1) (bytes.drop (pos + 1))).dmaOut tag (iova + pos)
    (slice bytes pos 1)

/-! ### Message-signalled interrupts (R103, R104, R120) -/

/-- A message falls due: it is sent, or its pending bit is set while the vector is masked, the
function has no MSI-X Enable, or Bus Master Enable is 0. -/
def State.msix (s : State) (fn v : Nat) : State :=
  let f := s.func fn
  let e : MsixEntry := tget f.msix v {}
  if e.mask || f.fnMask || !f.msixEn || !f.bme then
    s.modFunc fn (fun f => { f with msix := tmod f.msix v {} (fun e => { e with pend := true }) })
  else s.emitOut (.msix fn v (ofTwo e.addrLo e.addrHi) e.data)

/-- Pending messages of a function that can be sent are sent (R104, R120). -/
def State.msixFlush (s : State) (fn : Nat) : State :=
  let f := s.func fn
  if f.fnMask || !f.msixEn || !f.bme then s else
    f.msix.foldl (fun s p =>
      if p.2.pend && !p.2.mask then
        (s.modFunc fn (fun f => { f with msix := tmod f.msix p.1 {} (fun e => { e with pend := false }) })).emitOut
          (.msix fn p.1 (ofTwo p.2.addrLo p.2.addrHi) p.2.data)
      else s) s

/-- A vector of an instance is signalled; a slice's is the PF's. -/
def State.signal (s : State) (tag v : Nat) : State := s.msix (fnOf tag) v

/-! ### Mailbox pages (02) -/

def State.page (s : State) (tag : Nat) : Page := tget s.mbx.pages tag {}
def State.modPage (s : State) (tag : Nat) (f : Page → Page) : State :=
  { s with mbx := { s.mbx with pages := tmod s.mbx.pages tag {} f } }
def State.cmdRec (s : State) (tag : Nat) : CmdRec := tget s.mbx.recs tag {}
def State.modRec (s : State) (tag : Nat) (f : CmdRec → CmdRec) : State :=
  { s with mbx := { s.mbx with recs := tmod s.mbx.recs tag {} f } }

/-- The mailbox interrupt (R43, R103). -/
def State.mbxIrq (s : State) (tag : Nat) : State :=
  s.signal tag (if isSlice tag then (s.inst tag).notify else 0)

/-- The steward posts a notice (R46); the interrupt follows the rise of S2H_FULL (R43). -/
def State.notice (s : State) (tag : Nat) (w : Word) : State :=
  let p := s.page tag
  let s' := s.modPage tag (fun p =>
    { p with s2h := w, s2hFull := true, s2hCollide := p.s2hCollide || p.s2hFull })
  if p.s2hIe && !p.s2hFull then s'.mbxIrq tag else s'

/-- A notice word: code and data (R47). -/
def noticeWord (code data : Nat) : Word := wd (code * 2 ^ 24 + data % 2 ^ 24)

/-- N_READY's word for the Frenal version running (Table 2-6). -/
def State.readyWord (s : State) : Word := noticeWord 0x01 (fld s.lcy.version 23 0)

/-! ### Taking a posted command (R50, R109) -/

/-- A page has a command that the steward may take. -/
def State.eligible (s : State) (tag : Nat) : Bool :=
  let p := s.page tag
  p.go && !p.taken && p.ready && (isPf tag || decide (0 < (s.cmdRec tag).tokens))

/-- Tenant tags in ascending order after the one last taken, wrapping after 287 (R109). -/
def tenantOrder (last : Nat) : List Nat :=
  (List.range 287).map (fun i => (last + i) % 287 + 1)

/-- The page taken next (R109). -/
def State.nextPage (s : State) : Option Nat :=
  if s.eligible 0 && !s.mbx.lastWasPf then some 0
  else match (tenantOrder s.mbx.lastTenant).find? s.eligible with
    | some t => some t
    | none => if s.eligible 0 then some 0 else none

/-- A command stands TAKEN on some page. -/
def State.someTaken (s : State) : Bool := s.mbx.pages.any (fun p => p.2.taken)

/-- While it serves and has no command TAKEN, the steward takes the next posted one (R50, R109). -/
def State.take (s : State) : State :=
  if s.mbx.state ≠ .serving || s.someTaken then s else
    match s.nextPage with
    | none => s
    | some t =>
      let s := s.modPage t (fun p => { p with taken := true })
      let s := if isPf t then s else s.modRec t (fun r => { r with tokens := r.tokens - 1 })
      { s with mbx := { s.mbx with lastWasPf := isPf t, lastTenant := if isPf t then s.mbx.lastTenant else t } }

/-- The reply of a TAKEN command: words written, DONE set, GO and TAKEN cleared, the interrupt raised
unless NO_IRQ suppresses it; the steward then takes the next (R50, R43). -/
def State.writeReply (s : State) (tag : Nat) (words : List Word) : State :=
  let p := s.page tag
  let noIrq := bit (p.blk.getD 0 0) 1
  let s := s.modPage tag (fun p =>
    { p with blk := (words ++ List.replicate 16 0).take 16, done := true, go := false, taken := false })
  if p.doneIe && !p.done && !noIrq then s.mbxIrq tag else s

/-- Reply word 0 (Table 2-8). -/
def replyWord (status seq resc : Nat) (replayed : Bool) : Word :=
  wd (status % 2 ^ 16 * 2 ^ 16 + seq % 2 ^ 8 * 2 ^ 8 + resc % 16 * 16 + b2n replayed)

/-- A command completes: its reply is written and stored with its SEQ (R50, R54). -/
def State.complete (s : State) (tag status : Nat) (results : List Word) : State :=
  let seq := fld ((s.page tag).blk.getD 0 0) 15 8
  let words := replyWord status seq results.length false :: results
  (s.writeReply tag words).modRec tag (fun r => { r with stored := some (seq, words) })

end Sys2Proof.Machine
end

