-- ==== Sys2Proof/Machine/Flags.lean ====
section
/-! DEFINITION. Counters and events: what a command counts and what it reports (16_epochs_books.md,
18_events_errors.md). -/

namespace Sys2Proof.Machine

/-! ### Counters (R413, R414, R416) -/

/-- Number of a statistic: group, member of the group, index (Table 16-2). -/
def statKey (group n i : Nat) : Nat := (group * 4096 + n) * 32 + i

/-- Greatest counter value (R414). -/
def statMax : Nat := 2 ^ 48 - 1

/-- A counter counts n events (R413, R414). -/
def State.count (s : State) (group n i : Nat) (by_ : Nat := 1) : State :=
  if by_ = 0 then s else
    let k := statKey group n i
    let v := min statMax (tget s.stat.live k 0 + by_)
    { s with stat := { s.stat with
        live := tset s.stat.live k v
        saturated := if v = statMax then linsert s.stat.saturated (statKey group n 0) else s.stat.saturated } }

/-- A live counter. -/
def State.counter (s : State) (group n i : Nat) : Nat := tget s.stat.live (statKey group n i) 0

/-! ### Events: codes (Table 18-4) -/

/-- Routes of R450. -/
inductive Route where
  | I | O | B | P | A
  deriving DecidableEq, Repr

/-- Route of a code, whether it coalesces, whether it cannot be masked (Table 18-4). -/
def evInfo (code : Nat) : Option (Route × Bool × Bool) :=
  match code with
  | 0x0101 => some (.I, false, true)
  | 0x0201 | 0x0202 | 0x0203 => some (.O, false, true)
  | 0x0301 | 0x0302 => some (.O, true, false)
  | 0x0303 => some (.P, false, false)
  | 0x0401 => some (.O, true, false)
  | 0x0402 | 0x0501 | 0x0502 | 0x0503 | 0x0504 => some (.P, false, false)
  | 0x0505 => some (.P, true, false)
  | 0x0506 => some (.P, false, false)
  | 0x0507 | 0x0508 => some (.A, false, true)
  | 0x0601 => some (.P, true, false)
  | 0x0602 | 0x0603 | 0x0604 | 0x0605 => some (.P, false, false)
  | 0x0606 => some (.O, true, false)
  | 0x0701 | 0x0702 | 0x0703 | 0x0704 | 0x0705 | 0x0706 | 0x0707 | 0x0708 | 0x0709 => some (.B, false, false)
  | 0x0801 => some (.P, false, false)
  | 0x0802 => some (.A, false, false)
  | 0x0803 => some (.P, false, false)
  | 0x0804 | 0x0805 => some (.A, false, false)
  | 0x0806 | 0x0901 | 0x0902 | 0x0903 | 0x0A01 | 0x0B01 | 0x0C01 | 0x0C02 | 0x0C03 => some (.P, false, false)
  | 0x0CC1 | 0x0CC2 | 0x0CC3 | 0x0CC4 | 0x0CC5 | 0x0CC6 | 0x0CC7 | 0x0CC8 => some (.P, false, false)
  | 0x0D01 => some (.P, false, false)
  | 0x0D02 => some (.P, true, false)
  | 0x0D03 => some (.A, false, true)
  | 0x0E01 | 0x0E02 => some (.P, false, true)
  | _ => none

/-- The code cannot be masked (U of Table 18-4). -/
def evU (code : Nat) : Bool := match evInfo code with | some (_, _, u) => u | none => false
/-- The code coalesces (C of Table 18-4). -/
def evC (code : Nat) : Bool := match evInfo code with | some (_, c, _) => c | none => false

/-! Sources (Table 18-1). -/
def srcCell (n : Nat) : Nat := n
def srcCluster (i : Nat) : Nat := if i < 96 then 768 + 2 * i else 1102 + i
def srcThermal (i : Nat) : Nat := if i < 96 then 769 + 2 * i else 1102 + i
def srcSegment (n : Nat) : Nat := 960 + n
def srcLane (n : Nat) : Nat := 968 + n
def srcSlot (n : Nat) : Nat := 1096 + n
def srcShadow (n : Nat) : Nat := 1100 + n
def srcServed : Nat := 1102
def srcCmp (n : Nat) : Nat := 1103 + n
def srcRx (n : Nat) : Nat := 1119 + n
def srcAudio : Nat := 1183
def srcPort (n : Nat) : Nat := 1184 + n
def srcMpu (n : Nat) : Nat := 1188 + n
def srcDie (n : Nat) : Nat := 1194 + n
def srcSteward : Nat := 1210
def srcDrover : Nat := 1211
def srcObjects : Nat := 1212
def srcAtu : Nat := 1213
def srcSecurity : Nat := 1214
def srcTest : Nat := 1215
def srcFuse : Nat := 1216
/-- Source of EV_LOST: hub island H.EVT (R451). -/
def srcEvt : Nat := 1209
/-- TAG of an event that concerns the device. -/
def tagDevice : Nat := 0x3FF

/-! ### Raising (R449, R450, R454, R455) -/

def State.evq (s : State) (tag : Nat) : EvQueue := tget s.evt.queues tag {}
def State.modEvq (s : State) (tag : Nat) (f : EvQueue → EvQueue) : State :=
  { s with evt := { s.evt with queues := tmod s.evt.queues tag {} f } }

/-- Recipients of a route, with COPY (R450). -/
def State.recipients (s : State) (route : Route) (owner : Nat) : List (Nat × Bool) :=
  match route with
  | .I => [(owner, false)]
  | .O | .B =>
    if owner = 0 || owner > 287 then [(0, false)]
    else if isSlice owner then [(owner, false)]
    else [(owner, false), (0, true)]
  | .P => [(0, false)]
  | .A => s.enabledTags.map (fun t => (t, false))

/-- A masked record is counted for the mask's holder (R454, R455). -/
def State.countMasked (s : State) (tag : Nat) : State :=
  s.modEvq tag (fun q => { q with masked := satAdd (2 ^ 32 - 1) q.masked 1 })

/-- Put a raise behind those of earlier times and, within one time, behind those of lower or equal source (R449). -/
def insertRaise (r : Raise) : List Raise → List Raise
  | [] => [r]
  | q :: l => if q.at_ = r.at_ && decide (r.source < q.source) then r :: q :: l else q :: insertRaise r l

/-- An event is raised: masked sources and codes are counted, the rest waits for the fabric to write
its records (R449, R450, R454, R455). -/
def State.raiseTo (s : State) (code source tag : Nat) (data : Word) (ext : Option (Word × Word × Word))
    (rcpt : List (Nat × Bool)) : State :=
  let u := evU code
  if s.evt.srcMask.contains source && !u then s.countMasked 0 else
    let blocked (p : Nat × Bool) : Bool :=
      !u && (if p.2 then (s.evq 0).copyMask.contains code else (s.evq p.1).mask.contains code)
    let s := (rcpt.filter blocked).foldl (fun s p => s.countMasked p.1) s
    let keep := rcpt.filter (fun p => !blocked p)
    if keep.isEmpty then s else
      let r : Raise := { code, source, tag, at_ := s.now, rcpt := keep, sec := s.sec32, ns := s.servedNs, data, ext }
      if source = srcSteward && s.mbx.state == .restarting then { s with evt := { s.evt with heldBack := s.evt.heldBack ++ [r] } }
      else { s with evt := { s.evt with raised := insertRaise r s.evt.raised } }

/-- An event of Table 18-4 is raised: code, source, owner of route I, O or B, TAG, DATA. -/
def State.raise (s : State) (code source owner tag : Nat) (data : Nat)
    (ext : Option (Word × Word × Word) := none) : State :=
  match evInfo code with
  | none => s
  | some (route, _, _) =>
    (s.emitOut (.console "event" code)).raiseTo code source tag (wd data) ext (s.recipients route owner)

/-- An event about the device for the PF or for every enabled tag. -/
def State.raiseDev (s : State) (code source data : Nat) (ext : Option (Word × Word × Word) := none) : State :=
  s.raise code source 0 tagDevice data ext

/-! ### Records (R447, R448, R451, R453) -/

/-- Queue that receives a recipient's records: a slice's is the PF's (R450). -/
def queueOf (tag : Nat) : Nat := if isSlice tag then 0 else tag

/-- STAMP (Table 18-2). -/
def stampOf (sec ns : Nat) : Nat := sec % 4096 * 2 ^ 20 + ns / 1000

/-- 16 bytes of a record (Table 18-2). -/
def recordBytes (code flags count source tag stamp : Nat) (data : Word) : List Byte :=
  toLe 2 code ++ toLe 1 flags ++ toLe 1 count ++ toLe 2 source ++ toLe 2 tag ++ toLe 4 stamp ++ toLe 4 data.toNat

/-- 16 bytes of a continuation: CODE 0x0E01, COUNT 0, bytes 4 to 15 the extended data (R447). -/
def contBytes (phase : Bool) (e : Word × Word × Word) : List Byte :=
  toLe 2 0x0E01 ++ toLe 1 (b2n phase) ++ toLe 1 0 ++ toLe 4 e.1.toNat ++ toLe 4 e.2.1.toNat ++ toLe 4 e.2.2.toNat

/-- Free entries of a queue. -/
def EvQueue.free (q : EvQueue) : Nat := 2 ^ q.log2 - q.used

/-- A record lost at a queue (R449, R451). -/
def State.loseRecord (s : State) (q : Nat) (n : Nat := 1) (due : Bool := false) : State :=
  let s := s.modEvq q (fun e =>
    { e with lostPending := satAdd (2 ^ 32 - 1) e.lostPending n, lost := satAdd (2 ^ 32 - 1) e.lost n
             lostDue := e.lostDue || due })
  { s with evt := { s.evt with lostTotal := satAdd (2 ^ 32 - 1) s.evt.lostTotal n } }

/-- The tail moves past one entry, and PHASE inverts at the wrap (R448). -/
def EvQueue.push (q : EvQueue) : EvQueue :=
  if q.tail + 1 = 2 ^ q.log2 then { q with tail := 0, phase := !q.phase, used := q.used + 1 }
  else { q with tail := q.tail + 1, used := q.used + 1 }

/-- An entry is written at the tail; `flags` lacks PHASE. -/
def State.writeEntry (s : State) (q : Nat) (bytes : Bool → List Byte) : State :=
  let e := s.evq q
  (s.dmaPhaseLast q (e.base + 16 * e.tail) (bytes e.phase) 2).modEvq q EvQueue.push

/-- A recipient's vector is signalled for its records, or waits for the holdoff's end; a slice has a holdoff of its own,
apart from the PF's (R453). -/
def State.evSignal (s : State) (rcpt v : Nat) : State :=
  let hold := s.insN rcpt 0x0E02 * 1000
  let sent (s : State) : State := (s.signal rcpt v).modEvq rcpt (fun e =>
    { e with holdoff := if hold = 0 then terase e.holdoff v else tset e.holdoff v (s.now + hold, false) })
  match tfind (s.evq rcpt).holdoff v with
  | some (ends, _) =>
    if s.now < ends then s.modEvq rcpt (fun e => { e with holdoff := tset e.holdoff v (ends, true) }) else sent s
  | none => sent s

/-- EV_LOST of a queue, with the records lost since the one before (R451). -/
def State.writeLost (s : State) (q : Nat) : State :=
  let e := s.evq q
  if e.lostPending = 0 || !e.active || !s.bme q || decide (e.free < 1) then s else
    let s := s.writeEntry q (fun ph =>
      recordBytes 0x0E02 (b2n ph) 1 srcEvt q (stampOf s.servedSec s.servedNs) (wd e.lostPending))
    let s := s.modEvq q (fun e => { e with lostPending := 0, lostDue := false })
    s.evSignal q e.vector

/-- A record, with its continuation if it has one, reaches a recipient's queue (R448, R449, R451). -/
def State.writeRecord (s : State) (r : Raise) (rcpt : Nat) (copy : Bool) (fault : Option Nat) : State :=
  let q := queueOf rcpt
  let e := s.evq q
  if isSlice rcpt && !s.enabled rcpt then s
  else if !e.active || !s.bme q then s.loseRecord q 1 true
  else match fault with
    | some _ => s.loseRecord q 1 true
    | none =>
      let s := if e.lostDue then s.writeLost q else s
      let e := s.evq q
      let need := if r.ext.isSome then 2 else 1
      if e.lostDue || decide (e.free < need + 1) then s.loseRecord q else
        let tag := if isSlice rcpt then rcpt else r.tag
        let flags := 2 * b2n r.ext.isSome + 4 * b2n copy + 8 * b2n r.coalesced
        let first (ph : Bool) := recordBytes r.code (b2n ph + flags) (min 255 r.count) r.source tag (stampOf r.sec r.ns) r.data
        let s := match r.ext with
          | none => s.writeEntry q first
          | some x =>
            -- the continuation is written first (R448)
            let e2 := e.push
            ((s.dmaPhaseLast q (e.base + 16 * e2.tail) (contBytes e2.phase x) 2).dmaPhaseLast q (e.base + 16 * e.tail) (first e.phase) 2).modEvq q
              (fun e => e.push.push)
        s.evSignal rcpt (if isSlice rcpt then (s.inst rcpt).notify else e.vector)

end Sys2Proof.Machine
end

