-- ==== Sys2Proof/Machine/Operands.lean ====
section
/-! DEFINITION. The command envelope: where a command's operands lie, the order of its checks, and its
reply (Tables 2-7 to 2-9, R53 to R56, R540 to R542; R405, R472). -/

namespace Sys2Proof.Machine

/-! ### Translation faults (R108, Tables 4-6, 4-7) -/

/-- The cause with which an access faults: RANGE first, then NO_TABLES, then what the walk found (R108). -/
def State.xlateCause (s : State) (tag iova len : Nat) (walk : Option Nat) : Option Nat :=
  if len = 0 then none
  else if iova + len > 2 ^ 33 then some 1
  else if (s.inst tag).root.isNone then some 7
  else walk

/-- INS_FAULT_GET's info word (04 Commands). -/
def faultInfo (cause : Nat) (write : Bool) (source tag : Nat) : Nat :=
  cause * 2 ^ 28 + b2n write * 2 ^ 27 + source * 2 ^ 24 + tag

/-- A translation fault is logged and raised (R108); one of an event queue write goes to the PF only. -/
def State.xlateFault (s : State) (tag iova cause : Nat) (write : Bool) (source : Nat) : State :=
  let r : XlateFault := { iova, cause, write, source, sec := s.sec32, ns := s.servedNs }
  let s := s.modInst tag (fun i =>
    if i.faults.length < 8 then { i with faults := i.faults ++ [r] }
    else { i with faultsLost := satAdd 255 i.faultsLost 1 })
  let info := faultInfo cause write source tag
  if source = 2 then s.raiseTo 0x0301 srcAtu tag (wd info) none (if tag = 0 then [] else [(0, !isSlice tag)])
  else s.raise 0x0301 srcAtu tag tag info

/-! ### What a command answers -/

/-- What a command's body answers. -/
inductive Answer where
  /-- A reply: status and result words -/
  | reply (status : Nat) (results : List Word) (s : State)
  /-- The reply waits (R85, R114, R138) -/
  | hold (w : HeldFor) (status : Nat) (results : List Word) (s : State)
  /-- The command never replies: a restart or a reset completes it -/
  | silent (s : State)

/-- A reply without results. -/
def Answer.status (st : Nat) (s : State) : Answer := .reply st [] s
/-- ST_OK. -/
def Answer.ok (results : List Word) (s : State) : Answer := .reply 0 results s

/-- One block command of a chapter's table. -/
structure CmdDef where
  code : Nat
  /-- Argument words; GEN_PING takes any number (R540) -/
  argc : Nat
  /-- A tenant may run it (Table 2-10 and the chapters) -/
  tenant : Bool
  /-- Staged (R68) -/
  staged : Bool := false
  /-- Bits of each argument word that its table assigns; a word not listed is assigned whole (R541) -/
  masks : List Nat := []
  /-- Runs in the ZEROISED and DECOMMISSIONED states (R405, R472) -/
  always : Bool := false
  /-- May reply ST_PENDING (R51) -/
  pend : Bool := false
  /-- The PF may name what the arguments name, where a chapter narrows its right (R58) -/
  pfMay : List Word → Bool := fun _ => true

/-- The lifecycle step in use: its bits in three copies (Table 19-2). -/
def lifecycleOf (w : Word) : Nat :=
  let step (k : Nat) := bit w (k - 1) || bit w (k + 7) || bit w (k + 15)
  if step 3 then 3 else if step 2 then 2 else if step 1 then 1 else 0

/-- A fuse word's value in use. -/
def State.fuse (s : State) (w : Nat) : Word := tget s.lcy.use w 0
/-- The lifecycle state (R472). -/
def State.lifecycle (s : State) : Nat := lifecycleOf (s.fuse 0)

/-- Number of the highest step of a thermometer word (R465). -/
def thermo (w : Word) : Nat := if w.toNat = 0 then 0 else Nat.log2 w.toNat + 1
/-- Fuse rollback step, 0 to 64 (Table 19-2). -/
def State.rollbackStep (s : State) : Nat :=
  if s.fuse 2 = 0 then thermo (s.fuse 1) else 32 + thermo (s.fuse 2)
/-- ZCOUNT and ENROLS steps (Table 19-2). -/
def State.zcount (s : State) : Nat := thermo (s.fuse 3)
def State.enrols (s : State) : Nat := thermo (s.fuse 4)

/-- Area rights of a tenant: every area bit set until a commit withdraws one (R59, R112). -/
def State.rights (s : State) (tag : Nat) : BitVec 16 := tget s.cfg.rights tag 0x7FFE

/-- The caller's open manifest (R69). -/
def State.openMan (s : State) (tag : Nat) : Option (Nat × Manifest) :=
  s.man.mans.find? (fun p => p.2.tag = tag ∧ p.2.state = .open_)

/-- Where a command's arguments lie, if its length suits (R53, R540): none when it does not. -/
def argsOf (d : CmdDef) (p : Page) (io : HostIo) : Option (List Word) :=
  let b0 := p.blk.getD 0 0
  let argc := fld b0 7 4
  let ping := d.code = 0x0103
  if bit b0 0 then
    let len := fld (p.blk.getD 3 0) 31 0
    if argc = 3 ∧ len % 4 = 0 ∧ (if ping then 4 ≤ len ∧ len ≤ 60 else len = 4 * d.argc ∧ 0 < d.argc) then
      some ((io.ind ++ List.replicate (len / 4) 0).take (len / 4))
    else none
  else if ping ∨ argc = d.argc then some ((p.blk.drop 1).take argc) else none

/-- Cause with which the indirect buffer faults, if it does (R53). -/
def State.indCause (s : State) (tag : Nat) (p : Page) (io : HostIo) : Option Nat :=
  if bit (p.blk.getD 0 0) 0 then
    s.xlateCause tag (ofTwo (p.blk.getD 1 0) (p.blk.getD 2 0)) (fld (p.blk.getD 3 0) 31 0) io.indFault
  else none

/-- A reserved argument bit is set (R541). -/
def reservedSet (masks : List Nat) (args : List Word) : Bool :=
  (List.range args.length).any (fun i =>
    (args.getD i 0).toNat &&& (masks.getD i 0xFFFFFFFF) ≠ (args.getD i 0).toNat)

/-- Status of the lifecycle check, step 5 of Table 2-9 (R405, R472). -/
def State.lifecycleStatus (s : State) (d : CmdDef) : Option Nat :=
  if d.always then none
  else if s.lifecycle = 3 then some 0x001E
  else if s.sec.zeroised then some 0x0D08
  else none

/-- Steps 2 to 8 of Table 2-9 as far as they do not depend on the command: a status, or the arguments.
`own` says whether the arguments name only what the caller may name (R58, R545); `needs` whether a
live-class command is staged for these arguments (R542). -/
def State.precheck (s : State) (d : CmdDef) (own : List Word → Bool) (needs : List Word → Bool)
    (tag : Nat) (io : HostIo) : Except (Nat × State) (List Word) :=
  let p := s.page tag
  let b0 := p.blk.getD 0 0
  let area := d.code / 256
  let args := argsOf d p io
  let ind := s.indCause tag p io
  let names (f : List Word → Bool) : Bool := match args, ind with | some a, none => f a | _, _ => true
  let denied := if isPf tag then !names d.pfMay else !d.tenant || !(s.rights tag).getLsbD area || !names own
  if fld b0 3 2 ≠ 0 then .error (0x0013, s)
  else if denied then .error (0x0014, s)
  else match s.lifecycleStatus d with
    | some st => .error (st, s)
    | none =>
      match args with
      | none => .error (0x0011, s)
      | some a =>
        if (d.staged || (ind.isNone && needs a)) && (s.openMan tag).isNone then .error (0x001D, s)
        else match ind with
          | some c =>
            .error (0x001C, s.xlateFault tag (ofTwo (p.blk.getD 1 0) (p.blk.getD 2 0)) c false 5)
          | none => if reservedSet d.masks a then .error (0x0013, s) else .ok a

/-- The part of a ticket's work that a command leaves for later (R51). -/
def State.defer (s : State) (d : CmdDef) (tag : Nat) (args : List Word) : Nat × State :=
  let k := s.mbx.nextTicket
  let seq := fld ((s.page tag).blk.getD 0 0) 15 8
  (k, { s with mbx := { s.mbx with
        tickets := tset s.mbx.tickets k { tag, code := d.code, seq, args, at_ := s.now }
        nextTicket := if k + 1 < 2 ^ 16 then k + 1 else 1 } })

/-- A TAKEN command of a page with a code is there for the steward to run. -/
def State.ready (s : State) (tag code : Nat) : Bool :=
  let p := s.page tag
  s.mbx.state == .serving && p.taken && s.mbx.held.isNone && fld (p.blk.getD 0 0) 31 16 == code

/-- Step 1 of Table 2-9: the stored reply, if SEQ equals the stored SEQ (R54). -/
def State.replay (s : State) (tag : Nat) : Option State :=
  let seq := fld ((s.page tag).blk.getD 0 0) 15 8
  match (s.cmdRec tag).stored with
  | some (q, words) =>
    if q = seq then
      some ((s.writeReply tag ((words.getD 0 0 ||| 1) :: words.drop 1)).count 3 tag 0)
    else none
  | none => none

/-- What the steward does with a body's answer. -/
def State.answer (tag : Nat) : Answer → State
  | .reply st rs s => (s.complete tag st rs).take
  | .hold w st rs s => { s with mbx := { s.mbx with held := some { tag, status := st, results := rs, wait := w } } }
  | .silent s => s

/-- A block command with its envelope: the checks of Table 2-9, then the body, then the reply.
`pre` is the body's first failing check when the work is put off, or what putting it off changes at once (R51). -/
def State.runWith (s : State) (d : CmdDef) (own needs : List Word → Bool)
    (pre : List Word → State → Except Nat State) (body : List Word → State → Answer) (t tag : Nat) (io : HostIo) : State :=
  let s := s.tick t
  if !s.ready tag d.code then s else
    match s.replay tag with
    | some s' => s'.take
    | none =>
      match s.precheck d own needs tag io with
      | .error (st, s') => (s'.complete tag st []).take
      | .ok a =>
        if d.pend && io.slow then
          match pre a s with
          | .error st => (s.complete tag st []).take
          | .ok s' =>
            let (k, s') := s'.defer d tag a
            (s'.complete tag 0x0001 [wd k]).take
        else State.answer tag (body a s)

/-- A work put off that a status bars, or that changes nothing at once. -/
def barOf (b : Option Nat) (s : State) : Except Nat State := match b with | some st => .error st | none => .ok s

/-- A block command that always runs at once and whose own arguments name nothing of others. -/
def State.run (s : State) (d : CmdDef) (body : List Word → State → Answer) (t tag : Nat) (io : HostIo) : State :=
  s.runWith d (fun _ => true) (fun _ => false) (fun _ s => .ok s) body t tag io

/-- Argument word i, counted from 1 as MBX_BLKi counts. -/
def arg (a : List Word) (i : Nat) : Word := a.getD (i - 1) 0

/-- A handle in four consecutive words, low word first, from BLKi. -/
def argHandle (a : List Word) (i : Nat) : BitVec 128 :=
  BitVec.ofNat 128 (ofTwo (arg a i) (arg a (i + 1)) + 2 ^ 64 * ofTwo (arg a (i + 2)) (arg a (i + 3)))

/-- The words of a handle. -/
def handleWords (h : BitVec 128) : List Word := twoWords h.toNat ++ twoWords (h.toNat / 2 ^ 64)

end Sys2Proof.Machine
end

