-- ==== Sys2Proof/Machine/Checks.lean ====
section
/-! DEFINITION. The commit checks of Table 3-4, over the configuration that would result (R75), with the
checks that each chapter lists for its items. -/

namespace Sys2Proof.Machine

/-! ### Items and their application -/

/-- Selector of a parameter (02 General-area commands). -/
def paramKey (tag id : Nat) : Nat := tag * 65536 + id

/-- Items that an operation touches (03 Model). -/
def StagedOp.items : StagedOp → List Item
  | .param k _ => [⟨.param, k⟩]
  | .rights t _ => [⟨.rights, t⟩]
  | .mpuMode m _ => [⟨.mpuMode, m⟩]
  | .mpuRegion m r _ => [⟨.mpuRegion, 32 * m + r⟩]
  | .laneBind l _ | .laneUnbind l => [⟨.lane, l⟩]
  | .segEnable n _ => [⟨.segment, n⟩]
  | .fareTable t _ => [⟨.table, t⟩]
  | .keyBind t b => [⟨.fareKey, ((t * 8 + b.role) * 2 ^ 32 + b.issuer) * 2 ^ 16 + b.keyId⟩]
  | .denyDelta t _ | .denySwap t => [⟨.denylist, t⟩]
  | .castePlan _ => [⟨.castePlan, 0⟩]
  | .cartBind n _ => [⟨.cartBind, n⟩]
  | .cartFormat n .. => [⟨.cartFormat, n⟩]
  | .cartErase n => [⟨.cartErase, n⟩]
  | .timeDomain n _ => [⟨.timeDomain, n⟩]
  | .timeMaster n _ => [⟨.timeMaster, n⟩]
  | .audRx n _ => [⟨.audRx, n⟩]
  | .audTx n _ => [⟨.audTx, n⟩]
  | .audBus n _ => [⟨.audBus, n⟩]
  | .audTdm n _ => [⟨.audTdm, n⟩]
  | .clips t .. => [⟨.clipSet, t⟩]
  | .netPort n _ => [⟨.netPort, n⟩]
  | .netIf n _ => [⟨.netIf, n⟩]
  | .netRules e f rs => (List.range rs.length).map (fun i => ⟨if e then .egress else .ingress, f + i⟩)
  | .netQueue p q _ => [⟨.netQueue, p * 16 + q⟩]
  | .keyImport k _ => [⟨.key, k⟩]
  | .loops _ => [⟨.loops, 0⟩]
  | .debugArm => [⟨.debug, 0⟩]

/-- Version of an item (03 Model). -/
def State.version (s : State) (i : Item) : Nat :=
  match s.man.versions.find? (fun p => p.1 = i) with
  | some p => p.2
  | none => 0

/-- A denylist with one addition or removal merged in ascending key order (R229). -/
def denyMerge (l : List DenyEntry) (e : DenyEntry) (remove : Bool) : List DenyEntry :=
  match l with
  | [] => if remove then [] else [e]
  | d :: r =>
    if d.key = e.key then (if remove then r else e :: r)
    else if e.key < d.key then (if remove then d :: r else e :: d :: r)
    else d :: denyMerge r e remove

/-- The seven probes of a key in a filter of 2^n bits (R227). -/
def bloomProbes (key n : Nat) : List Nat :=
  let h1 := key / 2 ^ 96
  let h2 := (key / 2 ^ 64 % 2 ^ 32) ||| 1
  (List.range 7).map (fun i => (h1 + i * h2) % 2 ^ n)

/-- A filter with the bits of a key set. -/
def bloomAdd (bits : List Nat) (key n : Nat) : List Nat := (bloomProbes key n).foldl linsert bits

/-- Every probe bit of a key is 1 (R228). -/
def bloomHit (d : DenyList) (key : Nat) : Bool := (bloomProbes key d.log2).all (fun b => d.bloom.contains b)

/-- A denylist with a delta merged (R229). -/
def DenyList.delta (d : DenyList) (es : List (DenyEntry × Bool)) : DenyList :=
  es.foldl (fun d e =>
    { d with entries := denyMerge d.entries e.1 e.2
             bloom := if e.2 then d.bloom else bloomAdd d.bloom e.1.key d.log2 }) d

/-- A denylist whose filter is made anew with 2^n bits. -/
def DenyList.resize (d : DenyList) (n : Nat) : DenyList :=
  { d with log2 := n, bloom := d.entries.foldl (fun b e => bloomAdd b e.key n) [] }

/-- A denylist empty, with the filter size of its tenant. -/
def Cfg.emptyDeny (c : Cfg) (t : Nat) : DenyList := { log2 := (c.param t 0x0604).toNat }

/-- The denylist of a tenant in a page set. -/
def Cfg.deny (c : Cfg) (t : Nat) : DenyList := tget c.denies t (c.emptyDeny t)

/-- Rules put at rising indexes. -/
def putRules (t : Tbl (List Byte)) (first : Nat) : List (List Byte) → Tbl (List Byte)
  | [] => t
  | r :: rs => putRules (tset t first r) (first + 1) rs

/-- A page set with an operation applied (R75); `sh` holds the shadow denylists (R229). -/
def applyOp (sh : Tbl Shadow8) (c : Cfg) : StagedOp → Cfg
  | .param k v =>
    let c' := { c with params := tset c.params k v }
    if k % 65536 = 0x0604 && tmem c.denies (k / 65536) && (c.deny (k / 65536)).log2 ≠ v.toNat then
      { c' with denies := tset c.denies (k / 65536) ((c.deny (k / 65536)).resize v.toNat) }
    else c'
  | .rights t a => { c with rights := tset c.rights t a }
  | .mpuMode m l => { c with mpuMode := tset c.mpuMode m l }
  | .mpuRegion m r d => { c with mpuRegions := tset c.mpuRegions (32 * m + r) d }
  | .laneBind l b => { c with lanes := tset c.lanes l b }
  | .laneUnbind l => { c with lanes := terase c.lanes l }
  | .segEnable n on => { c with segs := lput c.segs n on }
  | .fareTable t f => { c with tables := tset c.tables t f }
  | .keyBind t b =>
    let ks := (tget c.keys t []).filter (fun k => ¬(k.role = b.role ∧ k.issuer = b.issuer ∧ k.keyId = b.keyId))
    { c with keys := tset c.keys t (ks ++ [b]) }
  | .denyDelta t es => { c with denies := tset c.denies t ((c.deny t).delta es) }
  | .denySwap t => match tfind sh t with
    | some x => { c with denies := tset c.denies t x.list }
    | none => c
  | .castePlan p => { c with plan := p }
  | .cartBind n b => { c with carts := match b with | some b => tset c.carts n b | none => terase c.carts n }
  | .timeDomain n d => { c with domains := tset c.domains n d }
  | .timeMaster n m => { c with masters := tset c.masters n m }
  | .audRx n x => { c with rx := tset c.rx n x }
  | .audTx n x => { c with tx := tset c.tx n x }
  | .audBus n x => { c with buses := if x.all (fun b => b.kind = 0) then terase c.buses n else tset c.buses n x }
  | .audTdm n x => { c with tdm := tset c.tdm n x }
  | .clips t n x => { c with clips := tset c.clips t x, clipSerials := tset c.clipSerials t n }
  | .netPort n x => { c with ports := tset c.ports n x }
  | .netIf n x => { c with ifs := tset c.ifs n x }
  | .netRules e f rs => if e then { c with egress := putRules c.egress f rs } else { c with ingress := putRules c.ingress f rs }
  | .netQueue p q x => { c with queues := tset c.queues (p * 16 + q) x }
  | .cartFormat .. | .cartErase _ | .keyImport .. | .loops _ | .debugArm => c

/-- Entries of a manifest with those that a later entry on the same item overrides left out (R74).
A denylist's deltas all count, in order: each is a change of the one item by its own keys. -/
def effective (es : List Entry) : List Entry :=
  let rec go : List Entry → List Entry
    | [] => []
    | e :: r =>
      let touched := r.flatMap (fun x => match x.op with | .denyDelta .. => [] | _ => x.op.items)
      let keep := match e.op with
        | .netRules .. => true
        | _ => !e.op.items.all (fun i => touched.contains i)
      if keep then e :: go r else go r
  go es

/-- The configuration in force with every entry applied (R75). -/
def State.resulting (s : State) (m : Manifest) : Cfg :=
  (effective m.entries).foldl (fun c e => applyOp s.fare.shadows c e.op) s.cfg

/-! ### Steps 1 to 7 -/

/-- A failed check: its status and the items that fail. -/
abbrev CheckFail := Nat × (Item → Bool)

/-- Tags that an operation names (Table 3-4 step 1). -/
def StagedOp.names : StagedOp → List Nat
  | .param k _ => match paramDef (k % 65536) with
    | some p => if p.inst then [k / 65536] else []
    | none => []
  | .rights t _ => [t]
  | .mpuRegion _ _ r => if r.valid && r.matchTag then [r.tag] else []
  | .laneBind _ b => b.tenants
  | .fareTable t _ | .keyBind t _ | .denyDelta t _ | .denySwap t | .clips t .. => [t]
  | .cartBind _ (some b) => [b.tenant]
  | _ => []

/-- Step 1: every tag an entry names is enabled. -/
def State.checkTargets (s : State) (m : Manifest) : Option CheckFail :=
  match m.entries.find? (fun e => e.op.names.any (fun t => t ≤ 287 && !s.enabled t)) with
  | some e => some (0x0209, fun i => e.op.items.contains i)
  | none => none

/-- Items reserved by scheduled and frozen manifests other than one (R76). -/
def State.reserved (s : State) (id : Nat) : List Item :=
  s.man.mans.flatMap (fun p =>
    if p.1 ≠ id && (p.2.state = .scheduled || p.2.state = .frozen) then p.2.entries.flatMap (fun e => e.op.items) else [])

/-- Step 2: no item's version has moved and none is reserved (R76). -/
def State.checkConflict (s : State) (id : Nat) (m : Manifest) : Option CheckFail :=
  let res := s.reserved id
  let bad (p : Item × Nat) : Bool := s.version p.1 ≠ p.2 || res.contains p.1
  match (m.entries.flatMap (fun e => e.items)).find? bad with
  | some p => some (0x0204, fun i => i = p.1)
  | none => none

/-- Layered mode of an MPU: Table 13-1 until a commit sets it. -/
def Cfg.layered (c : Cfg) (mpu : Nat) : Bool := tget c.mpuMode mpu (decide (2 ≤ mpu))

/-- Region of an MPU: 0 to 23 from the page set, 24 to 31 from the firmware (R341). -/
def State.region (s : State) (c : Cfg) (mpu r : Nat) : Region :=
  if r < 24 then tget c.mpuRegions (32 * mpu + r) {} else tget s.mem.fwRegions (32 * mpu + r) {}

/-- Shape of a region (R345, R347). -/
def Region.shapeOk (r : Region) (layered : Bool) : Bool :=
  r.sizeLog2 ≤ 35 && (r.base * 256) % 2 ^ r.sizeLog2 = 0 &&
    (if layered then decide (11 ≤ r.sizeLog2) else decide (12 ≤ r.sizeLog2) && r.srd = 0)

/-- Step 3. -/
def Cfg.checkShape (c : Cfg) : Option CheckFail :=
  match c.mpuRegions.find? (fun p => p.2.valid && !p.2.shapeOk (c.layered (p.1 / 32))) with
  | some p => some (0x0206, fun i => i = ⟨.mpuRegion, p.1⟩)
  | none => none

/-- Two regions of one strict MPU overlap (R346). -/
def Region.overlaps (a b : Region) : Bool :=
  a.valid && b.valid && (!a.matchTag || !b.matchTag || a.tag = b.tag) &&
    decide (a.base * 256 < b.base * 256 + 2 ^ b.sizeLog2) && decide (b.base * 256 < a.base * 256 + 2 ^ a.sizeLog2)

/-- Step 4. -/
def State.checkOverlap (s : State) (c : Cfg) : Option CheckFail :=
  let bad (mpu : Nat) : Option Nat :=
    if c.layered mpu then none else
      (List.range 32).find? (fun i => (List.range 32).any (fun j => i ≠ j && (s.region c mpu i).overlaps (s.region c mpu j)))
  match (List.range 6).findSome? (fun mpu => (bad mpu).map (fun r => 32 * mpu + r)) with
  | some k => some (0x0205, fun i => i = ⟨.mpuRegion, k⟩ || i = ⟨.mpuMode, k / 32⟩)
  | none => none

/-- Minimum of caste k in the order of the plan. -/
def Cfg.casteMin (c : Cfg) (k : Nat) : Nat := (c.plan.getD k (0, 0)).1
def Cfg.casteMax (c : Cfg) (k : Nat) : Nat := (c.plan.getD k (0, 0)).2

/-- Cells present and not quarantined. -/
def State.usableCells (s : State) : Nat :=
  (s.sea.cells.filter (fun p => p.2.state ≠ .absent ∧ p.2.state ≠ .quarantined)).length

/-- Step 5. -/
def State.checkCastes (s : State) (c : Cfg) : Option CheckFail :=
  let bad := c.plan.any (fun p => decide (p.2 < p.1)) ||
    decide (s.usableCells < c.plan.foldl (fun a p => a + p.1) 0) ||
    (!c.lanes.isEmpty && c.casteMin 0 = 0)
  if bad then some (0x0207, fun i => i = ⟨.castePlan, 0⟩) else none

/-- Step 6. -/
def Cfg.checkLanes (c : Cfg) : Option CheckFail :=
  let bad (p : Nat × LaneBind) : Bool :=
    decide (127 < p.1) || p.2.tenants.isEmpty || p.2.tenants.any (fun t => !tmem c.tables t)
  match c.lanes.find? bad with
  | some p => some (0x0208, fun i => i = ⟨.lane, p.1⟩)
  | none => none

/-- Step 7: session-slot shares within 768 (R115), Bloom filters within 2 MiB (R239). -/
def State.checkPools (s : State) (c : Cfg) : Option CheckFail :=
  let mins : Nat := (s.enabledTags.map (fun t => (c.param t 0x0303).toNat)).foldl (· + ·) 0
  let bloom : Nat := (c.denies.map (fun p => 2 ^ p.2.log2)).foldl (· + ·) 0 +
    (s.fare.shadows.map (fun p => 2 ^ p.2.list.log2)).foldl (· + ·) 0
  if 768 < mins then some (0x0017, fun i => i.kind = .param && i.n % 65536 = 0x0303)
  else if 2 ^ 24 < bloom then
    some (0x0017, fun i => i.kind = .denylist || (i.kind = .param && i.n % 65536 = 0x0604))
  else none

/-! ### Step 8 -/

/-- R544: the relations between parameters. -/
def Cfg.checkRelations (c : Cfg) : Option CheckFail :=
  let p := c.param 0
  let on (a b : Nat) (i : Item) : Bool := i = ⟨.param, a⟩ || i = ⟨.param, b⟩
  if p 0x0CC4 < p 0x0CC3 + 8 then some (0x0102, on 0x0CC3 0x0CC4)
  else if p 0x0CC1 < p 0x0CC2 then some (0x0102, on 0x0CC1 0x0CC2)
  else if p 0x0C01 ≤ p 0x0C02 then some (0x0102, on 0x0C01 0x0C02)
  else none

/-- Segment and unit address of a lane (R15). -/
def laneSeg (lane : Nat) : Nat := lane / 16
def laneAddr (lane : Nat) : Nat := lane % 16 + 1

/-- R181, R219, R224, R234: bound lanes. -/
def Cfg.checkBindings (c : Cfg) : Option CheckFail :=
  let at_ (l : Nat) (i : Item) : Bool := i = ⟨.lane, l⟩
  let apps (t : Nat) : Nat := match tfind c.tables t with | some f => f.apps.length | none => 0
  let issuers (b : LaneBind) : List Nat :=
    b.tenants.flatMap (fun t => match tfind c.tables t with | some f => f.issuers.eraseDups | none => [])
  let journal (t : Nat) : Bool := (tget c.keys t []).any (fun k => k.role = 4)
  let one (p : Nat × LaneBind) : Option CheckFail :=
    if !c.segs.contains (laneSeg p.1) then
      some (0x0506, fun i => at_ p.1 i || i = ⟨.segment, laneSeg p.1⟩)
    else if 8 < (p.2.tenants.map apps).foldl (· + ·) 0 then
      some (0x0608, fun i => at_ p.1 i || p.2.tenants.any (fun t => i = ⟨.table, t⟩))
    else if (issuers p.2).eraseDups.length ≠ (issuers p.2).length then
      some (0x0609, fun i => at_ p.1 i || p.2.tenants.any (fun t => i = ⟨.table, t⟩))
    else if !p.2.tenants.all journal || !journal 0 then some (0x060A, at_ p.1)
    else none
  c.lanes.findSome? one

/-- State of a cartridge slot. -/
def State.slotState (s : State) (n : Nat) : CartState := (tget s.cart n {}).state

/-- R252, R262: formats and forced erases. -/
def State.checkCarts (s : State) (m : Manifest) : Option CheckFail :=
  let bad (e : Entry) : Bool := match e.op with
    | .cartFormat n .. => !([CartState.ready, .unformatted, .foreign].contains (s.slotState n))
    | .cartErase n => s.slotState n ≠ .locked
    | _ => false
  match m.entries.find? bad with
  | some e => some (0x0702, fun i => e.op.items.contains i)
  | none => none

/-- R286: no two clocks or roles on one port and domain. -/
def Cfg.checkTime (c : Cfg) : Option CheckFail :=
  let on := c.domains.filter (fun p => p.2.enable)
  let two := on.any (fun p => on.any (fun q => p.1 ≠ q.1 && p.2.port = q.2.port && p.2.domain = q.2.domain))
  let mast := c.masters.find? (fun p => p.2.enable && on.any (fun q => q.2.port = p.1 && q.2.domain = p.2.domain))
  if two then some (0x0803, fun i => i.kind = .timeDomain)
  else if mast.isSome then some (0x0803, fun i => i.kind = .timeMaster || i.kind = .timeDomain)
  else none

/-- Sample rate in kHz of a page set. -/
def Cfg.rate (c : Cfg) : Nat := (c.param 0 0x0901).toNat
/-- Samples of a packet time code (11 Commands). -/
def packetSamples (khz code : Nat) : Nat := if code = 0 then khz / 8 else if code = 1 then khz / 4 else khz
/-- Microseconds of a packet time code. -/
def packetUs (code : Nat) : Nat := if code = 0 then 125 else if code = 1 then 250 else 1000
/-- Link offset in samples. -/
def RxCfg.offsetSamples (x : RxCfg) (khz : Nat) : Nat := x.linkOffset * khz / 8
/-- Samples that a receive stream's buffers take of the pool (R296). -/
def RxCfg.poolSamples (x : RxCfg) (khz : Nat) : Nat :=
  if x.enable then x.channels * (x.offsetSamples khz + 2 * packetSamples khz x.packetTime) else 0
/-- Samples of the pool allotted (R296). -/
def Cfg.poolAllotted (c : Cfg) : Nat := (c.rx.map (fun p => p.2.poolSamples c.rate)).foldl (· + ·) 0
/-- Slots of a TDM frame (Table 11-3). -/
def tdmSlots (khz : Nat) : Nat := if khz = 96 then 8 else 16

/-- A bus source is configured (R306). -/
def Cfg.sourceOk (c : Cfg) (b : BusSource) : Bool :=
  match b.kind with
  | 0 => true
  | 1 => match tfind c.rx (b.index / 8) with
    | some x => x.enable && decide (b.index % 8 < x.channels)
    | none => false
  | 2 => match tfind c.tdm (b.index / 16 % 8) with
    | some x => x.enable && x.input && decide (b.index % 16 < tdmSlots c.rate) && decide (b.index < 128)
    | none => false
  | 3 => decide (b.index < 128)
  | 4 => decide (b.index < 4)
  | _ => false

/-- A bus's output is a slot of an enabled output port, or a transmit channel (R306). -/
def Cfg.busOutOk (c : Cfg) (n : Nat) : Bool :=
  if n < 32768 then
    match tfind c.tdm (n / 16) with
    | some x => x.enable && !x.input && decide (n % 16 < tdmSlots c.rate)
    | none => false
  else true

/-- R289, R296, R306, R313, Table 11-1: audio. -/
def Cfg.checkAudio (c : Cfg) : Option CheckFail :=
  let khz := c.rate
  let cap := if khz = 96 then 32 else 64
  let rx := c.rx.filter (fun p => p.2.enable)
  let tx := c.tx.filter (fun p => p.2.enable)
  let chans (l : List Nat) : Nat := l.foldl (· + ·) 0
  match rx.find? (fun p => decide (p.2.linkOffset * 125 < packetUs p.2.packetTime + 750)) with
  | some p => some (0x0903, fun i => i = ⟨.audRx, p.1⟩)
  | none =>
    if 294912 < c.poolAllotted then some (0x0904, fun i => i.kind = .audRx)
    else if 64 * (c.casteMin 2 / 2) < c.buses.length then
      some (0x0905, fun i => i.kind = .audBus || i.kind = .castePlan)
    else match c.buses.find? (fun p => !c.busOutOk p.1 || p.2.any (fun b => !c.sourceOk b)) with
      | some p => some (0x0906, fun i => i = ⟨.audBus, p.1⟩)
      | none =>
        if decide (cap < rx.length) || decide (cap < tx.length) ||
            rx.any (fun p => decide (cap ≤ p.1)) || tx.any (fun p => decide (cap ≤ p.1)) ||
            decide (4 * cap < chans (rx.map (fun p => p.2.channels))) ||
            decide (4 * cap < chans (tx.map (fun p => p.2.channels))) then
          some (0x0909, fun i => i.kind = .audRx || i.kind = .audTx || i = ⟨.param, 0x0901⟩)
        else none

/-- R338: Ethernet. -/
def Cfg.checkNet (c : Cfg) : Option CheckFail :=
  let modeBad (p : Nat × NetPortCfg) : Bool := p.2.enable && (if p.2.mode = 3 then decide (p.1 < 2) else decide (2 ≤ p.1))
  let clash (p : Nat × NetIfCfg) : Bool := p.2.ipv4 ≠ 0 && c.ifs.any (fun q => p.1 ≠ q.1 && p.2.ipv4 = q.2.ipv4)
  let thr (q : QueueCfg) : Bool := decide (q.red ≤ q.yellow ∧ q.yellow ≤ q.green ∧ q.green ≤ 16384)
  match c.ports.find? modeBad with
  | some p => some (0x0A01, fun i => i = ⟨.netPort, p.1⟩)
  | none => match c.ifs.find? clash with
    | some p => some (0x0A02, fun i => i = ⟨.netIf, p.1⟩)
    | none => match c.queues.find? (fun p => !thr p.2) with
      | some p => some (0x0A05, fun i => i = ⟨.netQueue, p.1⟩)
      | none => none

/-- R390, R445: what DEPLOYED forbids. -/
def State.checkDeployed (s : State) (m : Manifest) (c : Cfg) : Option CheckFail :=
  if s.lifecycle ≠ 2 then none
  else if m.entries.any (fun e => match e.op with | .loops k => s.sec.bat.mask &&& ~~~k ≠ 0 | _ => false) then
    some (0x0D07, fun i => i.kind = .loops)
  else if m.entries.any (fun e => match e.op with | .castePlan _ => true | _ => false) && decide (c.casteMin 4 < 2) then
    some (0x0C05, fun i => i.kind = .castePlan)
  else none

/-- The first of a list of checks that fails, with the number of its step. -/
def firstFail : List (Nat × Option CheckFail) → Option (Nat × CheckFail)
  | [] => none
  | (n, some f) :: _ => some (n, f)
  | (_, none) :: r => firstFail r

/-- Table 3-4 over a manifest: the failing step, status and items, if a check fails (R75). -/
def State.commitChecks (s : State) (id : Nat) (m : Manifest) : Option (Nat × CheckFail) :=
  let c := s.resulting m
  firstFail
    [ (1, s.checkTargets m), (2, s.checkConflict id m), (3, c.checkShape), (4, s.checkOverlap c)
    , (5, s.checkCastes c), (6, c.checkLanes), (7, s.checkPools c), (8, c.checkRelations)
    , (8, c.checkBindings), (8, s.checkCarts m), (8, c.checkTime), (8, c.checkAudio), (8, c.checkNet)
    , (8, s.checkDeployed m c) ]

/-- Result words of a failed commit (R75). -/
def failWords (m : Manifest) (step : Nat) (f : CheckFail) : List Word :=
  let idx := (List.range m.entries.length).reverse.find? (fun k =>
    match m.entries[k]? with | some e => e.op.items.any f.2 | none => false)
  match idx with
  | some k => [wd k, wd ((match m.entries[k]? with | some e => e.code | none => 0) * 2 ^ 16 + step)]
  | none => [0xFFFFFFFF, wd step]

end Sys2Proof.Machine
end

