-- ==== Sys2Proof/Machine/TimeOps.lean ====
section
/-! DEFINITION. Operations of the served clock, its sources and the compare units (10_time.md). -/

namespace Sys2Proof.Machine

/-- A signed count of 2^-16 ns as nanoseconds. -/
def toNs (u : Int) : Int := u / 65536

def State.modTim (s : State) (f : Tim → Tim) : State := { s with tim := f s.tim }
def State.shadow (s : State) (n : Nat) : Shadow := s.tim.shadow n
def State.modShadow (s : State) (n : Nat) (f : Shadow → Shadow) : State :=
  s.modTim (fun t => { t with shadows := tmod t.shadows n {} f })

/-- Residual of a shadow clock in 2^-16 ns (10 Following a shadow clock). -/
def State.residual (s : State) (n : Nat) : Int := (s.shadow n).value - s.tim.served

/-- A signed count of 2^-16 ns lies within a limit in ns. -/
def within (u : Int) (ns : Nat) : Bool := u.natAbs ≤ ns * 65536

def State.modCmp (s : State) (n : Nat) (f : CmpUnit → CmpUnit) : State :=
  s.modTim (fun t => { t with cmps := tmod t.cmps n {} f })
def State.cmp (s : State) (n : Nat) : CmpUnit := tget s.tim.cmps n {}

/-- R267: a served time has reached a target of 32-bit seconds and nanoseconds. -/
def reached (sec ns tsec tns : Nat) : Bool :=
  let ds := sgn 32 (sec + 2 ^ 32 - tsec % 2 ^ 32)
  if ds ≠ 0 then decide (0 < ds) else decide (tns ≤ ns)

/-- R267 for the served clock now. -/
def State.hasReached (s : State) (tsec tns : Nat) : Bool := reached s.sec32 s.servedNs tsec tns

/-- Device time from which the served clock, at its present rate, has reached a target. -/
def State.deadlineOf (s : State) (tsec tns : Nat) : Nat :=
  let ds := sgn 32 (tsec + 2 ^ 32 - s.sec32)
  let d : Int := ds * secUnit + tns * nsUnit - (s.tim.served % secUnit : Nat)
  if d ≤ 0 then s.now
  else s.now + ((d * 1000000000000) / (65536 * (1000000000000 + s.tim.corr)) + 1).toNat

/-! ### Steps of the served clock (R265, R276, R277, R279, R293) -/

/-- A deadline in device time after a step of the served clock (R279). -/
def moveDeadline (u : Int) (d : Nat) : Nat := ((d : Int) - toNs u).toNat

/-- The served clock steps by u (R276, R279, R282, Table 16-1). -/
def State.step (s : State) (u : Int) : State :=
  let new := ((s.tim.served : Int) + u).toNat
  let passed (c : CmpUnit) : Bool :=
    c.armed && !reached s.sec32 s.servedNs c.sec c.ns && reached (secOf new % 2 ^ 32) (nsOf new) c.sec c.ns
  let late := decide (0 < u) && decide (s.tim.served < s.stat.boundary * secUnit) && decide (s.stat.boundary * secUnit ≤ new)
  let moveS (x : Session) : Session :=
    { x with budget := moveDeadline u x.budget, sealBy := x.sealBy.map (moveDeadline u) }
  let fs : Int := (s.cfgOf s.aud.ver).rate
  let s := { s with
    tim := { s.tim with served := new, steps := satAdd (2 ^ 32 - 1) s.tim.steps 1
                        cmps := tmap s.tim.cmps (fun _ c => { c with past := c.past || passed c }) }
    stat := { s.stat with flags := { s.stat.flags with stepped := true }, lateDue := s.stat.lateDue || late }
    fare := { s.fare with sessions := tmap s.fare.sessions (fun _ x => moveS x) }
    aud := { s.aud with stepAt := s.now, stepDue := s.aud.stepDue + (toNs u * fs * 1000 + 500000000) / 1000000000 } }
  s.raiseDev 0x0802 srcServed (satWord (toNs u)).toNat

/-- TIME_STATE while a shadow is followed (R279). -/
def followState (n : Nat) : Nat := n + 1

/-- EV_TIME_SWITCH: old and new TIME_STATE (R276). -/
def State.switchEvent (s : State) (old new : Nat) : State :=
  s.raiseDev 0x0803 srcServed (old + 4 * new)

/-! ### Servo freezes and limits (R379, R380) -/

/-- Source of events of a hub island's loops: H.NET 98, H.TIME 99, H.MEM 103, H.FAB 106. -/
def srcIsland (i : Nat) : Nat := srcThermal i

/-- A servo freeze ends, with EV_ISL_FREEZE_ENDED (R380). -/
def State.endServoFreeze (s : State) (n : Nat) : State :=
  if tmem s.isl.servoFrozen n then
    ({ s with isl := { s.isl with servoFrozen := terase s.isl.servoFrozen n } }).raiseDev 0x0CC6 (srcIsland 99) 4
  else s

/-- A shadow's state is set; leaving LOCKED ends a freeze of its servo (Table 14-4). -/
def State.setShadow (s : State) (n : Nat) (st : ShadowState) : State :=
  let was := (s.shadow n).state == .locked
  let s := s.modShadow n (fun h => { h with state := st })
  if was && st ≠ .locked then s.endServoFreeze n else s

/-- EV_ISL_LOOP_LIMIT once while a servo's correction stands at a limit (R379). -/
def State.servoLimit (s : State) (n : Nat) : State :=
  let at_ := decide (500000000 ≤ (s.shadow n).corr.natAbs)
  let was := s.isl.servoLimit.contains n
  let s := { s with isl := { s.isl with servoLimit := lput s.isl.servoLimit n at_ } }
  if at_ && !was then s.raiseDev 0x0CC4 (srcIsland 99) 4 else s

/-- A shadow is REFUSED, and EV_TIME_JUMP_REFUSED carries its residual (R275). -/
def State.refuse (s : State) (n : Nat) : State :=
  ((s.setShadow n .refused).modShadow n (fun h => { h with checkedAt := s.now })).raiseDev 0x0801 (srcShadow n) (satWord (toNs (s.residual n))).toNat

/-- The served clock begins following a LOCKED shadow that passed the check: it slews, steps or, the
first time, steps whatever the residual (R276, R277). -/
def State.follow (s : State) (n : Nat) : State :=
  let old := s.tim.timeState
  let r := s.residual n
  let first := old = 0
  let stepNow := first || !within r 1000
  let s := if stepNow then s.step r else s
  let s := s.modTim (fun t =>
    { t with following := .shadow n, slewing := !stepNow && r ≠ 0, timeState := followState n, accepted := none
             utcOffset := match (t.shadow n).master with | some m => m.utcOffset | none => t.utcOffset
             utcValid := match (t.shadow n).master with | some m => m.utcValid | none => t.utcValid
             corr := (t.shadow n).corr, holdAlarm := false
             followLog := if first then [] else t.followLog })
  s.switchEvent old (followState n)

/-- The served clock enters holdover at its mean correction (R278); before the first lock it runs free (R274). -/
def State.holdOver (s : State) : State :=
  if s.tim.timeState = 0 || s.tim.following = .holdover then s else
    (s.modTim (fun t => { t with following := .holdover, slewing := false, timeState := 3
                                 corr := meanCorr t.followLog, sub := 0, holdSince := s.now, holdAlarm := false
                                 accepted := none })).raiseDev
      0x0804 srcServed 0

/-- The shadow that time.select names to follow, if one may be followed (R274). -/
def State.selected (s : State) : Option Nat :=
  let sel := s.devN 0x0801
  let locked (n : Nat) : Bool := (s.shadow n).state == .locked
  if sel ≥ 2 then (if locked (sel - 2) then some (sel - 2) else none)
  else
    let p := sel
    let o := 1 - sel
    if locked p && (s.tim.following == .shadow p || !locked o ||
        decide ((s.shadow p).lockedSince + s.devN 0x0802 * 1000000000 ≤ s.now)) then some p
    else if locked o then some o
    else none

/-- The served clock chooses what to follow (R274), checking the residual before it begins (R275); a
refused shadow leads to another choice. -/
def State.selectN (s : State) : Nat → State
  | 0 => s.holdOver
  | fuel + 1 =>
    match s.selected with
    | none => s.holdOver
    | some n =>
      if s.tim.following = .shadow n then s
      else if s.tim.timeState ≠ 0 && !within (s.residual n) (s.devN 0x0803) then
        (s.refuse n).selectN fuel
      else s.follow n

def State.select (s : State) : State := s.selectN 3

/-- A shadow changes state; if it was followed and is no longer LOCKED, the clock holds over and selects (R274). -/
def State.shadowTo (s : State) (n : Nat) (st : ShadowState) : State :=
  let was := s.tim.following == .shadow n
  let s := s.setShadow n st
  if was && st ≠ .locked then s.holdOver.select else s

/-- A converged shadow enters LOCKED, or REFUSED once the served clock has followed one (R273, R275). -/
def State.enterLocked (s : State) (n : Nat) : State :=
  if s.tim.timeState ≠ 0 && !within (s.residual n) (s.devN 0x0803) then s.refuse n
  else (s.modShadow n (fun h => { h with state := .locked, lockedSince := s.now })).select

/-- A shadow returns to LISTENING (Table 10-5). -/
def State.listen (s : State) (n : Nat) : State :=
  (s.modShadow n (fun h =>
    { h with master := none, history := [], outliers := 0, within := 0, pendingSync := none
             delayReq := none, delayAt := none, delays := [], meanDelay := 0 })).shadowTo n .listening

/-- A shadow begins to acquire a master (Table 10-5). -/
def State.acquire (s : State) (n : Nat) (m : MasterData) : State :=
  (s.modShadow n (fun h =>
    { h with master := some m, history := [], outliers := 0, within := 0, pendingSync := none, delayReq := none
             delays := [], meanDelay := 0, lastSync := s.now, predicted := 0 })).shadowTo n .acquiring

/-! ### The servo (R272) -/

/-- A correction within ±500 ppm (R268). -/
def clampCorr (c : Int) : Int := if c > 500000000 then 500000000 else if c < -500000000 then -500000000 else c

/-- A clock value moved by a signed amount. -/
def moveValue (v : Nat) (u : Int) : Nat := ((v : Int) + u).toNat

/-- A shadow steps itself; captures of its own time move with it (R272). -/
def State.stepShadow (s : State) (n : Nat) (u : Int) : State :=
  s.modShadow n (fun h =>
    { h with value := moveValue h.value u, outliers := 0, within := 0, history := [], predicted := 0, t2t1 := h.t2t1 + u
             delayReq := h.delayReq.map (fun q => (q.1, q.2.map (· + u))) })

/-- A shadow takes an offset of its time from its master's, in 2^-16 ns (R272, R273). -/
def State.takeOffset (s : State) (n : Nat) (o : Int) : State :=
  let h := s.shadow n
  let fresh := h.state == .acquiring && h.history.isEmpty
  if !fresh && !within (o - h.predicted) (s.devN 0x0806) then
    let s := s.count 9 n 1
    if h.outliers + 1 < 8 then s.modShadow n (fun h => { h with outliers := h.outliers + 1 })
    else
      let s := s.shadowTo n .acquiring
      s.stepShadow n (-o)
  else if fresh then
    -- the first offset of an acquisition: the shadow steps to its master
    (s.stepShadow n (-o)).modShadow n (fun h => { h with history := [0], offset := o })
  else
    let frozen := tmem s.isl.servoFrozen n
    let (c, p) := Config.servo (s.devN 0x0805) h.history o
    let w := if within o (s.devN 0x0804) then h.within + 1 else 0
    let s := s.modShadow n (fun h =>
      { h with corr := if frozen then h.corr else clampCorr c, predicted := p, offset := o, outliers := 0, within := w, history := (o :: h.history).take 16 })
    let s := s.servoLimit n
    if h.state = .acquiring && 16 ≤ w then s.enterLocked n else s

/-- A message from the master followed. -/
def Shadow.fromMaster (h : Shadow) (m : PtpMsg) : Bool :=
  match h.master with
  | some x => x.source = m.data.source && x.timescale && decide (x.stepsRemoved < 255)
  | none => false

/-- A message that the shadow drops before its content counts, with the counter: 0 unsupported, 2 dropped (R270, R272). -/
def State.ptpDrop (s : State) (n : Nat) (m : PtpMsg) : Option Nat :=
  match tfind s.cfg.domains n with
  | none => some 2
  | some d =>
    if m.malformed then some 2
    else if m.unsupported then some 0
    else if d.domain ≠ m.domain then some 2
    else none

/-- Seconds of a log2 interval, in ns. -/
def logNs (l : Int) : Nat := if 0 ≤ l then 1000000000 * 2 ^ l.toNat else 1000000000 / 2 ^ (-l).toNat

/-- Order of masters by the data set comparison of IEEE 1588-2019: a comes before b (R271). -/
def masterBetter (a b : MasterData) : Bool :=
  let key (m : MasterData) : List Nat :=
    [m.priority1, m.clockClass, m.accuracy, m.variance, m.priority2, m.grandmaster.toNat, m.stepsRemoved
    , m.source.clock.toNat, m.source.port]
  let rec lt : List Nat → List Nat → Bool
    | x :: xs, y :: ys => if x < y then true else if y < x then false else lt xs ys
    | _, _ => false
  lt (key a) (key b)

/-- A master is qualified: a second Announce within four of its intervals, fewer than 255 steps (R271). -/
def masterQualified (m : MasterData) : Bool :=
  m.timescale && decide (m.stepsRemoved < 255) &&
    (match m.prev with | some p => decide (m.heard ≤ p + 4 * logNs m.logAnnounce) | none => false)

/-- The best qualified master of a list. -/
def bestMaster (l : List MasterData) : Option MasterData :=
  (l.filter masterQualified).foldl (fun a m =>
    match a with | none => some m | some b => if masterBetter m b then some m else a) none

/-- A commit changes a shadow's setting (R273, Table 10-5). -/
def State.domainCommitted (s : State) (n : Nat) (old new : Option DomainCfg) : State :=
  let on (d : Option DomainCfg) : Bool := match d with | some d => d.enable | none => false
  let forget (s : State) : State := s.modShadow n (fun h => { h with masters := [] })
  if !on new then
    if on old then ((forget s).listen n).shadowTo n .disabled else s
  else if !on old then (forget s).listen n
  else if old = new then s else (forget s).listen n

/-! ### Compare units (R282, R410, R549) -/

/-- A unit fires: the count rises, LATE shows whether it came later than its target (R282). -/
def State.fireMark (s : State) (n : Nat) : State :=
  s.modCmp n (fun c => { c with count := (c.count + 1) % 65536, late := c.past, past := false })

/-- Target plus k × period for the smallest k of 1 or more not yet reached (R282): in the second that a grid point names,
its nanoseconds decide. -/
def nextTarget (sec ns target tns period : Nat) : Nat :=
  let d := sgn 32 (sec + 2 ^ 32 - target % 2 ^ 32)
  let k := if d < 0 then 1 else if d.toNat % period = 0 ∧ ns < tns then d.toNat / period else d.toNat / period + 1
  (target + max 1 k * period) % 2 ^ 32

/-- A unit with a period re-arms, one without disarms (R282). -/
def State.rearm (s : State) (n : Nat) : State :=
  s.modCmp n (fun c =>
    if c.period = 0 then { c with armed := false } else { c with sec := nextTarget s.sec32 s.servedNs c.sec c.ns c.period })

/-- The PPS units are armed at the next served second plus time.pps_offset_ns (R284). -/
def State.armPps (s : State) : State :=
  let off := s.devN 0x080A
  let t := if s.servedNs < off then s.sec32 else (s.sec32 + 1) % 2 ^ 32
  [2, 3].foldl (fun s n => s.modCmp n (fun c => { c with sec := t, ns := off, armed := true, period := 1 })) s

/-- Boundary of the epoch armed in units 0 and 1 (R410, R82). -/
def State.armBoundary (s : State) (b : Nat) : State :=
  let s := { s with stat := { s.stat with boundary := b, frozenPast := false, lateDue := false } }
  let s := s.modCmp 0 (fun c => { c with sec := b % 2 ^ 32, ns := 0, armed := true, past := false })
  s.modCmp 1 (fun c => { c with sec := (b - 1) % 2 ^ 32, ns := 995000000, armed := true, past := false })

/-- Next multiple of a length above a served time in seconds. -/
def nextMultiple (sec len : Nat) : Nat := (sec / len + 1) * len

/-- TIM_STATE (Table 10-11). -/
def shadowCode : ShadowState → Nat
  | .disabled => 0 | .listening => 1 | .acquiring => 2 | .locked => 3 | .refused => 4
def State.timState (s : State) : Nat :=
  let a := (s.shadow 0).state
  let b := (s.shadow 1).state
  s.tim.timeState + 4 * b2n s.tim.slewing + 8 * b2n (a == .refused) + 16 * b2n (b == .refused) +
    32 * shadowCode a + 256 * shadowCode b

end Sys2Proof.Machine
end

