-- ==== Sys2Proof/Machine/Stage.lean ====
section
/-! DEFINITION. Staging of manifest entries (R68, R70, R72, R73). -/

namespace Sys2Proof.Machine

/-- Changes one manifest. -/
def State.modMan (s : State) (id : Nat) (f : Manifest → Manifest) : State :=
  { s with man := { s.man with mans := tupd s.man.mans id f } }

/-- Most entries of a manifest (R73). -/
def entryLimit (tag : Nat) : Nat := if isPf tag then 4096 else if isVf tag then 1024 else 256

/-- Most bytes of staged bulk data (R73). -/
def bulkLimit (tag : Nat) : Nat := if isPf tag then 64 * 2 ^ 20 else 16 * 2 ^ 20

/-- Bytes of bulk data that a manifest has staged. -/
def Manifest.bulk (m : Manifest) : Nat := (m.entries.map (·.bulk)).foldl (· + ·) 0

/-- A checked staged command is recorded as an entry, or refused for room (R72, R73). -/
def State.stage (s : State) (tag code : Nat) (op : StagedOp) (bulk : Nat := 0) (results : List Word := []) : Answer :=
  match s.openMan tag with
  | none => .status 0x001D s
  | some (id, m) =>
    if entryLimit tag < m.entries.length + 1 || decide (bulkLimit tag < m.bulk + bulk) then .status 0x0203 s
    else
      let e : Entry := { op, code, items := op.items.map (fun i => (i, s.version i)), bulk }
      .ok results (s.modMan id (fun m => { m with entries := m.entries ++ [e], touched := s.now }))

end Sys2Proof.Machine
end

