-- ==== Sys2Proof/Machine/Mailbox.lean ====
section
/-! DEFINITION. Mailbox words, the block handshake and the general-area commands (02_steward_mailboxes.md,
R508 of 20_package_power.md). -/

namespace Sys2Proof.Machine

/-- What a meaning answers. -/
abbrev Out := Host.Outcome State Fault Refusal

/-! ### Words (R44 to R47) -/

/-- A host write of MBX_H2S (R44). -/
def execMbxH2sWrite (t tag : Nat) (word : Word) (s : State) : Out :=
  let s := s.tick t
  if 287 < tag then .next s else
    .next (s.modPage tag (fun p => { p with h2s := word, h2sFull := true, h2sCollide := p.h2sCollide || p.h2sFull }))

/-- The word that the steward may take from a page (R45). -/
def State.heldWord (s : State) (tag : Nat) : Option Word :=
  let p := s.page tag
  if s.mbx.state == .serving && p.ready && p.h2sFull then some p.h2s else none

/-- The steward takes the word (R45). -/
def State.takeWord (s : State) (tag : Nat) : State := s.modPage tag (fun p => { p with h2sFull := false })

/-- W_PING: N_PONG with the same argument (R47). -/
def execWPing (t tag : Nat) (s : State) : Out :=
  let s := s.tick t
  match s.heldWord tag with
  | some w => if fld w 31 24 = 1 then .next ((s.takeWord tag).notice tag (noticeWord 0x02 (fld w 23 0))) else .next s
  | none => .next s

/-- Codes of commands that are cancellable once TAKEN or while pending: CART_DATA_STAGE (R263), ISL_RESET
(R384), TEST_REQUEST (R444), LCY_FW_WRITE (R479). -/
def cancellable (code : Nat) : Bool := [0x0706, 0x0CC5, 0x0C01, 0x0D44].contains code

/-- The bank not booted becomes invalid when LCY_FW_WRITE is cancelled (R479). -/
def State.cancelEffect (s : State) (code : Nat) : State :=
  if code = 0x0D44 then { s with lcy := { s.lcy with banks := terase s.lcy.banks (1 - s.lcy.bank) } } else s

/-- W_CANCEL (R57): a posted command is withdrawn; a TAKEN one, or one whose work goes on, is cancelled
where its chapter says so. -/
def execWCancel (t tag : Nat) (s : State) : Out :=
  let s := s.tick t
  match s.heldWord tag with
  | some w =>
    if fld w 31 24 ≠ 2 then .next s else
      let s := s.takeWord tag
      let seq := fld w 7 0
      let p := s.page tag
      let b0 := p.blk.getD 0 0
      let here := p.go && fld b0 15 8 == seq
      if here && !p.taken then .next (s.writeReply tag [replyWord 0x001B seq 0 false])
      else if here && p.taken then
        if cancellable (fld b0 31 16) && s.mbx.held.isNone then
          .next ((s.cancelEffect (fld b0 31 16)).complete tag 0x001B []).take
        else .next s
      else
        let hit (c : PendingCmd) : Bool := c.tag == tag && c.seq == seq && cancellable c.code
        .next { s with mbx := { s.mbx with
          tickets := tmap s.mbx.tickets (fun _ c => if hit c then { c with cancelled := true } else c) } }
  | none => .next s

/-- A word with an opcode not listed is counted (R47). -/
def execBadWord (t tag : Nat) (s : State) : Out :=
  let s := s.tick t
  match s.heldWord tag with
  | some w =>
    if fld w 31 24 = 1 ∨ fld w 31 24 = 2 then .next s else .next ((s.takeWord tag).count 3 tag 1)
  | none => .next s

/-! ### The block handshake (R48 to R50) -/

/-- A host write of MBX_BLKi (R48). -/
def execMbxBlkWrite (t tag i : Nat) (v : Word) (s : State) : Out :=
  let s := s.tick t
  if 287 < tag ∨ 15 < i then .next s else
    .next (s.modPage tag (fun p => if p.go then { p with writeIgnored := true } else { p with blk := p.blk.set i v }))

/-- A host write of 1 to GO (R48, R49); the steward then takes what it may (R50). -/
def execGo (t tag : Nat) (s : State) : Out :=
  let s := s.tick t
  if 287 < tag || (s.page tag).go then .next s else
    .next (s.modPage tag (fun p => { p with go := true, done := false })).take

/-- A tenant's rate token arrives (R109). -/
def execRateToken (t tag : Nat) (s : State) : Out :=
  let s := s.tick t
  if isPf tag || !s.enabled tag then .next s else
    .next (s.modRec tag (fun r => { r with tokens := min 16 (r.tokens + 1) })).take

/-! ### General-area commands (Table 2-12) -/

/-- Access level of an instance: 1 Manager, 2 Tenant. -/
def accessLevel (tag : Nat) : Nat := if isPf tag then 1 else 2

/-- GEN_IDENTIFY. -/
def genIdentifyDef : CmdDef :=
  { code := 0x0101, argc := 0, tenant := true, always := true }

/-- GEN_IDENTIFY's work. -/
def genIdentifyWork (tag : Nat) (_io : HostIo) (_a : List Word) (s : State) : Answer :=
    let dies := s.lcy.dies
    .ok [ wd (if dies = 4 then 0x0768 else 0x0384), wd (2 ^ dies - 1), wd (192 * dies), wd s.lifecycle
        , s.fuse 6, s.fuse 7, wd (tag + accessLevel tag * 2 ^ 16) ] s

def execGenIdentify (t tag : Nat) (io : HostIo) (s : State) : Out :=
  .next (s.run genIdentifyDef (genIdentifyWork tag io) t tag io)

/-- GEN_VERSION. -/
def genVersionDef : CmdDef :=
  { code := 0x0102, argc := 0, tenant := true, always := true }

/-- GEN_VERSION's work. -/
def genVersionWork (_tag : Nat) (_io : HostIo) (_a : List Word) (s : State) : Answer :=
    .ok [s.lcy.romVersion, s.lcy.version, wd s.rollbackStep, s.lcy.casteSet] s

def execGenVersion (t tag : Nat) (io : HostIo) (s : State) : Out :=
  .next (s.run genVersionDef (genVersionWork tag io) t tag io)

/-- GEN_PING. -/
def genPingDef : CmdDef :=
  { code := 0x0103, argc := 15, tenant := true, always := true }

/-- GEN_PING's work. -/
def genPingWork (_tag : Nat) (_io : HostIo) (a : List Word) (s : State) : Answer :=
  .ok a s

def execGenPing (t tag : Nat) (io : HostIo) (s : State) : Out :=
  .next (s.run genPingDef (genPingWork tag io) t tag io)

/-- Selector fields. -/
def selTag (w : Word) : Nat := fld w 25 16
def selId (w : Word) : Nat := fld w 15 0
def selMask : Nat := 0x03FFFFFF

/-- R545, step 4: a tenant's selector names an instance parameter of another tag, or it sets what R62 keeps from it. -/
def selectorOwn (tag : Nat) (set : Bool) (a : List Word) : Bool :=
  match paramDef (selId (arg a 1)) with
  | none => true
  | some p =>
    if p.inst && selTag (arg a 1) ≠ tag then false
    else !set || (p.inst && p.tenantW)

/-- R545, step 8, numbers 2 to 4: a status, or the parameter selected. -/
def State.selector (s : State) (w : Word) : Except Nat ParamDef :=
  match paramDef (selId w) with
  | none => .error 0x0101
  | some p =>
    if !p.inst && selTag w ≠ 0 then .error 0x0012
    else if p.inst && !s.enabled (selTag w) then .error 0x0012
    else if p.id = 0x0301 && selTag w = 0 then .error 0x0101
    else .ok p

/-- The value that a manifest stages for a selector last (R63). -/
def stagedValue (m : Manifest) (key : Nat) : Option Word64 :=
  m.entries.foldl (fun a e => match e.op with | .param k v => if k = key then some v else a | _ => a) none

/-- The info word (02 General-area commands). -/
def infoWord (p : ParamDef) (staged : Bool) : Word :=
  wd (b2n p.inst + 2 * b2n p.staged + 4 + 8 * b2n p.tenantW + 16 * b2n staged)

/-- A parameter value as two words. -/
def valueWords (v : Int) : List Word := twoWords (BitVec.ofInt 64 v).toNat

/-- GEN_PARAM_GET. -/
def genParamGetDef : CmdDef :=
  { code := 0x0104, argc := 1, tenant := true, masks := [selMask], always := true }

/-- GEN_PARAM_GET's work. -/
def genParamGetWork (tag : Nat) (_io : HostIo) (a : List Word) (s : State) : Answer :=
      match s.selector (arg a 1) with
      | .error e => .status e s
      | .ok p =>
        let v := s.cfg.param (selTag (arg a 1)) p.id
        let key := paramKey (selTag (arg a 1)) p.id
        let staged := match s.openMan tag with
          | some (_, m) => (match stagedValue m key with | some x => x ≠ BitVec.ofInt 64 v | none => false)
          | none => false
        .ok (valueWords v ++ [infoWord p staged]) s

def execGenParamGet (t tag : Nat) (io : HostIo) (s : State) : Out :=
  .next (s.runWith genParamGetDef (selectorOwn tag false) (fun _ => false) (fun _ s => .ok s) (genParamGetWork tag io) t tag io)

/-- A set names a staged parameter that exists (R542). -/
def needsManifest (a : List Word) : Bool :=
  match paramDef (selId (arg a 1)) with
  | some p => p.staged
  | none => false

/-- What follows at once when a live parameter is set: the served clock selects anew (R274), or the PPS units take
their new offset (R284). -/
def State.liveSet (s : State) (id : Nat) : State :=
  if id = 0x0801 then s.select else if id = 0x080A then s.armPps else s

/-- GEN_PARAM_SET. -/
def genParamSetDef : CmdDef :=
  { code := 0x0105, argc := 3, tenant := true, masks := [selMask], always := true }

/-- GEN_PARAM_SET's work. -/
def genParamSetWork (tag : Nat) (_io : HostIo) (a : List Word) (s : State) : Answer :=
      match s.selector (arg a 1) with
      | .error e => .status e s
      | .ok p =>
        let v : Word64 := BitVec.ofNat 64 (ofTwo (arg a 2) (arg a 3))
        let key := paramKey (selTag (arg a 1)) p.id
        if !p.inRange v.toInt then .status 0x0102 s
        else if (s.openMan tag).isSome then s.stage tag 0x0105 (.param key v)
        else if (s.cfg.setParam (selTag (arg a 1)) p.id v).checkRelations.isSome then .status 0x0102 s
        else .ok [] ((s.modCfg (fun c => c.setParam (selTag (arg a 1)) p.id v)).liveSet p.id)

def execGenParamSet (t tag : Nat) (io : HostIo) (s : State) : Out :=
  .next (s.runWith genParamSetDef (selectorOwn tag true) needsManifest (fun _ s => .ok s) (genParamSetWork tag io) t tag io)

/-- GEN_PARAM_INFO. -/
def genParamInfoDef : CmdDef :=
  { code := 0x0106, argc := 1, tenant := true, masks := [selMask], always := true }

/-- GEN_PARAM_INFO's work. -/
def genParamInfoWork (_tag : Nat) (_io : HostIo) (a : List Word) (s : State) : Answer :=
      match s.selector (arg a 1) with
      | .error e => .status e s
      | .ok p =>
        .ok (valueWords p.lo ++ valueWords p.hi ++ valueWords (p.default (selTag (arg a 1))) ++ [infoWord p false]) s

def execGenParamInfo (t tag : Nat) (io : HostIo) (s : State) : Out :=
  .next (s.runWith genParamInfoDef (selectorOwn tag false) (fun _ => false) (fun _ s => .ok s) (genParamInfoWork tag io) t tag io)

/-- The next higher ID, or 0xFFFF (Table 2-12). -/
def nextParam (id : Nat) : Nat :=
  match allParams.find? (fun p => id = 0xFFFF || decide (id < p.id)) with
  | some p => p.id
  | none => 0xFFFF

/-- GEN_PARAM_NEXT. -/
def genParamNextDef : CmdDef :=
  { code := 0x0107, argc := 1, tenant := true, masks := [0xFFFF], always := true }

/-- GEN_PARAM_NEXT's work. -/
def genParamNextWork (_tag : Nat) (_io : HostIo) (a : List Word) (s : State) : Answer :=
  .ok [wd (nextParam (selId (arg a 1)))] s

def execGenParamNext (t tag : Nat) (io : HostIo) (s : State) : Out :=
  .next (s.run genParamNextDef (genParamNextWork tag io) t tag io)

/-- GEN_GPIO_SET. -/
def genGpioSetDef : CmdDef :=
  { code := 0x0108, argc := 1, tenant := false, masks := [0x00FFFFFF], always := true }

/-- GEN_GPIO_SET's work. -/
def genGpioSetWork (_tag : Nat) (_io : HostIo) (a : List Word) (s : State) : Answer :=
    let w := arg a 1
    let pins : BitVec 8 := BitVec.ofNat 8 (fld w 7 0)
    let dir : BitVec 8 := BitVec.ofNat 8 (fld w 15 8)
    let lvl : BitVec 8 := BitVec.ofNat 8 (fld w 23 16)
    let put (old new : BitVec 8) : BitVec 8 := (old &&& ~~~pins) ||| (new &&& pins)
    .ok [] { s with lcy := { s.lcy with gpioDir := put s.lcy.gpioDir dir, gpioOut := put s.lcy.gpioOut lvl } }

/-- GPIO pins named take their direction and level in one step (R508). -/
def execGenGpioSet (t tag : Nat) (io : HostIo) (s : State) : Out :=
  .next (s.run genGpioSetDef (genGpioSetWork tag io) t tag io)

/-- Levels at the balls: an output's own level, an input's applied one (R508). -/
def State.gpioBalls (s : State) : BitVec 8 :=
  (s.lcy.gpioDir &&& s.lcy.gpioOut) ||| (~~~s.lcy.gpioDir &&& s.lcy.gpioIn)

/-- GEN_GPIO_GET. -/
def genGpioGetDef : CmdDef :=
  { code := 0x0109, argc := 0, tenant := false, always := true }

/-- GEN_GPIO_GET's work. -/
def genGpioGetWork (_tag : Nat) (_io : HostIo) (_a : List Word) (s : State) : Answer :=
  .ok [wd (s.gpioBalls.toNat + 256 * s.lcy.gpioDir.toNat)] s

def execGenGpioGet (t tag : Nat) (io : HostIo) (s : State) : Out :=
  .next (s.run genGpioGetDef (genGpioGetWork tag io) t tag io)

end Sys2Proof.Machine
end

