-- ==== Sys2Proof/Machine/AuthOps.lean ====
section
/-! DEFINITION. Objects, handles and generations (05_capabilities.md), with the MPU checks of
13_memory.md: the operations that the commands of both chapters share. -/

namespace Sys2Proof.Machine

/-! ### Rights bits (Table 5-4) -/
def rRead : Nat := 0
def rWrite : Nat := 1
def rExec : Nat := 2
def rCall : Nat := 3
def rUse : Nat := 4
def rDerive : Nat := 5
def rGrant : Nat := 6
def rRevoke : Nat := 7
def rStore : Nat := 8

/-- a holds no right that b lacks. -/
def rightsSub (a b : BitVec 16) : Bool := a &&& ~~~b == 0

/-- Types that a handle may carry (Table 5-3). -/
def handleType (t : Nat) : Bool := t == 1 || t == 2 || t == 3 || t == 6

/-! ### Forms of a capability (Tables 5-5, 5-6) -/

/-- Bits [127:64] of either form. -/
def Cap.upper (c : Cap) : BitVec 64 :=
  BitVec.ofNat 64 (c.gen % 2 ^ 16 * 2 ^ 48 + c.object % 2 ^ 16 * 2 ^ 32 + c.rights.toNat * 2 ^ 16 +
    c.type % 16 * 2 ^ 12 + c.level % 4 * 2 ^ 10 + c.owner % 2 ^ 10)

/-- The capability whose bits [127:64] are given, without its window. -/
def capOf (u : BitVec 64) : Cap :=
  let n := u.toNat
  { gen := nfld n 63 48, object := nfld n 47 32, rights := BitVec.ofNat 16 (nfld n 31 16)
    type := nfld n 15 12, level := nfld n 11 10, owner := nfld n 9 0 }

/-- The 16 bytes of the internal form, little-endian. -/
def Cap.bytes (c : Cap) : List Byte :=
  toLe 4 c.length ++ toLe 4 c.offset ++ toLe 8 c.upper.toNat

/-- The internal form in 16 little-endian bytes. -/
def capOfBytes (b : List Byte) : Cap :=
  let c := capOf (BitVec.ofNat 64 (leNat (slice b 8 8)))
  { c with length := leNat (slice b 0 4), offset := leNat (slice b 4 4) }

/-- The sealed handle of a capability (R130); none after the seal key is destroyed. -/
def State.sealed (s : State) (c : Cap) : BitVec 128 :=
  match s.cap.sealKey with
  | some k => BitVec.ofNat 128 (c.upper.toNat * 2 ^ 64 + (Config.cmac48 k c.upper).toNat)
  | none => 0

/-! ### Objects (R122 to R124) -/

def State.obj (s : State) (n : Nat) : Obj := tget s.cap.objs n {}
def State.setObj (s : State) (n : Nat) (o : Obj) : State :=
  { s with cap := { s.cap with objs := tset s.cap.objs n o } }

/-- An object is LIVE. -/
def State.live (s : State) (n : Nat) : Bool := n ≠ 0 && (s.obj n).state == .live

/-- The capability of an object with all its rights. -/
def Obj.cap (o : Obj) (n : Nat) : Cap :=
  { gen := o.gen, object := n, rights := o.rights, type := o.type, level := o.level, owner := o.owner
    offset := 0, length := o.length }

/-- R123. -/
def State.capValid (s : State) (c : Cap) : Bool :=
  let o := s.obj c.object
  s.live c.object && c.gen == o.gen && rightsSub c.rights o.rights && c.type == o.type &&
    c.level == o.level && c.owner == o.owner

/-- Rise through the parents of an object. -/
def rootIn (t : Tbl Obj) : Nat → Nat → Nat
  | 0, n => n
  | fuel + 1, n => let p := (tget t n {}).parent; if p = 0 then n else rootIn t fuel p

/-- Root of an object's tree. -/
def State.rootOf (s : State) (n : Nat) : Nat := rootIn s.cap.objs 4 n

/-- Whether an object is another or descends from it. -/
def underIn (t : Tbl Obj) : Nat → Nat → Nat → Bool
  | 0, a, n => a == n
  | fuel + 1, a, n => a == n || (let p := (tget t n {}).parent; p ≠ 0 && underIn t fuel a p)

/-- LIVE objects of a tree. -/
def State.treeCount (s : State) (n : Nat) : Nat :=
  (s.cap.objs.filter (fun p => p.2.state == .live && s.rootOf p.1 == s.rootOf n)).length

/-- LIVE objects at most (Table 5-1). -/
def objLimit (owner : Nat) : Nat :=
  if owner = 0x3FF then 4096 else if isPf owner then 12288 else if isVf owner then 1024 else 64

/-- The lowest FREE entry whose generation can still rise. -/
def freeObj : Nat → Tbl Obj → Nat
  | k, [] => k
  | k, (j, o) :: r =>
    if j < k then freeObj k r
    else if k < j then k
    else if o.state = .free && decide (o.gen < 65535) then k
    else freeObj (k + 1) r

/-- An object is minted in a FREE entry with the generation one above the one it last held (R133); none when
the owner's limit or the pool is exhausted (R124).  A FREE entry whose generation would pass 0xFFFF becomes RETIRED
instead (R139). -/
def State.mint (s : State) (o : Obj) : Option (Nat × State) :=
  let mine := (s.cap.objs.filter (fun p => p.2.state == .live && p.2.owner == o.owner)).length
  let n := freeObj 1 s.cap.objs
  if objLimit o.owner ≤ mine then none
  else
    let retire (k : Nat) (x : Obj) : Obj :=
      if decide (k < n) && x.state == .free && x.gen == 65535 then { x with state := .retired } else x
    let s := { s with cap := { s.cap with objs := tmap s.cap.objs retire } }
    if 65535 < n then none
    else some (n, s.setObj n { o with state := .live, gen := (s.obj n).gen + 1 })

/-- A root object minted by the steward, with GRANT for the PF (R126, R133). -/
def State.mintRoot (s : State) (owner level type : Nat) (rights : BitVec 16) (what : ObjFor)
    (base length : Nat) (label : Word := 0) : Option (Nat × State) :=
  let rights := if isPf owner && level == 1 && handleType type then rights ||| (1 <<< rGrant) else rights
  s.mint { type, level, owner, rights, base, length, depth := 1, label, what }

/-! ### Handles (R131) -/

/-- A key slot's record, if the object is a key's. -/
def State.keyOf (s : State) (o : Obj) : Option KeyRec :=
  match o.what with
  | .key k => tfind s.sec.keys k
  | _ => none

/-- Steps 1 to 4 of R131, and R397 for a key whose import waits: a status, or the capability over the
object's whole window.  `staging`: the command is staged, so that it may name a pending key of its own manifest. -/
def State.handleOk (s : State) (tag : Nat) (h : BitVec 128) (staging : Bool := false) : Except Nat Cap :=
  let u : BitVec 64 := BitVec.ofNat 64 (h.toNat / 2 ^ 64)
  let c := capOf u
  let sealOk := match s.cap.sealKey with
    | some k => h.toNat % 2 ^ 64 == (Config.cmac48 k u).toNat
    | none => false
  if !sealOk || !handleType c.type then .error 0x0015
  else if c.owner ≠ tag then .error 0x0015
  else if c.level < accessLevel tag then .error 0x0014
  else if !s.capValid c then .error 0x0016
  else
    let c := { c with length := (s.obj c.object).length }
    match s.keyOf (s.obj c.object) with
    | some k => match k.pending with
      | some m => if staging && (s.openMan tag).any (fun p => p.1 == m) then .ok c else .error 0x0D03
      | none => .ok c
    | none => .ok c

/-- R131 whole, for a type and rights wanted. -/
def State.handleFor (s : State) (tag : Nat) (h : BitVec 128) (type : Nat → Bool) (rights : BitVec 16)
    (staging : Bool := false) : Except Nat Cap :=
  match s.handleOk tag h staging with
  | .error e => .error e
  | .ok c =>
    if !type c.type then .error 0x0402
    else if !rightsSub rights c.rights then .error 0x0401
    else .ok c

/-! ### Generation bumps (R135, R136, R139) -/

/-- One object's generation rises, or it becomes RETIRED (R135, R139). -/
def Obj.bump (o : Obj) : Obj :=
  if o.state ≠ .live then o
  else if o.gen = 65535 then { o with state := .retired } else { o with gen := o.gen + 1 }

/-- An object is freed; a RETIRED one stays so. -/
def Obj.release (o : Obj) : Obj := if o.state = .retired then o else ({ state := .free, gen := o.gen } : Obj)

/-- Units that acknowledge a broadcast: the clusters whose islands run, and the four hub units. -/
def State.genUnits (s : State) : List Nat :=
  (List.range (24 * s.lcy.dies)).filter (fun i => (tget s.isl.islands i {}).state == .run) ++ [96, 97, 98, 99]

/-- Objects chosen are bumped in one transaction, those marked are freed, and the change is broadcast (R135, R136). -/
def State.bumpAll (s : State) (hit free : Nat → Bool) : State :=
  let hits := (s.cap.objs.filter (fun p => p.2.state == .live && hit p.1)).map (·.1)
  let f (n : Nat) (o : Obj) : Obj :=
    if hits.contains n then (if free n then o.bump.release else o.bump) else o
  if hits.isEmpty then s else
    { s with cap := { s.cap with
        objs := tmap s.cap.objs f
        broadcasts := s.cap.broadcasts ++ [{ objs := hits, units := s.genUnits }] } }

/-- CAP_RELEASE's bump: an object and its descendants are freed (R138). -/
def State.releaseTree (s : State) (n : Nat) : State :=
  let hit (k : Nat) : Bool := underIn s.cap.objs 4 n k
  s.bumpAll hit hit

/-- Descendants are freed, the object stays (R138). -/
def State.revokeTree (s : State) (n : Nat) : State :=
  let hit (k : Nat) : Bool := underIn s.cap.objs 4 n k
  s.bumpAll hit (fun k => hit k && k ≠ n)

/-! ### Fault records (R148) -/

/-- 48 bytes of a fault record (Table 5-12). -/
def FaultRec.bytes (f : FaultRec) : List Byte :=
  toLe 4 f.seq ++ toLe 2 f.cell ++ toLe 1 f.cause ++ toLe 1 (b2n f.handling + 2 * b2n f.write + 4 * f.level) ++
    toLe 2 f.tag ++ toLe 2 f.object ++ toLe 2 f.genHeld ++ toLe 2 f.genNow ++ toLe 4 f.offset ++ toLe 4 f.length ++
    toLe 1 f.reg ++ toLe 1 f.size ++ toLe 2 f.gate ++ toLe 2 f.slot ++ toLe 2 f.cid ++ toLe 4 f.sec ++ toLe 4 f.ns ++
    toLe 4 f.detail ++ toLe 4 0

/-! ### MPU (R341 to R351) -/

/-- MPU instance that guards a device address (Table 13-2), for a given size of external memory. -/
def mpuAt (extMib addr : Nat) : Option Nat :=
  if addr < 0x800000 then some 0
  else if 0x1000000 ≤ addr ∧ addr < 0x1040000 then some 3
  else if 0x1040000 ≤ addr ∧ addr < 0x1080000 then some 4
  else if 0x1200000 ≤ addr ∧ addr < 0x1400000 then some 5
  else if 0x100000000 ≤ addr ∧ addr < 0x100000000 + extMib * 2 ^ 20 then some 1
  else none

/-- Allottable range of an MPU instance: first and last byte (Table 13-2). -/
def allottable (extMib mpu : Nat) : Nat × Nat :=
  match mpu with
  | 0 => (0x600000, 0x7FFFFF)
  | 1 => (0x100000000, 0x100000000 + extMib * 2 ^ 20 - 1)
  | 2 => (0, 2 ^ 33 - 1)
  | 3 => (0x1000000, 0x103FFFF)
  | 4 => (0x1040000, 0x107FFFF)
  | _ => (0x1200000, 0x13FFFFF)

/-- The tag condition of R345. -/
def Region.tagOk (r : Region) (charge : Nat) : Bool := !r.matchTag || r.tag == charge

/-- R345: a strict region matches. -/
def Region.matchStrict (r : Region) (charge addr : Nat) : Bool :=
  r.valid && r.tagOk charge && addr / 2 ^ r.sizeLog2 * 2 ^ r.sizeLog2 == r.base * 256

/-- R347: a layered region decides. -/
def Region.matchLayered (r : Region) (charge addr : Nat) : Bool :=
  r.valid && r.tagOk charge && decide (r.base * 256 ≤ addr) && decide (addr < r.base * 256 + 2 ^ r.sizeLog2) &&
    !r.srd.getLsbD ((addr - r.base * 256) / 2 ^ (r.sizeLog2 - 3))

/-- The region that decides an access, or 0xFE for two strict matches, 0xFF for none (R345, R347, R362). -/
def State.mpuRegion (s : State) (mpu charge addr : Nat) : Nat :=
  let c := s.cfg
  if decide (s.now < tget s.mem.eccBad mpu 0) then 0xFF
  else if c.layered mpu then
    match (List.range 32).find? (fun r => (s.region c mpu r).matchLayered charge addr) with
    | some r => r
    | none => 0xFF
  else match (List.range 32).filter (fun r => (s.region c mpu r).matchStrict charge addr) with
    | [r] => r
    | [] => 0xFF
    | _ => 0xFE

/-- An access for the MPU (R343). -/
structure Access where
  addr : Nat
  level : Nat
  charge : Nat
  cell : Nat := 0x3FF
  read : Bool := false
  write : Bool := false
  exec : Bool := false
  dma : Bool := false

/-- PERM of a region for an access. -/
def Region.permits (r : Region) (a : Access) : Bool :=
  let p (i : Nat) : Bool := r.perm.getLsbD (3 * a.level + i)
  (!a.read || p 0) && (!a.write || p 1) && (!a.exec || p 2)

/-- A refusal is logged and raises EV_MPU_REFUSED (R351). -/
def State.logRefusal (s : State) (mpu region : Nat) (a : Access) : State :=
  let seq := s.mem.refusalSeq
  let r : Refusal13 :=
    { seq, mpu, region, write := a.write, exec := a.exec, level := a.level, dma := a.dma
      strict := !s.cfg.layered mpu, tag := a.charge, cell := a.cell, address := a.addr, sec := s.sec32, ns := s.servedNs }
  let s := { s with mem := { s.mem with refusals := (r :: s.mem.refusals).take 64, refusalSeq := seq + 1 } }
  s.raise 0x0302 (srcMpu mpu) a.charge a.charge seq

/-- 32 bytes of a refusal record (Table 13-7). -/
def Refusal13.bytes (r : Refusal13) : List Byte :=
  toLe 4 r.seq ++ toLe 1 r.mpu ++ toLe 1 r.region ++
    toLe 1 (b2n r.write + 2 * b2n r.exec + 4 * r.level + 16 * b2n r.dma + 32 * b2n r.strict) ++ toLe 1 0 ++
    toLe 2 r.tag ++ toLe 2 r.cell ++ toLe 4 0 ++ toLe 8 r.address ++ toLe 4 r.sec ++ toLe 4 r.ns

/-- One access is checked at its first byte in an MPU instance (R345, R347, R348): allowed, or refused and logged. -/
def State.mpuCheck (s : State) (mpu : Nat) (a : Access) : Bool × State :=
  let r := s.mpuRegion mpu a.charge a.addr
  if r < 32 && (s.region s.cfg mpu r).permits a then (true, s)
  else
    let s := if r = 0xFE then { s with mem := { s.mem with overlap := tset s.mem.overlap mpu (tget s.mem.overlap mpu 0 + 1) } } else s
    (false, s.logRefusal mpu r a)

/-- A device address is checked; an unlisted one is refused as a match of no region (R342). -/
def State.mpuCheckAt (s : State) (a : Access) : Bool × State :=
  match mpuAt s.mem.extMib a.addr with
  | some m => s.mpuCheck m a
  | none => (false, s.logRefusal (if 0x100000000 ≤ a.addr then 1 else 0) 0xFF a)

/-- The region that decides a device address permits capability stores, or lets cells hold its lines. -/
def State.regionAt (s : State) (charge addr : Nat) : Region :=
  match mpuAt s.mem.extMib addr with
  | some m => let r := s.mpuRegion m charge addr; if r < 32 then s.region s.cfg m r else {}
  | none => {}

/-! ### Host buffers (R105, R348, R349, R120) -/

/-- Blocks of a transfer checked in an MPU instance one after the other, at each 256-byte boundary in layered mode and
each 4 KiB boundary in strict mode; answers the bytes before the first block refused (R348, R349). -/
def State.mpuRun (mpu : Nat) : Nat → Access → Nat → State → Nat × State
  | 0, _, _, s => (0, s)
  | fuel + 1, a, len, s =>
    if len = 0 then (0, s) else
      let block := if s.cfg.layered mpu then 256 else 4096
      let n := min len (block - a.addr % block)
      match s.mpuCheck mpu a with
      | (true, s) =>
        let (m, s) := State.mpuRun mpu fuel { a with addr := a.addr + n } (len - n) s
        (n + m, s)
      | (false, s) => (0, s)

/-- A hub DMA engine's access for a command or an SQ entry of an instance (R343). -/
def hostAccess (tag iova : Nat) (write : Bool) : Access :=
  { addr := iova, level := accessLevel tag, charge := tag, read := !write, write, dma := true }

/-- A command's or an SQ entry's input buffer is read: a status, or the state after the checks. -/
def State.hostRead (s : State) (tag iova len source : Nat) (walk : Option Nat) : Except (Nat × State) State :=
  match s.xlateCause tag iova len walk with
  | some c => .error (0x001C, s.xlateFault tag iova c false source)
  | none =>
    let (n, s) := State.mpuRun 2 (len / 256 + 2) (hostAccess tag iova false) len s
    if n < len then .error (0x0343, s) else .ok (s.tlbTouch tag iova len)

/-- A result buffer is written: the status it leaves; blocks before a refused one stay written, and nothing is written
while Bus Master Enable is 0. -/
def State.hostWrite (s : State) (tag iova : Nat) (bytes : List Byte) (walk : Option Nat) : Nat × State :=
  match s.xlateCause tag iova bytes.length walk with
  | some c => (0x001C, s.xlateFault tag iova c true 4)
  | none =>
    let (n, s) := State.mpuRun 2 (bytes.length / 256 + 2) (hostAccess tag iova true) bytes.length s
    let s := if s.bme tag && decide (0 < n) then s.dmaOut tag iova (bytes.take n) else s
    (if n < bytes.length then 0x0343 else 0, s)

/-! ### Memory bytes and tags (R127, R342) -/

/-- A byte of the device address space: an unlisted one reads 0. -/
def readByte (m : List (Nat × Byte)) (a : Nat) : Byte := (tfind m a).getD 0

/-- A byte written; the value an unlisted byte reads as is not listed. -/
def writeByte (m : List (Nat × Byte)) (a : Nat) (b : Byte) : List (Nat × Byte) :=
  if b = 0 then terase m a else tset m a b

/-- Bytes at rising addresses. -/
def readBytes (m : List (Nat × Byte)) (a : Nat) : Nat → List Byte
  | 0 => []
  | n + 1 => readByte m a :: readBytes m (a + 1) n

def writeBytes (m : List (Nat × Byte)) (a : Nat) : List Byte → List (Nat × Byte)
  | [] => m
  | b :: r => writeBytes (writeByte m a b) (a + 1) r

/-- The memory's canonical form: addresses rise, and no byte listed equals what an unlisted one reads as. -/
abbrev Memory.wf (m : List (Nat × Byte)) : Prop := twf m = true ∧ ∀ p ∈ m, p.2 ≠ 0

/-- A write of bytes clears the hidden tag of every granule it touches (R127). -/
def State.store (s : State) (a : Nat) (bs : List Byte) : State :=
  if bs.isEmpty then s else
    let last := (a + bs.length - 1) / 16
    { s with mem := { s.mem with
        bytes := writeBytes s.mem.bytes a bs
        tags := s.mem.tags.filter (fun g => g < a / 16 ∨ last < g) } }

/-- A capability store sets the granule's tag if the register's is set (R127). -/
def State.storeCap (s : State) (a : Nat) (r : CapReg) : State :=
  let s := s.store a r.cap.bytes
  if r.tag then { s with mem := { s.mem with tags := linsert s.mem.tags (a / 16) } } else s

end Sys2Proof.Machine
end

