-- ==== Sys2Proof/Machine/InsOps.lean ====
section
/-! DEFINITION. Queue pairs, completion queues and the enabling of instances (04_instances.md): the operations
that several commands share. -/

namespace Sys2Proof.Machine

/-! ### Completion queues (R98 to R104, R120) -/

/-- A pair becomes ERROR, and QP_ERROR is set (R98). -/
def State.qpFail (s : State) (tag q : Nat) : State :=
  (s.modQp tag q (fun p => { p with state := .error })).modInst tag (fun i => { i with qpError := true })

/-- Free CQ entries that no fetched entry has reserved (R102). -/
def Qp.cqFree (p : Qp) : Nat := 2 ^ p.cqLog2 - p.cqUsed - p.reserved

/-- A CQ entry (Table 4-4). -/
def cqBytes (phase : Bool) (cid status type sqHead : Nat) (body : List Byte) : List Byte :=
  toLe 2 cid ++ toLe 2 status ++ toLe 2 type ++ toLe 1 (b2n phase) ++ toLe 1 0 ++ toLe 2 sqHead ++ toLe 2 0 ++
    toLe 4 body.length ++ toLe 16 0 ++ (body ++ List.replicate 224 0).take 224

/-- The CQ's vector is signalled, and nothing stands unsignalled (R103, R104). -/
def State.cqSignal (s : State) (tag q : Nat) : State :=
  let v := if isSlice tag then (s.inst tag).notify else (s.qp tag q).vector
  (s.modQp tag q (fun p => { p with unsignalled := 0 })).signal tag v

/-- A new CQ entry counts towards the coalescing count and time; a journal record signals at once (R104). -/
def State.cqCoalesce (s : State) (tag q : Nat) (atOnce : Bool) : State :=
  let p := s.qp tag q
  let s := s.modQp tag q (fun p =>
    { p with unsignalled := p.unsignalled + 1, firstUnsig := if p.unsignalled = 0 then s.now else p.firstUnsig })
  if atOnce || decide (p.coalN ≤ p.unsignalled + 1) || p.coalT == 0 then s.cqSignal tag q else s

/-- The tail moves past an entry, and the phase inverts at the wrap (R100). -/
def Qp.cqPush (p : Qp) : Qp :=
  if p.cqTail + 1 = 2 ^ p.cqLog2 then { p with cqTail := 0, cqPhase := !p.cqPhase, cqUsed := p.cqUsed + 1 }
  else { p with cqTail := p.cqTail + 1, cqUsed := p.cqUsed + 1 }

/-- An entry is written to an ACTIVE pair's CQ, or dropped with the pair's ERROR: while Bus Master Enable is 0
(R120), or when the write does not translate (Table 4-7).  Answers whether it was written. -/
def State.cqWrite (s : State) (tag q cid status type sqHead : Nat) (body : List Byte) (fault : Option Nat)
    (atOnce : Bool) : Bool × State :=
  let p := s.qp tag q
  let addr := p.cqBase + 256 * p.cqTail
  let drop (s : State) : State := (s.modQp tag q (fun p => { p with dropped := satAdd (2 ^ 32 - 1) p.dropped 1 })).qpFail tag q
  if !s.bme tag then (false, drop s)
  else match s.xlateCause tag addr 256 fault with
    | some c => (false, drop (s.xlateFault tag addr c true 1))
    | none =>
      let s := (s.dmaPhaseLast tag addr (cqBytes p.cqPhase cid status type sqHead body) 6).modQp tag q Qp.cqPush
      (true, s.cqCoalesce tag q atOnce)

/-- A fetched SQ entry completes into its reserved CQ entry: NO_CQE suppresses a success only; a pair not ACTIVE
gets none (R98, R101). -/
def State.cqComplete (s : State) (tag q cid : Nat) (noCqe : Bool) (sqHead status : Nat) (body : List Byte)
    (fault : Option Nat) : State :=
  if !s.enabled tag then s else
    let s := s.modQp tag q (fun p => { p with reserved := p.reserved - 1 })
    match (s.qp tag q).state with
    | .disabled => s
    | .error => s.modQp tag q (fun p => { p with dropped := satAdd (2 ^ 32 - 1) p.dropped 1 })
    | .active =>
      if status = 0 ∧ noCqe then s else (s.cqWrite tag q cid status 1 sqHead body fault false).2

/-- A journal record is offered to a tenant's ring: written to the CQ that inst.journal_qp names, or refused and
counted (R29, R102, R120). -/
def State.ringOffer (s : State) (tag : Nat) (record : List Byte) (fault : Option Nat) : Bool × State :=
  let q := s.insN tag 0x0305
  let p := s.qp tag q
  let refuse (s : State) : Bool × State := (false, s.count 3 tag 3)
  if !isVf tag || !s.enabled tag || !s.bme tag || p.state ≠ .active || p.cqFree = 0 then refuse s
  else match s.cqWrite tag q 0xFFFF 0 2 0xFFFF record fault true with
    | (true, s) => (true, s)
    | (false, s) => refuse s

/-! ### Submission queues (R97, R101, R541) -/

/-- Entries of a ring between two indexes. -/
def ringDist (head tail log2 : Nat) : Nat := (tail + 2 ^ log2 - head) % 2 ^ log2

/-- Queue operations (R543): code, and the bits of PARAMS words 0 to 3 that they assign. -/
def queueOp (opcode : Nat) : Option (List Nat) :=
  match opcode with
  | 0x06C8 => some [0xFFFFFFFF, 0xFFFFFFFF, 0xFFFFFFFF, 0xFFFFFFFF]
  | 0x0610 => some [1, 0, 0, 0]
  | 0x0A08 => some [0xF3FF, 0, 0, 0]
  | 0x0A09 => some [0, 0, 0, 0]
  | _ => none

/-- An SQ entry (Table 4-3). -/
def sqOf (b : List Byte) (sqHead : Nat) : SqOp :=
  let f (o n : Nat) : Nat := leNat (slice b o n)
  { opcode := f 0 2, cid := f 2 2, noCqe := (f 4 1).testBit 0, handle := BitVec.ofNat 128 (f 8 16)
    dataIova := f 24 8, dataLen := f 32 4, resLen := f 36 4, resIova := f 40 8
    params := leWords (slice b 48 16), sqHead }

/-- Steps 2 to 8 of Table 2-9 for an SQ entry, as far as they do not depend on its chapter (R101). -/
def State.sqCheck (s : State) (tag : Nat) (b : List Byte) (o : SqOp) : Option Nat :=
  match queueOp o.opcode with
  | none => some 0x0010
  | some masks =>
    let area := o.opcode / 256
    let denied := !isPf tag && (area == 0x0A || !(s.rights tag).getLsbD area)
    if denied then some 0x0014
    else match s.lifecycleStatus { code := o.opcode, argc := 0, tenant := true } with
      | some st => some st
      | none =>
        if 2 ^ 24 < o.dataLen ∨ 2 ^ 24 < o.resLen then some 0x0011
        else if byteAt b 4 / 2 ≠ 0 ∨ leNat (slice b 5 3) ≠ 0 ∨ reservedSet masks o.params then some 0x0013
        else if o.cid = 0xFFFF then some 0x0012
        else none

/-- The oldest fetched operation of a pair with an opcode, and the pair without it. -/
def takeOp (opcode : Nat) : List SqOp → Option (SqOp × List SqOp)
  | [] => none
  | o :: r => if o.opcode = opcode then some (o, r) else (takeOp opcode r).map (fun p => (p.1, o :: p.2))

/-- A taken operation completes. -/
def State.opDone (s : State) (tag q : Nat) (o : SqOp) (status : Nat) (body : List Byte) (io : HostIo) : State :=
  s.cqComplete tag q o.cid o.noCqe o.sqHead status body io.cqFault

/-! ### Enabling (R118, 04 Start-up, R538) -/

/-- An instance is enabled: its pages and its MSI-X registers take their reset values, its stored SEQ is none, and
the steward posts N_READY once it serves the page. -/
def State.enable (s : State) (tag : Nat) (pasid notify : Nat := 0) : State :=
  let serving := s.mbx.state == .serving
  let s := { s with ins := { s.ins with insts := tset s.ins.insts tag { phase := .on, pasid, notify } } }
  let s := { s with mbx := { s.mbx with
    pages := tset s.mbx.pages tag { ready := serving }
    recs := tset s.mbx.recs tag {} } }
  let s := if isSlice tag then s else s.modFunc tag (fun f => { f with msix := [] })
  if serving then s.notice tag s.readyWord else s

/-- TLB entries that an instance holds. -/
def State.tlbHeld (s : State) (tag : Nat) : Nat := (s.ins.tlb.filter (fun e => e.tag == tag)).length

/-- TLB entries of a tag go, those of a page range or all (R107, R113). -/
def State.tlbDrop (s : State) (tag first count : Nat) : State :=
  let hit (e : TlbEntry) : Bool :=
    e.tag == tag && (count == 0 || (decide (first ≤ e.page) && decide (e.page < first + count)))
  { s with ins := { s.ins with tlb := s.ins.tlb.filter (fun e => !hit e)
                               invals := (s.now, tag, first, count) :: s.ins.invals } }

/-- Session slots charged to an instance. -/
def State.slotsHeld (s : State) (tag : Nat) : Nat :=
  (s.sea.slots.filter (fun p => p.2.state ≠ .free && p.2.charged == some tag)).length

end Sys2Proof.Machine
end

