-- ==== Sys2Proof/Machine/NetParse.lean ====
section
/-! DEFINITION. The parse graph, malformed frames, rule matching and egress operations (R319 to R325, R333,
R334 of 12_network.md).  A frame is its bytes without the frame check sequence. -/

namespace Sys2Proof.Machine

/-- Big-endian 16 bits at an offset. -/
def be16 (f : List Byte) (o : Nat) : Nat := byteAt f o * 256 + byteAt f (o + 1)

/-- Fields that the walk reached (Table 12-2). -/
structure Parsed where
  /-- VLAN tags walked, 0 to 2 -/
  tags : Nat := 0
  /-- Outer tag as it stands in the frame -/
  tci : Option Nat := none
  /-- EtherType after the tags, and the offset that follows it -/
  etype : Option Nat := none
  l3 : Nat := 14
  /-- IP version reached, 4 or 6 -/
  ip : Option Nat := none
  dscp : Option Nat := none
  proto : Option Nat := none
  frag : Option Bool := none
  sip : Option Nat := none
  dip : Option Nat := none
  /-- Start of the L4 header, once reached -/
  l4 : Option Nat := none
  /-- Bytes of the IP payload -/
  payload : Nat := 0
  sport : Option Nat := none
  dport : Option Nat := none
  deriving DecidableEq, Repr

/-- Tag node: offset of the EtherType, tags, outer tag; none when a third tag stops the walk. -/
def parseTags (f : List Byte) : Nat × Option Nat × Option Nat :=
  let isTag (o : Nat) : Bool := be16 f o == 0x8100 || be16 f o == 0x88A8
  if !isTag 12 then (0, none, some 12)
  else if !isTag 16 then (1, some (be16 f 14), some 16)
  else if !isTag 20 then (2, some (be16 f 14), some 20)
  else (2, some (be16 f 14), none)

/-- IPv6 extension headers: next header, its offset, whether header 44 came and L4 may follow; the walk stops at
byte 64. -/
def parseExt (f : List Byte) : Nat → Nat → Nat → Bool → Option (Nat × Nat × Bool × Bool)
  | 0, _, _, _ => none
  | fuel + 1, nh, o, frag =>
    if nh = 0 ∨ nh = 43 ∨ nh = 60 then
      if o + 8 ≤ 64 then parseExt f fuel (byteAt f o) (o + 8 * (byteAt f (o + 1) + 1)) frag else none
    else if nh = 44 then
      if o + 8 ≤ 64 then
        if be16 f (o + 2) / 8 = 0 then parseExt f fuel (byteAt f o) (o + 8) true
        else some (byteAt f o, o + 8, true, false)
      else none
    else some (nh, o, frag, true)

/-- L4 node: ports, or the ICMP type, where the bytes lie within the 64. -/
def parseL4 (f : List Byte) (p : Parsed) (proto o : Nat) : Parsed :=
  if proto = 6 ∨ proto = 17 then
    if o + 4 ≤ 64 ∧ o + 4 ≤ f.length then { p with l4 := some o, sport := some (be16 f o), dport := some (be16 f (o + 2)) } else p
  else if proto = 1 ∨ proto = 58 then
    if o + 1 ≤ 64 ∧ o + 1 ≤ f.length then { p with l4 := some o, dport := some (byteAt f o) } else p
  else p

/-- The walk of Table 12-2 (R320). -/
def parseFrame (f : List Byte) : Parsed :=
  let (tags, tci, at_) := parseTags f
  match at_ with
  | none => { tags, tci }
  | some o =>
    let et := be16 f o
    let l3 := o + 2
    let p : Parsed := { tags, tci, etype := some et, l3 }
    if et = 0x0800 then
      if l3 + 20 ≤ 64 then
        let ihl := byteAt f l3 % 16
        let off := be16 f (l3 + 6)
        let frag := decide (0 < off % 16384)
        let proto := byteAt f (l3 + 9)
        let p := { p with ip := some 4, dscp := some (byteAt f (l3 + 1) / 4), proto := some proto, frag := some frag
                          sip := some (beNat (slice f (l3 + 12) 4)), dip := some (beNat (slice f (l3 + 16) 4))
                          payload := be16 f (l3 + 2) - 4 * ihl }
        if off % 8192 = 0 then parseL4 f p proto (l3 + 4 * ihl) else p
      else p
    else if et = 0x86DD then
      if l3 + 40 ≤ 64 then
        let p := { p with ip := some 6, dscp := some ((byteAt f l3 % 16 * 16 + byteAt f (l3 + 1) / 16) / 4) }
        match parseExt f 8 (byteAt f (l3 + 6)) (l3 + 40) false with
        | none => p
        | some (nh, o4, frag, l4) =>
          let p := { p with proto := some nh, frag := some frag, payload := be16 f (l3 + 4) + l3 + 40 - o4 }
          if l4 then parseL4 f p nh o4 else p
      else p
    else p

/-- Sum of big-endian 16-bit words. -/
def sum16 : List Byte → Nat
  | a :: b :: r => a.toNat * 256 + b.toNat + sum16 r
  | [a] => a.toNat * 256
  | [] => 0

/-- A sum folded into 16 bits with end-around carry. -/
def fold16 (n : Nat) : Nat :=
  let f (n : Nat) : Nat := n / 65536 + n % 65536
  f (f (f n))

/-- The Internet checksum of bytes whose checksum field is 0. -/
def inetSum (b : List Byte) : Nat := 65535 - fold16 (sum16 b)

/-- The first malformed condition of Table 12-3 that a frame meets (R322). -/
def malformedCause (f : List Byte) (p : Parsed) : Option Nat :=
  let o := p.l3
  let b0 := byteAt f o
  let ihl := b0 % 16
  let v4 := p.etype == some 0x0800
  let v6 := p.etype == some 0x86DD
  let total := be16 f (o + 2)
  if v4 && (b0 / 16 ≠ 4 || decide (ihl < 5)) then some 1
  else if v4 && (decide (total < 4 * ihl) || decide (f.length - o < total)) then some 2
  else if v4 && decide (o + 4 * ihl ≤ 64) && fold16 (sum16 (slice f o (4 * ihl))) ≠ 65535 then some 3
  else if v6 && (b0 / 16 ≠ 6 || decide (f.length - o < be16 f (o + 4) + 40)) then some 4
  else match p.l4, p.proto with
    | some l4, some 17 =>
      if l4 + 6 ≤ 64 ∧ (be16 f (l4 + 4) < 8 ∨ p.payload < be16 f (l4 + 4)) then some 5 else none
    | some l4, some 6 => if l4 + 13 ≤ 64 ∧ byteAt f (l4 + 12) / 16 < 5 then some 6 else none
    | _, _ => match p.etype with
      | some e => if e < 0x0600 ∧ f.length - o < e then some 7 else none
      | none => none

/-! ### Rules (Tables 12-4, 12-7) -/

/-- A masked field matches; an unparsed one only under a zero mask (R321, R324). -/
def fieldOk (field : Option Nat) (val mask : Nat) : Bool :=
  mask == 0 || (match field with | some x => x &&& mask == val &&& mask | none => false)

/-- Little-endian 16 bits of a rule. -/
def rule16 (r : List Byte) (o : Nat) : Nat := byteAt r o + 256 * byteAt r (o + 1)

/-- The outer tag as rules hold it: VID in [11:0], PCP in [14:12]. -/
def tagField (p : Parsed) : Option Nat := p.tci.map (fun t => t % 4096 + t / 8192 * 4096)

/-- VLAN count condition of CTL. -/
def vlanOk (ctl : Nat) (p : Parsed) : Bool := !nbit ctl 1 || p.tags == nfld ctl 3 2

/-- Leading bits of an IPv4 address match. -/
def prefixOk (plen : Nat) (addr : Option Nat) (val : Nat) : Bool :=
  plen == 0 || (match addr with | some a => a / 2 ^ (32 - plen) == val / 2 ^ (32 - plen) | none => false)

/-- An ingress rule matches a frame of a port (R323, R324). -/
def ingressMatch (r : List Byte) (port : Nat) (f : List Byte) (p : Parsed) : Bool :=
  let ctl := byteAt r 0
  let mac (o : Nat) : Bool :=
    (List.range 6).all (fun i => byteAt f i &&& byteAt r (o + 6 + i) == byteAt r (o + i) &&& byteAt r (o + 6 + i))
  nbit ctl 0 && nbit (byteAt r 1) port && vlanOk ctl p &&
    (!nbit ctl 4 || (match p.frag with | some x => x == nbit ctl 5 | none => false)) &&
    fieldOk p.etype (rule16 r 2) (rule16 r 4) && mac 6 && fieldOk (tagField p) (rule16 r 18) (rule16 r 20) &&
    fieldOk p.dscp (byteAt r 22) (byteAt r 23) && fieldOk p.proto (byteAt r 24) (byteAt r 25) &&
    prefixOk (byteAt r 26) p.sip (beNat (slice r 28 4)) && prefixOk (byteAt r 27) p.dip (beNat (slice r 32 4)) &&
    fieldOk p.sport (rule16 r 36) (rule16 r 38) && fieldOk p.dport (rule16 r 40) (rule16 r 42)

/-- An egress rule matches a copy (R333). -/
def egressMatch (r : List Byte) (port cls origin : Nat) (p : Parsed) : Bool :=
  let ctl := byteAt r 0
  nbit ctl 0 && nbit (byteAt r 1) port && nbit (byteAt r 2) cls && nbit (byteAt r 3) origin && vlanOk ctl p &&
    fieldOk p.etype (rule16 r 4) (rule16 r 6) && fieldOk (tagField p) (rule16 r 8) (rule16 r 10)

/-- Format of an ingress rule (R338). -/
def ingressFormat (r : List Byte) : Bool :=
  let z (o : Nat) : Bool := byteAt r o == 0
  byteAt r 0 < 64 && nfld (byteAt r 0) 3 2 < 3 && byteAt r 1 < 16 && byteAt r 19 < 128 && byteAt r 21 < 128 &&
    byteAt r 22 < 64 && byteAt r 23 < 64 && byteAt r 26 ≤ 32 && byteAt r 27 ≤ 32 &&
    z 44 && z 45 && z 46 && z 47 && nfld (byteAt r 49) 1 0 < 3 && nfld (byteAt r 49) 3 2 == 0 &&
    (List.range 14).all (fun i => z (50 + i))

/-- Format of an egress rule (R338). -/
def egressFormat (r : List Byte) : Bool :=
  let z (o : Nat) : Bool := byteAt r o == 0
  let ops := byteAt r 12
  byteAt r 0 < 16 && nfld (byteAt r 0) 3 2 < 3 && byteAt r 1 < 16 && byteAt r 3 < 32 && byteAt r 9 < 128 && byteAt r 11 < 128 &&
    nfld ops 1 0 < 3 && nfld ops 3 2 < 3 && ops < 128 && byteAt r 13 < 64 && byteAt r 18 < 2 && z 19 &&
    (List.range 16).all (fun i => z (32 + i))

/-! ### Egress operations (R334) -/

/-- Outer tags popped, up to a number. -/
def popTags : Nat → List Byte → List Byte
  | 0, f => f
  | n + 1, f => if (parseTags f).1 = 0 then f else popTags n (f.take 12 ++ f.drop 16)

/-- A tag pushed behind the addresses. -/
def pushTag (tpid tci : Nat) (f : List Byte) : List Byte := f.take 12 ++ toBe 2 tpid ++ toBe 2 tci ++ f.drop 12

/-- TCI of a pushed tag: PUSH fields, with the PCP of the class where bit 15 asks for it. -/
def pushTci (w cls : Nat) : Nat := (if nbit w 15 then cls else nfld w 14 12) * 8192 + nfld w 11 0

/-- Byte at an offset replaced. -/
def setByte (f : List Byte) (o v : Nat) : List Byte := f.set o (BitVec.ofNat 8 v)

/-- 16 big-endian bits replaced. -/
def setBe16 (f : List Byte) (o v : Nat) : List Byte := setByte (setByte f o (v / 256)) (o + 1) v

/-- DSCP set, with the IPv4 header checksum. -/
def setDscp (d : Nat) (f : List Byte) : List Byte :=
  let p := parseFrame f
  let o := p.l3
  match p.ip with
  | some 4 =>
    let f := setBe16 (setByte f (o + 1) (d * 4 + byteAt f (o + 1) % 4)) (o + 10) 0
    setBe16 f (o + 10) (inetSum (slice f o (4 * (byteAt f o % 16))))
  | some _ =>
    let tc := d * 4 + byteAt f (o + 1) / 16 % 4
    setByte (setByte f o (byteAt f o / 16 * 16 + tc / 16)) (o + 1) (tc % 16 * 16 + byteAt f (o + 1) % 16)
  | none => f

/-- Frame padded to 60 bytes, 64 with its check sequence. -/
def padFrame (f : List Byte) : List Byte := f ++ List.replicate (60 - f.length) 0

/-- The operations of an egress rule; none when the frame ends with more than two tags or too long (R334). -/
def egressApply (r : List Byte) (cls : Nat) (f : List Byte) : Option (List Byte) :=
  let ops := byteAt r 12
  let f := popTags (nfld ops 1 0) f
  let n := nfld ops 3 2
  let f := if n = 2 then pushTag 0x8100 (pushTci (rule16 r 16) cls) f else f
  let f := if 1 ≤ n then pushTag (if nbit (byteAt r 18) 0 then 0x88A8 else 0x8100) (pushTci (rule16 r 14) cls) f else f
  let three := (be16 f 12 == 0x8100 || be16 f 12 == 0x88A8) && (be16 f 16 == 0x8100 || be16 f 16 == 0x88A8) &&
    (be16 f 20 == 0x8100 || be16 f 20 == 0x88A8)
  let f := if nbit ops 4 then setDscp (byteAt r 13) f else f
  let f := if nbit ops 5 then f.take 6 ++ slice r 20 6 ++ f.drop 12 else f
  let f := if nbit ops 6 then slice r 26 6 ++ f.drop 6 else f
  let f := padFrame f
  if three ∨ 2044 < f.length then none else some f

/-! ### Frames that the part makes (R319, R327, R332) -/

/-- Ethernet frame from a port's interface: source address, tag with PCP equal to the class, EtherType. -/
def NetIfCfg.frame (i : NetIfCfg) (dst : List Byte) (cls etype : Nat) (payload : List Byte) : List Byte :=
  dst ++ i.mac ++ (if i.vid = 0 then [] else toBe 2 0x8100 ++ toBe 2 (cls * 8192 + i.vid)) ++ toBe 2 etype ++ payload

/-- IPv4 packet without options. -/
def ipv4Packet (dscp ttl proto : Nat) (src dst : Word) (payload : List Byte) : List Byte :=
  let h (sum : Nat) : List Byte :=
    toBe 1 0x45 ++ toBe 1 (dscp * 4) ++ toBe 2 (20 + payload.length) ++ toBe 2 0 ++ toBe 2 0x4000 ++ toBe 1 ttl ++ toBe 1 proto ++
      toBe 2 sum ++ toBe 4 src.toNat ++ toBe 4 dst.toNat
  h (inetSum (h 0)) ++ payload

/-- IPv4 packet with the Router Alert option. -/
def ipv4Alert (ttl proto : Nat) (src dst : Word) (payload : List Byte) : List Byte :=
  let h (sum : Nat) : List Byte :=
    toBe 1 0x46 ++ toBe 1 0xC0 ++ toBe 2 (24 + payload.length) ++ toBe 2 0 ++ toBe 2 0x4000 ++ toBe 1 ttl ++ toBe 1 proto ++
      toBe 2 sum ++ toBe 4 src.toNat ++ toBe 4 dst.toNat ++ toBe 4 0x94040000
  h (inetSum (h 0)) ++ payload

/-- Checksum of an IPv6 upper-layer packet under its pseudo-header. -/
def v6Sum (src dst : List Byte) (proto : Nat) (payload : List Byte) : Nat :=
  inetSum (src ++ dst ++ toBe 4 payload.length ++ toBe 4 proto ++ payload)

/-- IPv6 packet. -/
def ipv6Packet (hop proto : Nat) (src dst payload : List Byte) : List Byte :=
  toBe 4 0x60000000 ++ toBe 2 payload.length ++ toBe 1 proto ++ toBe 1 hop ++ src ++ dst ++ payload

/-- Multicast MAC address of an IPv4 group. -/
def mcastMac (g : Word) : List Byte := toBe 3 0x01005E ++ toBe 3 (g.toNat % 2 ^ 23)
/-- Multicast MAC address of an IPv6 group. -/
def mcastMac6 (g : List Byte) : List Byte := toBe 2 0x3333 ++ g.drop 12

/-- UDP over IPv4 with checksum 0. -/
def udp4 (dscp ttl : Nat) (src dst : Word) (sport dport : Nat) (data : List Byte) : List Byte :=
  ipv4Packet dscp ttl 17 src dst (toBe 2 sport ++ toBe 2 dport ++ toBe 2 (8 + data.length) ++ toBe 2 0 ++ data)

/-- UDP over IPv6. -/
def udp6 (hop : Nat) (src dst : List Byte) (sport dport : Nat) (data : List Byte) : List Byte :=
  let u (sum : Nat) : List Byte := toBe 2 sport ++ toBe 2 dport ++ toBe 2 (8 + data.length) ++ toBe 2 sum ++ data
  let c := v6Sum src dst 17 (u 0)
  ipv6Packet hop 17 src dst (u (if c = 0 then 0xFFFF else c))

end Sys2Proof.Machine
end

