-- ==== Sys2Proof/Machine/NetOps.lean ====
section
/-! DEFINITION. Buffer units, queues, admission, the PF's packet path and the PTP frames that the part makes
(R328 to R337 of 12_network.md, R271, R280, R281 of 10_time.md). -/

namespace Sys2Proof.Machine

def State.port (s : State) (n : Nat) : Port := tget s.net.ports n {}
def State.modPort (s : State) (n : Nat) (f : Port → Port) : State :=
  { s with net := { s.net with ports := tmod s.net.ports n {} f } }
def State.modNet (s : State) (f : Net → Net) : State := { s with net := f s.net }

/-- A port is enabled and its link is up (R316, R336). -/
def State.linkUp (s : State) (n : Nat) : Bool :=
  (s.port n).link && (match tfind s.cfg.ports n with | some c => c.enable | none => false)

/-- Units of a frame's bytes without FCS: while received (R328). -/
def rxUnits (len : Nat) : Nat := (len + 4 + 255) / 256
/-- Units of a copy in a queue. -/
def copyUnits (len : Nat) : Nat := (len + 12 + 255) / 256

def sumOf (l : List Nat) : Nat := l.foldl (· + ·) 0

/-- Units held by a port's queues. -/
def Port.units (p : Port) : Nat := sumOf (p.queues.map (fun q => sumOf (q.2.map (·.units))))
/-- Units held at the steward's input. -/
def State.stewardUnits (s : State) : Nat := sumOf (s.net.stewardIn.map (fun f => rxUnits f.2.length))
/-- Units held in all. -/
def State.heldUnits (s : State) : Nat := sumOf (s.net.ports.map (fun p => p.2.units)) + s.stewardUnits
/-- Free units while `extra` are held by a frame in flight (R328). -/
def State.freeUnits (s : State) (extra : Nat) : Nat := 16384 - s.heldUnits - extra

/-- Number of an origin in Table 12-7. -/
def originCode : Origin → Nat
  | .forwarded => 0 | .pf => 1 | .timeEngine => 2 | .audio => 3 | .steward => 4

/-- Setting of a queue (12 Commands). -/
def Cfg.queue (c : Cfg) (port q : Nat) : QueueCfg :=
  tget c.queues (port * 16 + q) { weight := 1, green := 2048, yellow := 1024, red := 256 }

/-- Threshold of a colour. -/
def QueueCfg.threshold (c : QueueCfg) (colour : Nat) : Nat := if colour = 0 then c.green else if colour = 1 then c.yellow else c.red

/-- What waited for the stamp of a copy that is dropped gets none: a NET_TX completes with open values. -/
def State.txFail (s : State) (w : TxFor) (cq : Option Nat) : State :=
  match w with
  | .netTx k => match tfind s.net.txWaits k with
    | some x =>
      let (a, s) := s.free
      let (b, s) := s.free
      let s := s.modNet (fun n => { n with txWaits := terase n.txWaits k })
      s.cqComplete 0 x.qp x.cid x.noCqe x.sqHead 0 (toLe 4 x.mask ++ toLe 4 a ++ toLe 4 b) cq
    | none => s
  | _ => s

/-- A copy is tested for its queue: admitted, or dropped and counted (R329, R330, R336). -/
def State.admitCopy (s : State) (port queue colour cls : Nat) (origin : Origin) (bytes : List Byte) (convoy : Bool)
    (extra : Nat := 0) (for_ : TxFor := .nothing) (oneStep : Bool := false) : Bool × State :=
  let s := s.count 12 port 8
  let need := copyUnits bytes.length
  let q : List Copy := tget (s.port port).queues queue []
  let used := sumOf (q.map (·.units))
  if s.freeUnits extra < need ∨ (s.cfg.queue port queue).threshold colour < used + need then
    let s := if convoy then s.count 12 port 10
      else (s.count 12 port 11).modNet (fun n =>
        { n with queueDrops := tset n.queueDrops (port * 64 + queue * 4 + colour)
                   (tget n.queueDrops (port * 64 + queue * 4 + colour) 0 + 1) })
    (false, s)
  else
    let s := s.count 12 port 9
    if s.linkUp port then
      let c : Copy := { bytes, origin, cls, colour, units := need, oneStep, cfg := s.man.cur, for_ }
      (true, s.modPort port (fun p => { p with queues := tset p.queues queue (q ++ [c]) }))
    else (true, (s.count 12 port 14).txFail for_ none)

/-- A frame that the part makes for one port (R332). -/
def State.sendMade (s : State) (port : Nat) (origin : Origin) (bytes : List Byte) (for_ : TxFor := .nothing)
    (oneStep : Bool := false) : State :=
  let (q, cls) := match origin with
    | .timeEngine => (15, 7)
    | .audio => (s.devN 0x0A02, 6)
    | _ => (13, 5)
  (s.admitCopy port q 0 cls origin bytes false 0 for_ oneStep).2

/-- The captured served time at a port, corrected by a parameter (R318). -/
def State.stampAt (s : State) (adj : Nat) : Nat := ((s.tim.served : Int) + s.dev adj * 65536).toNat

/-! ### The PF's packet path (R335) -/

/-- A PF copy fills the oldest posted entry, or is dropped and counted (R335, Table 12-8). -/
def State.pfDeliver (s : State) (port cls : Nat) (malformed : Option Nat) (rule : Nat) (frame : List Byte) (io : HostIo) : State :=
  let q := s.devN 0x0A01
  match s.net.rxPosts.find? (fun r => r.qp == q) with
  | none => s.count 12 port 17
  | some r =>
    let s := s.modNet (fun n => { n with rxPosts := n.rxPosts.erase r })
    let st := s.stampAt (0x0810 + port)
    let (status, s) := s.hostWrite 0 r.resIova frame io.dataFault
    let body := toLe 2 frame.length ++ toLe 1 (port + cls * 4 + b2n malformed.isSome * 32) ++ toLe 1 (malformed.getD 0) ++
      toLe 4 (secOf st) ++ toLe 4 (nsOf st) ++ toLe 2 rule ++ toLe 2 0
    s.cqComplete 0 r.qp r.cid r.noCqe r.sqHead status body io.cqFault

/-! ### PTP frames (R270, R271, R280, R281) -/

/-- The part's clock identity (DEDUCED, log entry 47: fuse words 6 and 7). -/
def State.clockId (s : State) : Nat := ofTwo (s.fuse 6) (s.fuse 7)

/-- A PTP message: type, flags, control, log interval, sequence, correction, body. -/
def State.ptpBytes (s : State) (port domain type flags control seq : Nat) (correction logInterval : Int)
    (body : List Byte) : List Byte :=
  toBe 1 type ++ toBe 1 0x12 ++ toBe 2 (34 + body.length) ++ toBe 1 domain ++ toBe 1 0 ++ toBe 2 flags ++
    toBe 8 (unsgn 64 correction) ++ toBe 4 0 ++ toBe 8 s.clockId ++ toBe 2 (port + 1) ++ toBe 2 seq ++ toBe 1 control ++
    toBe 1 (unsgn 8 logInterval) ++ body

/-- A PTP timestamp: 48-bit seconds and 32-bit nanoseconds. -/
def ptpTime (v : Nat) : List Byte := toBe 6 (secOf v) ++ toBe 4 (nsOf v)

/-- A PTP message in its transport's frame; an IPv6 event message gets Annex D's two octets (R281). -/
def NetIfCfg.ptpFrame (i : NetIfCfg) (transport : Nat) (event : Bool) (msg : List Byte) : List Byte :=
  let p := if event then 319 else 320
  match transport with
  | 0 => i.frame (toBe 6 0x011B19000000) 7 0x88F7 msg
  | 1 => let g : Word := 0xE0000181
    i.frame (mcastMac g) 7 0x0800 (udp4 0 1 i.ipv4 g p p msg)
  | _ => let g : List Byte := toBe 16 0xFF0E0000000000000000000000000181
    i.frame (mcastMac6 g) 7 0x86DD (udp6 1 i.ipv6 g p p (msg ++ toBe 2 0))

/-- A PTP frame of the time engine leaves for a port that holds an interface. -/
def State.sendPtp (s : State) (port transport : Nat) (event : Bool) (msg : List Byte) (for_ : TxFor := .nothing)
    (oneStep : Bool := false) : State :=
  match tfind s.cfg.ifs port with
  | some i => s.sendMade port .timeEngine (i.ptpFrame transport event msg) for_ oneStep
  | none => s

/-- One-step insertion: the egress time into originTimestamp, FRAC into correctionField, and over IPv6 the two last
octets that keep the UDP checksum (R281). -/
def oneStepInsert (f : List Byte) (v : Nat) : List Byte :=
  let p := parseFrame f
  let o := match p.l4 with | some l4 => l4 + 8 | none => p.l3
  let f1 := f.take (o + 8) ++ toBe 8 (fracOf v) ++ slice f (o + 16) 18 ++ ptpTime v ++ f.drop (o + 44)
  match p.ip with
  | some 6 =>
    let pay := slice f1 (o + 8) 8 ++ slice f1 (o + 34) 10
    setBe16 f1 (o + 44) (65535 - fold16 (sum16 pay))
  | _ => f1

end Sys2Proof.Machine
end

