-- ==== Sys2Proof/Machine/Authority.lean ====
section
/-! DEFINITION. The capability-area commands, generation broadcasts and object-table errors
(05_capabilities.md). -/

namespace Sys2Proof.Machine

/-- CAP_INFO. -/
def capInfoDef : CmdDef :=
  { code := 0x0401, argc := 4, tenant := true }

/-- CAP_INFO's work. -/
def capInfoWork (tag : Nat) (_io : HostIo) (a : List Word) (s : State) : Answer :=
    match s.handleOk tag (argHandle a 1) with
    | .error e => .status e s
    | .ok c =>
      let o := s.obj c.object
      .ok [ wd (o.gen * 2 ^ 16 + c.object)
          , wd (o.rights.toNat + o.type * 2 ^ 16 + o.level * 2 ^ 20 + o.owner * 2 ^ 22)
          , wd (o.parent + o.depth * 2 ^ 16 + s.treeCount c.object * 2 ^ 20)
          , wd o.offset, wd o.length, o.label ] s

def execCapInfo (t tag : Nat) (io : HostIo) (s : State) : Out :=
  .next (s.run capInfoDef (capInfoWork tag io) t tag io)

/-- Window of a child (R134): its offset in the parent's window and its length, if it fits. -/
def childWindow (type plen off len : Nat) : Option (Nat × Nat) :=
  if type = 1 ∨ type = 6 then
    if plen ≤ off then none
    else
      let l := if len = 0 then plen - off else len
      if off + l ≤ plen then some (off, l) else none
  else if off = 0 ∧ len = 0 then some (0, 0) else none

/-- A child object is made (R134): the status of the first failing condition, or the child's number. -/
def State.child (s : State) (parent owner level : Nat) (rights : BitVec 16) (off len : Nat) : Except Nat (Nat × State) :=
  let o := s.obj parent
  match childWindow o.type o.length off len with
  | none => .error 0x0403
  | some (w, l) =>
    if 4 ≤ o.depth then .error 0x0404
    else if 64 ≤ s.treeCount parent then .error 0x0405
    else match s.mint { o with level, owner, rights, base := o.base + w, offset := o.offset + w, length := l
                               parent, depth := o.depth + 1, label := 0 } with
      | none => .error 0x0406
      | some p => .ok p

/-- CAP_DERIVE. -/
def capDeriveDef : CmdDef :=
  { code := 0x0402, argc := 7, tenant := true, masks := [0xFFFFFFFF, 0xFFFFFFFF, 0xFFFFFFFF, 0xFFFFFFFF, 0xFFFF] }

/-- CAP_DERIVE's work. -/
def capDeriveWork (tag : Nat) (_io : HostIo) (a : List Word) (s : State) : Answer :=
      let want : BitVec 16 := BitVec.ofNat 16 (fld (arg a 5) 15 0)
      match s.handleFor tag (argHandle a 1) (fun _ => true) (1 <<< rDerive) with
      | .error e => .status e s
      | .ok c =>
        if !rightsSub want c.rights then .status 0x0401 s
        else match s.child c.object tag c.level want (arg a 6).toNat (arg a 7).toNat with
          | .error e => .status e s
          | .ok (n, s) => .ok (handleWords (s.sealed ((s.obj n).cap n))) s

/-- CAP_DERIVE (R134). -/
def execCapDerive (t tag : Nat) (io : HostIo) (s : State) : Out :=
  .next (s.run capDeriveDef (capDeriveWork tag io) t tag io)

/-- CAP_GRANT. -/
def capGrantDef : CmdDef :=
  { code := 0x0405, argc := 8, tenant := false, masks := [0xFFFFFFFF, 0xFFFFFFFF, 0xFFFFFFFF, 0xFFFFFFFF, 0x3FF, 0xFFFF] }

/-- CAP_GRANT's work. -/
def capGrantWork (tag : Nat) (_io : HostIo) (a : List Word) (s : State) : Answer :=
      let target := fld (arg a 5) 9 0
      let want : BitVec 16 := BitVec.ofNat 16 (fld (arg a 6) 15 0)
      match s.handleFor tag (argHandle a 1) (fun _ => true) (1 <<< rGrant) with
      | .error e => .status e s
      | .ok c =>
        if isPf target || decide (287 < target) || !s.enabled target then .status 0x0012 s
        else if want.getLsbD rGrant || !rightsSub want c.rights then .status 0x0401 s
        else match s.child c.object target 2 want (arg a 7).toNat (arg a 8).toNat with
          | .error e => .status e s
          | .ok (n, s) => .ok (handleWords (s.sealed ((s.obj n).cap n))) s

/-- CAP_GRANT (R134, R149). -/
def execCapGrant (t tag : Nat) (io : HostIo) (s : State) : Out :=
  .next (s.run capGrantDef (capGrantWork tag io) t tag io)

/-- CAP_REVOKE. -/
def capRevokeDef : CmdDef :=
  { code := 0x0403, argc := 4, tenant := true }

/-- CAP_REVOKE's work. -/
def capRevokeWork (tag : Nat) (_io : HostIo) (a : List Word) (s : State) : Answer :=
    match s.handleFor tag (argHandle a 1) (fun _ => true) (1 <<< rRevoke) with
    | .error e => .status e s
    | .ok c =>
      let o := s.obj c.object
      let s := s.revokeTree c.object
      if s.live c.object then
        .hold .broadcast 0 (handleWords (s.sealed { (s.obj c.object).cap c.object with rights := c.rights })) s
      else match s.mint { o with gen := 0 } with
        | none => .hold .broadcast 0x0406 [] s
        | some (n, s) =>
          let s := match o.what with
            | .key k => { s with sec := { s.sec with keys := tupd s.sec.keys k (fun r =>
                { r with object := if r.object = c.object then n else r.object }) } }
            | _ => s
          .hold .broadcast 0 (handleWords (s.sealed { (s.obj n).cap n with rights := c.rights })) s

/-- CAP_REVOKE (R138, R139): the reply waits for the acknowledgements of R136. -/
def execCapRevoke (t tag : Nat) (io : HostIo) (s : State) : Out :=
  .next (s.run capRevokeDef (capRevokeWork tag io) t tag io)

/-- CAP_RELEASE. -/
def capReleaseDef : CmdDef :=
  { code := 0x0404, argc := 4, tenant := true }

/-- CAP_RELEASE's work. -/
def capReleaseWork (tag : Nat) (_io : HostIo) (a : List Word) (s : State) : Answer :=
    match s.handleOk tag (argHandle a 1) with
    | .error e => .status e s
    | .ok c => .hold .broadcast 0 [] (s.releaseTree c.object)

/-- CAP_RELEASE (R138). -/
def execCapRelease (t tag : Nat) (io : HostIo) (s : State) : Out :=
  .next (s.run capReleaseDef (capReleaseWork tag io) t tag io)

/-- The held reply of a revocation goes out once no broadcast is outstanding (R136). -/
def State.ackHeld (s : State) : State :=
  if !s.cap.broadcasts.isEmpty then s else
    match s.mbx.held with
    | some h => match h.wait with
      | .broadcast => (({ s with mbx := { s.mbx with held := none } }).complete h.tag h.status h.results).take
      | _ => s
    | none => s

/-- A unit acknowledges the oldest broadcast that waits for it (R136). -/
def ackUnit (unit : Nat) : List Broadcast → List Broadcast
  | [] => []
  | b :: r =>
    if b.units.contains unit then
      let u := b.units.filter (· ≠ unit)
      if u.isEmpty then r else { b with units := u } :: r
    else b :: ackUnit unit r

def execGenerationBroadcastAck (t unit : Nat) (s : State) : Out :=
  let s := s.tick t
  .next (({ s with cap := { s.cap with broadcasts := ackUnit unit s.cap.broadcasts } }).ackHeld)

/-- CAP_LIST. -/
def capListDef : CmdDef :=
  { code := 0x0406, argc := 4, tenant := true, masks := [0xFFFFFFFF, 0xFFFFFFFF, 0xFFFFFFFF, 0xFFFF] }

/-- CAP_LIST's work. -/
def capListWork (tag : Nat) (io : HostIo) (a : List Word) (s : State) : Answer :=
      let len := (arg a 3).toNat
      let iova := ofTwo (arg a 1) (arg a 2)
      if len = 0 ∨ len % 16 ≠ 0 then .status 0x0011 s
      else
        let mine := s.cap.objs.filter (fun p =>
          p.2.state == .live && p.2.owner == tag && handleType p.2.type && decide (fld (arg a 4) 15 0 ≤ p.1))
        let out := mine.take (len / 16)
        let next := match mine.drop (len / 16) with | p :: _ => p.1 | [] => 0
        let bytes := out.flatMap (fun p => toLe 16 (s.sealed (p.2.cap p.1)).toNat)
        match s.hostWrite tag iova bytes io.dataFault with
        | (0, s) => .ok [wd out.length, wd next] s
        | (st, s) => .status st s

/-- CAP_LIST (R149). -/
def execCapList (t tag : Nat) (io : HostIo) (s : State) : Out :=
  .next (s.run capListDef (capListWork tag io) t tag io)

/-- A call gate of the image set. -/
def State.gate (s : State) (n : Nat) : Option Gate := s.cap.gates.find? (fun g => g.number == n)

/-- CAP_GATE_OPEN. -/
def capGateOpenDef : CmdDef :=
  { code := 0x0407, argc := 1, tenant := true, masks := [0xFFFF] }

/-- CAP_GATE_OPEN's work. -/
def capGateOpenWork (tag : Nat) (_io : HostIo) (a : List Word) (s : State) : Answer :=
    match s.gate (fld (arg a 1) 15 0) with
    | none => .status 0x0407 s
    | some g =>
      if g.level < accessLevel tag then .status 0x0014 s
      else match s.mintRoot tag (accessLevel tag) 2 (1 <<< rCall) (.gate g.number) 0 0 with
        | none => .status 0x0406 s
        | some (n, s) => .ok (handleWords (s.sealed ((s.obj n).cap n))) s

/-- CAP_GATE_OPEN (R149). -/
def execCapGateOpen (t tag : Nat) (io : HostIo) (s : State) : Out :=
  .next (s.run capGateOpenDef (capGateOpenWork tag io) t tag io)

/-- CAP_GATE_INFO. -/
def capGateInfoDef : CmdDef :=
  { code := 0x0408, argc := 1, tenant := true, masks := [0xFFFF] }

/-- CAP_GATE_INFO's work. -/
def capGateInfoWork (_tag : Nat) (_io : HostIo) (a : List Word) (s : State) : Answer :=
    match s.gate (fld (arg a 1) 15 0) with
    | none => .status 0x0407 s
    | some g =>
      let w (i : Nat) : List Word := let x := g.slots.getD i {}; [x.a, x.b]
      .ok (wd (g.number + g.caste * 2 ^ 16 + g.level * 2 ^ 20) :: (w 0 ++ w 1 ++ w 2)) s

/-- CAP_GATE_INFO (R141). -/
def execCapGateInfo (t tag : Nat) (io : HostIo) (s : State) : Out :=
  .next (s.run capGateInfoDef (capGateInfoWork tag io) t tag io)

/-- A fault record as an instance may see it (R148). -/
def State.faultView (s : State) (tag : Nat) (f : FaultRec) : FaultRec :=
  if isPf tag || (s.obj f.object).owner == tag && f.object ≠ 0 then f
  else { f with object := 0, genHeld := 0, genNow := 0, offset := 0, length := 0 }

/-- CAP_FAULT_GET. -/
def capFaultGetDef : CmdDef :=
  { code := 0x0409, argc := 1, tenant := true }

/-- CAP_FAULT_GET's work. -/
def capFaultGetWork (tag : Nat) (_io : HostIo) (a : List Word) (s : State) : Answer :=
    match s.cap.faults.find? (fun f => f.seq == (arg a 1).toNat && (isPf tag || f.tag == tag)) with
    | none => .status 0x0409 s
    | some f => .ok (leWords (s.faultView tag f).bytes) s

/-- CAP_FAULT_GET (R148). -/
def execCapFaultGet (t tag : Nat) (io : HostIo) (s : State) : Out :=
  .next (s.run capFaultGetDef (capFaultGetWork tag io) t tag io)

/-- An uncorrectable error of an object-table entry retires it (R152). -/
def execObjectTableEcc (t obj : Nat) (s : State) : Out :=
  let s := s.tick t
  if obj = 0 ∨ 65535 < obj then .next s else
    .next ((({ s with cap := { s.cap with eccErrors := s.cap.eccErrors + 1 } }).setObj obj
      { s.obj obj with state := .retired }).raiseDev 0x0402 srcObjects obj)

end Sys2Proof.Machine
end

