-- ==== Sys2Proof/Machine/SeaBase.lean ====
section
/-! DEFINITION. Cells, contexts, scores, session slots, leases, castes and Audio pairs (07_cell_sea.md): the
operations that sessions, batch jobs and recovery share. -/

namespace Sys2Proof.Machine

def State.modSea (s : State) (f : Sea → Sea) : State := { s with sea := f s.sea }
def State.cell (s : State) (n : Nat) : Cell := tget s.sea.cells n {}
def State.modCell (s : State) (n : Nat) (f : Cell → Cell) : State :=
  s.modSea (fun a => { a with cells := tmod a.cells n {} f })

/-- A cell's state changes, and the time of the change is kept (Table 7-5). -/
def State.setCell (s : State) (n : Nat) (st : CellState) : State :=
  s.modCell n (fun c => { c with state := st, changed := s.sec32 })

/-- Cluster island of a cell, and die of a cluster island (R14). -/
def clusterOf (cell : Nat) : Nat := cell / 8
def dieOf (island : Nat) : Nat := island / 24

/-- Caste numbers (Table 7-5). -/
def casteNum : Caste → Nat
  | .validator => 0 | .cipher => 1 | .audio => 2 | .ledger => 3 | .sentinel => 4 | .reserve => 5
def casteOf (n : Nat) : Caste :=
  match n with
  | 0 => .validator | 1 => .cipher | 2 => .audio | 3 => .ledger | 4 => .sentinel | _ => .reserve

/-- Contexts of a cell in a caste (R185). -/
def contexts (c : Caste) : Nat := if c = .audio || c = .sentinel then 1 else 4

/-! ### Scores (R193, R195) -/

/-- A signed number limited to 0 to 255. -/
def lim255 (v : Int) : Nat := if v < 0 then 0 else if 255 < v then 255 else v.toNat

/-- Terms M, T, L, D of a cell (Table 7-3). -/
def State.scoreTerms (s : State) (n : Nat) : List Nat :=
  let i := tget s.isl.islands (clusterOf n) {}
  [ i.margin, lim255 (2 * (110 - i.tj)), lim255 (255 - 64 * (s.cell n).work.length)
  , lim255 (255 - (tget s.sea.latency (clusterOf n) 0 : Nat)) ]

/-- The weighted sum of four terms (R193). -/
def State.scoreOf (s : State) (t : List Nat) : Nat :=
  s.devN 0x06C1 * t.getD 0 0 + s.devN 0x06C2 * t.getD 1 0 + s.devN 0x06C3 * t.getD 2 0 + s.devN 0x06C4 * t.getD 3 0

/-- Score of a cell for a placement: D is 255 for all but a session (Table 7-3). -/
def State.placeScore (s : State) (n : Nat) (session : Bool) : Nat :=
  let c := s.cell n
  if session then c.score else s.scoreOf (c.terms.set 3 255)

/-- R195, R381: a cell is eligible for new work of a caste. -/
def State.eligibleCell (s : State) (caste : Caste) (n : Nat) (c : Cell) : Bool :=
  c.caste == caste && c.state == .available && decide (c.work.length < contexts caste) &&
    !s.sea.drainCells.contains n && !s.sea.drainClusters.contains (clusterOf n) &&
    !(tget s.isl.islands (clusterOf n) {}).ineligible

/-- The eligible cell with the highest score; of equals the one placed least recently, then the lower number. -/
def State.bestCell (s : State) (caste : Caste) (session : Bool) : Option Nat :=
  s.sea.cells.foldl (fun best p =>
    if !s.eligibleCell caste p.1 p.2 then best else match best with
    | none => some p.1
    | some b =>
      let sb := s.placeScore b session
      let sp := s.placeScore p.1 session
      if sb < sp || (sb == sp && decide (p.2.placed < (s.cell b).placed)) then some p.1 else best) none

/-! ### Contexts and placements -/

/-- A unit of work takes a context, and the placement is counted (R185, R195). -/
def State.giveWork (s : State) (n : Nat) (w : Work) : State :=
  let s := s.modCell n (fun c => { c with work := c.work ++ [w], placed := s.sea.placeClock, scratchUsed := true })
  (s.modSea (fun a => { a with placeClock := a.placeClock + 1 })).count 5 n 0

/-- A unit of work leaves every context that holds it. -/
def State.dropWork (s : State) (w : Work) : State :=
  s.modSea (fun a => { a with cells := tmap a.cells (fun _ c =>
    if c.work.contains w then { c with work := c.work.filter (· ≠ w) } else c) })

/-- One context's hold of a unit of work ends on one cell. -/
def State.dropWorkOn (s : State) (n : Nat) (w : Work) : State :=
  s.modCell n (fun c => { c with work := c.work.erase w })

/-- A placement begins to wait. -/
def State.await (s : State) (work : Work) (caste : Caste) : State :=
  s.modSea (fun a => { a with waiting := a.waiting ++ [{ work, caste, since := s.now }] })

/-- A placement waits no more. -/
def State.unwait (s : State) (w : Work) : State :=
  s.modSea (fun a => { a with waiting := a.waiting.filter (fun x => x.work ≠ w) })

/-- Placement is suspended by a reset of H.DROV (R214). -/
def State.placing (s : State) : Bool := decide (s.sea.suspended ≤ s.now)

/-! ### Session slots (R197) -/

def State.slot (s : State) (n : Nat) : Slot := tget s.sea.slots n {}
def State.setSlot (s : State) (n : Nat) (x : Slot) : State := s.modSea (fun a => { a with slots := tset a.slots n x })

/-- The lowest FREE session slot. -/
def State.freeSlotNo (s : State) : Option Nat := (List.range 1024).find? (fun n => (s.slot n).state == .free)

/-- FREE slots. -/
def State.freeSlots (s : State) : Nat := 1024 - (s.sea.slots.filter (fun p => p.2.state ≠ .free)).length

/-- A slot becomes ACTIVE at its grant. -/
def State.grantSlot (s : State) (n : Nat) (charged : Option Nat) : State :=
  (s.setSlot n { state := .active, charged }).count 4 0 3

/-- A slot becomes FREE and is charged to nobody. -/
def State.releaseSlot (s : State) (n : Nat) : State :=
  if (s.slot n).state == .free then s
  else (s.modSea (fun a => { a with slots := terase a.slots n })).count 4 0 4

/-- A slot's work ends: it drains while its record's destinations are open. -/
def State.drainSlot (s : State) (n : Nat) : State :=
  if (s.slot n).state == .active then s.setSlot n { s.slot n with state := .draining } else s

/-! ### Leases (R201, R202) -/

/-- Low 32 bits of served microseconds. -/
def State.servedUs (s : State) : Nat := s.tim.served / (1000 * nsUnit) % 2 ^ 32

/-- A lease is acquired by a cell, expiring after a time. -/
def State.lease (s : State) (n holder us : Nat) (slot : Option Nat) : State :=
  let l : Lease := { hgen := (s.cell holder).hgen, holder, expiry := (s.servedUs + us) % 2 ^ 32, slot }
  s.modSea (fun a => { a with leases := tset a.leases n l })

/-- A lease is held (R201). -/
def State.leaseHeld (s : State) (l : Lease) : Bool :=
  l.hgen == (s.cell l.holder).hgen && decide (0 < sgn 32 (l.expiry + 2 ^ 32 - s.servedUs))

/-- A held slot lease is renewed by an exchange or a piece. -/
def State.renew (s : State) (slot : Nat) : State :=
  match tfind s.sea.leases slot with
  | some l =>
    let l' : Lease := { l with expiry := (s.servedUs + s.devN 0x06C6 * 1000) % 2 ^ 32 }
    if s.leaseHeld l then s.modSea (fun a => { a with leases := tset a.leases slot l' }) else s
  | none => s

/-- The intent record beside a slot's lease changes state (R202, R222). -/
def State.intent (s : State) (slot : Nat) (st : IntentState) : State :=
  s.modSea (fun a => { a with leases := tupd a.leases slot (fun l => { l with intent := { l.intent with state := st } }) })

/-- A lease is released, which clears its intent record. -/
def State.dropLease (s : State) (n : Nat) : State := s.modSea (fun a => { a with leases := terase a.leases n })

/-! ### Castes (R187, R190 to R192) -/

/-- Cells of a caste that stay in it, and cells moving into it. -/
def State.casteSize (s : State) (c : Caste) : Nat :=
  (s.sea.cells.filter (fun p =>
    ((p.2.state == .available || p.2.state == .testing) && p.2.caste == c) ||
      (p.2.state == .moving && !p.2.toQuarantine && p.2.next == c))).length

/-- A cell begins to leave its caste for another (R190). -/
def State.moveTo (s : State) (n : Nat) (c : Caste) : State :=
  (s.setCell n .moving).modCell n (fun x => { x with next := c, loading := false })

/-- AVAILABLE cells of a caste that a test admits, lowest score first, then lower number. -/
def State.lowest (s : State) (c : Caste) (f : Nat → Bool) : List Nat :=
  let l := s.sea.cells.filter (fun p => p.2.state == .available && p.2.caste == c && f p.1)
  let rec ins (p : Nat × Nat) : List (Nat × Nat) → List (Nat × Nat)
    | [] => [p]
    | q :: r => if p.1 < q.1 then p :: q :: r else q :: ins p r
  (l.foldl (fun acc p => ins (p.2.score, p.1) acc) []).map (·.2)

/-- Even cells of pairs both of whose cells are AVAILABLE in Reserve, or the cell alone whose pair mate is an Audio cell (R208). -/
def State.reservePairs (s : State) : List Nat :=
  s.lowest .reserve (fun n => n % 2 == 0 && (s.cell (n + 1)).state == .available && (s.cell (n + 1)).caste == .reserve)

/-- Reserve cells whose pair mate is an Audio cell without its spare. -/
def State.spareCells (s : State) : List Nat :=
  s.lowest .reserve (fun n =>
    let m := s.cell (if n % 2 = 0 then n + 1 else n - 1)
    m.caste == .audio && (m.state == .available || m.state == .testing))

/-- Takes cells from Reserve into a caste, Audio cells in pairs; answers how many are still missing. -/
def State.fill (s : State) (c : Caste) (need : Nat) : Nat × State :=
  if need = 0 then (0, s)
  else if c = .audio then
    let one := s.spareCells.take need
    let s := one.foldl (fun s n => s.moveTo n .audio) s
    let need := need - one.length
    let two := s.reservePairs.take ((need + 1) / 2)
    (need - 2 * two.length, two.foldl (fun s n => (s.moveTo n .audio).moveTo (n + 1) .audio) s)
  else
    let l := (s.lowest .reserve (fun _ => true)).take need
    (need - l.length, l.foldl (fun s n => s.moveTo n c) s)

/-- A caste below its minimum after a fault or quarantine is refilled from Reserve at once; a shortfall is reported
once (R191, R192). -/
def State.refillOne (s : State) (c : Caste) : State :=
  if c = .reserve then s else
    let need := s.cfg.casteMin (casteNum c) - s.casteSize c
    let (short, s) := s.fill c need
    if short = 0 then s.modSea (fun a => { a with shortRaised := a.shortRaised.filter (· ≠ c) })
    else if s.sea.shortRaised.contains c then s
    else (s.modSea (fun a => { a with shortRaised := a.shortRaised ++ [c] })).raiseDev 0x0603 srcDrover
      (casteNum c + short * 2 ^ 16)

/-- Castes still short are refilled once a cell is available; lone Audio cells get their spares (R192, R209). -/
def State.refillShort (s : State) : State :=
  let s := s.spareCells.foldl (fun s n => s.moveTo n .audio) s
  s.sea.shortRaised.foldl State.refillOne s

/-! ### Audio pairs (R208, R209, R313) -/

def State.pair (s : State) (k : Nat) : Pair := tget s.sea.pairs k {}

/-- A cell serves in its Audio pair. -/
def State.audioCell (s : State) (n : Nat) : Bool :=
  (s.cell n).caste == .audio && ((s.cell n).state == .available || (s.cell n).state == .moving || (s.cell n).state == .testing)

/-- The active and the spare cell of a pair. -/
def State.pairActive (s : State) (k : Nat) : Nat := 2 * k + b2n (s.pair k).oddActive
def State.pairSpare (s : State) (k : Nat) : Nat := 2 * k + b2n (!(s.pair k).oddActive)

/-- The spare of a pair can take over: it serves and is not under test (R209, R430). -/
def State.spareReady (s : State) (k : Nat) : Bool :=
  let c := s.cell (s.pairSpare k)
  c.caste == .audio && (c.state == .available || c.state == .moving)

/-- Whether a pair mixes: its active cell serves. -/
def State.pairMixes (s : State) (k : Nat) : Bool := s.audioCell (s.pairActive k)

/-- Pairs with a cell that serves and may take buses: not leaving the caste. -/
def State.audioPairs (s : State) : List Nat :=
  (List.range 384).filter (fun k => [2 * k, 2 * k + 1].any (fun n =>
    (s.cell n).caste == .audio && ((s.cell n).state == .available || (s.cell n).state == .testing)))

/-- Buses that a pair carries. -/
def State.pairBuses (s : State) (k : Nat) : Nat := (s.aud.buses.filter (fun p => p.2.pair == some k)).length

/-- Source channels that a pair's buses name (R313). -/
def State.pairSources (s : State) (k : Nat) : Nat :=
  (s.aud.buses.map (fun p => if p.2.pair == some k then ((tget s.cfg.buses p.1 []).filter (fun b => b.kind ≠ 0)).length else 0)).foldl (· + ·) 0

/-- A bus goes to the first pair with room, if there is one (R313). -/
def State.assignBus (s : State) (b : Nat) : State :=
  let src := ((tget s.cfg.buses b []).filter (fun x => x.kind ≠ 0)).length
  match s.audioPairs.find? (fun k => decide (s.pairBuses k < 64) && decide (s.pairSources k + src ≤ 64)) with
  | some k => { s with aud := { s.aud with buses := tmod s.aud.buses b {} (fun x => { x with pair := some k }) } }
  | none => { s with aud := { s.aud with buses := tmod s.aud.buses b {} (fun x => { x with pair := none }) } }

/-- Every bus whose pair is gone, has lost both cells or leaves the caste is given to a pair with room; while one stays
silent EV_AUD_NO_CELLS is raised once, with the number of silent buses (R313). -/
def State.assignBuses (s : State) : State :=
  let live := s.audioPairs
  let bad := (s.cfg.buses.map (·.1)).filter (fun b => match (tget s.aud.buses b {}).pair with
    | some k => !live.contains k
    | none => true)
  let s := bad.foldl State.assignBus s
  let silent := (s.cfg.buses.filter (fun p => (tget s.aud.buses p.1 {}).pair.isNone)).length
  if silent = 0 then { s with aud := { s.aud with noCells := false } }
  else if s.aud.noCells then s
  else ({ s with aud := { s.aud with noCells := true } }).raiseDev 0x0903 srcAudio silent

/-! ### Credit audits and latency (R194, R373, R374) -/

/-- A credit audit of a die's link is asked for (R373); one that runs is followed by a second (R374). -/
def State.auditRequest (s : State) (die : Nat) : State :=
  let l : DieLink := tget s.isl.links die {}
  let l' : DieLink := if l.auditing then { l with auditAgain := true } else { l with auditing := true }
  if l.state ≠ .up then s else { s with isl := { s.isl with links := tset s.isl.links die l' } }

/-- A cluster holds die-link credits. -/
def State.holdsCredits (s : State) (island : Nat) : Bool :=
  let l : DieLink := tget s.isl.links (dieOf island) {}
  l.toHub.chans.any (fun p => decide (0 < tget p.2.held island 0))

/-- The Drover measures a cluster's latency: the value is the hardware's own (R194). -/
def State.measure (s : State) (island : Nat) : State :=
  let (v, s) := s.free
  s.modSea (fun a => { a with latency := tset a.latency island (v % 2 ^ 16) })

end Sys2Proof.Machine
end

