-- ==== Sys2Proof/Machine/FareOps.lean ====
section
/-! DEFINITION. Sessions: their ends, the denylist, the tariff and the ticket (08_fare_sessions.md, R24 to R26 of
01_tap_end_to_end.md). -/

namespace Sys2Proof.Machine

def State.ses (s : State) (lane : Nat) : Option Session := tfind s.fare.sessions lane
def State.modFare (s : State) (f : Fare → Fare) : State := { s with fare := f s.fare }
def State.modSes (s : State) (lane : Nat) (f : Session → Session) : State :=
  s.modFare (fun a => { a with sessions := tupd a.sessions lane f })

def State.seg (s : State) (n : Nat) : Seg := tget s.lane.segs n {}
def State.modSeg (s : State) (n : Nat) (f : Seg → Seg) : State :=
  { s with lane := { s.lane with segs := tmod s.lane.segs n {} f } }
def State.unit (s : State) (lane : Nat) : LaneUnit := tget s.lane.units lane {}
def State.modUnit (s : State) (lane : Nat) (f : LaneUnit → LaneUnit) : State :=
  { s with lane := { s.lane with units := tmod s.lane.units lane {} f } }

/-- A barcode tap. -/
def Session.barcode (x : Session) : Bool := x.kind == 3

/-- A page set no session or queued copy refers to is freed (R80). -/
def State.prune (s : State) : State :=
  let used := s.man.cur :: s.aud.ver :: s.fare.sessions.map (fun p => p.2.cfg) ++
    s.net.ports.flatMap (fun p => p.2.queues.flatMap (fun q => q.2.map (·.cfg)))
  { s with man := { s.man with pages := s.man.pages.filter (fun p => used.contains p.1) } }

/-- A session that is decided and sealed is over. -/
def State.closeSes (s : State) (lane : Nat) : State :=
  match s.ses lane with
  | some x => if x.decided && x.record.isSome then (s.modFare (fun a => { a with sessions := terase a.sessions lane })).prune else s
  | none => s

/-! ### Admission (R24) -/

/-- A TAP is admitted: it waits for a Validator cell. -/
def State.admitTap (s : State) (lane : Nat) : State :=
  let s := s.modSes lane (fun x => { x with phase := .placing })
  (s.modSeg (laneSeg lane) (fun g => { g with active := g.active ++ [lane] })).await (.session lane) .validator

/-- The oldest queued TAP is admitted while fewer than four card sessions run. -/
def State.admitNext (s : State) (seg : Nat) : State :=
  match (s.seg seg).queue with
  | l :: r =>
    if (s.seg seg).active.length < 4 then (s.modSeg seg (fun g => { g with queue := r })).admitTap l else s
  | [] => s

/-- A lane leaves its segment's sessions and queue; the next queued TAP is admitted. -/
def State.leaveSeg (s : State) (lane : Nat) : State :=
  let was := (s.seg (laneSeg lane)).active.contains lane
  let mine (k : TurnKind) : Bool := match k with
    | .apdu l | .sessionPoll l => l == lane
    | _ => false
  let s := s.modSeg (laneSeg lane) (fun g =>
    { g with active := g.active.filter (· ≠ lane), queue := g.queue.filter (· ≠ lane)
             retrySession := match g.retrySession with | some k => if mine k then none else some k | none => none })
  if was then s.admitNext (laneSeg lane) else s

/-! ### Ends of a session (R216, R217, R222, R419) -/

/-- Prompt of an Abort with a frame (Table 8-1). -/
def abortPrompt (reason : Nat) : Nat :=
  if reason = 0x33 then 0x22 else if reason = 0x37 then 0x20 else if reason = 0x38 ∨ reason = 0x39 then 0 else 0x21

/-- Journal code of an outcome, and its counter in group LANE. -/
def outcomeCode : Outcome8 → Nat
  | .accept => 1 | .deny => 2 | .refer => 3 | .abort => 4

/-- An outcome is counted on the lane, once. -/
def State.countOutcome (s : State) (lane : Nat) (o : Outcome8) : State :=
  (s.count 1 lane (outcomeCode o)).modSes lane (fun x => { x with counted := true })

/-- The decision stamp is taken now, and nothing of the decision is open (R216). -/
def State.stampDecision (s : State) (lane : Nat) : State :=
  s.modSes lane (fun x => { x with decSec := s.servedSec, decNs := s.servedNs, decided := true })

/-- OPEN_TIME of a lane's binding in the session's configuration. -/
def State.openTime (s : State) (lane : Nat) (x : Session) : Nat :=
  match tfind (s.cfgOf x.cfg).lanes lane with | some b => b.openTime | none => 0

/-- A decision frame is queued (R183). -/
def State.queueDecision (s : State) (lane type : Nat) : State :=
  match s.ses lane with
  | some x => s.modSeg (laneSeg lane) (fun g =>
    { g with decisions := g.decisions ++ [{ lane, type, slot := x.slot.getD 0xFFFF, prompt := x.prompt
                                            openTime := if type = 0x10 then s.openTime lane x else 0 }] })
  | none => s

/-- A session leaves its cell: its context is free and its slot drains, or is freed where no record follows (R197). -/
def State.leaveCell (s : State) (lane : Nat) (x : Session) (record : Bool) : State :=
  let s := (s.dropWork (.session lane)).unwait (.session lane)
  match x.slot with
  | some n => if record then (s.dropLease n).drainSlot n else (s.dropLease n).releaseSlot n
  | none => s

/-- A session's outcome is fixed: it leaves its cell, its record waits for a Ledger cell, and its decision frame, if one
follows at once, is queued. -/
def State.conclude (s : State) (lane : Nat) (o : Outcome8) (reason prompt : Nat) (frame : Bool) : State :=
  match s.ses lane with
  | none => s
  | some x =>
    let s := s.leaveCell lane x true
    let s := s.modSes lane (fun x =>
      { x with outcome := some o, reason, prompt := if frame then prompt else 0, frame, phase := .sealing
               queued := none, awaiting := none, sealBy := some (s.now + 8000000) })
    let s := s.await (.sealing lane) .ledger
    match o with
    | .accept => s
    | .abort =>
      let s := s.countOutcome lane .abort
      if frame then (s.queueDecision lane 0x12).leaveSeg lane else (s.stampDecision lane).leaveSeg lane
    | o =>
      if frame then s.queueDecision lane (if o = .deny then 0x11 else 0x12)
      else ((s.countOutcome lane o).stampDecision lane).leaveSeg lane

/-- A session ends without a decision of its own: an Abort, or a Refer whose commit is uncertain (R222). -/
def State.abortSes (s : State) (lane reason : Nat) : State :=
  match s.ses lane with
  | none => s
  | some x =>
    if x.outcome.isSome then s else
      let frame := decide (reason ≠ 0x38 ∧ reason ≠ 0x39)
      if x.prepared then
        (s.modSes lane (fun x => { x with uncertain := true, valueAfter := 0 })).conclude lane .refer 0x21 0x20 frame
      else
        (s.modSes lane (fun x => { x with fare := 0, valueAfter := 0 })).conclude lane .abort reason (abortPrompt reason) frame

/-- A Deny: nothing is charged. -/
def State.denySes (s : State) (lane reason prompt : Nat) : State :=
  (s.modSes lane (fun x => { x with fare := 0, valueAfter := 0 })).conclude lane .deny reason prompt true

/-- A session is to abort at its next APDU boundary: at once while no exchange is under way (R26, R36). -/
def State.markAbort (s : State) (lane reason : Nat) : State :=
  match s.ses lane with
  | none => s
  | some x =>
    if x.outcome.isSome then s
    else if x.queued.isSome || x.awaiting.isSome then
      s.modSes lane (fun x => { x with abortMark := match x.abortMark with | some r => some r | none => some reason })
    else s.abortSes lane reason

/-! ### The tariff (R231) -/

/-- What the tariff decides. -/
structure Verdict where
  outcome : Outcome8
  reason : Nat
  prompt : Nat
  fare : Nat := 0
  valueAfter : Int := 0
  deriving DecidableEq, Repr

/-- A rule matches a product, a day and a minute. -/
def FareRule.matches_ (r : FareRule) (product bit minute : Nat) : Bool :=
  (r.product == 0xFFFF || r.product == product) && r.dayMask.getLsbD bit &&
    decide (r.fromMin ≤ minute) && decide (minute < r.toMin)

/-- R231, R232: a table's decision for a tap; `card` is the balance and log of a card, none for a ticket. -/
def FareTable.judge (f : FareTable) (tap product : Nat) (card : Option (Int × List Nat)) : Verdict :=
  let tap32 := tap % 2 ^ 32
  if !(timeLe f.validFrom tap32 && timeLe tap32 f.validTo) then { outcome := .deny, reason := 0x11, prompt := 0x11 } else
    let l : Int := tap + f.tzOffset
    let day := l / 86400
    let bit := if f.holidays.contains day.toNat then 7 else ((day + 3) % 7).toNat
    let minute := (l % 86400 / 60).toNat
    match f.rules.find? (fun r => r.matches_ product bit minute) with
    | none => { outcome := .deny, reason := 0x11, prompt := 0x11 }
    | some r =>
      let pr (d : Nat) : Nat := if r.prompt ≠ 0 then r.prompt else d
      if r.action = 2 then { outcome := .deny, reason := 0x18, prompt := pr 0x11 }
      else if r.action = 1 then
        { outcome := .accept, reason := 2, prompt := pr 3, valueAfter := match card with | some c => c.1 | none => 0 }
      else
        let transfer := match card with
          | some c => c.2.any (fun e => decide (e ≤ tap) && decide (tap ≤ e + f.transferWindow))
          | none => false
        let fare : Nat := if transfer then r.transferFare else r.fare
        match card with
        | some c =>
          if c.1 - fare < f.minValue then { outcome := .deny, reason := 0x12, prompt := 0x12 }
          else { outcome := .accept, reason := b2n transfer, prompt := pr (1 + b2n transfer), fare, valueAfter := c.1 - fare }
        | none => { outcome := .accept, reason := 0, prompt := pr 1, fare }

/-- The tariff decides: a Deny ends the session; an accepted card is written, an accepted ticket is done (01 The tap in
outline). -/
def State.evaluate (s : State) (lane : Nat) : State :=
  match s.ses lane with
  | none => s
  | some x =>
    let c := s.cfgOf x.cfg
    let read := Config.cardReading x.profile x.reads
    let product := if x.barcode then x.product else if x.profile = 1 then 0x21 else read.1
    let card := if x.barcode then none else some (read.2.1, read.2.2)
    let v : Verdict := match tfind c.tables x.tenant with
      | some f => f.judge x.tapSec product card
      | none => { outcome := .deny, reason := 0x11, prompt := 0x11 }
    let s := s.modSes lane (fun x => { x with product })
    if v.outcome = .deny then s.denySes lane v.reason v.prompt
    else
      let s := s.modSes lane (fun x =>
        { x with reason := v.reason, prompt := v.prompt, fare := v.fare, valueAfter := v.valueAfter, transfer := v.reason == 1
                 phase := .writing })
      if x.barcode then s.conclude lane .accept v.reason v.prompt true else s

/-! ### The denylist (R227, R228) -/

/-- IDENT of a card (Table 8-8). -/
def cardIdent (uid : List Byte) : List Byte := (uid ++ List.replicate 16 0).take 16

/-- Key of an identity (R227). -/
def denyKey (kind : Nat) (ident : List Byte) : Nat :=
  beNat ((Config.sha256 (BitVec.ofNat 8 kind :: ident)).take 16)

/-- What follows a clean denylist answer: for a single ride the used-ticket set (R225 step 6), then the tariff. -/
def State.afterDeny (s : State) (lane : Nat) : State :=
  match s.ses lane with
  | none => s
  | some x =>
    let single := x.barcode && byteAt x.ticket 30 == 1
    let id := beNat (slice x.ticket 12 8)
    let issuer := beNat (slice x.ticket 2 4)
    if single && (tget s.fare.used x.tenant []).any (fun u => u.ticket == id && u.issuer == issuer) then
      s.denySes lane 0x16 0x16
    else s.evaluate lane

/-- The Bloom filter is tested: a miss goes on, a hit waits for the exact search. -/
def State.denyTest (s : State) (lane : Nat) : State :=
  match s.ses lane with
  | none => s
  | some x =>
    if bloomHit ((s.cfgOf x.cfg).deny x.tenant) (denyKey x.kind x.ident) then
      s.modSes lane (fun x => { x with phase := .searching })
    else s.afterDeny lane

/-- The exact list is searched (R228, R240). -/
def State.denySearch (s : State) (lane : Nat) : State :=
  match s.ses lane with
  | none => s
  | some x =>
    let key := denyKey x.kind x.ident
    match ((s.cfgOf x.cfg).deny x.tenant).entries.find? (fun e => e.key == key) with
    | some e =>
      if e.expiry = 0 ∨ timeLe s.sec32 e.expiry then
        (s.modSes lane (fun x => { x with denyHit := true })).denySes lane 0x10 0x10
      else s.afterDeny lane
    | none => (s.count 3 x.tenant 4).afterDeny lane

/-! ### Binding (R218, R224) -/

/-- A session is bound to a tenant: its slot and its cell are charged to it (R197, R343). -/
def State.bindSes (s : State) (lane tenant profile : Nat) : State :=
  match s.ses lane with
  | none => s
  | some x =>
    let s := s.modSes lane (fun x =>
      { x with tenant, profile
               stationId := match tfind (s.cfgOf x.cfg).tables tenant with | some f => f.stationId | none => 0
               tableSerial := match tfind (s.cfgOf x.cfg).tables tenant with | some f => f.serial | none => 0 })
    let s := match x.slot with | some n => s.setSlot n { s.slot n with charged := some tenant } | none => s
    match x.cell with
    | some n => s.modCell n (fun c => { c with charge := tenant })
    | none => s

/-- AIDs that a lane's session tries, in order, with tenant and profile (R218). -/
def Cfg.aids (c : Cfg) (lane : Nat) : List (List Byte × Nat × Nat) :=
  match tfind c.lanes lane with
  | some b => b.tenants.flatMap (fun t => match tfind c.tables t with
    | some f => f.apps.map (fun a => (a.1, t, a.2))
    | none => [])
  | none => []

/-- SELECT by AID, with Le present (R218). -/
def selectApdu (aid : List Byte) : List Byte :=
  [0x00, 0xA4, 0x04, 0x00, BitVec.ofNat 8 aid.length] ++ aid ++ [0x00]

/-! ### The ticket (R223 to R225) -/

/-- Layout of a ticket envelope (Table 8-3). -/
def ticketOk (b : List Byte) : Bool :=
  let sigs := byteAt b 1
  let issuer := beNat (slice b 2 4)
  let body := beNat (slice b 10 2)
  decide (32 ≤ b.length) && decide (b.length ≤ 3072) && byteAt b 0 == 1 && decide (sigs < 4) &&
    decide (1 ≤ issuer) && decide (issuer ≤ 0xFFFFFFFE) && decide (32 ≤ body) && decide (body ≤ 560) &&
    decide (byteAt b 30 ≤ 1) && b.length == 12 + body + 64 * (sigs % 2) + 2420 * (sigs / 2)

/-- IDENT of a ticket (Table 8-8). -/
def ticketIdent (b : List Byte) : List Byte :=
  toLe 8 (beNat (slice b 12 8)) ++ toLe 4 (beNat (slice b 2 4)) ++ List.replicate 4 0

/-- Bytes of a key bound to a role, while the key is usable. -/
def State.boundKey (s : State) (c : Cfg) (tenant role issuer keyId : Nat) : Option (List Byte) :=
  match (tget c.keys tenant []).find? (fun k => k.role == role && k.issuer == issuer && k.keyId == keyId) with
  | some k =>
    if s.live k.object && (s.obj k.object).gen == k.gen then (s.keyOf (s.obj k.object)).map (·.bytes) else none
  | none => none

/-- Whether a policy of Table 8-4 passes: presence and validity of each signature. -/
def policyPasses (policy : Nat) (ecHere pqHere ec pq : Bool) : Bool :=
  match policy with
  | 0 => ec && pq
  | 1 => (ecHere || pqHere) && (!ecHere || ec) && (!pqHere || pq)
  | 2 => ec
  | _ => pq

/-- R225: the ticket's checks, up to the denylist. -/
def State.ticketCheck (s : State) (lane : Nat) : State :=
  match s.ses lane with
  | none => s
  | some x =>
    let b := x.ticket
    let c := s.cfgOf x.cfg
    if !ticketOk b then
      let (v, s) := s.free
      (s.modSes lane (fun x => { x with ident := toLe 16 v })).denySes lane 0x17 0x14
    else
      let issuer := beNat (slice b 2 4)
      let s := s.modSes lane (fun x => { x with ident := ticketIdent b, product := beNat (slice b 28 2) })
      let tenants := match tfind c.lanes lane with | some l => l.tenants | none => []
      match tenants.find? (fun t => match tfind c.tables t with | some f => f.issuers.contains issuer | none => false) with
      | none => s.denySes lane 0x15 0x15
      | some t =>
        let s := s.bindSes lane t 0
        let body := beNat (slice b 10 2)
        let msg := b.take (12 + body)
        let ecHere := byteAt b 1 % 2 == 1
        let pqHere := decide (2 ≤ byteAt b 1)
        let policy := (c.param t 0x0601).toNat
        let ec := ecHere && policy != 3 && (match s.boundKey c t 2 issuer (beNat (slice b 6 2)) with
          | some k => Config.ecVerify k msg (slice b (12 + body) 64)
          | none => false)
        let pq := pqHere && policy != 2 && (match s.boundKey c t 3 issuer (beNat (slice b 8 2)) with
          | some k => Config.pqVerify k msg (slice b (12 + body + 64 * b2n ecHere) 2420)
          | none => false)
        let s := s.modSes lane (fun x => { x with ecOk := ec, pqOk := pq })
        let tap := x.tapSec % 2 ^ 32
        if !policyPasses policy ecHere pqHere ec pq then s.denySes lane 0x14 0x14
        else if !(timeLe (beNat (slice b 20 4)) tap && timeLe tap (beNat (slice b 24 4))) then s.denySes lane 0x13 0x13
        else s.denyTest lane

/-! ### The end of an exchange (R218 to R222) -/

/-- Status word of a response. -/
def swOf (r : List Byte) : Nat := beNat (r.drop (r.length - 2))

/-- An exchange ends with a response (RESULT 0). -/
def State.exchangeDone (s : State) (lane : Nat) (kind : ExKind) (resp : List Byte) : State :=
  match s.ses lane with
  | none => s
  | some x =>
    let s := (s.modSes lane (fun x => { x with awaiting := none }))
    let s := match x.slot with | some n => s.renew n | none => s
    let sw := swOf resp
    match kind, x.abortMark with
    | .commit, mark =>
      if sw = 0x9000 then
        let s := match x.slot with | some n => s.intent n .committed | none => s
        (s.modSes lane (fun x => { x with committed := true })).conclude lane .accept x.reason x.prompt true
      else s.abortSes lane (mark.getD 0x33)
    | _, some r => s.abortSes lane r
    | .select, none =>
      if sw = 0x9000 then
        match ((s.cfgOf x.cfg).aids lane)[x.aid]? with
        | some a => s.bindSes lane a.2.1 a.2.2
        | none => s
      else if sw = 0x6A82 then
        if x.aid + 1 < ((s.cfgOf x.cfg).aids lane).length then s.modSes lane (fun x => { x with aid := x.aid + 1 })
        else s.denySes lane 0x15 0x15
      else s.abortSes lane 0x33
    | .read last, none =>
      if sw = 0x9000 then
        let s := s.modSes lane (fun x => { x with reads := x.reads ++ [resp.take (resp.length - 2)] })
        if last then s.denyTest lane else s
      else s.abortSes lane 0x33
    | .write, none => if sw = 0x9000 then s else s.abortSes lane 0x33

/-- An exchange ends without a response: by a RESULT other than 0, or by its timeout. -/
def State.exchangeFailed (s : State) (lane reason : Nat) : State :=
  match s.ses lane with
  | none => s
  | some x => (s.modSes lane (fun x => { x with awaiting := none })).abortSes lane (x.abortMark.getD reason)

end Sys2Proof.Machine
end

