-- ==== Sys2Proof/Machine/JournalOps.lean ====
section
/-! DEFINITION. The journal: records, their seal chains and their destinations (08_fare_sessions.md, R29 to R31 of
01_tap_end_to_end.md, Table 1-7). -/

namespace Sys2Proof.Machine

def State.jrec (s : State) (n : Nat) : Option JRec := tfind s.fare.records n
def State.modJ (s : State) (n : Nat) (f : JRec → JRec) : State :=
  s.modFare (fun a => { a with records := tupd a.records n f })
def State.cartSlot (s : State) (n : Nat) : CartSlot := tget s.cart n {}
def State.modCart (s : State) (n : Nat) (f : CartSlot → CartSlot) : State := { s with cart := tmod s.cart n {} f }

/-- An event of a cartridge slot: to the tenant bound to it, with a copy to the PF (route B). -/
def State.cartEvent (s : State) (slot code : Nat) (data : Nat := 0) : State :=
  match tfind s.cfg.carts slot with
  | some b => s.raise code (srcSlot slot) b.tenant b.tenant data
  | none => s.raise code (srcSlot slot) 0 tagDevice data

/-! ### The hub journal buffer (R236) -/

/-- Next FREE index at or after one, within a number of tries. -/
def hubNext (hub : Tbl Nat) : Nat → Nat → Option Nat
  | 0, _ => none
  | fuel + 1, i => if tmem hub (i % 8192) then hubNext hub fuel (i + 1) else some (i % 8192)

/-- A record's bytes that none of its destinations has kept waits on; one that is kept, or written to every
destination, needs no copy of its own. -/
def JRec.done (r : JRec) : Bool :=
  r.index.isNone && r.ring ≠ .waiting && r.cart ≠ .waiting && r.hub ≠ .waiting &&
    (r.ring == .accepted || r.cart == .accepted || r.hub == .accepted)

/-- No destination has accepted it. -/
def JRec.nowhere (r : JRec) : Bool := r.ring ≠ .accepted && r.cart ≠ .accepted && r.hub ≠ .accepted

/-- A destination is still to answer. -/
def JRec.open_ (r : JRec) : Bool := r.ring == .waiting || r.cart == .waiting || r.hub == .waiting

/-- Every other destination that the record was offered to has accepted it, and there is one (R236). -/
def JRec.elsewhere (r : JRec) : Bool :=
  (r.ring ≠ .notOffered || r.cart ≠ .notOffered) && (r.ring == .notOffered || r.ring == .accepted) &&
    (r.cart == .notOffered || r.cart == .accepted)

/-- The record is written to the next FREE entry, which becomes HELD, or is refused for want of one. -/
def State.hubOffer (s : State) (n : Nat) : State :=
  match hubNext s.fare.hub 8192 s.fare.append with
  | some i =>
    (s.modFare (fun a => { a with hub := tset a.hub i n, append := (i + 1) % 8192 })).modJ n
      (fun r => { r with hub := .accepted, index := some i })
  | none => s.modJ n (fun r => { r with hub := .refused })

/-- First acceptance of an Accept's record: OPEN is queued (R29). -/
def State.firstAccept (s : State) (n : Nat) : State :=
  match s.jrec n with
  | none => s
  | some r => match s.ses r.lane with
    | some x =>
      if x.record == some n && x.outcome == some .accept && x.phase == .sealed && !x.decided && !r.nowhere then
        (s.modSes r.lane (fun x => { x with phase := .closing })).queueDecision r.lane 0x10
      else s
    | none => s

/-- A record that no destination accepts is counted, and EV_FARE_UNPLACED is raised (R31). -/
def State.unplace (s : State) (n : Nat) : State :=
  match s.jrec n with
  | none => s
  | some r =>
    if r.unplaced || r.open_ || !r.nowhere then s
    else
      (((s.modJ n (fun r => { r with unplaced := true })).count 7 0 1).count 3 r.tenant 7).raise 0x0606 (srcLane r.lane)
        r.tenant (if r.tenant = 0 then tagDevice else r.tenant) (r.outcome + r.reason * 2 ^ 16)

/-- An entry of the hub buffer becomes FREE; the oldest record refused everywhere is written there (R31, R236). -/
def State.hubFree (s : State) (i : Nat) : State :=
  match tfind s.fare.hub i with
  | none => s
  | some n =>
    let s := (s.modFare (fun a => { a with hub := terase a.hub i })).modJ n (fun r => { r with index := none })
    let s := s.modFare (fun a => { a with records := a.records.filter (fun p => !(p.1 == n && p.2.done)) })
    match s.fare.records.find? (fun p => p.2.nowhere && !p.2.open_ && p.2.hub == .refused) with
    | some p => (s.hubOffer p.1).firstAccept p.1
    | none => s

/-- A destination has answered: OPEN may follow; once all have, the slot is FREE (R197), an unplaced record is counted,
and with fare.hub_keep 0 a record accepted elsewhere leaves the hub buffer (R236). -/
def State.settle (s : State) (n : Nat) : State :=
  let s := s.firstAccept n
  match s.jrec n with
  | none => s
  | some r =>
    let s := if r.open_ then s else
      match r.slot with
      | some k => if (s.slot k).state == .draining then s.releaseSlot k else s
      | none => s
    let s := s.unplace n
    let s := match r.index with
      | some i => if s.devN 0x0606 = 0 && r.elsewhere then s.hubFree i else s
      | none => s
    s.modFare (fun a => { a with records := a.records.filter (fun p => !(p.1 == n && p.2.done)) })

/-- The cartridge accepts or refuses a record that waits for it (Table 1-7, R235); the slot counts it. -/
def State.cartAnswer (s : State) (n : Nat) (ok : Bool) : State :=
  match s.jrec n with
  | none => s
  | some r =>
    if r.cart ≠ .waiting then s else
      let s := s.count 8 (r.cartSlot.getD 0) (if ok then 0 else 1)
      (s.modJ n (fun r => { r with cart := if ok then .accepted else .refused })).settle n

/-- Slot bound to a tenant (R242). -/
def State.slotFor (s : State) (tenant : Nat) : Option Nat :=
  (s.cfg.carts.find? (fun p => p.2.tenant == tenant)).map (·.1)

/-- The record is offered to its tenant's cartridge: queued for the writer, or refused at once (R243); a READY slot
whose label names another tenant refuses it. -/
def State.cartOffer (s : State) (n tenant : Nat) : State :=
  match s.slotFor tenant with
  | none => s.modJ n (fun r => { r with cart := .refused })
  | some k =>
    let c := s.cartSlot k
    if c.state == .ready && c.tenant == tenant && !c.full && !c.ejecting then
      (s.modCart k (fun c => { c with queue := c.queue ++ [n] })).modJ n (fun r =>
        { r with cart := .waiting, cartSlot := some k, cartBy := s.now + s.devN 0x0605 * 1000000 })
    else (s.modJ n (fun r => { r with cart := .refused, cartSlot := some k })).count 8 k 1

/-! ### Sealing (R233, R234, R258) -/

/-- The JOURNAL key of a chain, while it is usable. -/
def State.journalKey (s : State) (c : Cfg) (tenant : Nat) : Option (List Byte) :=
  match (tget c.keys tenant []).find? (fun k => k.role == 4) with
  | some k =>
    if s.live k.object && (s.obj k.object).gen == k.gen then (s.keyOf (s.obj k.object)).map (·.bytes) else none
  | none => none

/-- Bytes 0 to 95 of a record (Table 8-8). -/
def Session.head (x : Session) (lane rseq dec : Nat) (restart : Bool) (cell : Nat) (outcome reason prompt : Nat) : List Byte :=
  toLe 2 1 ++ toLe 2 x.tenant ++ toLe 8 rseq ++ toLe 6 x.tapSec ++ toLe 4 x.tapNs ++ toLe 10 dec ++
    toLe 1 outcome ++ toLe 1 x.kind ++ toLe 1 x.tapState ++
    toLe 1 (b2n x.uncertain + 2 * b2n x.transfer + 4 * b2n x.denyHit + 8 * b2n x.ecOk + 16 * b2n x.pqOk + 32 * b2n x.frame +
      64 * b2n restart) ++
    toLe 2 lane ++ toLe 2 prompt ++ toLe 2 (x.slot.getD 0xFFFF) ++ toLe 2 cell ++ toLe 4 x.stationId ++
    toLe 4 x.tableSerial ++ toLe 2 x.product ++ toLe 2 reason ++ toLe 4 x.fare ++ toLe 4 (unsgn 32 x.valueAfter) ++
    (x.ident ++ List.replicate 16 0).take 16 ++ toLe 2 x.xseq ++ List.replicate 14 0

/-- The record with its SEAL: all 0 under a key that is not usable. -/
def sealBytes (key : Option (List Byte)) (body : List Byte) : List Byte :=
  body ++ match key with
    | some k => (Config.hmac k body ++ List.replicate 16 0).take 16
    | none => List.replicate 16 0

/-- The chain with which a tenant's next record is sealed: its own; at the first record since cold reset that of its
READY cartridge (R258); else a new one. -/
def State.chain (s : State) (tenant : Nat) : Chain :=
  match tfind s.fare.chains tenant with
  | some c => c
  | none => match (if tenant = 0 then none else s.slotFor tenant) with
    | some k =>
      let c := s.cartSlot k
      if c.state == .ready && decide (0 < c.highest) then { rseq := c.lastRseq, lastSeal := c.lastSeal, restart := false } else {}
    | none => {}

/-- DEC_SEC and DEC_NS as one number: the stamp if the decision's frame is sent or none follows; otherwise a free value,
for the frame's stamp comes later (R21, R29). -/
def State.decOf (s : State) (x : Session) : Nat × State :=
  if x.decided then (x.decSec % 2 ^ 48 + x.decNs * 2 ^ 48, s) else s.free

/-- A session's record is sealed and listed (R234). -/
def State.sealRecord (s : State) (lane : Nat) (x : Session) : Nat × State :=
  let c := if x.cell.isSome then s.cfgOf x.cfg else s.cfg
  let key := s.journalKey c x.tenant
  let ch := s.chain x.tenant
  let rseq := ch.rseq + 1
  let restart := ch.restart && key.isSome
  let (dec, s) := s.decOf x
  let (cell, s) := match x.cell with
    | some n => (n, s)
    | none => s.free
  let code := match x.outcome with | some o => outcomeCode o | none => 0
  let body := x.head lane rseq dec restart cell code x.reason x.prompt ++
    (if ch.restart then List.replicate 16 0 else ch.lastSeal)
  let bytes := sealBytes key body
  let n := s.fare.nextRec
  let r : JRec := { bytes, tenant := x.tenant, rseq, lane, slot := x.slot, outcome := code, reason := x.reason }
  let ch' : Chain := { rseq, lastSeal := bytes.drop 112, restart := key.isNone }
  let s := s.modFare (fun a =>
    { a with records := tset a.records n r, nextRec := n + 1, chains := tset a.chains x.tenant ch' })
  (n, (s.count 7 0 0).modSes lane (fun x => { x with record := some n, phase := .sealed }))

/-- A record sealed as an Accept is sealed again as the Refer that it became, under its own RSEQ and PREV_SEAL (R237);
a block being written keeps what it holds. -/
def State.resealRefer (s : State) (n : Nat) : State :=
  match s.jrec n with
  | none => s
  | some r => match s.ses r.lane with
    | none => s
    | some x =>
      let c := if x.cell.isSome then s.cfgOf x.cfg else s.cfg
      let key := s.journalKey c r.tenant
      let (dec, s) := s.decOf x
      let body := x.head r.lane r.rseq dec (byteAt r.bytes 35 ≥ 64) (x.cell.getD 0) 3 0x20 x.prompt ++ slice r.bytes 96 16
      let bytes := sealBytes key body
      let s := s.modJ n (fun r => { r with bytes, outcome := 3, reason := 0x20 })
      s.modFare (fun a => { a with chains := tupd a.chains r.tenant (fun ch =>
        if ch.rseq = r.rseq then { ch with lastSeal := bytes.drop 112 } else ch) })

/-! ### Used tickets (R226) -/

/-- a is before b as 32-bit times. -/
def timeLt (a b : Nat) : Bool := timeLe a b && a ≠ b

/-- A ticket is added to a tenant's set; a full set evicts the entry nearest its VALID_TO. -/
def State.useTicket (s : State) (tenant : Nat) (u : UsedTicket) : State :=
  let l := tget s.fare.used tenant []
  if l.length < 262144 then s.modFare (fun a => { a with used := tset a.used tenant (l ++ [u]) })
  else
    let first := l.foldl (fun a e => match a with
      | none => some e
      | some x => if timeLt e.validTo x.validTo then some e else a) (none : Option UsedTicket)
    let l := match first with | some x => l.erase x | none => l
    (s.modFare (fun a => { a with used := tset a.used tenant (l ++ [u]) })).count 3 tenant 5

end Sys2Proof.Machine
end

