-- ==== Sys2Proof/Machine/MemOps.lean ====
section
/-! DEFINITION. A cell's accesses: their checks, the store buffer, the cluster's directory and what memory answers
(13_memory.md, R123 to R129 of 05_capabilities.md). -/

namespace Sys2Proof.Machine

/-- A cell runs code. -/
def State.cellRuns (s : State) (n : Nat) : Bool :=
  (s.cell n).state == .available || (s.cell n).state == .moving || (s.cell n).state == .testing

/-! ### What an address reads (Table 13-2) -/

/-- A lease word (Table 7-4). -/
def Lease.word (l : Lease) : Nat := l.hgen % 2 ^ 16 * 2 ^ 48 + l.holder % 2 ^ 10 * 2 ^ 38 + l.expiry % 2 ^ 32

/-- Address of lease 0 in the steward's working state (PRESUMED, log entry 35: the spec gives no place). -/
def leaseBase : Nat := 0x400000

/-- Number of the lease whose word an address holds. -/
def leaseAt (a : Nat) : Option Nat :=
  if leaseBase ≤ a ∧ a < leaseBase + 0x10000 then some ((a - leaseBase) / 8) else none

/-- Areas of hub store whose layout the spec does not give: the object table, the Bloom filters, the rest of the
steward's working state. -/
def openArea (a : Nat) : Bool := decide (0x100000 ≤ a) && decide (a < 0x600000) && (leaseAt a).isNone

/-- The byte at a device address: a HELD journal record's, a lease word's, or the byte stored there. -/
def State.memByte (s : State) (a : Nat) : Byte :=
  if a < 0x100000 then
    match (tfind s.fare.hub (a / 128)).bind (tfind s.fare.records) with
    | some r => r.bytes.getD (a % 128) 0
    | none => readByte s.mem.bytes a
  else match (leaseAt a).bind (tfind s.sea.leases) with
    | some l => BitVec.ofNat 8 (l.word >>> (8 * (a % 8)))
    | none => readByte s.mem.bytes a

/-- Bytes read at a device address; those of an area without a layout are free. -/
def State.loadBytes (s : State) (a n : Nat) : List Byte × State :=
  if openArea a then
    let (v, s) := s.free
    (toLe n v, s)
  else ((List.range n).map (fun i => s.memByte (a + i)), s)

/-! ### Cluster directory (R352 to R354) -/

/-- Key of a line in the directory of a cell's cluster. -/
def lineKey (cell line : Nat) : Nat := 2 ^ 32 * clusterOf cell + line

def State.line (s : State) (k : Nat) : Line := tget s.mem.lines k {}
def State.setLine (s : State) (k : Nat) (l : Line) : State :=
  { s with mem := { s.mem with lines := tset s.mem.lines k l } }

/-- State of a line in a cell's L1. -/
def State.setL1 (s : State) (n line : Nat) (x : Option L1State) : State :=
  s.modCell n (fun c => { c with l1 := match x with | some v => tset c.l1 line v | none => terase c.l1 line })

/-- The cluster's copy of a line is made from its home, if the cluster holds none. -/
def State.fillLine (s : State) (k line : Nat) : State :=
  let l := s.line k
  if l.data.isSome then s else
    let (b, s) := s.loadBytes (64 * line) 64
    s.setLine k { l with data := some b, tags := (List.range 4).filter (fun g => s.mem.tags.contains (4 * line + g)) }

/-- READ: a Shared copy; an owner's copy becomes Shared. -/
def State.readLine (s : State) (n line : Nat) : State :=
  let k := lineKey n line
  let s := s.fillLine k line
  let l := s.line k
  let pos := n % 8
  let ptr := (pos + 1) % 8
  match l.dir with
  | .owned p =>
    if p = pos then s.setLine k { l with ptr }
    else ((s.setLine k { l with dir := .shared (linsert [p] pos), ptr }).setL1 (8 * clusterOf n + p) line (some .shared)).setL1 n line
      (some .shared)
  | .shared ps => (s.setLine k { l with dir := .shared (linsert ps pos), ptr }).setL1 n line (some .shared)
  | .unowned => (s.setLine k { l with dir := .shared [pos], ptr }).setL1 n line (some .shared)

/-- OWN: a Modified copy; every other copy in the cluster becomes Invalid. -/
def State.ownLine (s : State) (n line : Nat) : State :=
  let k := lineKey n line
  let s := s.fillLine k line
  let pos := n % 8
  let s := (List.range 8).foldl (fun s p => if p = pos then s else
    if tmem (s.cell (8 * clusterOf n + p)).l1 line then s.setL1 (8 * clusterOf n + p) line none else s) s
  (s.setLine k { s.line k with dir := .owned pos, ptr := (pos + 1) % 8 }).setL1 n line (some .modified)

/-- WRITEBACK: the Modified copy's bytes are in the L2 and the writer's copy is Invalid. -/
def State.writebackLine (s : State) (n line : Nat) : State :=
  let k := lineKey n line
  (s.setLine k { s.line k with dir := .unowned }).setL1 n line none

/-- Bytes written into the cluster's copy; a capability store sets the granule's tag, any other write clears it (R127). -/
def Line.write (l : Line) (off : Nat) (bytes : List Byte) (cap : Option CapReg) : Line :=
  let d := l.data.getD (List.replicate 64 0)
  let tag := match cap with | some r => r.tag | none => false
  { l with data := some ((d.take off ++ bytes ++ d.drop (off + bytes.length)).take 64), tags := lput l.tags (off / 16) tag, dirty := true }

/-- The lines that a cluster's directory knows. -/
def State.clusterLines (s : State) (island : Nat) : Tbl Line := s.mem.lines.filter (fun p => p.1 / 2 ^ 32 == island)

/-- A written copy reaches its home, with its hidden tags. -/
def State.homeLine (s : State) (line : Nat) (l : Line) : State :=
  match l.dirty, l.data with
  | true, some d =>
    let s := s.store (64 * line) d
    { s with mem := { s.mem with tags := l.tags.foldl (fun t g => linsert t (4 * line + g)) s.mem.tags } }
  | _, _ => s

/-- A cluster's L2 is invalidated, and its directory forgets every line, with the L1s of its cells. -/
def State.dropCluster (s : State) (island : Nat) : State :=
  let s := { s with mem := { s.mem with lines := s.mem.lines.filter (fun p => p.1 / 2 ^ 32 ≠ island) } }
  s.modSea (fun a => { a with cells := tmap a.cells (fun n c => if clusterOf n = island then { c with l1 := [] } else c) })

/-- A cluster's L2 is written back and invalidated (R429). -/
def State.flushCluster (s : State) (island : Nat) : State :=
  ((s.clusterLines island).foldl (fun s p => s.homeLine (p.1 % 2 ^ 32) p.2) s).dropCluster island

/-! ### The store buffer (R355, R356) -/

/-- The oldest buffered store drains: into the L1 with ownership, or to its home. -/
def State.drainOne (s : State) (n : Nat) : State :=
  match (s.cell n).stores with
  | [] => s
  | e :: r =>
    let s := s.modCell n (fun c => { c with stores := r })
    if e.cached then
      let s := s.ownLine n (e.addr / 64)
      let k := lineKey n (e.addr / 64)
      s.setLine k ((s.line k).write (e.addr % 64) e.data e.cap)
    else match e.cap with
      | some c => s.storeCap e.addr c
      | none => s.store e.addr e.data

/-- Every buffered store drains, in program order. -/
def State.drainAll (s : State) (n : Nat) : State := (s.cell n).stores.foldl (fun s _ => s.drainOne n) s

/-- Two spans overlap. -/
def spanMeets (a n b m : Nat) : Bool := decide (a < b + m) && decide (b < a + n)

/-- The youngest buffered store that overlaps a load. -/
def Cell.overlap (c : Cell) (a n : Nat) : Option StoreEntry :=
  c.stores.reverse.find? (fun e => spanMeets a n e.addr e.data.length)

/-- A store enters the buffer, or stalls while all 8 entries are in use. -/
def State.bufferStore (s : State) (n : Nat) (e : StoreEntry) : State :=
  if 8 ≤ (s.cell n).stores.length then s.modCell n (fun c => { c with stalled := true })
  else s.modCell n (fun c => { c with stores := c.stores ++ [e], stalled := false })

/-! ### The checks of an access (R350) -/

/-- Device address, or IOVA, of an offset in a capability's window. -/
def State.capAddr (s : State) (c : Cap) (off : Nat) : Nat := (s.obj c.object).base + c.offset + off

/-- Cause with which the capability of an access fails, the first of 0x01 to 0x06 (R350). -/
def State.capCause (s : State) (n : Nat) (r : CapReg) (off size : Nat) (read write : Bool) : Option Nat :=
  let c := r.cap
  if !r.tag then some 1
  else if !s.capValid c then some 2
  else if !(c.type == 1 || (c.type == 6 && !write)) then some 3
  else if (read && !c.rights.getLsbD rRead) || (write && !c.rights.getLsbD rWrite) then some 4
  else if c.length < off + size then some 5
  else if c.level < (s.cell n).level then some 6
  else none

/-- A cell's access through a capability register, in the order of R350: the address and the region that decides it,
or the cause of the trap.  `cap`: a capability store, with the register stored. -/
def State.cellAccess (s : State) (n auth off size : Nat) (read write : Bool) (cap : Option CapReg) :
    Except (Nat × State) (Nat × Region × State) :=
  let r : CapReg := tget (s.cell n).c auth {}
  let a := s.capAddr r.cap off
  let region := s.regionAt (s.cell n).charge a
  let found := match mpuAt s.mem.extMib a with
    | some m => decide (s.mpuRegion m (s.cell n).charge a < 32)
    | none => false
  if 16 < size ∨ 16 < a % 16 + size then .error (0x0C, s)
  else match s.capCause n r off size read write with
    | some c => .error (c, s)
    | none =>
      let badCap := match cap with
        | some x => (x.tag && !x.cap.rights.getLsbD rStore) || (found && !region.capst)
        | none => false
      let acc : Access := { addr := a, level := (s.cell n).level, charge := (s.cell n).charge, cell := n, read, write }
      let host := match (s.obj r.cap.object).what with | .iova _ => true | _ => false
      if badCap then .error (7, s)
      else if host then .error (0x0B, s.logRefusal 2 0xFF acc)
      else match s.mpuCheckAt acc with
        | (true, s) => .ok (a, region, s)
        | (false, s) => .error (0x0B, s)

/-- What a load reads where no buffered store overlaps it: the cluster's copy of a cacheable line, which a miss reads in,
or memory at its home; with the granule's tag. -/
def State.fetch (s : State) (n a size : Nat) (cached : Bool) : List Byte × Bool × State :=
  if cached then
    let line := a / 64
    let s := if tmem (s.cell n).l1 line then s else s.readLine n line
    let l := s.line (lineKey n line)
    (slice (l.data.getD []) (a % 64) size, l.tags.contains (a % 64 / 16), s)
  else
    let (b, s) := s.loadBytes a size
    (b, s.mem.tags.contains (a / 16), s)

end Sys2Proof.Machine
end

