-- ==== Sys2Proof/Machine/SeaOps.lean ====
section
/-! DEFINITION. Batch jobs, traps, cell faults and the caste targets (07_cell_sea.md, R141 to R148 of
05_capabilities.md). -/

namespace Sys2Proof.Machine

/-! ### Call-gate checks at the hub (R141) -/

/-- Reason of Table 5-10 for which a buffer slot fails. -/
def slotBuffer (d : GateSlot) (addr len : Nat) : Option Nat :=
  let kind := fld d.a 31 28
  if kind = 0 then (if addr ≠ 0 ∨ len ≠ 0 then some 1 else none)
  else if kind = 1 ∨ kind = 2 then
    if len = 0 then some 1
    else if addr % 2 ^ fld d.a 27 24 ≠ 0 then some 2
    else if len < 64 * fld d.b 31 24 ∨ 4 * fld d.b 23 0 < len then some 3
    else if 2 ^ 33 < addr + len then some 4
    else none
  else none

/-- The handle in PARAMS. -/
def paramHandle (ps : List Word) : BitVec 128 := argHandle ps 1

/-- Reason of Table 5-10 for which slot 2 fails, or the handle's internal form. -/
def State.slotParam (s : State) (tag : Nat) (d : GateSlot) (ps : List Word) : Except Nat (Option Cap) :=
  let kind := fld d.a 31 28
  if kind = 0 then (if ps.any (· ≠ 0) then .error 1 else .ok none)
  else if kind = 3 then
    let h := paramHandle ps
    let u : BitVec 64 := BitVec.ofNat 64 (h.toNat / 2 ^ 64)
    let c := capOf u
    let sealOk := match s.cap.sealKey with
      | some k => h.toNat % 2 ^ 64 == (Config.cmac48 k u).toNat
      | none => false
    if ps.all (· = 0) then .error 1
    else if !sealOk || !handleType c.type || c.owner != tag || !s.capValid c then .error 7
    else if c.type ≠ fld d.a 23 20 then .error 5
    else if !rightsSub (BitVec.ofNat 16 (fld d.a 19 4)) c.rights then .error 6
    else .ok (some { c with length := (s.obj c.object).length })
  else .ok none

/-- R141: Table 5-9 for an SQ entry: a status and BODY, or the gate, its capability and slot 2's. -/
def State.gateEntry (s : State) (tag : Nat) (o : SqOp) : Except (Nat × List Byte) (Gate × Cap × Option Cap) :=
  let u : BitVec 64 := BitVec.ofNat 64 (o.handle.toNat / 2 ^ 64)
  let c := capOf u
  let sealOk := match s.cap.sealKey with
    | some k => o.handle.toNat % 2 ^ 64 == (Config.cmac48 k u).toNat
    | none => false
  let arg (slot reason : Nat) : Nat × List Byte := (0x0408, toLe 4 (slot + 256 * reason))
  if !sealOk || !handleType c.type || c.owner != tag then .error (0x0015, [])
  else if !s.capValid c then .error (0x0016, [])
  else if c.type ≠ 2 then .error (0x0402, [])
  else if !c.rights.getLsbD rCall then .error (0x0401, [])
  else match (match (s.obj c.object).what with | .gate n => s.gate n | _ => none) with
    | none => .error (0x0407, [])
    | some g =>
      if c.level < accessLevel tag ∨ g.level < accessLevel tag then .error (0x0014, [])
      else match slotBuffer (g.slots.getD 0 {}) o.dataIova o.dataLen with
        | some r => .error (arg 0 r)
        | none => match slotBuffer (g.slots.getD 1 {}) o.resIova o.resLen with
          | some r => .error (arg 1 r)
          | none => match s.slotParam tag (g.slots.getD 2 {}) o.params with
            | .error r => .error (arg 2 r)
            | .ok a => .ok (g, c, a)

/-! ### Batch jobs -/

def State.job (s : State) (n : Nat) : Option Job := tfind s.sea.jobs n
def State.modJob (s : State) (n : Nat) (f : Job → Job) : State := s.modSea (fun a => { a with jobs := tupd a.jobs n f })

/-- A batch job may be granted a session slot (R111). -/
def State.slotGrantable (s : State) (tag : Nat) : Bool :=
  let h := s.slotsHeld tag
  decide (h < s.insN tag 0x0304) && (decide (256 < s.freeSlots) || decide (h < s.insN tag 0x0303))

/-- Registers of a cell after a request has ended: no tags, no values (R146 step 2). -/
def Cell.clearRegs (c : Cell) : Cell :=
  { c with c := [], gr := [], frames := [], request := none, level := 0, charge := 0x3FF, point := 0 }

/-- An object is freed without descendants: no valid capability names it any more (R123). -/
def State.freeObject (s : State) (n : Nat) : State := s.setObj n (s.obj n).release

/-- A batch job ends: its pieces leave their cells, its slot is FREE, and it completes unless its pair was reset or its
instance disabled. -/
def State.endJob (s : State) (n status : Nat) (body : List Byte) (cq : Option Nat) : State :=
  match s.job n with
  | none => s
  | some j =>
    let s := s.modSea (fun a => { a with cells := tmap a.cells (fun _ c =>
      if c.request == some n then c.clearRegs else c) })
    let s := (s.dropWork (.piece n)).unwait (.piece n)
    let s := match j.slot with | some k => (s.dropLease k).releaseSlot k | none => s
    let s := j.objs.foldl State.freeObject s
    let s := s.modSea (fun a => { a with jobs := terase a.jobs n })
    if j.orphan || j.discard then s else s.cqComplete j.tag j.qp j.cid j.noCqe j.sqHead status body cq

/-- Completion status of a job that a trap ended (R146). -/
def trapStatus (cause : Nat) : Nat := if cause = 2 then 0x0016 else 0x0401

/-! ### Faults of cells (R203, R205) -/

/-- A cell leaves the directory of its cluster, with its L1. -/
def State.dropLines (s : State) (n : Nat) : State :=
  let k := clusterOf n
  let f (a : Nat) (l : Line) : Line :=
    if a / 2 ^ 32 ≠ k then l else match l.dir with
      | .owned p => if p = n % 8 then { l with dir := .unowned, data := none, tags := [], dirty := false } else l
      | .shared ps => let r := ps.filter (· ≠ n % 8); { l with dir := if r.isEmpty then .unowned else .shared r }
      | .unowned => l
  ({ s with mem := { s.mem with lines := tmap s.mem.lines f } }).modCell n (fun c => { c with l1 := [] })

/-- A lock that a voided lease held: the pre-image is restored, or the change completed from the post-image (R203). -/
def State.restoreLock (s : State) (l : Lease) : State :=
  match l.intent.state with
  | .prepared => s.store l.intent.addr l.intent.pre
  | .committed => s.store l.intent.addr l.intent.post
  | .clear => s

/-- A cluster's L2 test ends: its cells leave test, and its drain mark goes (R429). -/
def State.endL2 (s : State) (island : Nat) : State :=
  let s := { s with test := { s.test with
    l2 := s.test.l2.filter (· ≠ island)
    reqs := tupd s.test.reqs (1024 + island) (fun r => { r with running := false, marked := false }) } }
  let s := s.modSea (fun a => { a with drainClusters := a.drainClusters.filter (· ≠ island) })
  (List.range 8).foldl (fun s p => if (s.cell (8 * island + p)).state == .testing then s.setCell (8 * island + p) .available else s) s

/-- Recovery ends a voided unit of work; a committed session is sealed by the Ledger (R203 step 4, 08 Failures). -/
def State.endWork (s : State) (status : Nat) (cq : Option Nat) (w : Work) : State :=
  match w with
  | .session lane => s.abortSes lane 0x36
  | .piece j => s.endJob j status [] cq
  | .check c =>
    let s := { s with test := { s.test with
      loans := terase s.test.loans c, reqs := tupd s.test.reqs c (fun r => { r with running := false }) } }
    if 1024 ≤ c then s.endL2 (c - 1024)
    else if (s.cell c).state == .testing then s.setCell c .available else s
  | _ => s

/-- A cell leaves test because it or its tester faulted. -/
def State.dropLoan (s : State) (n : Nat) : State :=
  match tfind s.test.loans n with
  | some t => ({ s with test := { s.test with
      loans := terase s.test.loans n, reqs := tupd s.test.reqs n (fun r => { r with running := false }) } }).dropWorkOn t (.check n)
  | none => s

/-- The Audio pair of a lost cell: its spare becomes active at the next packet boundary (R209). -/
def State.audioLost (s : State) (n : Nat) : State :=
  let k := n / 2
  if (s.cell n).caste == .audio && s.pairActive k == n && s.spareReady k then
    s.modSea (fun a => { a with pairs := tmod a.pairs k {} (fun p => { p with due := true, byTest := false }) })
  else s

/-- A cell becomes FAULTED and the Drover recovers what it held (R203); its caste is refilled (R191). -/
def State.cellFault (s : State) (n status : Nat) (cq : Option Nat) : State :=
  let c := s.cell n
  if c.state == .faulted || c.state == .quarantined || c.state == .absent then s
  else
    let s := s.audioLost n
    let caste := c.caste
    let s := (s.setCell n .faulted).modCell n (fun c =>
      { c.clearRegs with hgen := (c.hgen + 1) % 65536, work := [], loading := false, caste := .reserve, stores := []
                         scratchUsed := false, faultTimes := s.now :: c.faultTimes })
    let s := (s.dropLoan n).dropLines n
    let mine := s.sea.leases.filter (fun p => p.2.holder == n)
    let s := mine.foldl (fun s p => (if p.2.slot.isNone then s.restoreLock p.2 else s).dropLease p.1) s
    let s := c.work.foldl (fun s w => s.endWork status cq w) s
    let s := if s.holdsCredits (clusterOf n) then s.auditRequest (dieOf (clusterOf n)) else s
    s.refillOne caste

/-- A cell becomes QUARANTINED (R205, R212). -/
def State.quarantine (s : State) (n : Nat) : State :=
  let caste := (s.cell n).caste
  let s := (s.setCell n .quarantined).modCell n (fun c =>
    { c.clearRegs with caste := .reserve, toQuarantine := false, loading := false, work := [], scratchUsed := false, returnTest := false })
  (s.raiseDev 0x0605 srcDrover n).refillOne caste

/-! ### Traps (R145 to R148) -/

/-- The trap ends the cell's work and hands the cell to the Drover (R145, R147). -/
def trapFaults (cause level : Nat) : Bool := decide (0x0C ≤ cause) || level == 0

/-- The unit of work that a trap of a cell ends: its hub-entered request, or the one that began first. -/
def Cell.trapWork (c : Cell) : Option Work :=
  match c.request with
  | some j => some (.piece j)
  | none => c.work.head?

/-- Instance charged, session slot and CID of a unit of work (Table 5-12). -/
def State.workInfo (s : State) : Option Work → Nat × Nat × Nat
  | some (.session lane) => match s.ses lane with
    | some x => (if x.tenant = 0 then 0x3FF else x.tenant, x.slot.getD 0xFFFF, 0xFFFF)
    | none => (0x3FF, 0xFFFF, 0xFFFF)
  | some (.piece n) => match s.job n with
    | some j => (j.tag, j.slot.getD 0xFFFF, j.cid)
    | none => (0x3FF, 0xFFFF, 0xFFFF)
  | _ => (0x3FF, 0xFFFF, 0xFFFF)

/-- A fault record is written and EV_CAP_TRAP raised (R148). -/
def State.faultRecord (s : State) (n cause : Nat) (i : TrapInfo) : State :=
  let c := s.cell n
  let (tag, slot, cid) := s.workInfo c.trapWork
  let cap := (tget c.c i.reg {}).cap
  let here := decide (i.reg < 16)
  let seq := s.cap.faultSeq
  let r : FaultRec :=
    { seq, cell := n, cause, handling := trapFaults cause c.level, write := i.write, level := c.level, tag
      object := if here then cap.object else 0, genHeld := if here then cap.gen else 0
      genNow := if here then (s.obj cap.object).gen else 0, offset := i.offset, length := if here then cap.length else 0
      reg := i.reg, size := i.size, gate := i.gate, slot, cid, sec := s.sec32, ns := s.servedNs
      detail := if cause = 8 then i.detail else 0 }
  ({ s with cap := { s.cap with faults := (r :: s.cap.faults).take 256, faultSeq := (seq + 1) % 2 ^ 32 } }).raise
    0x0401 (srcCell n) tag tag seq

/-- A cell traps (R145), after its stores have drained (R356): a request-class trap at level 1 to 3 ends its request, any other the cell's work. -/
def State.trap (s : State) (n cause : Nat) (i : TrapInfo) (cq : Option Nat) : State :=
  let s := s.drainAll n
  let c := s.cell n
  let s := (s.count 5 n 2).faultRecord n cause i
  if trapFaults cause c.level then
    (s.raiseDev 0x0601 (srcCell n) cause).cellFault n (trapStatus cause) cq
  else
    let s := s.modCell n (fun c => { c.clearRegs with scratchUsed := false })
    match c.trapWork with
    | some (.piece j) => s.endJob j (trapStatus cause) [] cq
    | some w => (s.dropWorkOn n w).endWork (trapStatus cause) cq w
    | none => s

/-! ### Placement of a job's piece (R141, R151, Table 5-8) -/

/-- A MEMORY object of the steward over a window of an instance's I/O virtual address space. -/
def State.window (s : State) (tag level iova len : Nat) (write : Bool) : Option Nat × State :=
  if len = 0 then (none, s) else
    match s.mint { type := 1, level, owner := 0x3FF, rights := if write then 2 else 1, base := iova, length := len, depth := 1
                   what := .iova tag } with
    | some (n, s) => (some n, s)
    | none => (none, s)

/-- The register that delivers an object's capability. -/
def State.capRegOf (s : State) : Option Nat → CapReg
  | some n => { tag := true, cap := (s.obj n).cap n }
  | none => {}

/-- The hub's entry of a job's call gate on a cell: slots delivered, stack loaded, level and entry point set. -/
def State.hubEntry (s : State) (cell n : Nat) (j : Job) (g : Gate) : State :=
  let write (k : Nat) : Bool := fld (g.slots.getD k {}).a 31 28 == 2
  let (o0, s) := s.window j.tag g.level j.dataIova j.dataLen (write 0)
  let (o1, s) := s.window j.tag g.level j.resIova j.resLen (write 1)
  let regs : Tbl CapReg := tset (tset (tset [] 0 (s.capRegOf o0)) 1 (s.capRegOf o1)) 15 g.stack
  let regs := match j.arg with | some c => tset regs 2 { tag := true, cap := c } | none => regs
  let gr : Tbl Word := if j.arg.isSome then [] else [(0, j.params.getD 0 0), (1, j.params.getD 1 0), (2, j.params.getD 2 0), (3, j.params.getD 3 0)]
  let s := s.modJob n (fun j => { j with objs := o0.toList ++ o1.toList })
  s.modCell cell (fun c =>
    { c with c := regs, gr, frames := [], request := some n, level := g.level, charge := j.tag, point := g.entryPoint })

/-- Whether a job's hub-entered request has begun. -/
def State.jobStarted (s : State) (n : Nat) : Bool := s.sea.cells.any (fun p => p.2.request == some n)

/-- A piece of a job is placed on a cell: the first is the hub-entered request. -/
def State.placePiece (s : State) (cell n : Nat) : State :=
  match s.job n with
  | none => s
  | some j =>
    let first := !s.jobStarted n
    let s := (s.giveWork cell (.piece n)).modJob n (fun j => { j with pieces := j.pieces + 1 })
    let s := match j.slot with
      | some k => if tmem s.sea.leases k then s.renew k else s.lease k cell (s.devN 0x06C6 * 1000) (some k)
      | none => s
    match s.gate j.gate with
    | some g =>
      if !first then s.modCell cell (fun c => { c with charge := j.tag })
      else
        let s := s.hubEntry cell n j g
        if s.capValid j.gateCap then s else s.trap cell 2 { gate := j.gate } none
    | none => s

/-! ### Caste targets (R189, R190) -/

/-- Busy contexts of a cell; an Audio cell is busy while its pair carries a bus. -/
def State.busyOf (s : State) (n : Nat) (c : Cell) : Nat :=
  if c.caste = .audio then b2n (decide (0 < s.pairBuses (n / 2))) else c.work.length

/-- Busy cells of each caste. -/
def State.busyCells (s : State) : List Nat :=
  (List.range 5).map (fun k => (s.sea.cells.filter (fun p => p.2.caste == casteOf k && decide (0 < s.busyOf p.1 p.2))).length)

/-- Targets before any lowering: peak × 5 / 4 rounded up, within the plan; Audio even. -/
def Cfg.rawTargets (c : Cfg) (peaks : List Nat) : List Nat :=
  (List.range 5).map (fun k =>
    let t := max (c.casteMin k) (min (c.casteMax k) ((peaks.getD k 0 * 5 + 3) / 4))
    if k = 2 then t + t % 2 else t)

/-- Targets lowered towards the minimums in the order Sentinel, Cipher, Ledger, Audio, Validator until they fit. -/
def Cfg.fitTargets (c : Cfg) (cells : Nat) (t : List Nat) : List Nat :=
  [4, 1, 3, 2, 0].foldl (fun t k =>
    let excess := t.foldl (· + ·) 0 - cells
    let d := min excess (t.getD k 0 - c.casteMin k)
    let d := if k = 2 then min (d + d % 2) (t.getD k 0 - c.casteMin k) else d
    t.set k (t.getD k 0 - d)) t

/-- Cells of castes above their targets that a needy caste takes, lowest score first; Audio gives none alone. -/
def State.takeSurplus (s : State) (c : Caste) (t : List Nat) : Nat → State
  | 0 => s
  | need + 1 =>
    let give (d : Caste) : Bool := d ≠ c && d ≠ .reserve && d ≠ .audio && decide (t.getD (casteNum d) 0 < s.casteSize d)
    let cand := [Caste.validator, .cipher, .ledger, .sentinel].flatMap (fun d => if give d then (s.lowest d (fun _ => true)).take 1 else [])
    let best := cand.foldl (fun a n => match a with
      | none => some n
      | some m => if (s.cell n).score < (s.cell m).score then some n else a) (none : Option Nat)
    match best with
    | some n => (s.moveTo n c).takeSurplus c t need
    | none => s

/-- An Audio pair leaves its caste if every bus it carries finds room elsewhere (R313). -/
def State.pairLeaves (s : State) (k : Nat) : State :=
  let s' := ((s.moveTo (2 * k) .reserve).moveTo (2 * k + 1) .reserve).assignBuses
  if s'.aud.noCells && !s.aud.noCells then s else s'

/-- The Drover sets the targets from the peaks of the ending epoch and moves cells to meet them; a surplus that no caste
takes goes to Reserve. -/
def State.setTargets (s : State) : State :=
  let cells := (s.sea.cells.filter (fun p => p.2.state == .available || p.2.state == .moving || p.2.state == .testing)).length
  let t := s.cfg.fitTargets cells (s.cfg.rawTargets s.sea.peaks)
  let s := s.modSea (fun a => { a with targets := t, peaks := [0, 0, 0, 0, 0] })
  let s := [Caste.validator, .ledger, .audio, .sentinel, .cipher].foldl (fun s c =>
    let (need, s) := s.fill c (t.getD (casteNum c) 0 - s.casteSize c)
    if c = .audio then s else s.takeSurplus c t need) s
  let s := [Caste.validator, .cipher, .ledger, .sentinel].foldl (fun s c =>
    ((s.lowest c (fun _ => true)).take (s.casteSize c - t.getD (casteNum c) 0)).foldl (fun s n => s.moveTo n .reserve) s) s
  let spare := (s.casteSize .audio - t.getD 2 0) / 2
  let pairs := (s.audioPairs.filter (fun k => (s.cell (2 * k)).state == .available && (s.cell (2 * k + 1)).state == .available)).take spare
  pairs.foldl State.pairLeaves s

end Sys2Proof.Machine
end

