-- ==== Sys2Proof/Machine/IslOps.lean ====
section
/-! DEFINITION. Clock islands and die links: resets, credits, link failures (14_islands.md, R206 of 07_cell_sea.md). -/

namespace Sys2Proof.Machine

def State.island (s : State) (n : Nat) : Island := tget s.isl.islands n {}
def State.modIsland (s : State) (n : Nat) (f : Island → Island) : State :=
  { s with isl := { s.isl with islands := tmod s.isl.islands n {} f } }
def State.link (s : State) (die : Nat) : DieLink := tget s.isl.links die {}
def State.modLink (s : State) (die : Nat) (f : DieLink → DieLink) : State :=
  { s with isl := { s.isl with links := tmod s.isl.links die {} f } }

/-- An island that the part has (R363, 14 Variant notes). -/
def State.islandPresent (s : State) (n : Nat) : Bool := decide (n < 24 * s.lcy.dies) || (decide (96 ≤ n) && decide (n ≤ 107))

/-- Receive buffer of a channel, and the credits that a cluster may hold (Table 14-2). -/
def chanSize (c : Nat) : Nat := [64, 64, 256, 32].getD c 0
def chanCap (c : Nat) : Nat := [4, 4, 8, 2].getD c 0

/-- One direction of a link: 0 to the hub, 1 from the hub. -/
def DieLink.dir (l : DieLink) (d : Nat) : LinkDir := if d = 0 then l.toHub else l.fromHub
def DieLink.setDir (l : DieLink) (d : Nat) (x : LinkDir) : DieLink := if d = 0 then { l with toHub := x } else { l with fromHub := x }

/-- A direction's channels with every credit free. -/
def freshChans : Tbl Chan := (List.range 4).map (fun c => (c, { free := chanSize c }))

/-- Number of a link's statistics: die, direction, channel (Table 16-2). -/
def linkStat (die dir chan : Nat) : Nat := 8 * die + 4 * dir + chan

/-- A cluster reset loses the credits that the cluster held (14 The credit audit). -/
def State.loseCredits (s : State) (island : Nat) : State :=
  s.modLink (dieOf island) (fun l =>
    { l with toHub := { l.toHub with chans := tmap l.toHub.chans (fun _ c => { c with held := terase c.held island }) } })

/-- A unit of R136 will not answer itself: its crossing acknowledges every broadcast on its behalf (R366). -/
def State.ackFor (s : State) (unit : Nat) : State :=
  let f (b : Broadcast) : Broadcast := { b with units := b.units.filter (· ≠ unit) }
  ({ s with cap := { s.cap with broadcasts := (s.cap.broadcasts.map f).filter (fun b => !b.units.isEmpty) } }).ackHeld

/-- A cluster island enters reset (R367): its cells are FAULTED, its L1s, L2, scratch and credits are lost, its crossings
isolate it, and an audit of its link is asked for. -/
def State.resetIsland (s : State) (n : Nat) : State :=
  let s := if s.test.l2.contains n then
      ((match tfind s.test.loans (1024 + n) with
        | some c => s.dropWorkOn c (.check (1024 + n))
        | none => s).endL2 n)
    else s
  let s := { s with test := { s.test with loans := terase s.test.loans (1024 + n) } }
  let s := (List.range 8).foldl (fun s p => s.cellFault (8 * n + p) 0x0401 none) s
  let (held, s) := s.free
  let s := (s.dropCluster n).modIsland n (fun i => { i with state := .reset, isolated := true, resetAt := s.now, heldTransfers := held })
  let s := s.modSea (fun a => { a with l2Check := linsert a.l2Check n })
  ((s.loseCredits n).auditRequest (dieOf n)).ackFor n

/-- An event of a cluster: 1 L2, 2 directory, 3 LDO, 4 reset (Table 18-4). -/
def State.clusterEvent (s : State) (n cause : Nat) : State := s.raiseDev 0x0602 (srcCluster n) cause

/-- Every cell of a list is QUARANTINED, what it held being recovered first (R203, R206). -/
def State.quarantineAll (s : State) (cells : List Nat) : State :=
  cells.foldl (fun s n =>
    if (s.cell n).state == .absent || (s.cell n).state == .quarantined then s
    else (s.cellFault n 0x0401 none).quarantine n) s

/-- A link is FAILED for good: every cell of its die becomes QUARANTINED (R368, R206). -/
def State.linkFail (s : State) (die : Nat) : State :=
  if (s.link die).state == .failed then s else
    let s := ((s.modLink die (fun l => { l with state := .failed, auditing := false, auditAgain := false })).raiseDev 0x0CC2 (srcDie die) 0)
    let s := s.modSea (fun a => { a with deadDies := linsert a.deadDies die })
    s.quarantineAll ((List.range 192).map (fun i => 192 * die + i))

/-- The lanes left decide how a link runs (R368). -/
def State.judgeLanes (s : State) (die : Nat) : State :=
  let l := s.link die
  let bad := max l.toHub.badLanes.length l.fromHub.badLanes.length
  if 10 < bad then s.linkFail die
  else
    let half := decide (2 < bad)
    let s := s.modLink die (fun l => { l with half })
    if half && !l.half then s.raiseDev 0x0CC1 (srcDie die) 0 else s

/-- A receive equaliser stands at a limit of Table 14-4. -/
def eqAtLimit (ctle : Nat) (dfe : List Int) : Bool := ctle == 0 || ctle == 15 || dfe.any (fun x => decide (31 ≤ x.natAbs))

/-- A freeze of a link's equaliser ends (R380). -/
def State.endLinkFreeze (s : State) (die : Nat) : State :=
  if (s.link die).frozen.isSome then
    (s.modLink die (fun l => { l with frozen := none })).raiseDev 0x0CC6 (srcIsland 106) 2
  else s

/-- A link retrains (R369). -/
def State.retrain (s : State) (die : Nat) : State :=
  (s.modLink die (fun l =>
    { l with state := .training, retrains := l.retrains + 1
             toHub := { l.toHub with failures := 0 }, fromHub := { l.fromHub with failures := 0 } })).endLinkFreeze die

end Sys2Proof.Machine
end

