-- ==== Sys2Proof/Machine/TestOps.lean ====
section
/-! DEFINITION. Tickets' ends (R51), and the results, requests and marks of in-service test
(17_in_service_test.md). -/

namespace Sys2Proof.Machine

/-- The work of a pending command ends: EV_PENDING_DONE and N_PENDING_DONE go to its instance (R51, Table 18-4). -/
def State.ticketDone (s : State) (k status : Nat) (ws : List Word) : State :=
  match tfind s.mbx.tickets k with
  | none => s
  | some c =>
    let s := { s with mbx := { s.mbx with tickets := terase s.mbx.tickets k } }
    let s := s.raise 0x0101 srcSteward c.tag c.tag (k + status * 2 ^ 16) (some (ws.getD 0 0, ws.getD 1 0, ws.getD 2 0))
    if s.enabled c.tag then s.notice c.tag (noticeWord 0x04 k) else s

/-! ### Units (R426, R438) -/

/-- Key of a unit. -/
def testKey (cls num : Nat) : Nat := cls * 1024 + num

def State.testUnit (s : State) (cls num : Nat) : TestUnit := tget s.test.units (testKey cls num) {}
def State.modTest (s : State) (f : TestSt → TestSt) : State := { s with test := f s.test }

/-- Numbers of a class (Table 17-1). -/
def testCount (cls : Nat) : Nat := [768, 96, 1, 4, 8, 2, 1].getD cls 0

/-- A covered class (R426). -/
def covered (cls : Nat) : Bool := decide (cls ≤ 3) || cls == 6

/-- A unit that is there: not an ABSENT cell, island or link (17 Absence). -/
def State.testPresent (s : State) (cls num : Nat) : Bool :=
  match cls with
  | 0 => (s.cell num).state ≠ .absent
  | 1 => decide (num < 24 * s.lcy.dies) && (s.island num).state ≠ .absent
  | 3 => decide (num < s.lcy.dies)
  | _ => true

/-- Device time from which a unit's age runs: its last passing test, or the cold reset (R438, R443). -/
def State.ageStart (s : State) (cls num : Nat) : Nat := max (s.testUnit cls num).ageFrom s.lcy.bootStart

/-- Age in seconds. -/
def State.testAge (s : State) (cls num : Nat) : Nat := (s.now - s.ageStart cls num) / 1000000000

/-- test.period_h and test.period_h less test.force_h, in ns. -/
def State.testPeriod (s : State) : Nat := s.devN 0x0C01 * 3600000000000
def State.forceAge (s : State) : Nat := (s.devN 0x0C01 - s.devN 0x0C02) * 3600000000000

/-- A test's result is kept (R438, Tables 17-3, 17-4). -/
def State.recordTest (s : State) (cls num : Nat) (r : TestResult) (detail : Nat) : State :=
  let pass := r == .pass || r == .part
  s.modTest (fun x => { x with units := tmod x.units (testKey cls num) {} (fun u =>
    { u with result := r, lastTry := s.sec32, detail
             lastPass := if pass then s.sec32 else u.lastPass
             ageFrom := if pass then s.now else u.ageFrom
             overdue := if pass then 0 else u.overdue }) })

/-- Result codes of Table 17-3. -/
def testCode : TestResult → Nat
  | .never => 0 | .pass => 1 | .fail => 2 | .part => 3 | .drift => 4

/-- EV_TEST_FAILED (R442). -/
def State.testFailed (s : State) (cls num severity : Nat) : State :=
  s.raiseDev 0x0C01 srcTest (cls + num * 2 ^ 16 + severity % 4 * 2 ^ 30)

/-- EV_TEST_FAILED with a severity that the spec gives for class 2 only. -/
def State.testFailedFree (s : State) (cls num : Nat) : State :=
  let (v, s) := s.free
  s.testFailed cls num v

/-! ### Requests and drain marks (R427, R440, R441) -/

/-- Cells TESTING or marked for drain. -/
def State.testLoad (s : State) : Nat :=
  (s.sea.cells.filter (fun p => p.2.state == .testing || s.sea.drainCells.contains p.1 ||
    s.sea.drainClusters.contains (clusterOf p.1))).length

/-- A request's target is marked for drain, if the marks leave room; its 2 s begin. -/
def State.markReq (s : State) (k : Nat) : State :=
  match tfind s.test.reqs k with
  | none => s
  | some r =>
    let cls := k / 1024
    let num := k % 1024
    let set (s : State) : State := s.modTest (fun x =>
      { x with reqs := tset x.reqs k { r with marked := true, until_ := s.now + 2000000000 } })
    if !r.drain || r.marked || r.running then s
    else if cls = 0 && decide (s.testLoad + 1 ≤ s.devN 0x0C03) then
      set (s.modSea (fun a => { a with drainCells := linsert a.drainCells num }))
    else if cls = 1 && decide (s.testLoad + 8 ≤ s.devN 0x0C03) &&
        !s.test.reqs.any (fun p => p.1 / 1024 == 1 && p.2.marked) then
      set (s.modSea (fun a => { a with drainClusters := linsert a.drainClusters num }))
    else s

/-- Requests still unmarked get their marks as others end. -/
def State.markNext (s : State) : State := (s.test.reqs.map (·.1)).foldl State.markReq s

/-- A unit's drain marks go. -/
def State.unmark (s : State) (cls num : Nat) : State :=
  match cls with
  | 0 => s.modSea (fun a => { a with drainCells := a.drainCells.filter (· ≠ num) })
  | 1 => s.modSea (fun a => { a with drainClusters := a.drainClusters.filter (· ≠ num) })
  | _ => s

/-- A unit's request ends: with its result (R440), or deferred or cancelled. -/
def State.endReq (s : State) (cls num status : Nat) (r : Option TestResult) : State :=
  match tfind s.test.reqs (testKey cls num) with
  | none => s
  | some q =>
    let s := (s.modTest (fun x => { x with reqs := terase x.reqs (testKey cls num) })).unmark cls num
    let s := match q.ticket with
      | some k => s.ticketDone k status (match r with | some r => [wd (testCode r)] | none => [])
      | none => s
    s.markNext

/-- A test ends with a result: kept, and the answer to a request. -/
def State.testResult (s : State) (cls num : Nat) (r : TestResult) (detail : Nat) : State :=
  (s.recordTest cls num r detail).endReq cls num 0 (some r)

/-! ### Segment tests (R435) -/

/-- The ECHO's pattern: the bytes 0x55 and 0xAA, or the count. -/
def echoPattern (count : Bool) : List Byte :=
  (List.range 64).map (fun i => BitVec.ofNat 8 (if count then i else if i % 2 = 0 then 0x55 else 0xAA))

/-- Whether a lane's ECHO of a running segment test is open. -/
def State.echoIs (s : State) (lane : Nat) : Bool := (tget s.test.echoOpen (laneSeg lane) []).contains lane

/-- A lane's ECHO is closed; the test ends with the last. -/
def State.echoClose (s : State) (lane : Nat) (bad : Bool) : State :=
  if !s.echoIs lane then s else
    let g := laneSeg lane
    let s := s.modUnit lane (fun u => { u with echo := none })
    let d := (s.testUnit 4 g).detail ||| (if bad then 2 ^ (lane % 16) else 0)
    let s := if bad then s.modTest (fun x => { x with echoBad := tmod x.echoBad g 0 (· + 1) }) else s
    let left := (tget s.test.echoOpen g []).filter (· ≠ lane)
    if left.isEmpty then
      let s := s.modTest (fun x => { x with echoOpen := terase x.echoOpen g })
      let s := s.testResult 4 g (if d = 0 then .pass else .fail) d
      if d = 0 then s else s.testFailedFree 4 g
    else s.modTest (fun x =>
      { x with echoOpen := tset x.echoOpen g left, units := tmod x.units (testKey 4 g) {} (fun u => { u with detail := d }) })

/-- A segment's test ends without a result (R435). -/
def State.echoCut (s : State) (g : Nat) : State :=
  let s := (tget s.test.echoOpen g []).foldl (fun s l => s.modUnit l (fun u => { u with echo := none })) s
  s.modTest (fun x => { x with echoOpen := terase x.echoOpen g })

/-! ### Cells (R427 to R431) -/

/-- An idle Sentinel cell that can test a cell. -/
def State.sentinelFree (s : State) (n target : Nat) : Bool :=
  (s.cell n).caste == .sentinel && (s.cell n).state == .available && (s.cell n).work.isEmpty && n != target

/-- A cell test begins (R428). -/
def State.startCellTest (s : State) (n sentinel : Nat) : State :=
  let s := ((s.giveWork sentinel (.check n)).setCell n .testing).modCell n (fun c => { c with lentCaste := c.caste })
  let s := s.modTest (fun x => { x with loans := tset x.loans n sentinel })
  s.modTest (fun x => { x with reqs := tupd x.reqs (testKey 0 n) (fun r => { r with running := true }) })

end Sys2Proof.Machine
end

