-- ==== Sys2Proof/Machine/AudOps.lean ====
section
/-! DEFINITION. The audio engine: the media clock, receive buffers, prompts, buses, transmit packets
(11_audio.md).  A sample is held at 24 bits. -/

namespace Sys2Proof.Machine

def State.modAud (s : State) (f : Aud → Aud) : State := { s with aud := f s.aud }

/-- The page set whose streams, buses and ports the engine uses (R79, R315). -/
def State.audCfg (s : State) : Cfg := s.cfgOf s.aud.ver

/-- Sample rate in kHz, and frames of a block of 125 µs. -/
def State.khz (s : State) : Nat := s.audCfg.rate
def State.blockLen (s : State) : Nat := s.khz / 8

/-! ### The media clock (R290, R291, R310) -/

/-- First sample boundary at or after a clock value. -/
def sampleCeil (v khz : Nat) : Nat := (v * khz * 1000 + secUnit - 1) / secUnit

/-- M (R290). -/
def sampleFloor (v khz : Nat) : Nat := v * khz * 1000 / secUnit

/-- Device time from which the served clock has reached a media index, a step still due left out. -/
def State.mediaTime (s : State) (m : Int) : Nat :=
  let khz : Int := s.khz
  let d : Int := (m + s.aud.stepDue) * secUnit - (s.tim.served : Int) * khz * 1000
  if d ≤ 0 then s.now
  else s.now + ((d * 1000000000000 + khz * 1000 * 65536 * (1000000000000 + s.tim.corr) - 1) /
    (khz * 1000 * 65536 * (1000000000000 + s.tim.corr))).toNat

/-- Device time at which the next block begins. -/
def State.blockTime (s : State) : Nat := s.mediaTime ((s.aud.f : Int) + s.aud.diff)

/-! ### Receive buffers (R293, R295 to R302) -/

def State.rxs (s : State) (n : Nat) : RxStream := tget s.aud.rx n {}
def State.modRx (s : State) (n : Nat) (f : RxStream → RxStream) : State :=
  s.modAud (fun a => { a with rx := tmod a.rx n {} f })

/-- An RTP timestamp or media index modulo 2^32. -/
def m32 (v : Int) : Nat := (v % 4294967296).toNat

/-- RTP timestamp of the next sample to play of a synchronous stream (R295). -/
def State.playPoint (s : State) (c : RxCfg) : Nat :=
  m32 ((s.aud.f : Int) + s.aud.diff - c.offsetSamples s.khz + c.rtpOffset)

/-- P of a stream: an adaptive one has its own (R297, R301). -/
def State.nextPlay (s : State) (n : Nat) (c : RxCfg) : Option Nat :=
  if c.adaptive then (s.rxs n).play else some (s.playPoint c)

/-- Samples per packet. -/
def RxCfg.perPacket (c : RxCfg) (khz : Nat) : Nat := packetSamples khz c.packetTime

/-- Positions of a stream's buffer. -/
def RxCfg.capacity (c : RxCfg) (khz : Nat) : Nat := c.offsetSamples khz + 2 * c.perPacket khz

/-- A stream's buffer restarts empty, and what it held is counted as discarded (R293, R302). -/
def State.rxRestart (s : State) (n : Nat) : State :=
  let held := (s.rxs n).buf.length
  (s.count 10 n 2 held).modRx n (fun x => { packets := x.packets, stepSamples := x.stepSamples })

/-- The filled positions among k from one on are discarded. -/
def State.rxDiscard (s : State) (n from_ k : Nat) : State :=
  let inside (p : Nat × Filled) : Bool := decide ((p.1 + 2 ^ 32 - from_) % 2 ^ 32 < k)
  let cut := ((s.rxs n).buf.filter inside).length
  (s.count 10 n 2 cut).modRx n (fun x => { x with buf := x.buf.filter (fun p => !inside p) })

/-- A step of M by k samples acts on a synchronous stream (Table 11-2). -/
def State.rxStep (s : State) (k : Int) (n : Nat) (c : RxCfg) : State :=
  if c.adaptive || !c.enable then s
  else if decide (c.capacity s.khz < k.natAbs) then s.rxRestart n
  else if 0 < k then
    -- the play point before the step
    let p := m32 ((s.playPoint c : Int) - k)
    (s.rxDiscard n p k.toNat).modRx n (fun x => { x with skip := 0, stepSamples := x.stepSamples + k.toNat })
  else s.modRx n (fun x => { x with silence := x.silence + k.natAbs })

/-- M moves by what is due at a block boundary (R293). -/
def State.applyStep (s : State) : State :=
  let k := s.aud.stepDue
  if k = 0 ∨ s.aud.stepAt = s.now then s else
    let s := s.modAud (fun a => { a with diff := a.diff + k, stepDue := 0
                                         tx := tmap a.tx (fun _ x => { x with marker := true }) })
    s.audCfg.rx.foldl (fun s p => s.rxStep k p.1 p.2) s

/-- One frame of a stream: a filled position is played and faded in, an unfilled one is concealed (R298). -/
def RxStream.frame (x : RxStream) (pos chans : Nat) : List Int × Bool × RxStream :=
  match tfind x.buf pos with
  | some f =>
    let out := if x.fadeIn < 32 then f.samples.map (fun v => Config.fade v x.fadeIn 32) else f.samples
    (out, true, { x with buf := terase x.buf pos, last := f.samples, fadeOut := 0, fadeIn := min 32 (x.fadeIn + 1) })
  | none =>
    let out := if x.fadeOut < 32 && !x.last.isEmpty then x.last.map (fun v => Config.fade v (32 - x.fadeOut) 32) else List.replicate chans 0
    (out, false, { x with fadeOut := min 32 (x.fadeOut + 1), fadeIn := 0 })

/-- Frames of a stream from a position on: rows, played and concealed counts. -/
def RxStream.frames (chans : Nat) : Nat → Nat → RxStream → List (List Int) × Nat × Nat × RxStream
  | 0, _, x => ([], 0, 0, x)
  | n + 1, pos, x =>
    let (o, hit, x) := x.frame pos chans
    let (os, p, c, x) := RxStream.frames chans n ((pos + 1) % 2 ^ 32) x
    (o :: os, p + b2n hit, c + b2n (!hit), x)

/-- Missing packets whose samples are due are lost (R298). -/
def State.rxLost (s : State) (n p : Nat) : State :=
  let past (m : Nat × Nat) : Bool := decide (sgn 32 (m.2 + 2 ^ 32 - p) < 0)
  let lost := (s.rxs n).missing.filter past
  (s.count 10 n 7 lost.length).modRx n (fun x => { x with missing := x.missing.filter (fun m => !past m) })

/-- A block of a synchronous stream (R293, R295, R298). -/
def State.rxSync (s : State) (n : Nat) (c : RxCfg) : State :=
  let len := s.blockLen
  let p := s.playPoint c
  let x := s.rxs n
  let quiet := min len x.silence
  -- positions that pass in step silence are not played
  let s := s.rxDiscard n p quiet
  let (rows, played, concealed, x') := RxStream.frames c.channels (len - quiet) ((p + quiet) % 2 ^ 32) (s.rxs n)
  let s := (s.count 10 n 1 played).count 10 n 8 concealed
  let s := s.modRx n (fun _ =>
    { x' with silence := x.silence - quiet, stepSamples := x.stepSamples + quiet
              out := List.replicate quiet (List.replicate c.channels 0) ++ rows })
  s.rxLost n ((p + len) % 2 ^ 32)

/-- A block of an adaptive stream: resampled from the positions that its ratio takes (R301). -/
def State.rxAdaptive (s : State) (n : Nat) (c : RxCfg) : State :=
  let len := s.blockLen
  let x := s.rxs n
  match x.play with
  | none => (s.count 10 n 8 len).modRx n (fun x => { x with out := List.replicate len (List.replicate c.channels 0) })
  | some p =>
    let quiet := min len x.silence
    let carry := x.carry + x.ratio * ((len - quiet : Nat) : Int)
    let whole := carry / 100000000
    let take := (((len - quiet : Nat) : Int) + whole).toNat
    let (rows, played, concealed, x') := RxStream.frames c.channels take p x
    let out := if take = len - quiet && x.ratio = 0 then rows else Config.resample (len - quiet) x.ratio rows
    let s := (s.count 10 n 1 played).count 10 n 8 concealed
    let s := s.modRx n (fun _ =>
      { x' with silence := x.silence - quiet, play := some ((p + take) % 2 ^ 32), carry := carry - whole * 100000000
                out := List.replicate quiet (List.replicate c.channels 0) ++ out })
    s.rxLost n ((p + take) % 2 ^ 32)

/-- A block of a receive stream. -/
def State.rxBlock (s : State) (n : Nat) (c : RxCfg) : State :=
  let s := if (s.rxs n).restart then s.rxRestart n else s
  if !c.enable then s
  else if c.adaptive then s.rxAdaptive n c else s.rxSync n c

/-! ### Prompts (R308 to R312) -/

def State.modPrompt (s : State) (k : Nat) (f : Prompt → Prompt) : State :=
  s.modAud (fun a => { a with prompts := tupd a.prompts k f })

/-- A clip at the sample rate: at 96 kHz it is interpolated by 2. -/
def clipAt (khz : Nat) (l : List Int) : List Int :=
  if khz = 96 then
    (List.range l.length).flatMap (fun i => [l.getD i 0, Config.between (l.getD i 0) (l.getD (i + 1) 0)])
  else l

/-- Buses whose sources include a prompt source: a lane, or a player as lane + 128. -/
def Cfg.promptBuses (c : Cfg) (source : Nat) : List Nat :=
  (c.buses.filter (fun p => p.2.any (fun b =>
    (b.kind == 3 && b.index == source) || (b.kind == 4 && b.index + 128 == source)))).map (·.1)

/-- A prompt is scheduled; of two on one source with one play frame the later stamp's plays (R315). -/
def State.addPrompt (s : State) (p : Prompt) : State :=
  let clash := s.aud.prompts.filter (fun q => q.2.source == p.source && q.2.frame == p.frame && !q.2.started)
  if clash.any (fun q => decide (p.stamp < q.2.stamp)) then s else
    let k := s.aud.nextKey
    s.modAud (fun a => { a with nextKey := k + 1
                                prompts := tset (a.prompts.filter (fun q => !clash.any (fun c => c.1 == q.1))) k p })

/-- A clip set's clip of a prompt number. -/
def Cfg.clip (c : Cfg) (tenant prompt : Nat) : Option (List Int) :=
  match tfind c.clips tenant with
  | some l => (l.find? (fun x => x.prompt == prompt)).map (·.samples)
  | none => none

/-- PROMPT_SCHEDULE (R309, R310): a decision's prompt, at its stamp. -/
def State.schedulePrompt (s : State) (lane tenant prompt ver : Nat) : State :=
  let c := s.cfgOf ver
  if prompt = 0 then s else
    let own := if tenant = 0 then none else (c.clip tenant prompt).map (fun x => (tenant, x))
    match (match own with | some x => some x | none => (c.clip 0 prompt).map (fun x => (0, x))) with
    | none => s.count 11 0 2
    | some (t, samples) =>
      if (s.audCfg.promptBuses lane).isEmpty then s.count 11 0 3
      else
        let v := s.tim.served + s.devN 0x0902 * 1000 * nsUnit
        s.addPrompt { source := lane, tenant := t, prompt, frame := (sampleCeil v s.khz : Int) - s.aud.diff
                      stamp := s.tim.served, clip := clipAt s.khz samples }

/-- The frame at which a later prompt of the same source takes a prompt's place. -/
def State.replacedAt (s : State) (k : Nat) (p : Prompt) : Option Int :=
  s.aud.prompts.foldl (fun a q =>
    if q.1 == k || q.2.source != p.source || decide (q.2.frame < p.frame) || (q.2.frame == p.frame && decide (q.1 < k)) then a
    else match a with
      | none => some q.2.frame
      | some f => some (min f q.2.frame)) none

/-- A prompt's sample in a frame: before its end, faded out over the 32 samples before the frame that replaces it. -/
def State.promptSample (s : State) (k : Nat) (p : Prompt) (f : Int) : Option Int :=
  if !p.started || decide (f < p.frame) then none
  else match p.clip[(f - p.frame).toNat]? with
    | none => none
    | some v => match s.replacedAt k p with
      | none => some v
      | some g => if g ≤ f then none else if g - 32 ≤ f then some (Config.fade v (g - f).toNat 32) else some v

/-- A prompt source plays in a frame, on a bus. -/
def State.promptPlays (s : State) (source bus : Nat) (f : Int) : Bool :=
  s.aud.prompts.any (fun q => q.2.source == source && !q.2.mutedOn.contains bus && (s.promptSample q.1 q.2 f).isSome)

/-- Name of a source's power record. -/
def powerKey (b : BusSource) : Nat := b.kind * 1024 + b.index

/-- A source is active (R307). -/
def State.sourceActive (s : State) (bus : Nat) (b : BusSource) (f : Int) : Bool :=
  match b.kind with
  | 0 => false
  | 3 => s.promptPlays b.index bus f
  | 4 => s.promptPlays (b.index + 128) bus f
  | _ => Config.aboveDbfs (sumOf (tget s.aud.power (powerKey b) []) / 80) (s.dev 0x0906)

/-- An emergency source of a bus is active (R308). -/
def State.busEmergency (s : State) (bus : Nat) (f : Int) : Bool :=
  (tget s.audCfg.buses bus []).any (fun b => b.priority == 7 && s.sourceActive bus b f)

/-- A prompt's play frame is reached: it starts, but not on a bus whose emergency source is active (R308, R310). -/
def State.startPrompt (s : State) (k : Nat) : State :=
  match tfind s.aud.prompts k with
  | none => s
  | some p =>
    if p.started then s else
      let muted := (s.audCfg.promptBuses p.source).filter (fun b =>
        s.busEmergency b (max p.frame s.aud.f) &&
          !(tget s.audCfg.buses b []).any (fun x => x.priority == 7 && (x.kind == 3 && x.index == p.source || x.kind == 4 && x.index + 128 == p.source)))
      (s.count 11 0 4 muted.length).modPrompt k (fun p => { p with started := true, mutedOn := muted, frame := max p.frame s.aud.f })

/-! ### Buses (R306 to R308, R313) -/

/-- A sample under a gain code: 0 mutes, 192 is 0 dB. -/
def gained (v : Int) (code : Nat) : Int := if code = 0 then 0 else if code = 192 then v else Config.gain v code

/-- A sample attenuated by a number of 0.001 dB. -/
def ducked (v : Int) (att : Nat) : Int := if att = 0 then v else Config.attenuate v att

/-- A source's sample in frame i of the block that begins at frame f0. -/
def State.sourceSample (s : State) (tdmIn : List (List Int)) (bus : Nat) (b : BusSource) (f0 i : Nat) : Int :=
  let prompt (source : Nat) : Int := s.aud.prompts.foldl (fun a q =>
    if q.2.source == source && !q.2.mutedOn.contains bus then a + (s.promptSample q.1 q.2 ((f0 + i : Nat) : Int)).getD 0 else a) 0
  match b.kind with
  | 1 => ((s.rxs (b.index / 8)).out.getD i []).getD (b.index % 8) 0
  | 2 => (tdmIn.getD b.index []).getD i 0
  | 3 => prompt b.index
  | 4 => prompt (b.index + 128)
  | _ => 0

/-- One step of a source's attenuation (R307). -/
def duckStep (depth attack release : Nat) (active : Bool) (att : Nat) : Nat :=
  if active then min depth (att + (depth + 8 * attack - 1) / (8 * attack)) else att - (depth + 8 * release - 1) / (8 * release)

/-- A fade-out still left of a prompt whose lane source was taken away. -/
def State.tailSample (s : State) (i f0 : Nat) (t : Nat × Nat × Nat) : Int :=
  match tfind s.aud.prompts t.1 with
  | some p => if i < t.2.2 then gained (Config.fade ((s.promptSample t.1 p ((f0 + i : Nat) : Int)).getD 0) (t.2.2 - i) 32) t.2.1 else 0
  | none => 0

/-- Full scale of 24 bits. -/
def full24 : Int := 8388607

/-- One bus's block: samples, clipped samples, its new state. -/
def State.busBlock (s : State) (tdmIn : List (List Int)) (bus : Nat) (src : List BusSource) (live : Bool) : Nat × BusState :=
  let x : BusState := tget s.aud.buses bus {}
  let f0 := s.aud.f
  let depth := s.devN 0x0903 * 1000
  let act := src.map (fun b => s.sourceActive bus b (f0 : Int))
  let emg := s.busEmergency bus (f0 : Int)
  let duck := (List.range src.length).map (fun i =>
    let b := src.getD i ⟨0, 0, 0, 0⟩
    let higher := (List.range src.length).any (fun j => decide (b.priority < (src.getD j ⟨0, 0, 0, 0⟩).priority) && act.getD j false)
    duckStep depth (s.devN 0x0904) (s.devN 0x0905) higher (x.duck.getD i 0))
  let raw (i : Nat) : Int :=
    (List.range src.length).foldl (fun (a : Int) k =>
      let b := src.getD k ⟨0, 0, 0, 0⟩
      if emg && b.priority ≠ 7 then a
      else a + ducked (gained (s.sourceSample tdmIn bus b f0 i) b.gain) (duck.getD k 0)) 0 +
      x.tails.foldl (fun (a : Int) t => a + s.tailSample i f0 t) 0
  let rows := (List.range s.blockLen).map raw
  let sat (v : Int) : Int := if full24 < v then full24 else if v < -full24 - 1 then -full24 - 1 else v
  let tails := (x.tails.map (fun t => (t.1, t.2.1, t.2.2 - s.blockLen))).filter (fun t => decide (0 < t.2.2))
  if live then ((rows.filter (fun v => sat v ≠ v)).length, { x with duck, out := rows.map sat, tails })
  else (0, { x with duck, out := List.replicate s.blockLen 0, tails })

/-- A bus is mixed by its pair, unless it is muted. -/
def State.busLive (s : State) (bus : Nat) : Bool :=
  match (tget s.aud.buses bus {}).pair with
  | some k => s.pairMixes k && !s.aud.muted
  | none => false

/-- A silent bus's blocks are counted as concealed of the streams it names (R313). -/
def State.concealBus (s : State) (src : List BusSource) : State :=
  src.foldl (fun s b => if b.kind = 1 then s.count 10 (b.index / 8) 8 s.blockLen else s) s

/-- Every bus's block. -/
def State.mix (s : State) (tdmIn : List (List Int)) : State :=
  s.audCfg.buses.foldl (fun s p =>
    let live := s.busLive p.1
    let (clips, x) := s.busBlock tdmIn p.1 p.2 live
    let s := if live || s.aud.muted then s else s.concealBus p.2
    (s.count 11 0 5 clips).modAud (fun a => { a with buses := tset a.buses p.1 x })) s

/-- Mean-square sums of the block for every source that a bus names. -/
def State.meter (s : State) (tdmIn : List (List Int)) : State :=
  let names := (s.audCfg.buses.flatMap (fun p => p.2.filter (fun b => b.kind = 1 || b.kind = 2))).eraseDups
  s.modAud (fun a => { a with power := names.foldl (fun t b =>
    let v := (List.range s.blockLen).foldl (fun m i => let x := s.sourceSample tdmIn 0 b s.aud.f i; m + (x * x).toNat) 0
    tset t (powerKey b) ((v / s.blockLen :: tget a.power (powerKey b) []).take 80)) [] })

/-! ### Outputs (R303 to R305) -/

/-- A sample on a 16- or 24-bit output. -/
def narrow (wide : Bool) (v : Int) : Int := if wide then v else v / 256

/-- TDM output ports send their slots. -/
def State.tdmOut (s : State) : State :=
  s.audCfg.tdm.foldl (fun s p =>
    if !p.2.enable || p.2.input then s else
      let slot (k i : Nat) : Int := narrow p.2.wide ((tget s.aud.buses (16 * p.1 + k) {}).out.getD i 0)
      s.emitOut (.tdm p.1 ((List.range s.blockLen).map (fun i => (List.range (tdmSlots s.khz)).map (fun k => slot k i))))) s

/-- RTP header and payload (R303). -/
def rtpBytes (c : TxCfg) (seq : Nat) (marker : Bool) (stamp : Nat) (frames : List (List Int)) : List Byte :=
  let sample (v : Int) : List Byte := if c.encoding = 1 then toBe 3 (unsgn 24 v) else toBe 2 (unsgn 16 (narrow false v))
  toBe 1 0x80 ++ toBe 1 (128 * b2n marker + c.payloadType) ++ toBe 2 seq ++ toBe 4 stamp ++ toBe 4 c.ssrc.toNat ++
    frames.flatMap (fun f => f.flatMap sample)

/-- A packet goes as a convoy: one copy on each port of the mask (R304). -/
def State.convoy (s : State) (c : TxCfg) (data : List Byte) : State :=
  (onesOf 4 c.portMask).foldl (fun s port =>
    match tfind s.cfg.ifs port with
    | some i =>
      let ip := udp4 c.dscp c.ttl i.ipv4 c.group c.srcPort c.dstPort data
      (s.admitCopy port (s.devN 0x0A02) 0 6 .audio (i.frame (mcastMac c.group) 6 0x0800 ip) true).2
    | none => s) s

/-- A block of a transmit stream: frames are gathered, and a full packet is sent. -/
def State.txBlock (s : State) (n : Nat) (c : TxCfg) : State :=
  if !c.enable || s.aud.muted then s else
    let x : TxStream := tget s.aud.tx n {}
    let fresh := x.frames.isEmpty
    let rows := (List.range s.blockLen).map (fun i =>
      (List.range c.channels).map (fun k => (tget s.aud.buses (32768 + 8 * n + k) {}).out.getD i 0))
    let x := { x with frames := x.frames ++ rows
                      first := if fresh then (s.aud.f : Int) + s.aud.diff else x.first
                      marked := if fresh then x.marker else x.marked
                      marker := if fresh then false else x.marker }
    if x.frames.length < packetSamples s.khz c.packetTime then s.modAud (fun a => { a with tx := tset a.tx n x })
    else
      let s := s.modAud (fun a => { a with tx := tset a.tx n { x with frames := [], seq := (x.seq + 1) % 65536, sent := x.sent + 1, marked := false } })
      s.convoy c (rtpBytes c x.seq x.marked (m32 (x.first + c.rtpOffset)) x.frames)

/-! ### The block (R291) -/

/-- Prompts that have played out, or lie cut off by another, go. -/
def State.endPrompts (s : State) : State :=
  let f : Int := s.aud.f
  let excess (q : Nat × Prompt) : Bool :=
    q.2.started && (decide (q.2.frame + q.2.clip.length ≤ f) ||
      (match s.replacedAt q.1 q.2 with | some g => decide (g ≤ f) | none => false))
  s.modAud (fun a => { a with prompts := s.aud.prompts.filter (fun q => !excess q) })

/-- A block begins: steps, streams, prompts due, buses, outputs (R291, R293, R303, R305, R313). -/
def State.audioBlock (s : State) (tdmIn : List (List Int)) : State :=
  let s := s.applyStep
  let s := if s.aud.noCells then s.assignBuses else s
  let s := s.audCfg.rx.foldl (fun s p => s.rxBlock p.1 p.2) s
  let due := s.aud.prompts.filter (fun q => !q.2.started && decide (q.2.frame < ((s.aud.f + s.blockLen : Nat) : Int)))
  let s := due.foldl (fun s q => s.startPrompt q.1) s
  let s := ((s.meter tdmIn).mix tdmIn).tdmOut
  let s := s.audCfg.tx.foldl (fun s p => s.txBlock p.1 p.2) s
  (s.modAud (fun a => { a with f := a.f + s.blockLen })).endPrompts

/-! ### A commit's flush ends (R79, R302, R303, R315) -/

/-- Prompts playing on a bus whose lane source goes fade out (R315). -/
def State.fadeRemoved (s : State) (old new : Cfg) (bus : Nat) : State :=
  let was := tget old.buses bus []
  let now := tget new.buses bus []
  let gone := was.filter (fun b => b.kind == 3 && !now.any (fun x => x.kind == 3 && x.index == b.index))
  let tails := gone.flatMap (fun b => (s.aud.prompts.filter (fun q =>
    q.2.source == b.index && !q.2.mutedOn.contains bus && (s.promptSample q.1 q.2 s.aud.f).isSome)).map (fun q => (q.1, b.gain, 32)))
  if tails.isEmpty then s else s.modAud (fun a => { a with buses := tmod a.buses bus {} (fun x => { x with tails := x.tails ++ tails }) })

/-- The engine takes the configuration in force: changed receive streams restart, a transmit stream just enabled starts at
sequence number 0, buses no longer there go, and a new sample rate sets the difference of M and F anew. -/
def State.audioFlush (s : State) : State :=
  let old := s.audCfg
  let new := s.cfg
  if s.aud.ver = s.man.cur then s else
    let s := old.buses.foldl (fun s p => s.fadeRemoved old new p.1) s
    let rate := decide (old.rate ≠ new.rate)
    let s := (new.rx.filter (fun p => rate || tfind old.rx p.1 != some p.2)).foldl (fun s p => s.modRx p.1 (fun x => { x with restart := true })) s
    let on (c : Cfg) (n : Nat) : Bool := match tfind c.tx n with | some x => x.enable | none => false
    let s := s.modAud (fun a =>
      { a with ver := s.man.cur
               tx := (tmap a.tx (fun n x => if on old n && on new n && !rate then x else {})).filter (fun p => on new p.1)
               buses := a.buses.filter (fun p => tmem new.buses p.1) })
    let s := if rate then s.modAud (fun a =>
        { a with diff := (sampleFloor s.tim.served new.rate : Int) - a.f, stepDue := 0, prompts := [] }) else s
    s.prune

end Sys2Proof.Machine
end

