-- ==== Sys2Proof/Machine/Audio.lean ====
section
/-! DEFINITION. Audio: RTP reception, blocks, prompts, and the audio commands (11_audio.md). -/

namespace Sys2Proof.Machine

/-! ### Reception (R294, R297 to R300) -/

/-- An RTP packet's fields: payload type, sequence number, timestamp, SSRC, payload; none where R294's form is broken. -/
def rtpParse (b : List Byte) : Option (Nat × Nat × Nat × Word × List Byte) :=
  let b0 := byteAt b 0
  let ext := b0 / 16 % 2 == 1
  let extLen := if ext then 4 + 4 * beNat (slice b 14 2) else 0
  if b.length < 12 + extLen ∨ (ext && decide (b.length < 16)) ∨ b0 / 64 ≠ 2 ∨ b0 / 32 % 2 ≠ 0 ∨ b0 % 16 ≠ 0 then none
  else some (byteAt b 1 % 128, beNat (slice b 2 2), beNat (slice b 4 4), wd (beNat (slice b 8 4)), b.drop (12 + extLen))

/-- Samples of a payload as rows of channels, at 24 bits. -/
def rowsOf (encoding chans : Nat) : Nat → List Byte → List (List Int)
  | 0, _ => []
  | n + 1, b =>
    let w := if encoding = 1 then 3 else 2
    let v (k : Nat) : Int :=
      let x := sgn (8 * w) (beNat (slice b (w * k) w))
      if encoding = 1 then x else 256 * x
    (List.range chans).map v :: rowsOf encoding chans n (b.drop (w * chans))

/-- Bytes of a packet's payload. -/
def RxCfg.payload (c : RxCfg) (khz : Nat) : Nat := c.channels * (2 + c.encoding) * c.perPacket khz

def RxStream.leg (x : RxStream) (l : Nat) : Leg := if l = 0 then x.legA else x.legB
def RxStream.setLeg (x : RxStream) (l : Nat) (v : Leg) : RxStream := if l = 0 then { x with legA := v } else { x with legB := v }
def RxCfg.legPort (c : RxCfg) (l : Nat) : Nat := if l = 0 then c.portA else c.portB.getD 15

/-- A leg has an accepted packet: it is RUNNING, and a leg that was STALE returns (R300), DATA bit 0 naming leg B (Table 18-3). -/
def State.legHeard (s : State) (n l : Nat) (ssrc : Word) : State :=
  let x := s.rxs n
  let back := (x.leg l).state == .stale
  let s := s.modRx n (fun x => x.setLeg l { state := .running, ssrc := some ssrc, heard := s.now })
  if back then s.raiseDev 0x0902 (srcRx n) l else s

/-- Sequence numbers skipped are missing until a packet fills them (R298). -/
def RxStream.note (x : RxStream) (seq stamp per : Nat) : RxStream :=
  match x.top with
  | none => { x with top := some (seq, stamp) }
  | some (top, _) =>
    let d := (seq + 65536 - top) % 65536
    if d = 0 ∨ 32768 ≤ d then { x with missing := x.missing.filter (fun m => m.1 ≠ seq) }
    else
      let gap := (List.range (d - 1)).map (fun i => ((top + 1 + i) % 65536, (stamp + 2 ^ 32 - (d - 1 - i) * per % 2 ^ 32) % 2 ^ 32))
      { x with top := some (seq, stamp), missing := x.missing ++ gap }

/-- Rows put at positions from a timestamp on, where nothing stands or `over` says so. -/
def putRows (leg at_ : Nat) (excess : Bool) : Nat → List (List Int) → Tbl Filled → Nat × Tbl Filled
  | _, [], t => (0, t)
  | p, r :: rs, t =>
    let free := !tmem t p
    let t := if free || excess then tset t p { samples := r, leg, at_ } else t
    let (n, t) := putRows leg at_ excess ((p + 1) % 2 ^ 32) rs t
    (n + b2n free, t)

/-- A datagram whose form R294 accepts is late, early, a duplicate, merged, or written (R297, R299). -/
def State.rtpTake (s : State) (n l : Nat) (c : RxCfg) (seq stamp : Nat) (rows : List (List Int)) : State :=
  let khz := s.khz
  let per := c.perPacket khz
  let off := c.offsetSamples khz
  let s := match s.nextPlay n c with
    | some _ => s
    | none => s.modRx n (fun x => { x with play := some (m32 ((stamp : Int) - (off - per : Nat))) })
  match s.nextPlay n c with
  | none => s
  | some p =>
    let d := sgn 32 (stamp + 2 ^ 32 - p)
    if d < khz / 2 then s.count 10 n 4
    else if d + per > off + 2 * per then s.count 10 n 5
    else
      let x := s.rxs n
      match tfind x.buf stamp with
      | some f =>
        if f.leg = l then s.count 10 n 6
        else
          let same := (List.range rows.length).all (fun i =>
            match tfind x.buf ((stamp + i) % 2 ^ 32) with | some g => g.samples == rows.getD i [] | none => true)
          -- of two copies in one cycle that of the lower port stands
          let excess := f.at_ == s.now && decide (c.legPort l < c.legPort (1 - l))
          let s := s.modRx n (fun x => { x.note seq stamp per with buf := if excess then (putRows l s.now true stamp rows x.buf).2 else x.buf })
          let s := s.count 10 n 9
          if same then s else s.count 10 n 10
      | none =>
        let (k, buf) := putRows l s.now false stamp rows x.buf
        (s.modRx n (fun x => { x.note seq stamp per with buf, packets := x.packets + 1 })).count 10 n 0 k

/-- RTP_PACKET (R294, R297). -/
def execRtpPacket (t stream leg : Nat) (p : RtpPkt) (s : State) : Out :=
  let s := s.tick t
  match tfind s.audCfg.rx stream with
  | none => .next s
  | some c =>
    if !c.enable || decide (1 < leg) || (leg == 1 && c.portB.isNone) then .next s else
      match rtpParse p.bytes with
      | none => .next (s.count 10 stream 12)
      | some (pt, seq, stamp, ssrc, body) =>
        if pt ≠ c.payloadType ∨ body.length ≠ c.payload s.khz ∨ (c.source ≠ 0 ∧ p.source ≠ c.source) then .next (s.count 10 stream 12)
        else if (match ((s.rxs stream).leg leg).ssrc with | some x => x != ssrc | none => false) then .next (s.count 10 stream 11)
        else
          let s := s.legHeard stream leg ssrc
          .next (s.rtpTake stream leg c seq stamp (rowsOf c.encoding c.channels (c.perPacket s.khz) body))

/-- LEG_STALE (R300). -/
def execLegStale (t stream leg : Nat) (s : State) : Out :=
  let x := s.rxs stream
  if (x.leg leg).state ≠ .running ∨ 1 < leg then .next (s.tick t) else
    let s := s.tick (max t ((x.leg leg).heard + s.devN 0x0907 * 1000000))
    let s := s.modRx stream (fun x => x.setLeg leg { x.leg leg with state := .stale, ssrc := none })
    .next (if (x.leg (1 - leg)).state = .running then s else s.raiseDev 0x0901 (srcRx stream) 0)

/-- ADAPTIVE_MEASURE (R301). -/
def execAdaptiveMeasure (t stream : Nat) (s : State) : Out :=
  let s := s.tick t
  match tfind s.audCfg.rx stream, (s.rxs stream).play with
  | some c, some p =>
    if !c.enable || !c.adaptive then .next s else
      let l := c.offsetSamples s.khz
      let n := c.perPacket s.khz
      let fill := (s.rxs stream).buf.length
      let clamp (v : Int) : Int := if 30000 < v then 30000 else if v < -30000 then -30000 else v
      let s := s.modRx stream (fun x =>
        { x with ratio := clamp (Config.adaptive (s.audCfg.param 0 0x0908).toNat x.ratio ((fill : Int) - (l - n : Nat))) })
      if l < fill then
        let k := fill - (l - n)
        -- the oldest filled positions go
        let ps := sortBy (fun a b => decide (a ≤ b)) ((s.rxs stream).buf.map (fun q => (q.1 + 2 ^ 32 - p) % 2 ^ 32))
        let cut := ps.getD (k - 1) 0 + 1
        .next (((s.rxDiscard stream p cut).count 10 stream 13 k).modRx stream (fun x => { x with play := some ((p + cut) % 2 ^ 32) }))
      else if fill < n then
        let k := (l - n) - fill
        .next ((s.count 10 stream 13 k).modRx stream (fun x => { x with silence := x.silence + k }))
      else .next s
  | _, _ => .next s

/-! ### Blocks and prompts -/

/-- AUDIO_BLOCK (R291). -/
def execAudioBlock (t : Nat) (tdmIn : List (List Int)) (s : State) : Out :=
  if !s.lcy.powerGood then .next (s.tick t) else
    .next ((s.tick (max t s.blockTime)).audioBlock tdmIn)

/-- PROMPT_START (R310). -/
def execPromptStart (t key : Nat) (s : State) : Out :=
  match tfind s.aud.prompts key with
  | some p => if p.started then .next (s.tick t) else .next ((s.tick (max t (s.mediaTime (p.frame + s.aud.diff)))).startPrompt key)
  | none => .next (s.tick t)

/-- Lanes that some bus names as a source. -/
def Cfg.laneSources (c : Cfg) : List Nat :=
  (c.buses.flatMap (fun p => (p.2.filter (fun b => b.kind = 3)).map (·.index))).eraseDups

/-- EMERGENCY_PROMPT_LOOP (R312). -/
def execEmergencyPromptLoop (t : Nat) (s : State) : Out :=
  let s0 := s.tick t
  match s0.cfg.clip 0 (s0.devN 0x090B) with
  | none => .next s0
  | some l =>
    if !s0.lane.emg then .next s0 else
      let start : Int := s.aud.emgNext.getD s.aud.f
      let s := s.tick (max t (s.mediaTime (start + s.aud.diff)))
      let start := max start s.aud.f
      let clip := clipAt s.khz l
      let s := s.audCfg.laneSources.foldl (fun s lane =>
        s.addPrompt { source := lane, tenant := 0, prompt := s.devN 0x090B, frame := start, stamp := s.tim.served, clip, emg := true }) s
      .next (s.modAud (fun a => { a with emgNext := some (start + clip.length + 1000 * s.khz) }))

/-! ### Commands (Table 11-6) -/

/-- Sample rate of the configuration that a caller's open manifest would leave. -/
def State.stagedRate (s : State) (tag : Nat) : Nat :=
  match s.openMan tag with
  | some (_, m) => (s.resulting m).rate
  | none => s.cfg.rate

/-- AUD_RX_SET. -/
def audRxSetDef : CmdDef :=
  { code := 0x0901, argc := 7, tenant := false, staged := true, masks := [0x01FF7F3F, 0xFFFF] }

/-- AUD_RX_SET's work. -/
def audRxSetWork (tag : Nat) (_io : HostIo) (a : List Word) (s : State) : Answer :=
    let w := arg a 1
    let v := arg a 2
    let b := fld v 15 12
    let c : RxCfg :=
      { enable := bit w 8, adaptive := bit w 9, encoding := fld w 10 10, channels := fld w 14 11, packetTime := fld w 17 16
        payloadType := fld w 24 18, linkOffset := fld v 7 0, portA := fld v 11 8, portB := if b = 15 then none else some b
        groupA := arg a 3, groupB := arg a 4, udpA := fld (arg a 5) 15 0, udpB := fld (arg a 5) 31 16, source := arg a 6
        rtpOffset := (arg a 7).toNat }
    if c.linkOffset < 8 ∨ 160 < c.linkOffset ∨ c.packetTime = 3 then .status 0x0012 s
    else if c.channels = 0 ∨ 8 < c.channels ∨ 3 < c.portA ∨ (b ≠ 15 ∧ (3 < b ∨ b = c.portA)) then .status 0x0901 s
    else if 1440 < c.payload (s.stagedRate tag) ∨ c.payloadType < 96 then .status 0x0902 s
    else s.stage tag 0x0901 (.audRx (fld w 5 0) c)

/-- AUD_RX_SET (R314). -/
def execAudRxSet (t tag : Nat) (io : HostIo) (s : State) : Out :=
  .next (s.run audRxSetDef (audRxSetWork tag io) t tag io)

/-- AUD_TX_SET. -/
def audTxSetDef : CmdDef :=
  { code := 0x0902, argc := 6, tenant := false, staged := true, masks := [0x01FF7D3F, 0x00FF03FF] }

/-- AUD_TX_SET's work. -/
def audTxSetWork (tag : Nat) (_io : HostIo) (a : List Word) (s : State) : Answer :=
    let w := arg a 1
    let v := arg a 2
    let c : TxCfg :=
      { enable := bit w 8, encoding := fld w 10 10, channels := fld w 14 11, packetTime := fld w 17 16, payloadType := fld w 24 18
        portMask := fld v 3 0, dscp := fld v 9 4, ttl := fld v 23 16, group := arg a 3, dstPort := fld (arg a 4) 15 0
        srcPort := fld (arg a 4) 31 16, ssrc := arg a 5, rtpOffset := (arg a 6).toNat }
    let bytes := c.channels * (2 + c.encoding) * packetSamples (s.stagedRate tag) c.packetTime
    if c.packetTime = 3 then .status 0x0012 s
    else if c.channels = 0 ∨ 8 < c.channels then .status 0x0901 s
    else if 1440 < bytes ∨ c.payloadType < 96 then .status 0x0902 s
    else s.stage tag 0x0902 (.audTx (fld w 5 0) c)

/-- AUD_TX_SET (R314). -/
def execAudTxSet (t tag : Nat) (io : HostIo) (s : State) : Out :=
  .next (s.run audTxSetDef (audTxSetWork tag io) t tag io)

/-- A source word of AUD_BUS_SET. -/
def sourceOf (w : Word) : BusSource := { kind := fld w 31 28, priority := fld w 26 24, gain := fld w 23 16, index := fld w 9 0 }

/-- A source's index is in its kind's range (Table 11-4). -/
def indexOk (b : BusSource) (khz : Nat) : Bool :=
  match b.kind with
  | 0 => b.index == 0
  | 1 => decide (b.index < 512)
  | 2 => decide (b.index < 128) && decide (b.index % 16 < tdmSlots khz)
  | 3 => decide (b.index < 128)
  | _ => decide (b.index < 4)

/-- AUD_BUS_SET. -/
def audBusSetDef : CmdDef :=
  { code := 0x0903, argc := 5, tenant := false, staged := true, masks := [0x81FF, 0xF7FF03FF, 0xF7FF03FF, 0xF7FF03FF, 0xF7FF03FF] }

/-- AUD_BUS_SET's work. -/
def audBusSetWork (tag : Nat) (_io : HostIo) (a : List Word) (s : State) : Answer :=
    let w := arg a 1
    let src := [arg a 2, arg a 3, arg a 4, arg a 5].map sourceOf
    let khz := s.stagedRate tag
    if !bit w 15 && fld w 8 7 ≠ 0 then .status 0x0013 s
    else if src.any (fun b => decide (4 < b.kind) || decide (216 < b.gain)) then .status 0x0012 s
    else if (!bit w 15 && decide (tdmSlots khz ≤ fld w 3 0)) || src.any (fun b => !indexOk b khz) then .status 0x0901 s
    else s.stage tag 0x0903 (.audBus (fld w 15 0) src)

/-- AUD_BUS_SET (R306). -/
def execAudBusSet (t tag : Nat) (io : HostIo) (s : State) : Out :=
  .next (s.run audBusSetDef (audBusSetWork tag io) t tag io)

/-- AUD_TDM_SET. -/
def audTdmSetDef : CmdDef :=
  { code := 0x0904, argc := 1, tenant := false, staged := true, masks := [0xF07] }

/-- AUD_TDM_SET's work. -/
def audTdmSetWork (tag : Nat) (_io : HostIo) (a : List Word) (s : State) : Answer :=
    let w := arg a 1
    s.stage tag 0x0904 (.audTdm (fld w 2 0) { enable := bit w 8, input := bit w 9, wide := bit w 10, fsFormat := fld w 11 11 })

/-- AUD_TDM_SET (R305). -/
def execAudTdmSet (t tag : Nat) (io : HostIo) (s : State) : Out :=
  .next (s.run audTdmSetDef (audTdmSetWork tag io) t tag io)

/-- The layout of a clip set (Table 11-5). -/
def clipSetOk (b : List Byte) (tag : Nat) : Bool :=
  let n := beNat (slice b 6 2)
  let f (i o k : Nat) : Nat := beNat (slice b (16 + 12 * i + o) k)
  let ends (i : Nat) : Nat := f i 4 4 + 2 * f i 8 4
  beNat (slice b 0 4) == 0x50435331 && byteAt b 4 == 1 && byteAt b 5 == 0 && decide (1 ≤ n) && decide (n ≤ 256) &&
    beNat (slice b 8 2) == tag && decide (tag ≤ 31) && beNat (slice b 10 2) == 0 &&
    (List.range n).all (fun i =>
      decide (1 ≤ f i 0 2) && decide (f i 0 2 ≤ 0xFFFE) && f i 2 2 == 0 && f i 4 4 % 2 == 0 && decide (1 ≤ f i 8 4) &&
        decide (f i 8 4 ≤ 480000) && decide (16 + 12 * n ≤ f i 4 4) && decide (ends i ≤ b.length) &&
        (List.range n).all (fun j => i == j || decide (ends i ≤ f j 4 4) || decide (ends j ≤ f i 4 4)) &&
        (i + 1 == n || decide (f i 0 2 < f (i + 1) 0 2)))

/-- The clips of a set. -/
def clipsOf (b : List Byte) : List Clip :=
  (List.range (beNat (slice b 6 2))).map (fun i =>
    let off := beNat (slice b (20 + 12 * i) 4)
    { prompt := beNat (slice b (16 + 12 * i) 2)
      samples := (rowsOf 0 1 (beNat (slice b (24 + 12 * i) 4)) (b.drop off)).map (fun r => r.getD 0 0) })

/-- The highest clip-set serial in force or staged for an instance. -/
def State.topClips (s : State) (tag : Nat) : Nat :=
  let staged := s.man.mans.flatMap (fun p => if p.2.state = .closed then [] else p.2.entries.flatMap (fun e => match e.op with
    | .clips t n _ => if t = tag then [n] else []
    | _ => []))
  (staged ++ [tget s.cfg.clipSerials tag 0]).foldl max 0

/-- A clip set's checks after its bytes have been read; then it is staged. -/
def State.stageClips (s : State) (tag code : Nat) (b : List Byte) : Answer :=
  if !clipSetOk b tag || decide (beNat (slice b 12 4) ≤ s.topClips tag) then .status 0x0907 s
  else s.stage tag code (.clips tag (beNat (slice b 12 4)) (clipsOf b)) b.length

/-- A length that AUD_PROMPT_LOAD takes. -/
def clipLen (n : Nat) : Bool := decide (28 ≤ n) && decide (n ≤ 8 * 2 ^ 20)

/-- AUD_PROMPT_LOAD's work (R314). -/
def State.promptLoad (s : State) (tag : Nat) (a : List Word) (io : HostIo) : Answer :=
  let len := (arg a 3).toNat
  if !clipLen len then .status 0x0012 s
  else match s.hostRead tag (ofTwo (arg a 1) (arg a 2)) len 3 io.dataFault with
    | .error (st, s) => .status st s
    | .ok s => s.stageClips tag 0x0905 ((io.data ++ List.replicate len 0).take len)

def promptLoadDef : CmdDef := { code := 0x0905, argc := 3, tenant := true, staged := true, pend := true }

/-- AUD_PROMPT_LOAD put off. -/
def audPromptLoadPut (_tag : Nat) (a : List Word) (s : State) : Except Nat State :=
  if clipLen (arg a 3).toNat then .ok s else .error 0x0012

/-- AUD_PROMPT_LOAD's work. -/
def audPromptLoadWork (tag : Nat) (io : HostIo) (a : List Word) (s : State) : Answer :=
  s.promptLoad tag a io

/-- AUD_PROMPT_LOAD (R314). -/
def execAudPromptLoad (t tag : Nat) (io : HostIo) (s : State) : Out :=
  .next (s.runWith promptLoadDef (fun _ => true) (fun _ => false) (audPromptLoadPut tag) (audPromptLoadWork tag io) t tag io)

/-- AUD_PLAY. -/
def audPlayDef : CmdDef :=
  { code := 0x0906, argc := 3, tenant := false, masks := [0xFFFF0003] }

/-- AUD_PLAY's work. -/
def audPlayWork (_tag : Nat) (_io : HostIo) (a : List Word) (s : State) : Answer :=
    let prompt := fld (arg a 1) 31 16
    let sec := (arg a 2).toNat
    let ns := (arg a 3).toNat
    if 999999999 < ns then .status 0x0012 s
    else match (if prompt = 0 then none else s.cfg.clip 0 prompt) with
      | none => .status 0x0908 s
      | some l =>
        let atOnce := (sampleCeil (s.tim.served + s.devN 0x0902 * 1000 * nsUnit) s.khz : Int) - s.aud.diff
        let n : Int := s.blockLen
        let frame : Int := if sec = 0 ∧ ns = 0 then
            (s.aud.f : Int) + (max 0 (atOnce - s.aud.f) + n - 1) / n * n
          else
            let v : Int := ((s.servedSec : Int) + sgn 32 (sec + 2 ^ 32 - s.sec32)) * secUnit + ns * nsUnit
            (sampleCeil v.toNat s.khz : Int) - s.aud.diff
        .ok [] (s.addPrompt { source := 128 + fld (arg a 1) 1 0, tenant := 0, prompt, frame, stamp := s.tim.served, clip := clipAt s.khz l })

/-- AUD_PLAY (R311). -/
def execAudPlay (t tag : Nat) (io : HostIo) (s : State) : Out :=
  .next (s.run audPlayDef (audPlayWork tag io) t tag io)

/-- State code of a leg. -/
def legCode : LegState → Nat
  | .waiting => 0 | .running => 1 | .stale => 2

/-- A counter of this epoch as a word. -/
def State.counterWord (s : State) (group n i : Nat) : Word := wd (min (2 ^ 32 - 1) (s.counter group n i))

/-- AUD_STREAM_STATUS. -/
def audStreamStatusDef : CmdDef :=
  { code := 0x0907, argc := 1, tenant := false, masks := [0x7F] }

/-- AUD_STREAM_STATUS's work. -/
def audStreamStatusWork (_tag : Nat) (_io : HostIo) (a : List Word) (s : State) : Answer :=
    let n := fld (arg a 1) 5 0
    if (if s.khz = 96 then 32 else 64) ≤ n then .status 0x0901 s
    else if bit (arg a 1) 6 then
      let on := match tfind s.audCfg.tx n with | some c => c.enable | none => false
      .ok ([wd (15 + 16 * b2n on)] ++ List.replicate 9 0 ++ [wd (tget s.aud.tx n {}).sent]) s
    else
      let x := s.rxs n
      let (on, b) := match tfind s.audCfg.rx n with | some c => (c.enable, c.portB.isSome) | none => (false, false)
      let legs := (if on then legCode x.legA.state else 3) + 4 * (if on && b then legCode x.legB.state else 3)
      let ctr (i : Nat) : Word := s.counterWord 10 n i
      .ok [ wd (legs + 16 * b2n on), wd x.buf.length, wd (min (2 ^ 32 - 1) x.packets), ctr 4, ctr 5, ctr 7, ctr 8, ctr 9, ctr 10
          , wd (unsgn 32 x.ratio), 0 ] s

/-- AUD_STREAM_STATUS (R314). -/
def execAudStreamStatus (t tag : Nat) (io : HostIo) (s : State) : Out :=
  .next (s.run audStreamStatusDef (audStreamStatusWork tag io) t tag io)

/-- AUD_STATUS. -/
def audStatusDef : CmdDef :=
  { code := 0x0908, argc := 0, tenant := true }

/-- AUD_STATUS's work. -/
def audStatusWork (_tag : Nat) (_io : HostIo) (_a : List Word) (s : State) : Answer :=
    let faults := s.counter 11 0 2 + s.counter 11 0 3 + s.counter 11 0 4
    .ok [ wd (294912 - s.audCfg.poolAllotted), wd s.audioPairs.length
        , wd (s.aud.buses.filter (fun p => p.2.pair.isSome)).length
        , wd ((s.audCfg.param 0 0x0909).toNat + 4 * (s.audCfg.param 0 0x090A).toNat)
        , wd (min (2 ^ 32 - 1) faults) ] s

/-- AUD_STATUS (R314). -/
def execAudStatus (t tag : Nat) (io : HostIo) (s : State) : Out :=
  .next (s.run audStatusDef (audStatusWork tag io) t tag io)

end Sys2Proof.Machine
end

