-- ==== Sys2Proof/Machine/FareTab.lean ====
section
/-! DEFINITION. The tariff table's layout (R230, Tables 8-6 and 8-7) and the denylist entry's (Table 8-5). -/

namespace Sys2Proof.Machine

/-- A section of a tariff table: type, records, offset. -/
structure Section where
  type : Nat
  count : Nat
  off : Nat
  deriving DecidableEq, Repr

/-- Bytes of a record of a section type, and the counts allowed (Table 8-7). -/
def sectionShape (type : Nat) : Option (Nat × Nat × Nat) :=
  match type with
  | 1 => some (20, 1, 4)
  | 2 => some (4, 0, 64)
  | 3 => some (20, 1, 4096)
  | 4 => some (16, 1, 1)
  | 5 => some (4, 0, 512)
  | _ => none

/-- Big-endian field of a table. -/
def tabField (b : List Byte) (off n : Nat) : Nat := beNat (slice b off n)

/-- Directory entries in use. -/
def sectionsOf (b : List Byte) : List Section :=
  (List.range (byteAt b 5)).map (fun i =>
    { type := byteAt b (64 + 8 * i), count := tabField b (66 + 8 * i) 2, off := tabField b (68 + 8 * i) 4 })

/-- Records of a section. -/
def records (b : List Byte) (x : Section) : List (List Byte) :=
  match sectionShape x.type with
  | some (n, _, _) => (List.range x.count).map (fun i => slice b (x.off + n * i) n)
  | none => []

/-- A record keeps its section's rules. -/
def recordOk (type : Nat) (r : List Byte) : Bool :=
  match type with
  | 1 =>
    let n := byteAt r 0
    decide (5 ≤ n) && decide (n ≤ 16) && (slice r (1 + n) (16 - n)).all (· == 0) && decide (1 ≤ byteAt r 17) &&
      decide (byteAt r 17 ≤ 3) && tabField r 18 2 == 0
  | 3 =>
    decide (byteAt r 3 ≤ 2) && decide (tabField r 4 2 < tabField r 6 2) && decide (tabField r 6 2 ≤ 1440) &&
      tabField r 18 2 == 0
  | 4 => decide (tabField r 0 4 ≤ 86400) && tabField r 8 8 == 0
  | _ => true

/-- A directory entry keeps its rules: its section lies between the header and the signature block. -/
def sectionOk (len : Nat) (b : List Byte) (x : Section) : Bool :=
  match sectionShape x.type with
  | some (n, lo, hi) =>
    decide (lo ≤ x.count) && decide (x.count ≤ hi) && decide (128 ≤ x.off) && x.off % 4 == 0 &&
      decide (x.off + n * x.count + 2484 ≤ len) && (records b x).all (recordOk x.type)
  | none => false

/-- Bytes of a section. -/
def Section.bytes (x : Section) : Nat := match sectionShape x.type with | some (n, _, _) => n * x.count | none => 0

/-- No two sections of a list overlap. -/
def sectionsApart : List Section → Bool
  | [] => true
  | x :: r => r.all (fun y => decide (x.off + x.bytes ≤ y.off) || decide (y.off + y.bytes ≤ x.off)) && sectionsApart r

/-- R230: the layout of a table of a length. -/
def tableOk (b : List Byte) (len : Nat) : Bool :=
  let ss := sectionsOf b
  let n := byteAt b 5
  let once (k : Nat) : Bool := (ss.filter (fun x => x.type == k)).length == 1
  tabField b 0 4 == 0x54464231 && byteAt b 4 == 1 && decide (1 ≤ n) && decide (n ≤ 8) && tabField b 8 4 == len &&
    decide (1 ≤ tabField b 12 4) && (slice b 32 32).all (· == 0) &&
    (List.range 8).all (fun i => byteAt b (65 + 8 * i) == 0 && (decide (i < n) || byteAt b (64 + 8 * i) == 0)) &&
    ss.all (sectionOk len b) && sectionsApart ss && once 1 && once 3 && once 4

/-- A rule's record. -/
def ruleOf (r : List Byte) : FareRule :=
  { product := tabField r 0 2, dayMask := BitVec.ofNat 8 (byteAt r 2), action := byteAt r 3, fromMin := tabField r 4 2
    toMin := tabField r 6 2, fare := tabField r 8 4, transferFare := tabField r 12 4, prompt := tabField r 16 2 }

/-- The table that the bytes spell. -/
def tableOf (b : List Byte) : FareTable :=
  let recs (k : Nat) : List (List Byte) := ((sectionsOf b).filter (fun x => x.type == k)).flatMap (records b)
  let set := (recs 4).headD []
  { serial := tabField b 12 4, validFrom := tabField b 16 4, validTo := tabField b 20 4, stationId := tabField b 24 4
    tzOffset := sgn 32 (tabField b 28 4)
    apps := (recs 1).map (fun r => (slice r 1 (byteAt r 0), byteAt r 17))
    issuers := (recs 2).map (fun r => tabField r 0 4)
    rules := (recs 3).map ruleOf
    transferWindow := tabField set 0 4, minValue := sgn 32 (tabField set 4 4)
    holidays := (recs 5).map (fun r => tabField r 0 4) }

/-- Keys bound to a role of a tenant that are usable, or whose import the same manifest commits (R230, R397). -/
def State.roleKeys (s : State) (c : Cfg) (man tenant role : Nat) : List (List Byte) :=
  (tget c.keys tenant []).flatMap (fun k =>
    if k.role == role && s.live k.object && (s.obj k.object).gen == k.gen then
      match s.keyOf (s.obj k.object) with
      | some r => (match r.pending with
        | some m => if m == man then [r.bytes] else []
        | none => [r.bytes])
      | none => []
    else [])

/-- The highest serial in force or staged for a tenant (R232). -/
def State.topSerial (s : State) (tenant : Nat) : Nat :=
  let staged := s.man.mans.flatMap (fun p => if p.2.state = .closed then [] else p.2.entries.flatMap (fun e => match e.op with
    | .fareTable t f => if t = tenant then [f.serial] else []
    | _ => []))
  (staged ++ (match tfind s.cfg.tables tenant with | some f => [f.serial] | none => [])).foldl max 0

/-- A table's checks after its bytes have been read: format, signatures, serial; then it is staged. -/
def State.stageTable (s : State) (tag code : Nat) (b : List Byte) : Answer :=
  match s.openMan tag with
  | none => .status 0x001D s
  | some (id, m) =>
    let c := s.resulting m
    let len := b.length
    let msg := b.take (len - 2484)
    let ec := (s.roleKeys c id tag 0).any (fun k => Config.ecVerify k msg (slice b (len - 2484) 64))
    let pq := (s.roleKeys c id tag 1).any (fun k => Config.pqVerify k msg (slice b (len - 2420) 2420))
    if !tableOk b len || tabField b 6 2 ≠ tag then .status 0x0601 s
    else if !ec || !pq then .status 0x0602 s
    else if tabField b 12 4 ≤ s.topSerial tag then .status 0x0603 s
    else s.stage tag code (.fareTable tag (tableOf b)) len

/-! ### Denylists -/

/-- A denylist entry's bytes (Table 8-5), and whether it is a removal. -/
def denyOf (b : List Byte) : DenyEntry × Bool :=
  let r := tabField b 16 4
  ({ key := tabField b 0 16, reason := r % 2 ^ 31, expiry := tabField b 20 4 }, decide (2 ^ 31 ≤ r))

/-- Bytes cut into entries. -/
def denyEntries : Nat → List Byte → List (DenyEntry × Bool)
  | 0, _ => []
  | n + 1, b => denyOf (b.take 24) :: denyEntries n (b.drop 24)

/-- Most entries of a denylist (R227). -/
def denyMax : Nat := 8388608

/-- A delta's check after its bytes have been read; then it is staged (R229). -/
def State.stageDelta (s : State) (tag code : Nat) (b : List Byte) : Answer :=
  match s.openMan tag with
  | none => .status 0x001D s
  | some (_, m) =>
    let es := denyEntries (b.length / 24) b
    if denyMax < (((s.resulting m).deny tag).delta es).entries.length then .status 0x0606 s
    else s.stage tag code (.denyDelta tag es) b.length

/-- Keys rise, continuing from a list. -/
def risingFrom : Option Nat → List DenyEntry → Bool
  | _, [] => true
  | some k, e :: r => decide (k < e.key) && risingFrom (some e.key) r
  | none, e :: r => risingFrom (some e.key) r

/-- A load into a tenant's shadow (R229): a status and the new shadow, none when it is discarded. -/
def Shadow8.load (old : Option Shadow8) (log2 : Nat) (start : Bool) (b : List Byte) : Nat × Option Shadow8 :=
  let base : Option Shadow8 := if start then some { list := { log2 }, complete := true } else old
  match base with
  | none => (0x0605, none)
  | some x =>
    let es := (denyEntries (b.length / 24) b).map (·.1)
    let all := (denyEntries (b.length / 24) b).any (·.2)
    if b.length % 24 ≠ 0 ∨ !x.complete ∨ all ∨ !risingFrom (x.list.entries.getLast?.map (·.key)) es then (0x0605, none)
    else if denyMax < x.list.entries.length + es.length then (0x0606, some x)
    else (0, some { x with list := { x.list with
      entries := x.list.entries ++ es, bloom := es.foldl (fun a e => bloomAdd a e.key x.list.log2) x.list.bloom } })

end Sys2Proof.Machine
end

