-- ==== Sys2Proof/Machine/Sea.lean ====
section
/-! DEFINITION. Placement, batch jobs, castes, leases, cell checks, task inputs, Audio pairs and the cell-sea
commands (07_cell_sea.md; R24 to R26 of 01_tap_end_to_end.md). -/

namespace Sys2Proof.Machine

/-! ### Placement of sessions (R25, R195, R197, R198) -/

/-- The LANE capability that a session of a lane receives (R154). -/
def State.laneCapOf (s : State) (lane : Nat) : Cap :=
  match s.cap.objs.find? (fun p => p.2.state == .live && p.2.what == .lane lane) with
  | some p => p.2.cap p.1
  | none => {}

/-- A session ready since the same time goes before another: the earlier TAP stamp, then the lower lane (R198). -/
def State.sessionFirst (s : State) (lane : Nat) : Bool :=
  match s.ses lane, s.sea.waiting.find? (fun w => w.work == .session lane) with
  | some x, some w =>
    !s.sea.waiting.any (fun v => match v.work with
      | .session l => v.since == w.since && l != lane && (match s.ses l with
        | some y => decide (y.tapSec < x.tapSec) || (y.tapSec == x.tapSec && decide (y.tapNs < x.tapNs)) ||
            (y.tapSec == x.tapSec && y.tapNs == x.tapNs && decide (l < lane))
        | none => false)
      | _ => false)
  | _, _ => false

/-- The session of a lane takes the best Validator cell and the lowest FREE session slot, if there are. -/
def State.placeSession (s : State) (lane : Nat) : State :=
  match s.ses lane with
  | none => s
  | some x =>
    if x.phase ≠ .placing || !s.placing || !s.sessionFirst lane then s else
      match s.bestCell .validator true, s.freeSlotNo with
      | some n, some k =>
        let s := ((s.unwait (.session lane)).giveWork n (.session lane)).grantSlot k none
        let s := s.lease k n (s.devN 0x06C6 * 1000) (some k)
        let s := s.modCell n (fun c => if c.work.length = 1 then { c with level := 3, charge := 0x3FF } else c)
        let cap := s.laneCapOf lane
        s.modSes lane (fun x =>
          { x with cell := some n, slot := some k, cfg := s.man.cur, laneCap := cap
                   phase := if x.barcode then .verifying else .running })
      | _, _ => s

/-- A piece of a batch job takes the best cell of its call gate's caste (R195, R210). -/
def State.placeJob (s : State) (n : Nat) : State :=
  match s.job n with
  | none => s
  | some j => match s.gate j.gate with
    | none => s
    | some g =>
      let caste := casteOf g.caste
      let cls := s.insN j.tag 0x06C8
      let sooner := s.sea.waiting.any (fun w => match w.work with
        | .piece m => w.caste == caste && m != n && (match s.job m with
          | some i => decide (s.insN i.tag 0x06C8 < cls)
          | none => false)
        | _ => false)
      if j.discard || j.slot.isNone || decide (8 ≤ j.pieces) || !s.placing || sooner then s else
        match s.bestCell caste false with
        | some c => (if j.pieces = 0 then s.unwait (.piece n) else s).placePiece c n
        | none => s

/-- PLACEMENT (R195). -/
def execPlacement (t : Nat) (work : PlaceWork) (s : State) : Out :=
  let s := s.tick t
  match work with
  | .session lane => .next (s.placeSession lane)
  | .job n => .next (s.placeJob n)

/-- A TAP without a decision when its budget expires: unplaced it aborts with PLACEMENT_TIMEOUT, otherwise it is due to
abort (R25, R26). -/
def State.budgetOver (s : State) (lane : Nat) : State :=
  match s.ses lane with
  | none => s
  | some x =>
    if x.outcome.isSome then s
    else if x.cell.isNone then s.abortSes lane 0x35
    else s.markAbort lane 0x34

/-- PLACEMENT_RETRY (R25): the placement is tried again, until the budget expires. -/
def execPlacementRetry (t lane : Nat) (s : State) : Out :=
  let s := s.tick t
  match s.ses lane with
  | none => .next s
  | some x =>
    if x.phase ≠ .placing then .next s
    else if x.budget ≤ s.now then .next (s.budgetOver lane)
    else .next (s.placeSession lane)

/-- SESSION_BUDGET_EXPIRED (R26). -/
def execSessionBudgetExpired (t lane : Nat) (s : State) : Out :=
  match s.ses lane with
  | none => .next (s.tick t)
  | some x => .next ((s.tick (max t x.budget)).budgetOver lane)

/-! ### Batch jobs (R110, R111, R141, R210, R547) -/

/-- JOB_RUN: the oldest fetched JOB_RUN of a pair enters its call gate, or completes with the check that fails; it waits
while no session slot is grantable. -/
def execJobRun (t tag q : Nat) (io : HostIo) (s : State) : Out :=
  let s := s.tick t
  match takeOp 0x06C8 (s.qp tag q).ops with
  | none => .next s
  | some (o, rest) =>
    if !s.enabled tag then .next s else
      match s.gateEntry tag o with
      | .error (st, body) => .next ((s.modQp tag q (fun p => { p with ops := rest })).opDone tag q o st body io)
      | .ok (g, cap, arg) =>
        if !s.slotGrantable tag then .next s else
          match s.freeSlotNo with
          | none => .next s
          | some k =>
            let s := (s.modQp tag q (fun p => { p with ops := rest })).grantSlot k (some tag)
            let n := s.sea.nextJob
            let j : Job :=
              { tag, qp := q, cid := o.cid, noCqe := o.noCqe, sqHead := o.sqHead, gate := g.number, gateCap := cap
                dataIova := o.dataIova, dataLen := o.dataLen, resIova := o.resIova, resLen := o.resLen, params := o.params
                arg, slot := some k, since := s.now }
            let s := s.modSea (fun a => { a with jobs := tset a.jobs n j, nextJob := n + 1 })
            .next (s.await (.piece n) (casteOf g.caste))

/-- JOB_BOUNDARY: a piece other than the hub-entered request ends on a cell, and its context is free; `last`: no further
piece waits.  A discarded job ends at its boundary (Table 4-12). -/
def execJobBoundary (t cell : Nat) (last : Bool) (s : State) : Out :=
  let s := s.tick t
  let piece := (s.cell cell).work.findSome? (fun w => match w with
    | .piece n => if (s.cell cell).request = some n ∧ !(match s.job n with | some j => j.discard | none => false) then none else some n
    | _ => none)
  match piece with
  | none => .next s
  | some n =>
    let s := s.dropWorkOn cell (.piece n)
    let s := s.modCell cell (fun c => if c.request = some n then c.clearRegs else c)
    let s := s.modJob n (fun j => { j with pieces := j.pieces - 1 })
    let s := if last then s.unwait (.piece n) else s
    match s.job n with
    | some j =>
      let s := match j.slot with | some k => s.renew k | none => s
      if j.discard ∧ j.pieces = 0 then .next (s.endJob n 0 [] none) else .next s
    | none => .next s

/-! ### Scores and castes (R189 to R193) -/

/-- SCORE_TICK: every AVAILABLE cell's terms and score, and the sample of busy cells. -/
def execScoreTick (t : Nat) (s : State) : Out :=
  let s := s.tick t
  let old := s
  let cells := tmap s.sea.cells (fun n c =>
    if c.state == .available then
      let terms := old.scoreTerms n
      { c with terms, score := old.scoreOf terms }
    else c)
  let peaks := (List.range 5).map (fun k => max (s.sea.peaks.getD k 0) (s.busyCells.getD k 0))
  .next (s.modSea (fun a => { a with cells, peaks }))

/-- A MOVING cell may be emptied: its contexts are idle, and an active Audio cell carries no bus. -/
def State.canLeave (s : State) (n : Nat) : Bool :=
  let c := s.cell n
  c.state == .moving && c.work.isEmpty && !c.loading &&
    (c.caste != .audio || s.pairBuses (n / 2) == 0 || s.pairActive (n / 2) != n)

/-- CASTE_IMAGE_LOAD (R190): scratch zeroised, L1s invalidated, image loading; or the quarantine of R212. -/
def execCasteImageLoad (t cell : Nat) (s : State) : Out :=
  let s := s.tick t
  if !s.canLeave cell then .next s else
    let s := ((s.drainAll cell).dropLines cell).modCell cell (fun c => { c.clearRegs with scratchUsed := false })
    if (s.cell cell).toQuarantine then .next (s.quarantine cell)
    else .next (s.modCell cell (fun c => { c with loading := true }))

/-- CASTE_MOVE_DONE (R190). -/
def execCasteMoveDone (t cell : Nat) (s : State) : Out :=
  let s := s.tick t
  let c := s.cell cell
  if c.state ≠ .moving ∨ !c.loading then .next s else
    if c.toQuarantine then .next (s.quarantine cell) else
    let s := (s.setCell cell .available).modCell cell (fun c => { c with caste := c.next, loading := false })
    let s := if c.next = .reserve then s.refillShort else s
    .next (if c.next = .audio then s.assignBuses else s)

/-- CASTE_GROW (R191): the oldest placement of a caste has waited 1 ms, and the caste may grow. -/
def execCasteGrow (t caste : Nat) (s : State) : Out :=
  let s := s.tick t
  let c := casteOf caste
  match s.sea.waiting.find? (fun w => w.caste == c && decide (w.since + 1000000 ≤ s.now)) with
  | none => .next s
  | some w =>
    let step := if c = .audio then 2 else 1
    if 4 < caste ∨ s.cfg.casteMax caste < s.casteSize c + step then .next s else
      let s := s.modSea (fun a => { a with waiting := a.waiting.map (fun x => if x = w then { x with since := x.since + 1000000 } else x) })
      .next (s.fill c step).2

/-! ### Leases and cell checks (R203 to R206) -/

/-- LEASE_EXPIRED (R203): a lease of the holder's current generation is past its expiry. -/
def execLeaseExpired (t lease : Nat) (s : State) : Out :=
  let s := s.tick t
  match tfind s.sea.leases lease with
  | none => .next s
  | some l =>
    if l.hgen ≠ (s.cell l.holder).hgen ∨ s.leaseHeld l then .next s
    else .next ((s.raiseDev 0x0604 srcDrover l.holder).cellFault l.holder 0x0401 none)

/-- Faults of a cell in the last 24 hours. -/
def State.faults24 (s : State) (n : Nat) : Nat :=
  ((s.cell n).faultTimes.filter (fun f => decide (s.now < f + 86400000000000))).length

/-- CELL_CHECK_DONE (R205): an idle Sentinel cell has checked a FAULTED cell. -/
def execCellCheckDone (t cell : Nat) (pass : Bool) (s : State) : Out :=
  let s := s.tick t
  let c := s.cell cell
  let sentinel := s.sea.cells.any (fun p => p.2.state == .available && p.2.caste == .sentinel && p.2.work.isEmpty)
  let island : Island := tget s.isl.islands (clusterOf cell) {}
  if c.state ≠ .faulted || !sentinel || s.sea.l2Check.contains (clusterOf cell) || island.state != .run then .next s
  else
    let s := s.recordTest 0 cell (if pass then .pass else .fail) 0
    if !pass then .next ((s.quarantine cell).testFailedFree 0 cell)
    else if c.toQuarantine || decide (s.devN 0x06C7 ≤ s.faults24 cell) then .next (s.quarantine cell)
    else .next ((s.setCell cell .available).modCell cell (fun c => { c with caste := .reserve })).refillShort

/-! ### Task inputs (R199, R200) -/

/-- A task input after the takes and arrivals of one cycle: the takes first. -/
def TaskInput.settle (x : TaskInput) : TaskInput :=
  let c := x.count0 - x.taken
  let n := x.arrived.length
  { x with count := min 255 (c + n)
           first := if c = 0 ∧ 0 < n then x.arrived.foldl min 63 else x.first0
           ovf := x.ovf0 || decide (255 < c + n) }

/-- Arrivals of a cycle not counted in COUNT. -/
def TaskInput.over (x : TaskInput) : Nat := x.count0 - x.taken + x.arrived.length - 255

/-- The task input in the cycle of a device time. -/
def TaskInput.inCycle (x : TaskInput) (t : Nat) : TaskInput :=
  if x.cycle = t + 1 then x
  else { x with cycle := t + 1, count0 := x.count, first0 := x.first, ovf0 := x.ovf, taken := 0, arrived := [] }

def State.taskInput (s : State) (n i : Nat) : TaskInput := tget (s.cell n).inputs i {}
def State.setTaskInput (s : State) (n i : Nat) (x : TaskInput) : State :=
  s.modCell n (fun c => { c with inputs := tset c.inputs i x })

/-- TASK_INPUT_EVENT (R199): events of sources bound to the input arrive in one cycle. -/
def execTaskInputEvent (t cell input : Nat) (sources : List Nat) (s : State) : Out :=
  let s := s.tick t
  if (s.cell cell).state = .absent ∨ 15 < input then .next s else
    let x := (s.taskInput cell input).inCycle s.now
    let y := { x with arrived := x.arrived ++ sources.filter (fun n => decide (n < 64)) }.settle
    .next ((s.setTaskInput cell input y).count 5 cell 1 (y.over - x.over))

/-- TASK_INPUT_TAKE (R200): at most COUNT events are taken. -/
def execTaskInputTake (t cell input n : Nat) (s : State) : Out :=
  let s := s.tick t
  if (s.cell cell).state = .absent ∨ 15 < input then .next s else
    let x := (s.taskInput cell input).inCycle s.now
    .next (s.setTaskInput cell input { x with taken := min x.count0 (x.taken + n) }.settle)

/-- TASK_OVF_CLEAR (R199). -/
def execTaskOvfClear (t cell input : Nat) (s : State) : Out :=
  let s := s.tick t
  if (s.cell cell).state = .absent ∨ 15 < input then .next s else
    .next (s.setTaskInput cell input { s.taskInput cell input with ovf := false, ovf0 := false })

/-! ### Audio pairs and the Drover's island (R209, R214) -/

/-- A switch for test waits while an emergency source is active on a bus of the pair (R431, Table 17-7). -/
def State.switchWaits (s : State) (pair : Nat) : Bool :=
  (s.pair pair).byTest && s.aud.buses.any (fun b => b.2.pair == some pair && s.busEmergency b.1 ((s.aud.f : Nat) : Int))

/-- HOT_SPARE_SWITCH (R209): a switch that is due takes effect at a packet boundary. -/
def execHotSpareSwitch (t pair : Nat) (s : State) : Out :=
  let s := s.tick t
  if (s.pair pair).due && s.spareReady pair && !s.switchWaits pair then
    let s := s.modTest (fun x => { x with pairSwitch := tset x.pairSwitch pair s.now })
    .next (s.modSea (fun a => { a with pairs := tmod a.pairs pair {} (fun p =>
      { p with oddActive := !p.oddActive, due := false, byTest := false }) }))
  else .next s

/-- Placement is suspended for 1 ms (R214). -/
def State.suspendDrover (s : State) : State := s.modSea (fun a => { a with suspended := s.now + 1000000 })

/-- DROVER_RESET (R214). -/
def execDroverReset (t : Nat) (s : State) : Out :=
  let s := s.tick t
  .next s.suspendDrover

/-! ### Commands (Table 7-5) -/

/-- DRV_CASTE_PLAN. -/
def drvCastePlanDef : CmdDef :=
  { code := 0x06C1, argc := 10, tenant := false, staged := true, masks := List.replicate 10 0x3FF }

/-- DRV_CASTE_PLAN's work. -/
def drvCastePlanWork (tag : Nat) (_io : HostIo) (a : List Word) (s : State) : Answer :=
    let p : List (Nat × Nat) := (List.range 5).map (fun k => (fld (arg a (2 * k + 1)) 9 0, fld (arg a (2 * k + 2)) 9 0))
    let audio := p.getD 2 (0, 0)
    if audio.1 % 2 = 1 ∨ audio.2 % 2 = 1 ∨ p.any (fun x => decide (768 < x.1) || decide (768 < x.2) || decide (x.2 < x.1)) then
      .status 0x0012 s
    else s.stage tag 0x06C1 (.castePlan p)

/-- DRV_CASTE_PLAN (R212). -/
def execDrvCastePlan (t tag : Nat) (io : HostIo) (s : State) : Out :=
  .next (s.run drvCastePlanDef (drvCastePlanWork tag io) t tag io)

/-- Cells in a state, of a caste where it matters. -/
def State.cellsIn (s : State) (st : CellState) (c : Option Caste) : Nat :=
  (s.sea.cells.filter (fun p => p.2.state == st && (match c with | some k => p.2.caste == k | none => true))).length

/-- DRV_CASTE_STATUS. -/
def drvCasteStatusDef : CmdDef :=
  { code := 0x06C2, argc := 0, tenant := false }

/-- DRV_CASTE_STATUS's work. -/
def drvCasteStatusWork (_tag : Nat) (_io : HostIo) (_a : List Word) (s : State) : Answer :=
    let (v, s) := s.free
    let word (k : Nat) : Word :=
      wd (s.cellsIn .available (some (casteOf k)) + (if k = 5 then v % 2 ^ 10 else s.sea.targets.getD k 0 % 2 ^ 10) * 2 ^ 10 +
        s.cellsIn .moving (some (casteOf k)) * 2 ^ 20)
    .ok ((List.range 6).map word ++
      [wd (s.cellsIn .faulted none + s.cellsIn .quarantined none * 2 ^ 10 + s.cellsIn .testing none * 2 ^ 20)]) s

/-- DRV_CASTE_STATUS: Reserve has no target; its field is a free value. -/
def execDrvCasteStatus (t tag : Nat) (io : HostIo) (s : State) : Out :=
  .next (s.run drvCasteStatusDef (drvCasteStatusWork tag io) t tag io)

/-- Code of a cell state (Table 7-1). -/
def cellCode : CellState → Nat
  | .available => 0 | .moving => 1 | .faulted => 2 | .testing => 3 | .quarantined => 4 | .absent => 5

/-- DRV_CELL_STATUS. -/
def drvCellStatusDef : CmdDef :=
  { code := 0x06C3, argc := 1, tenant := false, masks := [0x3FF] }

/-- DRV_CELL_STATUS's work. -/
def drvCellStatusWork (_tag : Nat) (_io : HostIo) (a : List Word) (s : State) : Answer :=
    let n := fld (arg a 1) 9 0
    let c := s.cell n
    let m (i : Nat) : Nat := c.terms.getD i 0 % 256
    if 767 < n then .status 0x06C1 s
    else .ok [ wd (cellCode c.state + casteNum c.caste * 16 + s.busyOf n c * 256 + c.hgen * 2 ^ 16)
             , wd (m 0 + m 1 * 2 ^ 8 + m 2 * 2 ^ 16 + m 3 * 2 ^ 24)
             , wd (c.score % 2 ^ 16 + min 255 (s.faults24 n) * 2 ^ 16), wd c.changed ] s

/-- DRV_CELL_STATUS. -/
def execDrvCellStatus (t tag : Nat) (io : HostIo) (s : State) : Out :=
  .next (s.run drvCellStatusDef (drvCellStatusWork tag io) t tag io)

/-- DRV_CELL_QUARANTINE. -/
def drvCellQuarantineDef : CmdDef :=
  { code := 0x06C4, argc := 1, tenant := false, masks := [0x3FF] }

/-- DRV_CELL_QUARANTINE's work. -/
def drvCellQuarantineWork (_tag : Nat) (_io : HostIo) (a : List Word) (s : State) : Answer :=
    let n := fld (arg a 1) 9 0
    let c := s.cell n
    if 767 < n then .status 0x06C1 s
    else if c.state = .quarantined ∨ c.state = .absent then .status 0x06C2 s
    else
      let s := s.modCell n (fun c => { c with toQuarantine := true })
      if c.state ≠ .available then .ok [] s else
        let s := s.audioLost n
        let s := (s.setCell n .moving).modCell n (fun c => { c with loading := false, next := .reserve })
        .ok [] (if c.caste = .audio then s.assignBuses else s)

/-- DRV_CELL_QUARANTINE (R212): an AVAILABLE cell leaves; an active Audio cell's spare takes over; a cell in another state
that is neither QUARANTINED nor ABSENT is quarantined when its move, check or test ends. -/
def execDrvCellQuarantine (t tag : Nat) (io : HostIo) (s : State) : Out :=
  .next (s.run drvCellQuarantineDef (drvCellQuarantineWork tag io) t tag io)

/-- DRV_CELL_RETURN. -/
def drvCellReturnDef : CmdDef :=
  { code := 0x06C5, argc := 1, tenant := false, masks := [0x3FF] }

/-- DRV_CELL_RETURN's work. -/
def drvCellReturnWork (_tag : Nat) (_io : HostIo) (a : List Word) (s : State) : Answer :=
    let n := fld (arg a 1) 9 0
    if 767 < n then .status 0x06C1 s
    else if (s.cell n).state ≠ .quarantined then .status 0x06C2 s
    else .ok [] (s.modCell n (fun c => { c with returnTest := true }))

/-- DRV_CELL_RETURN (R207): the full test is scheduled. -/
def execDrvCellReturn (t tag : Nat) (io : HostIo) (s : State) : Out :=
  .next (s.run drvCellReturnDef (drvCellReturnWork tag io) t tag io)

/-- DRV_SLOT_STATUS. -/
def drvSlotStatusDef : CmdDef :=
  { code := 0x06C6, argc := 0, tenant := true }

/-- DRV_SLOT_STATUS's work. -/
def drvSlotStatusWork (tag : Nat) (_io : HostIo) (_a : List Word) (s : State) : Answer :=
    let n (x : SlotState) : Nat := (s.sea.slots.filter (fun p => p.2.state == x)).length
    .ok [wd (s.freeSlots + n .active * 2 ^ 16), wd (n .draining), wd (s.slotsHeld tag)] s

/-- DRV_SLOT_STATUS. -/
def execDrvSlotStatus (t tag : Nat) (io : HostIo) (s : State) : Out :=
  .next (s.run drvSlotStatusDef (drvSlotStatusWork tag io) t tag io)

end Sys2Proof.Machine
end

