-- ==== Sys2Proof/Machine/Fare.lean ====
section
/-! DEFINITION. Sealing, the journal's destinations, tickets, denylists, and the fare commands (08_fare_sessions.md,
R29 to R31 of 01_tap_end_to_end.md). -/

namespace Sys2Proof.Machine

/-! ### Checks of a session -/

/-- DENYLIST_EXACT_SEARCH (R228). -/
def execDenylistExactSearch (t lane : Nat) (s : State) : Out :=
  let s := s.tick t
  match s.ses lane with
  | some x => if x.phase = .searching then .next (s.denySearch lane) else .next s
  | none => .next s

/-- BARCODE_VERIFY (R225). -/
def execBarcodeVerify (t lane : Nat) (s : State) : Out :=
  let s := s.tick t
  match s.ses lane with
  | some x => if x.phase = .verifying then .next (s.ticketCheck lane) else .next s
  | none => .next s

/-! ### Sealing (R229 to R236, R241) -/

/-- A session ready to seal since the same time goes before another of its tenant: the earlier decision stamp, then the
lower lane (R241). -/
def State.sealFirst (s : State) (lane : Nat) (x : Session) : Bool :=
  match s.sea.waiting.find? (fun w => w.work == .sealing lane) with
  | some w =>
    !s.sea.waiting.any (fun v => match v.work with
      | .sealing l => v.since == w.since && l != lane && (match s.ses l with
        | some y => y.tenant == x.tenant && (decide (y.decSec < x.decSec) ||
            (y.decSec == x.decSec && decide (y.decNs < x.decNs)) ||
            (y.decSec == x.decSec && y.decNs == x.decNs && decide (l < lane)))
        | none => false)
      | _ => false)
  | none => false

/-- The used ticket of an accepted single ride (R226). -/
def State.markUsed (s : State) (x : Session) : State :=
  if x.outcome == some .accept && x.barcode && byteAt x.ticket 30 == 1 then
    s.useTicket x.tenant { ticket := beNat (slice x.ticket 12 8), issuer := beNat (slice x.ticket 2 4), validTo := beNat (slice x.ticket 24 4) }
  else s

/-- A sealed record is offered to its destinations (R29, R235). -/
def State.offer (s : State) (n tenant : Nat) (fault : Option Nat) : State :=
  if tenant = 0 then s.hubOffer n else
    let (ok, s) := s.ringOffer tenant (match s.jrec n with | some r => r.bytes | none => []) fault
    let s := s.modJ n (fun r => { r with ring := if ok then .accepted else .refused })
    (s.cartOffer n tenant).hubOffer n

/-- JOURNAL_SEAL (R234): the session's record is sealed on the Ledger cell that the Drover chooses. -/
def execJournalSeal (t lane cell : Nat) (io : HostIo) (s : State) : Out :=
  let s := s.tick t
  match s.ses lane with
  | none => .next s
  | some x =>
    if x.phase ≠ .sealing || !s.placing || !s.sealFirst lane x || s.bestCell .ledger false != some cell then .next s else
      let s := (s.unwait (.sealing lane)).giveWork cell (.sealing lane)
      let (n, s) := s.sealRecord lane x
      let s := ((s.markUsed x).offer n x.tenant io.cqFault).dropWorkOn cell (.sealing lane)
      .next ((s.settle n).closeSes lane)

/-- USED_TICKET_PURGE (R226). -/
def execUsedTicketPurge (t tag : Nat) (s : State) : Out :=
  let s := s.tick t
  .next (s.modFare (fun a => { a with used := tupd a.used tag (fun l => l.filter (fun u => !timeLt u.validTo s.sec32)) }))

/-- An acceptance of a lane's record that waits with the same time (R241). -/
def sameCycleAccept (t lane : Nat) : Instr → Bool
  | .journalSeal u l _ _ => u == t && l == lane
  | .cartBlockDone u _ good => u == t && good
  | _ => false

/-- SEAL_BUDGET_EXPIRED (R30, R237): a would-be Accept without an acceptance becomes a Refer. -/
def execSealBudgetExpired (t lane : Nat) (s : State) : Out :=
  match s.ses lane with
  | none => .next (s.tick t)
  | some x => match x.sealBy with
    | none => .next (s.tick t)
    | some by_ =>
      let s := s.tick (max t by_)
      if x.decided || x.outcome ≠ some .accept || x.phase == .closing then
        .next (s.modSes lane (fun x => { x with sealBy := none }))
      else if decide (by_ = s.now) && s.pending.any (sameCycleAccept t lane) then .next s
      else
        let s := s.modSes lane (fun x =>
          { x with outcome := some .refer, reason := 0x20, prompt := 0x20, sealBy := none
                   phase := if x.record.isSome then .closing else x.phase })
        let s := match x.record with | some n => s.resealRefer n | none => s
        .next (s.queueDecision lane 0x12)

/-- CART_ACCEPT_TIMEOUT (R235). -/
def execCartAcceptTimeout (t rec : Nat) (s : State) : Out :=
  match s.jrec rec with
  | none => .next (s.tick t)
  | some r => if r.cart = .waiting then .next ((s.tick (max t r.cartBy)).cartAnswer rec false) else .next (s.tick t)

/-! ### Staged commands (R229, R232, R238) -/

/-- FARE_TABLE_LOAD's work (R232). -/
def State.tableLoad (s : State) (tag : Nat) (a : List Word) (io : HostIo) : Answer :=
  let len := (arg a 3).toNat
  if len < 2612 ∨ 4 * 2 ^ 20 < len then .status 0x0012 s
  else match s.hostRead tag (ofTwo (arg a 1) (arg a 2)) len 3 io.dataFault with
    | .error (st, s) => .status st s
    | .ok s => s.stageTable tag 0x0601 ((io.data ++ List.replicate len 0).take len)

def tableLoadDef : CmdDef := { code := 0x0601, argc := 3, tenant := true, staged := true, pend := true }

/-- FARE_TABLE_LOAD put off. -/
def fareTableLoadPut (_tag : Nat) (a : List Word) (s : State) : Except Nat State :=
  if (arg a 3).toNat < 2612 ∨ 4 * 2 ^ 20 < (arg a 3).toNat then .error 0x0012 else .ok s

/-- FARE_TABLE_LOAD's work. -/
def fareTableLoadWork (tag : Nat) (io : HostIo) (a : List Word) (s : State) : Answer :=
  s.tableLoad tag a io

/-- FARE_TABLE_LOAD (R232). -/
def execFareTableLoad (t tag : Nat) (io : HostIo) (s : State) : Out :=
  .next (s.runWith tableLoadDef (fun _ => true) (fun _ => false) (fareTableLoadPut tag) (fareTableLoadWork tag io) t tag io)

/-- The key type suits the role (Table 15-3). -/
def roleSuits (role type : Nat) : Bool :=
  match role with
  | 0 | 2 => type == 4
  | 1 | 3 => type == 5
  | 4 => type == 3
  | _ => false

/-- FARE_KEY_BIND. -/
def fareKeyBindDef : CmdDef :=
  { code := 0x0602, argc := 7, tenant := true, staged := true, masks := [0xFFFFFFFF, 0xFFFFFFFF, 0xFFFFFFFF, 0xFFFFFFFF, 7, 0xFFFFFFFF, 0xFFFF] }

/-- FARE_KEY_BIND's work. -/
def fareKeyBindWork (tag : Nat) (_io : HostIo) (a : List Word) (s : State) : Answer :=
    let role := fld (arg a 5) 2 0
    match s.handleFor tag (argHandle a 1) (· == 3) (1 <<< rUse) true with
    | .error e => .status e s
    | .ok c =>
      if 4 < role then .status 0x0012 s
      else match s.keyOf (s.obj c.object) with
        | none => .status 0x0604 s
        | some k =>
          if !roleSuits role k.type then .status 0x0604 s
          else s.stage tag 0x0602 (.keyBind tag { role, issuer := (arg a 6).toNat, keyId := fld (arg a 7) 15 0, object := c.object, gen := c.gen })

/-- FARE_KEY_BIND (R238). -/
def execFareKeyBind (t tag : Nat) (io : HostIo) (s : State) : Out :=
  .next (s.run fareKeyBindDef (fareKeyBindWork tag io) t tag io)

/-- A length that FARE_DENY_DELTA takes. -/
def deltaLen (n : Nat) : Bool := decide (0 < n) && n % 24 == 0 && decide (n ≤ 2 ^ 24)

/-- FARE_DENY_DELTA's work (R229). -/
def State.denyDelta (s : State) (tag : Nat) (a : List Word) (io : HostIo) : Answer :=
  let len := (arg a 3).toNat
  if !deltaLen len then .status 0x0012 s
  else match s.hostRead tag (ofTwo (arg a 1) (arg a 2)) len 3 io.dataFault with
    | .error (st, s) => .status st s
    | .ok s => s.stageDelta tag 0x0603 ((io.data ++ List.replicate len 0).take len)

def denyDeltaDef : CmdDef := { code := 0x0603, argc := 3, tenant := true, staged := true, pend := true }

/-- FARE_DENY_DELTA put off. -/
def fareDenyDeltaPut (_tag : Nat) (a : List Word) (s : State) : Except Nat State :=
  if deltaLen (arg a 3).toNat then .ok s else .error 0x0012

/-- FARE_DENY_DELTA's work. -/
def fareDenyDeltaWork (tag : Nat) (io : HostIo) (a : List Word) (s : State) : Answer :=
  s.denyDelta tag a io

/-- FARE_DENY_DELTA (R229). -/
def execFareDenyDelta (t tag : Nat) (io : HostIo) (s : State) : Out :=
  .next (s.runWith denyDeltaDef (fun _ => true) (fun _ => false) (fareDenyDeltaPut tag) (fareDenyDeltaWork tag io) t tag io)

/-- FARE_DENY_SWAP. -/
def fareDenySwapDef : CmdDef :=
  { code := 0x0604, argc := 0, tenant := true, staged := true }

/-- FARE_DENY_SWAP's work. -/
def fareDenySwapWork (tag : Nat) (_io : HostIo) (_a : List Word) (s : State) : Answer :=
    match tfind s.fare.shadows tag with
    | some x => if x.complete then s.stage tag 0x0604 (.denySwap tag) else .status 0x0607 s
    | none => .status 0x0607 s

/-- FARE_DENY_SWAP (R229). -/
def execFareDenySwap (t tag : Nat) (io : HostIo) (s : State) : Out :=
  .next (s.run fareDenySwapDef (fareDenySwapWork tag io) t tag io)

/-- FARE_DENY_STATUS. -/
def fareDenyStatusDef : CmdDef :=
  { code := 0x0605, argc := 0, tenant := true }

/-- FARE_DENY_STATUS's work. -/
def fareDenyStatusWork (tag : Nat) (_io : HostIo) (_a : List Word) (s : State) : Answer :=
    let d := s.cfg.deny tag
    let sh := match tfind s.fare.shadows tag with | some x => if x.complete then x.list.entries.length else 0 | none => 0
    .ok [wd d.entries.length, wd sh, wd d.log2] s

/-- FARE_DENY_STATUS. -/
def execFareDenyStatus (t tag : Nat) (io : HostIo) (s : State) : Out :=
  .next (s.run fareDenyStatusDef (fareDenyStatusWork tag io) t tag io)

/-- FARE_DENY_LOAD (R229): on a Ledger cell through a Ledger call gate (R144); it waits while none is eligible. -/
def execFareDenyLoad (t tag q : Nat) (io : HostIo) (s : State) : Out :=
  let s := s.tick t
  match takeOp 0x0610 (s.qp tag q).ops with
  | none => .next s
  | some (o, rest) =>
    if !s.enabled tag then .next s else
      let done (s : State) (st : Nat) (body : List Byte) : State := (s.modQp tag q (fun p => { p with ops := rest })).opDone tag q o st body io
      match s.gateEntry tag o with
      | .error (st, body) => .next (done s st body)
      | .ok (g, _, _) =>
        if g.caste ≠ 3 then .next (done s 0x0407 [])
        else match s.bestCell .ledger false with
          | none => .next s
          | some cell =>
            let s := (s.giveWork cell .mix).dropWorkOn cell .mix
            match s.hostRead tag o.dataIova o.dataLen 3 io.dataFault with
            | .error (st, s) => .next (done s st [])
            | .ok s =>
              let bytes := (io.data ++ List.replicate o.dataLen 0).take o.dataLen
              let (st, x) := Shadow8.load (tfind s.fare.shadows tag) (s.insN tag 0x0604) (bit (o.params.getD 0 0) 0) bytes
              let put (l : Tbl Shadow8) : Tbl Shadow8 := match x with | some x => tset l tag x | none => terase l tag
              .next (done (s.modFare (fun a => { a with shadows := put a.shadows })) st [])

/-! ### The hub journal buffer and the status (R236, R238) -/

/-- HELD entries that an instance sees, from an index on: index and record. -/
def State.heldFrom (s : State) (tag first : Nat) : List (Nat × JRec) :=
  s.fare.hub.filterMap (fun p =>
    if p.1 < first then none else match s.jrec p.2 with
      | some r => if isPf tag || r.tenant == tag then some (p.1, r) else none
      | none => none)

/-- FARE_JOURNAL_READ. -/
def fareJournalReadDef : CmdDef :=
  { code := 0x0606, argc := 4, tenant := true, masks := [0xFFFFFFFF, 0xFFFFFFFF, 0xFFFFFFFF, 0x1FFF], always := true }

/-- FARE_JOURNAL_READ's work. -/
def fareJournalReadWork (tag : Nat) (io : HostIo) (a : List Word) (s : State) : Answer :=
    let len := (arg a 3).toNat
    let first := fld (arg a 4) 12 0
    if len % 128 ≠ 0 then .status 0x0011 s
    else
      let all := s.heldFrom tag first
      let take := all.take (len / 128)
      let next := match take.getLast? with | some p => (p.1 + 1) % 8192 | none => first
      match s.hostWrite tag (ofTwo (arg a 1) (arg a 2)) (take.flatMap (fun p => p.2.bytes)) io.dataFault with
      | (0, s) => .ok [wd take.length, wd (next + 2 ^ 31 * b2n (decide (all.length ≤ take.length)))] s
      | (st, s) => .status st s

/-- FARE_JOURNAL_READ (R238). -/
def execFareJournalRead (t tag : Nat) (io : HostIo) (s : State) : Out :=
  .next (s.run fareJournalReadDef (fareJournalReadWork tag io) t tag io)

/-- FARE_JOURNAL_ACK. -/
def fareJournalAckDef : CmdDef :=
  { code := 0x0607, argc := 2, tenant := false, masks := [0x1FFF], always := true }

/-- FARE_JOURNAL_ACK's work. -/
def fareJournalAckWork (_tag : Nat) (_io : HostIo) (a : List Word) (s : State) : Answer :=
    let first := fld (arg a 1) 12 0
    let n := (arg a 2).toNat
    if n = 0 ∨ 8192 < n then .status 0x0012 s
    else
      let hit := s.fare.hub.filter (fun p => decide ((p.1 + 8192 - first) % 8192 < n))
      let s := hit.foldl (fun s p => if tfind s.fare.hub p.1 = some p.2 then s.hubFree p.1 else s) s
      .ok [wd hit.length] s

/-- FARE_JOURNAL_ACK (R236): the entries HELD at its beginning in a range of indexes become FREE. -/
def execFareJournalAck (t tag : Nat) (io : HostIo) (s : State) : Out :=
  .next (s.run fareJournalAckDef (fareJournalAckWork tag io) t tag io)

/-- FARE_STATUS. -/
def fareStatusDef : CmdDef :=
  { code := 0x0608, argc := 0, tenant := true, always := true }

/-- FARE_STATUS's work. -/
def fareStatusWork (tag : Nat) (_io : HostIo) (_a : List Word) (s : State) : Answer :=
    let now := match tfind s.cfg.tables tag with | some f => f.serial | none => 0
    let staged := match s.openMan tag with
      | some (_, m) => m.entries.foldl (fun a e => match e.op with | .fareTable _ f => f.serial | _ => a) 0
      | none => 0
    let unplaced := if isPf tag then s.counter 7 0 1 else s.counter 3 tag 7
    .ok [wd now, wd staged, wd s.fare.hub.length, wd (min unplaced (2 ^ 32 - 1))] s

/-- FARE_STATUS. -/
def execFareStatus (t tag : Nat) (io : HostIo) (s : State) : Out :=
  .next (s.run fareStatusDef (fareStatusWork tag io) t tag io)

end Sys2Proof.Machine
end

