-- ==== Sys2Proof/Machine/Instances.lean ====
section
/-! DEFINITION. Doorbells, SQ fetch, the TLB, Bus Master Enable and the instance-area commands (04_instances.md).
The disable sequence is in Machine/Disable.lean. -/

namespace Sys2Proof.Machine

/-! ### Doorbells (R96 to R98, R451, R534) -/

/-- A doorbell that is ignored sets its error bit and is counted (R97). -/
def State.doorbellError (s : State) (tag : Nat) (tail : Bool) : State :=
  (s.modInst tag (fun i => if tail then { i with badTail := true } else { i with badHead := true })).count 3 tag 2

/-- Indexes that a head write frees: a full ring's head written with its own value frees every entry. -/
def freedBy (old new tail used log2 : Nat) : Nat :=
  if new = tail ∧ used = 2 ^ log2 then used else ringDist old new log2

/-- A doorbell of a queue pair reaches its pair only in the instance's own range and while it is enabled; a pair in
ERROR sets QP_ERROR again (R98, R534). -/
def State.doorbell (s : State) (tag q : Nat) (f : Qp → State) : State :=
  if !s.enabled tag || decide (qpCount tag ≤ q) then s
  else match (s.qp tag q).state with
    | .disabled => s
    | .error => s.modInst tag (fun i => { i with qpError := true })
    | .active => f (s.qp tag q)

def execQdbSqTailWrite (t tag q : Nat) (v : Word) (s : State) : Out :=
  let s := s.tick t
  let new := fld v 15 0
  .next (s.doorbell tag q (fun p =>
    if 2 ^ p.sqLog2 ≤ new ∨ 2 ^ p.sqLog2 ≤ ringDist p.sqHead p.sqTail p.sqLog2 + ringDist p.sqTail new p.sqLog2 then
      s.doorbellError tag true
    else s.modQp tag q (fun p => { p with sqTail := new })))

def execQdbCqHeadWrite (t tag q : Nat) (v : Word) (s : State) : Out :=
  let s := s.tick t
  let new := fld v 15 0
  .next (s.doorbell tag q (fun p =>
    let n := freedBy p.cqHead new p.cqTail p.cqUsed p.cqLog2
    if 2 ^ p.cqLog2 ≤ new ∨ p.cqUsed < n then s.doorbellError tag false
    else s.modQp tag q (fun p => { p with cqHead := new, cqUsed := p.cqUsed - n })))

/-- A write of QDB_EQ_HEAD frees entries, and EV_LOST is the first record written then (R97, R451). -/
def execQdbEqHeadWrite (t tag : Nat) (v : Word) (s : State) : Out :=
  let s := s.tick t
  let new := fld v 15 0
  let e := s.evq tag
  if !s.enabled tag || isSlice tag || !e.active then .next s
  else
    let n := freedBy e.head new e.tail e.used e.log2
    if 2 ^ e.log2 ≤ new ∨ e.used < n then .next (s.doorbellError tag false)
    else
      let s := s.modEvq tag (fun e => { e with head := new, used := e.used - n })
      .next (if n = 0 then s else s.writeLost tag)

/-! ### SQ fetch (R101, R102, R110) -/

/-- The hub fetches the entry at the head of a pair's SQ into a reserved CQ entry and checks it. -/
def execSqEntryFetch (t tag q : Nat) (io : HostIo) (s : State) : Out :=
  let s := s.tick t
  let p := s.qp tag q
  if !s.enabled tag || p.state ≠ .active || p.sqHead == p.sqTail || p.cqFree == 0 || !s.bme tag then .next s
  else
    let addr := p.sqBase + 64 * p.sqHead
    match s.xlateCause tag addr 64 io.dataFault with
    | some c => .next ((s.xlateFault tag addr c false 0).qpFail tag q)
    | none =>
      let b := (io.data ++ List.replicate 64 0).take 64
      let head := (p.sqHead + 1) % 2 ^ p.sqLog2
      let o := sqOf b head
      let s := (s.tlbTouch tag addr 64).modQp tag q (fun p => { p with sqHead := head, reserved := p.reserved + 1 })
      match s.sqCheck tag b o with
      | some st => .next (s.opDone tag q o st [] io)
      | none => .next (s.modQp tag q (fun p => { p with ops := p.ops ++ [o] }))

/-- The first unsignalled CQ entry has waited its time (R104). -/
def execCqCoalesceTimeout (t tag q : Nat) (s : State) : Out :=
  let p := s.qp tag q
  if !s.enabled tag || p.state ≠ .active || p.unsignalled == 0 then .next (s.tick t)
  else .next ((s.tick (max t (p.firstUnsig + p.coalT))).cqSignal tag q)

/-- A vector's mask is cleared, and its pending message goes out (R104). -/
def execMsixVectorUnmask (t fn v : Nat) (s : State) : Out :=
  let s := s.tick t
  if 31 < fn ∨ (if fn = 0 then 64 else 8) ≤ v then .next s
  else .next ((s.modFunc fn (fun f => { f with msix := tmod f.msix v {} (fun e => { e with mask := false }) })).msixFlush fn)

/-! ### The TLB (R105, R106, R121) -/

/-- Fields of a table entry (Table 4-5). -/
def pteV (e : Word64) : Bool := e.getLsbD 0
def pteR (e : Word64) : Bool := e.getLsbD 1
def pteW (e : Word64) : Bool := e.getLsbD 2
def ptePage (e : Word64) : Nat := e.toNat / 4096

/-- The outcome of a walk: a cause of Table 4-6, or the leaf entry. -/
def walkOf (w : Walk) : Except Nat Word64 :=
  match w.root with
  | none => .error 6
  | some r => if !pteV r then .error 2 else match w.leaf with
    | none => .error 6
    | some l =>
      if !pteV l then .error 3
      else if w.write && !pteW l then .error 4
      else if !w.write && !pteR l then .error 5
      else .ok l

/-- TLB entries an instance may hold. -/
def tlbCap (tag : Nat) : Nat := if isPf tag then 1024 else 512

/-- The least recently used of the entries that a test admits. -/
def lruOf (l : List TlbEntry) (f : TlbEntry → Bool) : Option TlbEntry :=
  l.foldl (fun a e => if !f e then a else match a with
    | none => some e
    | some x => if e.used < x.used then some e else a) none

/-- A translation is installed: over the instance's own entry of the page; else in a free entry; else over the least
recently used entry of the instance at its cap, or of the whole TLB (R106). -/
def State.tlbInstall (s : State) (e : TlbEntry) : State :=
  let l := s.ins.tlb.filter (fun x => !(x.tag == e.tag && x.page == e.page))
  let held := (l.filter (fun x => x.tag == e.tag)).length
  let victim :=
    if tlbCap e.tag ≤ held then lruOf l (fun x => x.tag == e.tag)
    else if l.length < 2048 then none else lruOf l (fun _ => true)
  let l := match victim with | some v => l.filter (fun x => x != v) | none => l
  { s with ins := { s.ins with tlb := { e with used := s.ins.tlbClock } :: l, tlbClock := s.ins.tlbClock + 1 } }

/-- A walk completes (R105, R106); one that began before an invalidation covering it is discarded (R121). -/
def execTlbFill (t tag iova : Nat) (walk : Walk) (s : State) : Out :=
  let s := s.tick t
  let page := iova / 4096
  if !s.enabled tag then .next s
  else match s.xlateCause tag iova 1 none with
    | some c => .next (s.xlateFault tag iova c walk.write walk.source)
    | none => match walkOf walk with
      | .error c => .next (s.xlateFault tag iova c walk.write walk.source)
      | .ok l =>
        let stale := s.ins.invals.any (fun (at_, g, first, count) =>
          g == tag && decide (walk.began ≤ at_) && (count == 0 || (decide (first ≤ page) && decide (page < first + count))))
        if stale then .next s
        else .next (s.tlbInstall { tag, page, bus := ptePage l, r := pteR l, w := pteW l, used := 0 })

/-! ### Commands (Table 4-8) -/

/-- Vectors that an instance may name (R103). -/
def vectorOk (tag v : Nat) : Bool :=
  if isSlice tag then v == 0 else if isPf tag then decide (v < 64) else decide (v < 8)

/-- INS_QP_SETUP. -/
def insQpSetupDef : CmdDef :=
  { code := 0x0301, argc := 7, tenant := true, masks := [0xF, 0xFFFFFFFF, 0xFFFFFFFF, 0xFFFFFFFF, 0xFFFFFFFF, 0x3F0F0F, 0xFFFF] }

/-- INS_QP_SETUP's work. -/
def insQpSetupWork (tag : Nat) (_io : HostIo) (a : List Word) (s : State) : Answer :=
    let q := fld (arg a 1) 3 0
    let sqb := ofTwo (arg a 2) (arg a 3)
    let cqb := ofTwo (arg a 4) (arg a 5)
    let sl := fld (arg a 6) 3 0
    let cl := fld (arg a 6) 11 8
    let v := fld (arg a 6) 21 16
    let n := fld (arg a 7) 7 0
    let ok (l : Nat) : Bool := decide (4 ≤ l ∧ l ≤ 12)
    if qpCount tag ≤ q ∨ n = 0 then .status 0x0012 s
    else if sqb % 4096 ≠ 0 ∨ cqb % 4096 ≠ 0 ∨ !ok sl ∨ !ok cl then .status 0x0302 s
    else if !vectorOk tag v then .status 0x0303 s
    else if (s.qp tag q).state ≠ .disabled then .status 0x0301 s
    else .ok [] (s.modQp tag q (fun p =>
      { state := .active, sqBase := sqb, cqBase := cqb, sqLog2 := sl, cqLog2 := cl, vector := v, coalN := n
        coalT := fld (arg a 7) 15 8 * 10000, dropped := p.dropped }))

def execInsQpSetup (t tag : Nat) (io : HostIo) (s : State) : Out :=
  .next (s.run insQpSetupDef (insQpSetupWork tag io) t tag io)

/-- A pair returns to DISABLED; what it had fetched ends without a completion (R98). -/
def State.qpReset (s : State) (tag q : Nat) : State :=
  let s := s.modQp tag q (fun p => { state := .disabled, dropped := p.dropped })
  { s with
    sea := { s.sea with jobs := tmap s.sea.jobs (fun _ j => if j.tag = tag ∧ j.qp = q then { j with orphan := true } else j) }
    net := if isPf tag then { s.net with rxPosts := s.net.rxPosts.filter (fun r => r.qp ≠ q) } else s.net }

/-- INS_QP_RESET. -/
def insQpResetDef : CmdDef :=
  { code := 0x0302, argc := 1, tenant := true, masks := [0xF] }

/-- INS_QP_RESET's work. -/
def insQpResetWork (tag : Nat) (_io : HostIo) (a : List Word) (s : State) : Answer :=
    let q := fld (arg a 1) 3 0
    if qpCount tag ≤ q then .status 0x0012 s else .ok [] (s.qpReset tag q)

def execInsQpReset (t tag : Nat) (io : HostIo) (s : State) : Out :=
  .next (s.run insQpResetDef (insQpResetWork tag io) t tag io)

/-- Code of a pair's state (Table 4-8). -/
def qpCode : QpState → Nat
  | .disabled => 0 | .active => 1 | .error => 2

/-- INS_QP_STATUS. -/
def insQpStatusDef : CmdDef :=
  { code := 0x0303, argc := 1, tenant := true, masks := [0xF] }

/-- INS_QP_STATUS's work. -/
def insQpStatusWork (tag : Nat) (_io : HostIo) (a : List Word) (s : State) : Answer :=
    let q := fld (arg a 1) 3 0
    let p := s.qp tag q
    if qpCount tag ≤ q then .status 0x0012 s
    else .ok [wd (qpCode p.state), wd (p.sqHead + p.sqTail * 2 ^ 16), wd (p.cqHead + p.cqTail * 2 ^ 16), wd p.dropped] s

def execInsQpStatus (t tag : Nat) (io : HostIo) (s : State) : Out :=
  .next (s.run insQpStatusDef (insQpStatusWork tag io) t tag io)

/-- INS_EQ_SETUP. -/
def insEqSetupDef : CmdDef :=
  { code := 0x0304, argc := 3, tenant := true, masks := [0xFFFFFFFF, 0xFFFFFFFF, 0x3F001F] }

/-- What the caller of INS_EQ_SETUP may name. -/
def insEqSetupOwn (tag : Nat) (_ : List Word) : Bool := !isSlice tag

/-- INS_EQ_SETUP's work. -/
def insEqSetupWork (tag : Nat) (_io : HostIo) (a : List Word) (s : State) : Answer :=
      let base := ofTwo (arg a 1) (arg a 2)
      let n := fld (arg a 3) 4 0
      let v := fld (arg a 3) 21 16
      if base % 4096 ≠ 0 ∨ n < 6 ∨ 16 < n then .status 0x0302 s
      else if !vectorOk tag v then .status 0x0303 s
      else
        let s := s.modEvq tag (fun e =>
          { e with active := true, base, log2 := n, vector := v, head := 0, tail := 0, phase := true, used := 0 })
        let s := { s with evt := { s.evt with disabledByZ := s.evt.disabledByZ.filter (· ≠ tag) } }
        let s := s.writeLost tag
        let due := s.evt.zeroisedFor.filter (fun g => queueOf g == tag)
        let s := { s with evt := { s.evt with zeroisedFor := s.evt.zeroisedFor.filter (fun g => queueOf g ≠ tag) } }
        .ok [] (due.foldl (fun s g => s.raiseTo 0x0D03 srcSecurity tagDevice (wd s.zcount) none [(g, false)]) s)

/-- An event queue is set up afresh; EV_LOST, then a pending EV_SEC_ZEROISED follow (R448, R451, 18 Start-up). -/
def execInsEqSetup (t tag : Nat) (io : HostIo) (s : State) : Out :=
  .next (s.runWith insEqSetupDef (insEqSetupOwn tag) (fun _ => false) (fun _ s => .ok s) (insEqSetupWork tag io) t tag io)

/-- INS_XLATE_SET. -/
def insXlateSetDef : CmdDef :=
  { code := 0x0305, argc := 3, tenant := true, masks := [0xFFFFFFFF, 0xFFFFFFFF, 1] }

/-- INS_XLATE_SET's work. -/
def insXlateSetWork (tag : Nat) (_io : HostIo) (a : List Word) (s : State) : Answer :=
    let root := ofTwo (arg a 1) (arg a 2)
    let on := bit (arg a 3) 0
    if on ∧ root % 32768 ≠ 0 then .status 0x0307 s
    else if (s.inst tag).qps.any (fun p => p.2.state == .active) then .status 0x0018 s
    else .ok [] ((s.tlbDrop tag 0 0).modInst tag (fun i => { i with root := if on then some root else none }))

def execInsXlateSet (t tag : Nat) (io : HostIo) (s : State) : Out :=
  .next (s.run insXlateSetDef (insXlateSetWork tag io) t tag io)

/-- INS_XLATE_INVAL. -/
def insXlateInvalDef : CmdDef :=
  { code := 0x0306, argc := 3, tenant := true }

/-- INS_XLATE_INVAL's work. -/
def insXlateInvalWork (tag : Nat) (_io : HostIo) (a : List Word) (s : State) : Answer :=
    .ok [] (s.tlbDrop tag (ofTwo (arg a 1) (arg a 2) / 4096) (arg a 3).toNat)

def execInsXlateInval (t tag : Nat) (io : HostIo) (s : State) : Out :=
  .next (s.run insXlateInvalDef (insXlateInvalWork tag io) t tag io)

/-- INS_FAULT_GET. -/
def insFaultGetDef : CmdDef :=
  { code := 0x0307, argc := 1, tenant := true, masks := [3] }

/-- INS_FAULT_GET's work. -/
def insFaultGetWork (tag : Nat) (_io : HostIo) (a : List Word) (s : State) : Answer :=
    let n := fld (arg a 1) 1 0
    if n ≠ 1 ∧ n ≠ 2 then .status 0x0012 s
    else
      let i := s.inst tag
      let out := i.faults.take n
      let words (f : XlateFault) : List Word := twoWords f.iova ++ [wd (faultInfo f.cause f.write f.source tag), wd f.sec, wd f.ns]
      .ok (wd (out.length + i.faultsLost * 256) :: out.flatMap words)
        (s.modInst tag (fun i => { i with faults := i.faults.drop n }))

/-- INS_FAULT_GET: the records returned leave the log, oldest first (R108). -/
def execInsFaultGet (t tag : Nat) (io : HostIo) (s : State) : Out :=
  .next (s.run insFaultGetDef (insFaultGetWork tag io) t tag io)

/-- The lowest free slice tag (R95): one whose teardown goes on is not free. -/
def State.freeSlice (s : State) : Option Nat :=
  ((List.range 256).map (· + 32)).find? (fun g => (s.inst g).phase == .off)

/-- INS_SLICE_CREATE. -/
def insSliceCreateDef : CmdDef :=
  { code := 0x0308, argc := 2, tenant := false, masks := [0xFFFFF, 0x3F] }

/-- INS_SLICE_CREATE's work. -/
def insSliceCreateWork (_tag : Nat) (_io : HostIo) (a : List Word) (s : State) : Answer :=
    let pasid := fld (arg a 1) 19 0
    let v := fld (arg a 2) 5 0
    if pasid = 0 then .status 0x0012 s
    else if v = 0 then .status 0x0303 s
    else if !s.ins.pasidEn then .status 0x0304 s
    else if s.ins.insts.any (fun p => isSlice p.1 && p.2.phase != .off && p.2.pasid == pasid) then .status 0x0305 s
    else match s.freeSlice with
      | none => .status 0x0017 s
      | some g => .ok [wd g] (s.enable g pasid v)

def execInsSliceCreate (t tag : Nat) (io : HostIo) (s : State) : Out :=
  .next (s.run insSliceCreateDef (insSliceCreateWork tag io) t tag io)

/-- INS_STATUS. -/
def insStatusDef : CmdDef :=
  { code := 0x030A, argc := 1, tenant := true, masks := [0x3FF] }

/-- What the caller of INS_STATUS may name. -/
def insStatusOwn (tag : Nat) (a : List Word) : Bool := fld (arg a 1) 9 0 == 0x3FF || fld (arg a 1) 9 0 == tag

/-- INS_STATUS's work. -/
def insStatusWork (tag : Nat) (_io : HostIo) (a : List Word) (s : State) : Answer :=
      let g := if fld (arg a 1) 9 0 = 0x3FF then tag else fld (arg a 1) 9 0
      if 287 < g then .status 0x0012 s
      else
        let i := s.inst g
        let act := bitsOf ((i.qps.filter (fun p => p.2.state == .active)).map (·.1))
        .ok [ wd (b2n (s.enabled g) + 2 * b2n i.root.isSome + 4 * b2n (s.bme g)), wd act, wd (s.slotsHeld g)
            , wd (s.tlbHeld g), wd i.pasid ] s

def execInsStatus (t tag : Nat) (io : HostIo) (s : State) : Out :=
  .next (s.runWith insStatusDef (insStatusOwn tag) (fun _ => false) (fun _ s => .ok s) (insStatusWork tag io) t tag io)

/-- INS_RIGHTS_SET. -/
def insRightsSetDef : CmdDef :=
  { code := 0x030B, argc := 2, tenant := false, staged := true, masks := [0x3FF, 0x7FFE] }

/-- INS_RIGHTS_SET's work. -/
def insRightsSetWork (tag : Nat) (_io : HostIo) (a : List Word) (s : State) : Answer :=
    let g := fld (arg a 1) 9 0
    if isPf g ∨ 287 < g then .status 0x0012 s
    else s.stage tag 0x030B (.rights g (BitVec.ofNat 16 (arg a 2).toNat))

def execInsRightsSet (t tag : Nat) (io : HostIo) (s : State) : Out :=
  .next (s.run insRightsSetDef (insRightsSetWork tag io) t tag io)

/-! ### Bus Master Enable (R120) -/

def execBusMasterEnableChange (t fn : Nat) (level : Bool) (s : State) : Out :=
  let s := s.tick t
  if 31 < fn then .next s
  else
    let s := s.modFunc fn (fun f => { f with bme := level })
    .next (if level then (s.msixFlush fn).writeLost fn else s)

end Sys2Proof.Machine
end

