-- ==== Sys2Proof/Machine/CartOps.lean ====
section
/-! DEFINITION. Cartridges: the blocks on a card and the operations that commits, removals and the journal
writer share (09_cartridges.md). -/

namespace Sys2Proof.Machine

/-! ### Blocks (Tables 9-5 to 9-8) -/

/-- CRC-32 over one byte, reflected (R159). -/
def crcByte (c : BitVec 32) (b : Byte) : BitVec 32 :=
  let step (c : BitVec 32) (_ : Nat) : BitVec 32 := if c.getLsbD 0 then (c >>> 1) ^^^ 0xEDB88320#32 else c >>> 1
  (List.range 8).foldl step (c ^^^ b.setWidth 32)

/-- CRC-32 of R159. -/
def crc32 (l : List Byte) : Nat := (l.foldl crcByte 0xFFFFFFFF#32 ^^^ 0xFFFFFFFF#32).toNat

/-- A block of 512 bytes: 508 bytes and their CRC. -/
def blockOf (l : List Byte) : List Byte :=
  let b := (l ++ List.replicate 508 0).take 508
  b ++ toLe 4 (crc32 b)

/-- A block's CRC holds. -/
def blockOk (b : List Byte) : Bool := b.length == 512 && leNat (slice b 508 4) == crc32 (b.take 508)

/-- Little-endian field of a block. -/
def bf (b : List Byte) (off n : Nat) : Nat := leNat (slice b off n)

/-- Bytes of a block from one offset to before another are 0. -/
def zeros (b : List Byte) (i j : Nat) : Bool := (slice b i (j - i)).all (· == 0)

/-- The label's bytes (Table 9-6). -/
def labelBytes (tenant cartId dataLba dataBlocks jrnLba jrnBlocks : Nat) : List Byte :=
  blockOf ([0x4F, 0x4C, 0x4B, 0x43, 1] ++ toLe 3 0 ++ toLe 2 tenant ++ toLe 2 0 ++ toLe 8 cartId ++ toLe 4 dataLba ++
    toLe 4 dataBlocks ++ toLe 4 jrnLba ++ toLe 4 jrnBlocks)

/-- R253: a label is valid on a card of a capacity. -/
def labelOk (b : List Byte) (capacity : Nat) : Bool :=
  blockOk b && slice b 0 5 == [0x4F, 0x4C, 0x4B, 0x43, 1] && zeros b 5 8 && zeros b 10 12 && zeros b 36 508 &&
    decide (1 ≤ bf b 8 2 ∧ bf b 8 2 ≤ 31) && bf b 12 8 != 0 && decide (32 ≤ bf b 20 4) &&
    decide (bf b 20 4 + bf b 24 4 ≤ bf b 28 4) && decide (65536 ≤ bf b 32 4) &&
    decide (bf b 28 4 + bf b 32 4 ≤ capacity)

/-- A journal header's bytes (Table 9-8). -/
def headerBytes (hserial hint lastRseq : Nat) (lastSeal : List Byte) (collected tenant : Nat) : List Byte :=
  blockOf ([0x4F, 0x4A, 0x48, 0x31] ++ toLe 8 hserial ++ toLe 8 hint ++ toLe 8 lastRseq ++ lastSeal ++ toLe 8 collected ++
    toLe 2 tenant)

/-- R257: a header copy is valid. -/
def headerOk (b : List Byte) (tenant : Nat) : Bool :=
  blockOk b && slice b 0 4 == [0x4F, 0x4A, 0x48, 0x31] && bf b 52 2 == tenant

/-- A journal block's bytes (Table 9-7). -/
def journalBlock (serial tenant cartId : Nat) (recs : List (List Byte)) : List Byte :=
  blockOf ([0x4F, 0x4A, 0x42, 0x31] ++ toLe 8 serial ++ toLe 1 recs.length ++ toLe 1 0 ++ toLe 2 tenant ++
    slice (recs.getD 0 []) 4 8 ++ toLe 4 cartId ++ toLe 4 0 ++ recs.flatten)

/-- R257: a journal block is valid and follows the block of a serial. -/
def journalOk (b : List Byte) (tenant cartId last : Nat) : Bool :=
  blockOk b && slice b 0 4 == [0x4F, 0x4A, 0x42, 0x31] && bf b 4 8 == last + 1 && bf b 14 2 == tenant &&
    bf b 24 4 == cartId % 2 ^ 32

/-- Last record of a journal block: RSEQ and SEAL. -/
def lastRecord (b : List Byte) : Nat × List Byte :=
  let o := 32 + 128 * (byteAt b 12 - 1)
  (bf b (o + 4) 8, slice b (o + 112) 16)

/-! ### Power (R244, R245, R247) -/

/-- Kn_PWR_EN and the pads of a slot. -/
def State.cartPower (s : State) (n : Nat) (on : Bool) : State :=
  (s.modCart n (fun c => { c with power := on, mode := 0, wide := false, v18 := false })).emitOut
    (.pin ("K" ++ toString n ++ "_PWR_EN") on)

/-- A command to the card. -/
def State.card (s : State) (n cmd : Nat) (arg : Nat) (data : List Byte := []) : State :=
  s.emitOut (.card n cmd (wd arg) data)

/-- Every record in the write in progress and every record queued is refused (R245, R254, R256). -/
def State.cartRefuseAll (s : State) (n : Nat) : State :=
  let c := s.cartSlot n
  let held (b : Option CartBlock) : List Nat := match b with | some b => b.recs | none => []
  let rs := held c.writing ++ held c.rewrite ++ c.queue
  let s := s.modCart n (fun c => { c with writing := none, rewrite := none, queue := [] })
  rs.foldl (fun s r => s.cartAnswer r false) s

/-- INIT begins at step 1 of Table 9-4. -/
def State.cartInit (s : State) (n : Nat) : State :=
  (s.cartRefuseAll n).modCart n (fun c => { c with state := .init, step := 1, cycling := false, ejecting := false })

/-- A power cycle: 50 ms without power, then step 1 (R247). -/
def State.cartCycle (s : State) (n : Nat) : State :=
  ((s.cartInit n).cartPower n false).modCart n (fun c => { c with cycling := true, cycleEnds := s.now + 50000000 })

/-- The slot is FAILED (R247). -/
def State.cartFail (s : State) (n step : Nat) (unsupported : Bool) : State :=
  ((s.cartRefuseAll n).modCart n (fun c => { c with state := .failed, ejecting := false })).cartEvent n 0x0704
    (step + 256 * b2n unsupported)

/-- A Retry of Table 9-4: one power cycle, or FAILED at the second failure of the insertion. -/
def State.cartRetry (s : State) (n step : Nat) : State :=
  if (s.cartSlot n).failedOnce then s.cartFail n step false
  else (s.cartCycle n).modCart n (fun c => { c with failedOnce := true })

/-! ### The journal (R254, R256) -/

/-- A header goes into the older copy (R256). -/
def State.cartHeader (s : State) (n : Nat) : State :=
  let c := s.cartSlot n
  let lba := if c.newestB then 1 else 2
  (s.card n 24 lba (headerBytes (c.hserial + 1) c.highest c.lastRseq c.lastSeal c.collected c.tenant)).modCart n (fun c =>
    { c with hserial := c.hserial + 1, hint := c.highest, newestB := !c.newestB, headerDue := false })

/-- The journal is full, or no longer (R256): EV_CART_JOURNAL_FULL comes once per filling. -/
def State.cartFullCheck (s : State) (n : Nat) : State :=
  let c := s.cartSlot n
  if c.highest + 1 ≤ c.collected + c.jrnBlocks then s.modCart n (fun c => { c with full := false })
  else
    let s := s.modCart n (fun c => { c with full := true, queue := [] })
    let s := c.queue.foldl (fun s r => s.cartAnswer r false) s
    if c.full then s else s.cartEvent n 0x0709

/-- Commands that read the cartridge and go on for a slot end with a status (R245, R263). -/
def State.cartReads (s : State) (n : Nat) : List Nat :=
  (s.mbx.tickets.filter (fun p => (p.2.code == 0x0703 || p.2.code == 0x0706) && !p.2.cancelled &&
    fld (p.2.args.getD 0 0) 1 0 == n)).map (·.1)

/-- The slot powers off as R245 does. -/
def State.cartOff (s : State) (n : Nat) : State := (s.cartRefuseAll n).cartPower n false

/-- CART_EJECT's end (R263): a header, power off, EJECTED. -/
def State.cartEject (s : State) (n : Nat) (header : Bool) : State :=
  let s := if header then s.cartHeader n else s
  (s.cartOff n).modCart n (fun c => { c with state := .ejected, ejecting := false })

/-! ### What a commit does to a slot (R252, R261, R262) -/

/-- A slot that a commit binds is evaluated again (R261). -/
def State.cartReevaluate (s : State) (n : Nat) : State :=
  match tfind s.cfg.carts n with
  | none => s
  | some b =>
    let c := s.cartSlot n
    if c.state = .foreign && c.tenant = b.tenant then
      (s.cartInit n).modCart n (fun c => { c with mayUnlock := true })
    else if c.state = .locked && b.pwd.isSome then
      (s.cartCycle n).modCart n (fun c => { c with mayUnlock := true })
    else s

/-- A forced erase at its commit point, or SKIPPED (R252). -/
def State.cartErase (s : State) (n : Nat) : State :=
  if (s.cartSlot n).state = .locked then
    ((s.card n 16 1).card n 42 0 [0x08]).modCart n (fun c => { c with state := .erasing, eraseBy := s.now + 240000000000 })
  else s.cartEvent n 0x0706 2

/-- A format at its commit point (R262); the label names the tenant then bound. -/
def State.cartFormat (s : State) (n dataBlocks jrnBlocks cartId : Nat) : State :=
  let c := s.cartSlot n
  if !([CartState.ready, .unformatted, .foreign].contains c.state) then s
  else
    let tenant := match tfind s.cfg.carts n with | some b => b.tenant | none => 0
    let jrn := 32 + dataBlocks
    let s := s.cartRefuseAll n
    let zero : List Byte := List.replicate 512 0
    let s := (List.range 16).foldl (fun s i => s.card n 24 (16 + i) zero) s
    let s := s.card n 24 jrn zero
    let none16 : List Byte := List.replicate 16 0
    let s := s.card n 24 1 (headerBytes (c.hserial + 1) 0 0 none16 0 tenant)
    let s := s.card n 24 2 (headerBytes (c.hserial + 2) 0 0 none16 0 tenant)
    let s := s.card n 24 0 (labelBytes tenant cartId 32 dataBlocks jrn jrnBlocks)
    s.cartInit n

end Sys2Proof.Machine
end

