-- ==== Sys2Proof/Machine/LaneOps.lean ====
section
/-! DEFINITION. Lane Link turns: frames sent, the service order, failed turns, roll call, the emergency broadcast
(06_lane_link.md). -/

namespace Sys2Proof.Machine

/-! ### Frames sent (R158, R160, R164, R168) -/

/-- Lane of a unit address of a segment (R15). -/
def laneOf (seg addr : Nat) : Nat := 16 * seg + addr - 1

/-- Lanes of a segment. -/
def segLanes (seg : Nat) : List Nat := (List.range 16).map (fun a => 16 * seg + a)

/-- A frame to a unit: a new one takes the next SEQ and is outstanding, a repeat is the outstanding one with RETRY set. -/
def State.sendUnit (s : State) (lane type : Nat) (payload : List Byte) (retry : Bool) : State :=
  let u := s.unit lane
  match retry, u.outstanding with
  | true, some f => s.emitOut (.lane (laneSeg lane) f.addr f.type f.seq true f.payload)
  | _, _ =>
    let f : LFrame := { addr := laneAddr lane, type, seq := u.txSeq, payload }
    (s.modUnit lane (fun u => { u with outstanding := some f, txSeq := (u.txSeq + 1) % 256 })).emitOut
      (.lane (laneSeg lane) f.addr type f.seq retry payload)

/-- A POLL: SESSION_OPEN and LIMITED as they stand (Table 6-5, R165). -/
def State.sendPoll (s : State) (lane : Nat) : State :=
  let opened := match s.ses lane with | some x => !x.decided | none => false
  let b1 := b2n opened + 2 * b2n (!(s.seg (laneSeg lane)).active.isEmpty)
  (s.modUnit lane (fun u => { u with polled := s.now })).emitOut
    (.lane (laneSeg lane) (laneAddr lane) 0x102 0 false (toLe 1 b1))

/-- A broadcast or identity-addressed frame of a segment; its SEQ is answered (R158). -/
def State.sendZero (s : State) (seg type : Nat) (payload : List Byte) : Nat × State :=
  let q := (s.seg seg).seq0
  (q, (s.modSeg seg (fun g => { g with seq0 := (q + 1) % 256 })).emitOut (.lane seg 0 type q false payload))

/-- The controller's ACK of an upstream frame. -/
def State.sendAck (s : State) (seg addr seq : Nat) : State := s.emitOut (.lane seg addr 0x101 seq false [])

/-- Payload of a decision frame (Table 6-8). -/
def Decision.payload (d : Decision) : List Byte :=
  toBe 2 d.slot ++ toBe 2 d.prompt ++ toBe 1 d.openTime ++ toBe 3 0

/-- Fail state of a lane's binding in force (R173). -/
def State.failStateOf (s : State) (lane : Nat) : Bool :=
  match tfind s.cfg.lanes lane with | some b => b.failOpen | none => false

/-! ### Discovery (R172 to R174) -/

/-- A unit's identity as two words of extended data. -/
def idWords (w : Word64) : Word × Word := (wd w.toNat, wd (w.toNat / 2 ^ 32))

/-- A lane's event with an identity in DATA and the first continuation word (R447). -/
def State.identityEvent (s : State) (code source : Nat) (id old : Word64) : State :=
  s.raiseDev code source (idWords id).1.toNat (some ((idWords id).2, (idWords old).1, (idWords old).2))

/-- A segment hears an answer: it is ACTIVE (R174). -/
def State.heard (s : State) (seg : Nat) : State :=
  s.modSeg seg (fun g => { g with answered := true, lonely := false, quiet := 0 })

/-- A HERE whose position another identity holds, reported once until it is assigned (Table 6-12). -/
def State.clash (s : State) (seg lane : Nat) (id : Word64) : State :=
  if (s.seg seg).clashes.contains id then s
  else (s.modSeg seg (fun g => { g with clashes := id :: g.clashes })).identityEvent 0x0504 (srcLane lane) id 0

/-- Whether an ASSIGN may be sent now: Table 6-12 allows the address, and one for a PRESENT unit waits until its lane has no
session, no queued TAP and no pending decision (R173). -/
def State.assignMay (s : State) (seg : Nat) (a : Assign) : Bool :=
  let lane := laneOf seg a.address
  let u := s.unit lane
  if u.state = .present then
    u.identity == a.identity && (s.ses lane).isNone && !(s.seg seg).decisions.any (fun d => d.lane == lane)
  else !a.again

/-- ASSIGNs whose address another unit holds by now are given up. -/
def State.pruneAssigns (s : State) (seg : Nat) : State :=
  (s.seg seg).assigns.foldl (fun s a =>
    let lane := laneOf seg a.address
    let u := s.unit lane
    let gone := if u.state = .present then u.identity != a.identity else a.again
    if gone then
      let s := s.modSeg seg (fun g => { g with assigns := g.assigns.filter (· ≠ a) })
      if a.again then s else s.clash seg lane a.identity
    else s) s

/-- A fresh ASSIGN that a commit made due (R173). -/
def State.reassignOf (s : State) (seg : Nat) : Option Assign :=
  ((segLanes seg).filterMap (fun l =>
    let u := s.unit l
    let a : Assign := { identity := u.identity, address := laneAddr l, caps := u.caps, position := u.position, again := true }
    if u.state = .present && u.reassign && s.assignMay seg a then some a else none)).head?

/-- A roll-call cycle starts (R168, R170, R174, R175): the one before it is judged. -/
def State.startCycle (s : State) (seg : Nat) : State :=
  let g := s.seg seg
  let least := s.devN 0x0501
  let s := if g.cycled then
      let s := (segLanes seg).foldl (fun s l => s.modUnit l (fun u =>
        { u with violations := 0
                 g := if 8 < u.violations then min 3 (u.g + 1) else if u.violations = 0 then max least (u.g - 1) else u.g })) s
      let quiet := if g.answered then 0 else min 65535 (g.quiet + 1)
      let lonely := decide (4 ≤ quiet) && !(segLanes seg).any (fun l => (s.unit l).state == .present)
      let s := s.modSeg seg (fun g => { g with quiet, lonely := g.lonely || lonely })
      if lonely && !g.lonely then s.raiseDev 0x0506 (srcSegment seg) 0 else s
    else s
  s.modSeg seg (fun g =>
    { g with cycled := true, answered := false, steps := [(0, 0)], closed := []
             probes := (segLanes seg).filter (fun l => (s.unit l).state == .absent) })

/-- A unit becomes PRESENT again by answering a probe (R168). -/
def State.probeAnswered (s : State) (seg lane : Nat) : State :=
  let u := s.unit lane
  if u.state = .absent then
    let s := (s.modUnit lane (fun u => { u with state := .present, changed := s.sec32 })).heard seg
    s.identityEvent 0x0502 (srcLane lane) u.identity 0
  else s

/-! ### Service order (R164, R165) -/

/-- A card session awaits an APDU_R whose APDU_C is acknowledged. -/
def Session.awaits (x : Session) : Bool := match x.awaiting with | some (_, _, some _) => true | _ => false

/-- What a card session needs at a turn boundary. -/
def State.needs (s : State) (lane : Nat) : Option TurnKind :=
  match s.ses lane with
  | some x =>
    if x.queued.isSome then some (.apdu lane)
    else if x.awaits && decide (x.polled + 40000 ≤ s.now) then some (.sessionPoll lane)
    else none
  | none => none

/-- A list from the element after one that it holds, around to that one. -/
def rotate (l : List Nat) (last : Option Nat) : List Nat :=
  match last with
  | some k => if l.contains k then ((l.dropWhile (· ≠ k)).drop 1) ++ (l.takeWhile (· ≠ k)) ++ [k] else l
  | none => l

/-- The lane of a list that was polled least recently. -/
def leastRecent (l : List Nat) (at_ : Nat → Nat) : Option Nat :=
  l.foldl (fun b n => match b with
    | none => some n
    | some m => if at_ n < at_ m then some n else b) none

/-- The first open turn that applies, and whether it is a repeat (R164 item 4). -/
def State.openTurn (s : State) (seg : Nat) : Option (TurnKind × Bool) :=
  let g := s.seg seg
  let lanes := segLanes seg
  let at_ (l : Nat) : Nat := (s.unit l).polled
  let transfers := lanes.filter (fun l => match s.ses l with | some x => x.phase == .transfer && x.outcome.isNone | none => false)
  let assign := g.assigns.find? (s.assignMay seg)
  let echo := lanes.find? (fun l => (s.unit l).echo.isSome && (s.unit l).state == .present)
  let quiet := g.active.isEmpty && g.queue.isEmpty && g.decisions.isEmpty && g.retryDecision.isNone && transfers.isEmpty
  let polls := lanes.filter (fun l => (s.unit l).state == .present && !g.active.contains l && !transfers.contains l)
  match g.retryOpen with
  | some k => some (k, true)
  | none => match leastRecent transfers at_ with
    | some l => some (.fragment l, false)
    | none => match g.steps with
      | (n, p) :: _ => some (.rollcall n p, false)
      | [] => match assign with
        | some a => some (.assign a.identity a.address, false)
        | none => match s.reassignOf seg with
          | some a => some (.assign a.identity a.address, false)
          | none => match g.probes with
            | l :: _ => some (.probe l, false)
            | [] => match (if quiet then echo else none) with
              | some l => some (.echo l, false)
              | none => (leastRecent polls at_).map (fun l => (.poll l, false))

/-- The first turn of R164 that applies, and whether it is a repeat. -/
def State.turnChoice (s : State) (seg : Nat) : Option (TurnKind × Bool) :=
  let g := s.seg seg
  match g.retryDecision with
  | some k => some (k, true)
  | none => match g.decisions with
    | d :: _ => some (.decision d, false)
    | [] => match g.retrySession with
      | some k => some (k, true)
      | none => match (rotate g.active g.lastServed).filterMap s.needs with
        | k :: _ => some (k, false)
        | [] => match s.openTurn seg with
          | some k => some k
          | none =>
            let waiting := g.active.filter (fun l => match s.ses l with | some x => x.awaits | none => false)
            (leastRecent waiting (fun l => match s.ses l with | some x => x.polled | none => 0)).map (fun l => (.sessionPoll l, false))

/-- The decision frame leaves for the first time: its stamp is taken, the outcome counted, the prompt scheduled, and the
lane's session ends on its segment (R183, R310, R419). -/
def State.decisionSent (s : State) (d : Decision) : State :=
  match s.ses d.lane with
  | none => s
  | some x =>
    let s := s.stampDecision d.lane
    let s := match x.outcome with
      | some o => if x.counted then s else s.countOutcome d.lane o
      | none => s
    ((s.schedulePrompt d.lane x.tenant d.prompt x.cfg).leaveSeg d.lane).closeSes d.lane

/-- What a turn sends. -/
def State.turnSend (s : State) (seg : Nat) (k : TurnKind) (retry : Bool) : State :=
  match k with
  | .decision d =>
    let s := s.sendUnit d.lane d.type d.payload retry
    if retry then s else (s.modSeg seg (fun g => { g with decisions := g.decisions.drop 1 })).decisionSent d
  | .apdu lane =>
    match s.ses lane with
    | some x =>
      let apdu := match x.queued with | some (_, b) => b | none => []
      (s.sendUnit lane 0x03 (toBe 2 (x.slot.getD 0xFFFF) ++ toBe 1 x.xseq ++ toBe 1 0 ++ apdu) retry).modSeg seg
        (fun g => { g with lastServed := some lane })
    | none => s
  | .sessionPoll lane =>
    let turn := match s.ses lane with | some x => decide (x.polled + 40000 ≤ s.now) | none => false
    let s := (s.sendPoll lane).modSes lane (fun x => { x with polled := s.now })
    if turn then s.modSeg seg (fun g => { g with lastServed := some lane }) else s
  | .fragment lane | .poll lane => s.sendPoll lane
  | .probe lane => (s.sendPoll lane).modSeg seg (fun g => { g with probes := g.probes.filter (· ≠ lane) })
  | .rollcall n p => ((s.sendZero seg 0x20 (toBe 1 n ++ toBe 1 0 ++ toBe 8 p.toNat)).2).modSeg seg
      (fun g => { g with steps := if retry then g.steps else g.steps.drop 1 })
  | .assign id a =>
    let lane := laneOf seg a
    let g := s.seg seg
    let mine (x : Assign) : Bool := x.identity == id && x.address == a
    match retry, g.assigns.find? mine with
    | true, some x =>
      s.emitOut (.lane seg 0 0x22 x.seq true (toBe 8 id.toNat ++ toBe 1 a ++ toBe 1 (b2n x.failState) ++ toBe 2 0))
    | _, known =>
      let u := s.unit lane
      let x : Assign := known.getD { identity := id, address := a, caps := u.caps, position := u.position, again := true }
      let fail := s.failStateOf lane
      let (q, s) := s.sendZero seg 0x22 (toBe 8 id.toNat ++ toBe 1 a ++ toBe 1 (b2n fail) ++ toBe 2 0)
      let s := if u.state = .present then s else s.modUnit lane (fun u => { u with fails := 0 })
      s.modSeg seg (fun g => { g with assigns := g.assigns.filter (fun y => !mine y) ++ [{ x with seq := q, failState := fail }] })
  | .echo lane => s.sendUnit lane 0x30 ((s.unit lane).echo.getD []) retry

/-! ### Failed turns (R168) -/

/-- Lane of the unit that a turn is with. -/
def turnLane (seg : Nat) : TurnKind → Option Nat
  | .decision d => some d.lane
  | .apdu l | .sessionPoll l | .fragment l | .poll l | .probe l | .echo l => some l
  | .assign _ a => some (laneOf seg a)
  | .rollcall _ _ => none

/-- A session whose outcome is fixed and whose decision frame will not be sent is decided now (R168, R216). -/
def State.noDecision (s : State) (lane : Nat) : State :=
  match s.ses lane with
  | none => s
  | some x =>
    let s := s.modSeg (laneSeg lane) (fun g =>
      { g with decisions := g.decisions.filter (fun d => d.lane ≠ lane)
               retryDecision := match g.retryDecision with
                 | some (.decision d) => if d.lane = lane then none else g.retryDecision
                 | k => k })
    match x.outcome with
    | none => s
    | some o =>
      if x.decided then s else
        let s := if x.counted then s else s.countOutcome lane o
        (((s.modSes lane (fun x => { x with frame := false, phase := if x.phase = .sealed then .closing else x.phase })).stampDecision
          lane).leaveSeg lane).closeSes lane

/-- A unit is ABSENT (R168). -/
def State.unitAbsent (s : State) (lane : Nat) : State :=
  let seg := laneSeg lane
  let s := s.modUnit lane (fun u => { u with state := .absent, changed := s.sec32, outstanding := none })
  let s := (s.raiseDev 0x0501 (srcLane lane) 4).echoClose lane false
  let s := (s.abortSes lane 0x38).noDecision lane
  s.modSeg seg (fun g =>
    { g with retryOpen := match g.retryOpen with
               | some k => if turnLane seg k = some lane then none else some k
               | none => none })

/-- The turn under way fails (R157, R168): it is repeated as the next of its class, or its unit is given up. -/
def State.failTurn (s : State) (seg : Nat) : State :=
  let g := s.seg seg
  match g.turn with
  | none => s
  | some k =>
    let s := (s.count 2 seg 6).modSeg seg (fun g => { g with turn := none, retrying := false })
    let again (s : State) : State := s.modSeg seg (fun g => match k with
      | .decision _ => { g with retryDecision := some k }
      | .apdu _ | .sessionPoll _ => { g with retrySession := some k }
      | _ => { g with retryOpen := some k })
    match k, turnLane seg k with
    | .probe _, _ => s
    | _, none => again s
    | .assign id a, some lane =>
      let s := s.modUnit lane (fun u => { u with fails := u.fails + 1 })
      if (s.unit lane).fails < 4 then again s
      else if (s.unit lane).state = .present then s.unitAbsent lane
      else s.modSeg seg (fun g => { g with assigns := g.assigns.filter (fun x => !(x.identity == id && x.address == a)) })
    | _, some lane =>
      let s := s.modUnit lane (fun u => { u with fails := u.fails + 1 })
      if (s.unit lane).fails < 4 then again s else s.unitAbsent lane

/-! ### Upstream (R161, R169) -/

/-- The turn under way invites an upstream frame or a NIL of a lane. -/
def State.invites (s : State) (seg lane : Nat) : Bool :=
  match (s.seg seg).turn with
  | some (.sessionPoll l) | some (.fragment l) | some (.poll l) | some (.probe l) => l == lane
  | _ => false

/-- The turn's reply is accepted. -/
def State.turnDone (s : State) (seg lane : Nat) : State :=
  let probe := match (s.seg seg).turn with | some (.probe _) => true | _ => false
  let s := (s.modSeg seg (fun g => { g with turn := none, retrying := false })).modUnit lane (fun u => { u with fails := 0 })
  if probe then s.probeAnswered seg lane else s

/-- An upstream frame is accepted and acknowledged; whether it is new (R169). -/
def State.acceptUp (s : State) (seg : Nat) (f : LaneFrame) : Bool × State :=
  let lane := laneOf seg f.addr
  let again := (s.unit lane).rxSeq == some f.seq
  let s := (s.turnDone seg lane).sendAck seg f.addr f.seq
  (!again, s.modUnit lane (fun u => { u with rxSeq := some f.seq }))

/-- Bytes from i to j - 1 are 0. -/
def zeroIn (b : List Byte) (i j : Nat) : Bool := ((b.drop i).take (j - i)).all (· == 0)

/-- R548 for a TAP: Tables 6-6 and 6-7. -/
def tapOk (limited : Bool) (b : List Byte) : Bool :=
  let kind := byteAt b 0
  if kind = 1 ∨ kind = 2 then
    b.length == 56 && (if kind = 1 then [4, 7, 10].contains (byteAt b 1) else byteAt b 1 == 4) &&
      zeroIn b (2 + byteAt b 1) 12 && decide (byteAt b 15 ≤ 20) && zeroIn b (16 + byteAt b 15) 36 &&
      (if kind = 1 then zeroIn b 36 49 else zeroIn b 12 15) && decide (byteAt b 49 ≤ 3) && decide (byteAt b 50 ≤ 1) && byteAt b 51 == 0
  else if kind = 3 then
    let total := beNat (slice b 2 2)
    let n := b.length - 24
    decide (24 ≤ b.length) && decide (1 ≤ byteAt b 1 ∧ byteAt b 1 ≤ 4) && decide (1 ≤ total ∧ total ≤ 3072) &&
      decide (byteAt b 4 ≤ 100) && zeroIn b 5 8 && zeroIn b 12 24 && decide (n ≤ if limited then 168 else 256) && decide (n ≤ total)
  else false

/-- R548 for a CONT of a transfer that has received some bytes of a total. -/
def contOk (limited : Bool) (b : List Byte) (have_ total : Nat) : Bool :=
  let n := b.length - 8
  decide (8 ≤ b.length) && zeroIn b 2 8 && decide (n ≤ if limited then 184 else 272) && beNat (slice b 0 2) == have_ &&
    decide (have_ + n ≤ total)

/-- R548 for an APDU_R. -/
def apduROk (b : List Byte) : Bool :=
  decide (4 ≤ b.length) && decide (beNat (slice b 0 2) ≤ 1023) && decide (1 ≤ byteAt b 2) && decide (byteAt b 3 ≤ 4) &&
    (if byteAt b 3 = 0 then decide (6 ≤ b.length) && decide (b.length ≤ 280) else b.length == 4)

/-- R548 for a HERE. -/
def hereOk (b : List Byte) : Bool :=
  b.length == 10 && !b.take 8 == List.replicate 8 0 && !(b.take 8 == List.replicate 8 0xFF) && decide (byteAt b 8 ≤ 16) &&
    decide (byteAt b 9 < 8)

/-! ### The emergency broadcast (R35, R179, R180) -/

/-- Every segment controller broadcasts FREE_EXIT. -/
def State.freeExit (s : State) (clear : Bool) : State :=
  let s := (List.range 8).foldl (fun s g => (s.sendZero g 0x13 (toBe 1 (b2n clear) ++ toBe 1 0)).2) s
  { s with lane := { s.lane with freeExitAt := s.now } }

/-- A controller ends the turn in progress: a decision or an ASSIGN that is unacknowledged is sent again after the release. -/
def State.cutTurn (s : State) (seg : Nat) : State :=
  let g := s.seg seg
  let s := s.modSeg seg (fun g =>
    { g with turn := none, retrying := false, steps := [], probes := []
             retryDecision := match g.turn with | some (.decision d) => some (.decision d) | _ => g.retryDecision
             retryOpen := match g.turn with | some (.assign i a) => some (.assign i a) | _ => g.retryOpen })
  let s := if g.turn.isSome || !(tget s.test.echoOpen seg []).isEmpty then s.echoCut seg else s
  s.modSeg seg (fun g => { g with retryOpen := match g.retryOpen with
    | some (.echo _) | some (.rollcall _ _) => none
    | k => k })

/-- Card sessions in flight abort at their next APDU boundary: at once, unless a card holds an acknowledged APDU (R36). -/
def State.emergencyAbort (s : State) (lane : Nat) : State :=
  match s.ses lane with
  | none => s
  | some x => if x.awaits then s.markAbort lane 0x39 else s.abortSes lane 0x39

end Sys2Proof.Machine
end

