-- ==== Sys2Proof/Machine/Network.lean ====
section
/-! DEFINITION. The Ethernet rows and the network-area commands (12_network.md). -/

namespace Sys2Proof.Machine

/-! ### Local dispatch (R319, R326, R327) -/

/-- A frame belongs to a port's interface (R319). -/
def NetIfCfg.belongs (i : NetIfCfg) (p : Parsed) : Bool :=
  (p.tags == 0 && i.vid == 0) || (p.tags == 1 && (match p.tci with | some t => t % 4096 == i.vid | none => false))

/-- A port holds a shadow or a master role. -/
def Cfg.ptpPort (c : Cfg) (port : Nat) : Bool :=
  c.domains.any (fun d => d.2.enable && d.2.port == port) ||
    (match tfind c.masters port with | some m => m.enable | none => false)

/-- Groups and UDP ports of the receive legs on a port, with the source filter. -/
def Cfg.legs (c : Cfg) (port : Nat) : List (Word × Nat × Word) :=
  c.rx.flatMap (fun x =>
    if !x.2.enable then []
    else (if x.2.portA = port then [(x.2.groupA, x.2.udpA, x.2.source)] else []) ++
      (if x.2.portB = some port then [(x.2.groupB, x.2.udpB, x.2.source)] else []))

/-- Solicited-node group of an IPv6 address. -/
def solicited (a : List Byte) : List Byte := toBe 13 0xFF0200000000000000000001FF ++ a.drop 13

/-- Consumers of a LOCAL copy (Table 12-5). -/
inductive Consumer where
  | timeEngine | audio | steward | pf
  deriving DecidableEq, Repr

/-- A frame that the steward answers: ARP, ICMP echo, IGMP, neighbour discovery or ICMPv6 echo, addressed to the
interface. -/
def NetIfCfg.stewardFrame (i : NetIfCfg) (c : Cfg) (port : Nat) (f : List Byte) (p : Parsed) : Bool :=
  if p.etype = some 0x0806 then beNat (slice f (p.l3 + 24) 4) == i.ipv4.toNat && i.ipv4 ≠ 0
  else if p.ip = some 4 then
    (p.proto == some 1 && p.dip == some i.ipv4.toNat && (p.dport == some 8 || p.dport == some 0)) ||
      (p.proto == some 2 && (p.dip == some 0xE0000001 || (c.legs port).any (fun l => p.dip == some l.1.toNat)))
  else if p.ip = some 6 then
    let dst := slice f (p.l3 + 24) 16
    p.proto == some 58 && (dst == i.ipv6 || dst == solicited i.ipv6) &&
      (match p.dport with | some t => t == 128 || t == 129 || decide (133 ≤ t ∧ t ≤ 137) | none => false)
  else false

/-- The first consumer whose condition a LOCAL copy meets (R326). -/
def State.consumer (s : State) (port : Nat) (f : List Byte) (p : Parsed) : Option Consumer :=
  let c := s.cfg
  let udp := p.proto == some 17
  let mine := match tfind c.ifs port with | some i => i.belongs p | none => false
  let isPtp := p.etype == some 0x88F7 || (udp && (p.dport == some 319 || p.dport == some 320))
  if mine && isPtp && c.ptpPort port then some .timeEngine
  else if mine && udp && (c.legs port).any (fun l => p.dip == some l.1.toNat && p.dport == some l.2.1) then some .audio
  else if mine && (match tfind c.ifs port with | some i => i.stewardFrame c port f p | none => false) then some .steward
  else if c.param 0 0x0A01 ≠ 0xF then some .pf
  else none

/-- A LOCAL copy reaches its consumer or is dropped and counted (R326, R327, R329). -/
def State.localCopy (s : State) (port cls rule : Nat) (f : List Byte) (p : Parsed) (io : HostIo) : State :=
  match s.consumer port f p with
  | none => s.count 12 port 16
  | some .pf => s.pfDeliver port cls none rule f io
  | some .steward =>
    if s.mbx.state ≠ .serving then s.modNet (fun n => { n with stewardDrops := n.stewardDrops + 1 })
    else if 128 < s.stewardUnits + rxUnits f.length then s.modNet (fun n => { n with inputDrops := n.inputDrops + 1 })
    else s.modNet (fun n => { n with stewardIn := n.stewardIn ++ [(port, f)] })
  -- the time engine and the audio engine take their copies at once: PTP_* and RTP_PACKET
  | some .timeEngine =>
    -- a master port drops and counts every Announce (R280)
    let o := match p.l4 with | some l4 => l4 + 8 | none => p.l3
    match tfind s.cfg.masters port with
    | some m =>
      if m.enable && byteAt f o % 16 == 0xB then
        s.modTim (fun t => { t with masters := tmod t.masters port {} (fun x => { x with dropped := x.dropped + 1 }) })
      else s
    | none => s
  | some .audio => s

/-! ### Reception (R317 to R325, R330) -/

/-- The MAC address filter (R317). -/
def State.macFilter (s : State) (port : Nat) (c : NetPortCfg) (f : List Byte) : Bool :=
  let da := f.take 6
  nbit (byteAt f 0) 0 || c.promiscuous || (match tfind s.cfg.ifs port with | some i => da == i.mac | none => false)

/-- The deciding rule's index and its DEST and QOS bytes, or the default action (R323). -/
def State.decideFrame (s : State) (port : Nat) (c : NetPortCfg) (f : List Byte) (p : Parsed) : Nat × Nat × Nat :=
  match s.cfg.ingress.find? (fun r => ingressMatch r.2 port f p) with
  | some r => (r.1, byteAt r.2 48, byteAt r.2 49)
  | none => (0xFFFF, c.dest.toNat, c.qos.toNat)

/-- A port's MAC takes a frame, given without its check sequence. -/
def execFrameReceived (t port : Nat) (frame : List Byte) (fcsOk : Bool) (io : HostIo) (s : State) : Out :=
  let s := s.tick t
  match tfind s.cfg.ports port with
  | none => .next s
  | some c =>
    if !c.enable then .next s
    else if !(s.port port).link then .next (s.modPort port (fun p => { p with macErrors := p.macErrors + 1 }))
    else if frame.length < 60 then .next (s.count 12 port 1)
    else if 2044 < frame.length then .next (s.count 12 port 2)
    else if !fcsOk then .next (s.count 12 port 3)
    else if !s.macFilter port c frame then .next (s.count 12 port 4)
    else if be16 frame 12 = 0x8808 then .next (s.modPort port (fun p => { p with pauses := p.pauses + 1 }))
    else
      let s := s.count 12 port 0
      let p := parseFrame frame
      match malformedCause frame p with
      | some m =>
        let s := s.count 12 port 5
        .next (if c.malformedToPf && s.cfg.param 0 0x0A01 ≠ 0xF then s.pfDeliver port 0 (some m) 0xFFFF frame io else s)
      | none =>
        let (rule, dest, qos) := s.decideFrame port c frame p
        let s := if rule = 0xFFFF then s else s.count 14 rule 0
        let ports := (List.range 4).filter (fun n => nbit dest (n + 1) && n ≠ port)
        let isLocal := nbit dest 0
        let cls := nfld dest 7 5
        let convoy := 2 ≤ ports.length + b2n isLocal
        if ports.isEmpty && !isLocal then .next (s.count 12 port 6)
        else
          let s := s.count 12 port 7
          let s := ports.foldl (fun s n =>
            (s.admitCopy n (nfld qos 7 4) (nfld qos 1 0) cls .forwarded frame convoy (rxUnits frame.length)).2) s
          .next (if isLocal then s.localCopy port cls rule frame p io else s)

/-! ### Transmission (R331, R333, R334) -/

/-- Queue to serve by deficit round robin, with the deficits and the place in the round after the choice. -/
def drrPick (qs : Tbl (List Copy)) (w : Nat → Nat) : Nat → Nat → Tbl Nat → Option (Nat × Tbl Nat)
  | 0, _, _ => none
  | fuel + 1, q, d =>
    match tget qs q [] with
    | c :: _ =>
      if c.bytes.length + 4 ≤ tget d q 0 then some (q, tset d q (tget d q 0 - (c.bytes.length + 4)))
      else
        let n := (q + 11) % 12
        drrPick qs w fuel n (if (tget qs n []).isEmpty then terase d n else tset d n (tget d n 0 + 256 * w n))
    | [] =>
      let d := terase d q
      let n := (q + 11) % 12
      drrPick qs w fuel n (if (tget qs n []).isEmpty then d else tset d n (tget d n 0 + 256 * w n))

/-- The queue that a free port serves next (R331). -/
def State.pickQueue (s : State) (port : Nat) : Option (Nat × Tbl Nat × Nat) :=
  let p := s.port port
  match [15, 14, 13, 12].find? (fun q => !(tget p.queues q []).isEmpty) with
  | some q => some (q, p.deficits, p.next)
  | none => (drrPick p.queues (fun q => (s.cfg.queue port q).weight) 120 p.next p.deficits).map (fun x => (x.1, x.2, x.1))

/-- The frame as it leaves: the first matching VALID egress rule of its configuration applied (R333, R334). -/
def State.egress (s : State) (port : Nat) (c : Copy) : Option (List Byte) :=
  let p := parseFrame c.bytes
  match (s.cfgOf c.cfg).egress.find? (fun r => egressMatch r.2 port c.cls (originCode c.origin) p) with
  | some r => egressApply r.2 c.cls c.bytes
  | none => if 2044 < c.bytes.length then none else some (padFrame c.bytes)

/-- Hit counter of the egress rule that acts on a copy. -/
def State.egressHit (s : State) (port : Nat) (c : Copy) : State :=
  let p := parseFrame c.bytes
  match (s.cfgOf c.cfg).egress.find? (fun r => egressMatch r.2 port c.cls (originCode c.origin) p) with
  | some r => s.count 14 (2048 + r.1) 0
  | none => s

/-- What waited for a copy's transmit stamp has it: served time v, and the shadow's own time. -/
def State.txDone (s : State) (port : Nat) (w : TxFor) (cq : Option Nat) : State :=
  let v := s.stampAt (0x0814 + port)
  match w with
  | .nothing => s
  | .netTx k => match tfind s.net.txWaits k with
    | some x =>
      let s := s.modNet (fun n => { n with txWaits := terase n.txWaits k })
      s.cqComplete 0 x.qp x.cid x.noCqe x.sqHead 0 (toLe 4 x.mask ++ toLe 4 (secOf v) ++ toLe 4 (nsOf v)) cq
    | none => s
  | .delayReq n seq => s.modShadow n (fun h => match h.delayReq with
      | some (q, _) => if q = seq then { h with delayReq := some (q, some (h.value + s.dev (0x0814 + port) * 65536)) } else h
      | none => h)
  | .sync seq => match tfind s.cfg.masters port with
    | some m => s.sendPtp port m.transport false (s.ptpBytes port m.domain 8 0x0008 2 seq (fracOf v) m.logSync (ptpTime v))
    | none => s

def execPortTransmit (t port : Nat) (io : HostIo) (s : State) : Out :=
  let s := s.tick t
  if !s.linkUp port then .next s
  else match s.pickQueue port with
    | none => .next s
    | some (q, d, nx) => match tget (s.port port).queues q [] with
      | [] => .next s
      | c :: r =>
        let s := s.modPort port (fun p =>
          { p with queues := if r.isEmpty then terase p.queues q else tset p.queues q r, deficits := d, next := nx })
        let s := s.egressHit port c
        match s.egress port c with
        | none => .next ((s.count 12 port 13).txFail c.for_ io.cqFault)
        | some f =>
          let f := if c.oneStep then oneStepInsert f (s.stampAt (0x0814 + port)) else f
          .next (((s.count 12 port 12).emitOut (.eth port f)).txDone port c.for_ io.cqFault)

/-! ### Links (R316, R336, R380) -/

/-- A freeze of a port's equaliser ends (R380). -/
def State.endEqFreeze (s : State) (port : Nat) : State :=
  if tmem s.isl.eqFrozen port then
    ({ s with isl := { s.isl with eqFrozen := terase s.isl.eqFrozen port } }).raiseDev 0x0CC6 (srcIsland 98) 1
  else s

/-- Every copy queued on a port is dropped, counted under a statistic of its own (R336, 12 Failures). -/
def State.flushPort (s : State) (port stat : Nat) (cq : Option Nat) : State :=
  let cs := (s.port port).queues.flatMap (·.2)
  let s := (s.count 12 port stat cs.length).modPort port (fun p => { p with queues := [], deficits := [] })
  cs.foldl (fun s c => s.txFail c.for_ cq) s

def execEthLinkDown (t port : Nat) (io : HostIo) (s : State) : Out :=
  let s := s.tick t
  if !(s.port port).link then .next s
  else
    let s := (s.modPort port (fun p => { p with link := false })).flushPort port 14 io.cqFault
    .next ((s.endEqFreeze port).raiseDev 0x0A01 (srcPort port) 0)

/-- A port's link comes up; the equaliser of E0 and E1 adapts, to codes that the spec leaves open. -/
def execEthLinkUp (t port : Nat) (s : State) : Out :=
  let s := s.tick t
  let on := match tfind s.cfg.ports port with | some c => c.enable | none => false
  if !on || (s.port port).link then .next s
  else
    let s := if port < 2 then
        let (a, s) := s.free
        let (b, s) := s.free
        let (c, s) := s.free
        let tap (i : Nat) : Int := ((b / 63 ^ i % 63 : Nat) : Int) - 31
        let dfe := [tap 0, tap 1, tap 2, tap 3, tap 4]
        let s := s.modPort port (fun p => { p with ctle := a % 16, dfe, eye := c % 256 })
        let at_ := a % 16 == 0 || a % 16 == 15 || dfe.any (fun x => decide (31 ≤ x.natAbs))
        let was := s.isl.eqLimit.contains port
        let s : State := { s with isl := { s.isl with eqLimit := lput s.isl.eqLimit port at_ } }
        if at_ && !was then s.raiseDev 0x0CC4 (srcIsland 98) 1 else s
      else s
    -- a loopback that runs on the port ends with no result (R436)
    let s : State := { s with test := { s.test with loopback := s.test.loopback.filter (· ≠ port) } }
    .next ((s.modPort port (fun p => { p with link := true })).raiseDev 0x0A01 (srcPort port) 1)

/-! ### The steward's frames (R327) -/

/-- IGMPv3 report of a port's groups, source-specific where a filter is set (RFC 3376): record types for a filter and
for none. -/
def State.igmpReport (s : State) (port incl excl : Nat) : State :=
  let legs := s.cfg.legs port
  match tfind s.cfg.ifs port with
  | none => s
  | some i =>
    if legs.isEmpty then s else
      let rec_ (l : Word × Nat × Word) : List Byte :=
        if l.2.2 = 0 then toBe 1 excl ++ toBe 1 0 ++ toBe 2 0 ++ toBe 4 l.1.toNat
        else toBe 1 incl ++ toBe 1 0 ++ toBe 2 1 ++ toBe 4 l.1.toNat ++ toBe 4 l.2.2.toNat
      let m (sum : Nat) : List Byte := toBe 2 0x2200 ++ toBe 2 sum ++ toBe 2 0 ++ toBe 2 legs.length ++ legs.flatMap rec_
      s.sendMade port .steward (i.frame (mcastMac 0xE0000016) 5 0x0800
        (ipv4Alert 1 2 i.ipv4 0xE0000016 (m (inetSum (m 0)))))

/-- MLDv2 report of the PTP group for a port whose shadow uses UDP/IPv6. -/
def State.mldReport (s : State) (port : Nat) : State :=
  match tfind s.cfg.ifs port with
  | none => s
  | some i =>
    if !s.cfg.domains.any (fun d => d.2.enable && d.2.port == port && d.2.transport == 2) then s else
      let dst := toBe 16 0xFF020000000000000000000000000016
      let m (sum : Nat) : List Byte := toBe 2 0x8F00 ++ toBe 2 sum ++ toBe 2 0 ++ toBe 2 1 ++ toBe 1 4 ++ toBe 1 0 ++ toBe 2 0 ++
        toBe 16 0xFF0E0000000000000000000000000181
      let hbh := toBe 8 0x3A00050200000100
      s.sendMade port .steward (i.frame (mcastMac6 dst) 5 0x86DD
        (ipv6Packet 1 0 i.ipv6 dst (hbh ++ m (v6Sum i.ipv6 dst 58 (m 0)))))

/-- The steward's answer to a frame at its input. -/
def State.stewardAnswer (s : State) (port : Nat) (f : List Byte) : State :=
  match tfind s.cfg.ifs port with
  | none => s
  | some i =>
    let p := parseFrame f
    let o := p.l3
    let sa := slice f 6 6
    if p.etype = some 0x0806 then
      if be16 f (o + 6) = 1 then
        s.sendMade port .steward (i.frame sa 5 0x0806 (toBe 6 0x000108000604 ++ toBe 2 2 ++ i.mac ++ toBe 4 i.ipv4.toNat ++
          slice f (o + 8) 10))
      else s
    else match p.ip, p.proto, p.l4 with
      | some 4, some 2, _ => if byteAt f (o + 4 * (byteAt f o % 16)) = 0x11 then s.igmpReport port 1 2 else s
      | some 4, some 1, some l4 =>
        if byteAt f l4 = 8 then
          let rest := slice f (l4 + 4) (p.payload - 4)
          let m (sum : Nat) : List Byte := toBe 2 0 ++ toBe 2 sum ++ rest
          s.sendMade port .steward (i.frame sa 5 0x0800
            (ipv4Packet 0 64 1 i.ipv4 (BitVec.ofNat 32 (p.sip.getD 0)) (m (inetSum (m 0)))))
        else s
      | some 6, some 58, some l4 =>
        let src := slice f (o + 8) 16
        if byteAt f l4 = 128 then
          let m (sum : Nat) : List Byte := toBe 2 0x8100 ++ toBe 2 sum ++ slice f (l4 + 4) (p.payload - 4)
          s.sendMade port .steward (i.frame sa 5 0x86DD (ipv6Packet 64 58 i.ipv6 src (m (v6Sum i.ipv6 src 58 (m 0)))))
        else if byteAt f l4 = 135 ∧ slice f (l4 + 8) 16 = i.ipv6 then
          let m (sum : Nat) : List Byte := toBe 2 0x8800 ++ toBe 2 sum ++ toBe 4 0x60000000 ++ i.ipv6 ++ toBe 2 0x0201 ++ i.mac
          s.sendMade port .steward (i.frame sa 5 0x86DD (ipv6Packet 255 58 i.ipv6 src (m (v6Sum i.ipv6 src 58 (m 0)))))
        else s
      | _, _, _ => s

def execStewardNetRx (t : Nat) (s : State) : Out :=
  let s := s.tick t
  if s.mbx.state ≠ .serving then .next s
  else match s.net.stewardIn with
    | [] => .next s
    | (port, f) :: r => .next ((s.modNet (fun n => { n with stewardIn := r })).stewardAnswer port f)

/-! ### Commands (Table 12-9) -/

/-- NET_PORT_SET. -/
def netPortSetDef : CmdDef :=
  { code := 0x0A01, argc := 2, tenant := false, staged := true, masks := [0x1FF7, 0xFFFF] }

/-- NET_PORT_SET's work. -/
def netPortSetWork (tag : Nat) (_io : HostIo) (a : List Word) (s : State) : Answer :=
    let w := arg a 1
    let q := fld (arg a 2) 15 8
    if fld w 7 6 = 3 ∨ q % 4 = 3 ∨ nfld q 3 2 ≠ 0 then .status 0x0012 s
    else s.stage tag 0x0A01 (.netPort (fld w 1 0)
      { enable := bit w 2, mode := fld w 5 4, speed := fld w 7 6, autoneg := bit w 8, txDelay := bit w 9, rxDelay := bit w 10
        promiscuous := bit w 11, malformedToPf := bit w 12, dest := BitVec.ofNat 8 (fld (arg a 2) 7 0), qos := BitVec.ofNat 8 q })

def execNetPortSet (t tag : Nat) (io : HostIo) (s : State) : Out :=
  .next (s.run netPortSetDef (netPortSetWork tag io) t tag io)

/-- NET_IF_SET. -/
def netIfSetDef : CmdDef :=
  { code := 0x0A02, argc := 9, tenant := false, staged := true, masks := [0x0FFF0003, 0xFFFFFFFF, 0xFFFF, 0xFFFFFFFF, 0x3F] }

/-- NET_IF_SET's work. -/
def netIfSetWork (tag : Nat) (_io : HostIo) (a : List Word) (s : State) : Answer :=
    let w := arg a 1
    let vid := fld w 27 16
    if vid = 4095 ∨ 32 < fld (arg a 5) 5 0 then .status 0x0012 s
    else s.stage tag 0x0A02 (.netIf (fld w 1 0)
      { vid, mac := (wordsLe [arg a 2, arg a 3]).take 6
        ipv4 := BitVec.ofNat 32 (beNat (wordsLe [arg a 4])), prefix_ := fld (arg a 5) 5 0
        ipv6 := wordsLe [arg a 6, arg a 7, arg a 8, arg a 9] })

def execNetIfSet (t tag : Nat) (io : HostIo) (s : State) : Out :=
  .next (s.run netIfSetDef (netIfSetWork tag io) t tag io)

/-- Rule tables: ingress or egress, entries and bytes of a rule. -/
def ruleSize (egress : Bool) : Nat := if egress then 48 else 64
def ruleCount (egress : Bool) : Nat := if egress then 1024 else 2048

/-- Bytes cut into pieces of n. -/
def chunks (n : Nat) : Nat → List Byte → List (List Byte)
  | 0, _ => []
  | fuel + 1, b => if b.isEmpty then [] else b.take n :: chunks n fuel (b.drop n)

/-- NET_RULE_WRITE's checks in order: range, translation, format (R338). -/
def State.ruleWrite (s : State) (tag : Nat) (a : List Word) (io : HostIo) : Answer :=
  let iova := ofTwo (arg a 1) (arg a 2)
  let len := (arg a 3).toNat
  let e := bit (arg a 4) 0
  let first := fld (arg a 4) 26 16
  let n := len / ruleSize e
  if len % ruleSize e ≠ 0 then .status 0x0A04 s
  else if ruleCount e < first + n then .status 0x0A03 s
  else match s.hostRead tag iova len 3 io.dataFault with
    | .error (st, s) => .status st s
    | .ok s =>
      let rules := chunks (ruleSize e) n ((io.data ++ List.replicate len 0).take len)
      if !rules.all (if e then egressFormat else ingressFormat) then .status 0x0A04 s
      else s.stage tag 0x0A03 (.netRules e first rules) len

/-- NET_RULE_WRITE. -/
def ruleWriteDef : CmdDef :=
  { code := 0x0A03, argc := 4, tenant := false, staged := true, masks := [0xFFFFFFFF, 0xFFFFFFFF, 0xFFFFFFFF, 0x07FF0001], pend := true }

/-- NET_RULE_WRITE's work. -/
def netRuleWriteWork (tag : Nat) (io : HostIo) (a : List Word) (s : State) : Answer :=
  s.ruleWrite tag a io

def execNetRuleWrite (t tag : Nat) (io : HostIo) (s : State) : Out :=
  .next (s.run ruleWriteDef (netRuleWriteWork tag io) t tag io)

/-- A read of rules or counters into host memory: items of a size from an index (R338). -/
def State.ruleRead (s : State) (tag : Nat) (a : List Word) (io : HostIo) (size : Nat) (item : Bool → Nat → List Byte) : Answer :=
  let iova := ofTwo (arg a 1) (arg a 2)
  let len := (arg a 3).toNat
  let e := bit (arg a 4) 0
  let first := fld (arg a 4) 26 16
  let n := len / size
  if len % size ≠ 0 then .status 0x0012 s
  else if ruleCount e < first + n then .status 0x0A03 s
  else
    let bytes := (List.range n).flatMap (fun i => item e (first + i))
    match s.hostWrite tag iova bytes io.dataFault with
    | (0, s) => .ok [wd n] s
    | (st, s) => .status st s

/-- NET_RULE_READ. -/
def netRuleReadDef : CmdDef :=
  { code := 0x0A04, argc := 4, tenant := false, masks := [0xFFFFFFFF, 0xFFFFFFFF, 0xFFFFFFFF, 0x07FF0001] }

/-- NET_RULE_READ's work. -/
def netRuleReadWork (tag : Nat) (io : HostIo) (a : List Word) (s : State) : Answer :=
  s.ruleRead tag a io (ruleSize (bit (arg a 4) 0)) (fun e i =>
      tget (if e then s.cfg.egress else s.cfg.ingress) i (List.replicate (ruleSize e) 0))

def execNetRuleRead (t tag : Nat) (io : HostIo) (s : State) : Out :=
  .next (s.run netRuleReadDef (netRuleReadWork tag io) t tag io)

/-- NET_RULE_HITS. -/
def netRuleHitsDef : CmdDef :=
  { code := 0x0A05, argc := 4, tenant := false, masks := [0xFFFFFFFF, 0xFFFFFFFF, 0xFFFFFFFF, 0x07FF0001] }

/-- NET_RULE_HITS's work. -/
def netRuleHitsWork (tag : Nat) (io : HostIo) (a : List Word) (s : State) : Answer :=
  s.ruleRead tag a io 8 (fun e i => toLe 8 (s.counter 14 (if e then 2048 + i else i) 0))

def execNetRuleHits (t tag : Nat) (io : HostIo) (s : State) : Out :=
  .next (s.run netRuleHitsDef (netRuleHitsWork tag io) t tag io)

/-- NET_QUEUE_SET. -/
def netQueueSetDef : CmdDef :=
  { code := 0x0A06, argc := 4, tenant := false, staged := true, masks := [0xFFF3, 0x7FFF, 0x7FFF, 0x7FFF] }

/-- NET_QUEUE_SET's work. -/
def netQueueSetWork (tag : Nat) (_io : HostIo) (a : List Word) (s : State) : Answer :=
    let w := fld (arg a 1) 15 8
    if w = 0 ∨ 64 < w then .status 0x0012 s
    else s.stage tag 0x0A06 (.netQueue (fld (arg a 1) 1 0) (fld (arg a 1) 7 4)
      { weight := w, green := fld (arg a 2) 14 0, yellow := fld (arg a 3) 14 0, red := fld (arg a 4) 14 0 })

def execNetQueueSet (t tag : Nat) (io : HostIo) (s : State) : Out :=
  .next (s.run netQueueSetDef (netQueueSetWork tag io) t tag io)

/-- NET_PORT_STATUS. -/
def netPortStatusDef : CmdDef :=
  { code := 0x0A07, argc := 1, tenant := false, masks := [3] }

/-- NET_PORT_STATUS's work. -/
def netPortStatusWork (_tag : Nat) (_io : HostIo) (a : List Word) (s : State) : Answer :=
    let n := fld (arg a 1) 1 0
    let p := s.port n
    let (mode, speed) := match tfind s.cfg.ports n with | some c => (c.mode, c.speed) | none => (0, 0)
    let k (i : Nat) : Nat := s.counter 12 n i
    .ok [ wd (b2n (s.linkUp n) + 2 * mode + 8 * speed), wd (p.ctle + 256 * unsgn 8 (p.dfe.getD 0 0) + 65536 * p.eye)
        , wd p.units, wd (k 0), wd (k 1 + k 2 + k 3 + p.macErrors), wd (k 5), wd (k 6), wd (k 10), wd (k 14), wd (k 12) ] s

def execNetPortStatus (t tag : Nat) (io : HostIo) (s : State) : Out :=
  .next (s.run netPortStatusDef (netPortStatusWork tag io) t tag io)

/-! ### The PF's queue operations (R335, R338) -/

def execNetTx (t q : Nat) (io : HostIo) (s : State) : Out :=
  let s := s.tick t
  match takeOp 0x0A08 (s.qp 0 q).ops with
  | none => .next s
  | some (o, rest) =>
    let s := s.modQp 0 q (fun p => { p with ops := rest })
    let w := o.params.getD 0 0
    let ports := onesOf 4 (fld w 3 0)
    let okPort (n : Nat) : Bool := match tfind s.cfg.ports n with | some c => c.enable | none => false
    if ports.isEmpty ∨ !ports.all okPort ∨ o.dataLen < 60 ∨ 2044 < o.dataLen ∨ fld w 9 8 = 3 then
      .next (s.opDone 0 q o 0x0A06 [] io)
    else match s.hostRead 0 o.dataIova o.dataLen 3 io.dataFault with
      | .error (st, s) => .next (s.opDone 0 q o st [] io)
      | .ok s =>
        let f := (io.data ++ List.replicate o.dataLen 0).take o.dataLen
        let (mask, s) := ports.foldl (fun (m, s) n =>
          match s.admitCopy n (fld w 7 4) (fld w 9 8) (fld w 14 12) .pf f (decide (2 ≤ ports.length)) with
          | (true, s) => (m ||| 2 ^ n, s)
          | (false, s) => (m, s)) (0, s)
        match (if bit w 15 then ports.find? (fun n => nbit mask n) else none) with
        | none => .next (s.opDone 0 q o 0 (toLe 4 mask ++ toLe 8 0) io)
        | some n =>
          -- the completion waits for the transmit stamp of the lowest admitted port's copy
          let k := s.net.nextTx
          let wait : TxWait := { qp := q, cid := o.cid, noCqe := o.noCqe, sqHead := o.sqHead, mask := mask }
          let s := s.modNet (fun x => { x with nextTx := k + 1, txWaits := tset x.txWaits k wait })
          let mark (l : List Copy) : List Copy := match l.reverse with
            | c :: r => ({ c with for_ := .netTx k } :: r).reverse
            | [] => []
          if s.linkUp n then .next (s.modPort n (fun p => { p with queues := tupd p.queues (fld w 7 4) mark }))
          else .next (s.txFail (.netTx k) io.cqFault)

def execNetRxPost (t q : Nat) (io : HostIo) (s : State) : Out :=
  let s := s.tick t
  match takeOp 0x0A09 (s.qp 0 q).ops with
  | none => .next s
  | some (o, rest) =>
    let s := s.modQp 0 q (fun p => { p with ops := rest })
    if o.resLen < 2048 then .next (s.opDone 0 q o 0x0011 [] io)
    else .next (s.modNet (fun n => { n with rxPosts := n.rxPosts ++
      [{ cid := o.cid, noCqe := o.noCqe, resIova := o.resIova, resLen := o.resLen, sqHead := o.sqHead, qp := q }] }))

end Sys2Proof.Machine
end

