-- ==== Sys2Proof/Machine/Effects.lean ====
section
/-! DEFINITION. What a commit point does (03_manifests.md, with the effects that each chapter gives its items at
the commit), and how a manifest closes. -/

namespace Sys2Proof.Machine

/-! ### Closing (R88, R397) -/

/-- A manifest is CLOSED with an outcome; the last four outcomes of an instance are kept (R88). -/
def State.closeMan (s : State) (id outcome : Nat) : State :=
  match tfind s.man.mans id with
  | none => s
  | some m =>
    let k := s.man.order
    let mans := tupd s.man.mans id (fun m => { m with state := .closed, outcome, order := k })
    let newer (o : Nat) : Nat := (mans.filter (fun p => p.2.tag == m.tag && p.2.state == .closed && decide (o < p.2.order))).length
    { s with man := { s.man with
        order := k + 1
        mans := mans.filter (fun p => !(p.2.tag == m.tag && p.2.state == .closed && decide (4 ≤ newer p.2.order))) } }

/-- Keys whose import waits for a manifest are released with it (R397). -/
def State.dropImports (s : State) (id : Nat) : State :=
  let ks := s.sec.keys.filter (fun p => p.2.pending == some id)
  ks.foldl (fun s p =>
    let s := s.releaseTree p.2.object
    { s with sec := { s.sec with keys := terase s.sec.keys p.1 } }) s

/-- A manifest is rolled back, expires or is withdrawn: nothing of it takes effect. -/
def State.endMan (s : State) (id outcome : Nat) : State := (s.dropImports id).closeMan id outcome

/-! ### Effects of entries at the commit point -/

/-- A commit of epoch.length_s moves the boundary armed (R425). -/
def State.epochLength (s : State) : State :=
  let b := min s.stat.boundary (nextMultiple s.servedSec (s.devN 0x0B01))
  if b = s.stat.boundary then s else s.armBoundary b

/-- What follows from an entry as its configuration comes into force; `old` is the page set before. -/
def State.entryEffect (old : Cfg) (s : State) (op : StagedOp) : State :=
  match op with
  | .param k _ => if k % 65536 = 0x0B01 then s.epochLength else s.liveSet (k % 65536)
  | .rights t a =>
    if tget old.rights t 0x7FFE = a then s
    else
      let s := if s.enabled t then s.notice t (noticeWord 0x05 t) else s
      s.notice 0 (noticeWord 0x05 t)
  | .laneBind l _ | .laneUnbind l =>
    if tfind old.lanes l ≠ tfind s.cfg.lanes l && (s.unit l).state == .present then s.modUnit l (fun u => { u with reassign := true })
    else s
  | .denySwap t =>
    s.modFare (fun a => { a with shadows := tset a.shadows t { list := old.deny t, complete := false } })
  | .cartBind n _ => s.cartReevaluate n
  | .cartFormat n d j c => s.cartFormat n d j c
  | .cartErase n => s.cartErase n
  | .timeDomain n d =>
    let s := s.domainCommitted n (tfind old.domains n) (some d)
    if d.enable then s.mldReport d.port else s
  | .audRx _ c =>
    let ports := match c.portB with | some b => [c.portA, b] | none => [c.portA]
    ports.foldl (fun s p => s.igmpReport p 3 4) s
  | .audBus .. => s.assignBuses
  | .netPort n c =>
    if c.enable then s
    else ((s.modPort n (fun p => { p with link := false })).flushPort n 14 none).endEqFreeze n
  | .keyImport k _ => { s with sec := { s.sec with keys := tupd s.sec.keys k (fun r => { r with pending := none }) } }
  | .loops m =>
    let on (n : Nat) : Bool := m.getLsbD n
    { s with sec := { s.sec with bat := { s.sec.bat with mask := m }, mismatch := s.sec.mismatch.filter on
                                 loopOut := s.sec.loopOut.filter on } }
  | .debugArm => { s with sec := { s.sec with debugArmed := some s.now } }
  | .segEnable .. | .mpuMode .. | .mpuRegion .. | .fareTable .. | .keyBind .. | .denyDelta .. | .castePlan _ | .timeMaster ..
  | .audTx .. | .audTdm .. | .clips .. | .netIf .. | .netRules .. | .netQueue .. => s

/-- Quantities whose pool a manifest's entries change in size or partition (R81, Table 16-3). -/
def StagedOp.pools : StagedOp → List Nat
  | .param k _ => if k % 65536 = 0x0303 || k % 65536 = 0x0304 then [2] else if k % 65536 = 0x0901 then [7] else []
  | .netQueue .. => [5]
  | .audRx .. => [7]
  | .castePlan _ => [9]
  | _ => []

/-- One item's version rises (03 Model). -/
def bumpVersion (l : List (Item × Nat)) (i : Item) : List (Item × Nat) :=
  match l with
  | [] => [(i, 1)]
  | p :: r => if p.1 = i then (i, (p.2 + 1) % 2 ^ 32) :: r else p :: bumpVersion r i

/-- The commit point (R78): a new page set, the pointer moved, the items' versions raised, the manifest APPLYING; then
what its entries bring with it. -/
def State.commitPoint (s : State) (id : Nat) : State :=
  match tfind s.man.mans id with
  | none => s
  | some m =>
    let old := s.cfg
    let new := s.resulting m
    let es := effective m.entries
    let ver := (tkeys s.man.pages).foldl max 0 + 1
    let items := (es.flatMap (fun e => e.op.items)).eraseDups
    let windows := (es.flatMap (fun e => e.op.pools)).map (fun q => (q, 0))
    let mans := tupd s.man.mans id (fun m =>
      { m with state := .applying, sec := s.servedSec, ns := s.servedNs, at_ := s.now, windows })
    let versions := items.foldl bumpVersion s.man.versions
    let s : State := { s with man := { s.man with pages := tset s.man.pages ver new, cur := ver, versions, mans } }
    (es.foldl (fun s e => s.entryEffect old e.op) s).prune

end Sys2Proof.Machine
end

