-- ==== Sys2Proof/Machine/Manifest.lean ====
section
/-! DEFINITION. Manifests: opening, committing, rolling back, freezing (03_manifests.md). -/

namespace Sys2Proof.Machine

/-- The manifest of an ID as an instance sees it: a tenant only its own (R87, R88). -/
def State.manOf (s : State) (tag id : Nat) : Option Manifest :=
  match tfind s.man.mans id with
  | some m => if m.tag = tag ∨ isPf tag then some m else none
  | none => none

/-- A manifest's event: its ID, with two words (Table 18-4). -/
def State.manEvent (s : State) (code id : Nat) (m : Manifest) (a b : Word) : State :=
  s.raise code srcSteward m.tag m.tag id (some (a, b, 0))

/-- The steward withdraws a manifest (R83, R87, Table 3-7). -/
def State.withdraw (s : State) (id status : Nat) : State :=
  match tfind s.man.mans id with
  | none => s
  | some m => (s.endMan id status).manEvent 0x0202 id m (wd status) 0

/-- An instance's manifests when it is disabled (Table 3-7): those not past their commit point go. -/
def State.dropManifests (s : State) (tag : Nat) : State :=
  let ms := s.man.mans.filter (fun p => p.2.tag == tag)
  ms.foldl (fun s p =>
    if p.2.state = .open_ ∨ p.2.state = .checking then s.endMan p.1 0x001B
    else if p.2.state = .scheduled ∨ p.2.state = .frozen then s.withdraw p.1 0x001B else s) s

/-- Open and checking manifests of every instance are rolled back (R67, Table 3-7). -/
def State.rollbackOpen (s : State) : State :=
  let ms := s.man.mans.filter (fun p => p.2.state == .open_ || p.2.state == .checking)
  ms.foldl (fun s p => s.endMan p.1 0x001B) s

/-- MAN_BEGIN. -/
def manBeginDef : CmdDef :=
  { code := 0x0201, argc := 0, tenant := true }

/-- MAN_BEGIN's work. -/
def manBeginWork (tag : Nat) (_io : HostIo) (_a : List Word) (s : State) : Answer :=
    if s.lifecycle = 0 ∨ s.lifecycle = 3 then .status 0x001E s
    else if (s.openMan tag).isSome then .status 0x0202 s
    else
      let n := tget s.man.serials tag 0 % 65535 + 1
      let id := tag * 65536 + n
      let man := { s.man with serials := tset s.man.serials tag n
                              mans := tset s.man.mans id { tag, serial := n, touched := s.now } }
      .ok [wd id] { s with man }

/-- MAN_BEGIN (R69, R71, R90). -/
def execManBegin (t tag : Nat) (io : HostIo) (s : State) : Out :=
  .next (s.run manBeginDef (manBeginWork tag io) t tag io)

/-- Result words of a commit point (Table 3-5). -/
def State.commitWords (s : State) : List Word := [0, wd s.servedSec, wd s.servedNs]

/-- A manifest passes its checks: it is scheduled, its commit point is written, or that waits for the boundary's
commit points (R82, R85); or it returns to OPEN with the first failure (R75). -/
def State.commitWork (s : State) (id : Nat) (aligned : Bool) : Answer :=
  match tfind s.man.mans id with
  | none => .status 0x020B s
  | some m =>
    match s.commitChecks id m with
    | some (step, f) => .reply f.1 (failWords m step f) (s.modMan id (fun m => { m with state := .open_, touched := s.now }))
    | none =>
      if aligned then
        let b := if s.stat.frozenPast then nextMultiple s.stat.boundary (s.devN 0x0B01) else s.stat.boundary
        let k := s.man.order
        let s := s.modMan id (fun m => { m with state := .scheduled, boundary := b, order := k, touched := s.now })
        .ok [1, wd b, 0] { s with man := { s.man with order := k + 1 } }
      else if s.stat.frozenPast then
        .hold (.commit id) 0 [] (s.modMan id (fun m => { m with state := .checking, touched := s.now }))
      else
        let s := s.commitPoint id
        .ok s.commitWords s

/-- MAN_COMMIT's checks before it runs (R69, R86, R87). -/
def State.commitPre (s : State) (tag : Nat) (a : List Word) : Option Nat :=
  match tfind s.man.mans (arg a 1).toNat with
  | none => some 0x020B
  | some m =>
    if m.tag ≠ tag then some 0x020B
    else if m.state ≠ .open_ then some 0x0201
    else if bit (arg a 2) 0 && s.man.mans.any (fun p => p.2.tag == tag && p.2.state == .scheduled) then some 0x0018
    else none

/-- MAN_COMMIT. -/
def manCommitDef : CmdDef :=
  { code := 0x0202, argc := 2, tenant := true, masks := [0xFFFFFFFF, 1], pend := true }

/-- MAN_COMMIT put off. -/
def manCommitPut (tag : Nat) (a : List Word) (s : State) : Except Nat State :=
        match s.commitPre tag a with
      | some st => .error st
      | none => .ok (s.modMan (arg a 1).toNat (fun m => { m with state := .checking, touched := s.now }))

/-- MAN_COMMIT's work. -/
def manCommitWork (tag : Nat) (_io : HostIo) (a : List Word) (s : State) : Answer :=
      match s.commitPre tag a with
      | some st => .status st s
      | none => s.commitWork (arg a 1).toNat (bit (arg a 2) 0)

/-- MAN_COMMIT (R75, R78, R82, R86): while its checks go on under a ticket the manifest is CHECKING. -/
def execManCommit (t tag : Nat) (io : HostIo) (s : State) : Out :=
  .next (s.runWith manCommitDef (fun _ => true) (fun _ => false) (manCommitPut tag) (manCommitWork tag io) t tag io)

/-- MAN_ROLLBACK. -/
def manRollbackDef : CmdDef :=
  { code := 0x0203, argc := 1, tenant := true }

/-- MAN_ROLLBACK's work. -/
def manRollbackWork (tag : Nat) (_io : HostIo) (a : List Word) (s : State) : Answer :=
    let id := (arg a 1).toNat
    match s.manOf tag id with
    | none => .status 0x020B s
    | some m =>
      if m.state = .frozen ∨ m.state = .applying then .status 0x020A s
      else if m.state ≠ .open_ ∧ m.state ≠ .scheduled then .status 0x0201 s
      else if m.tag ≠ tag then .ok [] (s.withdraw id 0x001B)
      else .ok [] (s.endMan id 0x001B)

/-- MAN_ROLLBACK (R87). -/
def execManRollback (t tag : Nat) (io : HostIo) (s : State) : Out :=
  .next (s.run manRollbackDef (manRollbackWork tag io) t tag io)

/-- Code of a manifest's state (Table 3-2). -/
def manCode : ManState → Nat
  | .open_ => 1 | .checking => 2 | .scheduled => 3 | .frozen => 4 | .applying => 5 | .closed => 6

/-- MAN_STATUS. -/
def manStatusDef : CmdDef :=
  { code := 0x0204, argc := 1, tenant := true }

/-- MAN_STATUS's work. -/
def manStatusWork (tag : Nat) (_io : HostIo) (a : List Word) (s : State) : Answer :=
    let m := if arg a 1 = 0 then (s.openMan tag).map (·.2) else s.manOf tag (arg a 1).toNat
    match m with
    | none => .status 0x020B s
    | some m =>
      .ok [wd (manCode m.state), wd m.entries.length, wd m.bulk, wd m.boundary
          , if m.state = .closed then wd m.outcome else 0] s

/-- MAN_STATUS (R87, R88). -/
def execManStatus (t tag : Nat) (io : HostIo) (s : State) : Out :=
  .next (s.run manStatusDef (manStatusWork tag io) t tag io)

/-- The open timeout (R89). -/
def execManOpenTimeout (t tag : Nat) (s : State) : Out :=
  let s := s.tick t
  match s.openMan tag with
  | some (id, m) =>
    if s.now < m.touched + s.insN tag 0x0201 * 1000000 then .next s
    else .next ((s.endMan id 0x001B).raise 0x0203 srcSteward m.tag m.tag id)
  | none => .next s

/-- The freeze point (R82, R83, R549): scheduled manifests of the armed boundary have their checks rerun, in scheduling
order. -/
def State.freezePoint (s : State) : State :=
  let s := { s with stat := { s.stat with frozenPast := true } }
  let due := s.man.mans.filter (fun p => p.2.state == .scheduled && decide (p.2.boundary ≤ s.stat.boundary))
  let ordered := sortBy (fun a b => decide (a.2.order ≤ b.2.order)) due
  ordered.foldl (fun s p =>
    match s.commitChecks p.1 p.2 with
    | none => s.modMan p.1 (fun m => { m with state := .frozen })
    | some (_, f) => s.withdraw p.1 f.1) s

/-- The commit points of a boundary, one per frozen manifest in scheduling order (R84). -/
def State.boundaryCommits (s : State) : State :=
  let ms := s.man.mans.filter (fun p => p.2.state == .frozen)
  (sortBy (fun a b => decide (a.2.order ≤ b.2.order)) ms).foldl (fun s p => s.commitPoint p.1) s

/-- DEFERRED_IMMEDIATE_COMMIT (R85). -/
def execDeferredImmediateCommit (t tag : Nat) (s : State) : Out :=
  let s := s.tick t
  match s.mbx.held with
  | some h => match h.wait with
    | .commit id =>
      if h.tag ≠ tag || s.stat.frozenPast then .next s
      else
        let s := { s with mbx := { s.mbx with held := none } }
        let s := s.commitPoint id
        .next ((s.complete tag 0 s.commitWords).take)
    | _ => .next s
  | none => .next s

/-- A flush ends (R79): EV_MAN_APPLIED, and the manifest is CLOSED; the audio engine takes the pages in force once no
other flush runs (R315). -/
def execManFlushEnd (t man : Nat) (s : State) : Out :=
  let s := s.tick t
  match tfind s.man.mans man with
  | some m =>
    if m.state ≠ .applying then .next s
    else
      let s := (s.closeMan man 0).manEvent 0x0201 man m (wd m.sec) (wd m.ns)
      .next (if s.man.mans.any (fun p => p.2.state == .applying) then s else s.audioFlush)
  | none => .next s

end Sys2Proof.Machine
end

