-- ==== Sys2Proof/Machine/Disable.lean ====
section
/-! DEFINITION. Disable points and the disable sequence, PCI Express link events (R116 to R119, R546 of
04_instances.md; R475, R476 of 19_startup_lifecycle.md). -/

namespace Sys2Proof.Machine

/-! ### The disable sequence (Table 4-12) -/

/-- An instance's posted or TAKEN command is abandoned without a reply (R65). -/
def State.abandonCmd (s : State) (tag : Nat) : State :=
  let s := s.modPage tag (fun p => { p with go := false, taken := false, ready := false })
  match s.mbx.held with
  | some h => if h.tag = tag then { s with mbx := { s.mbx with held := none } } else s
  | none => s

/-- Event records due to an instance are not written, its windows are discarded, its masks cleared, and its queue takes
no more (Table 4-12 step 2, R457, 18 Collisions). -/
def State.disableEvents (s : State) (tag : Nat) : State :=
  let s := s.modEvq tag (fun e => { e with active := false, mask := [], copyMask := [] })
  let raised := s.evt.raised.map (fun r => { r with rcpt := r.rcpt.filter (fun p => p.1 ≠ tag) })
  { s with evt := { s.evt with
      raised := raised.filter (fun r => !r.rcpt.isEmpty)
      heldBack := s.evt.heldBack.filter (fun r => !r.rcpt.all (fun p => p.1 = tag))
      windows := s.evt.windows.filter (fun p => p.2.rcpt ≠ tag) } }

/-- An instance's batch jobs: queued ones are freed, running ones stop at their next job boundary (Table 4-12 step 4). -/
def State.discardJobs (s : State) (tag : Nat) : State :=
  let js := (s.sea.jobs.filter (fun p => p.2.tag == tag)).map (·.1)
  js.foldl (fun s n =>
    let s := (s.modJob n (fun j => { j with discard := true })).unwait (.piece n)
    match s.job n with
    | some j => if j.pieces = 0 then s.endJob n 0 [] none else s
    | none => s) s

/-- The disable point of an instance and steps 1 to 5 of Table 4-12. -/
def State.disable (s : State) (tag : Nat) : State :=
  if (s.inst tag).phase ≠ .on then s else
    let s := s.modInst tag (fun i =>
      { i with phase := .disabling, disabledAt := s.now, qps := tmap i.qps (fun _ q => { q with ops := [] }) })
    let s := ((s.abandonCmd tag).disableEvents tag).dropManifests tag
    let s := s.discardJobs tag
    let lanes := (s.fare.sessions.filter (fun p => tag ≠ 0 && p.2.tenant == tag)).map (·.1)
    (lanes.foldl (fun s l => s.markAbort l 0x37) s).take

/-- Every instance enabled passes its disable point. -/
def State.disableAll (s : State) (f : Nat → Bool) : State :=
  (s.enabledTags.filter f).foldl State.disable s

/-- Tables, rings, faults and snapshots of a disabled instance are gone (Table 4-12 step 7); a slice's parameters and
rights take their defaults (R546). -/
def State.disabled (s : State) (tag : Nat) : State :=
  let s := (s.tlbDrop tag 0 0).modInst tag (fun _ => {})
  let s := s.modEvq tag (fun e => { lost := e.lost, lostPrev := e.lostPrev, masked := e.masked, lostPending := e.lostPending, lostDue := e.lostDue })
  let s := if isPf tag then { s with net := { s.net with rxPosts := [] } } else s
  if isSlice tag then
    s.modCfg (fun c => { c with params := c.params.filter (fun p => p.1 / 65536 ≠ tag), rights := terase c.rights tag })
  else s

/-- A function's instance is enabled again once its sequence has ended: after an FLR with the link up, or while VF Enable
covers it (R118, 04 Start-up). -/
def State.reenable (s : State) (tag : Nat) : State :=
  if isPf tag then (if s.ins.linkUp && !s.ins.insts.any (fun p => p.2.phase == .disabling) then s.enable 0 else s)
  else if isVf tag && s.ins.vfEnable && decide (tag ≤ s.ins.numVfs) then s.enable tag
  else s

/-- DISABLE_REVOKE: once the instance's sessions have ended, steps 6 and 7 (R116, R140); INS_SLICE_DESTROY may then
reply. -/
def execDisableRevoke (t tag : Nat) (s : State) : Out :=
  let s := s.tick t
  if (s.inst tag).phase ≠ .disabling || s.fare.sessions.any (fun p => tag ≠ 0 && p.2.tenant == tag && p.2.outcome.isNone) then .next s
  else
    let own (n : Nat) : Bool := (s.obj n).owner == tag
    let s := (s.bumpAll own own).disabled tag
    let s := match s.mbx.held with
      | some h => if h.wait == HeldFor.teardown tag then { s with mbx := { s.mbx with held := some { h with wait := .broadcast } } } else s
      | none => s
    .next ((s.reenable tag).ackHeld).take

/-! ### Disable points (Table 4-11) -/

/-- INS_SLICE_DESTROY. -/
def insSliceDestroyDef : CmdDef :=
  { code := 0x0309, argc := 1, tenant := false, masks := [0x3FF] }

/-- INS_SLICE_DESTROY's work. -/
def insSliceDestroyWork (_tag : Nat) (_io : HostIo) (a : List Word) (s : State) : Answer :=
    let n := fld (arg a 1) 9 0
    if !isSlice n || !s.enabled n then .status 0x0306 s
    else .hold (.teardown n) 0 [] (s.disable n)

/-- INS_SLICE_DESTROY (R114). -/
def execInsSliceDestroy (t tag : Nat) (io : HostIo) (s : State) : Out :=
  .next (s.run insSliceDestroyDef (insSliceDestroyWork tag io) t tag io)

/-- Initiate Function Level Reset of a VF or of the PF; the function's configuration registers take their reset values. -/
def execFunctionLevelReset (t fn : Nat) (s : State) : Out :=
  let s := s.tick t
  if fn = 0 then
    let s := s.disableAll (fun _ => true)
    .next { s with ins := { s.ins with fns := [], vfEnable := false, numVfs := 0, pasidEn := false } }
  else if fn ≤ 31 then .next ((s.disable fn).modFunc fn (fun _ => {}))
  else .next s

/-- VF Enable or NumVFs is written: a change disables every VF; VFs that are off are enabled while VF Enable is set. -/
def execVfEnableChange (t : Nat) (enable : Bool) (n : Nat) (s : State) : Out :=
  let s := s.tick t
  let n := min n 31
  let changed := s.ins.vfEnable && (!enable || n ≠ s.ins.numVfs)
  let s := if changed then s.disableAll isVf else s
  let fns := if changed then s.ins.fns.filter (fun p => p.1 = 0) else s.ins.fns
  let s := { s with ins := { s.ins with vfEnable := enable, numVfs := n, fns } }
  if !enable then .next s
  else .next ((List.range n).foldl (fun s i => if (s.inst (i + 1)).phase = .off then s.enable (i + 1) else s) s).take

/-- The PCIe link is lost: every instance is disabled, and configuration space takes its reset values. -/
def State.linkLost (s : State) : State :=
  let s := s.disableAll (fun _ => true)
  { s with ins := { s.ins with fns := [], vfEnable := false, numVfs := 0, pasidEn := false, linkUp := false } }

/-- The link leaves L0 without PERST_N. -/
def execPcieLinkDown (t : Nat) (s : State) : Out :=
  let s := s.tick t
  if s.ins.linkUp then .next s.linkLost else .next s

/-- PASID Enable is cleared: every slice is disabled. -/
def execPasidEnableClear (t : Nat) (s : State) : Out :=
  let s := (s.tick t).disableAll isSlice
  .next { s with ins := { s.ins with pasidEn := false } }

/-- PERST_N falls (R476). -/
def execPerstNFall (t : Nat) (s : State) : Out :=
  let s := s.tick t
  let s := if s.lcy.powerGood then s.linkLost else s
  .next { s with ins := { s.ins with perstN := false } }

/-- PERST_N rises: the endpoint trains and answers with Retry Status until the part is ready (R475). -/
def execPerstNRise (t : Nat) (s : State) : Out :=
  let s := s.tick t
  if s.ins.perstN then .next s
  else .next { s with ins := { s.ins with perstN := true, perstAt := s.now }, lcy := { s.lcy with crs := true } }

/-- After link-up the PF page becomes READY and Retry Status ends (R476). -/
def execPfPageReady (t : Nat) (s : State) : Out :=
  let s := s.tick t
  if !s.ins.perstN || !s.lcy.powerGood || s.mbx.state ≠ .serving || (s.inst 0).phase ≠ .off then .next s
  else
    let s := { s with ins := { s.ins with linkUp := true }, lcy := { s.lcy with crs := false } }
    .next (s.enable 0).take

end Sys2Proof.Machine
end

