-- ==== Sys2Proof/Machine/SecBase.lean ====
section
/-! DEFINITION. The security event log (R406, Table 15-9). -/

namespace Sys2Proof.Machine

def State.modSec (s : State) (f : Sec → Sec) : State := { s with sec := f s.sec }
def State.modBat (s : State) (f : Battery → Battery) : State := s.modSec (fun x => { x with bat := f x.bat })

/-- The battery tick: seconds of device time (R387). -/
def State.batTick (s : State) : Nat := s.now / 1000000000 % 2 ^ 32

/-- A record is written to the security log; on battery its time is the battery tick (R391, Table 15-9). -/
def State.secLog (s : State) (cls source : Nat) (detail detail2 : Nat := 0) : State :=
  let b := s.sec.bat
  let r : SecRec :=
    { seq := b.seq, cls, source, onBattery := b.onBattery, timeValid := !b.onBattery
      sec := if b.onBattery then s.batTick else s.sec32, ns := if b.onBattery then 0 else s.servedNs, detail, detail2 }
  s.modBat (fun b => { b with log := (r :: b.log).take 64, seq := (b.seq + 1) % 2 ^ 32 })

/-- The 32 bytes of a record. -/
def SecRec.bytes (r : SecRec) : List Byte :=
  toLe 4 r.seq ++ toLe 1 r.cls ++ toLe 1 r.source ++ toLe 1 (b2n r.onBattery + 2 * b2n r.timeValid) ++ toLe 1 0 ++
    toLe 4 r.sec ++ toLe 4 r.ns ++ toLe 4 r.detail ++ toLe 4 r.detail2 ++ toLe 8 0

/-- The part runs from main power or is in a state that answers at all: what detectors on die see (R388). -/
def State.powered (s : State) : Bool := s.lcy.powerGood

end Sys2Proof.Machine
end

