-- ==== Sys2Proof/Machine/Test.lean ====
section
/-! DEFINITION. In-service test: loans, drains, the tests' results, the requests and the commands
(17_in_service_test.md). -/

namespace Sys2Proof.Machine

/-! ### Cell tests (R427, R428, R430, R431) -/

/-- A placement waits for a caste. -/
def State.casteWaits (s : State) (c : Caste) : Bool := s.sea.waiting.any (fun w => w.caste == c)

/-- An active Audio cell that carries buses. -/
def State.audioBusy (s : State) (n : Nat) : Bool :=
  (s.cell n).caste == .audio && s.pairActive (n / 2) == n && decide (0 < s.pairBuses (n / 2))

/-- A cell has no busy context (R185). -/
def State.cellIdle (s : State) (n : Nat) : Bool := (s.cell n).work.isEmpty && !s.audioBusy n

/-- The scheduler may switch a pair: its spare stands ready, no emergency source is active on its buses, and its last switch
is 2 s old (R430, R431). -/
def State.maySwitch (s : State) (k : Nat) : Bool :=
  s.spareReady k && !s.aud.buses.any (fun b => b.2.pair == some k && s.busEmergency b.1 ((s.aud.f : Nat) : Int)) &&
    (match tfind s.test.pairSwitch k with | some t => decide (t + 2000000000 ≤ s.now) | none => true)

/-- The conditions of R426 and R427 for a cell but for its contexts: its state, its cluster below the warning point, no
placement waiting for its caste, and a Sentinel cell to test it. -/
def State.lendable (s : State) (n sentinel : Nat) : Bool :=
  let c := s.cell n
  (c.state == .available || (c.state == .quarantined && c.returnTest)) && !(s.island (clusterOf n)).warned &&
    !s.casteWaits c.caste && s.sentinelFree sentinel n

/-- Of the cells without a request, the oldest that can be lent is lent first (R438). -/
def State.oldestLendable (s : State) (n sentinel : Nat) : Bool :=
  (List.range 768).all (fun m =>
    !(s.lendable m sentinel && s.cellIdle m && (s.cell m).state == .available) || decide (s.ageStart 0 n ≤ s.ageStart 0 m))

/-- TEST_LOAN (R427): the Drover lends a cell to test; an active Audio cell first changes places with its spare (R430). -/
def execTestLoan (t cell sentinel : Nat) (s : State) : Out :=
  let s := s.tick t
  let marked := s.sea.drainCells.contains cell
  let wanted := tmem s.test.reqs (testKey 0 cell) || (s.cell cell).state == .quarantined
  if !s.lendable cell sentinel || !(marked || decide (s.testLoad < s.devN 0x0C03)) || !(wanted || s.oldestLendable cell sentinel) then
    .next s
  else if s.audioBusy cell then
    if s.maySwitch (cell / 2) then
      .next (s.modSea (fun a => { a with pairs := tmod a.pairs (cell / 2) {} (fun p => { p with due := true, byTest := true }) }))
    else .next s
  else if !s.cellIdle cell then .next s
  else .next (s.startCellTest cell sentinel)

/-- A cell whose test passed returns: to Reserve after R207's full test, else to its caste, which it leaves if the caste has
become larger than its target (Table 17-7); a pair whose active cell was lost switches to it. -/
def State.cellBack (s : State) (n : Nat) : State :=
  let c := s.cell n
  let back := c.returnTest
  let s := (s.setCell n .available).modCell n (fun x =>
    { x with returnTest := false, caste := if back then .reserve else c.lentCaste })
  let caste := (s.cell n).caste
  if caste = .reserve then s.refillShort
  else if s.sea.targets.getD (casteNum caste) 0 < s.casteSize caste && caste != .audio then s.moveTo n .reserve
  else if caste = .audio ∧ !s.pairMixes (n / 2) then
    s.modSea (fun a => { a with pairs := tmod a.pairs (n / 2) {} (fun p => { p with due := true, byTest := false }) })
  else s

/-- CELL_TEST_DONE (R428, Table 17-2). -/
def execCellTestDone (t cell : Nat) (pass : Bool) (s : State) : Out :=
  let s := s.tick t
  match tfind s.test.loans cell with
  | none => .next s
  | some sentinel =>
    if 768 ≤ cell ∨ (s.cell cell).state ≠ .testing then .next s else
      let s := (s.modTest (fun x => { x with loans := terase x.loans cell })).dropWorkOn sentinel (.check cell)
      let s := (s.dropLines cell).modCell cell (fun c => { c.clearRegs with scratchUsed := false, stores := [] })
      let leave := (s.cell cell).toQuarantine
      let s := if pass && !leave then s.cellBack cell else s.quarantine cell
      let s := s.testResult 0 cell (if pass then .pass else .fail) 0
      .next (if pass then s else s.testFailedFree 0 cell)

/-! ### L2 tests (R429) -/

/-- Every cell of a cluster has no busy context, and none is under test alone (R426). -/
def State.clusterIdle (s : State) (island : Nat) : Bool :=
  (List.range 8).all (fun p => s.cellIdle (8 * island + p) &&
    (s.cell (8 * island + p)).state != .testing && (s.cell (8 * island + p)).state != .moving)

/-- The L2 test begins: the L2 is written back and invalidated, the cells are TESTING, a Sentinel cell runs it. -/
def State.startL2 (s : State) (island sentinel : Nat) : State :=
  let cells := (List.range 8).map (fun p => 8 * island + p)
  let s := (cells.foldl (fun s n => s.drainAll n) s).flushCluster island
  let s := cells.foldl (fun s n =>
    if (s.cell n).state == .available then (s.setCell n .testing).modCell n (fun c => { c with lentCaste := c.caste, l1 := [] }) else s) s
  let s := s.giveWork sentinel (.check (1024 + island))
  let s := s.modTest (fun x => { x with loans := tset x.loans (1024 + island) sentinel, l2 := linsert x.l2 island })
  s.modTest (fun x => { x with reqs := tupd x.reqs (testKey 1 island) (fun r => { r with running := true }) })

/-- L2_TEST_DONE (R429, Table 17-2). -/
def execL2TestDone (t island : Nat) (pass : Bool) (s : State) : Out :=
  let s := s.tick t
  if !s.test.l2.contains island then .next s else
    let s := match tfind s.test.loans (1024 + island) with
      | some c => s.dropWorkOn c (.check (1024 + island))
      | none => s
    let s := s.modTest (fun x => { x with loans := terase x.loans (1024 + island) })
    let s := (s.dropCluster island).endL2 island
    let cells := (List.range 8).map (fun p => 8 * island + p)
    let s := cells.foldl (fun s n =>
      let c := s.cell n
      if c.state != .absent && c.state != .quarantined && (!pass || c.toQuarantine) then s.quarantine n else s) s
    let s := s.testResult 1 island (if pass then .pass else .fail) 0
    .next (if pass then s else s.testFailedFree 1 island)

/-! ### Drains (R211, R440) -/

/-- A drain target whose test can begin, and the Sentinel cell that would run it. -/
def State.drainReady (s : State) (cls num : Nat) : Option Nat :=
  match s.bestCell .sentinel false with
  | none => none
  | some c =>
    if cls = 0 then
      if s.lendable num c && s.cellIdle num then some c else none
    else if cls = 1 && s.clusterIdle num && !(s.island num).warned && (s.island num).state == .run && clusterOf c != num then some c
    else none

/-- The test of a drained unit begins. -/
def State.drainStart (s : State) (cls num sentinel : Nat) : State :=
  if cls = 0 then s.startCellTest num sentinel else s.startL2 num sentinel

/-- A drain target has busy contexts. -/
def State.drainBusy (s : State) (cls num : Nat) : Bool := if cls = 0 then !s.cellIdle num else !s.clusterIdle num

/-- DRAIN_IDLE (R211): a marked unit without busy contexts is tested; an unmarked request of mode 0 for a cluster that is
idle marks it first (R440). -/
def execDrainIdle (t cls num : Nat) (s : State) : Out :=
  let s := s.tick t
  match tfind s.test.reqs (testKey cls num) with
  | none => .next s
  | some r =>
    if 1 < cls ∨ r.running then .next s else
      match s.drainReady cls num with
      | none => .next s
      | some c =>
        if r.marked then .next (s.drainStart cls num c)
        else if cls = 1 && !r.drain && decide (s.testLoad + 8 ≤ s.devN 0x0C03) &&
            !s.test.reqs.any (fun p => p.1 / 1024 == 1 && p.2.marked) then
          let s := s.modSea (fun a => { a with drainClusters := linsert a.drainClusters num })
          let s := s.modTest (fun x => { x with reqs := tupd x.reqs (testKey 1 num) (fun r => { r with marked := true }) })
          .next (s.drainStart 1 num c)
        else .next s

/-- DRAIN_TIMEOUT (R440, R438, Table 17-7). -/
def execDrainTimeout (t cls num : Nat) (s : State) : Out :=
  let s := s.tick t
  let k := testKey cls num
  match tfind s.test.reqs k with
  | none => .next s
  | some r =>
    if !r.drain || !r.marked || r.running || decide (s.now < r.until_) then .next s
    else match s.drainReady cls num with
      | some c => .next (s.drainStart cls num c)
      | none =>
        let again := r.ticket.isNone
        let s := s.endReq cls num 0x0C01 none
        .next (s.modTest (fun x =>
          { x with deferred := x.deferred + 1, again := if again then tset x.again k (s.now + 600000000000) else x.again }))

/-! ### Hub store (R432, R433) -/

/-- LINE_REMAP (R433): a failing line is remapped while spares are left. -/
def State.lineRemap (s : State) : State :=
  let room := decide (s.test.remapped.length < 64)
  let s := s.modTest (fun x => { x with passFailed := true, remapped := if room then x.remapped ++ [x.line] else x.remapped })
  s.testFailed 2 0 (if room then 1 else 2)

/-- HUB_MARCH_LINE (R432): one line; the pass that ends after the last line is the unit's test. -/
def execHubMarchLine (t : Nat) (ok : Bool) (s : State) : Out :=
  let s := s.tick t
  let s := if ok then s else s.lineRemap
  if s.test.line < 131071 then .next (s.modTest (fun x => { x with line := x.line + 1 }))
  else
    let r := if s.test.passFailed then TestResult.fail else .pass
    let s := s.modTest (fun x => { x with line := 0, passFailed := false })
    .next (s.testResult 2 0 r s.test.remapped.length)

/-! ### Die links (R434) -/

/-- Lanes that a test of a link covers in both directions: all 18, or the 10 that a half-rate link leaves unused. -/
def lanesWanted (half : Bool) : Nat := if half then 20 else 36

/-- DIE_LINK_LANE_TEST (R434, R368, R373). -/
def execDieLinkLaneTest (t die dir lane errors : Nat) (s : State) : Out :=
  let s := s.tick t
  if (s.link die).state ≠ .up ∨ 1 < dir ∨ 17 < lane then .next s else
    let s := s.modLink die (fun l =>
      let x := l.dir dir
      let x := if errors = 0 then x else { x with badLanes := linsert x.badLanes lane }
      { l.setDir dir x with testLanes := l.testLanes + 1, testErrors := l.testErrors + b2n (decide (0 < errors)) })
    let s := if errors = 0 then s else s.judgeLanes die
    let l := s.link die
    if l.state = .failed then
      let s := s.modLink die (fun l => { l with testLanes := 0, testErrors := 0 })
      .next ((s.testResult 3 die .fail (l.testLanes / 2)).testFailedFree 3 die)
    else if l.testLanes < lanesWanted l.half then .next s
    else
      let s := (s.modLink die (fun l => { l with testLanes := 0, testErrors := 0 })).auditRequest die
      let r := if l.testErrors ≠ 0 then TestResult.fail else if l.half then .part else .pass
      let s := s.testResult 3 die r (lanesWanted l.half / 2)
      .next (if l.testErrors = 0 then s else s.testFailedFree 3 die)

/-! ### Segments and ports (R435, R436) -/

/-- SEGMENT_ECHO_TEST (R435): an ECHO falls due for each PRESENT unit; with none there is nothing to fail. -/
def execSegmentEchoTest (t seg : Nat) (s : State) : Out :=
  let s := s.tick t
  let g := s.seg seg
  if 7 < seg || !g.started || g.stopped || !s.cfg.segs.contains seg || s.lane.emg || s.lane.releasing || tmem s.test.echoOpen seg then
    .next s
  else
    let lanes := ((List.range 16).map (fun a => 16 * seg + a)).filter (fun l => (s.unit l).state == .present)
    let bytes := echoPattern (s.test.echoCount.contains seg)
    let s := lanes.foldl (fun s l => s.modUnit l (fun u => { u with echo := some bytes })) s
    let s := s.modTest (fun x =>
      { x with echoCount := lput x.echoCount seg (!x.echoCount.contains seg)
               units := tmod x.units (testKey 4 seg) {} (fun u => { u with detail := 0 }) })
    if lanes.isEmpty then .next (s.testResult 4 seg .pass 0)
    else .next (s.modTest (fun x => { x with echoOpen := tset x.echoOpen seg lanes }))

/-- PORT_TEST (R436): an eye check of a port whose link is up; else a loopback begins. -/
def execPortTest (t port eye : Nat) (s : State) : Out :=
  let s := s.tick t
  if 1 < port then .next s
  else if s.linkUp port then
    let fail := decide (eye % 256 < s.devN 0x0C07)
    let s := s.modPort port (fun p => { p with eye := eye % 256 })
    let s := s.testResult 5 port (if fail then .fail else .pass) (eye % 256)
    .next (if fail then s.testFailedFree 5 port else s)
  else .next (s.modTest (fun x => { x with loopback := linsert x.loopback port }))

/-- PORT_LOOPBACK_DONE (R436). -/
def execPortLoopbackDone (t port errors : Nat) (s : State) : Out :=
  let s := s.tick t
  if !s.test.loopback.contains port then .next s else
    let s := s.modTest (fun x => { x with loopback := x.loopback.filter (· ≠ port) })
    let s := s.testResult 5 port (if errors = 0 then .pass else .fail) (s.testUnit 5 port).detail
    .next (if errors = 0 then s else s.testFailedFree 5 port)

/-! ### Fuses (R437) -/

/-- Boot reads of a word: those kept where one differed, else its value in use three times. -/
def State.bootRead (s : State) (w : Nat) : FuseReads :=
  tget s.lcy.bootReads w { normal := s.fuse w, low := s.fuse w, high := s.fuse w }

/-- FUSE_REREAD (R437): the operand names the words read, an absent word reading as at boot. -/
def execFuseReread (t : Nat) (reads : Tbl FuseReads) (s : State) : Out :=
  let s := s.tick t
  let drift := (List.range 512).filterMap (fun w => match tfind reads w with
    | some r => if r = s.bootRead w then none else some (w, r)
    | none => none)
  let s := { s with lcy := { s.lcy with drifted := drift } }
  let s := drift.foldl (fun s p => s.raiseDev 0x0C03 srcFuse p.1) s
  .next (s.testResult 6 0 (if drift.isEmpty then .pass else .drift) drift.length)

/-! ### Scheduling (R438, R439) -/

/-- FORCED_REQUEST (R438, R441): a covered unit has come of age, or a deferral's 10 min have passed. -/
def execForcedRequest (t cls num : Nat) (s : State) : Out :=
  let s := s.tick t
  let k := testKey cls num
  let due := match tfind s.test.again k with
    | some at_ => decide (at_ ≤ s.now)
    | none => decide (s.ageStart cls num + s.forceAge ≤ s.now)
  if !covered cls || decide (testCount cls ≤ num) || !s.testPresent cls num || tmem s.test.reqs k || !due then .next s
  else .next ((s.modTest (fun x =>
    { x with again := terase x.again k
             reqs := tset x.reqs k { ticket := none, drain := decide (cls ≤ 1), until_ := 0, marked := false } })).markReq k)

/-- TEST_OVERDUE (R439). -/
def execTestOverdue (t cls num : Nat) (s : State) : Out :=
  let s := s.tick t
  let u := s.testUnit cls num
  if !covered cls || decide (testCount cls ≤ num) || !s.testPresent cls num ||
      decide (s.now ≤ s.ageStart cls num + s.testPeriod + u.overdue * 86400000000000) then .next s
  else
    let s := s.modTest (fun x => { x with units := tmod x.units (testKey cls num) {} (fun u => { u with overdue := u.overdue + 1 }) })
    .next (s.raiseDev 0x0C02 srcTest (cls + num * 2 ^ 16))

/-! ### Commands (Table 17-4) -/

/-- The unit's state does not allow a test (R444). -/
def State.testBarred (s : State) (cls num : Nat) : Bool :=
  !s.testPresent cls num || match cls with
    | 0 => (s.cell num).state == .quarantined || (s.island (clusterOf num)).state == .heldHot
    | 1 => (s.island num).state == .heldHot
    | 3 => (s.link num).state == .failed
    | 4 => s.lane.emg
    | _ => false

def testRequestDef : CmdDef := { code := 0x0C01, argc := 1, tenant := false, masks := [0x03FFFF07] }

/-- TEST_REQUEST's work. -/
def testRequestWork (tag : Nat) (_io : HostIo) (a : List Word) (s : State) : Answer :=
    let cls := fld (arg a 1) 2 0
    let mode := fld (arg a 1) 15 8
    let num := fld (arg a 1) 25 16
    let k := testKey cls num
    if 1 < mode then .status 0x0012 s
    else if 6 < cls ∨ testCount cls ≤ num then .status 0x0C02 s
    else if (match tfind s.test.reqs k with | some r => r.ticket.isSome | none => false) then .status 0x0C03 s
    else if s.testBarred cls num then .status 0x0C04 s
    else
      let (n, s) := s.defer testRequestDef tag a
      let running := match tfind s.test.reqs k with | some r => r.running | none => false
      let s := if running then s else s.unmark cls num
      let s := s.modTest (fun x =>
        { x with again := terase x.again k
                 reqs := tset x.reqs k { ticket := some n, drain := mode == 1 && decide (cls ≤ 1), until_ := 0, marked := running, running } })
      .reply 0x0001 [wd n] (s.markReq k).markNext

/-- TEST_REQUEST (R440, R441, R444). -/
def execTestRequest (t tag : Nat) (io : HostIo) (s : State) : Out :=
  .next (s.run testRequestDef (testRequestWork tag io) t tag io)

/-- TEST_RESULT. -/
def testResultDef : CmdDef :=
  { code := 0x0C02, argc := 1, tenant := false, masks := [0x03FF0FFF] }

/-- TEST_RESULT's work. -/
def testResultWork (_tag : Nat) (_io : HostIo) (a : List Word) (s : State) : Answer :=
    let cls := fld (arg a 1) 2 0
    let num := fld (arg a 1) 25 16
    let w := fld (arg a 1) 11 3
    let u := s.testUnit cls num
    if cls ≠ 6 ∧ w ≠ 0 then .status 0x0013 s
    else if 6 < cls ∨ testCount cls ≤ num then .status 0x0C02 s
    else if cls ≠ 6 ∨ w = 0x1FF then
      .ok [wd (testCode u.result), wd u.lastPass, wd u.lastTry, wd u.detail] s
    else
      let b := s.bootRead w
      let l := tget s.lcy.drifted w b
      let code := if tmem s.lcy.drifted w then 4 else if u.result = .drift then 1 else testCode u.result
      .ok [wd code, wd u.lastPass, wd u.lastTry, wd u.detail, b.normal, b.low, b.high, l.normal, l.low, l.high] s

/-- TEST_RESULT (Table 17-4): the last result of a unit, or of one fuse word. -/
def execTestResult (t tag : Nat) (io : HostIo) (s : State) : Out :=
  .next (s.run testResultDef (testResultWork tag io) t tag io)

/-- Covered units that are there (R426, 17 Absence). -/
def State.coveredUnits (s : State) : List (Nat × Nat) :=
  ([0, 1, 2, 3, 6].flatMap (fun c => (List.range (testCount c)).map (fun n => (c, n)))).filter (fun p => s.testPresent p.1 p.2)

/-- The oldest of a list of units, the first of equals. -/
def State.oldestOf (s : State) (l : List (Nat × Nat)) : Option (Nat × Nat) :=
  l.foldl (fun b p => match b with
    | none => some p
    | some q => if s.ageStart p.1 p.2 < s.ageStart q.1 q.2 then some p else b) none

/-- TEST_COVERAGE. -/
def testCoverageDef : CmdDef :=
  { code := 0x0C03, argc := 0, tenant := false }

/-- TEST_COVERAGE's work. -/
def testCoverageWork (_tag : Nat) (_io : HostIo) (_a : List Word) (s : State) : Answer :=
    let l := s.coveredUnits
    let o := (s.oldestOf l).getD (0, 0)
    let excess := (l.filter (fun p => decide (s.ageStart p.1 p.2 + s.testPeriod < s.now))).length
    .ok [ wd (excess % 1024), wd (s.testAge o.1 o.2), wd (o.1 + o.2 * 2 ^ 16), wd s.test.reqs.length, wd s.test.deferred ] s

/-- TEST_COVERAGE (Table 17-4). -/
def execTestCoverage (t tag : Nat) (io : HostIo) (s : State) : Out :=
  .next (s.run testCoverageDef (testCoverageWork tag io) t tag io)

end Sys2Proof.Machine
end

