-- ==== Sys2Proof/Machine/Islands.lean ====
section
/-! DEFINITION. Clock islands, die links, hardware loops and thermal steps (14_islands.md), the cluster errors of R206. -/

namespace Sys2Proof.Machine

/-! ### The adaptive loop (R375 to R378) -/

/-- Core clock range in steps of 25 MHz (Table 14-1). -/
def islandRange (n : Nat) : Nat × Nat :=
  if n < 96 then (16, 56) else match n with
    | 97 => (10, 20) | 98 => (20, 32) | 105 => (4, 8) | 106 => (24, 40)
    | 96 | 103 | 104 => (16, 32)
    | _ => (8, 16)

/-- A cluster holds a Validator, Ledger or Audio cell (14 Thermal behaviour). -/
def State.protected (s : State) (n : Nat) : Bool :=
  (List.range 8).any (fun p =>
    let c := s.cell (8 * n + p)
    c.state != .absent && (c.caste == .validator || c.caste == .ledger || c.caste == .audio))

/-- Cap of an island in steps of 25 MHz: isl.cell_fmax_mhz or the thermal cap (R376, R377, Table 14-5). -/
def State.islandCap (s : State) (n : Nat) : Nat :=
  if 96 ≤ n then (islandRange n).2 else
    let i := s.island n
    let fmax := s.dev 0x0CC1
    let least : Int := if s.protected n then max 400 (s.dev 0x0CC2) else 400
    let cap : Int := if i.atFloor then least
      else if i.capped then max least (fmax - 50 * max 0 (i.tj - s.dev 0x0CC5)) else fmax
    ((min fmax cap) / 25).toNat

/-- An AVFS freeze ends at once (R380). -/
def State.endAvfsFreeze (s : State) (n : Nat) : State :=
  if (s.island n).frozen.isSome then (s.modIsland n (fun i => { i with frozen := none })).raiseDev 0x0CC6 (srcIsland n) 0 else s

/-- One row of Table 14-3 for a period whose margin is m; the hold has one period less. -/
def Island.decide (i : Island) (range : Nat × Nat) (cap low high : Nat) (m hold : Nat) : Island :=
  let down (k : Nat) : Nat := max range.1 (i.fcode - k)
  if i.flagged then
    { i with fcode := max range.1 (min (down (max 1 i.extraDown)) cap), vcode := min 70 (i.vcode + 1), hold := 100 }
  else if cap < i.fcode then { i with fcode := down 1, hold }
  else if m < low then
    if i.vcode < 70 then { i with vcode := i.vcode + 1, hold } else { i with fcode := down 1, hold }
  else if high < m && hold == 0 then
    if i.fcode < cap then { i with fcode := i.fcode + 1, hold } else { i with vcode := i.vcode - 1, hold }
  else { i with hold }

/-- LOOP_PERIOD (R375 to R377, R380): a frozen loop measures and holds its outputs. -/
def execLoopPeriod (t island margin : Nat) (s : State) : Out :=
  let s := s.tick t
  let i := s.island island
  if !s.islandPresent island || i.state != .run then .next s else
    let m := min 255 margin
    let low := s.devN 0x0CC3
    let range := islandRange island
    let hold := i.hold - 1
    let j := if i.frozen.isSome then { i with hold } else i.decide range (s.islandCap island) low (s.devN 0x0CC4) m hold
    let limit := i.fcode == range.1 && i.vcode == 70 && j.fcode == range.1 && j.vcode == 70 && decide (m < low)
    let s := s.modIsland island (fun _ => { j with margin := m, flagged := false, extraDown := 0, limitRaised := limit })
    .next (if limit && !i.limitRaised then s.raiseDev 0x0CC4 (srcIsland island) 0 else s)

/-- TIMING_ERROR (R378): the instruction is replayed; a replay flagged `again` is a second error and traps. -/
def execTimingError (t cell : Nat) (again : Bool) (s : State) : Out :=
  let s := s.tick t
  let n := clusterOf cell
  let c := s.cell cell
  if 767 < cell || c.state == .absent || c.state == .faulted || c.state == .quarantined || (s.island n).state != .run then .next s else
    let k := 1 + b2n again
    let s := (s.count 15 n 0 k).modIsland n (fun i =>
      { i with flagged := true, errors := i.errors + k, errorsTotal := satAdd (2 ^ 32 - 1) i.errorsTotal k
               extraDown := if again then 4 else i.extraDown
               replayTraps := if again then satAdd 65535 i.replayTraps 1 else i.replayTraps })
    let s := s.endAvfsFreeze n
    let i := s.island n
    let s := if s.devN 0x0CC6 ≤ i.errors ∧ !i.rateRaised then
        (s.modIsland n (fun i => { i with rateRaised := true })).raiseDev 0x0CC5 (srcIsland n) 0 else s
    .next (if again then s.trap cell 0x0F {} none else s)

/-! ### Thermal steps (R381, R382) -/

/-- A step with its entry point, released 5 °C below it (Table 14-5). -/
def thermalStep (on : Bool) (tj entry : Int) : Bool := decide (entry ≤ tj) || (on && decide (entry - 5 < tj))

/-- Tj as ISL_TELEM0 codes it. -/
def tjCode (tj : Int) : Nat := unsgn 8 (tj + 64)

/-- THERMAL_SAMPLE (R381, R382). -/
def execThermalSample (t island : Nat) (tj : Int) (s : State) : Out :=
  let s := s.tick t
  let i := s.island island
  if !s.islandPresent island || i.state == .absent then .next s else
    let warn := s.dev 0x0CC5
    let warned := thermalStep i.warned tj warn
    let s := s.modIsland island (fun i => { i with tj, warned })
    let s := if warned && !i.warned then s.raiseDev 0x0CC7 (srcIsland island) (tjCode tj) else s
    if 96 ≤ island then
      let crit := thermalStep i.atFloor tj 115
      let s := s.modIsland island (fun i => { i with atFloor := crit })
      .next (if crit && !i.atFloor then s.raiseDev 0x0CC8 (srcIsland island) (tjCode tj) else s)
    else
      let s := s.modIsland island (fun i =>
        { i with capped := decide (warn < tj) || (i.capped && decide (warn - 5 < tj))
                 atFloor := thermalStep i.atFloor tj 105, ineligible := thermalStep i.ineligible tj 110 })
      if 112 ≤ tj then
        if i.state == .heldHot then .next s else
          let s := if i.state == .run then (s.clusterEvent island 4).resetIsland island else s
          .next ((s.modIsland island (fun i => { i with state := .heldHot })).raiseDev 0x0CC8 (srcIsland island) (tjCode tj))
      else if i.state == .heldHot && decide (tj < warn) then
        .next (s.modIsland island (fun i => { i with state := .reset }))
      else .next s

/-! ### Resets (R366, R367, R206) -/

/-- CLUSTER_L2_ERROR (R206, R367). -/
def execClusterL2Error (t island : Nat) (dir : Bool) (s : State) : Out :=
  let s := s.tick t
  if 95 < island || !s.islandPresent island || (s.island island).state != .run then .next s
  else .next ((s.clusterEvent island (if dir then 2 else 1)).resetIsland island)

/-- LDO_FAULT (R367, 14 Failures): the second within 24 h quarantines the cluster's cells. -/
def execLdoFault (t island : Nat) (s : State) : Out :=
  let s := s.tick t
  let i := s.island island
  if 95 < island || !s.islandPresent island || i.state == .absent then .next s else
    let again := i.ldoFaults.any (fun f => decide (s.now < f + 86400000000000))
    let s := s.modIsland island (fun i => { i with ldoFaults := s.now :: i.ldoFaults })
    let s := s.clusterEvent island 3
    let s := if i.state == .run then s.resetIsland island else s
    .next (if again then s.quarantineAll ((List.range 8).map (fun p => 8 * island + p)) else s)

/-- An island leaves reset: its loop starts again at 0.80 V and the floor of its range. -/
def State.leaveReset (s : State) (n : Nat) : State :=
  s.modIsland n (fun i =>
    { i with state := .run, isolated := false, heldTransfers := 0, vcode := 50, fcode := (islandRange n).1
             flagged := false, extraDown := 0, hold := 0, limitRaised := false })

/-- CLUSTER_RESET_DONE (R367): a reset ends; a hub island's as well. -/
def execClusterResetDone (t island : Nat) (s : State) : Out :=
  let s := s.tick t
  if !s.islandPresent island || (s.island island).state != .reset || !(s.island island).isolated then .next s
  else .next (s.leaveReset island)

/-- L2_CHECK_DONE (R206, R194): the cells go to their cell checks, or are QUARANTINED. -/
def execL2CheckDone (t island : Nat) (pass : Bool) (s : State) : Out :=
  let s := s.tick t
  if !s.sea.l2Check.contains island || (s.island island).state != .run then .next s else
    let s := s.modSea (fun a => { a with l2Check := a.l2Check.filter (· ≠ island) })
    .next (if pass then s.measure island else s.quarantineAll ((List.range 8).map (fun p => 8 * island + p)))

/-- ISOLATION_TIMEOUT (R366): the transfers held are answered with errors and counted. -/
def execIsolationTimeout (t island : Nat) (s : State) : Out :=
  let s := s.tick t
  let i := s.island island
  if !i.isolated || decide (s.now < i.resetAt + 50000) then .next s
  else .next ((s.count 15 island 1 i.heldTransfers).modIsland island (fun i => { i with heldTransfers := 0 }))

/-! ### Die links (R368 to R374) -/

/-- EV_ISL_LINK_INTEGRITY and its security log record, with the retrain that they report (R369, R373). -/
def State.linkBroken (s : State) (die : Nat) : State :=
  ((s.retrain die).raiseDev 0x0CC3 (srcDie die) 0).secLog 6 0xFF

/-- INTEGRITY_FRAME (R369, R372). -/
def execIntegrityFrame (t die dir : Nat) (f : FlitFrame) (s : State) : Out :=
  let s := s.tick t
  if s.lcy.dies ≤ die ∨ 1 < dir ∨ (s.link die).state ≠ .up then .next s
  else if f.tagOk then
    let s := s.modLink die (fun l => let x := l.dir dir; l.setDir dir { x with flits := x.flits + 16, failures := 0 })
    if dir = 0 then .next s else
      .next (f.flits.foldl (fun s p =>
        if p.1 < 4 ∧ dieOf p.2 = die ∧ (s.island p.2).state ≠ .run then s.count 16 (linkStat die 1 p.1) 5 else s) s)
  else
    let s := s.count 16 (linkStat die dir 0) 6
    let s := s.modLink die (fun l => let x := l.dir dir; l.setDir dir { x with failures := x.failures + 1 })
    .next (if 4 ≤ ((s.link die).dir dir).failures then s.linkBroken die else s)

/-- A link's training ends with `good` lanes of 18 in each direction (R368). -/
def State.linkTrained (s : State) (die good : Nat) : State :=
  if good < 8 then s.linkFail die
  else
    let half := decide (good < 16)
    let bad := List.range (18 - min 18 good)
    let (a, s) := s.free
    let (b, s) := s.free
    let ctle := a % 16
    let dfe : Int := ((b % 63 : Nat) : Int) - 31
    let fresh (x : LinkDir) : LinkDir := { x with chans := freshChans, failures := 0, badLanes := bad }
    let s := s.modLink die (fun l =>
      { l with state := .up, half, toHub := fresh l.toHub, fromHub := fresh l.fromHub, ctle, dfe, auditing := false, auditAgain := false
               testLanes := 0, testErrors := 0 })
    let at_ := eqAtLimit ctle [dfe]
    let was := s.isl.dieLimit.contains die
    let s : State := { s with isl := { s.isl with dieLimit := lput s.isl.dieLimit die at_ } }
    let s := if at_ && !was then s.raiseDev 0x0CC4 (srcIsland 106) 2 else s
    if half then s.raiseDev 0x0CC1 (srcDie die) 0 else s

/-- LINK_TRAINED: `good` lanes of 18 in each direction passed their bit-error test. -/
def execLinkTrained (t die good : Nat) (s : State) : Out :=
  let s := s.tick t
  if s.lcy.dies ≤ die ∨ (s.link die).state ≠ .training then .next s else .next (s.linkTrained die good)

/-- KEY_ROLLOVER (R369): a direction changes key after 2^40 flits. -/
def execKeyRollover (t die dir : Nat) (s : State) : Out :=
  let s := s.tick t
  if s.lcy.dies ≤ die ∨ 1 < dir ∨ ((s.link die).dir dir).flits < 2 ^ 40 then .next s
  else .next (s.modLink die (fun l => let x := l.dir dir; l.setDir dir { x with flits := 0, key := x.key + 1 }))

/-- Leaked credits of a channel once its marker is back (R373 step 3). -/
def Chan.leaked (c : Chan) (size : Nat) : Int :=
  (size : Int) - (c.free + (c.held.map (·.2)).foldl (· + ·) 0 + c.occupied : Nat)

/-- AUDIT_MARKER_RETURN (R373, R374). -/
def execAuditMarkerReturn (t die : Nat) (s : State) : Out :=
  let s := s.tick t
  let l := s.link die
  if s.lcy.dies ≤ die ∨ !l.auditing then .next s
  else
    let leak (c : Nat) : Int := (tget l.toHub.chans c {}).leaked (chanSize c)
    if (List.range 4).any (fun c => decide (leak c < 0)) then
      .next ((s.modLink die (fun l => { l with auditing := false, auditAgain := false })).linkBroken die)
    else
      let chans : Tbl Chan := (List.range 4).map (fun c =>
        let x : Chan := tget l.toHub.chans c {}
        (c, { x with free := x.free + (leak c).toNat, inFlight := 0, returning := 0, restored := (leak c).toNat }))
      let s := (List.range 4).foldl (fun s c => s.count 16 (linkStat die 0 c) 7 (leak c).toNat) s
      let s := s.modLink die (fun l =>
        { l with toHub := { l.toHub with chans }, auditing := l.auditAgain, auditAgain := false, audits := l.audits + 1 })
      .next ((List.range 24).foldl (fun s i =>
        if (s.island (24 * die + i)).state == .absent then s else s.measure (24 * die + i)) s)

/-! ### LPDDR4X tracking and freezes (R379, R380) -/

/-- DDR_OSC_READ (R379): drifts of the four byte lanes in steps from their trained values. -/
def execDdrOscRead (t : Nat) (drifts : List Int) (s : State) : Out :=
  let s := s.tick t
  let d := (List.range 4).map (fun i => max (-64) (min 64 (drifts.getD i 0)))
  let far := d.any (fun x => decide (48 ≤ x.natAbs))
  let limit := d.any (fun x => decide (64 ≤ x.natAbs))
  if s.isl.ddrFrozen.isSome && !far then .next s else
    let s := if s.isl.ddrFrozen.isSome then
        ({ s with isl := { s.isl with ddrFrozen := none } }).raiseDev 0x0CC6 (srcIsland 103) 3 else s
    let s := if limit then s.raiseDev 0x0CC4 (srcIsland 103) 3 else s
    .next { s with isl := { s.isl with
      drift := if far then [0, 0, 0, 0] else d, ddrRetrains := s.isl.ddrRetrains + b2n far, ddrLimit := false } }

/-- End of a loop's freeze (Table 14-10 numbers loops and targets). -/
def State.freezeEnd (s : State) (loop target : Nat) : Option Nat :=
  match loop with
  | 0 => (s.island target).frozen
  | 1 => tfind s.isl.eqFrozen target
  | 2 => (s.link target).frozen
  | 3 => s.isl.ddrFrozen
  | 4 => tfind s.isl.servoFrozen target
  | _ => none

/-- A loop is frozen until a time, or released. -/
def State.setFreeze (s : State) (loop target : Nat) (until_ : Option Nat) : State :=
  let put (x : Tbl Nat) : Tbl Nat := match until_ with | some e => tset x target e | none => terase x target
  match loop with
  | 0 => s.modIsland target (fun i => { i with frozen := until_ })
  | 1 => { s with isl := { s.isl with eqFrozen := put s.isl.eqFrozen } }
  | 2 => s.modLink target (fun l => { l with frozen := until_ })
  | 3 => { s with isl := { s.isl with ddrFrozen := until_ } }
  | 4 => { s with isl := { s.isl with servoFrozen := put s.isl.servoFrozen } }
  | _ => s

/-- LOOP_FREEZE_EXPIRY (R380). -/
def execLoopFreezeExpiry (t loop target : Nat) (s : State) : Out :=
  let s := s.tick t
  match s.freezeEnd loop target with
  | some e => if e ≤ s.now then .next (s.setFreeze loop target none) else .next s
  | none => .next s

/-! ### Telemetry (Tables 14-6 to 14-9) -/

/-- Code of an island's state. -/
def islCode : IslState → Nat
  | .run => 0 | .reset => 1 | .heldHot => 2 | .absent => 3

/-- ISL_TELEM0 and ISL_TELEM1 of an island; an ABSENT one reads STATE 3 and zeros. -/
def State.telem (s : State) (n : Nat) : Word × Word :=
  let i := s.island n
  if 107 < n then (0, 0)
  else if !s.islandPresent n || i.state == .absent then (0, 3)
  else
    (wd (i.margin * 2 ^ 24 + i.vcode * 2 ^ 16 + i.fcode * 2 ^ 8 + tjCode i.tj),
     wd (min 65535 i.errors * 2 ^ 16 + s.islandCap n % 256 * 2 ^ 8 + b2n (decide (0 < i.hold)) * 16 + b2n i.frozen.isSome * 8 +
       b2n i.isolated * 4 + islCode i.state))

/-- ISL_SEL_WRITE (R383). -/
def execIslSelWrite (t : Nat) (v : Word) (s : State) : Out :=
  let s := s.tick t
  let n := fld v 6 0
  let (a, b) := s.telem n
  .next { s with isl := { s.isl with sel := n, telem0 := a, telem1 := b } }

/-- ISL_THERM: the hottest island and its Tj (Table 14-9). -/
def State.islTherm (s : State) : Word :=
  let l := (List.range 108).filter (fun n => s.islandPresent n && (s.island n).state != .absent)
  let best := l.foldl (fun b n => match b with
    | none => some n
    | some m => if (s.island m).tj < (s.island n).tj then some n else b) (none : Option Nat)
  match best with
  | some n => wd (n * 256 + tjCode (s.island n).tj)
  | none => 0

/-! ### Commands (Table 14-10) -/

/-- ISL_STATUS. -/
def islStatusDef : CmdDef :=
  { code := 0x0CC1, argc := 1, tenant := false, masks := [0x7F] }

/-- ISL_STATUS's work. -/
def islStatusWork (_tag : Nat) (_io : HostIo) (a : List Word) (s : State) : Answer :=
    let n := fld (arg a 1) 6 0
    let i := s.island n
    if 107 < n then .status 0x0CC1 s
    else if !s.islandPresent n || i.state == .absent then .status 0x0CC4 s
    else .ok [(s.telem n).1, (s.telem n).2, wd i.errorsTotal, wd i.replayTraps] s

/-- ISL_STATUS. -/
def execIslStatus (t tag : Nat) (io : HostIo) (s : State) : Out :=
  .next (s.run islStatusDef (islStatusWork tag io) t tag io)

/-- ISL_LINK_STATUS. -/
def islLinkStatusDef : CmdDef :=
  { code := 0x0CC2, argc := 1, tenant := false, masks := [0x3] }

/-- ISL_LINK_STATUS's work. -/
def islLinkStatusWork (_tag : Nat) (_io : HostIo) (a : List Word) (s : State) : Answer :=
    let die := fld (arg a 1) 1 0
    let l := s.link die
    let code := match l.state with | .down => 0 | .training => 1 | .up => 2 | .failed => 3
    let lanes := if l.state ≠ .up then 0 else if l.half then 8 else 16
    let spares := if l.state ≠ .up ∨ l.half then 0 else max l.toHub.badLanes.length l.fromHub.badLanes.length
    let back (c : Nat) : Nat := min 255 (tget l.toHub.chans c {}).restored
    if s.lcy.dies ≤ die then .status 0x0CC4 s
    else .ok [ wd (code + lanes * 16 + spares % 8 * 512)
             , wd (s.counter 16 (linkStat die 0 0) 6 + s.counter 16 (linkStat die 1 0) 6), wd l.retrains, wd l.audits
             , wd (back 0 + back 1 * 2 ^ 8 + back 2 * 2 ^ 16 + back 3 * 2 ^ 24) ] s

/-- ISL_LINK_STATUS. -/
def execIslLinkStatus (t tag : Nat) (io : HostIo) (s : State) : Out :=
  .next (s.run islLinkStatusDef (islLinkStatusWork tag io) t tag io)

/-- A loop and target that do not exist: ST_BAD_ARG; one that is ABSENT, FAILED or held in reset: ST_ISL_STATE. -/
def State.loopStatus (s : State) (loop target : Nat) : Option Nat :=
  match loop with
  | 0 => if 107 < target then some 0x0012
    else if !s.islandPresent target || (s.island target).state != .run then some 0x0CC4 else none
  | 1 => if 1 < target then some 0x0012 else none
  | 2 => if 3 < target then some 0x0012
    else if s.lcy.dies ≤ target ∨ (s.link target).state = .failed then some 0x0CC4 else none
  | 3 => if target ≠ 0 then some 0x0012 else none
  | 4 => if 1 < target then some 0x0012 else none
  | _ => some 0x0012

/-- ISL_LOOP_FREEZE. -/
def islLoopFreezeDef : CmdDef :=
  { code := 0x0CC3, argc := 2, tenant := false, masks := [0x17F0F] }

/-- ISL_LOOP_FREEZE's work. -/
def islLoopFreezeWork (_tag : Nat) (_io : HostIo) (a : List Word) (s : State) : Answer :=
    let loop := fld (arg a 1) 3 0
    let target := fld (arg a 1) 14 8
    let on := bit (arg a 1) 16
    let sec := (arg a 2).toNat
    match s.loopStatus loop target with
    | some st => .status st s
    | none =>
      if !on then .ok [] (s.setFreeze loop target none)
      else if sec = 0 ∨ 3600 < sec then .status 0x0012 s
      else if loop = 4 ∧ s.tim.following = .shadow target then .status 0x0CC3 s
      else .ok [] (s.setFreeze loop target (some (s.now + sec * 1000000000)))

/-- ISL_LOOP_FREEZE (R380). -/
def execIslLoopFreeze (t tag : Nat) (io : HostIo) (s : State) : Out :=
  .next (s.run islLoopFreezeDef (islLoopFreezeWork tag io) t tag io)

/-- Outputs of a loop as bytes; a servo's correction has no byte form in the spec and reads as a free value. -/
def State.loopOut (s : State) (loop target : Nat) : List Byte × State :=
  let b (v : Int) : Byte := BitVec.ofInt 8 v
  match loop with
  | 0 => let i := s.island target; ([b i.vcode, b i.fcode], s)
  | 1 => let p := s.port target; (b p.ctle :: p.dfe.map b, s)
  | 2 => let l := s.link target; ([b l.ctle, b l.dfe], s)
  | 3 => (s.isl.drift.map b, s)
  | _ => let (v, s) := s.free; ([BitVec.ofNat 8 v], s)

/-- Whether a loop's output stands at a limit. -/
def State.loopAtLimit (s : State) (loop target : Nat) : Bool :=
  match loop with
  | 0 => (s.island target).limitRaised
  | 1 => s.isl.eqLimit.contains target
  | 2 => s.isl.dieLimit.contains target
  | 3 => s.isl.ddrLimit
  | _ => s.isl.servoLimit.contains target

/-- ISL_LOOP_STATUS. -/
def islLoopStatusDef : CmdDef :=
  { code := 0x0CC4, argc := 1, tenant := false, masks := [0x17F0F] }

/-- ISL_LOOP_STATUS's work. -/
def islLoopStatusWork (_tag : Nat) (_io : HostIo) (a : List Word) (s : State) : Answer :=
    let loop := fld (arg a 1) 3 0
    let target := fld (arg a 1) 14 8
    match s.loopStatus loop target with
    | some 0x0012 => .status 0x0012 s
    | _ =>
      let (out, s) := s.loopOut loop target
      let e := s.freezeEnd loop target
      let left := match e with | some x => (x - s.now + 999999999) / 1000000000 | none => 0
      .ok ([wd (b2n e.isSome + 2 * b2n (s.loopAtLimit loop target)), wd left] ++
        leWords ((out ++ List.replicate 16 0).take 16)) s

/-- ISL_LOOP_STATUS. -/
def execIslLoopStatus (t tag : Nat) (io : HostIo) (s : State) : Out :=
  .next (s.run islLoopStatusDef (islLoopStatusWork tag io) t tag io)

/-- A cluster is reset by command (R384). -/
def State.commandReset (s : State) (n : Nat) : State :=
  let s := s.modSea (fun a => { a with drainClusters := a.drainClusters.filter (· ≠ n) })
  (s.clusterEvent n 4).resetIsland n

def islResetDef : CmdDef := { code := 0x0CC5, argc := 1, tenant := false, masks := [0x7F] }

/-- ISL_RESET's work. -/
def islResetWork (tag : Nat) (_io : HostIo) (a : List Word) (s : State) : Answer :=
    let n := fld (arg a 1) 6 0
    if 95 < n then .status 0x0CC1 s
    else if !s.islandPresent n || (s.island n).state != .run then .status 0x0CC4 s
    else if s.clusterIdle n then .ok [] (s.commandReset n)
    else
      let (k, s) := s.defer islResetDef tag a
      .reply 0x0001 [wd k] (s.modSea (fun x => { x with drainClusters := linsert x.drainClusters n }))

/-- ISL_RESET (R384): at once when the cluster is idle, else by ticket once it has drained. -/
def execIslReset (t tag : Nat) (io : HostIo) (s : State) : Out :=
  .next (s.run islResetDef (islResetWork tag io) t tag io)

/-- The rest of an ISL_RESET that replied ST_PENDING: it resets the drained cluster, gives up after 2 s, or is cancelled. -/
def State.islResetPending (s : State) (k : Nat) (c : PendingCmd) : State :=
  let n := fld (arg c.args 1) 6 0
  let clear (s : State) : State := s.modSea (fun x => { x with drainClusters := x.drainClusters.filter (· ≠ n) })
  if c.cancelled then (clear s).ticketDone k 0x001B []
  else if s.clusterIdle n && (s.island n).state == .run then (s.commandReset n).ticketDone k 0 []
  else if c.at_ + 2000000000 ≤ s.now then (clear s).ticketDone k 0x0CC2 []
  else s

end Sys2Proof.Machine
end

