-- ==== Sys2Proof/Machine/Time.lean ====
section
/-! DEFINITION. PTP, the served clock's timers, PPS and the time-area commands (10_time.md).  The firing of the
compare units is in Machine/Epochs.lean. -/

namespace Sys2Proof.Machine

/-! ### PTP reception (R270 to R273) -/

/-- A shadow follows a master: ACQUIRING, LOCKED or REFUSED. -/
def Shadow.tracks (h : Shadow) : Bool := h.state == .acquiring || h.state == .locked || h.state == .refused

/-- A message reaches an enabled shadow, or is dropped and counted (R270, R272); `follow`: only the master followed may
send it. -/
def State.ptpTake (s : State) (n : Nat) (m : PtpMsg) (follow : Bool) (lo hi : Int) (f : DomainCfg → Shadow → State) : State :=
  if (s.shadow n).state = .disabled then s
  else match tfind s.cfg.domains n with
    | none => s
    | some d =>
      match s.ptpDrop n m with
      | some k => s.count 9 n k
      | none =>
        if m.logInterval < lo ∨ hi < m.logInterval then s.count 9 n 0
        else if follow && (!(s.shadow n).tracks || !(s.shadow n).fromMaster m) then s.count 9 n 2
        else f d (s.shadow n)

/-- Receive capture of a shadow's own time on a port, in 2^-16 ns (R269, R318). -/
def State.shadowCapture (s : State) (n port : Nat) : Int := (s.shadow n).value + s.dev (0x0810 + port) * 65536

/-- A Sync's difference of shadow and master time is complete: the servo takes the offset (R272). -/
def State.syncDone (s : State) (n : Nat) (diff : Int) : State :=
  (s.modShadow n (fun h => { h with t2t1 := diff, pendingSync := none })).takeOffset n (diff - (s.shadow n).meanDelay)

def execPtpSync (t shadow : Nat) (m : PtpMsg) (s : State) : Out :=
  let s := s.tick t
  .next (s.ptpTake shadow m true (-7) 1 (fun d _ =>
    let t2 := s.shadowCapture shadow d.port
    let s := s.modShadow shadow (fun h => { h with lastSync := s.now, logSync := m.logInterval })
    if m.twoStep then s.modShadow shadow (fun h => { h with pendingSync := some (m.seq, 0, t2 - m.correction) })
    else s.syncDone shadow (t2 - m.origin - m.correction)))

def execPtpFollowUp (t shadow : Nat) (m : PtpMsg) (s : State) : Out :=
  let s := s.tick t
  .next (s.ptpTake shadow m true (-128) 127 (fun _ h =>
    match h.pendingSync with
    | some (q, _, d) => if q = m.seq then s.syncDone shadow (d - m.origin - m.correction) else s.count 9 shadow 2
    | none => s.count 9 shadow 2))

/-- An Announce takes its master's place in the list (R271). -/
def putMaster (l : List MasterData) (m : MasterData) (now : Nat) : List MasterData :=
  match l.find? (fun x => x.source == m.source) with
  | some x => { m with prev := some x.heard, heard := now } :: l.filter (fun y => y.source ≠ m.source)
  | none => { m with prev := none, heard := now } :: l

/-- The best master among those heard within their receipt timeouts (R271). -/
def State.bmca (s : State) (n : Nat) : Option MasterData :=
  bestMaster ((s.shadow n).masters.filter (fun m => decide (s.now ≤ m.heard + 3 * logNs m.logAnnounce)))

def execPtpAnnounce (t shadow : Nat) (m : PtpMsg) (s : State) : Out :=
  let s := s.tick t
  .next (s.ptpTake shadow m false (-3) 4 (fun _ h =>
    let d := { m.data with logAnnounce := m.logInterval }
    let s := s.modShadow shadow (fun h => { h with masters := putMaster h.masters d s.now })
    -- the master followed is announced anew
    let s := if h.tracks && (match h.master with | some x => x.source == d.source | none => false) then
        let s := s.modShadow shadow (fun h => { h with master := some { d with heard := s.now } })
        if s.tim.following = .shadow shadow then s.modTim (fun x => { x with utcOffset := d.utcOffset, utcValid := d.utcValid }) else s
      else s
    match s.bmca shadow with
    | none => s
    | some b =>
      let same := match h.master with
        | some x => x.source == b.source && x.grandmaster == b.grandmaster
        | none => false
      if h.state = .listening ∨ (h.tracks ∧ !same) then s.acquire shadow b else s))

def execPtpDelayResp (t shadow : Nat) (m : PtpMsg) (s : State) : Out :=
  let s := s.tick t
  .next (s.ptpTake shadow m true (-128) 127 (fun d h =>
    let own : PortId := { clock := BitVec.ofNat 64 s.clockId, port := d.port + 1 }
    match h.delayReq with
    | some (q, some t3) =>
      if q = m.seq ∧ m.requesting = own then
        let delay := (h.t2t1 + (m.origin - m.correction - t3)) / 2
        let ds := (delay :: h.delays).take 8
        let mean := ds.foldl (fun (a : Int) x => if x < a then x else a) delay
        s.modShadow shadow (fun h => { h with delays := ds, meanDelay := mean, delayReq := none, logDelayReq := m.logInterval })
      else s.count 9 shadow 2
    | _ => s.count 9 shadow 2))

/-- A Delay_Req leaves at the master's interval after the one before (R271). -/
def execDelayReqSend (t shadow : Nat) (s : State) : Out :=
  let h := s.shadow shadow
  if !h.tracks then .next (s.tick t)
  else
    let s := s.tick (match h.delayAt with | some a => max t (a + logNs h.logDelayReq) | none => t)
    match tfind s.cfg.domains shadow with
    | none => .next s
    | some d =>
      let q := h.delaySeq
      let s := s.modShadow shadow (fun h =>
        { h with delayReq := some (q, none), delayAt := some s.now, delaySeq := (q + 1) % 65536 })
      .next (s.sendPtp d.port d.transport true (s.ptpBytes d.port d.domain 1 0x0008 1 q 0 127 (toBe 10 0)) (.delayReq shadow q))

/-! ### Timers of the shadows and of the served clock -/

def execAnnounceReceiptTimeout (t shadow : Nat) (s : State) : Out :=
  let h := s.shadow shadow
  match h.tracks, h.master with
  | true, some m =>
    let s := s.tick (max t (m.heard + 3 * logNs m.logAnnounce))
    .next ((s.modShadow shadow (fun h => { h with masters := h.masters.filter (fun x => x.source ≠ m.source) })).listen shadow)
  | _, _ => .next (s.tick t)

def execSyncTimeout (t shadow : Nat) (s : State) : Out :=
  let h := s.shadow shadow
  if !h.tracks then .next (s.tick t)
  else .next ((s.tick (max t (h.lastSync + 4 * logNs h.logSync))).listen shadow)

/-- The residual of a REFUSED shadow is checked again (R275). -/
def execRefusedRecheck (t shadow : Nat) (s : State) : Out :=
  let h := s.shadow shadow
  if h.state ≠ .refused then .next (s.tick t)
  else
    let s := s.tick (max t (h.checkedAt + 1000000000))
    if within (s.residual shadow) (s.devN 0x0803) then
      .next (s.modShadow shadow (fun h => { h with state := .locked, lockedSince := s.now })).select
    else .next (s.refuse shadow)

/-- The preferred shadow has been LOCKED for time.revert_s (R274). -/
def execPreferredRevert (t : Nat) (s : State) : Out :=
  let p := s.devN 0x0801
  if p < 2 ∧ (s.shadow p).state = .locked ∧ s.tim.following = .shadow (1 - p) then
    .next (s.tick (max t ((s.shadow p).lockedSince + s.devN 0x0802 * 1000000000))).select
  else .next (s.tick t)

/-- The slew's residual is 0 (R276). -/
def execSlewEnd (t : Nat) (s : State) : Out :=
  match s.tim.slewing, s.tim.following with
  | true, .shadow n =>
    let left := (s.residual n).natAbs * 10000
    let s := s.tick (max t (s.now + (left + nsUnit - 1) / nsUnit))
    .next (if s.residual n = 0 then s.modTim (fun x => { x with slewing := false }) else s)
  | _, _ => .next (s.tick t)

/-- Holdover has lasted time.holdover_alarm_s (R278). -/
def execHoldoverAlarm (t : Nat) (s : State) : Out :=
  if s.tim.following = .holdover ∧ !s.tim.holdAlarm then
    let s := s.tick (max t (s.tim.holdSince + s.devN 0x0807 * 1000000000))
    .next ((s.modTim (fun x => { x with holdAlarm := true })).raiseDev 0x0805 srcServed
      ((s.now - s.tim.holdSince) / 1000000000))
  else .next (s.tick t)

/-! ### The master role (R280, R281) -/

def State.modMaster (s : State) (port : Nat) (f : MasterPort → MasterPort) : State :=
  s.modTim (fun t => { t with masters := tmod t.masters port {} f })
def State.masterPort (s : State) (port : Nat) : MasterPort := tget s.tim.masters port {}

/-- The setting of an enabled master port. -/
def State.masterCfg (s : State) (port : Nat) : Option MasterCfg :=
  match tfind s.cfg.masters port with
  | some m => if m.enable then some m else none
  | none => none

def execMasterSyncSend (t port : Nat) (s : State) : Out :=
  match s.masterCfg port with
  | none => .next (s.tick t)
  | some m =>
    let x := s.masterPort port
    let s := s.tick (match x.syncAt with | some a => max t (a + logNs m.logSync) | none => t)
    let s := s.modMaster port (fun x => { x with syncSeq := (x.syncSeq + 1) % 65536, syncAt := some s.now })
    let flags := if m.oneStep then 0x0008 else 0x0208
    let msg := s.ptpBytes port m.domain 0 flags 0 x.syncSeq 0 m.logSync (toBe 10 0)
    .next (s.sendPtp port m.transport true msg (if m.oneStep then .nothing else .sync x.syncSeq) m.oneStep)

/-- Data of Table 10-6: clockClass, timeSource, currentUtcOffset and its validity. -/
def State.announced (s : State) : Nat × Nat × Int × Bool :=
  match s.tim.timeState with
  | 0 => (248, 0xA0, s.tim.utcOffset, false)
  | 3 => (7, 0x20, s.tim.utcOffset, s.tim.utcValid)
  | n =>
    let cls := match (s.shadow (n - 1)).master with | some m => m.clockClass | none => 0
    (cls, 0x20, s.tim.utcOffset, s.tim.utcValid)

def execMasterAnnounceSend (t port : Nat) (s : State) : Out :=
  match s.masterCfg port with
  | none => .next (s.tick t)
  | some m =>
    let x := s.masterPort port
    let s := s.tick (match x.annAt with | some a => max t (a + logNs m.logAnnounce) | none => t)
    let s := s.modMaster port (fun x => { x with annSeq := (x.annSeq + 1) % 65536, annAt := some s.now })
    let (cls, src, utc, valid) := s.announced
    let body := toBe 10 0 ++ toBe 2 (unsgn 16 utc) ++ toBe 1 0 ++ toBe 1 m.priority1 ++ toBe 1 cls ++ toBe 1 0xFE ++
      toBe 2 0xFFFF ++ toBe 1 m.priority2 ++ toBe 8 s.clockId ++ toBe 2 0 ++ toBe 1 src
    .next (s.sendPtp port m.transport false
      (s.ptpBytes port m.domain 0xB (8 + 4 * b2n valid) 5 x.annSeq 0 m.logAnnounce body))

def execMasterDelayReq (t port : Nat) (m : PtpMsg) (s : State) : Out :=
  let s := s.tick t
  match s.masterCfg port with
  | none => .next s
  | some c =>
    if m.malformed || m.unsupported || m.domain ≠ c.domain then .next s
    else
      let v := s.stampAt (0x0810 + port)
      let body := ptpTime v ++ toBe 8 m.data.source.clock.toNat ++ toBe 2 m.data.source.port
      .next (s.sendPtp port c.transport false
        (s.ptpBytes port c.domain 9 0x0008 3 m.seq (m.correction - (fracOf v : Int)) c.logSync body))

/-! ### PPS (R283, R284) -/

/-- A compare unit of a PPS output fires, and its output rises where the mode allows (R284). -/
def State.ppsRise (s : State) (out : Nat) : State :=
  let s := (s.fireMark (2 + out)).rearm (2 + out)
  let mode := s.devN 0x0808
  if mode = 1 ∨ (mode = 2 ∧ s.tim.timeState ≠ 0) then
    let ends := s.now + s.devN 0x0809 * 1000
    (s.modTim (fun t => if out = 0 then { t with ppsOut0 := true, ppsFall0 := ends } else { t with ppsOut1 := true, ppsFall1 := ends })).emitOut
      (.pin (if out = 0 then "PPS_OUT0" else "PPS_OUT1") true)
  else s

def execPpsOutRise (t out : Nat) (s : State) : Out :=
  let c := s.cmp (2 + out)
  if 1 < out ∨ !c.armed then .next (s.tick t)
  else .next ((s.tick (max t (s.deadlineOf c.sec c.ns))).ppsRise out)

def execPpsOutFall (t out : Nat) (s : State) : Out :=
  let high := if out = 0 then s.tim.ppsOut0 else s.tim.ppsOut1
  if 1 < out ∨ !high then .next (s.tick t)
  else
    let s := s.tick (max t (if out = 0 then s.tim.ppsFall0 else s.tim.ppsFall1))
    .next ((s.modTim (fun x => if out = 0 then { x with ppsOut0 := false } else { x with ppsOut1 := false })).emitOut
      (.pin (if out = 0 then "PPS_OUT0" else "PPS_OUT1") false))

def execPpsInEdge (t : Nat) (s : State) : Out :=
  let s := s.tick t
  let glitch := match s.tim.ppsIn with | some (_, d) => decide (s.now < d + 100000000) | none => false
  if glitch then .next (s.count 9 0 3)
  else .next (s.modTim (fun x => { x with ppsIn := some (x.served, s.now), ppsEdges := x.ppsEdges + 1 }))

/-! ### Commands (Table 10-12) -/

/-- TIME_STATUS. -/
def timeStatusDef : CmdDef :=
  { code := 0x0801, argc := 0, tenant := true, always := true }

/-- TIME_STATUS's work. -/
def timeStatusWork (_tag : Nat) (_io : HostIo) (_a : List Word) (s : State) : Answer :=
    let v := s.tim.served
    let r : Int := match s.tim.following with | .shadow n => toNs (s.residual n) | _ => 0
    let held := if s.tim.following = .holdover then (s.now - s.tim.holdSince) / 1000000000 else 0
    .ok [ wd (nsOf v), wd (secOf v), wd (secOf v / 2 ^ 32 % 65536 + fracOf v * 65536), wd s.timState, satWord r
        , wd (min held (2 ^ 32 - 1)), wd (unsgn 16 s.tim.utcOffset + 65536 * b2n s.tim.utcValid), wd s.tim.steps ] s

def execTimeStatus (t tag : Nat) (io : HostIo) (s : State) : Out :=
  .next (s.run timeStatusDef (timeStatusWork tag io) t tag io)

/-- TIME_SHADOW_STATUS. -/
def timeShadowStatusDef : CmdDef :=
  { code := 0x0802, argc := 1, tenant := true, masks := [1] }

/-- TIME_SHADOW_STATUS's work. -/
def timeShadowStatusWork (_tag : Nat) (_io : HostIo) (a : List Word) (s : State) : Answer :=
    let n := fld (arg a 1) 0 0
    let h := s.shadow n
    let (port, dom, prof) := match tfind s.cfg.domains n with | some d => (d.port, d.domain, d.profile) | none => (0, 0, 0)
    let m := h.master.getD {}
    .ok ([wd (shadowCode h.state + port * 16 + dom * 64 + prof * 65536)] ++ twoWords m.grandmaster.toNat ++
      [ wd (m.clockClass + m.stepsRemoved * 256), satWord (if h.state = .disabled then 0 else toNs (s.residual n)), satWord (toNs h.meanDelay)
      , satWord (toNs h.offset), wd (unsgn 32 (h.corr / 1000)), wd (s.counter 9 n 2) ]) s

def execTimeShadowStatus (t tag : Nat) (io : HostIo) (s : State) : Out :=
  .next (s.run timeShadowStatusDef (timeShadowStatusWork tag io) t tag io)

/-- TIME_DOMAIN_SET. -/
def timeDomainSetDef : CmdDef :=
  { code := 0x0803, argc := 1, tenant := false, staged := true, masks := [0x137FF] }

/-- TIME_DOMAIN_SET's work. -/
def timeDomainSetWork (tag : Nat) (_io : HostIo) (a : List Word) (s : State) : Answer :=
    let w := arg a 1
    if fld w 13 12 = 3 then .status 0x0012 s
    else s.stage tag 0x0803 (.timeDomain (fld w 0 0)
      { enable := bit w 1, port := fld w 3 2, domain := fld w 10 4, transport := fld w 13 12, profile := fld w 16 16 })

def execTimeDomainSet (t tag : Nat) (io : HostIo) (s : State) : Out :=
  .next (s.run timeDomainSetDef (timeDomainSetWork tag io) t tag io)

/-- TIME_MASTER_SET. -/
def timeMasterSetDef : CmdDef :=
  { code := 0x0804, argc := 2, tenant := false, staged := true, masks := [0x331FF] }

/-- TIME_MASTER_SET's work. -/
def timeMasterSetWork (tag : Nat) (_io : HostIo) (a : List Word) (s : State) : Answer :=
    let w := arg a 1
    let x := arg a 2
    let ls := sgn 8 (fld x 7 0)
    let la := sgn 8 (fld x 15 8)
    if fld w 13 12 = 3 ∨ ls < -7 ∨ 1 < ls ∨ la < -3 ∨ 4 < la then .status 0x0012 s
    else s.stage tag 0x0804 (.timeMaster (2 + fld w 0 0)
      { enable := bit w 1, domain := fld w 8 2, transport := fld w 13 12, profile := fld w 16 16, oneStep := bit w 17
        logSync := ls, logAnnounce := la, priority1 := fld x 23 16, priority2 := fld x 31 24 })

def execTimeMasterSet (t tag : Nat) (io : HostIo) (s : State) : Out :=
  .next (s.run timeMasterSetDef (timeMasterSetWork tag io) t tag io)

/-- TIME_JUMP_ACCEPT (R287). -/
def State.jumpAccept (s : State) (n : Nat) : State :=
  let old := s.tim.timeState
  let s := s.step (s.residual n)
  let s := s.modShadow n (fun h => { h with state := .locked, lockedSince := s.now })
  let s := s.modTim (fun t =>
    { t with following := .shadow n, slewing := false, timeState := followState n, accepted := some n
             utcOffset := match (t.shadow n).master with | some m => m.utcOffset | none => t.utcOffset
             utcValid := match (t.shadow n).master with | some m => m.utcValid | none => t.utcValid
             corr := (t.shadow n).corr, holdAlarm := false, followLog := if old = 0 then [] else t.followLog })
  s.switchEvent old (followState n)

/-- TIME_JUMP_ACCEPT. -/
def timeJumpAcceptDef : CmdDef :=
  { code := 0x0805, argc := 1, tenant := false, masks := [1] }

/-- TIME_JUMP_ACCEPT's work. -/
def timeJumpAcceptWork (_tag : Nat) (_io : HostIo) (a : List Word) (s : State) : Answer :=
    let n := fld (arg a 1) 0 0
    if (s.shadow n).state ≠ .refused then .status 0x0801 s
    else .ok [satWord (toNs (s.residual n))] (s.jumpAccept n)

def execTimeJumpAccept (t tag : Nat) (io : HostIo) (s : State) : Out :=
  .next (s.run timeJumpAcceptDef (timeJumpAcceptWork tag io) t tag io)

/-- TIME_CMP_SET. -/
def timeCmpSetDef : CmdDef :=
  { code := 0x0806, argc := 4, tenant := false, masks := [0x10F, 0xFFFFFFFF, 0xFFFFFFFF, 0xFFFF] }

/-- TIME_CMP_SET's work. -/
def timeCmpSetWork (_tag : Nat) (_io : HostIo) (a : List Word) (s : State) : Answer :=
    let u := fld (arg a 1) 3 0
    let ns := (arg a 3).toNat
    let sec := (arg a 2).toNat
    if u < 4 then .status 0x0802 s
    else if 999999999 < ns then .status 0x0012 s
    else if bit (arg a 1) 8 then
      .ok [] (s.modCmp u (fun _ => { sec, ns, armed := true, period := fld (arg a 4) 15 0, past := s.hasReached sec ns }))
    else .ok [] (s.modCmp u (fun c => { c with armed := false, late := false }))

def execTimeCmpSet (t tag : Nat) (io : HostIo) (s : State) : Out :=
  .next (s.run timeCmpSetDef (timeCmpSetWork tag io) t tag io)

/-- TIME_CMP_STATUS. -/
def timeCmpStatusDef : CmdDef :=
  { code := 0x0807, argc := 1, tenant := false, masks := [0xF] }

/-- TIME_CMP_STATUS's work. -/
def timeCmpStatusWork (_tag : Nat) (_io : HostIo) (a : List Word) (s : State) : Answer :=
    let c := s.cmp (fld (arg a 1) 3 0)
    .ok [wd (b2n c.armed + 2 * b2n c.late + c.count * 65536), wd c.sec, wd c.ns] s

def execTimeCmpStatus (t tag : Nat) (io : HostIo) (s : State) : Out :=
  .next (s.run timeCmpStatusDef (timeCmpStatusWork tag io) t tag io)

/-- TIME_PPS_IN_GET. -/
def timePpsInGetDef : CmdDef :=
  { code := 0x0808, argc := 0, tenant := true }

/-- TIME_PPS_IN_GET's work. -/
def timePpsInGetWork (_tag : Nat) (_io : HostIo) (_a : List Word) (s : State) : Answer :=
    let v := match s.tim.ppsIn with | some (v, _) => v | none => 0
    .ok [wd (secOf v), wd (nsOf v), wd (fracOf v), wd s.tim.ppsEdges, wd (s.counter 9 0 3)] s

def execTimePpsInGet (t tag : Nat) (io : HostIo) (s : State) : Out :=
  .next (s.run timePpsInGetDef (timePpsInGetWork tag io) t tag io)

/-- A read of TIM_SERVED_NS captures the whole served time for its instance (R285); a dead slice's unit reads 0 (R529). -/
def execTimServedNsRead (t tag : Nat) (s : State) : Out :=
  let s := s.tick t
  if 287 < tag || (isSlice tag && !s.enabled tag) then .next s
  else .next (s.modInst tag (fun i => { i with snapshot := s.tim.served }))

end Sys2Proof.Machine
end

