-- ==== Sys2Proof/Machine/Epochs.lean ====
section
/-! DEFINITION. Epochs, the latch, the books and the statistics commands (16_epochs_books.md, R282 and R549 of
10_time.md). -/

namespace Sys2Proof.Machine

/-! ### Statistics (Table 16-2) -/

/-- Instances of a group and statistics of each. -/
def groupShape (g : Nat) : Option (Nat × Nat) :=
  match g with
  | 1 => some (128, 12) | 2 => some (8, 9) | 3 => some (288, 9) | 4 => some (1, 5) | 5 => some (768, 4)
  | 6 => some (1, 9) | 7 => some (1, 4) | 8 => some (4, 6) | 9 => some (2, 4) | 10 => some (64, 14)
  | 11 => some (1, 6) | 12 => some (4, 19) | 13 => some (1, 3) | 14 => some (3072, 1) | 15 => some (108, 2)
  | 16 => some (32, 8) | 17 => some (1, 7) | _ => none

/-- Cells that a caste counts: serving, moving or under test (R187). -/
def State.casteCells (s : State) (c : Caste) : Nat :=
  (s.sea.cells.filter (fun p => p.2.caste == c &&
    (p.2.state == .available || p.2.state == .moving || p.2.state == .testing))).length

/-- Cells in a state. -/
def State.cellsAt (s : State) (st : CellState) : Nat := (s.sea.cells.filter (fun p => p.2.state == st)).length

/-- Objects in a state; entry 0 is none of them (R124). -/
def State.objsAt (s : State) (st : ObjState) : Nat := (s.cap.objs.filter (fun p => p.1 ≠ 0 && p.2.state == st)).length

/-- Session slots in a state. -/
def State.slotsAt (s : State) (st : SlotState) : Nat := (s.sea.slots.filter (fun p => p.2.state == st)).length

/-- A channel of a die link by its number in group DIELINK; before its link is trained every credit is free. -/
def State.chanOf (s : State) (n : Nat) : Chan :=
  let d := (s.link (n / 8)).dir (n / 4 % 2)
  tget d.chans (n % 4) { free := chanSize (n % 4) }

/-- A gauge of Table 16-2; none for a counter. -/
def State.gauge (s : State) (g n i : Nat) : Option Nat :=
  match g, i with
  | 1, 5 => some (match s.ses n with | some x => b2n (!x.counted) | none => 0)
  | 1, 10 => some (b2n (s.unit n).outstanding.isSome)
  -- an upstream frame is acknowledged in the step that receives it
  | 1, 11 => some 0
  | 2, 7 => some (s.seg n).queue.length
  | 3, 8 => some (s.slotsHeld n)
  | 4, 0 => some (1024 - s.slotsAt .active - s.slotsAt .draining)
  | 4, 1 => some (s.slotsAt .active)
  | 4, 2 => some (s.slotsAt .draining)
  | 5, 3 => some (s.busyOf n (s.cell n))
  | 6, 6 => some (s.cellsAt .faulted)
  | 6, 7 => some (s.cellsAt .quarantined)
  | 6, 8 => some (s.sea.cells.filter (fun p => p.2.state ≠ .absent)).length
  | 6, k => some (s.casteCells (casteOf k))
  | 7, 2 => some (8192 - s.fare.hub.length)
  | 7, 3 => some s.fare.hub.length
  | 10, 3 => some (s.rxs n).buf.length
  | 11, 0 => some (294912 - s.audCfg.poolAllotted)
  | 11, 1 => some s.audCfg.poolAllotted
  | 12, 15 => some (sumOf ((s.port n).queues.map (fun q => q.2.length)))
  | 13, 0 => some (s.freeUnits 0)
  | 13, 1 => some s.heldUnits
  | 13, 2 => some 0
  | 16, 0 => some (s.chanOf n).free
  | 16, 1 => some (sumOf ((s.chanOf n).held.map (·.2)))
  | 16, 2 => some (s.chanOf n).inFlight
  | 16, 3 => some (s.chanOf n).occupied
  | 16, 4 => some (s.chanOf n).returning
  | 17, 0 => some (65535 - s.objsAt .live - s.objsAt .retired)
  | 17, 1 => some (s.objsAt .live)
  | 17, 2 => some (s.objsAt .retired)
  | 17, 3 => some (2048 - s.ins.tlb.length)
  | 17, 4 => some s.ins.tlb.length
  | 17, 5 => some (256 - (s.ins.insts.filter (fun p => isSlice p.1 && p.2.phase ≠ .off)).length)
  | 17, 6 => some (s.ins.insts.filter (fun p => isSlice p.1 && p.2.phase ≠ .off)).length
  | _, _ => none

/-- A statistic as a live read finds it. -/
def State.stat_ (s : State) (g n i : Nat) : Nat :=
  match s.gauge g n i with
  | some v => v
  | none => s.counter g n i

/-- Every gauge that is not 0, by statistic key. -/
def State.gauges (s : State) : Tbl Nat :=
  (List.range 18).flatMap (fun g => match groupShape g with
    | none => []
    | some (m, k) => (List.range m).flatMap (fun n => (List.range k).filterMap (fun i =>
        match s.gauge g n i with
        | some v => if v = 0 then none else some (statKey g n i, v)
        | none => none)))

/-! ### The latch (R411 to R415, R422) -/

/-- Quantities inside an unbalanced window now (Table 16-3, R418): credit audits, flushes, stream restarts. -/
def State.openBooks (s : State) : List (Nat × Nat) :=
  let audits := s.isl.links.flatMap (fun p => if p.2.auditing then (List.range 4).map (fun c => (4, linkStat p.1 0 c)) else [])
  let flushes := s.man.mans.flatMap (fun p => if p.2.state = .applying then p.2.windows else [])
  let restarts := (s.aud.rx.filter (fun p => p.2.restart)).map (fun p => (8, p.1))
  audits ++ flushes ++ restarts ++ s.stat.openWindows

/-- Counts that restart at the latch beside those of Table 16-2. -/
def State.epochCounts (s : State) : State :=
  { s with
    evt := { s.evt with queues := tmap s.evt.queues (fun _ q => { q with lostPrev := q.lost, lost := 0, masked := 0 }) }
    net := { s.net with ports := tmap s.net.ports (fun _ p => { p with macErrors := 0, pauses := 0 })
                        inputDrops := 0, queueDrops := [], stewardDrops := 0 }
    tim := { s.tim with ppsEdges := 0, masters := tmap s.tim.masters (fun _ m => { m with dropped := 0 }) }
    aud := { s.aud with rx := tmap s.aud.rx (fun _ x => { x with packets := 0, stepSamples := 0 })
                        tx := tmap s.aud.tx (fun _ x => { x with sent := 0 }) }
    isl := { s.isl with islands := tmap s.isl.islands (fun _ i => { i with errors := 0, rateRaised := false })
                        links := tmap s.isl.links (fun _ l => { l with audits := 0 }) }
    test := { s.test with deferred := 0 }
    mem := { s.mem with overlap := [] } }

/-- The latch: the epoch in progress goes to the ledger bank, and the next begins.  `late` and `reset` say how it ends;
`sec` and `ns` are its served end. -/
def State.latch (s : State) (late reset : Bool) (sec ns : Nat) : State :=
  let x := s.stat
  let gs := s.gauges
  let onTime := !late && !reset
  let regular := x.startOnTime && onTime && sec == x.startSec + x.startLen && !x.flags.cold
  let wins := s.openBooks
  let led : LedgerEpoch :=
    { number := x.epoch, stats := x.live.foldl (fun t p => tset t p.1 p.2) gs, saturated := x.saturated
      flags := { x.flags with short := !regular, late, reset }
      endSec := sec, endNs := ns, windows := wins, start := x.startGauges, startWindows := x.startWindows }
  let stat := { x with
    live := [], saturated := [], epoch := (x.epoch + 1) % 2 ^ 32, startSec := sec, startNs := ns, startOnTime := onTime
    startLen := s.devN 0x0B01, flags := { short := !onTime }, ledger := (led :: x.ledger).take 2
    startGauges := gs, startWindows := wins, openWindows := [], lateDue := false }
  { s with stat }.epochCounts

/-- Unit 0 fires: freeze point first if it is due, then the latch, the next boundary, the boundary's commit points and
the caste targets (R410, R412, R84, R189, R549). -/
def State.boundaryFire (s : State) : State :=
  let c1 := s.cmp 1
  let s := if c1.armed && s.hasReached c1.sec c1.ns then ((s.fireMark 1).modCmp 1 (fun c => { c with armed := false })).freezePoint else s
  let late := (s.cmp 0).past || s.stat.lateDue
  let (sec, ns) := if late then (s.servedSec, s.servedNs) else (s.stat.boundary, 0)
  let s := (s.fireMark 0).latch late false sec ns
  let s := s.armBoundary (nextMultiple sec (s.devN 0x0B01))
  s.boundaryCommits.setTargets

/-- Unit n has reached its target. -/
def State.cmpDue (s : State) (n : Nat) : Bool := (s.cmp n).armed && s.hasReached (s.cmp n).sec (s.cmp n).ns

/-- EPOCH_BOUNDARY (R412). -/
def execEpochBoundary (t : Nat) (s : State) : Out :=
  let s := s.tick t
  .next (if s.cmpDue 0 then s.boundaryFire else s)

/-- FREEZE_POINT (R83). -/
def execFreezePoint (t : Nat) (s : State) : Out :=
  let s := s.tick t
  .next (if s.cmpDue 1 then ((s.fireMark 1).modCmp 1 (fun c => { c with armed := false })).freezePoint else s)

/-- COMPARE_FIRE (R282, Table 10-7). -/
def execCompareFire (t unit : Nat) (s : State) : Out :=
  let s := s.tick t
  if 15 < unit || !s.cmpDue unit then .next s
  else if unit = 0 then .next s.boundaryFire
  else if unit = 1 then .next ((s.fireMark 1).modCmp 1 (fun c => { c with armed := false })).freezePoint
  else if unit < 4 then .next (s.ppsRise (unit - 2))
  else
    let s := (s.fireMark unit).rearm unit
    .next (s.raiseDev 0x0806 (srcCmp unit) (s.cmp unit).count)

/-! ### The books (R417 to R421) -/

/-- One instance of a conserved quantity: its number, instance, the group instance it uses, whether it is a flow, and
whether it balances. -/
structure Book where
  q : Nat
  inst : Nat
  uses : Nat
  flow : Bool
  ok : Bool

/-- Every instance of Table 16-3 on the part, over a ledger epoch. -/
def LedgerEpoch.books (e : LedgerEpoch) (links : List Nat) : List Book :=
  let v (g n i : Nat) : Int := (tget e.stats (statKey g n i) 0 : Nat)
  let v0 (g n i : Nat) : Int := (tget e.start (statKey g n i) 0 : Nat)
  let st (q g : Nat) (ok : Bool) : Book := { q, inst := 0, uses := statKey g 0 0, flow := false, ok }
  let lanes := (List.range 128).flatMap (fun n =>
    [ { q := 1, inst := n, uses := statKey 1 n 0, flow := true
        ok := v 1 n 0 = v 1 n 1 + v 1 n 2 + v 1 n 3 + v 1 n 4 + (v 1 n 5 - v0 1 n 5) }
    , { q := 3, inst := n, uses := statKey 1 n 0, flow := false, ok := v 1 n 10 ≤ 1 && v 1 n 11 ≤ 1 : Book } ])
  let chans := links.flatMap (fun die => (List.range 8).map (fun k =>
    let n := 8 * die + k
    { q := 4, inst := n, uses := statKey 16 n 0, flow := false
      ok := v 16 n 0 + v 16 n 1 + v 16 n 2 + v 16 n 3 + v 16 n 4 = chanSize (k % 4) : Book }))
  let ports := (List.range 4).map (fun n =>
    { q := 6, inst := n, uses := statKey 12 n 0, flow := true
      ok := v 12 n 0 = v 12 n 5 + v 12 n 6 + v 12 n 7 && v 12 n 8 = v 12 n 9 + v 12 n 10 + v 12 n 11 &&
        v 12 n 9 = v 12 n 12 + v 12 n 13 + v 12 n 14 + (v 12 n 15 - v0 12 n 15) : Book })
  let streams := (List.range 64).map (fun n =>
    { q := 8, inst := n, uses := statKey 10 n 0, flow := true
      ok := v 10 n 0 = v 10 n 1 + v 10 n 2 + (v 10 n 3 - v0 10 n 3) : Book })
  let castes := ((List.range 8).map (fun i => v 6 0 i)).foldl (· + ·) 0
  lanes ++ [st 2 4 (v 4 0 0 + v 4 0 1 + v 4 0 2 = 1024)] ++ chans ++ [st 5 13 (v 13 0 0 + v 13 0 1 + v 13 0 2 = 16384)] ++ ports ++
    [st 7 11 (v 11 0 0 + v 11 0 1 = 294912)] ++ streams ++
    [ st 9 6 (castes = v 6 0 8), st 10 17 (v 17 0 0 + v 17 0 1 + v 17 0 2 = 65535), st 11 17 (v 17 0 3 + v 17 0 4 = 2048)
    , st 12 17 (v 17 0 5 + v 17 0 6 = 256), st 13 7 (v 7 0 2 + v 7 0 3 = 8192) ]

/-- An instance of a quantity is not checked (R414, R418). -/
def LedgerEpoch.excuses (e : LedgerEpoch) (b : Book) : Bool :=
  e.saturated.contains b.uses || e.windows.contains (b.q, b.inst) || (b.flow && e.startWindows.contains (b.q, b.inst))

/-- An epoch's check: its failed and excused quantities. -/
def LedgerEpoch.check (e : LedgerEpoch) (links : List Nat) : LedgerEpoch :=
  let bs := e.books links
  let qs (f : Book → Bool) : List Nat := (bs.filter f).foldl (fun l b => linsert l b.q) []
  let excused := qs e.excuses
  let failed := qs (fun b => !e.excuses b && !b.ok)
  { e with failed, excused, pending := false
           flags := { e.flags with excused := !excused.isEmpty, imbalance := !failed.isEmpty } }

/-- The steward checks every epoch still unchecked, the older first (R421, R420). -/
def State.checkBooks (s : State) : State :=
  let links := List.range s.lcy.dies
  let one (s : State) (n : Nat) : State :=
    match s.stat.ledger.find? (fun e => e.number == n && e.pending) with
    | none => s
    | some e =>
      let c := e.check links
      let ledger := s.stat.ledger.map (fun x => if x.number = n then c else x)
      let s := { s with stat := { s.stat with ledger } }
      if c.failed.isEmpty then s else s.raise 0x0B01 srcSteward 0 tagDevice n (some (wd (bitsOf c.failed), 0, 0))
  (s.stat.ledger.reverse.map (·.number)).foldl one s

/-- BOOKS_CHECK (R421). -/
def execBooksCheck (t : Nat) (s : State) : Out :=
  let s := s.tick t
  .next (if s.mbx.state = .serving then s.checkBooks else s)

/-! ### Commands (Table 16-4) -/

/-- FLAGS (Table 16-1). -/
def EpochFlags.byte (f : EpochFlags) : Nat :=
  b2n f.cold + 2 * b2n f.short + 4 * b2n f.stepped + 8 * b2n f.late + 16 * b2n f.reset + 32 * b2n f.excused + 64 * b2n f.imbalance

/-- STAT_EPOCH. -/
def statEpochDef : CmdDef :=
  { code := 0x0B01, argc := 0, tenant := true }

/-- STAT_EPOCH's work. -/
def statEpochWork (_tag : Nat) (_io : HostIo) (_a : List Word) (s : State) : Answer :=
    let x := s.stat
    let led := match x.ledger with
      | e :: _ => [wd e.number, wd e.flags.byte, wd e.endSec, wd e.endNs]
      | [] => [0, 0, 0, 0]
    .ok ([wd x.epoch, wd x.startSec, wd x.startNs, wd (s.devN 0x0B01)] ++ led) s

/-- STAT_EPOCH. -/
def execStatEpoch (t tag : Nat) (io : HostIo) (s : State) : Out :=
  .next (s.run statEpochDef (statEpochWork tag io) t tag io)

/-- Bytes that STAT_READ writes (R423): epoch, group, bank, count, first instance, FLAGS, whether any instance is
SATURATED, and the values. -/
def statBytes (epoch group bank count per first flags : Nat) (sat : Bool) (vals : List Nat) : List Byte :=
  toLe 4 epoch ++ toLe 1 group ++ toLe 1 bank ++ toLe 2 count ++ toLe 2 per ++ toLe 2 first ++ toLe 1 flags ++ toLe 1 (b2n sat) ++
    toLe 2 0 ++ vals.flatMap (fun v => toLe 8 (v % 2 ^ 48))

/-- STAT_READ. -/
def statReadDef : CmdDef :=
  { code := 0x0B02, argc := 5, tenant := true, masks := [0xFFFFFFFF, 0xFFFFFFFF, 0xFFFFFFFF, 0x0FFF03FF, 0xFFF] }

/-- What the caller of STAT_READ may name. -/
def statReadOwn (tag : Nat) (a : List Word) : Bool := fld (arg a 4) 7 0 = 3 && fld (arg a 4) 27 16 = tag && decide (fld (arg a 5) 11 0 ≤ 1)

/-- STAT_READ's work. -/
def statReadWork (tag : Nat) (io : HostIo) (a : List Word) (s : State) : Answer :=
      let len := (arg a 3).toNat
      let g := fld (arg a 4) 7 0
      let bank := fld (arg a 4) 9 8
      let first := fld (arg a 4) 27 16
      let want := fld (arg a 5) 11 0
      if bank = 3 then .status 0x0012 s
      else if len % 8 ≠ 0 ∨ len < 24 then .status 0x0011 s
      else match groupShape g with
        | none => .status 0x0B01 s
        | some (insts, per) =>
          if insts < first + want then .status 0x0B01 s
          else
            let led := if bank = 0 then none else s.stat.ledger[bank - 1]?
            if bank ≠ 0 && led.isNone then .status 0x0B02 s
            else
              let count := min want ((len - 16) / (8 * per))
              let val (n i : Nat) : Nat := match led with
                | some e => tget e.stats (statKey g n i) 0
                | none => s.stat_ g n i
              let vals := (List.range count).flatMap (fun k => (List.range per).map (fun i => val (first + k) i))
              let sats := match led with | some e => e.saturated | none => s.stat.saturated
              let sat := (List.range count).any (fun k => sats.contains (statKey g (first + k) 0))
              let (epoch, flags) := match led with | some e => (e.number, e.flags.byte) | none => (s.stat.epoch, s.stat.flags.byte)
              let bytes := statBytes epoch g bank count per first flags sat vals
              match s.hostWrite tag (ofTwo (arg a 1) (arg a 2)) bytes io.dataFault with
              | (0, s) => .ok [wd bytes.length, wd (if bank = 0 then 0 else epoch)] s
              | (st, s) => .status st s

/-- STAT_READ (R423, R424). -/
def execStatRead (t tag : Nat) (io : HostIo) (s : State) : Out :=
  .next (s.runWith statReadDef (statReadOwn tag) (fun _ => false) (fun _ s => .ok s) (statReadWork tag io) t tag io)

/-- STAT_BOOKS. -/
def statBooksDef : CmdDef :=
  { code := 0x0B03, argc := 1, tenant := false }

/-- STAT_BOOKS's work. -/
def statBooksWork (_tag : Nat) (_io : HostIo) (a : List Word) (s : State) : Answer :=
    match s.stat.ledger.find? (fun e => e.number = (arg a 1).toNat) with
    | none => .status 0x0B02 s
    | some e => .ok [wd (bitsOf e.failed), wd (bitsOf e.excused), wd (b2n e.pending), wd e.flags.byte] s

/-- STAT_BOOKS (R421, R424). -/
def execStatBooks (t tag : Nat) (io : HostIo) (s : State) : Out :=
  .next (s.run statBooksDef (statBooksWork tag io) t tag io)

end Sys2Proof.Machine
end

