-- ==== Sys2Proof/Machine/Restart.lean ====
section
/-! DEFINITION. Restarts of the steward (R66, R67 of 02_steward_mailboxes.md), resets of hub islands (R367 of
14_islands.md), warm reset and cold reset (R459, R477, R478 of 19_startup_lifecycle.md). -/

namespace Sys2Proof.Machine

def State.modLcy (s : State) (f : Lcy → Lcy) : State := { s with lcy := f s.lcy }
def State.modMbx (s : State) (f : Mbx → Mbx) : State := { s with mbx := f s.mbx }
def State.modEvt (s : State) (f : Evt → Evt) : State := { s with evt := f s.evt }

/-! ### The start of a warm reset (R477 steps 1 and 2) -/

/-- Every instance passes its disable point and the link goes down; placed sessions abort at their next APDU boundary,
those of a tenant as its disable says, the rest as their cells' reset will. -/
def State.warmStart (s : State) : State :=
  let s := (s.modLcy (fun l => { l with warm := true })).linkLost
  let placed := s.fare.sessions.filter (fun p => p.2.cell.isSome)
  placed.foldl (fun s p => s.markAbort p.1 0x36) s

/-! ### The steward (R66, R67) -/

/-- The steward enters reset: READY falls on every page; `warm` lets the fourth restart within 60 s start a warm reset
(R477), which does not start while one is in progress (R480) or in the ZEROISED state, left only by cold reset (R405). -/
def State.restartBegin (s : State) (warm : Bool) : State :=
  let times := s.now :: s.lcy.restartTimes.filter (fun x => decide (s.now < x + 60000000000))
  let fourth := warm && decide (4 ≤ times.length) && !s.lcy.warm && !s.sec.zeroised
  let s := s.modLcy (fun l => { l with restartTimes := if fourth then [] else times, warmByRestart := l.warmByRestart || fourth })
  let s := s.modMbx (fun m =>
    { m with state := .restarting, restarts := min 65535 (m.restarts + 1)
             pages := tmap m.pages (fun _ p => { p with ready := false }) })
  if fourth then s.warmStart else s

/-- Events of the steward's own source that were held until R67's step 5 are raised. -/
def State.releaseHeld (s : State) : State :=
  s.modEvt (fun e => { e with heldBack := [], raised := e.heldBack.foldl (fun l r => insertRaise r l) e.raised })

/-- Pending tickets end (17 Start-up and resets): their events carry ST_RESTARTED, and their drain marks go. -/
def State.ticketsEnd (s : State) : State :=
  let hit (k : Nat) : Bool := match tfind s.test.reqs k with | some r => r.ticket.isSome | none => false
  let s := s.modSea (fun a =>
    { a with drainCells := a.drainCells.filter (fun n => !hit (testKey 0 n))
             drainClusters := a.drainClusters.filter (fun n => !hit (testKey 1 n) && tmem s.test.reqs (testKey 1 n)) })
  let s := s.modTest (fun x => { x with reqs := x.reqs.filter (fun p => p.2.ticket.isNone) })
  (tkeys s.mbx.tickets).foldl (fun s k => s.ticketDone k 0x001A []) s

/-- Zeroisation's step 6 ends (Tables 15-7 and 15-9): the log record, the ZEROISED state, and EV_SEC_ZEROISED pending for
every instance whose queue is disabled. -/
def State.zeroiseEnd (s : State) : State :=
  match s.sec.zeroising with
  | none => s
  | some (cause, sessions, records) =>
    let s := (s.secLog 3 cause sessions records).modSec (fun x => { x with zeroising := none, zeroised := true })
    s.modEvt (fun e => { e with zeroisedFor := s.enabledTags })

/-- STEWARD_RESET (R66). -/
def execStewardReset (t : Nat) (s : State) : Out :=
  let s := s.tick t
  if s.mbx.state ≠ .serving then .next s else .next (s.restartBegin true)

/-- STEWARD_RESTART_DONE: R67's six steps. -/
def execStewardRestartDone (t : Nat) (s : State) : Out :=
  let s := s.tick t
  if s.mbx.state ≠ .restarting || s.lcy.warm then .next s
  else
    let taken := (s.mbx.pages.filter (fun p => p.2.taken)).map (·.1)
    let s := s.modMbx (fun m => { m with held := none })
    let s := taken.foldl (fun s t => s.complete t 0x001A []) s
    let s := s.rollbackOpen
    let s := s.modMbx (fun m => { m with recs := tmap m.recs (fun _ r => { r with stored := none }) })
    let s := s.enabledTags.foldl (fun s t => s.notice t (noticeWord 0x03 s.mbx.restarts)) s
    let s := s.enabledTags.foldl (fun s t => s.modPage t (fun p => { p with ready := true })) s
    let s := (s.modMbx (fun m => { m with state := .serving })).releaseHeld
    .next s.ticketsEnd.zeroiseEnd.take

/-! ### Hub islands (R367) -/

/-- A reset of H.NET drops every frame it holds, counted in its port's reset-drop counter; the ports retrain (12
Failures). -/
def State.netReset (s : State) : State :=
  let port (s : State) (p : Nat) : State :=
    let up := (s.port p).link
    let s := (((s.modPort p (fun x => { x with link := false })).flushPort p 18 none)).endEqFreeze p
    if up then s.raiseDev 0x0A01 (srcPort p) 0 else s
  let s := [0, 1, 2, 3].foldl port s
  (s.net.stewardIn.foldl (fun s f => s.count 12 f.1 18) s).modNet (fun n => { n with stewardIn := [] })

/-- A reset of H.AUD: every stream restarts from WAITING with an empty buffer, counted under R302, and the engine takes
the configuration in force (11 Start-up). -/
def State.audReset (s : State) : State :=
  let s := (tkeys s.aud.rx).foldl State.rxRestart s
  s.modAud (fun a =>
    { a with tx := tmap a.tx (fun _ x => { sent := x.sent }), buses := [], prompts := [], power := [], emgNext := none
             ver := s.man.cur })

/-- A reset of H.EVT: events in transit and the occurrences held in open windows are lost (18 Failures). -/
def State.evtReset (s : State) : State :=
  let raised := s.evt.raised
  let windows := s.evt.windows
  let s := s.modEvt (fun e => { e with raised := [], windows := [] })
  let s := raised.foldl (fun s r => r.rcpt.foldl (fun s p => s.loseRecord (queueOf p.1) 1 true) s) s
  windows.foldl (fun s w => if w.2.held = 0 then s else s.loseRecord (queueOf w.2.rcpt) w.2.held true) s

/-- An island enters reset and its crossings isolate it (R366); the transfers they hold are a free value. -/
def State.isolate (s : State) (n : Nat) : State :=
  let (held, s) := s.free
  s.modIsland n (fun i => { i with state := .reset, isolated := true, resetAt := s.now, heldTransfers := held })

/-- HUB_ISLAND_RESET: what the owning chapter states is lost. -/
def execHubIslandReset (t island : Nat) (s : State) : Out :=
  let s := s.tick t
  if island < 96 || 107 < island || !s.lcy.powerGood || (s.island island).state ≠ .run then .next s
  else
    let s := s.isolate island
    match island with
    | 96 => .next (if s.mbx.state = .serving then s.restartBegin true else s)
    | 97 => .next s.linkLost
    | 98 => .next s.netReset
    | 100 => .next s.audReset.assignBuses
    | 104 => .next s.suspendDrover
    | 107 => .next s.evtReset
    | _ => .next s

/-! ### Warm reset (R477) -/

/-- A cell in the warm reset: what it ran and held is gone; its caste is kept for stage 7. -/
def Cell.warm (now sec : Nat) (c : Cell) : Cell :=
  if c.state = .absent ∨ c.state = .quarantined then c
  else
    { state := if c.toQuarantine then .quarantined else .faulted
      lentCaste := if c.state = .moving then c.next else c.caste
      hgen := (c.hgen + 1) % 65536, faultTimes := c.faultTimes.filter (fun x => decide (x ≤ now)), changed := sec, placed := c.placed }

/-- Every cell is reset: locks are restored (R203), tests end, and the work that ran ends. -/
def State.cellsReset (s : State) : State :=
  let works := s.sea.cells.flatMap (fun p => p.2.work)
  let leases := s.sea.leases
  let s := leases.foldl (fun s p => if p.2.slot.isNone then s.restoreLock p.2 else s) s
  let s := s.modSea (fun a =>
    { a with cells := tmap a.cells (fun _ c => c.warm s.now s.sec32), leases := [], drainCells := [], drainClusters := [], l2Check := []
             pairs := tmap a.pairs (fun _ p => { p with due := false, byTest := false }) })
  let s := s.modTest (fun x => { x with reqs := x.reqs.filter (fun p => p.2.ticket.isNone), loans := [], l2 := [] })
  let s := s.modTest (fun x => { x with reqs := tmap x.reqs (fun _ r => { r with marked := false, running := false }) })
  let s := (s.sea.jobs.map (·.1)).foldl (fun s n => s.endJob n 0 [] none) s
  works.foldl (fun s w => match w with | .session lane => s.abortSes lane 0x36 | _ => s) s

/-- Cluster islands are reset, with what they hold; their links' credits are audited (14 The credit audit). -/
def State.clustersReset (s : State) : State :=
  let s := { s with mem := { s.mem with lines := [] } }
  let ns := (List.range 96).filter (fun n => s.islandPresent n && (s.island n).state ≠ .absent)
  let s := ns.foldl (fun s n => ((s.isolate n).loseCredits n).ackFor n) s
  (List.range s.lcy.dies).foldl (fun s d => if (s.link d).state == .up then s.auditRequest d else s) s

/-- The instances' sequences end: their objects are revoked and they are gone (Table 19-9). -/
def State.instancesLost (s : State) : State :=
  let tags := (s.ins.insts.filter (fun p => p.2.phase == .disabling)).map (·.1)
  let own (n : Nat) : Bool := tags.contains (s.obj n).owner
  let s := tags.foldl State.disabled (s.bumpAll own own)
  { s with ins := { s.ins with tlb := [], scratch := 0 }
           isl := { s.isl with sel := 0, telem0 := 0, telem1 := 0 } }

/-- The steward is reset: pages, records and tickets are gone; what R67 keeps is kept. -/
def State.stewardReset (s : State) : State :=
  s.rollbackOpen.modMbx (fun m =>
    { m with pages := [], recs := [], tickets := [], held := none, state := .booting, lastWasPf := false, lastTenant := 287 })

/-- R477 steps 3, 4 and 6 up to stage 7: the epoch is latched with quantities 5, 6 and 8 excused (R422). -/
def State.warmReset (s : State) : State :=
  let wins := (5, 0) :: ((List.range 4).map (fun p => (6, p)) ++ (List.range 64).map (fun n => (8, n)))
  let s := { s with stat := { s.stat with openWindows := s.stat.openWindows ++ wins } }
  let s := s.latch false true s.servedSec s.servedNs
  let s := s.cellsReset.clustersReset.instancesLost.stewardReset
  let s := [96, 97, 98, 100].foldl State.isolate s.netReset.audReset
  s.modLcy (fun l => { l with stage := 7, lastReset := .warm })

/-! ### Cold reset (R459, R462, R478) -/

/-- The time engine starts: units 0 and 1 for the first boundary of the free-running served time (10 Start-up and
resets, R410), units 2 and 3 for the pulses (R284). -/
def State.startTime (s : State) : State := (s.armBoundary (nextMultiple s.servedSec (s.devN 0x0B01))).armPps

/-- What a cold reset leaves: the battery domain, fuses, flash, pins, the emergency path, and the model's own record. -/
def State.coldReset (s : State) (last : LastReset) : State :=
  State.startTime
  { now := s.now, out := s.out, freeCtr := s.freeCtr, pending := s.pending
    sec := { bat := s.sec.bat, memKey := s.sec.memKey }
    lcy := { powerGood := s.lcy.powerGood, bootStart := s.now, stage := if s.lcy.powerGood then 1 else 0, lastReset := last
             fuses := s.lcy.fuses, desc := s.lcy.desc, banks := s.lcy.banks, cert := s.lcy.cert
             dies := s.lcy.dies, gpioIn := s.lcy.gpioIn }
    lane := { emgInput := s.lane.emgInput, emgSince := s.lane.emgSince, emg := s.lane.emg, releasing := s.lane.releasing
              clearSent := s.lane.clearSent, freeExitAt := s.lane.freeExitAt, emgPath := s.lane.emgPath }
    cart := tmap s.cart (fun _ c => { cdHigh := c.cdHigh, cdSince := s.now })
    ins := { perstN := s.ins.perstN, perstAt := s.ins.perstAt }
    mem := { extMib := s.mem.extMib }
    cap := { sealKey := none }
    isl := { islands := tmap s.isl.islands (fun _ i => { tj := i.tj }) } }

/-- WARM_RESET: a warm reset that has begun resets the part; an image that fails its check turns it into a cold reset. -/
def execWarmReset (t : Nat) (imageOk : Bool) (s : State) : Out :=
  let s := s.tick t
  if !s.lcy.warm || s.lcy.stage ≠ 8 then .next s
  else
    let s := s.warmStart.warmReset
    .next (if imageOk then s else s.coldReset .cold)

end Sys2Proof.Machine
end

