-- ==== Sys2Proof/Machine/Security.lean ====
section
/-! DEFINITION. Detectors, keys, zeroisation, the security log and the debug lock (15_security.md). -/

namespace Sys2Proof.Machine

/-! ### Fuses burnt (R466, R467) and the key ladder (R392, R393) -/

/-- Bits of a fuse word are burnt, with the reads that show them afterwards: whether the burn succeeds, and the state with
the bits in use if any read shows them. -/
def State.burn (s : State) (w : Nat) (bits : Word) (burnt : BitVec 3) : Bool × State :=
  let put (t : Tbl Word) : Tbl Word := if burnt = 0 then t else tmod t w 0 (· ||| bits)
  (burnt == 7, s.modLcy (fun l => { l with fuses := put l.fuses, use := put l.use }))

/-- Bit of a thermometer's step k, from 1. -/
def stepBit (k : Nat) : Word := (1 : Word) <<< (k - 1)

/-- The DUK: the words of the copy in use. -/
def State.dukWords (s : State) (copy : Nat) : List Word := (List.range 8).map (fun i => s.fuse (64 + 8 * copy + i))

/-- The DIK's public keys, 64 and 1,184 bytes; none without a DUK or while the BKR is empty. -/
def State.dik (s : State) : Option (List Byte) :=
  match s.sec.duk, s.sec.bat.bkr with
  | some d, some b => some ((Config.dik (s.dukWords d) b ++ List.replicate 1248 0).take 1248)
  | _, _ => none

/-- ENROL_ID's 8 bytes, 0 while there is no DIK (R393). -/
def State.enrolId (s : State) : List Byte :=
  match s.dik with
  | some k => (Config.sha256 k ++ List.replicate 8 0).take 8
  | none => List.replicate 8 0

/-- ENROL_ID as two words, bytes 0 to 3 then 4 to 7, big-endian (Table 15-11). -/
def State.enrolWords (s : State) : List Word := [wd (beNat (s.enrolId.take 4)), wd (beNat (s.enrolId.drop 4))]

/-- A draw of the TRNG. -/
def State.random (s : State) : Nat × State := (Config.random s.freeCtr, { s with freeCtr := s.freeCtr + 1 })

/-! ### Zeroisation (R403, R404, Table 15-7) -/

/-- A session in flight: placed, and no record sealed (R216). -/
def Session.inFlight (x : Session) : Bool := x.cell.isSome && x.record.isNone || x.phase == .sealing

/-- An accepted record whose OPEN was not sent (R404). -/
def State.unsent (s : State) (x : Session) : Bool :=
  x.outcome == some .accept && !x.decided && match x.record with
    | some n => (match s.jrec n with | some r => !r.nowhere | none => true)
    | none => false

/-- Step 2: segment controllers stop, cartridges power off, audio stops; sessions in flight count as aborts, and a sealed
one counts with the outcome of its record. -/
def State.zeroStop (s : State) : State :=
  let s := s.fare.sessions.foldl (fun s p =>
    if p.2.counted then s
    else if p.2.inFlight then s.countOutcome p.1 .abort
    else match p.2.outcome with | some o => s.countOutcome p.1 o | none => s) s
  let seg (g : Seg) : Seg :=
    { started := g.started, stopped := true, lonely := g.lonely, quiet := g.quiet, cycled := g.cycled, seq0 := g.seq0 }
  let s := { s with lane := { s.lane with segs := tmap s.lane.segs (fun _ g => seg g)
                                          units := tmap s.lane.units (fun _ u => { u with outstanding := none, echo := none, reassign := false }) } }
  let s := (List.range 8).foldl (fun s n => s.modSeg n seg) s
  let s := (List.range 4).foldl (fun s n =>
    (s.cartOff n).modCart n (fun c => { cdHigh := c.cdHigh, cdSince := c.cdSince, sealedOff := true })) s
  s.modAud (fun a => { a with muted := true, prompts := [], tx := [] })

/-- Step 3: every cell stops and is cleared. -/
def State.zeroCells (s : State) : State :=
  let stop (c : Cell) : Cell := if c.state = .absent ∨ c.state = .quarantined then c else
    { state := .faulted, hgen := (c.hgen + 1) % 65536, changed := s.sec32, placed := c.placed }
  let s := s.modSea (fun a =>
    { a with cells := tmap a.cells (fun _ c => stop c), slots := [], leases := [], jobs := [], waiting := [], drainCells := []
             drainClusters := [], l2Check := [], pairs := [] })
  let s := { s with mem := { s.mem with lines := [] } }
  s.modTest (fun x => { x with reqs := [], loans := [], l2 := [], again := [], echoOpen := [], loopback := [] })

/-- Step 4: queues and translation tables of every instance; what was in transit or held in a window is lost. -/
def State.zeroQueues (s : State) : State :=
  let s := s.evtReset
  let tags := s.ins.insts.map (·.1)
  let s := tags.foldl (fun s t =>
    (s.modInst t (fun i => { i with qps := [], root := none })).modEvq t (fun e => { e with active := false })) s
  let s := s.modEvt (fun e => { e with disabledByZ := tags })
  let s := { s with ins := { s.ins with tlb := [] } }
  s.modNet (fun n => { n with rxPosts := [], txWaits := [] })

/-- Step 5: hub store but for the hub journal buffer; the object table, leases, Bloom filters, used-ticket sets and the
configuration go with it, but for what Table 15-8 keeps. -/
def State.zeroStore (s : State) : State :=
  let old := s.cfg
  let kept : Cfg := { ports := old.ports, ifs := old.ifs, ingress := old.ingress, egress := old.egress, queues := old.queues, tdm := old.tdm
                      params := old.params.filter (fun p => p.1 = 0x0901) }
  let doms := old.domains
  let s := { s with man := { s.man with pages := [(0, kept)], cur := 0, versions := [], mans := [] } }
  let s := doms.foldl (fun s p => s.domainCommitted p.1 (some p.2) none) s
  let keep (r : JRec) : Bool := r.index.isSome
  let s := s.modFare (fun a => { a with sessions := [], shadows := [], used := [], chains := [], records := a.records.filter (fun p => keep p.2) })
  let s := s.modAud (fun a => { a with ver := 0, rx := tmap a.rx (fun _ x => { packets := x.packets }), buses := [] })
  let hub (a : Nat) : Bool := decide (a < 0x100000000)
  { s with cap := { s.cap with objs := [], broadcasts := [], faults := [] }
           mem := { s.mem with bytes := s.mem.bytes.filter (fun p => !hub p.1), tags := s.mem.tags.filter (fun g => !hub (16 * g)), refusals := [] } }

/-- Zeroisation starts: its hardware steps run, and the steward's restart begins. -/
def State.zeroise (s : State) (cause : Nat) : State :=
  if s.sec.zeroised || s.sec.zeroising.isSome then s
  else
    let flying := (s.fare.sessions.filter (fun p => p.2.inFlight)).length
    let unsent := (s.fare.sessions.filter (fun p => s.unsent p.2)).length
    let s := (s.modBat (fun b => { b with bkr := none })).modSec (fun x =>
      { x with keys := [], keysMade := false, zeroising := some (cause, flying, unsent), debugArmed := none, importFails := [], importUntil := [] })
    let s := { s with cap := { s.cap with sealKey := none } }
    s.zeroStop.zeroCells.zeroQueues.zeroStore.restartBegin false

/-! ### Detectors (R388 to R391, R460) -/

/-- Detectors that run on battery (Table 15-1). -/
def onBatteryDet (n : Nat) : Bool := n == 0 || (decide (10 ≤ n) && decide (n ≤ 14)) || n == 16

/-- A detector runs: a disabled loop does not trip, those of absent dies do not exist, on battery only the marked ones run,
and 6 to 9 and 14 rest until power-good. -/
def State.detRuns (s : State) (n : Nat) : Bool :=
  decide (n < 18) && !(s.lcy.dies == 2 && (n == 3 || n == 4)) &&
    !(decide (10 ≤ n) && decide (n ≤ 13) && !s.sec.bat.mask.getLsbD (n - 10)) &&
    if s.sec.bat.onBattery then onBatteryDet n
    else s.lcy.powerGood || !((decide (6 ≤ n) && decide (n ≤ 9)) || n == 14)

/-- A detector trips. -/
def State.trip (s : State) (n value : Nat) : State :=
  let s := if n = 16 then s.modBat (fun b => { b with vbat := value % 65536 }) else s
  if !s.detRuns n then s
  else if n < 16 then
    let s := s.secLog 1 n value
    if s.lcy.powerGood then s.zeroise 0 else s.modBat (fun b => { b with bkr := none })
  else
    let s := s.secLog 2 n value
    let s := if n = 17 then s.modSec (fun x => { x with trngOk := false }) else s
    if s.lcy.powerGood then s.raiseDev 0x0D01 srcSecurity n else s

/-- DETECTOR_TRIP (R388). -/
def execDetectorTrip (t n value : Nat) (s : State) : Out := .next ((s.tick t).trip n value)

/-- TAMPER_LOOP_SAMPLE (R389): the level driven so far is compared with the one sampled; a fresh random level follows. -/
def execTamperLoopSample (t loop : Nat) (level : Bool) (s : State) : Out :=
  let s := s.tick t
  if 3 < loop || !s.sec.bat.mask.getLsbD loop then .next s
  else
    let bad := s.sec.loopOut.contains loop != level
    let twice := bad && s.sec.mismatch.contains loop
    let (v, s) := s.random
    let s := s.modSec (fun x => { x with mismatch := lput x.mismatch loop (bad && !twice), loopOut := lput x.loopOut loop (v % 2 == 1) })
    let s := s.emitOut (.pin ("TMP" ++ toString loop ++ "_OUT") (v % 2 == 1))
    .next (if twice then s.trip (10 + loop) (b2n level) else s)

/-- BATTERY_SWITCH (R391): on battery VDD_HUB is absent, and the emergency path is reset (R461). -/
def execBatterySwitch (t : Nat) (onBattery : Bool) (s : State) : Out :=
  let s := (s.tick t).modBat (fun b => { b with onBattery })
  .next (if onBattery then { s with lane := { s.lane with emgPath := false, emg := false, releasing := false, clearSent := 0, freeExitAt := 0 } } else s)

/-- BATTERY_LOSS (R391): the BKR is cleared; whether power allowed the record is a free value. -/
def execBatteryLoss (t : Nat) (s : State) : Out :=
  let s := s.tick t
  if !s.sec.bat.onBattery then .next s
  else
    let s := s.modBat (fun b => { b with bkr := none })
    let (v, s) := s.free
    .next (if v % 2 = 1 then s.secLog 9 0xFF else s)

/-- MEM_INTEGRITY_FAIL (R400): the failure is logged, counted within the last second and raised; a cell traps, and a burst
trips detector 15. -/
def execMemIntegrityFail (t cell : Nat) (s : State) : Out :=
  let s := s.tick t
  if !s.lcy.powerGood then .next s
  else
    let fails := s.now :: s.sec.memFails.filter (fun x => decide (s.now < x + 1000000000))
    let s := ((s.modSec (fun x => { x with memFails := fails })).secLog 7 0xFF).raiseDev 0x0D02 srcSecurity fails.length
    let s := if cell < 768 then s.trap cell 0x11 {} none else s
    .next (if s.devN 0x0D02 ≤ fails.length then (s.modSec (fun x => { x with memFails := [] })).trip 15 fails.length else s)

/-! ### The debug lock (R407, Table 15-10) -/

/-- The part's serial, big-endian (fuse words 6 and 7, low word first). -/
def State.serialBytes (s : State) : List Byte := toBe 8 (ofTwo (s.fuse 6) (s.fuse 7))

/-- UNLOCK_CHALLENGE: offered in every state but DECOMMISSIONED. -/
def execUnlockChallenge (t : Nat) (s : State) : Out :=
  let s := s.tick t
  if !s.lcy.powerGood || s.lifecycle = 3 then .next s
  else
    let (v, s) := s.random
    let nonce : BitVec 128 := BitVec.ofNat 128 v
    .next ((s.modSec (fun x => { x with nonce := some (nonce, s.now) })).emitOut (.jtag (s.serialBytes ++ toBe 16 nonce.toNat)))

/-- Hash words of a slot: 8 words from a fuse word on, as the 32 bytes of a hash. -/
def State.hashWords (s : State) (first : Nat) : List Word := (List.range 8).map (fun i => s.fuse (first + i))

/-- A key block hashes to a slot's words (R469 step 4). -/
def hashIs (block : List Byte) (ws : List Word) : Bool := Config.sha256 block == ws.flatMap (fun w => toBe 4 w.toNat)

/-- A debug slot is usable: programmed, stable, not revoked. -/
def State.debugUsable (s : State) (k : Nat) : Bool :=
  (s.hashWords (40 + 8 * k)).any (· ≠ 0) && !s.lcy.dbgDisabled.contains k && !(s.fuse 5).getLsbD (8 + k)

/-- A debug response passes: a key block of a usable debug slot, then the signature pair over serial, nonce and lifecycle
code. -/
def State.unlockOk (s : State) (nonce : BitVec 128) (r : List Byte) : Bool :=
  let block := r.take 1376
  let msg := s.serialBytes ++ toBe 16 nonce.toNat ++ toBe 1 s.lifecycle
  r.length == 3860 && [0, 1].any (fun k => s.debugUsable k && hashIs block (s.hashWords (40 + 8 * k))) &&
    Config.ecVerify (block.take 64) msg (slice r 1376 64) && Config.pqVerify (block.drop 64) msg (r.drop 1440)

/-- The state lets a response unlock (Table 15-10). -/
def State.unlockOffered (s : State) : Bool :=
  s.lifecycle == 1 || (s.lifecycle == 2 && match s.sec.debugArmed with
    | some at_ => decide (s.now < at_ + s.devN 0x0D03 * 1000000000)
    | none => false)

/-- UNLOCK_RESPONSE: one response a nonce, within 60 s; a passing one starts zeroisation, and debug opens after it. -/
def execUnlockResponse (t : Nat) (sig : List Byte) (s : State) : Out :=
  let s := s.tick t
  match s.sec.nonce with
  | none => .next s
  | some (nonce, at_) =>
    let s := s.modSec (fun x => { x with nonce := none })
    let pass := decide (s.now < at_ + 60000000000) && s.lcy.powerGood && s.unlockOffered && s.unlockOk nonce sig
    let s := s.emitOut (.jtag [if pass then 1 else 0])
    .next (if pass then ((s.zeroise 2).secLog 5 0xFF).modSec (fun x => { x with debugOpen := true }) else s)

/-! ### Key import (R395 to R397) -/

/-- Bytes of a key (Table 15-3), 0 for an unknown KEYTYPE. -/
def keyLen (type : Nat) : Nat := [0, 16, 32, 32, 64, 1312, 16].getD type 0

/-- The KEY's type, bytes, rights and label that an envelope brings, if it passes every check of R396. -/
def State.openEnvelope (s : State) (tag : Nat) (b : List Byte) : Option (Nat × List Byte × BitVec 16 × Word) :=
  let kind := byteAt b 5
  let type := beNat (slice b 6 2)
  let n := keyLen type
  let pub := type = 4 ∨ type = 5
  let body := if kind = 0 then n else 1181 + n
  let rights := beNat (slice b 10 2)
  let layout := slice b 0 5 == [0x57, 0x4B, 0x45, 0x31, 1] && decide (n ≠ 0) && (if kind = 0 then decide pub else kind == 1 && !decide pub) &&
    beNat (slice b 24 4) == body && b.length == 28 + body
  let ok := layout && beNat (slice b 8 2) == tag && rights &&& 0xB0 == rights && slice b 16 8 == s.enrolId
  let out (k : List Byte) := some (type, k, BitVec.ofNat 16 rights, wd (beNat (slice b 12 4)))
  if !ok then none
  else if kind = 0 then (if Config.keyValid type (b.drop 28) then out (b.drop 28) else none)
  else match s.sec.duk, s.sec.bat.bkr with
    | some d, some k => (match Config.unwrap (s.dukWords d) k b with
      | some key => out ((key ++ List.replicate n 0).take n)
      | none => none)
    | _, _ => none

/-- A failed import is counted; the limit within 60 s refuses further imports until that window ends, with one log record. -/
def State.importFailed (s : State) (tag : Nat) : State :=
  let s := s.count 3 tag 6
  let fails := s.now :: (tget s.sec.importFails tag []).filter (fun x => decide (s.now < x + 60000000000))
  if fails.length < s.devN 0x0D01 then s.modSec (fun x => { x with importFails := tset x.importFails tag fails })
  else
    let first := fails.foldl min s.now
    (s.modSec (fun x => { x with importFails := terase x.importFails tag, importUntil := tset x.importUntil tag (first + 60000000000) })).secLog
      8 0xFF 0 tag

/-- What refuses an import before its envelope is read. -/
def State.importBar (s : State) (tag : Nat) : Option Nat :=
  if s.sec.duk.isNone then some 0x0D09
  else if s.sec.bat.bkr.isNone then some 0x0D04
  else if s.now < tget s.sec.importUntil tag 0 then some 0x0D02
  else none

/-- An envelope is imported as a KEY object that waits for the caller's open manifest; `handle` says whether its handle is
returned. -/
def State.secImport (s : State) (tag code : Nat) (b : List Byte) (handle : Bool) : Answer :=
  match s.openEnvelope tag b with
  | none => .status 0x0D01 (s.importFailed tag)
  | some (type, key, rights, label) =>
    let slot := s.sec.nextKey
    match s.mintRoot tag (accessLevel tag) 3 rights (.key slot) 0 0 label with
    | none => .status 0x0406 s
    | some (n, s') =>
      let rec_ : KeyRec := { type, bytes := key, object := n, pending := (s.openMan tag).map (·.1) }
      let s' := s'.modSec (fun x => { x with keys := tset x.keys slot rec_, nextKey := slot + 1 })
      let results := if handle then handleWords (s'.sealed ((s'.obj n).cap n)) else []
      match s'.stage tag code (.keyImport slot n) b.length results with
      | .reply 0 rs s' => .reply 0 rs s'
      | .reply st _ _ => .status st s
      | a => a

/-- SEC_KEY_IMPORT. -/
def secKeyImportDef : CmdDef :=
  { code := 0x0D04, argc := 3, tenant := true, staged := true }

/-- SEC_KEY_IMPORT's work. -/
def secKeyImportWork (tag : Nat) (io : HostIo) (a : List Word) (s : State) : Answer :=
    let len := (arg a 3).toNat
    if len < 92 ∨ 1340 < len then .status 0x0012 s
    else match s.importBar tag with
      | some st => .status st s
      | none => match s.hostRead tag (ofTwo (arg a 1) (arg a 2)) len 3 io.dataFault with
        | .error (st, s) => .status st s
        | .ok s => s.secImport tag 0x0D04 ((io.data ++ List.replicate len 0).take len) true

/-- SEC_KEY_IMPORT (R395 to R397, R408). -/
def execSecKeyImport (t tag : Nat) (io : HostIo) (s : State) : Out :=
  .next (s.run secKeyImportDef (secKeyImportWork tag io) t tag io)

/-! ### Commands (Table 15-11) -/

/-- SEC_STATUS. -/
def secStatusDef : CmdDef :=
  { code := 0x0D01, argc := 0, tenant := true, always := true }

/-- SEC_STATUS's work. -/
def secStatusWork (tag : Nat) (_io : HostIo) (_a : List Word) (s : State) : Answer :=
    let (v, s) := s.free
    let s := s.modBat (fun b => { b with vbat := v % 65536 })
    let x := s.sec
    .ok ([ wd (s.lifecycle + 4 * b2n x.bat.bkr.isSome + 8 * b2n x.zeroised + 16 * b2n x.debugOpen + 256 * s.zcount)
         , wd (x.bat.mask.toNat + 16 * bitsOf x.mismatch), wd (x.bat.vbat % 65536) ] ++ s.enrolWords ++
        [wd (min (2 ^ 32 - 1) (s.counter 3 tag 6))]) s

/-- SEC_STATUS. -/
def execSecStatus (t tag : Nat) (io : HostIo) (s : State) : Out :=
  .next (s.run secStatusDef (secStatusWork tag io) t tag io)

/-- SEC_LOG_READ. -/
def secLogReadDef : CmdDef :=
  { code := 0x0D02, argc := 1, tenant := false, always := true }

/-- SEC_LOG_READ's work. -/
def secLogReadWork (_tag : Nat) (_io : HostIo) (a : List Word) (s : State) : Answer :=
    match s.sec.bat.log.find? (fun r => r.seq == (arg a 1).toNat) with
    | some r => .ok (leWords r.bytes) s
    | none => .status 0x0D0B s

/-- SEC_LOG_READ (R406). -/
def execSecLogRead (t tag : Nat) (io : HostIo) (s : State) : Out :=
  .next (s.run secLogReadDef (secLogReadWork tag io) t tag io)

/-- The attestation over a caller's nonce (Table 15-6). -/
def State.attestation (s : State) (duk : Nat) (nonce : List Byte) : List Byte × State :=
  let keys := match s.dik with | some k => k | none => List.replicate 1248 0
  let body : List Byte := [0x41, 0x54, 0x53, 0x31, 1] ++ toBe 1 s.lifecycle ++ toBe 1 s.zcount ++ toBe 1 (b2n s.sec.bat.bkr.isSome) ++
    s.serialBytes ++ s.enrolId ++ nonce ++ toBe 6 s.servedSec ++ toBe 4 s.servedNs ++ toBe 1 s.tim.timeState ++ [0] ++ keys
  let k := s.dukWords duk
  let ec := (Config.ecSign k s.freeCtr body ++ List.replicate 64 0).take 64
  let pq := (Config.pqSign k body ++ List.replicate 2420 0).take 2420
  (body ++ ec ++ pq, { s with freeCtr := s.freeCtr + 1 })

/-- SEC_CERT_GET. -/
def secCertGetDef : CmdDef :=
  { code := 0x0D03, argc := 7, tenant := true, always := true }

/-- SEC_CERT_GET's work. -/
def secCertGetWork (tag : Nat) (io : HostIo) (a : List Word) (s : State) : Answer :=
    if (arg a 3).toNat < 7664 then .status 0x0011 s
    else match s.sec.duk with
      | none => .status 0x0D09 s
      | some d =>
        let (at_, s) := s.attestation d (wordsLe ((a.drop 3).take 4))
        let cert := (s.lcy.cert ++ List.replicate 3880 0).take 3880
        match s.hostWrite tag (ofTwo (arg a 1) (arg a 2)) (cert ++ at_) io.dataFault with
        | (0, s) => .ok [wd 7664] s
        | (st, s) => .status st s

/-- SEC_CERT_GET (R398). -/
def execSecCertGet (t tag : Nat) (io : HostIo) (s : State) : Out :=
  .next (s.run secCertGetDef (secCertGetWork tag io) t tag io)

/-- SEC_LOOP_SET. -/
def secLoopSetDef : CmdDef :=
  { code := 0x0D05, argc := 1, tenant := false, staged := true, masks := [0xF] }

/-- SEC_LOOP_SET's work. -/
def secLoopSetWork (tag : Nat) (_io : HostIo) (a : List Word) (s : State) : Answer :=
    s.stage tag 0x0D05 (.loops (BitVec.ofNat 4 (fld (arg a 1) 3 0)))

/-- SEC_LOOP_SET (R390). -/
def execSecLoopSet (t tag : Nat) (io : HostIo) (s : State) : Out :=
  .next (s.run secLoopSetDef (secLoopSetWork tag io) t tag io)

/-- SEC_ZEROISE. -/
def secZeroiseDef : CmdDef :=
  { code := 0x0D06, argc := 1, tenant := false }

/-- SEC_ZEROISE's work. -/
def secZeroiseWork (_tag : Nat) (_io : HostIo) (a : List Word) (s : State) : Answer :=
    if (arg a 1).toNat ≠ 0x5A45524F then .status 0x0D06 s else .silent (s.zeroise 1)

/-- SEC_ZEROISE (R408). -/
def execSecZeroise (t tag : Nat) (io : HostIo) (s : State) : Out :=
  .next (s.run secZeroiseDef (secZeroiseWork tag io) t tag io)

/-- Whether the TRNG has passed its health tests (R402); after a failure, whether 1,024 windows have passed since is a free
value. -/
def State.trngReady (s : State) : Bool × State :=
  if s.sec.trngOk then (true, s)
  else
    let (v, s) := s.free
    if v % 2 = 1 then (true, s.modSec (fun x => { x with trngOk := true })) else (false, s)

/-- SEC_REENROL's work (R405, R467): an ENROLS step is burnt while there is one, the BKR is filled, and the new ENROL_ID is
logged and returned. -/
def State.reenrol (s : State) (io : HostIo) : Answer :=
  if s.sec.bat.bkr.isSome then .status 0x0D05 s
  else
    let (ready, s) := s.trngReady
    if !ready then .status 0x0D0A s
    else if s.sec.duk.isNone then .status 0x0D09 s
    else
      let (burnt, s) := if s.enrols < 32 then s.burn 4 (stepBit (s.enrols + 1)) io.burnt else (true, s)
      if !burnt then .status 0x0D43 s
      else
        let (v, s) := s.random
        let s := s.modBat (fun b => { b with bkr := some (BitVec.ofNat 256 v) })
        .ok s.enrolWords (s.secLog 4 0xFF (beNat (s.enrolId.take 4)))

/-- SEC_REENROL. -/
def secReenrolDef : CmdDef :=
  { code := 0x0D07, argc := 0, tenant := false, pend := true }

/-- SEC_REENROL put off. -/
def secReenrolPut (_tag : Nat) (_a : List Word) (s : State) : Except Nat State :=
  barOf (if s.sec.bat.bkr.isSome then some 0x0D05 else if s.sec.duk.isNone then some 0x0D09 else none) s

/-- SEC_REENROL's work. -/
def secReenrolWork (_tag : Nat) (io : HostIo) (_a : List Word) (s : State) : Answer :=
  s.reenrol io

/-- SEC_REENROL. -/
def execSecReenrol (t tag : Nat) (io : HostIo) (s : State) : Out :=
  .next (s.runWith secReenrolDef (fun _ => true) (fun _ => false) (secReenrolPut tag) (secReenrolWork tag io) t tag io)

/-- SEC_DEBUG_ARM. -/
def secDebugArmDef : CmdDef :=
  { code := 0x0D08, argc := 0, tenant := false, staged := true }

/-- SEC_DEBUG_ARM's work. -/
def secDebugArmWork (tag : Nat) (_io : HostIo) (_a : List Word) (s : State) : Answer :=
    if s.lifecycle ≠ 2 then .status 0x001E s else s.stage tag 0x0D08 .debugArm

/-- SEC_DEBUG_ARM (R407, R408). -/
def execSecDebugArm (t tag : Nat) (io : HostIo) (s : State) : Out :=
  .next (s.run secDebugArmDef (secDebugArmWork tag io) t tag io)

end Sys2Proof.Machine
end

