-- ==== Sys2Proof/Machine/Cartridge.lean ====
section
/-! DEFINITION. Cartridge slots: detection, initialisation, the journal writer, erase, and the cartridge commands
(09_cartridges.md). -/

namespace Sys2Proof.Machine

/-! ### Detection (R244, R245) -/

/-- CARD_DETECT_CHANGE: Kn_CD_N takes a level. -/
def execCardDetectChange (t slot : Nat) (level : Bool) (s : State) : Out :=
  let s := s.tick t
  if 3 < slot || (s.cartSlot slot).cdHigh == level then .next s
  else .next (s.modCart slot (fun c => { c with cdHigh := level, cdSince := s.now }))

/-- CART_INSERTED (R244). -/
def execCartInserted (t slot : Nat) (s : State) : Out :=
  let s := s.tick t
  let c := s.cartSlot slot
  if 3 < slot || !s.lcy.powerGood || c.state ≠ .empty || c.sealedOff || c.cdHigh || decide (s.now < c.cdSince + 50000000) then .next s
  else
    let s := s.modCart slot (fun c => { cdHigh := c.cdHigh, cdSince := c.cdSince, state := .init })
    .next ((s.cartEvent slot 0x0701).cartPower slot true)

/-- CART_REMOVED (R245, R264). -/
def execCartRemoved (t slot : Nat) (s : State) : Out :=
  let s := s.tick t
  let c := s.cartSlot slot
  if 3 < slot || c.state = .empty || !c.cdHigh || decide (s.now < c.cdSince + 1000000) then .next s
  else
    let s := s.cartOff slot
    let s := (s.cartReads slot).foldl (fun s k => s.ticketDone k 0x0703 []) s
    let s := if c.state = .erasing then s.cartEvent slot 0x0706 3 else s
    .next ((s.cartEvent slot 0x0702).modCart slot (fun c => { cdHigh := c.cdHigh, cdSince := c.cdSince }))

/-- CART_POWER_CYCLE_END (R247): 50 ms without power are over, and the table restarts at step 1. -/
def execCartPowerCycleEnd (t slot : Nat) (s : State) : Out :=
  let s := s.tick t
  let c := s.cartSlot slot
  if 3 < slot || c.state ≠ .init || !c.cycling || decide (s.now < c.cycleEnds) then .next s
  else .next ((s.cartPower slot true).modCart slot (fun c => { c with cycling := false, step := 1 }))

/-! ### Initialisation (Table 9-4) -/

/-- The slot's password bytes, while its binding names a usable KEY of type 6 (R251). -/
def State.cartPwd (s : State) (n : Nat) : Option (List Byte) :=
  match tfind s.cfg.carts n with
  | some b => match b.pwd with
    | some (o, g) =>
      if s.live o && (s.obj o).gen == g then
        match s.keyOf (s.obj o) with
        | some k => if k.type = 6 then some k.bytes else none
        | none => none
      else none
    | none => none
  | none => none

/-- The step ends well: the next one follows. -/
def State.cartStep (s : State) (n k : Nat) : State := s.modCart n (fun c => { c with step := k })

/-- The slot is LOCKED (R251). -/
def State.cartLocked (s : State) (n : Nat) : State := (s.modCart n (fun c => { c with state := .locked })).cartEvent n 0x0705

/-- Lock data of CMD42: its mode, PWD_LEN and the password. -/
def State.lockData (s : State) (n mode : Nat) (pwd : List Byte) : State :=
  (s.card n 16 18).card n 42 0 ([BitVec.ofNat 8 mode, 16] ++ pwd)

/-- CMD6's argument for a mode's function: group 1 and group 4 set, every other group no change (R250). -/
def speedArg (mode : Nat) (switch : Bool) : Nat :=
  let fn := if mode = 4 then 3 else if mode = 3 then 4 else mode
  let power := if 2 ≤ mode then 1 else 0xF
  0x00FF0FF0 + power * 4096 + fn + 2 ^ 31 * b2n switch

/-- Modes tried, highest first (R250). -/
def speedModes (maxMode : Nat) (v18 wide : Bool) : List Nat :=
  if v18 then (if wide then (if 4 ≤ maxMode then [4, 2, 3] else if maxMode = 3 then [3] else if maxMode = 2 then [2] else []) else [])
  else if 1 ≤ maxMode then [1] else []

/-- The speed switch: each failing candidate is counted and taken back. -/
def State.speedSwitch (n : Nat) (good : List Nat) : List Nat → State → State
  | [], s => s
  | m :: r, s =>
    let s := (s.card n 6 (speedArg m false)).card n 6 (speedArg m true)
    if good.contains m then s.modCart n (fun c => { c with mode := m })
    else State.speedSwitch n good r ((s.card n 6 (speedArg 0 true)).count 8 n 5)

/-- The header copy that stands: valid, and the one with the higher HSERIAL; with whether it is copy B (R257). -/
def newestHeader (tenant : Nat) (a b : List Byte) : Option (List Byte × Bool) :=
  match headerOk a tenant, headerOk b tenant with
  | true, true => if bf a 4 8 < bf b 4 8 then some (b, true) else some (a, false)
  | true, false => some (a, false)
  | false, true => some (b, true)
  | false, false => none

/-- The journal is read forward while each block follows the last (R257). -/
def scanBlocks (tenant cartId : Nat) : List (List Byte) → Nat × Nat × List Byte → Nat × Nat × List Byte
  | [], x => x
  | b :: r, x =>
    if journalOk b tenant cartId x.1 then scanBlocks tenant cartId r (bf b 4 8, (lastRecord b).1, (lastRecord b).2) else x

/-- Step 15: headers and scan. -/
def State.cartScan (s : State) (n : Nat) (r : CardResp) : State :=
  let c := s.cartSlot n
  match newestHeader c.tenant r.headerA r.headerB with
  | none => s.modCart n (fun c =>
    { c with highest := 0, collected := 0, hint := 0, hserial := 0, lastRseq := 0, lastSeal := List.replicate 16 0, newestB := true
             headerDue := false })
  | some (h, isB) =>
    let x := scanBlocks c.tenant c.cartId r.blocks (bf h 12 8, bf h 20 8, slice h 28 16)
    s.modCart n (fun c =>
      { c with highest := x.1, lastRseq := x.2.1, lastSeal := x.2.2, collected := bf h 44 8, hint := bf h 12 8, hserial := bf h 4 8
               newestB := isB, headerDue := false })

/-- One step of Table 9-4 with the card's answer. -/
def State.initStep (s : State) (n : Nat) (r : CardResp) : State :=
  let c := s.cartSlot n
  let bad := !r.valid || r.timeout
  match c.step with
  | 1 => s.cartStep n 2
  | 2 => (s.card n 0 0).cartStep n 3
  | 3 =>
    let s := s.card n 8 0x1AA
    if bad || r.word.toNat != 0x1AA then s.cartFail n 3 true else s.cartStep n 4
  | 4 =>
    let s := (s.card n 55 0).card n 41 (if c.noSwitch then 0x50FF8000 else 0x51FF8000)
    if bad then s.cartRetry n 4
    else if !bit r.word 31 then s
    else if !bit r.word 30 then s.cartFail n 4 true
    else (s.modCart n (fun c => { c with s18a := bit r.word 24 && !c.noSwitch })).cartStep n 5
  | 5 =>
    let s := s.modCart n (fun c => { c with maxMode := s.devN 0x0701 })
    if !(c.s18a && decide (2 ≤ s.devN 0x0701)) then s.cartStep n 6
    else
      let s := s.card n 11 0
      if !bad && r.switchOk then (s.modCart n (fun c => { c with v18 := true })).cartStep n 6
      else ((s.count 8 n 3).modCart n (fun c => { c with noSwitch := true })).cartCycle n
  | 6 =>
    let s := ((s.card n 2 0).card n 3 0).card n 9 0
    if bad || r.csd != 1 then s.cartFail n 6 true
    else (s.modCart n (fun c => { c with capacity := r.capacity })).cartStep n 7
  | 7 =>
    let s := s.card n 7 0
    if bad then s.cartRetry n 7 else s.cartStep n 8
  | 8 =>
    let s := s.card n 13 0
    if bad || fld r.word 12 9 != 4 then s.cartRetry n 8
    else
      let l := bit r.word 25
      (s.modCart n (fun c => { c with lockedNow := l, wasLocked := if c.lockSeen then c.wasLocked else l, lockSeen := true })).cartStep n 9
  | 9 =>
    if !c.lockedNow then s.cartStep n 10
    else match c.mayUnlock, s.cartPwd n with
      | true, some p =>
        let s := (s.lockData n 0 p).modCart n (fun c => { c with mayUnlock := false })
        if !bad && r.lockOk then s.cartStep n 10 else s.cartLocked n
      | _, _ => s.cartLocked n
  | 10 =>
    let s := (s.card n 55 0).card n 51 0
    if bad then s.cartRetry n 10
    else (s.modCart n (fun c => { c with wide := r.scrWide, cmd23 := r.scrCmd23 })).cartStep n 11
  | 11 =>
    let s := (s.card n 55 0).card n 42 0
    let s := if !c.wide then s else
      let s := (((s.card n 55 0).card n 6 2).card n 55 0).card n 13 0
      if !bad && r.widthOk then s
      else (((s.card n 55 0).card n 6 0).count 8 n 4).modCart n (fun c => { c with wide := false })
    s.cartStep n 12
  | 12 =>
    let s := (s.card n 17 0).modCart n (fun c => { c with label := r.label })
    let b := r.label
    if bad || !labelOk b c.capacity then (s.modCart n (fun c => { c with state := .unformatted })).cartEvent n 0x0707
    else
      let s := s.modCart n (fun c =>
        { c with tenant := bf b 8 2, cartId := bf b 12 8, dataLba := bf b 20 4, dataBlocks := bf b 24 4, jrnLba := bf b 28 4
                 jrnBlocks := bf b 32 4 })
      let mine := match tfind s.cfg.carts n with | some x => x.tenant == bf b 8 2 | none => false
      if mine then s.cartStep n 13 else (s.modCart n (fun c => { c with state := .foreign })).cartEvent n 0x0708
  | 13 => (State.speedSwitch n (if bad then [] else r.modes) (speedModes c.maxMode c.v18 c.wide) s).cartStep n 14
  | 14 =>
    let s := match s.cartPwd n with
      | some p =>
        if s.devN 0x0702 = 1 && !c.lockedNow then
          let s := s.lockData n 1 p
          if !bad && r.lockOk then s else s.modCart n (fun c => { c with pwdFails := c.pwdFails + 1 })
        else s
      | none => s
    s.cartStep n 15
  | 15 => (s.cartScan n r).cartStep n 16
  | _ => (((s.modCart n (fun c => { c with state := .ready })).cartEvent n 0x0703).cartFullCheck n)

/-- CART_INIT_STEP (R247). -/
def execCartInitStep (t slot : Nat) (r : CardResp) (s : State) : Out :=
  let s := s.tick t
  let c := s.cartSlot slot
  if 3 < slot || c.state ≠ .init || c.cycling then .next s else .next (s.initStep slot r)

/-! ### The journal writer (R254 to R256) -/

/-- LBA of the block with a serial. -/
def CartSlot.lba (c : CartSlot) (serial : Nat) : Nat := c.jrnLba + (serial - 1) % max 1 c.jrnBlocks

/-- A block's write starts. -/
def State.blockStart (s : State) (n : Nat) (b : CartBlock) : State :=
  (s.card n 24 ((s.cartSlot n).lba b.serial) b.bytes).modCart n (fun c => { c with writing := some { b with started := s.now } })

/-- A record still waits for the cartridge. -/
def State.cartWaits (s : State) (r : Nat) : Bool := match s.jrec r with | some x => x.cart == .waiting | none => false

/-- CART_BLOCK_WRITE: a rewrite goes first, then a header that is due, then up to 3 records in a new block. -/
def execCartBlockWrite (t slot : Nat) (s : State) : Out :=
  let s := s.tick t
  let c := s.cartSlot slot
  if 3 < slot || c.state ≠ .ready || c.writing.isSome then .next s
  else match c.rewrite with
    | some b => .next ((s.modCart slot (fun c => { c with rewrite := none })).blockStart slot { b with again := true })
    | none =>
      let s := if c.headerDue then s.cartHeader slot else s
      let q := c.queue.filter s.cartWaits
      let s := s.modCart slot (fun c => { c with queue := q.drop 3 })
      let recs := q.take 3
      match recs.getLast? with
      | none => .next s
      | some last =>
        let bytes (r : Nat) : List Byte := match s.jrec r with | some x => x.bytes | none => []
        let (lr, ls) := match s.jrec last with | some x => (x.rseq, slice x.bytes 112 16) | none => (0, [])
        let serial := c.highest + 1
        .next (s.blockStart slot
          { serial, bytes := journalBlock serial c.tenant c.cartId (recs.map bytes), recs, lastRseq := lr, lastSeal := ls })

/-- What follows a block: a header that is due, the full check, an eject that waited. -/
def State.blockAfter (s : State) (n : Nat) : State :=
  let c := s.cartSlot n
  let s := if c.headerDue || decide (c.hint + 257 ≤ c.highest) then s.cartHeader n else s
  let s := s.cartFullCheck n
  if c.ejecting then s.cartEject n true else s

/-- A block is done: its records are accepted; records refused meanwhile make it a late write (R255). -/
def State.blockGood (s : State) (n : Nat) (b : CartBlock) : State :=
  let late := b.recs.any (fun r => !s.cartWaits r)
  let s := s.modCart n (fun c => { c with writing := none, highest := b.serial, lastRseq := b.lastRseq, lastSeal := b.lastSeal })
  let s := b.recs.foldl (fun s r => s.cartAnswer r true) s
  (if late then s.count 8 n 2 else s).blockAfter n

/-- A block fails: one rewrite, unless cart.write_retry is 0; a last failure refuses its records and is a Retry. -/
def State.blockBad (s : State) (n : Nat) (b : CartBlock) : State :=
  if !b.again && s.devN 0x0703 = 1 then s.modCart n (fun c => { c with writing := none, rewrite := some b })
  else if (s.cartSlot n).ejecting then
    let s := s.modCart n (fun c => { c with writing := none })
    (b.recs.foldl (fun s r => s.cartAnswer r false) s).cartEject n true
  else s.cartRetry n 1

/-- CART_BLOCK_DONE (R254). -/
def execCartBlockDone (t slot : Nat) (good : Bool) (s : State) : Out :=
  let s := s.tick t
  match (s.cartSlot slot).state, (s.cartSlot slot).writing with
  | .ready, some b => .next (if good then s.blockGood slot b else s.blockBad slot b)
  | _, _ => .next s

/-- CART_BUSY_TIMEOUT: busy has lasted beyond 500 ms (R254). -/
def execCartBusyTimeout (t slot : Nat) (s : State) : Out :=
  let s := s.tick t
  match (s.cartSlot slot).state, (s.cartSlot slot).writing with
  | .ready, some b => .next (if b.started + 500000000 ≤ s.now then s.blockBad slot b else s)
  | _, _ => .next s

/-- CART_ERASE_DONE (R252): the outcome is reported, and the slot re-enters INIT through a power cycle. -/
def execCartEraseDone (t slot : Nat) (ok : Bool) (s : State) : Out :=
  let s := s.tick t
  if 3 < slot || (s.cartSlot slot).state ≠ .erasing then .next s
  else .next ((s.cartEvent slot 0x0706 (if ok then 0 else 1)).cartCycle slot)

/-! ### Commands (Table 9-10) -/

/-- Slot named by BLK1, and whether the caller may name it (R263). -/
def cartArg (a : List Word) : Nat := fld (arg a 1) 1 0
def State.cartMine (s : State) (tag n : Nat) : Bool :=
  isPf tag || match tfind s.cfg.carts n with | some b => b.tenant == tag | none => false

/-- What refuses a command that reads a slot: not the caller's, or not READY. -/
def State.cartBar (s : State) (tag : Nat) (a : List Word) : Option Nat :=
  if !s.cartMine tag (cartArg a) then some 0x0701
  else if (s.cartSlot (cartArg a)).state ≠ .ready then some 0x0702
  else none

/-- A tenant is bound, in force or staged, to a slot other than one. -/
def State.boundElsewhere (s : State) (n tenant : Nat) : Bool :=
  s.cfg.carts.any (fun p => p.1 ≠ n && p.2.tenant == tenant) ||
    s.man.mans.any (fun p => p.2.state ≠ .closed && p.2.entries.any (fun e => match e.op with
      | .cartBind k (some b) => k ≠ n && b.tenant == tenant
      | _ => false))

/-- CART_BIND. -/
def cartBindDef : CmdDef :=
  { code := 0x0701, argc := 6, tenant := false, staged := true, masks := [3, 0x3FF] }

/-- CART_BIND's work. -/
def cartBindWork (tag : Nat) (_io : HostIo) (a : List Word) (s : State) : Answer :=
    let n := cartArg a
    let tenant := fld (arg a 2) 9 0
    let h := argHandle a 3
    let key : Except Nat (Option (Nat × Nat)) :=
      if h = 0 then .ok none else match s.handleFor tag h (· == 3) (1 <<< rUse) true with
        | .error e => .error e
        | .ok c => match s.keyOf (s.obj c.object) with
          | some k => if k.type = 6 then .ok (some (c.object, c.gen)) else .error 0x0402
          | none => .error 0x0402
    match key with
    | .error e => .status e s
    | .ok pwd =>
      if 31 < tenant then .status 0x0012 s
      else if tenant = 0 then s.stage tag 0x0701 (.cartBind n none)
      else if s.boundElsewhere n tenant then .status 0x0709 s
      else s.stage tag 0x0701 (.cartBind n (some { tenant, pwd }))

/-- CART_BIND (R261, R394). -/
def execCartBind (t tag : Nat) (io : HostIo) (s : State) : Out :=
  .next (s.run cartBindDef (cartBindWork tag io) t tag io)

/-- Code of a slot state (Table 9-1). -/
def cartCode : CartState → Nat
  | .empty => 0 | .init => 1 | .ready => 2 | .locked => 3 | .unformatted => 4 | .foreign => 5 | .failed => 6 | .erasing => 7 | .ejected => 8

/-- CART_STATUS. -/
def cartStatusDef : CmdDef :=
  { code := 0x0702, argc := 1, tenant := true, masks := [3] }

/-- CART_STATUS's work. -/
def cartStatusWork (tag : Nat) (_io : HostIo) (a : List Word) (s : State) : Answer :=
    let n := cartArg a
    let c := s.cartSlot n
    if !s.cartMine tag n then .status 0x0701 s
    else
      let w := cartCode c.state + 16 * c.mode + 128 * b2n c.wide + 256 * b2n c.v18 + 512 * b2n c.full + 1024 * b2n c.wasLocked
      .ok ([wd w, wd c.capacity] ++ twoWords c.highest ++ twoWords c.collected ++ [wd (min (2 ^ 32 - 1) (s.counter 8 n 1))]) s

/-- CART_STATUS. -/
def execCartStatus (t tag : Nat) (io : HostIo) (s : State) : Out :=
  .next (s.run cartStatusDef (cartStatusWork tag io) t tag io)

/-- A length that CART_JOURNAL_READ takes. -/
def readLen (n : Nat) : Bool := decide (0 < n) && n % 512 == 0 && decide (n ≤ 2 ^ 20)

/-- What refuses CART_JOURNAL_READ. -/
def State.journalReadBar (s : State) (tag : Nat) (a : List Word) : Option Nat :=
  match s.cartBar tag a with
  | some st => some st
  | none => if readLen (arg a 4).toNat then none else some 0x0012

/-- CART_JOURNAL_READ's work: the blocks from a serial on that the journal holds, as many as the length takes. -/
def State.journalRead (s : State) (tag : Nat) (a : List Word) (io : HostIo) : Answer :=
  match s.journalReadBar tag a with
  | some st => .status st s
  | none =>
    let c := s.cartSlot (cartArg a)
    let first := ofTwo (arg a 5) (arg a 6)
    let n := if first = 0 then 0 else min ((arg a 4).toNat / 512) (c.highest + 1 - first)
    match io.card with
    | none => .status 0x0704 s
    | some b => match s.hostWrite tag (ofTwo (arg a 2) (arg a 3)) ((b ++ List.replicate (512 * n) 0).take (512 * n)) io.dataFault with
      | (0, s) => .ok (wd n :: twoWords (first + n)) s
      | (st, s) => .status st s

def journalReadDef : CmdDef := { code := 0x0703, argc := 6, tenant := true, masks := [3], pend := true }

/-- CART_JOURNAL_READ put off. -/
def cartJournalReadPut (tag : Nat) (a : List Word) (s : State) : Except Nat State :=
  barOf (s.journalReadBar tag a) s

/-- CART_JOURNAL_READ's work. -/
def cartJournalReadWork (tag : Nat) (io : HostIo) (a : List Word) (s : State) : Answer :=
  s.journalRead tag a io

/-- CART_JOURNAL_READ (R263). -/
def execCartJournalRead (t tag : Nat) (io : HostIo) (s : State) : Out :=
  .next (s.runWith journalReadDef (fun _ => true) (fun _ => false) (cartJournalReadPut tag) (cartJournalReadWork tag io) t tag io)

/-- CART_JOURNAL_MARK. -/
def cartJournalMarkDef : CmdDef :=
  { code := 0x0704, argc := 3, tenant := true, masks := [3] }

/-- CART_JOURNAL_MARK's work. -/
def cartJournalMarkWork (tag : Nat) (_io : HostIo) (a : List Word) (s : State) : Answer :=
    let n := cartArg a
    let v := ofTwo (arg a 2) (arg a 3)
    let c := s.cartSlot n
    match s.cartBar tag a with
    | some st => .status st s
    | none =>
      if v < c.collected ∨ c.highest < v then .status 0x0012 s
      else
        let s := s.modCart n (fun c => { c with collected := v })
        let s := if c.writing.isSome then s.modCart n (fun c => { c with headerDue := true }) else s.cartHeader n
        .ok [] (s.cartFullCheck n)

/-- CART_JOURNAL_MARK (R256, R263): COLLECTED moves, and a header follows, after a block in progress. -/
def execCartJournalMark (t tag : Nat) (io : HostIo) (s : State) : Out :=
  .next (s.run cartJournalMarkDef (cartJournalMarkWork tag io) t tag io)

/-- CART_DATA_LIST. -/
def cartDataListDef : CmdDef :=
  { code := 0x0705, argc := 4, tenant := true, masks := [3] }

/-- CART_DATA_LIST's work. -/
def cartDataListWork (tag : Nat) (io : HostIo) (a : List Word) (s : State) : Answer :=
    match s.cartBar tag a with
    | some st => .status st s
    | none =>
      if (arg a 4).toNat ≠ 8192 then .status 0x0012 s
      else match io.card with
        | none => .status 0x0704 s
        | some b =>
          let d := (b ++ List.replicate 8192 0).take 8192
          match s.hostWrite tag (ofTwo (arg a 2) (arg a 3)) d io.dataFault with
          | (0, s) => .ok [wd (bf d 4 2), wd (bf d 8 4)] s
          | (st, s) => .status st s

/-- CART_DATA_LIST: the directory, as the card holds it. -/
def execCartDataList (t tag : Nat) (io : HostIo) (s : State) : Out :=
  .next (s.run cartDataListDef (cartDataListWork tag io) t tag io)

/-- R259: a directory and an object pass their checks, or a status. -/
def State.dirCheck (s : State) (man tenant entry dataBlocks : Nat) (d obj : List Byte) : Except Nat (Nat × List Byte) :=
  let n := bf d 4 2
  let e := 32 + 48 * entry
  let off := bf d (e + 4) 4
  let len := bf d (e + 8) 4
  let msg := d.take (32 + 48 * n)
  let ec := slice d (32 + 48 * n) 64
  let pq := slice d (96 + 48 * n) 2420
  if slice d 0 4 != [0x4F, 0x44, 0x52, 0x31] || bf d 6 2 != tenant || decide (64 < n) then .error 0x0705
  else if !((s.roleKeys s.cfg man tenant 0).any (fun k => Config.ecVerify k msg ec) &&
      (s.roleKeys s.cfg man tenant 1).any (fun k => Config.pqVerify k msg pq)) then .error 0x0706
  else if n ≤ entry ∨ len = 0 ∨ 2 ^ 24 < len ∨ 512 * dataBlocks < 512 * off + len then .error 0x0705
  else
    let o := (obj ++ List.replicate len 0).take len
    if Config.sha256 o ≠ slice d (e + 16) 32 then .error 0x0707 else .ok (byteAt d e, o)

/-- CART_DATA_STAGE's work: the object is staged as the command of its type would stage it. -/
def State.dataStage (s : State) (tag : Nat) (a : List Word) (io : HostIo) : Answer :=
  let c := s.cartSlot (cartArg a)
  match s.cartBar tag a, s.openMan tag with
  | some st, _ => .status st s
  | none, none => .status 0x001D s
  | none, some (id, _) =>
    match io.card with
    | none => .status 0x0704 s
    | some b =>
      let d := (b ++ List.replicate 8192 0).take 8192
      match s.dirCheck id c.tenant (fld (arg a 2) 5 0) c.dataBlocks d (b.drop 8192) with
      | .error st => .status st s
      | .ok (1, o) => if o.length < 2612 ∨ 4 * 2 ^ 20 < o.length then .status 0x0012 s else s.stageTable tag 0x0706 o
      | .ok (2, o) => if deltaLen o.length then s.stageDelta tag 0x0706 o else .status 0x0012 s
      | .ok (3, o) => if clipLen o.length then s.stageClips tag 0x0706 o else .status 0x0012 s
      | .ok (4, o) =>
        if o.length < 92 ∨ 1340 < o.length then .status 0x0012 s
        else match s.importBar tag with
          | some st => .status st s
          | none => s.secImport tag 0x0706 o false
      | .ok _ => .status 0x0705 s

def dataStageDef : CmdDef := { code := 0x0706, argc := 2, tenant := true, staged := true, masks := [3, 0x3F], pend := true }

/-- CART_DATA_STAGE put off. -/
def cartDataStagePut (tag : Nat) (a : List Word) (s : State) : Except Nat State :=
  barOf (s.cartBar tag a) s

/-- CART_DATA_STAGE's work. -/
def cartDataStageWork (tag : Nat) (io : HostIo) (a : List Word) (s : State) : Answer :=
  s.dataStage tag a io

/-- CART_DATA_STAGE (R259, R263). -/
def execCartDataStage (t tag : Nat) (io : HostIo) (s : State) : Out :=
  .next (s.runWith dataStageDef (fun _ => true) (fun _ => false) (cartDataStagePut tag) (cartDataStageWork tag io) t tag io)

/-- CART_FORMAT. -/
def cartFormatDef : CmdDef :=
  { code := 0x0707, argc := 5, tenant := false, staged := true, masks := [3] }

/-- CART_FORMAT's work. -/
def cartFormatWork (tag : Nat) (_io : HostIo) (a : List Word) (s : State) : Answer :=
    let n := cartArg a
    let db := (arg a 2).toNat
    let jb := (arg a 3).toNat
    let cid := ofTwo (arg a 4) (arg a 5)
    if cid = 0 then .status 0x0012 s
    else if (s.cartSlot n).capacity = 0 then .status 0x0702 s
    else if jb < 65536 ∨ (s.cartSlot n).capacity < 32 + db + jb then .status 0x0708 s
    else s.stage tag 0x0707 (.cartFormat n db jb cid)

/-- CART_FORMAT (R262). -/
def execCartFormat (t tag : Nat) (io : HostIo) (s : State) : Out :=
  .next (s.run cartFormatDef (cartFormatWork tag io) t tag io)

/-- CART_FORCE_ERASE. -/
def cartForceEraseDef : CmdDef :=
  { code := 0x0708, argc := 1, tenant := false, staged := true, masks := [3] }

/-- CART_FORCE_ERASE's work. -/
def cartForceEraseWork (tag : Nat) (_io : HostIo) (a : List Word) (s : State) : Answer :=
    s.stage tag 0x0708 (.cartErase (cartArg a))

/-- CART_FORCE_ERASE (R252). -/
def execCartForceErase (t tag : Nat) (io : HostIo) (s : State) : Out :=
  .next (s.run cartForceEraseDef (cartForceEraseWork tag io) t tag io)

/-- CART_EJECT. -/
def cartEjectDef : CmdDef :=
  { code := 0x0709, argc := 1, tenant := true, masks := [3] }

/-- CART_EJECT's work. -/
def cartEjectWork (tag : Nat) (_io : HostIo) (a : List Word) (s : State) : Answer :=
    let n := cartArg a
    let c := s.cartSlot n
    if !s.cartMine tag n then .status 0x0701 s
    else match c.state with
      | .ready =>
        let s := (c.queue.foldl (fun s r => s.cartAnswer r false) (s.modCart n (fun c => { c with queue := [] })))
        .ok [] (if c.writing.isSome || c.rewrite.isSome then s.modCart n (fun c => { c with ejecting := true }) else s.cartEject n true)
      | .locked | .unformatted | .foreign | .failed => .ok [] (s.cartEject n false)
      | _ => .status 0x0702 s

/-- CART_EJECT (R263): queued records are refused; a block in progress completes first. -/
def execCartEject (t tag : Nat) (io : HostIo) (s : State) : Out :=
  .next (s.run cartEjectDef (cartEjectWork tag io) t tag io)

end Sys2Proof.Machine
end

