-- ==== Sys2Proof/Machine/Events.lean ====
section
/-! DEFINITION. The event fabric's record writes, windows, holdoffs and commands (18_events_errors.md), and the host
registers whose writes have no row of their own (R9, 22_registers.md). -/

namespace Sys2Proof.Machine

/-! ### Records (R447 to R453) -/

/-- Cause with which the write of a recipient's record faults, if it does (R451). -/
def State.eqCause (s : State) (rcpt : Nat) (io : HostIo) : Option Nat :=
  let q := queueOf rcpt
  let e := s.evq q
  if e.active && s.bme q then s.xlateCause q (e.base + 16 * e.tail) 16 (tfind io.eqFaults q) else none

/-- A record is written for one recipient; a write that faults is logged and raised to the PF (R108, R451). -/
def State.deliver (s : State) (r : Raise) (rcpt : Nat) (copy : Bool) (io : HostIo) : State :=
  let c := s.eqCause rcpt io
  let e := s.evq (queueOf rcpt)
  let s := s.writeRecord r rcpt copy c
  match c with
  | some cause => s.xlateFault (queueOf rcpt) (e.base + 16 * e.tail) cause true 2
  | none => s

/-- Whether a window is that of an occurrence for a recipient (R452): code, source and TAG, until the window's end. -/
def Window.matches_ (w : Window) (r : Raise) (p : Nat × Bool) : Bool :=
  w.rcpt == p.1 && w.copy == p.2 && w.code == r.code && w.source == r.source && w.tag == r.tag && decide (r.at_ ≤ w.ends)

/-- An occurrence reaches a recipient: it joins its open window, or is written at once and opens one (R452). -/
def State.occur (s : State) (r : Raise) (io : HostIo) (p : Nat × Bool) : State :=
  let us := s.insN p.1 0x0E01
  if evC r.code && us ≠ 0 then
    match s.evt.windows.find? (fun w => w.2.matches_ r p) with
    | some (k, _) =>
      { s with evt := { s.evt with windows := tupd s.evt.windows k (fun w => { w with held := w.held + 1, last := some r }) } }
    | none =>
      let w : Window := { rcpt := p.1, copy := p.2, code := r.code, source := r.source, tag := r.tag, ends := r.at_ + us * 1000 }
      let s := s.deliver r p.1 p.2 io
      { s with evt := { s.evt with windows := tset s.evt.windows s.evt.nextKey w, nextKey := s.evt.nextKey + 1 } }
  else s.deliver r p.1 p.2 io

/-- The oldest event raised is written to each of its recipients (R449). -/
def execEventRecordWrite (t : Nat) (io : HostIo) (s : State) : Out :=
  let s := s.tick t
  match s.evt.raised with
  | [] => .next s
  | r :: rest => .next (r.rcpt.foldl (fun s p => s.occur r io p) { s with evt := { s.evt with raised := rest } })

/-- A coalescing window ends: its further occurrences are one record (R452). -/
def execCoalesceWindowEnd (t tag key : Nat) (io : HostIo) (s : State) : Out :=
  let s := s.tick t
  match tfind s.evt.windows key with
  | none => .next s
  | some w =>
    if w.rcpt ≠ tag ∨ s.now < w.ends then .next s else
      let s := { s with evt := { s.evt with windows := terase s.evt.windows key } }
      match w.last with
      | none => .next s
      | some r => .next (s.deliver { r with count := w.held, coalesced := true } w.rcpt w.copy io)

/-- An interrupt holdoff ends: the records written inside it are signalled once, which starts the next (R453). -/
def execIrqHoldoffEnd (t tag vec : Nat) (s : State) : Out :=
  let s := s.tick t
  match tfind (s.evq tag).holdoff vec with
  | none => .next s
  | some (ends, waiting) =>
    if s.now < ends then .next s else
      let s := s.modEvq tag (fun e => { e with holdoff := terase e.holdoff vec })
      .next (if waiting then s.evSignal tag vec else s)

/-! ### Event-area commands (Table 18-5, R454, R455, R457) -/

/-- The tag a command names: 0x3FF is the caller. -/
def evTag (tag named : Nat) : Nat := if named = 0x3FF then tag else named

/-- A caller may name itself; the PF may name any slice as well, and any tag that is no VF's gets its answer from the
body (R454, R457). -/
def evOwn (tag named : Nat) : Bool :=
  let n := evTag tag named
  n == tag || (isPf tag && decide (31 < n))

/-- The PF names a slice that lives not, or no tag at all (R457). -/
def State.evGone (s : State) (tag named : Nat) : Bool :=
  let n := evTag tag named
  n ≠ tag && !(isSlice n && s.enabled n)

def evMaskBits : Nat := 0x3FF3FFFF

/-- EVT_MASK_SET. -/
def evtMaskSetDef : CmdDef :=
  { code := 0x0E01, argc := 1, tenant := true, masks := [evMaskBits], pfMay := fun a => evOwn 0 (fld (arg a 1) 29 20) }

/-- What the caller of EVT_MASK_SET may name. -/
def evtMaskSetOwn (tag : Nat) (a : List Word) : Bool := evOwn tag (fld (arg a 1) 29 20) && !bit (arg a 1) 17

/-- EVT_MASK_SET's work. -/
def evtMaskSetWork (tag : Nat) (_io : HostIo) (a : List Word) (s : State) : Answer :=
      let w := arg a 1
      let code := fld w 15 0
      let on := bit w 16
      if s.evGone tag (fld w 29 20) then .status 0x0012 s
      else if (evInfo code).isNone then .status 0x0E01 s
      else if evU code then .status (if on then 0x0E02 else 0) s
      else if bit w 17 then .ok [] (s.modEvq 0 (fun e => { e with copyMask := lput e.copyMask code on }))
      else .ok [] (s.modEvq (evTag tag (fld w 29 20)) (fun e => { e with mask := lput e.mask code on }))

/-- EVT_MASK_SET: COPY names the PF's own COPY masks (R454). -/
def execEvtMaskSet (t tag : Nat) (io : HostIo) (s : State) : Out :=
  .next (s.runWith evtMaskSetDef (evtMaskSetOwn tag) (fun _ => false) (fun _ s => .ok s) (evtMaskSetWork tag io) t tag io)

/-- EVT_MASK_GET. -/
def evtMaskGetDef : CmdDef :=
  { code := 0x0E02, argc := 1, tenant := true, masks := [evMaskBits], pfMay := fun a => evOwn 0 (fld (arg a 1) 29 20) }

/-- What the caller of EVT_MASK_GET may name. -/
def evtMaskGetOwn (tag : Nat) (a : List Word) : Bool := evOwn tag (fld (arg a 1) 29 20) && !bit (arg a 1) 17

/-- EVT_MASK_GET's work. -/
def evtMaskGetWork (tag : Nat) (_io : HostIo) (a : List Word) (s : State) : Answer :=
      let w := arg a 1
      let code := fld w 15 0
      if s.evGone tag (fld w 29 20) then .status 0x0012 s
      else if (evInfo code).isNone then .status 0x0E01 s
      else .ok [wd (b2n ((s.evq (evTag tag (fld w 29 20))).mask.contains code) +
        2 * b2n (isPf tag && (s.evq 0).copyMask.contains code))] s

def execEvtMaskGet (t tag : Nat) (io : HostIo) (s : State) : Out :=
  .next (s.runWith evtMaskGetDef (evtMaskGetOwn tag) (fun _ => false) (fun _ s => .ok s) (evtMaskGetWork tag io) t tag io)

/-- EVT_SRC_MASK. -/
def evtSrcMaskDef : CmdDef :=
  { code := 0x0E03, argc := 1, tenant := false, masks := [0x107FF] }

/-- EVT_SRC_MASK's work. -/
def evtSrcMaskWork (_tag : Nat) (_io : HostIo) (a : List Word) (s : State) : Answer :=
    let n := fld (arg a 1) 10 0
    if 1217 ≤ n then .status 0x0E03 s
    else .ok [] { s with evt := { s.evt with srcMask := lput s.evt.srcMask n (bit (arg a 1) 16) } }

def execEvtSrcMask (t tag : Nat) (io : HostIo) (s : State) : Out :=
  .next (s.run evtSrcMaskDef (evtSrcMaskWork tag io) t tag io)

/-- EVT_STATUS. -/
def evtStatusDef : CmdDef :=
  { code := 0x0E04, argc := 1, tenant := true, masks := [0x3FF], pfMay := fun a => evOwn 0 (fld (arg a 1) 9 0) }

/-- What the caller of EVT_STATUS may name. -/
def evtStatusOwn (tag : Nat) (a : List Word) : Bool := evOwn tag (fld (arg a 1) 9 0)

/-- EVT_STATUS's work. -/
def evtStatusWork (tag : Nat) (_io : HostIo) (a : List Word) (s : State) : Answer :=
      if s.evGone tag (fld (arg a 1) 9 0) then .status 0x0012 s
      else
        let n := evTag tag (fld (arg a 1) 9 0)
        let q := s.evq (queueOf n)
        .ok [wd (q.head + q.tail * 2 ^ 16), wd q.lost, wd (s.evq n).masked, wd q.lostPrev, wd (b2n q.active)] s

/-- EVT_STATUS: a slice's records are in the PF's queue (R457). -/
def execEvtStatus (t tag : Nat) (io : HostIo) (s : State) : Out :=
  .next (s.runWith evtStatusDef (evtStatusOwn tag) (fun _ => false) (fun _ s => .ok s) (evtStatusWork tag io) t tag io)

/-! ### Host register writes without a row of their own (R9 to R12, Tables 2-2 to 2-4, 22-4 to 22-8) -/

/-- Number of MSI-X vectors of a function (Table 22-7). -/
def vectors (fn : Nat) : Nat := if fn = 0 then 64 else 8

/-- A write to an MSI-X entry; a mask that is cleared lets a pending message go (R104). -/
def State.msxWrite (s : State) (fn v : Nat) (f : MsixEntry → MsixEntry) : State :=
  if fn ≤ 31 ∧ v < vectors fn then (s.modFunc fn (fun g => { g with msix := tmod g.msix v {} f })).msixFlush fn else s

/-- A write to a page whose unit serves (R529): the PF's, a VF's or a live slice's. -/
def State.pageLive (s : State) (tag : Nat) : Bool := decide (tag ≤ 287) && (!isSlice tag || s.enabled tag)

def execRegisterWrite (t : Nat) (reg : HostReg) (v : Word) (s : State) : Out :=
  let s := s.tick t
  match reg with
  | .mbxStat tag =>
    if !s.pageLive tag then .next s else
      .next (s.modPage tag (fun p =>
        { p with h2sCollide := p.h2sCollide && !bit v 2, s2hFull := p.s2hFull && !bit v 3
                 s2hCollide := p.s2hCollide && !bit v 4 }))
  | .mbxCtl tag =>
    if !s.pageLive tag then .next s else
      .next (s.modPage tag (fun p => { p with doneIe := bit v 0, s2hIe := bit v 1 }))
  | .mbxBlkctl tag =>
    if !s.pageLive tag then .next s else
      .next (s.modPage tag (fun p => { p with done := p.done && !bit v 1, writeIgnored := p.writeIgnored && !bit v 3 }))
  | .qdbErr tag =>
    if !s.pageLive tag then .next s else
      .next (s.modInst tag (fun i =>
        { i with badTail := i.badTail && !bit v 0, badHead := i.badHead && !bit v 1, qpError := i.qpError && !bit v 2 }))
  | .scratch => .next { s with ins := { s.ins with scratch := v } }
  | .msxAddrLo fn n => .next (s.msxWrite fn n (fun e => { e with addrLo := v &&& 0xFFFFFFFC }))
  | .msxAddrHi fn n => .next (s.msxWrite fn n (fun e => { e with addrHi := v }))
  | .msxData fn n => .next (s.msxWrite fn n (fun e => { e with data := v }))
  | .msxCtl fn n => .next (s.msxWrite fn n (fun e => { e with mask := bit v 0 }))
  | .msixControl fn =>
    if 31 < fn then .next s else
      .next ((s.modFunc fn (fun f => { f with msixEn := bit v 15, fnMask := bit v 14 })).msixFlush fn)
  | .pasidCtl =>
    -- clearing PASID Enable is PASID_ENABLE_CLEAR (Table 4-11)
    if bit v 0 then .next { s with ins := { s.ins with pasidEn := true } } else .next s
  | .other _ => .next s

end Sys2Proof.Machine
end

