-- ==== Sys2Proof/Machine/Gates.lean ====
section
/-! DEFINITION. Capabilities in cells and call gates (05_capabilities.md). -/

namespace Sys2Proof.Machine

/-! ### Capability registers and tagged memory (R127 to R129) -/

/-- CAPABILITY_STORE (R127): the 16 bytes of a register enter the store buffer with its tag. -/
def execCapabilityStore (t cell auth off src : Nat) (s : State) : Out :=
  let s := s.tick t
  if !s.cellRuns cell then .next s else
    let x : CapReg := tget (s.cell cell).c src {}
    match s.cellAccess cell auth off 16 false true (some x) with
    | .error (c, s) => .next (s.trap cell c { reg := auth, offset := off, size := 16, write := true } none)
    | .ok (a, r, s) => .next (s.bufferStore cell { addr := a, data := x.cap.bytes, cap := some x, cached := r.cacheable })

/-- CAPABILITY_LOAD (R128, R355): forwarded only from a buffered capability store of the whole granule; any other
overlapping store makes it stall. -/
def execCapabilityLoad (t cell auth off dst : Nat) (s : State) : Out :=
  let s := s.tick t
  if !s.cellRuns cell ∨ 15 < dst then .next s else
    match s.cellAccess cell auth off 16 true false none with
    | .error (c, s) => .next (s.trap cell c { reg := auth, offset := off, size := 16 } none)
    | .ok (a, r, s) =>
      let put (s : State) (x : CapReg) : Out :=
        .next (s.modCell cell (fun c => { c with c := tset c.c dst x, stalled := false }))
      match (s.cell cell).overlap a 16 with
      | some e => match e.cap with
        | some x => put s x
        | none => .next (s.modCell cell (fun c => { c with stalled := true }))
      | none =>
        let (b, tag, s) := s.fetch cell a 16 r.cacheable
        put s { tag, cap := capOfBytes b }

/-- What R129 allows a derivation to change: rights cleared, the window shrunk, LEVEL raised; anything but the clearing of
rights needs DERIVE. -/
def derives (a b : Cap) : Bool :=
  rightsSub b.rights a.rights && decide (a.offset ≤ b.offset) && decide (b.offset + b.length ≤ a.offset + a.length) &&
    decide (a.level ≤ b.level) &&
    (a.rights.getLsbD rDerive || (b.offset == a.offset && b.length == a.length && b.level == a.level))

/-- REGISTER_DERIVE (R129): any other change clears the result's tag. -/
def execRegisterDerive (t cell dst src rights off len level : Nat) (s : State) : Out :=
  let s := s.tick t
  if !s.cellRuns cell ∨ 15 < dst then .next s else
    let x : CapReg := tget (s.cell cell).c src {}
    let y : Cap := { x.cap with rights := BitVec.ofNat 16 rights, offset := off % 2 ^ 32, length := len % 2 ^ 32, level := level % 4 }
    .next (s.modCell cell (fun c => { c with c := tset c.c dst { tag := x.tag && derives x.cap y, cap := y } }))

/-! ### Call gates (R141 to R144) -/

/-- Reason of Table 5-10 for which a worker's buffer slot fails. -/
def State.workerBuffer (s : State) (d : GateSlot) (r : CapReg) : Option Nat :=
  let kind := fld d.a 31 28
  let start := s.capAddr r.cap 0
  let len := r.cap.length
  if kind = 0 then (if r.tag then some 1 else none)
  else if kind = 1 ∨ kind = 2 then
    if !r.tag || r.cap.type != 1 || len == 0 then some 1
    else if start % 2 ^ fld d.a 27 24 ≠ 0 then some 2
    else if len < 64 * fld d.b 31 24 ∨ 4 * fld d.b 23 0 < len then some 3
    else if (s.obj r.cap.object).length < r.cap.offset + len then some 4
    else none
  else none

/-- Reason of Table 5-10 for which a worker's slot 2 fails. -/
def State.workerSlot2 (s : State) (d : GateSlot) (c : Cell) : Option Nat :=
  let kind := fld d.a 31 28
  let r : CapReg := tget c.c 2 {}
  if kind = 0 then
    (if r.tag || (List.range 4).any (fun i => tget c.gr i 0 ≠ 0) then some 1 else none)
  else if kind = 3 then
    if !r.tag then some 1
    else if !handleType r.cap.type || r.cap.owner != c.charge || !s.capValid r.cap then some 7
    else if r.cap.type ≠ fld d.a 23 20 then some 5
    else if !rightsSub (BitVec.ofNat 16 (fld d.a 19 4)) r.cap.rights then some 6
    else none
  else none

/-- Table 5-9 inside a cell: the cause of the trap and its DETAIL, or the call gate. -/
def State.workerEntry (s : State) (c : Cell) (r : CapReg) : Except (Nat × Nat) Gate :=
  if !r.tag then .error (1, 0)
  else if !s.capValid r.cap then .error (2, 0)
  else if r.cap.type ≠ 2 then .error (3, 0)
  else if !r.cap.rights.getLsbD rCall then .error (4, 0)
  else match (match (s.obj r.cap.object).what with | .gate n => s.gate n | _ => none) with
    | none => .error (3, 0)
    | some g =>
      if r.cap.level < c.level ∨ g.level < c.level then .error (6, 0)
      else match s.workerBuffer (g.slots.getD 0 {}) (tget c.c 0 {}) with
        | some x => .error (8, 256 * x)
        | none => match s.workerBuffer (g.slots.getD 1 {}) (tget c.c 1 {}) with
          | some x => .error (8, 1 + 256 * x)
          | none => match s.workerSlot2 (g.slots.getD 2 {}) c with
            | some x => .error (8, 2 + 256 * x)
            | none => if 4 ≤ c.frames.length then .error (9, 0) else .ok g

/-- Registers of a cell whose number a test admits; the others are cleared. -/
def keepRegs {α : Type} (t : Tbl α) (f : Nat → Bool) : Tbl α := t.filter (fun p => f p.1)

/-- The RETURN capability that names a frame (DESIGN CHOICE, log entry 34: the spec gives its type and its meaning only). -/
def returnCap (level serial : Nat) : CapReg :=
  { tag := true, cap := { type := 8, level, owner := 0x3FF, rights := 1 <<< rStore, offset := serial } }

/-- CALL_GATE_ENTRY (R141, R142); a trap is the caller's (R151). -/
def execCallGateEntry (t cell reg ret : Nat) (s : State) : Out :=
  let s := s.tick t
  if !s.cellRuns cell then .next s else
    let c := s.cell cell
    let r : CapReg := tget c.c reg {}
    let number := match (s.obj r.cap.object).what with | .gate n => n | _ => 0xFFFF
    match s.workerEntry c r with
    | .error (cause, detail) => .next (s.trap cell cause { reg, gate := number, detail } none)
    | .ok g =>
      let serial := s.cap.frameSerial
      let f : Frame := { c15 := tget c.c 15 {}, level := c.level, ret, gate := g.number, serial }
      let s := { s with cap := { s.cap with frameSerial := serial + 1 } }
      .next (s.modCell cell (fun c =>
        { c with frames := f :: c.frames, level := g.level, point := g.entryPoint
                 c := tset (tset (keepRegs c.c (fun k => decide (k ≤ 2))) 14 (returnCap g.level serial)) 15 g.stack
                 gr := keepRegs c.gr (fun k => decide (k ≤ 3)) }))

/-- A register holds the RETURN capability of the innermost frame. -/
def Cell.returnFrame (c : Cell) (reg : Nat) : Option Frame :=
  let r : CapReg := tget c.c reg {}
  match c.frames with
  | f :: _ => if reg = 14 ∧ r.tag = true ∧ r.cap.type = 8 ∧ r.cap.offset = f.serial then some f else none
  | [] => none

/-- CALL_GATE_RETURN (R143); a trap is the callee's (R151). -/
def execCallGateReturn (t cell reg : Nat) (s : State) : Out :=
  let s := s.tick t
  if !s.cellRuns cell then .next s else
    match (s.cell cell).returnFrame reg with
    | none =>
      let gate := match (s.cell cell).frames with | f :: _ => f.gate | [] => 0xFFFF
      .next (s.trap cell 0x0A { reg, gate } none)
    | some f =>
      .next (s.modCell cell (fun c =>
        let c0 : CapReg := tget c.c 0 {}
        let c14 : CapReg := tget c.c 14 {}
        { c with frames := c.frames.drop 1, level := f.level, point := f.ret
                 c := tset (tset (tset [] 0 { c0 with tag := c0.tag && decide (f.level ≤ c0.cap.level) }) 14 c14) 15 f.c15
                 gr := keepRegs c.gr (fun k => decide (k ≤ 3)) }))

/-- HUB_REQUEST_RETURN (R144): g0 becomes STATUS, and at most 224 bytes placed in the frame become BODY. -/
def execHubRequestReturn (t cell : Nat) (body : List Byte) (io : HostIo) (s : State) : Out :=
  let s := s.tick t
  let c := s.cell cell
  match c.request with
  | some n =>
    if c.frames.isEmpty then
      .next ((s.drainAll cell).endJob n (fld (tget c.gr 0 0) 15 0) (body.take 224) io.cqFault)
    else .next s
  | none => .next s

/-- CELL_TRAP (R145): a cell that runs takes a cause of Table 5-11. -/
def execCellTrap (t cell cause : Nat) (info : TrapInfo) (io : HostIo) (s : State) : Out :=
  let s := s.tick t
  if s.cellRuns cell ∧ 1 ≤ cause ∧ cause ≤ 0x11 then .next (s.trap cell cause info io.cqFault) else .next s

end Sys2Proof.Machine
end

