-- ==== Sys2Proof/Machine/Lane.lean ====
section
/-! DEFINITION. Lane Link: turns, frames received, roll call, the emergency path, APDU exchanges and the lane commands
(06_lane_link.md; R24, R36 to R38 of 01_tap_end_to_end.md; R220 to R222 of 08_fare_sessions.md). -/

namespace Sys2Proof.Machine

/-! ### Turns -/

/-- A segment runs turns: started, enabled, not stopped by zeroisation, and no emergency (R36, R180, R182, R34). -/
def State.segRuns (s : State) (seg : Nat) : Bool :=
  let g := s.seg seg
  decide (seg < 8) && g.started && !g.stopped && s.cfg.segs.contains seg && !s.lane.emg && !s.lane.releasing

/-- TURN_START (R164): the first turn that applies begins; `mismatch` is R157's read-back. -/
def execTurnStart (t seg : Nat) (mismatch : Bool) (s : State) : Out :=
  let s := s.tick t
  let free := match (s.seg seg).turn with
    | none | some (.rollcall _ _) => true
    | _ => false
  if !s.segRuns seg || !free then .next s else
    let s := s.pruneAssigns seg
    match s.turnChoice seg with
    | none => .next (s.modSeg seg (fun g => { g with turn := none, retrying := false }))
    | some (k, retry) =>
      let s := s.modSeg seg (fun g =>
        { g with turn := some k, retrying := retry
                 retryDecision := if retry then (match k with | .decision _ => none | _ => g.retryDecision) else g.retryDecision
                 retrySession := if retry then (match k with | .apdu _ | .sessionPoll _ => none | _ => g.retrySession) else g.retrySession
                 retryOpen := if retry && g.retryOpen == some k then none else g.retryOpen })
      let s := s.turnSend seg k retry
      .next (if mismatch then (s.count 2 seg 2).failTurn seg else s)

/-- TURN_FAILED (R168): nothing is accepted within the window of R163. -/
def execTurnFailed (t seg : Nat) (s : State) : Out :=
  let s := s.tick t
  match (s.seg seg).turn with
  | none | some (.rollcall _ _) => .next s
  | some _ => .next (s.failTurn seg)

/-- TRANSMISSION_DROPPED (R161, R175). -/
def execTransmissionDropped (t seg : Nat) (raw : RawLine) (s : State) : Out :=
  let s := s.tick t
  if 7 < seg then .next s else
    let s := s.count 2 seg (if raw.cause = .crc then 0 else 1)
    match raw.cause, raw.addr with
    | .code, some a =>
      if 1 ≤ a ∧ a ≤ 16 then .next (s.modUnit (laneOf seg a) (fun u => { u with violations := u.violations + 1 })) else .next s
    | _, _ => .next s

/-! ### Frames received -/

/-- A TAP that is not dropped: a card tap is admitted or queued (R24), a barcode tap begins its transfer (R167). -/
def State.newTap (s : State) (lane : Nat) (b : List Byte) : State :=
  let s := s.count 1 lane 0
  let seg := laneSeg lane
  let x : Session := { tapSec := s.servedSec, tapNs := s.servedNs, tapState := s.timState, kind := byteAt b 0 }
  let put (x : Session) (s : State) : State := s.modFare (fun a => { a with sessions := tset a.sessions lane x })
  if x.barcode then
    let ticket := b.drop 24
    let total := beNat (slice b 2 2)
    let x := { x with ticket, totalLen := total, budget := s.now + 60000000, phase := .transfer }
    if ticket.length < total then put x s
    else (put { x with phase := .placing } s).await (.session lane) .validator
  else
    let s := put { x with uid := slice b 2 (byteAt b 1), budget := s.now + 180000000 } s
    if (s.seg seg).active.length < 4 then s.admitTap lane
    else s.modSeg seg (fun g => { g with queue := g.queue ++ [lane] })

/-- TAP_RECEIVED (R24, R36 to R38, R548). -/
def execTapReceived (t seg : Nat) (f : LaneFrame) (s : State) : Out :=
  let s := s.tick t
  let lane := laneOf seg f.addr
  if 7 < seg ∨ f.addr = 0 ∨ 16 < f.addr then .next s
  else if s.lane.emg then .next (s.count 1 lane 8)
  else if !s.invites seg lane then .next s
  else
    let limited := !(s.seg seg).active.isEmpty
    let (new, s) := s.acceptUp seg f
    if !new then .next s
    else if !tapOk limited f.payload then .next (s.count 2 seg 8)
    else if (s.ses lane).isSome then .next (s.count 1 lane 6)
    else if !tmem s.cfg.lanes lane then .next (s.count 1 lane 7)
    else .next (s.newTap lane f.payload)

/-- CONT_RECEIVED (R167, R548). -/
def execContReceived (t seg : Nat) (f : LaneFrame) (s : State) : Out :=
  let s := s.tick t
  let lane := laneOf seg f.addr
  if 7 < seg ∨ f.addr = 0 ∨ 16 < f.addr ∨ !s.invites seg lane then .next s
  else
    let limited := !(s.seg seg).active.isEmpty
    let (new, s) := s.acceptUp seg f
    if !new then .next s else
      match s.ses lane with
      | none => .next s
      | some x =>
        if x.phase ≠ .transfer ∨ x.outcome.isSome then .next s
        else if !contOk limited f.payload x.ticket.length x.totalLen then .next ((s.count 2 seg 8).abortSes lane 0x3A)
        else
          let ticket := x.ticket ++ f.payload.drop 8
          if ticket.length < x.totalLen then .next (s.modSes lane (fun x => { x with ticket }))
          else .next ((s.modSes lane (fun x => { x with ticket, phase := .placing })).await (.session lane) .validator)

/-- APDU_R_RECEIVED (R221, R222, R548). -/
def execApduRReceived (t seg : Nat) (f : LaneFrame) (s : State) : Out :=
  let s := s.tick t
  let lane := laneOf seg f.addr
  if 7 < seg ∨ f.addr = 0 ∨ 16 < f.addr ∨ !s.invites seg lane then .next s
  else
    let (new, s) := s.acceptUp seg f
    let b := f.payload
    let awaited : Option ExKind := match s.ses lane with
      | some x => match x.awaiting with
        | some (q, k, some _) =>
          if 3 ≤ b.length ∧ x.slot = some (beNat (slice b 0 2)) ∧ q = byteAt b 2 then some k else none
        | _ => none
      | none => none
    if !new then .next s
    else if !apduROk b then
      let s := s.count 2 seg 8
      .next (if awaited.isSome then s.exchangeFailed lane 0x32 else s)
    else match awaited with
      | none => .next (s.count 1 lane 9)
      | some k =>
        if byteAt b 3 = 0 then .next (s.exchangeDone lane k (b.drop 4))
        else .next (s.exchangeFailed lane (if byteAt b 3 = 1 then 0x30 else if byteAt b 3 = 2 then 0x31 else 0x32))

/-- ECHO_R_RECEIVED (R435, R548). -/
def execEchoRReceived (t seg : Nat) (f : LaneFrame) (s : State) : Out :=
  let s := s.tick t
  let lane := laneOf seg f.addr
  if 7 < seg || (s.seg seg).turn != some (.echo lane) || f.addr == 0 || decide (16 < f.addr) then .next s
  else
    let sent := match (s.unit lane).outstanding with | some x => x.payload | none => []
    let s := s.modUnit lane (fun u => { u with outstanding := none })
    let (_, s) := s.acceptUp seg f
    if 64 < f.payload.length then .next ((s.count 2 seg 8).echoClose lane false)
    else .next (s.echoClose lane (f.payload != sent))

/-- An ASSIGN is acknowledged (R172, R173): the unit is PRESENT, and SEQ restarts in both directions. -/
def State.assigned (s : State) (seg : Nat) (a : Assign) : State :=
  let lane := laneOf seg a.address
  let old := s.unit lane
  let s := s.modSeg seg (fun g =>
    { g with turn := none, retrying := false, assigns := g.assigns.filter (· ≠ a), clashes := g.clashes.filter (· ≠ a.identity) })
  let s := s.modUnit lane (fun u =>
    { u with state := .present, identity := a.identity, caps := a.caps, position := a.position, txSeq := 0, rxSeq := none
             outstanding := none, fails := 0, failState := a.failState, reassign := false
             changed := if u.state = .present then u.changed else s.sec32 })
  if old.state = .present then s
  else if old.state = .absent ∧ old.identity ≠ a.identity then s.identityEvent 0x0503 (srcLane lane) a.identity old.identity
  else s.identityEvent 0x0502 (srcLane lane) a.identity 0

/-- ACK_RECEIVED (R169, R172): the outstanding frame that it names is free. -/
def execAckReceived (t seg addr seq : Nat) (s : State) : Out :=
  let s := s.tick t
  let lane := laneOf seg addr
  let named := match (s.unit lane).outstanding with | some f => f.seq == seq | none => false
  let free (s : State) : State := (s.turnDone seg lane).modUnit lane (fun u => { u with outstanding := none })
  if 7 < seg ∨ addr = 0 ∨ 16 < addr then .next s else
    match (s.seg seg).turn with
    | some (.decision d) => if d.lane = lane ∧ named = true then .next (free s) else .next s
    | some (.apdu l) =>
      if l = lane ∧ named = true then
        .next ((free s).modSes lane (fun x =>
          { x with queued := none, awaiting := x.queued.map (fun q => (x.xseq, q.1, some s.now)) }))
      else .next s
    | some (.assign i a) =>
      match (s.seg seg).assigns.find? (fun x => x.identity == i && x.address == a) with
      | some x => if a = addr ∧ x.seq = seq then .next (s.assigned seg x) else .next s
      | none => .next s
    | _ => .next s

/-- NIL_RECEIVED (R177, R168). -/
def execNilReceived (t seg addr bits : Nat) (s : State) : Out :=
  let s := s.tick t
  let lane := laneOf seg addr
  if 7 < seg ∨ addr = 0 ∨ 16 < addr ∨ !s.invites seg lane then .next s
  else .next ((s.turnDone seg lane).modUnit lane (fun u => { u with lastNil := bits % 16 }))

/-! ### Roll call (R170 to R174) -/

/-- Prefix of a slot of a step: two bits more (R171). -/
def deeper (plen : Nat) (pfx : Word64) (slot : Nat) : Word64 := pfx ||| BitVec.ofNat 64 (slot <<< (62 - plen))

/-- A slot that garbles draws a deeper step, or shows an identity clash (R171). -/
def State.garble (s : State) (seg plen : Nat) (pfx : Word64) (slot : Nat) : State :=
  let s := s.count 2 seg 3
  let p := deeper plen pfx slot
  if plen = 62 then
    ((s.count 2 seg 5).modSeg seg (fun g => { g with closed := p :: g.closed })).identityEvent 0x0505 (srcSegment seg) pfx 0
  else s.modSeg seg (fun g => { g with steps := g.steps ++ [(plen + 2, p)] })

/-- HERE_RECEIVED (R171, R172, R548). -/
def execHereReceived (t seg slot : Nat) (f : LaneFrame) (s : State) : Out :=
  let s := s.tick t
  match (s.seg seg).turn with
  | some (.rollcall plen pfx) =>
    let b := f.payload
    let id : Word64 := BitVec.ofNat 64 (beNat (b.take 8))
    if 7 < seg ∨ 3 < slot then .next s
    else if !hereOk b then .next (s.count 2 seg 8)
    else if id.toNat >>> (62 - plen) ≠ (deeper plen pfx slot).toNat >>> (62 - plen) then .next (s.garble seg plen pfx slot)
    else
      let s := s.heard seg
      let pos := byteAt b 8
      let lane := laneOf seg pos
      let a : Assign := { identity := id, address := pos, caps := byteAt b 9, position := pos }
      if pos = 0 then .next (s.count 2 seg 4)
      else if (s.unit lane).state = .present ∧ (s.unit lane).identity ≠ id then .next (s.clash seg lane id)
      else if (s.seg seg).assigns.any (fun x => x.identity == id && x.address == pos) then .next s
      else .next (s.modSeg seg (fun g => { g with assigns := g.assigns ++ [a] }))
  | _ => .next s

/-- HERE_GARBLE (R171). -/
def execHereGarble (t seg slot : Nat) (s : State) : Out :=
  let s := s.tick t
  match (s.seg seg).turn with
  | some (.rollcall plen pfx) => if 7 < seg ∨ 3 < slot then .next s else .next (s.garble seg plen pfx slot)
  | _ => .next s

/-- ROLLCALL_CYCLE (R170). -/
def execRollcallCycle (t seg : Nat) (s : State) : Out :=
  let s := s.tick t
  if s.segRuns seg then .next (s.startCycle seg) else .next s

/-! ### Transfers and exchanges (R167, R154, R220) -/

/-- BARCODE_TRANSFER_TIMEOUT (R167): 3 ms after the TAP stamp, which is 57 ms before the budget ends. -/
def execBarcodeTransferTimeout (t lane : Nat) (s : State) : Out :=
  let s := s.tick t
  match s.ses lane with
  | some x => if x.phase = .transfer ∧ x.outcome = none ∧ x.budget ≤ s.now + 57000000 then .next (s.abortSes lane 0x3A) else .next s
  | none => .next s

/-- A session ends as an abort for which Table 8-1 has no reason (R154): reason and prompt are free values. -/
def State.abortFree (s : State) (lane : Nat) : State :=
  match s.ses lane with
  | none => s
  | some x =>
    if x.prepared then s.abortSes lane 0x33 else
      let (r, s) := s.free
      let (p, s) := s.free
      (s.modSes lane (fun x => { x with fare := 0, valueAfter := 0 })).conclude lane .abort (r % 2 ^ 8) (p % 2 ^ 16) true

/-- The APDU that a cell may queue now for what it says the APDU is for (R166, R218, R222). -/
def State.apduFor (s : State) (lane : Nat) (x : Session) (kind : ExKind) (apdu : List Byte) : Option (List Byte) :=
  let fits := decide (4 ≤ apdu.length) && decide (apdu.length ≤ 44)
  match kind with
  | .select => match ((s.cfgOf x.cfg).aids lane)[x.aid]? with
    | some a => if x.phase = .running ∧ x.tenant = 0 then some (selectApdu a.1) else none
    | none => none
  | .read _ => if x.phase = .running ∧ x.tenant ≠ 0 ∧ fits then some apdu else none
  | .write | .commit => if x.phase = .writing ∧ fits then some apdu else none

/-- APDU_COMMAND_QUEUE (R154, R220, R222). -/
def execApduCommandQueue (t lane : Nat) (kind : ExKind) (apdu : List Byte) (s : State) : Out :=
  let s := s.tick t
  match s.ses lane with
  | none => .next s
  | some x =>
    if x.cell.isNone || x.outcome.isSome || x.queued.isSome || x.awaiting.isSome || x.barcode then .next s
    else if kind = .select ∧ x.phase = .running ∧ x.tenant = 0 ∧ ((s.cfgOf x.cfg).aids lane).length ≤ x.aid then
      .next (s.denySes lane 0x15 0x15)
    else match s.apduFor lane x kind apdu with
      | none => .next s
      | some b =>
        if !s.capValid x.laneCap then .next (s.abortFree lane)
        else if ((s.cfgOf x.cfg).param 0 0x0603).toNat < x.xseq + 1 then .next (s.abortSes lane 0x32)
        else
          let s := match x.slot with | some n => s.renew n | none => s
          let first := (kind == .write || kind == .commit) && !x.prepared
          let s := match x.slot with | some n => if first then s.intent n .prepared else s | none => s
          .next (s.modSes lane (fun x =>
            { x with queued := some (kind, b), xseq := x.xseq + 1, prepared := x.prepared || first }))

/-- EXCHANGE_TIMEOUT (R220). -/
def execExchangeTimeout (t lane : Nat) (s : State) : Out :=
  let s := s.tick t
  match s.ses lane with
  | some x => match x.awaiting with
    | some (_, _, some at_) =>
      if at_ + ((s.cfgOf x.cfg).param 0 0x0602).toNat * 1000000 ≤ s.now then .next (s.exchangeFailed lane 0x30) else .next s
    | _ => .next s
  | none => .next s

/-! ### The emergency path (R35, R36, R178 to R180) -/

/-- EMG_OPEN_N_CHANGE (R178): the level at the ball. -/
def execEmgOpenNChange (t : Nat) (level : Bool) (s : State) : Out :=
  let s := s.tick t
  if s.lane.emgInput = !level then .next s
  else .next { s with lane := { s.lane with emgInput := !level, emgSince := s.now } }

/-- EMG_FILTER_ASSERT (R178, R179, R36). -/
def execEmgFilterAssert (t : Nat) (s : State) : Out :=
  let s := s.tick t
  if !s.lane.emgPath || s.lane.emg || !s.lane.emgInput || decide (s.now < s.lane.emgSince + 100000) then .next s
  else
    let lanes := (List.range 8).flatMap (fun g => (s.seg g).active)
    let s := (List.range 8).foldl State.cutTurn s
    let s : State := { s with lane := { s.lane with emg := true, releasing := false, clearSent := 0 } }
    let s := s.freeExit false
    let s := (List.range 8).foldl (fun s g => s.raiseDev 0x0507 (srcSegment g) 0) s
    .next (lanes.foldl State.emergencyAbort s)

/-- FREE_EXIT_REPEAT (R179, R35). -/
def execFreeExitRepeat (t : Nat) (s : State) : Out :=
  let s := s.tick t
  if s.lane.emg && decide (s.lane.freeExitAt + 10000000 ≤ s.now) then .next (s.freeExit false) else .next s

/-- EMG_FILTER_RELEASE (R178, R180). -/
def execEmgFilterRelease (t : Nat) (s : State) : Out :=
  let s := s.tick t
  if !s.lane.emg || s.lane.emgInput || decide (s.now < s.lane.emgSince + s.devN 0x0502 * 1000000) then .next s
  else
    let s : State := { s with lane := { s.lane with emg := false, releasing := true, clearSent := 1 } }
    let s := s.modAud (fun a => { a with prompts := a.prompts.filter (fun p => !p.2.emg), emgNext := none })
    .next (s.freeExit true)

/-- FREE_EXIT_CLEAR_REPEAT (R180): after the third the segments resume. -/
def execFreeExitClearRepeat (t : Nat) (s : State) : Out :=
  let s := s.tick t
  if !s.lane.releasing || decide (s.now < s.lane.freeExitAt + 10000000) then .next s
  else
    let s := s.freeExit true
    let s : State := { s with lane := { s.lane with clearSent := s.lane.clearSent + 1 } }
    if s.lane.clearSent < 3 then .next s
    else
      let s : State := { s with lane := { s.lane with releasing := false } }
      .next ((List.range 8).foldl (fun s g =>
        (if s.segRuns g then s.startCycle g else s).raiseDev 0x0508 (srcSegment g) 0) s)

/-! ### Commands (Table 6-14) -/

/-- LANE_BIND. -/
def laneBindDef : CmdDef :=
  { code := 0x0501, argc := 3, tenant := false, staged := true, masks := [0x7F, 0xFFFFFFFE, 0xFF01] }

/-- LANE_BIND's work. -/
def laneBindWork (tag : Nat) (_io : HostIo) (a : List Word) (s : State) : Answer :=
    let tenants := (onesOf 32 (arg a 2).toNat)
    let open_ := fld (arg a 3) 15 8
    if open_ < 5 ∨ 100 < open_ then .status 0x0012 s
    else if tenants.isEmpty ∨ tenants.any (fun n => !s.enabled n) then .status 0x0503 s
    else s.stage tag 0x0501 (.laneBind (fld (arg a 1) 6 0) { tenants, failOpen := bit (arg a 3) 0, openTime := open_ })

/-- LANE_BIND. -/
def execLaneBind (t tag : Nat) (io : HostIo) (s : State) : Out :=
  .next (s.run laneBindDef (laneBindWork tag io) t tag io)

/-- LANE_UNBIND. -/
def laneUnbindDef : CmdDef :=
  { code := 0x0502, argc := 1, tenant := false, staged := true, masks := [0x7F] }

/-- LANE_UNBIND's work. -/
def laneUnbindWork (tag : Nat) (_io : HostIo) (a : List Word) (s : State) : Answer :=
    let lane := fld (arg a 1) 6 0
    let bound := match s.openMan tag with | some (_, m) => tmem (s.resulting m).lanes lane | none => false
    if !bound then .status 0x0502 s else s.stage tag 0x0502 (.laneUnbind lane)

/-- LANE_UNBIND: the lane must be bound in the configuration that the manifest would make. -/
def execLaneUnbind (t tag : Nat) (io : HostIo) (s : State) : Out :=
  .next (s.run laneUnbindDef (laneUnbindWork tag io) t tag io)

/-- Code of an address state (Table 6-14). -/
def addrCode : AddrState → Nat
  | .vacant => 0 | .present => 1 | .absent => 2

/-- LANE_STATUS. -/
def laneStatusDef : CmdDef :=
  { code := 0x0503, argc := 1, tenant := true, masks := [0x7F] }

/-- LANE_STATUS's work. -/
def laneStatusWork (tag : Nat) (_io : HostIo) (a : List Word) (s : State) : Answer :=
    let lane := fld (arg a 1) 6 0
    let b := tfind s.cfg.lanes lane
    let mine := isPf tag || (match b with | some b => b.tenants.contains tag | none => false)
    let u := s.unit lane
    let g := s.seg (laneSeg lane)
    if !mine then .status 0x0502 s
    else .ok [ wd (addrCode u.state + b2n b.isSome * 4 + b2n (g.active.contains lane) * 8 + b2n (g.queue.contains lane) * 16 +
                 u.lastNil * 256 + u.g * 2 ^ 16)
             , wd u.identity.toNat, wd (u.identity.toNat / 2 ^ 32), wd (u.caps + u.position * 256), wd u.changed ] s

/-- LANE_STATUS. -/
def execLaneStatus (t tag : Nat) (io : HostIo) (s : State) : Out :=
  .next (s.run laneStatusDef (laneStatusWork tag io) t tag io)

/-- LANE_SEG_STATUS. -/
def laneSegStatusDef : CmdDef :=
  { code := 0x0504, argc := 1, tenant := false, masks := [0x7] }

/-- LANE_SEG_STATUS's work. -/
def laneSegStatusWork (_tag : Nat) (_io : HostIo) (a : List Word) (s : State) : Answer :=
    let seg := fld (arg a 1) 2 0
    let g := s.seg seg
    let st := if s.lane.emg || s.lane.releasing then 3 else if !s.cfg.segs.contains seg then 0 else if g.lonely then 2 else 1
    let map (x : AddrState) : Nat := bitsOf ((List.range 16).filter (fun i => (s.unit (16 * seg + i)).state == x))
    .ok [wd st, wd (map .present + map .absent * 2 ^ 16), wd (g.active.length + g.queue.length * 16), wd g.quiet] s

/-- LANE_SEG_STATUS. -/
def execLaneSegStatus (t tag : Nat) (io : HostIo) (s : State) : Out :=
  .next (s.run laneSegStatusDef (laneSegStatusWork tag io) t tag io)

/-- LANE_SEG_ENABLE. -/
def laneSegEnableDef : CmdDef :=
  { code := 0x0505, argc := 1, tenant := false, staged := true, masks := [0x107] }

/-- LANE_SEG_ENABLE's work. -/
def laneSegEnableWork (tag : Nat) (_io : HostIo) (a : List Word) (s : State) : Answer :=
    s.stage tag 0x0505 (.segEnable (fld (arg a 1) 2 0) (bit (arg a 1) 8))

/-- LANE_SEG_ENABLE. -/
def execLaneSegEnable (t tag : Nat) (io : HostIo) (s : State) : Out :=
  .next (s.run laneSegEnableDef (laneSegEnableWork tag io) t tag io)

/-- LANE_ROLLCALL. -/
def laneRollcallDef : CmdDef :=
  { code := 0x0506, argc := 1, tenant := false, masks := [0x7] }

/-- LANE_ROLLCALL's work. -/
def laneRollcallWork (_tag : Nat) (_io : HostIo) (a : List Word) (s : State) : Answer :=
    let seg := fld (arg a 1) 2 0
    if s.lane.emg then .status 0x0504 s
    else if !s.cfg.segs.contains seg then .status 0x0506 s
    else .ok [] (if s.segRuns seg then s.startCycle seg else s)

/-- LANE_ROLLCALL (R170). -/
def execLaneRollcall (t tag : Nat) (io : HostIo) (s : State) : Out :=
  .next (s.run laneRollcallDef (laneRollcallWork tag io) t tag io)

/-- LANE_FORGET. -/
def laneForgetDef : CmdDef :=
  { code := 0x0507, argc := 1, tenant := false, masks := [0x7F] }

/-- LANE_FORGET's work. -/
def laneForgetWork (_tag : Nat) (_io : HostIo) (a : List Word) (s : State) : Answer :=
    let lane := fld (arg a 1) 6 0
    match (s.unit lane).state with
    | .present => .status 0x0505 s
    | .absent => .ok [] ((s.modUnit lane (fun u => { ({} : LaneUnit) with g := u.g, changed := s.sec32 })).modSeg (laneSeg lane)
        (fun g => { g with probes := g.probes.filter (· ≠ lane) }))
    | .vacant => .ok [] s

/-- LANE_FORGET (R181). -/
def execLaneForget (t tag : Nat) (io : HostIo) (s : State) : Out :=
  .next (s.run laneForgetDef (laneForgetWork tag io) t tag io)

end Sys2Proof.Machine
end

