-- ==== Sys2Proof/Machine/Memory.lean ====
section
/-! DEFINITION. Cell loads and stores, the directory's requests, atomic operations and DMA pieces (13_memory.md). -/

namespace Sys2Proof.Machine

/-- The record of an access that traps. -/
def accessInfo (auth off size : Nat) (write : Bool) : TrapInfo := { reg := auth, offset := off, size, write }

/-- CELL_LOAD (R350, R355): forwarded from the youngest overlapping store when that contains it, stalled when it overlaps
it in part, else read. -/
def execCellLoad (t cell auth off size : Nat) (s : State) : Out :=
  let s := s.tick t
  if !s.cellRuns cell ∨ size = 0 then .next s else
    match s.cellAccess cell auth off size true false none with
    | .error (c, s) => .next (s.trap cell c (accessInfo auth off size false) none)
    | .ok (a, r, s) =>
      match (s.cell cell).overlap a size with
      | some e =>
        if e.addr ≤ a ∧ a + size ≤ e.addr + e.data.length then
          .next (s.modCell cell (fun c => { c with loaded := slice e.data (a - e.addr) size, stalled := false }))
        else .next (s.modCell cell (fun c => { c with stalled := true }))
      | none =>
        let (b, _, s) := s.fetch cell a size r.cacheable
        .next (s.modCell cell (fun c => { c with loaded := b, stalled := false }))

/-- CELL_STORE (R350, R356): checked at issue. -/
def execCellStore (t cell auth off : Nat) (data : List Byte) (s : State) : Out :=
  let s := s.tick t
  if !s.cellRuns cell ∨ data.isEmpty then .next s else
    match s.cellAccess cell auth off data.length false true none with
    | .error (c, s) => .next (s.trap cell c (accessInfo auth off data.length true) none)
    | .ok (a, r, s) => .next (s.bufferStore cell { addr := a, data, cached := r.cacheable })

/-- STORE_DRAIN (R356). -/
def execStoreDrain (t cell : Nat) (s : State) : Out :=
  let s := s.tick t
  .next (s.drainOne cell)

/-- FENCE (R357): it completes when the store buffer is empty. -/
def execFence (t cell : Nat) (s : State) : Out :=
  let s := s.tick t
  .next (s.drainAll cell)

/-- The lease that a lease word spells, with its slot and its intent record kept. -/
def leaseOf (w n : Nat) (old : Option Lease) : Lease :=
  { hgen := nfld w 63 48, holder := nfld w 47 38, expiry := nfld w 31 0
    slot := match old with | some l => l.slot | none => if n < 1024 then some n else none
    intent := match old with | some l => l.intent | none => {} }

/-- A 64-bit value is performed at its home: a lease word changes the lease table (R201). -/
def State.performAtomic (s : State) (a v : Nat) : State :=
  match leaseAt a with
  | some n =>
    if v = 0 then s.dropLease n
    else s.modSea (fun x => { x with leases := tset x.leases n (leaseOf v n (tfind x.leases n)) })
  | none => s.store a (toLe 8 v)

/-- ATOMIC_OPERATION (R357): a 64-bit compare-and-swap; the store buffer drains first.  In a cacheable region it is an
illegal instruction (DEDUCED, log entry 33). -/
def execAtomicOperation (t cell auth off : Nat) (expect new : BitVec 64) (s : State) : Out :=
  let s := s.tick t
  if !s.cellRuns cell then .next s else
    let s := s.drainAll cell
    match s.cellAccess cell auth off 8 true true none with
    | .error (c, s) => .next (s.trap cell c (accessInfo auth off 8 true) none)
    | .ok (a, r, s) =>
      if r.cacheable then .next (s.trap cell 0x0D (accessInfo auth off 8 true) none)
      else
        let (b, s) := s.loadBytes a 8
        let s := if leNat b = expect.toNat then s.performAtomic a new.toNat else s
        .next (s.modCell cell (fun c => { c with loaded := b, stalled := false }))

/-! ### The directory (R352, R353) -/

/-- Position of a waiting READ or OWN of a line by a cell of a cluster in the same cycle. -/
def contender (t cluster line : Nat) : Instr → Option Nat
  | .read t' c l | .own t' c l => if t' = t ∧ clusterOf c = cluster ∧ l = line then some (c % 8) else none
  | _ => none

/-- A waiting WRITEBACK of a line in the same cycle: the cell. -/
def rival (t cluster line : Nat) : Instr → Option Nat
  | .writeback t' c l => if t' = t ∧ clusterOf c = cluster ∧ l = line then some c else none
  | _ => none

/-- The requester served: at or next after the priority pointer, in position order with wrap (R353). -/
def winner (ptr : Nat) (ps : List Nat) : Option Nat :=
  ((List.range 8).map (fun i => (ptr + i) % 8)).find? (fun p => ps.contains p)

/-- A WRITEBACK is completed, if the cell holds the line Modified. -/
def State.writeback1 (s : State) (line cell : Nat) : State :=
  if tfind (s.cell cell).l1 line = some .modified then s.writebackLine cell line else s

/-- A READ or OWN reaches the directory: WRITEBACKs of the cycle complete first, then the winner is served and the others
receive RETRY (R353). -/
def State.request (s : State) (t cell line : Nat) (serve : State → State) : State :=
  let k := clusterOf cell
  let s := (s.pending.filterMap (rival t k line)).foldl (fun s c => s.writeback1 line c) s
  let ps := cell % 8 :: s.pending.filterMap (contender t k line)
  if winner (s.line (lineKey cell line)).ptr ps = some (cell % 8) then
    (serve s).modCell cell (fun c => { c with retry := false })
  else s.modCell cell (fun c => { c with retry := true })

/-- A line that the cell may hold: one of a cacheable region (13 Cluster coherence). -/
def State.cacheLine (s : State) (cell line : Nat) : Bool :=
  s.cellRuns cell && (s.regionAt (s.cell cell).charge (64 * line)).cacheable

def execRead (t cell line : Nat) (s : State) : Out :=
  let s := s.tick t
  if s.cacheLine cell line then .next (s.request t cell line (fun s => s.readLine cell line)) else .next s

def execOwn (t cell line : Nat) (s : State) : Out :=
  let s := s.tick t
  if s.cacheLine cell line then .next (s.request t cell line (fun s => s.ownLine cell line)) else .next s

def execWriteback (t cell line : Nat) (s : State) : Out :=
  let s := s.tick t
  .next (s.writeback1 line cell)

/-! ### DMA (R137, R343, R348, R349) -/

/-- A piece moved for a cell, between its scratch and a capability's window. -/
def State.dmaCell (s : State) (n : Nat) (j : DmaReq) : State :=
  let reg := j.reg.getD 0xFF
  let r : CapReg := tget (s.cell n).c reg {}
  let len := if j.write then j.data.length else j.len
  let info := accessInfo reg j.offset (min 16 len) j.write
  match s.capCause n r j.offset len (!j.write) j.write with
  | some c => s.trap n c info none
  | none =>
    let a := s.capAddr r.cap j.offset
    let acc : Access := { addr := a, level := (s.cell n).level, charge := (s.cell n).charge, cell := n, read := !j.write
                          write := j.write, dma := true }
    match (s.obj r.cap.object).what with
    | .iova tag =>
      match s.xlateCause tag a len j.fault with
      | some c =>
        let s := s.xlateFault tag a c j.write (if j.write then 4 else 3)
        match (s.cell n).trapWork with
        | some (.piece k) => s.endJob k 0x001C [] none
        | some w => (s.dropWorkOn n w).endWork 0x001C none w
        | none => s
      | none =>
        let (k, s) := State.mpuRun 2 (len / 256 + 2) acc len s
        let s := if j.write && s.bme tag && decide (0 < k) then s.dmaOut tag a (j.data.take k) else s
        if k < len then s.trap n 0x0B info none else s
    | _ =>
      match mpuAt s.mem.extMib a with
      | none => (s.logRefusal (if 0x100000000 ≤ a then 1 else 0) 0xFF acc).trap n 0x0B info none
      | some m =>
        let (k, s) := State.mpuRun m (len / 256 + 2) acc len s
        let s := if j.write then s.store a (j.data.take k) else s
        if k < len then s.trap n 0x0B info none else s

/-- A piece moved for an SQ entry or a command without a cell, between host memory and the device. -/
def State.dmaHost (s : State) (j : DmaReq) : State :=
  let len := if j.write then j.data.length else j.len
  let acc : Access := { addr := j.addr, level := accessLevel j.tag, charge := j.tag, read := !j.write, write := j.write, dma := true }
  let device (s : State) : Nat × State :=
    match mpuAt s.mem.extMib j.addr with
    | none => (0, s.logRefusal (if 0x100000000 ≤ j.addr then 1 else 0) 0xFF acc)
    | some m => State.mpuRun m (len / 256 + 2) acc len s
  if j.write then
    match s.hostRead j.tag j.iova len 3 j.fault with
    | .error (_, s) => s
    | .ok s =>
      let (k, s) := device s
      s.store j.addr (j.data.take k)
  else
    let (k, s) := device s
    let (b, s) := s.loadBytes j.addr k
    if b.isEmpty then s else (s.hostWrite j.tag j.iova b j.fault).2

/-- DMA_PIECE: one piece of a transfer, at most up to a 4 KiB boundary of its addresses (R137). -/
def execDmaPiece (t : Nat) (j : DmaReq) (s : State) : Out :=
  let s := s.tick t
  match j.cell with
  | some n => if s.cellRuns n then .next (s.dmaCell n j) else .next s
  | none => if s.enabled j.tag && s.bme j.tag then .next (s.dmaHost j) else .next s

end Sys2Proof.Machine
end

