-- ==== Sys2Proof/Machine/Startup.lean ====
section
/-! DEFINITION. Power-good, the boot stages, fuses, boot flash, lifecycle (19_startup_lifecycle.md). -/

namespace Sys2Proof.Machine

/-! ### Power-good and the reset inputs (R459 to R461) -/

/-- POWER_GOOD: the cold boot starts (R462). -/
def execPowerGood (t : Nat) (s : State) : Out :=
  let s := s.tick t
  if s.lcy.powerGood then .next s
  else
    let s := s.modLcy (fun l => { l with powerGood := true, bootStart := s.now, stage := 1 })
    let s := { s with cart := tmap s.cart (fun _ c => { c with cdSince := s.now }) }
    .next (s.startTime.emitOut (.console "stage" 1))

/-- The emergency path stands in reset (R461). -/
def State.emgReset (s : State) : State :=
  { s with lane := { s.lane with emgPath := false, emg := false, releasing := false, clearSent := 0, freeExitAt := 0 } }

/-- POWER_GOOD_LOST: a rail that leaves its window trips a detector first (R388, R460); VDD_HUB and VDD_IO33 feed the
emergency path. -/
def execPowerGoodLost (t : Nat) (cause : PowerLoss) (s : State) : Out :=
  let s := s.tick t
  if !s.lcy.powerGood then .next s
  else match cause with
    | .sysReset => .next ((s.modLcy (fun l => { l with powerGood := false })).coldReset .cold)
    | .rail n =>
      let s := s.trip (if n = 1 then 8 else 6) 0
      let s := (s.modLcy (fun l => { l with powerGood := false })).coldReset .powerOn
      .next (if n = 0 ∨ n = 7 then s.emgReset else s)

/-- EMERGENCY_PATH_START. -/
def execEmergencyPathStart (t : Nat) (s : State) : Out :=
  let s := s.tick t
  if s.lane.emgPath then .next s else .next { s with lane := { s.lane with emgPath := true, emgSince := s.now } }

/-- SEGMENT_CONTROLLER_START, 600 ms after the cold reset starts (R463); a stopped boot sends nothing else (R471). -/
def execSegmentControllerStart (t : Nat) (s : State) : Out :=
  let s := s.tick t
  if !s.lcy.powerGood || s.lcy.stage = 15 || s.sec.zeroised || s.sec.zeroising.isSome ||
      decide (s.now < s.lcy.bootStart + 600000000) || (List.range 8).all (fun n => (s.seg n).started) then .next s
  else .next ((List.range 8).foldl (fun s n => s.modSeg n (fun g => { g with started := true })) s)

/-- Boot stops with a cause of Table 19-6 (R471). -/
def State.bootStop (s : State) (cause : Nat) : State :=
  ((s.modLcy (fun l => { l with stage := 15, fail := cause })).modMbx (fun m => { m with state := .stopped })).emitOut
    (.console "fail" cause)

/-- BOOT_FAIL_CRS_END. -/
def execBootFailCrsEnd (t : Nat) (s : State) : Out :=
  let s := s.tick t
  if !s.lcy.powerGood || s.lcy.stage ≠ 15 || !s.lcy.crs || !s.ins.perstN ||
      decide (s.now < max s.lcy.bootStart s.ins.perstAt + 900000000) then .next s
  else .next { (s.modLcy (fun l => { l with crs := false })) with ins := { s.ins with linkUp := true } }

/-! ### Stage 2: the fuse array (R464, R465) -/

/-- Classes of Table 19-3. -/
inductive FuseClass where
  | monotonic | keyHash | key | data
  deriving DecidableEq, Repr

/-- Class of a fuse word (Table 19-2). -/
def fuseClass (w : Nat) : FuseClass :=
  if w ≤ 5 then .monotonic else if 8 ≤ w ∧ w ≤ 55 then .keyHash else if 64 ≤ w ∧ w ≤ 79 then .key else .data

/-- A word whose reads differ. -/
def FuseReads.marginal (r : FuseReads) : Bool := !(r.normal == r.low && r.low == r.high)

/-- Value in use of a word (Table 19-3); 0 stands for none. -/
def FuseReads.value (r : FuseReads) (w : Nat) : Word :=
  match fuseClass w with
  | .monotonic => r.normal ||| r.low ||| r.high
  | .data => r.normal
  | _ => if r.marginal then 0 else r.normal

/-- Reserved and unused words (Table 19-2). -/
def fuseUnused (w : Nat) : Bool := (decide (56 ≤ w) && decide (w ≤ 63)) || decide (480 ≤ w)

/-- The three reads of a word at stage 2: those listed, or the array's value three times. -/
def State.fuseReads (s : State) (l : Tbl FuseReads) (w : Nat) : FuseReads :=
  let v := tget s.lcy.fuses w 0
  tget l w { normal := v, low := v, high := v }

/-- The words that the array holds or that are listed. -/
def State.fuseWords (s : State) (l : Tbl FuseReads) : List Nat :=
  (List.range 512).filter (fun w => tmem l w || tmem s.lcy.fuses w)

/-- A DUK copy is used when its eight words are stable (R392). -/
def dukCopyOf (marginal : List Nat) : Option Nat :=
  let stable (k : Nat) : Bool := (List.range 8).all (fun i => !marginal.contains (64 + 8 * k + i))
  if stable 0 then some 0 else if stable 1 then some 1 else none

/-- The fuse array is read. -/
def State.stageFuses (s : State) (l : Tbl FuseReads) : State :=
  let reads := (s.fuseWords l).map (fun w => (w, s.fuseReads l w))
  let marg := reads.filter (fun p => p.2.marginal)
  let m := marg.map (·.1)
  let slots (first n : Nat) : List Nat := (List.range n).filter (fun k => m.any (fun w => decide (first + 8 * k ≤ w) && decide (w < first + 8 * k + 8)))
  let mismatch := reads.any (fun p => (fuseClass p.1 == .data && p.2.marginal) || (fuseUnused p.1 && p.2.value p.1 ≠ 0))
  let s := s.modLcy (fun x =>
    { x with fuses := reads.map (fun p => (p.1, if fuseClass p.1 == .monotonic then p.2.value p.1 else p.2.normal))
             use := reads.map (fun p => (p.1, p.2.value p.1)), marginal := m, bootReads := marg, trimMismatch := mismatch
             slotsDisabled := slots 8 4, dbgDisabled := slots 40 2, dukCopy := (dukCopyOf m).getD 0 })
  let s := (s.modSec (fun x => { x with duk := dukCopyOf m })).recordTest 6 0 .pass 0
  if s.lifecycle = 3 then s.modBat (fun b => { b with bkr := none }) else s

/-! ### Stage 3: keys (R402, R470) -/

/-- The keys of Table 15-2 that live until the next cold reset are made, and R470 is applied. -/
def State.stageKeys (s : State) (burnt : BitVec 3) : State :=
  let s := s.modSec (fun x => { x with trngOk := true, keysMade := true, memKey := x.memKey + 1 })
  let s := { s with cap := { s.cap with sealKey := some s.sec.memKey } }
  if s.sec.bat.bkr.isNone && decide (s.zcount < s.enrols) then (s.burn 3 (stepBit (s.zcount + 1)) burnt).2 else s

/-! ### Stage 4: boot flash (R468, R469) -/

/-- A firmware slot is programmed, stable and not revoked. -/
def State.fwUsable (s : State) (k : Nat) : Bool :=
  (s.hashWords (8 + 8 * k)).any (· ≠ 0) && !s.lcy.slotsDisabled.contains k && !(s.fuse 5).getLsbD k

/-- The slot that an image is verified under: the lowest usable one in SLOTS. -/
def State.fwSlotFor (s : State) (i : Image) : Option Nat := [0, 1, 2, 3].find? (fun k => s.fwUsable k && i.slots.getLsbD k)

/-- Steps 1 to 5 of R469: the slot under which the image passes. -/
def State.accepts (s : State) (i : Image) : Option Nat :=
  match s.fwSlotFor i with
  | some k => if i.layoutOk && decide (s.rollbackStep ≤ i.rollback) && tget i.hashes k [] == s.hashWords (8 + 8 * k) && i.sigOk.contains k
      then some k else none
  | none => none

/-- Bank preferred: that of the valid descriptor copy with the higher DSERIAL, or A (R468). -/
def State.preferred (s : State) : Nat :=
  match tfind s.lcy.desc 0, tfind s.lcy.desc 1 with
  | some a, some b => if a.dserial < b.dserial then b.bank else a.bank
  | some a, none => a.bank
  | none, some b => b.bank
  | none, none => 0

/-- What the flash holds is read, and an image is chosen: a failure cause, or the state with the image verified. -/
def State.stageFlash (s : State) (r : StageResult) : Except Nat State :=
  if !r.flashOk then .error 4
  else
    let s := s.modLcy (fun l => { l with flashOk := true, desc := r.desc, banks := r.banks, cert := r.cert, romVersion := r.romVersion })
    let img (b : Nat) : Image := tget s.lcy.banks b {}
    let p := s.preferred
    let run (b k : Nat) : State := s.modLcy (fun l =>
      { l with bank := b, fallback := b != p, slot := k, version := (img b).version, casteSet := (img b).casteSet, rollback := (img b).rollback })
    if !([0, 1, 2, 3].any s.fwUsable) then .error 3
    else match s.accepts (img p), s.accepts (img (1 - p)) with
      | some k, _ => .ok (run p k)
      | none, some k => .ok (run (1 - p) k)
      | none, none => .error 2

/-! ### Stages 5 and 6: external memory and die links -/

/-- External memory is cleared under its new keys; a sixteenth of it holds tags (R399). -/
def State.stageMemory (s : State) (mib : Nat) : State :=
  let low (a : Nat) : Bool := decide (a < 0x100000000)
  { s with mem := { s.mem with
      bytes := s.mem.bytes.filter (fun p => low p.1), tags := s.mem.tags.filter (fun g => low (16 * g)), extMib := mib * 15 / 16 } }

/-- A die's link trains, and its islands' loops start; a die whose link does not train has no islands (14 Start-up). -/
def State.stageDie (s : State) (good die : Nat) : State :=
  let s := s.linkTrained die good
  let ns := (List.range 24).map (fun i => 24 * die + i)
  if (s.link die).state == .up then (ns.foldl State.leaveReset s).recordTest 3 die .pass 0
  else ns.foldl (fun s n => s.modIsland n (fun i => { i with state := .absent })) s

def State.stageLinks (s : State) (links : Tbl Nat) : State :=
  (List.range s.lcy.dies).foldl (fun s d => s.stageDie (tget links d 18) d) s

/-! ### Stage 7: Frenal starts (R215, R443, 13 Start-up) -/

/-- MPU_HDMA's region 31 spans the whole IOVA space, with read and write at every level. -/
def hdmaRegion : Region := { valid := true, sizeLog2 := 33, perm := 0x6DB }

/-- Cells of a die that answers go to Reserve; a bad one is QUARANTINED. -/
def State.startCells (s : State) (bad : List Nat) : State :=
  let ns := (List.range (192 * s.lcy.dies)).filter (fun n => (s.link (n / 192)).state == .up)
  let s := ns.foldl (fun s n =>
    if bad.contains n then s.modCell n (fun c => { c with state := .available })
    else (s.modCell n (fun c => { c with state := .available, changed := s.sec32 })).recordTest 0 n .pass 0) s
  (ns.filter bad.contains).foldl State.quarantine s

/-- Castes are filled to their minimum from Reserve, the images loaded. -/
def State.startCastes (s : State) : State :=
  let s := [Caste.validator, .ledger, .audio, .sentinel, .cipher].foldl State.refillOne s
  s.modSea (fun a => { a with cells := tmap a.cells (fun _ c =>
    if c.state = .moving then { c with state := .available, caste := c.next, next := .reserve } else c) })

/-- The steward's LANE objects. -/
def State.mintLanes (s : State) : State :=
  (List.range 128).foldl (fun s n => match s.mintRoot 0x3FF 3 4 0 (.lane n) 0 0 with | some (_, s') => s' | none => s) s

/-- The Drover measures every cluster that answers (R194). -/
def State.measureAll (s : State) : State :=
  ((List.range 96).filter (fun n => s.islandPresent n && (s.island n).state == .run)).foldl State.measure s

/-- Stage 7 of a cold boot. -/
def State.stageFrenal (s : State) (r : StageResult) : State :=
  let fw := (r.regions.filter (fun p => decide (24 ≤ p.1 % 32) && decide (p.1 < 192))).foldl (fun t p => tset t p.1 p.2) []
  let s := { s with mem := { s.mem with fwRegions := tset fw (32 * 2 + 31) hdmaRegion }, cap := { s.cap with gates := r.gates } }
  (s.mintLanes.startCells r.badCells).startCastes.measureAll

/-- Stage 7 of a warm reset: islands leave reset, cells come back in the castes they had (R215, R477). -/
def State.stageWarm (s : State) (r : StageResult) : State :=
  let ns := (List.range 108).filter (fun n => s.islandPresent n && (s.island n).state == .reset)
  let s := ns.foldl State.leaveReset s
  let back := (s.sea.cells.filter (fun p => p.2.state == .faulted)).map (·.1)
  let s := back.foldl (fun s n =>
    (s.setCell n .available).modCell n (fun c => { c with caste := c.lentCaste, lentCaste := .reserve })) s
  let s := (back.filter r.badCells.contains).foldl State.quarantine s
  let s := (back.filter (fun n => !r.badCells.contains n)).foldl (fun s n => s.recordTest 0 n .pass 0) s
  s.measureAll.refillShort.assignBuses

/-! ### Stage 8: host service -/

/-- READY is set and N_READY posted on the PF page once the link is there; Retry Status ends (R67, R475). -/
def State.hostService (s : State) : State :=
  let byRestart := s.lcy.warmByRestart
  let s := (s.modMbx (fun m => { m with state := .serving })).modLcy (fun l =>
    { l with warm := false, warmByRestart := false, crs := l.crs && !s.ins.perstN })
  let s := s.releaseHeld
  if !s.ins.perstN then s
  else
    let s := { s with ins := { s.ins with linkUp := true } }
    let s := if (s.inst 0).phase = .off then s.enable 0 else s
    let s := if byRestart then (s.notice 0 (noticeWord 0x03 s.mbx.restarts)).notice 0 s.readyWord else s
    s.take

/-- The stage that a boot shows next (R462): 4, 5 and 6 run side by side. -/
def State.toStage (s : State) (n : Nat) : State := (s.modLcy (fun l => { l with stage := n })).emitOut (.console "stage" n)

/-- One of stages 4, 5 and 6 ends; stage 7 follows all three. -/
def State.sideDone (s : State) (n : Nat) : State :=
  let s := s.modLcy (fun l => { l with ended := linsert l.ended n })
  if [4, 5, 6].all s.lcy.ended.contains then s.toStage 7 else s

/-- A stage may end now. -/
def State.stageDue (s : State) (n : Nat) : Bool :=
  s.lcy.powerGood && if n = 4 ∨ n = 5 ∨ n = 6 then s.lcy.stage = 4 && !s.lcy.ended.contains n else s.lcy.stage == n

/-- BOOT_STAGE_COMPLETE. -/
def execBootStageComplete (t : Nat) (r : StageResult) (s : State) : Out :=
  let s := s.tick t
  if !s.stageDue r.stage || s.mbx.state == .serving then .next s
  else match r.stage with
    | 1 => .next (((List.range 12).foldl (fun s i => s.leaveReset (96 + i)) s).toStage 2)
    | 2 => .next ((s.stageFuses r.fuses).toStage 3)
    | 3 =>
      if s.lifecycle = 0 then .next (s.bootStop 1)
      else if r.trngOk then .next ((s.stageKeys r.burnt).toStage 4)
      else if s.now < s.lcy.bootStart + 800000000 then .next s
      else .next (s.bootStop 5)
    | 4 => (match s.stageFlash r with
      | .error c => .next (s.bootStop c)
      | .ok s' => .next (s'.sideDone 4))
    | 5 => if r.ddrOk then .next ((s.stageMemory r.extMib).sideDone 5) else .next (s.bootStop 6)
    | 6 => .next ((s.stageLinks r.links).sideDone 6)
    | 7 => .next ((if s.lcy.warm then s.stageWarm r else s.stageFrenal r).toStage 8)
    | 8 => .next s.hostService
    | _ => .next s

/-! ### The firmware image as bytes (Table 19-5) -/

/-- An image as R469 sees it, from its bytes. -/
def imageOf (b : List Byte) : Image :=
  let slots : BitVec 16 := BitVec.ofNat 16 (beNat (slice b 6 2))
  let body := beNat (slice b 16 4)
  let ks := [0, 1, 2, 3].filter slots.getLsbD
  let layoutOk := slice b 0 5 == [0x46, 0x52, 0x4E, 0x33, 1] && decide (beNat (slice b 5 1) ≤ 64) && decide (slots.toNat < 16) &&
    (slice b 20 44).all (· == 0) && b.length == 64 + body + 3860 * ks.length && decide (b.length ≤ 8 * 2 ^ 20)
  let at_ (k : Nat) : Nat := 64 + body + 3860 * (ks.filter (· < k)).length
  let msg := b.take (64 + body)
  let sigs (k : Nat) : Bool :=
    Config.ecVerify (slice b (at_ k) 64) msg (slice b (at_ k + 1376) 64) &&
      Config.pqVerify (slice b (at_ k + 64) 1312) msg (slice b (at_ k + 1440) 2420)
  let hash (k : Nat) : List Word :=
    let h := Config.sha256 (slice b (at_ k) 1376)
    (List.range 8).map (fun i => wd (beNat (slice h (4 * i) 4)))
  { layoutOk, rollback := beNat (slice b 5 1), slots, version := wd (beNat (slice b 8 4)), casteSet := wd (beNat (slice b 12 4))
    hashes := ks.map (fun k => (k, hash k)), sigOk := ks.filter sigs }

/-! ### Lifecycle commands (Table 19-11, R473, R474, R479) -/

/-- GLB_BOOT_STATUS (Table 19-10). -/
def State.bootStatus (s : State) : Nat :=
  let l := s.lcy
  let last := match l.lastReset with | .powerOn => 0 | .cold => 1 | .warm => 2
  l.stage * 2 ^ 28 + l.fail * 2 ^ 24 + bitsOf l.slotsDisabled * 2 ^ 20 + l.slot * 2 ^ 18 + l.bank * 2 ^ 17 + b2n l.fallback * 2 ^ 16 +
    min 255 l.marginal.length * 2 ^ 8 + b2n l.trimMismatch * 2 ^ 7 + l.dukCopy * 2 ^ 6 + last * 2 ^ 4 + bitsOf l.dbgDisabled * 2 ^ 2

/-- VERSION of a bank's image, or 0 when its layout is invalid. -/
def State.bankVersion (s : State) (b : Nat) : Word :=
  let i := tget s.lcy.banks b {}
  if i.layoutOk then i.version else 0

/-- LCY_STATUS. -/
def lcyStatusDef : CmdDef :=
  { code := 0x0D41, argc := 0, tenant := false, always := true }

/-- LCY_STATUS's work. -/
def lcyStatusWork (_tag : Nat) (_io : HostIo) (_a : List Word) (s : State) : Answer :=
    .ok [ wd s.bootStatus, wd (s.lifecycle + s.rollbackStep * 2 ^ 8 + s.zcount * 2 ^ 16 + s.enrols * 2 ^ 24)
        , s.fuse 5 &&& 0x30F, s.bankVersion 0, s.bankVersion 1, wd s.preferred ] s

def execLcyStatus (t tag : Nat) (io : HostIo) (s : State) : Out :=
  .next (s.run lcyStatusDef (lcyStatusWork tag io) t tag io)

/-- The step's three LIFECYCLE bits (Table 19-2). -/
def lifeBits (k : Nat) : Word := stepBit k ||| stepBit (k + 8) ||| stepBit (k + 16)

/-- LCY_ADVANCE. -/
def lcyAdvanceDef : CmdDef :=
  { code := 0x0D42, argc := 1, tenant := false }

/-- LCY_ADVANCE's work. -/
def lcyAdvanceWork (_tag : Nat) (io : HostIo) (a : List Word) (s : State) : Answer :=
    let l := s.lifecycle
    if (arg a 1).toNat ≠ (if l = 1 then 0x4445504C else 0x44434F4D) then .status 0x0D41 s
    else if (l ≠ 1 ∧ l ≠ 2) ∨ (l = 1 ∧ (s.sec.bat.bkr.isNone ∨ s.cfg.casteMin 4 < 2)) then .status 0x0D42 s
    else
      let (ok, s) := s.burn 0 (lifeBits (l + 1)) io.burnt
      if !ok then .status 0x0D43 s
      else if l = 1 then .ok [] s
      else .silent (s.zeroise 3)

/-- LCY_ADVANCE; DECOMMISSIONED starts zeroisation, whose restart completes the command (R474). -/
def execLcyAdvance (t tag : Nat) (io : HostIo) (s : State) : Out :=
  .next (s.run lcyAdvanceDef (lcyAdvanceWork tag io) t tag io)

/-- LCY_FUSE_READ. -/
def lcyFuseReadDef : CmdDef :=
  { code := 0x0D43, argc := 1, tenant := false, masks := [0x1FF], always := true }

/-- LCY_FUSE_READ's work. -/
def lcyFuseReadWork (_tag : Nat) (_io : HostIo) (a : List Word) (s : State) : Answer :=
    let w := fld (arg a 1) 8 0
    let v := if fuseClass w == .key then 0 else s.fuse w
    let r : FuseReads := if fuseClass w == .key then {} else tget s.lcy.bootReads w { normal := v, low := v, high := v }
    .ok [r.normal, r.low, r.high, v, wd (b2n (s.lcy.marginal.contains w))] s

/-- LCY_FUSE_READ: words 64 to 79 read 0 (R537). -/
def execLcyFuseRead (t tag : Nat) (io : HostIo) (s : State) : Out :=
  .next (s.run lcyFuseReadDef (lcyFuseReadWork tag io) t tag io)

/-- A bank's image is erased or written. -/
def State.setBank (s : State) (b : Nat) (i : Option Image) : State :=
  s.modLcy (fun l => { l with banks := match i with | some x => tset l.banks b x | none => terase l.banks b })

def fwWriteDef : CmdDef := { code := 0x0D44, argc := 3, tenant := false }

/-- LCY_FW_WRITE's work. -/
def lcyFwWriteWork (tag : Nat) (_io : HostIo) (a : List Word) (s : State) : Answer :=
    let len := (arg a 3).toNat
    if len < 3924 ∨ 8 * 2 ^ 20 < len then .status 0x0012 s
    else
      let (k, s) := s.defer fwWriteDef tag a
      .reply 0x0001 [wd k] (s.setBank (1 - s.lcy.bank) none)

/-- LCY_FW_WRITE: the bank not booted is erased, and the work goes on (R51). -/
def execLcyFwWrite (t tag : Nat) (io : HostIo) (s : State) : Out :=
  .next (s.run fwWriteDef (lcyFwWriteWork tag io) t tag io)

/-- The work of LCY_FW_WRITE: status and result words. -/
def State.fwWrite (tag : Nat) (a : List Word) (io : HostIo) (s : State) : Nat × List Word × State :=
  let b := 1 - s.lcy.bank
  let len := (arg a 3).toNat
  match s.hostRead tag (ofTwo (arg a 1) (arg a 2)) len 3 io.dataFault with
  | .error (st, s) => (st, [], s)
  | .ok s =>
    if io.flashBad then (0x0D45, [], s)
    else
      let i := imageOf ((io.data ++ List.replicate len 0).take len)
      if (s.accepts i).isNone then (0x0D44, [], s) else (0, [wd b], s.setBank b (some i))

/-- LCY_FW_SELECT. -/
def lcyFwSelectDef : CmdDef :=
  { code := 0x0D45, argc := 1, tenant := false, masks := [1] }

/-- LCY_FW_SELECT's work. -/
def lcyFwSelectWork (_tag : Nat) (io : HostIo) (a : List Word) (s : State) : Answer :=
    let b := fld (arg a 1) 0 0
    if (s.accepts (tget s.lcy.banks b {})).isNone then .status 0x0D44 s
    else
      let (copy, serial) := match tfind s.lcy.desc 0, tfind s.lcy.desc 1 with
        | some x, some y => if x.dserial < y.dserial then (0, y.dserial) else (1, x.dserial)
        | some x, none => (1, x.dserial)
        | none, some y => (0, y.dserial)
        | none, none => (0, 0)
      if io.flashBad then .status 0x0D45 (s.modLcy (fun l => { l with desc := terase l.desc copy }))
      else .ok [] (s.modLcy (fun l => { l with desc := tset l.desc copy { dserial := (serial + 1) % 2 ^ 32, bank := b } }))

/-- LCY_FW_SELECT: the descriptor copy with the lower DSERIAL is written with the higher one plus 1. -/
def execLcyFwSelect (t tag : Nat) (io : HostIo) (s : State) : Out :=
  .next (s.run lcyFwSelectDef (lcyFwSelectWork tag io) t tag io)

/-- Bits of thermometer steps from lo + 1 to hi that lie in the word whose first step is base + 1. -/
def stepBits (base lo hi : Nat) : Word :=
  (List.range 32).foldl (fun w i => if lo < base + i + 1 ∧ base + i + 1 ≤ hi then w ||| ((1 : Word) <<< i) else w) 0

/-- LCY_ROLLBACK_ADVANCE. -/
def lcyRollbackAdvanceDef : CmdDef :=
  { code := 0x0D46, argc := 1, tenant := false, masks := [0x7F] }

/-- LCY_ROLLBACK_ADVANCE's work. -/
def lcyRollbackAdvanceWork (_tag : Nat) (io : HostIo) (a : List Word) (s : State) : Answer :=
    let n := fld (arg a 1) 6 0
    let cur := s.rollbackStep
    if n ≤ cur ∨ s.lcy.rollback < n then .status 0x0D46 s
    else
      let lo := stepBits 0 cur n
      let hi := stepBits 32 cur n
      let (okLo, s) := if lo = 0 then (true, s) else s.burn 1 lo io.burnt
      let (okHi, s) := if hi = 0 then (true, s) else s.burn 2 hi io.burnt
      .status (if okLo && okHi then 0 else 0x0D43) s

def execLcyRollbackAdvance (t tag : Nat) (io : HostIo) (s : State) : Out :=
  .next (s.run lcyRollbackAdvanceDef (lcyRollbackAdvanceWork tag io) t tag io)

/-- LCY_SLOT_REVOKE. -/
def lcySlotRevokeDef : CmdDef :=
  { code := 0x0D47, argc := 1, tenant := false, masks := [0x30F] }

/-- LCY_SLOT_REVOKE's work. -/
def lcySlotRevokeWork (_tag : Nat) (io : HostIo) (a : List Word) (s : State) : Answer :=
    let w := arg a 1
    let fw := [0, 1, 2, 3].filter s.fwUsable
    let db := [0, 1].filter s.debugUsable
    let lastOf (l : List Nat) (base : Nat) : Bool := !l.isEmpty && l.all (fun k => w.getLsbD (base + k))
    if w.getLsbD s.lcy.slot || lastOf fw 0 || lastOf db 8 then .status 0x0D47 s
    else if w = 0 then .ok [] s
    else
      let (ok, s) := s.burn 5 w io.burnt
      .status (if ok then 0 else 0x0D43) s

def execLcySlotRevoke (t tag : Nat) (io : HostIo) (s : State) : Out :=
  .next (s.run lcySlotRevokeDef (lcySlotRevokeWork tag io) t tag io)

/-- LCY_RESET. -/
def lcyResetDef : CmdDef :=
  { code := 0x0D48, argc := 1, tenant := false, masks := [0xFFFFFF01] }

/-- LCY_RESET's work. -/
def lcyResetWork (_tag : Nat) (_io : HostIo) (a : List Word) (s : State) : Answer :=
    if fld (arg a 1) 31 8 ≠ 0x575253 then .status 0x0D41 s
    else if bit (arg a 1) 0 then .silent (s.coldReset .cold)
    else .silent (s.warmStart.modMbx (fun m => { m with state := .restarting }))

/-- LCY_RESET: cold, or the start of a warm reset, which takes the steward with it (R477). -/
def execLcyReset (t tag : Nat) (io : HostIo) (s : State) : Out :=
  .next (s.run lcyResetDef (lcyResetWork tag io) t tag io)

end Sys2Proof.Machine
end

