-- ==== Sys2Proof/Machine/Pending.lean ====
section
/-! DEFINITION. The work of commands that replied ST_PENDING (R51), and block commands with an unknown code (R543). -/

namespace Sys2Proof.Machine

/-- A ticket's work ends with an answer; a commit that must wait for the boundary waits on (R85). -/
def State.ticketAnswer (s : State) (k : Nat) : Answer → State
  | .reply st rs s' => s'.ticketDone k st rs
  | .hold .. => s
  | .silent s' => s'

/-- The unit that a TEST_REQUEST names. -/
def PendingCmd.unit (c : PendingCmd) : Nat × Nat := (fld (arg c.args 1) 2 0, fld (arg c.args 1) 25 16)

/-- A cancelled TEST_REQUEST whose test has not begun ends (R440); the others end with their test or their drain. -/
def State.testPending (s : State) (c : PendingCmd) : State :=
  let u := c.unit
  match tfind s.test.reqs (testKey u.1 u.2) with
  | some r => if c.cancelled && !r.running then s.endReq u.1 u.2 0x001B none else s
  | none => s

/-- The work of a ticket whose command has not been cancelled. -/
def State.ticketWork (s : State) (c : PendingCmd) (io : HostIo) : Answer :=
  let tag := c.tag
  let a := c.args
  if c.code = 0x0202 then s.commitWork (arg a 1).toNat (bit (arg a 2) 0)
  else if c.code = 0x0601 then s.tableLoad tag a io
  else if c.code = 0x0603 then s.denyDelta tag a io
  else if c.code = 0x0703 then s.journalRead tag a io
  else if c.code = 0x0706 then s.dataStage tag a io
  else if c.code = 0x0905 then s.promptLoad tag a io
  else if c.code = 0x0A03 then s.ruleWrite tag a io
  else if c.code = 0x0D07 then s.reenrol io
  else
    let r := s.fwWrite tag a io
    .reply r.1 r.2.1 r.2.2

/-- PENDING_DONE (R51): the work of a ticket ends; a cancelled one ends with ST_CANCELLED and no effect (R57). -/
def execPendingDone (t ticket : Nat) (io : HostIo) (s : State) : Out :=
  let s := s.tick t
  match tfind s.mbx.tickets ticket with
  | none => .next s
  | some c =>
    if s.mbx.state ≠ .serving then .next s
    else if c.code = 0x0CC5 then .next (s.islResetPending ticket c)
    else if c.code = 0x0C01 then .next (s.testPending c)
    else if c.cancelled then .next (s.ticketDone ticket 0x001B [])
    else .next (s.ticketAnswer ticket (s.ticketWork c io))

/-- Number of the block commands of each half area, whose codes run without a gap from the area's first. -/
def areaCommands (area : Nat) : Nat × Nat × Nat :=
  [(0, 0, 0), (9, 0, 0), (4, 0, 0), (11, 0x40, 5), (9, 0, 0), (7, 0, 0), (8, 0xC0, 6), (9, 0, 0), (8, 0, 0), (8, 0, 0), (7, 0, 0)
  , (3, 0, 0), (3, 0xC0, 5), (8, 0x40, 8), (4, 0, 0)].getD area (0, 0, 0)

/-- The code is a block command's (R543, the chapters' command tables). -/
def blockCommand (code : Nat) : Bool :=
  let r := areaCommands (code / 256)
  let n := code % 256
  (decide (1 ≤ n) && decide (n ≤ r.1)) || (decide (r.2.1 < n) && decide (n ≤ r.2.1 + r.2.2))

/-- UNKNOWN_COMMAND (R543): steps 1 to 3 of Table 2-9. -/
def execUnknownCommand (t tag : Nat) (_io : HostIo) (s : State) : Out :=
  let s := s.tick t
  let b0 := (s.page tag).blk.getD 0 0
  let code := fld b0 31 16
  if blockCommand code || !s.ready tag code then .next s
  else match s.replay tag with
    | some s' => .next s'.take
    | none => .next ((s.complete tag (if fld b0 3 2 ≠ 0 then 0x0013 else 0x0010) []).take)

end Sys2Proof.Machine
end

