-- ==== Sys2Proof/Machine/Protect.lean ====
section
/-! DEFINITION. The memory commands and descriptor errors (13_memory.md). -/

namespace Sys2Proof.Machine

/-- MEM_MPU_MODE. -/
def memMpuModeDef : CmdDef :=
  { code := 0x0341, argc := 1, tenant := false, staged := true, masks := [0x107] }

/-- MEM_MPU_MODE's work. -/
def memMpuModeWork (tag : Nat) (_io : HostIo) (a : List Word) (s : State) : Answer :=
    let m := fld (arg a 1) 2 0
    if 5 < m then .status 0x0012 s else s.stage tag 0x0341 (.mpuMode m (bit (arg a 1) 8))

/-- MEM_MPU_MODE (R360). -/
def execMemMpuMode (t tag : Nat) (io : HostIo) (s : State) : Out :=
  .next (s.run memMpuModeDef (memMpuModeWork tag io) t tag io)

/-- A descriptor's words (Tables 13-3 to 13-5). -/
def regionOf (w0 w1 w2 : Word) : Region :=
  { base := fld w0 31 4, valid := bit w0 0, sizeLog2 := fld w1 31 26, tag := fld w1 25 16, matchTag := bit w1 15
    capst := bit w1 14, cacheable := bit w1 13, perm := BitVec.ofNat 12 (fld w1 11 0), srd := BitVec.ofNat 8 (fld w2 7 0) }

/-- The words of a descriptor. -/
def Region.words (r : Region) : List Word :=
  [ wd (r.base * 16 + b2n r.valid)
  , wd (r.sizeLog2 * 2 ^ 26 + r.tag * 2 ^ 16 + b2n r.matchTag * 2 ^ 15 + b2n r.capst * 2 ^ 14 + b2n r.cacheable * 2 ^ 13 + r.perm.toNat)
  , wd r.srd.toNat, 0 ]

/-- R344: attributes that break a rule. -/
def Region.attrBad (r : Region) (mpu : Nat) : Bool :=
  let anyOf (i : Nat) : Bool := (List.range 4).any (fun l => r.perm.getLsbD (3 * l + i))
  let mem := mpu ≤ 1
  (!mem && (anyOf 2 || r.capst || r.cacheable)) || (r.cacheable && anyOf 1)

/-- MEM_MPU_REGION. -/
def memMpuRegionDef : CmdDef :=
  { code := 0x0342, argc := 5, tenant := false, staged := true, masks := [0x1F07, 0xFFFFFFF1, 0xFFFFEFFF, 0xFF, 0] }

/-- MEM_MPU_REGION's work. -/
def memMpuRegionWork (tag : Nat) (_io : HostIo) (a : List Word) (s : State) : Answer :=
    let m := fld (arg a 1) 2 0
    let n := fld (arg a 1) 12 8
    let r := regionOf (arg a 2) (arg a 3) (arg a 4)
    let (lo, hi) := allottable s.mem.extMib m
    if 5 < m then .status 0x0012 s
    else if 23 < n || decide (r.base * 256 < lo) || decide (hi < r.base * 256 + 2 ^ r.sizeLog2 - 1) then .status 0x0341 s
    else if r.attrBad m then .status 0x0342 s
    else s.stage tag 0x0342 (.mpuRegion m n r)

/-- MEM_MPU_REGION (R344). -/
def execMemMpuRegion (t tag : Nat) (io : HostIo) (s : State) : Out :=
  .next (s.run memMpuRegionDef (memMpuRegionWork tag io) t tag io)

/-- MEM_MPU_READ. -/
def memMpuReadDef : CmdDef :=
  { code := 0x0343, argc := 1, tenant := false, masks := [0x1F07] }

/-- MEM_MPU_READ's work. -/
def memMpuReadWork (tag : Nat) (_io : HostIo) (a : List Word) (s : State) : Answer :=
    let m := fld (arg a 1) 2 0
    let n := fld (arg a 1) 12 8
    let staged := match s.openMan tag with
      | some (_, x) => x.entries.any (fun e => match e.op with
        | .mpuRegion i j _ => i == m && j == n
        | .mpuMode i _ => i == m
        | _ => false)
      | none => false
    if 5 < m then .status 0x0012 s
    else .ok ((s.region s.cfg m n).words ++ [wd (b2n (s.cfg.layered m) + 2 * b2n staged), wd (tget s.mem.overlap m 0)]) s

/-- MEM_MPU_READ. -/
def execMemMpuRead (t tag : Nat) (io : HostIo) (s : State) : Out :=
  .next (s.run memMpuReadDef (memMpuReadWork tag io) t tag io)

/-- MEM_MPU_FAULT_GET. -/
def memMpuFaultGetDef : CmdDef :=
  { code := 0x0344, argc := 1, tenant := true }

/-- MEM_MPU_FAULT_GET's work. -/
def memMpuFaultGetWork (tag : Nat) (_io : HostIo) (a : List Word) (s : State) : Answer :=
    match s.mem.refusals.find? (fun r => r.seq == (arg a 1).toNat && (isPf tag || r.tag == tag)) with
    | none => .status 0x0344 s
    | some r => .ok (leWords r.bytes) s

/-- MEM_MPU_FAULT_GET (R351). -/
def execMemMpuFaultGet (t tag : Nat) (io : HostIo) (s : State) : Out :=
  .next (s.run memMpuFaultGetDef (memMpuFaultGetWork tag io) t tag io)

/-- MEM_MAP. -/
def memMapDef : CmdDef :=
  { code := 0x0345, argc := 1, tenant := true, masks := [7] }

/-- MEM_MAP's work. -/
def memMapWork (_tag : Nat) (_io : HostIo) (a : List Word) (s : State) : Answer :=
    let m := fld (arg a 1) 2 0
    let (lo, hi) := allottable s.mem.extMib m
    if 5 < m then .status 0x0012 s
    else .ok (twoWords lo ++ twoWords hi ++ [wd s.mem.extMib]) s

/-- MEM_MAP (R342). -/
def execMemMap (t tag : Nat) (io : HostIo) (s : State) : Out :=
  .next (s.run memMapDef (memMapWork tag io) t tag io)

/-- An uncorrectable descriptor error: the instance refuses every access until the steward has rewritten its
descriptors, 1 ms later (R362). -/
def execMpuEcc (t mpu : Nat) (s : State) : Out :=
  let s := s.tick t
  if 5 < mpu then .next s
  else .next (({ s with mem := { s.mem with eccBad := tset s.mem.eccBad mpu (s.now + 1000000) } }).raise
    0x0303 (srcMpu mpu) 0 tagDevice mpu)

end Sys2Proof.Machine
end

