-- ==== Sys2Proof/Machine/Dispatch.lean ====
section
/-! DEFINITION. The meaning of each command: one arm per row of spec/opcode_table.json. -/

namespace Sys2Proof.Machine

/-- The effect of a command on everything but the queue. -/
def exec (i : Instr) (s : State) : Host.Outcome State Fault Refusal :=
  match i with
  | .mbxH2sWrite t tag word => Sys2Proof.Machine.execMbxH2sWrite t tag word s
  | .wPing t tag => Sys2Proof.Machine.execWPing t tag s
  | .wCancel t tag => Sys2Proof.Machine.execWCancel t tag s
  | .badWord t tag => Sys2Proof.Machine.execBadWord t tag s
  | .mbxBlkWrite t tag n v => Sys2Proof.Machine.execMbxBlkWrite t tag n v s
  | .go t tag => Sys2Proof.Machine.execGo t tag s
  | .rateToken t tag => Sys2Proof.Machine.execRateToken t tag s
  | .pendingDone t ticket io => Sys2Proof.Machine.execPendingDone t ticket io s
  | .stewardReset t => Sys2Proof.Machine.execStewardReset t s
  | .stewardRestartDone t => Sys2Proof.Machine.execStewardRestartDone t s
  | .genIdentify t tag io => Sys2Proof.Machine.execGenIdentify t tag io s
  | .genVersion t tag io => Sys2Proof.Machine.execGenVersion t tag io s
  | .genPing t tag io => Sys2Proof.Machine.execGenPing t tag io s
  | .genParamGet t tag io => Sys2Proof.Machine.execGenParamGet t tag io s
  | .genParamSet t tag io => Sys2Proof.Machine.execGenParamSet t tag io s
  | .genParamInfo t tag io => Sys2Proof.Machine.execGenParamInfo t tag io s
  | .genParamNext t tag io => Sys2Proof.Machine.execGenParamNext t tag io s
  | .genGpioSet t tag io => Sys2Proof.Machine.execGenGpioSet t tag io s
  | .genGpioGet t tag io => Sys2Proof.Machine.execGenGpioGet t tag io s
  | .manBegin t tag io => Sys2Proof.Machine.execManBegin t tag io s
  | .manCommit t tag io => Sys2Proof.Machine.execManCommit t tag io s
  | .manRollback t tag io => Sys2Proof.Machine.execManRollback t tag io s
  | .manStatus t tag io => Sys2Proof.Machine.execManStatus t tag io s
  | .manOpenTimeout t tag => Sys2Proof.Machine.execManOpenTimeout t tag s
  | .freezePoint t => Sys2Proof.Machine.execFreezePoint t s
  | .deferredImmediateCommit t tag => Sys2Proof.Machine.execDeferredImmediateCommit t tag s
  | .manFlushEnd t man => Sys2Proof.Machine.execManFlushEnd t man s
  | .epochBoundary t => Sys2Proof.Machine.execEpochBoundary t s
  | .booksCheck t => Sys2Proof.Machine.execBooksCheck t s
  | .qdbSqTailWrite t tag q v => Sys2Proof.Machine.execQdbSqTailWrite t tag q v s
  | .qdbCqHeadWrite t tag q v => Sys2Proof.Machine.execQdbCqHeadWrite t tag q v s
  | .qdbEqHeadWrite t tag v => Sys2Proof.Machine.execQdbEqHeadWrite t tag v s
  | .sqEntryFetch t tag q io => Sys2Proof.Machine.execSqEntryFetch t tag q io s
  | .cqCoalesceTimeout t tag q => Sys2Proof.Machine.execCqCoalesceTimeout t tag q s
  | .msixVectorUnmask t fn v => Sys2Proof.Machine.execMsixVectorUnmask t fn v s
  | .tlbFill t tag iova walk => Sys2Proof.Machine.execTlbFill t tag iova walk s
  | .insQpSetup t tag io => Sys2Proof.Machine.execInsQpSetup t tag io s
  | .insQpReset t tag io => Sys2Proof.Machine.execInsQpReset t tag io s
  | .insQpStatus t tag io => Sys2Proof.Machine.execInsQpStatus t tag io s
  | .insEqSetup t tag io => Sys2Proof.Machine.execInsEqSetup t tag io s
  | .insXlateSet t tag io => Sys2Proof.Machine.execInsXlateSet t tag io s
  | .insXlateInval t tag io => Sys2Proof.Machine.execInsXlateInval t tag io s
  | .insFaultGet t tag io => Sys2Proof.Machine.execInsFaultGet t tag io s
  | .insSliceCreate t tag io => Sys2Proof.Machine.execInsSliceCreate t tag io s
  | .insSliceDestroy t tag io => Sys2Proof.Machine.execInsSliceDestroy t tag io s
  | .insStatus t tag io => Sys2Proof.Machine.execInsStatus t tag io s
  | .insRightsSet t tag io => Sys2Proof.Machine.execInsRightsSet t tag io s
  | .functionLevelReset t fn => Sys2Proof.Machine.execFunctionLevelReset t fn s
  | .vfEnableChange t enable n => Sys2Proof.Machine.execVfEnableChange t enable n s
  | .pcieLinkDown t => Sys2Proof.Machine.execPcieLinkDown t s
  | .pasidEnableClear t => Sys2Proof.Machine.execPasidEnableClear t s
  | .busMasterEnableChange t fn level => Sys2Proof.Machine.execBusMasterEnableChange t fn level s
  | .disableRevoke t tag => Sys2Proof.Machine.execDisableRevoke t tag s
  | .perstNFall t => Sys2Proof.Machine.execPerstNFall t s
  | .perstNRise t => Sys2Proof.Machine.execPerstNRise t s
  | .pfPageReady t => Sys2Proof.Machine.execPfPageReady t s
  | .memMpuMode t tag io => Sys2Proof.Machine.execMemMpuMode t tag io s
  | .memMpuRegion t tag io => Sys2Proof.Machine.execMemMpuRegion t tag io s
  | .memMpuRead t tag io => Sys2Proof.Machine.execMemMpuRead t tag io s
  | .memMpuFaultGet t tag io => Sys2Proof.Machine.execMemMpuFaultGet t tag io s
  | .memMap t tag io => Sys2Proof.Machine.execMemMap t tag io s
  | .capInfo t tag io => Sys2Proof.Machine.execCapInfo t tag io s
  | .capDerive t tag io => Sys2Proof.Machine.execCapDerive t tag io s
  | .capRevoke t tag io => Sys2Proof.Machine.execCapRevoke t tag io s
  | .generationBroadcastAck t unit => Sys2Proof.Machine.execGenerationBroadcastAck t unit s
  | .capRelease t tag io => Sys2Proof.Machine.execCapRelease t tag io s
  | .capGrant t tag io => Sys2Proof.Machine.execCapGrant t tag io s
  | .capList t tag io => Sys2Proof.Machine.execCapList t tag io s
  | .capGateOpen t tag io => Sys2Proof.Machine.execCapGateOpen t tag io s
  | .capGateInfo t tag io => Sys2Proof.Machine.execCapGateInfo t tag io s
  | .capFaultGet t tag io => Sys2Proof.Machine.execCapFaultGet t tag io s
  | .capabilityStore t cell auth off src => Sys2Proof.Machine.execCapabilityStore t cell auth off src s
  | .capabilityLoad t cell auth off dst => Sys2Proof.Machine.execCapabilityLoad t cell auth off dst s
  | .registerDerive t cell dst src rights off len level => Sys2Proof.Machine.execRegisterDerive t cell dst src rights off len level s
  | .callGateEntry t cell reg ret => Sys2Proof.Machine.execCallGateEntry t cell reg ret s
  | .callGateReturn t cell reg => Sys2Proof.Machine.execCallGateReturn t cell reg s
  | .hubRequestReturn t cell body io => Sys2Proof.Machine.execHubRequestReturn t cell body io s
  | .cellTrap t cell cause info io => Sys2Proof.Machine.execCellTrap t cell cause info io s
  | .objectTableEcc t obj => Sys2Proof.Machine.execObjectTableEcc t obj s
  | .turnStart t seg mismatch => Sys2Proof.Machine.execTurnStart t seg mismatch s
  | .turnFailed t seg => Sys2Proof.Machine.execTurnFailed t seg s
  | .transmissionDropped t seg raw => Sys2Proof.Machine.execTransmissionDropped t seg raw s
  | .tapReceived t seg f => Sys2Proof.Machine.execTapReceived t seg f s
  | .contReceived t seg f => Sys2Proof.Machine.execContReceived t seg f s
  | .apduRReceived t seg f => Sys2Proof.Machine.execApduRReceived t seg f s
  | .echoRReceived t seg f => Sys2Proof.Machine.execEchoRReceived t seg f s
  | .ackReceived t seg addr seq => Sys2Proof.Machine.execAckReceived t seg addr seq s
  | .nilReceived t seg addr bits => Sys2Proof.Machine.execNilReceived t seg addr bits s
  | .hereReceived t seg slot f => Sys2Proof.Machine.execHereReceived t seg slot f s
  | .hereGarble t seg slot => Sys2Proof.Machine.execHereGarble t seg slot s
  | .rollcallCycle t seg => Sys2Proof.Machine.execRollcallCycle t seg s
  | .barcodeTransferTimeout t lane => Sys2Proof.Machine.execBarcodeTransferTimeout t lane s
  | .emgFilterAssert t => Sys2Proof.Machine.execEmgFilterAssert t s
  | .freeExitRepeat t => Sys2Proof.Machine.execFreeExitRepeat t s
  | .emgFilterRelease t => Sys2Proof.Machine.execEmgFilterRelease t s
  | .freeExitClearRepeat t => Sys2Proof.Machine.execFreeExitClearRepeat t s
  | .apduCommandQueue t lane kind apdu => Sys2Proof.Machine.execApduCommandQueue t lane kind apdu s
  | .exchangeTimeout t lane => Sys2Proof.Machine.execExchangeTimeout t lane s
  | .laneBind t tag io => Sys2Proof.Machine.execLaneBind t tag io s
  | .laneUnbind t tag io => Sys2Proof.Machine.execLaneUnbind t tag io s
  | .laneStatus t tag io => Sys2Proof.Machine.execLaneStatus t tag io s
  | .laneSegStatus t tag io => Sys2Proof.Machine.execLaneSegStatus t tag io s
  | .laneSegEnable t tag io => Sys2Proof.Machine.execLaneSegEnable t tag io s
  | .laneRollcall t tag io => Sys2Proof.Machine.execLaneRollcall t tag io s
  | .laneForget t tag io => Sys2Proof.Machine.execLaneForget t tag io s
  | .placement t work => Sys2Proof.Machine.execPlacement t work s
  | .placementRetry t lane => Sys2Proof.Machine.execPlacementRetry t lane s
  | .sessionBudgetExpired t lane => Sys2Proof.Machine.execSessionBudgetExpired t lane s
  | .denylistExactSearch t lane => Sys2Proof.Machine.execDenylistExactSearch t lane s
  | .barcodeVerify t lane => Sys2Proof.Machine.execBarcodeVerify t lane s
  | .journalSeal t lane cell io => Sys2Proof.Machine.execJournalSeal t lane cell io s
  | .usedTicketPurge t tag => Sys2Proof.Machine.execUsedTicketPurge t tag s
  | .sealBudgetExpired t lane => Sys2Proof.Machine.execSealBudgetExpired t lane s
  | .cartAcceptTimeout t rec => Sys2Proof.Machine.execCartAcceptTimeout t rec s
  | .fareTableLoad t tag io => Sys2Proof.Machine.execFareTableLoad t tag io s
  | .fareKeyBind t tag io => Sys2Proof.Machine.execFareKeyBind t tag io s
  | .fareDenyDelta t tag io => Sys2Proof.Machine.execFareDenyDelta t tag io s
  | .fareDenySwap t tag io => Sys2Proof.Machine.execFareDenySwap t tag io s
  | .fareDenyStatus t tag io => Sys2Proof.Machine.execFareDenyStatus t tag io s
  | .fareDenyLoad t tag q io => Sys2Proof.Machine.execFareDenyLoad t tag q io s
  | .fareJournalRead t tag io => Sys2Proof.Machine.execFareJournalRead t tag io s
  | .fareJournalAck t tag io => Sys2Proof.Machine.execFareJournalAck t tag io s
  | .fareStatus t tag io => Sys2Proof.Machine.execFareStatus t tag io s
  | .jobRun t tag q io => Sys2Proof.Machine.execJobRun t tag q io s
  | .jobBoundary t cell last => Sys2Proof.Machine.execJobBoundary t cell last s
  | .scoreTick t => Sys2Proof.Machine.execScoreTick t s
  | .casteImageLoad t cell => Sys2Proof.Machine.execCasteImageLoad t cell s
  | .casteMoveDone t cell => Sys2Proof.Machine.execCasteMoveDone t cell s
  | .casteGrow t caste => Sys2Proof.Machine.execCasteGrow t caste s
  | .leaseExpired t lease => Sys2Proof.Machine.execLeaseExpired t lease s
  | .cellCheckDone t cell pass => Sys2Proof.Machine.execCellCheckDone t cell pass s
  | .clusterL2Error t island dir => Sys2Proof.Machine.execClusterL2Error t island dir s
  | .taskInputEvent t cell input sources => Sys2Proof.Machine.execTaskInputEvent t cell input sources s
  | .taskInputTake t cell input n => Sys2Proof.Machine.execTaskInputTake t cell input n s
  | .taskOvfClear t cell input => Sys2Proof.Machine.execTaskOvfClear t cell input s
  | .hotSpareSwitch t pair => Sys2Proof.Machine.execHotSpareSwitch t pair s
  | .droverReset t => Sys2Proof.Machine.execDroverReset t s
  | .drvCastePlan t tag io => Sys2Proof.Machine.execDrvCastePlan t tag io s
  | .drvCasteStatus t tag io => Sys2Proof.Machine.execDrvCasteStatus t tag io s
  | .drvCellStatus t tag io => Sys2Proof.Machine.execDrvCellStatus t tag io s
  | .drvCellQuarantine t tag io => Sys2Proof.Machine.execDrvCellQuarantine t tag io s
  | .drvCellReturn t tag io => Sys2Proof.Machine.execDrvCellReturn t tag io s
  | .drvSlotStatus t tag io => Sys2Proof.Machine.execDrvSlotStatus t tag io s
  | .cartInserted t slot => Sys2Proof.Machine.execCartInserted t slot s
  | .cartRemoved t slot => Sys2Proof.Machine.execCartRemoved t slot s
  | .cartInitStep t slot resp => Sys2Proof.Machine.execCartInitStep t slot resp s
  | .cartPowerCycleEnd t slot => Sys2Proof.Machine.execCartPowerCycleEnd t slot s
  | .cartBlockWrite t slot => Sys2Proof.Machine.execCartBlockWrite t slot s
  | .cartBlockDone t slot good => Sys2Proof.Machine.execCartBlockDone t slot good s
  | .cartBusyTimeout t slot => Sys2Proof.Machine.execCartBusyTimeout t slot s
  | .cartEraseDone t slot ok => Sys2Proof.Machine.execCartEraseDone t slot ok s
  | .cartBind t tag io => Sys2Proof.Machine.execCartBind t tag io s
  | .cartStatus t tag io => Sys2Proof.Machine.execCartStatus t tag io s
  | .cartJournalRead t tag io => Sys2Proof.Machine.execCartJournalRead t tag io s
  | .cartJournalMark t tag io => Sys2Proof.Machine.execCartJournalMark t tag io s
  | .cartDataList t tag io => Sys2Proof.Machine.execCartDataList t tag io s
  | .cartDataStage t tag io => Sys2Proof.Machine.execCartDataStage t tag io s
  | .cartFormat t tag io => Sys2Proof.Machine.execCartFormat t tag io s
  | .cartForceErase t tag io => Sys2Proof.Machine.execCartForceErase t tag io s
  | .cartEject t tag io => Sys2Proof.Machine.execCartEject t tag io s
  | .ptpSync t shadow m => Sys2Proof.Machine.execPtpSync t shadow m s
  | .ptpFollowUp t shadow m => Sys2Proof.Machine.execPtpFollowUp t shadow m s
  | .ptpAnnounce t shadow m => Sys2Proof.Machine.execPtpAnnounce t shadow m s
  | .ptpDelayResp t shadow m => Sys2Proof.Machine.execPtpDelayResp t shadow m s
  | .delayReqSend t shadow => Sys2Proof.Machine.execDelayReqSend t shadow s
  | .announceReceiptTimeout t shadow => Sys2Proof.Machine.execAnnounceReceiptTimeout t shadow s
  | .syncTimeout t shadow => Sys2Proof.Machine.execSyncTimeout t shadow s
  | .refusedRecheck t shadow => Sys2Proof.Machine.execRefusedRecheck t shadow s
  | .preferredRevert t => Sys2Proof.Machine.execPreferredRevert t s
  | .slewEnd t => Sys2Proof.Machine.execSlewEnd t s
  | .holdoverAlarm t => Sys2Proof.Machine.execHoldoverAlarm t s
  | .masterSyncSend t port => Sys2Proof.Machine.execMasterSyncSend t port s
  | .masterAnnounceSend t port => Sys2Proof.Machine.execMasterAnnounceSend t port s
  | .masterDelayReq t port m => Sys2Proof.Machine.execMasterDelayReq t port m s
  | .compareFire t unit => Sys2Proof.Machine.execCompareFire t unit s
  | .ppsOutRise t out => Sys2Proof.Machine.execPpsOutRise t out s
  | .ppsOutFall t out => Sys2Proof.Machine.execPpsOutFall t out s
  | .ppsInEdge t => Sys2Proof.Machine.execPpsInEdge t s
  | .timeStatus t tag io => Sys2Proof.Machine.execTimeStatus t tag io s
  | .timeShadowStatus t tag io => Sys2Proof.Machine.execTimeShadowStatus t tag io s
  | .timeDomainSet t tag io => Sys2Proof.Machine.execTimeDomainSet t tag io s
  | .timeMasterSet t tag io => Sys2Proof.Machine.execTimeMasterSet t tag io s
  | .timeJumpAccept t tag io => Sys2Proof.Machine.execTimeJumpAccept t tag io s
  | .timeCmpSet t tag io => Sys2Proof.Machine.execTimeCmpSet t tag io s
  | .timeCmpStatus t tag io => Sys2Proof.Machine.execTimeCmpStatus t tag io s
  | .timePpsInGet t tag io => Sys2Proof.Machine.execTimePpsInGet t tag io s
  | .timServedNsRead t tag => Sys2Proof.Machine.execTimServedNsRead t tag s
  | .rtpPacket t stream leg p => Sys2Proof.Machine.execRtpPacket t stream leg p s
  | .audioBlock t tdmIn => Sys2Proof.Machine.execAudioBlock t tdmIn s
  | .legStale t stream leg => Sys2Proof.Machine.execLegStale t stream leg s
  | .adaptiveMeasure t stream => Sys2Proof.Machine.execAdaptiveMeasure t stream s
  | .promptStart t key => Sys2Proof.Machine.execPromptStart t key s
  | .emergencyPromptLoop t => Sys2Proof.Machine.execEmergencyPromptLoop t s
  | .audRxSet t tag io => Sys2Proof.Machine.execAudRxSet t tag io s
  | .audTxSet t tag io => Sys2Proof.Machine.execAudTxSet t tag io s
  | .audBusSet t tag io => Sys2Proof.Machine.execAudBusSet t tag io s
  | .audTdmSet t tag io => Sys2Proof.Machine.execAudTdmSet t tag io s
  | .audPromptLoad t tag io => Sys2Proof.Machine.execAudPromptLoad t tag io s
  | .audPlay t tag io => Sys2Proof.Machine.execAudPlay t tag io s
  | .audStreamStatus t tag io => Sys2Proof.Machine.execAudStreamStatus t tag io s
  | .audStatus t tag io => Sys2Proof.Machine.execAudStatus t tag io s
  | .frameReceived t port frame fcsOk io => Sys2Proof.Machine.execFrameReceived t port frame fcsOk io s
  | .portTransmit t port io => Sys2Proof.Machine.execPortTransmit t port io s
  | .ethLinkDown t port io => Sys2Proof.Machine.execEthLinkDown t port io s
  | .ethLinkUp t port => Sys2Proof.Machine.execEthLinkUp t port s
  | .stewardNetRx t => Sys2Proof.Machine.execStewardNetRx t s
  | .netPortSet t tag io => Sys2Proof.Machine.execNetPortSet t tag io s
  | .netIfSet t tag io => Sys2Proof.Machine.execNetIfSet t tag io s
  | .netRuleWrite t tag io => Sys2Proof.Machine.execNetRuleWrite t tag io s
  | .netRuleRead t tag io => Sys2Proof.Machine.execNetRuleRead t tag io s
  | .netRuleHits t tag io => Sys2Proof.Machine.execNetRuleHits t tag io s
  | .netQueueSet t tag io => Sys2Proof.Machine.execNetQueueSet t tag io s
  | .netPortStatus t tag io => Sys2Proof.Machine.execNetPortStatus t tag io s
  | .netTx t q io => Sys2Proof.Machine.execNetTx t q io s
  | .netRxPost t q io => Sys2Proof.Machine.execNetRxPost t q io s
  | .cellLoad t cell auth off size => Sys2Proof.Machine.execCellLoad t cell auth off size s
  | .cellStore t cell auth off data => Sys2Proof.Machine.execCellStore t cell auth off data s
  | .storeDrain t cell => Sys2Proof.Machine.execStoreDrain t cell s
  | .fence t cell => Sys2Proof.Machine.execFence t cell s
  | .atomicOperation t cell auth off expect new => Sys2Proof.Machine.execAtomicOperation t cell auth off expect new s
  | .read t cell line => Sys2Proof.Machine.execRead t cell line s
  | .own t cell line => Sys2Proof.Machine.execOwn t cell line s
  | .writeback t cell line => Sys2Proof.Machine.execWriteback t cell line s
  | .dmaPiece t job => Sys2Proof.Machine.execDmaPiece t job s
  | .mpuEcc t mpu => Sys2Proof.Machine.execMpuEcc t mpu s
  | .loopPeriod t island margin => Sys2Proof.Machine.execLoopPeriod t island margin s
  | .timingError t cell again => Sys2Proof.Machine.execTimingError t cell again s
  | .thermalSample t island tj => Sys2Proof.Machine.execThermalSample t island tj s
  | .ldoFault t island => Sys2Proof.Machine.execLdoFault t island s
  | .clusterResetDone t island => Sys2Proof.Machine.execClusterResetDone t island s
  | .hubIslandReset t island => Sys2Proof.Machine.execHubIslandReset t island s
  | .isolationTimeout t island => Sys2Proof.Machine.execIsolationTimeout t island s
  | .integrityFrame t die dir f => Sys2Proof.Machine.execIntegrityFrame t die dir f s
  | .linkTrained t die good => Sys2Proof.Machine.execLinkTrained t die good s
  | .keyRollover t die dir => Sys2Proof.Machine.execKeyRollover t die dir s
  | .auditMarkerReturn t die => Sys2Proof.Machine.execAuditMarkerReturn t die s
  | .ddrOscRead t drifts => Sys2Proof.Machine.execDdrOscRead t drifts s
  | .loopFreezeExpiry t loop target => Sys2Proof.Machine.execLoopFreezeExpiry t loop target s
  | .islSelWrite t v => Sys2Proof.Machine.execIslSelWrite t v s
  | .islStatus t tag io => Sys2Proof.Machine.execIslStatus t tag io s
  | .islLinkStatus t tag io => Sys2Proof.Machine.execIslLinkStatus t tag io s
  | .islLoopFreeze t tag io => Sys2Proof.Machine.execIslLoopFreeze t tag io s
  | .islLoopStatus t tag io => Sys2Proof.Machine.execIslLoopStatus t tag io s
  | .islReset t tag io => Sys2Proof.Machine.execIslReset t tag io s
  | .detectorTrip t n value => Sys2Proof.Machine.execDetectorTrip t n value s
  | .tamperLoopSample t loop level => Sys2Proof.Machine.execTamperLoopSample t loop level s
  | .batterySwitch t onBattery => Sys2Proof.Machine.execBatterySwitch t onBattery s
  | .batteryLoss t => Sys2Proof.Machine.execBatteryLoss t s
  | .memIntegrityFail t cell => Sys2Proof.Machine.execMemIntegrityFail t cell s
  | .unlockChallenge t => Sys2Proof.Machine.execUnlockChallenge t s
  | .unlockResponse t sig => Sys2Proof.Machine.execUnlockResponse t sig s
  | .secStatus t tag io => Sys2Proof.Machine.execSecStatus t tag io s
  | .secLogRead t tag io => Sys2Proof.Machine.execSecLogRead t tag io s
  | .secCertGet t tag io => Sys2Proof.Machine.execSecCertGet t tag io s
  | .secKeyImport t tag io => Sys2Proof.Machine.execSecKeyImport t tag io s
  | .secLoopSet t tag io => Sys2Proof.Machine.execSecLoopSet t tag io s
  | .secZeroise t tag io => Sys2Proof.Machine.execSecZeroise t tag io s
  | .secReenrol t tag io => Sys2Proof.Machine.execSecReenrol t tag io s
  | .secDebugArm t tag io => Sys2Proof.Machine.execSecDebugArm t tag io s
  | .statEpoch t tag io => Sys2Proof.Machine.execStatEpoch t tag io s
  | .statRead t tag io => Sys2Proof.Machine.execStatRead t tag io s
  | .statBooks t tag io => Sys2Proof.Machine.execStatBooks t tag io s
  | .testLoan t cell sentinel => Sys2Proof.Machine.execTestLoan t cell sentinel s
  | .cellTestDone t cell pass => Sys2Proof.Machine.execCellTestDone t cell pass s
  | .l2TestDone t island pass => Sys2Proof.Machine.execL2TestDone t island pass s
  | .drainIdle t cls num => Sys2Proof.Machine.execDrainIdle t cls num s
  | .drainTimeout t cls num => Sys2Proof.Machine.execDrainTimeout t cls num s
  | .hubMarchLine t ok => Sys2Proof.Machine.execHubMarchLine t ok s
  | .dieLinkLaneTest t die dir lane errors => Sys2Proof.Machine.execDieLinkLaneTest t die dir lane errors s
  | .segmentEchoTest t seg => Sys2Proof.Machine.execSegmentEchoTest t seg s
  | .portTest t port eye => Sys2Proof.Machine.execPortTest t port eye s
  | .fuseReread t reads => Sys2Proof.Machine.execFuseReread t reads s
  | .forcedRequest t cls num => Sys2Proof.Machine.execForcedRequest t cls num s
  | .testOverdue t cls num => Sys2Proof.Machine.execTestOverdue t cls num s
  | .testRequest t tag io => Sys2Proof.Machine.execTestRequest t tag io s
  | .testResult t tag io => Sys2Proof.Machine.execTestResult t tag io s
  | .testCoverage t tag io => Sys2Proof.Machine.execTestCoverage t tag io s
  | .eventRecordWrite t io => Sys2Proof.Machine.execEventRecordWrite t io s
  | .coalesceWindowEnd t tag key io => Sys2Proof.Machine.execCoalesceWindowEnd t tag key io s
  | .irqHoldoffEnd t tag vec => Sys2Proof.Machine.execIrqHoldoffEnd t tag vec s
  | .evtMaskSet t tag io => Sys2Proof.Machine.execEvtMaskSet t tag io s
  | .evtMaskGet t tag io => Sys2Proof.Machine.execEvtMaskGet t tag io s
  | .evtSrcMask t tag io => Sys2Proof.Machine.execEvtSrcMask t tag io s
  | .evtStatus t tag io => Sys2Proof.Machine.execEvtStatus t tag io s
  | .powerGood t => Sys2Proof.Machine.execPowerGood t s
  | .powerGoodLost t cause => Sys2Proof.Machine.execPowerGoodLost t cause s
  | .emergencyPathStart t => Sys2Proof.Machine.execEmergencyPathStart t s
  | .bootStageComplete t r => Sys2Proof.Machine.execBootStageComplete t r s
  | .bootFailCrsEnd t => Sys2Proof.Machine.execBootFailCrsEnd t s
  | .segmentControllerStart t => Sys2Proof.Machine.execSegmentControllerStart t s
  | .warmReset t imageOk => Sys2Proof.Machine.execWarmReset t imageOk s
  | .lcyStatus t tag io => Sys2Proof.Machine.execLcyStatus t tag io s
  | .lcyAdvance t tag io => Sys2Proof.Machine.execLcyAdvance t tag io s
  | .lcyFuseRead t tag io => Sys2Proof.Machine.execLcyFuseRead t tag io s
  | .lcyFwWrite t tag io => Sys2Proof.Machine.execLcyFwWrite t tag io s
  | .lcyFwSelect t tag io => Sys2Proof.Machine.execLcyFwSelect t tag io s
  | .lcyRollbackAdvance t tag io => Sys2Proof.Machine.execLcyRollbackAdvance t tag io s
  | .lcySlotRevoke t tag io => Sys2Proof.Machine.execLcySlotRevoke t tag io s
  | .lcyReset t tag io => Sys2Proof.Machine.execLcyReset t tag io s
  | .registerWrite t reg v => Sys2Proof.Machine.execRegisterWrite t reg v s
  | .unknownCommand t tag io => Sys2Proof.Machine.execUnknownCommand t tag io s
  | .emgOpenNChange t level => Sys2Proof.Machine.execEmgOpenNChange t level s
  | .cardDetectChange t slot level => Sys2Proof.Machine.execCardDetectChange t slot level s
  | .l2CheckDone t island pass => Sys2Proof.Machine.execL2CheckDone t island pass s
  | .portLoopbackDone t port errors => Sys2Proof.Machine.execPortLoopbackDone t port errors s

end Sys2Proof.Machine
end

