-- ==== Sys2Proof/Safety.lean ====
section
/-! DEFINITION. What counts as a safe run: no step stops, by fault or by refusal. -/

namespace Sys2Proof
open Sys2Proof.Machine

/-- A step goes on. -/
def SafeStep (s : State) : Prop := ∃ s', step s = .next s'

end Sys2Proof
end

