-- ==== Sys2Proof/Certificates/Slice0/Obligations.lean ====
section
/-! DEFINITION. The statements. -/

namespace Sys2Proof.Say
open Sys2Proof.Machine

/-- A block command as its chapter's table gives it: the command's time, tag and host inputs, its code and class, what its
caller may name, whether a live-class command is staged for its arguments, what putting it off does, and its work. -/
structure BlockRow where
  t : Nat
  tag : Nat
  io : HostIo
  d : CmdDef
  own : List Word → Bool := fun _ => true
  needs : List Word → Bool := fun _ => false
  put : List Word → State → Except Nat State := fun _ s => .ok s
  work : List Word → State → Answer

/-- The block commands of the command tables of chapters 02 to 19. -/
def blockRow : Instr → Option BlockRow
  | .genIdentify t tag io => some { t, tag, io, d := genIdentifyDef, work := genIdentifyWork tag io }
  | .genVersion t tag io => some { t, tag, io, d := genVersionDef, work := genVersionWork tag io }
  | .genPing t tag io => some { t, tag, io, d := genPingDef, work := genPingWork tag io }
  | .genParamGet t tag io => some { t, tag, io, d := genParamGetDef, work := genParamGetWork tag io, own := selectorOwn tag false }
  | .genParamSet t tag io => some { t, tag, io, d := genParamSetDef, work := genParamSetWork tag io, own := selectorOwn tag true, needs := needsManifest }
  | .genParamInfo t tag io => some { t, tag, io, d := genParamInfoDef, work := genParamInfoWork tag io, own := selectorOwn tag false }
  | .genParamNext t tag io => some { t, tag, io, d := genParamNextDef, work := genParamNextWork tag io }
  | .genGpioSet t tag io => some { t, tag, io, d := genGpioSetDef, work := genGpioSetWork tag io }
  | .genGpioGet t tag io => some { t, tag, io, d := genGpioGetDef, work := genGpioGetWork tag io }
  | .manBegin t tag io => some { t, tag, io, d := manBeginDef, work := manBeginWork tag io }
  | .manCommit t tag io => some { t, tag, io, d := manCommitDef, work := manCommitWork tag io, put := manCommitPut tag }
  | .manRollback t tag io => some { t, tag, io, d := manRollbackDef, work := manRollbackWork tag io }
  | .manStatus t tag io => some { t, tag, io, d := manStatusDef, work := manStatusWork tag io }
  | .insQpSetup t tag io => some { t, tag, io, d := insQpSetupDef, work := insQpSetupWork tag io }
  | .insQpReset t tag io => some { t, tag, io, d := insQpResetDef, work := insQpResetWork tag io }
  | .insQpStatus t tag io => some { t, tag, io, d := insQpStatusDef, work := insQpStatusWork tag io }
  | .insEqSetup t tag io => some { t, tag, io, d := insEqSetupDef, work := insEqSetupWork tag io, own := insEqSetupOwn tag }
  | .insXlateSet t tag io => some { t, tag, io, d := insXlateSetDef, work := insXlateSetWork tag io }
  | .insXlateInval t tag io => some { t, tag, io, d := insXlateInvalDef, work := insXlateInvalWork tag io }
  | .insFaultGet t tag io => some { t, tag, io, d := insFaultGetDef, work := insFaultGetWork tag io }
  | .insSliceCreate t tag io => some { t, tag, io, d := insSliceCreateDef, work := insSliceCreateWork tag io }
  | .insSliceDestroy t tag io => some { t, tag, io, d := insSliceDestroyDef, work := insSliceDestroyWork tag io }
  | .insStatus t tag io => some { t, tag, io, d := insStatusDef, work := insStatusWork tag io, own := insStatusOwn tag }
  | .insRightsSet t tag io => some { t, tag, io, d := insRightsSetDef, work := insRightsSetWork tag io }
  | .memMpuMode t tag io => some { t, tag, io, d := memMpuModeDef, work := memMpuModeWork tag io }
  | .memMpuRegion t tag io => some { t, tag, io, d := memMpuRegionDef, work := memMpuRegionWork tag io }
  | .memMpuRead t tag io => some { t, tag, io, d := memMpuReadDef, work := memMpuReadWork tag io }
  | .memMpuFaultGet t tag io => some { t, tag, io, d := memMpuFaultGetDef, work := memMpuFaultGetWork tag io }
  | .memMap t tag io => some { t, tag, io, d := memMapDef, work := memMapWork tag io }
  | .capInfo t tag io => some { t, tag, io, d := capInfoDef, work := capInfoWork tag io }
  | .capDerive t tag io => some { t, tag, io, d := capDeriveDef, work := capDeriveWork tag io }
  | .capRevoke t tag io => some { t, tag, io, d := capRevokeDef, work := capRevokeWork tag io }
  | .capRelease t tag io => some { t, tag, io, d := capReleaseDef, work := capReleaseWork tag io }
  | .capGrant t tag io => some { t, tag, io, d := capGrantDef, work := capGrantWork tag io }
  | .capList t tag io => some { t, tag, io, d := capListDef, work := capListWork tag io }
  | .capGateOpen t tag io => some { t, tag, io, d := capGateOpenDef, work := capGateOpenWork tag io }
  | .capGateInfo t tag io => some { t, tag, io, d := capGateInfoDef, work := capGateInfoWork tag io }
  | .capFaultGet t tag io => some { t, tag, io, d := capFaultGetDef, work := capFaultGetWork tag io }
  | .laneBind t tag io => some { t, tag, io, d := laneBindDef, work := laneBindWork tag io }
  | .laneUnbind t tag io => some { t, tag, io, d := laneUnbindDef, work := laneUnbindWork tag io }
  | .laneStatus t tag io => some { t, tag, io, d := laneStatusDef, work := laneStatusWork tag io }
  | .laneSegStatus t tag io => some { t, tag, io, d := laneSegStatusDef, work := laneSegStatusWork tag io }
  | .laneSegEnable t tag io => some { t, tag, io, d := laneSegEnableDef, work := laneSegEnableWork tag io }
  | .laneRollcall t tag io => some { t, tag, io, d := laneRollcallDef, work := laneRollcallWork tag io }
  | .laneForget t tag io => some { t, tag, io, d := laneForgetDef, work := laneForgetWork tag io }
  | .fareTableLoad t tag io => some { t, tag, io, d := tableLoadDef, work := fareTableLoadWork tag io, put := fareTableLoadPut tag }
  | .fareKeyBind t tag io => some { t, tag, io, d := fareKeyBindDef, work := fareKeyBindWork tag io }
  | .fareDenyDelta t tag io => some { t, tag, io, d := denyDeltaDef, work := fareDenyDeltaWork tag io, put := fareDenyDeltaPut tag }
  | .fareDenySwap t tag io => some { t, tag, io, d := fareDenySwapDef, work := fareDenySwapWork tag io }
  | .fareDenyStatus t tag io => some { t, tag, io, d := fareDenyStatusDef, work := fareDenyStatusWork tag io }
  | .fareJournalRead t tag io => some { t, tag, io, d := fareJournalReadDef, work := fareJournalReadWork tag io }
  | .fareJournalAck t tag io => some { t, tag, io, d := fareJournalAckDef, work := fareJournalAckWork tag io }
  | .fareStatus t tag io => some { t, tag, io, d := fareStatusDef, work := fareStatusWork tag io }
  | .drvCastePlan t tag io => some { t, tag, io, d := drvCastePlanDef, work := drvCastePlanWork tag io }
  | .drvCasteStatus t tag io => some { t, tag, io, d := drvCasteStatusDef, work := drvCasteStatusWork tag io }
  | .drvCellStatus t tag io => some { t, tag, io, d := drvCellStatusDef, work := drvCellStatusWork tag io }
  | .drvCellQuarantine t tag io => some { t, tag, io, d := drvCellQuarantineDef, work := drvCellQuarantineWork tag io }
  | .drvCellReturn t tag io => some { t, tag, io, d := drvCellReturnDef, work := drvCellReturnWork tag io }
  | .drvSlotStatus t tag io => some { t, tag, io, d := drvSlotStatusDef, work := drvSlotStatusWork tag io }
  | .cartBind t tag io => some { t, tag, io, d := cartBindDef, work := cartBindWork tag io }
  | .cartStatus t tag io => some { t, tag, io, d := cartStatusDef, work := cartStatusWork tag io }
  | .cartJournalRead t tag io => some { t, tag, io, d := journalReadDef, work := cartJournalReadWork tag io, put := cartJournalReadPut tag }
  | .cartJournalMark t tag io => some { t, tag, io, d := cartJournalMarkDef, work := cartJournalMarkWork tag io }
  | .cartDataList t tag io => some { t, tag, io, d := cartDataListDef, work := cartDataListWork tag io }
  | .cartDataStage t tag io => some { t, tag, io, d := dataStageDef, work := cartDataStageWork tag io, put := cartDataStagePut tag }
  | .cartFormat t tag io => some { t, tag, io, d := cartFormatDef, work := cartFormatWork tag io }
  | .cartForceErase t tag io => some { t, tag, io, d := cartForceEraseDef, work := cartForceEraseWork tag io }
  | .cartEject t tag io => some { t, tag, io, d := cartEjectDef, work := cartEjectWork tag io }
  | .timeStatus t tag io => some { t, tag, io, d := timeStatusDef, work := timeStatusWork tag io }
  | .timeShadowStatus t tag io => some { t, tag, io, d := timeShadowStatusDef, work := timeShadowStatusWork tag io }
  | .timeDomainSet t tag io => some { t, tag, io, d := timeDomainSetDef, work := timeDomainSetWork tag io }
  | .timeMasterSet t tag io => some { t, tag, io, d := timeMasterSetDef, work := timeMasterSetWork tag io }
  | .timeJumpAccept t tag io => some { t, tag, io, d := timeJumpAcceptDef, work := timeJumpAcceptWork tag io }
  | .timeCmpSet t tag io => some { t, tag, io, d := timeCmpSetDef, work := timeCmpSetWork tag io }
  | .timeCmpStatus t tag io => some { t, tag, io, d := timeCmpStatusDef, work := timeCmpStatusWork tag io }
  | .timePpsInGet t tag io => some { t, tag, io, d := timePpsInGetDef, work := timePpsInGetWork tag io }
  | .audRxSet t tag io => some { t, tag, io, d := audRxSetDef, work := audRxSetWork tag io }
  | .audTxSet t tag io => some { t, tag, io, d := audTxSetDef, work := audTxSetWork tag io }
  | .audBusSet t tag io => some { t, tag, io, d := audBusSetDef, work := audBusSetWork tag io }
  | .audTdmSet t tag io => some { t, tag, io, d := audTdmSetDef, work := audTdmSetWork tag io }
  | .audPromptLoad t tag io => some { t, tag, io, d := promptLoadDef, work := audPromptLoadWork tag io, put := audPromptLoadPut tag }
  | .audPlay t tag io => some { t, tag, io, d := audPlayDef, work := audPlayWork tag io }
  | .audStreamStatus t tag io => some { t, tag, io, d := audStreamStatusDef, work := audStreamStatusWork tag io }
  | .audStatus t tag io => some { t, tag, io, d := audStatusDef, work := audStatusWork tag io }
  | .netPortSet t tag io => some { t, tag, io, d := netPortSetDef, work := netPortSetWork tag io }
  | .netIfSet t tag io => some { t, tag, io, d := netIfSetDef, work := netIfSetWork tag io }
  | .netRuleWrite t tag io => some { t, tag, io, d := ruleWriteDef, work := netRuleWriteWork tag io }
  | .netRuleRead t tag io => some { t, tag, io, d := netRuleReadDef, work := netRuleReadWork tag io }
  | .netRuleHits t tag io => some { t, tag, io, d := netRuleHitsDef, work := netRuleHitsWork tag io }
  | .netQueueSet t tag io => some { t, tag, io, d := netQueueSetDef, work := netQueueSetWork tag io }
  | .netPortStatus t tag io => some { t, tag, io, d := netPortStatusDef, work := netPortStatusWork tag io }
  | .islStatus t tag io => some { t, tag, io, d := islStatusDef, work := islStatusWork tag io }
  | .islLinkStatus t tag io => some { t, tag, io, d := islLinkStatusDef, work := islLinkStatusWork tag io }
  | .islLoopFreeze t tag io => some { t, tag, io, d := islLoopFreezeDef, work := islLoopFreezeWork tag io }
  | .islLoopStatus t tag io => some { t, tag, io, d := islLoopStatusDef, work := islLoopStatusWork tag io }
  | .islReset t tag io => some { t, tag, io, d := islResetDef, work := islResetWork tag io }
  | .secStatus t tag io => some { t, tag, io, d := secStatusDef, work := secStatusWork tag io }
  | .secLogRead t tag io => some { t, tag, io, d := secLogReadDef, work := secLogReadWork tag io }
  | .secCertGet t tag io => some { t, tag, io, d := secCertGetDef, work := secCertGetWork tag io }
  | .secKeyImport t tag io => some { t, tag, io, d := secKeyImportDef, work := secKeyImportWork tag io }
  | .secLoopSet t tag io => some { t, tag, io, d := secLoopSetDef, work := secLoopSetWork tag io }
  | .secZeroise t tag io => some { t, tag, io, d := secZeroiseDef, work := secZeroiseWork tag io }
  | .secReenrol t tag io => some { t, tag, io, d := secReenrolDef, work := secReenrolWork tag io, put := secReenrolPut tag }
  | .secDebugArm t tag io => some { t, tag, io, d := secDebugArmDef, work := secDebugArmWork tag io }
  | .statEpoch t tag io => some { t, tag, io, d := statEpochDef, work := statEpochWork tag io }
  | .statRead t tag io => some { t, tag, io, d := statReadDef, work := statReadWork tag io, own := statReadOwn tag }
  | .statBooks t tag io => some { t, tag, io, d := statBooksDef, work := statBooksWork tag io }
  | .testRequest t tag io => some { t, tag, io, d := testRequestDef, work := testRequestWork tag io }
  | .testResult t tag io => some { t, tag, io, d := testResultDef, work := testResultWork tag io }
  | .testCoverage t tag io => some { t, tag, io, d := testCoverageDef, work := testCoverageWork tag io }
  | .evtMaskSet t tag io => some { t, tag, io, d := evtMaskSetDef, work := evtMaskSetWork tag io, own := evtMaskSetOwn tag }
  | .evtMaskGet t tag io => some { t, tag, io, d := evtMaskGetDef, work := evtMaskGetWork tag io, own := evtMaskGetOwn tag }
  | .evtSrcMask t tag io => some { t, tag, io, d := evtSrcMaskDef, work := evtSrcMaskWork tag io }
  | .evtStatus t tag io => some { t, tag, io, d := evtStatusDef, work := evtStatusWork tag io, own := evtStatusOwn tag }
  | .lcyStatus t tag io => some { t, tag, io, d := lcyStatusDef, work := lcyStatusWork tag io }
  | .lcyAdvance t tag io => some { t, tag, io, d := lcyAdvanceDef, work := lcyAdvanceWork tag io }
  | .lcyFuseRead t tag io => some { t, tag, io, d := lcyFuseReadDef, work := lcyFuseReadWork tag io }
  | .lcyFwWrite t tag io => some { t, tag, io, d := fwWriteDef, work := lcyFwWriteWork tag io }
  | .lcyFwSelect t tag io => some { t, tag, io, d := lcyFwSelectDef, work := lcyFwSelectWork tag io }
  | .lcyRollbackAdvance t tag io => some { t, tag, io, d := lcyRollbackAdvanceDef, work := lcyRollbackAdvanceWork tag io }
  | .lcySlotRevoke t tag io => some { t, tag, io, d := lcySlotRevokeDef, work := lcySlotRevokeWork tag io }
  | .lcyReset t tag io => some { t, tag, io, d := lcyResetDef, work := lcyResetWork tag io }
  | _ => none

/-- A command is a block command that stands TAKEN on its page, is no replay, passes steps 2 to 8 of Table 2-9 with these
argument words, and is not put off: the steward runs it now. -/
def Runs (c : Instr) (s : State) (a : List Word) : Prop :=
  match blockRow c with
  | none => False
  | some b =>
    (s.tick b.t).ready b.tag b.d.code = true ∧ (s.tick b.t).replay b.tag = none ∧
      (match (s.tick b.t).precheck b.d b.own b.needs b.tag b.io with | .ok x => x = a | .error _ => False) ∧
      (b.d.pend && b.io.slow) = false

/-- A command of a page has been answered with a status and result words in the state s1 that its work leaves: DONE rises,
GO and TAKEN fall, the words stand in MBX_BLK0 to MBX_BLK15 with zeros beyond them (Table 2-8, R50); no other page changes but in
TAKEN, which the command taken next may set, and nothing but the pages, the stored replies, the order of the taking, the
functions' interrupt vectors and the outputs differs from s1. -/
def Replied (s1 s' : State) (tag st : Nat) (rs : List Word) : Prop :=
  (s'.page tag).done = true ∧ (s'.page tag).go = false ∧ (s'.page tag).taken = false ∧
    (s'.page tag).blk =
      ((replyWord st (fld ((s1.page tag).blk.getD 0 0) 15 8) rs.length false :: rs) ++ List.replicate 16 0).take 16 ∧
    (∀ k, k ≠ tag → s'.page k = { s1.page k with taken := (s'.page k).taken }) ∧
    s' = { s1 with
      mbx := { s1.mbx with
        pages := s'.mbx.pages, recs := s'.mbx.recs, lastWasPf := s'.mbx.lastWasPf, lastTenant := s'.mbx.lastTenant }
      ins := { s1.ins with fns := s'.ins.fns }
      out := s'.out }

/-- A block command that runs with these argument words is answered so. -/
def Answers (c : Instr) (s : State) (a : List Word) (st : Nat) (rs : List Word) (s1 : State) : Prop :=
  ∀ b, blockRow c = some b → Runs c s a → ∃ s', exec c s = .next s' ∧ Replied s1 s' b.tag st rs

/-- The tables whose entries are looked through in order name each number once, in rising order. -/
def Formed (s : State) : Prop :=
  twf s.sea.cells = true ∧ twf s.sea.jobs = true ∧ twf s.man.mans = true ∧ twf s.cap.objs = true ∧ twf s.fare.hub = true

/-- A block command of the staged class that runs with these argument words becomes an entry of its caller's open manifest
while the manifest has room, and is answered with these result words; nothing else changes (R68, R72, R73). -/
def Stages (c : Instr) (s : State) (a : List Word) (op : StagedOp) (bulk : Nat) (rs : List Word) : Prop :=
  ∀ b id m, blockRow c = some b → Runs c s a → (s.tick b.t).openMan b.tag = some (id, m) →
    m.entries.length < entryLimit b.tag → m.bulk + bulk ≤ bulkLimit b.tag →
    ∃ s', exec c s = .next s' ∧
      Replied ((s.tick b.t).modMan id (fun m => { m with
        entries := m.entries ++ [{ op, code := b.d.code, items := op.items.map (fun i => (i, (s.tick b.t).version i)), bulk }]
        touched := (s.tick b.t).now })) s' b.tag 0 rs


end Sys2Proof.Say

open Sys2Proof Sys2Proof.Machine Sys2Proof.Say

/-! ### The queue (the model's own) and reset -/

/-- With a command at the front of its queue a step is that command's effect on the state with the queue's rest; on an empty
queue the block idles (the model's choice, log entry 2). -/
def Obligations.QueueStep : Prop :=
  (∀ (c : Instr) (rest : List Instr) (s : State), s.pending = c :: rest → step s = exec c { s with pending := rest }) ∧
  (∀ s : State, s.pending = [] → step s = .next s)

/-- What the spec gives for reset: every mailbox page at its reset values with READY 0 (R42, R66, 02 Start-up), no stored SEQ
(R54), the steward booting; every clock at 0, TIME_STATE 0 and both shadows DISABLED (10 Start-up); epoch 1 with COLD (R411);
no manifest open; no session, no record and an empty hub journal buffer (08); and no command waits (the model's queue). -/
def Obligations.ResetState : Prop :=
  (∀ tag, (State.reset.page tag).h2s = 0 ∧ (State.reset.page tag).s2h = 0 ∧ (State.reset.page tag).h2sFull = false ∧
    (State.reset.page tag).h2sCollide = false ∧ (State.reset.page tag).s2hFull = false ∧
    (State.reset.page tag).s2hCollide = false ∧ (State.reset.page tag).ready = false ∧ (State.reset.page tag).s2hIe = false ∧
    (State.reset.page tag).doneIe = false ∧ (State.reset.page tag).blk = List.replicate 16 0 ∧
    (State.reset.page tag).writeIgnored = false ∧ (State.reset.page tag).taken = false ∧
    (State.reset.page tag).done = false ∧ (State.reset.page tag).go = false ∧ (State.reset.cmdRec tag).stored = none) ∧
  State.reset.mbx.state = .booting ∧ State.reset.servedSec = 0 ∧ State.reset.servedNs = 0 ∧ State.reset.tim.timeState = 0 ∧
  (∀ n, (State.reset.shadow n).state = .disabled) ∧ State.reset.stat.epoch = 1 ∧ State.reset.stat.flags.cold = true ∧
  State.reset.man.mans = [] ∧ State.reset.fare.sessions = [] ∧ State.reset.fare.records = [] ∧ State.reset.fare.hub = [] ∧
  State.reset.pending = []

/-! ### 02 Mailboxes -/

/-- R44: a write of MBX_H2S stores the word and sets H2S_FULL; over a word not taken it sets H2S_COLLIDE, and the steward,
while it serves the page, acts on the newest word.  Nothing but the mailboxes and the time changes, and of them only this
page. -/
def Obligations.HostWordStored : Prop :=
  ∀ (t tag : Nat) (w : Word) (s : State), tag ≤ 287 → ∃ s', exec (.mbxH2sWrite t tag w) s = .next s' ∧
    (s'.page tag) = { s.page tag with
      h2s := w, h2sFull := true, h2sCollide := (s.page tag).h2sCollide || (s.page tag).h2sFull } ∧
    (s'.mbx.state = .serving → (s'.page tag).ready = true → s'.heldWord tag = some w) ∧
    (∀ k, k ≠ tag → s'.page k = s.page k) ∧ s' = { s.tick t with mbx := s'.mbx }

/-- A word is held for the steward while it serves a page with H2S_FULL set (R45). -/
def Sys2Proof.Say.Held1 (s : State) (t tag op : Nat) : Prop :=
  (s.tick t).mbx.state = .serving ∧ (s.page tag).ready = true ∧ (s.page tag).h2sFull = true ∧ fld (s.page tag).h2s 31 24 = op

/-- R45 to R47, R57: the steward takes W_PING's word and posts N_PONG with the same argument; a word of no listed opcode is
taken and counted.  W_CANCEL withdraws the posted command of its SEQ while it is not TAKEN: ST_CANCELLED without results, DONE
set, GO cleared; a command that stands TAKEN and that its chapter does not call cancellable goes on. -/
def Obligations.WordsTaken : Prop :=
  (∀ (t tag : Nat) (s : State), Held1 s t tag 1 → ∃ s', exec (.wPing t tag) s = .next s' ∧
    s'.page tag = { s.page tag with
      h2sFull := false, s2h := noticeWord 2 (fld (s.page tag).h2s 23 0), s2hFull := true
      s2hCollide := (s.page tag).s2hCollide || (s.page tag).s2hFull } ∧
    s' = { s.tick t with mbx := s'.mbx, ins := s'.ins, out := s'.out }) ∧
  (∀ (t tag op : Nat) (s : State), op ≠ 1 → op ≠ 2 → Held1 s t tag op → ∃ s', exec (.badWord t tag) s = .next s' ∧
    s'.page tag = { s.page tag with h2sFull := false } ∧
    s'.counter 3 tag 1 = min statMax (s.counter 3 tag 1 + 1) ∧
    s' = { s.tick t with mbx := s'.mbx, stat := s'.stat }) ∧
  (∀ (t tag : Nat) (s : State), Held1 s t tag 2 → (s.page tag).go = true → (s.page tag).taken = false →
    fld ((s.page tag).blk.getD 0 0) 15 8 = fld (s.page tag).h2s 7 0 →
    ∃ s', exec (.wCancel t tag) s = .next s' ∧
      s'.page tag = { s.page tag with
        h2sFull := false, go := false, taken := false, done := true
        blk := (replyWord 0x001B (fld (s.page tag).h2s 7 0) 0 false :: List.replicate 16 0).take 16 } ∧
      s' = { s.tick t with mbx := s'.mbx, ins := s'.ins, out := s'.out }) ∧
  (∀ (t tag : Nat) (s : State), Held1 s t tag 2 → (s.page tag).go = true → (s.page tag).taken = true →
    fld ((s.page tag).blk.getD 0 0) 15 8 = fld (s.page tag).h2s 7 0 →
    cancellable (fld ((s.page tag).blk.getD 0 0) 31 16) = false →
    exec (.wCancel t tag) s = .next ((s.tick t).modPage tag (fun p => { p with h2sFull := false })))

/-- R48, R49: while GO is 0 a write of MBX_BLKi is stored; while GO is 1 it is ignored and WRITE_IGNORED is set.  A write of 1
to GO posts the command and clears DONE; while GO is 1 it has no effect. -/
def Obligations.BlockHandshake : Prop :=
  (∀ (t tag i : Nat) (v : Word) (s : State), tag ≤ 287 → i ≤ 15 → ∃ s', exec (.mbxBlkWrite t tag i v) s = .next s' ∧
    s'.page tag = (if (s.page tag).go then { s.page tag with writeIgnored := true }
                   else { s.page tag with blk := (s.page tag).blk.set i v }) ∧
    (∀ k, k ≠ tag → s'.page k = s.page k) ∧ s' = { s.tick t with mbx := s'.mbx }) ∧
  (∀ (t tag : Nat) (s : State), tag ≤ 287 → (s.page tag).go = false → ∃ s', exec (.go t tag) s = .next s' ∧
    (s'.page tag).go = true ∧ (s'.page tag).done = false ∧ (s'.page tag).blk = (s.page tag).blk ∧
    s' = { s.tick t with mbx := s'.mbx }) ∧
  (∀ (t tag : Nat) (s : State), tag ≤ 287 → (s.page tag).go = true → exec (.go t tag) s = .next (s.tick t))

/-- R50, R109: while it serves, READY is 1 and no command stands TAKEN, the PF's command is taken as it is posted, a tenant's
only with a rate token, which the taking spends.  A tenant's token arrives, up to 16 held, and a command that waited for it is
taken. -/
def Obligations.CommandTaken : Prop :=
  (∀ (t : Nat) (s : State), (s.page 0).go = false → (s.page 0).taken = false → (s.page 0).ready = true →
    s.mbx.state = .serving → s.someTaken = false → (∀ k, s.eligible k = false) →
    ∃ s', exec (.go t 0) s = .next s' ∧ (s'.page 0).go = true ∧ (s'.page 0).taken = true) ∧
  (∀ (t tag : Nat) (s : State), 1 ≤ tag → tag ≤ 287 → (s.page tag).go = false → (s.page tag).taken = false →
    (s.page tag).ready = true → s.mbx.state = .serving → s.someTaken = false → (∀ k, s.eligible k = false) →
    ∃ s', exec (.go t tag) s = .next s' ∧ (s'.page tag).taken = decide (0 < (s.cmdRec tag).tokens) ∧
      (s'.cmdRec tag).tokens = (s.cmdRec tag).tokens - 1) ∧
  (∀ (t tag : Nat) (s : State), isPf tag = false → s.enabled tag = true → (s.page tag).go = false →
    ∃ s', exec (.rateToken t tag) s = .next s' ∧ (s'.cmdRec tag).tokens = min 16 ((s.cmdRec tag).tokens + 1) ∧
      s' = { s.tick t with mbx := s'.mbx }) ∧
  (∀ (t tag : Nat) (s : State), isPf tag = false → 1 ≤ tag → tag ≤ 287 → s.enabled tag = true →
    (s.page tag).go = true → (s.page tag).taken = false → (s.page tag).ready = true → s.mbx.state = .serving →
    s.someTaken = false → (∀ k, s.eligible k = false) → ∃ s', exec (.rateToken t tag) s = .next s' ∧
      (s'.page tag).taken = true ∧ (s'.cmdRec tag).tokens = (s.cmdRec tag).tokens)

/-! ### The envelope of every block command -/

/-- A block command that the steward runs is answered with what its work answers: the status and the result words stand in the
page, DONE rises, and beside the mailboxes, the interrupt and the outputs the state is the one its work leaves. -/
def Obligations.BlockCommandsRun : Prop :=
  ∀ (c : Instr) (b : BlockRow) (s : State) (a : List Word) (st : Nat) (rs : List Word) (s1 : State),
    blockRow c = some b → Runs c s a → b.work a (s.tick b.t) = .reply st rs s1 →
    ∃ s', exec c s = .next s' ∧ Replied s1 s' b.tag st rs

/-- R54: a posted command whose SEQ equals the stored SEQ is not run: the stored reply is returned with REPLAYED set, the
replay is counted, and nothing but the mailboxes, the interrupt, the outputs and the counters changes. -/
def Sys2Proof.Say.storedReplyReturnedSay : Prop :=
  ∀ (c : Instr) (b : BlockRow) (s : State) (ws : List Word), blockRow c = some b →
    (s.tick b.t).ready b.tag b.d.code = true →
    (s.cmdRec b.tag).stored = some (fld ((s.page b.tag).blk.getD 0 0) 15 8, ws) →
    ∃ s', exec c s = .next s' ∧ (s'.page b.tag).done = true ∧ (s'.page b.tag).go = false ∧
      (s'.page b.tag).blk = (((ws.getD 0 0 ||| 1) :: ws.drop 1) ++ List.replicate 16 0).take 16 ∧
      s'.counter 3 b.tag 0 = min statMax (s.counter 3 b.tag 0 + 1) ∧
      s' = { s.tick b.t with mbx := s'.mbx, ins := s'.ins, out := s'.out, stat := s'.stat }

/-- R56, R541, R540, R58: a block command that is no replay is refused with the status of the first check of Table 2-9 that
fails, and leaves everything but the mailboxes, the interrupt and the outputs: reserved request bits, then a right the caller
lacks, then the lifecycle, then the length, then the manifest, then reserved argument bits.  A code
of no block command is refused at step 3 (R543). -/
def Sys2Proof.Say.checksInOrderSay : Prop :=
  (∀ (c : Instr) (b : BlockRow) (s : State), blockRow c = some b → (s.tick b.t).ready b.tag b.d.code = true →
    (s.tick b.t).replay b.tag = none → bit ((s.page b.tag).blk.getD 0 0) 0 = false →
    let b0 := (s.page b.tag).blk.getD 0 0
    let s0 := s.tick b.t
    let refuse (st : Nat) : Prop := ∃ s', exec c s = .next s' ∧ Replied s0 s' b.tag st []
    (fld b0 3 2 ≠ 0 → refuse 0x0013) ∧
    (fld b0 3 2 = 0 → isPf b.tag = false → b.d.tenant = false → refuse 0x0014) ∧
    (fld b0 3 2 = 0 → isPf b.tag = false → (s0.rights b.tag).getLsbD (b.d.code / 256) = false → refuse 0x0014) ∧
    (∀ st, fld b0 3 2 = 0 → isPf b.tag = true → (∀ a, b.d.pfMay a = true) → s0.lifecycleStatus b.d = some st → refuse st) ∧
    (fld b0 3 2 = 0 → isPf b.tag = true → s0.lifecycleStatus b.d = none → argsOf b.d (s.page b.tag) b.io = none →
      refuse 0x0011) ∧
    (∀ a, fld b0 3 2 = 0 → isPf b.tag = true → (∀ a, b.d.pfMay a = true) → s0.lifecycleStatus b.d = none →
      argsOf b.d (s.page b.tag) b.io = some a → (b.d.staged || b.needs a) = true → s0.openMan b.tag = none → refuse 0x001D) ∧
    (∀ a, fld b0 3 2 = 0 → isPf b.tag = true → (∀ a, b.d.pfMay a = true) → s0.lifecycleStatus b.d = none →
      argsOf b.d (s.page b.tag) b.io = some a → ((b.d.staged || b.needs a) = false ∨ (s0.openMan b.tag).isSome = true) →
      reservedSet b.d.masks a = true → refuse 0x0013)) ∧
  (∀ (t tag : Nat) (io : HostIo) (s : State) (code : Nat), code = fld ((s.page tag).blk.getD 0 0) 31 16 →
    blockCommand code = false → (s.tick t).ready tag code = true → (s.tick t).replay tag = none →
    ∃ s', exec (.unknownCommand t tag io) s = .next s' ∧
      Replied (s.tick t) s' tag (if fld ((s.page tag).blk.getD 0 0) 3 2 = 0 then 0x0010 else 0x0013) [])

/-- The stored reply and the checks of Table 2-9. -/
def Obligations.ReplaysAndChecks : Prop := Sys2Proof.Say.storedReplyReturnedSay ∧ Sys2Proof.Say.checksInOrderSay

/-- R51: a command that may outlast 10 ms and does is answered ST_PENDING with its ticket, and its arguments are kept for the
work that goes on. -/
def Sys2Proof.Say.pendingReplySay : Prop :=
  ∀ (c : Instr) (b : BlockRow) (s s1 : State) (a : List Word), blockRow c = some b →
    (s.tick b.t).ready b.tag b.d.code = true → (s.tick b.t).replay b.tag = none →
    (s.tick b.t).precheck b.d b.own b.needs b.tag b.io = .ok a → b.d.pend = true → b.io.slow = true →
    b.put a (s.tick b.t) = .ok s1 → s1.mbx = s.mbx →
    ∃ s', exec c s = .next s' ∧ (s'.page b.tag).done = true ∧
      (s'.page b.tag).blk.getD 0 0 = replyWord 1 (fld ((s.page b.tag).blk.getD 0 0) 15 8) 1 false ∧
      (s'.page b.tag).blk.getD 1 0 = wd s.mbx.nextTicket ∧
      (tfind s'.mbx.tickets s.mbx.nextTicket).map (fun k => (k.tag, k.code, k.args)) = some (b.tag, b.d.code, a) ∧
      s' = { s1 with mbx := s'.mbx, ins := s'.ins, out := s'.out }

/-! ### General area -/

/-- Table 2-12: what the general-area commands answer, each leaving all but the mailboxes, the interrupt and the outputs as it
was, but for GEN_GPIO_SET, which sets the directions and levels of the pins it names and of no others (R508).  GEN_PARAM_GET answers
the value in force, GEN_PARAM_INFO the limits and the default; GEN_PARAM_SET of a live parameter without an open manifest puts
the value in force at once, and one outside its limits is ST_PARAM_RANGE (R61 to R63, R545). -/
def Obligations.GeneralCommands : Prop :=
  (∀ (t tag : Nat) (io : HostIo) (s : State) (a : List Word),
  (Runs (.genIdentify t tag io) s a → s.lcy.dies = 4 → ∃ s', exec (.genIdentify t tag io) s = .next s' ∧
    Replied (s.tick t) s' tag 0 [wd 0x768, wd 15, wd 768, wd s.lifecycle, s.fuse 6, s.fuse 7
      , wd (tag + (if tag = 0 then 1 else 2) * 2 ^ 16)]) ∧
  (Runs (.genIdentify t tag io) s a → s.lcy.dies = 2 → ∃ s', exec (.genIdentify t tag io) s = .next s' ∧
    Replied (s.tick t) s' tag 0 [wd 0x384, wd 3, wd 384, wd s.lifecycle, s.fuse 6, s.fuse 7
      , wd (tag + (if tag = 0 then 1 else 2) * 2 ^ 16)]) ∧
  (Runs (.genVersion t tag io) s a → ∃ s', exec (.genVersion t tag io) s = .next s' ∧
    Replied (s.tick t) s' tag 0 [s.lcy.romVersion, s.lcy.version, wd s.rollbackStep, s.lcy.casteSet]) ∧
  (Runs (.genPing t tag io) s a → ∃ s', exec (.genPing t tag io) s = .next s' ∧ Replied (s.tick t) s' tag 0 a) ∧
  (Runs (.genParamNext t tag io) s a → ∃ s', exec (.genParamNext t tag io) s = .next s' ∧
    Replied (s.tick t) s' tag 0 [wd (nextParam (selId (arg a 1)))]) ∧
  (Runs (.genGpioSet t tag io) s a → ∃ s', exec (.genGpioSet t tag io) s = .next s' ∧ ∃ l : Lcy,
    Replied { s.tick t with lcy := l } s' tag 0 [] ∧
    (∀ i, i < 8 → l.gpioDir.getLsbD i = (if bit (arg a 1) i then bit (arg a 1) (8 + i) else s.lcy.gpioDir.getLsbD i)) ∧
    (∀ i, i < 8 → l.gpioOut.getLsbD i = (if bit (arg a 1) i then bit (arg a 1) (16 + i) else s.lcy.gpioOut.getLsbD i)) ∧
    l = { s.lcy with gpioDir := l.gpioDir, gpioOut := l.gpioOut }) ∧
  (Runs (.genGpioGet t tag io) s a → ∃ s', exec (.genGpioGet t tag io) s = .next s' ∧
    Replied (s.tick t) s' tag 0 [wd (s.gpioBalls.toNat + 256 * s.lcy.gpioDir.toNat)])) ∧
  (∀ (t tag : Nat) (io : HostIo) (s : State) (a : List Word) (p : ParamDef), (s.tick t).selector (arg a 1) = .ok p →
  (Runs (.genParamGet t tag io) s a → ∃ s' w, exec (.genParamGet t tag io) s = .next s' ∧
    Replied (s.tick t) s' tag 0 (valueWords (s.cfg.param (selTag (arg a 1)) p.id) ++ [w])) ∧
  (Runs (.genParamInfo t tag io) s a → ∃ s', exec (.genParamInfo t tag io) s = .next s' ∧
    Replied (s.tick t) s' tag 0
      (valueWords p.lo ++ valueWords p.hi ++ valueWords (p.default (selTag (arg a 1))) ++ [infoWord p false])) ∧
  (Runs (.genParamSet t tag io) s a → (s.openMan tag) = none → p.inRange (BitVec.ofNat 64 (ofTwo (arg a 2) (arg a 3))).toInt = true →
    ((s.cfg.setParam (selTag (arg a 1)) p.id (BitVec.ofNat 64 (ofTwo (arg a 2) (arg a 3)))).checkRelations.isSome = false) →
    ∃ s', exec (.genParamSet t tag io) s = .next s' ∧
      Replied (((s.tick t).modCfg (fun c => c.setParam (selTag (arg a 1)) p.id (BitVec.ofNat 64 (ofTwo (arg a 2) (arg a 3))))).liveSet
        p.id) s' tag 0 []) ∧
  (Runs (.genParamSet t tag io) s a → p.inRange (BitVec.ofNat 64 (ofTwo (arg a 2) (arg a 3))).toInt = false →
    ∃ s', exec (.genParamSet t tag io) s = .next s' ∧ Replied (s.tick t) s' tag 0x0102 []))

/-! ### 03 Manifests -/

/-- R69, R71, R75, R78, R82, R87, R88: MAN_BEGIN opens the caller's next serial; MAN_COMMIT whose checks pass passes its commit
point at once, or is scheduled for the boundary armed, or for the one after once the freeze point is past; a check that fails
returns the manifest to OPEN with the failure and changes nothing else; MAN_ROLLBACK of the caller's own manifest closes it;
MAN_STATUS answers its state, entries, bulk bytes, boundary and outcome. -/
def Obligations.ManifestCommands : Prop :=
  ∀ (t tag : Nat) (io : HostIo) (s : State) (a : List Word) (m : Manifest),
  let s0 := s.tick t
  let id := (arg a 1).toNat
  (Runs (.manBegin t tag io) s a → (s.lifecycle = 1 ∨ s.lifecycle = 2) → s.openMan tag = none →
    let n := tget s.man.serials tag 0 % 65535 + 1
    ∃ s', exec (.manBegin t tag io) s = .next s' ∧
      Replied { s0 with man := { s.man with
        serials := tset s.man.serials tag n
        mans := tset s.man.mans (tag * 65536 + n) { tag, serial := n, touched := s0.now } } } s' tag 0 [wd (tag * 65536 + n)]) ∧
  (Runs (.manCommit t tag io) s a → tfind s.man.mans id = some m → s0.commitPre tag a = none → s0.commitChecks id m = none →
    bit (arg a 2) 0 = false → s.stat.frozenPast = false →
    ∃ s', exec (.manCommit t tag io) s = .next s' ∧
      Replied (s0.commitPoint id) s' tag 0 [0, wd (s0.commitPoint id).servedSec, wd (s0.commitPoint id).servedNs]) ∧
  (Runs (.manCommit t tag io) s a → tfind s.man.mans id = some m → s0.commitPre tag a = none → s0.commitChecks id m = none →
    bit (arg a 2) 0 = true →
    let b := if s.stat.frozenPast then nextMultiple s.stat.boundary (s.devN 0x0B01) else s.stat.boundary
    ∃ s', exec (.manCommit t tag io) s = .next s' ∧
      Replied { s0 with man := { s.man with
        mans := tupd s.man.mans id (fun m =>
          { m with state := .scheduled, boundary := b, order := s.man.order, touched := s0.now })
        order := s.man.order + 1 } } s' tag 0 [1, wd b, 0]) ∧
  (∀ step st item, Runs (.manCommit t tag io) s a → tfind s.man.mans id = some m → s0.commitPre tag a = none →
    s0.commitChecks id m = some (step, st, item) →
    ∃ s', exec (.manCommit t tag io) s = .next s' ∧
      Replied (s0.modMan id (fun m => { m with state := .open_, touched := s0.now })) s' tag st (failWords m step (st, item))) ∧
  (Runs (.manRollback t tag io) s a → tfind s.man.mans id = some m → m.tag = tag → (m.state = .open_ ∨ m.state = .scheduled) →
    ∃ s', exec (.manRollback t tag io) s = .next s' ∧ Replied (s0.endMan id 0x001B) s' tag 0 []) ∧
  (Runs (.manStatus t tag io) s a → arg a 1 ≠ 0 → tfind s.man.mans id = some m → (m.tag = tag ∨ tag = 0) →
    ∃ s', exec (.manStatus t tag io) s = .next s' ∧
      Replied s0 s' tag 0 [wd (manCode m.state), wd m.entries.length, wd m.bulk, wd m.boundary
        , if m.state = .closed then wd m.outcome else 0])

/-- R88: a close keeps the manifest's outcome and leaves every manifest that is not CLOSED as it was. -/
def Sys2Proof.Say.manifestClosedSay : Prop :=
  ∀ (s : State) (id out : Nat) (m : Manifest), tfind s.man.mans id = some m → Formed s →
    (∀ p ∈ s.man.mans, p.2.state = .closed → p.2.order < s.man.order) →
    (tfind (s.closeMan id out).man.mans id).map (fun m => (m.state, m.outcome)) = some (.closed, out) ∧
    (∀ k x, k ≠ id → tfind s.man.mans k = some x → x.state ≠ .closed → tfind (s.closeMan id out).man.mans k = some x) ∧
    s.closeMan id out = { s with man := (s.closeMan id out).man }

/-- R79, R83, R85, R89: the open timeout rolls an OPEN manifest back with EV_MAN_EXPIRED's code 0x0203; the freeze point reruns
the checks; a commit that waited for the boundary's commit points passes its own and is answered; a flush's end raises
EV_MAN_APPLIED and closes the manifest. -/
def Sys2Proof.Say.manifestEventsSay : Prop :=
  (∀ (t tag id : Nat) (s : State) (m : Manifest), (s.tick t).openMan tag = some (id, m) →
    m.touched + (s.tick t).insN tag 0x0201 * 1000000 ≤ (s.tick t).now →
    ∃ s', exec (.manOpenTimeout t tag) s = .next s' ∧
      s' = ((s.tick t).endMan id 0x001B).raise 0x0203 srcSteward m.tag m.tag id ∧ s'.mbx = s.mbx) ∧
  (∀ (t : Nat) (s : State), (s.tick t).cmpDue 1 = true →
    s.man.mans.all (fun p => p.2.state != .scheduled) = true →
    ∃ s', exec (.freezePoint t) s = .next s' ∧ s'.stat.frozenPast = true ∧ (s'.cmp 1).armed = false ∧
      s' = { s.tick t with tim := s'.tim, stat := s'.stat }) ∧
  (∀ (t id : Nat) (s : State) (m : Manifest), (s.tick t).cmpDue 1 = true → s.man.mans = [(id, m)] → m.state = .scheduled →
    m.boundary ≤ s.stat.boundary →
    ({ s.tick t with
        tim := (((s.tick t).fireMark 1).modCmp 1 (fun c => { c with armed := false })).tim
        stat := { s.stat with frozenPast := true } }.commitChecks id m = none) →
    ∃ s', exec (.freezePoint t) s = .next s' ∧ s'.stat.frozenPast = true ∧
      (tfind s'.man.mans id) = some { m with state := .frozen }) ∧
  (∀ (t tag id : Nat) (s : State) (h : Held), s.mbx.held = some h → h.wait = .commit id → h.tag = tag →
    s.stat.frozenPast = false →
    let s1 := ({ s.tick t with mbx := { s.mbx with held := none } } : State).commitPoint id
    ∃ s', exec (.deferredImmediateCommit t tag) s = .next s' ∧
      Replied s1 s' tag 0 [0, wd s1.servedSec, wd s1.servedNs]) ∧
  (∀ (t man : Nat) (s : State) (m : Manifest), tfind s.man.mans man = some m → m.state = .applying →
    (((s.tick t).closeMan man 0).man.mans.any (fun p => p.2.state == .applying)) = true →
    ∃ s', exec (.manFlushEnd t man) s = .next s' ∧
      s' = ((s.tick t).closeMan man 0).raise 0x0201 srcSteward m.tag m.tag man (some (wd m.sec, wd m.ns, 0)) ∧
      s'.man = ((s.tick t).closeMan man 0).man) ∧
  (∀ (t man : Nat) (s : State) (m : Manifest), tfind s.man.mans man = some m → m.state = .applying →
    (((s.tick t).closeMan man 0).man.mans.any (fun p => p.2.state == .applying)) = false →
    ∃ s', exec (.manFlushEnd t man) s = .next s' ∧
      s' = (((s.tick t).closeMan man 0).raise 0x0201 srcSteward m.tag m.tag man (some (wd m.sec, wd m.ns, 0))).audioFlush)

/-- A manifest closes as R88 says, and the manifests' own events do as theirs. -/
def Obligations.ManifestTimers : Prop := Sys2Proof.Say.manifestClosedSay ∧ Sys2Proof.Say.manifestEventsSay

/-- R410, R412, R84: at the boundary the epoch is latched at its own time, the next boundary is the next multiple of
epoch.length_s, and, with no manifest frozen, nothing is committed; the epoch number rises by one. -/
def Obligations.BoundaryLatches : Prop :=
  (∀ (t : Nat) (s : State), (s.tick t).cmpDue 0 = true → ((s.cmp 1).armed = false) → (s.cmp 0).past = false →
    s.stat.lateDue = false → s.man.mans.all (fun p => p.2.state != .frozen) = true →
    let b := nextMultiple s.stat.boundary (s.devN 0x0B01)
    ∃ s', exec (.epochBoundary t) s = .next s' ∧ s'.stat.epoch = (s.stat.epoch + 1) % 2 ^ 32 ∧
      s'.stat.boundary = b ∧ s'.stat.frozenPast = false ∧ s'.stat.startSec = s.stat.boundary ∧
      s'.stat.startNs = 0 ∧ (s'.cmp 0).armed = true ∧ (s'.cmp 0).sec = b % 2 ^ 32 ∧ (s'.cmp 0).ns = 0 ∧
      (s'.cmp 1).sec = (b - 1) % 2 ^ 32 ∧ (s'.cmp 1).ns = 995000000 ∧ s'.man = s.man ∧ s'.mbx = s.mbx) ∧
  (∀ (t : Nat) (s : State), (s.tick t).cmpDue 0 = false → exec (.epochBoundary t) s = .next (s.tick t))

/-! ### 04 Instances -/

/-- Entries of a ring from its head up to its tail. -/
def Sys2Proof.Say.pendingIn (p : Qp) : Nat := ringDist p.sqHead p.sqTail p.sqLog2

/-- The SQ tail write of an ACTIVE pair of an enabled instance would pass the ring's size. -/
def Sys2Proof.Say.tailBad (p : Qp) (new : Nat) : Prop :=
  2 ^ p.sqLog2 ≤ new ∨ 2 ^ p.sqLog2 ≤ pendingIn p + ringDist p.sqTail new p.sqLog2

/-- R97, R98, R534: an SQ tail within the ring moves the pair's tail and nothing else; one that would pass the head is ignored, sets
BAD_TAIL and is counted, and so, with BAD_HEAD, is a CQ or event queue head that would pass the tail; a CQ head frees the entries
it passes; a doorbell of a pair in ERROR sets QP_ERROR, and one of a DISABLED pair, of a pair outside the instance's range or of
an instance not enabled has no effect. -/
def Sys2Proof.Say.doorbellsSay : Prop :=
  (∀ (t tag q : Nat) (v : Word) (s : State), s.enabled tag = true → q < qpCount tag → (s.qp tag q).state = .active →
    ¬ tailBad (s.qp tag q) (fld v 15 0) → ∃ s', exec (.qdbSqTailWrite t tag q v) s = .next s' ∧
      s'.qp tag q = { s.qp tag q with sqTail := fld v 15 0 } ∧ (∀ k, k ≠ tag → s'.inst k = s.inst k) ∧
      (∀ j, j ≠ q → s'.qp tag j = s.qp tag j) ∧ s'.inst tag = { s.inst tag with qps := (s'.inst tag).qps } ∧
      s' = { s.tick t with ins := { s.ins with insts := s'.ins.insts } }) ∧
  (∀ (t tag q : Nat) (v : Word) (s : State), s.enabled tag = true → q < qpCount tag → (s.qp tag q).state = .active →
    tailBad (s.qp tag q) (fld v 15 0) → ∃ s', exec (.qdbSqTailWrite t tag q v) s = .next s' ∧
      s'.inst tag = { s.inst tag with badTail := true } ∧ s'.counter 3 tag 2 = min statMax (s.counter 3 tag 2 + 1) ∧
      (∀ k, k ≠ tag → s'.inst k = s.inst k) ∧
      s' = { s.tick t with ins := { s.ins with insts := s'.ins.insts }, stat := s'.stat }) ∧
  (∀ (t tag q : Nat) (v : Word) (s : State), s.enabled tag = true → q < qpCount tag → (s.qp tag q).state = .active →
    let p := s.qp tag q
    let n := freedBy p.cqHead (fld v 15 0) p.cqTail p.cqUsed p.cqLog2
    (fld v 15 0 < 2 ^ p.cqLog2 → n ≤ p.cqUsed → ∃ s', exec (.qdbCqHeadWrite t tag q v) s = .next s' ∧
      s'.qp tag q = { p with cqHead := fld v 15 0, cqUsed := p.cqUsed - n } ∧
      (∀ k, k ≠ tag → s'.inst k = s.inst k) ∧ (∀ j, j ≠ q → s'.qp tag j = s.qp tag j) ∧
      s'.inst tag = { s.inst tag with qps := (s'.inst tag).qps } ∧
      s' = { s.tick t with ins := { s.ins with insts := s'.ins.insts } }) ∧
    (2 ^ p.cqLog2 ≤ fld v 15 0 ∨ p.cqUsed < n → ∃ s', exec (.qdbCqHeadWrite t tag q v) s = .next s' ∧
      s'.inst tag = { s.inst tag with badHead := true } ∧ s'.counter 3 tag 2 = min statMax (s.counter 3 tag 2 + 1) ∧
      (∀ k, k ≠ tag → s'.inst k = s.inst k) ∧
      s' = { s.tick t with ins := { s.ins with insts := s'.ins.insts }, stat := s'.stat })) ∧
  (∀ (t tag q : Nat) (v : Word) (s : State) (c : Instr),
    c = .qdbSqTailWrite t tag q v ∨ c = .qdbCqHeadWrite t tag q v →
    (s.enabled tag = true → q < qpCount tag → (s.qp tag q).state = .error → ∃ s', exec c s = .next s' ∧
      s'.inst tag = { s.inst tag with qpError := true } ∧ (∀ k, k ≠ tag → s'.inst k = s.inst k) ∧
      s' = { s.tick t with ins := { s.ins with insts := s'.ins.insts } }) ∧
    (s.enabled tag = false ∨ qpCount tag ≤ q ∨ (s.qp tag q).state = .disabled → exec c s = .next (s.tick t))) ∧
  (∀ (t tag : Nat) (v : Word) (s : State), s.enabled tag = true → isSlice tag = false → (s.evq tag).active = true →
    let e := s.evq tag
    let n := freedBy e.head (fld v 15 0) e.tail e.used e.log2
    (fld v 15 0 < 2 ^ e.log2 → n ≤ e.used → e.lostPending = 0 → ∃ s', exec (.qdbEqHeadWrite t tag v) s = .next s' ∧
      s'.evq tag = { e with head := fld v 15 0, used := e.used - n } ∧ (∀ k, k ≠ tag → s'.evq k = s.evq k) ∧
      s' = { s.tick t with evt := { s.evt with queues := s'.evt.queues } }) ∧
    (2 ^ e.log2 ≤ fld v 15 0 ∨ e.used < n → ∃ s', exec (.qdbEqHeadWrite t tag v) s = .next s' ∧
      s'.inst tag = { s.inst tag with badHead := true } ∧ s'.counter 3 tag 2 = min statMax (s.counter 3 tag 2 + 1) ∧
      s' = { s.tick t with ins := { s.ins with insts := s'.ins.insts }, stat := s'.stat }))

/-- R101, R102, R105, R108, R110: with Bus Master Enable set and a free CQ entry, the hub fetches the entry at the head of an ACTIVE
pair's SQ: the head moves on by one with its wrap and a CQ entry is reserved, and an entry that passes its checks waits to run as the
spec lays out its fields; one whose code is no queue operation completes with ST_UNKNOWN_COMMAND into its reserved entry; a fetch that
does not translate is logged and leaves the pair in ERROR. -/
def Sys2Proof.Say.queueFetchSay : Prop :=
  ∀ (t tag q : Nat) (io : HostIo) (s : State), s.enabled tag = true → (s.qp tag q).state = .active →
    (s.qp tag q).sqHead ≠ (s.qp tag q).sqTail → (s.qp tag q).cqFree ≠ 0 → s.bme tag = true →
    let p := s.qp tag q
    let b := (io.data ++ List.replicate 64 0).take 64
    let head := (p.sqHead + 1) % 2 ^ p.sqLog2
    let o := sqOf b head
    ((s.tick t).xlateCause tag (p.sqBase + 64 * p.sqHead) 64 io.dataFault = none → (s.tick t).sqCheck tag b o = none →
      ∃ s', exec (.sqEntryFetch t tag q io) s = .next s' ∧
        s'.qp tag q = { p with sqHead := head, reserved := p.reserved + 1, ops := p.ops ++ [o] } ∧
        (∀ k, k ≠ tag → s'.inst k = s.inst k) ∧ (∀ j, j ≠ q → s'.qp tag j = s.qp tag j) ∧
        s' = { s.tick t with ins := s'.ins }) ∧
    ((s.tick t).xlateCause tag (p.sqBase + 64 * p.sqHead) 64 io.dataFault = none → queueOp o.opcode = none →
      ∃ s', exec (.sqEntryFetch t tag q io) s = .next s' ∧
        s' = (((s.tick t).tlbTouch tag (p.sqBase + 64 * p.sqHead) 64).modQp tag q
          (fun p => { p with sqHead := head, reserved := p.reserved + 1 })).opDone tag q o 0x0010 [] io) ∧
    (∀ c, (s.tick t).xlateCause tag (p.sqBase + 64 * p.sqHead) 64 io.dataFault = some c →
      ∃ s', exec (.sqEntryFetch t tag q io) s = .next s' ∧ (s'.qp tag q).state = .error ∧ (s'.inst tag).qpError = true ∧
        (s'.qp tag q).sqHead = p.sqHead ∧ ((s.inst tag).faults.length < 8 → (s'.inst tag).faults = (s.inst tag).faults ++
          [{ iova := p.sqBase + 64 * p.sqHead, cause := c, write := false, source := 0, sec := (s.tick t).sec32
             ns := (s.tick t).servedNs }]))

/-- R103, R104, R120: a CQ's coalescing time ends with its vector signalled and nothing unsignalled; clearing a vector's mask sends its
pending message and clears the pending bit; setting Bus Master Enable sends what was pending; clearing it sends nothing. -/
def Sys2Proof.Say.interruptsDeliveredSay : Prop :=
  (∀ (t tag q : Nat) (s : State), s.enabled tag = true → (s.qp tag q).state = .active → (s.qp tag q).unsignalled ≠ 0 →
    ∃ s', exec (.cqCoalesceTimeout t tag q) s = .next s' ∧ (s'.qp tag q).unsignalled = 0 ∧
      (s'.qp tag q) = { s.qp tag q with unsignalled := 0 } ∧ (∀ k, k ≠ tag → s'.inst k = s.inst k) ∧
      s' = { s.tick (max t ((s.qp tag q).firstUnsig + (s.qp tag q).coalT)) with ins := s'.ins, out := s'.out }) ∧
  (∀ (t fn v : Nat) (s : State) (e : MsixEntry), fn = 0 ∧ v < 64 ∨ 1 ≤ fn ∧ fn ≤ 31 ∧ v < 8 → (s.func fn).msix = [(v, e)] →
    (s.func fn).msixEn = true → (s.func fn).fnMask = false → (s.func fn).bme = true → e.pend = true →
    ∃ s', exec (.msixVectorUnmask t fn v) s = .next s' ∧
      s'.out = .msix fn v (ofTwo e.addrLo e.addrHi) e.data :: s.out ∧
      (s'.func fn).msix = [(v, { e with mask := false, pend := false })] ∧
      s' = { s.tick t with ins := { s.ins with fns := s'.ins.fns }, out := s'.out }) ∧
  (∀ (t fn v : Nat) (s : State), fn = 0 ∧ v < 64 ∨ 1 ≤ fn ∧ fn ≤ 31 ∧ v < 8 →
    (s.func fn).msixEn = false ∨ (s.func fn).fnMask = true ∨ (s.func fn).bme = false →
    ∃ s', exec (.msixVectorUnmask t fn v) s = .next s' ∧
      s'.func fn = { s.func fn with msix := tset (s.func fn).msix v { tget (s.func fn).msix v {} with mask := false } } ∧
      s' = { s.tick t with ins := { s.ins with fns := s'.ins.fns } }) ∧
  (∀ (t fn : Nat) (s : State), fn ≤ 31 → ∃ s', exec (.busMasterEnableChange t fn false) s = .next s' ∧
    s'.func fn = { s.func fn with bme := false } ∧ (∀ k, k ≠ fn → s'.func k = s.func k) ∧
    s' = { s.tick t with ins := { s.ins with fns := s'.ins.fns } }) ∧
  (∀ (t fn v : Nat) (s : State) (e : MsixEntry), fn ≤ 31 → (s.func fn).msix = [(v, e)] → (s.func fn).msixEn = true →
    (s.func fn).fnMask = false → e.pend = true → e.mask = false → (s.evq fn).lostPending = 0 →
    ∃ s', exec (.busMasterEnableChange t fn true) s = .next s' ∧
      s'.out = .msix fn v (ofTwo e.addrLo e.addrHi) e.data :: s.out ∧ (s'.func fn).bme = true ∧
      s' = { s.tick t with ins := { s.ins with fns := s'.ins.fns }, out := s'.out })

/-- The doorbells and the interrupts. -/
def Obligations.DoorbellsAndInterrupts : Prop := Sys2Proof.Say.doorbellsSay ∧ Sys2Proof.Say.interruptsDeliveredSay

/-- R105, R106, R108, R121: a walk that finds a leaf with its right installs the page, over the instance's own entry of it, and
never leaves two entries of one tag and page; one that began before an invalidation covering it installs nothing; one that fails
is logged with its cause. -/
def Sys2Proof.Say.translationFillSay : Prop :=
  ∀ (t tag iova : Nat) (w : Walk) (s : State) (r l : Word64), s.enabled tag = true → iova < 2 ^ 33 → (s.inst tag).root.isSome = true →
    w.root = some r → w.leaf = some l →
    (pteV r = true → pteV l = true → (w.write = true → pteW l = true) → (w.write = false → pteR l = true) →
      ((s.tick t).ins.invals.all (fun (at_, g, first, count) => !(g == tag && decide (w.began ≤ at_) &&
        (count == 0 || (decide (first ≤ iova / 4096) && decide (iova / 4096 < first + count)))))) = true →
      ∃ s', exec (.tlbFill t tag iova w) s = .next s' ∧
        s'.ins.tlb.head? = some { tag, page := iova / 4096, bus := ptePage l, r := pteR l, w := pteW l, used := s.ins.tlbClock } ∧
        (s'.ins.tlb.filter (fun x => x.tag == tag && x.page == iova / 4096)).length = 1 ∧
        s' = { s.tick t with ins := { s.ins with tlb := s'.ins.tlb, tlbClock := s.ins.tlbClock + 1 } }) ∧
    (∀ at_ first count, (at_, tag, first, count) ∈ s.ins.invals → w.began ≤ at_ →
      (count = 0 ∨ first ≤ iova / 4096 ∧ iova / 4096 < first + count) → pteV r = true → pteV l = true →
      (w.write = true → pteW l = true) → (w.write = false → pteR l = true) →
      exec (.tlbFill t tag iova w) s = .next (s.tick t)) ∧
    (pteV r = false → exec (.tlbFill t tag iova w) s = .next ((s.tick t).xlateFault tag iova 2 w.write w.source)) ∧
    (pteV r = true → pteV l = false → exec (.tlbFill t tag iova w) s = .next ((s.tick t).xlateFault tag iova 3 w.write w.source)) ∧
    (pteV r = true → pteV l = true → w.write = true → pteW l = false →
      exec (.tlbFill t tag iova w) s = .next ((s.tick t).xlateFault tag iova 4 w.write w.source)) ∧
    (pteV r = true → pteV l = true → w.write = false → pteR l = false →
      exec (.tlbFill t tag iova w) s = .next ((s.tick t).xlateFault tag iova 5 w.write w.source))

/-- The queue fetch and the translation fill. -/
def Obligations.QueueFetchAndFill : Prop := Sys2Proof.Say.queueFetchSay ∧ Sys2Proof.Say.translationFillSay

/-- R116, R65, R80, R457 and Table 4-12: at its disable point an enabled instance's sequence begins at the device time; its page
loses GO, TAKEN and READY, its event queue stops with its masks cleared, and no other instance changes. -/
def Obligations.DisableSequenceBegins : Prop :=
  ∀ (s : State) (tag : Nat), (s.inst tag).phase = .on → Formed s →
    let s' := s.disable tag
    (s'.inst tag).phase = .disabling ∧ (s'.inst tag).disabledAt = s.now ∧ (∀ q, (s'.qp tag q).ops = []) ∧
    (s'.page tag).go = false ∧ (s'.page tag).ready = false ∧ (s'.page tag).taken = false ∧
    (s'.evq tag).active = false ∧ (s'.evq tag).mask = [] ∧ (s'.evq tag).copyMask = [] ∧
    (∀ k, k ≠ tag → s'.inst k = s.inst k ∧ s'.evq k = s.evq k) ∧
    s'.now = s.now ∧ s'.tim = s.tim ∧ s'.cart = s.cart ∧ s'.aud = s.aud ∧ s'.isl = s.isl ∧ s'.test = s.test ∧ s'.lcy = s.lcy

/-- Table 4-11, R116, R118, R120, R475, R476: the disable points: FLR of the PF disables every instance and of a VF that one, and the
function's registers take their reset values; a change of VF Enable or NumVFs disables the VFs and VF Enable enables those off; the
link's loss and PERST_N's fall disable all and clear configuration space; clearing PASID Enable disables the slices.  PERST_N's rise
answers with Retry Status; once the PF page is READY the link is up, Retry Status ends and the PF is enabled. -/
def Sys2Proof.Say.disablePointsSay : Prop :=
  ∀ (t : Nat) (s : State), Formed s →
  (∀ fn, 1 ≤ fn → fn ≤ 31 → s.enabled fn = true → ∃ s', exec (.functionLevelReset t fn) s = .next s' ∧
    (s'.inst fn).phase = .disabling ∧ s'.func fn = {} ∧ (∀ k, k ≠ fn → s'.inst k = s.inst k ∧ s'.func k = s.func k)) ∧
  (∃ s', exec (.functionLevelReset t 0) s = .next s' ∧ (∀ k, s'.enabled k = false) ∧ s'.ins.fns = [] ∧
    s'.ins.vfEnable = false ∧ s'.ins.pasidEn = false ∧ s'.ins.linkUp = s.ins.linkUp) ∧
  (∀ n, ∃ s', exec (.vfEnableChange t false n) s = .next s' ∧ s'.ins.vfEnable = false ∧
    (s.ins.vfEnable = true → ∀ k, isVf k = true → s'.enabled k = false) ∧
    (∀ k, isVf k = false → s'.inst k = s.inst k)) ∧
  (∀ n, s.ins.vfEnable = false → ∃ s', exec (.vfEnableChange t true n) s = .next s' ∧ s'.ins.vfEnable = true ∧
    s'.ins.numVfs = min n 31 ∧ (∀ k, 1 ≤ k → k ≤ min n 31 → (s.inst k).phase = .off → s'.enabled k = true) ∧
    (∀ k, k = 0 ∨ min n 31 < k → s'.inst k = s.inst k)) ∧
  (s.ins.linkUp = true → ∃ s', exec (.pcieLinkDown t) s = .next s' ∧ (∀ k, s'.enabled k = false) ∧ s'.ins.fns = [] ∧
    s'.ins.vfEnable = false ∧ s'.ins.pasidEn = false ∧ s'.ins.linkUp = false) ∧
  (∃ s', exec (.pasidEnableClear t) s = .next s' ∧ s'.ins.pasidEn = false ∧ (∀ k, isSlice k = true → s'.enabled k = false) ∧
    (∀ k, isSlice k = false → s'.inst k = s.inst k)) ∧
  (s.lcy.powerGood = true → ∃ s', exec (.perstNFall t) s = .next s' ∧ (∀ k, s'.enabled k = false) ∧ s'.ins.fns = [] ∧
    s'.ins.linkUp = false ∧ s'.ins.perstN = false) ∧
  (s.ins.perstN = false → ∃ s', exec (.perstNRise t) s = .next s' ∧ s'.ins.perstN = true ∧ s'.ins.perstAt = (s.tick t).now ∧
    s'.lcy.crs = true ∧ s' = { s.tick t with ins := s'.ins, lcy := s'.lcy }) ∧
  (s.ins.perstN = true → s.lcy.powerGood = true → s.mbx.state = .serving → (s.inst 0).phase = .off →
    ∃ s', exec (.pfPageReady t) s = .next s' ∧ s'.ins.linkUp = true ∧ s'.lcy.crs = false ∧ s'.enabled 0 = true ∧
      (s'.page 0).ready = true ∧ (s'.page 0).s2h = s.readyWord ∧ (s'.page 0).s2hFull = true ∧
      (∀ k, k ≠ 0 → s'.inst k = s.inst k) ∧ s' = { s.tick t with ins := s'.ins, lcy := s'.lcy, mbx := s'.mbx })

/-- Table 4-12 steps 6 and 7, R117, R140, R546: once no session of a slice goes on, every live object it owns has its generation
raised or is retired, and no other object changes; its queue pairs, tables, faults and snapshot are gone and its parameters and rights
take their defaults. -/
def Sys2Proof.Say.disableEndsSay : Prop :=
  ∀ (t tag : Nat) (s : State), isSlice tag = true → (s.inst tag).phase = .disabling →
    s.fare.sessions.any (fun p => p.2.tenant == tag && p.2.outcome.isNone) = false → s.mbx.held = none →
    ∃ s', exec (.disableRevoke t tag) s = .next s' ∧ s'.inst tag = {} ∧ (∀ e ∈ s'.ins.tlb, e.tag ≠ tag) ∧
      (∀ n, (s.obj n).owner = tag → (s.obj n).state = .live → (s'.obj n).state ≠ .live ∧
        ((s.obj n).gen < 65535 → (s'.obj n).gen = (s.obj n).gen + 1)) ∧
      (∀ n, (s.obj n).owner ≠ tag → s'.obj n = s.obj n) ∧
      tfind s'.cfg.rights tag = none ∧ (∀ p ∈ s'.cfg.params, p.1 / 65536 ≠ tag) ∧ (∀ k, k ≠ tag → s'.inst k = s.inst k)

/-- The disable sequence at each of its points and at its end. -/
def Obligations.DisableRunsAndEnds : Prop := Sys2Proof.Say.disablePointsSay ∧ Sys2Proof.Say.disableEndsSay

/-- Table 4-8, R98, R99, R105, R108, R113: what the instance-area commands do.  INS_QP_SETUP of a DISABLED pair whose arguments
are in range makes it ACTIVE with empty rings and phase 1; INS_QP_RESET makes it DISABLED and keeps its count of dropped
completions; INS_QP_STATUS answers state, indexes and that count; INS_XLATE_SET sets or clears the root while no pair is ACTIVE and drops
the instance's translations; INS_FAULT_GET answers and removes the oldest records; INS_SLICE_CREATE enables the lowest free slice. -/
def Obligations.InstanceCommands : Prop :=
  ∀ (t tag : Nat) (io : HostIo) (s : State) (a : List Word),
  let s0 := s.tick t
  let q := fld (arg a 1) 3 0
  let p := s.qp tag q
  (q < qpCount tag → fld (arg a 7) 7 0 ≠ 0 → ofTwo (arg a 2) (arg a 3) % 4096 = 0 → ofTwo (arg a 4) (arg a 5) % 4096 = 0 →
    (4 ≤ fld (arg a 6) 3 0 ∧ fld (arg a 6) 3 0 ≤ 12) → (4 ≤ fld (arg a 6) 11 8 ∧ fld (arg a 6) 11 8 ≤ 12) →
    vectorOk tag (fld (arg a 6) 21 16) = true → p.state = .disabled →
    Answers (.insQpSetup t tag io) s a 0 [] (s0.modQp tag q (fun p =>
      { state := .active, sqBase := ofTwo (arg a 2) (arg a 3), cqBase := ofTwo (arg a 4) (arg a 5)
        sqLog2 := fld (arg a 6) 3 0, cqLog2 := fld (arg a 6) 11 8, vector := fld (arg a 6) 21 16, coalN := fld (arg a 7) 7 0
        coalT := fld (arg a 7) 15 8 * 10000, dropped := p.dropped }))) ∧
  (q < qpCount tag → fld (arg a 7) 7 0 ≠ 0 → ofTwo (arg a 2) (arg a 3) % 4096 ≠ 0 →
    Answers (.insQpSetup t tag io) s a 0x0302 [] s0) ∧
  (q < qpCount tag → ∃ s1, Answers (.insQpReset t tag io) s a 0 [] s1 ∧
    s1.qp tag q = { state := .disabled, dropped := p.dropped } ∧ (∀ k, k ≠ tag → s1.inst k = s.inst k) ∧
    (∀ j, j ≠ q → s1.qp tag j = s.qp tag j) ∧ s1 = { s0 with ins := s1.ins, sea := s1.sea, net := s1.net }) ∧
  (q < qpCount tag → Answers (.insQpStatus t tag io) s a 0
    [wd (qpCode p.state), wd (p.sqHead + p.sqTail * 2 ^ 16), wd (p.cqHead + p.cqTail * 2 ^ 16), wd p.dropped] s0) ∧
  (bit (arg a 3) 0 = true → ofTwo (arg a 1) (arg a 2) % 32768 = 0 →
    (s.inst tag).qps.any (fun p => p.2.state == .active) = false → ∃ s1, Answers (.insXlateSet t tag io) s a 0 [] s1 ∧
    s1.inst tag = { s.inst tag with root := some (ofTwo (arg a 1) (arg a 2)) } ∧ (∀ e ∈ s1.ins.tlb, e.tag ≠ tag) ∧
    (∀ k, k ≠ tag → s1.inst k = s.inst k) ∧ s1 = { s0 with ins := s1.ins }) ∧
  (∃ s1, Answers (.insXlateInval t tag io) s a 0 [] s1 ∧
    (∀ e ∈ s1.ins.tlb, e ∈ s.ins.tlb ∧ ¬ (e.tag = tag ∧ ((arg a 3).toNat = 0 ∨
      (ofTwo (arg a 1) (arg a 2) / 4096 ≤ e.page ∧ e.page < ofTwo (arg a 1) (arg a 2) / 4096 + (arg a 3).toNat)))) ∧
    s1 = { s0 with ins := { s.ins with tlb := s1.ins.tlb, invals := s1.ins.invals } }) ∧
  (fld (arg a 1) 1 0 = 1 ∨ fld (arg a 1) 1 0 = 2 → ∃ rs s1, Answers (.insFaultGet t tag io) s a 0 rs s1 ∧
    rs.head? = some (wd (((s.inst tag).faults.take (fld (arg a 1) 1 0)).length + (s.inst tag).faultsLost * 256)) ∧
    s1.inst tag = { s.inst tag with faults := (s.inst tag).faults.drop (fld (arg a 1) 1 0) } ∧
    (∀ k, k ≠ tag → s1.inst k = s.inst k) ∧ s1 = { s0 with ins := { s.ins with insts := s1.ins.insts } }) ∧
  (∀ g, fld (arg a 1) 19 0 ≠ 0 → fld (arg a 2) 5 0 ≠ 0 → s.ins.pasidEn = true →
    s.ins.insts.any (fun p => isSlice p.1 && p.2.phase != .off && p.2.pasid == fld (arg a 1) 19 0) = false →
    s.freeSlice = some g → Answers (.insSliceCreate t tag io) s a 0 [wd g] (s0.enable g (fld (arg a 1) 19 0) (fld (arg a 2) 5 0))) ∧
  (isPf (fld (arg a 1) 9 0) = false → fld (arg a 1) 9 0 ≤ 287 →
    Stages (.insRightsSet t tag io) s a (.rights (fld (arg a 1) 9 0) (BitVec.ofNat 16 (arg a 2).toNat)) 0 []) ∧
  (isSlice (fld (arg a 1) 9 0) = true → s.enabled (fld (arg a 1) 9 0) = true → Runs (.insSliceDestroy t tag io) s a →
    ∃ s', exec (.insSliceDestroy t tag io) s = .next s' ∧
      s'.mbx.held = some { tag, results := [], wait := .teardown (fld (arg a 1) 9 0) } ∧
      (s'.inst (fld (arg a 1) 9 0)).phase = .disabling) ∧
  (let n := fld (arg a 3) 4 0;
    ofTwo (arg a 1) (arg a 2) % 4096 = 0 → 6 ≤ n → n ≤ 16 → vectorOk tag (fld (arg a 3) 21 16) = true →
    (s.evq tag).lostPending = 0 → s.evt.zeroisedFor = [] → ∃ s1, Answers (.insEqSetup t tag io) s a 0 [] s1 ∧
    s1.evq tag = { s.evq tag with
      active := true, base := ofTwo (arg a 1) (arg a 2), log2 := n, vector := fld (arg a 3) 21 16, head := 0, tail := 0
      phase := true, used := 0 } ∧ (∀ k, k ≠ tag → s1.evq k = s.evq k) ∧ s1 = { s0 with evt := s1.evt }) ∧
  (let g := if fld (arg a 1) 9 0 = 0x3FF then tag else fld (arg a 1) 9 0;
    (287 < g → Answers (.insStatus t tag io) s a 0x0012 [] s0) ∧
    (g ≤ 287 → ∃ rs, Answers (.insStatus t tag io) s a 0 rs s0 ∧ rs.length = 5 ∧
      rs.getD 0 0 = wd (b2n (s.enabled g) + 2 * b2n (s.inst g).root.isSome + 4 * b2n (s.bme g)) ∧ rs.getD 4 0 = wd (s.inst g).pasid))

/-! ### 05 Authority -/

/-- R135, R136, R138, R139: a revocation raises the object's generation, frees its descendants and leaves every other object alone,
and its reply waits for the broadcast; a release frees the object too.  Each unit acknowledges; with the last one the reply goes
out. -/
def Obligations.Revocation : Prop :=
  (∀ (t tag : Nat) (io : HostIo) (s : State) (a : List Word) (c : Cap), Runs (.capRevoke t tag io) s a →
    (s.tick t).handleFor tag (argHandle a 1) (fun _ => true) (1 <<< rRevoke) = .ok c → s.live c.object = true →
    (s.obj c.object).gen < 65535 → ∃ s', exec (.capRevoke t tag io) s = .next s' ∧
      (s'.obj c.object) = { s.obj c.object with gen := (s.obj c.object).gen + 1 } ∧
      (∀ k, k ≠ c.object → underIn s.cap.objs 4 c.object k = true → (s'.obj k).state ≠ .live) ∧
      (∀ k, underIn s.cap.objs 4 c.object k = false → s'.obj k = s.obj k) ∧
      (∃ h, s'.mbx.held = some h ∧ h.tag = tag ∧ h.status = 0 ∧ h.wait = .broadcast) ∧ s'.page tag = s.page tag ∧
      s' = { s.tick t with cap := s'.cap, mbx := { s.mbx with held := s'.mbx.held } }) ∧
  (∀ (t tag : Nat) (io : HostIo) (s : State) (a : List Word) (c : Cap), Runs (.capRelease t tag io) s a →
    (s.tick t).handleOk tag (argHandle a 1) = .ok c → ∃ s', exec (.capRelease t tag io) s = .next s' ∧
      (∀ k, underIn s.cap.objs 4 c.object k = true → (s'.obj k).state ≠ .live) ∧
      (∀ k, underIn s.cap.objs 4 c.object k = false → s'.obj k = s.obj k) ∧
      s'.mbx.held = some { tag, status := 0, results := [], wait := .broadcast } ∧
      s' = { s.tick t with cap := s'.cap, mbx := { s.mbx with held := s'.mbx.held } }) ∧
  (∀ (t unit : Nat) (s : State) (b : Broadcast) (h : Held), s.cap.broadcasts = [b] → b.units = [unit] → s.mbx.held = some h →
    h.wait = .broadcast → ∃ s', exec (.generationBroadcastAck t unit) s = .next s' ∧
      Replied { s.tick t with cap := { s.cap with broadcasts := [] }, mbx := { s.mbx with held := none } } s' h.tag h.status h.results) ∧
  (∀ (t unit u : Nat) (s : State) (b : Broadcast), s.cap.broadcasts = [b] → unit ∈ b.units → u ∈ b.units → u ≠ unit →
    exec (.generationBroadcastAck t unit) s =
      .next { s.tick t with cap := { s.cap with broadcasts := [{ b with units := b.units.filter (· ≠ unit) }] } })

/-- R134: a child lies in its parent's window, one level deeper in its tree, minted LIVE with the generation after the one its
entry last held; it changes no other live object. -/
def Obligations.ChildObjects : Prop :=
  ∀ (s s1 : State) (parent owner level off len n : Nat) (rights : BitVec 16),
    s.child parent owner level rights off len = .ok (n, s1) → Formed s →
    let o := s.obj parent
    (s1.obj n).state = .live ∧ (s1.obj n).gen = (s.obj n).gen + 1 ∧ (s.obj n).state ≠ .live ∧ (s1.obj n).owner = owner ∧
    (s1.obj n).rights = rights ∧ (s1.obj n).level = level ∧ (s1.obj n).parent = parent ∧ (s1.obj n).depth = o.depth + 1 ∧
    (s1.obj n).depth ≤ 4 ∧ (s1.obj n).type = o.type ∧ 1 ≤ n ∧ n ≤ 65535 ∧
    ((o.type = 1 ∨ o.type = 6) → o.base ≤ (s1.obj n).base ∧ (s1.obj n).base + (s1.obj n).length ≤ o.base + o.length ∧
      (s1.obj n).base = o.base + off) ∧
    (∀ k, (s.obj k).state = .live → s1.obj k = s.obj k) ∧ s1 = { s with cap := { s.cap with objs := s1.cap.objs } }

/-- R131, R134, R141, R148, R149: what the capability-area commands answer for a handle that passes its checks: CAP_INFO the object's
words; CAP_DERIVE and CAP_GRANT the sealed handle of the child made, owned by the caller or by the tenant named, and refused with
ST_CAP_RIGHTS (0x0401) for a right the handle lacks; CAP_GATE_INFO the gate's descriptor; CAP_FAULT_GET the record asked for. -/
def Sys2Proof.Say.capabilityCommandsSay : Prop :=
  ∀ (t tag : Nat) (io : HostIo) (s : State) (a : List Word),
  let s0 := s.tick t
  let want : BitVec 16 := BitVec.ofNat 16 (fld (arg a 5) 15 0)
  let give : BitVec 16 := BitVec.ofNat 16 (fld (arg a 6) 15 0)
  let dst := fld (arg a 5) 9 0
  (∀ c, s0.handleOk tag (argHandle a 1) = .ok c → Answers (.capInfo t tag io) s a 0
    [ wd ((s.obj c.object).gen * 2 ^ 16 + c.object)
    , wd ((s.obj c.object).rights.toNat + (s.obj c.object).type * 2 ^ 16 + (s.obj c.object).level * 2 ^ 20 +
        (s.obj c.object).owner * 2 ^ 22)
    , wd ((s.obj c.object).parent + (s.obj c.object).depth * 2 ^ 16 + s.treeCount c.object * 2 ^ 20)
    , wd (s.obj c.object).offset, wd (s.obj c.object).length, (s.obj c.object).label ] s0) ∧
  (∀ e, s0.handleOk tag (argHandle a 1) = .error e → Answers (.capInfo t tag io) s a e [] s0) ∧
  (∀ c n s1, s0.handleFor tag (argHandle a 1) (fun _ => true) (1 <<< rDerive) = .ok c → rightsSub want c.rights = true →
    s0.child c.object tag c.level want (arg a 6).toNat (arg a 7).toNat = .ok (n, s1) →
    Answers (.capDerive t tag io) s a 0 (handleWords (s1.sealed ((s1.obj n).cap n))) s1) ∧
  (∀ c, s0.handleFor tag (argHandle a 1) (fun _ => true) (1 <<< rDerive) = .ok c → rightsSub want c.rights = false →
    Answers (.capDerive t tag io) s a 0x0401 [] s0) ∧
  (∀ c n s1, s0.handleFor tag (argHandle a 1) (fun _ => true) (1 <<< rGrant) = .ok c → isPf dst = false → dst ≤ 287 →
    s.enabled dst = true → give.getLsbD rGrant = false → rightsSub give c.rights = true →
    s0.child c.object dst 2 give (arg a 7).toNat (arg a 8).toNat = .ok (n, s1) →
    Answers (.capGrant t tag io) s a 0 (handleWords (s1.sealed ((s1.obj n).cap n))) s1) ∧
  ((arg a 3).toNat = 0 ∨ (arg a 3).toNat % 16 ≠ 0 → Answers (.capList t tag io) s a 0x0011 [] s0) ∧
  (let mine := s.cap.objs.filter (fun p =>
      p.2.state == .live && p.2.owner == tag && handleType p.2.type && decide (fld (arg a 4) 15 0 ≤ p.1));
    ∀ s1, 0 < (arg a 3).toNat → (arg a 3).toNat % 16 = 0 → mine.length ≤ (arg a 3).toNat / 16 →
    s0.hostWrite tag (ofTwo (arg a 1) (arg a 2)) (mine.flatMap (fun p => toLe 16 (s.sealed (p.2.cap p.1)).toNat)) io.dataFault = (0, s1) →
    Answers (.capList t tag io) s a 0 [wd mine.length, 0] s1) ∧
  (∀ g, s.gate (fld (arg a 1) 15 0) = some g →
    Answers (.capGateInfo t tag io) s a 0
      [wd (g.number + g.caste * 2 ^ 16 + g.level * 2 ^ 20), (g.slots.getD 0 {}).a, (g.slots.getD 0 {}).b, (g.slots.getD 1 {}).a
      , (g.slots.getD 1 {}).b, (g.slots.getD 2 {}).a, (g.slots.getD 2 {}).b] s0 ∧
    (g.level < accessLevel tag → Answers (.capGateOpen t tag io) s a 0x0014 [] s0) ∧
    (∀ n s1, accessLevel tag ≤ g.level → s0.mintRoot tag (accessLevel tag) 2 (1 <<< rCall) (.gate g.number) 0 0 = some (n, s1) →
      Answers (.capGateOpen t tag io) s a 0 (handleWords (s1.sealed ((s1.obj n).cap n))) s1)) ∧
  (∀ f, s.cap.faults.find? (fun f => f.seq == (arg a 1).toNat && (isPf tag || f.tag == tag)) = some f →
    Answers (.capFaultGet t tag io) s a 0 (leWords (s.faultView tag f).bytes) s0) ∧
  (s.cap.faults.find? (fun f => f.seq == (arg a 1).toNat && (isPf tag || f.tag == tag)) = none →
    Answers (.capFaultGet t tag io) s a 0x0409 [] s0)

/-- An access of a running cell through a capability register passes the checks of R350: it is aligned, the capability allows it, and
region r of the MPU instance m that guards its address permits it. -/
def Sys2Proof.Say.Reach (s : State) (cell auth off size : Nat) (read write : Bool) (m r : Nat) : Prop :=
  let x : CapReg := tget (s.cell cell).c auth {}
  let a := s.capAddr x.cap off
  s.cellRuns cell = true ∧ 1 ≤ size ∧ a % 16 + size ≤ 16 ∧ s.capCause cell x off size read write = none ∧
    (∀ k, (s.obj x.cap.object).what ≠ .iova k) ∧ mpuAt s.mem.extMib a = some m ∧ s.mpuRegion m (s.cell cell).charge a = r ∧
    r < 32 ∧ (s.region s.cfg m r).permits
      { addr := a, level := (s.cell cell).level, charge := (s.cell cell).charge, cell, read, write } = true

/-- The address that an offset names through a cell's capability register. -/
def Sys2Proof.Say.addrOf (s : State) (cell auth off : Nat) : Nat :=
  s.capAddr (tget (s.cell cell).c auth {} : CapReg).cap off

/-- R127 to R129: a capability store enters the store buffer with its register's tag, and traps with cause 7 where the register lacks
STORE or the region holds no capabilities; a capability load delivers the 16 bytes of the granule with its hidden tag; a register
derivation keeps the tag only if it gains no right, no address and no privilege. -/
def Sys2Proof.Say.cellCapabilitiesSay : Prop :=
  ∀ (t cell auth off : Nat) (s : State),
  let s0 := s.tick t
  let a := addrOf s cell auth off
  (∀ src m r, Reach s0 cell auth off 16 false true m r →
    let x : CapReg := tget (s.cell cell).c src {}
    (x.tag = false ∨ x.cap.rights.getLsbD rStore = true) ∧ (s.region s.cfg m r).capst = true → (s.cell cell).stores.length < 8 →
    ∃ s', exec (.capabilityStore t cell auth off src) s = .next s' ∧
      (s'.cell cell) = { s.cell cell with
        stores := (s.cell cell).stores ++
          [{ addr := a, data := x.cap.bytes, cap := some x, cached := (s.region s.cfg m r).cacheable }]
        stalled := false } ∧
      (∀ k, k ≠ cell → s'.cell k = s.cell k) ∧ s' = { s0 with sea := { s.sea with cells := s'.sea.cells } }) ∧
  (∀ src m r, Reach s0 cell auth off 16 false true m r →
    let x : CapReg := tget (s.cell cell).c src {}
    (x.tag = true ∧ x.cap.rights.getLsbD rStore = false) ∨ (s.region s.cfg m r).capst = false →
    exec (.capabilityStore t cell auth off src) s = .next (s0.trap cell 7 { reg := auth, offset := off, size := 16, write := true } none)) ∧
  (∀ dst m r, dst ≤ 15 → Reach s0 cell auth off 16 true false m r → (s.cell cell).overlap a 16 = none →
    (s.region s.cfg m r).cacheable = false → openArea a = false →
    ∃ s', exec (.capabilityLoad t cell auth off dst) s = .next s' ∧
      s' = s0.modCell cell (fun c => { c with
        c := tset c.c dst { tag := s.mem.tags.contains (a / 16), cap := capOfBytes ((List.range 16).map (fun i => s.memByte (a + i))) }
        stalled := false })) ∧
  (∀ dst m r e, dst ≤ 15 → Reach s0 cell auth off 16 true false m r → (s.cell cell).overlap a 16 = some e →
    (e.cap = none → exec (.capabilityLoad t cell auth off dst) s = .next (s0.modCell cell (fun c => { c with stalled := true }))) ∧
    (∀ x, e.cap = some x → exec (.capabilityLoad t cell auth off dst) s =
      .next (s0.modCell cell (fun c => { c with c := tset c.c dst x, stalled := false })))) ∧
  (∀ dst src rights o len level, s.cellRuns cell = true → dst ≤ 15 →
    ∃ s', exec (.registerDerive t cell dst src rights o len level) s = .next s' ∧
      let x : CapReg := tget (s.cell cell).c src {}
      let y : CapReg := tget (s'.cell cell).c dst {}
      y.cap = { x.cap with rights := BitVec.ofNat 16 rights, offset := o % 2 ^ 32, length := len % 2 ^ 32, level := level % 4 } ∧
      (y.tag = true → x.tag = true ∧ rightsSub y.cap.rights x.cap.rights = true ∧ x.cap.offset ≤ y.cap.offset ∧
        y.cap.offset + y.cap.length ≤ x.cap.offset + x.cap.length ∧ x.cap.level ≤ y.cap.level) ∧
      (∀ k, k ≠ dst → tget (s'.cell cell).c k {} = tget (s.cell cell).c k {}) ∧ (∀ k, k ≠ cell → s'.cell k = s.cell k) ∧
      s' = { s0 with sea := { s.sea with cells := s'.sea.cells } })

/-- Capabilities by the host's commands and by the cells. -/
def Obligations.CapabilityUse : Prop := Sys2Proof.Say.capabilityCommandsSay ∧ Sys2Proof.Say.cellCapabilitiesSay

/-- R141 to R146, R148: a call gate whose checks pass puts a frame on the cell's stack, sets its level, entry point and stack
capability, and keeps only c0 to c2 and g0 to g3 beside c14 and c15; its return needs the innermost frame's RETURN capability in c14 and
restores level, return point and c15, else it traps with cause 0x0A; the return of a hub-entered request ends its job.  A trap writes
the next fault record and is counted on its cell. -/
def Obligations.CallGates : Prop :=
  ∀ (t cell : Nat) (s : State),
  let s0 := s.tick t
  let c := s.cell cell
  (∀ reg ret g, s.cellRuns cell = true → s0.workerEntry c (tget c.c reg {}) = .ok g →
    ∃ s', exec (.callGateEntry t cell reg ret) s = .next s' ∧
      (s'.cell cell).frames = { c15 := tget c.c 15 {}, level := c.level, ret, gate := g.number, serial := s.cap.frameSerial } :: c.frames ∧
      (s'.cell cell).level = g.level ∧ (s'.cell cell).point = g.entryPoint ∧
      (tget (s'.cell cell).c 15 {} : CapReg) = g.stack ∧ (∀ k, k ≤ 2 → (tget (s'.cell cell).c k {} : CapReg) = tget c.c k {}) ∧
      (∀ k, 3 ≤ k → k ≤ 13 → (tget (s'.cell cell).c k {} : CapReg) = {}) ∧
      (∀ k, 4 ≤ k → tget (s'.cell cell).gr k 0 = 0) ∧ (∀ k, k ≤ 3 → tget (s'.cell cell).gr k 0 = tget c.gr k 0) ∧
      (∀ k, k ≠ cell → s'.cell k = s.cell k) ∧
      s' = { s0 with sea := { s.sea with cells := s'.sea.cells }, cap := { s.cap with frameSerial := s.cap.frameSerial + 1 } }) ∧
  (∀ reg ret cause detail, s.cellRuns cell = true → s0.workerEntry c (tget c.c reg {}) = .error (cause, detail) →
    ∃ g, exec (.callGateEntry t cell reg ret) s = .next (s0.trap cell cause { reg, gate := g, detail } none)) ∧
  (∀ f fs, s.cellRuns cell = true → c.frames = f :: fs → c.returnFrame 14 = some f →
    ∃ s', exec (.callGateReturn t cell 14) s = .next s' ∧ (s'.cell cell).frames = fs ∧ (s'.cell cell).level = f.level ∧
      (s'.cell cell).point = f.ret ∧ (tget (s'.cell cell).c 15 {} : CapReg) = f.c15 ∧
      (∀ k, 1 ≤ k → k ≤ 13 → (tget (s'.cell cell).c k {} : CapReg) = {}) ∧
      ((tget (s'.cell cell).c 0 {} : CapReg).tag = true → f.level ≤ (tget c.c 0 {} : CapReg).cap.level) ∧
      (∀ k, k ≠ cell → s'.cell k = s.cell k) ∧ s' = { s0 with sea := { s.sea with cells := s'.sea.cells } }) ∧
  (∀ reg, s.cellRuns cell = true → c.returnFrame reg = none → ∃ g,
    exec (.callGateReturn t cell reg) s = .next (s0.trap cell 0x0A { reg, gate := g } none)) ∧
  (∀ body io n j, c.request = some n → c.frames = [] → s.job n = some j → ∃ s', exec (.hubRequestReturn t cell body io) s = .next s' ∧
    s' = (s0.drainAll cell).endJob n (fld (tget c.gr 0 0) 15 0) (body.take 224) io.cqFault ∧ s'.job n = none ∧
    (s'.cell cell).request = none) ∧
  (∀ cause info io, s.cellRuns cell = true → cell < 768 → 1 ≤ cause → cause ≤ 0x11 → ∃ s' r, exec (.cellTrap t cell cause info io) s = .next s' ∧
    s'.cap.faults = (r :: s.cap.faults).take 256 ∧ r.seq = s.cap.faultSeq ∧ r.cell = cell ∧ r.cause = cause ∧
    r.handling = trapFaults cause c.level ∧ s'.cap.faultSeq = (s.cap.faultSeq + 1) % 2 ^ 32 ∧
    s'.counter 5 cell 2 = min statMax (s.counter 5 cell 2 + 1))

/-- R152: an uncorrectable error of an object-table entry is counted, retires the entry, which fails every check from then on, and raises
EV_CAP_TABLE_ECC (0x0402) to the PF unless the PF masks the code or the source; no other object changes. -/
def Obligations.ObjectTableError : Prop :=
  ∀ (t obj : Nat) (s : State), 1 ≤ obj → obj ≤ 65535 →
  let s0 := s.tick t
  ∃ s', exec (.objectTableEcc t obj) s = .next s' ∧ s'.obj obj = { s.obj obj with state := .retired } ∧
    (∀ c : Cap, c.object = obj → s'.capValid c = false) ∧ (∀ k, k ≠ obj → s'.obj k = s.obj k) ∧
    s'.cap.eccErrors = s.cap.eccErrors + 1 ∧
    (s.evt.srcMask.contains srcObjects = false → (s.evq 0).mask.contains 0x0402 = false → s'.evt.raised = insertRaise
      { code := 0x0402, source := srcObjects, tag := tagDevice, at_ := s0.now, rcpt := [(0, false)], sec := s0.sec32, ns := s0.servedNs
        data := wd obj } s.evt.raised) ∧
    s' = { s0 with cap := s'.cap, evt := s'.evt, out := s'.out }

/-! ### 13 Memory -/

/-- R355, R356, R357, Table 13-8: a load takes its bytes from the youngest overlapping store that contains it, stalls on one that does
not, and reads memory where none overlaps; a store enters the buffer, or stalls while 8 are held; the oldest store drains to
exactly its bytes and clears the hidden tag of the granules it touches; FENCE leaves no store buffered; a compare-and-swap writes
its 8 bytes if and only if the expected value stood there; an access whose check fails traps with the first cause of R350. -/
def Obligations.CellMemory : Prop :=
  ∀ (t cell auth off : Nat) (s : State),
  let s0 := s.tick t
  let a := addrOf s cell auth off
  let c := s.cell cell
  (∀ size m r, Reach s0 cell auth off size true false m r →
    (∀ e, c.overlap a size = some e → e.addr ≤ a ∧ a + size ≤ e.addr + e.data.length →
      exec (.cellLoad t cell auth off size) s =
        .next (s0.modCell cell (fun c => { c with loaded := slice e.data (a - e.addr) size, stalled := false }))) ∧
    (∀ e, c.overlap a size = some e → ¬ (e.addr ≤ a ∧ a + size ≤ e.addr + e.data.length) →
      exec (.cellLoad t cell auth off size) s = .next (s0.modCell cell (fun c => { c with stalled := true }))) ∧
    (c.overlap a size = none → (s.region s.cfg m r).cacheable = false → openArea a = false →
      exec (.cellLoad t cell auth off size) s = .next (s0.modCell cell (fun c =>
        { c with loaded := (List.range size).map (fun i => s.memByte (a + i)), stalled := false })))) ∧
  (∀ data m r, Reach s0 cell auth off data.length false true m r →
    ∃ s', exec (.cellStore t cell auth off data) s = .next s' ∧
      s'.cell cell = (if 8 ≤ c.stores.length then { c with stalled := true }
        else { c with stores := c.stores ++ [{ addr := a, data, cached := (s.region s.cfg m r).cacheable }], stalled := false }) ∧
      (∀ k, k ≠ cell → s'.cell k = s.cell k) ∧ s' = { s0 with sea := { s.sea with cells := s'.sea.cells } }) ∧
  (∀ data cause, s.cellRuns cell = true → 1 ≤ data.length → a % 16 + data.length ≤ 16 →
    s0.capCause cell (tget c.c auth {}) off data.length false true = some cause →
    exec (.cellStore t cell auth off data) s =
      .next (s0.trap cell cause { reg := auth, offset := off, size := data.length, write := true } none)) ∧
  (∀ data, s.cellRuns cell = true → 1 ≤ data.length → 16 < a % 16 + data.length →
    exec (.cellStore t cell auth off data) s =
      .next (s0.trap cell 0x0C { reg := auth, offset := off, size := data.length, write := true } none)) ∧
  (∀ e r, c.stores = e :: r → e.cached = false → e.cap = none → e.data ≠ [] → ∃ s', exec (.storeDrain t cell) s = .next s' ∧
    s'.cell cell = { c with stores := r } ∧ (∀ k, k ≠ cell → s'.cell k = s.cell k) ∧
    (∀ b, readByte s'.mem.bytes b =
      if e.addr ≤ b ∧ b < e.addr + e.data.length then e.data.getD (b - e.addr) 0 else readByte s.mem.bytes b) ∧
    (∀ g, g ∈ s'.mem.tags ↔ g ∈ s.mem.tags ∧ (g < e.addr / 16 ∨ (e.addr + e.data.length - 1) / 16 < g)) ∧
    s' = { s0 with sea := { s.sea with cells := s'.sea.cells }, mem := { s.mem with bytes := s'.mem.bytes, tags := s'.mem.tags } }) ∧
  (∃ s', exec (.fence t cell) s = .next s' ∧ (s'.cell cell).stores = [] ∧
    (c.stores = [] → s' = s0) ∧ s' = { s0 with sea := s'.sea, mem := s'.mem, freeCtr := s'.freeCtr }) ∧
  (∀ m r (old new : BitVec 64), Reach s0 cell auth off 8 true true m r → c.stores = [] → (s.region s.cfg m r).cacheable = false →
    openArea a = false → leaseAt a = none → ∃ s', exec (.atomicOperation t cell auth off old new) s = .next s' ∧
      (s'.cell cell).loaded = (List.range 8).map (fun i => s.memByte (a + i)) ∧
      (leNat ((List.range 8).map (fun i => s.memByte (a + i))) = old.toNat → s'.mem = (s.store a (toLe 8 new.toNat)).mem) ∧
      (leNat ((List.range 8).map (fun i => s.memByte (a + i))) ≠ old.toNat → s'.mem = s.mem) ∧
      (∀ k, k ≠ cell → s'.cell k = s.cell k) ∧ s' = { s0 with sea := { s.sea with cells := s'.sea.cells }, mem := s'.mem })

/-- R352, R353: a request for a line of a cacheable region with no other request in its cycle is served: READ gives a Shared copy, and
the owner's copy becomes Shared; OWN gives a Modified copy and leaves no other copy in the cluster; WRITEBACK of a Modified copy makes
it Invalid and the line unowned.  Of several READ and OWN requests in one cycle, one that the priority pointer passes over receives
RETRY and changes nothing else. -/
def Obligations.Directory : Prop :=
  ∀ (t cell line : Nat) (s : State),
  let s0 := s.tick t
  let key := lineKey cell line
  let pos := cell % 8
  let base := 8 * clusterOf cell
  (s0.cacheLine cell line = true → s.pending = [] → ∃ s', exec (.read t cell line) s = .next s' ∧ (s'.cell cell).retry = false ∧
    ((s.line key).dir ≠ .owned pos → tfind (s'.cell cell).l1 line = some .shared) ∧
    (∀ p, p < 8 → p ≠ pos → (s.line key).dir = .owned p →
      tfind (s'.cell (base + p)).l1 line = some .shared ∧ (s'.line key).dir = .shared (linsert [p] pos)) ∧
    (∀ ps, (s.line key).dir = .shared ps → (s'.line key).dir = .shared (linsert ps pos)) ∧
    (s'.line key).ptr = (pos + 1) % 8 ∧ (s'.line key).data.isSome = true ∧ (∀ k, k ≠ key → s'.line k = s.line k) ∧
    s' = { s0 with sea := { s.sea with cells := s'.sea.cells }, mem := { s.mem with lines := s'.mem.lines }, freeCtr := s'.freeCtr }) ∧
  (s0.cacheLine cell line = true → s.pending = [] → ∃ s', exec (.own t cell line) s = .next s' ∧ (s'.cell cell).retry = false ∧
    tfind (s'.cell cell).l1 line = some .modified ∧ (s'.line key).dir = .owned pos ∧ (s'.line key).ptr = (pos + 1) % 8 ∧
    (∀ p, p < 8 → p ≠ pos → tfind (s'.cell (base + p)).l1 line = none) ∧ (∀ k, k ≠ key → s'.line k = s.line k) ∧
    s' = { s0 with sea := { s.sea with cells := s'.sea.cells }, mem := { s.mem with lines := s'.mem.lines }, freeCtr := s'.freeCtr }) ∧
  (tfind (s.cell cell).l1 line = some .modified → ∃ s', exec (.writeback t cell line) s = .next s' ∧
    tfind (s'.cell cell).l1 line = none ∧ s'.line key = { s.line key with dir := .unowned } ∧ (∀ k, k ≠ cell → s'.cell k = s.cell k) ∧
    s' = { s0 with sea := { s.sea with cells := s'.sea.cells }, mem := { s.mem with lines := s'.mem.lines } }) ∧
  (tfind (s.cell cell).l1 line ≠ some .modified → exec (.writeback t cell line) s = .next s0) ∧
  (∀ c, c = .read t cell line ∨ c = .own t cell line → s0.cacheLine cell line = true →
    s.pending.filterMap (rival t (clusterOf cell) line) = [] →
    winner (s.line key).ptr (pos :: s.pending.filterMap (contender t (clusterOf cell) line)) ≠ some pos →
    exec c s = .next (s0.modCell cell (fun c => { c with retry := true })))

/-- R345, R347, R348, R351: in strict mode exactly one matching region decides, and two or more refuse the access and are counted; in
layered mode the lowest-numbered region that matches decides; an access is refused where the region's PERM bits for its level do
not permit it, and every refusal is logged under the next sequence number. -/
def Obligations.MpuDecides : Prop :=
  ∀ (s : State) (mpu : Nat) (a : Access), tget s.mem.eccBad mpu 0 ≤ s.now →
  let reg (r : Nat) : Region := s.region s.cfg mpu r
  (∀ r, s.cfg.layered mpu = false → r < 32 → (reg r).matchStrict a.charge a.addr = true →
    (∀ k, k < 32 → k ≠ r → (reg k).matchStrict a.charge a.addr = false) →
    ((reg r).permits a = true → s.mpuCheck mpu a = (true, s)) ∧
    ((reg r).permits a = false → (s.mpuCheck mpu a).1 = false ∧ (s.mpuCheck mpu a).2 = s.logRefusal mpu r a)) ∧
  (∀ r k, s.cfg.layered mpu = false → r < 32 → k < 32 → r ≠ k → (reg r).matchStrict a.charge a.addr = true →
    (reg k).matchStrict a.charge a.addr = true → (s.mpuCheck mpu a).1 = false ∧
      tget (s.mpuCheck mpu a).2.mem.overlap mpu 0 = tget s.mem.overlap mpu 0 + 1) ∧
  (∀ r, s.cfg.layered mpu = true → r < 32 → (reg r).matchLayered a.charge a.addr = true →
    (∀ k, k < r → (reg k).matchLayered a.charge a.addr = false) → ((s.mpuCheck mpu a).1 = true ↔ (reg r).permits a = true)) ∧
  ((∀ k, k < 32 → (reg k).matchLayered a.charge a.addr = false ∧ (reg k).matchStrict a.charge a.addr = false) →
    (s.mpuCheck mpu a).1 = false) ∧
  ((s.mpuCheck mpu a).1 = false → ∃ r, (s.mpuCheck mpu a).2.mem.refusals = (r :: s.mem.refusals).take 64 ∧ r.seq = s.mem.refusalSeq ∧
    r.mpu = mpu ∧ r.address = a.addr ∧ r.tag = a.charge ∧ (s.mpuCheck mpu a).2.mem.refusalSeq = s.mem.refusalSeq + 1)

/-- R137, R341, R342, R344, R349, R351, R360, R362: a DMA piece from a host buffer stores exactly the bytes of the blocks that the MPU
allowed, and moves nothing while its instance is not enabled or Bus Master Enable is 0; an uncorrectable descriptor error makes its MPU
instance refuse until the descriptors are rewritten; and what the memory-area commands answer. -/
def Obligations.MemoryCommands : Prop :=
  ∀ (t tag : Nat) (io : HostIo) (s : State) (a : List Word),
  let s0 := s.tick t
  let m := fld (arg a 1) 2 0
  let n := fld (arg a 1) 12 8
  let r := regionOf (arg a 2) (arg a 3) (arg a 4)
  (∀ (j : DmaReq) (s1 s2 : State) (mpu k : Nat), j.cell = none → s.enabled j.tag = true → s.bme j.tag = true → j.write = true →
    s0.hostRead j.tag j.iova j.data.length 3 j.fault = .ok s1 → mpuAt s1.mem.extMib j.addr = some mpu →
    State.mpuRun mpu (j.data.length / 256 + 2)
      { addr := j.addr, level := accessLevel j.tag, charge := j.tag, write := true, dma := true } j.data.length s1 = (k, s2) →
    ∃ s', exec (.dmaPiece t j) s = .next s' ∧
      (∀ b, readByte s'.mem.bytes b =
        if j.addr ≤ b ∧ b < j.addr + min k j.data.length then j.data.getD (b - j.addr) 0 else readByte s2.mem.bytes b) ∧
      s' = { s2 with mem := { s2.mem with bytes := s'.mem.bytes, tags := s'.mem.tags } }) ∧
  (∀ j : DmaReq, j.cell = none → s.enabled j.tag = false ∨ s.bme j.tag = false → exec (.dmaPiece t j) s = .next s0) ∧
  (m ≤ 5 → ∃ s', exec (.mpuEcc t m) s = .next s' ∧ tget s'.mem.eccBad m 0 = s0.now + 1000000 ∧
    (∀ c x, s'.mpuRegion m c x = 0xFF) ∧
    s' = { s0 with mem := { s.mem with eccBad := s'.mem.eccBad }, evt := s'.evt, out := s'.out }) ∧
  (m ≤ 5 → Stages (.memMpuMode t tag io) s a (.mpuMode m (bit (arg a 1) 8)) 0 []) ∧
  (m ≤ 5 → n ≤ 23 → (allottable s.mem.extMib m).1 ≤ r.base * 256 →
    r.base * 256 + 2 ^ r.sizeLog2 - 1 ≤ (allottable s.mem.extMib m).2 → r.attrBad m = false →
    Stages (.memMpuRegion t tag io) s a (.mpuRegion m n r) 0 []) ∧
  (m ≤ 5 → 23 < n → Answers (.memMpuRegion t tag io) s a 0x0341 [] s0) ∧
  (m ≤ 5 → ∃ w, Answers (.memMpuRead t tag io) s a 0 ((s.region s.cfg m n).words ++ [w, wd (tget s.mem.overlap m 0)]) s0 ∧
    bit w 0 = s.cfg.layered m) ∧
  (∀ x, s.mem.refusals.find? (fun r => r.seq == (arg a 1).toNat && (isPf tag || r.tag == tag)) = some x →
    Answers (.memMpuFaultGet t tag io) s a 0 (leWords x.bytes) s0) ∧
  (s.mem.refusals.find? (fun r => r.seq == (arg a 1).toNat && (isPf tag || r.tag == tag)) = none →
    Answers (.memMpuFaultGet t tag io) s a 0x0344 [] s0) ∧
  (m ≤ 5 → Answers (.memMap t tag io) s a 0
    (twoWords (allottable s.mem.extMib m).1 ++ twoWords (allottable s.mem.extMib m).2 ++ [wd s.mem.extMib]) s0)

/-- The memory's bytes stand in canonical form: addresses rise and no byte listed reads as an unlisted one would. -/
def Obligations.MemoryFormKept : Prop :=
  ∀ s s' : State, Memory.wf s.mem.bytes → step s = .next s' → Memory.wf s'.mem.bytes

/-- A step keeps every table whose entries are looked through in order in its form: each number once, in rising order. -/
def Obligations.TablesKeepForm : Prop := ∀ s s' : State, Formed s → step s = .next s' → Formed s'

/-- The memory after reset lists nothing (the model's choice of contents, log entry 3), which is its canonical form, and the
tables stand in theirs. -/
def Obligations.FormsAtReset : Prop := Memory.wf State.reset.mem.bytes ∧ Formed State.reset

/-- A write of bytes to a canonical memory leaves it canonical; each byte reads back as written, and every other as before. -/
def Obligations.MemoryWrites : Prop :=
  ∀ (m : List (Nat × Byte)) (a : Nat) (bs : List Byte), Memory.wf m → Memory.wf (writeBytes m a bs) ∧
    ∀ b, readByte (writeBytes m a bs) b = if a ≤ b ∧ b < a + bs.length then bs.getD (b - a) 0 else readByte m b

/-- R9, R33: no command stops the block: every step answers a next state. -/
def Obligations.NeverStops : Prop := ∀ s : State, ∃ s', step s = .next s'

/-! ### 06 Lane Link -/

/-- A frame of a segment stands among the outputs. -/
def Sys2Proof.Say.sent (s : State) (seg addr type seq : Nat) (retry : Bool) (payload : List Byte) : Prop :=
  Output.lane seg addr type seq retry payload ∈ s.out

/-- The outcome and the reason with which a lane's session stands. -/
def Sys2Proof.Say.ended (s : State) (lane : Nat) : Option (Option Outcome8 × Nat) := (s.ses lane).map (fun y => (y.outcome, y.reason))

/-- R158, R161, R164, R168, R175, R183: a waiting decision is the first turn that applies, and its frame leaves with the unit's
next SEQ; a segment with no turn that applies stays idle; a failed turn is counted and repeated as the next of its class, and
the fourth failure in a row makes the unit ABSENT; a dropped transmission is counted by its cause, and its sender's violations
with it. -/
def Sys2Proof.Say.laneTurnsSay : Prop :=
  ∀ (t seg : Nat) (s : State),
  let s0 := s.tick t
  let g := s.seg seg
  (∀ d ds, s.segRuns seg = true → g.turn = none → g.assigns = [] → g.retryDecision = none → g.decisions = d :: ds →
    laneSeg d.lane = seg → (s.unit d.lane).outstanding = none → ∃ s', exec (.turnStart t seg false) s = .next s' ∧
      (s'.seg seg).turn = some (.decision d) ∧ (s'.seg seg).decisions = ds ∧
      sent s' seg (laneAddr d.lane) d.type (s.unit d.lane).txSeq false d.payload ∧
      (s'.unit d.lane).txSeq = ((s.unit d.lane).txSeq + 1) % 256 ∧
      (s'.unit d.lane).outstanding = some { addr := laneAddr d.lane, type := d.type, seq := (s.unit d.lane).txSeq, payload := d.payload }) ∧
  (∀ mismatch, s.segRuns seg = true → g.turn = none → g.assigns = [] → s0.turnChoice seg = none →
    exec (.turnStart t seg mismatch) s = .next (s0.modSeg seg (fun g => { g with turn := none, retrying := false }))) ∧
  (∀ mismatch, s.segRuns seg = false → exec (.turnStart t seg mismatch) s = .next s0) ∧
  (∀ lane, g.turn = some (.poll lane) → (s.unit lane).fails < 3 → ∃ s', exec (.turnFailed t seg) s = .next s' ∧
    (s'.seg seg) = { g with turn := none, retrying := false, retryOpen := some (.poll lane) } ∧
    (s'.unit lane) = { s.unit lane with fails := (s.unit lane).fails + 1 } ∧ (∀ k, k ≠ lane → s'.unit k = s.unit k) ∧
    (∀ k, k ≠ seg → s'.seg k = s.seg k) ∧ s'.counter 2 seg 6 = min statMax (s.counter 2 seg 6 + 1) ∧
    s' = { s0 with lane := s'.lane, stat := s'.stat }) ∧
  (∀ d, g.turn = some (.decision d) → (s.unit d.lane).fails < 3 → ∃ s', exec (.turnFailed t seg) s = .next s' ∧
    (s'.seg seg) = { g with turn := none, retrying := false, retryDecision := some (.decision d) } ∧
    s' = { s0 with lane := s'.lane, stat := s'.stat }) ∧
  (∀ lane, g.turn = some (.poll lane) → (s.unit lane).fails = 3 → ∃ s', exec (.turnFailed t seg) s = .next s' ∧
    (s'.unit lane).state = .absent ∧ (s'.unit lane).outstanding = none ∧ (s'.seg seg).turn = none) ∧
  (∀ raw : RawLine, seg ≤ 7 → ∃ s', exec (.transmissionDropped t seg raw) s = .next s' ∧
    s'.counter 2 seg (if raw.cause = .crc then 0 else 1) = min statMax (s.counter 2 seg (if raw.cause = .crc then 0 else 1) + 1) ∧
    (∀ a, raw.cause = .code → raw.addr = some a → 1 ≤ a → a ≤ 16 →
      s'.unit (laneOf seg a) = { s.unit (laneOf seg a) with violations := (s.unit (laneOf seg a)).violations + 1 }) ∧
    (∀ k, s'.seg k = s.seg k) ∧ s' = { s0 with lane := s'.lane, stat := s'.stat })

/-- R24, R36 to R38, R167, R169, R548: a TAP in the emergency is dropped and counted, and one that no turn invites has no effect; an
invited TAP is acknowledged, and a repeat of the SEQ just accepted is only that; a new one with a payload that breaks its layout, of a
lane with a session or of a lane not bound is dropped and counted; any other begins a session with its TAP stamp and its budget, a card
tap admitted while fewer than four are active and queued otherwise.  A CONT adds its bytes, and the last leaves the session waiting for
a cell; one out of place aborts the transfer with reason 0x3A. -/
def Sys2Proof.Say.tapsReceivedSay : Prop :=
  ∀ (t seg : Nat) (f : LaneFrame) (s : State), seg ≤ 7 → 1 ≤ f.addr → f.addr ≤ 16 →
  let s0 := s.tick t
  let lane := laneOf seg f.addr
  let limited := !(s.seg seg).active.isEmpty
  let fresh := s.lane.emg = false ∧ s.invites seg lane = true ∧ (s.unit lane).rxSeq ≠ some f.seq
  (s.lane.emg = true → ∃ s', exec (.tapReceived t seg f) s = .next s' ∧
    s'.counter 1 lane 8 = min statMax (s.counter 1 lane 8 + 1) ∧ s' = { s0 with stat := s'.stat }) ∧
  (s.lane.emg = false → s.invites seg lane = false → exec (.tapReceived t seg f) s = .next s0) ∧
  (s.lane.emg = false → s.invites seg lane = true → (s.unit lane).rxSeq = some f.seq →
    ∃ s', exec (.tapReceived t seg f) s = .next s' ∧ sent s' seg f.addr 0x101 f.seq false [] ∧ s'.fare = s.fare ∧ s'.sea = s.sea ∧
      s'.stat = s.stat) ∧
  (fresh → tapOk limited f.payload = false → ∃ s', exec (.tapReceived t seg f) s = .next s' ∧
    sent s' seg f.addr 0x101 f.seq false [] ∧ s'.counter 2 seg 8 = min statMax (s.counter 2 seg 8 + 1) ∧ s'.fare = s.fare) ∧
  (fresh → tapOk limited f.payload = true → (s.ses lane).isSome = true → ∃ s', exec (.tapReceived t seg f) s = .next s' ∧
    s'.counter 1 lane 6 = min statMax (s.counter 1 lane 6 + 1) ∧ s'.fare = s.fare) ∧
  (fresh → tapOk limited f.payload = true → s.ses lane = none → tmem s.cfg.lanes lane = false →
    ∃ s', exec (.tapReceived t seg f) s = .next s' ∧ s'.counter 1 lane 7 = min statMax (s.counter 1 lane 7 + 1) ∧ s'.fare = s.fare) ∧
  (fresh → tapOk limited f.payload = true → s.ses lane = none → tmem s.cfg.lanes lane = true → byteAt f.payload 0 ≠ 3 →
    ∃ s' x, exec (.tapReceived t seg f) s = .next s' ∧ s'.ses lane = some x ∧ x.tapSec = s0.servedSec ∧ x.tapNs = s0.servedNs ∧
      x.kind = byteAt f.payload 0 ∧ x.uid = slice f.payload 2 (byteAt f.payload 1) ∧ x.budget = s0.now + 180000000 ∧
      x.outcome = none ∧ sent s' seg f.addr 0x101 f.seq false [] ∧ (s'.unit lane).rxSeq = some f.seq ∧ (s'.seg seg).turn = none ∧
      ((s.seg seg).active.length < 4 → (s'.seg seg).active = (s.seg seg).active ++ [lane] ∧ (s'.seg seg).queue = (s.seg seg).queue) ∧
      (4 ≤ (s.seg seg).active.length → (s'.seg seg).active = (s.seg seg).active ∧ (s'.seg seg).queue = (s.seg seg).queue ++ [lane]) ∧
      s'.counter 1 lane 0 = min statMax (s.counter 1 lane 0 + 1) ∧ (∀ k, k ≠ lane → s'.ses k = s.ses k)) ∧
  (fresh → tapOk limited f.payload = true → s.ses lane = none → tmem s.cfg.lanes lane = true → byteAt f.payload 0 = 3 →
    ∃ s' x, exec (.tapReceived t seg f) s = .next s' ∧ s'.ses lane = some x ∧ x.tapSec = s0.servedSec ∧ x.tapNs = s0.servedNs ∧
      x.ticket = f.payload.drop 24 ∧ x.totalLen = beNat (slice f.payload 2 2) ∧ x.budget = s0.now + 60000000 ∧ x.outcome = none ∧
      (∀ k, k ≠ lane → s'.ses k = s.ses k)) ∧
  (∀ x, fresh → s.ses lane = some x → x.phase = .transfer → x.outcome = none →
    contOk limited f.payload x.ticket.length x.totalLen = true → ∃ s' y, exec (.contReceived t seg f) s = .next s' ∧
      s'.ses lane = some y ∧ y.ticket = x.ticket ++ f.payload.drop 8 ∧
      y.phase = (if y.ticket.length < x.totalLen then .transfer else .placing) ∧ (∀ k, k ≠ lane → s'.ses k = s.ses k)) ∧
  (∀ x, fresh → s.ses lane = some x → x.phase = .transfer → x.outcome = none → x.prepared = false →
    contOk limited f.payload x.ticket.length x.totalLen = false → ∃ s', exec (.contReceived t seg f) s = .next s' ∧
      ended s' lane = some (some .abort, 0x3A) ∧ s'.counter 2 seg 8 = min statMax (s.counter 2 seg 8 + 1))

/-- R169, R172, R177, R220 to R222, R435, R548: the ACK that names the outstanding frame of the turn under way ends it: a decision is
acknowledged; an APDU_C's session awaits its APDU_R; an ASSIGN leaves its unit PRESENT under its identity with SEQ restarted.  An
APDU_R that no exchange awaits is dropped and counted; the awaited one ends its exchange with its response, or with its RESULT's reason.
An ECHO_R is compared with what was sent; a NIL's bits are kept. -/
def Sys2Proof.Say.repliesReceivedSay : Prop :=
  ∀ (t seg addr seq : Nat) (s : State), seg ≤ 7 → 1 ≤ addr → addr ≤ 16 →
  let s0 := s.tick t
  let lane := laneOf seg addr
  (∀ d fr, (s.seg seg).turn = some (.decision d) → d.lane = lane → (s.unit lane).outstanding = some fr → fr.seq = seq →
    ∃ s', exec (.ackReceived t seg addr seq) s = .next s' ∧ s'.seg seg = { s.seg seg with turn := none, retrying := false } ∧
      s'.unit lane = { s.unit lane with outstanding := none, fails := 0 } ∧ (∀ k, k ≠ lane → s'.unit k = s.unit k) ∧
      (∀ k, k ≠ seg → s'.seg k = s.seg k) ∧ s' = { s0 with lane := s'.lane }) ∧
  (∀ fr x k b, (s.seg seg).turn = some (.apdu lane) → (s.unit lane).outstanding = some fr → fr.seq = seq → s.ses lane = some x →
    x.queued = some (k, b) → ∃ s', exec (.ackReceived t seg addr seq) s = .next s' ∧
      s'.ses lane = some { x with queued := none, awaiting := some (x.xseq, k, some s0.now) } ∧
      (s'.unit lane).outstanding = none ∧ (∀ k, k ≠ lane → s'.ses k = s.ses k) ∧ s' = { s0 with lane := s'.lane, fare := s'.fare }) ∧
  (∀ x, (s.seg seg).turn = some (.assign x.identity addr) → x.address = addr → x.seq = seq → (s.seg seg).assigns = [x] →
    ∃ s', exec (.ackReceived t seg addr seq) s = .next s' ∧ (s'.unit lane).state = .present ∧
      (s'.unit lane).identity = x.identity ∧ (s'.unit lane).caps = x.caps ∧ (s'.unit lane).position = x.position ∧
      (s'.unit lane).txSeq = 0 ∧ (s'.unit lane).rxSeq = none ∧ (s'.unit lane).outstanding = none ∧ (s'.seg seg).assigns = [] ∧
      (s'.seg seg).turn = none ∧ (∀ k, k ≠ lane → s'.unit k = s.unit k) ∧
      s' = { s0 with lane := s'.lane, evt := s'.evt, out := s'.out }) ∧
  (∀ bits, (s.seg seg).turn = some (.poll lane) → ∃ s', exec (.nilReceived t seg addr bits) s = .next s' ∧
    s'.unit lane = { s.unit lane with fails := 0, lastNil := bits % 16 } ∧ (s'.seg seg).turn = none ∧ s' = { s0 with lane := s'.lane }) ∧
  (∀ f : LaneFrame, f.addr = addr → s.invites seg lane = true → (s.unit lane).rxSeq ≠ some f.seq → apduROk f.payload = true →
    let s1 := (s0.acceptUp seg f).2
    ((∀ x, s.ses lane = some x → x.awaiting = none) → ∃ s', exec (.apduRReceived t seg f) s = .next s' ∧
      s'.counter 1 lane 9 = min statMax (s.counter 1 lane 9 + 1) ∧ s'.fare = s.fare) ∧
    (∀ x k at_, s.ses lane = some x → x.awaiting = some (byteAt f.payload 2, k, some at_) →
      x.slot = some (beNat (slice f.payload 0 2)) →
      (byteAt f.payload 3 = 0 → exec (.apduRReceived t seg f) s = .next (s1.exchangeDone lane k (f.payload.drop 4))) ∧
      (byteAt f.payload 3 = 1 → exec (.apduRReceived t seg f) s = .next (s1.exchangeFailed lane 0x30)) ∧
      (byteAt f.payload 3 = 2 → exec (.apduRReceived t seg f) s = .next (s1.exchangeFailed lane 0x31)) ∧
      (3 ≤ byteAt f.payload 3 → exec (.apduRReceived t seg f) s = .next (s1.exchangeFailed lane 0x32)))) ∧
  (∀ (f : LaneFrame) fr, f.addr = addr → (s.seg seg).turn = some (.echo lane) → (s.unit lane).outstanding = some fr →
    f.payload.length ≤ 64 → exec (.echoRReceived t seg f) s =
      .next (((s0.modUnit lane (fun u => { u with outstanding := none })).acceptUp seg f).2.echoClose lane (f.payload != fr.payload)))

/-- The frames that the units send. -/
def Obligations.FramesReceived : Prop := Sys2Proof.Say.tapsReceivedSay ∧ Sys2Proof.Say.repliesReceivedSay

/-- R170 to R175, R548: a HERE of the step under way whose identity has the step's prefix becomes an ASSIGN for its position, and one
without a position, or with a payload that breaks its layout, is only counted; a garbled slot draws a step two bits deeper, or at
depth 62 closes its branch; a cycle starts again from the empty prefix with probes for the ABSENT units, and adapts each unit's glitch
width. -/
def Sys2Proof.Say.rollCallSay : Prop :=
  ∀ (t seg slot : Nat) (s : State), seg ≤ 7 → slot ≤ 3 →
  let s0 := s.tick t
  let g := s.seg seg
  (∀ (f : LaneFrame) plen pfx, g.turn = some (.rollcall plen pfx) →
    let id : Word64 := BitVec.ofNat 64 (beNat (f.payload.take 8))
    let pos := byteAt f.payload 8
    (hereOk f.payload = false → ∃ s', exec (.hereReceived t seg slot f) s = .next s' ∧
      s'.counter 2 seg 8 = min statMax (s.counter 2 seg 8 + 1) ∧ s' = { s0 with stat := s'.stat }) ∧
    (hereOk f.payload = true → id.toNat >>> (62 - plen) = (deeper plen pfx slot).toNat >>> (62 - plen) →
      (pos = 0 → ∃ s', exec (.hereReceived t seg slot f) s = .next s' ∧
        s'.counter 2 seg 4 = min statMax (s.counter 2 seg 4 + 1) ∧ (s'.seg seg).assigns = g.assigns ∧
        s' = { s0 with lane := s'.lane, stat := s'.stat }) ∧
      (pos ≠ 0 → ((s.unit (laneOf seg pos)).state ≠ .present ∨ (s.unit (laneOf seg pos)).identity = id) →
        g.assigns.any (fun x => x.identity == id && x.address == pos) = false →
        ∃ s', exec (.hereReceived t seg slot f) s = .next s' ∧
          (s'.seg seg).assigns = g.assigns ++ [{ identity := id, address := pos, caps := byteAt f.payload 9, position := pos }] ∧
          (s'.seg seg).answered = true ∧ (∀ k, s'.unit k = s.unit k) ∧ s' = { s0 with lane := s'.lane }) ∧
      (pos ≠ 0 → (s.unit (laneOf seg pos)).state = .present → (s.unit (laneOf seg pos)).identity ≠ id →
        ∃ s', exec (.hereReceived t seg slot f) s = .next s' ∧ id ∈ (s'.seg seg).clashes ∧ (s'.seg seg).assigns = g.assigns ∧
          (∀ k, s'.unit k = s.unit k)))) ∧
  (∀ plen pfx, g.turn = some (.rollcall plen pfx) → plen < 62 → ∃ s', exec (.hereGarble t seg slot) s = .next s' ∧
    s'.seg seg = { g with steps := g.steps ++ [(plen + 2, deeper plen pfx slot)] } ∧
    s'.counter 2 seg 3 = min statMax (s.counter 2 seg 3 + 1) ∧ (∀ k, k ≠ seg → s'.seg k = s.seg k) ∧ (∀ k, s'.unit k = s.unit k) ∧
    s' = { s0 with lane := s'.lane, stat := s'.stat }) ∧
  (∀ pfx, g.turn = some (.rollcall 62 pfx) → ∃ s', exec (.hereGarble t seg slot) s = .next s' ∧
    (s'.seg seg).steps = g.steps ∧ deeper 62 pfx slot ∈ (s'.seg seg).closed ∧
    s'.counter 2 seg 5 = min statMax (s.counter 2 seg 5 + 1)) ∧
  (s.segRuns seg = true → ∃ s', exec (.rollcallCycle t seg) s = .next s' ∧ (s'.seg seg).steps = [(0, 0)] ∧
    (s'.seg seg).cycled = true ∧ (s'.seg seg).answered = false ∧ (s'.seg seg).closed = [] ∧
    (∀ l, l ∈ (s'.seg seg).probes ↔ (16 * seg ≤ l ∧ l < 16 * seg + 16 ∧ (s.unit l).state = .absent)) ∧
    (g.cycled = true → ∀ l, 16 * seg ≤ l → l < 16 * seg + 16 → (s'.unit l).violations = 0 ∧ (s'.unit l).g =
      if 8 < (s.unit l).violations then min 3 ((s.unit l).g + 1)
      else if (s.unit l).violations = 0 then max (s.devN 0x0501) ((s.unit l).g - 1) else (s.unit l).g) ∧
    (g.cycled = true → g.answered = false → 3 ≤ g.quiet → (∀ l, 16 * seg ≤ l → l < 16 * seg + 16 → (s.unit l).state ≠ .present) →
      (s'.seg seg).lonely = true) ∧
    (∀ k, k ≠ seg → s'.seg k = s.seg k) ∧ s' = { s0 with lane := s'.lane, evt := s'.evt, out := s'.out }) ∧
  (s.segRuns seg = false → exec (.rollcallCycle t seg) s = .next s0)

/-- The lanes' turns and the roll call. -/
def Obligations.TurnsAndRollCall : Prop := Sys2Proof.Say.laneTurnsSay ∧ Sys2Proof.Say.rollCallSay

/-- R35, R36, R178 to R180: EMG_OPEN_N low for 100 us asserts the emergency: every segment's turn ends and FREE_EXIT goes out on each of
the eight; it is repeated every 10 ms; after the release time with the input high FREE_EXIT with CLEAR goes out three times, 10 ms
apart, and with the third the segments resume. -/
def Obligations.EmergencyBroadcast : Prop :=
  ∀ (t : Nat) (s : State),
  let s0 := s.tick t
  let l := s.lane
  let all (s' : State) (clear : Nat) : Prop := ∀ g, g < 8 → ∃ q, sent s' g 0 0x13 q false (toBe 1 clear ++ toBe 1 0)
  (∀ level, l.emgInput = level → exec (.emgOpenNChange t level) s =
    .next { s0 with lane := { l with emgInput := !level, emgSince := s0.now } }) ∧
  (∀ level, l.emgInput = !level → exec (.emgOpenNChange t level) s = .next s0) ∧
  (l.emgPath = true → l.emg = false → l.emgInput = true → l.emgSince + 100000 ≤ s0.now →
    ∃ s', exec (.emgFilterAssert t) s = .next s' ∧ s'.lane.emg = true ∧ s'.lane.releasing = false ∧ s'.lane.freeExitAt = s0.now ∧
      all s' 0 ∧ (∀ g, g < 8 → (s'.seg g).turn = none)) ∧
  (l.emgPath = false ∨ l.emg = true ∨ l.emgInput = false ∨ s0.now < l.emgSince + 100000 →
    exec (.emgFilterAssert t) s = .next s0) ∧
  (l.emg = true → l.freeExitAt + 10000000 ≤ s0.now → ∃ s', exec (.freeExitRepeat t) s = .next s' ∧ s'.lane.freeExitAt = s0.now ∧
    all s' 0 ∧ s'.lane.emg = true ∧ s' = { s0 with lane := s'.lane, out := s'.out }) ∧
  (l.emg = true → l.emgInput = false → l.emgSince + s.devN 0x0502 * 1000000 ≤ s0.now →
    ∃ s', exec (.emgFilterRelease t) s = .next s' ∧ s'.lane.emg = false ∧ s'.lane.releasing = true ∧ s'.lane.clearSent = 1 ∧ all s' 1 ∧
      s' = { s0 with lane := s'.lane, out := s'.out, aud := s'.aud }) ∧
  (l.releasing = true → l.freeExitAt + 10000000 ≤ s0.now → l.clearSent = 1 → ∃ s', exec (.freeExitClearRepeat t) s = .next s' ∧
    s'.lane.releasing = true ∧ s'.lane.clearSent = 2 ∧ all s' 1 ∧ s' = { s0 with lane := s'.lane, out := s'.out }) ∧
  (l.releasing = true → l.freeExitAt + 10000000 ≤ s0.now → l.clearSent = 2 → ∃ s', exec (.freeExitClearRepeat t) s = .next s' ∧
    s'.lane.releasing = false ∧ all s' 1 ∧ s' = { s0 with lane := s'.lane, out := s'.out, evt := s'.evt })

/-- R154, R166, R167, R220, R222: a cell's APDU for a bound session is queued under the next XSEQ while the session's LANE capability is
valid and the exchange limit is not reached; the first write marks the change prepared; at the limit the session aborts with reason
0x32; an exchange without an answer in time aborts with 0x30 and a barcode transfer that is not complete in time with 0x3A. -/
def Obligations.CardExchanges : Prop :=
  ∀ (t lane : Nat) (s : State) (x : Session), s.ses lane = some x → x.outcome = none →
  let s0 := s.tick t
  (∀ kind apdu, x.cell.isSome = true → x.queued = none → x.awaiting = none → x.barcode = false →
    s0.apduFor lane x kind apdu = some apdu → kind ≠ .select →
    (s.capValid x.laneCap = true → x.xseq + 1 ≤ ((s.cfgOf x.cfg).param 0 0x0603).toNat →
      ∃ s', exec (.apduCommandQueue t lane kind apdu) s = .next s' ∧
        s'.ses lane = some { x with
          queued := some (kind, apdu), xseq := x.xseq + 1
          prepared := x.prepared || ((kind == .write || kind == .commit) && !x.prepared) } ∧
        (∀ k, k ≠ lane → s'.ses k = s.ses k) ∧ s' = { s0 with fare := s'.fare, sea := { s.sea with leases := s'.sea.leases } }) ∧
    (s.capValid x.laneCap = true → ((s.cfgOf x.cfg).param 0 0x0603).toNat < x.xseq + 1 → x.prepared = false →
      ∃ s', exec (.apduCommandQueue t lane kind apdu) s = .next s' ∧ ended s' lane = some (some .abort, 0x32)) ∧
    (s.capValid x.laneCap = false → x.prepared = false → ∃ s', exec (.apduCommandQueue t lane kind apdu) s = .next s' ∧
      (s'.ses lane).map (fun y => y.outcome) = some (some .abort))) ∧
  (∀ q k at_, x.awaiting = some (q, k, some at_) → at_ + ((s.cfgOf x.cfg).param 0 0x0602).toNat * 1000000 ≤ s0.now →
    x.prepared = false → x.abortMark = none → ∃ s', exec (.exchangeTimeout t lane) s = .next s' ∧
      ended s' lane = some (some .abort, 0x30)) ∧
  (x.phase = .transfer → x.prepared = false → x.budget ≤ s0.now + 57000000 →
    ∃ s', exec (.barcodeTransferTimeout t lane) s = .next s' ∧ ended s' lane = some (some .abort, 0x3A)) ∧
  (x.phase = .transfer → s0.now + 57000000 < x.budget → exec (.barcodeTransferTimeout t lane) s = .next s0)

/-- Table 6-14, R173, R181: what the lane commands do. -/
def Sys2Proof.Say.laneCommandsSay : Prop :=
  ∀ (t tag : Nat) (io : HostIo) (s : State) (a : List Word),
  let s0 := s.tick t
  let lane := fld (arg a 1) 6 0
  let seg := fld (arg a 1) 2 0
  let open_ := fld (arg a 3) 15 8
  let u := s.unit lane
  let g := s.seg (laneSeg lane)
  (5 ≤ open_ → open_ ≤ 100 → onesOf 32 (arg a 2).toNat ≠ [] → (∀ n ∈ onesOf 32 (arg a 2).toNat, s.enabled n = true) →
    Stages (.laneBind t tag io) s a
      (.laneBind lane { tenants := onesOf 32 (arg a 2).toNat, failOpen := bit (arg a 3) 0, openTime := open_ }) 0 []) ∧
  (open_ < 5 ∨ 100 < open_ → Answers (.laneBind t tag io) s a 0x0012 [] s0) ∧
  (∀ p, s.openMan tag = some p → tmem (s0.resulting p.2).lanes lane = true → Stages (.laneUnbind t tag io) s a (.laneUnbind lane) 0 []) ∧
  (∀ p, s.openMan tag = some p → tmem (s0.resulting p.2).lanes lane = false → Answers (.laneUnbind t tag io) s a 0x0502 [] s0) ∧
  (isPf tag = true → Answers (.laneStatus t tag io) s a 0
    [ wd (addrCode u.state + b2n (tmem s.cfg.lanes lane) * 4 + b2n (g.active.contains lane) * 8 + b2n (g.queue.contains lane) * 16 +
        u.lastNil * 256 + u.g * 2 ^ 16)
    , wd u.identity.toNat, wd (u.identity.toNat / 2 ^ 32), wd (u.caps + u.position * 256), wd u.changed ] s0) ∧
  (isPf tag = false → tmem s.cfg.lanes lane = false → Answers (.laneStatus t tag io) s a 0x0502 [] s0) ∧
  (∃ rs, Answers (.laneSegStatus t tag io) s a 0 rs s0 ∧ rs.length = 4 ∧ rs.getD 3 0 = wd (s.seg seg).quiet ∧
    (s.lane.emg = true → rs.getD 0 0 = 3) ∧
    rs.getD 2 0 = wd ((s.seg seg).active.length + (s.seg seg).queue.length * 16)) ∧
  Stages (.laneSegEnable t tag io) s a (.segEnable seg (bit (arg a 1) 8)) 0 [] ∧
  (s.lane.emg = true → Answers (.laneRollcall t tag io) s a 0x0504 [] s0) ∧
  (s.lane.emg = false → s.cfg.segs.contains seg = false → Answers (.laneRollcall t tag io) s a 0x0506 [] s0) ∧
  (s.segRuns seg = true → Answers (.laneRollcall t tag io) s a 0 [] (s0.startCycle seg)) ∧
  (u.state = .present → Answers (.laneForget t tag io) s a 0x0505 [] s0) ∧
  (u.state = .vacant → Answers (.laneForget t tag io) s a 0 [] s0) ∧
  (u.state = .absent → ∃ s1, Answers (.laneForget t tag io) s a 0 [] s1 ∧ (s1.unit lane).state = .vacant ∧ (s1.unit lane).identity = 0 ∧
    (s1.unit lane).g = u.g ∧ (∀ k, k ≠ lane → s1.unit k = s.unit k) ∧ s1 = { s0 with lane := s1.lane })

/-! ### 07 The cell sea -/

/-- R193, R195: the cell chosen is eligible, and no eligible cell has a higher score; of those with the same score none was placed
longer ago; when none is chosen, none is eligible. -/
def Obligations.BestCell : Prop :=
  ∀ (s : State) (caste : Caste) (session : Bool), Formed s →
  (∀ n, s.bestCell caste session = some n → s.eligibleCell caste n (s.cell n) = true ∧
    ∀ k, k ∈ tkeys s.sea.cells → s.eligibleCell caste k (s.cell k) = true → s.placeScore k session ≤ s.placeScore n session ∧
      (s.placeScore k session = s.placeScore n session → (s.cell n).placed ≤ (s.cell k).placed)) ∧
  (s.bestCell caste session = none → ∀ k, k ∈ tkeys s.sea.cells → s.eligibleCell caste k (s.cell k) = false)

/-- R24 to R26, R195, R197, R198, R201, R214: an admitted session that goes first takes the best Validator cell and the lowest FREE
slot: the slot is ACTIVE under a lease of the cell, and the session keeps the configuration in force; without a cell or a slot it
waits on; at its budget's end an unplaced session aborts with 0x35 and a placed one with 0x34, at once or at its next APDU
boundary; nothing is placed within 1 ms of a reset of the Drover. -/
def Obligations.SessionsPlaced : Prop :=
  ∀ (t lane : Nat) (s : State) (x : Session), s.ses lane = some x → x.outcome = none →
  let s0 := s.tick t
  let s2 := s.tick (max t x.budget)
  (∀ n k c, c = .placement t (.session lane) ∨ (c = .placementRetry t lane ∧ s0.now < x.budget) → x.phase = .placing →
    s.sea.suspended ≤ s0.now → s.sessionFirst lane = true → s.bestCell .validator true = some n → s.freeSlotNo = some k →
    ∃ s' y, exec c s = .next s' ∧ s'.ses lane = some y ∧ y.cell = some n ∧ y.slot = some k ∧ y.cfg = s.man.cur ∧
      y.phase = (if x.barcode then .verifying else .running) ∧ (s'.cell n).work = (s.cell n).work ++ [.session lane] ∧
      s'.slot k = { state := .active, charged := none } ∧ (tfind s'.sea.leases k).map (fun l => (l.holder, l.slot)) = some (n, some k) ∧
      (∀ j, j ≠ k → s'.slot j = s.slot j) ∧ (∀ j, j ≠ n → s'.cell j = s.cell j) ∧ (∀ j, j ≠ lane → s'.ses j = s.ses j) ∧
      s' = { s0 with sea := s'.sea, fare := s'.fare, stat := s'.stat }) ∧
  (x.phase = .placing → s.bestCell .validator true = none ∨ s.freeSlotNo = none ∨ s0.now < s.sea.suspended →
    exec (.placement t (.session lane)) s = .next s0) ∧
  (x.phase = .placing → x.cell = none → x.prepared = false → x.budget ≤ s0.now →
    ∃ s', exec (.placementRetry t lane) s = .next s' ∧ ended s' lane = some (some .abort, 0x35)) ∧
  (x.cell = none → x.prepared = false → ∃ s', exec (.sessionBudgetExpired t lane) s = .next s' ∧
    ended s' lane = some (some .abort, 0x35) ∧ s'.now = s2.now) ∧
  (x.cell.isSome = true → x.prepared = false → x.queued = none → x.awaiting = none →
    ∃ s', exec (.sessionBudgetExpired t lane) s = .next s' ∧ ended s' lane = some (some .abort, 0x34)) ∧
  (x.cell.isSome = true → x.awaiting.isSome = true → x.abortMark = none → ∃ s',
    exec (.sessionBudgetExpired t lane) s = .next s' ∧ s'.ses lane = some { x with abortMark := some 0x34 } ∧
    (∀ j, j ≠ lane → s'.ses j = s.ses j) ∧ s' = { s2 with fare := { s.fare with sessions := s'.fare.sessions } }) ∧
  (∃ s', exec (.droverReset t) s = .next s' ∧ s'.placing = false ∧
    s' = { s0 with sea := { s.sea with suspended := s0.now + 1000000 } })

/-- R110, R111, R141, R210, R547, Table 4-12: the oldest fetched JOB_RUN whose gate check passes gets the lowest FREE slot, charged to
its instance, while one is grantable, and waits for a cell of the gate's caste; one whose check fails completes with that status;
a piece's end frees its context; a discarded job ends when its last piece does. -/
def Sys2Proof.Say.batchJobsSay : Prop :=
  (∀ (t tag q : Nat) (io : HostIo) (s : State) (o : SqOp) (rest : List SqOp), takeOp 0x06C8 (s.qp tag q).ops = some (o, rest) →
    s.enabled tag = true →
    (∀ g cap arg k, (s.tick t).gateEntry tag o = .ok (g, cap, arg) → s.slotGrantable tag = true → s.freeSlotNo = some k →
      ∃ s' j, exec (.jobRun t tag q io) s = .next s' ∧ s'.job s.sea.nextJob = some j ∧ j.tag = tag ∧ j.qp = q ∧ j.cid = o.cid ∧
        j.gate = g.number ∧ j.slot = some k ∧ s'.slot k = { state := .active, charged := some tag } ∧
        (s'.qp tag q).ops = rest ∧ s'.sea.nextJob = s.sea.nextJob + 1 ∧
        s'.sea.waiting = s.sea.waiting ++ [{ work := .piece s.sea.nextJob, caste := casteOf g.caste, since := (s.tick t).now }] ∧
        (∀ j, j ≠ k → s'.slot j = s.slot j) ∧ (∀ k, s'.cell k = s.cell k) ∧
        s' = { s.tick t with ins := s'.ins, sea := s'.sea, stat := s'.stat }) ∧
    (∀ g, (s.tick t).gateEntry tag o = .ok g → s.slotGrantable tag = false → exec (.jobRun t tag q io) s = .next (s.tick t)) ∧
    (∀ st body, (s.tick t).gateEntry tag o = .error (st, body) → ∃ s', exec (.jobRun t tag q io) s = .next s' ∧
      s' = ((s.tick t).modQp tag q (fun p => { p with ops := rest })).opDone tag q o st body io)) ∧
  (∀ (t cell n : Nat) (last : Bool) (s : State) (j : Job), (s.cell cell).work = [.piece n] → (s.cell cell).request ≠ some n →
    s.job n = some j → j.discard = false → j.slot = none → ∃ s', exec (.jobBoundary t cell last) s = .next s' ∧
      (s'.cell cell).work = [] ∧ s'.job n = some { j with pieces := j.pieces - 1 } ∧ (∀ k, k ≠ cell → s'.cell k = s.cell k) ∧
      s' = { s.tick t with sea := s'.sea }) ∧
  (∀ (t cell n : Nat) (last : Bool) (s : State) (j : Job), (s.cell cell).work = [.piece n] → s.job n = some j → j.discard = true →
    j.pieces ≤ 1 → ∃ s', exec (.jobBoundary t cell last) s = .next s' ∧ s'.job n = none ∧ (s'.cell cell).work = [])

/-- R189, R193, R199, R200: a score tick gives every AVAILABLE cell the weighted sum of its terms and leaves every other cell alone,
and keeps each caste's peak of busy cells; in one cycle a task input's takes come before its arrivals, COUNT stops at 255 with OVF
set and the excess counted, and FIRST is the lowest source of the cycle that found COUNT 0. -/
def Sys2Proof.Say.scoresAndTaskInputsSay : Prop :=
  ∀ (t cell i : Nat) (s : State),
  let s0 := s.tick t
  let x := s.taskInput cell i
  (∃ s', exec (.scoreTick t) s = .next s' ∧
    (∀ n, n ∈ tkeys s.sea.cells → (s.cell n).state = .available → (s'.cell n).terms = s.scoreTerms n ∧
      (s'.cell n).score = s.devN 0x06C1 * (s.scoreTerms n).getD 0 0 + s.devN 0x06C2 * (s.scoreTerms n).getD 1 0 +
        s.devN 0x06C3 * (s.scoreTerms n).getD 2 0 + s.devN 0x06C4 * (s.scoreTerms n).getD 3 0 ∧
      s'.cell n = { s.cell n with terms := (s'.cell n).terms, score := (s'.cell n).score }) ∧
    (∀ n, (s.cell n).state ≠ .available → s'.cell n = s.cell n) ∧
    (∀ k, k < 5 → s'.sea.peaks.getD k 0 = max (s.sea.peaks.getD k 0) (s.busyCells.getD k 0)) ∧
    s' = { s0 with sea := { s.sea with cells := s'.sea.cells, peaks := s'.sea.peaks } }) ∧
  (∀ src : List Nat, (s.cell cell).state ≠ .absent → i ≤ 15 → cell < 768 → x.cycle ≠ s0.now + 1 → (∀ n ∈ src, n < 64) →
    x.count ≤ 255 → s.counter 5 cell 1 ≤ statMax → ∃ s', exec (.taskInputEvent t cell i src) s = .next s' ∧ (s'.taskInput cell i).count = min 255 (x.count + src.length) ∧
      (s'.taskInput cell i).ovf = (x.ovf || decide (255 < x.count + src.length)) ∧
      (x.count = 0 → src ≠ [] → (s'.taskInput cell i).first ∈ src ∧ ∀ n ∈ src, (s'.taskInput cell i).first ≤ n) ∧
      (x.count ≠ 0 ∨ src = [] → (s'.taskInput cell i).first = x.first) ∧
      s'.counter 5 cell 1 = min statMax (s.counter 5 cell 1 + (x.count + src.length - 255)) ∧
      (∀ k, k ≠ cell → s'.cell k = s.cell k) ∧ (∀ k, k ≠ i → s'.taskInput cell k = s.taskInput cell k) ∧
      s' = { s0 with sea := { s.sea with cells := s'.sea.cells }, stat := s'.stat }) ∧
  (∀ n, (s.cell cell).state ≠ .absent → i ≤ 15 → x.cycle ≠ s0.now + 1 → x.count ≤ 255 →
    ∃ s', exec (.taskInputTake t cell i n) s = .next s' ∧ (s'.taskInput cell i).count = x.count - n ∧
      (s'.taskInput cell i).ovf = x.ovf ∧ (s'.taskInput cell i).first = x.first ∧ (∀ k, k ≠ cell → s'.cell k = s.cell k) ∧
      s' = { s0 with sea := { s.sea with cells := s'.sea.cells } }) ∧
  (∀ n (src : List Nat) s1, (s.cell cell).state ≠ .absent → i ≤ 15 → x.cycle ≠ s0.now + 1 → x.count ≤ 255 → (∀ k ∈ src, k < 64) →
    exec (.taskInputEvent t cell i src) s = .next s1 → ∃ s', exec (.taskInputTake t cell i n) s1 = .next s' ∧
      (s'.taskInput cell i).count = min 255 (x.count - min x.count n + src.length)) ∧
  ((s.cell cell).state ≠ .absent → i ≤ 15 → ∃ s', exec (.taskOvfClear t cell i) s = .next s' ∧
    (s'.taskInput cell i).ovf = false ∧ (s'.taskInput cell i).count = x.count ∧ (∀ k, k ≠ cell → s'.cell k = s.cell k) ∧
    s' = { s0 with sea := { s.sea with cells := s'.sea.cells } })

/-- Batch jobs, scores and task inputs. -/
def Obligations.JobsAndScores : Prop := Sys2Proof.Say.batchJobsSay ∧ Sys2Proof.Say.scoresAndTaskInputsSay

/-- R190, R191, R207, R209, R212: a MOVING cell whose contexts are idle is emptied and takes its new caste's image, and the move's
end makes it AVAILABLE in that caste; a cell towards quarantine becomes QUARANTINED instead; a placement that has waited 1 ms lets
its caste grow by the Reserve cell with the lowest score; a due switch makes a pair's spare the active cell. -/
def Sys2Proof.Say.castesMoveSay : Prop :=
  ∀ (t cell : Nat) (s : State), Formed s →
  let s0 := s.tick t
  let c := s.cell cell
  (s.canLeave cell = true → c.stores = [] → c.toQuarantine = false → ∃ s', exec (.casteImageLoad t cell) s = .next s' ∧
    (s'.cell cell).loading = true ∧ (s'.cell cell).state = .moving ∧ (s'.cell cell).l1 = [] ∧ (s'.cell cell).c = [] ∧
    (s'.cell cell).gr = [] ∧ (s'.cell cell).scratchUsed = false ∧ (∀ k, k ≠ cell → s'.cell k = s.cell k) ∧
    s' = { s0 with sea := { s.sea with cells := s'.sea.cells }, mem := { s.mem with lines := s'.mem.lines } }) ∧
  (s.canLeave cell = true → c.toQuarantine = true → ∃ s', exec (.casteImageLoad t cell) s = .next s' ∧
    (s'.cell cell).state = .quarantined ∧ (s'.cell cell).work = []) ∧
  (s.canLeave cell = false → exec (.casteImageLoad t cell) s = .next s0) ∧
  (c.state = .moving → c.loading = true → c.toQuarantine = false → c.next ≠ .reserve → c.next ≠ .audio →
    exec (.casteMoveDone t cell) s = .next (s0.modCell cell (fun c =>
      { c with state := .available, changed := s0.sec32, caste := c.next, loading := false }))) ∧
  (c.state = .moving → c.loading = true → c.toQuarantine = true → ∃ s', exec (.casteMoveDone t cell) s = .next s' ∧
    (s'.cell cell).state = .quarantined) ∧
  (∀ caste w n rest, caste ≤ 4 → caste ≠ 2 → s.sea.waiting = [w] → w.caste = casteOf caste → w.since + 1000000 ≤ s0.now →
    s.casteSize (casteOf caste) + 1 ≤ s.cfg.casteMax caste → s.lowest .reserve (fun _ => true) = n :: rest →
    ∃ s', exec (.casteGrow t caste) s = .next s' ∧ (s'.cell n).state = .moving ∧ (s'.cell n).next = casteOf caste ∧
      (∀ k, k ≠ n → s'.cell k = s.cell k) ∧ s'.sea.waiting = [{ w with since := w.since + 1000000 }] ∧
      s' = { s0 with sea := { s.sea with cells := s'.sea.cells, waiting := s'.sea.waiting } }) ∧
  (∀ p, (s.pair p).due = true → s.spareReady p = true → s0.switchWaits p = false → ∃ s', exec (.hotSpareSwitch t p) s = .next s' ∧
    (s'.pair p) = { s.pair p with oddActive := !(s.pair p).oddActive, due := false, byTest := false } ∧
    (∀ k, k ≠ p → s'.pair k = s.pair k) ∧ s' = { s0 with sea := { s.sea with pairs := s'.sea.pairs }, test := s'.test }) ∧
  (∀ p, (s.pair p).due = false → exec (.hotSpareSwitch t p) s = .next s0)

/-- R203, R205: an expired lease of its holder's current generation makes the holder FAULTED with its generation raised, voids
every lease it holds, and leaves no work on it; a FAULTED cell whose check fails is QUARANTINED, and one that passes, with its faults of
the last 24 h below the limit, returns AVAILABLE to Reserve. -/
def Sys2Proof.Say.cellFaultsSay : Prop :=
  (∀ (t n : Nat) (s : State) (l : Lease), Formed s → tfind s.sea.leases n = some l → l.hgen = (s.cell l.holder).hgen →
    (s.tick t).leaseHeld l = false → (s.cell l.holder).state = .available → ∃ s', exec (.leaseExpired t n) s = .next s' ∧
      (s'.cell l.holder).state = .faulted ∧ (s'.cell l.holder).hgen = ((s.cell l.holder).hgen + 1) % 65536 ∧
      (s'.cell l.holder).work = [] ∧ (∀ k x, tfind s'.sea.leases k = some x → x.holder ≠ l.holder)) ∧
  (∀ (t n : Nat) (s : State) (l : Lease), tfind s.sea.leases n = some l → (s.tick t).leaseHeld l = true →
    exec (.leaseExpired t n) s = .next (s.tick t)) ∧
  (∀ (t cell k : Nat) (s : State), Formed s → (s.cell cell).state = .faulted → (s.cell k).state = .available → (s.cell k).caste = .sentinel →
    (s.cell k).work = [] → k ∈ tkeys s.sea.cells → s.sea.l2Check.contains (clusterOf cell) = false →
    (tget s.isl.islands (clusterOf cell) {} : Island).state = .run →
    (∃ s', exec (.cellCheckDone t cell false) s = .next s' ∧ (s'.cell cell).state = .quarantined) ∧
    ((s.cell cell).toQuarantine = false → (s.tick t).faults24 cell < s.devN 0x06C7 → s.sea.shortRaised = [] →
      (∀ j, (s.cell j).caste ≠ .audio) → ∃ s', exec (.cellCheckDone t cell true) s = .next s' ∧
        (s'.cell cell).state = .available ∧ (s'.cell cell).caste = .reserve ∧ (∀ j, j ≠ cell → s'.cell j = s.cell j)))

/-- Cells move between castes, fault and return. -/
def Obligations.CellsMoveAndFault : Prop := Sys2Proof.Say.castesMoveSay ∧ Sys2Proof.Say.cellFaultsSay

/-- Table 7-5, R207, R212: what the Drover's commands answer and do. -/
def Sys2Proof.Say.droverCommandsSay : Prop :=
  ∀ (t tag : Nat) (io : HostIo) (s : State) (a : List Word),
  let s0 := s.tick t
  let n := fld (arg a 1) 9 0
  let c := s.cell n
  let plan : List (Nat × Nat) := (List.range 5).map (fun k => (fld (arg a (2 * k + 1)) 9 0, fld (arg a (2 * k + 2)) 9 0))
  ((plan.getD 2 (0, 0)).1 % 2 = 0 → (plan.getD 2 (0, 0)).2 % 2 = 0 → (∀ x ∈ plan, x.1 ≤ x.2 ∧ x.2 ≤ 768) →
    Stages (.drvCastePlan t tag io) s a (.castePlan plan) 0 []) ∧
  ((plan.getD 2 (0, 0)).1 % 2 = 1 → Answers (.drvCastePlan t tag io) s a 0x0012 [] s0) ∧
  (∃ rs s1, Answers (.drvCasteStatus t tag io) s a 0 rs s1 ∧ rs.length = 7 ∧
    rs.getD 6 0 = wd (s.cellsIn .faulted none + s.cellsIn .quarantined none * 2 ^ 10 + s.cellsIn .testing none * 2 ^ 20) ∧
    (∀ k, k < 5 → rs.getD k 0 = wd (s.cellsIn .available (some (casteOf k)) + s.sea.targets.getD k 0 % 2 ^ 10 * 2 ^ 10 +
      s.cellsIn .moving (some (casteOf k)) * 2 ^ 20)) ∧ s1 = { s0 with freeCtr := s1.freeCtr }) ∧
  (n ≤ 767 → ∃ rs, Answers (.drvCellStatus t tag io) s a 0 rs s0 ∧ rs.length = 4 ∧
    rs.getD 0 0 = wd (cellCode c.state + casteNum c.caste * 16 + s.busyOf n c * 256 + c.hgen * 2 ^ 16) ∧ rs.getD 3 0 = wd c.changed) ∧
  (767 < n → ∀ cmd, cmd = .drvCellStatus t tag io ∨ cmd = .drvCellQuarantine t tag io ∨ cmd = .drvCellReturn t tag io →
    Answers cmd s a 0x06C1 [] s0) ∧
  (n ≤ 767 → c.state = .quarantined ∨ c.state = .absent → Answers (.drvCellQuarantine t tag io) s a 0x06C2 [] s0) ∧
  (n ≤ 767 → c.state = .available → c.caste ≠ .audio → Answers (.drvCellQuarantine t tag io) s a 0 []
    (s0.modCell n (fun c => { c with
      toQuarantine := true, state := .moving, changed := s0.sec32, loading := false, next := .reserve }))) ∧
  (n ≤ 767 → c.state ≠ .quarantined → Answers (.drvCellReturn t tag io) s a 0x06C2 [] s0) ∧
  (n ≤ 767 → c.state = .quarantined → Answers (.drvCellReturn t tag io) s a 0 [] (s0.modCell n (fun c => { c with returnTest := true }))) ∧
  (let k (x : SlotState) : Nat := (s.sea.slots.filter (fun p => p.2.state == x)).length;
    Answers (.drvSlotStatus t tag io) s a 0 [wd (s.freeSlots + k .active * 2 ^ 16), wd (k .draining), wd (s.slotsHeld tag)] s0)

/-- The lane and the Drover commands. -/
def Obligations.LaneAndDroverCommands : Prop := Sys2Proof.Say.laneCommandsSay ∧ Sys2Proof.Say.droverCommandsSay

/-! ### 08 Fare sessions -/

/-- R219, R225 to R228, R231, R233 to R237, Tables 8-4 and 8-8: a denylisted identity is denied with reason 0x10 unless its entry has
expired; a ticket that breaks its layout is denied with 0x17, one of an issuer that no tenant of its lane takes with 0x15; a tariff
outside its validity or without a rule denies with 0x11, its first matching rule decides; a session's record is sealed under its chain's next
RSEQ and the seal of the record before, written to the hub journal buffer, and an Accept's OPEN is queued; an Accept that no destination
accepts in its budget becomes a Refer with reason 0x20; a cartridge that has not answered in time refuses its record; tickets past
VALID_TO leave the used-ticket set. -/
def Obligations.FareSessions : Prop :=
  (∀ (t lane : Nat) (s : State) (x : Session), s.ses lane = some x → x.phase = .searching →
    let s0 := s.tick t
    let hit := ((s.cfgOf x.cfg).deny x.tenant).entries.find? (fun e => e.key == denyKey x.kind x.ident)
    (∀ e, hit = some e → (e.expiry = 0 ∨ timeLe s0.sec32 e.expiry = true) → ∃ s', exec (.denylistExactSearch t lane) s = .next s' ∧
      ended s' lane = some (some .deny, 0x10) ∧ (∀ k, k ≠ lane → s'.ses k = s.ses k)) ∧
    (∀ e, hit = some e → e.expiry ≠ 0 → timeLe s0.sec32 e.expiry = false →
      exec (.denylistExactSearch t lane) s = .next (s0.afterDeny lane)) ∧
    (hit = none → exec (.denylistExactSearch t lane) s = .next ((s0.count 3 x.tenant 4).afterDeny lane))) ∧
  (∀ (t lane : Nat) (s : State) (x : Session), s.ses lane = some x → x.phase ≠ .searching →
    exec (.denylistExactSearch t lane) s = .next (s.tick t)) ∧
  (∀ (t lane : Nat) (s : State) (x : Session), s.ses lane = some x → x.phase = .verifying →
    (ticketOk x.ticket = false → ∃ s', exec (.barcodeVerify t lane) s = .next s' ∧
      ended s' lane = some (some .deny, 0x17) ∧ (∀ k, k ≠ lane → s'.ses k = s.ses k)) ∧
    (ticketOk x.ticket = true → (∀ b, tfind (s.cfgOf x.cfg).lanes lane = some b → ∀ n ∈ b.tenants, ∀ f,
        tfind (s.cfgOf x.cfg).tables n = some f → beNat (slice x.ticket 2 4) ∉ f.issuers) →
      ∃ s', exec (.barcodeVerify t lane) s = .next s' ∧ ended s' lane = some (some .deny, 0x15)) ∧
    (∀ b n f, ticketOk x.ticket = true → tfind (s.cfgOf x.cfg).lanes lane = some b → b.tenants = [n] →
      tfind (s.cfgOf x.cfg).tables n = some f → beNat (slice x.ticket 2 4) ∈ f.issuers →
      tget (s.cfgOf x.cfg).keys n [] = [] → ∃ s', exec (.barcodeVerify t lane) s = .next s' ∧
        ended s' lane = some (some .deny, 0x14) ∧ (s'.ses lane).map (fun y => (y.tenant, y.stationId)) = some (n, f.stationId))) ∧
  (∀ (f : FareTable) (tap product : Nat) (card : Option (Int × List Nat)),
    ((timeLe f.validFrom (tap % 2 ^ 32) && timeLe (tap % 2 ^ 32) f.validTo) = false →
      f.judge tap product card = { outcome := .deny, reason := 0x11, prompt := 0x11 }) ∧
    (∀ day : Int, (timeLe f.validFrom (tap % 2 ^ 32) && timeLe (tap % 2 ^ 32) f.validTo) = true → day = (tap + f.tzOffset) / 86400 →
      let bit := if f.holidays.contains day.toNat then 7 else ((day + 3) % 7).toNat
      let rule := f.rules.find? (fun r => r.matches_ product bit ((tap + f.tzOffset) % 86400 / 60).toNat)
      (rule = none → f.judge tap product card = { outcome := .deny, reason := 0x11, prompt := 0x11 }) ∧
      (∀ r, rule = some r → r.action = 2 → (f.judge tap product card).outcome = .deny ∧ (f.judge tap product card).reason = 0x18) ∧
      (∀ r, rule = some r → r.action = 1 → (f.judge tap product card).outcome = .accept ∧ (f.judge tap product card).reason = 2 ∧
        (f.judge tap product card).fare = 0) ∧
      (∀ r bal, rule = some r → r.action = 0 → card = some (bal, []) →
        (bal - r.fare < f.minValue → (f.judge tap product card).outcome = .deny ∧ (f.judge tap product card).reason = 0x12) ∧
        (f.minValue ≤ bal - r.fare → (f.judge tap product card).outcome = .accept ∧ (f.judge tap product card).fare = r.fare ∧
          (f.judge tap product card).valueAfter = bal - r.fare)))) ∧
  (∀ (t lane cell i : Nat) (io : HostIo) (s : State) (x : Session), s.ses lane = some x → x.phase = .sealing → x.tenant < 768 →
    cell ≤ 767 → s.devN 0x0606 ≠ 0 →
    let s0 := s.tick t
    s0.placing = true → s0.sealFirst lane x = true → s0.bestCell .ledger false = some cell → hubNext s.fare.hub 8192 s.fare.append = some i →
    let key := s.journalKey (if x.cell.isSome then s.cfgOf x.cfg else s.cfg) x.tenant
    let ch := s.chain x.tenant
    let code := match x.outcome with | some o => outcomeCode o | none => 0
    ∃ s' r dec c, exec (.journalSeal t lane cell io) s = .next s' ∧ s'.jrec s.fare.nextRec = some r ∧
      r.bytes = sealBytes key (x.head lane (ch.rseq + 1) dec (ch.restart && key.isSome) c code x.reason x.prompt ++
        (if ch.restart then List.replicate 16 0 else ch.lastSeal)) ∧
      (x.decided = true → dec = x.decSec % 2 ^ 48 + x.decNs * 2 ^ 48) ∧ (∀ n, x.cell = some n → c = n) ∧
      r.tenant = x.tenant ∧ r.rseq = ch.rseq + 1 ∧ r.hub = .accepted ∧ r.index = some i ∧
      tfind s'.fare.hub i = some s.fare.nextRec ∧ s'.fare.append = (i + 1) % 8192 ∧ s'.fare.nextRec = s.fare.nextRec + 1 ∧
      tfind s'.fare.chains x.tenant = some { rseq := ch.rseq + 1, lastSeal := r.bytes.drop 112, restart := key.isNone } ∧
      (∀ k, k ≠ x.tenant → tfind s'.fare.chains k = tfind s.fare.chains k) ∧
      s'.counter 7 0 0 = min statMax (s.counter 7 0 0 + 1) ∧
      (x.outcome = some .accept → x.decided = false → (s'.seg (laneSeg lane)).decisions = (s.seg (laneSeg lane)).decisions ++
        [{ lane, type := 0x10, slot := x.slot.getD 0xFFFF, prompt := x.prompt, openTime := s.openTime lane x }]) ∧
      (∀ k, k ≠ lane → s'.ses k = s.ses k)) ∧
  (∀ (t lane cell : Nat) (io : HostIo) (s : State), (∀ x, s.ses lane = some x → x.phase ≠ .sealing) →
    exec (.journalSeal t lane cell io) s = .next (s.tick t)) ∧
  (∀ (t lane by_ : Nat) (s : State) (x : Session), s.ses lane = some x → x.sealBy = some by_ → x.decided = false →
    x.outcome = some .accept → x.phase ≠ .closing → s.pending.any (sameCycleAccept t lane) = false →
    ∃ s', exec (.sealBudgetExpired t lane) s = .next s' ∧ ended s' lane = some (some .refer, 0x20) ∧ s'.now = (s.tick (max t by_)).now ∧
      (s'.seg (laneSeg lane)).decisions = (s.seg (laneSeg lane)).decisions ++
        [{ lane, type := 0x12, slot := x.slot.getD 0xFFFF, prompt := 0x20, openTime := 0 }] ∧ (∀ k, k ≠ lane → s'.ses k = s.ses k)) ∧
  (∀ (t lane by_ : Nat) (s : State) (x : Session), s.ses lane = some x → x.sealBy = some by_ → x.decided = true →
    ∃ s', exec (.sealBudgetExpired t lane) s = .next s' ∧ ended s' lane = some (x.outcome, x.reason) ∧ s'.lane = s.lane) ∧
  (∀ (t rec : Nat) (s : State) (r : JRec), s.jrec rec = some r → r.cart = .waiting →
    ∃ s', exec (.cartAcceptTimeout t rec) s = .next s' ∧
      s' = (((s.tick (max t r.cartBy)).count 8 (r.cartSlot.getD 0) 1).modJ rec (fun r => { r with cart := .refused })).settle rec) ∧
  (∀ (t rec : Nat) (s : State) (r : JRec), s.jrec rec = some r → r.cart ≠ .waiting →
    exec (.cartAcceptTimeout t rec) s = .next (s.tick t)) ∧
  (∀ (t tag : Nat) (s : State), ∃ s', exec (.usedTicketPurge t tag) s = .next s' ∧
    tget s'.fare.used tag [] = (tget s.fare.used tag []).filter (fun u => !timeLt u.validTo (s.tick t).sec32) ∧
    (∀ k, k ≠ tag → tget s'.fare.used k [] = tget s.fare.used k []) ∧
    s' = { s.tick t with fare := { s.fare with used := s'.fare.used } })

/-- R229, R230, R232, R236, R238, Table 8-9: what the fare commands answer and do; FARE_DENY_LOAD runs on a Ledger cell, waits while none is
eligible, and leaves its shadow list loaded, or discarded with its status. -/
def Sys2Proof.Say.fareCommandsSay : Prop :=
  ∀ (t tag : Nat) (io : HostIo) (s : State) (a : List Word),
  let s0 := s.tick t
  let len := (arg a 3).toNat
  let data := (io.data ++ List.replicate len 0).take len
  (len < 2612 ∨ 4 * 2 ^ 20 < len → Answers (.fareTableLoad t tag io) s a 0x0012 [] s0) ∧
  (∀ s1 id m, 2612 ≤ len → len ≤ 4 * 2 ^ 20 → s0.hostRead tag (ofTwo (arg a 1) (arg a 2)) len 3 io.dataFault = .ok s1 →
    s1.openMan tag = some (id, m) →
    let signed (role : Nat) (ok : List Byte → Bool) : Bool := (s1.roleKeys (s1.resulting m) id tag role).any ok
    let ec := signed 0 (fun k => Config.ecVerify k (data.take (len - 2484)) (slice data (len - 2484) 64))
    let pq := signed 1 (fun k => Config.pqVerify k (data.take (len - 2484)) (slice data (len - 2420) 2420))
    (tableOk data len = false ∨ tabField data 6 2 ≠ tag → Answers (.fareTableLoad t tag io) s a 0x0601 [] s1) ∧
    (tableOk data len = true → tabField data 6 2 = tag → ec = false ∨ pq = false → Answers (.fareTableLoad t tag io) s a 0x0602 [] s1) ∧
    (tableOk data len = true → tabField data 6 2 = tag → ec = true → pq = true → tabField data 12 4 ≤ s1.topSerial tag →
      Answers (.fareTableLoad t tag io) s a 0x0603 [] s1) ∧
    (tableOk data len = true → tabField data 6 2 = tag → ec = true → pq = true → s1.topSerial tag < tabField data 12 4 →
      m.entries.length < entryLimit tag → m.bulk + len ≤ bulkLimit tag → Answers (.fareTableLoad t tag io) s a 0 []
        (s1.modMan id (fun m => { m with
          entries := m.entries ++ [{ op := .fareTable tag (tableOf data), code := 0x0601
                                     items := (StagedOp.fareTable tag (tableOf data)).items.map (fun i => (i, s1.version i)), bulk := len }]
          touched := s1.now })))) ∧
  (∀ c k, s0.handleFor tag (argHandle a 1) (· == 3) (1 <<< rUse) true = .ok c → s0.keyOf (s.obj c.object) = some k →
    fld (arg a 5) 2 0 ≤ 4 →
    (roleSuits (fld (arg a 5) 2 0) k.type = true → Stages (.fareKeyBind t tag io) s a (.keyBind tag
      { role := fld (arg a 5) 2 0, issuer := (arg a 6).toNat, keyId := fld (arg a 7) 15 0, object := c.object, gen := c.gen }) 0 []) ∧
    (roleSuits (fld (arg a 5) 2 0) k.type = false → Answers (.fareKeyBind t tag io) s a 0x0604 [] s0)) ∧
  (deltaLen len = false → Answers (.fareDenyDelta t tag io) s a 0x0012 [] s0) ∧
  (∀ s1 id m, deltaLen len = true → s0.hostRead tag (ofTwo (arg a 1) (arg a 2)) len 3 io.dataFault = .ok s1 →
    s1.openMan tag = some (id, m) →
    denyMax < (((s1.resulting m).deny tag).delta (denyEntries (len / 24) data)).entries.length →
      Answers (.fareDenyDelta t tag io) s a 0x0606 [] s1) ∧
  (∀ s1 id m, deltaLen len = true → s0.hostRead tag (ofTwo (arg a 1) (arg a 2)) len 3 io.dataFault = .ok s1 →
    s1.openMan tag = some (id, m) → m.entries.length < entryLimit tag → m.bulk + len ≤ bulkLimit tag →
    (((s1.resulting m).deny tag).delta (denyEntries (len / 24) data)).entries.length ≤ denyMax →
      Answers (.fareDenyDelta t tag io) s a 0 [] (s1.modMan id (fun m => { m with
        entries := m.entries ++ [{ op := .denyDelta tag (denyEntries (len / 24) data), code := 0x0603
                                   items := (StagedOp.denyDelta tag (denyEntries (len / 24) data)).items.map (fun i => (i, s1.version i))
                                   bulk := len }]
        touched := s1.now }))) ∧
  (∀ x, tfind s.fare.shadows tag = some x → x.complete = true → Stages (.fareDenySwap t tag io) s a (.denySwap tag) 0 []) ∧
  (tfind s.fare.shadows tag = none → Answers (.fareDenySwap t tag io) s a 0x0607 [] s0) ∧
  (∀ x, tfind s.fare.shadows tag = some x → x.complete = true → Answers (.fareDenyStatus t tag io) s a 0
    [wd (s.cfg.deny tag).entries.length, wd x.list.entries.length, wd (s.cfg.deny tag).log2] s0) ∧
  (len % 128 ≠ 0 → Answers (.fareJournalRead t tag io) s a 0x0011 [] s0) ∧
  (∀ s1, len % 128 = 0 → (s.heldFrom tag (fld (arg a 4) 12 0)).length ≤ len / 128 → s.heldFrom tag (fld (arg a 4) 12 0) ≠ [] →
    s0.hostWrite tag (ofTwo (arg a 1) (arg a 2)) ((s.heldFrom tag (fld (arg a 4) 12 0)).flatMap (fun p => p.2.bytes)) io.dataFault =
      (0, s1) → ∃ next, next < 8192 ∧
      Answers (.fareJournalRead t tag io) s a 0 [wd (s.heldFrom tag (fld (arg a 4) 12 0)).length, wd (next + 2 ^ 31)] s1) ∧
  (∀ i n, fld (arg a 1) 12 0 = i → (arg a 2).toNat = 1 → tfind s.fare.hub i = some n → Formed s →
    (∀ p ∈ s.fare.hub, p.1 < 8192) → Answers (.fareJournalAck t tag io) s a 0 [1] (s0.hubFree i)) ∧
  ((arg a 2).toNat = 0 ∨ 8192 < (arg a 2).toNat → Answers (.fareJournalAck t tag io) s a 0x0012 [] s0) ∧
  (∃ staged, Answers (.fareStatus t tag io) s a 0
    [ wd (match tfind s.cfg.tables tag with | some f => f.serial | none => 0), staged, wd s.fare.hub.length
    , wd (min (if isPf tag then s.counter 7 0 1 else s.counter 3 tag 7) (2 ^ 32 - 1)) ] s0) ∧
  (∀ (q : Nat) o rest, takeOp 0x0610 (s.qp tag q).ops = some (o, rest) → s.enabled tag = true →
    (∀ g c cap, s0.gateEntry tag o = .ok (g, c, cap) → g.caste = 3 →
      (s0.bestCell .ledger false = none → exec (.fareDenyLoad t tag q io) s = .next s0) ∧
      (∀ cell s1, s0.bestCell .ledger false = some cell →
        ((s0.giveWork cell .mix).dropWorkOn cell .mix).hostRead tag o.dataIova o.dataLen 3 io.dataFault = .ok s1 →
        let bytes := (io.data ++ List.replicate o.dataLen 0).take o.dataLen
        let x := Shadow8.load (tfind s.fare.shadows tag) (s.insN tag 0x0604) (bit (o.params.getD 0 0) 0) bytes
        ∃ (s' s2 : State), exec (.fareDenyLoad t tag q io) s = .next s' ∧ s' = s2.opDone tag q o x.1 [] io ∧
          tfind s'.fare.shadows tag = x.2 ∧ (∀ k, k ≠ tag → tfind s'.fare.shadows k = tfind s.fare.shadows k) ∧
          s'.fare = { s1.fare with shadows := s'.fare.shadows })) ∧
    (∀ g c cap, s0.gateEntry tag o = .ok (g, c, cap) → g.caste ≠ 3 → exec (.fareDenyLoad t tag q io) s =
      .next ((s0.modQp tag q (fun p => { p with ops := rest })).opDone tag q o 0x0407 [] io))) ∧
  (∀ (old : Option Shadow8) (log2 : Nat) (b : List Byte), b.length % 24 = 0 → b.length ≤ 24 * denyMax →
    let es := denyEntries (b.length / 24) b
    (es.all (fun e => !e.2) = true → risingFrom none (es.map (·.1)) = true →
      ∃ bloom, Shadow8.load old log2 true b = (0, some { list := { entries := es.map (·.1), bloom, log2 }, complete := true })) ∧
    (risingFrom none (es.map (·.1)) = false → Shadow8.load old log2 true b = (0x0605, none)) ∧
    (Shadow8.load none log2 false b = (0x0605, none)))

/-! ### 09 Cartridges -/

/-- R244 to R257, Tables 9-1 to 9-8: a card detected for 50 ms is powered and initialised step by step; a card that does not
answer as a step needs fails it: the slot is FAILED, or tries once more after 50 ms without power; a locked card without a password is
LOCKED, a card without a valid label UNFORMATTED, one with another tenant's FOREIGN, and the last step makes the slot READY; a card
gone for 1 ms leaves the slot EMPTY.  The journal writer puts up to three waiting records into the block with the next serial; the
block's end makes it the highest, a failed write is repeated once, and busy beyond 500 ms is such a failure.  An erase's end
is reported and the slot starts again through a power cycle. -/
def Obligations.CartridgeSlots : Prop :=
  ∀ (t slot : Nat) (s : State), slot ≤ 3 →
  let s0 := s.tick t
  let c := s.cartSlot slot
  let lone (s' : State) : Prop := ∀ k, k ≠ slot → s'.cartSlot k = s.cartSlot k
  (∀ level, c.cdHigh ≠ level → ∃ s', exec (.cardDetectChange t slot level) s = .next s' ∧
    s'.cartSlot slot = { c with cdHigh := level, cdSince := s0.now } ∧ lone s' ∧ s' = { s0 with cart := s'.cart }) ∧
  (exec (.cardDetectChange t slot c.cdHigh) s = .next s0) ∧
  (s.lcy.powerGood = true → c.state = .empty → c.sealedOff = false → c.cdHigh = false → c.cdSince + 50000000 ≤ s0.now →
    ∃ s', exec (.cartInserted t slot) s = .next s' ∧
      s'.cartSlot slot = { cdHigh := false, cdSince := c.cdSince, state := .init, power := true } ∧ lone s' ∧
      .pin ("K" ++ toString slot ++ "_PWR_EN") true ∈ s'.out ∧
      s' = { s0 with cart := s'.cart, evt := s'.evt, stat := s'.stat, out := s'.out }) ∧
  (s0.now < c.cdSince + 50000000 → exec (.cartInserted t slot) s = .next s0) ∧
  (c.state ≠ .empty → c.cdHigh = true → c.cdSince + 1000000 ≤ s0.now → ∃ s', exec (.cartRemoved t slot) s = .next s' ∧
    s'.cartSlot slot = { cdHigh := true, cdSince := c.cdSince } ∧ lone s' ∧
    .pin ("K" ++ toString slot ++ "_PWR_EN") false ∈ s'.out) ∧
  (c.state = .init → c.cycling = true → c.cycleEnds ≤ s0.now → ∃ s', exec (.cartPowerCycleEnd t slot) s = .next s' ∧
    s'.cartSlot slot = { c with power := true, mode := 0, wide := false, v18 := false, cycling := false, step := 1 } ∧ lone s' ∧
    s' = { s0 with cart := s'.cart, out := s'.out }) ∧
  (c.state = .init → c.cycling = false → ∀ r : CardResp,
    (c.step = 3 → r.valid = true → r.timeout = false → r.word.toNat = 0x1AA → ∃ s', exec (.cartInitStep t slot r) s = .next s' ∧
      s'.cartSlot slot = { c with step := 4 } ∧ lone s' ∧ s' = { s0 with cart := s'.cart, out := s'.out }) ∧
    (c.step = 3 → (r.valid = false ∨ r.timeout = true ∨ r.word.toNat ≠ 0x1AA) → ∃ s', exec (.cartInitStep t slot r) s = .next s' ∧
      (s'.cartSlot slot).state = .failed ∧ lone s') ∧
    (c.step = 7 → r.valid = true → r.timeout = false → ∃ s', exec (.cartInitStep t slot r) s = .next s' ∧
      s'.cartSlot slot = { c with step := 8 } ∧ lone s') ∧
    (c.step = 7 → (r.valid = false ∨ r.timeout = true) → c.failedOnce = false → ∃ s', exec (.cartInitStep t slot r) s = .next s' ∧
      (s'.cartSlot slot).state = .init ∧ (s'.cartSlot slot).cycling = true ∧ (s'.cartSlot slot).power = false ∧
      (s'.cartSlot slot).cycleEnds = s0.now + 50000000 ∧ (s'.cartSlot slot).failedOnce = true ∧ lone s') ∧
    (c.step = 7 → (r.valid = false ∨ r.timeout = true) → c.failedOnce = true → ∃ s', exec (.cartInitStep t slot r) s = .next s' ∧
      (s'.cartSlot slot).state = .failed ∧ lone s') ∧
    (c.step = 9 → c.lockedNow = true → tfind s.cfg.carts slot = none → ∃ s', exec (.cartInitStep t slot r) s = .next s' ∧
      (s'.cartSlot slot).state = .locked ∧ lone s') ∧
    (c.step = 12 → labelOk r.label c.capacity = false → ∃ s', exec (.cartInitStep t slot r) s = .next s' ∧
      (s'.cartSlot slot).state = .unformatted ∧ lone s') ∧
    (c.step = 12 → r.valid = true → r.timeout = false → labelOk r.label c.capacity = true → ∃ s',
      exec (.cartInitStep t slot r) s = .next s' ∧ (s'.cartSlot slot).tenant = bf r.label 8 2 ∧
      (s'.cartSlot slot).cartId = bf r.label 12 8 ∧ (s'.cartSlot slot).jrnLba = bf r.label 28 4 ∧
      (s'.cartSlot slot).jrnBlocks = bf r.label 32 4 ∧ lone s' ∧
      (tfind s.cfg.carts slot = none → (s'.cartSlot slot).state = .foreign) ∧
      (∀ b, tfind s.cfg.carts slot = some b → b.tenant = bf r.label 8 2 →
        (s'.cartSlot slot).state = .init ∧ (s'.cartSlot slot).step = 13)) ∧
    (c.step = 16 → c.highest + 1 ≤ c.collected + c.jrnBlocks → ∃ s', exec (.cartInitStep t slot r) s = .next s' ∧
      s'.cartSlot slot = { c with state := .ready, full := false } ∧ lone s')) ∧
  (c.state ≠ .init → ∀ r, exec (.cartInitStep t slot r) s = .next s0) ∧
  (∀ n r, c.state = .ready → c.writing = none → c.rewrite = none → c.headerDue = false → c.queue = [n] → s.jrec n = some r →
    r.cart = .waiting → ∃ s' b, exec (.cartBlockWrite t slot) s = .next s' ∧
      b = { serial := c.highest + 1, bytes := journalBlock (c.highest + 1) c.tenant c.cartId [r.bytes], recs := [n], lastRseq := r.rseq
            lastSeal := slice r.bytes 112 16, started := s0.now } ∧
      s'.cartSlot slot = { c with queue := [], writing := some b } ∧
      .card slot 24 (wd (c.jrnLba + c.highest % max 1 c.jrnBlocks)) b.bytes ∈ s'.out ∧ lone s' ∧
      s' = { s0 with cart := s'.cart, out := s'.out }) ∧
  (∀ b, c.state = .ready → c.writing = none → c.rewrite = some b → ∃ s', exec (.cartBlockWrite t slot) s = .next s' ∧
    s'.cartSlot slot = { c with rewrite := none, writing := some { b with again := true, started := s0.now } } ∧ lone s') ∧
  (∀ b, c.state = .ready → c.writing = some b →
    (c.ejecting = false → ∃ s', exec (.cartBlockDone t slot true) s = .next s' ∧ (s'.cartSlot slot).state = .ready ∧
      (s'.cartSlot slot).writing = none ∧ (s'.cartSlot slot).highest = b.serial ∧ (s'.cartSlot slot).lastRseq = b.lastRseq ∧
      (s'.cartSlot slot).lastSeal = b.lastSeal ∧ lone s') ∧
    (b.again = false → s.devN 0x0703 = 1 → ∃ s', exec (.cartBlockDone t slot false) s = .next s' ∧
      s'.cartSlot slot = { c with writing := none, rewrite := some b } ∧ lone s' ∧ s' = { s0 with cart := s'.cart }) ∧
    (b.again = true → c.ejecting = false → c.failedOnce = false → ∃ s', exec (.cartBlockDone t slot false) s = .next s' ∧
      (s'.cartSlot slot).state = .init ∧ (s'.cartSlot slot).cycling = true ∧ (s'.cartSlot slot).queue = [] ∧ lone s') ∧
    (b.again = true → c.ejecting = false → c.failedOnce = true → ∃ s', exec (.cartBlockDone t slot false) s = .next s' ∧
      (s'.cartSlot slot).state = .failed ∧ lone s') ∧
    (b.started + 500000000 ≤ s0.now → exec (.cartBusyTimeout t slot) s = exec (.cartBlockDone t slot false) s) ∧
    (s0.now < b.started + 500000000 → exec (.cartBusyTimeout t slot) s = .next s0)) ∧
  (∀ ok, c.state = .erasing → ∃ s', exec (.cartEraseDone t slot ok) s = .next s' ∧ (s'.cartSlot slot).state = .init ∧
    (s'.cartSlot slot).cycling = true ∧ (s'.cartSlot slot).cycleEnds = s0.now + 50000000 ∧ lone s') ∧
  (∀ ok, c.state ≠ .erasing → exec (.cartEraseDone t slot ok) s = .next s0)

/-- R252, R256, R259 to R263, Table 9-10: what the cartridge commands answer and do. -/
def Sys2Proof.Say.cartridgeCommandsSay : Prop :=
  ∀ (t tag : Nat) (io : HostIo) (s : State) (a : List Word),
  let s0 := s.tick t
  let n := cartArg a
  let c := s.cartSlot n
  let tenant := fld (arg a 2) 9 0
  let len := (arg a 4).toNat
  (argHandle a 3 = 0 → tenant = 0 → Stages (.cartBind t tag io) s a (.cartBind n none) 0 []) ∧
  (argHandle a 3 = 0 → 1 ≤ tenant → tenant ≤ 31 → s.boundElsewhere n tenant = false →
    Stages (.cartBind t tag io) s a (.cartBind n (some { tenant, pwd := none })) 0 []) ∧
  (argHandle a 3 = 0 → 1 ≤ tenant → tenant ≤ 31 → s.boundElsewhere n tenant = true → Answers (.cartBind t tag io) s a 0x0709 [] s0) ∧
  (argHandle a 3 = 0 → 31 < tenant → Answers (.cartBind t tag io) s a 0x0012 [] s0) ∧
  (s.cartMine tag n = true → Answers (.cartStatus t tag io) s a 0
    ([ wd (cartCode c.state + 16 * c.mode + 128 * b2n c.wide + 256 * b2n c.v18 + 512 * b2n c.full + 1024 * b2n c.wasLocked)
     , wd c.capacity ] ++ twoWords c.highest ++ twoWords c.collected ++ [wd (min (2 ^ 32 - 1) (s.counter 8 n 1))]) s0) ∧
  (∀ cmd, cmd = .cartJournalRead t tag io ∨ cmd = .cartJournalMark t tag io ∨ cmd = .cartDataList t tag io ∨
      cmd = .cartDataStage t tag io →
    (s.cartMine tag n = false → Answers cmd s a 0x0701 [] s0) ∧
    (s.cartMine tag n = true → c.state ≠ .ready → Answers cmd s a 0x0702 [] s0)) ∧
  (s.cartMine tag n = false → Answers (.cartStatus t tag io) s a 0x0701 [] s0 ∧ Answers (.cartEject t tag io) s a 0x0701 [] s0) ∧
  (s.cartMine tag n = true → c.state = .ready →
    (readLen len = false → Answers (.cartJournalRead t tag io) s a 0x0012 [] s0) ∧
    (∀ bytes s1, readLen len = true → io.card = some bytes →
      let first := ofTwo (arg a 5) (arg a 6)
      let k := min (len / 512) (c.highest + 1 - first)
      0 < first → s0.hostWrite tag (ofTwo (arg a 2) (arg a 3)) ((bytes ++ List.replicate (512 * k) 0).take (512 * k)) io.dataFault = (0, s1) →
      Answers (.cartJournalRead t tag io) s a 0 (wd k :: twoWords (first + k)) s1) ∧
    (let v := ofTwo (arg a 2) (arg a 3);
      (v < c.collected ∨ c.highest < v → Answers (.cartJournalMark t tag io) s a 0x0012 [] s0) ∧
      (c.collected ≤ v → v ≤ c.highest → c.writing = none → Answers (.cartJournalMark t tag io) s a 0 []
        (((s0.modCart n (fun c => { c with collected := v })).cartHeader n).cartFullCheck n))) ∧
    (len ≠ 8192 → Answers (.cartDataList t tag io) s a 0x0012 [] s0) ∧
    (∀ bytes s1, len = 8192 → io.card = some bytes →
      let d := (bytes ++ List.replicate 8192 0).take 8192
      s0.hostWrite tag (ofTwo (arg a 2) (arg a 3)) d io.dataFault = (0, s1) →
      Answers (.cartDataList t tag io) s a 0 [wd (bf d 4 2), wd (bf d 8 4)] s1) ∧
    (∀ bytes id m, io.card = some bytes → s0.openMan tag = some (id, m) →
      let dir := s0.dirCheck id c.tenant (fld (arg a 2) 5 0) c.dataBlocks ((bytes ++ List.replicate 8192 0).take 8192) (bytes.drop 8192)
      (∀ st, dir = .error st → Answers (.cartDataStage t tag io) s a st [] s0) ∧
      (∀ o st rs s1, dir = .ok (1, o) → 2612 ≤ o.length → o.length ≤ 4 * 2 ^ 20 → s0.stageTable tag 0x0706 o = .reply st rs s1 →
        Answers (.cartDataStage t tag io) s a st rs s1) ∧
      (∀ o st rs s1, dir = .ok (2, o) → deltaLen o.length = true → s0.stageDelta tag 0x0706 o = .reply st rs s1 →
        Answers (.cartDataStage t tag io) s a st rs s1)) ∧
    (c.queue = [] → c.writing = none → c.rewrite = none → Answers (.cartEject t tag io) s a 0 []
      ((s0.modCart n (fun c => { c with queue := [] })).cartEject n true))) ∧
  (s.cartMine tag n = true → c.state = .locked ∨ c.state = .unformatted ∨ c.state = .foreign ∨ c.state = .failed →
    Answers (.cartEject t tag io) s a 0 [] (s0.cartEject n false)) ∧
  (s.cartMine tag n = true → c.state = .empty → Answers (.cartEject t tag io) s a 0x0702 [] s0) ∧
  (let jb := (arg a 3).toNat;
    let db := (arg a 2).toNat;
    let id := ofTwo (arg a 4) (arg a 5);
    (id = 0 → Answers (.cartFormat t tag io) s a 0x0012 [] s0) ∧
    (id ≠ 0 → c.capacity ≠ 0 → (jb < 65536 ∨ c.capacity < 32 + db + jb) → Answers (.cartFormat t tag io) s a 0x0708 [] s0) ∧
    (id ≠ 0 → c.capacity ≠ 0 → 65536 ≤ jb → 32 + db + jb ≤ c.capacity →
      Stages (.cartFormat t tag io) s a (.cartFormat n db jb id) 0 [])) ∧
  Stages (.cartForceErase t tag io) s a (.cartErase n) 0 []

/-- The fare and the cartridge commands. -/
def Obligations.FareAndCartridgeCommands : Prop := Sys2Proof.Say.fareCommandsSay ∧ Sys2Proof.Say.cartridgeCommandsSay

/-! ### 10 Time -/

/-- R265, R268 to R284: a PTP message that a shadow may not take is counted; a Sync, a Follow_Up, an Announce and a Delay_Resp of the master
followed give it an offset, a master and a path delay; the first offset of an acquisition steps the shadow by it, an outlier is
counted, and the 16th offset in a row within the limit locks the shadow; silence returns it to LISTENING; the preferred shadow, a
REFUSED one, the slew and the holdover alarm follow their timers; master ports send their messages in turn; PPS outputs rise and fall
with their units, and an input edge within 100 ms of the last is dropped. -/
def Obligations.TimeEngine : Prop :=
  ∀ (t n : Nat) (s : State),
  let s0 := s.tick t
  let h := s0.shadow n
  (∀ (m : PtpMsg) (c : Instr), c = .ptpSync t n m ∨ c = .ptpFollowUp t n m ∨ c = .ptpAnnounce t n m ∨ c = .ptpDelayResp t n m →
    (h.state = .disabled → exec c s = .next s0) ∧
    (∀ d, h.state ≠ .disabled → tfind s.cfg.domains n = some d →
      (m.malformed = true → exec c s = .next (s0.count 9 n 2)) ∧
      (m.malformed = false → m.unsupported = true → exec c s = .next (s0.count 9 n 0)) ∧
      (m.malformed = false → m.unsupported = false → d.domain ≠ m.domain → exec c s = .next (s0.count 9 n 2)))) ∧
  (∀ (m : PtpMsg) d, h.state ≠ .disabled → tfind s.cfg.domains n = some d → m.malformed = false → m.unsupported = false →
    d.domain = m.domain →
    (h.tracks = true → h.fromMaster m = true → -7 ≤ m.logInterval → m.logInterval ≤ 1 →
      let s1 := s0.modShadow n (fun h => { h with lastSync := s0.now, logSync := m.logInterval })
      (m.twoStep = true → ∃ s', exec (.ptpSync t n m) s = .next s' ∧ s'.shadow n = { h with
          lastSync := s0.now, logSync := m.logInterval, pendingSync := some (m.seq, 0, s0.shadowCapture n d.port - m.correction) } ∧
        (∀ k, k ≠ n → s'.shadow k = s0.shadow k) ∧ s' = { s0 with tim := { s0.tim with shadows := s'.tim.shadows } }) ∧
      (m.twoStep = false →
        exec (.ptpSync t n m) s = .next (s1.syncDone n (s0.shadowCapture n d.port - m.origin - m.correction)))) ∧
    (h.fromMaster m = false → -7 ≤ m.logInterval → m.logInterval ≤ 1 → exec (.ptpSync t n m) s = .next (s0.count 9 n 2)) ∧
    (h.tracks = true → h.fromMaster m = true → -128 ≤ m.logInterval → m.logInterval ≤ 127 →
      (∀ k x, h.pendingSync = some (m.seq, k, x) →
        exec (.ptpFollowUp t n m) s = .next (s0.syncDone n (x - m.origin - m.correction))) ∧
      (h.pendingSync = none → exec (.ptpFollowUp t n m) s = .next (s0.count 9 n 2)) ∧
      (∀ q t3, h.delayReq = some (q, some t3) → q = m.seq →
        m.requesting = { clock := BitVec.ofNat 64 s.clockId, port := d.port + 1 } → ∃ s', exec (.ptpDelayResp t n m) s = .next s' ∧
          (s'.shadow n).delays = ((h.t2t1 + (m.origin - m.correction - t3)) / 2 :: h.delays).take 8 ∧
          (s'.shadow n).meanDelay ∈ (s'.shadow n).delays ∧ (∀ x ∈ (s'.shadow n).delays, (s'.shadow n).meanDelay ≤ x) ∧
          (s'.shadow n).delayReq = none ∧ s' = { s0 with tim := { s0.tim with shadows := s'.tim.shadows } })) ∧
    (∀ b, h.state = .listening → -3 ≤ m.logInterval → m.logInterval ≤ 4 →
      let s1 := s0.modShadow n (fun h => { h with masters := putMaster h.masters { m.data with logAnnounce := m.logInterval } s0.now })
      (s1.bmca n = some b → ∃ s', exec (.ptpAnnounce t n m) s = .next s' ∧ (s'.shadow n).state = .acquiring ∧
        (s'.shadow n).master = some b) ∧
      (s1.bmca n = none → exec (.ptpAnnounce t n m) s = .next s1))) ∧
  (∀ (s : State) (n : Nat) (o : Int),
    let h := s.shadow n
    (h.state = .acquiring → h.history = [] → ((s.takeOffset n o).shadow n).value = moveValue h.value (-o) ∧
      ((s.takeOffset n o).shadow n).offset = o ∧ ((s.takeOffset n o).shadow n).state = .acquiring) ∧
    (h.history ≠ [] → within (o - h.predicted) (s.devN 0x0806) = false → h.outliers < 7 →
      s.takeOffset n o = (s.count 9 n 1).modShadow n (fun h => { h with outliers := h.outliers + 1 })) ∧
    (h.history ≠ [] → within (o - h.predicted) (s.devN 0x0806) = true → within o (s.devN 0x0804) = true → h.state = .acquiring →
      h.within = 15 → s.tim.timeState = 0 → ((s.takeOffset n o).shadow n).state = .locked) ∧
    (h.history ≠ [] → within (o - h.predicted) (s.devN 0x0806) = true → within o (s.devN 0x0804) = false →
      ((s.takeOffset n o).shadow n).within = 0 ∧ ((s.takeOffset n o).shadow n).state = h.state ∧
      ((s.takeOffset n o).shadow n).corr.natAbs ≤ max 500000000 h.corr.natAbs)) ∧
  ((s.shadow n).tracks = true → ∀ d, tfind s.cfg.domains n = some d →
    let s1 := s.tick (match (s.shadow n).delayAt with | some a => max t (a + logNs (s.shadow n).logDelayReq) | none => t)
    ∃ s', exec (.delayReqSend t n) s = .next s' ∧ s'.shadow n = { s1.shadow n with
      delayReq := some ((s.shadow n).delaySeq, none), delayAt := some s1.now, delaySeq := ((s.shadow n).delaySeq + 1) % 65536 } ∧
      (∀ k, k ≠ n → s'.shadow k = s1.shadow k) ∧ s'.now = s1.now) ∧
  ((s.shadow n).tracks = false → exec (.delayReqSend t n) s = .next s0 ∧ exec (.syncTimeout t n) s = .next s0 ∧
    exec (.announceReceiptTimeout t n) s = .next s0) ∧
  ((s.shadow n).tracks = true → ∃ s', exec (.syncTimeout t n) s = .next s' ∧ (s'.shadow n).state = .listening ∧
    (s'.shadow n).master = none ∧ s'.now = (s.tick (max t ((s.shadow n).lastSync + 4 * logNs (s.shadow n).logSync))).now) ∧
  (∀ m, (s.shadow n).tracks = true → (s.shadow n).master = some m → ∃ s', exec (.announceReceiptTimeout t n) s = .next s' ∧
    (s'.shadow n).state = .listening ∧ (s'.shadow n).master = none ∧ (∀ x ∈ (s'.shadow n).masters, x.source ≠ m.source) ∧
    s'.now = (s.tick (max t (m.heard + 3 * logNs m.logAnnounce))).now) ∧
  ((s.shadow n).state = .refused →
    let s1 := s.tick (max t ((s.shadow n).checkedAt + 1000000000))
    (within (s1.residual n) (s.devN 0x0803) = true → exec (.refusedRecheck t n) s =
      .next (s1.modShadow n (fun h => { h with state := .locked, lockedSince := s1.now })).select) ∧
    (within (s1.residual n) (s.devN 0x0803) = false → ∃ s', exec (.refusedRecheck t n) s = .next s' ∧
      (s'.shadow n).state = .refused ∧ (s'.shadow n).checkedAt = s1.now ∧ s'.tim.following = s1.tim.following)) ∧
  ((s.shadow n).state ≠ .refused → exec (.refusedRecheck t n) s = .next s0) ∧
  (let p := s.devN 0x0801;
    (p < 2 → (s.shadow p).state = .locked → s.tim.following = .shadow (1 - p) → exec (.preferredRevert t) s =
      .next (s.tick (max t ((s.shadow p).lockedSince + s.devN 0x0802 * 1000000000))).select) ∧
    ((s.shadow p).state ≠ .locked → exec (.preferredRevert t) s = .next s0)) ∧
  (s.tim.slewing = false → exec (.slewEnd t) s = .next s0) ∧
  (s.tim.slewing = true → s.tim.following = .shadow n → ∃ s', exec (.slewEnd t) s = .next s' ∧
    let u := max t (s.now + ((s.residual n).natAbs * 10000 + nsUnit - 1) / nsUnit)
    s' = { s.tick u with tim := { (s.tick u).tim with slewing := decide ((s.tick u).residual n ≠ 0) && (s.tick u).tim.slewing } }) ∧
  (s.tim.following = .holdover → s.tim.holdAlarm = false → ∃ s', exec (.holdoverAlarm t) s = .next s' ∧
    let s1 := s.tick (max t (s.tim.holdSince + s.devN 0x0807 * 1000000000))
    s' = { s1 with tim := { s1.tim with holdAlarm := true }, evt := s'.evt, out := s'.out }) ∧
  (s.tim.following ≠ .holdover ∨ s.tim.holdAlarm = true → exec (.holdoverAlarm t) s = .next s0) ∧
  (∀ c, s.masterCfg n = some c →
    (let s1 := s.tick (match (s.masterPort n).syncAt with | some a => max t (a + logNs c.logSync) | none => t);
      ∃ s', exec (.masterSyncSend t n) s = .next s' ∧ s'.masterPort n = { s.masterPort n with
        syncSeq := ((s.masterPort n).syncSeq + 1) % 65536, syncAt := some s1.now } ∧
        (∀ k, k ≠ n → s'.masterPort k = s.masterPort k) ∧ s'.tim.shadows = s1.tim.shadows) ∧
    (let s1 := s.tick (match (s.masterPort n).annAt with | some a => max t (a + logNs c.logAnnounce) | none => t);
      ∃ s', exec (.masterAnnounceSend t n) s = .next s' ∧ s'.masterPort n = { s.masterPort n with
        annSeq := ((s.masterPort n).annSeq + 1) % 65536, annAt := some s1.now } ∧
        (∀ k, k ≠ n → s'.masterPort k = s.masterPort k) ∧ s'.tim.shadows = s1.tim.shadows) ∧
    (∀ m : PtpMsg, m.malformed = false → m.unsupported = false → m.domain = c.domain → ∃ s' body,
      exec (.masterDelayReq t n m) s = .next s' ∧ s' = s0.sendPtp n c.transport false
        (s0.ptpBytes n c.domain 9 0x0008 3 m.seq (m.correction - (fracOf (s0.stampAt (0x0810 + n)) : Int)) c.logSync body) ∧
      body = ptpTime (s0.stampAt (0x0810 + n)) ++ toBe 8 m.data.source.clock.toNat ++ toBe 2 m.data.source.port)) ∧
  (s.masterCfg n = none → exec (.masterSyncSend t n) s = .next s0 ∧ exec (.masterAnnounceSend t n) s = .next s0 ∧
    ∀ m, exec (.masterDelayReq t n m) s = .next s0) ∧
  ((s.cmp 2).armed = true → s.devN 0x0808 = 1 →
    let s1 := s.tick (max t (s.deadlineOf (s.cmp 2).sec (s.cmp 2).ns))
    ∃ s', exec (.ppsOutRise t 0) s = .next s' ∧ s'.tim.ppsOut0 = true ∧ s'.tim.ppsFall0 = s1.now + s.devN 0x0809 * 1000 ∧
      (s'.cmp 2).count = ((s.cmp 2).count + 1) % 65536 ∧ (∀ k, k ≠ 2 → s'.cmp k = s1.cmp k) ∧ .pin "PPS_OUT0" true ∈ s'.out ∧
      s' = { s1 with tim := s'.tim, out := s'.out }) ∧
  ((s.cmp 2).armed = true → s.devN 0x0808 = 0 → ∃ s', exec (.ppsOutRise t 0) s = .next s' ∧ s'.out = s.out ∧
    s'.tim.ppsOut0 = (s.tick (max t (s.deadlineOf (s.cmp 2).sec (s.cmp 2).ns))).tim.ppsOut0) ∧
  ((s.cmp 3).armed = false → exec (.ppsOutRise t 1) s = .next s0) ∧
  (s.tim.ppsOut1 = true → ∃ s', exec (.ppsOutFall t 1) s = .next s' ∧ .pin "PPS_OUT1" false ∈ s'.out ∧
    s' = { s.tick (max t s.tim.ppsFall1) with tim := { (s.tick (max t s.tim.ppsFall1)).tim with ppsOut1 := false }, out := s'.out }) ∧
  (s.tim.ppsOut0 = false → exec (.ppsOutFall t 0) s = .next s0) ∧
  (∀ v d, s.tim.ppsIn = some (v, d) → s0.now < d + 100000000 → exec (.ppsInEdge t) s = .next (s0.count 9 0 3)) ∧
  ((∀ v d, s.tim.ppsIn = some (v, d) → d + 100000000 ≤ s0.now) → exec (.ppsInEdge t) s =
    .next { s0 with tim := { s0.tim with ppsIn := some (s0.tim.served, s0.now), ppsEdges := s.tim.ppsEdges + 1 } }) ∧
  (n ≤ 287 → s.enabled n = true → exec (.timServedNsRead t n) s = .next (s0.modInst n (fun i => { i with snapshot := s0.tim.served })))

/-- R282, R285, R287, Table 10-12: what the time commands answer and do. -/
def Sys2Proof.Say.timeCommandsSay : Prop :=
  ∀ (t tag : Nat) (io : HostIo) (s : State) (a : List Word),
  let s0 := s.tick t
  let n := fld (arg a 1) 0 0
  let w := arg a 1
  let x := arg a 2
  let u := fld (arg a 1) 3 0
  (∃ r held, Answers (.timeStatus t tag io) s a 0
    [ wd (nsOf s0.tim.served), wd (secOf s0.tim.served)
    , wd (secOf s0.tim.served / 2 ^ 32 % 65536 + fracOf s0.tim.served * 65536), wd s0.timState, r, held
    , wd (unsgn 16 s.tim.utcOffset + 65536 * b2n s.tim.utcValid), wd s.tim.steps ] s0) ∧
  (∀ d m, tfind s.cfg.domains n = some d → (s.shadow n).master = some m → (s.shadow n).state ≠ .disabled →
    Answers (.timeShadowStatus t tag io) s a 0
      ([wd (shadowCode (s.shadow n).state + d.port * 16 + d.domain * 64 + d.profile * 65536)] ++ twoWords m.grandmaster.toNat ++
        [ wd (m.clockClass + m.stepsRemoved * 256), satWord (toNs (s0.residual n)), satWord (toNs (s.shadow n).meanDelay)
        , satWord (toNs (s.shadow n).offset), wd (unsgn 32 ((s.shadow n).corr / 1000)), wd (s.counter 9 n 2) ]) s0) ∧
  (fld w 13 12 ≠ 3 → Stages (.timeDomainSet t tag io) s a (.timeDomain n
    { enable := bit w 1, port := fld w 3 2, domain := fld w 10 4, transport := fld w 13 12, profile := fld w 16 16 }) 0 []) ∧
  (fld w 13 12 = 3 → Answers (.timeDomainSet t tag io) s a 0x0012 [] s0 ∧ Answers (.timeMasterSet t tag io) s a 0x0012 [] s0) ∧
  (fld w 13 12 ≠ 3 → -7 ≤ sgn 8 (fld x 7 0) → sgn 8 (fld x 7 0) ≤ 1 → -3 ≤ sgn 8 (fld x 15 8) → sgn 8 (fld x 15 8) ≤ 4 →
    Stages (.timeMasterSet t tag io) s a (.timeMaster (2 + n)
      { enable := bit w 1, domain := fld w 8 2, transport := fld w 13 12, profile := fld w 16 16, oneStep := bit w 17
        logSync := sgn 8 (fld x 7 0), logAnnounce := sgn 8 (fld x 15 8), priority1 := fld x 23 16, priority2 := fld x 31 24 }) 0 []) ∧
  ((s.shadow n).state ≠ .refused → Answers (.timeJumpAccept t tag io) s a 0x0801 [] s0) ∧
  ((s.shadow n).state = .refused → ∃ s1, Answers (.timeJumpAccept t tag io) s a 0 [satWord (toNs (s0.residual n))] s1 ∧
    s1.tim.served = ((s0.tim.served : Int) + s0.residual n).toNat ∧ s1.tim.following = .shadow n ∧ s1.tim.timeState = n + 1 ∧
    (s1.shadow n).state = .locked ∧ (s1.shadow n).lockedSince = s0.now) ∧
  (u < 4 → Answers (.timeCmpSet t tag io) s a 0x0802 [] s0) ∧
  (4 ≤ u → 999999999 < (arg a 3).toNat → Answers (.timeCmpSet t tag io) s a 0x0012 [] s0) ∧
  (4 ≤ u → (arg a 3).toNat ≤ 999999999 → bit w 8 = true → Answers (.timeCmpSet t tag io) s a 0 [] (s0.modCmp u (fun _ =>
    { sec := x.toNat, ns := (arg a 3).toNat, armed := true, period := fld (arg a 4) 15 0
      past := s0.hasReached x.toNat (arg a 3).toNat }))) ∧
  (4 ≤ u → (arg a 3).toNat ≤ 999999999 → bit w 8 = false →
    Answers (.timeCmpSet t tag io) s a 0 [] (s0.modCmp u (fun c => { c with armed := false, late := false }))) ∧
  Answers (.timeCmpStatus t tag io) s a 0 [wd (b2n (s.cmp u).armed + 2 * b2n (s.cmp u).late + (s.cmp u).count * 65536)
    , wd (s.cmp u).sec, wd (s.cmp u).ns] s0 ∧
  (∀ v d, s.tim.ppsIn = some (v, d) → Answers (.timePpsInGet t tag io) s a 0
    [wd (secOf v), wd (nsOf v), wd (fracOf v), wd s.tim.ppsEdges, wd (s.counter 9 0 3)] s0)

/-! ### 11 Audio -/

/-- R291, R293, R294, R297 to R301, R307, R308, R310 to R312: a packet that R294 does not accept, one of another SSRC, one too late, too early or
already here is counted; any other fills its positions and its leg runs; a silent leg becomes STALE; an adaptive ratio stays within
300 ppm; a block moves F by its frames and takes a step that is due; every frame is played or concealed, no bus sample leaves 24 bits
and no attenuation the duck depth; a prompt starts at its frame; in the emergency each lane source gets the emergency prompt again. -/
def Obligations.AudioEngine : Prop :=
  (∀ (t n l : Nat) (p : RtpPkt) (s : State),
    let s0 := s.tick t
    (tfind s.audCfg.rx n = none → exec (.rtpPacket t n l p) s = .next s0) ∧
    (∀ c, tfind s.audCfg.rx n = some c → c.enable = true → l ≤ 1 → (l = 1 → c.portB.isSome = true) →
      (rtpParse p.bytes = none → exec (.rtpPacket t n l p) s = .next (s0.count 10 n 12)) ∧
      (∀ pt seq stamp ssrc body, rtpParse p.bytes = some (pt, seq, stamp, ssrc, body) →
        (pt ≠ c.payloadType ∨ body.length ≠ c.payload s.khz ∨ (c.source ≠ 0 ∧ p.source ≠ c.source) →
          exec (.rtpPacket t n l p) s = .next (s0.count 10 n 12)) ∧
        (pt = c.payloadType → body.length = c.payload s.khz → (c.source = 0 ∨ p.source = c.source) →
          (∀ x, ((s.rxs n).leg l).ssrc = some x → x ≠ ssrc → exec (.rtpPacket t n l p) s = .next (s0.count 10 n 11)) ∧
          ((∀ x, ((s.rxs n).leg l).ssrc = some x → x = ssrc) → ∃ s', exec (.rtpPacket t n l p) s = .next s' ∧
            s' = (s0.legHeard n l ssrc).rtpTake n l c seq stamp (rowsOf c.encoding c.channels (c.perPacket s.khz) body) ∧
            ((s'.rxs n).leg l).state = .running ∧ ((s'.rxs n).leg l).ssrc = some ssrc ∧ ((s'.rxs n).leg l).heard = s0.now))))) ∧
  (∀ (s : State) (n l seq stamp : Nat) (c : RxCfg) (rows : List (List Int)), c.adaptive = false →
    let d := sgn 32 (stamp + 2 ^ 32 - s.playPoint c)
    let x := s.rxs n
    let per := c.perPacket s.khz
    let off := c.offsetSamples s.khz
    (d < s.khz / 2 → s.rtpTake n l c seq stamp rows = s.count 10 n 4) ∧
    ((s.khz / 2 : Nat) ≤ d → ((off + 2 * per : Nat) : Int) < d + per → s.rtpTake n l c seq stamp rows = s.count 10 n 5) ∧
    ((s.khz / 2 : Nat) ≤ d → d + per ≤ ((off + 2 * per : Nat) : Int) →
      (∀ f, tfind x.buf stamp = some f → f.leg = l → s.rtpTake n l c seq stamp rows = s.count 10 n 6) ∧
      (tfind x.buf stamp = none → stamp < 2 ^ 32 → rows.length < 2 ^ 32 →
        ((s.rtpTake n l c seq stamp rows).rxs n).packets = x.packets + 1 ∧
        ∀ i, i < rows.length → tfind x.buf ((stamp + i) % 2 ^ 32) = none →
          tfind ((s.rtpTake n l c seq stamp rows).rxs n).buf ((stamp + i) % 2 ^ 32) =
            some { samples := rows.getD i [], leg := l, at_ := s.now }))) ∧
  (∀ (t n l : Nat) (s : State), l ≤ 1 →
    (((s.rxs n).leg l).state = .running → ∃ s', exec (.legStale t n l) s = .next s' ∧
      ((s'.rxs n).leg l).state = .stale ∧ ((s'.rxs n).leg l).ssrc = none ∧ (s'.rxs n).leg (1 - l) = (s.rxs n).leg (1 - l) ∧
      (s'.rxs n).buf = (s.rxs n).buf ∧ (∀ k, k ≠ n → s'.rxs k = s.rxs k) ∧
      s'.now = (s.tick (max t (((s.rxs n).leg l).heard + s.devN 0x0907 * 1000000))).now) ∧
    (((s.rxs n).leg l).state ≠ .running → exec (.legStale t n l) s = .next (s.tick t))) ∧
  (∀ (t n : Nat) (s : State),
    (∀ c p, tfind s.audCfg.rx n = some c → (s.rxs n).play = some p → c.enable = true → c.adaptive = true → ∃ s',
      exec (.adaptiveMeasure t n) s = .next s' ∧ -30000 ≤ (s'.rxs n).ratio ∧ (s'.rxs n).ratio ≤ 30000 ∧
      (c.perPacket s.khz ≤ (s.rxs n).buf.length → (s.rxs n).buf.length ≤ c.offsetSamples s.khz →
        s'.rxs n = { s.rxs n with ratio := (s'.rxs n).ratio }) ∧ (∀ k, k ≠ n → s'.rxs k = s.rxs k)) ∧
    (∀ c, tfind s.audCfg.rx n = some c → c.adaptive = false → exec (.adaptiveMeasure t n) s = .next (s.tick t))) ∧
  (∀ (t : Nat) (tdmIn : List (List Int)) (s : State),
    (s.lcy.powerGood = false → exec (.audioBlock t tdmIn) s = .next (s.tick t)) ∧
    (s.lcy.powerGood = true → let s1 := s.tick (max t s.blockTime)
      ∃ s', exec (.audioBlock t tdmIn) s = .next s' ∧ s'.aud.f = s.aud.f + s.blockLen ∧ s'.now = s1.now ∧
        (s.aud.stepDue = 0 → s'.aud.diff = s.aud.diff) ∧
        (s.aud.stepDue ≠ 0 → s.aud.stepAt ≠ s1.now → s'.aud.diff = s.aud.diff + s.aud.stepDue ∧ s'.aud.stepDue = 0))) ∧
  (∀ (chans n pos : Nat) (x : RxStream),
    let r := RxStream.frames chans n pos x
    r.1.length = n ∧ r.2.1 + r.2.2.1 = n) ∧
  (∀ (s : State) (tdmIn : List (List Int)) (bus : Nat) (src : List BusSource) (live : Bool),
    let r := s.busBlock tdmIn bus src live
    r.2.out.length = s.blockLen ∧ (∀ v ∈ r.2.out, -full24 - 1 ≤ v ∧ v ≤ full24) ∧ r.1 ≤ s.blockLen ∧
      ((∀ a ∈ (tget s.aud.buses bus {} : BusState).duck, a ≤ s.devN 0x0903 * 1000) → ∀ a ∈ r.2.duck, a ≤ s.devN 0x0903 * 1000)) ∧
  (∀ (t key : Nat) (s : State) (p : Prompt), tfind s.aud.prompts key = some p →
    (p.started = false → ∃ s' q, exec (.promptStart t key) s = .next s' ∧ tfind s'.aud.prompts key = some q ∧ q.started = true ∧
      q.frame = max p.frame s.aud.f ∧ q.clip = p.clip ∧ (∀ k, k ≠ key → tfind s'.aud.prompts k = tfind s.aud.prompts k) ∧
      s'.now = (s.tick (max t (s.mediaTime (p.frame + s.aud.diff)))).now) ∧
    (p.started = true → exec (.promptStart t key) s = .next (s.tick t))) ∧
  (∀ (t : Nat) (s : State),
    (s.cfg.clip 0 (s.devN 0x090B) = none ∨ s.lane.emg = false → exec (.emergencyPromptLoop t) s = .next (s.tick t)) ∧
    (∀ l lane, s.cfg.clip 0 (s.devN 0x090B) = some l → s.lane.emg = true → s.audCfg.laneSources = [lane] → s.aud.prompts = [] →
      let start : Int := max (s.aud.emgNext.getD s.aud.f) s.aud.f
      ∃ s' q, exec (.emergencyPromptLoop t) s = .next s' ∧ s'.aud.prompts = [(s.aud.nextKey, q)] ∧ q.source = lane ∧ q.tenant = 0 ∧
        q.prompt = s.devN 0x090B ∧ q.frame = start ∧ q.clip = clipAt s.khz l ∧ q.emg = true ∧ q.started = false ∧
        s'.aud.emgNext = some (start + (clipAt s.khz l).length + 1000 * s.khz)))

/-- R305, R306, R311, R314, Table 11-6: what the audio commands answer and do. -/
def Sys2Proof.Say.audioCommandsSay : Prop :=
  ∀ (t tag : Nat) (io : HostIo) (s : State) (a : List Word),
  let s0 := s.tick t
  let w := arg a 1
  let v := arg a 2
  let b := fld v 15 12
  let rx : RxCfg :=
    { enable := bit w 8, adaptive := bit w 9, encoding := fld w 10 10, channels := fld w 14 11, packetTime := fld w 17 16
      payloadType := fld w 24 18, linkOffset := fld v 7 0, portA := fld v 11 8, portB := if b = 15 then none else some b
      groupA := arg a 3, groupB := arg a 4, udpA := fld (arg a 5) 15 0, udpB := fld (arg a 5) 31 16, source := arg a 6
      rtpOffset := (arg a 7).toNat }
  let tx : TxCfg :=
    { enable := bit w 8, encoding := fld w 10 10, channels := fld w 14 11, packetTime := fld w 17 16, payloadType := fld w 24 18
      portMask := fld v 3 0, dscp := fld v 9 4, ttl := fld v 23 16, group := arg a 3, dstPort := fld (arg a 4) 15 0
      srcPort := fld (arg a 4) 31 16, ssrc := arg a 5, rtpOffset := (arg a 6).toNat }
  let khz := s.stagedRate tag
  let len := (arg a 3).toNat
  let data := (io.data ++ List.replicate len 0).take len
  (rx.linkOffset < 8 ∨ 160 < rx.linkOffset ∨ rx.packetTime = 3 → Answers (.audRxSet t tag io) s a 0x0012 [] s0) ∧
  (8 ≤ rx.linkOffset → rx.linkOffset ≤ 160 → rx.packetTime ≠ 3 →
    (rx.channels = 0 ∨ 8 < rx.channels ∨ 3 < rx.portA ∨ (b ≠ 15 ∧ (3 < b ∨ b = rx.portA)) →
      Answers (.audRxSet t tag io) s a 0x0901 [] s0) ∧
    (1 ≤ rx.channels → rx.channels ≤ 8 → rx.portA ≤ 3 → (b = 15 ∨ (b ≤ 3 ∧ b ≠ rx.portA)) → rx.payload khz ≤ 1440 → 96 ≤ rx.payloadType →
      Stages (.audRxSet t tag io) s a (.audRx (fld w 5 0) rx) 0 [])) ∧
  (tx.packetTime = 3 → Answers (.audTxSet t tag io) s a 0x0012 [] s0) ∧
  (tx.packetTime ≠ 3 → 1 ≤ tx.channels → tx.channels ≤ 8 →
    (1440 < tx.channels * (2 + tx.encoding) * packetSamples khz tx.packetTime ∨ tx.payloadType < 96 →
      Answers (.audTxSet t tag io) s a 0x0902 [] s0) ∧
    (tx.channels * (2 + tx.encoding) * packetSamples khz tx.packetTime ≤ 1440 → 96 ≤ tx.payloadType →
      Stages (.audTxSet t tag io) s a (.audTx (fld w 5 0) tx) 0 [])) ∧
  (let src := [arg a 2, arg a 3, arg a 4, arg a 5].map sourceOf;
    (bit w 15 = false → fld w 8 7 ≠ 0 → Answers (.audBusSet t tag io) s a 0x0013 [] s0) ∧
    ((bit w 15 = true ∨ fld w 8 7 = 0) → (∀ x ∈ src, x.kind ≤ 4 ∧ x.gain ≤ 216 ∧ indexOk x khz = true) →
      (bit w 15 = true ∨ fld w 3 0 < tdmSlots khz) → Stages (.audBusSet t tag io) s a (.audBus (fld w 15 0) src) 0 [])) ∧
  Stages (.audTdmSet t tag io) s a
    (.audTdm (fld w 2 0) { enable := bit w 8, input := bit w 9, wide := bit w 10, fsFormat := fld w 11 11 }) 0 [] ∧
  (clipLen len = false → Answers (.audPromptLoad t tag io) s a 0x0012 [] s0) ∧
  (∀ s1 id m, clipLen len = true → s0.hostRead tag (ofTwo (arg a 1) (arg a 2)) len 3 io.dataFault = .ok s1 →
    s1.openMan tag = some (id, m) →
    (clipSetOk data tag = false ∨ beNat (slice data 12 4) ≤ s1.topClips tag → Answers (.audPromptLoad t tag io) s a 0x0907 [] s1) ∧
    (clipSetOk data tag = true → s1.topClips tag < beNat (slice data 12 4) → m.entries.length < entryLimit tag →
      m.bulk + len ≤ bulkLimit tag → Answers (.audPromptLoad t tag io) s a 0 []
        (s1.modMan id (fun m => { m with
          entries := m.entries ++ [{ op := .clips tag (beNat (slice data 12 4)) (clipsOf data), code := 0x0905
                                     items := (StagedOp.clips tag (beNat (slice data 12 4)) (clipsOf data)).items.map
                                       (fun i => (i, s1.version i))
                                     bulk := len }]
          touched := s1.now })))) ∧
  (999999999 < (arg a 3).toNat → Answers (.audPlay t tag io) s a 0x0012 [] s0) ∧
  ((arg a 3).toNat ≤ 999999999 → s.cfg.clip 0 (fld w 31 16) = none → Answers (.audPlay t tag io) s a 0x0908 [] s0) ∧
  (∀ l, v ≠ 0 → (arg a 3).toNat ≤ 999999999 → fld w 31 16 ≠ 0 → s.cfg.clip 0 (fld w 31 16) = some l →
    let at_ : Int := ((s0.servedSec : Int) + sgn 32 (v.toNat + 2 ^ 32 - s0.sec32)) * secUnit + (arg a 3).toNat * nsUnit
    Answers (.audPlay t tag io) s a 0 [] (s0.addPrompt
      { source := 128 + fld w 1 0, tenant := 0, prompt := fld w 31 16, frame := (sampleCeil at_.toNat s.khz : Int) - s.aud.diff
        stamp := s0.tim.served, clip := clipAt s.khz l })) ∧
  ((if s.khz = 96 then 32 else 64) ≤ fld w 5 0 → Answers (.audStreamStatus t tag io) s a 0x0901 [] s0) ∧
  (∀ c, fld w 5 0 < 32 → bit w 6 = false → tfind s.audCfg.rx (fld w 5 0) = some c → c.enable = true → ∃ legs,
    let x := s.rxs (fld w 5 0)
    Answers (.audStreamStatus t tag io) s a 0
      ([wd (legs + 16), wd x.buf.length, wd (min (2 ^ 32 - 1) x.packets)] ++
        [4, 5, 7, 8, 9, 10].map (s.counterWord 10 (fld w 5 0)) ++ [wd (unsgn 32 x.ratio), 0]) s0 ∧
    legs % 4 = legCode x.legA.state) ∧
  (∃ faults, Answers (.audStatus t tag io) s a 0
    [ wd (294912 - s.audCfg.poolAllotted), wd s.audioPairs.length, wd (s.aud.buses.filter (fun p => p.2.pair.isSome)).length
    , wd ((s.audCfg.param 0 0x0909).toNat + 4 * (s.audCfg.param 0 0x090A).toNat), faults ] s0)

/-- The time and the audio commands. -/
def Obligations.TimeAndAudioCommands : Prop := Sys2Proof.Say.timeCommandsSay ∧ Sys2Proof.Say.audioCommandsSay

/-! ### 12 Network -/

/-- R316 to R318, R323, R327 to R331, R335, R336: a frame that its port may not take is counted by its cause; the first matching rule,
or the port's default, decides where a frame goes; a copy is admitted while the buffer and its queue's threshold have room for it,
and joins its queue; a free port sends from queues 15 to 12 first; a link that goes down drops what is queued; the steward answers its
frames in order; the PF sends and posts through its queues. -/
def Obligations.Ethernet : Prop :=
  ∀ (t port : Nat) (io : HostIo) (s : State),
  let s0 := s.tick t
  (∀ (f : List Byte) (ok : Bool),
    (tfind s.cfg.ports port = none → exec (.frameReceived t port f ok io) s = .next s0) ∧
    (∀ c, tfind s.cfg.ports port = some c →
      (c.enable = false → exec (.frameReceived t port f ok io) s = .next s0) ∧
      (c.enable = true → (s.port port).link = false → exec (.frameReceived t port f ok io) s =
        .next (s0.modPort port (fun p => { p with macErrors := p.macErrors + 1 }))) ∧
      (c.enable = true → (s.port port).link = true →
        (f.length < 60 → exec (.frameReceived t port f ok io) s = .next (s0.count 12 port 1)) ∧
        (2044 < f.length → exec (.frameReceived t port f ok io) s = .next (s0.count 12 port 2)) ∧
        (60 ≤ f.length → f.length ≤ 2044 →
          (ok = false → exec (.frameReceived t port f ok io) s = .next (s0.count 12 port 3)) ∧
          (ok = true → s.macFilter port c f = false → exec (.frameReceived t port f ok io) s = .next (s0.count 12 port 4)) ∧
          (ok = true → s.macFilter port c f = true →
            (be16 f 12 = 0x8808 → exec (.frameReceived t port f ok io) s =
              .next (s0.modPort port (fun p => { p with pauses := p.pauses + 1 }))) ∧
            (∀ m, be16 f 12 ≠ 0x8808 → malformedCause f (parseFrame f) = some m → c.malformedToPf = false →
              exec (.frameReceived t port f ok io) s = .next ((s0.count 12 port 0).count 12 port 5)) ∧
            (∀ n dest qos, be16 f 12 ≠ 0x8808 → malformedCause f (parseFrame f) = none →
              s.decideFrame port c f (parseFrame f) = (0xFFFF, dest, qos) → nbit dest 0 = false →
              ((List.range 4).filter (fun n => nbit dest (n + 1) && n ≠ port) = [n] → exec (.frameReceived t port f ok io) s =
                .next (((s0.count 12 port 0).count 12 port 7).admitCopy n (nfld qos 7 4) (nfld qos 1 0) (nfld dest 7 5) .forwarded f false
                  (rxUnits f.length)).2) ∧
              ((List.range 4).filter (fun n => nbit dest (n + 1) && n ≠ port) = [] → exec (.frameReceived t port f ok io) s =
                .next ((s0.count 12 port 0).count 12 port 6)))))))) ∧
  (∀ (queue colour cls : Nat) (origin : Origin) (b : List Byte) (convoy : Bool) (extra : Nat),
    let q : List Copy := tget (s.port port).queues queue []
    let room := copyUnits b.length ≤ s.freeUnits extra ∧
      sumOf (q.map (·.units)) + copyUnits b.length ≤ (s.cfg.queue port queue).threshold colour
    let r := s.admitCopy port queue colour cls origin b convoy extra
    (r.1 = true ↔ room) ∧ r.2.counter 12 port 8 = min statMax (s.counter 12 port 8 + 1) ∧
    (room → s.linkUp port = true → tget (r.2.port port).queues queue [] =
      q ++ [{ bytes := b, origin, cls, colour, units := copyUnits b.length, cfg := s.man.cur }]) ∧
    (¬ room → (r.2.port port).queues = (s.port port).queues) ∧ (∀ k, k ≠ port → r.2.port k = s.port k)) ∧
  (s.linkUp port = false → exec (.portTransmit t port io) s = .next s0) ∧
  ((∀ q, tget (s.port port).queues q [] = []) → exec (.portTransmit t port io) s = .next s0) ∧
  (∀ q c r f, s.linkUp port = true → 12 ≤ q → q ≤ 15 → tget (s.port port).queues q [] = c :: r →
    (∀ k, q < k → k ≤ 15 → tget (s.port port).queues k [] = []) → c.for_ = .nothing → c.oneStep = false → s.egress port c = some f →
    port ≤ 3 → ∃ s', exec (.portTransmit t port io) s = .next s' ∧ tget (s'.port port).queues q [] = r ∧
      (∀ k, k ≠ q → tget (s'.port port).queues k [] = tget (s.port port).queues k []) ∧ .eth port f ∈ s'.out ∧
      s'.counter 12 port 12 = min statMax (s.counter 12 port 12 + 1) ∧ (∀ k, k ≠ port → s'.port k = s.port k)) ∧
  ((s.port port).link = true → s.counter 12 port 14 ≤ statMax → ∃ s', exec (.ethLinkDown t port io) s = .next s' ∧
    (s'.port port).link = false ∧ (s'.port port).queues = [] ∧ (∀ k, k ≠ port → s'.port k = s.port k) ∧
    s'.counter 12 port 14 = min statMax (s.counter 12 port 14 + ((s.port port).queues.flatMap (·.2)).length)) ∧
  ((s.port port).link = false → exec (.ethLinkDown t port io) s = .next s0) ∧
  (∀ c, tfind s.cfg.ports port = some c → c.enable = true → (s.port port).link = false → ∃ s',
    exec (.ethLinkUp t port) s = .next s' ∧ (s'.port port).link = true ∧ (s'.port port).queues = (s.port port).queues ∧
    (port < 2 → (s'.port port).ctle < 16 ∧ ∀ x ∈ (s'.port port).dfe, -31 ≤ x ∧ x ≤ 31) ∧
    (∀ k, k ≠ port → s'.port k = s.port k) ∧ port ∉ s'.test.loopback) ∧
  ((s.port port).link = true → exec (.ethLinkUp t port) s = .next s0) ∧
  (s.mbx.state ≠ .serving ∨ s.net.stewardIn = [] → exec (.stewardNetRx t) s = .next s0) ∧
  (∀ p f r, s.mbx.state = .serving → s.net.stewardIn = (p, f) :: r → ∃ s', exec (.stewardNetRx t) s = .next s' ∧
    s'.net.stewardIn = r ∧ s' = (s0.modNet (fun n => { n with stewardIn := r })).stewardAnswer p f) ∧
  (∀ q o rest, takeOp 0x0A08 (s.qp 0 q).ops = some (o, rest) →
    let w := o.params.getD 0 0
    let s1 := s0.modQp 0 q (fun p => { p with ops := rest })
    (onesOf 4 (fld w 3 0) = [] ∨ o.dataLen < 60 ∨ 2044 < o.dataLen ∨ fld w 9 8 = 3 →
      exec (.netTx t q io) s = .next (s1.opDone 0 q o 0x0A06 [] io)) ∧
    (∀ n c s2, onesOf 4 (fld w 3 0) = [n] → tfind s.cfg.ports n = some c → c.enable = true → 60 ≤ o.dataLen → o.dataLen ≤ 2044 →
      fld w 9 8 ≠ 3 → bit w 15 = false → s1.hostRead 0 o.dataIova o.dataLen 3 io.dataFault = .ok s2 →
      let r := s2.admitCopy n (fld w 7 4) (fld w 9 8) (fld w 14 12) .pf ((io.data ++ List.replicate o.dataLen 0).take o.dataLen) false
      exec (.netTx t q io) s = .next (r.2.opDone 0 q o 0 (toLe 4 (if r.1 then 2 ^ n else 0) ++ toLe 8 0) io))) ∧
  (∀ q o rest, takeOp 0x0A09 (s.qp 0 q).ops = some (o, rest) →
    let s1 := s0.modQp 0 q (fun p => { p with ops := rest })
    (o.resLen < 2048 → exec (.netRxPost t q io) s = .next (s1.opDone 0 q o 0x0011 [] io)) ∧
    (2048 ≤ o.resLen → exec (.netRxPost t q io) s = .next { s1 with net := { s.net with rxPosts := s.net.rxPosts ++
      [{ cid := o.cid, noCqe := o.noCqe, resIova := o.resIova, resLen := o.resLen, sqHead := o.sqHead, qp := q }] } }))

/-- R316, R319, R338, Tables 12-6, 12-7 and 12-9: what the network commands answer and do. -/
def Sys2Proof.Say.networkCommandsSay : Prop :=
  ∀ (t tag : Nat) (io : HostIo) (s : State) (a : List Word),
  let s0 := s.tick t
  let w := arg a 1
  let q := fld (arg a 2) 15 8
  let vid := fld w 27 16
  let len := (arg a 3).toNat
  let e := bit (arg a 4) 0
  let first := fld (arg a 4) 26 16
  let n := len / ruleSize e
  let port := fld w 1 0
  let p := s.port port
  (fld w 7 6 = 3 ∨ q % 4 = 3 ∨ nfld q 3 2 ≠ 0 → Answers (.netPortSet t tag io) s a 0x0012 [] s0) ∧
  (fld w 7 6 ≠ 3 → q % 4 ≠ 3 → nfld q 3 2 = 0 → Stages (.netPortSet t tag io) s a (.netPort port
    { enable := bit w 2, mode := fld w 5 4, speed := fld w 7 6, autoneg := bit w 8, txDelay := bit w 9, rxDelay := bit w 10
      promiscuous := bit w 11, malformedToPf := bit w 12, dest := BitVec.ofNat 8 (fld (arg a 2) 7 0), qos := BitVec.ofNat 8 q }) 0 []) ∧
  (vid = 4095 ∨ 32 < fld (arg a 5) 5 0 → Answers (.netIfSet t tag io) s a 0x0012 [] s0) ∧
  (vid ≠ 4095 → fld (arg a 5) 5 0 ≤ 32 → Stages (.netIfSet t tag io) s a (.netIf port
    { vid, mac := (wordsLe [arg a 2, arg a 3]).take 6, ipv4 := BitVec.ofNat 32 (beNat (wordsLe [arg a 4])), prefix_ := fld (arg a 5) 5 0
      ipv6 := wordsLe [arg a 6, arg a 7, arg a 8, arg a 9] }) 0 []) ∧
  (len % ruleSize e ≠ 0 → Answers (.netRuleWrite t tag io) s a 0x0A04 [] s0 ∧ Answers (.netRuleRead t tag io) s a 0x0012 [] s0) ∧
  (len % ruleSize e = 0 → ruleCount e < first + n →
    Answers (.netRuleWrite t tag io) s a 0x0A03 [] s0 ∧ Answers (.netRuleRead t tag io) s a 0x0A03 [] s0) ∧
  (∀ s1 id m, len % ruleSize e = 0 → first + n ≤ ruleCount e → s0.hostRead tag (ofTwo (arg a 1) (arg a 2)) len 3 io.dataFault = .ok s1 →
    s1.openMan tag = some (id, m) →
    let rules := chunks (ruleSize e) n ((io.data ++ List.replicate len 0).take len)
    (rules.all (if e then egressFormat else ingressFormat) = false → Answers (.netRuleWrite t tag io) s a 0x0A04 [] s1) ∧
    (rules.all (if e then egressFormat else ingressFormat) = true → m.entries.length < entryLimit tag → m.bulk + len ≤ bulkLimit tag →
      Answers (.netRuleWrite t tag io) s a 0 [] (s1.modMan id (fun m => { m with
        entries := m.entries ++ [{ op := .netRules e first rules, code := 0x0A03
                                   items := (StagedOp.netRules e first rules).items.map (fun i => (i, s1.version i)), bulk := len }]
        touched := s1.now })))) ∧
  (∀ s1, len % ruleSize e = 0 → first + n ≤ ruleCount e → s0.hostWrite tag (ofTwo (arg a 1) (arg a 2))
      ((List.range n).flatMap (fun i =>
        tget (if e then s.cfg.egress else s.cfg.ingress) (first + i) (List.replicate (ruleSize e) 0))) io.dataFault = (0, s1) →
    Answers (.netRuleRead t tag io) s a 0 [wd n] s1) ∧
  (len % 8 ≠ 0 → Answers (.netRuleHits t tag io) s a 0x0012 [] s0) ∧
  (∀ s1, len % 8 = 0 → first + len / 8 ≤ ruleCount e → s0.hostWrite tag (ofTwo (arg a 1) (arg a 2))
      ((List.range (len / 8)).flatMap (fun i => toLe 8 (s.counter 14 (if e then 2048 + (first + i) else first + i) 0))) io.dataFault =
        (0, s1) →
    Answers (.netRuleHits t tag io) s a 0 [wd (len / 8)] s1) ∧
  (fld w 15 8 = 0 ∨ 64 < fld w 15 8 → Answers (.netQueueSet t tag io) s a 0x0012 [] s0) ∧
  (1 ≤ fld w 15 8 → fld w 15 8 ≤ 64 → Stages (.netQueueSet t tag io) s a (.netQueue port (fld w 7 4)
    { weight := fld w 15 8, green := fld (arg a 2) 14 0, yellow := fld (arg a 3) 14 0, red := fld (arg a 4) 14 0 }) 0 []) ∧
  (∀ c, tfind s.cfg.ports port = some c →
    let k (i : Nat) : Nat := s.counter 12 port i
    Answers (.netPortStatus t tag io) s a 0
      [ wd (b2n (s.linkUp port) + 2 * c.mode + 8 * c.speed), wd (p.ctle + 256 * unsgn 8 (p.dfe.getD 0 0) + 65536 * p.eye)
      , wd p.units, wd (k 0), wd (k 1 + k 2 + k 3 + p.macErrors), wd (k 5), wd (k 6), wd (k 10), wd (k 14), wd (k 12) ] s0)

/-! ### 14 Islands, die links and loops -/

/-- R206, R366 to R369, R372 to R383, Table 14-5: a loop's period moves its outputs by the row of Table 14-3 that applies; a timing
error is counted and ends a freeze; the thermal steps are entered and released; an L2 or directory error, an LDO fault and a critical
temperature reset a cluster, which leaves reset at 0.80 V and the floor; held transfers are counted; four integrity failures in a row
retrain a link and fewer are counted; training leaves a link UP at full or half width, or FAILED; keys roll over after 2^40 flits; an
audit restores leaked credits; drift beyond 48 steps retrains the LPDDR4X interface; a freeze ends with its time; a selection latches an island's
telemetry. -/
def Obligations.Islands : Prop :=
  ∀ (t n : Nat) (s : State),
  let s0 := s.tick t
  let i := s.island n
  let alone (s' : State) : Prop := ∀ k, k ≠ n → s'.island k = s.island k
  (s.islandPresent n = false ∨ i.state ≠ .run → ∀ m, exec (.loopPeriod t n m) s = .next s0) ∧
  (s.islandPresent n = true → i.state = .run → ∀ m, ∃ s' j, exec (.loopPeriod t n m) s = .next s' ∧ s'.island n = j ∧ alone s' ∧
    j.margin = min 255 m ∧ j.flagged = false ∧ j.extraDown = 0 ∧ j.state = .run ∧ j.errors = i.errors ∧
    s' = { s0 with isl := { s.isl with islands := s'.isl.islands }, evt := s'.evt, out := s'.out } ∧
    let low := s.devN 0x0CC3
    let high := s.devN 0x0CC4
    let lo := (islandRange n).1
    let cap := s.islandCap n
    (i.frozen.isSome = true → j.vcode = i.vcode ∧ j.fcode = i.fcode) ∧
    (i.frozen = none → i.flagged = true → j.vcode = min 70 (i.vcode + 1) ∧ j.hold = 100 ∧
      j.fcode = max lo (min (max lo (i.fcode - max 1 i.extraDown)) cap)) ∧
    (i.frozen = none → i.flagged = false → j.hold = i.hold - 1 ∧
      (cap < i.fcode → j.vcode = i.vcode ∧ j.fcode = max lo (i.fcode - 1)) ∧
      (i.fcode ≤ cap → min 255 m < low → i.vcode < 70 → j.vcode = i.vcode + 1 ∧ j.fcode = i.fcode) ∧
      (i.fcode ≤ cap → min 255 m < low → 70 ≤ i.vcode → j.vcode = i.vcode ∧ j.fcode = max lo (i.fcode - 1)) ∧
      (i.fcode ≤ cap → low ≤ min 255 m → high < min 255 m → i.hold ≤ 1 →
        (i.fcode < cap → j.vcode = i.vcode ∧ j.fcode = i.fcode + 1) ∧ (i.fcode = cap → j.vcode = i.vcode - 1 ∧ j.fcode = i.fcode)) ∧
      (i.fcode ≤ cap → low ≤ min 255 m → (min 255 m ≤ high ∨ 2 ≤ i.hold) → j.vcode = i.vcode ∧ j.fcode = i.fcode))) ∧
  (∀ cell, cell ≤ 767 → clusterOf cell = n → (s.cell cell).state = .available → i.state = .run →
    (∃ s', exec (.timingError t cell false) s = .next s' ∧ (s'.island n).flagged = true ∧ (s'.island n).errors = i.errors + 1 ∧
      (s'.island n).errorsTotal = satAdd (2 ^ 32 - 1) i.errorsTotal 1 ∧ (s'.island n).frozen = none ∧
      s'.counter 15 n 0 = min statMax (s.counter 15 n 0 + 1) ∧ alone s' ∧ s'.sea = s.sea) ∧
    (∃ s', exec (.timingError t cell true) s = .next s' ∧ (s'.island n).flagged = true ∧ (s'.island n).extraDown = 4 ∧
      (s'.island n).errors = i.errors + 2 ∧ (s'.island n).replayTraps = satAdd 65535 i.replayTraps 1)) ∧
  (∀ tj, s.islandPresent n = true → i.state ≠ .absent → ∃ s', exec (.thermalSample t n tj) s = .next s' ∧ (s'.island n).tj = tj ∧
    (s'.island n).warned = thermalStep i.warned tj (s.dev 0x0CC5) ∧ alone s' ∧
    (96 ≤ n → (s'.island n).atFloor = thermalStep i.atFloor tj 115 ∧ (s'.island n).state = i.state) ∧
    (n < 96 → (s'.island n).atFloor = thermalStep i.atFloor tj 105 ∧ (s'.island n).ineligible = thermalStep i.ineligible tj 110 ∧
      (112 ≤ tj → (s'.island n).state = .heldHot) ∧
      (tj < 112 → tj < s.dev 0x0CC5 → i.state = .heldHot → (s'.island n).state = .reset) ∧
      (tj < 112 → i.state = .run → (s'.island n).state = .run))) ∧
  (s.islandPresent n = false → (∀ tj, exec (.thermalSample t n tj) s = .next s0) ∧ (∀ d, exec (.clusterL2Error t n d) s = .next s0) ∧
    exec (.ldoFault t n) s = .next s0 ∧ exec (.clusterResetDone t n) s = .next s0) ∧
  (n ≤ 95 → s.islandPresent n = true → i.state = .run →
    (∀ d, ∃ s', exec (.clusterL2Error t n d) s = .next s' ∧ (s'.island n).state = .reset ∧ (s'.island n).isolated = true ∧
      (s'.island n).resetAt = s0.now ∧ n ∈ s'.sea.l2Check ∧ alone s') ∧
    (∃ s', exec (.ldoFault t n) s = .next s' ∧ (s'.island n).state = .reset ∧ (s'.island n).isolated = true ∧
      (s'.island n).ldoFaults = s0.now :: i.ldoFaults ∧ alone s')) ∧
  (s.islandPresent n = true → i.state = .reset → i.isolated = true → ∃ s', exec (.clusterResetDone t n) s = .next s' ∧
    s'.island n = { i with
      state := .run, isolated := false, heldTransfers := 0, vcode := 50, fcode := (islandRange n).1, flagged := false, extraDown := 0
      hold := 0, limitRaised := false } ∧ alone s' ∧ s' = { s0 with isl := s'.isl }) ∧
  (s.sea.l2Check.contains n = true → i.state = .run →
    (exec (.l2CheckDone t n true) s = .next ((s0.modSea (fun a => { a with l2Check := a.l2Check.filter (· ≠ n) })).measure n)) ∧
    (exec (.l2CheckDone t n false) s = .next ((s0.modSea (fun a => { a with l2Check := a.l2Check.filter (· ≠ n) })).quarantineAll
      ((List.range 8).map (fun p => 8 * n + p))))) ∧
  (s.sea.l2Check.contains n = false → ∀ pass, exec (.l2CheckDone t n pass) s = .next s0) ∧
  (i.isolated = true → i.resetAt + 50000 ≤ s0.now → exec (.isolationTimeout t n) s =
    .next ((s0.count 15 n 1 i.heldTransfers).modIsland n (fun i => { i with heldTransfers := 0 }))) ∧
  (i.isolated = false → exec (.isolationTimeout t n) s = .next s0) ∧
  (∀ dir, n < s.lcy.dies → dir ≤ 1 →
    let l := s.link n
    (l.state = .up → (∀ flits, dir = 0 → ∃ s', exec (.integrityFrame t n dir { tagOk := true, flits }) s = .next s' ∧
        s'.link n = { l with toHub := { l.toHub with flits := l.toHub.flits + 16, failures := 0 } } ∧
        (∀ k, k ≠ n → s'.link k = s.link k) ∧ s' = { s0 with isl := s'.isl }) ∧
      (∀ flits, (l.dir dir).failures < 3 → ∃ s', exec (.integrityFrame t n dir { tagOk := false, flits }) s = .next s' ∧
        (s'.link n).dir dir = { l.dir dir with failures := (l.dir dir).failures + 1 } ∧ (s'.link n).state = .up ∧
        s'.counter 16 (linkStat n dir 0) 6 = min statMax (s.counter 16 (linkStat n dir 0) 6 + 1)) ∧
      (∀ flits, 3 ≤ (l.dir dir).failures → ∃ s', exec (.integrityFrame t n dir { tagOk := false, flits }) s = .next s' ∧
        (s'.link n).state = .training ∧ (s'.link n).retrains = l.retrains + 1 ∧ ((s'.link n).dir dir).failures = 0)) ∧
    (l.state ≠ .up → ∀ f, exec (.integrityFrame t n dir f) s = .next s0) ∧
    (2 ^ 40 ≤ (l.dir dir).flits → ∃ s', exec (.keyRollover t n dir) s = .next s' ∧
      (s'.link n).dir dir = { l.dir dir with flits := 0, key := (l.dir dir).key + 1 } ∧ s' = { s0 with isl := s'.isl }) ∧
    ((l.dir dir).flits < 2 ^ 40 → exec (.keyRollover t n dir) s = .next s0)) ∧
  (n < s.lcy.dies → (s.link n).state = .training →
    (∀ good, 16 ≤ good → ∃ s', exec (.linkTrained t n good) s = .next s' ∧ (s'.link n).state = .up ∧ (s'.link n).half = false) ∧
    (∀ good, 8 ≤ good → good < 16 → ∃ s', exec (.linkTrained t n good) s = .next s' ∧ (s'.link n).state = .up ∧ (s'.link n).half = true) ∧
    (∀ good, good < 8 → ∃ s', exec (.linkTrained t n good) s = .next s' ∧ (s'.link n).state = .failed ∧ n ∈ s'.sea.deadDies)) ∧
  ((s.link n).state ≠ .training → ∀ good, exec (.linkTrained t n good) s = .next s0) ∧
  (n < s.lcy.dies → (s.link n).auditing = true →
    let leak (c : Nat) : Int := (tget (s.link n).toHub.chans c {} : Chan).leaked (chanSize c)
    ((∀ c, c < 4 → 0 ≤ leak c) → ∃ s', exec (.auditMarkerReturn t n) s = .next s' ∧
      (∀ c, c < 4 → (tget (s'.link n).toHub.chans c {} : Chan).free = (tget (s.link n).toHub.chans c {} : Chan).free + (leak c).toNat ∧
        (tget (s'.link n).toHub.chans c {} : Chan).restored = (leak c).toNat) ∧
      (s'.link n).audits = (s.link n).audits + 1 ∧ (s'.link n).auditing = (s.link n).auditAgain ∧ (s'.link n).auditAgain = false) ∧
    (∀ c, c < 4 → leak c < 0 → ∃ s', exec (.auditMarkerReturn t n) s = .next s' ∧ (s'.link n).auditing = false ∧
      (s'.link n).state = .training)) ∧
  ((s.link n).auditing = false → exec (.auditMarkerReturn t n) s = .next s0) ∧
  (∀ a b c d : Int, s.isl.ddrFrozen = none →
    let l := [a, b, c, d].map (fun x => max (-64) (min 64 x))
    ∃ s', exec (.ddrOscRead t [a, b, c, d]) s = .next s' ∧
      ((∀ x ∈ l, x.natAbs < 48) → s'.isl.drift = l ∧ s'.isl.ddrRetrains = s.isl.ddrRetrains) ∧
      ((∃ x ∈ l, 48 ≤ x.natAbs) → s'.isl.drift = [0, 0, 0, 0] ∧ s'.isl.ddrRetrains = s.isl.ddrRetrains + 1) ∧
      s' = { s0 with isl := s'.isl, evt := s'.evt, out := s'.out }) ∧
  (∀ loop e, s.freezeEnd loop n = some e → (e ≤ s0.now → exec (.loopFreezeExpiry t loop n) s = .next (s0.setFreeze loop n none)) ∧
    (s0.now < e → exec (.loopFreezeExpiry t loop n) s = .next s0)) ∧
  (∀ v : Word, exec (.islSelWrite t v) s = .next { s0 with isl := { s.isl with
    sel := fld v 6 0, telem0 := (s.telem (fld v 6 0)).1, telem1 := (s.telem (fld v 6 0)).2 } })

/-- R380, R384, Tables 14-8 and 14-10: what the island commands answer and do. -/
def Sys2Proof.Say.islandCommandsSay : Prop :=
  ∀ (t tag : Nat) (io : HostIo) (s : State) (a : List Word),
  let s0 := s.tick t
  let n := fld (arg a 1) 6 0
  let i := s.island n
  let die := fld (arg a 1) 1 0
  let l := s.link die
  let loop := fld (arg a 1) 3 0
  let target := fld (arg a 1) 14 8
  let sec := (arg a 2).toNat
  (107 < n → Answers (.islStatus t tag io) s a 0x0CC1 [] s0) ∧
  (n ≤ 107 → s.islandPresent n = false ∨ i.state = .absent → Answers (.islStatus t tag io) s a 0x0CC4 [] s0) ∧
  (n ≤ 107 → s.islandPresent n = true → i.state ≠ .absent → Answers (.islStatus t tag io) s a 0
    [(s.telem n).1, (s.telem n).2, wd i.errorsTotal, wd i.replayTraps] s0) ∧
  (s.lcy.dies ≤ die → Answers (.islLinkStatus t tag io) s a 0x0CC4 [] s0) ∧
  (die < s.lcy.dies → l.state = .up → ∃ w,
    Answers (.islLinkStatus t tag io) s a 0 [ wd (2 + (if l.half then 8 else 16) * 16 +
        (if l.half then 0 else max l.toHub.badLanes.length l.fromHub.badLanes.length) % 8 * 512)
      , wd (s.counter 16 (linkStat die 0 0) 6 + s.counter 16 (linkStat die 1 0) 6), wd l.retrains, wd l.audits, w ] s0) ∧
  (∀ st, s0.loopStatus loop target = some st → Answers (.islLoopFreeze t tag io) s a st [] s0) ∧
  (s0.loopStatus loop target = none →
    (bit (arg a 1) 16 = false → Answers (.islLoopFreeze t tag io) s a 0 [] (s0.setFreeze loop target none)) ∧
    (bit (arg a 1) 16 = true → sec = 0 ∨ 3600 < sec → Answers (.islLoopFreeze t tag io) s a 0x0012 [] s0) ∧
    (bit (arg a 1) 16 = true → 1 ≤ sec → sec ≤ 3600 → loop = 4 → s.tim.following = .shadow target →
      Answers (.islLoopFreeze t tag io) s a 0x0CC3 [] s0) ∧
    (bit (arg a 1) 16 = true → 1 ≤ sec → sec ≤ 3600 → (loop ≠ 4 ∨ s.tim.following ≠ .shadow target) →
      Answers (.islLoopFreeze t tag io) s a 0 [] (s0.setFreeze loop target (some (s0.now + sec * 1000000000))))) ∧
  (s0.loopStatus loop target = some 0x0012 → Answers (.islLoopStatus t tag io) s a 0x0012 [] s0) ∧
  (loop = 0 → target ≤ 107 → ∀ e, (s.island target).frozen = some e → Answers (.islLoopStatus t tag io) s a 0
    ([wd (1 + 2 * b2n (s.island target).limitRaised), wd ((e - s0.now + 999999999) / 1000000000)] ++
      leWords (([BitVec.ofNat 8 (s.island target).vcode, BitVec.ofNat 8 (s.island target).fcode] ++ List.replicate 16 0).take 16)) s0) ∧
  (95 < n → Answers (.islReset t tag io) s a 0x0CC1 [] s0) ∧
  (n ≤ 95 → s.islandPresent n = false ∨ i.state ≠ .run → Answers (.islReset t tag io) s a 0x0CC4 [] s0) ∧
  (n ≤ 95 → s.islandPresent n = true → i.state = .run →
    (s0.clusterIdle n = true → Answers (.islReset t tag io) s a 0 [] (s0.commandReset n)) ∧
    (s0.clusterIdle n = false → ∃ s1, Answers (.islReset t tag io) s a 0x0001
        [wd (s0.defer islResetDef tag a).1] s1 ∧ n ∈ s1.sea.drainClusters))

/-- The network and the island commands. -/
def Obligations.NetworkAndIslandCommands : Prop := Sys2Proof.Say.networkCommandsSay ∧ Sys2Proof.Say.islandCommandsSay

/-! ### 15 Security -/

/-- The security log's newest record: its class, source and detail words. -/
def Sys2Proof.Say.logged (s : State) (cls source detail detail2 : Nat) : Prop :=
  (s.sec.bat.log.head?).map (fun r => (r.cls, r.source, r.detail, r.detail2)) = some (cls, source, detail, detail2)

/-- What zeroisation leaves before the steward's restart (R403, R404, Table 15-7): no BKR, no key, no seal key, no object, no session, no
instance in reach of the steward, which restarts. -/
def Sys2Proof.Say.zeroised (s s' : State) (cause : Nat) : Prop :=
  s'.sec.bat.bkr = none ∧ s'.sec.keys = [] ∧ s'.cap.sealKey = none ∧ s'.cap.objs = [] ∧ s'.fare.sessions = [] ∧
    s'.fare.used = [] ∧ s'.mem.lines = [] ∧ s'.ins.tlb = [] ∧ s'.aud.muted = true ∧ s'.mbx.state = .restarting ∧
    (s'.sec.zeroising).map (·.1) = some cause ∧ (∀ tag, (s'.page tag).ready = false) ∧ s'.lcy.fuses = s.lcy.fuses ∧
    s'.lcy.banks = s.lcy.banks ∧ s'.sec.bat.mask = s.sec.bat.mask

/-- R388 to R391, R400, R403, R404, R407: detectors 0 to 15 log their trip and zeroise the powered part, or clear the BKR of an unpowered one,
and 16 and 17 only log; a loop trips at its second mismatching sample in a row; on battery the emergency path is reset,
and the battery's loss clears the BKR; a memory tag failure is logged and counted; a challenge draws a nonce, which one response uses
up. -/
def Obligations.SecurityEvents : Prop :=
  ∀ (t : Nat) (s : State), s.sec.zeroised = false → s.sec.zeroising = none →
  let s0 := s.tick t
  (∀ n v, n < 16 → s.detRuns n = true → s.lcy.powerGood = true → ∃ s', exec (.detectorTrip t n v) s = .next s' ∧
    zeroised s s' 0 ∧ logged s' 1 n v 0) ∧
  (∀ n v, n < 16 → s.detRuns n = true → s.lcy.powerGood = false → ∃ s', exec (.detectorTrip t n v) s = .next s' ∧
    s'.sec.bat.bkr = none ∧ logged s' 1 n v 0 ∧ s' = { s0 with sec := { s.sec with bat := s'.sec.bat } }) ∧
  (∀ n v, n ≠ 16 → s.detRuns n = false → exec (.detectorTrip t n v) s = .next s0) ∧
  (∀ v, s.detRuns 17 = true → ∃ s', exec (.detectorTrip t 17 v) s = .next s' ∧ s'.sec.trngOk = false ∧
    s'.sec.bat.bkr = s.sec.bat.bkr ∧ logged s' 2 17 v 0) ∧
  (∀ v, s.detRuns 16 = true → ∃ s', exec (.detectorTrip t 16 v) s = .next s' ∧ s'.sec.bat.vbat = v % 65536 ∧
    s'.sec.bat.bkr = s.sec.bat.bkr ∧ logged s' 2 16 v 0) ∧
  (∀ loop level, 3 < loop ∨ s.sec.bat.mask.getLsbD loop = false → exec (.tamperLoopSample t loop level) s = .next s0) ∧
  (∀ loop, loop ≤ 3 → s.sec.bat.mask.getLsbD loop = true →
    let driven := s.sec.loopOut.contains loop
    (∃ s', exec (.tamperLoopSample t loop driven) s = .next s' ∧ loop ∉ s'.sec.mismatch ∧ s'.sec.bat = s.sec.bat ∧
      (∀ k, k ≠ loop → (k ∈ s'.sec.mismatch ↔ k ∈ s.sec.mismatch))) ∧
    (loop ∉ s.sec.mismatch → ∃ s', exec (.tamperLoopSample t loop (!driven)) s = .next s' ∧ loop ∈ s'.sec.mismatch ∧
      s'.sec.bat = s.sec.bat) ∧
    (loop ∈ s.sec.mismatch → s.lcy.powerGood = true → ∃ s', exec (.tamperLoopSample t loop (!driven)) s = .next s' ∧
      zeroised s s' 0 ∧ logged s' 1 (10 + loop) (b2n (!driven)) 0)) ∧
  (∃ s', exec (.batterySwitch t true) s = .next s' ∧ s'.sec.bat = { s.sec.bat with onBattery := true } ∧ s'.lane.emg = false ∧
    s'.lane.emgPath = false ∧ s'.lane.segs = s.lane.segs ∧ s'.lane.units = s.lane.units) ∧
  (exec (.batterySwitch t false) s = .next { s0 with sec := { s.sec with bat := { s.sec.bat with onBattery := false } } }) ∧
  (s.sec.bat.onBattery = true → ∃ s', exec (.batteryLoss t) s = .next s' ∧ s'.sec.bat.bkr = none ∧
    s' = { s0 with sec := { s.sec with bat := s'.sec.bat }, freeCtr := s'.freeCtr }) ∧
  (s.sec.bat.onBattery = false → exec (.batteryLoss t) s = .next s0) ∧
  (s.lcy.powerGood = false → ∀ cell, exec (.memIntegrityFail t cell) s = .next s0) ∧
  (∀ cell, s.lcy.powerGood = true → 768 ≤ cell →
    let fails := s0.now :: s.sec.memFails.filter (fun x => decide (s0.now < x + 1000000000))
    (fails.length < s.devN 0x0D02 → ∃ s', exec (.memIntegrityFail t cell) s = .next s' ∧ s'.sec.memFails = fails ∧
      logged s' 7 0xFF 0 0 ∧ s' = { s0 with sec := s'.sec, evt := s'.evt, out := s'.out }) ∧
    (s.devN 0x0D02 ≤ fails.length → s.detRuns 15 = true → ∃ s', exec (.memIntegrityFail t cell) s = .next s' ∧ zeroised s s' 0 ∧
      s'.sec.memFails = [])) ∧
  (s.lcy.powerGood = true → s.lifecycle ≠ 3 → ∃ s' nonce, exec (.unlockChallenge t) s = .next s' ∧
    s'.sec.nonce = some (nonce, s0.now) ∧ .jtag (s.serialBytes ++ toBe 16 nonce.toNat) ∈ s'.out ∧
    s' = { s0 with sec := { s.sec with nonce := some (nonce, s0.now) }, freeCtr := s.freeCtr + 1, out := s'.out }) ∧
  (s.lcy.powerGood = false ∨ s.lifecycle = 3 → exec (.unlockChallenge t) s = .next s0) ∧
  (∀ r, s.sec.nonce = none → exec (.unlockResponse t r) s = .next s0) ∧
  (∀ r nonce at_, s.sec.nonce = some (nonce, at_) →
    (at_ + 60000000000 ≤ s0.now ∨ s0.unlockOffered = false ∨ s.unlockOk nonce r = false → exec (.unlockResponse t r) s =
      .next { s0 with sec := { s.sec with nonce := none }, out := .jtag [0] :: s.out }) ∧
    (s0.now < at_ + 60000000000 → s.lcy.powerGood = true → s0.unlockOffered = true → s.unlockOk nonce r = true → ∃ s',
      exec (.unlockResponse t r) s = .next s' ∧ zeroised s s' 2 ∧ s'.sec.debugOpen = true ∧ s'.sec.nonce = none ∧ logged s' 5 0xFF 0 0))

/-- R390, R396 to R398, R405 to R408, Table 15-11: what the security commands answer and do. -/
def Sys2Proof.Say.securityCommandsSay : Prop :=
  ∀ (t tag : Nat) (io : HostIo) (s : State) (a : List Word),
  let s0 := s.tick t
  let x := s.sec
  let len := (arg a 3).toNat
  (∃ v s1, Answers (.secStatus t tag io) s a 0
    ([ wd (s.lifecycle + 4 * b2n x.bat.bkr.isSome + 8 * b2n x.zeroised + 16 * b2n x.debugOpen + 256 * s.zcount)
     , wd (x.bat.mask.toNat + 16 * bitsOf x.mismatch), wd v ] ++ s.enrolWords ++
      [wd (min (2 ^ 32 - 1) (s.counter 3 tag 6))]) s1 ∧ v < 65536 ∧ s1.sec.bat.vbat = v ∧
    s1 = { s0 with sec := { s0.sec with bat := { s0.sec.bat with vbat := v } }, freeCtr := s.freeCtr + 1 }) ∧
  (∀ r, x.bat.log.find? (fun r => r.seq == (arg a 1).toNat) = some r → Answers (.secLogRead t tag io) s a 0 (leWords r.bytes) s0) ∧
  ((∀ r ∈ x.bat.log, r.seq ≠ (arg a 1).toNat) → Answers (.secLogRead t tag io) s a 0x0D0B [] s0) ∧
  (len < 7664 → Answers (.secCertGet t tag io) s a 0x0011 [] s0) ∧
  (7664 ≤ len → x.duk = none → Answers (.secCertGet t tag io) s a 0x0D09 [] s0) ∧
  (∀ d s1, 7664 ≤ len → x.duk = some d →
    let m := s0.attestation d (wordsLe ((a.drop 3).take 4))
    m.2.hostWrite tag (ofTwo (arg a 1) (arg a 2)) ((s.lcy.cert ++ List.replicate 3880 0).take 3880 ++ m.1) io.dataFault = (0, s1) →
    Answers (.secCertGet t tag io) s a 0 [wd 7664] s1) ∧
  (len < 92 ∨ 1340 < len → Answers (.secKeyImport t tag io) s a 0x0012 [] s0) ∧
  (92 ≤ len → len ≤ 1340 →
    (x.duk = none → Answers (.secKeyImport t tag io) s a 0x0D09 [] s0) ∧
    (x.duk.isSome = true → x.bat.bkr = none → Answers (.secKeyImport t tag io) s a 0x0D04 [] s0) ∧
    (x.duk.isSome = true → x.bat.bkr.isSome = true → s0.now < tget x.importUntil tag 0 →
      Answers (.secKeyImport t tag io) s a 0x0D02 [] s0) ∧
    (∀ s1, s0.importBar tag = none → s0.hostRead tag (ofTwo (arg a 1) (arg a 2)) len 3 io.dataFault = .ok s1 →
      let env := (io.data ++ List.replicate len 0).take len
      (s1.openEnvelope tag env = none → Answers (.secKeyImport t tag io) s a 0x0D01 [] (s1.importFailed tag)) ∧
      (∀ type key rights label n s2 id m, s1.openEnvelope tag env = some (type, key, rights, label) →
        s1.mintRoot tag (accessLevel tag) 3 rights (.key s1.sec.nextKey) 0 0 label = some (n, s2) → s2.openMan tag = some (id, m) →
        s1.openMan tag = some (id, m) → m.entries.length < entryLimit tag → m.bulk + len ≤ bulkLimit tag → ∃ s3,
        Answers (.secKeyImport t tag io) s a 0 (handleWords (s2.sealed ((s2.obj n).cap n))) s3 ∧
        tfind s3.sec.keys s1.sec.nextKey = some { type, bytes := key, object := n, pending := some id } ∧
        s3.sec.nextKey = s1.sec.nextKey + 1))) ∧
  Stages (.secLoopSet t tag io) s a (.loops (BitVec.ofNat 4 (fld (arg a 1) 3 0))) 0 [] ∧
  ((arg a 1).toNat ≠ 0x5A45524F → Answers (.secZeroise t tag io) s a 0x0D06 [] s0) ∧
  (Runs (.secZeroise t tag io) s a → (arg a 1).toNat = 0x5A45524F → x.zeroising = none → ∃ s',
    exec (.secZeroise t tag io) s = .next s' ∧ zeroised s s' 1) ∧
  (x.bat.bkr.isSome = true → Answers (.secReenrol t tag io) s a 0x0D05 [] s0) ∧
  (x.bat.bkr = none → x.trngOk = true → x.duk = none → Answers (.secReenrol t tag io) s a 0x0D09 [] s0) ∧
  (x.bat.bkr = none → x.trngOk = true → x.duk.isSome = true →
    (s.enrols < 32 → io.burnt ≠ 7 → ∃ s1, Answers (.secReenrol t tag io) s a 0x0D43 [] s1 ∧ s1.sec = s.sec) ∧
    (io.burnt = 7 ∨ 32 ≤ s.enrols → ∃ s1, Answers (.secReenrol t tag io) s a 0 s1.enrolWords s1 ∧ s1.sec.bat.bkr.isSome = true ∧
      logged s1 4 0xFF (beNat (s1.enrolId.take 4)) 0)) ∧
  (s.lifecycle = 2 → Stages (.secDebugArm t tag io) s a .debugArm 0 []) ∧
  (s.lifecycle ≠ 2 → Answers (.secDebugArm t tag io) s a 0x001E [] s0)

/-! ### Restarts and resets of parts -/

/-- R66, R67, R405, R477: a steward reset drops READY on every page and counts; its restart answers what was TAKEN with ST_RESTARTED
(0x001A), serves again, and ends a zeroisation under way in the ZEROISED state. -/
def Sys2Proof.Say.stewardRestartSay : Prop :=
  ∀ (t : Nat) (s : State),
  let s0 := s.tick t
  (s.mbx.state ≠ .serving → exec (.stewardReset t) s = .next s0) ∧
  (s.mbx.state = .serving → s.lcy.restartTimes.length < 3 → ∃ s', exec (.stewardReset t) s = .next s' ∧ s'.mbx.state = .restarting ∧
    s'.mbx.restarts = min 65535 (s.mbx.restarts + 1) ∧
    (∀ tag, s'.page tag = { s.page tag with ready := false }) ∧ s' = { s0 with mbx := s'.mbx, lcy := s'.lcy }) ∧
  (s.mbx.state ≠ .restarting ∨ s.lcy.warm = true → exec (.stewardRestartDone t) s = .next s0) ∧
  (s.mbx.state = .restarting → s.lcy.warm = false → ∃ s', exec (.stewardRestartDone t) s = .next s' ∧ s'.mbx.state = .serving ∧
    s'.mbx.held = none ∧ (∀ tag, s.enabled tag = true → (s'.page tag).ready = true) ∧
    (∀ tag, (s.page tag).taken = true → (s'.page tag).done = true ∧ (s'.page tag).go = false) ∧
    s'.evt.heldBack = [] ∧ s'.sec.zeroising = none ∧ (s.sec.zeroising.isSome = true → s'.sec.zeroised = true) ∧
    (s.sec.zeroising = none → s'.sec.zeroised = s.sec.zeroised) ∧ s'.fare.sessions = s.fare.sessions)

/-- R51, R57: the work of a ticket that was cancelled ends with ST_CANCELLED (0x001B) and no effect; any other ends with its answer;
nothing ends while the steward restarts. -/
def Sys2Proof.Say.ticketsEndSay : Prop :=
  ∀ (t k : Nat) (io : HostIo) (s : State),
  let s0 := s.tick t
  (tfind s.mbx.tickets k = none ∨ s.mbx.state ≠ .serving → exec (.pendingDone t k io) s = .next s0) ∧
  (∀ c, tfind s.mbx.tickets k = some c → s.mbx.state = .serving → c.code ≠ 0x0CC5 → c.code ≠ 0x0C01 →
    (c.cancelled = true → exec (.pendingDone t k io) s = .next (s0.ticketDone k 0x001B [])) ∧
    (∀ st rs s1, c.cancelled = false → s0.ticketWork c io = .reply st rs s1 →
      exec (.pendingDone t k io) s = .next (s1.ticketDone k st rs)))

/-- A command put off answers with its ticket, and the ticket's work ends. -/
def Obligations.PendingCommands : Prop := Sys2Proof.Say.pendingReplySay ∧ Sys2Proof.Say.ticketsEndSay

/-- R366, R367, R459, R477, R478: a hub island's reset isolates it, and H.STW's restarts the steward; a warm reset that has begun leaves the
steward booting at stage 7 with every page, ticket and lease gone and the battery domain and the fuses as they were; an image that fails its check
makes it a cold reset. -/
def Sys2Proof.Say.partResetsSay : Prop :=
  ∀ (t n : Nat) (s : State),
  let s0 := s.tick t
  (n < 96 ∨ 107 < n ∨ s.lcy.powerGood = false ∨ (s.island n).state ≠ .run → exec (.hubIslandReset t n) s = .next s0) ∧
  (96 ≤ n → n ≤ 107 → s.lcy.powerGood = true → (s.island n).state = .run → ∃ s', exec (.hubIslandReset t n) s = .next s' ∧
    (n ≠ 96 → n ≠ 97 → (s'.island n).state = .reset ∧ (s'.island n).isolated = true ∧ (s'.island n).resetAt = s0.now ∧
      (∀ k, k ≠ n → s'.island k = s.island k) ∧ s'.mbx.state = s.mbx.state) ∧
    (n = 96 → s.mbx.state = .serving → s'.mbx.state = .restarting ∧ ∀ tag, (s'.page tag).ready = false) ∧
    (n = 104 → s'.placing = false) ∧
    (n = 107 → s'.evt.raised = [] ∧ s'.evt.windows = []) ∧
    (n = 100 → s'.aud.prompts = [] ∧ s'.aud.ver = s.man.cur) ∧
    (n = 98 → s'.net.stewardIn = [] ∧ ∀ p, p ≤ 3 → (s'.port p).link = false ∧ (s'.port p).queues = [])) ∧
  (s.lcy.warm = false ∨ s.lcy.stage ≠ 8 → ∀ ok, exec (.warmReset t ok) s = .next s0) ∧
  (s.lcy.warm = true → s.lcy.stage = 8 → (∃ s', exec (.warmReset t true) s = .next s' ∧ s'.lcy.stage = 7 ∧ s'.lcy.lastReset = .warm ∧
      s'.mbx.state = .booting ∧ s'.mbx.pages = [] ∧ s'.mbx.tickets = [] ∧ s'.mem.lines = [] ∧ s'.ins.tlb = [] ∧
      s'.lcy.fuses = s.lcy.fuses ∧ s'.sec.bat.bkr = s.sec.bat.bkr) ∧
    (∃ s', exec (.warmReset t false) s = .next s' ∧ s'.lcy.stage = (if s.lcy.powerGood then 1 else 0) ∧ s'.lcy.lastReset = .cold ∧
      s'.mem.bytes = [] ∧ s'.mbx.pages = [] ∧ s'.cap.sealKey = none ∧ s'.fare = {} ∧ s'.sec.bat.bkr = s.sec.bat.bkr ∧
      s'.lcy.fuses = s.lcy.fuses))

/-- The steward's restart, a part's reset and the warm reset. -/
def Obligations.RestartsAndResets : Prop := Sys2Proof.Say.stewardRestartSay ∧ Sys2Proof.Say.partResetsSay

/-! ### 16, 17 Epochs, books and in-service test -/

/-- R282, R415, R417 to R421, Table 16-4: the steward's check of an unchecked epoch finds each instance of Table 16-3 that the epoch neither
excuses nor balances, and keeps the quantities; a due compare unit of 4 to 15 counts its firing and re-arms on its grid, and units 0 and 1
act as the boundary and the freeze point; what the statistics commands answer. -/
def Obligations.BooksAndStatistics : Prop :=
  ∀ (t tag : Nat) (io : HostIo) (s : State) (a : List Word),
  let s0 := s.tick t
  (s.mbx.state ≠ .serving → exec (.booksCheck t) s = .next s0) ∧
  (s.mbx.state = .serving → (∀ e ∈ s.stat.ledger, e.pending = false) → exec (.booksCheck t) s = .next s0) ∧
  (∀ e, s.mbx.state = .serving → s.stat.ledger = [e] → e.pending = true → ∃ s' c, exec (.booksCheck t) s = .next s' ∧
    s'.stat.ledger = [c] ∧ c.pending = false ∧ c.number = e.number ∧ c.stats = e.stats ∧
    (∀ q, q ∈ c.failed ↔ ∃ b ∈ e.books (List.range s.lcy.dies), b.q = q ∧ e.excuses b = false ∧ b.ok = false) ∧
    (∀ q, q ∈ c.excused ↔ ∃ b ∈ e.books (List.range s.lcy.dies), b.q = q ∧ e.excuses b = true) ∧
    c.flags.imbalance = !c.failed.isEmpty ∧ c.flags.excused = !c.excused.isEmpty ∧
    (c.failed = [] → s' = { s0 with stat := s'.stat }) ∧ s' = { s0 with stat := s'.stat, evt := s'.evt, out := s'.out } ∧
    let v (g i : Nat) : Nat := tget e.stats (statKey g 0 i) 0
    (e.windows = [] → e.saturated = [] → e.startWindows = [] →
      (2 ∈ c.failed ↔ v 4 0 + v 4 1 + v 4 2 ≠ 1024) ∧ (5 ∈ c.failed ↔ v 13 0 + v 13 1 + v 13 2 ≠ 16384) ∧
      (7 ∈ c.failed ↔ v 11 0 + v 11 1 ≠ 294912) ∧
      (9 ∈ c.failed ↔ v 6 0 + v 6 1 + v 6 2 + v 6 3 + v 6 4 + v 6 5 + v 6 6 + v 6 7 ≠ v 6 8) ∧
      (10 ∈ c.failed ↔ v 17 0 + v 17 1 + v 17 2 ≠ 65535) ∧ (11 ∈ c.failed ↔ v 17 3 + v 17 4 ≠ 2048) ∧
      (12 ∈ c.failed ↔ v 17 5 + v 17 6 ≠ 256) ∧ (13 ∈ c.failed ↔ v 7 2 + v 7 3 ≠ 8192))) ∧
  (exec (.compareFire t 0) s = exec (.epochBoundary t) s ∧ exec (.compareFire t 1) s = exec (.freezePoint t) s) ∧
  (∀ u, 15 < u ∨ (s.cmp u).armed = false → exec (.compareFire t u) s = .next s0) ∧
  (∀ u, 4 ≤ u → u ≤ 15 → (s0.cmp u).armed = true → s0.hasReached (s0.cmp u).sec (s0.cmp u).ns = true →
    ∃ s' c, exec (.compareFire t u) s = .next s' ∧ s'.cmp u = c ∧ c.count = ((s0.cmp u).count + 1) % 65536 ∧
      c.late = (s0.cmp u).past ∧ c.past = false ∧ c.ns = (s0.cmp u).ns ∧ c.period = (s0.cmp u).period ∧
      c.armed = decide ((s0.cmp u).period ≠ 0) ∧
      ((s0.cmp u).period ≠ 0 → ∃ k, 1 ≤ k ∧ c.sec = ((s0.cmp u).sec + k * (s0.cmp u).period) % 2 ^ 32) ∧
      (∀ j, j ≠ u → s'.cmp j = s0.cmp j) ∧ s' = { s0 with tim := s'.tim, evt := s'.evt, out := s'.out }) ∧
  (∀ e rest, s.stat.ledger = e :: rest → Answers (.statEpoch t tag io) s a 0
    [ wd s.stat.epoch, wd s.stat.startSec, wd s.stat.startNs, wd (s.devN 0x0B01)
    , wd e.number, wd e.flags.byte, wd e.endSec, wd e.endNs ] s0) ∧
  (s.stat.ledger = [] → Answers (.statEpoch t tag io) s a 0
    [wd s.stat.epoch, wd s.stat.startSec, wd s.stat.startNs, wd (s.devN 0x0B01), 0, 0, 0, 0] s0) ∧
  (let g := fld (arg a 4) 7 0
    let bank := fld (arg a 4) 9 8
    let first := fld (arg a 4) 27 16
    let want := fld (arg a 5) 11 0
    let len := (arg a 3).toNat
    (bank = 3 → Answers (.statRead t tag io) s a 0x0012 [] s0) ∧
    (bank ≠ 3 → len % 8 ≠ 0 ∨ len < 24 → Answers (.statRead t tag io) s a 0x0011 [] s0) ∧
    (bank ≠ 3 → len % 8 = 0 → 24 ≤ len →
      (groupShape g = none → Answers (.statRead t tag io) s a 0x0B01 [] s0) ∧
      (∀ insts per, groupShape g = some (insts, per) →
        (insts < first + want → Answers (.statRead t tag io) s a 0x0B01 [] s0) ∧
        (first + want ≤ insts → bank ≠ 0 → s.stat.ledger[bank - 1]? = none → Answers (.statRead t tag io) s a 0x0B02 [] s0) ∧
        (∀ s1, first + want ≤ insts → bank = 0 →
          let n := min want ((len - 16) / (8 * per))
          let vals := (List.range n).flatMap (fun k => (List.range per).map (fun i => s0.stat_ g (first + k) i))
          let bytes := statBytes s.stat.epoch g 0 n per first s.stat.flags.byte
            ((List.range n).any (fun k => s.stat.saturated.contains (statKey g (first + k) 0))) vals
          s0.hostWrite tag (ofTwo (arg a 1) (arg a 2)) bytes io.dataFault = (0, s1) →
          Answers (.statRead t tag io) s a 0 [wd bytes.length, 0] s1)))) ∧
  ((∀ e ∈ s.stat.ledger, e.number ≠ (arg a 1).toNat) → Answers (.statBooks t tag io) s a 0x0B02 [] s0) ∧
  (∀ e rest, s.stat.ledger = e :: rest → e.number = (arg a 1).toNat → Answers (.statBooks t tag io) s a 0
    [wd (bitsOf e.failed), wd (bitsOf e.excused), wd (b2n e.pending), wd e.flags.byte] s0)

/-- R427 to R437, R438, R440, Table 17-7: an idle cell is lent to a free Sentinel cell, and its test's end keeps the result and returns it, or
quarantines it; the test of a cluster's L2 likewise for its eight cells; a drain waits for its unit to be idle or gives up with ST_TEST_DEFERRED
(0x0C01) after 2 s; the hub store's march tests a line at a time and remaps a failing one while spares are left; a die link's lanes, a segment's
units, a SerDes port and the fuses are tested and their results kept. -/
def Obligations.TestEngine : Prop :=
  ∀ (t n : Nat) (s : State), Formed s →
  let s0 := s.tick t
  let result (s' : State) (cls : Nat) (r : TestResult) : Prop :=
    (s'.testUnit cls n).result = r ∧ (s'.testUnit cls n).lastTry = s0.sec32 ∧
      (s'.testUnit cls n).lastPass = (if r = .pass ∨ r = .part then s0.sec32 else (s.testUnit cls n).lastPass) ∧
      (∀ k, k ≠ testKey cls n → tfind s'.test.units k = tfind s.test.units k)
  (∀ k, s.lendable n k = false → exec (.testLoan t n k) s = .next s0) ∧
  (∀ k, s.lendable n k = true → s.cellIdle n = true → n ≤ 767 → n ∈ s.sea.drainCells ∨ s.testLoad < s.devN 0x0C03 →
    tmem s.test.reqs (testKey 0 n) = true → ∃ s', exec (.testLoan t n k) s = .next s' ∧ (s'.cell n).state = .testing ∧
      (s'.cell n).lentCaste = (s.cell n).caste ∧ tfind s'.test.loans n = some k ∧ (s'.cell k).work = (s.cell k).work ++ [.check n] ∧
      (∀ j, j ≠ n → j ≠ k → s'.cell j = s.cell j)) ∧
  (∀ k, n ≤ 767 → tfind s.test.loans n = some k → (s.cell n).state = .testing →
    (∃ s', exec (.cellTestDone t n false) s = .next s' ∧ (s'.cell n).state = .quarantined ∧ tfind s'.test.loans n = none ∧
      result s' 0 .fail) ∧
    ((s.cell n).toQuarantine = true → ∃ s', exec (.cellTestDone t n true) s = .next s' ∧ (s'.cell n).state = .quarantined ∧
      result s' 0 .pass) ∧
    ((s.cell n).toQuarantine = false → ∃ s', exec (.cellTestDone t n true) s = .next s' ∧ tfind s'.test.loans n = none ∧
      ((s'.cell n).state = .available ∨ (s'.cell n).state = .moving) ∧ result s' 0 .pass)) ∧
  (tfind s.test.loans n = none → ∀ p, exec (.cellTestDone t n p) s = .next s0) ∧
  (s.test.l2.contains n = false → ∀ p, exec (.l2TestDone t n p) s = .next s0) ∧
  (n ≤ 95 → s.test.l2.contains n = true →
    (∃ s', exec (.l2TestDone t n false) s = .next s' ∧ n ∉ s'.test.l2 ∧ tfind s'.test.loans (1024 + n) = none ∧ result s' 1 .fail ∧
      ∀ p, p < 8 → (s.cell (8 * n + p)).state ≠ .absent → (s'.cell (8 * n + p)).state = .quarantined) ∧
    ((∀ p, p < 8 → (s.cell (8 * n + p)).toQuarantine = false) → ∃ s', exec (.l2TestDone t n true) s = .next s' ∧ n ∉ s'.test.l2 ∧
      result s' 1 .pass ∧ ∀ p, p < 8 → (s.cell (8 * n + p)).state = .testing → (s'.cell (8 * n + p)).state = .available)) ∧
  (∀ cls, tfind s.test.reqs (testKey cls n) = none → exec (.drainIdle t cls n) s = .next s0 ∧ exec (.drainTimeout t cls n) s = .next s0) ∧
  (∀ r k, n ≤ 767 → tfind s.test.reqs (testKey 0 n) = some r → r.running = false → r.marked = true → s.bestCell .sentinel false = some k →
    s.lendable n k = true → s.cellIdle n = true → ∃ s', exec (.drainIdle t 0 n) s = .next s' ∧ (s'.cell n).state = .testing ∧
      tfind s'.test.loans n = some k ∧ tfind s'.test.reqs (testKey 0 n) = some { r with running := true }) ∧
  (∀ cls r, cls ≤ 1 → n ≤ 767 → tfind s.test.reqs (testKey cls n) = some r → r.drain = true → r.marked = true → r.running = false →
    (s0.now < r.until_ → exec (.drainTimeout t cls n) s = .next s0) ∧
    (r.until_ ≤ s0.now → s.bestCell .sentinel false = none → ∃ s', exec (.drainTimeout t cls n) s = .next s' ∧
      tfind s'.test.reqs (testKey cls n) = none ∧ s'.test.deferred = s.test.deferred + 1 ∧ s'.test.units = s.test.units ∧
      (cls = 0 → n ∉ s'.sea.drainCells) ∧ (cls = 1 → n ∉ s'.sea.drainClusters) ∧
      (r.ticket = none → tfind s'.test.again (testKey cls n) = some (s0.now + 600000000000)) ∧
      (∀ k, r.ticket = some k → tfind s'.mbx.tickets k = none))) ∧
  (∀ ok, ∃ s', exec (.hubMarchLine t ok) s = .next s' ∧ s'.test.line = (if s.test.line < 131071 then s.test.line + 1 else 0) ∧
    s'.test.remapped = (if ok = true ∨ 64 ≤ s.test.remapped.length then s.test.remapped else s.test.remapped ++ [s.test.line]) ∧
    (s.test.line < 131071 → s'.test.passFailed = (s.test.passFailed || !ok) ∧ s'.test.units = s.test.units ∧
      s' = { s0 with test := s'.test, evt := s'.evt, out := s'.out }) ∧
    (131071 ≤ s.test.line → s'.test.passFailed = false ∧ (n = 0 → result s' 2 (if s.test.passFailed || !ok then .fail else .pass)) ∧
      (s'.testUnit 2 0).detail = s'.test.remapped.length)) ∧
  (∀ dir lane errors, (s.link n).state ≠ .up ∨ 1 < dir ∨ 17 < lane → exec (.dieLinkLaneTest t n dir lane errors) s = .next s0) ∧
  (∀ dir lane, (s.link n).state = .up → dir ≤ 1 → lane ≤ 17 → n ≤ 3 →
    (s.link n).testLanes + 1 < (if (s.link n).half then 20 else 36) → exec (.dieLinkLaneTest t n dir lane 0) s =
      .next (s0.modLink n (fun l => { l with testLanes := l.testLanes + 1 }))) ∧
  (∀ dir lane, (s.link n).state = .up → dir ≤ 1 → lane ≤ 17 → n ≤ 3 →
    (if (s.link n).half then 20 else 36) ≤ (s.link n).testLanes + 1 → ∃ s', exec (.dieLinkLaneTest t n dir lane 0) s = .next s' ∧
      result s' 3 (if (s.link n).testErrors ≠ 0 then .fail else if (s.link n).half then .part else .pass) ∧
      (s'.link n).testLanes = 0 ∧ (s'.link n).auditing = true) ∧
  (∀ dir lane errors, (s.link n).state = .up → dir ≤ 1 → lane ≤ 17 → n ≤ 3 → 0 < errors → ∃ s',
    exec (.dieLinkLaneTest t n dir lane errors) s = .next s' ∧ lane ∈ ((s'.link n).dir dir).badLanes) ∧
  (7 < n ∨ (s.seg n).started = false ∨ s.lane.emg = true → exec (.segmentEchoTest t n) s = .next s0) ∧
  (n ≤ 7 → (s.seg n).started = true → (s.seg n).stopped = false → n ∈ s.cfg.segs → s.lane.emg = false → s.lane.releasing = false →
    tmem s.test.echoOpen n = false → ∃ s', exec (.segmentEchoTest t n) s = .next s' ∧
      (n ∈ s'.test.echoCount ↔ n ∉ s.test.echoCount) ∧
      ((∀ k, 16 * n ≤ k → k < 16 * n + 16 → (s.unit k).state ≠ .present) → result s' 4 .pass ∧ tfind s'.test.echoOpen n = none) ∧
      (∀ k, 16 * n ≤ k → k < 16 * n + 16 → (s.unit k).state = .present →
        s'.unit k = { s.unit k with echo := some (echoPattern (s.test.echoCount.contains n)) } ∧ k ∈ tget s'.test.echoOpen n [])) ∧
  (1 < n → ∀ e, exec (.portTest t n e) s = .next s0) ∧
  (n ≤ 1 → (s.linkUp n = false → ∀ e, exec (.portTest t n e) s = .next (s0.modTest (fun x => { x with loopback := linsert x.loopback n }))) ∧
    (s.linkUp n = true → ∀ e, e < 256 → ∃ s', exec (.portTest t n e) s = .next s' ∧ (s'.port n).eye = e ∧
      result s' 5 (if e < s.devN 0x0C07 then .fail else .pass) ∧ (s'.testUnit 5 n).detail = e ∧ s'.test.loopback = s.test.loopback)) ∧
  (n ∉ s.test.loopback → ∀ e, exec (.portLoopbackDone t n e) s = .next s0) ∧
  (n ≤ 1 → n ∈ s.test.loopback → ∀ e, ∃ s', exec (.portLoopbackDone t n e) s = .next s' ∧ n ∉ s'.test.loopback ∧
    result s' 5 (if e = 0 then .pass else .fail) ∧ (s'.testUnit 5 n).detail = (s.testUnit 5 n).detail) ∧
  (n = 0 → ∃ s', exec (.fuseReread t []) s = .next s' ∧ s'.lcy = { s.lcy with drifted := [] } ∧ result s' 6 .pass) ∧
  (∀ (reads : Tbl FuseReads) w r, n = 0 → w < 512 → tfind reads w = some r → r ≠ s.bootRead w → ∃ s', exec (.fuseReread t reads) s = .next s' ∧
    tfind s'.lcy.drifted w = some r ∧ s'.lcy = { s.lcy with drifted := s'.lcy.drifted } ∧ result s' 6 .drift) ∧
  (∀ cls, covered cls = false ∨ testCount cls ≤ n → exec (.forcedRequest t cls n) s = .next s0 ∧ exec (.testOverdue t cls n) s = .next s0) ∧
  (∀ cls, covered cls = true → n < testCount cls → s.testPresent cls n = true →
    (tfind s.test.reqs (testKey cls n) = none → tfind s.test.again (testKey cls n) = none →
      s.ageStart cls n + (s.devN 0x0C01 - s.devN 0x0C02) * 3600000000000 ≤ s0.now → ∃ s' r, exec (.forcedRequest t cls n) s = .next s' ∧
        tfind s'.test.reqs (testKey cls n) = some r ∧ r.ticket = none ∧ r.drain = decide (cls ≤ 1) ∧ r.running = false ∧
        (∀ k, k ≠ testKey cls n → tfind s'.test.reqs k = tfind s.test.reqs k) ∧ s' = { s0 with test := s'.test, sea := s'.sea }) ∧
    (tfind s.test.reqs (testKey cls n) = none → tfind s.test.again (testKey cls n) = none →
      s0.now < s.ageStart cls n + (s.devN 0x0C01 - s.devN 0x0C02) * 3600000000000 → exec (.forcedRequest t cls n) s = .next s0) ∧
    (s.ageStart cls n + s.devN 0x0C01 * 3600000000000 + (s.testUnit cls n).overdue * 86400000000000 < s0.now → ∃ s',
      exec (.testOverdue t cls n) s = .next s' ∧ s'.testUnit cls n = { s.testUnit cls n with overdue := (s.testUnit cls n).overdue + 1 } ∧
      s' = { s0 with test := { s.test with units := s'.test.units }, evt := s'.evt, out := s'.out }))

/-- R440, R441, R444, Table 17-4: TEST_REQUEST answers with a ticket and leaves a request for a unit that may be tested and has none of
another ticket; TEST_RESULT answers a unit's last result; TEST_COVERAGE the oldest covered unit and the requests pending. -/
def Sys2Proof.Say.testCommandsSay : Prop :=
  ∀ (t tag : Nat) (io : HostIo) (s : State) (a : List Word),
  let s0 := s.tick t
  let cls := fld (arg a 1) 2 0
  let mode := fld (arg a 1) 15 8
  let n := fld (arg a 1) 25 16
  let k := testKey cls n
  let u := s.testUnit cls n
  (1 < mode → Answers (.testRequest t tag io) s a 0x0012 [] s0) ∧
  (mode ≤ 1 → 6 < cls ∨ testCount cls ≤ n → Answers (.testRequest t tag io) s a 0x0C02 [] s0) ∧
  (mode ≤ 1 → cls ≤ 6 → n < testCount cls →
    (∀ r, tfind s.test.reqs k = some r → r.ticket.isSome = true → Answers (.testRequest t tag io) s a 0x0C03 [] s0) ∧
    (tfind s.test.reqs k = none → s.testBarred cls n = true → Answers (.testRequest t tag io) s a 0x0C04 [] s0) ∧
    (tfind s.test.reqs k = none → s.testBarred cls n = false → ∃ s1 r, Answers (.testRequest t tag io) s a 0x0001 [wd s.mbx.nextTicket] s1 ∧
      tfind s1.test.reqs k = some r ∧ r.ticket = some s.mbx.nextTicket ∧ r.drain = (decide (mode = 1) && decide (cls ≤ 1)) ∧
      r.running = false ∧ (tfind s1.mbx.tickets s.mbx.nextTicket).map (fun c => (c.tag, c.code, c.args)) = some (tag, 0x0C01, a))) ∧
  (cls ≠ 6 → fld (arg a 1) 11 3 ≠ 0 → Answers (.testResult t tag io) s a 0x0013 [] s0) ∧
  (fld (arg a 1) 11 3 = 0 ∨ cls = 6 → 6 < cls ∨ testCount cls ≤ n → Answers (.testResult t tag io) s a 0x0C02 [] s0) ∧
  (fld (arg a 1) 11 3 = 0 → cls < 6 → n < testCount cls →
    Answers (.testResult t tag io) s a 0 [wd (testCode u.result), wd u.lastPass, wd u.lastTry, wd u.detail] s0) ∧
  (∃ rs cls n, Answers (.testCoverage t tag io) s a 0 rs s0 ∧ rs.length = 5 ∧ rs.getD 1 0 = wd (s0.testAge cls n) ∧
    rs.getD 2 0 = wd (cls + n * 2 ^ 16) ∧ (s.testPresent cls n = true → covered cls = true → ∀ c m, covered c = true → m < testCount c →
      s.testPresent c m = true → s.ageStart cls n ≤ s.ageStart c m) ∧
    rs.getD 3 0 = wd s.test.reqs.length ∧ rs.getD 4 0 = wd s.test.deferred)

/-! ### 18 Events, and the host's registers -/

/-- R447 to R453, Table 18-2: the oldest event raised is written to its recipient's queue: 16 bytes at the tail, the byte with PHASE last, and the
tail moves on; a queue that is not set up, or that is full but for one entry, loses the record and counts it; within an open window an occurrence of a
coalescing code is held, and the window's end writes one record with their count; an interrupt holdoff's end signals what was
written inside it. -/
def Obligations.EventRecords : Prop :=
  ∀ (t p : Nat) (io : HostIo) (s : State),
  let s0 := s.tick t
  let q := queueOf p
  let e := s.evq q
  (s.evt.raised = [] → exec (.eventRecordWrite t io) s = .next s0) ∧
  (∀ r rest, s.evt.raised = r :: rest → r.rcpt = [(p, false)] →
    let s1 : State := { s0 with evt := { s.evt with raised := rest } }
    (isSlice p = false ∨ s.enabled p = true → evC r.code = false ∨ s.insN p 0x0E01 = 0 →
      (∀ us, e.active = true → s.bme q = true → s1.eqCause p io = none → e.lostDue = false → r.ext = none → e.used + 2 ≤ 2 ^ e.log2 →
        us = recordBytes r.code (b2n e.phase + 8 * b2n r.coalesced) (min 255 r.count) r.source (if isSlice p then p else r.tag)
          (stampOf r.sec r.ns) r.data → ∃ s', exec (.eventRecordWrite t io) s = .next s' ∧ s'.evt.raised = rest ∧
        (s'.evq q).tail = (if e.tail + 1 = 2 ^ e.log2 then 0 else e.tail + 1) ∧ (s'.evq q).used = e.used + 1 ∧
        (s'.evq q).phase = (if e.tail + 1 = 2 ^ e.log2 then !e.phase else e.phase) ∧ (s'.evq q).lost = e.lost ∧
        Output.dma q (e.base + 16 * e.tail) (us.take 2) ∈ s'.out ∧ Output.dma q (e.base + 16 * e.tail + 3) (us.drop 3) ∈ s'.out ∧
        Output.dma q (e.base + 16 * e.tail + 2) ((us.drop 2).take 1) ∈ s'.out ∧
        (∀ k, k ≠ q → k ≠ p → s'.evq k = s.evq k) ∧ s' = { s0 with evt := s'.evt, ins := s'.ins, out := s'.out }) ∧
      (e.active = false ∨ s.bme q = false → exec (.eventRecordWrite t io) s = .next (s1.loseRecord q 1 true)) ∧
      (e.active = true → s.bme q = true → s1.eqCause p io = none → e.lostDue = false → 2 ^ e.log2 < e.used + 2 →
        exec (.eventRecordWrite t io) s = .next (s1.loseRecord q))) ∧
    (evC r.code = true → s.insN p 0x0E01 ≠ 0 → ∀ k w,
      s.evt.windows.find? (fun x => x.2.matches_ r (p, false)) = some (k, w) → exec (.eventRecordWrite t io) s =
        .next { s1 with evt := { s1.evt with windows := tupd s.evt.windows k (fun w => { w with held := w.held + 1, last := some r }) } })) ∧
  (∀ n due, ((s.loseRecord p n due).evq p).lost = satAdd (2 ^ 32 - 1) (s.evq p).lost n ∧
    ((s.loseRecord p n due).evq p).lostPending = satAdd (2 ^ 32 - 1) (s.evq p).lostPending n ∧
    (s.loseRecord p n due).evt.lostTotal = satAdd (2 ^ 32 - 1) s.evt.lostTotal n) ∧
  (∀ k, tfind s.evt.windows k = none → exec (.coalesceWindowEnd t p k io) s = .next s0) ∧
  (∀ k w, tfind s.evt.windows k = some w →
    (w.rcpt ≠ p ∨ s0.now < w.ends → exec (.coalesceWindowEnd t p k io) s = .next s0) ∧
    (let s1 : State := { s0 with evt := { s.evt with windows := terase s.evt.windows k } };
      w.rcpt = p → w.ends ≤ s0.now →
        (w.last = none → exec (.coalesceWindowEnd t p k io) s = .next s1) ∧
        (∀ r, w.last = some r → exec (.coalesceWindowEnd t p k io) s =
          .next (s1.deliver { r with count := w.held, coalesced := true } p w.copy io)))) ∧
  (∀ v, tfind (s.evq p).holdoff v = none → exec (.irqHoldoffEnd t p v) s = .next s0) ∧
  (∀ v ends, tfind (s.evq p).holdoff v = some (ends, false) → ends ≤ s0.now → ∃ s', exec (.irqHoldoffEnd t p v) s = .next s' ∧
    s'.evq p = { s.evq p with holdoff := terase (s.evq p).holdoff v } ∧ s' = { s0 with evt := { s.evt with queues := s'.evt.queues } }) ∧
  (∀ v ends, tfind (s.evq p).holdoff v = some (ends, true) → ends ≤ s0.now → ∃ s', exec (.irqHoldoffEnd t p v) s = .next s' ∧
    tfind (s'.evq p).holdoff v = (if s.insN p 0x0E02 = 0 then none else some (s0.now + s.insN p 0x0E02 * 1000, false)) ∧
    s' = { s0 with evt := { s.evt with queues := s'.evt.queues }, ins := { s.ins with fns := s'.ins.fns }, out := s'.out } ∧
    (let m : MsixEntry := tget (s.func (fnOf p)).msix v {};
      (m.mask = false ∧ (s.func (fnOf p)).fnMask = false ∧ (s.func (fnOf p)).msixEn = true ∧ s.bme p = true →
        s'.out = .msix (fnOf p) v (ofTwo m.addrLo m.addrHi) m.data :: s.out) ∧
      (m.mask = true → (tget (s'.func (fnOf p)).msix v {}).pend = true)))

/-- R9 to R12, R104, Tables 2-2 to 2-4, 22-4 to 22-8: what a host's write to a register without a row of its own does: write-1-to-clear bits of
the mailbox and the doorbells, the interrupt enables, GLB_SCRATCH, the MSI-X table and control; any other address ignores the write. -/
def Obligations.RegisterWrites : Prop :=
  ∀ (t n v : Nat) (w : Word) (s : State),
  let s0 := s.tick t
  (∀ addr, exec (.registerWrite t (.other addr) w) s = .next s0) ∧
  (exec (.registerWrite t .scratch w) s = .next { s0 with ins := { s.ins with scratch := w } }) ∧
  (s.pageLive n = false → ∀ r, r = .mbxStat n ∨ r = .mbxCtl n ∨ r = .mbxBlkctl n ∨ r = .qdbErr n →
    exec (.registerWrite t r w) s = .next s0) ∧
  (s.pageLive n = true →
    (∃ s', exec (.registerWrite t (.mbxStat n) w) s = .next s' ∧ s'.page n = { s.page n with
      h2sCollide := (s.page n).h2sCollide && !bit w 2, s2hFull := (s.page n).s2hFull && !bit w 3
      s2hCollide := (s.page n).s2hCollide && !bit w 4 } ∧ (∀ k, k ≠ n → s'.page k = s.page k) ∧
      s' = { s0 with mbx := { s.mbx with pages := s'.mbx.pages } }) ∧
    (∃ s', exec (.registerWrite t (.mbxCtl n) w) s = .next s' ∧ s'.page n = { s.page n with doneIe := bit w 0, s2hIe := bit w 1 } ∧
      (∀ k, k ≠ n → s'.page k = s.page k) ∧ s' = { s0 with mbx := { s.mbx with pages := s'.mbx.pages } }) ∧
    (∃ s', exec (.registerWrite t (.mbxBlkctl n) w) s = .next s' ∧ s'.page n = { s.page n with
      done := (s.page n).done && !bit w 1, writeIgnored := (s.page n).writeIgnored && !bit w 3 } ∧
      (∀ k, k ≠ n → s'.page k = s.page k) ∧ s' = { s0 with mbx := { s.mbx with pages := s'.mbx.pages } }) ∧
    (∃ s', exec (.registerWrite t (.qdbErr n) w) s = .next s' ∧ s'.inst n = { s.inst n with
      badTail := (s.inst n).badTail && !bit w 0, badHead := (s.inst n).badHead && !bit w 1, qpError := (s.inst n).qpError && !bit w 2 } ∧
      (∀ k, k ≠ n → s'.inst k = s.inst k) ∧ s' = { s0 with ins := { s.ins with insts := s'.ins.insts } })) ∧
  (31 < n ∨ vectors n ≤ v → ∀ r, r = .msxAddrLo n v ∨ r = .msxAddrHi n v ∨ r = .msxData n v ∨ r = .msxCtl n v →
    exec (.registerWrite t r w) s = .next s0) ∧
  (n ≤ 31 → v < vectors n → (s.func n).msixEn = false →
    let m : MsixEntry := tget (s.func n).msix v {}
    let holds (r : HostReg) (x : MsixEntry) : Prop := ∃ s', exec (.registerWrite t r w) s = .next s' ∧
      tget (s'.func n).msix v {} = x ∧ (∀ k, k ≠ v → tfind (s'.func n).msix k = tfind (s.func n).msix k) ∧
      (∀ k, k ≠ n → s'.func k = s.func k) ∧ s' = { s0 with ins := { s.ins with fns := s'.ins.fns } }
    holds (.msxAddrLo n v) { m with addrLo := w &&& 0xFFFFFFFC } ∧ holds (.msxAddrHi n v) { m with addrHi := w } ∧
      holds (.msxData n v) { m with data := w } ∧ holds (.msxCtl n v) { m with mask := bit w 0 }) ∧
  (n ≤ 31 → (s.func n).msix = [] → ∃ s', exec (.registerWrite t (.msixControl n) w) s = .next s' ∧
    s'.func n = { s.func n with msixEn := bit w 15, fnMask := bit w 14 } ∧ (∀ k, k ≠ n → s'.func k = s.func k) ∧
    s' = { s0 with ins := { s.ins with fns := s'.ins.fns } }) ∧
  (∀ m, n ≤ 31 → (s.func n).msix = [(v, m)] → m.pend = true → m.mask = false → (s.func n).bme = true → bit w 15 = true → bit w 14 = false →
    ∃ s', exec (.registerWrite t (.msixControl n) w) s = .next s' ∧ (s'.func n).msix = [(v, { m with pend := false })] ∧
      s'.out = .msix n v (ofTwo m.addrLo m.addrHi) m.data :: s.out) ∧
  (bit w 0 = true → exec (.registerWrite t .pasidCtl w) s = .next { s0 with ins := { s.ins with pasidEn := true } }) ∧
  (bit w 0 = false → exec (.registerWrite t .pasidCtl w) s = .next s0)

/-- R454, R455, R457, Table 18-5: what the event commands answer and do. -/
def Sys2Proof.Say.eventCommandsSay : Prop :=
  ∀ (t tag : Nat) (io : HostIo) (s : State) (a : List Word),
  let s0 := s.tick t
  let w := arg a 1
  let code := fld w 15 0
  let named := fld w 29 20
  (s.evGone tag named = true → Answers (.evtMaskSet t tag io) s a 0x0012 [] s0 ∧ Answers (.evtMaskGet t tag io) s a 0x0012 [] s0) ∧
  (s.evGone tag named = false → evInfo code = none →
    Answers (.evtMaskSet t tag io) s a 0x0E01 [] s0 ∧ Answers (.evtMaskGet t tag io) s a 0x0E01 [] s0) ∧
  (s.evGone tag named = false → (evInfo code).isSome = true →
    (evU code = true → bit w 16 = true → Answers (.evtMaskSet t tag io) s a 0x0E02 [] s0) ∧
    (evU code = true → bit w 16 = false → Answers (.evtMaskSet t tag io) s a 0 [] s0) ∧
    (evU code = false → bit w 17 = true → ∃ s1, Answers (.evtMaskSet t tag io) s a 0 [] s1 ∧
      (code ∈ (s1.evq 0).copyMask ↔ bit w 16 = true) ∧ (∀ c, c ≠ code → (c ∈ (s1.evq 0).copyMask ↔ c ∈ (s.evq 0).copyMask)) ∧
      (∀ k, (s1.evq k).mask = (s.evq k).mask) ∧ s1 = { s0 with evt := { s.evt with queues := s1.evt.queues } }) ∧
    (evU code = false → bit w 17 = false → ∃ s1, Answers (.evtMaskSet t tag io) s a 0 [] s1 ∧
      (code ∈ (s1.evq (evTag tag named)).mask ↔ bit w 16 = true) ∧
      (∀ c, c ≠ code → (c ∈ (s1.evq (evTag tag named)).mask ↔ c ∈ (s.evq (evTag tag named)).mask)) ∧
      (∀ k, k ≠ evTag tag named → s1.evq k = s.evq k) ∧ s1 = { s0 with evt := { s.evt with queues := s1.evt.queues } }) ∧
    Answers (.evtMaskGet t tag io) s a 0
      [wd (b2n ((s.evq (evTag tag named)).mask.contains code) + 2 * b2n (isPf tag && (s.evq 0).copyMask.contains code))] s0) ∧
  (1217 ≤ fld w 10 0 → Answers (.evtSrcMask t tag io) s a 0x0E03 [] s0) ∧
  (fld w 10 0 < 1217 → ∃ s1, Answers (.evtSrcMask t tag io) s a 0 [] s1 ∧ (fld w 10 0 ∈ s1.evt.srcMask ↔ bit w 16 = true) ∧
    (∀ c, c ≠ fld w 10 0 → (c ∈ s1.evt.srcMask ↔ c ∈ s.evt.srcMask)) ∧ s1 = { s0 with evt := { s.evt with srcMask := s1.evt.srcMask } }) ∧
  (s.evGone tag (fld w 9 0) = true → Answers (.evtStatus t tag io) s a 0x0012 [] s0) ∧
  (s.evGone tag (fld w 9 0) = false →
    let n := evTag tag (fld w 9 0)
    let q := s.evq (queueOf n)
    Answers (.evtStatus t tag io) s a 0
      [wd (q.head + q.tail * 2 ^ 16), wd q.lost, wd (s.evq n).masked, wd q.lostPrev, wd (b2n q.active)] s0)

/-- The test and the event commands. -/
def Obligations.TestAndEventCommands : Prop := Sys2Proof.Say.testCommandsSay ∧ Sys2Proof.Say.eventCommandsSay

/-! ### 19 Start-up and lifecycle -/

/-- R459 to R463, R471, R475: power-good starts the boot at stage 1 with the first epoch boundary armed; losing it is a cold reset, which keeps the
battery domain and the fuses, and by a rail's failure a detector's trip first; the emergency path and the segment controllers start; a stopped boot ends
Retry Status 900 ms after power-good and PERST_N. -/
def Obligations.PowerAndPins : Prop :=
  ∀ (t : Nat) (s : State),
  let s0 := s.tick t
  let len := s.devN 0x0B01
  (s.lcy.powerGood = true → exec (.powerGood t) s = .next s0) ∧
  (s.lcy.powerGood = false → (∀ c, exec (.powerGoodLost t c) s = .next s0) ∧ ∃ s', exec (.powerGood t) s = .next s' ∧
    s'.lcy = { s.lcy with powerGood := true, bootStart := s0.now, stage := 1 } ∧
    s'.stat = { s.stat with boundary := (s.servedSec / len + 1) * len, frozenPast := false, lateDue := false } ∧
    (s'.cmp 0).armed = true ∧ (s'.cmp 0).sec = (s.servedSec / len + 1) * len % 2 ^ 32 ∧ (s'.cmp 0).ns = 0 ∧
    (s'.cmp 1).armed = true ∧ (s'.cmp 1).ns = 995000000 ∧ (s'.cmp 2).armed = true ∧ (s'.cmp 3).armed = true ∧
    s'.tim.served = s.tim.served ∧
    s' = { s0 with lcy := s'.lcy, stat := s'.stat, tim := { s.tim with cmps := s'.tim.cmps }, cart := s'.cart, out := s'.out }) ∧
  (s.lcy.powerGood = true → ∃ s', exec (.powerGoodLost t .sysReset) s = .next s' ∧ s'.lcy.powerGood = false ∧ s'.lcy.stage = 0 ∧
    s'.lcy.lastReset = .cold ∧ s'.lcy.fuses = s.lcy.fuses ∧ s'.sec.bat = s.sec.bat ∧ s'.mbx = {} ∧ s'.man = {} ∧ s'.fare = {} ∧
    s'.mem.bytes = [] ∧ s'.cap.sealKey = none ∧ s'.cap.objs = [] ∧ s'.stat.epoch = 1 ∧ s'.lane.segs = [] ∧
    s'.lane.emgPath = s.lane.emgPath) ∧
  (∀ n, s.lcy.powerGood = true → s.sec.zeroised = false → s.sec.zeroising = none → s.detRuns (if n = 1 then 8 else 6) = true →
    ∃ s', exec (.powerGoodLost t (.rail n)) s = .next s' ∧ s'.lcy.powerGood = false ∧ s'.lcy.lastReset = .powerOn ∧
      s'.sec.bat.bkr = none ∧ (s'.sec.bat.log.head?).map (fun r => (r.cls, r.source)) = some (1, if n = 1 then 8 else 6) ∧
      s'.lcy.fuses = s.lcy.fuses ∧ (n = 0 ∨ n = 7 → s'.lane.emgPath = false ∧ s'.lane.emg = false)) ∧
  (s.lane.emgPath = true → exec (.emergencyPathStart t) s = .next s0) ∧
  (s.lane.emgPath = false → exec (.emergencyPathStart t) s =
    .next { s0 with lane := { s.lane with emgPath := true, emgSince := s0.now } }) ∧
  (s.lcy.powerGood = true → s.lcy.stage ≠ 15 → s.sec.zeroised = false → s.sec.zeroising = none → (s.seg 0).started = false →
    s.lcy.bootStart + 600000000 ≤ s0.now → ∃ s', exec (.segmentControllerStart t) s = .next s' ∧
      (∀ n, n ≤ 7 → s'.seg n = { s.seg n with started := true }) ∧ s' = { s0 with lane := { s.lane with segs := s'.lane.segs } }) ∧
  (s.lcy.powerGood = false ∨ s.lcy.stage = 15 ∨ s0.now < s.lcy.bootStart + 600000000 →
    exec (.segmentControllerStart t) s = .next s0) ∧
  (s.lcy.powerGood = true → s.lcy.stage = 15 → s.lcy.crs = true → s.ins.perstN = true →
    max s.lcy.bootStart s.ins.perstAt + 900000000 ≤ s0.now → exec (.bootFailCrsEnd t) s =
      .next { s0 with lcy := { s.lcy with crs := false }, ins := { s.ins with linkUp := true } }) ∧
  (s.lcy.stage ≠ 15 ∨ s.lcy.crs = false ∨ s.ins.perstN = false → exec (.bootFailCrsEnd t) s = .next s0)

/-- R402, R462 to R471, R475, Tables 19-1, 19-3, 19-6: what the end of each boot stage leaves: the hub's islands running; the fuse words' values in use
by their class; a BLANK part, a dead flash, no usable key slot, no image that passes, a TRNG that stays unhealthy and memory that does
not train stop the boot with their cause; the bank preferred boots when its image passes and the other one as the fallback; stage 7 follows the
ends of 4, 5 and 6; the cells that answer are AVAILABLE and the bad ones QUARANTINED; host service sets the PF's READY. -/
def Obligations.BootStages : Prop :=
  ∀ (t : Nat) (r : StageResult) (s : State), Formed s → s.mbx.state ≠ .serving →
  let s0 := s.tick t
  let stops (c : Nat) : Prop := ∃ s', exec (.bootStageComplete t r) s = .next s' ∧ s'.lcy.stage = 15 ∧ s'.lcy.fail = c ∧
    s'.mbx.state = .stopped ∧ s'.lcy.fuses = s.lcy.fuses
  let after (s' : State) : Prop := s'.lcy.stage = (if [4, 5, 6].all (linsert s.lcy.ended r.stage).contains then 7 else 4) ∧
    s'.lcy.ended = linsert s.lcy.ended r.stage
  (s.stageDue r.stage = false → exec (.bootStageComplete t r) s = .next s0) ∧
  (s.stageDue r.stage = true →
    (r.stage = 1 → ∃ s', exec (.bootStageComplete t r) s = .next s' ∧ s'.lcy.stage = 2 ∧
      ∀ n, 96 ≤ n → n ≤ 107 → (s'.island n).state = .run ∧ (s'.island n).isolated = false ∧ (s'.island n).vcode = 50) ∧
    (r.stage = 2 → ∃ s', exec (.bootStageComplete t r) s = .next s' ∧ s'.lcy.stage = 3 ∧ ∀ w, w < 512 →
      let x := s.fuseReads r.fuses w
      (w ∈ s'.lcy.marginal ↔ x.marginal = true) ∧ (w ≤ 5 → s'.fuse w = x.normal ||| x.low ||| x.high) ∧
      (8 ≤ w → w ≤ 55 ∨ 64 ≤ w → w ≤ 79 → s'.fuse w = if x.marginal then 0 else x.normal) ∧ (80 ≤ w → s'.fuse w = x.normal)) ∧
    (r.stage = 3 →
      (s.lifecycle = 0 → stops 1) ∧
      (s.lifecycle ≠ 0 → r.trngOk = false → s0.now < s.lcy.bootStart + 800000000 → exec (.bootStageComplete t r) s = .next s0) ∧
      (s.lifecycle ≠ 0 → r.trngOk = false → s.lcy.bootStart + 800000000 ≤ s0.now → stops 5) ∧
      (s.lifecycle ≠ 0 → r.trngOk = true → ∃ s', exec (.bootStageComplete t r) s = .next s' ∧ s'.lcy.stage = 4 ∧
        s'.sec.keysMade = true ∧ s'.sec.memKey = s.sec.memKey + 1 ∧ s'.cap.sealKey = some (s.sec.memKey + 1) ∧
        (s.sec.bat.bkr.isSome = true ∨ s.enrols ≤ s.zcount → s'.lcy.fuses = s.lcy.fuses) ∧
        (s.sec.bat.bkr = none → s.zcount < s.enrols → r.burnt = 7 → s'.fuse 3 = s.fuse 3 ||| ((1 : Word) <<< s.zcount)))) ∧
    (r.stage = 4 →
      let p := match tfind r.desc 0, tfind r.desc 1 with
        | some a, some b => if a.dserial < b.dserial then b.bank else a.bank
        | some a, none => a.bank
        | none, some b => b.bank
        | none, none => 0
      let img (b : Nat) : Image := tget r.banks b {}
      let usable := [0, 1, 2, 3].any s.fwUsable
      (r.flashOk = false → stops 4) ∧
      (r.flashOk = true → usable = false → stops 3) ∧
      (r.flashOk = true → usable = true → s.accepts (img p) = none → s.accepts (img (1 - p)) = none → stops 2) ∧
      (∀ k, r.flashOk = true → usable = true → s.accepts (img p) = some k → ∃ s', exec (.bootStageComplete t r) s = .next s' ∧
        s'.lcy.bank = p ∧ s'.lcy.fallback = false ∧ s'.lcy.slot = k ∧ s'.lcy.version = (img p).version ∧ after s') ∧
      (∀ k, r.flashOk = true → usable = true → s.accepts (img p) = none → s.accepts (img (1 - p)) = some k → p ≤ 1 → ∃ s',
        exec (.bootStageComplete t r) s = .next s' ∧ s'.lcy.bank = 1 - p ∧ s'.lcy.fallback = true ∧ s'.lcy.slot = k ∧ after s')) ∧
    (r.stage = 5 → (r.ddrOk = false → stops 6) ∧
      (r.ddrOk = true → ∃ s', exec (.bootStageComplete t r) s = .next s' ∧ s'.mem.extMib = r.extMib * 15 / 16 ∧ after s' ∧
        (∀ x ∈ s'.mem.bytes, x.1 < 0x100000000))) ∧
    (r.stage = 6 → ∃ s', exec (.bootStageComplete t r) s = .next s' ∧ after s' ∧ ∀ d, d < s.lcy.dies →
      let good := tget r.links d 18
      (16 ≤ good → (s'.link d).state = .up ∧ (s'.link d).half = false) ∧
      (8 ≤ good → good < 16 → (s'.link d).state = .up ∧ (s'.link d).half = true) ∧
      (good < 8 → (s'.link d).state = .failed ∧ ∀ i, i < 24 → (s'.island (24 * d + i)).state = .absent)) ∧
    (r.stage = 7 → s.lcy.warm = false → ∃ s', exec (.bootStageComplete t r) s = .next s' ∧ s'.lcy.stage = 8 ∧ s'.cap.gates = r.gates ∧
      tfind s'.mem.fwRegions 95 = some hdmaRegion ∧ ∀ n, n < 192 * s.lcy.dies → (s.link (n / 192)).state = .up →
        (n ∈ r.badCells → (s'.cell n).state = .quarantined) ∧ (n ∉ r.badCells → (s'.cell n).state = .available)) ∧
    (r.stage = 7 → s.lcy.warm = true → ∃ s', exec (.bootStageComplete t r) s = .next s' ∧ s'.lcy.stage = 8 ∧
      ∀ n, n ∈ tkeys s.sea.cells → (s.cell n).state = .faulted → (n ∈ r.badCells → (s'.cell n).state = .quarantined) ∧
        (n ∉ r.badCells → (s'.cell n).state = .available ∨ (s'.cell n).state = .moving)) ∧
    (r.stage = 8 → ∃ s', exec (.bootStageComplete t r) s = .next s' ∧ s'.mbx.state = .serving ∧ s'.lcy.warm = false ∧
      (s.ins.perstN = true → s'.lcy.crs = false ∧ s'.ins.linkUp = true) ∧
      (s.ins.perstN = true → (s.inst 0).phase = .off → s'.enabled 0 = true ∧ (s'.page 0).ready = true ∧ (s'.page 0).s2hFull = true) ∧
      (s.ins.perstN = false → s'.ins = s.ins ∧ s'.lcy.crs = s.lcy.crs)))

/-- R67, R397, R467 to R470, R473, R474, R477, R479, Table 19-11: what the lifecycle commands answer, burn and reset. -/
def Sys2Proof.Say.lifecycleCommandsSay : Prop :=
  ∀ (t tag : Nat) (io : HostIo) (s : State) (a : List Word),
  let s0 := s.tick t
  let w := arg a 1
  let l := s.lifecycle
  let f := fld w 8 0
  let len := (arg a 3).toNat
  let img := tget s.lcy.banks (fld w 0 0) {}
  let steps := fld w 6 0
  let last (ks : List Nat) (base : Nat) : Bool := !ks.isEmpty && ks.all (fun k => w.getLsbD (base + k))
  let barred := w.getLsbD s.lcy.slot || last ([0, 1, 2, 3].filter s.fwUsable) 0 || last ([0, 1].filter s.debugUsable) 8
  Answers (.lcyStatus t tag io) s a 0
    [ wd s.bootStatus, wd (l + s.rollbackStep * 2 ^ 8 + s.zcount * 2 ^ 16 + s.enrols * 2 ^ 24), s.fuse 5 &&& 0x30F
    , s.bankVersion 0, s.bankVersion 1, wd s.preferred ] s0 ∧
  (w.toNat ≠ (if l = 1 then 0x4445504C else 0x44434F4D) → Answers (.lcyAdvance t tag io) s a 0x0D41 [] s0) ∧
  (l = 1 → w.toNat = 0x4445504C →
    (s.sec.bat.bkr = none ∨ s.cfg.casteMin 4 < 2 → Answers (.lcyAdvance t tag io) s a 0x0D42 [] s0) ∧
    (s.sec.bat.bkr.isSome = true → 2 ≤ s.cfg.casteMin 4 →
      (io.burnt = 7 → ∃ s1, Answers (.lcyAdvance t tag io) s a 0 [] s1 ∧ s1.fuse 0 = s.fuse 0 ||| 0x20202 ∧
        (∀ k, k ≠ 0 → s1.fuse k = s.fuse k) ∧ s1 = { s0 with lcy := { s.lcy with fuses := s1.lcy.fuses, use := s1.lcy.use } }) ∧
      (io.burnt ≠ 7 → ∃ s1, Answers (.lcyAdvance t tag io) s a 0x0D43 [] s1))) ∧
  (Runs (.lcyAdvance t tag io) s a → l = 2 → w.toNat = 0x44434F4D → io.burnt = 7 → s.sec.zeroising = none → s.sec.zeroised = false → ∃ s',
    exec (.lcyAdvance t tag io) s = .next s' ∧ s'.fuse 0 = s.fuse 0 ||| 0x40404 ∧ s'.sec.bat.bkr = none ∧
    (s'.sec.zeroising).map (·.1) = some 3 ∧ s'.mbx.state = .restarting) ∧
  (64 ≤ f → f ≤ 79 → ∃ m, Answers (.lcyFuseRead t tag io) s a 0 [0, 0, 0, 0, m] s0) ∧
  (f < 64 ∨ 79 < f →
    let r := tget s.lcy.bootReads f { normal := s.fuse f, low := s.fuse f, high := s.fuse f }
    Answers (.lcyFuseRead t tag io) s a 0 [r.normal, r.low, r.high, s.fuse f, wd (b2n (s.lcy.marginal.contains f))] s0) ∧
  (len < 3924 ∨ 8388608 < len → Answers (.lcyFwWrite t tag io) s a 0x0012 [] s0) ∧
  (3924 ≤ len → len ≤ 8388608 → ∃ s1, Answers (.lcyFwWrite t tag io) s a 0x0001 [wd s.mbx.nextTicket] s1 ∧
    tfind s1.lcy.banks (1 - s.lcy.bank) = none ∧ (∀ b, b ≠ 1 - s.lcy.bank → tfind s1.lcy.banks b = tfind s.lcy.banks b) ∧
    (tfind s1.mbx.tickets s.mbx.nextTicket).map (fun c => (c.tag, c.code, c.args)) = some (tag, 0x0D44, a)) ∧
  (∀ s1, s0.hostRead tag (ofTwo (arg a 1) (arg a 2)) len 3 io.dataFault = .ok s1 →
    let i := imageOf ((io.data ++ List.replicate len 0).take len)
    (io.flashBad = true → s0.fwWrite tag a io = (0x0D45, [], s1)) ∧
    (io.flashBad = false → s1.accepts i = none → s0.fwWrite tag a io = (0x0D44, [], s1)) ∧
    (∀ k, io.flashBad = false → s1.accepts i = some k → s0.fwWrite tag a io =
      (0, [wd (1 - s.lcy.bank)], s1.setBank (1 - s.lcy.bank) (some i)))) ∧
  (s.accepts img = none → Answers (.lcyFwSelect t tag io) s a 0x0D44 [] s0) ∧
  (∀ k x y, s.accepts img = some k → tfind s.lcy.desc 0 = some x → tfind s.lcy.desc 1 = some y →
    let old := if x.dserial < y.dserial then 0 else 1
    (io.flashBad = false → ∃ s1, Answers (.lcyFwSelect t tag io) s a 0 [] s1 ∧
      tfind s1.lcy.desc old = some { dserial := (max x.dserial y.dserial + 1) % 2 ^ 32, bank := fld w 0 0 } ∧
      tfind s1.lcy.desc (1 - old) = tfind s.lcy.desc (1 - old) ∧ s1 = { s0 with lcy := { s.lcy with desc := s1.lcy.desc } }) ∧
    (io.flashBad = true → ∃ s1, Answers (.lcyFwSelect t tag io) s a 0x0D45 [] s1 ∧
      tfind s1.lcy.desc (1 - old) = tfind s.lcy.desc (1 - old) ∧ s1.lcy.banks = s.lcy.banks)) ∧
  (steps ≤ s.rollbackStep ∨ s.lcy.rollback < steps → Answers (.lcyRollbackAdvance t tag io) s a 0x0D46 [] s0) ∧
  (s.rollbackStep < steps → steps ≤ s.lcy.rollback → steps ≤ 64 → io.burnt = 7 → ∃ s1, Answers (.lcyRollbackAdvance t tag io) s a 0 [] s1 ∧
    s1.fuse 1 = s.fuse 1 ||| stepBits 0 s.rollbackStep steps ∧ s1.fuse 2 = s.fuse 2 ||| stepBits 32 s.rollbackStep steps ∧
    (∀ k, k ≠ 1 → k ≠ 2 → s1.fuse k = s.fuse k)) ∧
  (barred = true → Answers (.lcySlotRevoke t tag io) s a 0x0D47 [] s0) ∧
  (barred = false → w ≠ 0 →
    (io.burnt = 7 → ∃ s1, Answers (.lcySlotRevoke t tag io) s a 0 [] s1 ∧ s1.fuse 5 = s.fuse 5 ||| w ∧ ∀ k, k ≠ 5 → s1.fuse k = s.fuse k) ∧
    (io.burnt ≠ 7 → ∃ s1, Answers (.lcySlotRevoke t tag io) s a 0x0D43 [] s1)) ∧
  (fld w 31 8 ≠ 0x575253 → Answers (.lcyReset t tag io) s a 0x0D41 [] s0) ∧
  (Runs (.lcyReset t tag io) s a → fld w 31 8 = 0x575253 → ∃ s', exec (.lcyReset t tag io) s = .next s' ∧
    (bit w 0 = true → s'.lcy.lastReset = .cold ∧ s'.lcy.stage = (if s.lcy.powerGood then 1 else 0) ∧ s'.mbx = {} ∧ s'.mem.bytes = [] ∧
      s'.cap.objs = [] ∧ s'.sec.bat = s.sec.bat ∧ s'.lcy.fuses = s.lcy.fuses) ∧
    (bit w 0 = false → s'.lcy.warm = true ∧ s'.mbx.state = .restarting ∧ s'.ins.linkUp = false ∧ s'.sec.bat = s.sec.bat))

/-- The security and the lifecycle commands. -/
def Obligations.SecurityAndLifecycleCommands : Prop := Sys2Proof.Say.securityCommandsSay ∧ Sys2Proof.Say.lifecycleCommandsSay
end

