-- ==== Sys2Proof/Laws/Tbl.lean ====
section
/-! SUPPORT. What a sparse table reads after an entry is set, changed or erased. -/

namespace Sys2Proof.Machine

variable {α : Type}

@[simp] theorem tfind_nil (k : Nat) : tfind ([] : Tbl α) k = none := rfl

@[simp] theorem tfind_tset_same (t : Tbl α) (k : Nat) (a : α) : tfind (tset t k a) k = some a := by
  induction t with
  | nil => simp [tset, tfind]
  | cons p r ih =>
    obtain ⟨j, b⟩ := p
    simp only [tset]
    split
    · simp [tfind]
    · split
      · simp [tfind]
      · rename_i h; simp [tfind, h, ih]

@[simp] theorem tfind_tset_ne (t : Tbl α) {j k : Nat} (a : α) (h : j ≠ k) : tfind (tset t j a) k = tfind t k := by
  induction t with
  | nil => simp [tset, tfind, h]
  | cons p r ih =>
    obtain ⟨i, b⟩ := p
    simp only [tset]
    split
    · simp [tfind, h]
    · split
      · rename_i e; subst e; simp [tfind, h]
      · simp [tfind, ih]

@[simp] theorem tget_tset_same (t : Tbl α) (k : Nat) (a d : α) : tget (tset t k a) k d = a := by simp [tget]

@[simp] theorem tget_tset_ne (t : Tbl α) {j k : Nat} (a d : α) (h : j ≠ k) : tget (tset t j a) k d = tget t k d := by
  simp [tget, h]

@[simp] theorem tget_tmod_same (t : Tbl α) (k : Nat) (d : α) (f : α → α) : tget (tmod t k d f) k d = f (tget t k d) := by
  simp [tmod]

@[simp] theorem tget_tmod_ne (t : Tbl α) {j k : Nat} (d : α) (f : α → α) (h : j ≠ k) :
    tget (tmod t j d f) k d = tget t k d := by simp [tmod, h]

@[simp] theorem tmem_tset_same (t : Tbl α) (k : Nat) (a : α) : tmem (tset t k a) k = true := by simp [tmem]

theorem tfind_tupd_same (t : Tbl α) (k : Nat) (f : α → α) : tfind (tupd t k f) k = (tfind t k).map f := by
  induction t with
  | nil => rfl
  | cons p r ih =>
    obtain ⟨j, b⟩ := p
    rw [tupd] at ih
    by_cases h : j = k
    · simp [tupd, tfind, h]
    · simpa [tupd, tfind, h] using ih

theorem tfind_tupd_ne (t : Tbl α) {j k : Nat} (f : α → α) (h : j ≠ k) : tfind (tupd t j f) k = tfind t k := by
  induction t with
  | nil => rfl
  | cons p r ih =>
    obtain ⟨i, b⟩ := p
    rw [tupd] at ih
    by_cases hi : i = j
    · subst hi; simpa [tupd, tfind, h] using ih
    · by_cases hk : i = k
      · subst hk; simp [tupd, tfind, hi]
      · simpa [tupd, tfind, hi, hk] using ih

theorem tfind_terase_same (t : Tbl α) (k : Nat) : tfind (terase t k) k = none := by
  induction t with
  | nil => rfl
  | cons p r ih =>
    obtain ⟨j, b⟩ := p
    by_cases h : j = k
    · simpa [terase, List.filter_cons, h] using ih
    · simpa [terase, List.filter_cons, h, tfind] using ih

/-- A rising table stays one when an entry is set. -/
theorem twf_tset (t : Tbl α) (k : Nat) (a : α) (h : twf t = true) : twf (tset t k a) = true := by
  induction t with
  | nil => rfl
  | cons p r ih =>
    obtain ⟨j, b⟩ := p
    simp only [tset]
    split
    · rename_i hk; simp [twf, hk, h]
    · split
      · rename_i e; subst e
        cases r with
        | nil => rfl
        | cons q r => simpa [twf] using h
      · rename_i h1 h2
        have hjk : j < k := by omega
        cases r with
        | nil => simp [tset, twf, hjk]
        | cons q r =>
          obtain ⟨i, c⟩ := q
          simp only [twf, Bool.and_eq_true, decide_eq_true_eq] at h
          have := ih h.2
          simp only [tset] at this ⊢
          split
          · rename_i hki; simp only [hki, if_true] at this; simp [twf, hjk, hki]; simpa [twf, hki] using this
          · split
            · rename_i hki e; subst e; simp only [hki, if_true, if_false] at this; simp [twf, h.1]; simpa using this
            · rename_i hki e; simp only [hki, e, if_false] at this; simp [twf, h.1]; simpa using this

end Sys2Proof.Machine
end

