-- ==== Sys2Proof/Laws/State.lean ====
section
/-! SUPPORT. What each named update of one field of State leaves alone: every other field, each by rfl. -/

namespace Sys2Proof.Machine

variable (s : State)

@[simp] theorem State.modPage_now (tag : Nat) (f : Page → Page) : (s.modPage tag f).now = s.now := rfl
@[simp] theorem State.modPage_man (tag : Nat) (f : Page → Page) : (s.modPage tag f).man = s.man := rfl
@[simp] theorem State.modPage_ins (tag : Nat) (f : Page → Page) : (s.modPage tag f).ins = s.ins := rfl
@[simp] theorem State.modPage_cap (tag : Nat) (f : Page → Page) : (s.modPage tag f).cap = s.cap := rfl
@[simp] theorem State.modPage_mem (tag : Nat) (f : Page → Page) : (s.modPage tag f).mem = s.mem := rfl
@[simp] theorem State.modPage_lane (tag : Nat) (f : Page → Page) : (s.modPage tag f).lane = s.lane := rfl
@[simp] theorem State.modPage_sea (tag : Nat) (f : Page → Page) : (s.modPage tag f).sea = s.sea := rfl
@[simp] theorem State.modPage_fare (tag : Nat) (f : Page → Page) : (s.modPage tag f).fare = s.fare := rfl
@[simp] theorem State.modPage_cart (tag : Nat) (f : Page → Page) : (s.modPage tag f).cart = s.cart := rfl
@[simp] theorem State.modPage_tim (tag : Nat) (f : Page → Page) : (s.modPage tag f).tim = s.tim := rfl
@[simp] theorem State.modPage_aud (tag : Nat) (f : Page → Page) : (s.modPage tag f).aud = s.aud := rfl
@[simp] theorem State.modPage_net (tag : Nat) (f : Page → Page) : (s.modPage tag f).net = s.net := rfl
@[simp] theorem State.modPage_isl (tag : Nat) (f : Page → Page) : (s.modPage tag f).isl = s.isl := rfl
@[simp] theorem State.modPage_sec (tag : Nat) (f : Page → Page) : (s.modPage tag f).sec = s.sec := rfl
@[simp] theorem State.modPage_stat (tag : Nat) (f : Page → Page) : (s.modPage tag f).stat = s.stat := rfl
@[simp] theorem State.modPage_test (tag : Nat) (f : Page → Page) : (s.modPage tag f).test = s.test := rfl
@[simp] theorem State.modPage_evt (tag : Nat) (f : Page → Page) : (s.modPage tag f).evt = s.evt := rfl
@[simp] theorem State.modPage_lcy (tag : Nat) (f : Page → Page) : (s.modPage tag f).lcy = s.lcy := rfl
@[simp] theorem State.modPage_out (tag : Nat) (f : Page → Page) : (s.modPage tag f).out = s.out := rfl
@[simp] theorem State.modPage_freeCtr (tag : Nat) (f : Page → Page) : (s.modPage tag f).freeCtr = s.freeCtr := rfl
@[simp] theorem State.modPage_pending (tag : Nat) (f : Page → Page) : (s.modPage tag f).pending = s.pending := rfl
@[simp] theorem State.modRec_now (tag : Nat) (f : CmdRec → CmdRec) : (s.modRec tag f).now = s.now := rfl
@[simp] theorem State.modRec_man (tag : Nat) (f : CmdRec → CmdRec) : (s.modRec tag f).man = s.man := rfl
@[simp] theorem State.modRec_ins (tag : Nat) (f : CmdRec → CmdRec) : (s.modRec tag f).ins = s.ins := rfl
@[simp] theorem State.modRec_cap (tag : Nat) (f : CmdRec → CmdRec) : (s.modRec tag f).cap = s.cap := rfl
@[simp] theorem State.modRec_mem (tag : Nat) (f : CmdRec → CmdRec) : (s.modRec tag f).mem = s.mem := rfl
@[simp] theorem State.modRec_lane (tag : Nat) (f : CmdRec → CmdRec) : (s.modRec tag f).lane = s.lane := rfl
@[simp] theorem State.modRec_sea (tag : Nat) (f : CmdRec → CmdRec) : (s.modRec tag f).sea = s.sea := rfl
@[simp] theorem State.modRec_fare (tag : Nat) (f : CmdRec → CmdRec) : (s.modRec tag f).fare = s.fare := rfl
@[simp] theorem State.modRec_cart (tag : Nat) (f : CmdRec → CmdRec) : (s.modRec tag f).cart = s.cart := rfl
@[simp] theorem State.modRec_tim (tag : Nat) (f : CmdRec → CmdRec) : (s.modRec tag f).tim = s.tim := rfl
@[simp] theorem State.modRec_aud (tag : Nat) (f : CmdRec → CmdRec) : (s.modRec tag f).aud = s.aud := rfl
@[simp] theorem State.modRec_net (tag : Nat) (f : CmdRec → CmdRec) : (s.modRec tag f).net = s.net := rfl
@[simp] theorem State.modRec_isl (tag : Nat) (f : CmdRec → CmdRec) : (s.modRec tag f).isl = s.isl := rfl
@[simp] theorem State.modRec_sec (tag : Nat) (f : CmdRec → CmdRec) : (s.modRec tag f).sec = s.sec := rfl
@[simp] theorem State.modRec_stat (tag : Nat) (f : CmdRec → CmdRec) : (s.modRec tag f).stat = s.stat := rfl
@[simp] theorem State.modRec_test (tag : Nat) (f : CmdRec → CmdRec) : (s.modRec tag f).test = s.test := rfl
@[simp] theorem State.modRec_evt (tag : Nat) (f : CmdRec → CmdRec) : (s.modRec tag f).evt = s.evt := rfl
@[simp] theorem State.modRec_lcy (tag : Nat) (f : CmdRec → CmdRec) : (s.modRec tag f).lcy = s.lcy := rfl
@[simp] theorem State.modRec_out (tag : Nat) (f : CmdRec → CmdRec) : (s.modRec tag f).out = s.out := rfl
@[simp] theorem State.modRec_freeCtr (tag : Nat) (f : CmdRec → CmdRec) : (s.modRec tag f).freeCtr = s.freeCtr := rfl
@[simp] theorem State.modRec_pending (tag : Nat) (f : CmdRec → CmdRec) : (s.modRec tag f).pending = s.pending := rfl
@[simp] theorem State.modMbx_now (f : Mbx → Mbx) : (s.modMbx f).now = s.now := rfl
@[simp] theorem State.modMbx_man (f : Mbx → Mbx) : (s.modMbx f).man = s.man := rfl
@[simp] theorem State.modMbx_ins (f : Mbx → Mbx) : (s.modMbx f).ins = s.ins := rfl
@[simp] theorem State.modMbx_cap (f : Mbx → Mbx) : (s.modMbx f).cap = s.cap := rfl
@[simp] theorem State.modMbx_mem (f : Mbx → Mbx) : (s.modMbx f).mem = s.mem := rfl
@[simp] theorem State.modMbx_lane (f : Mbx → Mbx) : (s.modMbx f).lane = s.lane := rfl
@[simp] theorem State.modMbx_sea (f : Mbx → Mbx) : (s.modMbx f).sea = s.sea := rfl
@[simp] theorem State.modMbx_fare (f : Mbx → Mbx) : (s.modMbx f).fare = s.fare := rfl
@[simp] theorem State.modMbx_cart (f : Mbx → Mbx) : (s.modMbx f).cart = s.cart := rfl
@[simp] theorem State.modMbx_tim (f : Mbx → Mbx) : (s.modMbx f).tim = s.tim := rfl
@[simp] theorem State.modMbx_aud (f : Mbx → Mbx) : (s.modMbx f).aud = s.aud := rfl
@[simp] theorem State.modMbx_net (f : Mbx → Mbx) : (s.modMbx f).net = s.net := rfl
@[simp] theorem State.modMbx_isl (f : Mbx → Mbx) : (s.modMbx f).isl = s.isl := rfl
@[simp] theorem State.modMbx_sec (f : Mbx → Mbx) : (s.modMbx f).sec = s.sec := rfl
@[simp] theorem State.modMbx_stat (f : Mbx → Mbx) : (s.modMbx f).stat = s.stat := rfl
@[simp] theorem State.modMbx_test (f : Mbx → Mbx) : (s.modMbx f).test = s.test := rfl
@[simp] theorem State.modMbx_evt (f : Mbx → Mbx) : (s.modMbx f).evt = s.evt := rfl
@[simp] theorem State.modMbx_lcy (f : Mbx → Mbx) : (s.modMbx f).lcy = s.lcy := rfl
@[simp] theorem State.modMbx_out (f : Mbx → Mbx) : (s.modMbx f).out = s.out := rfl
@[simp] theorem State.modMbx_freeCtr (f : Mbx → Mbx) : (s.modMbx f).freeCtr = s.freeCtr := rfl
@[simp] theorem State.modMbx_pending (f : Mbx → Mbx) : (s.modMbx f).pending = s.pending := rfl
@[simp] theorem State.modInst_now (tag : Nat) (f : Inst → Inst) : (s.modInst tag f).now = s.now := rfl
@[simp] theorem State.modInst_mbx (tag : Nat) (f : Inst → Inst) : (s.modInst tag f).mbx = s.mbx := rfl
@[simp] theorem State.modInst_man (tag : Nat) (f : Inst → Inst) : (s.modInst tag f).man = s.man := rfl
@[simp] theorem State.modInst_cap (tag : Nat) (f : Inst → Inst) : (s.modInst tag f).cap = s.cap := rfl
@[simp] theorem State.modInst_mem (tag : Nat) (f : Inst → Inst) : (s.modInst tag f).mem = s.mem := rfl
@[simp] theorem State.modInst_lane (tag : Nat) (f : Inst → Inst) : (s.modInst tag f).lane = s.lane := rfl
@[simp] theorem State.modInst_sea (tag : Nat) (f : Inst → Inst) : (s.modInst tag f).sea = s.sea := rfl
@[simp] theorem State.modInst_fare (tag : Nat) (f : Inst → Inst) : (s.modInst tag f).fare = s.fare := rfl
@[simp] theorem State.modInst_cart (tag : Nat) (f : Inst → Inst) : (s.modInst tag f).cart = s.cart := rfl
@[simp] theorem State.modInst_tim (tag : Nat) (f : Inst → Inst) : (s.modInst tag f).tim = s.tim := rfl
@[simp] theorem State.modInst_aud (tag : Nat) (f : Inst → Inst) : (s.modInst tag f).aud = s.aud := rfl
@[simp] theorem State.modInst_net (tag : Nat) (f : Inst → Inst) : (s.modInst tag f).net = s.net := rfl
@[simp] theorem State.modInst_isl (tag : Nat) (f : Inst → Inst) : (s.modInst tag f).isl = s.isl := rfl
@[simp] theorem State.modInst_sec (tag : Nat) (f : Inst → Inst) : (s.modInst tag f).sec = s.sec := rfl
@[simp] theorem State.modInst_stat (tag : Nat) (f : Inst → Inst) : (s.modInst tag f).stat = s.stat := rfl
@[simp] theorem State.modInst_test (tag : Nat) (f : Inst → Inst) : (s.modInst tag f).test = s.test := rfl
@[simp] theorem State.modInst_evt (tag : Nat) (f : Inst → Inst) : (s.modInst tag f).evt = s.evt := rfl
@[simp] theorem State.modInst_lcy (tag : Nat) (f : Inst → Inst) : (s.modInst tag f).lcy = s.lcy := rfl
@[simp] theorem State.modInst_out (tag : Nat) (f : Inst → Inst) : (s.modInst tag f).out = s.out := rfl
@[simp] theorem State.modInst_freeCtr (tag : Nat) (f : Inst → Inst) : (s.modInst tag f).freeCtr = s.freeCtr := rfl
@[simp] theorem State.modInst_pending (tag : Nat) (f : Inst → Inst) : (s.modInst tag f).pending = s.pending := rfl
@[simp] theorem State.modFunc_now (fn : Nat) (f : Func → Func) : (s.modFunc fn f).now = s.now := rfl
@[simp] theorem State.modFunc_mbx (fn : Nat) (f : Func → Func) : (s.modFunc fn f).mbx = s.mbx := rfl
@[simp] theorem State.modFunc_man (fn : Nat) (f : Func → Func) : (s.modFunc fn f).man = s.man := rfl
@[simp] theorem State.modFunc_cap (fn : Nat) (f : Func → Func) : (s.modFunc fn f).cap = s.cap := rfl
@[simp] theorem State.modFunc_mem (fn : Nat) (f : Func → Func) : (s.modFunc fn f).mem = s.mem := rfl
@[simp] theorem State.modFunc_lane (fn : Nat) (f : Func → Func) : (s.modFunc fn f).lane = s.lane := rfl
@[simp] theorem State.modFunc_sea (fn : Nat) (f : Func → Func) : (s.modFunc fn f).sea = s.sea := rfl
@[simp] theorem State.modFunc_fare (fn : Nat) (f : Func → Func) : (s.modFunc fn f).fare = s.fare := rfl
@[simp] theorem State.modFunc_cart (fn : Nat) (f : Func → Func) : (s.modFunc fn f).cart = s.cart := rfl
@[simp] theorem State.modFunc_tim (fn : Nat) (f : Func → Func) : (s.modFunc fn f).tim = s.tim := rfl
@[simp] theorem State.modFunc_aud (fn : Nat) (f : Func → Func) : (s.modFunc fn f).aud = s.aud := rfl
@[simp] theorem State.modFunc_net (fn : Nat) (f : Func → Func) : (s.modFunc fn f).net = s.net := rfl
@[simp] theorem State.modFunc_isl (fn : Nat) (f : Func → Func) : (s.modFunc fn f).isl = s.isl := rfl
@[simp] theorem State.modFunc_sec (fn : Nat) (f : Func → Func) : (s.modFunc fn f).sec = s.sec := rfl
@[simp] theorem State.modFunc_stat (fn : Nat) (f : Func → Func) : (s.modFunc fn f).stat = s.stat := rfl
@[simp] theorem State.modFunc_test (fn : Nat) (f : Func → Func) : (s.modFunc fn f).test = s.test := rfl
@[simp] theorem State.modFunc_evt (fn : Nat) (f : Func → Func) : (s.modFunc fn f).evt = s.evt := rfl
@[simp] theorem State.modFunc_lcy (fn : Nat) (f : Func → Func) : (s.modFunc fn f).lcy = s.lcy := rfl
@[simp] theorem State.modFunc_out (fn : Nat) (f : Func → Func) : (s.modFunc fn f).out = s.out := rfl
@[simp] theorem State.modFunc_freeCtr (fn : Nat) (f : Func → Func) : (s.modFunc fn f).freeCtr = s.freeCtr := rfl
@[simp] theorem State.modFunc_pending (fn : Nat) (f : Func → Func) : (s.modFunc fn f).pending = s.pending := rfl
@[simp] theorem State.modQp_now (tag q : Nat) (f : Qp → Qp) : (s.modQp tag q f).now = s.now := rfl
@[simp] theorem State.modQp_mbx (tag q : Nat) (f : Qp → Qp) : (s.modQp tag q f).mbx = s.mbx := rfl
@[simp] theorem State.modQp_man (tag q : Nat) (f : Qp → Qp) : (s.modQp tag q f).man = s.man := rfl
@[simp] theorem State.modQp_cap (tag q : Nat) (f : Qp → Qp) : (s.modQp tag q f).cap = s.cap := rfl
@[simp] theorem State.modQp_mem (tag q : Nat) (f : Qp → Qp) : (s.modQp tag q f).mem = s.mem := rfl
@[simp] theorem State.modQp_lane (tag q : Nat) (f : Qp → Qp) : (s.modQp tag q f).lane = s.lane := rfl
@[simp] theorem State.modQp_sea (tag q : Nat) (f : Qp → Qp) : (s.modQp tag q f).sea = s.sea := rfl
@[simp] theorem State.modQp_fare (tag q : Nat) (f : Qp → Qp) : (s.modQp tag q f).fare = s.fare := rfl
@[simp] theorem State.modQp_cart (tag q : Nat) (f : Qp → Qp) : (s.modQp tag q f).cart = s.cart := rfl
@[simp] theorem State.modQp_tim (tag q : Nat) (f : Qp → Qp) : (s.modQp tag q f).tim = s.tim := rfl
@[simp] theorem State.modQp_aud (tag q : Nat) (f : Qp → Qp) : (s.modQp tag q f).aud = s.aud := rfl
@[simp] theorem State.modQp_net (tag q : Nat) (f : Qp → Qp) : (s.modQp tag q f).net = s.net := rfl
@[simp] theorem State.modQp_isl (tag q : Nat) (f : Qp → Qp) : (s.modQp tag q f).isl = s.isl := rfl
@[simp] theorem State.modQp_sec (tag q : Nat) (f : Qp → Qp) : (s.modQp tag q f).sec = s.sec := rfl
@[simp] theorem State.modQp_stat (tag q : Nat) (f : Qp → Qp) : (s.modQp tag q f).stat = s.stat := rfl
@[simp] theorem State.modQp_test (tag q : Nat) (f : Qp → Qp) : (s.modQp tag q f).test = s.test := rfl
@[simp] theorem State.modQp_evt (tag q : Nat) (f : Qp → Qp) : (s.modQp tag q f).evt = s.evt := rfl
@[simp] theorem State.modQp_lcy (tag q : Nat) (f : Qp → Qp) : (s.modQp tag q f).lcy = s.lcy := rfl
@[simp] theorem State.modQp_out (tag q : Nat) (f : Qp → Qp) : (s.modQp tag q f).out = s.out := rfl
@[simp] theorem State.modQp_freeCtr (tag q : Nat) (f : Qp → Qp) : (s.modQp tag q f).freeCtr = s.freeCtr := rfl
@[simp] theorem State.modQp_pending (tag q : Nat) (f : Qp → Qp) : (s.modQp tag q f).pending = s.pending := rfl
@[simp] theorem State.modCfg_now (f : Cfg → Cfg) : (s.modCfg f).now = s.now := rfl
@[simp] theorem State.modCfg_mbx (f : Cfg → Cfg) : (s.modCfg f).mbx = s.mbx := rfl
@[simp] theorem State.modCfg_ins (f : Cfg → Cfg) : (s.modCfg f).ins = s.ins := rfl
@[simp] theorem State.modCfg_cap (f : Cfg → Cfg) : (s.modCfg f).cap = s.cap := rfl
@[simp] theorem State.modCfg_mem (f : Cfg → Cfg) : (s.modCfg f).mem = s.mem := rfl
@[simp] theorem State.modCfg_lane (f : Cfg → Cfg) : (s.modCfg f).lane = s.lane := rfl
@[simp] theorem State.modCfg_sea (f : Cfg → Cfg) : (s.modCfg f).sea = s.sea := rfl
@[simp] theorem State.modCfg_fare (f : Cfg → Cfg) : (s.modCfg f).fare = s.fare := rfl
@[simp] theorem State.modCfg_cart (f : Cfg → Cfg) : (s.modCfg f).cart = s.cart := rfl
@[simp] theorem State.modCfg_tim (f : Cfg → Cfg) : (s.modCfg f).tim = s.tim := rfl
@[simp] theorem State.modCfg_aud (f : Cfg → Cfg) : (s.modCfg f).aud = s.aud := rfl
@[simp] theorem State.modCfg_net (f : Cfg → Cfg) : (s.modCfg f).net = s.net := rfl
@[simp] theorem State.modCfg_isl (f : Cfg → Cfg) : (s.modCfg f).isl = s.isl := rfl
@[simp] theorem State.modCfg_sec (f : Cfg → Cfg) : (s.modCfg f).sec = s.sec := rfl
@[simp] theorem State.modCfg_stat (f : Cfg → Cfg) : (s.modCfg f).stat = s.stat := rfl
@[simp] theorem State.modCfg_test (f : Cfg → Cfg) : (s.modCfg f).test = s.test := rfl
@[simp] theorem State.modCfg_evt (f : Cfg → Cfg) : (s.modCfg f).evt = s.evt := rfl
@[simp] theorem State.modCfg_lcy (f : Cfg → Cfg) : (s.modCfg f).lcy = s.lcy := rfl
@[simp] theorem State.modCfg_out (f : Cfg → Cfg) : (s.modCfg f).out = s.out := rfl
@[simp] theorem State.modCfg_freeCtr (f : Cfg → Cfg) : (s.modCfg f).freeCtr = s.freeCtr := rfl
@[simp] theorem State.modCfg_pending (f : Cfg → Cfg) : (s.modCfg f).pending = s.pending := rfl
@[simp] theorem State.modMan_now (id : Nat) (f : Manifest → Manifest) : (s.modMan id f).now = s.now := rfl
@[simp] theorem State.modMan_mbx (id : Nat) (f : Manifest → Manifest) : (s.modMan id f).mbx = s.mbx := rfl
@[simp] theorem State.modMan_ins (id : Nat) (f : Manifest → Manifest) : (s.modMan id f).ins = s.ins := rfl
@[simp] theorem State.modMan_cap (id : Nat) (f : Manifest → Manifest) : (s.modMan id f).cap = s.cap := rfl
@[simp] theorem State.modMan_mem (id : Nat) (f : Manifest → Manifest) : (s.modMan id f).mem = s.mem := rfl
@[simp] theorem State.modMan_lane (id : Nat) (f : Manifest → Manifest) : (s.modMan id f).lane = s.lane := rfl
@[simp] theorem State.modMan_sea (id : Nat) (f : Manifest → Manifest) : (s.modMan id f).sea = s.sea := rfl
@[simp] theorem State.modMan_fare (id : Nat) (f : Manifest → Manifest) : (s.modMan id f).fare = s.fare := rfl
@[simp] theorem State.modMan_cart (id : Nat) (f : Manifest → Manifest) : (s.modMan id f).cart = s.cart := rfl
@[simp] theorem State.modMan_tim (id : Nat) (f : Manifest → Manifest) : (s.modMan id f).tim = s.tim := rfl
@[simp] theorem State.modMan_aud (id : Nat) (f : Manifest → Manifest) : (s.modMan id f).aud = s.aud := rfl
@[simp] theorem State.modMan_net (id : Nat) (f : Manifest → Manifest) : (s.modMan id f).net = s.net := rfl
@[simp] theorem State.modMan_isl (id : Nat) (f : Manifest → Manifest) : (s.modMan id f).isl = s.isl := rfl
@[simp] theorem State.modMan_sec (id : Nat) (f : Manifest → Manifest) : (s.modMan id f).sec = s.sec := rfl
@[simp] theorem State.modMan_stat (id : Nat) (f : Manifest → Manifest) : (s.modMan id f).stat = s.stat := rfl
@[simp] theorem State.modMan_test (id : Nat) (f : Manifest → Manifest) : (s.modMan id f).test = s.test := rfl
@[simp] theorem State.modMan_evt (id : Nat) (f : Manifest → Manifest) : (s.modMan id f).evt = s.evt := rfl
@[simp] theorem State.modMan_lcy (id : Nat) (f : Manifest → Manifest) : (s.modMan id f).lcy = s.lcy := rfl
@[simp] theorem State.modMan_out (id : Nat) (f : Manifest → Manifest) : (s.modMan id f).out = s.out := rfl
@[simp] theorem State.modMan_freeCtr (id : Nat) (f : Manifest → Manifest) : (s.modMan id f).freeCtr = s.freeCtr := rfl
@[simp] theorem State.modMan_pending (id : Nat) (f : Manifest → Manifest) : (s.modMan id f).pending = s.pending := rfl
@[simp] theorem State.setObj_now (n : Nat) (o : Obj) : (s.setObj n o).now = s.now := rfl
@[simp] theorem State.setObj_mbx (n : Nat) (o : Obj) : (s.setObj n o).mbx = s.mbx := rfl
@[simp] theorem State.setObj_man (n : Nat) (o : Obj) : (s.setObj n o).man = s.man := rfl
@[simp] theorem State.setObj_ins (n : Nat) (o : Obj) : (s.setObj n o).ins = s.ins := rfl
@[simp] theorem State.setObj_mem (n : Nat) (o : Obj) : (s.setObj n o).mem = s.mem := rfl
@[simp] theorem State.setObj_lane (n : Nat) (o : Obj) : (s.setObj n o).lane = s.lane := rfl
@[simp] theorem State.setObj_sea (n : Nat) (o : Obj) : (s.setObj n o).sea = s.sea := rfl
@[simp] theorem State.setObj_fare (n : Nat) (o : Obj) : (s.setObj n o).fare = s.fare := rfl
@[simp] theorem State.setObj_cart (n : Nat) (o : Obj) : (s.setObj n o).cart = s.cart := rfl
@[simp] theorem State.setObj_tim (n : Nat) (o : Obj) : (s.setObj n o).tim = s.tim := rfl
@[simp] theorem State.setObj_aud (n : Nat) (o : Obj) : (s.setObj n o).aud = s.aud := rfl
@[simp] theorem State.setObj_net (n : Nat) (o : Obj) : (s.setObj n o).net = s.net := rfl
@[simp] theorem State.setObj_isl (n : Nat) (o : Obj) : (s.setObj n o).isl = s.isl := rfl
@[simp] theorem State.setObj_sec (n : Nat) (o : Obj) : (s.setObj n o).sec = s.sec := rfl
@[simp] theorem State.setObj_stat (n : Nat) (o : Obj) : (s.setObj n o).stat = s.stat := rfl
@[simp] theorem State.setObj_test (n : Nat) (o : Obj) : (s.setObj n o).test = s.test := rfl
@[simp] theorem State.setObj_evt (n : Nat) (o : Obj) : (s.setObj n o).evt = s.evt := rfl
@[simp] theorem State.setObj_lcy (n : Nat) (o : Obj) : (s.setObj n o).lcy = s.lcy := rfl
@[simp] theorem State.setObj_out (n : Nat) (o : Obj) : (s.setObj n o).out = s.out := rfl
@[simp] theorem State.setObj_freeCtr (n : Nat) (o : Obj) : (s.setObj n o).freeCtr = s.freeCtr := rfl
@[simp] theorem State.setObj_pending (n : Nat) (o : Obj) : (s.setObj n o).pending = s.pending := rfl
@[simp] theorem State.modFare_now (f : Fare → Fare) : (s.modFare f).now = s.now := rfl
@[simp] theorem State.modFare_mbx (f : Fare → Fare) : (s.modFare f).mbx = s.mbx := rfl
@[simp] theorem State.modFare_man (f : Fare → Fare) : (s.modFare f).man = s.man := rfl
@[simp] theorem State.modFare_ins (f : Fare → Fare) : (s.modFare f).ins = s.ins := rfl
@[simp] theorem State.modFare_cap (f : Fare → Fare) : (s.modFare f).cap = s.cap := rfl
@[simp] theorem State.modFare_mem (f : Fare → Fare) : (s.modFare f).mem = s.mem := rfl
@[simp] theorem State.modFare_lane (f : Fare → Fare) : (s.modFare f).lane = s.lane := rfl
@[simp] theorem State.modFare_sea (f : Fare → Fare) : (s.modFare f).sea = s.sea := rfl
@[simp] theorem State.modFare_cart (f : Fare → Fare) : (s.modFare f).cart = s.cart := rfl
@[simp] theorem State.modFare_tim (f : Fare → Fare) : (s.modFare f).tim = s.tim := rfl
@[simp] theorem State.modFare_aud (f : Fare → Fare) : (s.modFare f).aud = s.aud := rfl
@[simp] theorem State.modFare_net (f : Fare → Fare) : (s.modFare f).net = s.net := rfl
@[simp] theorem State.modFare_isl (f : Fare → Fare) : (s.modFare f).isl = s.isl := rfl
@[simp] theorem State.modFare_sec (f : Fare → Fare) : (s.modFare f).sec = s.sec := rfl
@[simp] theorem State.modFare_stat (f : Fare → Fare) : (s.modFare f).stat = s.stat := rfl
@[simp] theorem State.modFare_test (f : Fare → Fare) : (s.modFare f).test = s.test := rfl
@[simp] theorem State.modFare_evt (f : Fare → Fare) : (s.modFare f).evt = s.evt := rfl
@[simp] theorem State.modFare_lcy (f : Fare → Fare) : (s.modFare f).lcy = s.lcy := rfl
@[simp] theorem State.modFare_out (f : Fare → Fare) : (s.modFare f).out = s.out := rfl
@[simp] theorem State.modFare_freeCtr (f : Fare → Fare) : (s.modFare f).freeCtr = s.freeCtr := rfl
@[simp] theorem State.modFare_pending (f : Fare → Fare) : (s.modFare f).pending = s.pending := rfl
@[simp] theorem State.modSes_now (lane : Nat) (f : Session → Session) : (s.modSes lane f).now = s.now := rfl
@[simp] theorem State.modSes_mbx (lane : Nat) (f : Session → Session) : (s.modSes lane f).mbx = s.mbx := rfl
@[simp] theorem State.modSes_man (lane : Nat) (f : Session → Session) : (s.modSes lane f).man = s.man := rfl
@[simp] theorem State.modSes_ins (lane : Nat) (f : Session → Session) : (s.modSes lane f).ins = s.ins := rfl
@[simp] theorem State.modSes_cap (lane : Nat) (f : Session → Session) : (s.modSes lane f).cap = s.cap := rfl
@[simp] theorem State.modSes_mem (lane : Nat) (f : Session → Session) : (s.modSes lane f).mem = s.mem := rfl
@[simp] theorem State.modSes_lane (lane : Nat) (f : Session → Session) : (s.modSes lane f).lane = s.lane := rfl
@[simp] theorem State.modSes_sea (lane : Nat) (f : Session → Session) : (s.modSes lane f).sea = s.sea := rfl
@[simp] theorem State.modSes_cart (lane : Nat) (f : Session → Session) : (s.modSes lane f).cart = s.cart := rfl
@[simp] theorem State.modSes_tim (lane : Nat) (f : Session → Session) : (s.modSes lane f).tim = s.tim := rfl
@[simp] theorem State.modSes_aud (lane : Nat) (f : Session → Session) : (s.modSes lane f).aud = s.aud := rfl
@[simp] theorem State.modSes_net (lane : Nat) (f : Session → Session) : (s.modSes lane f).net = s.net := rfl
@[simp] theorem State.modSes_isl (lane : Nat) (f : Session → Session) : (s.modSes lane f).isl = s.isl := rfl
@[simp] theorem State.modSes_sec (lane : Nat) (f : Session → Session) : (s.modSes lane f).sec = s.sec := rfl
@[simp] theorem State.modSes_stat (lane : Nat) (f : Session → Session) : (s.modSes lane f).stat = s.stat := rfl
@[simp] theorem State.modSes_test (lane : Nat) (f : Session → Session) : (s.modSes lane f).test = s.test := rfl
@[simp] theorem State.modSes_evt (lane : Nat) (f : Session → Session) : (s.modSes lane f).evt = s.evt := rfl
@[simp] theorem State.modSes_lcy (lane : Nat) (f : Session → Session) : (s.modSes lane f).lcy = s.lcy := rfl
@[simp] theorem State.modSes_out (lane : Nat) (f : Session → Session) : (s.modSes lane f).out = s.out := rfl
@[simp] theorem State.modSes_freeCtr (lane : Nat) (f : Session → Session) : (s.modSes lane f).freeCtr = s.freeCtr := rfl
@[simp] theorem State.modSes_pending (lane : Nat) (f : Session → Session) : (s.modSes lane f).pending = s.pending := rfl
@[simp] theorem State.modSeg_now (n : Nat) (f : Seg → Seg) : (s.modSeg n f).now = s.now := rfl
@[simp] theorem State.modSeg_mbx (n : Nat) (f : Seg → Seg) : (s.modSeg n f).mbx = s.mbx := rfl
@[simp] theorem State.modSeg_man (n : Nat) (f : Seg → Seg) : (s.modSeg n f).man = s.man := rfl
@[simp] theorem State.modSeg_ins (n : Nat) (f : Seg → Seg) : (s.modSeg n f).ins = s.ins := rfl
@[simp] theorem State.modSeg_cap (n : Nat) (f : Seg → Seg) : (s.modSeg n f).cap = s.cap := rfl
@[simp] theorem State.modSeg_mem (n : Nat) (f : Seg → Seg) : (s.modSeg n f).mem = s.mem := rfl
@[simp] theorem State.modSeg_sea (n : Nat) (f : Seg → Seg) : (s.modSeg n f).sea = s.sea := rfl
@[simp] theorem State.modSeg_fare (n : Nat) (f : Seg → Seg) : (s.modSeg n f).fare = s.fare := rfl
@[simp] theorem State.modSeg_cart (n : Nat) (f : Seg → Seg) : (s.modSeg n f).cart = s.cart := rfl
@[simp] theorem State.modSeg_tim (n : Nat) (f : Seg → Seg) : (s.modSeg n f).tim = s.tim := rfl
@[simp] theorem State.modSeg_aud (n : Nat) (f : Seg → Seg) : (s.modSeg n f).aud = s.aud := rfl
@[simp] theorem State.modSeg_net (n : Nat) (f : Seg → Seg) : (s.modSeg n f).net = s.net := rfl
@[simp] theorem State.modSeg_isl (n : Nat) (f : Seg → Seg) : (s.modSeg n f).isl = s.isl := rfl
@[simp] theorem State.modSeg_sec (n : Nat) (f : Seg → Seg) : (s.modSeg n f).sec = s.sec := rfl
@[simp] theorem State.modSeg_stat (n : Nat) (f : Seg → Seg) : (s.modSeg n f).stat = s.stat := rfl
@[simp] theorem State.modSeg_test (n : Nat) (f : Seg → Seg) : (s.modSeg n f).test = s.test := rfl
@[simp] theorem State.modSeg_evt (n : Nat) (f : Seg → Seg) : (s.modSeg n f).evt = s.evt := rfl
@[simp] theorem State.modSeg_lcy (n : Nat) (f : Seg → Seg) : (s.modSeg n f).lcy = s.lcy := rfl
@[simp] theorem State.modSeg_out (n : Nat) (f : Seg → Seg) : (s.modSeg n f).out = s.out := rfl
@[simp] theorem State.modSeg_freeCtr (n : Nat) (f : Seg → Seg) : (s.modSeg n f).freeCtr = s.freeCtr := rfl
@[simp] theorem State.modSeg_pending (n : Nat) (f : Seg → Seg) : (s.modSeg n f).pending = s.pending := rfl
@[simp] theorem State.modUnit_now (lane : Nat) (f : LaneUnit → LaneUnit) : (s.modUnit lane f).now = s.now := rfl
@[simp] theorem State.modUnit_mbx (lane : Nat) (f : LaneUnit → LaneUnit) : (s.modUnit lane f).mbx = s.mbx := rfl
@[simp] theorem State.modUnit_man (lane : Nat) (f : LaneUnit → LaneUnit) : (s.modUnit lane f).man = s.man := rfl
@[simp] theorem State.modUnit_ins (lane : Nat) (f : LaneUnit → LaneUnit) : (s.modUnit lane f).ins = s.ins := rfl
@[simp] theorem State.modUnit_cap (lane : Nat) (f : LaneUnit → LaneUnit) : (s.modUnit lane f).cap = s.cap := rfl
@[simp] theorem State.modUnit_mem (lane : Nat) (f : LaneUnit → LaneUnit) : (s.modUnit lane f).mem = s.mem := rfl
@[simp] theorem State.modUnit_sea (lane : Nat) (f : LaneUnit → LaneUnit) : (s.modUnit lane f).sea = s.sea := rfl
@[simp] theorem State.modUnit_fare (lane : Nat) (f : LaneUnit → LaneUnit) : (s.modUnit lane f).fare = s.fare := rfl
@[simp] theorem State.modUnit_cart (lane : Nat) (f : LaneUnit → LaneUnit) : (s.modUnit lane f).cart = s.cart := rfl
@[simp] theorem State.modUnit_tim (lane : Nat) (f : LaneUnit → LaneUnit) : (s.modUnit lane f).tim = s.tim := rfl
@[simp] theorem State.modUnit_aud (lane : Nat) (f : LaneUnit → LaneUnit) : (s.modUnit lane f).aud = s.aud := rfl
@[simp] theorem State.modUnit_net (lane : Nat) (f : LaneUnit → LaneUnit) : (s.modUnit lane f).net = s.net := rfl
@[simp] theorem State.modUnit_isl (lane : Nat) (f : LaneUnit → LaneUnit) : (s.modUnit lane f).isl = s.isl := rfl
@[simp] theorem State.modUnit_sec (lane : Nat) (f : LaneUnit → LaneUnit) : (s.modUnit lane f).sec = s.sec := rfl
@[simp] theorem State.modUnit_stat (lane : Nat) (f : LaneUnit → LaneUnit) : (s.modUnit lane f).stat = s.stat := rfl
@[simp] theorem State.modUnit_test (lane : Nat) (f : LaneUnit → LaneUnit) : (s.modUnit lane f).test = s.test := rfl
@[simp] theorem State.modUnit_evt (lane : Nat) (f : LaneUnit → LaneUnit) : (s.modUnit lane f).evt = s.evt := rfl
@[simp] theorem State.modUnit_lcy (lane : Nat) (f : LaneUnit → LaneUnit) : (s.modUnit lane f).lcy = s.lcy := rfl
@[simp] theorem State.modUnit_out (lane : Nat) (f : LaneUnit → LaneUnit) : (s.modUnit lane f).out = s.out := rfl
@[simp] theorem State.modUnit_freeCtr (lane : Nat) (f : LaneUnit → LaneUnit) : (s.modUnit lane f).freeCtr = s.freeCtr := rfl
@[simp] theorem State.modUnit_pending (lane : Nat) (f : LaneUnit → LaneUnit) : (s.modUnit lane f).pending = s.pending := rfl
@[simp] theorem State.modEvq_now (tag : Nat) (f : EvQueue → EvQueue) : (s.modEvq tag f).now = s.now := rfl
@[simp] theorem State.modEvq_mbx (tag : Nat) (f : EvQueue → EvQueue) : (s.modEvq tag f).mbx = s.mbx := rfl
@[simp] theorem State.modEvq_man (tag : Nat) (f : EvQueue → EvQueue) : (s.modEvq tag f).man = s.man := rfl
@[simp] theorem State.modEvq_ins (tag : Nat) (f : EvQueue → EvQueue) : (s.modEvq tag f).ins = s.ins := rfl
@[simp] theorem State.modEvq_cap (tag : Nat) (f : EvQueue → EvQueue) : (s.modEvq tag f).cap = s.cap := rfl
@[simp] theorem State.modEvq_mem (tag : Nat) (f : EvQueue → EvQueue) : (s.modEvq tag f).mem = s.mem := rfl
@[simp] theorem State.modEvq_lane (tag : Nat) (f : EvQueue → EvQueue) : (s.modEvq tag f).lane = s.lane := rfl
@[simp] theorem State.modEvq_sea (tag : Nat) (f : EvQueue → EvQueue) : (s.modEvq tag f).sea = s.sea := rfl
@[simp] theorem State.modEvq_fare (tag : Nat) (f : EvQueue → EvQueue) : (s.modEvq tag f).fare = s.fare := rfl
@[simp] theorem State.modEvq_cart (tag : Nat) (f : EvQueue → EvQueue) : (s.modEvq tag f).cart = s.cart := rfl
@[simp] theorem State.modEvq_tim (tag : Nat) (f : EvQueue → EvQueue) : (s.modEvq tag f).tim = s.tim := rfl
@[simp] theorem State.modEvq_aud (tag : Nat) (f : EvQueue → EvQueue) : (s.modEvq tag f).aud = s.aud := rfl
@[simp] theorem State.modEvq_net (tag : Nat) (f : EvQueue → EvQueue) : (s.modEvq tag f).net = s.net := rfl
@[simp] theorem State.modEvq_isl (tag : Nat) (f : EvQueue → EvQueue) : (s.modEvq tag f).isl = s.isl := rfl
@[simp] theorem State.modEvq_sec (tag : Nat) (f : EvQueue → EvQueue) : (s.modEvq tag f).sec = s.sec := rfl
@[simp] theorem State.modEvq_stat (tag : Nat) (f : EvQueue → EvQueue) : (s.modEvq tag f).stat = s.stat := rfl
@[simp] theorem State.modEvq_test (tag : Nat) (f : EvQueue → EvQueue) : (s.modEvq tag f).test = s.test := rfl
@[simp] theorem State.modEvq_lcy (tag : Nat) (f : EvQueue → EvQueue) : (s.modEvq tag f).lcy = s.lcy := rfl
@[simp] theorem State.modEvq_out (tag : Nat) (f : EvQueue → EvQueue) : (s.modEvq tag f).out = s.out := rfl
@[simp] theorem State.modEvq_freeCtr (tag : Nat) (f : EvQueue → EvQueue) : (s.modEvq tag f).freeCtr = s.freeCtr := rfl
@[simp] theorem State.modEvq_pending (tag : Nat) (f : EvQueue → EvQueue) : (s.modEvq tag f).pending = s.pending := rfl
@[simp] theorem State.modEvt_now (f : Evt → Evt) : (s.modEvt f).now = s.now := rfl
@[simp] theorem State.modEvt_mbx (f : Evt → Evt) : (s.modEvt f).mbx = s.mbx := rfl
@[simp] theorem State.modEvt_man (f : Evt → Evt) : (s.modEvt f).man = s.man := rfl
@[simp] theorem State.modEvt_ins (f : Evt → Evt) : (s.modEvt f).ins = s.ins := rfl
@[simp] theorem State.modEvt_cap (f : Evt → Evt) : (s.modEvt f).cap = s.cap := rfl
@[simp] theorem State.modEvt_mem (f : Evt → Evt) : (s.modEvt f).mem = s.mem := rfl
@[simp] theorem State.modEvt_lane (f : Evt → Evt) : (s.modEvt f).lane = s.lane := rfl
@[simp] theorem State.modEvt_sea (f : Evt → Evt) : (s.modEvt f).sea = s.sea := rfl
@[simp] theorem State.modEvt_fare (f : Evt → Evt) : (s.modEvt f).fare = s.fare := rfl
@[simp] theorem State.modEvt_cart (f : Evt → Evt) : (s.modEvt f).cart = s.cart := rfl
@[simp] theorem State.modEvt_tim (f : Evt → Evt) : (s.modEvt f).tim = s.tim := rfl
@[simp] theorem State.modEvt_aud (f : Evt → Evt) : (s.modEvt f).aud = s.aud := rfl
@[simp] theorem State.modEvt_net (f : Evt → Evt) : (s.modEvt f).net = s.net := rfl
@[simp] theorem State.modEvt_isl (f : Evt → Evt) : (s.modEvt f).isl = s.isl := rfl
@[simp] theorem State.modEvt_sec (f : Evt → Evt) : (s.modEvt f).sec = s.sec := rfl
@[simp] theorem State.modEvt_stat (f : Evt → Evt) : (s.modEvt f).stat = s.stat := rfl
@[simp] theorem State.modEvt_test (f : Evt → Evt) : (s.modEvt f).test = s.test := rfl
@[simp] theorem State.modEvt_lcy (f : Evt → Evt) : (s.modEvt f).lcy = s.lcy := rfl
@[simp] theorem State.modEvt_out (f : Evt → Evt) : (s.modEvt f).out = s.out := rfl
@[simp] theorem State.modEvt_freeCtr (f : Evt → Evt) : (s.modEvt f).freeCtr = s.freeCtr := rfl
@[simp] theorem State.modEvt_pending (f : Evt → Evt) : (s.modEvt f).pending = s.pending := rfl
@[simp] theorem State.modIsland_now (n : Nat) (f : Island → Island) : (s.modIsland n f).now = s.now := rfl
@[simp] theorem State.modIsland_mbx (n : Nat) (f : Island → Island) : (s.modIsland n f).mbx = s.mbx := rfl
@[simp] theorem State.modIsland_man (n : Nat) (f : Island → Island) : (s.modIsland n f).man = s.man := rfl
@[simp] theorem State.modIsland_ins (n : Nat) (f : Island → Island) : (s.modIsland n f).ins = s.ins := rfl
@[simp] theorem State.modIsland_cap (n : Nat) (f : Island → Island) : (s.modIsland n f).cap = s.cap := rfl
@[simp] theorem State.modIsland_mem (n : Nat) (f : Island → Island) : (s.modIsland n f).mem = s.mem := rfl
@[simp] theorem State.modIsland_lane (n : Nat) (f : Island → Island) : (s.modIsland n f).lane = s.lane := rfl
@[simp] theorem State.modIsland_sea (n : Nat) (f : Island → Island) : (s.modIsland n f).sea = s.sea := rfl
@[simp] theorem State.modIsland_fare (n : Nat) (f : Island → Island) : (s.modIsland n f).fare = s.fare := rfl
@[simp] theorem State.modIsland_cart (n : Nat) (f : Island → Island) : (s.modIsland n f).cart = s.cart := rfl
@[simp] theorem State.modIsland_tim (n : Nat) (f : Island → Island) : (s.modIsland n f).tim = s.tim := rfl
@[simp] theorem State.modIsland_aud (n : Nat) (f : Island → Island) : (s.modIsland n f).aud = s.aud := rfl
@[simp] theorem State.modIsland_net (n : Nat) (f : Island → Island) : (s.modIsland n f).net = s.net := rfl
@[simp] theorem State.modIsland_sec (n : Nat) (f : Island → Island) : (s.modIsland n f).sec = s.sec := rfl
@[simp] theorem State.modIsland_stat (n : Nat) (f : Island → Island) : (s.modIsland n f).stat = s.stat := rfl
@[simp] theorem State.modIsland_test (n : Nat) (f : Island → Island) : (s.modIsland n f).test = s.test := rfl
@[simp] theorem State.modIsland_evt (n : Nat) (f : Island → Island) : (s.modIsland n f).evt = s.evt := rfl
@[simp] theorem State.modIsland_lcy (n : Nat) (f : Island → Island) : (s.modIsland n f).lcy = s.lcy := rfl
@[simp] theorem State.modIsland_out (n : Nat) (f : Island → Island) : (s.modIsland n f).out = s.out := rfl
@[simp] theorem State.modIsland_freeCtr (n : Nat) (f : Island → Island) : (s.modIsland n f).freeCtr = s.freeCtr := rfl
@[simp] theorem State.modIsland_pending (n : Nat) (f : Island → Island) : (s.modIsland n f).pending = s.pending := rfl
@[simp] theorem State.modLink_now (die : Nat) (f : DieLink → DieLink) : (s.modLink die f).now = s.now := rfl
@[simp] theorem State.modLink_mbx (die : Nat) (f : DieLink → DieLink) : (s.modLink die f).mbx = s.mbx := rfl
@[simp] theorem State.modLink_man (die : Nat) (f : DieLink → DieLink) : (s.modLink die f).man = s.man := rfl
@[simp] theorem State.modLink_ins (die : Nat) (f : DieLink → DieLink) : (s.modLink die f).ins = s.ins := rfl
@[simp] theorem State.modLink_cap (die : Nat) (f : DieLink → DieLink) : (s.modLink die f).cap = s.cap := rfl
@[simp] theorem State.modLink_mem (die : Nat) (f : DieLink → DieLink) : (s.modLink die f).mem = s.mem := rfl
@[simp] theorem State.modLink_lane (die : Nat) (f : DieLink → DieLink) : (s.modLink die f).lane = s.lane := rfl
@[simp] theorem State.modLink_sea (die : Nat) (f : DieLink → DieLink) : (s.modLink die f).sea = s.sea := rfl
@[simp] theorem State.modLink_fare (die : Nat) (f : DieLink → DieLink) : (s.modLink die f).fare = s.fare := rfl
@[simp] theorem State.modLink_cart (die : Nat) (f : DieLink → DieLink) : (s.modLink die f).cart = s.cart := rfl
@[simp] theorem State.modLink_tim (die : Nat) (f : DieLink → DieLink) : (s.modLink die f).tim = s.tim := rfl
@[simp] theorem State.modLink_aud (die : Nat) (f : DieLink → DieLink) : (s.modLink die f).aud = s.aud := rfl
@[simp] theorem State.modLink_net (die : Nat) (f : DieLink → DieLink) : (s.modLink die f).net = s.net := rfl
@[simp] theorem State.modLink_sec (die : Nat) (f : DieLink → DieLink) : (s.modLink die f).sec = s.sec := rfl
@[simp] theorem State.modLink_stat (die : Nat) (f : DieLink → DieLink) : (s.modLink die f).stat = s.stat := rfl
@[simp] theorem State.modLink_test (die : Nat) (f : DieLink → DieLink) : (s.modLink die f).test = s.test := rfl
@[simp] theorem State.modLink_evt (die : Nat) (f : DieLink → DieLink) : (s.modLink die f).evt = s.evt := rfl
@[simp] theorem State.modLink_lcy (die : Nat) (f : DieLink → DieLink) : (s.modLink die f).lcy = s.lcy := rfl
@[simp] theorem State.modLink_out (die : Nat) (f : DieLink → DieLink) : (s.modLink die f).out = s.out := rfl
@[simp] theorem State.modLink_freeCtr (die : Nat) (f : DieLink → DieLink) : (s.modLink die f).freeCtr = s.freeCtr := rfl
@[simp] theorem State.modLink_pending (die : Nat) (f : DieLink → DieLink) : (s.modLink die f).pending = s.pending := rfl
@[simp] theorem State.modJ_now (n : Nat) (f : JRec → JRec) : (s.modJ n f).now = s.now := rfl
@[simp] theorem State.modJ_mbx (n : Nat) (f : JRec → JRec) : (s.modJ n f).mbx = s.mbx := rfl
@[simp] theorem State.modJ_man (n : Nat) (f : JRec → JRec) : (s.modJ n f).man = s.man := rfl
@[simp] theorem State.modJ_ins (n : Nat) (f : JRec → JRec) : (s.modJ n f).ins = s.ins := rfl
@[simp] theorem State.modJ_cap (n : Nat) (f : JRec → JRec) : (s.modJ n f).cap = s.cap := rfl
@[simp] theorem State.modJ_mem (n : Nat) (f : JRec → JRec) : (s.modJ n f).mem = s.mem := rfl
@[simp] theorem State.modJ_lane (n : Nat) (f : JRec → JRec) : (s.modJ n f).lane = s.lane := rfl
@[simp] theorem State.modJ_sea (n : Nat) (f : JRec → JRec) : (s.modJ n f).sea = s.sea := rfl
@[simp] theorem State.modJ_cart (n : Nat) (f : JRec → JRec) : (s.modJ n f).cart = s.cart := rfl
@[simp] theorem State.modJ_tim (n : Nat) (f : JRec → JRec) : (s.modJ n f).tim = s.tim := rfl
@[simp] theorem State.modJ_aud (n : Nat) (f : JRec → JRec) : (s.modJ n f).aud = s.aud := rfl
@[simp] theorem State.modJ_net (n : Nat) (f : JRec → JRec) : (s.modJ n f).net = s.net := rfl
@[simp] theorem State.modJ_isl (n : Nat) (f : JRec → JRec) : (s.modJ n f).isl = s.isl := rfl
@[simp] theorem State.modJ_sec (n : Nat) (f : JRec → JRec) : (s.modJ n f).sec = s.sec := rfl
@[simp] theorem State.modJ_stat (n : Nat) (f : JRec → JRec) : (s.modJ n f).stat = s.stat := rfl
@[simp] theorem State.modJ_test (n : Nat) (f : JRec → JRec) : (s.modJ n f).test = s.test := rfl
@[simp] theorem State.modJ_evt (n : Nat) (f : JRec → JRec) : (s.modJ n f).evt = s.evt := rfl
@[simp] theorem State.modJ_lcy (n : Nat) (f : JRec → JRec) : (s.modJ n f).lcy = s.lcy := rfl
@[simp] theorem State.modJ_out (n : Nat) (f : JRec → JRec) : (s.modJ n f).out = s.out := rfl
@[simp] theorem State.modJ_freeCtr (n : Nat) (f : JRec → JRec) : (s.modJ n f).freeCtr = s.freeCtr := rfl
@[simp] theorem State.modJ_pending (n : Nat) (f : JRec → JRec) : (s.modJ n f).pending = s.pending := rfl
@[simp] theorem State.modCart_now (n : Nat) (f : CartSlot → CartSlot) : (s.modCart n f).now = s.now := rfl
@[simp] theorem State.modCart_mbx (n : Nat) (f : CartSlot → CartSlot) : (s.modCart n f).mbx = s.mbx := rfl
@[simp] theorem State.modCart_man (n : Nat) (f : CartSlot → CartSlot) : (s.modCart n f).man = s.man := rfl
@[simp] theorem State.modCart_ins (n : Nat) (f : CartSlot → CartSlot) : (s.modCart n f).ins = s.ins := rfl
@[simp] theorem State.modCart_cap (n : Nat) (f : CartSlot → CartSlot) : (s.modCart n f).cap = s.cap := rfl
@[simp] theorem State.modCart_mem (n : Nat) (f : CartSlot → CartSlot) : (s.modCart n f).mem = s.mem := rfl
@[simp] theorem State.modCart_lane (n : Nat) (f : CartSlot → CartSlot) : (s.modCart n f).lane = s.lane := rfl
@[simp] theorem State.modCart_sea (n : Nat) (f : CartSlot → CartSlot) : (s.modCart n f).sea = s.sea := rfl
@[simp] theorem State.modCart_fare (n : Nat) (f : CartSlot → CartSlot) : (s.modCart n f).fare = s.fare := rfl
@[simp] theorem State.modCart_tim (n : Nat) (f : CartSlot → CartSlot) : (s.modCart n f).tim = s.tim := rfl
@[simp] theorem State.modCart_aud (n : Nat) (f : CartSlot → CartSlot) : (s.modCart n f).aud = s.aud := rfl
@[simp] theorem State.modCart_net (n : Nat) (f : CartSlot → CartSlot) : (s.modCart n f).net = s.net := rfl
@[simp] theorem State.modCart_isl (n : Nat) (f : CartSlot → CartSlot) : (s.modCart n f).isl = s.isl := rfl
@[simp] theorem State.modCart_sec (n : Nat) (f : CartSlot → CartSlot) : (s.modCart n f).sec = s.sec := rfl
@[simp] theorem State.modCart_stat (n : Nat) (f : CartSlot → CartSlot) : (s.modCart n f).stat = s.stat := rfl
@[simp] theorem State.modCart_test (n : Nat) (f : CartSlot → CartSlot) : (s.modCart n f).test = s.test := rfl
@[simp] theorem State.modCart_evt (n : Nat) (f : CartSlot → CartSlot) : (s.modCart n f).evt = s.evt := rfl
@[simp] theorem State.modCart_lcy (n : Nat) (f : CartSlot → CartSlot) : (s.modCart n f).lcy = s.lcy := rfl
@[simp] theorem State.modCart_out (n : Nat) (f : CartSlot → CartSlot) : (s.modCart n f).out = s.out := rfl
@[simp] theorem State.modCart_freeCtr (n : Nat) (f : CartSlot → CartSlot) : (s.modCart n f).freeCtr = s.freeCtr := rfl
@[simp] theorem State.modCart_pending (n : Nat) (f : CartSlot → CartSlot) : (s.modCart n f).pending = s.pending := rfl
@[simp] theorem State.setLine_now (k : Nat) (l : Line) : (s.setLine k l).now = s.now := rfl
@[simp] theorem State.setLine_mbx (k : Nat) (l : Line) : (s.setLine k l).mbx = s.mbx := rfl
@[simp] theorem State.setLine_man (k : Nat) (l : Line) : (s.setLine k l).man = s.man := rfl
@[simp] theorem State.setLine_ins (k : Nat) (l : Line) : (s.setLine k l).ins = s.ins := rfl
@[simp] theorem State.setLine_cap (k : Nat) (l : Line) : (s.setLine k l).cap = s.cap := rfl
@[simp] theorem State.setLine_lane (k : Nat) (l : Line) : (s.setLine k l).lane = s.lane := rfl
@[simp] theorem State.setLine_sea (k : Nat) (l : Line) : (s.setLine k l).sea = s.sea := rfl
@[simp] theorem State.setLine_fare (k : Nat) (l : Line) : (s.setLine k l).fare = s.fare := rfl
@[simp] theorem State.setLine_cart (k : Nat) (l : Line) : (s.setLine k l).cart = s.cart := rfl
@[simp] theorem State.setLine_tim (k : Nat) (l : Line) : (s.setLine k l).tim = s.tim := rfl
@[simp] theorem State.setLine_aud (k : Nat) (l : Line) : (s.setLine k l).aud = s.aud := rfl
@[simp] theorem State.setLine_net (k : Nat) (l : Line) : (s.setLine k l).net = s.net := rfl
@[simp] theorem State.setLine_isl (k : Nat) (l : Line) : (s.setLine k l).isl = s.isl := rfl
@[simp] theorem State.setLine_sec (k : Nat) (l : Line) : (s.setLine k l).sec = s.sec := rfl
@[simp] theorem State.setLine_stat (k : Nat) (l : Line) : (s.setLine k l).stat = s.stat := rfl
@[simp] theorem State.setLine_test (k : Nat) (l : Line) : (s.setLine k l).test = s.test := rfl
@[simp] theorem State.setLine_evt (k : Nat) (l : Line) : (s.setLine k l).evt = s.evt := rfl
@[simp] theorem State.setLine_lcy (k : Nat) (l : Line) : (s.setLine k l).lcy = s.lcy := rfl
@[simp] theorem State.setLine_out (k : Nat) (l : Line) : (s.setLine k l).out = s.out := rfl
@[simp] theorem State.setLine_freeCtr (k : Nat) (l : Line) : (s.setLine k l).freeCtr = s.freeCtr := rfl
@[simp] theorem State.setLine_pending (k : Nat) (l : Line) : (s.setLine k l).pending = s.pending := rfl
@[simp] theorem State.modPort_now (n : Nat) (f : Port → Port) : (s.modPort n f).now = s.now := rfl
@[simp] theorem State.modPort_mbx (n : Nat) (f : Port → Port) : (s.modPort n f).mbx = s.mbx := rfl
@[simp] theorem State.modPort_man (n : Nat) (f : Port → Port) : (s.modPort n f).man = s.man := rfl
@[simp] theorem State.modPort_ins (n : Nat) (f : Port → Port) : (s.modPort n f).ins = s.ins := rfl
@[simp] theorem State.modPort_cap (n : Nat) (f : Port → Port) : (s.modPort n f).cap = s.cap := rfl
@[simp] theorem State.modPort_mem (n : Nat) (f : Port → Port) : (s.modPort n f).mem = s.mem := rfl
@[simp] theorem State.modPort_lane (n : Nat) (f : Port → Port) : (s.modPort n f).lane = s.lane := rfl
@[simp] theorem State.modPort_sea (n : Nat) (f : Port → Port) : (s.modPort n f).sea = s.sea := rfl
@[simp] theorem State.modPort_fare (n : Nat) (f : Port → Port) : (s.modPort n f).fare = s.fare := rfl
@[simp] theorem State.modPort_cart (n : Nat) (f : Port → Port) : (s.modPort n f).cart = s.cart := rfl
@[simp] theorem State.modPort_tim (n : Nat) (f : Port → Port) : (s.modPort n f).tim = s.tim := rfl
@[simp] theorem State.modPort_aud (n : Nat) (f : Port → Port) : (s.modPort n f).aud = s.aud := rfl
@[simp] theorem State.modPort_isl (n : Nat) (f : Port → Port) : (s.modPort n f).isl = s.isl := rfl
@[simp] theorem State.modPort_sec (n : Nat) (f : Port → Port) : (s.modPort n f).sec = s.sec := rfl
@[simp] theorem State.modPort_stat (n : Nat) (f : Port → Port) : (s.modPort n f).stat = s.stat := rfl
@[simp] theorem State.modPort_test (n : Nat) (f : Port → Port) : (s.modPort n f).test = s.test := rfl
@[simp] theorem State.modPort_evt (n : Nat) (f : Port → Port) : (s.modPort n f).evt = s.evt := rfl
@[simp] theorem State.modPort_lcy (n : Nat) (f : Port → Port) : (s.modPort n f).lcy = s.lcy := rfl
@[simp] theorem State.modPort_out (n : Nat) (f : Port → Port) : (s.modPort n f).out = s.out := rfl
@[simp] theorem State.modPort_freeCtr (n : Nat) (f : Port → Port) : (s.modPort n f).freeCtr = s.freeCtr := rfl
@[simp] theorem State.modPort_pending (n : Nat) (f : Port → Port) : (s.modPort n f).pending = s.pending := rfl
@[simp] theorem State.modNet_now (f : Net → Net) : (s.modNet f).now = s.now := rfl
@[simp] theorem State.modNet_mbx (f : Net → Net) : (s.modNet f).mbx = s.mbx := rfl
@[simp] theorem State.modNet_man (f : Net → Net) : (s.modNet f).man = s.man := rfl
@[simp] theorem State.modNet_ins (f : Net → Net) : (s.modNet f).ins = s.ins := rfl
@[simp] theorem State.modNet_cap (f : Net → Net) : (s.modNet f).cap = s.cap := rfl
@[simp] theorem State.modNet_mem (f : Net → Net) : (s.modNet f).mem = s.mem := rfl
@[simp] theorem State.modNet_lane (f : Net → Net) : (s.modNet f).lane = s.lane := rfl
@[simp] theorem State.modNet_sea (f : Net → Net) : (s.modNet f).sea = s.sea := rfl
@[simp] theorem State.modNet_fare (f : Net → Net) : (s.modNet f).fare = s.fare := rfl
@[simp] theorem State.modNet_cart (f : Net → Net) : (s.modNet f).cart = s.cart := rfl
@[simp] theorem State.modNet_tim (f : Net → Net) : (s.modNet f).tim = s.tim := rfl
@[simp] theorem State.modNet_aud (f : Net → Net) : (s.modNet f).aud = s.aud := rfl
@[simp] theorem State.modNet_isl (f : Net → Net) : (s.modNet f).isl = s.isl := rfl
@[simp] theorem State.modNet_sec (f : Net → Net) : (s.modNet f).sec = s.sec := rfl
@[simp] theorem State.modNet_stat (f : Net → Net) : (s.modNet f).stat = s.stat := rfl
@[simp] theorem State.modNet_test (f : Net → Net) : (s.modNet f).test = s.test := rfl
@[simp] theorem State.modNet_evt (f : Net → Net) : (s.modNet f).evt = s.evt := rfl
@[simp] theorem State.modNet_lcy (f : Net → Net) : (s.modNet f).lcy = s.lcy := rfl
@[simp] theorem State.modNet_out (f : Net → Net) : (s.modNet f).out = s.out := rfl
@[simp] theorem State.modNet_freeCtr (f : Net → Net) : (s.modNet f).freeCtr = s.freeCtr := rfl
@[simp] theorem State.modNet_pending (f : Net → Net) : (s.modNet f).pending = s.pending := rfl
@[simp] theorem State.emitOut_now (o : Output) : (s.emitOut o).now = s.now := rfl
@[simp] theorem State.emitOut_mbx (o : Output) : (s.emitOut o).mbx = s.mbx := rfl
@[simp] theorem State.emitOut_man (o : Output) : (s.emitOut o).man = s.man := rfl
@[simp] theorem State.emitOut_ins (o : Output) : (s.emitOut o).ins = s.ins := rfl
@[simp] theorem State.emitOut_cap (o : Output) : (s.emitOut o).cap = s.cap := rfl
@[simp] theorem State.emitOut_mem (o : Output) : (s.emitOut o).mem = s.mem := rfl
@[simp] theorem State.emitOut_lane (o : Output) : (s.emitOut o).lane = s.lane := rfl
@[simp] theorem State.emitOut_sea (o : Output) : (s.emitOut o).sea = s.sea := rfl
@[simp] theorem State.emitOut_fare (o : Output) : (s.emitOut o).fare = s.fare := rfl
@[simp] theorem State.emitOut_cart (o : Output) : (s.emitOut o).cart = s.cart := rfl
@[simp] theorem State.emitOut_tim (o : Output) : (s.emitOut o).tim = s.tim := rfl
@[simp] theorem State.emitOut_aud (o : Output) : (s.emitOut o).aud = s.aud := rfl
@[simp] theorem State.emitOut_net (o : Output) : (s.emitOut o).net = s.net := rfl
@[simp] theorem State.emitOut_isl (o : Output) : (s.emitOut o).isl = s.isl := rfl
@[simp] theorem State.emitOut_sec (o : Output) : (s.emitOut o).sec = s.sec := rfl
@[simp] theorem State.emitOut_stat (o : Output) : (s.emitOut o).stat = s.stat := rfl
@[simp] theorem State.emitOut_test (o : Output) : (s.emitOut o).test = s.test := rfl
@[simp] theorem State.emitOut_evt (o : Output) : (s.emitOut o).evt = s.evt := rfl
@[simp] theorem State.emitOut_lcy (o : Output) : (s.emitOut o).lcy = s.lcy := rfl
@[simp] theorem State.emitOut_freeCtr (o : Output) : (s.emitOut o).freeCtr = s.freeCtr := rfl
@[simp] theorem State.emitOut_pending (o : Output) : (s.emitOut o).pending = s.pending := rfl
@[simp] theorem State.modLcy_now (f : Lcy → Lcy) : (s.modLcy f).now = s.now := rfl
@[simp] theorem State.modLcy_mbx (f : Lcy → Lcy) : (s.modLcy f).mbx = s.mbx := rfl
@[simp] theorem State.modLcy_man (f : Lcy → Lcy) : (s.modLcy f).man = s.man := rfl
@[simp] theorem State.modLcy_ins (f : Lcy → Lcy) : (s.modLcy f).ins = s.ins := rfl
@[simp] theorem State.modLcy_cap (f : Lcy → Lcy) : (s.modLcy f).cap = s.cap := rfl
@[simp] theorem State.modLcy_mem (f : Lcy → Lcy) : (s.modLcy f).mem = s.mem := rfl
@[simp] theorem State.modLcy_lane (f : Lcy → Lcy) : (s.modLcy f).lane = s.lane := rfl
@[simp] theorem State.modLcy_sea (f : Lcy → Lcy) : (s.modLcy f).sea = s.sea := rfl
@[simp] theorem State.modLcy_fare (f : Lcy → Lcy) : (s.modLcy f).fare = s.fare := rfl
@[simp] theorem State.modLcy_cart (f : Lcy → Lcy) : (s.modLcy f).cart = s.cart := rfl
@[simp] theorem State.modLcy_tim (f : Lcy → Lcy) : (s.modLcy f).tim = s.tim := rfl
@[simp] theorem State.modLcy_aud (f : Lcy → Lcy) : (s.modLcy f).aud = s.aud := rfl
@[simp] theorem State.modLcy_net (f : Lcy → Lcy) : (s.modLcy f).net = s.net := rfl
@[simp] theorem State.modLcy_isl (f : Lcy → Lcy) : (s.modLcy f).isl = s.isl := rfl
@[simp] theorem State.modLcy_sec (f : Lcy → Lcy) : (s.modLcy f).sec = s.sec := rfl
@[simp] theorem State.modLcy_stat (f : Lcy → Lcy) : (s.modLcy f).stat = s.stat := rfl
@[simp] theorem State.modLcy_test (f : Lcy → Lcy) : (s.modLcy f).test = s.test := rfl
@[simp] theorem State.modLcy_evt (f : Lcy → Lcy) : (s.modLcy f).evt = s.evt := rfl
@[simp] theorem State.modLcy_out (f : Lcy → Lcy) : (s.modLcy f).out = s.out := rfl
@[simp] theorem State.modLcy_freeCtr (f : Lcy → Lcy) : (s.modLcy f).freeCtr = s.freeCtr := rfl
@[simp] theorem State.modLcy_pending (f : Lcy → Lcy) : (s.modLcy f).pending = s.pending := rfl
@[simp] theorem State.modSea_now (f : Sea → Sea) : (s.modSea f).now = s.now := rfl
@[simp] theorem State.modSea_mbx (f : Sea → Sea) : (s.modSea f).mbx = s.mbx := rfl
@[simp] theorem State.modSea_man (f : Sea → Sea) : (s.modSea f).man = s.man := rfl
@[simp] theorem State.modSea_ins (f : Sea → Sea) : (s.modSea f).ins = s.ins := rfl
@[simp] theorem State.modSea_cap (f : Sea → Sea) : (s.modSea f).cap = s.cap := rfl
@[simp] theorem State.modSea_mem (f : Sea → Sea) : (s.modSea f).mem = s.mem := rfl
@[simp] theorem State.modSea_lane (f : Sea → Sea) : (s.modSea f).lane = s.lane := rfl
@[simp] theorem State.modSea_fare (f : Sea → Sea) : (s.modSea f).fare = s.fare := rfl
@[simp] theorem State.modSea_cart (f : Sea → Sea) : (s.modSea f).cart = s.cart := rfl
@[simp] theorem State.modSea_tim (f : Sea → Sea) : (s.modSea f).tim = s.tim := rfl
@[simp] theorem State.modSea_aud (f : Sea → Sea) : (s.modSea f).aud = s.aud := rfl
@[simp] theorem State.modSea_net (f : Sea → Sea) : (s.modSea f).net = s.net := rfl
@[simp] theorem State.modSea_isl (f : Sea → Sea) : (s.modSea f).isl = s.isl := rfl
@[simp] theorem State.modSea_sec (f : Sea → Sea) : (s.modSea f).sec = s.sec := rfl
@[simp] theorem State.modSea_stat (f : Sea → Sea) : (s.modSea f).stat = s.stat := rfl
@[simp] theorem State.modSea_test (f : Sea → Sea) : (s.modSea f).test = s.test := rfl
@[simp] theorem State.modSea_evt (f : Sea → Sea) : (s.modSea f).evt = s.evt := rfl
@[simp] theorem State.modSea_lcy (f : Sea → Sea) : (s.modSea f).lcy = s.lcy := rfl
@[simp] theorem State.modSea_out (f : Sea → Sea) : (s.modSea f).out = s.out := rfl
@[simp] theorem State.modSea_freeCtr (f : Sea → Sea) : (s.modSea f).freeCtr = s.freeCtr := rfl
@[simp] theorem State.modSea_pending (f : Sea → Sea) : (s.modSea f).pending = s.pending := rfl
@[simp] theorem State.modCell_now (n : Nat) (f : Cell → Cell) : (s.modCell n f).now = s.now := rfl
@[simp] theorem State.modCell_mbx (n : Nat) (f : Cell → Cell) : (s.modCell n f).mbx = s.mbx := rfl
@[simp] theorem State.modCell_man (n : Nat) (f : Cell → Cell) : (s.modCell n f).man = s.man := rfl
@[simp] theorem State.modCell_ins (n : Nat) (f : Cell → Cell) : (s.modCell n f).ins = s.ins := rfl
@[simp] theorem State.modCell_cap (n : Nat) (f : Cell → Cell) : (s.modCell n f).cap = s.cap := rfl
@[simp] theorem State.modCell_mem (n : Nat) (f : Cell → Cell) : (s.modCell n f).mem = s.mem := rfl
@[simp] theorem State.modCell_lane (n : Nat) (f : Cell → Cell) : (s.modCell n f).lane = s.lane := rfl
@[simp] theorem State.modCell_fare (n : Nat) (f : Cell → Cell) : (s.modCell n f).fare = s.fare := rfl
@[simp] theorem State.modCell_cart (n : Nat) (f : Cell → Cell) : (s.modCell n f).cart = s.cart := rfl
@[simp] theorem State.modCell_tim (n : Nat) (f : Cell → Cell) : (s.modCell n f).tim = s.tim := rfl
@[simp] theorem State.modCell_aud (n : Nat) (f : Cell → Cell) : (s.modCell n f).aud = s.aud := rfl
@[simp] theorem State.modCell_net (n : Nat) (f : Cell → Cell) : (s.modCell n f).net = s.net := rfl
@[simp] theorem State.modCell_isl (n : Nat) (f : Cell → Cell) : (s.modCell n f).isl = s.isl := rfl
@[simp] theorem State.modCell_sec (n : Nat) (f : Cell → Cell) : (s.modCell n f).sec = s.sec := rfl
@[simp] theorem State.modCell_stat (n : Nat) (f : Cell → Cell) : (s.modCell n f).stat = s.stat := rfl
@[simp] theorem State.modCell_test (n : Nat) (f : Cell → Cell) : (s.modCell n f).test = s.test := rfl
@[simp] theorem State.modCell_evt (n : Nat) (f : Cell → Cell) : (s.modCell n f).evt = s.evt := rfl
@[simp] theorem State.modCell_lcy (n : Nat) (f : Cell → Cell) : (s.modCell n f).lcy = s.lcy := rfl
@[simp] theorem State.modCell_out (n : Nat) (f : Cell → Cell) : (s.modCell n f).out = s.out := rfl
@[simp] theorem State.modCell_freeCtr (n : Nat) (f : Cell → Cell) : (s.modCell n f).freeCtr = s.freeCtr := rfl
@[simp] theorem State.modCell_pending (n : Nat) (f : Cell → Cell) : (s.modCell n f).pending = s.pending := rfl
@[simp] theorem State.setSlot_now (n : Nat) (x : Slot) : (s.setSlot n x).now = s.now := rfl
@[simp] theorem State.setSlot_mbx (n : Nat) (x : Slot) : (s.setSlot n x).mbx = s.mbx := rfl
@[simp] theorem State.setSlot_man (n : Nat) (x : Slot) : (s.setSlot n x).man = s.man := rfl
@[simp] theorem State.setSlot_ins (n : Nat) (x : Slot) : (s.setSlot n x).ins = s.ins := rfl
@[simp] theorem State.setSlot_cap (n : Nat) (x : Slot) : (s.setSlot n x).cap = s.cap := rfl
@[simp] theorem State.setSlot_mem (n : Nat) (x : Slot) : (s.setSlot n x).mem = s.mem := rfl
@[simp] theorem State.setSlot_lane (n : Nat) (x : Slot) : (s.setSlot n x).lane = s.lane := rfl
@[simp] theorem State.setSlot_fare (n : Nat) (x : Slot) : (s.setSlot n x).fare = s.fare := rfl
@[simp] theorem State.setSlot_cart (n : Nat) (x : Slot) : (s.setSlot n x).cart = s.cart := rfl
@[simp] theorem State.setSlot_tim (n : Nat) (x : Slot) : (s.setSlot n x).tim = s.tim := rfl
@[simp] theorem State.setSlot_aud (n : Nat) (x : Slot) : (s.setSlot n x).aud = s.aud := rfl
@[simp] theorem State.setSlot_net (n : Nat) (x : Slot) : (s.setSlot n x).net = s.net := rfl
@[simp] theorem State.setSlot_isl (n : Nat) (x : Slot) : (s.setSlot n x).isl = s.isl := rfl
@[simp] theorem State.setSlot_sec (n : Nat) (x : Slot) : (s.setSlot n x).sec = s.sec := rfl
@[simp] theorem State.setSlot_stat (n : Nat) (x : Slot) : (s.setSlot n x).stat = s.stat := rfl
@[simp] theorem State.setSlot_test (n : Nat) (x : Slot) : (s.setSlot n x).test = s.test := rfl
@[simp] theorem State.setSlot_evt (n : Nat) (x : Slot) : (s.setSlot n x).evt = s.evt := rfl
@[simp] theorem State.setSlot_lcy (n : Nat) (x : Slot) : (s.setSlot n x).lcy = s.lcy := rfl
@[simp] theorem State.setSlot_out (n : Nat) (x : Slot) : (s.setSlot n x).out = s.out := rfl
@[simp] theorem State.setSlot_freeCtr (n : Nat) (x : Slot) : (s.setSlot n x).freeCtr = s.freeCtr := rfl
@[simp] theorem State.setSlot_pending (n : Nat) (x : Slot) : (s.setSlot n x).pending = s.pending := rfl
@[simp] theorem State.modJob_now (n : Nat) (f : Job → Job) : (s.modJob n f).now = s.now := rfl
@[simp] theorem State.modJob_mbx (n : Nat) (f : Job → Job) : (s.modJob n f).mbx = s.mbx := rfl
@[simp] theorem State.modJob_man (n : Nat) (f : Job → Job) : (s.modJob n f).man = s.man := rfl
@[simp] theorem State.modJob_ins (n : Nat) (f : Job → Job) : (s.modJob n f).ins = s.ins := rfl
@[simp] theorem State.modJob_cap (n : Nat) (f : Job → Job) : (s.modJob n f).cap = s.cap := rfl
@[simp] theorem State.modJob_mem (n : Nat) (f : Job → Job) : (s.modJob n f).mem = s.mem := rfl
@[simp] theorem State.modJob_lane (n : Nat) (f : Job → Job) : (s.modJob n f).lane = s.lane := rfl
@[simp] theorem State.modJob_fare (n : Nat) (f : Job → Job) : (s.modJob n f).fare = s.fare := rfl
@[simp] theorem State.modJob_cart (n : Nat) (f : Job → Job) : (s.modJob n f).cart = s.cart := rfl
@[simp] theorem State.modJob_tim (n : Nat) (f : Job → Job) : (s.modJob n f).tim = s.tim := rfl
@[simp] theorem State.modJob_aud (n : Nat) (f : Job → Job) : (s.modJob n f).aud = s.aud := rfl
@[simp] theorem State.modJob_net (n : Nat) (f : Job → Job) : (s.modJob n f).net = s.net := rfl
@[simp] theorem State.modJob_isl (n : Nat) (f : Job → Job) : (s.modJob n f).isl = s.isl := rfl
@[simp] theorem State.modJob_sec (n : Nat) (f : Job → Job) : (s.modJob n f).sec = s.sec := rfl
@[simp] theorem State.modJob_stat (n : Nat) (f : Job → Job) : (s.modJob n f).stat = s.stat := rfl
@[simp] theorem State.modJob_test (n : Nat) (f : Job → Job) : (s.modJob n f).test = s.test := rfl
@[simp] theorem State.modJob_evt (n : Nat) (f : Job → Job) : (s.modJob n f).evt = s.evt := rfl
@[simp] theorem State.modJob_lcy (n : Nat) (f : Job → Job) : (s.modJob n f).lcy = s.lcy := rfl
@[simp] theorem State.modJob_out (n : Nat) (f : Job → Job) : (s.modJob n f).out = s.out := rfl
@[simp] theorem State.modJob_freeCtr (n : Nat) (f : Job → Job) : (s.modJob n f).freeCtr = s.freeCtr := rfl
@[simp] theorem State.modJob_pending (n : Nat) (f : Job → Job) : (s.modJob n f).pending = s.pending := rfl
@[simp] theorem State.setTaskInput_now (n i : Nat) (x : TaskInput) : (s.setTaskInput n i x).now = s.now := rfl
@[simp] theorem State.setTaskInput_mbx (n i : Nat) (x : TaskInput) : (s.setTaskInput n i x).mbx = s.mbx := rfl
@[simp] theorem State.setTaskInput_man (n i : Nat) (x : TaskInput) : (s.setTaskInput n i x).man = s.man := rfl
@[simp] theorem State.setTaskInput_ins (n i : Nat) (x : TaskInput) : (s.setTaskInput n i x).ins = s.ins := rfl
@[simp] theorem State.setTaskInput_cap (n i : Nat) (x : TaskInput) : (s.setTaskInput n i x).cap = s.cap := rfl
@[simp] theorem State.setTaskInput_mem (n i : Nat) (x : TaskInput) : (s.setTaskInput n i x).mem = s.mem := rfl
@[simp] theorem State.setTaskInput_lane (n i : Nat) (x : TaskInput) : (s.setTaskInput n i x).lane = s.lane := rfl
@[simp] theorem State.setTaskInput_fare (n i : Nat) (x : TaskInput) : (s.setTaskInput n i x).fare = s.fare := rfl
@[simp] theorem State.setTaskInput_cart (n i : Nat) (x : TaskInput) : (s.setTaskInput n i x).cart = s.cart := rfl
@[simp] theorem State.setTaskInput_tim (n i : Nat) (x : TaskInput) : (s.setTaskInput n i x).tim = s.tim := rfl
@[simp] theorem State.setTaskInput_aud (n i : Nat) (x : TaskInput) : (s.setTaskInput n i x).aud = s.aud := rfl
@[simp] theorem State.setTaskInput_net (n i : Nat) (x : TaskInput) : (s.setTaskInput n i x).net = s.net := rfl
@[simp] theorem State.setTaskInput_isl (n i : Nat) (x : TaskInput) : (s.setTaskInput n i x).isl = s.isl := rfl
@[simp] theorem State.setTaskInput_sec (n i : Nat) (x : TaskInput) : (s.setTaskInput n i x).sec = s.sec := rfl
@[simp] theorem State.setTaskInput_stat (n i : Nat) (x : TaskInput) : (s.setTaskInput n i x).stat = s.stat := rfl
@[simp] theorem State.setTaskInput_test (n i : Nat) (x : TaskInput) : (s.setTaskInput n i x).test = s.test := rfl
@[simp] theorem State.setTaskInput_evt (n i : Nat) (x : TaskInput) : (s.setTaskInput n i x).evt = s.evt := rfl
@[simp] theorem State.setTaskInput_lcy (n i : Nat) (x : TaskInput) : (s.setTaskInput n i x).lcy = s.lcy := rfl
@[simp] theorem State.setTaskInput_out (n i : Nat) (x : TaskInput) : (s.setTaskInput n i x).out = s.out := rfl
@[simp] theorem State.setTaskInput_freeCtr (n i : Nat) (x : TaskInput) : (s.setTaskInput n i x).freeCtr = s.freeCtr := rfl
@[simp] theorem State.setTaskInput_pending (n i : Nat) (x : TaskInput) : (s.setTaskInput n i x).pending = s.pending := rfl
@[simp] theorem State.modSec_now (f : Sec → Sec) : (s.modSec f).now = s.now := rfl
@[simp] theorem State.modSec_mbx (f : Sec → Sec) : (s.modSec f).mbx = s.mbx := rfl
@[simp] theorem State.modSec_man (f : Sec → Sec) : (s.modSec f).man = s.man := rfl
@[simp] theorem State.modSec_ins (f : Sec → Sec) : (s.modSec f).ins = s.ins := rfl
@[simp] theorem State.modSec_cap (f : Sec → Sec) : (s.modSec f).cap = s.cap := rfl
@[simp] theorem State.modSec_mem (f : Sec → Sec) : (s.modSec f).mem = s.mem := rfl
@[simp] theorem State.modSec_lane (f : Sec → Sec) : (s.modSec f).lane = s.lane := rfl
@[simp] theorem State.modSec_sea (f : Sec → Sec) : (s.modSec f).sea = s.sea := rfl
@[simp] theorem State.modSec_fare (f : Sec → Sec) : (s.modSec f).fare = s.fare := rfl
@[simp] theorem State.modSec_cart (f : Sec → Sec) : (s.modSec f).cart = s.cart := rfl
@[simp] theorem State.modSec_tim (f : Sec → Sec) : (s.modSec f).tim = s.tim := rfl
@[simp] theorem State.modSec_aud (f : Sec → Sec) : (s.modSec f).aud = s.aud := rfl
@[simp] theorem State.modSec_net (f : Sec → Sec) : (s.modSec f).net = s.net := rfl
@[simp] theorem State.modSec_isl (f : Sec → Sec) : (s.modSec f).isl = s.isl := rfl
@[simp] theorem State.modSec_stat (f : Sec → Sec) : (s.modSec f).stat = s.stat := rfl
@[simp] theorem State.modSec_test (f : Sec → Sec) : (s.modSec f).test = s.test := rfl
@[simp] theorem State.modSec_evt (f : Sec → Sec) : (s.modSec f).evt = s.evt := rfl
@[simp] theorem State.modSec_lcy (f : Sec → Sec) : (s.modSec f).lcy = s.lcy := rfl
@[simp] theorem State.modSec_out (f : Sec → Sec) : (s.modSec f).out = s.out := rfl
@[simp] theorem State.modSec_freeCtr (f : Sec → Sec) : (s.modSec f).freeCtr = s.freeCtr := rfl
@[simp] theorem State.modSec_pending (f : Sec → Sec) : (s.modSec f).pending = s.pending := rfl
@[simp] theorem State.modBat_now (f : Battery → Battery) : (s.modBat f).now = s.now := rfl
@[simp] theorem State.modBat_mbx (f : Battery → Battery) : (s.modBat f).mbx = s.mbx := rfl
@[simp] theorem State.modBat_man (f : Battery → Battery) : (s.modBat f).man = s.man := rfl
@[simp] theorem State.modBat_ins (f : Battery → Battery) : (s.modBat f).ins = s.ins := rfl
@[simp] theorem State.modBat_cap (f : Battery → Battery) : (s.modBat f).cap = s.cap := rfl
@[simp] theorem State.modBat_mem (f : Battery → Battery) : (s.modBat f).mem = s.mem := rfl
@[simp] theorem State.modBat_lane (f : Battery → Battery) : (s.modBat f).lane = s.lane := rfl
@[simp] theorem State.modBat_sea (f : Battery → Battery) : (s.modBat f).sea = s.sea := rfl
@[simp] theorem State.modBat_fare (f : Battery → Battery) : (s.modBat f).fare = s.fare := rfl
@[simp] theorem State.modBat_cart (f : Battery → Battery) : (s.modBat f).cart = s.cart := rfl
@[simp] theorem State.modBat_tim (f : Battery → Battery) : (s.modBat f).tim = s.tim := rfl
@[simp] theorem State.modBat_aud (f : Battery → Battery) : (s.modBat f).aud = s.aud := rfl
@[simp] theorem State.modBat_net (f : Battery → Battery) : (s.modBat f).net = s.net := rfl
@[simp] theorem State.modBat_isl (f : Battery → Battery) : (s.modBat f).isl = s.isl := rfl
@[simp] theorem State.modBat_stat (f : Battery → Battery) : (s.modBat f).stat = s.stat := rfl
@[simp] theorem State.modBat_test (f : Battery → Battery) : (s.modBat f).test = s.test := rfl
@[simp] theorem State.modBat_evt (f : Battery → Battery) : (s.modBat f).evt = s.evt := rfl
@[simp] theorem State.modBat_lcy (f : Battery → Battery) : (s.modBat f).lcy = s.lcy := rfl
@[simp] theorem State.modBat_out (f : Battery → Battery) : (s.modBat f).out = s.out := rfl
@[simp] theorem State.modBat_freeCtr (f : Battery → Battery) : (s.modBat f).freeCtr = s.freeCtr := rfl
@[simp] theorem State.modBat_pending (f : Battery → Battery) : (s.modBat f).pending = s.pending := rfl
@[simp] theorem State.modTest_now (f : TestSt → TestSt) : (s.modTest f).now = s.now := rfl
@[simp] theorem State.modTest_mbx (f : TestSt → TestSt) : (s.modTest f).mbx = s.mbx := rfl
@[simp] theorem State.modTest_man (f : TestSt → TestSt) : (s.modTest f).man = s.man := rfl
@[simp] theorem State.modTest_ins (f : TestSt → TestSt) : (s.modTest f).ins = s.ins := rfl
@[simp] theorem State.modTest_cap (f : TestSt → TestSt) : (s.modTest f).cap = s.cap := rfl
@[simp] theorem State.modTest_mem (f : TestSt → TestSt) : (s.modTest f).mem = s.mem := rfl
@[simp] theorem State.modTest_lane (f : TestSt → TestSt) : (s.modTest f).lane = s.lane := rfl
@[simp] theorem State.modTest_sea (f : TestSt → TestSt) : (s.modTest f).sea = s.sea := rfl
@[simp] theorem State.modTest_fare (f : TestSt → TestSt) : (s.modTest f).fare = s.fare := rfl
@[simp] theorem State.modTest_cart (f : TestSt → TestSt) : (s.modTest f).cart = s.cart := rfl
@[simp] theorem State.modTest_tim (f : TestSt → TestSt) : (s.modTest f).tim = s.tim := rfl
@[simp] theorem State.modTest_aud (f : TestSt → TestSt) : (s.modTest f).aud = s.aud := rfl
@[simp] theorem State.modTest_net (f : TestSt → TestSt) : (s.modTest f).net = s.net := rfl
@[simp] theorem State.modTest_isl (f : TestSt → TestSt) : (s.modTest f).isl = s.isl := rfl
@[simp] theorem State.modTest_sec (f : TestSt → TestSt) : (s.modTest f).sec = s.sec := rfl
@[simp] theorem State.modTest_stat (f : TestSt → TestSt) : (s.modTest f).stat = s.stat := rfl
@[simp] theorem State.modTest_evt (f : TestSt → TestSt) : (s.modTest f).evt = s.evt := rfl
@[simp] theorem State.modTest_lcy (f : TestSt → TestSt) : (s.modTest f).lcy = s.lcy := rfl
@[simp] theorem State.modTest_out (f : TestSt → TestSt) : (s.modTest f).out = s.out := rfl
@[simp] theorem State.modTest_freeCtr (f : TestSt → TestSt) : (s.modTest f).freeCtr = s.freeCtr := rfl
@[simp] theorem State.modTest_pending (f : TestSt → TestSt) : (s.modTest f).pending = s.pending := rfl
@[simp] theorem State.modMaster_now (port : Nat) (f : MasterPort → MasterPort) : (s.modMaster port f).now = s.now := rfl
@[simp] theorem State.modMaster_mbx (port : Nat) (f : MasterPort → MasterPort) : (s.modMaster port f).mbx = s.mbx := rfl
@[simp] theorem State.modMaster_man (port : Nat) (f : MasterPort → MasterPort) : (s.modMaster port f).man = s.man := rfl
@[simp] theorem State.modMaster_ins (port : Nat) (f : MasterPort → MasterPort) : (s.modMaster port f).ins = s.ins := rfl
@[simp] theorem State.modMaster_cap (port : Nat) (f : MasterPort → MasterPort) : (s.modMaster port f).cap = s.cap := rfl
@[simp] theorem State.modMaster_mem (port : Nat) (f : MasterPort → MasterPort) : (s.modMaster port f).mem = s.mem := rfl
@[simp] theorem State.modMaster_lane (port : Nat) (f : MasterPort → MasterPort) : (s.modMaster port f).lane = s.lane := rfl
@[simp] theorem State.modMaster_sea (port : Nat) (f : MasterPort → MasterPort) : (s.modMaster port f).sea = s.sea := rfl
@[simp] theorem State.modMaster_fare (port : Nat) (f : MasterPort → MasterPort) : (s.modMaster port f).fare = s.fare := rfl
@[simp] theorem State.modMaster_cart (port : Nat) (f : MasterPort → MasterPort) : (s.modMaster port f).cart = s.cart := rfl
@[simp] theorem State.modMaster_aud (port : Nat) (f : MasterPort → MasterPort) : (s.modMaster port f).aud = s.aud := rfl
@[simp] theorem State.modMaster_net (port : Nat) (f : MasterPort → MasterPort) : (s.modMaster port f).net = s.net := rfl
@[simp] theorem State.modMaster_isl (port : Nat) (f : MasterPort → MasterPort) : (s.modMaster port f).isl = s.isl := rfl
@[simp] theorem State.modMaster_sec (port : Nat) (f : MasterPort → MasterPort) : (s.modMaster port f).sec = s.sec := rfl
@[simp] theorem State.modMaster_stat (port : Nat) (f : MasterPort → MasterPort) : (s.modMaster port f).stat = s.stat := rfl
@[simp] theorem State.modMaster_test (port : Nat) (f : MasterPort → MasterPort) : (s.modMaster port f).test = s.test := rfl
@[simp] theorem State.modMaster_evt (port : Nat) (f : MasterPort → MasterPort) : (s.modMaster port f).evt = s.evt := rfl
@[simp] theorem State.modMaster_lcy (port : Nat) (f : MasterPort → MasterPort) : (s.modMaster port f).lcy = s.lcy := rfl
@[simp] theorem State.modMaster_out (port : Nat) (f : MasterPort → MasterPort) : (s.modMaster port f).out = s.out := rfl
@[simp] theorem State.modMaster_freeCtr (port : Nat) (f : MasterPort → MasterPort) : (s.modMaster port f).freeCtr = s.freeCtr := rfl
@[simp] theorem State.modMaster_pending (port : Nat) (f : MasterPort → MasterPort) : (s.modMaster port f).pending = s.pending := rfl
@[simp] theorem State.modTim_now (f : Tim → Tim) : (s.modTim f).now = s.now := rfl
@[simp] theorem State.modTim_mbx (f : Tim → Tim) : (s.modTim f).mbx = s.mbx := rfl
@[simp] theorem State.modTim_man (f : Tim → Tim) : (s.modTim f).man = s.man := rfl
@[simp] theorem State.modTim_ins (f : Tim → Tim) : (s.modTim f).ins = s.ins := rfl
@[simp] theorem State.modTim_cap (f : Tim → Tim) : (s.modTim f).cap = s.cap := rfl
@[simp] theorem State.modTim_mem (f : Tim → Tim) : (s.modTim f).mem = s.mem := rfl
@[simp] theorem State.modTim_lane (f : Tim → Tim) : (s.modTim f).lane = s.lane := rfl
@[simp] theorem State.modTim_sea (f : Tim → Tim) : (s.modTim f).sea = s.sea := rfl
@[simp] theorem State.modTim_fare (f : Tim → Tim) : (s.modTim f).fare = s.fare := rfl
@[simp] theorem State.modTim_cart (f : Tim → Tim) : (s.modTim f).cart = s.cart := rfl
@[simp] theorem State.modTim_aud (f : Tim → Tim) : (s.modTim f).aud = s.aud := rfl
@[simp] theorem State.modTim_net (f : Tim → Tim) : (s.modTim f).net = s.net := rfl
@[simp] theorem State.modTim_isl (f : Tim → Tim) : (s.modTim f).isl = s.isl := rfl
@[simp] theorem State.modTim_sec (f : Tim → Tim) : (s.modTim f).sec = s.sec := rfl
@[simp] theorem State.modTim_stat (f : Tim → Tim) : (s.modTim f).stat = s.stat := rfl
@[simp] theorem State.modTim_test (f : Tim → Tim) : (s.modTim f).test = s.test := rfl
@[simp] theorem State.modTim_evt (f : Tim → Tim) : (s.modTim f).evt = s.evt := rfl
@[simp] theorem State.modTim_lcy (f : Tim → Tim) : (s.modTim f).lcy = s.lcy := rfl
@[simp] theorem State.modTim_out (f : Tim → Tim) : (s.modTim f).out = s.out := rfl
@[simp] theorem State.modTim_freeCtr (f : Tim → Tim) : (s.modTim f).freeCtr = s.freeCtr := rfl
@[simp] theorem State.modTim_pending (f : Tim → Tim) : (s.modTim f).pending = s.pending := rfl
@[simp] theorem State.modShadow_now (n : Nat) (f : Shadow → Shadow) : (s.modShadow n f).now = s.now := rfl
@[simp] theorem State.modShadow_mbx (n : Nat) (f : Shadow → Shadow) : (s.modShadow n f).mbx = s.mbx := rfl
@[simp] theorem State.modShadow_man (n : Nat) (f : Shadow → Shadow) : (s.modShadow n f).man = s.man := rfl
@[simp] theorem State.modShadow_ins (n : Nat) (f : Shadow → Shadow) : (s.modShadow n f).ins = s.ins := rfl
@[simp] theorem State.modShadow_cap (n : Nat) (f : Shadow → Shadow) : (s.modShadow n f).cap = s.cap := rfl
@[simp] theorem State.modShadow_mem (n : Nat) (f : Shadow → Shadow) : (s.modShadow n f).mem = s.mem := rfl
@[simp] theorem State.modShadow_lane (n : Nat) (f : Shadow → Shadow) : (s.modShadow n f).lane = s.lane := rfl
@[simp] theorem State.modShadow_sea (n : Nat) (f : Shadow → Shadow) : (s.modShadow n f).sea = s.sea := rfl
@[simp] theorem State.modShadow_fare (n : Nat) (f : Shadow → Shadow) : (s.modShadow n f).fare = s.fare := rfl
@[simp] theorem State.modShadow_cart (n : Nat) (f : Shadow → Shadow) : (s.modShadow n f).cart = s.cart := rfl
@[simp] theorem State.modShadow_aud (n : Nat) (f : Shadow → Shadow) : (s.modShadow n f).aud = s.aud := rfl
@[simp] theorem State.modShadow_net (n : Nat) (f : Shadow → Shadow) : (s.modShadow n f).net = s.net := rfl
@[simp] theorem State.modShadow_isl (n : Nat) (f : Shadow → Shadow) : (s.modShadow n f).isl = s.isl := rfl
@[simp] theorem State.modShadow_sec (n : Nat) (f : Shadow → Shadow) : (s.modShadow n f).sec = s.sec := rfl
@[simp] theorem State.modShadow_stat (n : Nat) (f : Shadow → Shadow) : (s.modShadow n f).stat = s.stat := rfl
@[simp] theorem State.modShadow_test (n : Nat) (f : Shadow → Shadow) : (s.modShadow n f).test = s.test := rfl
@[simp] theorem State.modShadow_evt (n : Nat) (f : Shadow → Shadow) : (s.modShadow n f).evt = s.evt := rfl
@[simp] theorem State.modShadow_lcy (n : Nat) (f : Shadow → Shadow) : (s.modShadow n f).lcy = s.lcy := rfl
@[simp] theorem State.modShadow_out (n : Nat) (f : Shadow → Shadow) : (s.modShadow n f).out = s.out := rfl
@[simp] theorem State.modShadow_freeCtr (n : Nat) (f : Shadow → Shadow) : (s.modShadow n f).freeCtr = s.freeCtr := rfl
@[simp] theorem State.modShadow_pending (n : Nat) (f : Shadow → Shadow) : (s.modShadow n f).pending = s.pending := rfl
@[simp] theorem State.modCmp_now (n : Nat) (f : CmpUnit → CmpUnit) : (s.modCmp n f).now = s.now := rfl
@[simp] theorem State.modCmp_mbx (n : Nat) (f : CmpUnit → CmpUnit) : (s.modCmp n f).mbx = s.mbx := rfl
@[simp] theorem State.modCmp_man (n : Nat) (f : CmpUnit → CmpUnit) : (s.modCmp n f).man = s.man := rfl
@[simp] theorem State.modCmp_ins (n : Nat) (f : CmpUnit → CmpUnit) : (s.modCmp n f).ins = s.ins := rfl
@[simp] theorem State.modCmp_cap (n : Nat) (f : CmpUnit → CmpUnit) : (s.modCmp n f).cap = s.cap := rfl
@[simp] theorem State.modCmp_mem (n : Nat) (f : CmpUnit → CmpUnit) : (s.modCmp n f).mem = s.mem := rfl
@[simp] theorem State.modCmp_lane (n : Nat) (f : CmpUnit → CmpUnit) : (s.modCmp n f).lane = s.lane := rfl
@[simp] theorem State.modCmp_sea (n : Nat) (f : CmpUnit → CmpUnit) : (s.modCmp n f).sea = s.sea := rfl
@[simp] theorem State.modCmp_fare (n : Nat) (f : CmpUnit → CmpUnit) : (s.modCmp n f).fare = s.fare := rfl
@[simp] theorem State.modCmp_cart (n : Nat) (f : CmpUnit → CmpUnit) : (s.modCmp n f).cart = s.cart := rfl
@[simp] theorem State.modCmp_aud (n : Nat) (f : CmpUnit → CmpUnit) : (s.modCmp n f).aud = s.aud := rfl
@[simp] theorem State.modCmp_net (n : Nat) (f : CmpUnit → CmpUnit) : (s.modCmp n f).net = s.net := rfl
@[simp] theorem State.modCmp_isl (n : Nat) (f : CmpUnit → CmpUnit) : (s.modCmp n f).isl = s.isl := rfl
@[simp] theorem State.modCmp_sec (n : Nat) (f : CmpUnit → CmpUnit) : (s.modCmp n f).sec = s.sec := rfl
@[simp] theorem State.modCmp_stat (n : Nat) (f : CmpUnit → CmpUnit) : (s.modCmp n f).stat = s.stat := rfl
@[simp] theorem State.modCmp_test (n : Nat) (f : CmpUnit → CmpUnit) : (s.modCmp n f).test = s.test := rfl
@[simp] theorem State.modCmp_evt (n : Nat) (f : CmpUnit → CmpUnit) : (s.modCmp n f).evt = s.evt := rfl
@[simp] theorem State.modCmp_lcy (n : Nat) (f : CmpUnit → CmpUnit) : (s.modCmp n f).lcy = s.lcy := rfl
@[simp] theorem State.modCmp_out (n : Nat) (f : CmpUnit → CmpUnit) : (s.modCmp n f).out = s.out := rfl
@[simp] theorem State.modCmp_freeCtr (n : Nat) (f : CmpUnit → CmpUnit) : (s.modCmp n f).freeCtr = s.freeCtr := rfl
@[simp] theorem State.modCmp_pending (n : Nat) (f : CmpUnit → CmpUnit) : (s.modCmp n f).pending = s.pending := rfl
@[simp] theorem State.modAud_now (f : Aud → Aud) : (s.modAud f).now = s.now := rfl
@[simp] theorem State.modAud_mbx (f : Aud → Aud) : (s.modAud f).mbx = s.mbx := rfl
@[simp] theorem State.modAud_man (f : Aud → Aud) : (s.modAud f).man = s.man := rfl
@[simp] theorem State.modAud_ins (f : Aud → Aud) : (s.modAud f).ins = s.ins := rfl
@[simp] theorem State.modAud_cap (f : Aud → Aud) : (s.modAud f).cap = s.cap := rfl
@[simp] theorem State.modAud_mem (f : Aud → Aud) : (s.modAud f).mem = s.mem := rfl
@[simp] theorem State.modAud_lane (f : Aud → Aud) : (s.modAud f).lane = s.lane := rfl
@[simp] theorem State.modAud_sea (f : Aud → Aud) : (s.modAud f).sea = s.sea := rfl
@[simp] theorem State.modAud_fare (f : Aud → Aud) : (s.modAud f).fare = s.fare := rfl
@[simp] theorem State.modAud_cart (f : Aud → Aud) : (s.modAud f).cart = s.cart := rfl
@[simp] theorem State.modAud_tim (f : Aud → Aud) : (s.modAud f).tim = s.tim := rfl
@[simp] theorem State.modAud_net (f : Aud → Aud) : (s.modAud f).net = s.net := rfl
@[simp] theorem State.modAud_isl (f : Aud → Aud) : (s.modAud f).isl = s.isl := rfl
@[simp] theorem State.modAud_sec (f : Aud → Aud) : (s.modAud f).sec = s.sec := rfl
@[simp] theorem State.modAud_stat (f : Aud → Aud) : (s.modAud f).stat = s.stat := rfl
@[simp] theorem State.modAud_test (f : Aud → Aud) : (s.modAud f).test = s.test := rfl
@[simp] theorem State.modAud_evt (f : Aud → Aud) : (s.modAud f).evt = s.evt := rfl
@[simp] theorem State.modAud_lcy (f : Aud → Aud) : (s.modAud f).lcy = s.lcy := rfl
@[simp] theorem State.modAud_out (f : Aud → Aud) : (s.modAud f).out = s.out := rfl
@[simp] theorem State.modAud_freeCtr (f : Aud → Aud) : (s.modAud f).freeCtr = s.freeCtr := rfl
@[simp] theorem State.modAud_pending (f : Aud → Aud) : (s.modAud f).pending = s.pending := rfl
@[simp] theorem State.modRx_now (n : Nat) (f : RxStream → RxStream) : (s.modRx n f).now = s.now := rfl
@[simp] theorem State.modRx_mbx (n : Nat) (f : RxStream → RxStream) : (s.modRx n f).mbx = s.mbx := rfl
@[simp] theorem State.modRx_man (n : Nat) (f : RxStream → RxStream) : (s.modRx n f).man = s.man := rfl
@[simp] theorem State.modRx_ins (n : Nat) (f : RxStream → RxStream) : (s.modRx n f).ins = s.ins := rfl
@[simp] theorem State.modRx_cap (n : Nat) (f : RxStream → RxStream) : (s.modRx n f).cap = s.cap := rfl
@[simp] theorem State.modRx_mem (n : Nat) (f : RxStream → RxStream) : (s.modRx n f).mem = s.mem := rfl
@[simp] theorem State.modRx_lane (n : Nat) (f : RxStream → RxStream) : (s.modRx n f).lane = s.lane := rfl
@[simp] theorem State.modRx_sea (n : Nat) (f : RxStream → RxStream) : (s.modRx n f).sea = s.sea := rfl
@[simp] theorem State.modRx_fare (n : Nat) (f : RxStream → RxStream) : (s.modRx n f).fare = s.fare := rfl
@[simp] theorem State.modRx_cart (n : Nat) (f : RxStream → RxStream) : (s.modRx n f).cart = s.cart := rfl
@[simp] theorem State.modRx_tim (n : Nat) (f : RxStream → RxStream) : (s.modRx n f).tim = s.tim := rfl
@[simp] theorem State.modRx_net (n : Nat) (f : RxStream → RxStream) : (s.modRx n f).net = s.net := rfl
@[simp] theorem State.modRx_isl (n : Nat) (f : RxStream → RxStream) : (s.modRx n f).isl = s.isl := rfl
@[simp] theorem State.modRx_sec (n : Nat) (f : RxStream → RxStream) : (s.modRx n f).sec = s.sec := rfl
@[simp] theorem State.modRx_stat (n : Nat) (f : RxStream → RxStream) : (s.modRx n f).stat = s.stat := rfl
@[simp] theorem State.modRx_test (n : Nat) (f : RxStream → RxStream) : (s.modRx n f).test = s.test := rfl
@[simp] theorem State.modRx_evt (n : Nat) (f : RxStream → RxStream) : (s.modRx n f).evt = s.evt := rfl
@[simp] theorem State.modRx_lcy (n : Nat) (f : RxStream → RxStream) : (s.modRx n f).lcy = s.lcy := rfl
@[simp] theorem State.modRx_out (n : Nat) (f : RxStream → RxStream) : (s.modRx n f).out = s.out := rfl
@[simp] theorem State.modRx_freeCtr (n : Nat) (f : RxStream → RxStream) : (s.modRx n f).freeCtr = s.freeCtr := rfl
@[simp] theorem State.modRx_pending (n : Nat) (f : RxStream → RxStream) : (s.modRx n f).pending = s.pending := rfl
@[simp] theorem State.modPrompt_now (k : Nat) (f : Prompt → Prompt) : (s.modPrompt k f).now = s.now := rfl
@[simp] theorem State.modPrompt_mbx (k : Nat) (f : Prompt → Prompt) : (s.modPrompt k f).mbx = s.mbx := rfl
@[simp] theorem State.modPrompt_man (k : Nat) (f : Prompt → Prompt) : (s.modPrompt k f).man = s.man := rfl
@[simp] theorem State.modPrompt_ins (k : Nat) (f : Prompt → Prompt) : (s.modPrompt k f).ins = s.ins := rfl
@[simp] theorem State.modPrompt_cap (k : Nat) (f : Prompt → Prompt) : (s.modPrompt k f).cap = s.cap := rfl
@[simp] theorem State.modPrompt_mem (k : Nat) (f : Prompt → Prompt) : (s.modPrompt k f).mem = s.mem := rfl
@[simp] theorem State.modPrompt_lane (k : Nat) (f : Prompt → Prompt) : (s.modPrompt k f).lane = s.lane := rfl
@[simp] theorem State.modPrompt_sea (k : Nat) (f : Prompt → Prompt) : (s.modPrompt k f).sea = s.sea := rfl
@[simp] theorem State.modPrompt_fare (k : Nat) (f : Prompt → Prompt) : (s.modPrompt k f).fare = s.fare := rfl
@[simp] theorem State.modPrompt_cart (k : Nat) (f : Prompt → Prompt) : (s.modPrompt k f).cart = s.cart := rfl
@[simp] theorem State.modPrompt_tim (k : Nat) (f : Prompt → Prompt) : (s.modPrompt k f).tim = s.tim := rfl
@[simp] theorem State.modPrompt_net (k : Nat) (f : Prompt → Prompt) : (s.modPrompt k f).net = s.net := rfl
@[simp] theorem State.modPrompt_isl (k : Nat) (f : Prompt → Prompt) : (s.modPrompt k f).isl = s.isl := rfl
@[simp] theorem State.modPrompt_sec (k : Nat) (f : Prompt → Prompt) : (s.modPrompt k f).sec = s.sec := rfl
@[simp] theorem State.modPrompt_stat (k : Nat) (f : Prompt → Prompt) : (s.modPrompt k f).stat = s.stat := rfl
@[simp] theorem State.modPrompt_test (k : Nat) (f : Prompt → Prompt) : (s.modPrompt k f).test = s.test := rfl
@[simp] theorem State.modPrompt_evt (k : Nat) (f : Prompt → Prompt) : (s.modPrompt k f).evt = s.evt := rfl
@[simp] theorem State.modPrompt_lcy (k : Nat) (f : Prompt → Prompt) : (s.modPrompt k f).lcy = s.lcy := rfl
@[simp] theorem State.modPrompt_out (k : Nat) (f : Prompt → Prompt) : (s.modPrompt k f).out = s.out := rfl
@[simp] theorem State.modPrompt_freeCtr (k : Nat) (f : Prompt → Prompt) : (s.modPrompt k f).freeCtr = s.freeCtr := rfl
@[simp] theorem State.modPrompt_pending (k : Nat) (f : Prompt → Prompt) : (s.modPrompt k f).pending = s.pending := rfl
@[simp] theorem State.setL1_now (n line : Nat) (x : Option L1State) : (s.setL1 n line x).now = s.now := rfl
@[simp] theorem State.setL1_mbx (n line : Nat) (x : Option L1State) : (s.setL1 n line x).mbx = s.mbx := rfl
@[simp] theorem State.setL1_man (n line : Nat) (x : Option L1State) : (s.setL1 n line x).man = s.man := rfl
@[simp] theorem State.setL1_ins (n line : Nat) (x : Option L1State) : (s.setL1 n line x).ins = s.ins := rfl
@[simp] theorem State.setL1_cap (n line : Nat) (x : Option L1State) : (s.setL1 n line x).cap = s.cap := rfl
@[simp] theorem State.setL1_mem (n line : Nat) (x : Option L1State) : (s.setL1 n line x).mem = s.mem := rfl
@[simp] theorem State.setL1_lane (n line : Nat) (x : Option L1State) : (s.setL1 n line x).lane = s.lane := rfl
@[simp] theorem State.setL1_fare (n line : Nat) (x : Option L1State) : (s.setL1 n line x).fare = s.fare := rfl
@[simp] theorem State.setL1_cart (n line : Nat) (x : Option L1State) : (s.setL1 n line x).cart = s.cart := rfl
@[simp] theorem State.setL1_tim (n line : Nat) (x : Option L1State) : (s.setL1 n line x).tim = s.tim := rfl
@[simp] theorem State.setL1_aud (n line : Nat) (x : Option L1State) : (s.setL1 n line x).aud = s.aud := rfl
@[simp] theorem State.setL1_net (n line : Nat) (x : Option L1State) : (s.setL1 n line x).net = s.net := rfl
@[simp] theorem State.setL1_isl (n line : Nat) (x : Option L1State) : (s.setL1 n line x).isl = s.isl := rfl
@[simp] theorem State.setL1_sec (n line : Nat) (x : Option L1State) : (s.setL1 n line x).sec = s.sec := rfl
@[simp] theorem State.setL1_stat (n line : Nat) (x : Option L1State) : (s.setL1 n line x).stat = s.stat := rfl
@[simp] theorem State.setL1_test (n line : Nat) (x : Option L1State) : (s.setL1 n line x).test = s.test := rfl
@[simp] theorem State.setL1_evt (n line : Nat) (x : Option L1State) : (s.setL1 n line x).evt = s.evt := rfl
@[simp] theorem State.setL1_lcy (n line : Nat) (x : Option L1State) : (s.setL1 n line x).lcy = s.lcy := rfl
@[simp] theorem State.setL1_out (n line : Nat) (x : Option L1State) : (s.setL1 n line x).out = s.out := rfl
@[simp] theorem State.setL1_freeCtr (n line : Nat) (x : Option L1State) : (s.setL1 n line x).freeCtr = s.freeCtr := rfl
@[simp] theorem State.setL1_pending (n line : Nat) (x : Option L1State) : (s.setL1 n line x).pending = s.pending := rfl

@[simp] theorem State.tick_mbx (t : Nat) : (s.tick t).mbx = s.mbx := by unfold State.tick; split <;> [rfl; (split <;> rfl)]
@[simp] theorem State.tick_man (t : Nat) : (s.tick t).man = s.man := by unfold State.tick; split <;> [rfl; (split <;> rfl)]
@[simp] theorem State.tick_ins (t : Nat) : (s.tick t).ins = s.ins := by unfold State.tick; split <;> [rfl; (split <;> rfl)]
@[simp] theorem State.tick_cap (t : Nat) : (s.tick t).cap = s.cap := by unfold State.tick; split <;> [rfl; (split <;> rfl)]
@[simp] theorem State.tick_mem (t : Nat) : (s.tick t).mem = s.mem := by unfold State.tick; split <;> [rfl; (split <;> rfl)]
@[simp] theorem State.tick_lane (t : Nat) : (s.tick t).lane = s.lane := by unfold State.tick; split <;> [rfl; (split <;> rfl)]
@[simp] theorem State.tick_sea (t : Nat) : (s.tick t).sea = s.sea := by unfold State.tick; split <;> [rfl; (split <;> rfl)]
@[simp] theorem State.tick_fare (t : Nat) : (s.tick t).fare = s.fare := by unfold State.tick; split <;> [rfl; (split <;> rfl)]
@[simp] theorem State.tick_cart (t : Nat) : (s.tick t).cart = s.cart := by unfold State.tick; split <;> [rfl; (split <;> rfl)]
@[simp] theorem State.tick_aud (t : Nat) : (s.tick t).aud = s.aud := by unfold State.tick; split <;> [rfl; (split <;> rfl)]
@[simp] theorem State.tick_net (t : Nat) : (s.tick t).net = s.net := by unfold State.tick; split <;> [rfl; (split <;> rfl)]
@[simp] theorem State.tick_isl (t : Nat) : (s.tick t).isl = s.isl := by unfold State.tick; split <;> [rfl; (split <;> rfl)]
@[simp] theorem State.tick_sec (t : Nat) : (s.tick t).sec = s.sec := by unfold State.tick; split <;> [rfl; (split <;> rfl)]
@[simp] theorem State.tick_stat (t : Nat) : (s.tick t).stat = s.stat := by unfold State.tick; split <;> [rfl; (split <;> rfl)]
@[simp] theorem State.tick_test (t : Nat) : (s.tick t).test = s.test := by unfold State.tick; split <;> [rfl; (split <;> rfl)]
@[simp] theorem State.tick_evt (t : Nat) : (s.tick t).evt = s.evt := by unfold State.tick; split <;> [rfl; (split <;> rfl)]
@[simp] theorem State.tick_lcy (t : Nat) : (s.tick t).lcy = s.lcy := by unfold State.tick; split <;> [rfl; (split <;> rfl)]
@[simp] theorem State.tick_out (t : Nat) : (s.tick t).out = s.out := by unfold State.tick; split <;> [rfl; (split <;> rfl)]
@[simp] theorem State.tick_freeCtr (t : Nat) : (s.tick t).freeCtr = s.freeCtr := by unfold State.tick; split <;> [rfl; (split <;> rfl)]
@[simp] theorem State.tick_pending (t : Nat) : (s.tick t).pending = s.pending := by unfold State.tick; split <;> [rfl; (split <;> rfl)]
@[simp] theorem State.count_now (g n i b : Nat) : (s.count g n i b).now = s.now := by unfold State.count; split <;> rfl
@[simp] theorem State.count_mbx (g n i b : Nat) : (s.count g n i b).mbx = s.mbx := by unfold State.count; split <;> rfl
@[simp] theorem State.count_man (g n i b : Nat) : (s.count g n i b).man = s.man := by unfold State.count; split <;> rfl
@[simp] theorem State.count_ins (g n i b : Nat) : (s.count g n i b).ins = s.ins := by unfold State.count; split <;> rfl
@[simp] theorem State.count_cap (g n i b : Nat) : (s.count g n i b).cap = s.cap := by unfold State.count; split <;> rfl
@[simp] theorem State.count_mem (g n i b : Nat) : (s.count g n i b).mem = s.mem := by unfold State.count; split <;> rfl
@[simp] theorem State.count_lane (g n i b : Nat) : (s.count g n i b).lane = s.lane := by unfold State.count; split <;> rfl
@[simp] theorem State.count_sea (g n i b : Nat) : (s.count g n i b).sea = s.sea := by unfold State.count; split <;> rfl
@[simp] theorem State.count_fare (g n i b : Nat) : (s.count g n i b).fare = s.fare := by unfold State.count; split <;> rfl
@[simp] theorem State.count_cart (g n i b : Nat) : (s.count g n i b).cart = s.cart := by unfold State.count; split <;> rfl
@[simp] theorem State.count_tim (g n i b : Nat) : (s.count g n i b).tim = s.tim := by unfold State.count; split <;> rfl
@[simp] theorem State.count_aud (g n i b : Nat) : (s.count g n i b).aud = s.aud := by unfold State.count; split <;> rfl
@[simp] theorem State.count_net (g n i b : Nat) : (s.count g n i b).net = s.net := by unfold State.count; split <;> rfl
@[simp] theorem State.count_isl (g n i b : Nat) : (s.count g n i b).isl = s.isl := by unfold State.count; split <;> rfl
@[simp] theorem State.count_sec (g n i b : Nat) : (s.count g n i b).sec = s.sec := by unfold State.count; split <;> rfl
@[simp] theorem State.count_test (g n i b : Nat) : (s.count g n i b).test = s.test := by unfold State.count; split <;> rfl
@[simp] theorem State.count_evt (g n i b : Nat) : (s.count g n i b).evt = s.evt := by unfold State.count; split <;> rfl
@[simp] theorem State.count_lcy (g n i b : Nat) : (s.count g n i b).lcy = s.lcy := by unfold State.count; split <;> rfl
@[simp] theorem State.count_out (g n i b : Nat) : (s.count g n i b).out = s.out := by unfold State.count; split <;> rfl
@[simp] theorem State.count_freeCtr (g n i b : Nat) : (s.count g n i b).freeCtr = s.freeCtr := by unfold State.count; split <;> rfl
@[simp] theorem State.count_pending (g n i b : Nat) : (s.count g n i b).pending = s.pending := by unfold State.count; split <;> rfl
@[simp] theorem State.free_now : s.free.2.now = s.now := rfl
@[simp] theorem State.free_mbx : s.free.2.mbx = s.mbx := rfl
@[simp] theorem State.free_man : s.free.2.man = s.man := rfl
@[simp] theorem State.free_ins : s.free.2.ins = s.ins := rfl
@[simp] theorem State.free_cap : s.free.2.cap = s.cap := rfl
@[simp] theorem State.free_mem : s.free.2.mem = s.mem := rfl
@[simp] theorem State.free_lane : s.free.2.lane = s.lane := rfl
@[simp] theorem State.free_sea : s.free.2.sea = s.sea := rfl
@[simp] theorem State.free_fare : s.free.2.fare = s.fare := rfl
@[simp] theorem State.free_cart : s.free.2.cart = s.cart := rfl
@[simp] theorem State.free_tim : s.free.2.tim = s.tim := rfl
@[simp] theorem State.free_aud : s.free.2.aud = s.aud := rfl
@[simp] theorem State.free_net : s.free.2.net = s.net := rfl
@[simp] theorem State.free_isl : s.free.2.isl = s.isl := rfl
@[simp] theorem State.free_sec : s.free.2.sec = s.sec := rfl
@[simp] theorem State.free_stat : s.free.2.stat = s.stat := rfl
@[simp] theorem State.free_test : s.free.2.test = s.test := rfl
@[simp] theorem State.free_evt : s.free.2.evt = s.evt := rfl
@[simp] theorem State.free_lcy : s.free.2.lcy = s.lcy := rfl
@[simp] theorem State.free_out : s.free.2.out = s.out := rfl
@[simp] theorem State.free_pending : s.free.2.pending = s.pending := rfl

/-- Time stands or is the operand's, whichever is later. -/
theorem State.tick_now (t : Nat) : (s.tick t).now = max s.now t := by
  unfold State.tick
  split
  · omega
  · split <;> simp <;> omega

end Sys2Proof.Machine
end

