-- ==== Sys2Proof/Laws/Block.lean ====
section
/-! SUPPORT. The block mailbox: what a reply writes, what the taking of the next command changes, and what a block command
with its envelope does (Tables 2-8 and 2-9, R50, R54, R56 of 02_steward_mailboxes.md). -/

namespace Sys2Proof.Machine

/-! ### Accessors -/

@[simp] theorem State.page_modPage_same (s : State) (k : Nat) (f : Page → Page) : (s.modPage k f).page k = f (s.page k) := by
  simp [State.page, State.modPage]

theorem State.page_modPage_ne (s : State) {j k : Nat} (f : Page → Page) (h : j ≠ k) : (s.modPage j f).page k = s.page k := by
  simp [State.page, State.modPage, h]

@[simp] theorem State.page_modRec (s : State) (j k : Nat) (f : CmdRec → CmdRec) : (s.modRec j f).page k = s.page k := rfl

@[simp] theorem State.cmdRec_modRec_same (s : State) (k : Nat) (f : CmdRec → CmdRec) :
    (s.modRec k f).cmdRec k = f (s.cmdRec k) := by simp [State.cmdRec, State.modRec]

@[simp] theorem State.cmdRec_modPage (s : State) (j k : Nat) (f : Page → Page) : (s.modPage j f).cmdRec k = s.cmdRec k := rfl

theorem State.page_of_mbx {s s' : State} (h : s'.mbx = s.mbx) (k : Nat) : s'.page k = s.page k := by simp [State.page, h]

theorem State.cmdRec_of_mbx {s s' : State} (h : s'.mbx = s.mbx) (k : Nat) : s'.cmdRec k = s.cmdRec k := by simp [State.cmdRec, h]

@[simp] theorem State.page_tick (s : State) (t k : Nat) : (s.tick t).page k = s.page k := State.page_of_mbx (by simp) k

/-! ### Interrupts touch the function's vectors and the output only -/

theorem State.msix_frame (s : State) (fn v : Nat) :
    s.msix fn v = { s with ins := { s.ins with fns := (s.msix fn v).ins.fns }, out := (s.msix fn v).out } := by
  unfold State.msix
  dsimp only
  split <;> rfl

theorem State.mbxIrq_frame (s : State) (k : Nat) :
    s.mbxIrq k = { s with ins := { s.ins with fns := (s.mbxIrq k).ins.fns }, out := (s.mbxIrq k).out } := s.msix_frame _ _

@[simp] theorem State.mbxIrq_mbx (s : State) (k : Nat) : (s.mbxIrq k).mbx = s.mbx := by rw [State.mbxIrq_frame]

@[simp] theorem State.page_mbxIrq (s : State) (j k : Nat) : (s.mbxIrq j).page k = s.page k := State.page_of_mbx (by simp) k

/-! ### A notice -/

theorem State.notice_frame (s : State) (k : Nat) (w : Word) :
    s.notice k w = { s with mbx := { s.mbx with pages := (s.notice k w).mbx.pages }
                            ins := { s.ins with fns := (s.notice k w).ins.fns }, out := (s.notice k w).out } := by
  unfold State.notice
  dsimp only
  split
  · rw [State.mbxIrq_frame]; rfl
  · rfl

/-- A notice stands in MBX_S2H, S2H_FULL is set, and S2H_COLLIDE if it was set before (R46). -/
theorem State.page_notice (s : State) (k : Nat) (w : Word) :
    (s.notice k w).page k =
      { s.page k with s2h := w, s2hFull := true, s2hCollide := (s.page k).s2hCollide || (s.page k).s2hFull } := by
  unfold State.notice
  dsimp only
  split <;> simp

/-! ### The taking of the next command -/

/-- The taking changes pages, records and the order of the taking only. -/
theorem State.take_frame (s : State) :
    s.take = { s with mbx := { s.mbx with
      pages := s.take.mbx.pages, recs := s.take.mbx.recs, lastWasPf := s.take.mbx.lastWasPf
      lastTenant := s.take.mbx.lastTenant } } := by
  unfold State.take
  split
  · rfl
  · split
    · rfl
    · dsimp only; split <;> rfl

/-- A page that no command was posted on is not the one taken. -/
theorem State.nextPage_eligible (s : State) (k : Nat) (h : s.nextPage = some k) : s.eligible k = true := by
  unfold State.nextPage at h
  split at h
  · rename_i c; simp at c; cases h; exact c.1
  · split at h
    · rename_i t' e; cases h; exact List.find?_some e
    · split at h
      · rename_i c; cases h; exact c
      · cases h

/-- A page changes by the taking in TAKEN alone, and only if a command is posted on it. -/
theorem State.page_take (s : State) (k : Nat) :
    s.take.page k = s.page k ∨ (s.eligible k = true ∧ s.take.page k = { s.page k with taken := true }) := by
  unfold State.take
  split
  · exact .inl rfl
  · split
    · exact .inl rfl
    · rename_i t e
      by_cases h : t = k
      · subst h
        refine .inr ⟨s.nextPage_eligible t e, ?_⟩
        dsimp only; split <;> simp [State.page, State.modPage, State.modRec]
      · refine .inl ?_
        dsimp only; split <;> simp [State.page, State.modPage, State.modRec, h]

/-- The taking leaves a page alone on which no command is posted. -/
theorem State.page_take_of_idle (s : State) (k : Nat) (h : (s.page k).go = false) : s.take.page k = s.page k := by
  rcases s.page_take k with e | ⟨e, -⟩
  · exact e
  · simp [State.eligible, h] at e

/-! ### The reply -/

theorem State.writeReply_frame (s : State) (k : Nat) (ws : List Word) :
    s.writeReply k ws =
      { s with mbx := { s.mbx with pages := (s.writeReply k ws).mbx.pages }
               ins := { s.ins with fns := (s.writeReply k ws).ins.fns }, out := (s.writeReply k ws).out } := by
  unfold State.writeReply
  dsimp only
  split
  · rw [State.mbxIrq_frame]; rfl
  · rfl

/-- The reply's words fill MBX_BLK0 to MBX_BLK15, zeros beyond them; DONE rises, GO and TAKEN fall (R50). -/
theorem State.page_writeReply (s : State) (k : Nat) (ws : List Word) :
    (s.writeReply k ws).page k =
      { s.page k with blk := (ws ++ List.replicate 16 0).take 16, done := true, go := false, taken := false } := by
  unfold State.writeReply
  dsimp only
  split <;> simp

theorem State.complete_frame (s : State) (k st : Nat) (rs : List Word) :
    s.complete k st rs =
      { s with mbx := { s.mbx with pages := (s.complete k st rs).mbx.pages, recs := (s.complete k st rs).mbx.recs }
               ins := { s.ins with fns := (s.complete k st rs).ins.fns }, out := (s.complete k st rs).out } := by
  unfold State.complete
  dsimp only
  rw [State.writeReply_frame]
  rfl

/-- Words of a reply that a command's work gives (Table 2-8). -/
def replyOf (s : State) (k st : Nat) (rs : List Word) : List Word :=
  ((replyWord st (fld ((s.page k).blk.getD 0 0) 15 8) rs.length false :: rs) ++ List.replicate 16 0).take 16

theorem State.page_complete (s : State) (k st : Nat) (rs : List Word) :
    (s.complete k st rs).page k =
      { s.page k with blk := replyOf s k st rs, done := true, go := false, taken := false } := by
  unfold State.complete
  simp [State.page_writeReply, replyOf]

/-- A reply followed by the taking of the next command: the page, and the frame. -/
theorem State.page_complete_take (s : State) (k st : Nat) (rs : List Word) :
    (s.complete k st rs).take.page k =
      { s.page k with blk := replyOf s k st rs, done := true, go := false, taken := false } := by
  rw [State.page_take_of_idle _ _ (by rw [State.page_complete]), State.page_complete]

theorem State.complete_take_frame (s : State) (k st : Nat) (rs : List Word) :
    (s.complete k st rs).take =
      { s with mbx := { s.mbx with
                 pages := (s.complete k st rs).take.mbx.pages, recs := (s.complete k st rs).take.mbx.recs
                 lastWasPf := (s.complete k st rs).take.mbx.lastWasPf
                 lastTenant := (s.complete k st rs).take.mbx.lastTenant }
               ins := { s.ins with fns := (s.complete k st rs).take.ins.fns }
               out := (s.complete k st rs).take.out } := by
  rw [State.take_frame, State.complete_frame]

/-- A reply changes no page but its own. -/
theorem State.page_writeReply_ne (s : State) (k j : Nat) (ws : List Word) (h : j ≠ k) :
    (s.writeReply k ws).page j = s.page j := by
  unfold State.writeReply
  dsimp only
  split <;> simp [State.page_modPage_ne _ _ (Ne.symm h)]

theorem State.page_complete_ne (s : State) (k j st : Nat) (rs : List Word) (h : j ≠ k) :
    (s.complete k st rs).page j = s.page j := by
  unfold State.complete
  simp [State.page_writeReply_ne _ _ _ _ h]

/-! ### A block command with its envelope -/

/-- A command that stands TAKEN with a code, is no replay, and passes steps 2 to 8 of Table 2-9: its body answers. -/
theorem State.runWith_work (s : State) (d : CmdDef) (own needs : List Word → Bool)
    (pre : List Word → State → Except Nat State) (body : List Word → State → Answer) (t k : Nat) (io : HostIo) (a : List Word)
    (hr : (s.tick t).ready k d.code = true) (hn : (s.tick t).replay k = none)
    (hc : (s.tick t).precheck d own needs k io = .ok a) (hp : (d.pend && io.slow) = false) :
    s.runWith d own needs pre body t k io = State.answer k (body a (s.tick t)) := by
  simp [State.runWith, hr, hn, hc, hp]

end Sys2Proof.Machine
end

