-- ==== Sys2Proof/Laws/Frame.lean ====
section
/-! SUPPORT. What the shared operations change, each said once as a frame, and the fields they leave alone. -/

namespace Sys2Proof.Machine

/-- A fold keeps a relation to its start that every step keeps. -/
theorem foldl_rel {σ α : Type} (P : σ → σ → Prop) (hr : ∀ s, P s s) (ht : ∀ a b c, P a b → P b c → P a c) (f : σ → α → σ)
    (hf : ∀ s x, P s (f s x)) (l : List α) (s : σ) : P s (l.foldl f s) := by
  induction l generalizing s with
  | nil => exact hr s
  | cons x r ih => exact ht _ _ _ (hf s x) (ih _)

theorem State.msixFlush_frame (s : State) (fn : Nat) :
    (s.msixFlush fn) =
      { s with ins := (s.msixFlush fn).ins, out := (s.msixFlush fn).out } := by
  unfold State.msixFlush
  dsimp only
  split
  · rfl
  · refine foldl_rel (fun (a b : State) => b = { a with ins := b.ins, out := b.out }) (fun _ => rfl) ?_ _ ?_ _ _
    · intro a b c h1 h2; rw [h2, h1]
    · intro a p; split <;> rfl
@[simp] theorem State.msixFlush_now (s : State) (fn : Nat) : (s.msixFlush fn).now = s.now := by rw [State.msixFlush_frame]
@[simp] theorem State.msixFlush_mbx (s : State) (fn : Nat) : (s.msixFlush fn).mbx = s.mbx := by rw [State.msixFlush_frame]
@[simp] theorem State.msixFlush_man (s : State) (fn : Nat) : (s.msixFlush fn).man = s.man := by rw [State.msixFlush_frame]
@[simp] theorem State.msixFlush_cap (s : State) (fn : Nat) : (s.msixFlush fn).cap = s.cap := by rw [State.msixFlush_frame]
@[simp] theorem State.msixFlush_mem (s : State) (fn : Nat) : (s.msixFlush fn).mem = s.mem := by rw [State.msixFlush_frame]
@[simp] theorem State.msixFlush_lane (s : State) (fn : Nat) : (s.msixFlush fn).lane = s.lane := by rw [State.msixFlush_frame]
@[simp] theorem State.msixFlush_sea (s : State) (fn : Nat) : (s.msixFlush fn).sea = s.sea := by rw [State.msixFlush_frame]
@[simp] theorem State.msixFlush_fare (s : State) (fn : Nat) : (s.msixFlush fn).fare = s.fare := by rw [State.msixFlush_frame]
@[simp] theorem State.msixFlush_cart (s : State) (fn : Nat) : (s.msixFlush fn).cart = s.cart := by rw [State.msixFlush_frame]
@[simp] theorem State.msixFlush_tim (s : State) (fn : Nat) : (s.msixFlush fn).tim = s.tim := by rw [State.msixFlush_frame]
@[simp] theorem State.msixFlush_aud (s : State) (fn : Nat) : (s.msixFlush fn).aud = s.aud := by rw [State.msixFlush_frame]
@[simp] theorem State.msixFlush_net (s : State) (fn : Nat) : (s.msixFlush fn).net = s.net := by rw [State.msixFlush_frame]
@[simp] theorem State.msixFlush_isl (s : State) (fn : Nat) : (s.msixFlush fn).isl = s.isl := by rw [State.msixFlush_frame]
@[simp] theorem State.msixFlush_sec (s : State) (fn : Nat) : (s.msixFlush fn).sec = s.sec := by rw [State.msixFlush_frame]
@[simp] theorem State.msixFlush_stat (s : State) (fn : Nat) : (s.msixFlush fn).stat = s.stat := by rw [State.msixFlush_frame]
@[simp] theorem State.msixFlush_test (s : State) (fn : Nat) : (s.msixFlush fn).test = s.test := by rw [State.msixFlush_frame]
@[simp] theorem State.msixFlush_evt (s : State) (fn : Nat) : (s.msixFlush fn).evt = s.evt := by rw [State.msixFlush_frame]
@[simp] theorem State.msixFlush_lcy (s : State) (fn : Nat) : (s.msixFlush fn).lcy = s.lcy := by rw [State.msixFlush_frame]
@[simp] theorem State.msixFlush_freeCtr (s : State) (fn : Nat) : (s.msixFlush fn).freeCtr = s.freeCtr := by rw [State.msixFlush_frame]
@[simp] theorem State.msixFlush_pending (s : State) (fn : Nat) : (s.msixFlush fn).pending = s.pending := by rw [State.msixFlush_frame]

theorem State.signal_frame (s : State) (tag v : Nat) :
    (s.signal tag v) =
      { s with ins := (s.signal tag v).ins, out := (s.signal tag v).out } := by
  unfold State.signal; rw [State.msix_frame]
@[simp] theorem State.signal_now (s : State) (tag v : Nat) : (s.signal tag v).now = s.now := by rw [State.signal_frame]
@[simp] theorem State.signal_mbx (s : State) (tag v : Nat) : (s.signal tag v).mbx = s.mbx := by rw [State.signal_frame]
@[simp] theorem State.signal_man (s : State) (tag v : Nat) : (s.signal tag v).man = s.man := by rw [State.signal_frame]
@[simp] theorem State.signal_cap (s : State) (tag v : Nat) : (s.signal tag v).cap = s.cap := by rw [State.signal_frame]
@[simp] theorem State.signal_mem (s : State) (tag v : Nat) : (s.signal tag v).mem = s.mem := by rw [State.signal_frame]
@[simp] theorem State.signal_lane (s : State) (tag v : Nat) : (s.signal tag v).lane = s.lane := by rw [State.signal_frame]
@[simp] theorem State.signal_sea (s : State) (tag v : Nat) : (s.signal tag v).sea = s.sea := by rw [State.signal_frame]
@[simp] theorem State.signal_fare (s : State) (tag v : Nat) : (s.signal tag v).fare = s.fare := by rw [State.signal_frame]
@[simp] theorem State.signal_cart (s : State) (tag v : Nat) : (s.signal tag v).cart = s.cart := by rw [State.signal_frame]
@[simp] theorem State.signal_tim (s : State) (tag v : Nat) : (s.signal tag v).tim = s.tim := by rw [State.signal_frame]
@[simp] theorem State.signal_aud (s : State) (tag v : Nat) : (s.signal tag v).aud = s.aud := by rw [State.signal_frame]
@[simp] theorem State.signal_net (s : State) (tag v : Nat) : (s.signal tag v).net = s.net := by rw [State.signal_frame]
@[simp] theorem State.signal_isl (s : State) (tag v : Nat) : (s.signal tag v).isl = s.isl := by rw [State.signal_frame]
@[simp] theorem State.signal_sec (s : State) (tag v : Nat) : (s.signal tag v).sec = s.sec := by rw [State.signal_frame]
@[simp] theorem State.signal_stat (s : State) (tag v : Nat) : (s.signal tag v).stat = s.stat := by rw [State.signal_frame]
@[simp] theorem State.signal_test (s : State) (tag v : Nat) : (s.signal tag v).test = s.test := by rw [State.signal_frame]
@[simp] theorem State.signal_evt (s : State) (tag v : Nat) : (s.signal tag v).evt = s.evt := by rw [State.signal_frame]
@[simp] theorem State.signal_lcy (s : State) (tag v : Nat) : (s.signal tag v).lcy = s.lcy := by rw [State.signal_frame]
@[simp] theorem State.signal_freeCtr (s : State) (tag v : Nat) : (s.signal tag v).freeCtr = s.freeCtr := by rw [State.signal_frame]
@[simp] theorem State.signal_pending (s : State) (tag v : Nat) : (s.signal tag v).pending = s.pending := by rw [State.signal_frame]

theorem State.tlbTouch_frame (s : State) (tag iova len : Nat) :
    (s.tlbTouch tag iova len) =
      { s with ins := (s.tlbTouch tag iova len).ins } := by
  unfold State.tlbTouch
  dsimp only
  split <;> rfl
@[simp] theorem State.tlbTouch_now (s : State) (tag iova len : Nat) : (s.tlbTouch tag iova len).now = s.now := by rw [State.tlbTouch_frame]
@[simp] theorem State.tlbTouch_mbx (s : State) (tag iova len : Nat) : (s.tlbTouch tag iova len).mbx = s.mbx := by rw [State.tlbTouch_frame]
@[simp] theorem State.tlbTouch_man (s : State) (tag iova len : Nat) : (s.tlbTouch tag iova len).man = s.man := by rw [State.tlbTouch_frame]
@[simp] theorem State.tlbTouch_cap (s : State) (tag iova len : Nat) : (s.tlbTouch tag iova len).cap = s.cap := by rw [State.tlbTouch_frame]
@[simp] theorem State.tlbTouch_mem (s : State) (tag iova len : Nat) : (s.tlbTouch tag iova len).mem = s.mem := by rw [State.tlbTouch_frame]
@[simp] theorem State.tlbTouch_lane (s : State) (tag iova len : Nat) : (s.tlbTouch tag iova len).lane = s.lane := by rw [State.tlbTouch_frame]
@[simp] theorem State.tlbTouch_sea (s : State) (tag iova len : Nat) : (s.tlbTouch tag iova len).sea = s.sea := by rw [State.tlbTouch_frame]
@[simp] theorem State.tlbTouch_fare (s : State) (tag iova len : Nat) : (s.tlbTouch tag iova len).fare = s.fare := by rw [State.tlbTouch_frame]
@[simp] theorem State.tlbTouch_cart (s : State) (tag iova len : Nat) : (s.tlbTouch tag iova len).cart = s.cart := by rw [State.tlbTouch_frame]
@[simp] theorem State.tlbTouch_tim (s : State) (tag iova len : Nat) : (s.tlbTouch tag iova len).tim = s.tim := by rw [State.tlbTouch_frame]
@[simp] theorem State.tlbTouch_aud (s : State) (tag iova len : Nat) : (s.tlbTouch tag iova len).aud = s.aud := by rw [State.tlbTouch_frame]
@[simp] theorem State.tlbTouch_net (s : State) (tag iova len : Nat) : (s.tlbTouch tag iova len).net = s.net := by rw [State.tlbTouch_frame]
@[simp] theorem State.tlbTouch_isl (s : State) (tag iova len : Nat) : (s.tlbTouch tag iova len).isl = s.isl := by rw [State.tlbTouch_frame]
@[simp] theorem State.tlbTouch_sec (s : State) (tag iova len : Nat) : (s.tlbTouch tag iova len).sec = s.sec := by rw [State.tlbTouch_frame]
@[simp] theorem State.tlbTouch_stat (s : State) (tag iova len : Nat) : (s.tlbTouch tag iova len).stat = s.stat := by rw [State.tlbTouch_frame]
@[simp] theorem State.tlbTouch_test (s : State) (tag iova len : Nat) : (s.tlbTouch tag iova len).test = s.test := by rw [State.tlbTouch_frame]
@[simp] theorem State.tlbTouch_evt (s : State) (tag iova len : Nat) : (s.tlbTouch tag iova len).evt = s.evt := by rw [State.tlbTouch_frame]
@[simp] theorem State.tlbTouch_lcy (s : State) (tag iova len : Nat) : (s.tlbTouch tag iova len).lcy = s.lcy := by rw [State.tlbTouch_frame]
@[simp] theorem State.tlbTouch_out (s : State) (tag iova len : Nat) : (s.tlbTouch tag iova len).out = s.out := by rw [State.tlbTouch_frame]
@[simp] theorem State.tlbTouch_freeCtr (s : State) (tag iova len : Nat) : (s.tlbTouch tag iova len).freeCtr = s.freeCtr := by rw [State.tlbTouch_frame]
@[simp] theorem State.tlbTouch_pending (s : State) (tag iova len : Nat) : (s.tlbTouch tag iova len).pending = s.pending := by rw [State.tlbTouch_frame]

theorem State.dmaOut_frame (s : State) (tag iova : Nat) (b : List Byte) :
    (s.dmaOut tag iova b) =
      { s with ins := (s.dmaOut tag iova b).ins, out := (s.dmaOut tag iova b).out } := by
  unfold State.dmaOut State.emitOut; rw [State.tlbTouch_frame]
@[simp] theorem State.dmaOut_now (s : State) (tag iova : Nat) (b : List Byte) : (s.dmaOut tag iova b).now = s.now := by rw [State.dmaOut_frame]
@[simp] theorem State.dmaOut_mbx (s : State) (tag iova : Nat) (b : List Byte) : (s.dmaOut tag iova b).mbx = s.mbx := by rw [State.dmaOut_frame]
@[simp] theorem State.dmaOut_man (s : State) (tag iova : Nat) (b : List Byte) : (s.dmaOut tag iova b).man = s.man := by rw [State.dmaOut_frame]
@[simp] theorem State.dmaOut_cap (s : State) (tag iova : Nat) (b : List Byte) : (s.dmaOut tag iova b).cap = s.cap := by rw [State.dmaOut_frame]
@[simp] theorem State.dmaOut_mem (s : State) (tag iova : Nat) (b : List Byte) : (s.dmaOut tag iova b).mem = s.mem := by rw [State.dmaOut_frame]
@[simp] theorem State.dmaOut_lane (s : State) (tag iova : Nat) (b : List Byte) : (s.dmaOut tag iova b).lane = s.lane := by rw [State.dmaOut_frame]
@[simp] theorem State.dmaOut_sea (s : State) (tag iova : Nat) (b : List Byte) : (s.dmaOut tag iova b).sea = s.sea := by rw [State.dmaOut_frame]
@[simp] theorem State.dmaOut_fare (s : State) (tag iova : Nat) (b : List Byte) : (s.dmaOut tag iova b).fare = s.fare := by rw [State.dmaOut_frame]
@[simp] theorem State.dmaOut_cart (s : State) (tag iova : Nat) (b : List Byte) : (s.dmaOut tag iova b).cart = s.cart := by rw [State.dmaOut_frame]
@[simp] theorem State.dmaOut_tim (s : State) (tag iova : Nat) (b : List Byte) : (s.dmaOut tag iova b).tim = s.tim := by rw [State.dmaOut_frame]
@[simp] theorem State.dmaOut_aud (s : State) (tag iova : Nat) (b : List Byte) : (s.dmaOut tag iova b).aud = s.aud := by rw [State.dmaOut_frame]
@[simp] theorem State.dmaOut_net (s : State) (tag iova : Nat) (b : List Byte) : (s.dmaOut tag iova b).net = s.net := by rw [State.dmaOut_frame]
@[simp] theorem State.dmaOut_isl (s : State) (tag iova : Nat) (b : List Byte) : (s.dmaOut tag iova b).isl = s.isl := by rw [State.dmaOut_frame]
@[simp] theorem State.dmaOut_sec (s : State) (tag iova : Nat) (b : List Byte) : (s.dmaOut tag iova b).sec = s.sec := by rw [State.dmaOut_frame]
@[simp] theorem State.dmaOut_stat (s : State) (tag iova : Nat) (b : List Byte) : (s.dmaOut tag iova b).stat = s.stat := by rw [State.dmaOut_frame]
@[simp] theorem State.dmaOut_test (s : State) (tag iova : Nat) (b : List Byte) : (s.dmaOut tag iova b).test = s.test := by rw [State.dmaOut_frame]
@[simp] theorem State.dmaOut_evt (s : State) (tag iova : Nat) (b : List Byte) : (s.dmaOut tag iova b).evt = s.evt := by rw [State.dmaOut_frame]
@[simp] theorem State.dmaOut_lcy (s : State) (tag iova : Nat) (b : List Byte) : (s.dmaOut tag iova b).lcy = s.lcy := by rw [State.dmaOut_frame]
@[simp] theorem State.dmaOut_freeCtr (s : State) (tag iova : Nat) (b : List Byte) : (s.dmaOut tag iova b).freeCtr = s.freeCtr := by rw [State.dmaOut_frame]
@[simp] theorem State.dmaOut_pending (s : State) (tag iova : Nat) (b : List Byte) : (s.dmaOut tag iova b).pending = s.pending := by rw [State.dmaOut_frame]

theorem State.dmaPhaseLast_frame (s : State) (tag iova : Nat) (b : List Byte) (n : Nat) :
    (s.dmaPhaseLast tag iova b n) =
      { s with ins := (s.dmaPhaseLast tag iova b n).ins, out := (s.dmaPhaseLast tag iova b n).out } := by
  unfold State.dmaPhaseLast; rw [State.dmaOut_frame, State.dmaOut_frame, State.dmaOut_frame]
@[simp] theorem State.dmaPhaseLast_now (s : State) (tag iova : Nat) (b : List Byte) (n : Nat) : (s.dmaPhaseLast tag iova b n).now = s.now := by rw [State.dmaPhaseLast_frame]
@[simp] theorem State.dmaPhaseLast_mbx (s : State) (tag iova : Nat) (b : List Byte) (n : Nat) : (s.dmaPhaseLast tag iova b n).mbx = s.mbx := by rw [State.dmaPhaseLast_frame]
@[simp] theorem State.dmaPhaseLast_man (s : State) (tag iova : Nat) (b : List Byte) (n : Nat) : (s.dmaPhaseLast tag iova b n).man = s.man := by rw [State.dmaPhaseLast_frame]
@[simp] theorem State.dmaPhaseLast_cap (s : State) (tag iova : Nat) (b : List Byte) (n : Nat) : (s.dmaPhaseLast tag iova b n).cap = s.cap := by rw [State.dmaPhaseLast_frame]
@[simp] theorem State.dmaPhaseLast_mem (s : State) (tag iova : Nat) (b : List Byte) (n : Nat) : (s.dmaPhaseLast tag iova b n).mem = s.mem := by rw [State.dmaPhaseLast_frame]
@[simp] theorem State.dmaPhaseLast_lane (s : State) (tag iova : Nat) (b : List Byte) (n : Nat) : (s.dmaPhaseLast tag iova b n).lane = s.lane := by rw [State.dmaPhaseLast_frame]
@[simp] theorem State.dmaPhaseLast_sea (s : State) (tag iova : Nat) (b : List Byte) (n : Nat) : (s.dmaPhaseLast tag iova b n).sea = s.sea := by rw [State.dmaPhaseLast_frame]
@[simp] theorem State.dmaPhaseLast_fare (s : State) (tag iova : Nat) (b : List Byte) (n : Nat) : (s.dmaPhaseLast tag iova b n).fare = s.fare := by rw [State.dmaPhaseLast_frame]
@[simp] theorem State.dmaPhaseLast_cart (s : State) (tag iova : Nat) (b : List Byte) (n : Nat) : (s.dmaPhaseLast tag iova b n).cart = s.cart := by rw [State.dmaPhaseLast_frame]
@[simp] theorem State.dmaPhaseLast_tim (s : State) (tag iova : Nat) (b : List Byte) (n : Nat) : (s.dmaPhaseLast tag iova b n).tim = s.tim := by rw [State.dmaPhaseLast_frame]
@[simp] theorem State.dmaPhaseLast_aud (s : State) (tag iova : Nat) (b : List Byte) (n : Nat) : (s.dmaPhaseLast tag iova b n).aud = s.aud := by rw [State.dmaPhaseLast_frame]
@[simp] theorem State.dmaPhaseLast_net (s : State) (tag iova : Nat) (b : List Byte) (n : Nat) : (s.dmaPhaseLast tag iova b n).net = s.net := by rw [State.dmaPhaseLast_frame]
@[simp] theorem State.dmaPhaseLast_isl (s : State) (tag iova : Nat) (b : List Byte) (n : Nat) : (s.dmaPhaseLast tag iova b n).isl = s.isl := by rw [State.dmaPhaseLast_frame]
@[simp] theorem State.dmaPhaseLast_sec (s : State) (tag iova : Nat) (b : List Byte) (n : Nat) : (s.dmaPhaseLast tag iova b n).sec = s.sec := by rw [State.dmaPhaseLast_frame]
@[simp] theorem State.dmaPhaseLast_stat (s : State) (tag iova : Nat) (b : List Byte) (n : Nat) : (s.dmaPhaseLast tag iova b n).stat = s.stat := by rw [State.dmaPhaseLast_frame]
@[simp] theorem State.dmaPhaseLast_test (s : State) (tag iova : Nat) (b : List Byte) (n : Nat) : (s.dmaPhaseLast tag iova b n).test = s.test := by rw [State.dmaPhaseLast_frame]
@[simp] theorem State.dmaPhaseLast_evt (s : State) (tag iova : Nat) (b : List Byte) (n : Nat) : (s.dmaPhaseLast tag iova b n).evt = s.evt := by rw [State.dmaPhaseLast_frame]
@[simp] theorem State.dmaPhaseLast_lcy (s : State) (tag iova : Nat) (b : List Byte) (n : Nat) : (s.dmaPhaseLast tag iova b n).lcy = s.lcy := by rw [State.dmaPhaseLast_frame]
@[simp] theorem State.dmaPhaseLast_freeCtr (s : State) (tag iova : Nat) (b : List Byte) (n : Nat) : (s.dmaPhaseLast tag iova b n).freeCtr = s.freeCtr := by rw [State.dmaPhaseLast_frame]
@[simp] theorem State.dmaPhaseLast_pending (s : State) (tag iova : Nat) (b : List Byte) (n : Nat) : (s.dmaPhaseLast tag iova b n).pending = s.pending := by rw [State.dmaPhaseLast_frame]

theorem State.countMasked_frame (s : State) (tag : Nat) :
    (s.countMasked tag) =
      { s with evt := (s.countMasked tag).evt } := by
  rfl
@[simp] theorem State.countMasked_now (s : State) (tag : Nat) : (s.countMasked tag).now = s.now := by rw [State.countMasked_frame]
@[simp] theorem State.countMasked_mbx (s : State) (tag : Nat) : (s.countMasked tag).mbx = s.mbx := by rw [State.countMasked_frame]
@[simp] theorem State.countMasked_man (s : State) (tag : Nat) : (s.countMasked tag).man = s.man := by rw [State.countMasked_frame]
@[simp] theorem State.countMasked_ins (s : State) (tag : Nat) : (s.countMasked tag).ins = s.ins := by rw [State.countMasked_frame]
@[simp] theorem State.countMasked_cap (s : State) (tag : Nat) : (s.countMasked tag).cap = s.cap := by rw [State.countMasked_frame]
@[simp] theorem State.countMasked_mem (s : State) (tag : Nat) : (s.countMasked tag).mem = s.mem := by rw [State.countMasked_frame]
@[simp] theorem State.countMasked_lane (s : State) (tag : Nat) : (s.countMasked tag).lane = s.lane := by rw [State.countMasked_frame]
@[simp] theorem State.countMasked_sea (s : State) (tag : Nat) : (s.countMasked tag).sea = s.sea := by rw [State.countMasked_frame]
@[simp] theorem State.countMasked_fare (s : State) (tag : Nat) : (s.countMasked tag).fare = s.fare := by rw [State.countMasked_frame]
@[simp] theorem State.countMasked_cart (s : State) (tag : Nat) : (s.countMasked tag).cart = s.cart := by rw [State.countMasked_frame]
@[simp] theorem State.countMasked_tim (s : State) (tag : Nat) : (s.countMasked tag).tim = s.tim := by rw [State.countMasked_frame]
@[simp] theorem State.countMasked_aud (s : State) (tag : Nat) : (s.countMasked tag).aud = s.aud := by rw [State.countMasked_frame]
@[simp] theorem State.countMasked_net (s : State) (tag : Nat) : (s.countMasked tag).net = s.net := by rw [State.countMasked_frame]
@[simp] theorem State.countMasked_isl (s : State) (tag : Nat) : (s.countMasked tag).isl = s.isl := by rw [State.countMasked_frame]
@[simp] theorem State.countMasked_sec (s : State) (tag : Nat) : (s.countMasked tag).sec = s.sec := by rw [State.countMasked_frame]
@[simp] theorem State.countMasked_stat (s : State) (tag : Nat) : (s.countMasked tag).stat = s.stat := by rw [State.countMasked_frame]
@[simp] theorem State.countMasked_test (s : State) (tag : Nat) : (s.countMasked tag).test = s.test := by rw [State.countMasked_frame]
@[simp] theorem State.countMasked_lcy (s : State) (tag : Nat) : (s.countMasked tag).lcy = s.lcy := by rw [State.countMasked_frame]
@[simp] theorem State.countMasked_out (s : State) (tag : Nat) : (s.countMasked tag).out = s.out := by rw [State.countMasked_frame]
@[simp] theorem State.countMasked_freeCtr (s : State) (tag : Nat) : (s.countMasked tag).freeCtr = s.freeCtr := by rw [State.countMasked_frame]
@[simp] theorem State.countMasked_pending (s : State) (tag : Nat) : (s.countMasked tag).pending = s.pending := by rw [State.countMasked_frame]

theorem State.raiseTo_frame (s : State) (c src tag : Nat) (d : Word) (e : Option (Word × Word × Word)) (l : List (Nat × Bool)) :
    (s.raiseTo c src tag d e l) =
      { s with evt := (s.raiseTo c src tag d e l).evt } := by
  unfold State.raiseTo
  dsimp only
  split
  · rfl
  · generalize hx : List.foldl _ s _ = x
    have hf : x = { s with evt := x.evt } := by
      rw [← hx]
      refine foldl_rel (fun (a b : State) => b = { a with evt := b.evt }) (fun _ => rfl) ?_ _ ?_ _ _
      · intro a b c h1 h2; rw [h2, h1]
      · intro a p; rfl
    split
    · exact hf
    · split
      · rw [hf]
      · rw [hf]
@[simp] theorem State.raiseTo_now (s : State) (c src tag : Nat) (d : Word) (e : Option (Word × Word × Word)) (l : List (Nat × Bool)) : (s.raiseTo c src tag d e l).now = s.now := by rw [State.raiseTo_frame]
@[simp] theorem State.raiseTo_mbx (s : State) (c src tag : Nat) (d : Word) (e : Option (Word × Word × Word)) (l : List (Nat × Bool)) : (s.raiseTo c src tag d e l).mbx = s.mbx := by rw [State.raiseTo_frame]
@[simp] theorem State.raiseTo_man (s : State) (c src tag : Nat) (d : Word) (e : Option (Word × Word × Word)) (l : List (Nat × Bool)) : (s.raiseTo c src tag d e l).man = s.man := by rw [State.raiseTo_frame]
@[simp] theorem State.raiseTo_ins (s : State) (c src tag : Nat) (d : Word) (e : Option (Word × Word × Word)) (l : List (Nat × Bool)) : (s.raiseTo c src tag d e l).ins = s.ins := by rw [State.raiseTo_frame]
@[simp] theorem State.raiseTo_cap (s : State) (c src tag : Nat) (d : Word) (e : Option (Word × Word × Word)) (l : List (Nat × Bool)) : (s.raiseTo c src tag d e l).cap = s.cap := by rw [State.raiseTo_frame]
@[simp] theorem State.raiseTo_mem (s : State) (c src tag : Nat) (d : Word) (e : Option (Word × Word × Word)) (l : List (Nat × Bool)) : (s.raiseTo c src tag d e l).mem = s.mem := by rw [State.raiseTo_frame]
@[simp] theorem State.raiseTo_lane (s : State) (c src tag : Nat) (d : Word) (e : Option (Word × Word × Word)) (l : List (Nat × Bool)) : (s.raiseTo c src tag d e l).lane = s.lane := by rw [State.raiseTo_frame]
@[simp] theorem State.raiseTo_sea (s : State) (c src tag : Nat) (d : Word) (e : Option (Word × Word × Word)) (l : List (Nat × Bool)) : (s.raiseTo c src tag d e l).sea = s.sea := by rw [State.raiseTo_frame]
@[simp] theorem State.raiseTo_fare (s : State) (c src tag : Nat) (d : Word) (e : Option (Word × Word × Word)) (l : List (Nat × Bool)) : (s.raiseTo c src tag d e l).fare = s.fare := by rw [State.raiseTo_frame]
@[simp] theorem State.raiseTo_cart (s : State) (c src tag : Nat) (d : Word) (e : Option (Word × Word × Word)) (l : List (Nat × Bool)) : (s.raiseTo c src tag d e l).cart = s.cart := by rw [State.raiseTo_frame]
@[simp] theorem State.raiseTo_tim (s : State) (c src tag : Nat) (d : Word) (e : Option (Word × Word × Word)) (l : List (Nat × Bool)) : (s.raiseTo c src tag d e l).tim = s.tim := by rw [State.raiseTo_frame]
@[simp] theorem State.raiseTo_aud (s : State) (c src tag : Nat) (d : Word) (e : Option (Word × Word × Word)) (l : List (Nat × Bool)) : (s.raiseTo c src tag d e l).aud = s.aud := by rw [State.raiseTo_frame]
@[simp] theorem State.raiseTo_net (s : State) (c src tag : Nat) (d : Word) (e : Option (Word × Word × Word)) (l : List (Nat × Bool)) : (s.raiseTo c src tag d e l).net = s.net := by rw [State.raiseTo_frame]
@[simp] theorem State.raiseTo_isl (s : State) (c src tag : Nat) (d : Word) (e : Option (Word × Word × Word)) (l : List (Nat × Bool)) : (s.raiseTo c src tag d e l).isl = s.isl := by rw [State.raiseTo_frame]
@[simp] theorem State.raiseTo_sec (s : State) (c src tag : Nat) (d : Word) (e : Option (Word × Word × Word)) (l : List (Nat × Bool)) : (s.raiseTo c src tag d e l).sec = s.sec := by rw [State.raiseTo_frame]
@[simp] theorem State.raiseTo_stat (s : State) (c src tag : Nat) (d : Word) (e : Option (Word × Word × Word)) (l : List (Nat × Bool)) : (s.raiseTo c src tag d e l).stat = s.stat := by rw [State.raiseTo_frame]
@[simp] theorem State.raiseTo_test (s : State) (c src tag : Nat) (d : Word) (e : Option (Word × Word × Word)) (l : List (Nat × Bool)) : (s.raiseTo c src tag d e l).test = s.test := by rw [State.raiseTo_frame]
@[simp] theorem State.raiseTo_lcy (s : State) (c src tag : Nat) (d : Word) (e : Option (Word × Word × Word)) (l : List (Nat × Bool)) : (s.raiseTo c src tag d e l).lcy = s.lcy := by rw [State.raiseTo_frame]
@[simp] theorem State.raiseTo_out (s : State) (c src tag : Nat) (d : Word) (e : Option (Word × Word × Word)) (l : List (Nat × Bool)) : (s.raiseTo c src tag d e l).out = s.out := by rw [State.raiseTo_frame]
@[simp] theorem State.raiseTo_freeCtr (s : State) (c src tag : Nat) (d : Word) (e : Option (Word × Word × Word)) (l : List (Nat × Bool)) : (s.raiseTo c src tag d e l).freeCtr = s.freeCtr := by rw [State.raiseTo_frame]
@[simp] theorem State.raiseTo_pending (s : State) (c src tag : Nat) (d : Word) (e : Option (Word × Word × Word)) (l : List (Nat × Bool)) : (s.raiseTo c src tag d e l).pending = s.pending := by rw [State.raiseTo_frame]

theorem State.raise_frame (s : State) (c src o tag d : Nat) (e : Option (Word × Word × Word)) :
    (s.raise c src o tag d e) =
      { s with evt := (s.raise c src o tag d e).evt, out := (s.raise c src o tag d e).out } := by
  unfold State.raise
  split
  · rfl
  · rw [State.raiseTo_frame]; rfl
@[simp] theorem State.raise_now (s : State) (c src o tag d : Nat) (e : Option (Word × Word × Word)) : (s.raise c src o tag d e).now = s.now := by rw [State.raise_frame]
@[simp] theorem State.raise_mbx (s : State) (c src o tag d : Nat) (e : Option (Word × Word × Word)) : (s.raise c src o tag d e).mbx = s.mbx := by rw [State.raise_frame]
@[simp] theorem State.raise_man (s : State) (c src o tag d : Nat) (e : Option (Word × Word × Word)) : (s.raise c src o tag d e).man = s.man := by rw [State.raise_frame]
@[simp] theorem State.raise_ins (s : State) (c src o tag d : Nat) (e : Option (Word × Word × Word)) : (s.raise c src o tag d e).ins = s.ins := by rw [State.raise_frame]
@[simp] theorem State.raise_cap (s : State) (c src o tag d : Nat) (e : Option (Word × Word × Word)) : (s.raise c src o tag d e).cap = s.cap := by rw [State.raise_frame]
@[simp] theorem State.raise_mem (s : State) (c src o tag d : Nat) (e : Option (Word × Word × Word)) : (s.raise c src o tag d e).mem = s.mem := by rw [State.raise_frame]
@[simp] theorem State.raise_lane (s : State) (c src o tag d : Nat) (e : Option (Word × Word × Word)) : (s.raise c src o tag d e).lane = s.lane := by rw [State.raise_frame]
@[simp] theorem State.raise_sea (s : State) (c src o tag d : Nat) (e : Option (Word × Word × Word)) : (s.raise c src o tag d e).sea = s.sea := by rw [State.raise_frame]
@[simp] theorem State.raise_fare (s : State) (c src o tag d : Nat) (e : Option (Word × Word × Word)) : (s.raise c src o tag d e).fare = s.fare := by rw [State.raise_frame]
@[simp] theorem State.raise_cart (s : State) (c src o tag d : Nat) (e : Option (Word × Word × Word)) : (s.raise c src o tag d e).cart = s.cart := by rw [State.raise_frame]
@[simp] theorem State.raise_tim (s : State) (c src o tag d : Nat) (e : Option (Word × Word × Word)) : (s.raise c src o tag d e).tim = s.tim := by rw [State.raise_frame]
@[simp] theorem State.raise_aud (s : State) (c src o tag d : Nat) (e : Option (Word × Word × Word)) : (s.raise c src o tag d e).aud = s.aud := by rw [State.raise_frame]
@[simp] theorem State.raise_net (s : State) (c src o tag d : Nat) (e : Option (Word × Word × Word)) : (s.raise c src o tag d e).net = s.net := by rw [State.raise_frame]
@[simp] theorem State.raise_isl (s : State) (c src o tag d : Nat) (e : Option (Word × Word × Word)) : (s.raise c src o tag d e).isl = s.isl := by rw [State.raise_frame]
@[simp] theorem State.raise_sec (s : State) (c src o tag d : Nat) (e : Option (Word × Word × Word)) : (s.raise c src o tag d e).sec = s.sec := by rw [State.raise_frame]
@[simp] theorem State.raise_stat (s : State) (c src o tag d : Nat) (e : Option (Word × Word × Word)) : (s.raise c src o tag d e).stat = s.stat := by rw [State.raise_frame]
@[simp] theorem State.raise_test (s : State) (c src o tag d : Nat) (e : Option (Word × Word × Word)) : (s.raise c src o tag d e).test = s.test := by rw [State.raise_frame]
@[simp] theorem State.raise_lcy (s : State) (c src o tag d : Nat) (e : Option (Word × Word × Word)) : (s.raise c src o tag d e).lcy = s.lcy := by rw [State.raise_frame]
@[simp] theorem State.raise_freeCtr (s : State) (c src o tag d : Nat) (e : Option (Word × Word × Word)) : (s.raise c src o tag d e).freeCtr = s.freeCtr := by rw [State.raise_frame]
@[simp] theorem State.raise_pending (s : State) (c src o tag d : Nat) (e : Option (Word × Word × Word)) : (s.raise c src o tag d e).pending = s.pending := by rw [State.raise_frame]

theorem State.raiseDev_frame (s : State) (c src d : Nat) (e : Option (Word × Word × Word)) :
    (s.raiseDev c src d e) =
      { s with evt := (s.raiseDev c src d e).evt, out := (s.raiseDev c src d e).out } := by
  unfold State.raiseDev; rw [State.raise_frame]
@[simp] theorem State.raiseDev_now (s : State) (c src d : Nat) (e : Option (Word × Word × Word)) : (s.raiseDev c src d e).now = s.now := by rw [State.raiseDev_frame]
@[simp] theorem State.raiseDev_mbx (s : State) (c src d : Nat) (e : Option (Word × Word × Word)) : (s.raiseDev c src d e).mbx = s.mbx := by rw [State.raiseDev_frame]
@[simp] theorem State.raiseDev_man (s : State) (c src d : Nat) (e : Option (Word × Word × Word)) : (s.raiseDev c src d e).man = s.man := by rw [State.raiseDev_frame]
@[simp] theorem State.raiseDev_ins (s : State) (c src d : Nat) (e : Option (Word × Word × Word)) : (s.raiseDev c src d e).ins = s.ins := by rw [State.raiseDev_frame]
@[simp] theorem State.raiseDev_cap (s : State) (c src d : Nat) (e : Option (Word × Word × Word)) : (s.raiseDev c src d e).cap = s.cap := by rw [State.raiseDev_frame]
@[simp] theorem State.raiseDev_mem (s : State) (c src d : Nat) (e : Option (Word × Word × Word)) : (s.raiseDev c src d e).mem = s.mem := by rw [State.raiseDev_frame]
@[simp] theorem State.raiseDev_lane (s : State) (c src d : Nat) (e : Option (Word × Word × Word)) : (s.raiseDev c src d e).lane = s.lane := by rw [State.raiseDev_frame]
@[simp] theorem State.raiseDev_sea (s : State) (c src d : Nat) (e : Option (Word × Word × Word)) : (s.raiseDev c src d e).sea = s.sea := by rw [State.raiseDev_frame]
@[simp] theorem State.raiseDev_fare (s : State) (c src d : Nat) (e : Option (Word × Word × Word)) : (s.raiseDev c src d e).fare = s.fare := by rw [State.raiseDev_frame]
@[simp] theorem State.raiseDev_cart (s : State) (c src d : Nat) (e : Option (Word × Word × Word)) : (s.raiseDev c src d e).cart = s.cart := by rw [State.raiseDev_frame]
@[simp] theorem State.raiseDev_tim (s : State) (c src d : Nat) (e : Option (Word × Word × Word)) : (s.raiseDev c src d e).tim = s.tim := by rw [State.raiseDev_frame]
@[simp] theorem State.raiseDev_aud (s : State) (c src d : Nat) (e : Option (Word × Word × Word)) : (s.raiseDev c src d e).aud = s.aud := by rw [State.raiseDev_frame]
@[simp] theorem State.raiseDev_net (s : State) (c src d : Nat) (e : Option (Word × Word × Word)) : (s.raiseDev c src d e).net = s.net := by rw [State.raiseDev_frame]
@[simp] theorem State.raiseDev_isl (s : State) (c src d : Nat) (e : Option (Word × Word × Word)) : (s.raiseDev c src d e).isl = s.isl := by rw [State.raiseDev_frame]
@[simp] theorem State.raiseDev_sec (s : State) (c src d : Nat) (e : Option (Word × Word × Word)) : (s.raiseDev c src d e).sec = s.sec := by rw [State.raiseDev_frame]
@[simp] theorem State.raiseDev_stat (s : State) (c src d : Nat) (e : Option (Word × Word × Word)) : (s.raiseDev c src d e).stat = s.stat := by rw [State.raiseDev_frame]
@[simp] theorem State.raiseDev_test (s : State) (c src d : Nat) (e : Option (Word × Word × Word)) : (s.raiseDev c src d e).test = s.test := by rw [State.raiseDev_frame]
@[simp] theorem State.raiseDev_lcy (s : State) (c src d : Nat) (e : Option (Word × Word × Word)) : (s.raiseDev c src d e).lcy = s.lcy := by rw [State.raiseDev_frame]
@[simp] theorem State.raiseDev_freeCtr (s : State) (c src d : Nat) (e : Option (Word × Word × Word)) : (s.raiseDev c src d e).freeCtr = s.freeCtr := by rw [State.raiseDev_frame]
@[simp] theorem State.raiseDev_pending (s : State) (c src d : Nat) (e : Option (Word × Word × Word)) : (s.raiseDev c src d e).pending = s.pending := by rw [State.raiseDev_frame]

theorem State.loseRecord_frame (s : State) (q n : Nat) (d : Bool) :
    (s.loseRecord q n d) =
      { s with evt := (s.loseRecord q n d).evt } := by
  rfl
@[simp] theorem State.loseRecord_now (s : State) (q n : Nat) (d : Bool) : (s.loseRecord q n d).now = s.now := by rw [State.loseRecord_frame]
@[simp] theorem State.loseRecord_mbx (s : State) (q n : Nat) (d : Bool) : (s.loseRecord q n d).mbx = s.mbx := by rw [State.loseRecord_frame]
@[simp] theorem State.loseRecord_man (s : State) (q n : Nat) (d : Bool) : (s.loseRecord q n d).man = s.man := by rw [State.loseRecord_frame]
@[simp] theorem State.loseRecord_ins (s : State) (q n : Nat) (d : Bool) : (s.loseRecord q n d).ins = s.ins := by rw [State.loseRecord_frame]
@[simp] theorem State.loseRecord_cap (s : State) (q n : Nat) (d : Bool) : (s.loseRecord q n d).cap = s.cap := by rw [State.loseRecord_frame]
@[simp] theorem State.loseRecord_mem (s : State) (q n : Nat) (d : Bool) : (s.loseRecord q n d).mem = s.mem := by rw [State.loseRecord_frame]
@[simp] theorem State.loseRecord_lane (s : State) (q n : Nat) (d : Bool) : (s.loseRecord q n d).lane = s.lane := by rw [State.loseRecord_frame]
@[simp] theorem State.loseRecord_sea (s : State) (q n : Nat) (d : Bool) : (s.loseRecord q n d).sea = s.sea := by rw [State.loseRecord_frame]
@[simp] theorem State.loseRecord_fare (s : State) (q n : Nat) (d : Bool) : (s.loseRecord q n d).fare = s.fare := by rw [State.loseRecord_frame]
@[simp] theorem State.loseRecord_cart (s : State) (q n : Nat) (d : Bool) : (s.loseRecord q n d).cart = s.cart := by rw [State.loseRecord_frame]
@[simp] theorem State.loseRecord_tim (s : State) (q n : Nat) (d : Bool) : (s.loseRecord q n d).tim = s.tim := by rw [State.loseRecord_frame]
@[simp] theorem State.loseRecord_aud (s : State) (q n : Nat) (d : Bool) : (s.loseRecord q n d).aud = s.aud := by rw [State.loseRecord_frame]
@[simp] theorem State.loseRecord_net (s : State) (q n : Nat) (d : Bool) : (s.loseRecord q n d).net = s.net := by rw [State.loseRecord_frame]
@[simp] theorem State.loseRecord_isl (s : State) (q n : Nat) (d : Bool) : (s.loseRecord q n d).isl = s.isl := by rw [State.loseRecord_frame]
@[simp] theorem State.loseRecord_sec (s : State) (q n : Nat) (d : Bool) : (s.loseRecord q n d).sec = s.sec := by rw [State.loseRecord_frame]
@[simp] theorem State.loseRecord_stat (s : State) (q n : Nat) (d : Bool) : (s.loseRecord q n d).stat = s.stat := by rw [State.loseRecord_frame]
@[simp] theorem State.loseRecord_test (s : State) (q n : Nat) (d : Bool) : (s.loseRecord q n d).test = s.test := by rw [State.loseRecord_frame]
@[simp] theorem State.loseRecord_lcy (s : State) (q n : Nat) (d : Bool) : (s.loseRecord q n d).lcy = s.lcy := by rw [State.loseRecord_frame]
@[simp] theorem State.loseRecord_out (s : State) (q n : Nat) (d : Bool) : (s.loseRecord q n d).out = s.out := by rw [State.loseRecord_frame]
@[simp] theorem State.loseRecord_freeCtr (s : State) (q n : Nat) (d : Bool) : (s.loseRecord q n d).freeCtr = s.freeCtr := by rw [State.loseRecord_frame]
@[simp] theorem State.loseRecord_pending (s : State) (q n : Nat) (d : Bool) : (s.loseRecord q n d).pending = s.pending := by rw [State.loseRecord_frame]

theorem State.writeEntry_frame (s : State) (q : Nat) (f : Bool → List Byte) :
    (s.writeEntry q f) =
      { s with ins := (s.writeEntry q f).ins, evt := (s.writeEntry q f).evt, out := (s.writeEntry q f).out } := by
  unfold State.writeEntry State.modEvq; dsimp only; rw [State.dmaPhaseLast_frame]
@[simp] theorem State.writeEntry_now (s : State) (q : Nat) (f : Bool → List Byte) : (s.writeEntry q f).now = s.now := by rw [State.writeEntry_frame]
@[simp] theorem State.writeEntry_mbx (s : State) (q : Nat) (f : Bool → List Byte) : (s.writeEntry q f).mbx = s.mbx := by rw [State.writeEntry_frame]
@[simp] theorem State.writeEntry_man (s : State) (q : Nat) (f : Bool → List Byte) : (s.writeEntry q f).man = s.man := by rw [State.writeEntry_frame]
@[simp] theorem State.writeEntry_cap (s : State) (q : Nat) (f : Bool → List Byte) : (s.writeEntry q f).cap = s.cap := by rw [State.writeEntry_frame]
@[simp] theorem State.writeEntry_mem (s : State) (q : Nat) (f : Bool → List Byte) : (s.writeEntry q f).mem = s.mem := by rw [State.writeEntry_frame]
@[simp] theorem State.writeEntry_lane (s : State) (q : Nat) (f : Bool → List Byte) : (s.writeEntry q f).lane = s.lane := by rw [State.writeEntry_frame]
@[simp] theorem State.writeEntry_sea (s : State) (q : Nat) (f : Bool → List Byte) : (s.writeEntry q f).sea = s.sea := by rw [State.writeEntry_frame]
@[simp] theorem State.writeEntry_fare (s : State) (q : Nat) (f : Bool → List Byte) : (s.writeEntry q f).fare = s.fare := by rw [State.writeEntry_frame]
@[simp] theorem State.writeEntry_cart (s : State) (q : Nat) (f : Bool → List Byte) : (s.writeEntry q f).cart = s.cart := by rw [State.writeEntry_frame]
@[simp] theorem State.writeEntry_tim (s : State) (q : Nat) (f : Bool → List Byte) : (s.writeEntry q f).tim = s.tim := by rw [State.writeEntry_frame]
@[simp] theorem State.writeEntry_aud (s : State) (q : Nat) (f : Bool → List Byte) : (s.writeEntry q f).aud = s.aud := by rw [State.writeEntry_frame]
@[simp] theorem State.writeEntry_net (s : State) (q : Nat) (f : Bool → List Byte) : (s.writeEntry q f).net = s.net := by rw [State.writeEntry_frame]
@[simp] theorem State.writeEntry_isl (s : State) (q : Nat) (f : Bool → List Byte) : (s.writeEntry q f).isl = s.isl := by rw [State.writeEntry_frame]
@[simp] theorem State.writeEntry_sec (s : State) (q : Nat) (f : Bool → List Byte) : (s.writeEntry q f).sec = s.sec := by rw [State.writeEntry_frame]
@[simp] theorem State.writeEntry_stat (s : State) (q : Nat) (f : Bool → List Byte) : (s.writeEntry q f).stat = s.stat := by rw [State.writeEntry_frame]
@[simp] theorem State.writeEntry_test (s : State) (q : Nat) (f : Bool → List Byte) : (s.writeEntry q f).test = s.test := by rw [State.writeEntry_frame]
@[simp] theorem State.writeEntry_lcy (s : State) (q : Nat) (f : Bool → List Byte) : (s.writeEntry q f).lcy = s.lcy := by rw [State.writeEntry_frame]
@[simp] theorem State.writeEntry_freeCtr (s : State) (q : Nat) (f : Bool → List Byte) : (s.writeEntry q f).freeCtr = s.freeCtr := by rw [State.writeEntry_frame]
@[simp] theorem State.writeEntry_pending (s : State) (q : Nat) (f : Bool → List Byte) : (s.writeEntry q f).pending = s.pending := by rw [State.writeEntry_frame]

theorem State.evSignal_frame (s : State) (r v : Nat) :
    (s.evSignal r v) =
      { s with ins := (s.evSignal r v).ins, evt := (s.evSignal r v).evt, out := (s.evSignal r v).out } := by
  unfold State.evSignal
  dsimp only
  split
  · split
    · rfl
    · unfold State.modEvq; dsimp only; rw [State.signal_frame]
  · unfold State.modEvq; dsimp only; rw [State.signal_frame]
@[simp] theorem State.evSignal_now (s : State) (r v : Nat) : (s.evSignal r v).now = s.now := by rw [State.evSignal_frame]
@[simp] theorem State.evSignal_mbx (s : State) (r v : Nat) : (s.evSignal r v).mbx = s.mbx := by rw [State.evSignal_frame]
@[simp] theorem State.evSignal_man (s : State) (r v : Nat) : (s.evSignal r v).man = s.man := by rw [State.evSignal_frame]
@[simp] theorem State.evSignal_cap (s : State) (r v : Nat) : (s.evSignal r v).cap = s.cap := by rw [State.evSignal_frame]
@[simp] theorem State.evSignal_mem (s : State) (r v : Nat) : (s.evSignal r v).mem = s.mem := by rw [State.evSignal_frame]
@[simp] theorem State.evSignal_lane (s : State) (r v : Nat) : (s.evSignal r v).lane = s.lane := by rw [State.evSignal_frame]
@[simp] theorem State.evSignal_sea (s : State) (r v : Nat) : (s.evSignal r v).sea = s.sea := by rw [State.evSignal_frame]
@[simp] theorem State.evSignal_fare (s : State) (r v : Nat) : (s.evSignal r v).fare = s.fare := by rw [State.evSignal_frame]
@[simp] theorem State.evSignal_cart (s : State) (r v : Nat) : (s.evSignal r v).cart = s.cart := by rw [State.evSignal_frame]
@[simp] theorem State.evSignal_tim (s : State) (r v : Nat) : (s.evSignal r v).tim = s.tim := by rw [State.evSignal_frame]
@[simp] theorem State.evSignal_aud (s : State) (r v : Nat) : (s.evSignal r v).aud = s.aud := by rw [State.evSignal_frame]
@[simp] theorem State.evSignal_net (s : State) (r v : Nat) : (s.evSignal r v).net = s.net := by rw [State.evSignal_frame]
@[simp] theorem State.evSignal_isl (s : State) (r v : Nat) : (s.evSignal r v).isl = s.isl := by rw [State.evSignal_frame]
@[simp] theorem State.evSignal_sec (s : State) (r v : Nat) : (s.evSignal r v).sec = s.sec := by rw [State.evSignal_frame]
@[simp] theorem State.evSignal_stat (s : State) (r v : Nat) : (s.evSignal r v).stat = s.stat := by rw [State.evSignal_frame]
@[simp] theorem State.evSignal_test (s : State) (r v : Nat) : (s.evSignal r v).test = s.test := by rw [State.evSignal_frame]
@[simp] theorem State.evSignal_lcy (s : State) (r v : Nat) : (s.evSignal r v).lcy = s.lcy := by rw [State.evSignal_frame]
@[simp] theorem State.evSignal_freeCtr (s : State) (r v : Nat) : (s.evSignal r v).freeCtr = s.freeCtr := by rw [State.evSignal_frame]
@[simp] theorem State.evSignal_pending (s : State) (r v : Nat) : (s.evSignal r v).pending = s.pending := by rw [State.evSignal_frame]

theorem State.writeLost_frame (s : State) (q : Nat) :
    (s.writeLost q) =
      { s with ins := (s.writeLost q).ins, evt := (s.writeLost q).evt, out := (s.writeLost q).out } := by
  unfold State.writeLost
  dsimp only
  split
  · rfl
  · unfold State.modEvq; dsimp only; rw [State.evSignal_frame, State.writeEntry_frame]
@[simp] theorem State.writeLost_now (s : State) (q : Nat) : (s.writeLost q).now = s.now := by rw [State.writeLost_frame]
@[simp] theorem State.writeLost_mbx (s : State) (q : Nat) : (s.writeLost q).mbx = s.mbx := by rw [State.writeLost_frame]
@[simp] theorem State.writeLost_man (s : State) (q : Nat) : (s.writeLost q).man = s.man := by rw [State.writeLost_frame]
@[simp] theorem State.writeLost_cap (s : State) (q : Nat) : (s.writeLost q).cap = s.cap := by rw [State.writeLost_frame]
@[simp] theorem State.writeLost_mem (s : State) (q : Nat) : (s.writeLost q).mem = s.mem := by rw [State.writeLost_frame]
@[simp] theorem State.writeLost_lane (s : State) (q : Nat) : (s.writeLost q).lane = s.lane := by rw [State.writeLost_frame]
@[simp] theorem State.writeLost_sea (s : State) (q : Nat) : (s.writeLost q).sea = s.sea := by rw [State.writeLost_frame]
@[simp] theorem State.writeLost_fare (s : State) (q : Nat) : (s.writeLost q).fare = s.fare := by rw [State.writeLost_frame]
@[simp] theorem State.writeLost_cart (s : State) (q : Nat) : (s.writeLost q).cart = s.cart := by rw [State.writeLost_frame]
@[simp] theorem State.writeLost_tim (s : State) (q : Nat) : (s.writeLost q).tim = s.tim := by rw [State.writeLost_frame]
@[simp] theorem State.writeLost_aud (s : State) (q : Nat) : (s.writeLost q).aud = s.aud := by rw [State.writeLost_frame]
@[simp] theorem State.writeLost_net (s : State) (q : Nat) : (s.writeLost q).net = s.net := by rw [State.writeLost_frame]
@[simp] theorem State.writeLost_isl (s : State) (q : Nat) : (s.writeLost q).isl = s.isl := by rw [State.writeLost_frame]
@[simp] theorem State.writeLost_sec (s : State) (q : Nat) : (s.writeLost q).sec = s.sec := by rw [State.writeLost_frame]
@[simp] theorem State.writeLost_stat (s : State) (q : Nat) : (s.writeLost q).stat = s.stat := by rw [State.writeLost_frame]
@[simp] theorem State.writeLost_test (s : State) (q : Nat) : (s.writeLost q).test = s.test := by rw [State.writeLost_frame]
@[simp] theorem State.writeLost_lcy (s : State) (q : Nat) : (s.writeLost q).lcy = s.lcy := by rw [State.writeLost_frame]
@[simp] theorem State.writeLost_freeCtr (s : State) (q : Nat) : (s.writeLost q).freeCtr = s.freeCtr := by rw [State.writeLost_frame]
@[simp] theorem State.writeLost_pending (s : State) (q : Nat) : (s.writeLost q).pending = s.pending := by rw [State.writeLost_frame]

theorem State.xlateFault_frame (s : State) (tag iova c : Nat) (w : Bool) (src : Nat) :
    (s.xlateFault tag iova c w src) =
      { s with ins := (s.xlateFault tag iova c w src).ins, evt := (s.xlateFault tag iova c w src).evt, out := (s.xlateFault tag iova c w src).out } := by
  unfold State.xlateFault State.modInst
  dsimp only
  split
  · rw [State.raiseTo_frame]
  · rw [State.raise_frame]
@[simp] theorem State.xlateFault_now (s : State) (tag iova c : Nat) (w : Bool) (src : Nat) : (s.xlateFault tag iova c w src).now = s.now := by rw [State.xlateFault_frame]
@[simp] theorem State.xlateFault_mbx (s : State) (tag iova c : Nat) (w : Bool) (src : Nat) : (s.xlateFault tag iova c w src).mbx = s.mbx := by rw [State.xlateFault_frame]
@[simp] theorem State.xlateFault_man (s : State) (tag iova c : Nat) (w : Bool) (src : Nat) : (s.xlateFault tag iova c w src).man = s.man := by rw [State.xlateFault_frame]
@[simp] theorem State.xlateFault_cap (s : State) (tag iova c : Nat) (w : Bool) (src : Nat) : (s.xlateFault tag iova c w src).cap = s.cap := by rw [State.xlateFault_frame]
@[simp] theorem State.xlateFault_mem (s : State) (tag iova c : Nat) (w : Bool) (src : Nat) : (s.xlateFault tag iova c w src).mem = s.mem := by rw [State.xlateFault_frame]
@[simp] theorem State.xlateFault_lane (s : State) (tag iova c : Nat) (w : Bool) (src : Nat) : (s.xlateFault tag iova c w src).lane = s.lane := by rw [State.xlateFault_frame]
@[simp] theorem State.xlateFault_sea (s : State) (tag iova c : Nat) (w : Bool) (src : Nat) : (s.xlateFault tag iova c w src).sea = s.sea := by rw [State.xlateFault_frame]
@[simp] theorem State.xlateFault_fare (s : State) (tag iova c : Nat) (w : Bool) (src : Nat) : (s.xlateFault tag iova c w src).fare = s.fare := by rw [State.xlateFault_frame]
@[simp] theorem State.xlateFault_cart (s : State) (tag iova c : Nat) (w : Bool) (src : Nat) : (s.xlateFault tag iova c w src).cart = s.cart := by rw [State.xlateFault_frame]
@[simp] theorem State.xlateFault_tim (s : State) (tag iova c : Nat) (w : Bool) (src : Nat) : (s.xlateFault tag iova c w src).tim = s.tim := by rw [State.xlateFault_frame]
@[simp] theorem State.xlateFault_aud (s : State) (tag iova c : Nat) (w : Bool) (src : Nat) : (s.xlateFault tag iova c w src).aud = s.aud := by rw [State.xlateFault_frame]
@[simp] theorem State.xlateFault_net (s : State) (tag iova c : Nat) (w : Bool) (src : Nat) : (s.xlateFault tag iova c w src).net = s.net := by rw [State.xlateFault_frame]
@[simp] theorem State.xlateFault_isl (s : State) (tag iova c : Nat) (w : Bool) (src : Nat) : (s.xlateFault tag iova c w src).isl = s.isl := by rw [State.xlateFault_frame]
@[simp] theorem State.xlateFault_sec (s : State) (tag iova c : Nat) (w : Bool) (src : Nat) : (s.xlateFault tag iova c w src).sec = s.sec := by rw [State.xlateFault_frame]
@[simp] theorem State.xlateFault_stat (s : State) (tag iova c : Nat) (w : Bool) (src : Nat) : (s.xlateFault tag iova c w src).stat = s.stat := by rw [State.xlateFault_frame]
@[simp] theorem State.xlateFault_test (s : State) (tag iova c : Nat) (w : Bool) (src : Nat) : (s.xlateFault tag iova c w src).test = s.test := by rw [State.xlateFault_frame]
@[simp] theorem State.xlateFault_lcy (s : State) (tag iova c : Nat) (w : Bool) (src : Nat) : (s.xlateFault tag iova c w src).lcy = s.lcy := by rw [State.xlateFault_frame]
@[simp] theorem State.xlateFault_freeCtr (s : State) (tag iova c : Nat) (w : Bool) (src : Nat) : (s.xlateFault tag iova c w src).freeCtr = s.freeCtr := by rw [State.xlateFault_frame]
@[simp] theorem State.xlateFault_pending (s : State) (tag iova c : Nat) (w : Bool) (src : Nat) : (s.xlateFault tag iova c w src).pending = s.pending := by rw [State.xlateFault_frame]

theorem State.bumpAll_frame (s : State) (h f : Nat → Bool) :
    (s.bumpAll h f) =
      { s with cap := (s.bumpAll h f).cap } := by
  unfold State.bumpAll
  dsimp only
  split <;> rfl
@[simp] theorem State.bumpAll_now (s : State) (h f : Nat → Bool) : (s.bumpAll h f).now = s.now := by rw [State.bumpAll_frame]
@[simp] theorem State.bumpAll_mbx (s : State) (h f : Nat → Bool) : (s.bumpAll h f).mbx = s.mbx := by rw [State.bumpAll_frame]
@[simp] theorem State.bumpAll_man (s : State) (h f : Nat → Bool) : (s.bumpAll h f).man = s.man := by rw [State.bumpAll_frame]
@[simp] theorem State.bumpAll_ins (s : State) (h f : Nat → Bool) : (s.bumpAll h f).ins = s.ins := by rw [State.bumpAll_frame]
@[simp] theorem State.bumpAll_mem (s : State) (h f : Nat → Bool) : (s.bumpAll h f).mem = s.mem := by rw [State.bumpAll_frame]
@[simp] theorem State.bumpAll_lane (s : State) (h f : Nat → Bool) : (s.bumpAll h f).lane = s.lane := by rw [State.bumpAll_frame]
@[simp] theorem State.bumpAll_sea (s : State) (h f : Nat → Bool) : (s.bumpAll h f).sea = s.sea := by rw [State.bumpAll_frame]
@[simp] theorem State.bumpAll_fare (s : State) (h f : Nat → Bool) : (s.bumpAll h f).fare = s.fare := by rw [State.bumpAll_frame]
@[simp] theorem State.bumpAll_cart (s : State) (h f : Nat → Bool) : (s.bumpAll h f).cart = s.cart := by rw [State.bumpAll_frame]
@[simp] theorem State.bumpAll_tim (s : State) (h f : Nat → Bool) : (s.bumpAll h f).tim = s.tim := by rw [State.bumpAll_frame]
@[simp] theorem State.bumpAll_aud (s : State) (h f : Nat → Bool) : (s.bumpAll h f).aud = s.aud := by rw [State.bumpAll_frame]
@[simp] theorem State.bumpAll_net (s : State) (h f : Nat → Bool) : (s.bumpAll h f).net = s.net := by rw [State.bumpAll_frame]
@[simp] theorem State.bumpAll_isl (s : State) (h f : Nat → Bool) : (s.bumpAll h f).isl = s.isl := by rw [State.bumpAll_frame]
@[simp] theorem State.bumpAll_sec (s : State) (h f : Nat → Bool) : (s.bumpAll h f).sec = s.sec := by rw [State.bumpAll_frame]
@[simp] theorem State.bumpAll_stat (s : State) (h f : Nat → Bool) : (s.bumpAll h f).stat = s.stat := by rw [State.bumpAll_frame]
@[simp] theorem State.bumpAll_test (s : State) (h f : Nat → Bool) : (s.bumpAll h f).test = s.test := by rw [State.bumpAll_frame]
@[simp] theorem State.bumpAll_evt (s : State) (h f : Nat → Bool) : (s.bumpAll h f).evt = s.evt := by rw [State.bumpAll_frame]
@[simp] theorem State.bumpAll_lcy (s : State) (h f : Nat → Bool) : (s.bumpAll h f).lcy = s.lcy := by rw [State.bumpAll_frame]
@[simp] theorem State.bumpAll_out (s : State) (h f : Nat → Bool) : (s.bumpAll h f).out = s.out := by rw [State.bumpAll_frame]
@[simp] theorem State.bumpAll_freeCtr (s : State) (h f : Nat → Bool) : (s.bumpAll h f).freeCtr = s.freeCtr := by rw [State.bumpAll_frame]
@[simp] theorem State.bumpAll_pending (s : State) (h f : Nat → Bool) : (s.bumpAll h f).pending = s.pending := by rw [State.bumpAll_frame]

theorem State.releaseTree_frame (s : State) (n : Nat) :
    (s.releaseTree n) =
      { s with cap := (s.releaseTree n).cap } := by
  unfold State.releaseTree; dsimp only; rw [State.bumpAll_frame]
@[simp] theorem State.releaseTree_now (s : State) (n : Nat) : (s.releaseTree n).now = s.now := by rw [State.releaseTree_frame]
@[simp] theorem State.releaseTree_mbx (s : State) (n : Nat) : (s.releaseTree n).mbx = s.mbx := by rw [State.releaseTree_frame]
@[simp] theorem State.releaseTree_man (s : State) (n : Nat) : (s.releaseTree n).man = s.man := by rw [State.releaseTree_frame]
@[simp] theorem State.releaseTree_ins (s : State) (n : Nat) : (s.releaseTree n).ins = s.ins := by rw [State.releaseTree_frame]
@[simp] theorem State.releaseTree_mem (s : State) (n : Nat) : (s.releaseTree n).mem = s.mem := by rw [State.releaseTree_frame]
@[simp] theorem State.releaseTree_lane (s : State) (n : Nat) : (s.releaseTree n).lane = s.lane := by rw [State.releaseTree_frame]
@[simp] theorem State.releaseTree_sea (s : State) (n : Nat) : (s.releaseTree n).sea = s.sea := by rw [State.releaseTree_frame]
@[simp] theorem State.releaseTree_fare (s : State) (n : Nat) : (s.releaseTree n).fare = s.fare := by rw [State.releaseTree_frame]
@[simp] theorem State.releaseTree_cart (s : State) (n : Nat) : (s.releaseTree n).cart = s.cart := by rw [State.releaseTree_frame]
@[simp] theorem State.releaseTree_tim (s : State) (n : Nat) : (s.releaseTree n).tim = s.tim := by rw [State.releaseTree_frame]
@[simp] theorem State.releaseTree_aud (s : State) (n : Nat) : (s.releaseTree n).aud = s.aud := by rw [State.releaseTree_frame]
@[simp] theorem State.releaseTree_net (s : State) (n : Nat) : (s.releaseTree n).net = s.net := by rw [State.releaseTree_frame]
@[simp] theorem State.releaseTree_isl (s : State) (n : Nat) : (s.releaseTree n).isl = s.isl := by rw [State.releaseTree_frame]
@[simp] theorem State.releaseTree_sec (s : State) (n : Nat) : (s.releaseTree n).sec = s.sec := by rw [State.releaseTree_frame]
@[simp] theorem State.releaseTree_stat (s : State) (n : Nat) : (s.releaseTree n).stat = s.stat := by rw [State.releaseTree_frame]
@[simp] theorem State.releaseTree_test (s : State) (n : Nat) : (s.releaseTree n).test = s.test := by rw [State.releaseTree_frame]
@[simp] theorem State.releaseTree_evt (s : State) (n : Nat) : (s.releaseTree n).evt = s.evt := by rw [State.releaseTree_frame]
@[simp] theorem State.releaseTree_lcy (s : State) (n : Nat) : (s.releaseTree n).lcy = s.lcy := by rw [State.releaseTree_frame]
@[simp] theorem State.releaseTree_out (s : State) (n : Nat) : (s.releaseTree n).out = s.out := by rw [State.releaseTree_frame]
@[simp] theorem State.releaseTree_freeCtr (s : State) (n : Nat) : (s.releaseTree n).freeCtr = s.freeCtr := by rw [State.releaseTree_frame]
@[simp] theorem State.releaseTree_pending (s : State) (n : Nat) : (s.releaseTree n).pending = s.pending := by rw [State.releaseTree_frame]

theorem State.revokeTree_frame (s : State) (n : Nat) :
    (s.revokeTree n) =
      { s with cap := (s.revokeTree n).cap } := by
  unfold State.revokeTree; dsimp only; rw [State.bumpAll_frame]
@[simp] theorem State.revokeTree_now (s : State) (n : Nat) : (s.revokeTree n).now = s.now := by rw [State.revokeTree_frame]
@[simp] theorem State.revokeTree_mbx (s : State) (n : Nat) : (s.revokeTree n).mbx = s.mbx := by rw [State.revokeTree_frame]
@[simp] theorem State.revokeTree_man (s : State) (n : Nat) : (s.revokeTree n).man = s.man := by rw [State.revokeTree_frame]
@[simp] theorem State.revokeTree_ins (s : State) (n : Nat) : (s.revokeTree n).ins = s.ins := by rw [State.revokeTree_frame]
@[simp] theorem State.revokeTree_mem (s : State) (n : Nat) : (s.revokeTree n).mem = s.mem := by rw [State.revokeTree_frame]
@[simp] theorem State.revokeTree_lane (s : State) (n : Nat) : (s.revokeTree n).lane = s.lane := by rw [State.revokeTree_frame]
@[simp] theorem State.revokeTree_sea (s : State) (n : Nat) : (s.revokeTree n).sea = s.sea := by rw [State.revokeTree_frame]
@[simp] theorem State.revokeTree_fare (s : State) (n : Nat) : (s.revokeTree n).fare = s.fare := by rw [State.revokeTree_frame]
@[simp] theorem State.revokeTree_cart (s : State) (n : Nat) : (s.revokeTree n).cart = s.cart := by rw [State.revokeTree_frame]
@[simp] theorem State.revokeTree_tim (s : State) (n : Nat) : (s.revokeTree n).tim = s.tim := by rw [State.revokeTree_frame]
@[simp] theorem State.revokeTree_aud (s : State) (n : Nat) : (s.revokeTree n).aud = s.aud := by rw [State.revokeTree_frame]
@[simp] theorem State.revokeTree_net (s : State) (n : Nat) : (s.revokeTree n).net = s.net := by rw [State.revokeTree_frame]
@[simp] theorem State.revokeTree_isl (s : State) (n : Nat) : (s.revokeTree n).isl = s.isl := by rw [State.revokeTree_frame]
@[simp] theorem State.revokeTree_sec (s : State) (n : Nat) : (s.revokeTree n).sec = s.sec := by rw [State.revokeTree_frame]
@[simp] theorem State.revokeTree_stat (s : State) (n : Nat) : (s.revokeTree n).stat = s.stat := by rw [State.revokeTree_frame]
@[simp] theorem State.revokeTree_test (s : State) (n : Nat) : (s.revokeTree n).test = s.test := by rw [State.revokeTree_frame]
@[simp] theorem State.revokeTree_evt (s : State) (n : Nat) : (s.revokeTree n).evt = s.evt := by rw [State.revokeTree_frame]
@[simp] theorem State.revokeTree_lcy (s : State) (n : Nat) : (s.revokeTree n).lcy = s.lcy := by rw [State.revokeTree_frame]
@[simp] theorem State.revokeTree_out (s : State) (n : Nat) : (s.revokeTree n).out = s.out := by rw [State.revokeTree_frame]
@[simp] theorem State.revokeTree_freeCtr (s : State) (n : Nat) : (s.revokeTree n).freeCtr = s.freeCtr := by rw [State.revokeTree_frame]
@[simp] theorem State.revokeTree_pending (s : State) (n : Nat) : (s.revokeTree n).pending = s.pending := by rw [State.revokeTree_frame]

theorem State.dropImports_frame (s : State) (id : Nat) :
    (s.dropImports id) =
      { s with cap := (s.dropImports id).cap, sec := (s.dropImports id).sec } := by
  unfold State.dropImports
  dsimp only
  refine foldl_rel (fun (a b : State) => b = { a with cap := b.cap, sec := b.sec }) (fun _ => rfl) ?_ _ ?_ _ _
  · intro a b c h1 h2; rw [h2, h1]
  · intro a p; rw [State.releaseTree_frame]
@[simp] theorem State.dropImports_now (s : State) (id : Nat) : (s.dropImports id).now = s.now := by rw [State.dropImports_frame]
@[simp] theorem State.dropImports_mbx (s : State) (id : Nat) : (s.dropImports id).mbx = s.mbx := by rw [State.dropImports_frame]
@[simp] theorem State.dropImports_man (s : State) (id : Nat) : (s.dropImports id).man = s.man := by rw [State.dropImports_frame]
@[simp] theorem State.dropImports_ins (s : State) (id : Nat) : (s.dropImports id).ins = s.ins := by rw [State.dropImports_frame]
@[simp] theorem State.dropImports_mem (s : State) (id : Nat) : (s.dropImports id).mem = s.mem := by rw [State.dropImports_frame]
@[simp] theorem State.dropImports_lane (s : State) (id : Nat) : (s.dropImports id).lane = s.lane := by rw [State.dropImports_frame]
@[simp] theorem State.dropImports_sea (s : State) (id : Nat) : (s.dropImports id).sea = s.sea := by rw [State.dropImports_frame]
@[simp] theorem State.dropImports_fare (s : State) (id : Nat) : (s.dropImports id).fare = s.fare := by rw [State.dropImports_frame]
@[simp] theorem State.dropImports_cart (s : State) (id : Nat) : (s.dropImports id).cart = s.cart := by rw [State.dropImports_frame]
@[simp] theorem State.dropImports_tim (s : State) (id : Nat) : (s.dropImports id).tim = s.tim := by rw [State.dropImports_frame]
@[simp] theorem State.dropImports_aud (s : State) (id : Nat) : (s.dropImports id).aud = s.aud := by rw [State.dropImports_frame]
@[simp] theorem State.dropImports_net (s : State) (id : Nat) : (s.dropImports id).net = s.net := by rw [State.dropImports_frame]
@[simp] theorem State.dropImports_isl (s : State) (id : Nat) : (s.dropImports id).isl = s.isl := by rw [State.dropImports_frame]
@[simp] theorem State.dropImports_stat (s : State) (id : Nat) : (s.dropImports id).stat = s.stat := by rw [State.dropImports_frame]
@[simp] theorem State.dropImports_test (s : State) (id : Nat) : (s.dropImports id).test = s.test := by rw [State.dropImports_frame]
@[simp] theorem State.dropImports_evt (s : State) (id : Nat) : (s.dropImports id).evt = s.evt := by rw [State.dropImports_frame]
@[simp] theorem State.dropImports_lcy (s : State) (id : Nat) : (s.dropImports id).lcy = s.lcy := by rw [State.dropImports_frame]
@[simp] theorem State.dropImports_out (s : State) (id : Nat) : (s.dropImports id).out = s.out := by rw [State.dropImports_frame]
@[simp] theorem State.dropImports_freeCtr (s : State) (id : Nat) : (s.dropImports id).freeCtr = s.freeCtr := by rw [State.dropImports_frame]
@[simp] theorem State.dropImports_pending (s : State) (id : Nat) : (s.dropImports id).pending = s.pending := by rw [State.dropImports_frame]

theorem State.closeMan_frame (s : State) (id o : Nat) :
    (s.closeMan id o) =
      { s with man := (s.closeMan id o).man } := by
  unfold State.closeMan
  split <;> rfl
@[simp] theorem State.closeMan_now (s : State) (id o : Nat) : (s.closeMan id o).now = s.now := by rw [State.closeMan_frame]
@[simp] theorem State.closeMan_mbx (s : State) (id o : Nat) : (s.closeMan id o).mbx = s.mbx := by rw [State.closeMan_frame]
@[simp] theorem State.closeMan_ins (s : State) (id o : Nat) : (s.closeMan id o).ins = s.ins := by rw [State.closeMan_frame]
@[simp] theorem State.closeMan_cap (s : State) (id o : Nat) : (s.closeMan id o).cap = s.cap := by rw [State.closeMan_frame]
@[simp] theorem State.closeMan_mem (s : State) (id o : Nat) : (s.closeMan id o).mem = s.mem := by rw [State.closeMan_frame]
@[simp] theorem State.closeMan_lane (s : State) (id o : Nat) : (s.closeMan id o).lane = s.lane := by rw [State.closeMan_frame]
@[simp] theorem State.closeMan_sea (s : State) (id o : Nat) : (s.closeMan id o).sea = s.sea := by rw [State.closeMan_frame]
@[simp] theorem State.closeMan_fare (s : State) (id o : Nat) : (s.closeMan id o).fare = s.fare := by rw [State.closeMan_frame]
@[simp] theorem State.closeMan_cart (s : State) (id o : Nat) : (s.closeMan id o).cart = s.cart := by rw [State.closeMan_frame]
@[simp] theorem State.closeMan_tim (s : State) (id o : Nat) : (s.closeMan id o).tim = s.tim := by rw [State.closeMan_frame]
@[simp] theorem State.closeMan_aud (s : State) (id o : Nat) : (s.closeMan id o).aud = s.aud := by rw [State.closeMan_frame]
@[simp] theorem State.closeMan_net (s : State) (id o : Nat) : (s.closeMan id o).net = s.net := by rw [State.closeMan_frame]
@[simp] theorem State.closeMan_isl (s : State) (id o : Nat) : (s.closeMan id o).isl = s.isl := by rw [State.closeMan_frame]
@[simp] theorem State.closeMan_sec (s : State) (id o : Nat) : (s.closeMan id o).sec = s.sec := by rw [State.closeMan_frame]
@[simp] theorem State.closeMan_stat (s : State) (id o : Nat) : (s.closeMan id o).stat = s.stat := by rw [State.closeMan_frame]
@[simp] theorem State.closeMan_test (s : State) (id o : Nat) : (s.closeMan id o).test = s.test := by rw [State.closeMan_frame]
@[simp] theorem State.closeMan_evt (s : State) (id o : Nat) : (s.closeMan id o).evt = s.evt := by rw [State.closeMan_frame]
@[simp] theorem State.closeMan_lcy (s : State) (id o : Nat) : (s.closeMan id o).lcy = s.lcy := by rw [State.closeMan_frame]
@[simp] theorem State.closeMan_out (s : State) (id o : Nat) : (s.closeMan id o).out = s.out := by rw [State.closeMan_frame]
@[simp] theorem State.closeMan_freeCtr (s : State) (id o : Nat) : (s.closeMan id o).freeCtr = s.freeCtr := by rw [State.closeMan_frame]
@[simp] theorem State.closeMan_pending (s : State) (id o : Nat) : (s.closeMan id o).pending = s.pending := by rw [State.closeMan_frame]

theorem State.endMan_frame (s : State) (id o : Nat) :
    (s.endMan id o) =
      { s with man := (s.endMan id o).man, cap := (s.endMan id o).cap, sec := (s.endMan id o).sec } := by
  unfold State.endMan; rw [State.closeMan_frame, State.dropImports_frame]
@[simp] theorem State.endMan_now (s : State) (id o : Nat) : (s.endMan id o).now = s.now := by rw [State.endMan_frame]
@[simp] theorem State.endMan_mbx (s : State) (id o : Nat) : (s.endMan id o).mbx = s.mbx := by rw [State.endMan_frame]
@[simp] theorem State.endMan_ins (s : State) (id o : Nat) : (s.endMan id o).ins = s.ins := by rw [State.endMan_frame]
@[simp] theorem State.endMan_mem (s : State) (id o : Nat) : (s.endMan id o).mem = s.mem := by rw [State.endMan_frame]
@[simp] theorem State.endMan_lane (s : State) (id o : Nat) : (s.endMan id o).lane = s.lane := by rw [State.endMan_frame]
@[simp] theorem State.endMan_sea (s : State) (id o : Nat) : (s.endMan id o).sea = s.sea := by rw [State.endMan_frame]
@[simp] theorem State.endMan_fare (s : State) (id o : Nat) : (s.endMan id o).fare = s.fare := by rw [State.endMan_frame]
@[simp] theorem State.endMan_cart (s : State) (id o : Nat) : (s.endMan id o).cart = s.cart := by rw [State.endMan_frame]
@[simp] theorem State.endMan_tim (s : State) (id o : Nat) : (s.endMan id o).tim = s.tim := by rw [State.endMan_frame]
@[simp] theorem State.endMan_aud (s : State) (id o : Nat) : (s.endMan id o).aud = s.aud := by rw [State.endMan_frame]
@[simp] theorem State.endMan_net (s : State) (id o : Nat) : (s.endMan id o).net = s.net := by rw [State.endMan_frame]
@[simp] theorem State.endMan_isl (s : State) (id o : Nat) : (s.endMan id o).isl = s.isl := by rw [State.endMan_frame]
@[simp] theorem State.endMan_stat (s : State) (id o : Nat) : (s.endMan id o).stat = s.stat := by rw [State.endMan_frame]
@[simp] theorem State.endMan_test (s : State) (id o : Nat) : (s.endMan id o).test = s.test := by rw [State.endMan_frame]
@[simp] theorem State.endMan_evt (s : State) (id o : Nat) : (s.endMan id o).evt = s.evt := by rw [State.endMan_frame]
@[simp] theorem State.endMan_lcy (s : State) (id o : Nat) : (s.endMan id o).lcy = s.lcy := by rw [State.endMan_frame]
@[simp] theorem State.endMan_out (s : State) (id o : Nat) : (s.endMan id o).out = s.out := by rw [State.endMan_frame]
@[simp] theorem State.endMan_freeCtr (s : State) (id o : Nat) : (s.endMan id o).freeCtr = s.freeCtr := by rw [State.endMan_frame]
@[simp] theorem State.endMan_pending (s : State) (id o : Nat) : (s.endMan id o).pending = s.pending := by rw [State.endMan_frame]

theorem State.manEvent_frame (s : State) (c id : Nat) (m : Manifest) (a b : Word) :
    (s.manEvent c id m a b) =
      { s with evt := (s.manEvent c id m a b).evt, out := (s.manEvent c id m a b).out } := by
  unfold State.manEvent; rw [State.raise_frame]
@[simp] theorem State.manEvent_now (s : State) (c id : Nat) (m : Manifest) (a b : Word) : (s.manEvent c id m a b).now = s.now := by rw [State.manEvent_frame]
@[simp] theorem State.manEvent_mbx (s : State) (c id : Nat) (m : Manifest) (a b : Word) : (s.manEvent c id m a b).mbx = s.mbx := by rw [State.manEvent_frame]
@[simp] theorem State.manEvent_man (s : State) (c id : Nat) (m : Manifest) (a b : Word) : (s.manEvent c id m a b).man = s.man := by rw [State.manEvent_frame]
@[simp] theorem State.manEvent_ins (s : State) (c id : Nat) (m : Manifest) (a b : Word) : (s.manEvent c id m a b).ins = s.ins := by rw [State.manEvent_frame]
@[simp] theorem State.manEvent_cap (s : State) (c id : Nat) (m : Manifest) (a b : Word) : (s.manEvent c id m a b).cap = s.cap := by rw [State.manEvent_frame]
@[simp] theorem State.manEvent_mem (s : State) (c id : Nat) (m : Manifest) (a b : Word) : (s.manEvent c id m a b).mem = s.mem := by rw [State.manEvent_frame]
@[simp] theorem State.manEvent_lane (s : State) (c id : Nat) (m : Manifest) (a b : Word) : (s.manEvent c id m a b).lane = s.lane := by rw [State.manEvent_frame]
@[simp] theorem State.manEvent_sea (s : State) (c id : Nat) (m : Manifest) (a b : Word) : (s.manEvent c id m a b).sea = s.sea := by rw [State.manEvent_frame]
@[simp] theorem State.manEvent_fare (s : State) (c id : Nat) (m : Manifest) (a b : Word) : (s.manEvent c id m a b).fare = s.fare := by rw [State.manEvent_frame]
@[simp] theorem State.manEvent_cart (s : State) (c id : Nat) (m : Manifest) (a b : Word) : (s.manEvent c id m a b).cart = s.cart := by rw [State.manEvent_frame]
@[simp] theorem State.manEvent_tim (s : State) (c id : Nat) (m : Manifest) (a b : Word) : (s.manEvent c id m a b).tim = s.tim := by rw [State.manEvent_frame]
@[simp] theorem State.manEvent_aud (s : State) (c id : Nat) (m : Manifest) (a b : Word) : (s.manEvent c id m a b).aud = s.aud := by rw [State.manEvent_frame]
@[simp] theorem State.manEvent_net (s : State) (c id : Nat) (m : Manifest) (a b : Word) : (s.manEvent c id m a b).net = s.net := by rw [State.manEvent_frame]
@[simp] theorem State.manEvent_isl (s : State) (c id : Nat) (m : Manifest) (a b : Word) : (s.manEvent c id m a b).isl = s.isl := by rw [State.manEvent_frame]
@[simp] theorem State.manEvent_sec (s : State) (c id : Nat) (m : Manifest) (a b : Word) : (s.manEvent c id m a b).sec = s.sec := by rw [State.manEvent_frame]
@[simp] theorem State.manEvent_stat (s : State) (c id : Nat) (m : Manifest) (a b : Word) : (s.manEvent c id m a b).stat = s.stat := by rw [State.manEvent_frame]
@[simp] theorem State.manEvent_test (s : State) (c id : Nat) (m : Manifest) (a b : Word) : (s.manEvent c id m a b).test = s.test := by rw [State.manEvent_frame]
@[simp] theorem State.manEvent_lcy (s : State) (c id : Nat) (m : Manifest) (a b : Word) : (s.manEvent c id m a b).lcy = s.lcy := by rw [State.manEvent_frame]
@[simp] theorem State.manEvent_freeCtr (s : State) (c id : Nat) (m : Manifest) (a b : Word) : (s.manEvent c id m a b).freeCtr = s.freeCtr := by rw [State.manEvent_frame]
@[simp] theorem State.manEvent_pending (s : State) (c id : Nat) (m : Manifest) (a b : Word) : (s.manEvent c id m a b).pending = s.pending := by rw [State.manEvent_frame]

theorem State.withdraw_frame (s : State) (id st : Nat) :
    (s.withdraw id st) =
      { s with man := (s.withdraw id st).man, cap := (s.withdraw id st).cap, sec := (s.withdraw id st).sec, evt := (s.withdraw id st).evt, out := (s.withdraw id st).out } := by
  unfold State.withdraw
  split
  · rfl
  · rw [State.manEvent_frame, State.endMan_frame]
@[simp] theorem State.withdraw_now (s : State) (id st : Nat) : (s.withdraw id st).now = s.now := by rw [State.withdraw_frame]
@[simp] theorem State.withdraw_mbx (s : State) (id st : Nat) : (s.withdraw id st).mbx = s.mbx := by rw [State.withdraw_frame]
@[simp] theorem State.withdraw_ins (s : State) (id st : Nat) : (s.withdraw id st).ins = s.ins := by rw [State.withdraw_frame]
@[simp] theorem State.withdraw_mem (s : State) (id st : Nat) : (s.withdraw id st).mem = s.mem := by rw [State.withdraw_frame]
@[simp] theorem State.withdraw_lane (s : State) (id st : Nat) : (s.withdraw id st).lane = s.lane := by rw [State.withdraw_frame]
@[simp] theorem State.withdraw_sea (s : State) (id st : Nat) : (s.withdraw id st).sea = s.sea := by rw [State.withdraw_frame]
@[simp] theorem State.withdraw_fare (s : State) (id st : Nat) : (s.withdraw id st).fare = s.fare := by rw [State.withdraw_frame]
@[simp] theorem State.withdraw_cart (s : State) (id st : Nat) : (s.withdraw id st).cart = s.cart := by rw [State.withdraw_frame]
@[simp] theorem State.withdraw_tim (s : State) (id st : Nat) : (s.withdraw id st).tim = s.tim := by rw [State.withdraw_frame]
@[simp] theorem State.withdraw_aud (s : State) (id st : Nat) : (s.withdraw id st).aud = s.aud := by rw [State.withdraw_frame]
@[simp] theorem State.withdraw_net (s : State) (id st : Nat) : (s.withdraw id st).net = s.net := by rw [State.withdraw_frame]
@[simp] theorem State.withdraw_isl (s : State) (id st : Nat) : (s.withdraw id st).isl = s.isl := by rw [State.withdraw_frame]
@[simp] theorem State.withdraw_stat (s : State) (id st : Nat) : (s.withdraw id st).stat = s.stat := by rw [State.withdraw_frame]
@[simp] theorem State.withdraw_test (s : State) (id st : Nat) : (s.withdraw id st).test = s.test := by rw [State.withdraw_frame]
@[simp] theorem State.withdraw_lcy (s : State) (id st : Nat) : (s.withdraw id st).lcy = s.lcy := by rw [State.withdraw_frame]
@[simp] theorem State.withdraw_freeCtr (s : State) (id st : Nat) : (s.withdraw id st).freeCtr = s.freeCtr := by rw [State.withdraw_frame]
@[simp] theorem State.withdraw_pending (s : State) (id st : Nat) : (s.withdraw id st).pending = s.pending := by rw [State.withdraw_frame]

theorem State.logRefusal_frame (s : State) (m r : Nat) (a : Access) :
    (s.logRefusal m r a) =
      { s with mem := (s.logRefusal m r a).mem, evt := (s.logRefusal m r a).evt, out := (s.logRefusal m r a).out } := by
  unfold State.logRefusal; dsimp only; rw [State.raise_frame]
@[simp] theorem State.logRefusal_now (s : State) (m r : Nat) (a : Access) : (s.logRefusal m r a).now = s.now := by rw [State.logRefusal_frame]
@[simp] theorem State.logRefusal_mbx (s : State) (m r : Nat) (a : Access) : (s.logRefusal m r a).mbx = s.mbx := by rw [State.logRefusal_frame]
@[simp] theorem State.logRefusal_man (s : State) (m r : Nat) (a : Access) : (s.logRefusal m r a).man = s.man := by rw [State.logRefusal_frame]
@[simp] theorem State.logRefusal_ins (s : State) (m r : Nat) (a : Access) : (s.logRefusal m r a).ins = s.ins := by rw [State.logRefusal_frame]
@[simp] theorem State.logRefusal_cap (s : State) (m r : Nat) (a : Access) : (s.logRefusal m r a).cap = s.cap := by rw [State.logRefusal_frame]
@[simp] theorem State.logRefusal_lane (s : State) (m r : Nat) (a : Access) : (s.logRefusal m r a).lane = s.lane := by rw [State.logRefusal_frame]
@[simp] theorem State.logRefusal_sea (s : State) (m r : Nat) (a : Access) : (s.logRefusal m r a).sea = s.sea := by rw [State.logRefusal_frame]
@[simp] theorem State.logRefusal_fare (s : State) (m r : Nat) (a : Access) : (s.logRefusal m r a).fare = s.fare := by rw [State.logRefusal_frame]
@[simp] theorem State.logRefusal_cart (s : State) (m r : Nat) (a : Access) : (s.logRefusal m r a).cart = s.cart := by rw [State.logRefusal_frame]
@[simp] theorem State.logRefusal_tim (s : State) (m r : Nat) (a : Access) : (s.logRefusal m r a).tim = s.tim := by rw [State.logRefusal_frame]
@[simp] theorem State.logRefusal_aud (s : State) (m r : Nat) (a : Access) : (s.logRefusal m r a).aud = s.aud := by rw [State.logRefusal_frame]
@[simp] theorem State.logRefusal_net (s : State) (m r : Nat) (a : Access) : (s.logRefusal m r a).net = s.net := by rw [State.logRefusal_frame]
@[simp] theorem State.logRefusal_isl (s : State) (m r : Nat) (a : Access) : (s.logRefusal m r a).isl = s.isl := by rw [State.logRefusal_frame]
@[simp] theorem State.logRefusal_sec (s : State) (m r : Nat) (a : Access) : (s.logRefusal m r a).sec = s.sec := by rw [State.logRefusal_frame]
@[simp] theorem State.logRefusal_stat (s : State) (m r : Nat) (a : Access) : (s.logRefusal m r a).stat = s.stat := by rw [State.logRefusal_frame]
@[simp] theorem State.logRefusal_test (s : State) (m r : Nat) (a : Access) : (s.logRefusal m r a).test = s.test := by rw [State.logRefusal_frame]
@[simp] theorem State.logRefusal_lcy (s : State) (m r : Nat) (a : Access) : (s.logRefusal m r a).lcy = s.lcy := by rw [State.logRefusal_frame]
@[simp] theorem State.logRefusal_freeCtr (s : State) (m r : Nat) (a : Access) : (s.logRefusal m r a).freeCtr = s.freeCtr := by rw [State.logRefusal_frame]
@[simp] theorem State.logRefusal_pending (s : State) (m r : Nat) (a : Access) : (s.logRefusal m r a).pending = s.pending := by rw [State.logRefusal_frame]

theorem State.mpuCheck_frame (s : State) (m : Nat) (a : Access) :
    (s.mpuCheck m a).2 =
      { s with mem := (s.mpuCheck m a).2.mem, evt := (s.mpuCheck m a).2.evt, out := (s.mpuCheck m a).2.out } := by
  unfold State.mpuCheck
  dsimp only
  split
  · rfl
  · split
    · rw [State.logRefusal_frame]
    · rw [State.logRefusal_frame]
@[simp] theorem State.mpuCheck_now (s : State) (m : Nat) (a : Access) : (s.mpuCheck m a).2.now = s.now := by rw [State.mpuCheck_frame]
@[simp] theorem State.mpuCheck_mbx (s : State) (m : Nat) (a : Access) : (s.mpuCheck m a).2.mbx = s.mbx := by rw [State.mpuCheck_frame]
@[simp] theorem State.mpuCheck_man (s : State) (m : Nat) (a : Access) : (s.mpuCheck m a).2.man = s.man := by rw [State.mpuCheck_frame]
@[simp] theorem State.mpuCheck_ins (s : State) (m : Nat) (a : Access) : (s.mpuCheck m a).2.ins = s.ins := by rw [State.mpuCheck_frame]
@[simp] theorem State.mpuCheck_cap (s : State) (m : Nat) (a : Access) : (s.mpuCheck m a).2.cap = s.cap := by rw [State.mpuCheck_frame]
@[simp] theorem State.mpuCheck_lane (s : State) (m : Nat) (a : Access) : (s.mpuCheck m a).2.lane = s.lane := by rw [State.mpuCheck_frame]
@[simp] theorem State.mpuCheck_sea (s : State) (m : Nat) (a : Access) : (s.mpuCheck m a).2.sea = s.sea := by rw [State.mpuCheck_frame]
@[simp] theorem State.mpuCheck_fare (s : State) (m : Nat) (a : Access) : (s.mpuCheck m a).2.fare = s.fare := by rw [State.mpuCheck_frame]
@[simp] theorem State.mpuCheck_cart (s : State) (m : Nat) (a : Access) : (s.mpuCheck m a).2.cart = s.cart := by rw [State.mpuCheck_frame]
@[simp] theorem State.mpuCheck_tim (s : State) (m : Nat) (a : Access) : (s.mpuCheck m a).2.tim = s.tim := by rw [State.mpuCheck_frame]
@[simp] theorem State.mpuCheck_aud (s : State) (m : Nat) (a : Access) : (s.mpuCheck m a).2.aud = s.aud := by rw [State.mpuCheck_frame]
@[simp] theorem State.mpuCheck_net (s : State) (m : Nat) (a : Access) : (s.mpuCheck m a).2.net = s.net := by rw [State.mpuCheck_frame]
@[simp] theorem State.mpuCheck_isl (s : State) (m : Nat) (a : Access) : (s.mpuCheck m a).2.isl = s.isl := by rw [State.mpuCheck_frame]
@[simp] theorem State.mpuCheck_sec (s : State) (m : Nat) (a : Access) : (s.mpuCheck m a).2.sec = s.sec := by rw [State.mpuCheck_frame]
@[simp] theorem State.mpuCheck_stat (s : State) (m : Nat) (a : Access) : (s.mpuCheck m a).2.stat = s.stat := by rw [State.mpuCheck_frame]
@[simp] theorem State.mpuCheck_test (s : State) (m : Nat) (a : Access) : (s.mpuCheck m a).2.test = s.test := by rw [State.mpuCheck_frame]
@[simp] theorem State.mpuCheck_lcy (s : State) (m : Nat) (a : Access) : (s.mpuCheck m a).2.lcy = s.lcy := by rw [State.mpuCheck_frame]
@[simp] theorem State.mpuCheck_freeCtr (s : State) (m : Nat) (a : Access) : (s.mpuCheck m a).2.freeCtr = s.freeCtr := by rw [State.mpuCheck_frame]
@[simp] theorem State.mpuCheck_pending (s : State) (m : Nat) (a : Access) : (s.mpuCheck m a).2.pending = s.pending := by rw [State.mpuCheck_frame]

theorem State.mpuCheckAt_frame (s : State) (a : Access) :
    (s.mpuCheckAt a).2 =
      { s with mem := (s.mpuCheckAt a).2.mem, evt := (s.mpuCheckAt a).2.evt, out := (s.mpuCheckAt a).2.out } := by
  unfold State.mpuCheckAt
  split
  · rw [State.mpuCheck_frame]
  · dsimp only; rw [State.logRefusal_frame]
@[simp] theorem State.mpuCheckAt_now (s : State) (a : Access) : (s.mpuCheckAt a).2.now = s.now := by rw [State.mpuCheckAt_frame]
@[simp] theorem State.mpuCheckAt_mbx (s : State) (a : Access) : (s.mpuCheckAt a).2.mbx = s.mbx := by rw [State.mpuCheckAt_frame]
@[simp] theorem State.mpuCheckAt_man (s : State) (a : Access) : (s.mpuCheckAt a).2.man = s.man := by rw [State.mpuCheckAt_frame]
@[simp] theorem State.mpuCheckAt_ins (s : State) (a : Access) : (s.mpuCheckAt a).2.ins = s.ins := by rw [State.mpuCheckAt_frame]
@[simp] theorem State.mpuCheckAt_cap (s : State) (a : Access) : (s.mpuCheckAt a).2.cap = s.cap := by rw [State.mpuCheckAt_frame]
@[simp] theorem State.mpuCheckAt_lane (s : State) (a : Access) : (s.mpuCheckAt a).2.lane = s.lane := by rw [State.mpuCheckAt_frame]
@[simp] theorem State.mpuCheckAt_sea (s : State) (a : Access) : (s.mpuCheckAt a).2.sea = s.sea := by rw [State.mpuCheckAt_frame]
@[simp] theorem State.mpuCheckAt_fare (s : State) (a : Access) : (s.mpuCheckAt a).2.fare = s.fare := by rw [State.mpuCheckAt_frame]
@[simp] theorem State.mpuCheckAt_cart (s : State) (a : Access) : (s.mpuCheckAt a).2.cart = s.cart := by rw [State.mpuCheckAt_frame]
@[simp] theorem State.mpuCheckAt_tim (s : State) (a : Access) : (s.mpuCheckAt a).2.tim = s.tim := by rw [State.mpuCheckAt_frame]
@[simp] theorem State.mpuCheckAt_aud (s : State) (a : Access) : (s.mpuCheckAt a).2.aud = s.aud := by rw [State.mpuCheckAt_frame]
@[simp] theorem State.mpuCheckAt_net (s : State) (a : Access) : (s.mpuCheckAt a).2.net = s.net := by rw [State.mpuCheckAt_frame]
@[simp] theorem State.mpuCheckAt_isl (s : State) (a : Access) : (s.mpuCheckAt a).2.isl = s.isl := by rw [State.mpuCheckAt_frame]
@[simp] theorem State.mpuCheckAt_sec (s : State) (a : Access) : (s.mpuCheckAt a).2.sec = s.sec := by rw [State.mpuCheckAt_frame]
@[simp] theorem State.mpuCheckAt_stat (s : State) (a : Access) : (s.mpuCheckAt a).2.stat = s.stat := by rw [State.mpuCheckAt_frame]
@[simp] theorem State.mpuCheckAt_test (s : State) (a : Access) : (s.mpuCheckAt a).2.test = s.test := by rw [State.mpuCheckAt_frame]
@[simp] theorem State.mpuCheckAt_lcy (s : State) (a : Access) : (s.mpuCheckAt a).2.lcy = s.lcy := by rw [State.mpuCheckAt_frame]
@[simp] theorem State.mpuCheckAt_freeCtr (s : State) (a : Access) : (s.mpuCheckAt a).2.freeCtr = s.freeCtr := by rw [State.mpuCheckAt_frame]
@[simp] theorem State.mpuCheckAt_pending (s : State) (a : Access) : (s.mpuCheckAt a).2.pending = s.pending := by rw [State.mpuCheckAt_frame]

end Sys2Proof.Machine
end

