-- ==== Sys2Proof/Laws/Tick.lean ====
section
/-! SUPPORT. Device time moves the clocks and nothing else: what the accessors read is the same before and after. -/

namespace Sys2Proof.Machine
/-- A tick changes device time and the clocks only. -/
theorem State.tick_form (s : State) (t : Nat) : ∃ n x, s.tick t = { s with now := n, tim := x } := by
  unfold State.tick
  split
  · exact ⟨s.now, s.tim, rfl⟩
  · split
    · exact ⟨_, _, rfl⟩
    · exact ⟨_, s.tim, rfl⟩
/-- The clocks' advance changes the served clock, the shadows and the log of stretches only. -/
theorem Tim.advance_form (dt : Nat) (x : Tim) : ∃ a b c d e, x.advance dt =
    { x with served := a, sub := b, corr := c, followLog := d, shadows := e } := by
  unfold Tim.advance
  dsimp only
  split
  · split
    · exact ⟨_, _, _, _, _, rfl⟩
    · exact ⟨_, _, _, _, _, rfl⟩
  · exact ⟨_, _, x.corr, x.followLog, _, rfl⟩

/-- A tick changes device time and the clocks' values only. -/
theorem State.tick_tim (s : State) (t : Nat) : ∃ a b c d e, (s.tick t).tim =
    { s.tim with served := a, sub := b, corr := c, followLog := d, shadows := e } := by
  unfold State.tick
  split
  · exact ⟨s.tim.served, s.tim.sub, s.tim.corr, s.tim.followLog, s.tim.shadows, rfl⟩
  · split
    · exact Tim.advance_form _ _
    · exact ⟨s.tim.served, s.tim.sub, s.tim.corr, s.tim.followLog, s.tim.shadows, rfl⟩

@[simp] theorem State.tick_tim_following (s : State) (t : Nat) : (s.tick t).tim.following = s.tim.following := by
  obtain ⟨a, b, c, d, e, h⟩ := s.tick_tim t; rw [h]
@[simp] theorem State.tick_tim_slewing (s : State) (t : Nat) : (s.tick t).tim.slewing = s.tim.slewing := by
  obtain ⟨a, b, c, d, e, h⟩ := s.tick_tim t; rw [h]
@[simp] theorem State.tick_tim_timeState (s : State) (t : Nat) : (s.tick t).tim.timeState = s.tim.timeState := by
  obtain ⟨a, b, c, d, e, h⟩ := s.tick_tim t; rw [h]
@[simp] theorem State.tick_tim_holdSince (s : State) (t : Nat) : (s.tick t).tim.holdSince = s.tim.holdSince := by
  obtain ⟨a, b, c, d, e, h⟩ := s.tick_tim t; rw [h]
@[simp] theorem State.tick_tim_holdAlarm (s : State) (t : Nat) : (s.tick t).tim.holdAlarm = s.tim.holdAlarm := by
  obtain ⟨a, b, c, d, e, h⟩ := s.tick_tim t; rw [h]
@[simp] theorem State.tick_tim_steps (s : State) (t : Nat) : (s.tick t).tim.steps = s.tim.steps := by
  obtain ⟨a, b, c, d, e, h⟩ := s.tick_tim t; rw [h]
@[simp] theorem State.tick_tim_accepted (s : State) (t : Nat) : (s.tick t).tim.accepted = s.tim.accepted := by
  obtain ⟨a, b, c, d, e, h⟩ := s.tick_tim t; rw [h]
@[simp] theorem State.tick_tim_cmps (s : State) (t : Nat) : (s.tick t).tim.cmps = s.tim.cmps := by
  obtain ⟨a, b, c, d, e, h⟩ := s.tick_tim t; rw [h]
@[simp] theorem State.tick_tim_masters (s : State) (t : Nat) : (s.tick t).tim.masters = s.tim.masters := by
  obtain ⟨a, b, c, d, e, h⟩ := s.tick_tim t; rw [h]
@[simp] theorem State.tick_tim_ppsIn (s : State) (t : Nat) : (s.tick t).tim.ppsIn = s.tim.ppsIn := by
  obtain ⟨a, b, c, d, e, h⟩ := s.tick_tim t; rw [h]
@[simp] theorem State.tick_tim_ppsEdges (s : State) (t : Nat) : (s.tick t).tim.ppsEdges = s.tim.ppsEdges := by
  obtain ⟨a, b, c, d, e, h⟩ := s.tick_tim t; rw [h]
@[simp] theorem State.tick_tim_utcOffset (s : State) (t : Nat) : (s.tick t).tim.utcOffset = s.tim.utcOffset := by
  obtain ⟨a, b, c, d, e, h⟩ := s.tick_tim t; rw [h]
@[simp] theorem State.tick_tim_utcValid (s : State) (t : Nat) : (s.tick t).tim.utcValid = s.tim.utcValid := by
  obtain ⟨a, b, c, d, e, h⟩ := s.tick_tim t; rw [h]
@[simp] theorem State.tick_tim_ppsFall0 (s : State) (t : Nat) : (s.tick t).tim.ppsFall0 = s.tim.ppsFall0 := by
  obtain ⟨a, b, c, d, e, h⟩ := s.tick_tim t; rw [h]
@[simp] theorem State.tick_tim_ppsFall1 (s : State) (t : Nat) : (s.tick t).tim.ppsFall1 = s.tim.ppsFall1 := by
  obtain ⟨a, b, c, d, e, h⟩ := s.tick_tim t; rw [h]
@[simp] theorem State.tick_tim_ppsOut0 (s : State) (t : Nat) : (s.tick t).tim.ppsOut0 = s.tim.ppsOut0 := by
  obtain ⟨a, b, c, d, e, h⟩ := s.tick_tim t; rw [h]
@[simp] theorem State.tick_tim_ppsOut1 (s : State) (t : Nat) : (s.tick t).tim.ppsOut1 = s.tim.ppsOut1 := by
  obtain ⟨a, b, c, d, e, h⟩ := s.tick_tim t; rw [h]
@[simp] theorem State.tick_cmp (s : State) (t n : Nat) : (s.tick t).cmp n = s.cmp n := by simp [State.cmp]

@[simp] theorem State.tick_audCfg (s : State) (t : Nat)  : (s.tick t).audCfg  = s.audCfg  := by
  obtain ⟨n, x, e⟩ := s.tick_form t; rw [e]; rfl
@[simp] theorem State.tick_khz (s : State) (t : Nat)  : (s.tick t).khz  = s.khz  := by
  obtain ⟨n, x, e⟩ := s.tick_form t; rw [e]; rfl
@[simp] theorem State.tick_blockLen (s : State) (t : Nat)  : (s.tick t).blockLen  = s.blockLen  := by
  obtain ⟨n, x, e⟩ := s.tick_form t; rw [e]; rfl
@[simp] theorem State.tick_rxs (s : State) (t : Nat) (n : Nat) : (s.tick t).rxs n = s.rxs n := by
  obtain ⟨n, x, e⟩ := s.tick_form t; rw [e]; rfl
@[simp] theorem State.tick_playPoint (s : State) (t : Nat) (c : RxCfg) : (s.tick t).playPoint c = s.playPoint c := by
  obtain ⟨n, x, e⟩ := s.tick_form t; rw [e]; rfl
@[simp] theorem State.tick_nextPlay (s : State) (t : Nat) (n : Nat) (c : RxCfg) : (s.tick t).nextPlay n c = s.nextPlay n c := by
  obtain ⟨n, x, e⟩ := s.tick_form t; rw [e]; rfl
@[simp] theorem State.tick_replacedAt (s : State) (t : Nat) (k : Nat) (p : Prompt) : (s.tick t).replacedAt k p = s.replacedAt k p := by
  obtain ⟨n, x, e⟩ := s.tick_form t; rw [e]; rfl
@[simp] theorem State.tick_promptSample (s : State) (t : Nat) (k : Nat) (p : Prompt) (f : Int) : (s.tick t).promptSample k p f = s.promptSample k p f := by
  obtain ⟨n, x, e⟩ := s.tick_form t; rw [e]; rfl
@[simp] theorem State.tick_promptPlays (s : State) (t : Nat) (source : Nat) (bus : Nat) (f : Int) : (s.tick t).promptPlays source bus f = s.promptPlays source bus f := by
  obtain ⟨n, x, e⟩ := s.tick_form t; rw [e]; rfl
@[simp] theorem State.tick_sourceActive (s : State) (t : Nat) (bus : Nat) (b : BusSource) (f : Int) : (s.tick t).sourceActive bus b f = s.sourceActive bus b f := by
  obtain ⟨n, x, e⟩ := s.tick_form t; rw [e]; rfl
@[simp] theorem State.tick_busEmergency (s : State) (t : Nat) (bus : Nat) (f : Int) : (s.tick t).busEmergency bus f = s.busEmergency bus f := by
  obtain ⟨n, x, e⟩ := s.tick_form t; rw [e]; rfl
@[simp] theorem State.tick_sourceSample (s : State) (t : Nat) (tdmIn : List (List Int)) (bus : Nat) (b : BusSource) (f0 : Nat) (i : Nat) : (s.tick t).sourceSample tdmIn bus b f0 i = s.sourceSample tdmIn bus b f0 i := by
  obtain ⟨n, x, e⟩ := s.tick_form t; rw [e]; rfl
@[simp] theorem State.tick_tailSample (s : State) (t : Nat) (i : Nat) (f0 : Nat) (t_ : Nat × Nat × Nat) : (s.tick t).tailSample i f0 t_ = s.tailSample i f0 t_ := by
  obtain ⟨n, x, e⟩ := s.tick_form t; rw [e]; rfl
@[simp] theorem State.tick_busBlock (s : State) (t : Nat) (tdmIn : List (List Int)) (bus : Nat) (src : List BusSource) (live : Bool) : (s.tick t).busBlock tdmIn bus src live = s.busBlock tdmIn bus src live := by
  obtain ⟨n, x, e⟩ := s.tick_form t; rw [e]; rfl
@[simp] theorem State.tick_busLive (s : State) (t : Nat) (bus : Nat) : (s.tick t).busLive bus = s.busLive bus := by
  obtain ⟨n, x, e⟩ := s.tick_form t; rw [e]; rfl
@[simp] theorem State.tick_stagedRate (s : State) (t : Nat) (tag : Nat) : (s.tick t).stagedRate tag = s.stagedRate tag := by
  obtain ⟨n, x, e⟩ := s.tick_form t; rw [e]; rfl
@[simp] theorem State.tick_topClips (s : State) (t : Nat) (tag : Nat) : (s.tick t).topClips tag = s.topClips tag := by
  obtain ⟨n, x, e⟩ := s.tick_form t; rw [e]; rfl
@[simp] theorem State.tick_counterWord (s : State) (t : Nat) (group : Nat) (n : Nat) (i : Nat) : (s.tick t).counterWord group n i = s.counterWord group n i := by
  obtain ⟨n, x, e⟩ := s.tick_form t; rw [e]; rfl
@[simp] theorem State.tick_sealed (s : State) (t : Nat) (c : Cap) : (s.tick t).sealed c = s.sealed c := by
  obtain ⟨n, x, e⟩ := s.tick_form t; rw [e]; rfl
@[simp] theorem State.tick_obj (s : State) (t : Nat) (n : Nat) : (s.tick t).obj n = s.obj n := by
  obtain ⟨n, x, e⟩ := s.tick_form t; rw [e]; rfl
@[simp] theorem State.tick_live (s : State) (t : Nat) (n : Nat) : (s.tick t).live n = s.live n := by
  obtain ⟨n, x, e⟩ := s.tick_form t; rw [e]; rfl
@[simp] theorem State.tick_capValid (s : State) (t : Nat) (c : Cap) : (s.tick t).capValid c = s.capValid c := by
  obtain ⟨n, x, e⟩ := s.tick_form t; rw [e]; rfl
@[simp] theorem State.tick_rootOf (s : State) (t : Nat) (n : Nat) : (s.tick t).rootOf n = s.rootOf n := by
  obtain ⟨n, x, e⟩ := s.tick_form t; rw [e]; rfl
@[simp] theorem State.tick_treeCount (s : State) (t : Nat) (n : Nat) : (s.tick t).treeCount n = s.treeCount n := by
  obtain ⟨n, x, e⟩ := s.tick_form t; rw [e]; rfl
@[simp] theorem State.tick_keyOf (s : State) (t : Nat) (o : Obj) : (s.tick t).keyOf o = s.keyOf o := by
  obtain ⟨n, x, e⟩ := s.tick_form t; rw [e]; rfl
@[simp] theorem State.tick_handleOk (s : State) (t : Nat) (tag : Nat) (h : BitVec 128) (staging : Bool) : (s.tick t).handleOk tag h staging = s.handleOk tag h staging := by
  obtain ⟨n, x, e⟩ := s.tick_form t; rw [e]; rfl
@[simp] theorem State.tick_handleFor (s : State) (t : Nat) (tag : Nat) (h : BitVec 128) (type : Nat → Bool) (rights : BitVec 16) (staging : Bool) : (s.tick t).handleFor tag h type rights staging = s.handleFor tag h type rights staging := by
  obtain ⟨n, x, e⟩ := s.tick_form t; rw [e]; rfl
@[simp] theorem State.tick_genUnits (s : State) (t : Nat)  : (s.tick t).genUnits  = s.genUnits  := by
  obtain ⟨n, x, e⟩ := s.tick_form t; rw [e]; rfl
@[simp] theorem State.tick_gate (s : State) (t : Nat) (n : Nat) : (s.tick t).gate n = s.gate n := by
  obtain ⟨n, x, e⟩ := s.tick_form t; rw [e]; rfl
@[simp] theorem State.tick_faultView (s : State) (t : Nat) (tag : Nat) (f : FaultRec) : (s.tick t).faultView tag f = s.faultView tag f := by
  obtain ⟨n, x, e⟩ := s.tick_form t; rw [e]; rfl
@[simp] theorem State.tick_cartReads (s : State) (t : Nat) (n : Nat) : (s.tick t).cartReads n = s.cartReads n := by
  obtain ⟨n, x, e⟩ := s.tick_form t; rw [e]; rfl
@[simp] theorem State.tick_cartPwd (s : State) (t : Nat) (n : Nat) : (s.tick t).cartPwd n = s.cartPwd n := by
  obtain ⟨n, x, e⟩ := s.tick_form t; rw [e]; rfl
@[simp] theorem State.tick_cartWaits (s : State) (t : Nat) (r : Nat) : (s.tick t).cartWaits r = s.cartWaits r := by
  obtain ⟨n, x, e⟩ := s.tick_form t; rw [e]; rfl
@[simp] theorem State.tick_cartMine (s : State) (t : Nat) (tag : Nat) (n : Nat) : (s.tick t).cartMine tag n = s.cartMine tag n := by
  obtain ⟨n, x, e⟩ := s.tick_form t; rw [e]; rfl
@[simp] theorem State.tick_cartBar (s : State) (t : Nat) (tag : Nat) (a : List Word) : (s.tick t).cartBar tag a = s.cartBar tag a := by
  obtain ⟨n, x, e⟩ := s.tick_form t; rw [e]; rfl
@[simp] theorem State.tick_boundElsewhere (s : State) (t : Nat) (n : Nat) (tenant : Nat) : (s.tick t).boundElsewhere n tenant = s.boundElsewhere n tenant := by
  obtain ⟨n, x, e⟩ := s.tick_form t; rw [e]; rfl
@[simp] theorem State.tick_journalReadBar (s : State) (t : Nat) (tag : Nat) (a : List Word) : (s.tick t).journalReadBar tag a = s.journalReadBar tag a := by
  obtain ⟨n, x, e⟩ := s.tick_form t; rw [e]; rfl
@[simp] theorem State.tick_dirCheck (s : State) (t : Nat) (man : Nat) (tenant : Nat) (entry : Nat) (dataBlocks : Nat) (d : List Byte) (obj : List Byte) : (s.tick t).dirCheck man tenant entry dataBlocks d obj = s.dirCheck man tenant entry dataBlocks d obj := by
  obtain ⟨n, x, e⟩ := s.tick_form t; rw [e]; rfl
@[simp] theorem State.tick_version (s : State) (t : Nat) (i : Item) : (s.tick t).version i = s.version i := by
  obtain ⟨n, x, e⟩ := s.tick_form t; rw [e]; rfl
@[simp] theorem State.tick_resulting (s : State) (t : Nat) (m : Manifest) : (s.tick t).resulting m = s.resulting m := by
  obtain ⟨n, x, e⟩ := s.tick_form t; rw [e]; rfl
@[simp] theorem State.tick_checkTargets (s : State) (t : Nat) (m : Manifest) : (s.tick t).checkTargets m = s.checkTargets m := by
  obtain ⟨n, x, e⟩ := s.tick_form t; rw [e]; rfl
@[simp] theorem State.tick_reserved (s : State) (t : Nat) (id : Nat) : (s.tick t).reserved id = s.reserved id := by
  obtain ⟨n, x, e⟩ := s.tick_form t; rw [e]; rfl
@[simp] theorem State.tick_checkConflict (s : State) (t : Nat) (id : Nat) (m : Manifest) : (s.tick t).checkConflict id m = s.checkConflict id m := by
  obtain ⟨n, x, e⟩ := s.tick_form t; rw [e]; rfl
@[simp] theorem State.tick_region (s : State) (t : Nat) (c : Cfg) (mpu : Nat) (r : Nat) : (s.tick t).region c mpu r = s.region c mpu r := by
  obtain ⟨n, x, e⟩ := s.tick_form t; rw [e]; rfl
@[simp] theorem State.tick_checkOverlap (s : State) (t : Nat) (c : Cfg) : (s.tick t).checkOverlap c = s.checkOverlap c := by
  obtain ⟨n, x, e⟩ := s.tick_form t; rw [e]; rfl
@[simp] theorem State.tick_usableCells (s : State) (t : Nat)  : (s.tick t).usableCells  = s.usableCells  := by
  obtain ⟨n, x, e⟩ := s.tick_form t; rw [e]; rfl
@[simp] theorem State.tick_checkCastes (s : State) (t : Nat) (c : Cfg) : (s.tick t).checkCastes c = s.checkCastes c := by
  obtain ⟨n, x, e⟩ := s.tick_form t; rw [e]; rfl
@[simp] theorem State.tick_checkPools (s : State) (t : Nat) (c : Cfg) : (s.tick t).checkPools c = s.checkPools c := by
  obtain ⟨n, x, e⟩ := s.tick_form t; rw [e]; rfl
@[simp] theorem State.tick_slotState (s : State) (t : Nat) (n : Nat) : (s.tick t).slotState n = s.slotState n := by
  obtain ⟨n, x, e⟩ := s.tick_form t; rw [e]; rfl
@[simp] theorem State.tick_checkCarts (s : State) (t : Nat) (m : Manifest) : (s.tick t).checkCarts m = s.checkCarts m := by
  obtain ⟨n, x, e⟩ := s.tick_form t; rw [e]; rfl
@[simp] theorem State.tick_checkDeployed (s : State) (t : Nat) (m : Manifest) (c : Cfg) : (s.tick t).checkDeployed m c = s.checkDeployed m c := by
  obtain ⟨n, x, e⟩ := s.tick_form t; rw [e]; rfl
@[simp] theorem State.tick_commitChecks (s : State) (t : Nat) (id : Nat) (m : Manifest) : (s.tick t).commitChecks id m = s.commitChecks id m := by
  obtain ⟨n, x, e⟩ := s.tick_form t; rw [e]; rfl
@[simp] theorem State.tick_casteCells (s : State) (t : Nat) (c : Caste) : (s.tick t).casteCells c = s.casteCells c := by
  obtain ⟨n, x, e⟩ := s.tick_form t; rw [e]; rfl
@[simp] theorem State.tick_cellsAt (s : State) (t : Nat) (st : CellState) : (s.tick t).cellsAt st = s.cellsAt st := by
  obtain ⟨n, x, e⟩ := s.tick_form t; rw [e]; rfl
@[simp] theorem State.tick_objsAt (s : State) (t : Nat) (st : ObjState) : (s.tick t).objsAt st = s.objsAt st := by
  obtain ⟨n, x, e⟩ := s.tick_form t; rw [e]; rfl
@[simp] theorem State.tick_slotsAt (s : State) (t : Nat) (st : SlotState) : (s.tick t).slotsAt st = s.slotsAt st := by
  obtain ⟨n, x, e⟩ := s.tick_form t; rw [e]; rfl
@[simp] theorem State.tick_chanOf (s : State) (t : Nat) (n : Nat) : (s.tick t).chanOf n = s.chanOf n := by
  obtain ⟨n, x, e⟩ := s.tick_form t; rw [e]; rfl
@[simp] theorem State.tick_gauge (s : State) (t : Nat) (g : Nat) (n : Nat) (i : Nat) : (s.tick t).gauge g n i = s.gauge g n i := by
  obtain ⟨n, x, e⟩ := s.tick_form t; rw [e]; rfl
@[simp] theorem State.tick_stat_ (s : State) (t : Nat) (g : Nat) (n : Nat) (i : Nat) : (s.tick t).stat_ g n i = s.stat_ g n i := by
  obtain ⟨n, x, e⟩ := s.tick_form t; rw [e]; rfl
@[simp] theorem State.tick_gauges (s : State) (t : Nat)  : (s.tick t).gauges  = s.gauges  := by
  obtain ⟨n, x, e⟩ := s.tick_form t; rw [e]; rfl
@[simp] theorem State.tick_openBooks (s : State) (t : Nat)  : (s.tick t).openBooks  = s.openBooks  := by
  obtain ⟨n, x, e⟩ := s.tick_form t; rw [e]; rfl
@[simp] theorem State.tick_eqCause (s : State) (t : Nat) (rcpt : Nat) (io : HostIo) : (s.tick t).eqCause rcpt io = s.eqCause rcpt io := by
  obtain ⟨n, x, e⟩ := s.tick_form t; rw [e]; rfl
@[simp] theorem State.tick_evGone (s : State) (t : Nat) (tag : Nat) (named : Nat) : (s.tick t).evGone tag named = s.evGone tag named := by
  obtain ⟨n, x, e⟩ := s.tick_form t; rw [e]; rfl
@[simp] theorem State.tick_pageLive (s : State) (t : Nat) (tag : Nat) : (s.tick t).pageLive tag = s.pageLive tag := by
  obtain ⟨n, x, e⟩ := s.tick_form t; rw [e]; rfl
@[simp] theorem State.tick_sealFirst (s : State) (t : Nat) (lane : Nat) (x : Session) : (s.tick t).sealFirst lane x = s.sealFirst lane x := by
  obtain ⟨n, x, e⟩ := s.tick_form t; rw [e]; rfl
@[simp] theorem State.tick_heldFrom (s : State) (t : Nat) (tag : Nat) (first : Nat) : (s.tick t).heldFrom tag first = s.heldFrom tag first := by
  obtain ⟨n, x, e⟩ := s.tick_form t; rw [e]; rfl
@[simp] theorem State.tick_ses (s : State) (t : Nat) (lane : Nat) : (s.tick t).ses lane = s.ses lane := by
  obtain ⟨n, x, e⟩ := s.tick_form t; rw [e]; rfl
@[simp] theorem State.tick_seg (s : State) (t : Nat) (n : Nat) : (s.tick t).seg n = s.seg n := by
  obtain ⟨n, x, e⟩ := s.tick_form t; rw [e]; rfl
@[simp] theorem State.tick_unit (s : State) (t : Nat) (lane : Nat) : (s.tick t).unit lane = s.unit lane := by
  obtain ⟨n, x, e⟩ := s.tick_form t; rw [e]; rfl
@[simp] theorem State.tick_openTime (s : State) (t : Nat) (lane : Nat) (x : Session) : (s.tick t).openTime lane x = s.openTime lane x := by
  obtain ⟨n, x, e⟩ := s.tick_form t; rw [e]; rfl
@[simp] theorem State.tick_boundKey (s : State) (t : Nat) (c : Cfg) (tenant : Nat) (role : Nat) (issuer : Nat) (keyId : Nat) : (s.tick t).boundKey c tenant role issuer keyId = s.boundKey c tenant role issuer keyId := by
  obtain ⟨n, x, e⟩ := s.tick_form t; rw [e]; rfl
@[simp] theorem State.tick_roleKeys (s : State) (t : Nat) (c : Cfg) (man : Nat) (tenant : Nat) (role : Nat) : (s.tick t).roleKeys c man tenant role = s.roleKeys c man tenant role := by
  obtain ⟨n, x, e⟩ := s.tick_form t; rw [e]; rfl
@[simp] theorem State.tick_topSerial (s : State) (t : Nat) (tenant : Nat) : (s.tick t).topSerial tenant = s.topSerial tenant := by
  obtain ⟨n, x, e⟩ := s.tick_form t; rw [e]; rfl
@[simp] theorem State.tick_counter (s : State) (t : Nat) (group : Nat) (n : Nat) (i : Nat) : (s.tick t).counter group n i = s.counter group n i := by
  obtain ⟨n, x, e⟩ := s.tick_form t; rw [e]; rfl
@[simp] theorem State.tick_evq (s : State) (t : Nat) (tag : Nat) : (s.tick t).evq tag = s.evq tag := by
  obtain ⟨n, x, e⟩ := s.tick_form t; rw [e]; rfl
@[simp] theorem State.tick_recipients (s : State) (t : Nat) (route : Route) (owner : Nat) : (s.tick t).recipients route owner = s.recipients route owner := by
  obtain ⟨n, x, e⟩ := s.tick_form t; rw [e]; rfl
@[simp] theorem State.tick_workerBuffer (s : State) (t : Nat) (d : GateSlot) (r : CapReg) : (s.tick t).workerBuffer d r = s.workerBuffer d r := by
  obtain ⟨n, x, e⟩ := s.tick_form t; rw [e]; rfl
@[simp] theorem State.tick_workerSlot2 (s : State) (t : Nat) (d : GateSlot) (c : Cell) : (s.tick t).workerSlot2 d c = s.workerSlot2 d c := by
  obtain ⟨n, x, e⟩ := s.tick_form t; rw [e]; rfl
@[simp] theorem State.tick_workerEntry (s : State) (t : Nat) (c : Cell) (r : CapReg) : (s.tick t).workerEntry c r = s.workerEntry c r := by
  obtain ⟨n, x, e⟩ := s.tick_form t; rw [e]; rfl
@[simp] theorem State.tick_sqCheck (s : State) (t : Nat) (tag : Nat) (b : List Byte) (o : SqOp) : (s.tick t).sqCheck tag b o = s.sqCheck tag b o := by
  obtain ⟨n, x, e⟩ := s.tick_form t; rw [e]; rfl
@[simp] theorem State.tick_tlbHeld (s : State) (t : Nat) (tag : Nat) : (s.tick t).tlbHeld tag = s.tlbHeld tag := by
  obtain ⟨n, x, e⟩ := s.tick_form t; rw [e]; rfl
@[simp] theorem State.tick_slotsHeld (s : State) (t : Nat) (tag : Nat) : (s.tick t).slotsHeld tag = s.slotsHeld tag := by
  obtain ⟨n, x, e⟩ := s.tick_form t; rw [e]; rfl
@[simp] theorem State.tick_freeSlice (s : State) (t : Nat)  : (s.tick t).freeSlice  = s.freeSlice  := by
  obtain ⟨n, x, e⟩ := s.tick_form t; rw [e]; rfl
@[simp] theorem State.tick_island (s : State) (t : Nat) (n : Nat) : (s.tick t).island n = s.island n := by
  obtain ⟨n, x, e⟩ := s.tick_form t; rw [e]; rfl
@[simp] theorem State.tick_link (s : State) (t : Nat) (die : Nat) : (s.tick t).link die = s.link die := by
  obtain ⟨n, x, e⟩ := s.tick_form t; rw [e]; rfl
@[simp] theorem State.tick_islandPresent (s : State) (t : Nat) (n : Nat) : (s.tick t).islandPresent n = s.islandPresent n := by
  obtain ⟨n, x, e⟩ := s.tick_form t; rw [e]; rfl
@[simp] theorem State.tick_protected (s : State) (t : Nat) (n : Nat) : (s.tick t).protected n = s.protected n := by
  obtain ⟨n, x, e⟩ := s.tick_form t; rw [e]; rfl
@[simp] theorem State.tick_islandCap (s : State) (t : Nat) (n : Nat) : (s.tick t).islandCap n = s.islandCap n := by
  obtain ⟨n, x, e⟩ := s.tick_form t; rw [e]; rfl
@[simp] theorem State.tick_freezeEnd (s : State) (t : Nat) (loop : Nat) (target : Nat) : (s.tick t).freezeEnd loop target = s.freezeEnd loop target := by
  obtain ⟨n, x, e⟩ := s.tick_form t; rw [e]; rfl
@[simp] theorem State.tick_telem (s : State) (t : Nat) (n : Nat) : (s.tick t).telem n = s.telem n := by
  obtain ⟨n, x, e⟩ := s.tick_form t; rw [e]; rfl
@[simp] theorem State.tick_islTherm (s : State) (t : Nat)  : (s.tick t).islTherm  = s.islTherm  := by
  obtain ⟨n, x, e⟩ := s.tick_form t; rw [e]; rfl
@[simp] theorem State.tick_loopStatus (s : State) (t : Nat) (loop : Nat) (target : Nat) : (s.tick t).loopStatus loop target = s.loopStatus loop target := by
  obtain ⟨n, x, e⟩ := s.tick_form t; rw [e]; rfl
@[simp] theorem State.tick_loopAtLimit (s : State) (t : Nat) (loop : Nat) (target : Nat) : (s.tick t).loopAtLimit loop target = s.loopAtLimit loop target := by
  obtain ⟨n, x, e⟩ := s.tick_form t; rw [e]; rfl
@[simp] theorem State.tick_jrec (s : State) (t : Nat) (n : Nat) : (s.tick t).jrec n = s.jrec n := by
  obtain ⟨n, x, e⟩ := s.tick_form t; rw [e]; rfl
@[simp] theorem State.tick_cartSlot (s : State) (t : Nat) (n : Nat) : (s.tick t).cartSlot n = s.cartSlot n := by
  obtain ⟨n, x, e⟩ := s.tick_form t; rw [e]; rfl
@[simp] theorem State.tick_slotFor (s : State) (t : Nat) (tenant : Nat) : (s.tick t).slotFor tenant = s.slotFor tenant := by
  obtain ⟨n, x, e⟩ := s.tick_form t; rw [e]; rfl
@[simp] theorem State.tick_journalKey (s : State) (t : Nat) (c : Cfg) (tenant : Nat) : (s.tick t).journalKey c tenant = s.journalKey c tenant := by
  obtain ⟨n, x, e⟩ := s.tick_form t; rw [e]; rfl
@[simp] theorem State.tick_chain (s : State) (t : Nat) (tenant : Nat) : (s.tick t).chain tenant = s.chain tenant := by
  obtain ⟨n, x, e⟩ := s.tick_form t; rw [e]; rfl
@[simp] theorem State.tick_segRuns (s : State) (t : Nat) (seg : Nat) : (s.tick t).segRuns seg = s.segRuns seg := by
  obtain ⟨n, x, e⟩ := s.tick_form t; rw [e]; rfl
@[simp] theorem State.tick_apduFor (s : State) (t : Nat) (lane : Nat) (x : Session) (kind : ExKind) (apdu : List Byte) : (s.tick t).apduFor lane x kind apdu = s.apduFor lane x kind apdu := by
  obtain ⟨n, x, e⟩ := s.tick_form t; rw [e]; rfl
@[simp] theorem State.tick_failStateOf (s : State) (t : Nat) (lane : Nat) : (s.tick t).failStateOf lane = s.failStateOf lane := by
  obtain ⟨n, x, e⟩ := s.tick_form t; rw [e]; rfl
@[simp] theorem State.tick_assignMay (s : State) (t : Nat) (seg : Nat) (a : Assign) : (s.tick t).assignMay seg a = s.assignMay seg a := by
  obtain ⟨n, x, e⟩ := s.tick_form t; rw [e]; rfl
@[simp] theorem State.tick_reassignOf (s : State) (t : Nat) (seg : Nat) : (s.tick t).reassignOf seg = s.reassignOf seg := by
  obtain ⟨n, x, e⟩ := s.tick_form t; rw [e]; rfl
@[simp] theorem State.tick_openTurn (s : State) (t : Nat) (seg : Nat) : (s.tick t).openTurn seg = s.openTurn seg := by
  obtain ⟨n, x, e⟩ := s.tick_form t; rw [e]; rfl
@[simp] theorem State.tick_invites (s : State) (t : Nat) (seg : Nat) (lane : Nat) : (s.tick t).invites seg lane = s.invites seg lane := by
  obtain ⟨n, x, e⟩ := s.tick_form t; rw [e]; rfl
@[simp] theorem State.tick_heldWord (s : State) (t : Nat) (tag : Nat) : (s.tick t).heldWord tag = s.heldWord tag := by
  obtain ⟨n, x, e⟩ := s.tick_form t; rw [e]; rfl
@[simp] theorem State.tick_selector (s : State) (t : Nat) (w : Word) : (s.tick t).selector w = s.selector w := by
  obtain ⟨n, x, e⟩ := s.tick_form t; rw [e]; rfl
@[simp] theorem State.tick_gpioBalls (s : State) (t : Nat)  : (s.tick t).gpioBalls  = s.gpioBalls  := by
  obtain ⟨n, x, e⟩ := s.tick_form t; rw [e]; rfl
@[simp] theorem State.tick_manOf (s : State) (t : Nat) (tag : Nat) (id : Nat) : (s.tick t).manOf tag id = s.manOf tag id := by
  obtain ⟨n, x, e⟩ := s.tick_form t; rw [e]; rfl
@[simp] theorem State.tick_commitPre (s : State) (t : Nat) (tag : Nat) (a : List Word) : (s.tick t).commitPre tag a = s.commitPre tag a := by
  obtain ⟨n, x, e⟩ := s.tick_form t; rw [e]; rfl
@[simp] theorem State.tick_cellRuns (s : State) (t : Nat) (n : Nat) : (s.tick t).cellRuns n = s.cellRuns n := by
  obtain ⟨n, x, e⟩ := s.tick_form t; rw [e]; rfl
@[simp] theorem State.tick_memByte (s : State) (t : Nat) (a : Nat) : (s.tick t).memByte a = s.memByte a := by
  obtain ⟨n, x, e⟩ := s.tick_form t; rw [e]; rfl
@[simp] theorem State.tick_line (s : State) (t : Nat) (k : Nat) : (s.tick t).line k = s.line k := by
  obtain ⟨n, x, e⟩ := s.tick_form t; rw [e]; rfl
@[simp] theorem State.tick_clusterLines (s : State) (t : Nat) (island : Nat) : (s.tick t).clusterLines island = s.clusterLines island := by
  obtain ⟨n, x, e⟩ := s.tick_form t; rw [e]; rfl
@[simp] theorem State.tick_capAddr (s : State) (t : Nat) (c : Cap) (off : Nat) : (s.tick t).capAddr c off = s.capAddr c off := by
  obtain ⟨n, x, e⟩ := s.tick_form t; rw [e]; rfl
@[simp] theorem State.tick_capCause (s : State) (t : Nat) (n : Nat) (r : CapReg) (off : Nat) (size : Nat) (read : Bool) (write : Bool) : (s.tick t).capCause n r off size read write = s.capCause n r off size read write := by
  obtain ⟨n, x, e⟩ := s.tick_form t; rw [e]; rfl
@[simp] theorem State.tick_port (s : State) (t : Nat) (n : Nat) : (s.tick t).port n = s.port n := by
  obtain ⟨n, x, e⟩ := s.tick_form t; rw [e]; rfl
@[simp] theorem State.tick_linkUp (s : State) (t : Nat) (n : Nat) : (s.tick t).linkUp n = s.linkUp n := by
  obtain ⟨n, x, e⟩ := s.tick_form t; rw [e]; rfl
@[simp] theorem State.tick_stewardUnits (s : State) (t : Nat)  : (s.tick t).stewardUnits  = s.stewardUnits  := by
  obtain ⟨n, x, e⟩ := s.tick_form t; rw [e]; rfl
@[simp] theorem State.tick_heldUnits (s : State) (t : Nat)  : (s.tick t).heldUnits  = s.heldUnits  := by
  obtain ⟨n, x, e⟩ := s.tick_form t; rw [e]; rfl
@[simp] theorem State.tick_freeUnits (s : State) (t : Nat) (extra : Nat) : (s.tick t).freeUnits extra = s.freeUnits extra := by
  obtain ⟨n, x, e⟩ := s.tick_form t; rw [e]; rfl
@[simp] theorem State.tick_clockId (s : State) (t : Nat)  : (s.tick t).clockId  = s.clockId  := by
  obtain ⟨n, x, e⟩ := s.tick_form t; rw [e]; rfl
@[simp] theorem State.tick_ptpBytes (s : State) (t : Nat) (port : Nat) (domain : Nat) (type : Nat) (flags : Nat) (control : Nat) (seq : Nat) (correction : Int) (logInterval : Int) (body : List Byte) : (s.tick t).ptpBytes port domain type flags control seq correction logInterval body = s.ptpBytes port domain type flags control seq correction logInterval body := by
  obtain ⟨n, x, e⟩ := s.tick_form t; rw [e]; rfl
@[simp] theorem State.tick_consumer (s : State) (t : Nat) (port : Nat) (f : List Byte) (p : Parsed) : (s.tick t).consumer port f p = s.consumer port f p := by
  obtain ⟨n, x, e⟩ := s.tick_form t; rw [e]; rfl
@[simp] theorem State.tick_macFilter (s : State) (t : Nat) (port : Nat) (c : NetPortCfg) (f : List Byte) : (s.tick t).macFilter port c f = s.macFilter port c f := by
  obtain ⟨n, x, e⟩ := s.tick_form t; rw [e]; rfl
@[simp] theorem State.tick_decideFrame (s : State) (t : Nat) (port : Nat) (c : NetPortCfg) (f : List Byte) (p : Parsed) : (s.tick t).decideFrame port c f p = s.decideFrame port c f p := by
  obtain ⟨n, x, e⟩ := s.tick_form t; rw [e]; rfl
@[simp] theorem State.tick_pickQueue (s : State) (t : Nat) (port : Nat) : (s.tick t).pickQueue port = s.pickQueue port := by
  obtain ⟨n, x, e⟩ := s.tick_form t; rw [e]; rfl
@[simp] theorem State.tick_egress (s : State) (t : Nat) (port : Nat) (c : Copy) : (s.tick t).egress port c = s.egress port c := by
  obtain ⟨n, x, e⟩ := s.tick_form t; rw [e]; rfl
@[simp] theorem State.tick_xlateCause (s : State) (t : Nat) (tag : Nat) (iova : Nat) (len : Nat) (walk : Option Nat) : (s.tick t).xlateCause tag iova len walk = s.xlateCause tag iova len walk := by
  obtain ⟨n, x, e⟩ := s.tick_form t; rw [e]; rfl
@[simp] theorem State.tick_fuse (s : State) (t : Nat) (w : Nat) : (s.tick t).fuse w = s.fuse w := by
  obtain ⟨n, x, e⟩ := s.tick_form t; rw [e]; rfl
@[simp] theorem State.tick_lifecycle (s : State) (t : Nat)  : (s.tick t).lifecycle  = s.lifecycle  := by
  obtain ⟨n, x, e⟩ := s.tick_form t; rw [e]; rfl
@[simp] theorem State.tick_rollbackStep (s : State) (t : Nat)  : (s.tick t).rollbackStep  = s.rollbackStep  := by
  obtain ⟨n, x, e⟩ := s.tick_form t; rw [e]; rfl
@[simp] theorem State.tick_zcount (s : State) (t : Nat)  : (s.tick t).zcount  = s.zcount  := by
  obtain ⟨n, x, e⟩ := s.tick_form t; rw [e]; rfl
@[simp] theorem State.tick_enrols (s : State) (t : Nat)  : (s.tick t).enrols  = s.enrols  := by
  obtain ⟨n, x, e⟩ := s.tick_form t; rw [e]; rfl
@[simp] theorem State.tick_rights (s : State) (t : Nat) (tag : Nat) : (s.tick t).rights tag = s.rights tag := by
  obtain ⟨n, x, e⟩ := s.tick_form t; rw [e]; rfl
@[simp] theorem State.tick_openMan (s : State) (t : Nat) (tag : Nat) : (s.tick t).openMan tag = s.openMan tag := by
  obtain ⟨n, x, e⟩ := s.tick_form t; rw [e]; rfl
@[simp] theorem State.tick_indCause (s : State) (t : Nat) (tag : Nat) (p : Page) (io : HostIo) : (s.tick t).indCause tag p io = s.indCause tag p io := by
  obtain ⟨n, x, e⟩ := s.tick_form t; rw [e]; rfl
@[simp] theorem State.tick_lifecycleStatus (s : State) (t : Nat) (d : CmdDef) : (s.tick t).lifecycleStatus d = s.lifecycleStatus d := by
  obtain ⟨n, x, e⟩ := s.tick_form t; rw [e]; rfl
@[simp] theorem State.tick_ready (s : State) (t : Nat) (tag : Nat) (code : Nat) : (s.tick t).ready tag code = s.ready tag code := by
  obtain ⟨n, x, e⟩ := s.tick_form t; rw [e]; rfl
@[simp] theorem State.tick_inst (s : State) (t : Nat) (tag : Nat) : (s.tick t).inst tag = s.inst tag := by
  obtain ⟨n, x, e⟩ := s.tick_form t; rw [e]; rfl
@[simp] theorem State.tick_enabled (s : State) (t : Nat) (tag : Nat) : (s.tick t).enabled tag = s.enabled tag := by
  obtain ⟨n, x, e⟩ := s.tick_form t; rw [e]; rfl
@[simp] theorem State.tick_enabledTags (s : State) (t : Nat)  : (s.tick t).enabledTags  = s.enabledTags  := by
  obtain ⟨n, x, e⟩ := s.tick_form t; rw [e]; rfl
@[simp] theorem State.tick_func (s : State) (t : Nat) (fn : Nat) : (s.tick t).func fn = s.func fn := by
  obtain ⟨n, x, e⟩ := s.tick_form t; rw [e]; rfl
@[simp] theorem State.tick_bme (s : State) (t : Nat) (tag : Nat) : (s.tick t).bme tag = s.bme tag := by
  obtain ⟨n, x, e⟩ := s.tick_form t; rw [e]; rfl
@[simp] theorem State.tick_qp (s : State) (t : Nat) (tag : Nat) (q : Nat) : (s.tick t).qp tag q = s.qp tag q := by
  obtain ⟨n, x, e⟩ := s.tick_form t; rw [e]; rfl
@[simp] theorem State.tick_page (s : State) (t : Nat) (tag : Nat) : (s.tick t).page tag = s.page tag := by
  obtain ⟨n, x, e⟩ := s.tick_form t; rw [e]; rfl
@[simp] theorem State.tick_cmdRec (s : State) (t : Nat) (tag : Nat) : (s.tick t).cmdRec tag = s.cmdRec tag := by
  obtain ⟨n, x, e⟩ := s.tick_form t; rw [e]; rfl
@[simp] theorem State.tick_readyWord (s : State) (t : Nat)  : (s.tick t).readyWord  = s.readyWord  := by
  obtain ⟨n, x, e⟩ := s.tick_form t; rw [e]; rfl
@[simp] theorem State.tick_eligible (s : State) (t : Nat) (tag : Nat) : (s.tick t).eligible tag = s.eligible tag := by
  obtain ⟨n, x, e⟩ := s.tick_form t; rw [e]; rfl
@[simp] theorem State.tick_nextPage (s : State) (t : Nat)  : (s.tick t).nextPage  = s.nextPage  := by
  obtain ⟨n, x, e⟩ := s.tick_form t; rw [e]; rfl
@[simp] theorem State.tick_someTaken (s : State) (t : Nat)  : (s.tick t).someTaken  = s.someTaken  := by
  obtain ⟨n, x, e⟩ := s.tick_form t; rw [e]; rfl
@[simp] theorem State.tick_cfgOf (s : State) (t : Nat) (ver : Nat) : (s.tick t).cfgOf ver = s.cfgOf ver := by
  obtain ⟨n, x, e⟩ := s.tick_form t; rw [e]; rfl
@[simp] theorem State.tick_cfg (s : State) (t : Nat)  : (s.tick t).cfg  = s.cfg  := by
  obtain ⟨n, x, e⟩ := s.tick_form t; rw [e]; rfl
@[simp] theorem State.tick_dev (s : State) (t : Nat) (id : Nat) : (s.tick t).dev id = s.dev id := by
  obtain ⟨n, x, e⟩ := s.tick_form t; rw [e]; rfl
@[simp] theorem State.tick_devN (s : State) (t : Nat) (id : Nat) : (s.tick t).devN id = s.devN id := by
  obtain ⟨n, x, e⟩ := s.tick_form t; rw [e]; rfl
@[simp] theorem State.tick_insN (s : State) (t : Nat) (tag : Nat) (id : Nat) : (s.tick t).insN tag id = s.insN tag id := by
  obtain ⟨n, x, e⟩ := s.tick_form t; rw [e]; rfl
@[simp] theorem State.tick_laneCapOf (s : State) (t : Nat) (lane : Nat) : (s.tick t).laneCapOf lane = s.laneCapOf lane := by
  obtain ⟨n, x, e⟩ := s.tick_form t; rw [e]; rfl
@[simp] theorem State.tick_sessionFirst (s : State) (t : Nat) (lane : Nat) : (s.tick t).sessionFirst lane = s.sessionFirst lane := by
  obtain ⟨n, x, e⟩ := s.tick_form t; rw [e]; rfl
@[simp] theorem State.tick_canLeave (s : State) (t : Nat) (n : Nat) : (s.tick t).canLeave n = s.canLeave n := by
  obtain ⟨n, x, e⟩ := s.tick_form t; rw [e]; rfl
@[simp] theorem State.tick_taskInput (s : State) (t : Nat) (n : Nat) (i : Nat) : (s.tick t).taskInput n i = s.taskInput n i := by
  obtain ⟨n, x, e⟩ := s.tick_form t; rw [e]; rfl
@[simp] theorem State.tick_switchWaits (s : State) (t : Nat) (pair : Nat) : (s.tick t).switchWaits pair = s.switchWaits pair := by
  obtain ⟨n, x, e⟩ := s.tick_form t; rw [e]; rfl
@[simp] theorem State.tick_cellsIn (s : State) (t : Nat) (st : CellState) (c : Option Caste) : (s.tick t).cellsIn st c = s.cellsIn st c := by
  obtain ⟨n, x, e⟩ := s.tick_form t; rw [e]; rfl
@[simp] theorem State.tick_cell (s : State) (t : Nat) (n : Nat) : (s.tick t).cell n = s.cell n := by
  obtain ⟨n, x, e⟩ := s.tick_form t; rw [e]; rfl
@[simp] theorem State.tick_scoreTerms (s : State) (t : Nat) (n : Nat) : (s.tick t).scoreTerms n = s.scoreTerms n := by
  obtain ⟨n, x, e⟩ := s.tick_form t; rw [e]; rfl
@[simp] theorem State.tick_scoreOf (s : State) (t : Nat) (t_ : List Nat) : (s.tick t).scoreOf t_ = s.scoreOf t_ := by
  obtain ⟨n, x, e⟩ := s.tick_form t; rw [e]; rfl
@[simp] theorem State.tick_placeScore (s : State) (t : Nat) (n : Nat) (session : Bool) : (s.tick t).placeScore n session = s.placeScore n session := by
  obtain ⟨n, x, e⟩ := s.tick_form t; rw [e]; rfl
@[simp] theorem State.tick_eligibleCell (s : State) (t : Nat) (caste : Caste) (n : Nat) (c : Cell) : (s.tick t).eligibleCell caste n c = s.eligibleCell caste n c := by
  obtain ⟨n, x, e⟩ := s.tick_form t; rw [e]; rfl
@[simp] theorem State.tick_bestCell (s : State) (t : Nat) (caste : Caste) (session : Bool) : (s.tick t).bestCell caste session = s.bestCell caste session := by
  obtain ⟨n, x, e⟩ := s.tick_form t; rw [e]; rfl
@[simp] theorem State.tick_slot (s : State) (t : Nat) (n : Nat) : (s.tick t).slot n = s.slot n := by
  obtain ⟨n, x, e⟩ := s.tick_form t; rw [e]; rfl
@[simp] theorem State.tick_freeSlotNo (s : State) (t : Nat)  : (s.tick t).freeSlotNo  = s.freeSlotNo  := by
  obtain ⟨n, x, e⟩ := s.tick_form t; rw [e]; rfl
@[simp] theorem State.tick_freeSlots (s : State) (t : Nat)  : (s.tick t).freeSlots  = s.freeSlots  := by
  obtain ⟨n, x, e⟩ := s.tick_form t; rw [e]; rfl
@[simp] theorem State.tick_casteSize (s : State) (t : Nat) (c : Caste) : (s.tick t).casteSize c = s.casteSize c := by
  obtain ⟨n, x, e⟩ := s.tick_form t; rw [e]; rfl
@[simp] theorem State.tick_lowest (s : State) (t : Nat) (c : Caste) (f : Nat → Bool) : (s.tick t).lowest c f = s.lowest c f := by
  obtain ⟨n, x, e⟩ := s.tick_form t; rw [e]; rfl
@[simp] theorem State.tick_reservePairs (s : State) (t : Nat)  : (s.tick t).reservePairs  = s.reservePairs  := by
  obtain ⟨n, x, e⟩ := s.tick_form t; rw [e]; rfl
@[simp] theorem State.tick_spareCells (s : State) (t : Nat)  : (s.tick t).spareCells  = s.spareCells  := by
  obtain ⟨n, x, e⟩ := s.tick_form t; rw [e]; rfl
@[simp] theorem State.tick_pair (s : State) (t : Nat) (k : Nat) : (s.tick t).pair k = s.pair k := by
  obtain ⟨n, x, e⟩ := s.tick_form t; rw [e]; rfl
@[simp] theorem State.tick_audioCell (s : State) (t : Nat) (n : Nat) : (s.tick t).audioCell n = s.audioCell n := by
  obtain ⟨n, x, e⟩ := s.tick_form t; rw [e]; rfl
@[simp] theorem State.tick_pairActive (s : State) (t : Nat) (k : Nat) : (s.tick t).pairActive k = s.pairActive k := by
  obtain ⟨n, x, e⟩ := s.tick_form t; rw [e]; rfl
@[simp] theorem State.tick_pairSpare (s : State) (t : Nat) (k : Nat) : (s.tick t).pairSpare k = s.pairSpare k := by
  obtain ⟨n, x, e⟩ := s.tick_form t; rw [e]; rfl
@[simp] theorem State.tick_spareReady (s : State) (t : Nat) (k : Nat) : (s.tick t).spareReady k = s.spareReady k := by
  obtain ⟨n, x, e⟩ := s.tick_form t; rw [e]; rfl
@[simp] theorem State.tick_pairMixes (s : State) (t : Nat) (k : Nat) : (s.tick t).pairMixes k = s.pairMixes k := by
  obtain ⟨n, x, e⟩ := s.tick_form t; rw [e]; rfl
@[simp] theorem State.tick_audioPairs (s : State) (t : Nat)  : (s.tick t).audioPairs  = s.audioPairs  := by
  obtain ⟨n, x, e⟩ := s.tick_form t; rw [e]; rfl
@[simp] theorem State.tick_pairBuses (s : State) (t : Nat) (k : Nat) : (s.tick t).pairBuses k = s.pairBuses k := by
  obtain ⟨n, x, e⟩ := s.tick_form t; rw [e]; rfl
@[simp] theorem State.tick_pairSources (s : State) (t : Nat) (k : Nat) : (s.tick t).pairSources k = s.pairSources k := by
  obtain ⟨n, x, e⟩ := s.tick_form t; rw [e]; rfl
@[simp] theorem State.tick_holdsCredits (s : State) (t : Nat) (island : Nat) : (s.tick t).holdsCredits island = s.holdsCredits island := by
  obtain ⟨n, x, e⟩ := s.tick_form t; rw [e]; rfl
@[simp] theorem State.tick_slotParam (s : State) (t : Nat) (tag : Nat) (d : GateSlot) (ps : List Word) : (s.tick t).slotParam tag d ps = s.slotParam tag d ps := by
  obtain ⟨n, x, e⟩ := s.tick_form t; rw [e]; rfl
@[simp] theorem State.tick_gateEntry (s : State) (t : Nat) (tag : Nat) (o : SqOp) : (s.tick t).gateEntry tag o = s.gateEntry tag o := by
  obtain ⟨n, x, e⟩ := s.tick_form t; rw [e]; rfl
@[simp] theorem State.tick_job (s : State) (t : Nat) (n : Nat) : (s.tick t).job n = s.job n := by
  obtain ⟨n, x, e⟩ := s.tick_form t; rw [e]; rfl
@[simp] theorem State.tick_slotGrantable (s : State) (t : Nat) (tag : Nat) : (s.tick t).slotGrantable tag = s.slotGrantable tag := by
  obtain ⟨n, x, e⟩ := s.tick_form t; rw [e]; rfl
@[simp] theorem State.tick_jobStarted (s : State) (t : Nat) (n : Nat) : (s.tick t).jobStarted n = s.jobStarted n := by
  obtain ⟨n, x, e⟩ := s.tick_form t; rw [e]; rfl
@[simp] theorem State.tick_busyOf (s : State) (t : Nat) (n : Nat) (c : Cell) : (s.tick t).busyOf n c = s.busyOf n c := by
  obtain ⟨n, x, e⟩ := s.tick_form t; rw [e]; rfl
@[simp] theorem State.tick_busyCells (s : State) (t : Nat)  : (s.tick t).busyCells  = s.busyCells  := by
  obtain ⟨n, x, e⟩ := s.tick_form t; rw [e]; rfl
@[simp] theorem State.tick_powered (s : State) (t : Nat)  : (s.tick t).powered  = s.powered  := by
  obtain ⟨n, x, e⟩ := s.tick_form t; rw [e]; rfl
@[simp] theorem State.tick_dukWords (s : State) (t : Nat) (copy : Nat) : (s.tick t).dukWords copy = s.dukWords copy := by
  obtain ⟨n, x, e⟩ := s.tick_form t; rw [e]; rfl
@[simp] theorem State.tick_dik (s : State) (t : Nat)  : (s.tick t).dik  = s.dik  := by
  obtain ⟨n, x, e⟩ := s.tick_form t; rw [e]; rfl
@[simp] theorem State.tick_enrolId (s : State) (t : Nat)  : (s.tick t).enrolId  = s.enrolId  := by
  obtain ⟨n, x, e⟩ := s.tick_form t; rw [e]; rfl
@[simp] theorem State.tick_enrolWords (s : State) (t : Nat)  : (s.tick t).enrolWords  = s.enrolWords  := by
  obtain ⟨n, x, e⟩ := s.tick_form t; rw [e]; rfl
@[simp] theorem State.tick_unsent (s : State) (t : Nat) (x : Session) : (s.tick t).unsent x = s.unsent x := by
  obtain ⟨n, x, e⟩ := s.tick_form t; rw [e]; rfl
@[simp] theorem State.tick_detRuns (s : State) (t : Nat) (n : Nat) : (s.tick t).detRuns n = s.detRuns n := by
  obtain ⟨n, x, e⟩ := s.tick_form t; rw [e]; rfl
@[simp] theorem State.tick_serialBytes (s : State) (t : Nat)  : (s.tick t).serialBytes  = s.serialBytes  := by
  obtain ⟨n, x, e⟩ := s.tick_form t; rw [e]; rfl
@[simp] theorem State.tick_hashWords (s : State) (t : Nat) (first : Nat) : (s.tick t).hashWords first = s.hashWords first := by
  obtain ⟨n, x, e⟩ := s.tick_form t; rw [e]; rfl
@[simp] theorem State.tick_debugUsable (s : State) (t : Nat) (k : Nat) : (s.tick t).debugUsable k = s.debugUsable k := by
  obtain ⟨n, x, e⟩ := s.tick_form t; rw [e]; rfl
@[simp] theorem State.tick_unlockOk (s : State) (t : Nat) (nonce : BitVec 128) (r : List Byte) : (s.tick t).unlockOk nonce r = s.unlockOk nonce r := by
  obtain ⟨n, x, e⟩ := s.tick_form t; rw [e]; rfl
@[simp] theorem State.tick_openEnvelope (s : State) (t : Nat) (tag : Nat) (b : List Byte) : (s.tick t).openEnvelope tag b = s.openEnvelope tag b := by
  obtain ⟨n, x, e⟩ := s.tick_form t; rw [e]; rfl
@[simp] theorem State.tick_fuseReads (s : State) (t : Nat) (l : Tbl FuseReads) (w : Nat) : (s.tick t).fuseReads l w = s.fuseReads l w := by
  obtain ⟨n, x, e⟩ := s.tick_form t; rw [e]; rfl
@[simp] theorem State.tick_fuseWords (s : State) (t : Nat) (l : Tbl FuseReads) : (s.tick t).fuseWords l = s.fuseWords l := by
  obtain ⟨n, x, e⟩ := s.tick_form t; rw [e]; rfl
@[simp] theorem State.tick_fwUsable (s : State) (t : Nat) (k : Nat) : (s.tick t).fwUsable k = s.fwUsable k := by
  obtain ⟨n, x, e⟩ := s.tick_form t; rw [e]; rfl
@[simp] theorem State.tick_fwSlotFor (s : State) (t : Nat) (i : Image) : (s.tick t).fwSlotFor i = s.fwSlotFor i := by
  obtain ⟨n, x, e⟩ := s.tick_form t; rw [e]; rfl
@[simp] theorem State.tick_accepts (s : State) (t : Nat) (i : Image) : (s.tick t).accepts i = s.accepts i := by
  obtain ⟨n, x, e⟩ := s.tick_form t; rw [e]; rfl
@[simp] theorem State.tick_preferred (s : State) (t : Nat)  : (s.tick t).preferred  = s.preferred  := by
  obtain ⟨n, x, e⟩ := s.tick_form t; rw [e]; rfl
@[simp] theorem State.tick_stageDue (s : State) (t : Nat) (n : Nat) : (s.tick t).stageDue n = s.stageDue n := by
  obtain ⟨n, x, e⟩ := s.tick_form t; rw [e]; rfl
@[simp] theorem State.tick_bootStatus (s : State) (t : Nat)  : (s.tick t).bootStatus  = s.bootStatus  := by
  obtain ⟨n, x, e⟩ := s.tick_form t; rw [e]; rfl
@[simp] theorem State.tick_bankVersion (s : State) (t : Nat) (b : Nat) : (s.tick t).bankVersion b = s.bankVersion b := by
  obtain ⟨n, x, e⟩ := s.tick_form t; rw [e]; rfl
@[simp] theorem State.tick_casteWaits (s : State) (t : Nat) (c : Caste) : (s.tick t).casteWaits c = s.casteWaits c := by
  obtain ⟨n, x, e⟩ := s.tick_form t; rw [e]; rfl
@[simp] theorem State.tick_audioBusy (s : State) (t : Nat) (n : Nat) : (s.tick t).audioBusy n = s.audioBusy n := by
  obtain ⟨n, x, e⟩ := s.tick_form t; rw [e]; rfl
@[simp] theorem State.tick_cellIdle (s : State) (t : Nat) (n : Nat) : (s.tick t).cellIdle n = s.cellIdle n := by
  obtain ⟨n, x, e⟩ := s.tick_form t; rw [e]; rfl
@[simp] theorem State.tick_lendable (s : State) (t : Nat) (n : Nat) (sentinel : Nat) : (s.tick t).lendable n sentinel = s.lendable n sentinel := by
  obtain ⟨n, x, e⟩ := s.tick_form t; rw [e]; rfl
@[simp] theorem State.tick_oldestLendable (s : State) (t : Nat) (n : Nat) (sentinel : Nat) : (s.tick t).oldestLendable n sentinel = s.oldestLendable n sentinel := by
  obtain ⟨n, x, e⟩ := s.tick_form t; rw [e]; rfl
@[simp] theorem State.tick_clusterIdle (s : State) (t : Nat) (island : Nat) : (s.tick t).clusterIdle island = s.clusterIdle island := by
  obtain ⟨n, x, e⟩ := s.tick_form t; rw [e]; rfl
@[simp] theorem State.tick_drainReady (s : State) (t : Nat) (cls : Nat) (num : Nat) : (s.tick t).drainReady cls num = s.drainReady cls num := by
  obtain ⟨n, x, e⟩ := s.tick_form t; rw [e]; rfl
@[simp] theorem State.tick_drainBusy (s : State) (t : Nat) (cls : Nat) (num : Nat) : (s.tick t).drainBusy cls num = s.drainBusy cls num := by
  obtain ⟨n, x, e⟩ := s.tick_form t; rw [e]; rfl
@[simp] theorem State.tick_bootRead (s : State) (t : Nat) (w : Nat) : (s.tick t).bootRead w = s.bootRead w := by
  obtain ⟨n, x, e⟩ := s.tick_form t; rw [e]; rfl
@[simp] theorem State.tick_testBarred (s : State) (t : Nat) (cls : Nat) (num : Nat) : (s.tick t).testBarred cls num = s.testBarred cls num := by
  obtain ⟨n, x, e⟩ := s.tick_form t; rw [e]; rfl
@[simp] theorem State.tick_coveredUnits (s : State) (t : Nat)  : (s.tick t).coveredUnits  = s.coveredUnits  := by
  obtain ⟨n, x, e⟩ := s.tick_form t; rw [e]; rfl
@[simp] theorem State.tick_oldestOf (s : State) (t : Nat) (l : List (Nat × Nat)) : (s.tick t).oldestOf l = s.oldestOf l := by
  obtain ⟨n, x, e⟩ := s.tick_form t; rw [e]; rfl
@[simp] theorem State.tick_testUnit (s : State) (t : Nat) (cls : Nat) (num : Nat) : (s.tick t).testUnit cls num = s.testUnit cls num := by
  obtain ⟨n, x, e⟩ := s.tick_form t; rw [e]; rfl
@[simp] theorem State.tick_testPresent (s : State) (t : Nat) (cls : Nat) (num : Nat) : (s.tick t).testPresent cls num = s.testPresent cls num := by
  obtain ⟨n, x, e⟩ := s.tick_form t; rw [e]; rfl
@[simp] theorem State.tick_ageStart (s : State) (t : Nat) (cls : Nat) (num : Nat) : (s.tick t).ageStart cls num = s.ageStart cls num := by
  obtain ⟨n, x, e⟩ := s.tick_form t; rw [e]; rfl
@[simp] theorem State.tick_testPeriod (s : State) (t : Nat)  : (s.tick t).testPeriod  = s.testPeriod  := by
  obtain ⟨n, x, e⟩ := s.tick_form t; rw [e]; rfl
@[simp] theorem State.tick_forceAge (s : State) (t : Nat)  : (s.tick t).forceAge  = s.forceAge  := by
  obtain ⟨n, x, e⟩ := s.tick_form t; rw [e]; rfl
@[simp] theorem State.tick_testLoad (s : State) (t : Nat)  : (s.tick t).testLoad  = s.testLoad  := by
  obtain ⟨n, x, e⟩ := s.tick_form t; rw [e]; rfl
@[simp] theorem State.tick_echoIs (s : State) (t : Nat) (lane : Nat) : (s.tick t).echoIs lane = s.echoIs lane := by
  obtain ⟨n, x, e⟩ := s.tick_form t; rw [e]; rfl
@[simp] theorem State.tick_sentinelFree (s : State) (t : Nat) (n : Nat) (target : Nat) : (s.tick t).sentinelFree n target = s.sentinelFree n target := by
  obtain ⟨n, x, e⟩ := s.tick_form t; rw [e]; rfl
@[simp] theorem State.tick_masterCfg (s : State) (t : Nat) (port : Nat) : (s.tick t).masterCfg port = s.masterCfg port := by
  obtain ⟨n, x, e⟩ := s.tick_form t; rw [e]; rfl
@[simp] theorem State.tick_ptpDrop (s : State) (t : Nat) (n : Nat) (m : PtpMsg) : (s.tick t).ptpDrop n m = s.ptpDrop n m := by
  obtain ⟨n, x, e⟩ := s.tick_form t; rw [e]; rfl
end Sys2Proof.Machine
end

