-- ==== Sys2Proof/Tests/Slice0.lean ====
section
/-! SUPPORT. Tests: one ill-formed term for each check of WellFormed, single steps on small states with results taken from
the spec, and for the statements states that meet their hypotheses. -/

namespace Sys2Proof.Tests
open Sys2Proof Sys2Proof.Machine Sys2Proof.Say

-- One evaluation at a time: each runs on a stack of its own, and many at once do not fit the check's memory.
set_option Elab.async false

/-! ### Well-formedness refuses -/

/-- Tags end at 287 (R16). -/
theorem test_wf_tag : Instr.wf (.go 0 288) = false ∧ Instr.wf (.go 0 287) = true := by decide
/-- A page has 16 block registers (R42). -/
theorem test_wf_block : Instr.wf (.mbxBlkWrite 0 0 16 0) = false ∧ Instr.wf (.mbxBlkWrite 0 0 15 0) = true := by decide
/-- The PF and 31 VFs (R94). -/
theorem test_wf_function : Instr.wf (.functionLevelReset 0 32) = false ∧ Instr.wf (.functionLevelReset 0 31) = true := by decide
/-- 768 cells (R185). -/
theorem test_wf_cell : Instr.wf (.fence 0 768) = false ∧ Instr.wf (.fence 0 767) = true := by decide
/-- Eight segments (06). -/
theorem test_wf_segment : Instr.wf (.turnFailed 0 8) = false ∧ Instr.wf (.turnFailed 0 7) = true := by decide
/-- 128 lanes (R15). -/
theorem test_wf_lane : Instr.wf (.barcodeVerify 0 128) = false ∧ Instr.wf (.barcodeVerify 0 127) = true := by decide
/-- 108 islands (R363). -/
theorem test_wf_island : Instr.wf (.ldoFault 0 108) = false ∧ Instr.wf (.ldoFault 0 107) = true := by decide
/-- Four dies. -/
theorem test_wf_die : Instr.wf (.auditMarkerReturn 0 4) = false ∧ Instr.wf (.auditMarkerReturn 0 3) = true := by decide
/-- Two shadow clocks (R273). -/
theorem test_wf_shadow : Instr.wf (.syncTimeout 0 2) = false ∧ Instr.wf (.syncTimeout 0 1) = true := by decide
/-- Six MPU instances (R341). -/
theorem test_wf_mpu : Instr.wf (.mpuEcc 0 6) = false ∧ Instr.wf (.mpuEcc 0 5) = true := by decide

/-! ### Decoding: the table gives no row a bit, so no word spells a command -/

theorem test_decode_none : decodeTableWord 32 0x01030110 = none ∧ decodeTableWord 0 0 = none := by decide
theorem test_fetch_word : (State.reset.withFetchWord 32 0).pending = [] := by decide +kernel

/-! ### Numbers -/

/-- CRC-32 of R159 (IEEE 802.3): its check value over the digits 1 to 9. -/
theorem test_crc32 : crc32 [0x31, 0x32, 0x33, 0x34, 0x35, 0x36, 0x37, 0x38, 0x39] = 0xCBF43926 := by decide +kernel
/-- Lane 20 is address 5 on segment 1 (R15: lanes 0 to 15 on segment 0). -/
theorem test_lane_number : laneOf 1 5 = 20 ∧ laneSeg 20 = 1 ∧ laneAddr 20 = 5 := by decide
/-- The lifecycle steps of Table 19-2, in three copies. -/
theorem test_lifecycle : lifecycleOf 0 = 0 ∧ lifecycleOf 0x10101 = 1 ∧ lifecycleOf 0x20000 = 2 ∧ lifecycleOf 0x00400 = 3 := by decide
/-- A thermometer word's step is the number of its highest bit, counted from 1 (R465). -/
theorem test_thermometer : thermo 0 = 0 ∧ thermo 0x7 = 3 ∧ thermo 0x80000000 = 32 := by decide
/-- FCODE 56 of cluster 50 is 1,400 MHz and its TJ 126 is 62 °C (22 Worked example). -/
theorem test_tj_code : tjCode 62 = 126 ∧ tjCode (-64) = 0 := by decide
/-- SEC 1,893,459,611 and NS 204,331,000 read as in Table 22-19. -/
theorem test_served_words : wd 1893459611 = 0x70DBE69B ∧ wd 204331000 = 0x0C2DD7F8 := by decide

/-! ### States -/

/-- A part that serves: PF, VF 1 and slice 32 enabled, lifecycle DEPLOYED. -/
def up : State :=
  { State.reset with
    mbx := { state := .serving, pages := [(0, { ready := true }), (1, { ready := true }), (32, { ready := true })] }
    ins := { insts := [(0, { phase := .on }), (1, { phase := .on }), (32, { phase := .on, pasid := 5 })]
             fns := [(0, { bme := true }), (1, { bme := true })], vfEnable := true, numVfs := 1, pasidEn := true, linkUp := true
             perstN := true }
    lcy := { powerGood := true, stage := 8, use := [(0, 0x30303)] } }

/-- Word 0 of a request: code, SEQ 1 and the number of arguments (Table 2-7). -/
def requestWord (code argc : Nat) : Word := wd (code * 2 ^ 16 + 2 ^ 8 + argc * 16)

/-- A command stands TAKEN on a page. -/
def posted (s : State) (tag code : Nat) (args : List Word) : State :=
  s.modPage tag (fun p =>
    { p with go := true, taken := true, blk := (requestWord code args.length :: args ++ List.replicate 16 0).take 16 })

/-- The page and the outcome of a step, where it goes on. -/
def after (o : Host.Outcome State Fault Refusal) : State := match o with | .next s => s | _ => State.reset

/-! ### Single steps -/

/-- R44: a second word replaces the first and sets H2S_COLLIDE. -/
theorem test_h2s_collide :
    (let p := (after (exec (.mbxH2sWrite 0 1 7) (after (exec (.mbxH2sWrite 0 1 5) up)))).page 1
     (p.h2s, p.h2sFull, p.h2sCollide)) = (7, true, true) := by decide +kernel
/-- R47: W_PING's 24 bits come back in N_PONG (code 0x02). -/
theorem test_ping_word :
    ((after (exec (.wPing 0 1) (after (exec (.mbxH2sWrite 0 1 0x01ABCDEF) up)))).page 1).s2h = 0x02ABCDEF := by decide +kernel
/-- R48: GO posts and the steward takes it at once, from the PF. -/
theorem test_go_taken : (let p := (after (exec (.go 0 0) up)).page 0; (p.go, p.taken, p.done)) = (true, true, false) := by
  decide +kernel
/-- GEN_PING (0x0103) echoes its words; the reply word holds ST_OK, the SEQ and the count (Table 2-8). -/
theorem test_gen_ping :
    (let p := (after (exec (.genPing 0 0 {}) (posted up 0 0x0103 [5, 9]))).page 0
     (p.blk.take 3, p.done, p.go)) = ([0x00000120, 5, 9], true, false) := by decide +kernel
/-- A tenant may not run GEN_GPIO_GET: ST_DENIED is 0x0014 (Table 2-11). -/
theorem test_gpio_denied :
    ((after (exec (.genGpioGet 0 1 {}) (posted up 1 0x0109 []))).page 1).blk.head? = some 0x00140100 := by decide +kernel
/-- An unknown code is ST_UNKNOWN_COMMAND, 0x0010 (R543). -/
theorem test_unknown :
    ((after (exec (.unknownCommand 0 0 {}) (posted up 0 0x01FF []))).page 0).blk.head? = some 0x00100100 := by decide +kernel


/-! ### The statements' hypotheses are met: one theorem for each statement that has hypotheses -/

/-- Cells that serve: those of the plan's minima (Table 9-2). -/
def cells48 : Tbl Cell := (List.range 48).map (fun n => (n, { state := .available }))

/-- `up` with an open manifest of the PF, and cells of the plan. -/
def upMan : State :=
  { up with man := { mans := [(1, { tag := 0, serial := 1 })], serials := [(0, 1)] }, sea := { cells := cells48 } }

/-- Whether a block command runs with these argument words. -/
def runsB (c : Instr) (s : State) (a : List Word) : Bool :=
  match blockRow c with
  | none => false
  | some b =>
    (s.tick b.t).ready b.tag b.d.code && ((s.tick b.t).replay b.tag).isNone &&
      (match (s.tick b.t).precheck b.d b.own b.needs b.tag b.io with | .ok x => x == a | .error _ => false) &&
      !(b.d.pend && b.io.slow)

theorem runs_of_runsB {c : Instr} {s : State} {a : List Word} (h : runsB c s a = true) : Runs c s a := by
  unfold runsB at h
  unfold Runs
  cases hb : blockRow c with
  | none => rw [hb] at h; cases h
  | some b =>
    rw [hb] at h
    simp only [Bool.and_eq_true, Option.isNone_iff_eq_none, Bool.not_eq_true'] at h
    obtain ⟨⟨⟨h1, h2⟩, h3⟩, h4⟩ := h
    refine ⟨h1, h2, ?_, h4⟩
    cases hp : (s.tick b.t).precheck b.d b.own b.needs b.tag b.io with
    | ok x => rw [hp] at h3; exact eq_of_beq h3
    | error e => rw [hp] at h3; cases h3

/-- A block command stands TAKEN with these argument words. -/
def post (s : State) (c : Instr) (a : List Word) : State :=
  match blockRow c with | none => s | some b => posted s b.tag b.d.code a

/-- It runs with them. -/
def runsOn (s : State) (c : Instr) (a : List Word) : Bool := runsB c (post s c a) a

/-- Argument words of zeros. -/
def zeros (c : Instr) : List Word := match blockRow c with | none => [] | some b => List.replicate b.d.argc 0

/-- The PF's block commands, at time 0. -/
def allRun (l : List (Nat → Nat → HostIo → Instr)) : Bool := l.all (fun c => runsOn upMan (c 0 0 {}) (zeros (c 0 0 {})))

def formedB (s : State) : Bool := twf s.sea.cells && twf s.sea.jobs && twf s.man.mans && twf s.cap.objs && twf s.fare.hub

theorem formed_of {s : State} (h : formedB s = true) : Formed s := by
  simp only [formedB, Bool.and_eq_true] at h
  exact ⟨h.1.1.1.1, h.1.1.1.2, h.1.1.2, h.1.2, h.2⟩

theorem tfind_key {α : Type} (t : Tbl α) (k : Nat) (a : α) (h : tfind t k = some a) : (k, a) ∈ t := by
  induction t with
  | nil => cases h
  | cons p r ih =>
    obtain ⟨j, b⟩ := p
    simp only [tfind] at h
    split at h
    · next e => subst e; cases h; exact List.mem_cons_self ..
    · exact List.mem_cons_of_mem _ (ih h)

/-- No page is eligible when none of those listed is. -/
theorem none_eligible {s : State} (h : s.mbx.pages.all (fun p => !s.eligible p.1) = true) (k : Nat) : s.eligible k = false := by
  cases hp : tfind s.mbx.pages k with
  | none => simp [State.eligible, State.page, tget, hp]
  | some p => simpa using List.all_eq_true.mp h _ (tfind_key _ _ _ hp)

/-- A word stands in MBX_H2S. -/
def held (s : State) (tag : Nat) (w : Word) : State := s.modPage tag (fun p => { p with h2s := w, h2sFull := true })

/-- Every block command of the tables runs somewhere. -/
theorem witness_runs_02_06 : allRun [.genIdentify, .genVersion, .genPing, .genParamGet, .genParamSet, .genParamInfo, .genParamNext
    , .genGpioSet, .genGpioGet, .manBegin, .manCommit, .manRollback, .manStatus, .insQpSetup, .insQpReset, .insQpStatus, .insEqSetup
    , .insXlateSet, .insXlateInval, .insFaultGet, .insSliceCreate, .insSliceDestroy, .insStatus, .insRightsSet, .memMpuMode
    , .memMpuRegion, .memMpuRead, .memMpuFaultGet, .memMap, .capInfo, .capDerive, .capRevoke, .capRelease, .capGrant, .capList
    , .capGateOpen, .capGateInfo, .capFaultGet, .laneBind, .laneUnbind, .laneStatus, .laneSegStatus, .laneSegEnable, .laneRollcall
    , .laneForget] = true := by decide +kernel
theorem witness_runs_07_11 : allRun [.fareTableLoad, .fareKeyBind, .fareDenyDelta, .fareDenySwap, .fareDenyStatus, .fareJournalRead
    , .fareJournalAck, .fareStatus, .drvCastePlan, .drvCasteStatus, .drvCellStatus, .drvCellQuarantine, .drvCellReturn
    , .drvSlotStatus, .cartBind, .cartStatus, .cartJournalRead, .cartJournalMark, .cartDataList, .cartDataStage, .cartFormat
    , .cartForceErase, .cartEject, .timeStatus, .timeShadowStatus, .timeDomainSet, .timeMasterSet, .timeJumpAccept, .timeCmpSet
    , .timeCmpStatus, .timePpsInGet, .audRxSet, .audTxSet, .audBusSet, .audTdmSet, .audPromptLoad, .audPlay, .audStreamStatus
    , .audStatus] = true := by decide +kernel
theorem witness_runs_12_19 : allRun [.netPortSet, .netIfSet, .netRuleWrite, .netRuleRead, .netRuleHits, .netQueueSet, .netPortStatus
    , .islStatus, .islLinkStatus, .islLoopFreeze, .islLoopStatus, .islReset, .secStatus, .secLogRead, .secCertGet, .secKeyImport
    , .secLoopSet, .secZeroise, .secReenrol, .secDebugArm, .statEpoch, .statRead, .statBooks, .testRequest, .testResult
    , .testCoverage, .evtMaskSet, .evtMaskGet, .evtSrcMask, .evtStatus, .lcyStatus, .lcyAdvance, .lcyFuseRead, .lcyFwWrite
    , .lcyFwSelect, .lcyRollbackAdvance, .lcySlotRevoke, .lcyReset] = true := by decide +kernel

/-! #### 02 Mailboxes -/

theorem witness_QueueStep : ({ up with pending := [.powerGood 0, .go 0 0] } : State).pending = .powerGood 0 :: [.go 0 0] ∧
    State.reset.pending = [] := ⟨rfl, rfl⟩

theorem witness_HostWordStored : (287 : Nat) ≤ 287 ∧ (let s := after (exec (.mbxH2sWrite 0 1 7) up)
    s.mbx.state = .serving ∧ (s.page 1).ready = true) := by decide +kernel

theorem witness_WordsTaken :
    Held1 (held up 1 0x01ABCDEF) 0 1 1 ∧ Held1 (held up 1 0xFF000000) 0 1 255 ∧ Held1 (held up 1 0) 0 1 0 ∧
    (let s := held { up with mbx := { up.mbx with pages := [(1, { ready := true, go := true, blk := [0x01030100] })] } } 1 0x02000001
     Held1 s 0 1 2 ∧ (s.page 1).go = true ∧ (s.page 1).taken = false ∧ fld ((s.page 1).blk.getD 0 0) 15 8 = fld (s.page 1).h2s 7 0) ∧
    (let s := held (posted up 1 0x0103 []) 1 0x02000001
     Held1 s 0 1 2 ∧ (s.page 1).go = true ∧ (s.page 1).taken = true ∧ fld ((s.page 1).blk.getD 0 0) 15 8 = fld (s.page 1).h2s 7 0 ∧
      cancellable (fld ((s.page 1).blk.getD 0 0) 31 16) = false) := by
  unfold Held1; decide +kernel

theorem witness_BlockHandshake : (287 : Nat) ≤ 287 ∧ (15 : Nat) ≤ 15 ∧ (up.page 287).go = false ∧
    ((posted up 287 0x0103 []).page 287).go = true := by decide +kernel

theorem witness_CommandTaken : (up.page 0).go = false ∧ (up.page 0).taken = false ∧ (up.page 0).ready = true ∧
    up.mbx.state = .serving ∧ up.someTaken = false ∧ (∀ k, up.eligible k = false) ∧ (up.page 32).go = false ∧
    (up.page 32).taken = false ∧ (up.page 32).ready = true ∧ isPf 32 = false ∧ up.enabled 32 = true :=
  ⟨by decide +kernel, by decide +kernel, by decide +kernel, by decide +kernel, by decide +kernel, none_eligible (by decide +kernel)
  , by decide +kernel, by decide +kernel, by decide +kernel, by decide +kernel, by decide +kernel⟩

/-- `up` with a command of VF 1 that waits for a rate token. -/
def waiting1 : State :=
  { up with mbx := { state := .serving, pages := [(1, { ready := true, go := true })], recs := [(1, { tokens := 0 })] } }

theorem witness_CommandTaken_token : waiting1.enabled 1 = true ∧ (waiting1.page 1).go = true ∧ (waiting1.page 1).taken = false ∧
    (waiting1.page 1).ready = true ∧ waiting1.mbx.state = .serving ∧ waiting1.someTaken = false ∧
    (∀ k, waiting1.eligible k = false) := by
  exact ⟨by decide +kernel, by decide +kernel, by decide +kernel, by decide +kernel, by decide +kernel, by decide +kernel
  , none_eligible (by decide +kernel)⟩

/-! #### The envelope -/

theorem witness_BlockCommandsRun : ∃ s1, Runs (.genPing 0 0 {}) (post up (.genPing 0 0 {}) [5]) [5] ∧
    genPingWork 0 {} [5] ((post up (.genPing 0 0 {}) [5]).tick 0) = .reply 0 [5] s1 :=
  ⟨_, runs_of_runsB (by decide +kernel), rfl⟩

/-- A page of the PF that holds a request. -/
def asked (s : State) (tag : Nat) (ws : List Word) : State :=
  s.modPage tag (fun p => { p with go := true, taken := true, blk := (ws ++ List.replicate 16 0).take 16 })

theorem witness_ReplaysAndChecks :
    (let s := { asked up 0 [0x01030110, 5] with mbx := { (asked up 0 [0x01030110, 5]).mbx with recs := [(0, { stored := some (1, [0x120]) })] } }
     s.ready 0 0x0103 = true ∧ (s.cmdRec 0).stored = some (fld ((s.page 0).blk.getD 0 0) 15 8, [0x120])) ∧
    -- reserved request bits
    (let s := asked up 0 [0x01030104]; s.ready 0 0x0103 = true ∧ s.replay 0 = none ∧ fld ((s.page 0).blk.getD 0 0) 3 2 ≠ 0) ∧
    -- a command of no tenant
    (let s := asked up 1 [0x01090100]; s.ready 1 0x0109 = true ∧ s.replay 1 = none ∧ isPf 1 = false ∧ genGpioGetDef.tenant = false) ∧
    -- a right withdrawn
    (let s := { asked up 1 [0x01010100] with man := { pages := [(0, { rights := [(1, 0)] })] } }
     s.ready 1 0x0101 = true ∧ s.replay 1 = none ∧ (s.rights 1).getLsbD 1 = false) ∧
    -- the lifecycle
    (let s := { asked up 0 [0x01030100] with lcy := { up.lcy with use := [(0, 0x7070707)] } }
     s.ready 0 0x0103 = true ∧ s.replay 0 = none ∧ (s.lifecycleStatus genPingDef).isSome = false ∧
      s.lifecycleStatus manBeginDef = some 0x001E) ∧
    -- the length
    (let s := asked up 0 [0x01040100]
     s.ready 0 0x0104 = true ∧ s.replay 0 = none ∧ s.lifecycleStatus genParamGetDef = none ∧ argsOf genParamGetDef (s.page 0) {} = none) ∧
    -- the manifest
    (let s := asked up 0 [0x06010130]
     s.ready 0 0x0601 = true ∧ s.replay 0 = none ∧ s.lifecycleStatus tableLoadDef = none ∧ tableLoadDef.staged = true ∧ s.openMan 0 = none) ∧
    -- reserved argument bits
    (let s := asked up 0 [0x03010170, 0x80000000]
     s.ready 0 0x0301 = true ∧ s.replay 0 = none ∧ s.lifecycleStatus insQpSetupDef = none ∧
      (argsOf insQpSetupDef (s.page 0) {}).map (reservedSet insQpSetupDef.masks) = some true) ∧
    -- no block command
    (let s := asked up 0 [0x01FF0100]; s.ready 0 0x01FF = true ∧ s.replay 0 = none ∧ blockCommand 0x01FF = false) := by
  decide +kernel

theorem witness_PendingCommands_reply :
    (let s := post upMan (.secReenrol 0 0 { slow := true }) []
     s.ready 0 secReenrolDef.code = true ∧ s.replay 0 = none ∧ secReenrolDef.pend = true) := by decide +kernel

theorem witness_GeneralCommands : up.lcy.dies = 4 ∧ ({ up with lcy := { up.lcy with dies := 2 } } : State).lcy.dies = 2 ∧
    runsOn up (.genPing 0 1 {}) [5, 9] = true ∧ runsOn up (.genGpioSet 0 0 {}) [0x000000FF] = true := by decide +kernel

/-! #### 03 Manifests -/

/-- `upMan` with an entry whose item's version has moved on since it was staged. -/
def upStale : State :=
  { upMan with man := { upMan.man with
      mans := [(1, { tag := 0, serial := 1, entries := [{ op := .segEnable 0 true, code := 0x0A05, items := [(⟨.segment, 0⟩, 0)], bulk := 0 }] })]
      versions := [(⟨.segment, 0⟩, 1)] } }

theorem witness_ManifestCommands :
    runsOn up (.manBegin 0 0 {}) [] = true ∧ up.lifecycle = 2 ∧ up.openMan 0 = none ∧
    (let s := post upMan (.manCommit 0 0 {}) [1, 0]
     runsB (.manCommit 0 0 {}) s [1, 0] = true ∧ tfind s.man.mans 1 = some { tag := 0, serial := 1 } ∧ s.commitPre 0 [1, 0] = none ∧
      s.commitChecks 1 { tag := 0, serial := 1 } = none ∧ s.stat.frozenPast = false) ∧
    (let s := post upMan (.manCommit 0 0 {}) [1, 1]
     runsB (.manCommit 0 0 {}) s [1, 1] = true ∧ s.commitPre 0 [1, 1] = none ∧ bit (arg [1, 1] 2) 0 = true) ∧
    (let s := post upStale (.manCommit 0 0 {}) [1, 0]
     runsB (.manCommit 0 0 {}) s [1, 0] = true ∧ s.commitPre 0 [1, 0] = none ∧
      (match tfind s.man.mans 1 with | some m => (s.commitChecks 1 m).isSome | none => false) = true) ∧
    runsOn upMan (.manRollback 0 0 {}) [1] = true ∧ runsOn upMan (.manStatus 0 0 {}) [1] = true := by decide +kernel

/-- `up` with one manifest of the PF, and comparators 0 and 1 armed at time 0. -/
def manAs (st : ManState) : State :=
  { up with man := { mans := [(1, { tag := 0, serial := 1, state := st })] }
            sea := { cells := cells48 }
            tim := { cmps := [(0, { armed := true }), (1, { armed := true })] } }

theorem witness_ManifestTimers :
    formedB (manAs .open_) = true ∧ (∀ p ∈ (manAs .open_).man.mans, p.2.state = .closed → p.2.order < (manAs .open_).man.order) ∧
    ((manAs .open_).tick (10 ^ 15)).openMan 0 = some (1, { tag := 0, serial := 1 }) ∧
    0 + ((manAs .open_).tick (10 ^ 15)).insN 0 0x0201 * 1000000 ≤ ((manAs .open_).tick (10 ^ 15)).now ∧
    ((manAs .scheduled).tick 0).cmpDue 1 = true ∧ (manAs .scheduled).man.mans = [(1, { tag := 0, serial := 1, state := .scheduled })] ∧
    ({ manAs .scheduled with
        tim := (((manAs .scheduled).fireMark 1).modCmp 1 (fun c => { c with armed := false })).tim
        stat := { (manAs .scheduled).stat with frozenPast := true } } : State).commitChecks 1
      { tag := 0, serial := 1, state := .scheduled } = none ∧
    (manAs .applying).man.mans.all (fun p => p.2.state != .scheduled) = true ∧
    tfind (manAs .applying).man.mans 1 = some { tag := 0, serial := 1, state := .applying } ∧
    (((manAs .applying).closeMan 1 0).man.mans.any (fun p => p.2.state == .applying)) = false ∧
    (let s : State := { manAs .open_ with mbx := { up.mbx with held := some { tag := 0, results := [], wait := .commit 1 } } }
     s.mbx.held = some { tag := 0, results := [], wait := .commit 1 } ∧ s.stat.frozenPast = false) ∧
    (let s : State := { manAs .applying with man := { mans := [(1, { tag := 0, serial := 1, state := .applying })
       , (2, { tag := 0, serial := 2, state := .applying })] } }
     ((s.closeMan 1 0).man.mans.any (fun p => p.2.state == .applying)) = true) := by decide +kernel

theorem witness_BoundaryLatches :
    (let s : State := { manAs .open_ with tim := { cmps := [(0, { armed := true })] } }
     (s.tick 0).cmpDue 0 = true ∧ (s.cmp 1).armed = false ∧ (s.cmp 0).past = false ∧ s.stat.lateDue = false ∧
      s.man.mans.all (fun p => p.2.state != .frozen) = true) ∧ (up.tick 0).cmpDue 0 = false := by decide +kernel

/-! #### 04 Instances -/

/-- `up` with one queue pair of the PF, and its event queue set up. -/
def qpAs (p : Qp) : State :=
  { up with ins := { up.ins with insts := [(0, { phase := .on, qps := [(15, p)], root := some 0 }), (1, { phase := .on }), (32, { phase := .on, pasid := 5 })] }
            evt := { queues := [(0, { active := true, used := 2, tail := 2 })] } }

theorem witness_DoorbellsAndInterrupts :
    (let s := qpAs { state := .active, cqTail := 2, cqUsed := 2 }
     s.enabled 0 = true ∧ 15 < qpCount 0 ∧ (s.qp 0 15).state = .active ∧ ¬ tailBad (s.qp 0 15) (fld 15 15 0) ∧
      tailBad (s.qp 0 15) (fld 16 15 0) ∧ fld 2 15 0 < 2 ^ (s.qp 0 15).cqLog2 ∧
      freedBy (s.qp 0 15).cqHead (fld 2 15 0) (s.qp 0 15).cqTail (s.qp 0 15).cqUsed (s.qp 0 15).cqLog2 ≤ (s.qp 0 15).cqUsed ∧
      (s.qp 0 15).cqUsed < freedBy (s.qp 0 15).cqHead (fld 3 15 0) (s.qp 0 15).cqTail (s.qp 0 15).cqUsed (s.qp 0 15).cqLog2 ∧
      isSlice 0 = false ∧ (s.evq 0).active = true ∧ (s.evq 0).lostPending = 0 ∧
      freedBy (s.evq 0).head (fld 2 15 0) (s.evq 0).tail (s.evq 0).used (s.evq 0).log2 ≤ (s.evq 0).used ∧
      (s.evq 0).used < freedBy (s.evq 0).head (fld 3 15 0) (s.evq 0).tail (s.evq 0).used (s.evq 0).log2) ∧
    ((qpAs { state := .error }).qp 0 15).state = .error ∧ ((qpAs {}).qp 0 15).state = .disabled ∧
    ((qpAs { state := .active, unsignalled := 1 }).qp 0 15).unsignalled ≠ 0 ∧
    (let s : State := { up with ins := { up.ins with fns := [(0, { msix := [(63, { pend := true })], msixEn := true, bme := true })] } }
     (s.func 0).msix = [(63, { pend := true })] ∧ (s.func 0).msixEn = true ∧ (s.func 0).fnMask = false ∧ (s.func 0).bme = true) ∧
    (let s : State := { up with ins := { up.ins with fns := [(31, { msix := [(7, { pend := true, mask := false })], msixEn := true })] } }
     (s.func 31).msix = [(7, { pend := true, mask := false })] ∧ (s.func 31).fnMask = false ∧ (s.func 31).bme = false ∧
      (s.evq 31).lostPending = 0) := by
  unfold tailBad pendingIn; decide +kernel

/-- 64 bytes of an SQ entry: INS code 0x06C8, CID 7. -/
def sqBytes : List Byte := [0xC8, 0x06, 7, 0]

theorem witness_QueueFetchAndFill :
    (let s := qpAs { state := .active, sqTail := 1 }
     let b := (sqBytes ++ List.replicate 64 0).take 64
     s.enabled 0 = true ∧ (s.qp 0 15).sqHead ≠ (s.qp 0 15).sqTail ∧ (s.qp 0 15).cqFree ≠ 0 ∧ s.bme 0 = true ∧
      (s.tick 0).xlateCause 0 ((s.qp 0 15).sqBase + 64 * (s.qp 0 15).sqHead) 64 none = none ∧
      (s.tick 0).xlateCause 0 ((s.qp 0 15).sqBase + 64 * (s.qp 0 15).sqHead) 64 (some 2) = some 2 ∧
      (s.tick 0).sqCheck 0 b (sqOf b 1) = none ∧ queueOp (sqOf (List.replicate 64 0) 1).opcode = none ∧
      (s.inst 0).root.isSome = true ∧ 2 ^ 33 - 1 < 2 ^ 33) ∧
    pteV 0xF = true ∧ pteW 0xF = true ∧ pteR 0xF = true ∧ pteV 0 = false ∧ pteW 1 = false ∧ pteR 1 = false ∧
    (let s : State := { qpAs {} with ins := { (qpAs {}).ins with invals := [(5, 0, 1, 2)] } }
     (5, 0, 1, 2) ∈ s.ins.invals ∧ s.ins.invals.all (fun (at_, g, first, count) => !(g == 0 && decide (5 ≤ at_) &&
        (count == 0 || (decide (first ≤ 0x3000 / 4096) && decide (0x3000 / 4096 < first + count))))) = true) := by decide +kernel

theorem witness_DisableSequenceBegins : (up.inst 32).phase = .on ∧ formedB up = true := by decide +kernel

theorem witness_DisableRunsAndEnds : formedB up = true ∧ up.enabled 1 = true ∧ up.ins.linkUp = true ∧ up.lcy.powerGood = true ∧
    (let s : State := { up with ins := { up.ins with vfEnable := false, perstN := false } }
     s.ins.vfEnable = false ∧ s.ins.perstN = false ∧ (s.inst 31).phase = .off) ∧
    (let s : State := { up with ins := { up.ins with insts := [] } }
     s.ins.perstN = true ∧ s.mbx.state = .serving ∧ (s.inst 0).phase = .off) ∧
    (let s : State := { up with
       ins := { up.ins with insts := [(287, { phase := .disabling })] }
       cap := { objs := [(9, { state := .live, owner := 287, gen := 3 })] } }
     isSlice 287 = true ∧ (s.inst 287).phase = .disabling ∧
      s.fare.sessions.any (fun p => p.2.tenant == 287 && p.2.outcome.isNone) = false ∧ s.mbx.held = none ∧
      (s.obj 9).owner = 287 ∧ (s.obj 9).state = .live ∧ (s.obj 9).gen < 65535) := by decide +kernel

/-- A page's command of the instances' area. -/
theorem witness_InstanceCommands :
    (let a : List Word := [15, 0x10000, 0, 0x20000, 0, 0x003F0C0C, 1]
     runsOn upMan (.insQpSetup 0 0 {}) a = true ∧ fld (arg a 1) 3 0 < qpCount 0 ∧ fld (arg a 7) 7 0 ≠ 0 ∧
      ofTwo (arg a 2) (arg a 3) % 4096 = 0 ∧ ofTwo (arg a 4) (arg a 5) % 4096 = 0 ∧ fld (arg a 6) 3 0 = 12 ∧
      fld (arg a 6) 11 8 = 12 ∧ vectorOk 0 (fld (arg a 6) 21 16) = true ∧ (upMan.qp 0 15).state = .disabled) ∧
    (let a : List Word := [15, 0x10001, 0, 0x20000, 0, 0x00000404, 1]
     runsOn upMan (.insQpSetup 0 0 {}) a = true ∧ ofTwo (arg a 2) (arg a 3) % 4096 ≠ 0) ∧
    (let a : List Word := [0x8000, 0, 1]
     runsOn upMan (.insXlateSet 0 0 {}) a = true ∧ bit (arg a 3) 0 = true ∧ ofTwo (arg a 1) (arg a 2) % 32768 = 0 ∧
      (upMan.inst 0).qps.any (fun p => p.2.state == .active) = false) ∧
    runsOn upMan (.insFaultGet 0 0 {}) [2] = true ∧
    (let a : List Word := [6, 1]
     runsOn upMan (.insSliceCreate 0 0 {}) a = true ∧ fld (arg a 1) 19 0 ≠ 0 ∧ fld (arg a 2) 5 0 ≠ 0 ∧ upMan.ins.pasidEn = true ∧
      upMan.ins.insts.any (fun p => isSlice p.1 && p.2.phase != .off && p.2.pasid == fld (arg a 1) 19 0) = false ∧
      upMan.freeSlice = some 33) ∧
    (let a : List Word := [287, 0]
     runsOn upMan (.insRightsSet 0 0 {}) a = true ∧ isPf (fld (arg a 1) 9 0) = false ∧ fld (arg a 1) 9 0 ≤ 287 ∧
      (upMan.openMan 0).isSome = true ∧ 0 < entryLimit 0) ∧
    (runsOn upMan (.insSliceDestroy 0 0 {}) [32] = true ∧ isSlice 32 = true ∧ upMan.enabled 32 = true) ∧
    (let a : List Word := [0x1000, 0, 0x003F0010]
     runsOn upMan (.insEqSetup 0 0 {}) a = true ∧ ofTwo (arg a 1) (arg a 2) % 4096 = 0 ∧ fld (arg a 3) 4 0 = 16 ∧
      vectorOk 0 (fld (arg a 3) 21 16) = true ∧ (upMan.evq 0).lostPending = 0 ∧ upMan.evt.zeroisedFor = []) ∧
    runsOn upMan (.insStatus 0 0 {}) [288] = true ∧ runsOn upMan (.insStatus 0 0 {}) [287] = true := by decide +kernel

/-! #### 05 Capabilities -/

/-- A live object 9 of the PF, level 1, with every right, and a child 10; the seal key is the first. -/
def capUp : State :=
  { up with
    cap := { sealKey := some 1
             objs := [ (9, { state := .live, gen := 1, type := 1, level := 1, owner := 0, rights := 0x7FFF, base := 0x10000, length := 4096, depth := 1 })
                     , (10, { state := .live, gen := 1, type := 1, level := 1, owner := 0, rights := 1, base := 0x10000, length := 16, parent := 9, depth := 2 }) ] } }

/-- The capability part of a handle of object 9. -/
def cap9 : BitVec 64 := BitVec.ofNat 64 (1 * 2 ^ 48 + 9 * 2 ^ 32 + 0x7FFF * 2 ^ 16 + 1 * 2 ^ 12 + 1 * 2 ^ 10)

/-- A handle's four words: the seal, whatever it is, and the capability. -/
def handle9 : List Word :=
  let c := (Config.cmac48 1 cap9).toNat
  [wd c, wd (c / 2 ^ 32), wd cap9.toNat, wd (cap9.toNat / 2 ^ 32)]

theorem handle9_toNat (r : List Word) :
    (argHandle (handle9 ++ r) 1).toNat = (Config.cmac48 1 cap9).toNat + 2 ^ 64 * cap9.toNat := by
  have h1 := (Config.cmac48 1 cap9).isLt
  have h2 : cap9.toNat < 2 ^ 64 := cap9.isLt
  simp only [argHandle, handle9, arg, ofTwo, wd, BitVec.toNat_ofNat, List.cons_append, List.getD_cons_zero, List.getD_cons_succ,
    Nat.add_sub_cancel, Nat.reduceAdd, Nat.reduceSub]
  omega

theorem handle9_ok (r : List Word) (s : State) (h : s.cap = capUp.cap) (hs : s.sec = capUp.sec) (st : Bool) :
    s.handleOk 0 (argHandle (handle9 ++ r) 1) st = .ok { capOf cap9 with length := 4096 } := by
  have h1 := (Config.cmac48 1 cap9).isLt
  have h2 : cap9.toNat < 2 ^ 64 := cap9.isLt
  have hu : BitVec.ofNat 64 ((argHandle (handle9 ++ r) 1).toNat / 2 ^ 64) = cap9 := by
    apply BitVec.eq_of_toNat_eq
    rw [BitVec.toNat_ofNat, handle9_toNat]
    omega
  have hl : (argHandle (handle9 ++ r) 1).toNat % 2 ^ 64 = (Config.cmac48 1 cap9).toNat := by
    rw [handle9_toNat]; omega
  have hk : s.cap.sealKey = some 1 := by rw [h]; rfl
  have ho : ∀ k, s.obj k = capUp.obj k := fun k => by simp only [State.obj, h]
  have hv : s.capValid (capOf cap9) = true := by
    have : s.capValid (capOf cap9) = capUp.capValid (capOf cap9) := by simp only [State.capValid, State.live, ho]
    rw [this]; decide +kernel
  simp only [State.handleOk, hu, hl, hk, beq_self_eq_true, hv, State.keyOf, ho]
  rfl

/-- A word has no bit beyond 32. -/
theorem word_fits (w : Word) : w.toNat &&& 0xFFFFFFFF = w.toNat :=
  Nat.and_two_pow_sub_one_of_lt_two_pow (n := 32) w.isLt

theorem requestWord_fields (code argc : Nat) (h : code < 65536) (ha : argc < 16) :
    fld (requestWord code argc) 31 16 = code ∧ fld (requestWord code argc) 7 4 = argc ∧ fld (requestWord code argc) 3 2 = 0 ∧
      bit (requestWord code argc) 0 = false := by
  have : (requestWord code argc).toNat = code * 65536 + 256 + argc * 16 := by
    simp only [requestWord, wd, BitVec.toNat_ofNat]; omega
  refine ⟨?_, ?_, ?_, ?_⟩
  · simp only [fld, this, Nat.shiftRight_eq_div_pow]; omega
  · simp only [fld, this, Nat.shiftRight_eq_div_pow]; omega
  · simp only [fld, this, Nat.shiftRight_eq_div_pow]; omega
  · simp only [bit, BitVec.getLsbD, this, Nat.testBit, Nat.shiftRight_eq_div_pow]; simp; omega

/-- A command of the PF that stages nothing runs on `capUp` with words that keep to its masks. -/
theorem runs_capUp (c : Instr) (d : CmdDef) (own : List Word → Bool) (work : List Word → State → Answer) (a : List Word)
    (hb : blockRow c = some { t := 0, tag := 0, io := {}, d, own, work }) (hc : d.code < 65536) (hl : a.length = d.argc)
    (ha : d.argc < 16) (hs : d.staged = false) (hp : d.pfMay a = true) (hping : d.code ≠ 0x0103) (hm : reservedSet d.masks a = false) :
    Runs c (post capUp c a) a := by
  have hpost : post capUp c a = posted capUp 0 d.code a := by simp only [post, hb]
  have hpage : (posted capUp 0 d.code a).page 0 =
    { ready := true, go := true, taken := true, blk := (requestWord d.code a.length :: a ++ List.replicate 16 0).take 16 } := rfl
  obtain ⟨f1, f2, f3, f4⟩ := requestWord_fields d.code d.argc hc ha
  have hget : ((requestWord d.code a.length :: a ++ List.replicate 16 0).take 16).getD 0 0 = requestWord d.code d.argc := by
    rw [hl]; rfl
  have hargs : argsOf d ((posted capUp 0 d.code a).page 0) {} = some a := by
    have : (((requestWord d.code a.length :: a ++ List.replicate 16 0).take 16).drop 1).take d.argc = a := by
      simp only [List.cons_append, List.take_succ_cons, List.drop_succ_cons, List.drop_zero]
      rw [List.take_take, Nat.min_eq_left (by omega), List.take_append_of_le_length (by omega), ← hl, List.take_length]
    simp only [argsOf, hpage, hget, f2, f4, hping, Bool.false_eq_true, ↓reduceIte, false_or, this]
  have hind : (posted capUp 0 d.code a).indCause 0 ((posted capUp 0 d.code a).page 0) {} = none := by
    simp only [State.indCause, hpage, hget, f4, Bool.false_eq_true, ↓reduceIte]
  have hlife : (posted capUp 0 d.code a).lifecycleStatus d = none := by
    have h2 : (posted capUp 0 d.code a).lifecycle = 2 := (by decide +kernel : capUp.lifecycle = 2)
    have h3 : (posted capUp 0 d.code a).sec.zeroised = false := rfl
    simp only [State.lifecycleStatus, h2, h3]; split <;> rfl
  rw [hpost]
  unfold Runs
  rw [hb]
  refine ⟨?_, ?_, ?_, by simp⟩
  · show (posted capUp 0 d.code a).ready 0 d.code = true
    have g1 : (posted capUp 0 d.code a).mbx.state = .serving := rfl
    have g2 : (posted capUp 0 d.code a).mbx.held = none := rfl
    simp only [State.ready, hpage, hget, f1, g1, g2, beq_self_eq_true, Option.isNone_none, Bool.and_self]
  · show (posted capUp 0 d.code a).replay 0 = none
    rfl
  · show (match (posted capUp 0 d.code a).precheck d own (fun _ => false) 0 {} with | .ok x => x = a | .error _ => False)
    have hpf : isPf 0 = true := rfl
    have hpre : (posted capUp 0 d.code a).precheck d own (fun _ => false) 0 {} = .ok a := by
      simp only [State.precheck, hargs, hind, hlife, hpf, hp, hs, hm]
      simp only [hpage, hget, f3]; rfl
    rw [hpre]

theorem runs_with_handle9 : Runs (.capRevoke 0 0 {}) (post capUp (.capRevoke 0 0 {}) handle9) handle9 ∧
    Runs (.capRelease 0 0 {}) (post capUp (.capRelease 0 0 {}) handle9) handle9 ∧
    Runs (.capInfo 0 0 {}) (post capUp (.capInfo 0 0 {}) handle9) handle9 ∧
    Runs (.capDerive 0 0 {}) (post capUp (.capDerive 0 0 {}) (handle9 ++ [0xF, 16, 32])) (handle9 ++ [0xF, 16, 32]) ∧
    Runs (.capGrant 0 0 {}) (post capUp (.capGrant 0 0 {}) (handle9 ++ [1, 0xF, 16, 32])) (handle9 ++ [1, 0xF, 16, 32]) := by
  have fits (m : List Nat) (l : List Word) (h : (List.range l.length).all (fun i =>
      ((l.getD i 0).toNat &&& m.getD (4 + i) 0xFFFFFFFF) == (l.getD i 0).toNat) = true) (hm : ∀ i, i < 4 → m.getD i 0xFFFFFFFF = 0xFFFFFFFF) :
      reservedSet m (handle9 ++ l) = false := by
    simp only [reservedSet, List.any_eq_false, List.mem_range, decide_eq_true_eq, ne_eq, not_not]
    intro i hi
    by_cases h4 : i < 4
    · rw [hm i h4]; exact word_fits _
    · have hi' : i - 4 < l.length := by simp [handle9] at hi; omega
      have e : (handle9 ++ l).getD i 0 = l.getD (i - 4) 0 := by
        have : handle9.length = 4 := rfl
        simp [List.getD_eq_getElem?_getD, List.getElem?_append_right, this, Nat.not_lt.mp h4]
      have := List.all_eq_true.mp h (i - 4) (List.mem_range.mpr hi')
      rw [e]
      have e2 : 4 + (i - 4) = i := by omega
      rw [e2] at this
      exact eq_of_beq this
  refine ⟨runs_capUp _ _ _ _ _ rfl ?_ rfl ?_ rfl rfl ?_ (fits _ [] ?_ ?_), runs_capUp _ _ _ _ _ rfl ?_ rfl ?_ rfl rfl ?_ (fits _ [] ?_ ?_)
    , runs_capUp _ _ _ _ _ rfl ?_ rfl ?_ rfl rfl ?_ (fits _ [] ?_ ?_), runs_capUp _ _ _ _ _ rfl ?_ rfl ?_ rfl rfl ?_ (fits _ _ ?_ ?_)
    , runs_capUp _ _ _ _ _ rfl ?_ rfl ?_ rfl rfl ?_ (fits _ _ ?_ ?_)⟩ <;> decide

/-- The capability that handle 9 gives, as its checks complete it. -/
def capa9 : Cap := { capOf cap9 with length := 4096 }

theorem post_ok (c : Instr) (r : List Word) (b : BlockRow) (hb : blockRow c = some b) (ht : b.tag = 0) :
    (post capUp c (handle9 ++ r)).handleOk 0 (argHandle (handle9 ++ r) 1) = .ok capa9 := by
  refine handle9_ok r _ ?_ ?_ _
  · simp only [post, hb, posted, State.modPage]
  · simp only [post, hb, posted, State.modPage]

theorem post_for (c : Instr) (r : List Word) (b : BlockRow) (k : Nat) (hb : blockRow c = some b) (ht : b.tag = 0)
    (hk : rightsSub (1 <<< k) capa9.rights = true) :
    (post capUp c (handle9 ++ r)).handleFor 0 (argHandle (handle9 ++ r) 1) (fun _ => true) (1 <<< k) = .ok capa9 := by
  simp only [State.handleFor, post_ok c r b hb ht, hk]; rfl

theorem witness_Revocation :
    (post capUp (.capRevoke 0 0 {}) (handle9 ++ [])).handleFor 0 (argHandle (handle9 ++ []) 1) (fun _ => true) (1 <<< rRevoke) = .ok capa9 ∧
    (post capUp (.capRelease 0 0 {}) (handle9 ++ [])).handleOk 0 (argHandle (handle9 ++ []) 1) = .ok capa9 ∧
    capUp.live capa9.object = true ∧ (capUp.obj capa9.object).gen < 65535 ∧ underIn capUp.cap.objs 4 capa9.object 10 = true ∧
    (let s : State := { up with cap := { broadcasts := [{ objs := [9], units := [99] }] }
                                mbx := { up.mbx with held := some { tag := 0, results := [], wait := .broadcast } } }
     s.cap.broadcasts = [{ objs := [9], units := [99] }] ∧ s.mbx.held = some { tag := 0, results := [], wait := .broadcast }) ∧
    (98 ∈ ({ objs := [9], units := [98, 99] } : Broadcast).units ∧ (99 : Nat) ≠ 98) :=
  ⟨post_for _ _ _ _ rfl rfl (by decide), post_ok _ _ _ rfl rfl, by decide +kernel, by decide +kernel, by decide +kernel, ⟨rfl, rfl⟩
  , by decide⟩

theorem witness_ChildObjects : (match capUp.child 9 0 1 0xF 16 32 with | .ok (n, _) => n == 1 | .error _ => false) = true ∧
    formedB capUp = true := by decide +kernel

/-- A cell that runs with c1 a capability of object 9, and a region that holds it. -/
def cellUp : State :=
  { capUp with
    cap := { objs := [ (9, { state := .live, gen := 1, type := 1, level := 1, rights := 0x7FFF, base := 0x600000, length := 4096, depth := 1 }) ]
             gates := [{ number := 5, caste := 0, level := 2, slots := [], entryPoint := 0x100 }] }
    man := { pages := [(0, { mpuRegions := [(0, { base := 0x6000, valid := true, sizeLog2 := 12, perm := 3, capst := true })] })] }
    sea := { cells := [(767, { state := .available, c := [(1, { tag := true, cap := { gen := 1, object := 9, rights := 0x7FFF, type := 1, level := 1, length := 4096 } })] })] } }

theorem reach_cellUp (s : State) (off size : Nat) (r w : Bool) (h : s.cellRuns 767 = true ∧ 1 ≤ size ∧
    s.capAddr (tget (s.cell 767).c 1 {} : CapReg).cap off % 16 + size ≤ 16 ∧ s.capCause 767 (tget (s.cell 767).c 1 {}) off size r w = none)
    (hw : (s.obj (tget (s.cell 767).c 1 {} : CapReg).cap.object).what = .none)
    (h2 : mpuAt s.mem.extMib (s.capAddr (tget (s.cell 767).c 1 {} : CapReg).cap off) = some 0 ∧
      s.mpuRegion 0 (s.cell 767).charge (s.capAddr (tget (s.cell 767).c 1 {} : CapReg).cap off) = 0 ∧
      (s.region s.cfg 0 0).permits { addr := s.capAddr (tget (s.cell 767).c 1 {} : CapReg).cap off, level := (s.cell 767).level
                                     charge := (s.cell 767).charge, cell := 767, read := r, write := w } = true) :
    Reach s 767 1 off size r w 0 0 :=
  ⟨h.1, h.2.1, h.2.2.1, h.2.2.2, fun k hk => (by rw [hw] at hk; cases hk), h2.1, h2.2.1, by decide, h2.2.2⟩

theorem reach_load : Reach (cellUp.tick 0) 767 1 4080 16 true false 0 0 := by
  apply reach_cellUp <;> decide +kernel
theorem reach_store : Reach (cellUp.tick 0) 767 1 4080 16 false true 0 0 := by
  apply reach_cellUp <;> decide +kernel
theorem reach_atomic : Reach (cellUp.tick 0) 767 1 4088 8 true true 0 0 := by
  apply reach_cellUp <;> decide +kernel

theorem witness_CapabilityUse_commands :
    (post capUp (.capInfo 0 0 {}) (handle9 ++ [])).handleOk 0 (argHandle (handle9 ++ []) 1) = .ok capa9 ∧
    (runsOn up (.capInfo 0 0 {}) [0, 0, 0, 0] = true ∧
      (match up.handleOk 0 (argHandle [0, 0, 0, 0] 1) with | .error e => e == 0x0015 | .ok _ => false) = true) ∧
    (let a := handle9 ++ [0xF, 16, 32]
     (post capUp (.capDerive 0 0 {}) a).handleFor 0 (argHandle a 1) (fun _ => true) (1 <<< rDerive) = .ok capa9) ∧
    rightsSub 0xF capa9.rights = true ∧ rightsSub 0x8000 capa9.rights = false ∧
    (match capUp.child 9 1 2 0xF 16 32 with | .ok _ => true | .error _ => false) = true ∧
    (let a := handle9 ++ [1, 0xF, 16, 32]
     (post capUp (.capGrant 0 0 {}) a).handleFor 0 (argHandle a 1) (fun _ => true) (1 <<< rGrant) = .ok capa9) ∧
    isPf 1 = false ∧ capUp.enabled 1 = true ∧ (0xF : BitVec 16).getLsbD rGrant = false ∧
    (runsOn upMan (.capList 0 0 {}) [0, 0, 15, 0] = true ∧ (15 : Nat) % 16 ≠ 0) ∧
    (let s : State := { upMan with ins := { upMan.ins with insts := [(0, { phase := .on, root := some 0 })] } }
     runsOn s (.capList 0 0 {}) [0, 0, 16, 0] = true ∧ s.cap.objs = [] ∧ (s.hostWrite 0 0 [] none).1 = 0) ∧
    (runsOn cellUp (.capGateInfo 0 0 {}) [5] = true ∧ (cellUp.gate 5).isSome = true ∧ accessLevel 0 ≤ 2 ∧
      runsOn cellUp (.capGateOpen 0 0 {}) [5] = true ∧ (cellUp.mintRoot 0 1 2 (1 <<< rCall) (.gate 5) 0 0).isSome = true ∧
      (0 : Nat) < accessLevel 1) ∧
    (cellUp.cap.faults.find? (fun f => f.seq == 0 && (isPf 0 || f.tag == 0)) = none) :=
  ⟨post_ok _ _ _ rfl rfl, by decide +kernel, post_for _ _ _ _ rfl rfl (by decide), by decide, by decide, by decide +kernel
  , post_for _ _ _ _ rfl rfl (by decide), by decide +kernel, by decide +kernel, by decide, by decide +kernel, by decide +kernel
  , by decide +kernel, by decide +kernel⟩

theorem witness_CapabilityUse_cells :
    (cellUp.cell 767).stores.length < 8 ∧ (cellUp.region cellUp.cfg 0 0).capst = true ∧
    (tget (cellUp.cell 767).c 2 {} : CapReg).tag = false ∧
    (cellUp.cell 767).overlap (addrOf cellUp 767 1 4080) 16 = none ∧ (cellUp.region cellUp.cfg 0 0).cacheable = false ∧
    openArea (addrOf cellUp 767 1 4080) = false ∧
    (let s := cellUp.modCell 767 (fun c => { c with stores := [{ addr := 0x600FF0, data := List.replicate 16 0 }] })
     ((s.cell 767).overlap (addrOf s 767 1 4080) 16).isSome = true) ∧ cellUp.cellRuns 767 = true := by
  unfold addrOf; decide +kernel

/-- `cellUp` with a CALL capability of gate 5 in c3, and a frame's RETURN capability in c14. -/
def gateUp : State :=
  { cellUp with
    cap := { cellUp.cap with objs := [(9, { state := .live, gen := 1, type := 2, level := 1, rights := 0x7FFF, depth := 1, what := .gate 5 })] }
    sea := { cells := [(767, { state := .available, frames := [{ c15 := {}, level := 0, ret := 4, gate := 5, serial := 6 }]
                               c := [ (3, { tag := true, cap := { gen := 1, object := 9, rights := 0x7FFF, type := 2, level := 1 } })
                                    , (14, { tag := true, cap := { type := 8, offset := 6 } }) ] })] } }

/-- A job. -/
def job0 : Job :=
  { tag := 1, qp := 0, cid := 0, noCqe := false, sqHead := 0, gate := 5, gateCap := {}, dataIova := 0, dataLen := 0, resIova := 0
    resLen := 0, params := [] }

theorem witness_CallGates :
    (match gateUp.workerEntry (gateUp.cell 767) (tget (gateUp.cell 767).c 3 {}) with | .ok g => g.number == 5 | .error _ => false) = true ∧
    (match gateUp.workerEntry (gateUp.cell 767) (tget (gateUp.cell 767).c 4 {}) with | .error e => e.1 == 1 | .ok _ => false) = true ∧
    gateUp.cellRuns 767 = true ∧ (gateUp.cell 767).frames.length = 1 ∧ ((gateUp.cell 767).returnFrame 14).isSome = true ∧
    (gateUp.cell 767).returnFrame 13 = none ∧
    (let s : State := { up with sea := { cells := [(0, { state := .available, request := some 3 })]
                                         jobs := [(3, job0)] } }
     (s.cell 0).request = some 3 ∧ (s.cell 0).frames = [] ∧ (s.job 3).isSome = true) ∧ 0x11 ≤ 0x11 := by decide +kernel

theorem witness_ObjectTableError : (1 : Nat) ≤ 65535 ∧ capUp.evt.srcMask.contains srcObjects = false ∧
    (capUp.evq 0).mask.contains 0x0402 = false := by decide +kernel

/-- `cellUp` with stores buffered. -/
def storeUp (l : List StoreEntry) : State := cellUp.modCell 767 (fun c => { c with stores := l })

theorem witness_CellMemory :
    Reach (cellUp.tick 0) 767 1 4080 16 true false 0 0 ∧ Reach (cellUp.tick 0) 767 1 4080 16 false true 0 0 ∧
    Reach (cellUp.tick 0) 767 1 4088 8 true true 0 0 ∧
    ((storeUp [{ addr := 0x600FF0, data := List.replicate 16 0 }]).cell 767).overlap 0x600FF0 16 =
      some { addr := 0x600FF0, data := List.replicate 16 0 } ∧
    ((storeUp [{ addr := 0x600FFF, data := [0] }]).cell 767).overlap 0x600FF0 16 = some { addr := 0x600FFF, data := [0] } ∧
    (cellUp.cell 767).overlap 0x600FF0 16 = none ∧ addrOf cellUp 767 1 4080 = 0x600FF0 ∧
    (cellUp.tick 0).capCause 767 (tget (cellUp.cell 767).c 1 {}) 4096 1 false true = some 5 ∧
    16 < addrOf cellUp 767 1 1 % 16 + 16 ∧ ((storeUp [{ addr := 1, data := [0] }]).cell 767).stores = [{ addr := 1, data := [0] }] ∧
    (cellUp.cell 767).stores = [] ∧ (cellUp.region cellUp.cfg 0 0).cacheable = false ∧ openArea (addrOf cellUp 767 1 4088) = false ∧
    leaseAt (addrOf cellUp 767 1 4088) = none := by
  refine ⟨reach_load, reach_store, reach_atomic, ?_⟩
  unfold addrOf; decide +kernel

/-- `cellUp` with a region that is cacheable, cells 766 and 767, and a line's directory entry. -/
def dirUp (d : DirState) (p : List Instr) : State :=
  { cellUp with
    man := { pages := [(0, { mpuRegions := [(0, { base := 0x6000, valid := true, sizeLog2 := 12, perm := 1, cacheable := true })] })] }
    sea := { cells := [(766, { state := .available }), (767, { state := .available, l1 := [(0x18001, .modified)] })] }
    mem := { lines := [(lineKey 767 0x18000, { dir := d })] }, pending := p }

theorem witness_Directory :
    ((dirUp .unowned []).tick 0).cacheLine 767 0x18000 = true ∧ (dirUp .unowned []).pending = [] ∧
    ((dirUp (.owned 6) []).line (lineKey 767 0x18000)).dir = .owned 6 ∧ 767 % 8 = 7 ∧
    ((dirUp (.shared [0]) []).line (lineKey 767 0x18000)).dir = .shared [0] ∧
    tfind ((dirUp .unowned []).cell 767).l1 0x18001 = some .modified ∧ tfind ((dirUp .unowned []).cell 767).l1 0x18000 ≠ some .modified ∧
    (let s := dirUp .unowned [.own 0 766 0x18000]
     (s.tick 0).cacheLine 767 0x18000 = true ∧ s.pending.filterMap (rival 0 (clusterOf 767) 0x18000) = [] ∧
      winner (s.line (lineKey 767 0x18000)).ptr (7 :: s.pending.filterMap (contender 0 (clusterOf 767) 0x18000)) ≠ some 7) := by
  decide +kernel

/-- A state whose MPU 0 has these regions. -/
def mpuUp (layered : Bool) (l : Tbl Region) : State :=
  { up with man := { pages := [(0, { mpuMode := [(0, layered)], mpuRegions := l })] } }

/-- A region of 4 KiB at 0x600000 that reads at level 0. -/
def reg0 : Region := { base := 0x6000, valid := true, sizeLog2 := 12, perm := 1 }

theorem witness_MpuDecides :
    (let s := mpuUp false [(23, reg0)]
     tget s.mem.eccBad 0 0 ≤ s.now ∧ s.cfg.layered 0 = false ∧ (s.region s.cfg 0 23).matchStrict 0x3FF 0x600000 = true ∧
      (∀ k, k < 32 → k ≠ 23 → (s.region s.cfg 0 k).matchStrict 0x3FF 0x600000 = false) ∧
      (s.region s.cfg 0 23).permits { addr := 0x600000, level := 0, charge := 0x3FF, read := true } = true ∧
      (s.region s.cfg 0 23).permits { addr := 0x600000, level := 0, charge := 0x3FF, write := true } = false ∧
      (s.mpuCheck 0 { addr := 0x600000, level := 0, charge := 0x3FF, write := true }).1 = false ∧
      (∀ k, k < 32 → (s.region s.cfg 0 k).matchLayered 0x3FF 0x601000 = false ∧ (s.region s.cfg 0 k).matchStrict 0x3FF 0x601000 = false)) ∧
    (let s := mpuUp false [(0, reg0), (23, reg0)]
     (s.region s.cfg 0 0).matchStrict 0x3FF 0x600FFF = true ∧ (s.region s.cfg 0 23).matchStrict 0x3FF 0x600FFF = true) ∧
    (let s := mpuUp true [(23, reg0)]
     s.cfg.layered 0 = true ∧ (s.region s.cfg 0 23).matchLayered 0x3FF 0x600FFF = true ∧
      (∀ k, k < 23 → (s.region s.cfg 0 k).matchLayered 0x3FF 0x600FFF = false)) := by decide +kernel

theorem witness_MemoryCommands :
    (let s : State := { up with ins := { up.ins with insts := [(0, { phase := .on, root := some 0 })] }
                                mem := { fwRegions := [(95, { valid := true, sizeLog2 := 33, perm := 0x6DB })] } }
     s.enabled 0 = true ∧ s.bme 0 = true ∧ (match s.hostRead 0 0 4 3 none with | .ok _ => true | .error _ => false) = true ∧
      mpuAt s.mem.extMib 0x1200000 = some 5) ∧ up.enabled 31 = false ∧
    (let a : List Word := [0x105]
     runsOn upMan (.memMpuMode 0 0 {}) a = true ∧ fld (arg a 1) 2 0 = 5 ∧ (upMan.openMan 0).isSome = true ∧ 0 < entryLimit 0) ∧
    (let a : List Word := [0x1705, 0x120001, 0x30000003, 0, 0]
     let r := regionOf (arg a 2) (arg a 3) (arg a 4)
     runsOn upMan (.memMpuRegion 0 0 {}) a = true ∧ fld (arg a 1) 2 0 = 5 ∧ fld (arg a 1) 12 8 = 23 ∧
      (allottable upMan.mem.extMib 5).1 ≤ r.base * 256 ∧ r.base * 256 + 2 ^ r.sizeLog2 - 1 ≤ (allottable upMan.mem.extMib 5).2 ∧
      r.attrBad 5 = false) ∧
    (runsOn upMan (.memMpuRegion 0 0 {}) [0x1805, 0x120001, 0x30000003, 0, 0] = true ∧ fld 0x1805 12 8 = 24) ∧
    runsOn upMan (.memMpuRead 0 0 {}) [0x1705] = true ∧
    (let x : Refusal13 := { seq := 7, mpu := 0, region := 0, write := false, exec := false, level := 0, dma := false, strict := true
                            tag := 0, cell := 0, address := 0, sec := 0, ns := 0 }
     let s : State := { upMan with mem := { refusals := [x] } }
     runsOn s (.memMpuFaultGet 0 0 {}) [7] = true ∧ s.mem.refusals.find? (fun r => r.seq == 7 && (isPf 0 || r.tag == 0)) = some x ∧
      s.mem.refusals.find? (fun r => r.seq == 8 && (isPf 0 || r.tag == 0)) = none) := by decide +kernel

theorem witness_MemoryFormKept : Memory.wf (writeBytes [] 16 [1, 2]) ∧ (match step (storeUp []) with | .next _ => true | _ => false) = true := by
  decide +kernel

theorem witness_TablesKeepForm : formedB cellUp = true ∧ (match step cellUp with | .next _ => true | _ => false) = true := by decide +kernel

theorem witness_MemoryWrites : Memory.wf [(1, 7), (5, 9)] ∧ Memory.wf [] := by decide +kernel

/-! #### 06 Lane Link -/

/-- `up` with segment 7 so, and these units. -/
def segUp (g : Seg) (us : Tbl LaneUnit := []) : State := { up with lane := { segs := [(7, g)], units := us } }

/-- A frame of the unit at address 16. -/
def frame16 (payload : List Byte) : LaneFrame := { addr := 16, type := 0, seq := 9, payload }

def zb (n : Nat) : List Byte := List.replicate n 0

theorem witness_TurnsAndRollCall :
    (let d : Decision := { lane := 127, type := 0x10, slot := 0, prompt := 1, openTime := 5 }
     let s := segUp { started := true, decisions := [d] }
     s.segRuns 7 = true ∧ (s.seg 7).turn = none ∧ (s.seg 7).assigns = [] ∧ (s.seg 7).retryDecision = none ∧ (s.seg 7).decisions = [d] ∧
      laneSeg 127 = 7 ∧ (s.unit 127).outstanding = none ∧ ((segUp { turn := some (.decision d) }).seg 7).turn = some (.decision d)) ∧
    (let s := segUp { started := true }
     s.segRuns 7 = true ∧ (s.tick 0).turnChoice 7 = none) ∧ (segUp {}).segRuns 7 = false ∧
    (let s := segUp { turn := some (.poll 127) } [(127, { fails := 2 })]
     (s.seg 7).turn = some (.poll 127) ∧ (s.unit 127).fails < 3) ∧
    ((segUp { turn := some (.poll 127) } [(127, { fails := 3 })]).unit 127).fails = 3 ∧ laneOf 7 16 = 127 ∧
    (let s := segUp { turn := some (.rollcall 0 0) } [(127, { state := .present, identity := 1 })]
     let f (pos : Byte) : List Byte := [0xC0, 0, 0, 0, 0, 0, 0, 1, pos, 0]
     hereOk [] = false ∧ hereOk (f 0) = true ∧ hereOk (f 16) = true ∧
      0xC000000000000001 >>> 62 = (deeper 0 0 3).toNat >>> 62 ∧ beNat ((f 16).take 8) = 0xC000000000000001 ∧
      (s.unit (laneOf 7 15)).state ≠ .present ∧ (s.seg 7).assigns = [] ∧ (s.unit (laneOf 7 16)).state = .present ∧
      (s.unit (laneOf 7 16)).identity ≠ 0xC000000000000001) ∧
    ((segUp { turn := some (.rollcall 60 0) }).seg 7).turn = some (.rollcall 60 0) ∧
    ((segUp { turn := some (.rollcall 62 0) }).seg 7).turn = some (.rollcall 62 0) ∧
    (let s := segUp { started := true, cycled := true, quiet := 3 }
     s.segRuns 7 = true ∧ (s.seg 7).cycled = true ∧ (s.seg 7).answered = false ∧ 3 ≤ (s.seg 7).quiet ∧
      ∀ l, l < 128 → (s.unit l).state ≠ .present) := by decide +kernel

/-- Segment 7 invites lane 127, which is bound, with this session and these sessions active. -/
def tapUp (x : List Session) (active : List Nat := []) : State :=
  { segUp { turn := some (.poll 127), active } with
    man := { pages := [(0, { lanes := [(127, { tenants := [1], failOpen := false, openTime := 5 })] })] }
    fare := { sessions := x.map (fun y => (127, y)) } }

theorem witness_FramesReceived_taps :
    ({ tapUp [] with lane := { emg := true } } : State).lane.emg = true ∧ (tapUp []).lane.emg = false ∧ (tapUp []).invites 7 127 = true ∧
    up.invites 7 127 = false ∧ ((tapUp []).unit 127).rxSeq ≠ some 9 ∧
    (((tapUp []).modUnit 127 (fun u => { u with rxSeq := some 9 })).unit 127).rxSeq = some 9 ∧ tapOk false [] = false ∧
    tapOk false ([1, 4] ++ zb 54) = true ∧ tapOk true ([1, 4] ++ zb 54) = true ∧ tapOk false ([3, 1, 0, 5] ++ zb 25) = true ∧
    ((tapUp [{}]).ses 127).isSome = true ∧ (tapUp []).ses 127 = none ∧ tmem (segUp {}).cfg.lanes 127 = false ∧
    tmem (tapUp []).cfg.lanes 127 = true ∧ ((tapUp [] [112, 113, 114]).seg 7).active.length < 4 ∧
    4 ≤ ((tapUp [] [112, 113, 114, 115]).seg 7).active.length ∧
    (let x : Session := { phase := .transfer, kind := 3, ticket := [1, 2], totalLen := 4 }
     (tapUp [x]).ses 127 = some x ∧ x.outcome = none ∧ x.prepared = false ∧
      contOk false ([0, 2, 0, 0, 0, 0, 0, 0] ++ [9, 9]) x.ticket.length x.totalLen = true ∧
      contOk false ([0, 3, 0, 0, 0, 0, 0, 0] ++ [9]) x.ticket.length x.totalLen = false) := by decide +kernel

theorem witness_FramesReceived_replies :
    (let d : Decision := { lane := 127, type := 0x10, slot := 0, prompt := 1, openTime := 5 }
     let fr : LFrame := { addr := 16, type := 0x10, seq := 9, payload := [] }
     let s := segUp { turn := some (.decision d) } [(127, { outstanding := some fr })]
     (s.seg 7).turn = some (.decision d) ∧ (s.unit 127).outstanding = some fr) ∧
    (let x : Session := { queued := some (.select, [1]), cell := some 0 }
     let s := { segUp { turn := some (.apdu 127) } [(127, { outstanding := some { addr := 16, type := 0, seq := 9, payload := [] } })] with
       fare := { sessions := [(127, x)] } }
     (s.seg 7).turn = some (.apdu 127) ∧ s.ses 127 = some x) ∧
    (let y : Assign := { identity := 5, address := 16, caps := 1, position := 16, seq := 9 }
     ((segUp { turn := some (.assign 5 16), assigns := [y] }).seg 7).assigns = [y]) ∧
    (let x : Session := { awaiting := some (1, .select, some 0), slot := some 1 }
     let s := tapUp [x]
     s.invites 7 127 = true ∧ (s.unit 127).rxSeq ≠ some 9 ∧ s.ses 127 = some x ∧ apduROk [0, 1, 1, 0, 0x90, 0] = true ∧
      apduROk [0, 1, 1, 1] = true ∧ apduROk [0, 1, 1, 2] = true ∧ apduROk [0, 1, 1, 4] = true ∧ (tapUp []).ses 127 = none) ∧
    ((segUp { turn := some (.echo 127) } [(127, { outstanding := some { addr := 16, type := 0, seq := 9, payload := zb 64 } })]).seg 7).turn =
      some (.echo 127) := by decide +kernel

theorem witness_EmergencyBroadcast :
    (let l : LaneSt := { emgPath := true, emgInput := true }
     l.emg = false ∧ l.emgSince + 100000 ≤ (({ up with lane := l } : State).tick 100000).now ∧
      ¬ l.emgSince + 100000 ≤ (({ up with lane := l } : State).tick 99999).now) ∧
    (let s : State := { up with lane := { emgPath := true, emg := true } }
     s.lane.emg = true ∧ s.lane.emgInput = false ∧ s.lane.freeExitAt + 10000000 ≤ (s.tick 10000000).now ∧
      s.lane.emgSince + s.devN 0x0502 * 1000000 ≤ (s.tick (10 ^ 15)).now) ∧
    (let s : State := { up with lane := { emgPath := true, releasing := true, clearSent := 2 } }
     s.lane.releasing = true ∧ s.lane.clearSent = 2 ∧ s.lane.freeExitAt + 10000000 ≤ (s.tick 10000000).now) ∧
    (({ up with lane := { clearSent := 1 } } : State).lane.clearSent = 1) := by decide +kernel

/-- A session on lane 127. -/
def sesUp (x : Session) : State := { capUp with fare := { sessions := [(127, x)] }, sea := { cells := [(0, { state := .available })] } }

theorem witness_CardExchanges :
    (let x : Session := { cell := some 0, phase := .running, tenant := 1, laneCap := { gen := 1, object := 9, rights := 1, type := 1, level := 1 } }
     let s := sesUp x
     s.ses 127 = some x ∧ x.outcome = none ∧ s.apduFor 127 x (.read true) [0, 0, 0, 0] = some [0, 0, 0, 0] ∧
      s.capValid x.laneCap = true ∧ x.xseq + 1 ≤ ((s.cfgOf x.cfg).param 0 0x0603).toNat ∧ s.capValid {} = false ∧
      ((s.cfgOf x.cfg).param 0 0x0603).toNat < 1000 + 1 ∧ x.prepared = false ∧
      0 + ((s.cfgOf x.cfg).param 0 0x0602).toNat * 1000000 ≤ (s.tick (10 ^ 12)).now) ∧
    (let x : Session := { phase := .transfer, budget := 57000000 }
     x.budget ≤ ((sesUp x).tick 0).now + 57000000 ∧ ((sesUp x).tick 0).now + 57000000 < 57000001) := by decide +kernel

theorem witness_LaneCommands :
    (let a (o : Word) : List Word := [127, 2, o * 256]
     runsOn upMan (.laneBind 0 0 {}) (a 5) = true ∧ fld (arg (a 5) 3) 15 8 = 5 ∧ runsOn upMan (.laneBind 0 0 {}) (a 100) = true ∧
      fld (arg (a 100) 3) 15 8 = 100 ∧ onesOf 32 2 = [1] ∧ upMan.enabled 1 = true ∧ runsOn upMan (.laneBind 0 0 {}) (a 4) = true ∧
      runsOn upMan (.laneBind 0 0 {}) (a 101) = true) ∧
    (let s : State := { tapUp [] with man := { (tapUp []).man with mans := upMan.man.mans } }
     runsOn s (.laneUnbind 0 0 {}) [127] = true ∧ (match s.openMan 0 with | some p => tmem (s.resulting p.2).lanes 127 | none => false) = true ∧
      (match s.openMan 0 with | some p => tmem (s.resulting p.2).lanes 126 | none => true) = false) ∧
    runsOn up (.laneStatus 0 0 {}) [127] = true ∧ runsOn up (.laneStatus 0 1 {}) [127] = true ∧ isPf 1 = false ∧
    tmem up.cfg.lanes 127 = false ∧
    (let s : State := { up with lane := { emg := true } }
     runsOn s (.laneRollcall 0 0 {}) [7] = true ∧ s.lane.emg = true) ∧
    (let s : State := { up with man := { pages := [(0, { segs := [] })] } }
     runsOn s (.laneRollcall 0 0 {}) [7] = true ∧ s.cfg.segs.contains 7 = false) ∧
    (let s := segUp { started := true }
     runsOn s (.laneRollcall 0 0 {}) [7] = true ∧ s.segRuns 7 = true) ∧
    (let s := segUp {} [(0, { state := .present }), (1, { state := .absent })]
     runsOn s (.laneForget 0 0 {}) [0] = true ∧ (s.unit 0).state = .present ∧ runsOn s (.laneForget 0 0 {}) [1] = true ∧
      (s.unit 1).state = .absent ∧ runsOn s (.laneForget 0 0 {}) [127] = true ∧ (s.unit 127).state = .vacant) := by decide +kernel

/-! #### 07 The cell sea -/

theorem witness_BestCell :
    (let s : State := { up with sea := { cells := [(3, { state := .available, caste := .validator }), (4, { state := .available, caste := .validator, placed := 1 })] } }
     formedB s = true ∧ s.bestCell .validator true = some 3 ∧ s.bestCell .ledger true = none ∧ 4 ∈ tkeys s.sea.cells ∧
      s.placeScore 4 true = s.placeScore 3 true) := by decide +kernel

/-- A session that waits for a cell, with a Validator cell. -/
def placeUp (x : Session) : State :=
  { up with fare := { sessions := [(127, x)] }
            sea := { cells := [(3, { state := .available, caste := .validator })], waiting := [{ work := .session 127, caste := .validator, since := 0 }] } }

theorem witness_SessionsPlaced :
    (let x : Session := { phase := .placing, budget := 5 }
     let s := placeUp x
     s.ses 127 = some x ∧ x.outcome = none ∧ s.sea.suspended ≤ (s.tick 0).now ∧ s.sessionFirst 127 = true ∧
      s.bestCell .validator true = some 3 ∧ s.freeSlotNo = some 0 ∧ (s.tick 0).now < x.budget ∧ x.budget ≤ (s.tick 5).now ∧
      (sesUp x).bestCell .validator true = none) ∧
    (let x : Session := { phase := .running, cell := some 3, awaiting := some (1, .select, none) }
     x.cell.isSome = true ∧ x.awaiting.isSome = true ∧ x.abortMark = none) ∧
    (let x : Session := { phase := .running, cell := some 3 }
     x.prepared = false ∧ x.queued = none ∧ x.awaiting = none) := by decide +kernel

/-- A handle whose capability is u, sealed. -/
def handleOf (u : BitVec 64) : BitVec 128 := BitVec.ofNat 128 ((Config.cmac48 1 u).toNat + 2 ^ 64 * u.toNat)

theorem handleOf_parts (u : BitVec 64) : BitVec.ofNat 64 ((handleOf u).toNat / 2 ^ 64) = u ∧
    (handleOf u).toNat % 2 ^ 64 = (Config.cmac48 1 u).toNat := by
  have h1 := (Config.cmac48 1 u).isLt
  have h2 : u.toNat < 2 ^ 64 := u.isLt
  have h3 : (handleOf u).toNat = (Config.cmac48 1 u).toNat + 2 ^ 64 * u.toNat := by
    simp only [handleOf, BitVec.toNat_ofNat]; omega
  refine ⟨BitVec.eq_of_toNat_eq ?_, ?_⟩
  · rw [BitVec.toNat_ofNat, h3]; omega
  · rw [h3]; omega

/-- Object 9 as the gate 5 of caste Cipher, and its capability. -/
def gateState (caste : Nat) (p : Qp) : State :=
  { qpAs p with
    cap := { sealKey := some 1, gates := [{ number := 5, caste, level := 2, slots := [] }]
             objs := [(9, { state := .live, gen := 1, type := 2, level := 1, rights := 0x7FFF, depth := 1, what := .gate 5 })] } }

def gate9 : BitVec 64 := BitVec.ofNat 64 (1 * 2 ^ 48 + 9 * 2 ^ 32 + 0x7FFF * 2 ^ 16 + 2 * 2 ^ 12 + 1 * 2 ^ 10)

/-- An SQ entry of the gate. -/
def opOf (code : Nat) (h : BitVec 128) : SqOp :=
  { opcode := code, cid := 7, noCqe := false, handle := h, dataIova := 0, dataLen := 0, resLen := 0, resIova := 0, params := [], sqHead := 0 }

theorem gate_entry (code caste : Nat) (p : Qp) (h : BitVec 128) (hu : BitVec.ofNat 64 (h.toNat / 2 ^ 64) = gate9)
    (hl : h.toNat % 2 ^ 64 = (Config.cmac48 1 gate9).toNat) : (gateState caste p).gateEntry 0 (opOf code h) =
    .ok ({ number := 5, caste, level := 2, slots := [] }, capOf gate9, none) := by
  have hobj : ∀ n, (gateState caste p).obj n = (gateState 0 {}).obj n := fun n => by simp only [State.obj, gateState]
  have hv : (gateState caste p).capValid (capOf gate9) = true := by
    have h : (gateState caste p).capValid (capOf gate9) = (gateState 0 {}).capValid (capOf gate9) := by
      simp only [State.capValid, State.live, hobj]
    rw [h]; decide +kernel
  have hk : (gateState caste p).cap.sealKey = some 1 := rfl
  simp only [State.gateEntry, opOf, hu, hl, hk, beq_self_eq_true, hv]
  have e : capOf gate9 = { gen := 1, object := 9, rights := 0x7FFF, type := 2, level := 1 } := by decide
  have ho : ((gateState caste p).obj 9).what = .gate 5 := by rw [hobj]; decide +kernel
  have hg : (gateState caste p).gate 5 = some { number := 5, caste, level := 2, slots := [] } := by
    simp only [State.gate, gateState, List.find?_cons, beq_self_eq_true]
  have h0 : slotBuffer ((([] : List GateSlot).getD 0 {})) 0 0 = none := by decide
  have h1 : slotBuffer ((([] : List GateSlot).getD 1 {})) 0 0 = none := by decide
  have hf : fld (([] : List GateSlot).getD 2 {}).a 31 28 = 0 := by decide
  have h2 : (gateState caste p).slotParam 0 (([] : List GateSlot).getD 2 {}) [] = .ok none := by
    simp only [State.slotParam, hf, List.any_nil, Bool.false_eq_true, ↓reduceIte]
  have hr : (0x7FFF : BitVec 16).getLsbD rCall = true := by decide
  have hh : handleType 2 = true := by decide
  have ha : accessLevel 0 = 1 := by decide
  simp only [e, ho, hg, h0, h1, h2, hr, hh, ha, Nat.lt_irrefl, false_or, Nat.reduceLT, ↓reduceIte, Bool.not_true
    , Bool.false_eq_true, bne_self_eq_false, Bool.or_self, ne_eq, not_true_eq_false]

theorem sealed_gate (h : BitVec 128) (hu : BitVec.ofNat 64 (h.toNat / 2 ^ 64) = gate9)
    (hl : h.toNat % 2 ^ 64 = (Config.cmac48 1 gate9).toNat) : ∃ h, let o := opOf 0x06C8 h
     let s := gateState 1 { state := .active, ops := [o] }
     takeOp 0x06C8 (s.qp 0 15).ops = some (o, []) ∧
      s.gateEntry 0 o = .ok ({ number := 5, caste := 1, level := 2, slots := [] }, capOf gate9, none) ∧ s.enabled 0 = true ∧
      s.slotGrantable 0 = true ∧ s.freeSlotNo = some 0 :=
  ⟨h, by simp only [State.qp, State.inst, gateState, qpAs, tget, tfind, opOf]; rfl, gate_entry _ _ _ h hu hl
  , by simp only [State.enabled, State.inst, gateState, qpAs, tget, tfind]; rfl
  , by
      have : (gateState 1 { state := .active, ops := [opOf 0x06C8 h] }).slotGrantable 0 = up.slotGrantable 0 := by
        simp only [State.slotGrantable, State.slotsHeld, State.insN, State.freeSlots, State.cfg, State.cfgOf, gateState, qpAs]
        rfl
      rw [this]; decide +kernel
  , by
      have : (gateState 1 { state := .active, ops := [opOf 0x06C8 h] }).freeSlotNo = up.freeSlotNo := by
        simp only [State.freeSlotNo, State.slot, gateState, qpAs]
      rw [this]; decide +kernel⟩

theorem witness_JobsAndScores_jobs :
    (∃ h, let o := opOf 0x06C8 h
     let s := gateState 1 { state := .active, ops := [o] }
     takeOp 0x06C8 (s.qp 0 15).ops = some (o, []) ∧
      s.gateEntry 0 o = .ok ({ number := 5, caste := 1, level := 2, slots := [] }, capOf gate9, none) ∧ s.enabled 0 = true ∧
      s.slotGrantable 0 = true ∧ s.freeSlotNo = some 0) ∧
    (match (qpAs {}).gateEntry 0 (opOf 0x06C8 0) with | .error e => e.1 == 0x0015 | .ok _ => false) = true ∧
    (let s : State := { qpAs {} with man := { pages := [(0, { params := [(0x0304, 0)] })] } }
     s.slotGrantable 0 = false) ∧
    (let s : State := { up with sea := { cells := [(0, { state := .available, work := [.piece 3] })], jobs := [(3, { job0 with pieces := 1 })] } }
     (s.cell 0).work = [.piece 3] ∧ (s.cell 0).request ≠ some 3 ∧ s.job 3 = some { job0 with pieces := 1 } ∧ job0.discard = false ∧
      job0.slot = none) ∧ ({ job0 with discard := true, pieces := 1 } : Job).pieces ≤ 1 :=
  ⟨(let ⟨hu, hl⟩ := handleOf_parts gate9; sealed_gate _ hu hl), by decide +kernel, by decide +kernel, by decide +kernel
  , by decide⟩

theorem witness_JobsAndScores_inputs :
    (let s : State := { up with sea := { cells := [(767, { state := .available, inputs := [(15, { count := 255 }), (14, {})] })] } }
     767 ∈ tkeys s.sea.cells ∧ (s.cell 767).state = .available ∧ (s.taskInput 767 15).count = 255 ∧ (s.taskInput 767 14).count = 0 ∧
      (s.taskInput 767 15).cycle ≠ (s.tick 0).now + 1 ∧ (∀ n ∈ [0, 63], n < 64) ∧ s.counter 5 767 1 ≤ statMax ∧ (s.cell 0).state ≠ .available ∧
      (match exec (.taskInputEvent 0 767 15 [0, 63]) s with | .next _ => true | _ => false) = true) := by decide +kernel

theorem witness_CellsMoveAndFault_moves :
    (let s : State := { up with sea := { cells := [(767, { state := .moving, next := .ledger })] } }
     formedB s = true ∧ s.canLeave 767 = true ∧ (s.cell 767).stores = [] ∧ (s.cell 767).toQuarantine = false ∧ s.canLeave 766 = false) ∧
    (let s : State := { up with sea := { cells := [(767, { state := .moving, toQuarantine := true })] } }
     s.canLeave 767 = true ∧ (s.cell 767).toQuarantine = true) ∧
    (let c : Cell := { state := .moving, loading := true, next := .ledger }
     c.state = .moving ∧ c.loading = true ∧ c.next ≠ .reserve ∧ c.next ≠ .audio) ∧
    (let w : Waiting := { work := .session 0, caste := .validator, since := 0 }
     let s : State := { up with sea := { cells := [(3, { state := .available })], waiting := [w] } }
     s.sea.waiting = [w] ∧ w.caste = casteOf 0 ∧ w.since + 1000000 ≤ (s.tick 1000000).now ∧
      s.casteSize (casteOf 0) + 1 ≤ s.cfg.casteMax 0 ∧ s.lowest .reserve (fun _ => true) = [3]) ∧
    (let s : State := { up with sea := { cells := [(2, { state := .available, caste := .audio }), (3, { state := .available, caste := .audio })]
                                         pairs := [(1, { due := true })] } }
     (s.pair 1).due = true ∧ s.spareReady 1 = true ∧ (s.tick 0).switchWaits 1 = false ∧ (s.pair 0).due = false) := by decide +kernel

theorem witness_CellsMoveAndFault_faults :
    (let s : State := { up with sea := { cells := [(3, { state := .available, hgen := 2 })]
                                         leases := [(0, { hgen := 2, holder := 3, expiry := 0 }), (1, { hgen := 2, holder := 3, expiry := 1 })] } }
     formedB s = true ∧ (tfind s.sea.leases 0).map (·.hgen) = some (s.cell 3).hgen ∧
      (s.tick 0).leaseHeld { hgen := 2, holder := 3, expiry := 0 } = false ∧ (s.cell 3).state = .available ∧
      (s.tick 0).leaseHeld { hgen := 2, holder := 3, expiry := 1 } = true) ∧
    (let s : State := { up with sea := { cells := [(3, { state := .faulted }), (8, { state := .available, caste := .sentinel })] }
                                isl := { islands := [(0, { state := .run })] } }
     formedB s = true ∧ (s.cell 3).state = .faulted ∧ (s.cell 8).state = .available ∧ (s.cell 8).caste = .sentinel ∧ (s.cell 8).work = [] ∧
      8 ∈ tkeys s.sea.cells ∧ s.sea.l2Check.contains (clusterOf 3) = false ∧
      (tget s.isl.islands (clusterOf 3) {} : Island).state = .run ∧ (s.cell 3).toQuarantine = false ∧
      (s.tick 0).faults24 3 < s.devN 0x06C7 ∧ s.sea.shortRaised = []) ∧
    (∀ j, (({ up with sea := { cells := [(3, { state := .faulted }), (8, { state := .available, caste := .sentinel })] } } : State).cell j).caste ≠
      .audio) := by
  refine ⟨by decide +kernel, by decide +kernel, fun j => ?_⟩
  simp only [State.cell, tget, tfind]
  split
  · decide
  · split <;> decide

theorem witness_DroverCommands :
    (let a : List Word := [32, 768, 0, 640, 4, 32, 8, 64, 4, 32]
     let plan : List (Nat × Nat) := (List.range 5).map (fun k => (fld (arg a (2 * k + 1)) 9 0, fld (arg a (2 * k + 2)) 9 0))
     runsOn upMan (.drvCastePlan 0 0 {}) a = true ∧ (plan.getD 2 (0, 0)).1 % 2 = 0 ∧ (plan.getD 2 (0, 0)).2 % 2 = 0 ∧
      ∀ x ∈ plan, x.1 ≤ x.2 ∧ x.2 ≤ 768) ∧
    runsOn upMan (.drvCastePlan 0 0 {}) [32, 768, 0, 640, 5, 32, 8, 64, 4, 32] = true ∧
    runsOn upMan (.drvCellStatus 0 0 {}) [767] = true ∧ runsOn upMan (.drvCellStatus 0 0 {}) [768] = true ∧
    runsOn upMan (.drvCellQuarantine 0 0 {}) [767] = true ∧ (upMan.cell 767).state = .absent ∧
    runsOn upMan (.drvCellQuarantine 0 0 {}) [47] = true ∧ (upMan.cell 47).state = .available ∧ (upMan.cell 47).caste ≠ .audio ∧
    runsOn upMan (.drvCellReturn 0 0 {}) [47] = true ∧
    (let s : State := { up with sea := { cells := [(767, { state := .quarantined })] } }
     runsOn s (.drvCellReturn 0 0 {}) [767] = true ∧ (s.cell 767).state = .quarantined) := by decide +kernel

/-! #### 08 Fare sessions -/

/-- Lane 127's session, a denylist of tenant 1 that names its identity, and served time 2 s. -/
def denyUp (expiry : Nat) (x : Session) : State :=
  { up with
    fare := { sessions := [(127, x)] }, tim := { served := 2 * secUnit }
    man := { pages := [(0, { denies := [(1, { entries := [{ key := denyKey x.kind x.ident, reason := 0, expiry }] })] })] } }

theorem denyUp_hit (e : Nat) (x : Session) (hc : x.cfg = 0) (ht : x.tenant = 1) :
    (((denyUp e x).cfgOf x.cfg).deny x.tenant).entries.find? (fun e => e.key == denyKey x.kind x.ident) =
      some { key := denyKey x.kind x.ident, reason := 0, expiry := e } := by
  simp [denyUp, State.cfgOf, Cfg.deny, tget, tfind, hc, ht]

/-- A tariff table of one rule. -/
def fareOf (action : Nat) : FareTable :=
  { serial := 1, validFrom := 10, validTo := 20, stationId := 5, tzOffset := 0, apps := [], issuers := [5]
    rules := [{ product := 0xFFFF, dayMask := 0xFF, action, fromMin := 0, toMin := 1440, fare := 100, transferFare := 0, prompt := 0 }]
    transferWindow := 0, minValue := -50, holidays := [] }

/-- The least ticket of issuer 5. -/
def ticket5 : List Byte := [1, 0, 0, 0, 0, 5, 0, 0, 0, 0, 0, 32] ++ zb 32

theorem witness_FareSessions_search :
    (let x : Session := { phase := .searching, tenant := 1 }
     (∀ e ∈ [0, 2, 1], ((((denyUp e x).cfgOf x.cfg).deny x.tenant).entries.find? (fun e => e.key == denyKey x.kind x.ident)).map (·.expiry) = some e)
      ∧ timeLe 2 2 = true ∧ timeLe 2 1 = false ∧ (up.cfg.deny 1).entries.find? (fun e => e.key == denyKey 0 []) = none) := by
  refine ⟨fun e _ => ?_, by decide, by decide, by rfl⟩
  rw [denyUp_hit e _ rfl rfl]
  rfl

theorem witness_FareSessions_verify :
    (let x : Session := { phase := .searching, tenant := 1 }
     ((denyUp 2 x).tick 0).sec32 = 2 ∧ (denyUp 2 x).ses 127 = some x) ∧
    (let x : Session := { phase := .verifying, ticket := ticket5 }
     let s : State := { up with
       fare := { sessions := [(127, x)] }
       man := { pages := [(0, { lanes := [(127, { tenants := [1], failOpen := false, openTime := 5 })], tables := [(1, fareOf 0)] })] } }
     s.ses 127 = some x ∧ x.phase = .verifying ∧ ticketOk x.ticket = true ∧ ticketOk [] = false ∧
      tfind (s.cfgOf x.cfg).lanes 127 = some { tenants := [1], failOpen := false, openTime := 5 } ∧
      tfind (s.cfgOf x.cfg).tables 1 = some (fareOf 0) ∧ beNat (slice x.ticket 2 4) ∈ (fareOf 0).issuers ∧
      tget (s.cfgOf x.cfg).keys 1 [] = [] ∧ tfind (up.cfgOf 0).lanes 127 = none) ∧
    ((timeLe 10 (9 % 2 ^ 32) && timeLe (9 % 2 ^ 32) 20) = false ∧ (timeLe 10 (20 % 2 ^ 32) && timeLe (20 % 2 ^ 32) 20) = true ∧
      (∀ k ∈ [0, 1, 2], ((fareOf k).rules.find? (fun r => r.matches_ 7 3 0)).map (·.action) = some k) ∧
      ({ fareOf 0 with rules := [] } : FareTable).rules.find? (fun r => r.matches_ 7 3 0) = none ∧
      (49 : Int) - (100 : Nat) < (fareOf 0).minValue ∧ (fareOf 0).minValue ≤ (50 : Int) - (100 : Nat)) := by decide +kernel

theorem witness_FareSessions_seal :
    (let x : Session := { phase := .sealing, tenant := 767, outcome := some .accept, cell := some 3 }
     let s : State := { up with
       fare := { sessions := [(127, x)], hub := [(0, 0)] }
       man := { pages := [(0, { params := [(0x0606, 1)] })] }
       sea := { cells := [(767, { state := .available, caste := .ledger })], waiting := [{ work := .sealing 127, caste := .ledger, since := 0 }] } }
     s.ses 127 = some x ∧ s.devN 0x0606 ≠ 0 ∧ (s.tick 0).placing = true ∧ (s.tick 0).sealFirst 127 x = true ∧
      (s.tick 0).bestCell .ledger false = some 767 ∧ hubNext s.fare.hub 8192 s.fare.append = some 1 ∧ x.decided = false) ∧
    (let x : Session := { phase := .sealing, decided := true }
     (sesUp x).ses 127 = some x ∧ x.decided = true ∧ (sesUp x).ses 126 = none) ∧
    (let x : Session := { phase := .sealed, sealBy := some 8000000, outcome := some .accept }
     (sesUp x).ses 127 = some x ∧ x.decided = false ∧ x.phase ≠ .closing ∧ (sesUp x).pending.any (sameCycleAccept 0 127) = false) ∧
    (let r : JRec := { bytes := zb 128, tenant := 1, rseq := 1, lane := 127, slot := none, cart := .waiting, cartSlot := some 3 }
     let s : State := { up with fare := { records := [(0, r), (1, { r with cart := .refused })] } }
     s.jrec 0 = some r ∧ r.cart = .waiting ∧ s.jrec 1 = some { r with cart := .refused }) := by decide +kernel

/-- A tariff table of the PF with an AID, a rule and its settings, and a signature block of zeros. -/
def table0 : List Byte :=
  [0x54, 0x46, 0x42, 0x31, 1, 3, 0, 0, 0, 0, 10, 108, 0, 0, 0, 1] ++ zb 48 ++
  [1, 0, 0, 1, 0, 0, 0, 128, 3, 0, 0, 1, 0, 0, 0, 148, 4, 0, 0, 1, 0, 0, 0, 168] ++ zb 40 ++
  [5, 1, 1, 1, 1, 1] ++ zb 11 ++ [1, 0, 0] ++ [0, 1, 255, 1, 0, 0, 5, 160] ++ zb 12 ++ zb 16 ++ zb 2484

/-- Host buffers of the PF translate and pass the MPU. -/
def withIo (s : State) : State :=
  { s with ins := { s.ins with insts := [(0, { phase := .on, root := some 0 })] }
           mem := { fwRegions := [(95, { valid := true, sizeLog2 := 33, perm := 0x6DB })] } }

/-- Whether a buffer of this length reads from host memory. -/
def hostReads (s : State) (len : Nat) : Bool := match (s.tick 0).hostRead 0 0 len 3 none with | .ok _ => true | .error _ => false

theorem witness_FareCommands_tables :
    (∀ len ∈ [2611, 2612, 4194304, 4194305], runsOn (withIo upMan) (.fareTableLoad 0 0 {}) [0, 0, wd len] = true) ∧
    hostReads (withIo upMan) 2668 = true ∧ (upMan.openMan 0).isSome = true ∧ tableOk table0 2668 = true ∧ tabField table0 6 2 = 0 ∧
    tableOk (zb 2612) 2612 = false ∧ (upMan.roleKeys upMan.cfg 1 0 0) = [] ∧ tabField table0 12 4 = 1 ∧ upMan.topSerial 0 = 0 ∧
    runsOn upMan (.fareKeyBind 0 0 {}) [0, 0, 0, 0, 4, 0, 0] = true ∧ (∀ r ∈ [0, 2], roleSuits r 4 = true) ∧ roleSuits 4 4 = false ∧
    (∀ len ∈ [0, 23, 24, 16777200], runsOn (withIo upMan) (.fareDenyDelta 0 0 {}) [0, 0, wd len] = true) ∧ deltaLen 0 = false ∧
    deltaLen 23 = false ∧ deltaLen 24 = true ∧ deltaLen 16777200 = true ∧ hostReads (withIo upMan) 24 = true ∧
    (((upMan.resulting { tag := 0, serial := 1 }).deny 0).delta (denyEntries (24 / 24) (zb 24))).entries.length ≤ denyMax := by
  decide +kernel

theorem witness_FareCommands_journal :
    (let x : Shadow8 := { complete := true }
     let s : State := { upMan with fare := { shadows := [(0, x)] } }
     runsOn s (.fareDenySwap 0 0 {}) [] = true ∧ runsOn s (.fareDenyStatus 0 0 {}) [] = true ∧ tfind s.fare.shadows 0 = some x ∧
      tfind upMan.fare.shadows 0 = none) ∧
    (let r : JRec := { bytes := zb 128, tenant := 1, rseq := 1, lane := 127, slot := none, hub := .accepted, index := some 8191 }
     let s : State := withIo { up with fare := { hub := [(8191, 0)], records := [(0, r)] } }
     runsOn s (.fareJournalRead 0 0 {}) [0, 0, 127, 0] = true ∧ runsOn s (.fareJournalRead 0 0 {}) [0, 0, 128, 8191] = true ∧
      s.heldFrom 0 8191 = [(8191, r)] ∧ (match (s.tick 0).hostWrite 0 0 r.bytes none with | (st, _) => st) = 0 ∧
      runsOn s (.fareJournalAck 0 0 {}) [8191, 1] = true ∧ tfind s.fare.hub 8191 = some 0 ∧ formedB s = true ∧
      (∀ p ∈ s.fare.hub, p.1 < 8192) ∧ runsOn s (.fareJournalAck 0 0 {}) [0, 0] = true ∧
      runsOn s (.fareJournalAck 0 0 {}) [0, 8193] = true) ∧
    ((denyEntries ((zb 24).length / 24) (zb 24)).all (fun e => !e.2) = true ∧
      risingFrom none ((denyEntries ((zb 24).length / 24) (zb 24)).map (·.1)) = true ∧
      risingFrom none ((denyEntries ((zb 48).length / 24) (zb 48)).map (·.1)) = false) := by decide +kernel

theorem sealed_denyLoad (caste : Nat) (h : BitVec 128) (hu : BitVec.ofNat 64 (h.toNat / 2 ^ 64) = gate9)
    (hl : h.toNat % 2 ^ 64 = (Config.cmac48 1 gate9).toNat) : ∃ h, let o := opOf 0x0610 h
     let s := gateState caste { state := .active, ops := [o] }
     takeOp 0x0610 (s.qp 0 15).ops = some (o, []) ∧
      s.gateEntry 0 o = .ok ({ number := 5, caste, level := 2, slots := [] }, capOf gate9, none) ∧ s.enabled 0 = true ∧
      s.bestCell .ledger false = none :=
  ⟨h, by simp only [State.qp, State.inst, gateState, qpAs, tget, tfind, opOf]; rfl, gate_entry _ _ _ h hu hl
  , by simp only [State.enabled, State.inst, gateState, qpAs, tget, tfind]; rfl, by rfl⟩

/-- A DENY_LOAD gate of the Ledger, and one of another caste. -/
theorem witness_FareCommands_gate (caste : Nat) : ∃ h, let o := opOf 0x0610 h
     let s := gateState caste { state := .active, ops := [o] }
     takeOp 0x0610 (s.qp 0 15).ops = some (o, []) ∧
      s.gateEntry 0 o = .ok ({ number := 5, caste, level := 2, slots := [] }, capOf gate9, none) ∧ s.enabled 0 = true ∧
      s.bestCell .ledger false = none :=
  let ⟨hu, hl⟩ := handleOf_parts gate9
  sealed_denyLoad caste _ hu hl

/-! #### 09 Cartridges -/

/-- `up` with slot 3 so. -/
def cartUp (c : CartSlot) : State := { up with cart := [(3, c)] }

/-- A valid label of tenant 1. -/
def label1 : List Byte := labelBytes 1 7 32 0 32 65536

theorem witness_CartridgeSlots_label : labelOk label1 65568 = true := by
  have hc (l : List Byte) : blockOk (blockOf l) = true := by
    have h5 : ((l ++ List.replicate 508 0).take 508).length = 508 := by
      rw [List.length_take, List.length_append, List.length_replicate]; omega
    have hl : crc32 ((l ++ List.replicate 508 0).take 508) < 2 ^ 32 := BitVec.isLt _
    have hn (n : Nat) (h : n < 2 ^ 32) : leNat (toLe 4 n) = n := by
      simp only [toLe, leNat, BitVec.toNat_ofNat]; omega
    have h4 (n : Nat) : (toLe 4 n).length = 4 := by simp [toLe]
    unfold blockOk blockOf
    simp only [List.length_append, h5, h4, slice, List.drop_append_of_le_length (Nat.le_of_eq h5.symm), List.take_append_of_le_length
      (Nat.le_of_eq h5.symm), List.drop_of_length_le (Nat.le_of_eq h5), List.nil_append, List.take_of_length_le (Nat.le_of_eq (h4 _))
      , List.take_of_length_le (Nat.le_of_eq h5), hn _ hl, beq_self_eq_true, Bool.and_self]
  have hr : (slice label1 0 5 == [0x4F, 0x4C, 0x4B, 0x43, 1] && Machine.zeros label1 5 8 && Machine.zeros label1 10 12 && Machine.zeros label1 36 508 &&
    decide (1 ≤ bf label1 8 2 ∧ bf label1 8 2 ≤ 31) && bf label1 12 8 != 0 && decide (32 ≤ bf label1 20 4) &&
    decide (bf label1 20 4 + bf label1 24 4 ≤ bf label1 28 4) && decide (65536 ≤ bf label1 32 4) &&
    decide (bf label1 28 4 + bf label1 32 4 ≤ 65568)) = true := by decide +kernel
  have hb : blockOk label1 = true := hc _
  simp only [Bool.and_eq_true] at hr
  unfold labelOk
  simp only [hb, hr, Bool.and_self]

theorem witness_CartridgeSlots :
    (cartUp {}).cartSlot 3 = {} ∧
    (let s := cartUp { cdHigh := false }
     s.lcy.powerGood = true ∧ (s.cartSlot 3).state = .empty ∧ (s.cartSlot 3).cdSince + 50000000 ≤ (s.tick 50000000).now ∧
      (s.tick 49999999).now < (s.cartSlot 3).cdSince + 50000000) ∧
    (let s := cartUp { state := .ready }
     (s.cartSlot 3).cdHigh = true ∧ (s.cartSlot 3).cdSince + 1000000 ≤ (s.tick 1000000).now) ∧
    (let s := cartUp { state := .init, cycling := true, cycleEnds := 50000000 }
     (s.cartSlot 3).cycling = true ∧ (s.cartSlot 3).cycleEnds ≤ (s.tick 50000000).now) ∧
    (let s (k : Nat) := cartUp { state := .init, step := k, lockedNow := true, capacity := 65568, failedOnce := true }
     ((s 3).cartSlot 3).state = .init ∧ ((s 3).cartSlot 3).cycling = false ∧ (0x1AA : Word).toNat = 0x1AA ∧
      ((s 7).cartSlot 3).failedOnce = true ∧ ((cartUp { state := .init, step := 7 }).cartSlot 3).failedOnce = false ∧
      ((s 9).cartSlot 3).lockedNow = true ∧ tfind (s 9).cfg.carts 3 = none ∧ labelOk [] ((s 12).cartSlot 3).capacity = false ∧
      ((s 12).cartSlot 3).capacity = 65568 ∧ bf label1 8 2 = 1 ∧
      ((s 16).cartSlot 3).highest + 1 ≤ 0 + 65536) ∧
    (let r : JRec := { bytes := zb 128, tenant := 1, rseq := 1, lane := 127, slot := none, cart := .waiting, cartSlot := some 3 }
     let s : State := { cartUp { state := .ready, queue := [0] } with fare := { records := [(0, r)] } }
     (s.cartSlot 3).queue = [0] ∧ s.jrec 0 = some r ∧ (s.cartSlot 3).writing = none) ∧
    (let b : CartBlock := { serial := 1, bytes := [], recs := [], lastRseq := 1, lastSeal := [] }
     let s (again : Bool) := cartUp { state := .ready, writing := some { b with again } }
     ((s false).cartSlot 3).writing = some b ∧ (s false).devN 0x0703 = 1 ∧ ((s true).cartSlot 3).writing = some { b with again := true } ∧
      b.started + 500000000 ≤ ((s true).tick 500000000).now ∧ ((s true).tick 499999999).now < b.started + 500000000 ∧
      ((cartUp { state := .ready, rewrite := some b }).cartSlot 3).rewrite = some b) ∧
    ((cartUp { state := .erasing }).cartSlot 3).state = .erasing := by decide +kernel

theorem witness_CartridgeCommands :
    [0, 1, 31, 32].all (fun n => runsOn upMan (.cartBind 0 0 {}) [3, n, 0, 0, 0, 0]) = true ∧ argHandle [3, 1, 0, 0, 0, 0] 3 = 0 ∧
    upMan.boundElsewhere 3 1 = false ∧
    (let s : State := { upMan with man := { upMan.man with pages := [(0, { carts := [(0, { tenant := 1, pwd := none })] })] } }
     runsOn s (.cartBind 0 0 {}) [3, 1, 0, 0, 0, 0] = true ∧ s.boundElsewhere 3 1 = true) ∧
    runsOn up (.cartStatus 0 0 {}) [3] = true ∧ up.cartMine 0 3 = true ∧ runsOn up (.cartStatus 0 1 {}) [3] = true ∧
    up.cartMine 1 3 = false ∧ runsOn up (.cartEject 0 1 {}) [3] = true ∧ runsOn up (.cartEject 0 0 {}) [3] = true ∧
    runsOn up (.cartJournalRead 0 1 {}) [3, 0, 0, 512, 1, 0] = true ∧ runsOn up (.cartJournalMark 0 1 {}) [3, 0, 0] = true ∧
    runsOn up (.cartDataList 0 1 {}) [3, 0, 0, 8192] = true ∧
    (let s := withIo (cartUp { state := .ready, highest := 5 })
     let io : HostIo := { card := some [] }
     s.cartMine 0 3 = true ∧ (s.cartSlot 3).state = .ready ∧ runsOn s (.cartJournalRead 0 0 io) [3, 0, 0, 512, 1, 0] = true ∧
      runsOn s (.cartJournalRead 0 0 io) [3, 0, 0, 511, 1, 0] = true ∧ readLen 511 = false ∧ readLen 512 = true ∧
      (match (s.tick 0).hostWrite 0 0 (zb 512) none with | (st, _) => st) = 0 ∧
      runsOn s (.cartJournalMark 0 0 {}) [3, 5, 0] = true ∧ runsOn s (.cartJournalMark 0 0 {}) [3, 6, 0] = true ∧
      runsOn s (.cartDataList 0 0 io) [3, 0, 0, 8192] = true ∧ runsOn s (.cartDataList 0 0 io) [3, 0, 0, 8191] = true ∧
      (match (s.tick 0).hostWrite 0 0 (zb 8192) none with | (st, _) => st) = 0 ∧ runsOn s (.cartEject 0 0 {}) [3] = true) ∧
    (let s : State := { cartUp { state := .ready } with man := upMan.man }
     runsOn s (.cartDataStage 0 0 { card := some [] }) [3, 63] = true ∧ (s.openMan 0).isSome = true ∧
      (match s.dirCheck 1 0 63 0 (zb 8192) [] with | .error st => st == 0x0705 | .ok _ => false) = true) ∧
    (∀ c ∈ [CartState.locked, .unformatted, .foreign, .failed], runsOn (cartUp { state := c }) (.cartEject 0 0 {}) [3] = true) ∧
    (let s (capacity : Nat) : State := { cartUp { capacity } with man := upMan.man }
     runsOn (s 0) (.cartFormat 0 0 {}) [3, 0, 65536, 0, 0] = true ∧ runsOn (s 65567) (.cartFormat 0 0 {}) [3, 0, 65536, 1, 0] = true ∧
      ((s 65567).cartSlot 3).capacity < 32 + 0 + 65536 ∧ runsOn (s 65568) (.cartFormat 0 0 {}) [3, 0, 65536, 1, 0] = true ∧
      32 + 0 + 65536 ≤ ((s 65568).cartSlot 3).capacity) ∧
    runsOn upMan (.cartForceErase 0 0 {}) [3] = true := by decide +kernel

/-! #### 10 Time -/

/-- Shadow 1 so, its domain 4 on E2 with transport 2. -/
def timUp (h : Shadow) : State :=
  { up with tim := { shadows := [(1, h)] }
            man := { pages := [(0, { domains := [(1, { enable := true, port := 2, domain := 4, transport := 2, profile := 0 })] })] } }

/-- A master of clock 7. -/
def master7 : MasterData := { source := { clock := 7, port := 1 } }

theorem witness_TimeEngine_messages :
    ((timUp {}).shadow 1).state = .disabled ∧
    (let s := timUp { state := .acquiring, master := some master7 }
     let m : PtpMsg := { domain := 4, data := master7 }
     (s.shadow 1).tracks = true ∧ (s.shadow 1).fromMaster m = true ∧ -7 ≤ m.logInterval ∧ m.logInterval ≤ 1 ∧ m.twoStep = false ∧
      (tfind s.cfg.domains 1).map (·.domain) = some m.domain ∧ (tfind s.cfg.domains 1).map (·.domain) ≠ some 127 ∧
      ({ m with twoStep := true } : PtpMsg).twoStep = true ∧ (s.shadow 1).fromMaster { m with data := {} } = false ∧
      (s.shadow 1).pendingSync = none) ∧
    (let s := timUp { state := .refused, master := some master7, pendingSync := some (65535, 0, 9), delayReq := some (65535, some 3) }
     let m : PtpMsg := { domain := 4, seq := 65535, data := master7, requesting := { clock := BitVec.ofNat 64 s.clockId, port := 3 } }
     (s.shadow 1).pendingSync = some (m.seq, 0, 9) ∧ (s.shadow 1).delayReq = some (m.seq, some 3) ∧
      m.requesting = { clock := BitVec.ofNat 64 s.clockId, port := 2 + 1 } ∧ (s.shadow 1).fromMaster m = true) ∧
    (let s (l : List MasterData) := timUp { state := .listening, masters := l }
     let m : PtpMsg := { domain := 4, data := master7, logInterval := 4 }
     let s1 (l : List MasterData) := ((s l).tick 0).modShadow 1 (fun h =>
       { h with masters := putMaster h.masters { m.data with logAnnounce := m.logInterval } ((s l).tick 0).now })
     ((s []).shadow 1).state = .listening ∧ (s1 []).bmca 1 = none ∧ ((s1 [master7]).bmca 1).isSome = true) := by
  decide +kernel

theorem witness_TimeEngine_offsets :
    (let h : Shadow := { state := .acquiring }
     ((timUp h).shadow 1).history = []) ∧
    (let s := timUp { state := .acquiring, history := [1], outliers := 6, within := 15 }
     within ((50000 * 65536 + 1 : Int) - (s.shadow 1).predicted) (s.devN 0x0806) = false ∧ (s.shadow 1).outliers < 7 ∧
      within ((1000 * 65536 : Int) - (s.shadow 1).predicted) (s.devN 0x0806) = true ∧ within (1000 * 65536) (s.devN 0x0804) = true ∧
      (s.shadow 1).within = 15 ∧ s.tim.timeState = 0 ∧ within (1000 * 65536 + 1) (s.devN 0x0804) = false) ∧
    (let s := timUp { state := .refused, value := 1000000 * 65536 }
     (s.shadow 1).state = .refused ∧ within (s.residual 1) (s.devN 0x0803) = true ∧
      within ((timUp { state := .refused, value := 1000000 * 65536 + 1 }).residual 1) (s.devN 0x0803) = false) := by decide +kernel

theorem witness_TimeEngine_timers :
    (let s : State := { timUp {} with tim := { shadows := [(0, { state := .locked })], following := .shadow 1 } }
     s.devN 0x0801 = 0 ∧ (s.shadow 0).state = .locked ∧ s.tim.following = .shadow (1 - s.devN 0x0801)) ∧
    (up.shadow (up.devN 0x0801)).state ≠ .locked ∧ up.tim.slewing = false ∧
    (let s : State := { up with tim := { slewing := true, following := .shadow 1 } }
     s.tim.slewing = true ∧ s.tim.following = .shadow 1) ∧
    (let s : State := { up with tim := { following := .holdover } }
     s.tim.following = .holdover ∧ s.tim.holdAlarm = false ∧ up.tim.following ≠ .holdover) ∧
    (let c : MasterCfg :=
       { enable := true, domain := 9, transport := 2, profile := 0, oneStep := true, logSync := 0, logAnnounce := 0, priority1 := 0, priority2 := 0 }
     let s : State := { up with man := { pages := [(0, { masters := [(3, c)] })] } }
     s.masterCfg 3 = some c ∧ s.masterCfg 2 = none ∧ ({ domain := 9 } : PtpMsg).domain = c.domain) ∧
    (let s (v : Nat) : State := { up with tim := { cmps := [(2, { armed := true })], ppsOut1 := true }, man := { pages := [(0, { params := [(0x0808, BitVec.ofNat 64 v)] })] } }
     ((s 1).cmp 2).armed = true ∧ (s 1).devN 0x0808 = 1 ∧ (s 0).devN 0x0808 = 0 ∧ ((s 0).cmp 3).armed = false ∧
      (s 0).tim.ppsOut1 = true ∧ (s 0).tim.ppsOut0 = false) ∧
    (let s : State := { up with tim := { ppsIn := some (5, 0) } }
     s.tim.ppsIn = some (5, 0) ∧ (s.tick 99999999).now < 0 + 100000000 ∧ 0 + 100000000 ≤ (s.tick 100000000).now) ∧
    up.enabled 32 = true := by decide +kernel

theorem witness_TimeCommands :
    runsOn up (.timeStatus 0 0 {}) [] = true ∧
    (let s := timUp { state := .locked, master := some master7 }
     runsOn s (.timeShadowStatus 0 0 {}) [1] = true ∧ (s.shadow 1).master = some master7) ∧
    (∀ n ∈ [(0x2001 : Nat), 0x3001], runsOn upMan (.timeDomainSet 0 0 {}) [wd n] = true ∧
      runsOn upMan (.timeMasterSet 0 0 {}) [wd n, 0x04F9] = true) ∧
    fld (wd 0x2001) 13 12 ≠ 3 ∧ fld (wd 0x3001) 13 12 = 3 ∧
    -7 ≤ sgn 8 (fld (0x04F9 : Word) 7 0) ∧ sgn 8 (fld (0x04F9 : Word) 15 8) ≤ 4 ∧
    (let s := timUp { state := .refused }
     runsOn s (.timeJumpAccept 0 0 {}) [1] = true ∧ (s.shadow 1).state = .refused ∧ runsOn s (.timeJumpAccept 0 0 {}) [0] = true ∧
      (s.shadow 0).state ≠ .refused) ∧
    (∀ w ∈ [(3 : Nat), 4, 0x10F], runsOn up (.timeCmpSet 0 0 {}) [wd w, 0, 999999999, 0] = true) ∧
    runsOn up (.timeCmpSet 0 0 {}) [4, 0, 1000000000, 0] = true ∧ (1000000000 : Word).toNat = 1000000000 ∧
    runsOn up (.timeCmpStatus 0 0 {}) [15] = true ∧
    (let s : State := { up with tim := { ppsIn := some (5, 0) } }
     runsOn s (.timePpsInGet 0 0 {}) [] = true ∧ s.tim.ppsIn = some (5, 0)) := by decide +kernel

/-! #### 11 Audio -/

/-- A receive stream of one channel of L16, its link offset 8. -/
def rx1 : RxCfg :=
  { enable := true, adaptive := false, encoding := 0, channels := 1, packetTime := 0, payloadType := 96, linkOffset := 8, portA := 0
    portB := some 1, groupA := 0, groupB := 0, udpA := 0, udpB := 0, source := 0, rtpOffset := 0 }

/-- Stream 31 so. -/
def audUp (x : RxStream) (c : RxCfg := rx1) : State :=
  { up with aud := { rx := [(31, x)] }, man := { pages := [(0, { rx := [(31, c)] })] } }

/-- An RTP packet of SSRC 5 and 6 samples. -/
def rtp1 : List Byte := [0x80, 96, 0, 1, 0, 0, 0, 24, 0, 0, 0, 5] ++ zb 12

theorem witness_AudioEngine_packets :
    tfind (audUp {}).audCfg.rx 30 = none ∧ tfind (audUp {}).audCfg.rx 31 = some rx1 ∧ rx1.portB.isSome = true ∧ rtpParse [] = none ∧
    rtpParse rtp1 = some (96, 1, 24, 5, zb 12) ∧ 96 = rx1.payloadType ∧ (zb 12).length = rx1.payload (audUp {}).khz ∧
    ({ rx1 with payloadType := 97 } : RxCfg).payloadType ≠ 96 := by decide +kernel

theorem witness_AudioEngine_legs :
    (let s := audUp { legB := { state := .running, ssrc := some 6 } }
     ((s.rxs 31).leg 1).ssrc = some 6 ∧ (6 : Word) ≠ 5 ∧ ((s.rxs 31).leg 0).ssrc = none ∧ ((s.rxs 31).leg 1).state = .running ∧
      ((s.rxs 31).leg 0).state ≠ .running) ∧
    (let s := audUp { buf := [(0, { samples := [], leg := 1, at_ := 0 })] }
     let d (stamp : Nat) : Int := sgn 32 (stamp + 2 ^ 32 - s.playPoint rx1)
     d (2 ^ 32 - 25) = 23 ∧ d (2 ^ 32 - 24) = 24 ∧ s.khz / 2 = 24 ∧ d 7 = 55 ∧ d 6 = 54 ∧ rx1.perPacket s.khz = 6 ∧ rx1.offsetSamples s.khz = 48 ∧
      (tfind (s.rxs 31).buf 0).map (·.leg) = some 1 ∧ tfind (s.rxs 31).buf 6 = none) := by decide +kernel

theorem witness_AudioEngine_blocks :
    (let c : RxCfg := { rx1 with adaptive := true }
     let s := audUp { play := some 0, buf := (List.range 6).map (fun n => (n, { samples := [0], leg := 0, at_ := 0 })) } c
     tfind s.audCfg.rx 31 = some c ∧ (s.rxs 31).play = some 0 ∧ c.perPacket s.khz ≤ (s.rxs 31).buf.length ∧
      (s.rxs 31).buf.length ≤ c.offsetSamples s.khz) ∧
    State.reset.lcy.powerGood = false ∧ up.lcy.powerGood = true ∧ up.aud.stepDue = 0 ∧
    (let s : State := { up with aud := { stepDue := 1 } }
     s.aud.stepDue ≠ 0 ∧ s.aud.stepAt ≠ (s.tick (max 5 s.blockTime)).now) ∧
    (∀ a ∈ (tget up.aud.buses 5 {} : BusState).duck, a ≤ up.devN 0x0903 * 1000) ∧
    (let p : Prompt := { source := 127, tenant := 0, prompt := 1, frame := 5, stamp := 0, clip := [1] }
     let s : State := { up with aud := { prompts := [(0, p), (1, { p with started := true })] } }
     tfind s.aud.prompts 0 = some p ∧ tfind s.aud.prompts 1 = some { p with started := true }) ∧
    up.cfg.clip 0 (up.devN 0x090B) = none ∧
    (let s : State := { up with lane := { emg := true }
                                man := { pages := [(0, { params := [(0x090B, 1)], clips := [(0, [{ prompt := 1, samples := [5] }])]
                                                         buses := [(9, [{ kind := 3, priority := 0, gain := 0, index := 127 }])] })] } }
     s.cfg.clip 0 (s.devN 0x090B) = some [5] ∧ s.lane.emg = true ∧ s.audCfg.laneSources = [127] ∧ s.aud.prompts = []) := by decide +kernel

/-- A clip set of the PF with one clip of one sample. -/
def clips0 : List Byte := [0x50, 0x43, 0x53, 0x31, 1, 0, 0, 1, 0, 0, 0, 0, 0, 0, 0, 1, 0, 1, 0, 0, 0, 0, 0, 28, 0, 0, 0, 1, 0, 0]

theorem witness_AudioCommands :
    [0x10F1, 0x1007, 0x1008, 0x10A0, 0x10A1].all (fun v => runsOn upMan (.audRxSet 0 0 {}) [0x0180093F, v, 0, 0, 0, 0, 0]) = true ∧
    fld (0x0180093F : Word) 14 11 = 1 ∧ fld (0x0180093F : Word) 24 18 = 96 ∧ fld (0x10A0 : Word) 7 0 = 160 ∧ fld (0x10A0 : Word) 15 12 = 1 ∧
    runsOn upMan (.audTxSet 0 0 {}) [0x0180093F, 0x10001, 0, 0, 0, 0] = true ∧ upMan.stagedRate 0 = 48 ∧
    1 * (2 + 0) * packetSamples 48 0 ≤ 1440 ∧ runsOn upMan (.audTxSet 0 0 {}) [0x017C093F, 0x10001, 0, 0, 0, 0] = true ∧
    fld (0x017C093F : Word) 24 18 = 95 ∧
    runsOn upMan (.audBusSet 0 0 {}) [0x8000, 0, 0x100000FF, 0x3000007F, 0x40000003] = true ∧
    (∀ x ∈ [0, 0x100000FF, 0x3000007F, 0x40000003].map sourceOf, x.kind ≤ 4 ∧ x.gain ≤ 216 ∧ indexOk x 48 = true) ∧
    runsOn upMan (.audBusSet 0 0 {}) [0x80, 0, 0, 0, 0] = true ∧ fld (0x80 : Word) 8 7 ≠ 0 ∧
    runsOn upMan (.audTdmSet 0 0 {}) [0x307] = true ∧
    (let s := withIo upMan
     [27, 28, 30].all (fun n => runsOn s (.audPromptLoad 0 0 {}) [0, 0, n]) = true ∧ clipLen 27 = false ∧ clipLen 30 = true ∧
      hostReads s 30 = true ∧ (s.openMan 0).isSome = true ∧ clipSetOk clips0 0 = true ∧ s.topClips 0 < beNat (slice clips0 12 4) ∧
      clipSetOk (zb 30) 0 = false) ∧
    (let s : State := { up with man := { pages := [(0, { clips := [(0, [{ prompt := 65534, samples := [5] }])] })] } }
     [999999999, 1000000000].all (fun n => runsOn s (.audPlay 0 0 {}) [0xFFFE0003, 1, n]) = true ∧ s.cfg.clip 0 65534 = some [5] ∧
      runsOn up (.audPlay 0 0 {}) [0xFFFE0003, 1, 0] = true ∧ up.cfg.clip 0 65534 = none) ∧
    (runsOn (audUp {}) (.audStreamStatus 0 0 {}) [31] = true ∧
      (let s : State := { up with man := { pages := [(0, { params := [(0x0901, 96)] })] } }
       runsOn s (.audStreamStatus 0 0 {}) [32] = true ∧ s.khz = 96)) ∧
    runsOn up (.audStatus 0 0 {}) [] = true := by decide +kernel

/-! #### 12 Network -/

/-- Port 3 enabled, its default action to a port. -/
def port3 (dest : Byte) : NetPortCfg :=
  { enable := true, mode := 0, speed := 0, autoneg := false, txDelay := false, rxDelay := false, promiscuous := true, malformedToPf := false
    dest, qos := 0 }

def netUp (c : NetPortCfg) (p : Port := { link := true }) : State :=
  { up with net := { ports := [(3, p)] }, man := { pages := [(0, { ports := [(3, c)] })] } }

/-- A frame of 60 bytes of an EtherType. -/
def frame60 (hi lo : Byte) : List Byte := zb 12 ++ [hi, lo] ++ zb 46

theorem witness_Ethernet_received :
    tfind up.cfg.ports 3 = none ∧ ({ port3 0 with enable := false } : NetPortCfg).enable = false ∧ tfind (netUp (port3 2)).cfg.ports 3 = some (port3 2) ∧
    ((netUp (port3 2) {}).port 3).link = false ∧ ((netUp (port3 2)).port 3).link = true ∧ (zb 59).length < 60 ∧ 2044 < (zb 2045).length ∧
    (frame60 0x88 8).length = 60 ∧ (netUp (port3 2)).macFilter 3 { port3 2 with promiscuous := false } (zb 60) = false ∧
    (netUp (port3 2)).macFilter 3 (port3 2) (zb 60) = true ∧ be16 (frame60 0x88 8) 12 = 0x8808 ∧ be16 (frame60 8 0) 12 ≠ 0x8808 ∧
    malformedCause (frame60 8 0) (parseFrame (frame60 8 0)) = some 1 ∧
    malformedCause (frame60 0x12 0x34) (parseFrame (frame60 0x12 0x34)) = none ∧
    (netUp (port3 2)).decideFrame 3 (port3 2) (frame60 0x12 0x34) (parseFrame (frame60 0x12 0x34)) = (0xFFFF, 2, 0) ∧ nbit 2 0 = false ∧
    (List.range 4).filter (fun n => nbit 2 (n + 1) && n ≠ 3) = [0] ∧ (List.range 4).filter (fun n => nbit 16 (n + 1) && n ≠ 3) = [] := by
  decide +kernel

theorem witness_Ethernet_queues :
    (let c (units : Nat) : Copy := { bytes := frame60 0x12 0x34, origin := .pf, cls := 0, colour := 0, units, cfg := 0 }
     let s (n : Nat) := netUp (port3 2) { link := true, queues := [(15, [c n])] }
     copyUnits 60 ≤ (s 2047).freeUnits 0 ∧ sumOf ([c 2047].map (·.units)) + copyUnits 60 ≤ ((s 2047).cfg.queue 3 15).threshold 0 ∧
      ¬ sumOf ([c 2048].map (·.units)) + copyUnits 60 ≤ ((s 2048).cfg.queue 3 15).threshold 0 ∧ (s 1).linkUp 3 = true ∧
      up.linkUp 3 = false ∧ tget ((s 1).port 3).queues 15 [] = [c 1] ∧ (s 1).egress 3 (c 1) = some (frame60 0x12 0x34) ∧ (c 1).oneStep = false ∧
      (c 1).for_ = .nothing ∧ (∀ q, q < 16 → tget ((netUp (port3 2)).port 3).queues q [] = []) ∧ (s 1).counter 12 3 14 ≤ statMax ∧
      (let s : State := { up with net := { stewardIn := [(3, zb 60)] } }
       s.mbx.state = .serving ∧ s.net.stewardIn = (3, zb 60) :: []) ∧ up.net.stewardIn = []) ∧
    (let o (w len : Nat) : SqOp := { opOf 0x0A08 0 with params := [wd w], dataLen := len }
     let s (w len : Nat) : State := withIo { qpAs { state := .active, ops := [o w len] } with man := { pages := [(0, { ports := [(3, port3 2)] })] } }
     takeOp 0x0A08 [o 8 60] = some (o 8 60, []) ∧ onesOf 4 (fld ((o 0 60).params.getD 0 0) 3 0) = [] ∧ (o 8 59).dataLen < 60 ∧
      2044 < (o 8 2045).dataLen ∧ fld ((o 0x308 60).params.getD 0 0) 9 8 = 3 ∧ onesOf 4 (fld ((o 8 60).params.getD 0 0) 3 0) = [3] ∧
      tfind (s 8 60).cfg.ports 3 = some (port3 2) ∧ bit ((o 8 60).params.getD 0 0) 15 = false ∧ hostReads (s 8 60) 60 = true) ∧
    (let o (n : Nat) : SqOp := { opOf 0x0A09 0 with resLen := n }
     takeOp 0x0A09 ((qpAs { state := .active, ops := [o 2047] }).qp 0 15).ops = some (o 2047, []) ∧ (o 2047).resLen < 2048 ∧ 2048 ≤ (o 2048).resLen) := by
  decide +kernel

theorem witness_NetworkCommands :
    [0x3C7, 0x307].all (fun w => runsOn upMan (.netPortSet 0 0 {}) [w, 2]) = true ∧ fld (0x3C7 : Word) 7 6 = 3 ∧ fld (0x307 : Word) 7 6 ≠ 3 ∧
    [0x0FFF0003, 0x0FFE0003].all (fun w => runsOn upMan (.netIfSet 0 0 {}) [w, 0, 0, 0, 32, 0, 0, 0, 0]) = true ∧
    fld (0x0FFF0003 : Word) 27 16 = 4095 ∧ fld (0x0FFE0003 : Word) 27 16 ≠ 4095 ∧ fld (32 : Word) 5 0 ≤ 32 ∧
    (let s := withIo upMan
     let a (len x : Word) : List Word := [0, 0, len, x]
     [a 63 0, a 64 0x07FF0000, a 128 0x07FF0000, a 48 0x03FF0001].all (fun a =>
       runsOn s (.netRuleWrite 0 0 {}) a && runsOn s (.netRuleRead 0 0 {}) a) = true ∧
      63 % ruleSize false ≠ 0 ∧ 64 % ruleSize false = 0 ∧ 2047 + 64 / 64 ≤ ruleCount false ∧ ruleCount false < 2047 + 128 / 64 ∧
      1023 + 48 / 48 ≤ ruleCount true ∧ hostReads s 64 = true ∧ (s.openMan 0).isSome = true ∧
      (chunks 64 1 (zb 64)).all ingressFormat = true ∧ (chunks 64 1 (List.replicate 64 0xFF)).all ingressFormat = false ∧
      (match (s.tick 0).hostWrite 0 0 (zb 64) none with | (st, _) => st) = 0 ∧
      [a 8 0x07FF0000, a 7 0].all (fun a => runsOn s (.netRuleHits 0 0 {}) a) = true ∧ 2047 + 8 / 8 ≤ ruleCount false ∧
      (match (s.tick 0).hostWrite 0 0 (zb 8) none with | (st, _) => st) = 0) ∧
    [0xF3, 0x1F3, 0x40F3, 0x41F3].all (fun w => runsOn upMan (.netQueueSet 0 0 {}) [w, 2048, 1024, 256]) = true ∧
    fld (0xF3 : Word) 15 8 = 0 ∧ fld (0x40F3 : Word) 15 8 = 64 ∧ fld (0x41F3 : Word) 15 8 = 65 ∧
    runsOn (netUp (port3 2)) (.netPortStatus 0 0 {}) [3] = true := by decide +kernel

/-! #### 14 Islands -/

/-- Island n so. -/
def islUp (n : Nat) (i : Island) : State := { up with isl := { islands := [(n, i)] } }

theorem witness_Islands_loops :
    (let s (i : Island) := islUp 95 i
     let low := up.devN 0x0CC3
     let high := up.devN 0x0CC4
     (s {}).islandPresent 95 = true ∧ (s {}).islandPresent 107 = true ∧ ((s {}).island 95).state ≠ .run ∧
      ({ s {} with lcy := { (s {}).lcy with dies := 3 } } : State).islandPresent 95 = false ∧
      (s { state := .run, fcode := 57 }).islandCap 95 < 57 ∧ (s { state := .run, fcode := 56 }).islandCap 95 = 56 ∧
      min 255 159 < low ∧ low ≤ min 255 160 ∧ high < min 255 201 ∧ min 255 200 ≤ high ∧ (islandRange 95).1 = 16) ∧
    (let i : Island := { state := .run }
     let s : State := { islUp 95 i with sea := { cells := [(767, { state := .available })] } }
     clusterOf 767 = 95 ∧ (s.cell 767).state = .available ∧ (s.island 95).state = .run) ∧
    (let s := islUp 95 { state := .heldHot }
     s.islandPresent 95 = true ∧ (s.island 95).state ≠ .absent ∧ (99 : Int) < s.dev 0x0CC5 ∧ (112 : Int) ≤ 112) ∧
    (let s := islUp 95 { isolated := true, resetAt := 0 }
     (s.island 95).state = .reset ∧ (s.island 95).isolated = true ∧ (s.island 95).resetAt + 50000 ≤ (s.tick 50000).now) ∧
    (let s : State := { islUp 95 { state := .run } with sea := { l2Check := [95] } }
     s.sea.l2Check.contains 95 = true ∧ s.sea.l2Check.contains 94 = false) ∧
    (let s := islUp 107 { state := .run, frozen := some 5 }
     s.freezeEnd 0 107 = some 5 ∧ 5 ≤ (s.tick 5).now ∧ (s.tick 4).now < 5) := by decide +kernel

/-- Link 3 so. -/
def linkUp3 (l : DieLink) : State := { up with isl := { links := [(3, l)] } }

theorem witness_Islands_links :
    (let d : LinkDir := { failures := 2, flits := 2 ^ 40 }
     let s := linkUp3 { state := .up, toHub := d, fromHub := { d with failures := 3, flits := 2 ^ 40 - 1 } }
     3 < s.lcy.dies ∧ (s.link 3).state = .up ∧ ((s.link 3).dir 0).failures < 3 ∧ 3 ≤ ((s.link 3).dir 1).failures ∧
      2 ^ 40 ≤ ((s.link 3).dir 0).flits ∧ ((s.link 3).dir 1).flits < 2 ^ 40 ∧ (up.link 3).state ≠ .up) ∧
    ((linkUp3 { state := .training }).link 3).state = .training ∧
    (let leak (s : State) (c : Nat) : Int := (tget (s.link 3).toHub.chans c {} : Chan).leaked (chanSize c)
     let s := linkUp3 { auditing := true }
     let s1 := linkUp3 { auditing := true, toHub := { chans := [(3, { free := 33 })] } }
     (s.link 3).auditing = true ∧ (∀ c, c < 4 → 0 ≤ leak s c) ∧ leak s1 3 < 0 ∧ (up.link 3).auditing = false) ∧
    up.isl.ddrFrozen = none ∧ (∀ x ∈ [(0 : Int), -47, 47, 5].map (fun x => max (-64) (min 64 x)), x.natAbs < 48) ∧
    (∃ x ∈ [(0 : Int), -48, 47, 5].map (fun x => max (-64) (min 64 x)), 48 ≤ x.natAbs) := by decide +kernel

theorem witness_IslandCommands :
    [108, 107, 95].all (fun n => runsOn up (.islStatus 0 0 {}) [n]) = true ∧
    (let s : State := { up with lcy := { up.lcy with dies := 3 } }
     runsOn s (.islStatus 0 0 {}) [95] = true ∧ s.islandPresent 95 = false ∧ runsOn s (.islLinkStatus 0 0 {}) [3] = true ∧ s.lcy.dies ≤ 3) ∧
    (let s := linkUp3 { state := .up }
     runsOn s (.islLinkStatus 0 0 {}) [3] = true ∧ (s.link 3).state = .up) ∧
    (let s := islUp 107 { state := .run, frozen := some 5000000000 }
     [0x16B00, 0x06B00].all (fun w => runsOn s (.islLoopFreeze 0 0 {}) [w, 3600]) = true ∧ s.loopStatus 0 107 = none ∧
      [0, 1, 3601].all (fun n => runsOn s (.islLoopFreeze 0 0 {}) [0x16B00, n]) = true ∧
      runsOn s (.islLoopFreeze 0 0 {}) [0x16C00, 1] = true ∧ s.loopStatus 0 108 = some 0x0012 ∧
      runsOn s (.islLoopStatus 0 0 {}) [0x6C00] = true ∧ runsOn s (.islLoopStatus 0 0 {}) [0x6B00] = true ∧
      (s.island 107).frozen = some 5000000000) ∧
    (let s : State := { up with tim := { following := .shadow 1 } }
     runsOn s (.islLoopFreeze 0 0 {}) [0x10104, 3600] = true ∧ s.loopStatus 4 1 = none ∧ s.tim.following = .shadow 1 ∧
      (up.tim.following ≠ .shadow 1)) ∧
    runsOn up (.islReset 0 0 {}) [96] = true ∧ runsOn up (.islReset 0 0 {}) [95] = true ∧ (up.island 95).state ≠ .run ∧
    (let s := islUp 95 { state := .run }
     runsOn s (.islReset 0 0 {}) [95] = true ∧ s.clusterIdle 95 = true) ∧
    (let s : State := { islUp 95 { state := .run } with sea := { cells := [(767, { state := .available, work := [.session 5] })] } }
     runsOn s (.islReset 0 0 {}) [95] = true ∧ s.clusterIdle 95 = false) := by decide +kernel

/-! #### 15 Security, restarts and resets -/

/-- `up` with security so, fed from VDD_HUB. -/
def secUp (x : Sec) : State := { up with sec := { x with bat := { x.bat with onBattery := false } } }

/-- A part without power. -/
def dark : State := State.reset

theorem witness_SecurityEvents :
    (let s := secUp { bat := { mask := 8 } }
     s.sec.zeroised = false ∧ s.sec.zeroising = none ∧ s.lcy.powerGood = true ∧
      (∀ n, n < 16 → n ≠ 10 ∧ n ≠ 11 ∧ n ≠ 12 → s.detRuns n = true) ∧ s.detRuns 10 = false ∧ s.detRuns 18 = false ∧
      s.detRuns 16 = true ∧ s.detRuns 17 = true ∧ s.sec.bat.mask.getLsbD 2 = false ∧ s.sec.bat.mask.getLsbD 3 = true ∧
      3 ∉ s.sec.mismatch ∧ s.sec.bat.onBattery = false ∧ s.lifecycle = 2 ∧ s.sec.nonce = none) ∧
    (let s := secUp { bat := { mask := 8 }, mismatch := [3] }
     3 ∈ s.sec.mismatch ∧ s.sec.bat.mask.getLsbD 3 = true) ∧
    (dark.lcy.powerGood = false ∧ dark.detRuns 0 = true ∧ dark.sec.bat.onBattery = true ∧ dark.sec.zeroising = none) ∧
    (let s (n : Nat) := secUp { memFails := List.replicate n 0 }
     (0 :: (s 14).sec.memFails.filter (fun x => decide (0 < x + 1000000000))).length < (s 14).devN 0x0D02 ∧
      (s 15).devN 0x0D02 ≤ (0 :: (s 15).sec.memFails.filter (fun x => decide (0 < x + 1000000000))).length) ∧
    (let s := secUp { nonce := some (5, 0) }
     s.sec.nonce = some (5, 0) ∧ 0 + 60000000000 ≤ (s.tick 60000000000).now ∧ (s.tick 59999999999).now < 0 + 60000000000 ∧
      (s.tick 0).unlockOffered = false ∧ s.unlockOk 5 [] = false) ∧
    (let s : State := { secUp { nonce := some (5, 0) } with lcy := { up.lcy with use := [(0, 0x10101)] } }
     (s.tick 0).unlockOffered = true) ∧
    ({ up with lcy := { up.lcy with use := [(0, 0x70707)] } } : State).lifecycle = 3 := by decide +kernel

theorem witness_SecurityCommands :
    runsOn up (.secStatus 0 0 {}) [] = true ∧
    (let r : SecRec := { seq := 7, cls := 1, source := 0, onBattery := false, timeValid := false, sec := 0, ns := 0 }
     let s := secUp { bat := { log := [r] } }
     [7, 8].all (fun n => runsOn s (.secLogRead 0 0 {}) [n]) = true ∧ s.sec.bat.log.find? (fun r => r.seq == (arg [(7 : Word)] 1).toNat) = some r ∧
      (∀ r ∈ s.sec.bat.log, r.seq ≠ 8)) ∧
    [7663, 7664].all (fun n => runsOn up (.secCertGet 0 0 {}) [0, 0, n, 0, 0, 0, 0]) = true ∧ up.sec.duk = none ∧
    (secUp { duk := some 0 }).sec.duk = some 0 ∧
    (let s (x : Sec) : State := { withIo upMan with sec := x }
     [91, 92, 1340, 1341].all (fun n => runsOn (s {}) (.secKeyImport 0 0 {}) [0, 0, n]) = true ∧ (s { duk := some 0 }).sec.bat.bkr = none ∧
      ((s { duk := some 0, bat := { bkr := some 1 }, importUntil := [(0, 1)] }).tick 0).now < 1 ∧
      ((s { duk := some 0, bat := { bkr := some 1 } }).tick 0).importBar 0 = none ∧ hostReads (s { duk := some 0, bat := { bkr := some 1 } }) 92 = true ∧
      (s { duk := some 0 }).openEnvelope 0 (zb 92) = none) ∧
    runsOn upMan (.secLoopSet 0 0 {}) [15] = true ∧
    [0x5A45524F, 0].all (fun w => runsOn up (.secZeroise 0 0 {}) [w]) = true ∧ (0x5A45524F : Word).toNat = 0x5A45524F ∧
    runsOn up (.secReenrol 0 0 { burnt := 6 }) [] = true ∧ runsOn up (.secReenrol 0 0 {}) [] = true ∧ up.enrols < 32 ∧
    (let s : State := { up with lcy := { up.lcy with use := [(0, 0x30303), (4, 0xFFFFFFFF)] }, sec := { trngOk := true, duk := some 0 } }
     32 ≤ s.enrols ∧ s.sec.bat.bkr = none ∧ s.sec.trngOk = true ∧ s.sec.duk.isSome = true) ∧
    (secUp { bat := { bkr := some 1 } }).sec.bat.bkr.isSome = true ∧
    runsOn upMan (.secDebugArm 0 0 {}) [] = true ∧ upMan.lifecycle = 2 ∧
    (let s : State := { upMan with lcy := { up.lcy with use := [(0, 0x10101)] } }
     runsOn s (.secDebugArm 0 0 {}) [] = true ∧ s.lifecycle ≠ 2) := by decide +kernel

theorem witness_PendingCommands_tickets :
    (let c (cancelled : Bool) : PendingCmd := { tag := 0, seq := 1, code := 0x0303, args := [], cancelled }
     let s (cancelled : Bool) : State := { up with mbx := { up.mbx with tickets := [(9, c cancelled)] } }
     tfind up.mbx.tickets 9 = none ∧ tfind (s true).mbx.tickets 9 = some (c true) ∧ (s true).mbx.state = .serving ∧
      tfind (s false).mbx.tickets 9 = some (c false) ∧ (c false).code ≠ 0x0CC5 ∧ (c false).code ≠ 0x0C01) := by decide +kernel

theorem witness_RestartsAndResets :
    dark.mbx.state ≠ .serving ∧ up.mbx.state = .serving ∧ up.lcy.restartTimes.length < 3 ∧
    (let s : State := { up with mbx := { up.mbx with state := .restarting }, sec := { zeroising := some (0, 0, 0) } }
     s.mbx.state = .restarting ∧ s.lcy.warm = false ∧ s.sec.zeroising.isSome = true ∧ s.enabled 0 = true) ∧
    (let s (n : Nat) := islUp n { state := .run }
     (∀ n ∈ [96, 98, 100, 104, 107], (s n).lcy.powerGood = true ∧ ((s n).island n).state = .run) ∧ (up.island 107).state ≠ .run) ∧
    (let s : State := { up with lcy := { up.lcy with warm := true } }
     s.lcy.warm = true ∧ s.lcy.stage = 8 ∧ up.lcy.warm = false) := by decide +kernel

/-! #### 16, 17 Epochs, books and in-service test -/

theorem witness_BooksAndStatistics :
    (let e : LedgerEpoch := { number := 7 }
     let s (pending : Bool) : State := { up with stat := { ledger := [{ e with pending }] } }
     dark.mbx.state ≠ .serving ∧ (∀ e ∈ (s false).stat.ledger, e.pending = false) ∧ (s true).stat.ledger = [e] ∧ e.pending = true ∧
      e.windows = [] ∧ e.saturated = [] ∧ e.startWindows = [] ∧ runsOn (s true) (.statEpoch 0 0 {}) [] = true ∧
      runsOn up (.statEpoch 0 0 {}) [] = true ∧ up.stat.ledger = [] ∧
      [7, 8].all (fun n => runsOn (s true) (.statBooks 0 0 {}) [n]) = true ∧ (∀ e ∈ (s true).stat.ledger, e.number ≠ 8)) ∧
    (let s (period : Nat) : State := { up with tim := { cmps := [(15, { armed := true, period })] } }
     ((s 65535).tick 0 |>.cmp 15).armed = true ∧ ((s 65535).tick 0).hasReached 0 0 = true ∧ ((s 0).tick 0 |>.cmp 15).period = 0 ∧
      (up.cmp 15).armed = false) ∧
    (let a (g bank first want len : Nat) : List Word := [0, 0, wd len, wd (g + 256 * bank + 65536 * first), wd want]
     let s := withIo up
     [a 14 3 0 0 24, a 14 0 0 0 23, a 14 0 0 0 16, a 18 0 0 1 24, a 14 0 3071 2 24, a 14 1 3071 1 24, a 14 0 3071 1 24].all (fun a =>
       runsOn s (.statRead 0 0 {}) a) = true ∧ groupShape 18 = none ∧ groupShape 14 = some (3072, 1) ∧ up.stat.ledger[0]? = none ∧
      (match (s.tick 0).hostWrite 0 0 (zb 24) none with | (st, _) => st) = 0) := by decide +kernel

/-- Cell 767, and a Sentinel cell 0. -/
def testUp (c : Cell) (x : TestSt) : State :=
  { up with sea := { cells := [(0, { state := .available, caste := .sentinel }), (767, c)] }, test := x }

theorem witness_TestEngine_cells :
    (let r : TestReq := { ticket := none, drain := true, until_ := 2000000000, marked := true }
     let s := testUp { state := .available } { reqs := [(767, r)] }
     formedB s = true ∧ s.lendable 767 0 = true ∧ s.lendable 767 767 = false ∧ s.cellIdle 767 = true ∧ s.testLoad < s.devN 0x0C03 ∧
      tmem s.test.reqs (testKey 0 767) = true ∧ tfind s.test.reqs (testKey 0 767) = some r ∧ s.bestCell .sentinel false = some 0 ∧
      tfind s.test.loans 767 = none ∧ s.test.l2.contains 95 = false ∧ tfind s.test.reqs (testKey 1 95) = none) ∧
    (let s (toQuarantine : Bool) := testUp { state := .testing, toQuarantine } { loans := [(767, 0)] }
     formedB (s true) = true ∧ tfind (s true).test.loans 767 = some 0 ∧ ((s true).cell 767).state = .testing ∧
      ((s true).cell 767).toQuarantine = true ∧ ((s false).cell 767).toQuarantine = false) ∧
    (let s := testUp { state := .testing } { l2 := [95] }
     s.test.l2.contains 95 = true ∧ (s.cell 767).state ≠ .absent ∧ (∀ p, p < 8 → (s.cell (8 * 95 + p)).toQuarantine = false)) ∧
    (let r : TestReq := { ticket := none, drain := true, until_ := 2000000000, marked := true }
     let s : State := { up with test := { reqs := [(767, r), (1119, r)] } }
     tfind s.test.reqs (testKey 0 767) = some r ∧ tfind s.test.reqs (testKey 1 95) = some r ∧ (s.tick 1999999999).now < r.until_ ∧
      r.until_ ≤ (s.tick 2000000000).now ∧ s.bestCell .sentinel false = none) := by decide +kernel

theorem witness_TestEngine_units :
    (let s (line : Nat) : State := { up with test := { line } }
     (s 131070).test.line < 131071 ∧ 131071 ≤ (s 131071).test.line) ∧
    (let s (n : Nat) := linkUp3 { state := .up, testLanes := n, half := true }
     ((s 18).link 3).state = .up ∧ ((s 18).link 3).testLanes + 1 < 20 ∧ 20 ≤ ((s 19).link 3).testLanes + 1 ∧ (up.link 3).state ≠ .up) ∧
    (let s := segUp { started := true } [(127, { state := .present })]
     (s.seg 7).started = true ∧ (s.seg 7).stopped = false ∧ 7 ∈ s.cfg.segs ∧ s.lane.emg = false ∧ s.lane.releasing = false ∧
      tmem s.test.echoOpen 7 = false ∧ (s.unit 127).state = .present ∧ (up.seg 7).started = false ∧
      (∀ k, 16 * 6 ≤ k → k < 16 * 6 + 16 → (s.unit k).state ≠ .present)) ∧
    (let s : State := { up with net := { ports := [(1, { link := true })] }, man := { pages := [(0, { ports := [(1, port3 0)] })] }, test := { loopback := [0] } }
     s.linkUp 1 = true ∧ s.linkUp 0 = false ∧ 0 ∈ s.test.loopback ∧ 1 ∉ s.test.loopback) ∧
    (let r : FuseReads := { normal := 1 }
     tfind [(511, r)] 511 = some r ∧ r ≠ up.bootRead 511) ∧
    covered 4 = false ∧ testCount 3 ≤ 4 ∧ covered 3 = true ∧ 3 < testCount 3 ∧ up.testPresent 3 3 = true ∧
    tfind up.test.reqs (testKey 3 3) = none ∧ tfind up.test.again (testKey 3 3) = none ∧
    (let h := (up.devN 0x0C01 - up.devN 0x0C02) * 3600000000000
     up.ageStart 3 3 + h ≤ (up.tick h).now ∧ (up.tick (h - 1)).now < up.ageStart 3 3 + h) ∧
    (let h := up.devN 0x0C01 * 3600000000000
     up.ageStart 3 3 + h + (up.testUnit 3 3).overdue * 86400000000000 < (up.tick (h + 1)).now) := by decide +kernel

theorem witness_TestCommands :
    (let r (ticket : Option Nat) : TestReq := { ticket, drain := false, until_ := 0, marked := false }
     let s : State := { up with test := { reqs := [(767, r (some 5))] }, sea := { cells := [(766, { state := .quarantined }), (765, { state := .available })] } }
     [0x02000000, 0x00000007, 0x00000200, 0x02FF0000, 0x02FE0000, 0x02FD0100].all (fun w => runsOn s (.testRequest 0 0 {}) [w]) = true ∧
      fld (0x00000200 : Word) 15 8 = 2 ∧ fld (0x00000007 : Word) 2 0 = 7 ∧ testCount 7 ≤ 0 ∧ fld (0x02FF0000 : Word) 25 16 = 767 ∧
      tfind s.test.reqs (testKey 0 767) = some (r (some 5)) ∧ tfind s.test.reqs (testKey 0 766) = none ∧ s.testBarred 0 766 = true ∧
      s.testBarred 0 765 = false) ∧
    [8, 0x03000000, 0x02FF0000, 0x00000007].all (fun w => runsOn up (.testResult 0 0 {}) [w]) = true ∧ fld (8 : Word) 11 3 ≠ 0 ∧
    testCount 0 ≤ fld (0x03000000 : Word) 25 16 ∧ fld (0x02FF0000 : Word) 25 16 < testCount 0 ∧
    runsOn up (.testCoverage 0 0 {}) [] = true := by decide +kernel

/-! #### 18 Events and the host's registers -/

/-- An event raised for function 31. -/
def raise1 (code : Nat) : Raise := { code, source := 0, tag := 31, rcpt := [(31, false)], sec := 0, ns := 0, data := 0 }

/-- Function 31 with its event queue so. -/
def evtUp (e : EvQueue) (raised : List Raise) (windows : Tbl Window := []) : State :=
  { up with evt := { queues := [(31, e)], raised, windows }
            ins := { up.ins with insts := [(31, { phase := .on, root := some 0 })], fns := [(31, { bme := true, msixEn := true, msix := [(7, { mask := false })] })] } }

theorem witness_EventRecords :
    up.evt.raised = [] ∧ isSlice 31 = false ∧ evC 0x0101 = false ∧ evC 0x0301 = true ∧
    (let s (used : Nat) := evtUp { active := true, tail := 63, used } [raise1 0x0101]
     (s 62).evt.raised = [raise1 0x0101] ∧ (raise1 0x0101).rcpt = [(31, false)] ∧ ((s 62).evq 31).active = true ∧ (s 62).bme 31 = true ∧
      ({ (s 62).tick 0 with evt := { (s 62).evt with raised := [] } } : State).eqCause 31 {} = none ∧ ((s 62).evq 31).lostDue = false ∧
      ((s 62).evq 31).used + 2 ≤ 2 ^ ((s 62).evq 31).log2 ∧ 2 ^ ((s 63).evq 31).log2 < ((s 63).evq 31).used + 2 ∧
      ((evtUp {} [raise1 0x0101]).evq 31).active = false) ∧
    (let w : Window := { rcpt := 31, copy := false, code := 0x0301, source := 0, tag := 31, ends := 1000000 }
     let s := evtUp {} [raise1 0x0301] [(4, w), (5, { w with last := some (raise1 0x0301), held := 1 })]
     s.insN 31 0x0E01 ≠ 0 ∧ s.evt.windows.find? (fun x => x.2.matches_ (raise1 0x0301) (31, false)) = some (4, w) ∧
      tfind s.evt.windows 4 = some w ∧ w.last = none ∧ (s.tick 999999).now < w.ends ∧ w.ends ≤ (s.tick 1000000).now ∧
      tfind s.evt.windows 5 = some { w with last := some (raise1 0x0301), held := 1 } ∧ tfind s.evt.windows 6 = none ∧ w.rcpt ≠ 30) ∧
    (let s := evtUp { holdoff := [(0, 5, false), (7, 5, true)] } []
     tfind (s.evq 31).holdoff 6 = none ∧ tfind (s.evq 31).holdoff 0 = some (5, false) ∧ tfind (s.evq 31).holdoff 7 = some (5, true) ∧
      5 ≤ (s.tick 5).now ∧ (tget (s.func (fnOf 31)).msix 7 {} : MsixEntry).mask = false ∧ (s.func (fnOf 31)).fnMask = false ∧
      (s.func (fnOf 31)).msixEn = true) := by decide +kernel

theorem witness_RegisterWrites :
    up.pageLive 287 = false ∧ up.pageLive 32 = true ∧ up.pageLive 31 = true ∧ vectors 31 ≤ 8 ∧ 7 < vectors 31 ∧ 63 < vectors 0 ∧
    (up.func 31).msixEn = false ∧ (up.func 31).msix = [] ∧ bit (0x8000 : Word) 15 = true ∧ bit (0x8000 : Word) 14 = false ∧
    (let m : MsixEntry := { mask := false, pend := true }
     let s : State := { up with ins := { up.ins with fns := [(31, { bme := true, msix := [(7, m)] })] } }
     (s.func 31).msix = [(7, m)] ∧ m.pend = true ∧ m.mask = false ∧ (s.func 31).bme = true) ∧
    bit (1 : Word) 0 = true ∧ bit (2 : Word) 0 = false := by decide +kernel

theorem witness_EventCommands :
    [0x3FF00101, 0x3FF10101, 0x3FF00301, 0x3FF20301, 0x02000301, 0x3FF0FFFF].all (fun w =>
      runsOn up (.evtMaskSet 0 0 {}) [w] && (bit w 17 || bit w 16 || runsOn up (.evtMaskGet 0 0 {}) [w])) = true ∧
    up.evGone 0 1023 = false ∧ up.evGone 0 32 = false ∧ up.evGone 0 33 = true ∧
    [0x02100301].all (fun w => runsOn up (.evtMaskSet 0 0 {}) [w] && runsOn up (.evtMaskGet 0 0 {}) [w]) = true ∧
    fld (0x02100301 : Word) 29 20 = 33 ∧ fld (0x02000301 : Word) 29 20 = 32 ∧ evInfo 0xFFFF = none ∧ evU 0x0101 = true ∧
    bit (0x3FF10101 : Word) 16 = true ∧ evU 0x0301 = false ∧ bit (0x3FF20301 : Word) 17 = true ∧
    [1216, 1217].all (fun w => runsOn up (.evtSrcMask 0 0 {}) [w]) = true ∧
    [1023, 32, 33].all (fun w => runsOn up (.evtStatus 0 0 {}) [w]) = true := by decide +kernel

/-! #### 19 Start-up and lifecycle -/

theorem witness_PowerAndPins :
    up.lcy.powerGood = true ∧ dark.lcy.powerGood = false ∧ up.sec.zeroised = false ∧ up.sec.zeroising = none ∧
    (∀ n ∈ [8, 6], (secUp {}).detRuns n = true) ∧ up.lane.emgPath = false ∧
    ({ up with lane := { emgPath := true } } : State).lane.emgPath = true ∧
    (up.lcy.stage ≠ 15 ∧ (up.seg 0).started = false ∧ up.lcy.bootStart + 600000000 ≤ (up.tick 600000000).now ∧
      (up.tick 599999999).now < up.lcy.bootStart + 600000000) ∧
    (let s : State := { up with lcy := { up.lcy with stage := 15 } }
     s.lcy.stage = 15 ∧ s.lcy.crs = true ∧ s.ins.perstN = true ∧ max s.lcy.bootStart s.ins.perstAt + 900000000 ≤ (s.tick 900000000).now) := by
  decide +kernel

/-- The words of a key slot's hash. -/
def hash1 : List Word := [1, 0, 0, 0, 0, 0, 0, 0]

/-- A part booting: its stage, its fuse words in use. -/
def bootUp (stage : Nat) (use : Tbl Word := [(0, 0x10101), (8, 1)]) : State :=
  { up with mbx := { state := .booting }, lcy := { powerGood := true, stage, use } }

/-- An image that passes under slot 0. -/
def image1 : Image := { layoutOk := true, slots := 1, hashes := [(0, hash1)], sigOk := [0], version := 7 }

theorem witness_BootStages :
    (∀ n ∈ [1, 2, 3, 7, 8], formedB (bootUp n) = true ∧ (bootUp n).mbx.state ≠ .serving ∧ (bootUp n).stageDue n = true) ∧
    (∀ n ∈ [4, 5, 6], (bootUp 4).stageDue n = true) ∧ (bootUp 4).stageDue 7 = false ∧
    (bootUp 3 []).lifecycle = 0 ∧ (bootUp 3).lifecycle ≠ 0 ∧
    ((bootUp 3).tick 799999999).now < (bootUp 3).lcy.bootStart + 800000000 ∧ (bootUp 3).lcy.bootStart + 800000000 ≤ ((bootUp 3).tick 800000000).now ∧
    (bootUp 3).enrols ≤ (bootUp 3).zcount ∧ (bootUp 3 [(0, 0x10101), (4, 1)]).zcount < (bootUp 3 [(0, 0x10101), (4, 1)]).enrols ∧
    (bootUp 3).sec.bat.bkr = none ∧
    [0, 1, 2, 3].any (bootUp 4).fwUsable = true ∧ [0, 1, 2, 3].any (bootUp 4 []).fwUsable = false ∧ (bootUp 4).accepts image1 = some 0 ∧
    (bootUp 4).accepts {} = none ∧ ((bootUp 2).fuseReads [] 511).marginal = false ∧
    (let l (good : Nat) : Nat := tget [(3, good)] 3 18
     16 ≤ l 16 ∧ 8 ≤ l 8 ∧ l 15 < 16 ∧ l 7 < 8) ∧
    (let s := { bootUp 7 with isl := { links := [(3, { state := .up })] } }
     s.lcy.warm = false ∧ 767 < 192 * s.lcy.dies ∧ (s.link (767 / 192)).state = .up) ∧
    (let s : State := { bootUp 7 with lcy := { (bootUp 7).lcy with warm := true }, sea := { cells := [(767, { state := .faulted })] } }
     s.lcy.warm = true ∧ 767 ∈ tkeys s.sea.cells ∧ (s.cell 767).state = .faulted) ∧
    (bootUp 8).ins.perstN = true ∧ ({ bootUp 8 with ins := {} } : State).ins.perstN = false ∧ (dark.inst 0).phase = .off := by decide +kernel

/-- A part in lifecycle PROVISIONED that serves. -/
def provUp : State := { upMan with lcy := { up.lcy with use := [(0, 0x10101), (8, 1)] } }

theorem witness_LifecycleCommands :
    runsOn up (.lcyStatus 0 0 {}) [] = true ∧
    [0x4445504C, 0].all (fun w => runsOn provUp (.lcyAdvance 0 0 {}) [w]) = true ∧ provUp.lifecycle = 1 ∧ provUp.sec.bat.bkr = none ∧
    (0x4445504C : Word).toNat = 0x4445504C ∧ (0x44434F4D : Word).toNat = 0x44434F4D ∧ 2 ≤ provUp.cfg.casteMin 4 ∧
    ({ provUp with sec := { bat := { bkr := some 1 } } } : State).sec.bat.bkr.isSome = true ∧
    runsOn provUp (.lcyAdvance 0 0 { burnt := 6 }) [0x4445504C] = true ∧
    runsOn up (.lcyAdvance 0 0 {}) [0x44434F4D] = true ∧ up.lifecycle = 2 ∧ up.sec.zeroising = none ∧ up.sec.zeroised = false ∧
    [63, 64, 79, 80, 511].all (fun w => runsOn up (.lcyFuseRead 0 0 {}) [w]) = true ∧
    (let s := withIo provUp
     [3923, 3924, 8388608, 8388609].all (fun n => runsOn s (.lcyFwWrite 0 0 {}) [0, 0, n]) = true ∧ hostReads s 3924 = true) ∧
    (let s : State := { provUp with lcy := { provUp.lcy with banks := [(1, image1)], desc := [(0, { dserial := 1, bank := 0 }), (1, { dserial := 2, bank := 0 })] } }
     [0, 1].all (fun w => runsOn s (.lcyFwSelect 0 0 {}) [w]) = true ∧ runsOn s (.lcyFwSelect 0 0 { flashBad := true }) [1] = true ∧
      s.accepts (tget s.lcy.banks 1 {}) = some 0 ∧ s.accepts (tget s.lcy.banks 0 {}) = none ∧
      tfind s.lcy.desc 0 = some { dserial := 1, bank := 0 } ∧ tfind s.lcy.desc 1 = some { dserial := 2, bank := 0 }) ∧
    (let s : State := { provUp with lcy := { provUp.lcy with rollback := 64 } }
     [0, 1, 64, 65].all (fun w => runsOn s (.lcyRollbackAdvance 0 0 {}) [w]) = true ∧ s.rollbackStep = 0 ∧ 64 ≤ s.lcy.rollback) ∧
    [1, 2].all (fun w => runsOn provUp (.lcySlotRevoke 0 0 {}) [w]) = true ∧ runsOn provUp (.lcySlotRevoke 0 0 { burnt := 6 }) [2] = true ∧
    (1 : Word).getLsbD provUp.lcy.slot = true ∧ [0, 1, 2, 3].filter provUp.fwUsable = [0] ∧ [0, 1].filter provUp.debugUsable = [] ∧
    [0, 0x57525300, 0x57525301].all (fun w => runsOn up (.lcyReset 0 0 {}) [w]) = true ∧ fld (0x57525301 : Word) 31 8 = 0x575253 := by
  decide +kernel

end Sys2Proof.Tests
end

section
/-! ### No command stops the block (R9, R33)

That a step always answers a next state is the model's choice (log entries 2, 5 and 67): what the spec calls an ignored or
dropped input is a command that only moves time. -/

namespace Sys2Proof.Machine

/-- A command behind one guard answers a next state on both sides of it (log entry 5). -/
theorem next_of_guard {c : Prop} {_ : Decidable c} {a b : State} : ∃ s', (if c then .next a else .next b : Out) = .next s' := by
  split
  · exact ⟨a, rfl⟩
  · exact ⟨b, rfl⟩

/-- Every command answers a next state, whatever the state. The commands stand in three groups: those whose meaning is one
state, block commands among them since a refused one answers by its status; those behind one guard; and those that look
something up or test more than one thing, each by the branches of its own meaning. -/
theorem exec_next (i : Instr) (s : State) : ∃ s', exec i s = .next s' := by
  cases i <;> dsimp only [exec]
  case genIdentify | genVersion | genPing | genParamGet | genParamSet | genParamInfo | genParamNext | genGpioSet |
      genGpioGet | manBegin | manCommit | manRollback | manStatus | freezePoint | epochBoundary | booksCheck |
      qdbSqTailWrite | qdbCqHeadWrite | insQpSetup | insQpReset | insQpStatus | insEqSetup | insXlateSet |
      insXlateInval | insFaultGet | insSliceCreate | insSliceDestroy | insStatus | insRightsSet | pasidEnableClear |
      perstNFall | memMpuMode | memMpuRegion | memMpuRead | memMpuFaultGet | memMap | capInfo | capDerive | capRevoke |
      generationBroadcastAck | capRelease | capGrant | capList | capGateOpen | capGateInfo | capFaultGet | laneBind |
      laneUnbind | laneStatus | laneSegStatus | laneSegEnable | laneRollcall | laneForget | usedTicketPurge |
      fareTableLoad | fareKeyBind | fareDenyDelta | fareDenySwap | fareDenyStatus | fareJournalRead | fareJournalAck |
      fareStatus | scoreTick | droverReset | drvCastePlan | drvCasteStatus | drvCellStatus | drvCellQuarantine |
      drvCellReturn | drvSlotStatus | cartBind | cartStatus | cartJournalRead | cartJournalMark | cartDataList |
      cartDataStage | cartFormat | cartForceErase | cartEject | ptpSync | ptpFollowUp | ptpAnnounce | ptpDelayResp |
      timeStatus | timeShadowStatus | timeDomainSet | timeMasterSet | timeJumpAccept | timeCmpSet | timeCmpStatus |
      timePpsInGet | audRxSet | audTxSet | audBusSet | audTdmSet | audPromptLoad | audPlay | audStreamStatus |
      audStatus | netPortSet | netIfSet | netRuleWrite | netRuleRead | netRuleHits | netQueueSet | netPortStatus |
      storeDrain | fence | writeback | islSelWrite | islStatus | islLinkStatus | islLoopFreeze | islLoopStatus |
      islReset | detectorTrip | batterySwitch | secStatus | secLogRead | secCertGet | secKeyImport | secLoopSet |
      secZeroise | secReenrol | secDebugArm | statEpoch | statRead | statBooks | fuseReread | testRequest |
      testResult | testCoverage | evtMaskSet | evtMaskGet | evtSrcMask | evtStatus | lcyStatus | lcyAdvance |
      lcyFuseRead | lcyFwWrite | lcyFwSelect | lcyRollbackAdvance | lcySlotRevoke | lcyReset =>
    exact ⟨_, rfl⟩
  case mbxH2sWrite | mbxBlkWrite | go | rateToken | stewardReset | stewardRestartDone | cqCoalesceTimeout |
      msixVectorUnmask | vfEnableChange | pcieLinkDown | busMasterEnableChange | disableRevoke | perstNRise |
      pfPageReady | registerDerive | cellTrap | objectTableEcc | nilReceived | rollcallCycle | emgFilterAssert |
      freeExitRepeat | emgFilterRelease | clusterL2Error | taskInputEvent | taskInputTake | taskOvfClear |
      hotSpareSwitch | cartInserted | cartRemoved | cartInitStep | cartPowerCycleEnd | cartEraseDone | syncTimeout |
      preferredRevert | holdoverAlarm | ppsOutRise | ppsOutFall | ppsInEdge | timServedNsRead | audioBlock | legStale |
      ethLinkDown | ethLinkUp | read | own | mpuEcc | loopPeriod | timingError | ldoFault | clusterResetDone |
      isolationTimeout | linkTrained | keyRollover | ddrOscRead | tamperLoopSample | batteryLoss | memIntegrityFail |
      unlockChallenge | l2TestDone | hubMarchLine | forcedRequest | testOverdue | powerGood | emergencyPathStart |
      bootFailCrsEnd | segmentControllerStart | warmReset | emgOpenNChange | cardDetectChange | l2CheckDone |
      portLoopbackDone =>
    exact next_of_guard
  case wPing => fun_cases execWPing <;> exact ⟨_, rfl⟩
  case wCancel => fun_cases execWCancel <;> exact ⟨_, rfl⟩
  case badWord => fun_cases execBadWord <;> exact ⟨_, rfl⟩
  case pendingDone => fun_cases execPendingDone <;> exact ⟨_, rfl⟩
  case manOpenTimeout => fun_cases execManOpenTimeout <;> exact ⟨_, rfl⟩
  case deferredImmediateCommit => fun_cases execDeferredImmediateCommit <;> exact ⟨_, rfl⟩
  case manFlushEnd => fun_cases execManFlushEnd <;> exact ⟨_, rfl⟩
  case qdbEqHeadWrite => fun_cases execQdbEqHeadWrite <;> exact ⟨_, rfl⟩
  case sqEntryFetch => fun_cases execSqEntryFetch <;> exact ⟨_, rfl⟩
  case tlbFill => fun_cases execTlbFill <;> exact ⟨_, rfl⟩
  case functionLevelReset => fun_cases execFunctionLevelReset <;> exact ⟨_, rfl⟩
  case capabilityStore => fun_cases execCapabilityStore <;> exact ⟨_, rfl⟩
  case capabilityLoad => fun_cases execCapabilityLoad <;> exact ⟨_, rfl⟩
  case callGateEntry => fun_cases execCallGateEntry <;> exact ⟨_, rfl⟩
  case callGateReturn => fun_cases execCallGateReturn <;> exact ⟨_, rfl⟩
  case hubRequestReturn => fun_cases execHubRequestReturn <;> exact ⟨_, rfl⟩
  case turnStart => fun_cases execTurnStart <;> exact ⟨_, rfl⟩
  case turnFailed => fun_cases execTurnFailed <;> exact ⟨_, rfl⟩
  case transmissionDropped => fun_cases execTransmissionDropped <;> exact ⟨_, rfl⟩
  case tapReceived => fun_cases execTapReceived <;> exact ⟨_, rfl⟩
  case contReceived => fun_cases execContReceived <;> exact ⟨_, rfl⟩
  case apduRReceived => fun_cases execApduRReceived <;> exact ⟨_, rfl⟩
  case echoRReceived => fun_cases execEchoRReceived <;> exact ⟨_, rfl⟩
  case ackReceived => fun_cases execAckReceived <;> exact ⟨_, rfl⟩
  case hereReceived => fun_cases execHereReceived <;> exact ⟨_, rfl⟩
  case hereGarble => fun_cases execHereGarble <;> exact ⟨_, rfl⟩
  case barcodeTransferTimeout => fun_cases execBarcodeTransferTimeout <;> exact ⟨_, rfl⟩
  case freeExitClearRepeat => fun_cases execFreeExitClearRepeat <;> exact ⟨_, rfl⟩
  case apduCommandQueue => fun_cases execApduCommandQueue <;> exact ⟨_, rfl⟩
  case exchangeTimeout => fun_cases execExchangeTimeout <;> exact ⟨_, rfl⟩
  case placement => fun_cases execPlacement <;> exact ⟨_, rfl⟩
  case placementRetry => fun_cases execPlacementRetry <;> exact ⟨_, rfl⟩
  case sessionBudgetExpired => fun_cases execSessionBudgetExpired <;> exact ⟨_, rfl⟩
  case denylistExactSearch => fun_cases execDenylistExactSearch <;> exact ⟨_, rfl⟩
  case barcodeVerify => fun_cases execBarcodeVerify <;> exact ⟨_, rfl⟩
  case journalSeal => fun_cases execJournalSeal <;> exact ⟨_, rfl⟩
  case sealBudgetExpired => fun_cases execSealBudgetExpired <;> exact ⟨_, rfl⟩
  case cartAcceptTimeout => fun_cases execCartAcceptTimeout <;> exact ⟨_, rfl⟩
  case fareDenyLoad => fun_cases execFareDenyLoad <;> exact ⟨_, rfl⟩
  case jobRun => fun_cases execJobRun <;> exact ⟨_, rfl⟩
  case jobBoundary => fun_cases execJobBoundary <;> exact ⟨_, rfl⟩
  case casteImageLoad => fun_cases execCasteImageLoad <;> exact ⟨_, rfl⟩
  case casteMoveDone => fun_cases execCasteMoveDone <;> exact ⟨_, rfl⟩
  case casteGrow => fun_cases execCasteGrow <;> exact ⟨_, rfl⟩
  case leaseExpired => fun_cases execLeaseExpired <;> exact ⟨_, rfl⟩
  case cellCheckDone => fun_cases execCellCheckDone <;> exact ⟨_, rfl⟩
  case cartBlockWrite => fun_cases execCartBlockWrite <;> exact ⟨_, rfl⟩
  case cartBlockDone => fun_cases execCartBlockDone <;> exact ⟨_, rfl⟩
  case cartBusyTimeout => fun_cases execCartBusyTimeout <;> exact ⟨_, rfl⟩
  case delayReqSend => fun_cases execDelayReqSend <;> exact ⟨_, rfl⟩
  case announceReceiptTimeout => fun_cases execAnnounceReceiptTimeout <;> exact ⟨_, rfl⟩
  case refusedRecheck => fun_cases execRefusedRecheck <;> exact ⟨_, rfl⟩
  case slewEnd => fun_cases execSlewEnd <;> exact ⟨_, rfl⟩
  case masterSyncSend => fun_cases execMasterSyncSend <;> exact ⟨_, rfl⟩
  case masterAnnounceSend => fun_cases execMasterAnnounceSend <;> exact ⟨_, rfl⟩
  case masterDelayReq => fun_cases execMasterDelayReq <;> exact ⟨_, rfl⟩
  case compareFire => fun_cases execCompareFire <;> exact ⟨_, rfl⟩
  case rtpPacket => fun_cases execRtpPacket <;> exact ⟨_, rfl⟩
  case adaptiveMeasure => fun_cases execAdaptiveMeasure <;> exact ⟨_, rfl⟩
  case promptStart => fun_cases execPromptStart <;> exact ⟨_, rfl⟩
  case emergencyPromptLoop => fun_cases execEmergencyPromptLoop <;> exact ⟨_, rfl⟩
  case frameReceived => fun_cases execFrameReceived <;> exact ⟨_, rfl⟩
  case portTransmit => fun_cases execPortTransmit <;> exact ⟨_, rfl⟩
  case stewardNetRx => fun_cases execStewardNetRx <;> exact ⟨_, rfl⟩
  case netTx => fun_cases execNetTx <;> exact ⟨_, rfl⟩
  case netRxPost => fun_cases execNetRxPost <;> exact ⟨_, rfl⟩
  case cellLoad => fun_cases execCellLoad <;> exact ⟨_, rfl⟩
  case cellStore => fun_cases execCellStore <;> exact ⟨_, rfl⟩
  case atomicOperation => fun_cases execAtomicOperation <;> exact ⟨_, rfl⟩
  case dmaPiece => fun_cases execDmaPiece <;> exact ⟨_, rfl⟩
  case thermalSample => fun_cases execThermalSample <;> exact ⟨_, rfl⟩
  case hubIslandReset => fun_cases execHubIslandReset <;> exact ⟨_, rfl⟩
  case integrityFrame => fun_cases execIntegrityFrame <;> exact ⟨_, rfl⟩
  case auditMarkerReturn => fun_cases execAuditMarkerReturn <;> exact ⟨_, rfl⟩
  case loopFreezeExpiry => fun_cases execLoopFreezeExpiry <;> exact ⟨_, rfl⟩
  case unlockResponse => fun_cases execUnlockResponse <;> exact ⟨_, rfl⟩
  case testLoan => fun_cases execTestLoan <;> exact ⟨_, rfl⟩
  case cellTestDone => fun_cases execCellTestDone <;> exact ⟨_, rfl⟩
  case drainIdle => fun_cases execDrainIdle <;> exact ⟨_, rfl⟩
  case drainTimeout => fun_cases execDrainTimeout <;> exact ⟨_, rfl⟩
  case dieLinkLaneTest => fun_cases execDieLinkLaneTest <;> exact ⟨_, rfl⟩
  case segmentEchoTest => fun_cases execSegmentEchoTest <;> exact ⟨_, rfl⟩
  case portTest => fun_cases execPortTest <;> exact ⟨_, rfl⟩
  case eventRecordWrite => fun_cases execEventRecordWrite <;> exact ⟨_, rfl⟩
  case coalesceWindowEnd => fun_cases execCoalesceWindowEnd <;> exact ⟨_, rfl⟩
  case irqHoldoffEnd => fun_cases execIrqHoldoffEnd <;> exact ⟨_, rfl⟩
  case powerGoodLost => fun_cases execPowerGoodLost <;> exact ⟨_, rfl⟩
  case bootStageComplete => fun_cases execBootStageComplete <;> exact ⟨_, rfl⟩
  case registerWrite => fun_cases execRegisterWrite <;> exact ⟨_, rfl⟩
  case unknownCommand => fun_cases execUnknownCommand <;> exact ⟨_, rfl⟩

/-- Settles O31: on an empty queue the block idles, otherwise the command at the front answers a next state. -/
theorem neverStops : Obligations.NeverStops := by
  intro s
  unfold step
  split
  · exact ⟨s, rfl⟩
  · exact exec_next _ _

end Sys2Proof.Machine
end

section
/-! PROOFS. What a host's write to a register without a row of its own does: each write is a change of one page, one tag's
entry or one function's vectors after the tick, and the rules for such a change give the clauses. -/

namespace Sys2Proof.Machine

/-! ### A change of one tag's entry or one function -/

@[simp] theorem State.inst_modInst_same (s : State) (n : Nat) (f : Inst → Inst) : (s.modInst n f).inst n = f (s.inst n) := by
  simp [State.inst, State.modInst]

theorem State.inst_modInst_ne (s : State) {n k : Nat} (f : Inst → Inst) (h : n ≠ k) : (s.modInst n f).inst k = s.inst k := by
  simp [State.inst, State.modInst, h]

@[simp] theorem State.func_modFunc_same (s : State) (n : Nat) (f : Func → Func) : (s.modFunc n f).func n = f (s.func n) := by
  simp [State.func, State.modFunc]

theorem State.func_modFunc_ne (s : State) {n k : Nat} (f : Func → Func) (h : n ≠ k) : (s.modFunc n f).func k = s.func k := by
  simp [State.func, State.modFunc, h]

@[simp] theorem State.func_emitOut (s : State) (o : Output) (n : Nat) : (s.emitOut o).func n = s.func n := rfl

/-- A tick followed by a change of one page: that page, the other pages, and the rest of the state. -/
theorem State.tick_modPage_effect (s : State) (t n : Nat) (f : Page → Page) :
    let s' := (s.tick t).modPage n f
    s'.page n = f (s.page n) ∧ (∀ k, k ≠ n → s'.page k = s.page k) ∧
      s' = { s.tick t with mbx := { s.mbx with pages := s'.mbx.pages } } :=
  ⟨by simp, fun k hk => by simp [State.page_modPage_ne _ _ (Ne.symm hk)], by simp [State.modPage]⟩

/-- A tick followed by a change of one tag's entry. -/
theorem State.tick_modInst_effect (s : State) (t n : Nat) (f : Inst → Inst) :
    let s' := (s.tick t).modInst n f
    s'.inst n = f (s.inst n) ∧ (∀ k, k ≠ n → s'.inst k = s.inst k) ∧
      s' = { s.tick t with ins := { s.ins with insts := s'.ins.insts } } :=
  ⟨by simp, fun k hk => by simp [State.inst_modInst_ne _ _ (Ne.symm hk)], by simp [State.modInst]⟩

/-- A tick followed by a change of one function. -/
theorem State.tick_modFunc_effect (s : State) (t n : Nat) (f : Func → Func) :
    let s' := (s.tick t).modFunc n f
    s'.func n = f (s.func n) ∧ (∀ k, k ≠ n → s'.func k = s.func k) ∧
      s' = { s.tick t with ins := { s.ins with fns := s'.ins.fns } } :=
  ⟨by simp, fun k hk => by simp [State.func_modFunc_ne _ _ (Ne.symm hk)], by simp [State.modFunc]⟩

/-! ### Pending messages (R104) -/

/-- Without MSI-X Enable no pending message leaves. -/
theorem State.msixFlush_of_disabled (s : State) (n : Nat) (h : (s.func n).msixEn = false) : s.msixFlush n = s := by
  simp [State.msixFlush, h]

/-- A function whose vectors are all at reset has no pending message. -/
theorem State.msixFlush_of_nil (s : State) (n : Nat) (h : (s.func n).msix = []) : s.msixFlush n = s := by
  simp [State.msixFlush, h]

/-- One pending message that nothing holds back is sent, and its pending bit is cleared. -/
theorem State.msixFlush_of_singleton (s : State) (n v : Nat) (m : MsixEntry) (hv : (s.func n).msix = [(v, m)])
    (hp : m.pend = true) (hm : m.mask = false) (hf : (s.func n).fnMask = false) (he : (s.func n).msixEn = true)
    (hb : (s.func n).bme = true) :
    ((s.msixFlush n).func n).msix = [(v, { m with pend := false })] ∧
      (s.msixFlush n).out = .msix n v (ofTwo m.addrLo m.addrHi) m.data :: s.out := by
  have hsent : s.msixFlush n =
      (s.modFunc n (fun f => { f with msix := tmod f.msix v {} (fun e => { e with pend := false }) })).emitOut
        (.msix n v (ofTwo m.addrLo m.addrHi) m.data) := by
    simp [State.msixFlush, hv, hp, hm, hf, he, hb]
  rw [hsent, State.func_emitOut, State.func_modFunc_same, hv]
  simp [tmod, tset, tget, tfind, State.emitOut]

/-- A vector that the function does not have takes no write. -/
theorem State.msxWrite_of_absent (s : State) (n v : Nat) (f : MsixEntry → MsixEntry) (h : 31 < n ∨ vectors n ≤ v) :
    s.msxWrite n v f = s := if_neg (by omega)

/-- Without MSI-X Enable a write to a vector changes its entry only. -/
theorem State.msxWrite_of_disabled (s : State) (n v : Nat) (f : MsixEntry → MsixEntry) (hn : n ≤ 31) (hv : v < vectors n)
    (h : (s.func n).msixEn = false) :
    s.msxWrite n v f = s.modFunc n (fun g => { g with msix := tmod g.msix v {} f }) := by
  rw [State.msxWrite, if_pos ⟨hn, hv⟩]
  exact State.msixFlush_of_disabled _ n (by simpa using h)

/-! ### The registers -/

/-- The four registers of a mailbox page and its doorbells ignore a write while the page is not live (R529). -/
theorem exec_registerWrite_of_not_live (t n : Nat) (w : Word) (s : State) (h : s.pageLive n = false) (r : HostReg)
    (hr : r = .mbxStat n ∨ r = .mbxCtl n ∨ r = .mbxBlkctl n ∨ r = .qdbErr n) :
    exec (.registerWrite t r w) s = .next (s.tick t) := by
  obtain rfl | rfl | rfl | rfl := hr <;> simp [exec, execRegisterWrite, h]

/-- The four registers of an MSI-X entry that the function does not have ignore a write. -/
theorem exec_registerWrite_of_absent_vector (t n v : Nat) (w : Word) (s : State) (h : 31 < n ∨ vectors n ≤ v) (r : HostReg)
    (hr : r = .msxAddrLo n v ∨ r = .msxAddrHi n v ∨ r = .msxData n v ∨ r = .msxCtl n v) :
    exec (.registerWrite t r w) s = .next (s.tick t) := by
  obtain rfl | rfl | rfl | rfl := hr <;> simp [exec, execRegisterWrite, State.msxWrite_of_absent _ n v _ h]

/-- A register whose write is a write to an MSI-X entry, while MSI-X Enable is 0: that entry, the others, the other functions
and the rest of the state. -/
theorem exec_registerWrite_vector {t n v : Nat} {r : HostReg} {w : Word} {s : State} {f : MsixEntry → MsixEntry} (hn : n ≤ 31)
    (hv : v < vectors n) (he : (s.func n).msixEn = false)
    (h : exec (.registerWrite t r w) s = .next ((s.tick t).msxWrite n v f)) :
    ∃ s', exec (.registerWrite t r w) s = .next s' ∧ tget (s'.func n).msix v {} = f (tget (s.func n).msix v {}) ∧
      (∀ k, k ≠ v → tfind (s'.func n).msix k = tfind (s.func n).msix k) ∧ (∀ k, k ≠ n → s'.func k = s.func k) ∧
      s' = { s.tick t with ins := { s.ins with fns := s'.ins.fns } } := by
  rw [State.msxWrite_of_disabled _ n v f hn hv (by simpa using he)] at h
  obtain ⟨hsame, hother, hframe⟩ := s.tick_modFunc_effect t n (fun g => { g with msix := tmod g.msix v {} f })
  refine ⟨_, h, ?_, ?_, hother, hframe⟩
  · rw [hsame, tget_tmod_same]
  · intro k hk
    rw [hsame, tmod, tfind_tset_ne _ _ (Ne.symm hk)]

/-- The MSI-X control word sets MSI-X Enable and the Function Mask; what was pending and may leave then leaves (log entry 32). -/
theorem exec_registerWrite_msixControl (t : Nat) {n : Nat} (w : Word) (s : State) (hn : n ≤ 31) :
    exec (.registerWrite t (.msixControl n) w) s =
      .next (((s.tick t).modFunc n (fun f => { f with msixEn := bit w 15, fnMask := bit w 14 })).msixFlush n) :=
  if_neg (by omega)

/-- Settles O56: each register's write, by its effect on one page, one tag's entry or one function's vectors. -/
theorem registerWrites : Obligations.RegisterWrites := by
  intro t n v w s s0
  refine ⟨fun _ => rfl, ?scratch, exec_registerWrite_of_not_live t n w s, fun hlive => ⟨?stat, ?ctl, ?blkctl, ?doorbell⟩,
    exec_registerWrite_of_absent_vector t n v w s, fun hn hv he => ?vector, ?controlEmpty, ?controlPending, ?pasidSet, ?pasidKept⟩
  case scratch => simp [exec, execRegisterWrite, s0]
  case stat | ctl | blkctl =>
    exact ⟨_, by simp only [exec, execRegisterWrite, State.tick_pageLive, hlive]; rfl, s.tick_modPage_effect t n _⟩
  case doorbell =>
    exact ⟨_, by simp only [exec, execRegisterWrite, State.tick_pageLive, hlive]; rfl, s.tick_modInst_effect t n _⟩
  case vector =>
    exact ⟨exec_registerWrite_vector (f := fun e => { e with addrLo := w &&& 0xFFFFFFFC }) hn hv he rfl,
      exec_registerWrite_vector (f := fun e => { e with addrHi := w }) hn hv he rfl,
      exec_registerWrite_vector (f := fun e => { e with data := w }) hn hv he rfl,
      exec_registerWrite_vector (f := fun e => { e with mask := bit w 0 }) hn hv he rfl⟩
  case controlEmpty =>
    intro hn hnil
    refine ⟨_, exec_registerWrite_msixControl t w s hn, ?_⟩
    rw [State.msixFlush_of_nil _ n (by simpa using hnil)]
    exact s.tick_modFunc_effect t n _
  case controlPending =>
    intro m hn hmsix hpend hmask hbme hen hfm
    refine ⟨_, exec_registerWrite_msixControl t w s hn, ?_⟩
    have hsent := State.msixFlush_of_singleton
      ((s.tick t).modFunc n (fun f => { f with msixEn := bit w 15, fnMask := bit w 14 })) n v m
      (by simpa using hmsix) hpend hmask (by simpa using hfm) (by simpa using hen) (by simpa using hbme)
    simpa using hsent
  case pasidSet | pasidKept => intro h; simp [exec, execRegisterWrite, h, s0]
end Sys2Proof.Machine
end

section
/-! PROOFS. Lane Link and card sessions: what an update of one session, one segment or one unit leaves readable, and what the
shared operations on turns, sessions and their ends do (06_lane_link.md, 08_fare_sessions.md). -/

namespace Sys2Proof.Machine

/-! ### Folds over a list of parts -/

/-- A fold whose step reaches a property of its element and loses it for no other element reaches it for the whole list. -/
theorem foldl_reaches {σ α : Type} (P : σ → α → Prop) (f : σ → α → σ) (hnew : ∀ s a, P (f s a) a)
    (hkeep : ∀ s a b, P s b → P (f s a) b) (l : List α) (s : σ) : ∀ a ∈ l, P (l.foldl f s) a := by
  have hkeeps : ∀ (r : List α) (s : σ) (b : α), P s b → P (r.foldl f s) b := fun r => by
    induction r with
    | nil => exact fun _ _ h => h
    | cons x r ih => exact fun s b h => ih (f s x) b (hkeep s x b h)
  induction l generalizing s with
  | nil => simp
  | cons x r ih =>
    intro a ha
    obtain rfl | ha := List.mem_cons.mp ha
    · exact hkeeps r _ a (hnew s a)
    · exact ih (f s x) a ha

/-! ### One session, one segment, one unit, one counter -/

variable (s : State)

@[simp] theorem State.ses_modSes_same (l : Nat) (f : Session → Session) : (s.modSes l f).ses l = (s.ses l).map f :=
  tfind_tupd_same _ l f

theorem State.ses_modSes_ne {l k : Nat} (f : Session → Session) (h : k ≠ l) : (s.modSes l f).ses k = s.ses k :=
  tfind_tupd_ne _ f h.symm

theorem State.ses_of_fare {s s' : State} (h : s'.fare = s.fare) (l : Nat) : s'.ses l = s.ses l := by simp [State.ses, h]

@[simp] theorem State.ses_modSeg (n l : Nat) (f : Seg → Seg) : (s.modSeg n f).ses l = s.ses l := rfl
@[simp] theorem State.ses_modUnit (n l : Nat) (f : LaneUnit → LaneUnit) : (s.modUnit n f).ses l = s.ses l := rfl
@[simp] theorem State.ses_modSea (l : Nat) (f : Sea → Sea) : (s.modSea f).ses l = s.ses l := rfl
@[simp] theorem State.ses_emitOut (l : Nat) (o : Output) : (s.emitOut o).ses l = s.ses l := rfl
@[simp] theorem State.ses_count (l g n i : Nat) : (s.count g n i).ses l = s.ses l := State.ses_of_fare (by simp) l
@[simp] theorem State.ses_await (l : Nat) (w : Work) (c : Caste) : (s.await w c).ses l = s.ses l := rfl

@[simp] theorem State.seg_modSeg_same (n : Nat) (f : Seg → Seg) : (s.modSeg n f).seg n = f (s.seg n) := by
  simp [State.seg, State.modSeg]

theorem State.seg_modSeg_ne {n k : Nat} (f : Seg → Seg) (h : k ≠ n) : (s.modSeg n f).seg k = s.seg k := by
  simp [State.seg, State.modSeg, h.symm]

theorem State.seg_of_lane {s s' : State} (h : s'.lane = s.lane) (n : Nat) : s'.seg n = s.seg n := by simp [State.seg, h]

@[simp] theorem State.seg_modUnit (n k : Nat) (f : LaneUnit → LaneUnit) : (s.modUnit n f).seg k = s.seg k := rfl
@[simp] theorem State.seg_modSes (n k : Nat) (f : Session → Session) : (s.modSes n f).seg k = s.seg k := rfl
@[simp] theorem State.seg_modFare (k : Nat) (f : Fare → Fare) : (s.modFare f).seg k = s.seg k := rfl
@[simp] theorem State.seg_modSea (k : Nat) (f : Sea → Sea) : (s.modSea f).seg k = s.seg k := rfl
@[simp] theorem State.seg_emitOut (k : Nat) (o : Output) : (s.emitOut o).seg k = s.seg k := rfl
@[simp] theorem State.seg_count (k g n i : Nat) : (s.count g n i).seg k = s.seg k := State.seg_of_lane (by simp) k
@[simp] theorem State.seg_await (k : Nat) (w : Work) (c : Caste) : (s.await w c).seg k = s.seg k := rfl

@[simp] theorem State.unit_modUnit_same (n : Nat) (f : LaneUnit → LaneUnit) : (s.modUnit n f).unit n = f (s.unit n) := by
  simp [State.unit, State.modUnit]

theorem State.unit_modUnit_ne {n k : Nat} (f : LaneUnit → LaneUnit) (h : k ≠ n) : (s.modUnit n f).unit k = s.unit k := by
  simp [State.unit, State.modUnit, h.symm]

theorem State.unit_of_lane {s s' : State} (h : s'.lane = s.lane) (n : Nat) : s'.unit n = s.unit n := by simp [State.unit, h]

@[simp] theorem State.unit_modSeg (n k : Nat) (f : Seg → Seg) : (s.modSeg n f).unit k = s.unit k := rfl
@[simp] theorem State.unit_modSes (n k : Nat) (f : Session → Session) : (s.modSes n f).unit k = s.unit k := rfl
@[simp] theorem State.unit_modFare (k : Nat) (f : Fare → Fare) : (s.modFare f).unit k = s.unit k := rfl
@[simp] theorem State.unit_emitOut (k : Nat) (o : Output) : (s.emitOut o).unit k = s.unit k := rfl
@[simp] theorem State.unit_count (k g n i : Nat) : (s.count g n i).unit k = s.unit k := State.unit_of_lane (by simp) k
@[simp] theorem State.unit_await (k : Nat) (w : Work) (c : Caste) : (s.await w c).unit k = s.unit k := rfl

@[simp] theorem State.counter_count_same (g n i : Nat) : (s.count g n i).counter g n i = min statMax (s.counter g n i + 1) := by
  simp [State.counter, State.count]

theorem State.counter_count_ne {g n i g' n' i' : Nat} (h : statKey g n i ≠ statKey g' n' i') :
    (s.count g n i).counter g' n' i' = s.counter g' n' i' := by
  simp [State.counter, State.count, h]

theorem State.counter_of_stat {s s' : State} (h : s'.stat = s.stat) (g n i : Nat) : s'.counter g n i = s.counter g n i := by
  simp [State.counter, h]

theorem State.count_frame (g n i : Nat) : s.count g n i = { s with stat := (s.count g n i).stat } := by
  simp [State.count]

/-- The lane of a unit's address is one of its segment's (R15). -/
theorem laneSeg_laneOf (seg : Nat) {addr : Nat} (h1 : 1 ≤ addr) (h16 : addr ≤ 16) : laneSeg (laneOf seg addr) = seg := by
  unfold laneSeg laneOf
  omega

/-! ### Turns (R169, R172) -/

theorem State.identityEvent_frame (code src : Nat) (id old : Word64) :
    s.identityEvent code src id old =
      { s with evt := (s.identityEvent code src id old).evt, out := (s.identityEvent code src id old).out } := by
  unfold State.identityEvent; rw [State.raiseDev_frame]

@[simp] theorem State.identityEvent_lane (code src : Nat) (id old : Word64) :
    (s.identityEvent code src id old).lane = s.lane := by rw [State.identityEvent_frame]

@[simp] theorem State.seg_identityEvent (code src k : Nat) (id old : Word64) :
    (s.identityEvent code src id old).seg k = s.seg k := State.seg_of_lane (by simp) k

@[simp] theorem State.unit_identityEvent (code src k : Nat) (id old : Word64) :
    (s.identityEvent code src id old).unit k = s.unit k := State.unit_of_lane (by simp) k

theorem State.probeAnswered_frame (seg lane : Nat) :
    s.probeAnswered seg lane = { s with lane := (s.probeAnswered seg lane).lane, evt := (s.probeAnswered seg lane).evt
                                        out := (s.probeAnswered seg lane).out } := by
  unfold State.probeAnswered
  dsimp only
  split
  · rw [State.identityEvent_frame]; rfl
  · rfl

/-- An answered probe makes its segment ACTIVE and leaves its turns and its lists alone (R174). -/
theorem State.probeAnswered_seg (seg lane : Nat) : (s.probeAnswered seg lane).seg seg =
    { s.seg seg with answered := ((s.probeAnswered seg lane).seg seg).answered
                     lonely := ((s.probeAnswered seg lane).seg seg).lonely
                     quiet := ((s.probeAnswered seg lane).seg seg).quiet } := by
  unfold State.probeAnswered
  dsimp only
  split
  · simp [State.heard]
  · rfl

theorem State.turnDone_frame (seg lane : Nat) :
    s.turnDone seg lane = { s with lane := (s.turnDone seg lane).lane, evt := (s.turnDone seg lane).evt
                                   out := (s.turnDone seg lane).out } := by
  unfold State.turnDone
  dsimp only
  split
  · rw [State.probeAnswered_frame]; rfl
  · rfl

/-- The state after the reply that ends a segment's turn with a unit, before what a probe's answer adds. -/
def State.turnEnded (seg lane : Nat) : State :=
  (s.modSeg seg (fun g => { g with turn := none, retrying := false })).modUnit lane (fun u => { u with fails := 0 })

@[simp] theorem State.turnEnded_seg (seg lane : Nat) :
    (s.turnEnded seg lane).seg seg = { s.seg seg with turn := none, retrying := false } := by
  simp [State.turnEnded]

theorem State.turnEnded_seg_ne {seg k : Nat} (lane : Nat) (h : k ≠ seg) : (s.turnEnded seg lane).seg k = s.seg k := by
  simp [State.turnEnded, State.seg_modSeg_ne _ _ h]

@[simp] theorem State.turnEnded_unit (seg lane : Nat) :
    (s.turnEnded seg lane).unit lane = { s.unit lane with fails := 0 } := by
  simp [State.turnEnded]

theorem State.turnEnded_unit_ne (seg : Nat) {lane k : Nat} (h : k ≠ lane) : (s.turnEnded seg lane).unit k = s.unit k := by
  simp [State.turnEnded, State.unit_modUnit_ne _ _ h]

@[simp] theorem State.ses_turnEnded (seg lane l : Nat) : (s.turnEnded seg lane).ses l = s.ses l := rfl

/-- The reply of a turn that is no probe ends the turn and its unit's row of failures, and that is all. -/
theorem State.turnDone_of_not_probe {seg : Nat} (lane : Nat) (h : ∀ l, (s.seg seg).turn ≠ some (.probe l)) :
    s.turnDone seg lane = s.turnEnded seg lane := by
  unfold State.turnDone
  split
  · next l hl => exact absurd hl (h l)
  · rfl

theorem State.turnDone_of_probe {seg l : Nat} (lane : Nat) (h : (s.seg seg).turn = some (.probe l)) :
    s.turnDone seg lane = (s.turnEnded seg lane).probeAnswered seg lane := by
  unfold State.turnDone
  rw [h]
  rfl

/-- The accepted reply ends the segment's turn and leaves its sessions and its queue alone. -/
theorem State.turnDone_seg (seg lane : Nat) : (s.turnDone seg lane).seg seg =
    { s.seg seg with turn := none, retrying := false
                     answered := ((s.turnDone seg lane).seg seg).answered
                     lonely := ((s.turnDone seg lane).seg seg).lonely
                     quiet := ((s.turnDone seg lane).seg seg).quiet } := by
  by_cases h : ∃ l, (s.seg seg).turn = some (.probe l)
  · obtain ⟨l, hl⟩ := h
    rw [s.turnDone_of_probe lane hl, State.probeAnswered_seg, State.turnEnded_seg]
  · rw [s.turnDone_of_not_probe lane (by simpa using h), State.turnEnded_seg]

theorem State.acceptUp_frame (seg : Nat) (f : LaneFrame) :
    (s.acceptUp seg f).2 = { s with lane := (s.acceptUp seg f).2.lane, evt := (s.acceptUp seg f).2.evt
                                    out := (s.acceptUp seg f).2.out } := by
  simp only [State.acceptUp, State.sendAck, State.modUnit, State.emitOut]
  rw [State.turnDone_frame]

@[simp] theorem State.acceptUp_now (seg : Nat) (f : LaneFrame) : (s.acceptUp seg f).2.now = s.now := by rw [State.acceptUp_frame]
@[simp] theorem State.acceptUp_man (seg : Nat) (f : LaneFrame) : (s.acceptUp seg f).2.man = s.man := by rw [State.acceptUp_frame]
@[simp] theorem State.acceptUp_sea (seg : Nat) (f : LaneFrame) : (s.acceptUp seg f).2.sea = s.sea := by rw [State.acceptUp_frame]
@[simp] theorem State.acceptUp_fare (seg : Nat) (f : LaneFrame) : (s.acceptUp seg f).2.fare = s.fare := by rw [State.acceptUp_frame]
@[simp] theorem State.acceptUp_tim (seg : Nat) (f : LaneFrame) : (s.acceptUp seg f).2.tim = s.tim := by rw [State.acceptUp_frame]
@[simp] theorem State.acceptUp_stat (seg : Nat) (f : LaneFrame) : (s.acceptUp seg f).2.stat = s.stat := by rw [State.acceptUp_frame]

@[simp] theorem State.ses_acceptUp (seg l : Nat) (f : LaneFrame) : (s.acceptUp seg f).2.ses l = s.ses l :=
  State.ses_of_fare (by simp) l

@[simp] theorem State.cfg_acceptUp (seg : Nat) (f : LaneFrame) : (s.acceptUp seg f).2.cfg = s.cfg := by
  simp [State.cfg, State.cfgOf]

@[simp] theorem State.counter_acceptUp (seg g n i : Nat) (f : LaneFrame) :
    (s.acceptUp seg f).2.counter g n i = s.counter g n i := State.counter_of_stat (by simp) g n i

/-- An upstream frame is new unless it repeats the SEQ accepted last (R169). -/
theorem State.acceptUp_new (seg : Nat) (f : LaneFrame) :
    (s.acceptUp seg f).1 = !((s.unit (laneOf seg f.addr)).rxSeq == some f.seq) := rfl

/-- An accepted upstream frame is acknowledged (R169). -/
theorem State.acceptUp_sent (seg : Nat) (f : LaneFrame) : Say.sent (s.acceptUp seg f).2 seg f.addr 0x101 f.seq false [] := by
  simp [Say.sent, State.acceptUp, State.sendAck, State.emitOut, State.modUnit]

@[simp] theorem State.acceptUp_rxSeq (seg : Nat) (f : LaneFrame) :
    ((s.acceptUp seg f).2.unit (laneOf seg f.addr)).rxSeq = some f.seq := by
  simp [State.acceptUp]

theorem State.acceptUp_seg (seg : Nat) (f : LaneFrame) : (s.acceptUp seg f).2.seg seg = (s.turnDone seg (laneOf seg f.addr)).seg seg :=
  rfl

@[simp] theorem State.acceptUp_turn (seg : Nat) (f : LaneFrame) : ((s.acceptUp seg f).2.seg seg).turn = none := by
  rw [State.acceptUp_seg, State.turnDone_seg]
@[simp] theorem State.acceptUp_active (seg : Nat) (f : LaneFrame) :
    ((s.acceptUp seg f).2.seg seg).active = (s.seg seg).active := by
  rw [State.acceptUp_seg, State.turnDone_seg]
@[simp] theorem State.acceptUp_queue (seg : Nat) (f : LaneFrame) :
    ((s.acceptUp seg f).2.seg seg).queue = (s.seg seg).queue := by
  rw [State.acceptUp_seg, State.turnDone_seg]

end Sys2Proof.Machine
end

section
/-! PROOFS. The end of a session: what it may change, said once for every operation that has a part in it (R216, R217, R222). -/

namespace Sys2Proof.Machine

/-- What the end of a session may change: sessions, cells, slots and leases, its segment's lists, and the counters of outcomes
and of slots, whose index is at most 4. -/
structure State.EndsSession (s s' : State) : Prop where
  frame : s' = { s with lane := { s.lane with segs := s'.lane.segs }, sea := s'.sea, fare := s'.fare, stat := s'.stat }
  turn : ∀ g, (s'.seg g).turn = (s.seg g).turn
  counter : ∀ g n i, 4 < i → i < 32 → s'.counter g n i = s.counter g n i

/-- A part of a session's end that fixes no outcome. -/
structure State.TidiesUp (s s' : State) : Prop extends State.EndsSession s s' where
  ended : ∀ l, Say.ended s' l = Say.ended s l

theorem State.EndsSession.trans {a b c : State} (h1 : a.EndsSession b) (h2 : b.EndsSession c) : a.EndsSession c where
  frame := by rw [h2.frame, h1.frame]
  turn g := (h2.turn g).trans (h1.turn g)
  counter g n i h h' := (h2.counter g n i h h').trans (h1.counter g n i h h')

theorem State.TidiesUp.trans {a b c : State} (h1 : a.TidiesUp b) (h2 : b.TidiesUp c) : a.TidiesUp c where
  toEndsSession := h1.toEndsSession.trans h2.toEndsSession
  ended l := (h2.ended l).trans (h1.ended l)

variable (s : State)

theorem State.EndsSession.of_modSes (l : Nat) (f : Session → Session) : s.EndsSession (s.modSes l f) :=
  ⟨rfl, fun _ => rfl, fun _ _ _ _ _ => rfl⟩

theorem State.TidiesUp.refl : s.TidiesUp s := ⟨⟨rfl, fun _ => rfl, fun _ _ _ _ _ => rfl⟩, fun _ => rfl⟩

theorem State.TidiesUp.of_modSea (f : Sea → Sea) : s.TidiesUp (s.modSea f) :=
  ⟨⟨rfl, fun _ => rfl, fun _ _ _ _ _ => rfl⟩, fun _ => rfl⟩

theorem State.TidiesUp.of_await (w : Work) (c : Caste) : s.TidiesUp (s.await w c) := .of_modSea s _

theorem State.TidiesUp.of_modSes (l : Nat) (f : Session → Session)
    (hf : ∀ x, (f x).outcome = x.outcome ∧ (f x).reason = x.reason) : s.TidiesUp (s.modSes l f) where
  toEndsSession := .of_modSes s l f
  ended k := by
    by_cases h : k = l
    · subst h
      simp [Say.ended, Function.comp_def, hf]
    · simp [Say.ended, s.ses_modSes_ne f h]

theorem State.TidiesUp.of_modSeg (n : Nat) (f : Seg → Seg) (hf : ∀ g, (f g).turn = g.turn) : s.TidiesUp (s.modSeg n f) where
  frame := rfl
  turn k := by
    by_cases h : k = n
    · subst h
      simp [hf]
    · simp [s.seg_modSeg_ne f h]
  counter _ _ _ _ _ := rfl
  ended _ := rfl

theorem State.TidiesUp.of_count (g n : Nat) {i : Nat} (hi : i ≤ 4) : s.TidiesUp (s.count g n i) where
  frame := by rw [State.count_frame]
  turn := by simp
  counter g' n' i' h h' := State.counter_count_ne s (by unfold statKey; omega)
  ended l := by simp [Say.ended]

/-! ### The parts -/

theorem State.admitTap_tidies (lane : Nat) : s.TidiesUp (s.admitTap lane) := by
  unfold State.admitTap
  exact ((State.TidiesUp.of_modSes s lane _ (by simp)).trans (.of_modSeg _ _ _ (by simp))).trans (.of_await _ _ _)

theorem State.admitNext_tidies (seg : Nat) : s.TidiesUp (s.admitNext seg) := by
  unfold State.admitNext
  split
  · split
    · exact (State.TidiesUp.of_modSeg s _ _ (by simp)).trans (State.admitTap_tidies _ _)
    · exact .refl s
  · exact .refl s

theorem State.leaveSeg_tidies (lane : Nat) : s.TidiesUp (s.leaveSeg lane) := by
  unfold State.leaveSeg
  dsimp only
  split
  · exact (State.TidiesUp.of_modSeg s _ _ (by simp)).trans (State.admitNext_tidies _ _)
  · exact .of_modSeg s _ _ (by simp)

theorem State.countOutcome_tidies (lane : Nat) (o : Outcome8) : s.TidiesUp (s.countOutcome lane o) :=
  (State.TidiesUp.of_count s 1 lane (by cases o <;> decide)).trans (.of_modSes _ _ _ (by simp))

theorem State.stampDecision_tidies (lane : Nat) : s.TidiesUp (s.stampDecision lane) := .of_modSes s _ _ (by simp)

theorem State.queueDecision_tidies (lane type : Nat) : s.TidiesUp (s.queueDecision lane type) := by
  unfold State.queueDecision
  split
  · exact .of_modSeg s _ _ (by simp)
  · exact .refl s

theorem State.drainSlot_tidies (n : Nat) : s.TidiesUp (s.drainSlot n) := by
  unfold State.drainSlot
  split
  · exact .of_modSea s _
  · exact .refl s

theorem State.leaveCell_tidies (lane : Nat) (x : Session) : s.TidiesUp (s.leaveCell lane x true) := by
  have hleft := (State.TidiesUp.of_modSea s _).trans (.of_modSea _ _) (c := (s.dropWork (.session lane)).unwait (.session lane))
  unfold State.leaveCell
  dsimp only
  split
  · exact (hleft.trans (.of_modSea _ _)).trans (State.drainSlot_tidies _ _)
  · exact hleft

/-! ### The whole -/

/-- The session's outcome fixed and its record waiting for the Ledger, before what the outcome itself asks for. -/
def State.fixOutcome (lane : Nat) (o : Outcome8) (reason prompt : Nat) (frame : Bool) (x : Session) : State :=
  ((s.leaveCell lane x true).modSes lane (fun y =>
    { y with outcome := some o, reason, prompt := if frame then prompt else 0, frame, phase := .sealing, queued := none
             awaiting := none, sealBy := some ((s.leaveCell lane x true).now + 8000000) })).await (.sealing lane) .ledger

theorem State.fixOutcome_ends (lane : Nat) (o : Outcome8) (reason prompt : Nat) (frame : Bool) (x : Session) :
    s.EndsSession (s.fixOutcome lane o reason prompt frame x) := by
  unfold State.fixOutcome
  exact ((s.leaveCell_tidies lane x).toEndsSession.trans (.of_modSes _ _ _)).trans (State.TidiesUp.of_await _ _ _).toEndsSession

theorem State.fixOutcome_ended {lane : Nat} {y : Session} (h : s.ses lane = some y) (o : Outcome8) (reason prompt : Nat)
    (frame : Bool) (x : Session) : Say.ended (s.fixOutcome lane o reason prompt frame x) lane = some (some o, reason) := by
  have hleft := (State.leaveCell_tidies s lane x).ended lane
  simp only [Say.ended, h, Option.map_some, Option.map_eq_some_iff] at hleft
  obtain ⟨z, hz, -⟩ := hleft
  simp [Say.ended, State.fixOutcome, hz]

/-- Once the outcome is fixed, the rest of a session's end leaves every outcome as it is. -/
theorem State.conclude_tidies {lane : Nat} {x : Session} (h : s.ses lane = some x) (o : Outcome8) (reason prompt : Nat)
    (frame : Bool) : (s.fixOutcome lane o reason prompt frame x).TidiesUp (s.conclude lane o reason prompt frame) := by
  have hframe (s1 : State) (type : Nat) : s1.TidiesUp (((s1.countOutcome lane o).queueDecision lane type).leaveSeg lane) :=
    ((s1.countOutcome_tidies lane o).trans (State.queueDecision_tidies _ lane type)).trans (State.leaveSeg_tidies _ lane)
  have hsilent (s1 : State) : s1.TidiesUp (((s1.countOutcome lane o).stampDecision lane).leaveSeg lane) :=
    ((s1.countOutcome_tidies lane o).trans (State.stampDecision_tidies _ lane)).trans (State.leaveSeg_tidies _ lane)
  unfold State.conclude
  rw [h]
  cases o with
  | accept => exact .refl _
  | abort => cases frame <;> [exact hsilent _; exact hframe _ _]
  | deny | refer => cases frame <;> [exact hsilent _; exact State.queueDecision_tidies _ _ _]

theorem State.conclude_ends (lane : Nat) (o : Outcome8) (reason prompt : Nat) (frame : Bool) :
    s.EndsSession (s.conclude lane o reason prompt frame) := by
  cases h : s.ses lane with
  | none => simpa [State.conclude, h] using (State.TidiesUp.refl s).toEndsSession
  | some x => exact (s.fixOutcome_ends lane o reason prompt frame x).trans (s.conclude_tidies h o reason prompt frame).toEndsSession

theorem State.conclude_ended {lane : Nat} {x : Session} (h : s.ses lane = some x) (o : Outcome8) (reason prompt : Nat)
    (frame : Bool) : Say.ended (s.conclude lane o reason prompt frame) lane = some (some o, reason) :=
  ((s.conclude_tidies h o reason prompt frame).ended lane).trans (s.fixOutcome_ended h o reason prompt frame x)

theorem State.abortSes_ends (lane reason : Nat) : s.EndsSession (s.abortSes lane reason) := by
  have hrefl := (State.TidiesUp.refl s).toEndsSession
  unfold State.abortSes
  split
  · exact hrefl
  · split
    · exact hrefl
    · dsimp only
      split <;> exact (State.EndsSession.of_modSes s lane _).trans (State.conclude_ends _ _ _ _ _ _)

/-- A session without an outcome, and with no card write prepared, ends as an Abort with the reason given (R217, R222). -/
theorem State.abortSes_ended {lane : Nat} {x : Session} (h : s.ses lane = some x) (ho : x.outcome = none)
    (hp : x.prepared = false) (reason : Nat) : Say.ended (s.abortSes lane reason) lane = some (some .abort, reason) := by
  simp only [State.abortSes, h, ho, hp, Option.isSome_none, Bool.false_eq_true, ↓reduceIte]
  exact State.conclude_ended _ (by rw [State.ses_modSes_same, h]; rfl) _ _ _ _

/-- Between exchanges a session marked to abort does so at once (R26, R36). -/
theorem State.markAbort_of_idle {lane : Nat} {x : Session} (h : s.ses lane = some x) (ho : x.outcome = none)
    (hq : x.queued = none) (ha : x.awaiting = none) (reason : Nat) : s.markAbort lane reason = s.abortSes lane reason := by
  simp [State.markAbort, h, ho, hq, ha]

/-- While an exchange is under way a session is marked to abort at its end, and the rest stands (R26, R36). -/
theorem State.markAbort_of_exchange {lane : Nat} {x : Session} (h : s.ses lane = some x) (ho : x.outcome = none)
    (ha : x.awaiting.isSome = true) (hm : x.abortMark = none) (reason : Nat) :
    ∃ f : Session → Session, s.markAbort lane reason = s.modSes lane f ∧ f x = { x with abortMark := some reason } := by
  simp only [State.markAbort, h, ho, ha, Option.isSome_none, Bool.or_true, Bool.false_eq_true, ↓reduceIte]
  exact ⟨_, rfl, by simp [hm, ho]⟩

theorem State.markAbort_ends (lane reason : Nat) : s.EndsSession (s.markAbort lane reason) := by
  unfold State.markAbort
  split
  · exact (State.TidiesUp.refl s).toEndsSession
  · split
    · exact (State.TidiesUp.refl s).toEndsSession
    · split
      · exact .of_modSes s _ _
      · exact s.abortSes_ends lane reason

end Sys2Proof.Machine
end

section
/-! PROOFS. The placement of a session and the end of its budget (R24 to R26, R195, R197, R198, R201, R214). -/

namespace Sys2Proof.Machine

section
variable (s : State)

/-! ### Placement (R25, R195, R197, R198, R201) -/

@[simp] theorem State.giveWork_sea (n : Nat) (w : Work) : (s.giveWork n w).sea =
    { s.sea with
      cells := tmod s.sea.cells n {} (fun c => { c with work := c.work ++ [w], placed := s.sea.placeClock, scratchUsed := true })
      placeClock := s.sea.placeClock + 1 } := by
  simp [State.giveWork, State.modSea, State.modCell]

@[simp] theorem State.grantSlot_sea (n : Nat) (charged : Option Nat) : (s.grantSlot n charged).sea =
    { s.sea with slots := tset s.sea.slots n { state := .active, charged } } := by
  simp [State.grantSlot, State.setSlot, State.modSea]

theorem State.giveWork_frame (n : Nat) (w : Work) :
    s.giveWork n w = { s with sea := (s.giveWork n w).sea, stat := (s.giveWork n w).stat } := by
  unfold State.giveWork
  rw [State.count_frame]
  rfl

theorem State.grantSlot_frame (n : Nat) (charged : Option Nat) :
    s.grantSlot n charged = { s with sea := (s.grantSlot n charged).sea, stat := (s.grantSlot n charged).stat } := by
  unfold State.grantSlot
  rw [State.count_frame]
  rfl

/-- A session takes a cell and a slot: its work stands on the cell, the slot is ACTIVE under a lease of the cell. -/
def State.seat (lane n k : Nat) : State :=
  let s := ((s.unwait (.session lane)).giveWork n (.session lane)).grantSlot k none
  (s.lease k n (s.devN 0x06C6 * 1000) (some k)).modCell n (fun c => if c.work.length = 1 then { c with level := 3, charge := 0x3FF } else c)

theorem State.seat_frame (lane n k : Nat) :
    s.seat lane n k = { s with sea := (s.seat lane n k).sea, stat := (s.seat lane n k).stat } := by
  have hgiven := (s.unwait (.session lane)).giveWork_frame n (.session lane)
  have hgranted := ((s.unwait (.session lane)).giveWork n (.session lane)).grantSlot_frame k none
  unfold State.seat
  rw [hgranted, hgiven]
  rfl

@[simp] theorem State.seat_man (lane n k : Nat) : (s.seat lane n k).man = s.man := by rw [State.seat_frame]
@[simp] theorem State.seat_fare (lane n k : Nat) : (s.seat lane n k).fare = s.fare := by rw [State.seat_frame]

theorem State.seat_slot (lane n k : Nat) : (s.seat lane n k).slot k = { state := .active, charged := none } := by
  simp [State.seat, State.slot, State.modCell, State.lease, State.modSea]

theorem State.seat_slot_ne (lane n : Nat) {k j : Nat} (h : j ≠ k) : (s.seat lane n k).slot j = s.slot j := by
  simp [State.seat, State.slot, State.modCell, State.lease, State.modSea, State.unwait, h.symm]

theorem State.seat_work (lane n k : Nat) : ((s.seat lane n k).cell n).work = (s.cell n).work ++ [.session lane] := by
  simp only [State.seat, State.cell, State.modCell, State.lease, State.modSea, State.unwait, State.grantSlot_sea,
    State.giveWork_sea, tget_tmod_same]
  split <;> rfl

theorem State.seat_cell_ne (lane k : Nat) {n j : Nat} (h : j ≠ n) : (s.seat lane n k).cell j = s.cell j := by
  simp [State.seat, State.cell, State.modCell, State.lease, State.modSea, State.unwait, h.symm]

theorem State.seat_lease (lane n k : Nat) :
    (tfind (s.seat lane n k).sea.leases k).map (fun l => (l.holder, l.slot)) = some (n, some k) := by
  simp [State.seat, State.modCell, State.lease, State.modSea, State.unwait]

/-- A session that waits for a cell, and goes first, is seated where there are a cell and a slot for it. -/
theorem State.placeSession_of_room {lane n k : Nat} {x : Session} (hx : s.ses lane = some x) (hp : x.phase = .placing)
    (hs : s.placing = true) (hf : s.sessionFirst lane = true) (hn : s.bestCell .validator true = some n)
    (hk : s.freeSlotNo = some k) : s.placeSession lane = (s.seat lane n k).modSes lane (fun x =>
      { x with cell := some n, slot := some k, cfg := (s.seat lane n k).man.cur, laneCap := (s.seat lane n k).laneCapOf lane
               phase := if x.barcode then .verifying else .running }) := by
  simp [State.placeSession, State.seat, hx, hp, hs, hf, hn, hk]

/-- Without a cell, or a slot, or within 1 ms of a reset of the Drover, a session waits on (R25, R214). -/
theorem State.placeSession_of_no_room {lane : Nat}
    (h : s.bestCell .validator true = none ∨ s.freeSlotNo = none ∨ s.placing = false) : s.placeSession lane = s := by
  unfold State.placeSession
  split
  · rfl
  · split
    · rfl
    · next hgo =>
      have hplacing : s.placing = true := by simp_all
      split
      · next hn hk => simp [hn, hk, hplacing] at h
      · rfl

/-! ### The budget's end (R25, R26) -/

theorem State.budgetOver_of_unplaced {lane : Nat} {x : Session} (hx : s.ses lane = some x) (ho : x.outcome = none)
    (hc : x.cell = none) : s.budgetOver lane = s.abortSes lane 0x35 := by
  simp [State.budgetOver, hx, ho, hc]

theorem State.budgetOver_of_placed {lane : Nat} {x : Session} (hx : s.ses lane = some x) (ho : x.outcome = none)
    (hc : x.cell.isSome = true) : s.budgetOver lane = s.markAbort lane 0x34 := by
  simp only [State.budgetOver, hx, ho]
  simp [Option.isSome_iff_ne_none.mp hc]

end

theorem exec_placement_session (t lane : Nat) (s : State) :
    exec (.placement t (.session lane)) s = .next ((s.tick t).placeSession lane) := rfl

theorem exec_sessionBudgetExpired (t : Nat) {lane : Nat} {s : State} {x : Session} (hx : s.ses lane = some x) :
    exec (.sessionBudgetExpired t lane) s = .next ((s.tick (max t x.budget)).budgetOver lane) := by
  simp [exec, execSessionBudgetExpired, hx]

theorem exec_placementRetry_before {t lane : Nat} {s : State} {x : Session} (hx : s.ses lane = some x)
    (hp : x.phase = .placing) (hb : (s.tick t).now < x.budget) :
    exec (.placementRetry t lane) s = .next ((s.tick t).placeSession lane) := by
  simp [exec, execPlacementRetry, hx, hp, Nat.not_le.mpr hb]

theorem exec_placementRetry_at {t lane : Nat} {s : State} {x : Session} (hx : s.ses lane = some x)
    (hp : x.phase = .placing) (hb : x.budget ≤ (s.tick t).now) :
    exec (.placementRetry t lane) s = .next ((s.tick t).budgetOver lane) := by
  simp [exec, execPlacementRetry, hx, hp, hb]

/-- Settles O37: a session that is seated, one that waits on, and what each does at its budget's end. -/
theorem sessionsPlaced : Obligations.SessionsPlaced := by
  intro t lane s x hx ho s0 s2
  have hx0 : s0.ses lane = some x := by simpa [s0] using hx
  have hx2 : s2.ses lane = some x := by simpa [s2] using hx
  refine ⟨?placed, ?waits, ?retried, ?unplaced, ?idle, ?exchange, ?drover⟩
  case placed =>
    intro n k c hc hp hs hf hn hk
    have hplaced := s0.placeSession_of_room hx0 hp (by simpa [State.placing, s0] using hs) (by simpa [s0] using hf)
      (by simpa [s0] using hn) (by simpa [s0] using hk)
    have hexec : exec c s = .next (s0.placeSession lane) := by
      obtain rfl | ⟨rfl, hb⟩ := hc
      · exact exec_placement_session t lane s
      · exact exec_placementRetry_before hx hp hb
    rw [hplaced] at hexec
    have hses : (s0.seat lane n k).ses lane = some x := (State.ses_of_fare (by simp) lane).trans hx0
    refine ⟨_, _, hexec, by rw [State.ses_modSes_same, hses]; rfl, rfl, rfl, ?_, rfl, ?_, ?_, s0.seat_lease lane n k, ?_, ?_, ?_, ?_⟩
    · simp [s0]
    · exact (s0.seat_work lane n k).trans (by simp [s0])
    · exact s0.seat_slot lane n k
    · exact fun j hj => (s0.seat_slot_ne lane n hj).trans (by simp [s0])
    · exact fun j hj => (s0.seat_cell_ne lane k hj).trans (by simp [s0])
    · exact fun j hj => by rw [State.ses_modSes_ne _ _ hj, State.ses_of_fare (s0.seat_fare lane n k), State.tick_ses]
    · simp only [State.modSes, State.modFare]
      rw [State.seat_frame]
  case waits =>
    intro hp h
    have hwait : s0.placeSession lane = s0 := s0.placeSession_of_no_room (by simpa [State.placing, s0] using h)
    exact (exec_placement_session t lane s).trans (congrArg Host.Outcome.next hwait)
  case retried =>
    intro hp hc hprep hb
    refine ⟨_, exec_placementRetry_at hx hp hb, ?_⟩
    rw [s0.budgetOver_of_unplaced hx0 ho hc]
    exact s0.abortSes_ended hx0 ho hprep 0x35
  case unplaced =>
    intro hc hprep
    refine ⟨_, exec_sessionBudgetExpired t hx, ?_⟩
    rw [s2.budgetOver_of_unplaced hx2 ho hc]
    exact ⟨s2.abortSes_ended hx2 ho hprep 0x35, by rw [(s2.abortSes_ends lane 0x35).frame]⟩
  case idle =>
    intro hc hprep hq ha
    refine ⟨_, exec_sessionBudgetExpired t hx, ?_⟩
    rw [s2.budgetOver_of_placed hx2 ho hc, s2.markAbort_of_idle hx2 ho hq ha]
    exact s2.abortSes_ended hx2 ho hprep 0x34
  case exchange =>
    intro hc ha hm
    refine ⟨_, exec_sessionBudgetExpired t hx, ?_⟩
    obtain ⟨f, hmark, hfx⟩ := s2.markAbort_of_exchange hx2 ho ha hm 0x34
    rw [s2.budgetOver_of_placed hx2 ho hc, hmark]
    refine ⟨by rw [State.ses_modSes_same, hx2, Option.map_some, hfx], fun j hj => ?_, ?_⟩
    · simp [State.ses_modSes_ne _ f hj, s2]
    · simp [State.modSes, State.modFare, s2]
  case drover =>
    refine ⟨s0.suspendDrover, rfl, ?_, ?_⟩
    · simp [State.placing, State.suspendDrover, State.modSea]
    · simp [State.suspendDrover, State.modSea, s0]

end Sys2Proof.Machine
end

section
/-! PROOFS. The frames that the units send (R24, R36 to R38, R167, R169, R172, R177, R220 to R222, R435, R548). -/

namespace Sys2Proof.Machine

/-! ### A new tap (R24, R167) -/

section
variable (s : State)

theorem State.ses_putSes_same (l : Nat) (x : Session) :
    (s.modFare (fun a => { a with sessions := tset a.sessions l x })).ses l = some x := by
  simp [State.ses, State.modFare]

theorem State.ses_putSes_ne {l k : Nat} (x : Session) (h : k ≠ l) :
    (s.modFare (fun a => { a with sessions := tset a.sessions l x })).ses k = s.ses k := by
  simp [State.ses, State.modFare, h.symm]

theorem State.ses_admitTap (l k : Nat) : (s.admitTap l).ses k = (s.modSes l (fun x => { x with phase := .placing })).ses k := rfl

theorem State.seg_admitTap (l : Nat) : (s.admitTap l).seg (laneSeg l) =
    { s.seg (laneSeg l) with active := (s.seg (laneSeg l)).active ++ [l] } := by
  simp [State.admitTap]

/-- A card tap begins a session with its stamp and its budget, admitted while fewer than four are active and queued otherwise. -/
theorem State.newTap_card {lane : Nat} {b : List Byte} (hb : byteAt b 0 ≠ 3) :
    let s' := s.newTap lane b
    let g := s.seg (laneSeg lane)
    (∃ x, s'.ses lane = some x ∧ x.tapSec = s.servedSec ∧ x.tapNs = s.servedNs ∧ x.kind = byteAt b 0 ∧
      x.uid = slice b 2 (byteAt b 1) ∧ x.budget = s.now + 180000000 ∧ x.outcome = none) ∧
    (∀ k, k ≠ lane → s'.ses k = s.ses k) ∧ s'.counter 1 lane 0 = min statMax (s.counter 1 lane 0 + 1) ∧ s'.out = s.out ∧
    s'.lane.units = s.lane.units ∧
    s'.seg (laneSeg lane) = if g.active.length < 4 then { g with active := g.active ++ [lane] }
      else { g with queue := g.queue ++ [lane] } := by
  intro s' g
  have hcard : (byteAt b 0 == 3) = false := by simpa using hb
  simp only [s', g, State.newTap, Session.barcode, hcard, Bool.false_eq_true, ↓reduceIte, State.seg_modFare, State.seg_count]
  split
  · refine ⟨⟨_, by rw [State.ses_admitTap, State.ses_modSes_same, State.ses_putSes_same]; rfl, ?_⟩, ?_, ?_, ?_, ?_, ?_⟩
    · simp [State.servedSec, State.servedNs]
    · intro k hk
      rw [State.ses_admitTap, State.ses_modSes_ne _ _ hk, State.ses_putSes_ne _ _ hk, State.ses_count]
    · exact s.counter_count_same 1 lane 0
    · exact s.count_out 1 lane 0 1
    · change (s.count 1 lane 0).lane.units = s.lane.units
      rw [State.count_lane]
    · simp [State.seg_admitTap]
  · refine ⟨⟨_, by rw [State.ses_modSeg, State.ses_putSes_same], ?_⟩, ?_, ?_, ?_, ?_, ?_⟩
    · simp [State.servedSec, State.servedNs]
    · intro k hk
      rw [State.ses_modSeg, State.ses_putSes_ne _ _ hk, State.ses_count]
    · exact s.counter_count_same 1 lane 0
    · exact s.count_out 1 lane 0 1
    · change (s.count 1 lane 0).lane.units = s.lane.units
      rw [State.count_lane]
    · simp
end

/-- A barcode tap begins its transfer with its stamp, its budget and its first bytes (R167). -/
theorem State.newTap_barcode (s : State) {lane : Nat} {b : List Byte} (hb : byteAt b 0 = 3) :
    (∃ x, (s.newTap lane b).ses lane = some x ∧ x.tapSec = s.servedSec ∧ x.tapNs = s.servedNs ∧ x.ticket = b.drop 24 ∧
      x.totalLen = beNat (slice b 2 2) ∧ x.budget = s.now + 60000000 ∧ x.outcome = none) ∧
    ∀ k, k ≠ lane → (s.newTap lane b).ses k = s.ses k := by
  simp only [State.newTap, Session.barcode, hb, beq_self_eq_true, ↓reduceIte]
  split
  · refine ⟨⟨_, by rw [State.ses_putSes_same], ?_⟩, fun k hk => by rw [State.ses_putSes_ne _ _ hk, State.ses_count]⟩
    simp [State.servedSec, State.servedNs]
  · refine ⟨⟨_, by rw [State.ses_await, State.ses_putSes_same], ?_⟩, fun k hk => by
      rw [State.ses_await, State.ses_putSes_ne _ _ hk, State.ses_count]⟩
    simp [State.servedSec, State.servedNs]

theorem sent_of_out {s s' : State} {seg addr type seq : Nat} {retry : Bool} {b : List Byte} (h : s'.out = s.out)
    (hs : Say.sent s seg addr type seq retry b) : Say.sent s' seg addr type seq retry b := by
  unfold Say.sent at hs ⊢
  rwa [h]

/-! ### TAP_RECEIVED and CONT_RECEIVED (R24, R36 to R38, R167, R169) -/

/-- A frame of a unit that its segment's turn invites, and that does not repeat the SEQ accepted last. -/
structure FreshFrame (s : State) (seg : Nat) (f : LaneFrame) : Prop where
  seg_le : seg ≤ 7
  addr_pos : 1 ≤ f.addr
  addr_le : f.addr ≤ 16
  invited : s.invites seg (laneOf seg f.addr) = true
  unseen : (s.unit (laneOf seg f.addr)).rxSeq ≠ some f.seq

/-- The frame names a segment and a unit. -/
theorem FreshFrame.named {s : State} {seg : Nat} {f : LaneFrame} (h : FreshFrame s seg f) :
    ¬(7 < seg ∨ f.addr = 0 ∨ 16 < f.addr) := by
  obtain ⟨hs, h1, h16, -, -⟩ := h
  omega

theorem FreshFrame.new {s : State} {seg : Nat} {f : LaneFrame} (h : FreshFrame s seg f) (t : Nat) :
    ((s.tick t).acceptUp seg f).1 = true := by
  simpa [State.acceptUp_new] using h.unseen

section
variable {t seg : Nat} {f : LaneFrame} {s : State}

theorem exec_tapReceived_of_emg (hs : seg ≤ 7) (h1 : 1 ≤ f.addr) (h16 : f.addr ≤ 16) (he : s.lane.emg = true) :
    exec (.tapReceived t seg f) s = .next ((s.tick t).count 1 (laneOf seg f.addr) 8) := by
  have hnamed : ¬(7 < seg ∨ f.addr = 0 ∨ 16 < f.addr) := by omega
  simp [exec, execTapReceived, hnamed, he]

theorem exec_tapReceived_of_uninvited (he : s.lane.emg = false) (hi : s.invites seg (laneOf seg f.addr) = false) :
    exec (.tapReceived t seg f) s = .next (s.tick t) := by
  simp [exec, execTapReceived, he, hi]

theorem exec_tapReceived_of_repeat (hs : seg ≤ 7) (h1 : 1 ≤ f.addr) (h16 : f.addr ≤ 16) (he : s.lane.emg = false)
    (hi : s.invites seg (laneOf seg f.addr) = true) (hr : (s.unit (laneOf seg f.addr)).rxSeq = some f.seq) :
    exec (.tapReceived t seg f) s = .next ((s.tick t).acceptUp seg f).2 := by
  have hnamed : ¬(7 < seg ∨ f.addr = 0 ∨ 16 < f.addr) := by omega
  have hold : ((s.tick t).acceptUp seg f).1 = false := by simp [State.acceptUp_new, hr]
  simp [exec, execTapReceived, hnamed, he, hi, hold]

theorem exec_tapReceived_of_bad (h : FreshFrame s seg f) (he : s.lane.emg = false)
    (hok : tapOk (!(s.seg seg).active.isEmpty) f.payload = false) :
    exec (.tapReceived t seg f) s = .next (((s.tick t).acceptUp seg f).2.count 2 seg 8) := by
  simp [exec, execTapReceived, h.named, he, h.invited, h.new, hok]

theorem exec_tapReceived_of_busy (h : FreshFrame s seg f) (he : s.lane.emg = false)
    (hok : tapOk (!(s.seg seg).active.isEmpty) f.payload = true) (hx : (s.ses (laneOf seg f.addr)).isSome = true) :
    exec (.tapReceived t seg f) s = .next (((s.tick t).acceptUp seg f).2.count 1 (laneOf seg f.addr) 6) := by
  simp [exec, execTapReceived, h.named, he, h.invited, h.new, hok, hx]

theorem exec_tapReceived_of_unbound (h : FreshFrame s seg f) (he : s.lane.emg = false)
    (hok : tapOk (!(s.seg seg).active.isEmpty) f.payload = true) (hx : s.ses (laneOf seg f.addr) = none)
    (hb : tmem s.cfg.lanes (laneOf seg f.addr) = false) :
    exec (.tapReceived t seg f) s = .next (((s.tick t).acceptUp seg f).2.count 1 (laneOf seg f.addr) 7) := by
  simp [exec, execTapReceived, h.named, he, h.invited, h.new, hok, hx, hb]

theorem exec_tapReceived_of_new (h : FreshFrame s seg f) (he : s.lane.emg = false)
    (hok : tapOk (!(s.seg seg).active.isEmpty) f.payload = true) (hx : s.ses (laneOf seg f.addr) = none)
    (hb : tmem s.cfg.lanes (laneOf seg f.addr) = true) :
    exec (.tapReceived t seg f) s = .next (((s.tick t).acceptUp seg f).2.newTap (laneOf seg f.addr) f.payload) := by
  simp [exec, execTapReceived, h.named, he, h.invited, h.new, hok, hx, hb]

variable {x : Session}

theorem exec_contReceived_of_bad (h : FreshFrame s seg f) (hx : s.ses (laneOf seg f.addr) = some x) (hp : x.phase = .transfer)
    (ho : x.outcome = none)
    (hok : contOk (!(s.seg seg).active.isEmpty) f.payload x.ticket.length x.totalLen = false) :
    exec (.contReceived t seg f) s =
      .next ((((s.tick t).acceptUp seg f).2.count 2 seg 8).abortSes (laneOf seg f.addr) 0x3A) := by
  simp [exec, execContReceived, h.named, h.invited, h.new, hx, hp, ho, hok]

theorem exec_contReceived_of_more (h : FreshFrame s seg f) (hx : s.ses (laneOf seg f.addr) = some x) (hp : x.phase = .transfer)
    (ho : x.outcome = none)
    (hok : contOk (!(s.seg seg).active.isEmpty) f.payload x.ticket.length x.totalLen = true)
    (hlast : (x.ticket ++ f.payload.drop 8).length < x.totalLen) :
    exec (.contReceived t seg f) s = .next (((s.tick t).acceptUp seg f).2.modSes (laneOf seg f.addr)
      (fun y => { y with ticket := x.ticket ++ f.payload.drop 8 })) := by
  rw [List.length_append, List.length_drop] at hlast
  simp [exec, execContReceived, h.named, h.invited, h.new, hx, hp, ho, hok, hlast]

theorem exec_contReceived_of_last (h : FreshFrame s seg f) (hx : s.ses (laneOf seg f.addr) = some x) (hp : x.phase = .transfer)
    (ho : x.outcome = none)
    (hok : contOk (!(s.seg seg).active.isEmpty) f.payload x.ticket.length x.totalLen = true)
    (hlast : ¬(x.ticket ++ f.payload.drop 8).length < x.totalLen) :
    exec (.contReceived t seg f) s = .next ((((s.tick t).acceptUp seg f).2.modSes (laneOf seg f.addr)
      (fun y => { y with ticket := x.ticket ++ f.payload.drop 8, phase := .placing })).await
        (.session (laneOf seg f.addr)) .validator) := by
  rw [List.length_append, List.length_drop] at hlast
  simp [exec, execContReceived, h.named, h.invited, h.new, hx, hp, ho, hok, hlast]

/-- A continuation in its place adds its bytes to the ticket; with the last the session waits for a cell. -/
theorem contReceived_session (h : FreshFrame s seg f) (hx : s.ses (laneOf seg f.addr) = some x) (hp : x.phase = .transfer)
    (ho : x.outcome = none)
    (hok : contOk (!(s.seg seg).active.isEmpty) f.payload x.ticket.length x.totalLen = true) :
    ∃ s' y, exec (.contReceived t seg f) s = .next s' ∧ s'.ses (laneOf seg f.addr) = some y ∧
      y.ticket = x.ticket ++ f.payload.drop 8 ∧ y.phase = (if y.ticket.length < x.totalLen then .transfer else .placing) ∧
      ∀ k, k ≠ laneOf seg f.addr → s'.ses k = s.ses k := by
  have hx1 : ((s.tick t).acceptUp seg f).2.ses (laneOf seg f.addr) = some x := by simpa using hx
  by_cases hlast : (x.ticket ++ f.payload.drop 8).length < x.totalLen
  · refine ⟨_, _, exec_contReceived_of_more h hx hp ho hok hlast, by rw [State.ses_modSes_same, hx1]; rfl, rfl, ?_, fun k hk => ?_⟩
    · rw [if_pos hlast]
      exact hp
    · simp [State.ses_modSes_ne _ _ hk]
  · refine ⟨_, _, exec_contReceived_of_last h hx hp ho hok hlast, by rw [State.ses_await, State.ses_modSes_same, hx1]; rfl, rfl,
      (if_neg hlast).symm, fun k hk => ?_⟩
    simp [State.ses_modSes_ne _ _ hk]

end

/-- The taps and the continuations of a barcode that the units send, each at its place and out of it. -/
theorem tapsReceived : Say.tapsReceivedSay := by
  intro t seg f s hs h1 h16 s0 lane limited fresh
  have hseg : laneSeg lane = seg := laneSeg_laneOf seg h1 h16
  have hframe (h : fresh) : FreshFrame s seg f := ⟨hs, h1, h16, h.2.1, h.2.2⟩
  refine ⟨?emergency, fun he hi => exec_tapReceived_of_uninvited he hi, ?again, ?badTap, ?busy, ?unbound, ?card, ?barcode,
    fun x hf hx hp ho hok => contReceived_session (hframe hf) hx hp ho hok, ?badCont⟩
  case emergency =>
    exact fun he => ⟨_, exec_tapReceived_of_emg hs h1 h16 he, (State.counter_count_same _ 1 lane 8).trans (by simp),
      State.count_frame _ _ _ _⟩
  case again =>
    exact fun he hi hr => ⟨_, exec_tapReceived_of_repeat hs h1 h16 he hi hr, State.acceptUp_sent _ seg f, by simp, by simp, by simp⟩
  case badTap =>
    intro hf hok
    exact ⟨_, exec_tapReceived_of_bad (hframe hf) hf.1 hok, sent_of_out (by simp [s0]) (s0.acceptUp_sent seg f),
      (State.counter_count_same _ 2 seg 8).trans (by simp), by simp⟩
  case busy =>
    intro hf hok hx
    exact ⟨_, exec_tapReceived_of_busy (hframe hf) hf.1 hok hx, (State.counter_count_same _ 1 lane 6).trans (by simp), by simp⟩
  case unbound =>
    intro hf hok hx hb
    exact ⟨_, exec_tapReceived_of_unbound (hframe hf) hf.1 hok hx hb, (State.counter_count_same _ 1 lane 7).trans (by simp), by simp⟩
  case card =>
    intro hf hok hx hb hkind
    obtain ⟨⟨x, hses, hsec, hns, hk, huid, hbudget, hout⟩, hothers, hcount, hsent, hunits, hnext⟩ :=
      (s0.acceptUp seg f).2.newTap_card (lane := lane) hkind
    rw [hseg] at hnext
    refine ⟨_, x, exec_tapReceived_of_new (hframe hf) hf.1 hok hx hb, hses, ?_, ?_, hk, huid, ?_, hout,
      sent_of_out hsent (s0.acceptUp_sent seg f), ?_, ?_, ?_, ?_, hcount.trans (by simp [s0]), ?_⟩
    · simpa [State.servedSec] using hsec
    · simpa [State.servedNs] using hns
    · simpa using hbudget
    · exact (congrArg (fun u => (tget u lane {}).rxSeq) hunits).trans (s0.acceptUp_rxSeq seg f)
    · rw [hnext]
      split <;> simp
    · intro hroom
      rw [hnext, if_pos (by simpa [s0] using hroom)]
      simp [s0]
    · intro hfull
      rw [hnext, if_neg (by simpa [s0] using hfull)]
      simp [s0]
    · exact fun k hk => (hothers k hk).trans (by simp [s0])
  case barcode =>
    intro hf hok hx hb hkind
    obtain ⟨⟨x, hses, hsec, hns, hticket, htotal, hbudget, hout⟩, hothers⟩ :=
      (s0.acceptUp seg f).2.newTap_barcode (lane := lane) hkind
    refine ⟨_, x, exec_tapReceived_of_new (hframe hf) hf.1 hok hx hb, hses, ?_, ?_, hticket, htotal, ?_, hout, ?_⟩
    · simpa [State.servedSec] using hsec
    · simpa [State.servedNs] using hns
    · simpa using hbudget
    · exact fun k hk => (hothers k hk).trans (by simp [s0])
  case badCont =>
    intro x hf hx hp ho hprep hok
    refine ⟨_, exec_contReceived_of_bad (hframe hf) hx hp ho hok, ?_, ?_⟩
    · exact State.abortSes_ended _ (by simpa using hx) ho hprep 0x3A
    · rw [(State.abortSes_ends _ lane 0x3A).counter 2 seg 8 (by decide) (by decide)]
      simp

end Sys2Proof.Machine
end

section
/-! PROOFS. The replies of the units: ACK, NIL, APDU_R and ECHO_R (R169, R172, R177, R220 to R222, R435, R548). -/

namespace Sys2Proof.Machine

section
variable {t seg addr seq : Nat} {s : State}

/-! ### ACK_RECEIVED (R169, R172) -/

/-- The reply that frees a unit's outstanding frame: the turn ends, and the frame is no longer kept. -/
def State.frameFreed (s : State) (seg lane : Nat) : State :=
  (s.turnEnded seg lane).modUnit lane (fun u => { u with outstanding := none })

theorem State.frameFreed_seg (s : State) (seg lane : Nat) :
    (s.frameFreed seg lane).seg seg = { s.seg seg with turn := none, retrying := false } := s.turnEnded_seg seg lane

theorem State.frameFreed_seg_ne (s : State) {seg k : Nat} (lane : Nat) (h : k ≠ seg) :
    (s.frameFreed seg lane).seg k = s.seg k := s.turnEnded_seg_ne lane h

theorem State.frameFreed_unit (s : State) (seg lane : Nat) :
    (s.frameFreed seg lane).unit lane = { s.unit lane with outstanding := none, fails := 0 } := by
  simp [State.frameFreed]

theorem State.frameFreed_unit_ne (s : State) (seg : Nat) {lane k : Nat} (h : k ≠ lane) :
    (s.frameFreed seg lane).unit k = s.unit k :=
  (State.unit_modUnit_ne _ _ h).trans (s.turnEnded_unit_ne seg h)

@[simp] theorem State.ses_frameFreed (s : State) (seg lane l : Nat) : (s.frameFreed seg lane).ses l = s.ses l := rfl

theorem State.frameFreed_frame (s : State) (seg lane : Nat) :
    s.frameFreed seg lane = { s with lane := (s.frameFreed seg lane).lane } := rfl

theorem exec_ackReceived_of_decision {d : Decision} {fr : LFrame} (hs : seg ≤ 7) (h1 : 1 ≤ addr) (h16 : addr ≤ 16)
    (ht : (s.seg seg).turn = some (.decision d)) (hd : d.lane = laneOf seg addr)
    (ho : (s.unit (laneOf seg addr)).outstanding = some fr) (hq : fr.seq = seq) :
    exec (.ackReceived t seg addr seq) s = .next ((s.tick t).frameFreed seg (laneOf seg addr)) := by
  have hnamed : ¬(7 < seg ∨ addr = 0 ∨ 16 < addr) := by omega
  have hdone := (s.tick t).turnDone_of_not_probe (seg := seg) (laneOf seg addr) (by simp [ht])
  simp [exec, execAckReceived, hnamed, ht, hd, ho, hq, hdone, State.frameFreed]

theorem exec_ackReceived_of_apdu {fr : LFrame} (hs : seg ≤ 7) (h1 : 1 ≤ addr) (h16 : addr ≤ 16)
    (ht : (s.seg seg).turn = some (.apdu (laneOf seg addr)))
    (ho : (s.unit (laneOf seg addr)).outstanding = some fr) (hq : fr.seq = seq) :
    exec (.ackReceived t seg addr seq) s = .next (((s.tick t).frameFreed seg (laneOf seg addr)).modSes (laneOf seg addr)
      (fun x => { x with queued := none, awaiting := x.queued.map (fun q => (x.xseq, q.1, some (s.tick t).now)) })) := by
  have hnamed : ¬(7 < seg ∨ addr = 0 ∨ 16 < addr) := by omega
  have hdone := (s.tick t).turnDone_of_not_probe (seg := seg) (laneOf seg addr) (by simp [ht])
  simp [exec, execAckReceived, hnamed, ht, ho, hq, hdone, State.frameFreed, State.turnEnded]

theorem exec_ackReceived_of_assign {x : Assign} (hs : seg ≤ 7) (h1 : 1 ≤ addr) (h16 : addr ≤ 16)
    (ht : (s.seg seg).turn = some (.assign x.identity addr)) (ha : x.address = addr) (hq : x.seq = seq)
    (hall : (s.seg seg).assigns = [x]) :
    exec (.ackReceived t seg addr seq) s = .next ((s.tick t).assigned seg x) := by
  have hnamed : ¬(7 < seg ∨ addr = 0 ∨ 16 < addr) := by omega
  simp [exec, execAckReceived, hnamed, ht, ha, hq, hall]

/-- The state after the ASSIGN's acknowledgement, before its event: the unit is PRESENT under the identity assigned. -/
theorem State.assigned_effect (s : State) (seg : Nat) (a : Assign) :
    let lane := laneOf seg a.address
    let s' := s.assigned seg a
    (s'.unit lane).state = .present ∧ (s'.unit lane).identity = a.identity ∧ (s'.unit lane).caps = a.caps ∧
      (s'.unit lane).position = a.position ∧ (s'.unit lane).txSeq = 0 ∧ (s'.unit lane).rxSeq = none ∧
      (s'.unit lane).outstanding = none ∧ (s'.seg seg).assigns = (s.seg seg).assigns.filter (· ≠ a) ∧ (s'.seg seg).turn = none ∧
      (∀ k, k ≠ lane → s'.unit k = s.unit k) ∧ s' = { s with lane := s'.lane, evt := s'.evt, out := s'.out } := by
  intro lane s'
  have hevents : s' = { s with lane := s'.lane, evt := s'.evt, out := s'.out } := by
    simp only [s', State.assigned]
    split
    · rfl
    · split <;> rw [State.identityEvent_frame] <;> rfl
  have hunits : ∀ k, k ≠ lane → s'.unit k = s.unit k := by
    intro k (hk : k ≠ laneOf seg a.address)
    simp only [s', State.assigned]
    split <;> [skip; split] <;> simp [State.unit_modUnit_ne _ _ hk]
  refine ⟨?_, ?_, ?_, ?_, ?_, ?_, ?_, ?_, ?_, hunits, hevents⟩
  all_goals
    simp only [s', lane, State.assigned]
    split <;> [skip; split] <;> simp

/-! ### NIL_RECEIVED (R177) -/

theorem exec_nilReceived_of_poll {bits : Nat} (hs : seg ≤ 7) (h1 : 1 ≤ addr) (h16 : addr ≤ 16)
    (ht : (s.seg seg).turn = some (.poll (laneOf seg addr))) :
    exec (.nilReceived t seg addr bits) s = .next (((s.tick t).turnEnded seg (laneOf seg addr)).modUnit (laneOf seg addr)
      (fun u => { u with lastNil := bits % 16 })) := by
  have hnamed : ¬(7 < seg ∨ addr = 0 ∨ 16 < addr) := by omega
  have hdone := (s.tick t).turnDone_of_not_probe (seg := seg) (laneOf seg addr) (by simp [ht])
  simp [exec, execNilReceived, hnamed, State.invites, ht, hdone]

/-! ### APDU_R_RECEIVED (R221, R222) -/

variable {f : LaneFrame} {x : Session}

theorem exec_apduRReceived_of_unawaited (h : FreshFrame s seg f) (hok : apduROk f.payload = true)
    (hx : ∀ x, s.ses (laneOf seg f.addr) = some x → x.awaiting = none) :
    exec (.apduRReceived t seg f) s = .next (((s.tick t).acceptUp seg f).2.count 1 (laneOf seg f.addr) 9) := by
  cases hses : s.ses (laneOf seg f.addr) with
  | none => simp [exec, execApduRReceived, h.named, h.invited, h.new, hok, hses]
  | some x => simp [exec, execApduRReceived, h.named, h.invited, h.new, hok, hses, hx x hses]

theorem exec_apduRReceived_of_awaited {k : ExKind} {at_ : Nat} (h : FreshFrame s seg f) (hok : apduROk f.payload = true)
    (hx : s.ses (laneOf seg f.addr) = some x) (ha : x.awaiting = some (byteAt f.payload 2, k, some at_))
    (hslot : x.slot = some (beNat (slice f.payload 0 2))) :
    exec (.apduRReceived t seg f) s =
      let s1 := ((s.tick t).acceptUp seg f).2
      let lane := laneOf seg f.addr
      let result := byteAt f.payload 3
      if result = 0 then .next (s1.exchangeDone lane k (f.payload.drop 4))
      else .next (s1.exchangeFailed lane (if result = 1 then 0x30 else if result = 2 then 0x31 else 0x32)) := by
  have hlen : 3 ≤ f.payload.length := by
    simp only [apduROk, Bool.and_eq_true, decide_eq_true_eq] at hok
    omega
  simp [exec, execApduRReceived, h.named, h.invited, h.new, hok, hx, ha, hslot, hlen]

/-! ### ECHO_R_RECEIVED (R435) -/

theorem exec_echoRReceived_of_echo {fr : LFrame} (hs : seg ≤ 7) (h1 : 1 ≤ f.addr) (h16 : f.addr ≤ 16)
    (ht : (s.seg seg).turn = some (.echo (laneOf seg f.addr))) (ho : (s.unit (laneOf seg f.addr)).outstanding = some fr)
    (hlen : f.payload.length ≤ 64) :
    exec (.echoRReceived t seg f) s =
      .next ((((s.tick t).modUnit (laneOf seg f.addr) (fun u => { u with outstanding := none })).acceptUp seg f).2.echoClose
        (laneOf seg f.addr) (f.payload != fr.payload)) := by
  have h0 : f.addr ≠ 0 := by omega
  simp [exec, execEchoRReceived, ht, ho, h0, Nat.not_lt.mpr hs, Nat.not_lt.mpr h16, Nat.not_lt.mpr hlen]

end

/-- The ACKs, NILs, APDU_Rs and ECHO_Rs of a segment's units. -/
theorem repliesReceived : Say.repliesReceivedSay := by
  intro t seg addr seq s hs h1 h16 s0 lane
  refine ⟨?decision, ?apdu, ?assign, ?nil, ?response, ?echo⟩
  case decision =>
    intro d fr ht hd ho hq
    refine ⟨_, exec_ackReceived_of_decision hs h1 h16 ht hd ho hq, ?_, ?_, fun k hk => ?_, fun k hk => ?_, s0.frameFreed_frame seg lane⟩
    · exact (s0.frameFreed_seg seg lane).trans (by simp [s0])
    · exact (s0.frameFreed_unit seg lane).trans (by simp [s0])
    · exact (s0.frameFreed_unit_ne seg hk).trans (by simp [s0])
    · exact (s0.frameFreed_seg_ne lane hk).trans (by simp [s0])
  case apdu =>
    intro fr x k b ht ho hq hx hqueued
    have hses : (s0.frameFreed seg lane).ses lane = some x := by simpa [s0] using hx
    refine ⟨_, exec_ackReceived_of_apdu hs h1 h16 ht ho hq, ?_, ?_, fun k hk => ?_, ?_⟩
    · exact (State.ses_modSes_same _ lane _).trans ((congrArg _ hses).trans (by simp [hqueued, s0]))
    · rw [State.unit_modSes, State.frameFreed_unit]
    · exact (State.ses_modSes_ne _ _ hk).trans (by simp)
    · simp only [State.modSes, State.modFare]
      rw [State.frameFreed_frame]
  case assign =>
    intro x ht ha hq hall
    obtain ⟨hstate, hid, hcaps, hpos, htx, hrx, hout, hassigns, hturn, hunits, hframe⟩ := s0.assigned_effect seg x
    rw [ha] at hstate hid hcaps hpos htx hrx hout hunits
    refine ⟨_, exec_ackReceived_of_assign hs h1 h16 ht ha hq hall, hstate, hid, hcaps, hpos, htx, hrx, hout,
      hassigns.trans (by simp [s0, hall]), hturn, fun k hk => (hunits k hk).trans (by simp [s0]), hframe⟩
  case nil =>
    intro bits ht
    refine ⟨_, exec_nilReceived_of_poll hs h1 h16 ht, ?_, ?_, ?_⟩
    · rw [State.unit_modUnit_same, State.turnEnded_unit, State.tick_unit]
    · rw [State.seg_modUnit, State.turnEnded_seg]
    · simp only [State.turnEnded, State.modUnit, State.modSeg]
      rfl
  case response =>
    intro f hf hi hn hok s1
    subst hf
    have hfresh : FreshFrame s seg f := ⟨hs, h1, h16, hi, hn⟩
    refine ⟨fun hx => ?_, fun x k at_ hx ha hslot => ?_⟩
    · exact ⟨_, exec_apduRReceived_of_unawaited hfresh hok hx, (State.counter_count_same _ 1 lane 9).trans (by simp), by simp⟩
    · have hresult := exec_apduRReceived_of_awaited (t := t) hfresh hok hx ha hslot
      refine ⟨fun hdone => ?_, fun hgone => ?_, fun hsilent => ?_, fun hother => ?_⟩
      · rw [hresult, if_pos hdone]
      · rw [hresult, if_neg (by omega), if_pos hgone]
      · rw [hresult, if_neg (by omega), if_neg (by omega), if_pos hsilent]
      · rw [hresult, if_neg (by omega), if_neg (by omega), if_neg (by omega)]
  case echo =>
    intro f fr hf ht ho hlen
    subst hf
    exact exec_echoRReceived_of_echo hs h1 h16 ht ho hlen

/-- Settles O32: the taps and continuations, and the replies, each by what its frame does in the state it meets. -/
theorem framesReceived : Obligations.FramesReceived := ⟨tapsReceived, repliesReceived⟩

end Sys2Proof.Machine
end

section
/-! PROOFS. The emergency input, FREE_EXIT and its release (R35, R36, R178 to R180). -/

namespace Sys2Proof.Machine

section
variable (s : State)

/-! ### The broadcast (R35, R179) -/

/-- FREE_EXIT stands among the outputs for a segment. -/
def FreeExitSent (clear : Nat) (s : State) (g : Nat) : Prop := ∃ q, Say.sent s g 0 0x13 q false (toBe 1 clear ++ toBe 1 0)

theorem FreeExitSent.of_out {clear g : Nat} {s s' : State} (h : s.out ⊆ s'.out) (hs : FreeExitSent clear s g) :
    FreeExitSent clear s' g := hs.imp fun _ hq => h hq

theorem State.sendZero_frame (seg type : Nat) (b : List Byte) : (s.sendZero seg type b).2 =
    { s with lane := { s.lane with segs := (s.sendZero seg type b).2.lane.segs }, out := (s.sendZero seg type b).2.out } := rfl

theorem State.sendZero_sent (seg type : Nat) (b : List Byte) : ∃ q, Say.sent (s.sendZero seg type b).2 seg 0 type q false b :=
  ⟨_, List.mem_cons_self⟩

theorem State.sendZero_out (seg type : Nat) (b : List Byte) : s.out ⊆ (s.sendZero seg type b).2.out :=
  List.subset_cons_self _ _

/-- A frame sent to the whole segment leaves the turn under way in place. -/
theorem State.sendZero_turn (seg type : Nat) (b : List Byte) (k : Nat) : ((s.sendZero seg type b).2.seg k).turn = (s.seg k).turn := by
  by_cases h : k = seg
  · subst h
    simp [State.sendZero]
  · simp [State.sendZero, State.seg_modSeg_ne _ _ h]

/-- One segment controller sends FREE_EXIT. -/
def State.sendFreeExit (clear : Bool) (s : State) (g : Nat) : State := (s.sendZero g 0x13 (toBe 1 (b2n clear) ++ toBe 1 0)).2

theorem State.freeExit_eq (clear : Bool) : s.freeExit clear =
    { (List.range 8).foldl (State.sendFreeExit clear) s with
      lane := { ((List.range 8).foldl (State.sendFreeExit clear) s).lane with
        freeExitAt := ((List.range 8).foldl (State.sendFreeExit clear) s).now } } := rfl

theorem State.freeExit_frame (clear : Bool) : s.freeExit clear =
    { s with lane := { s.lane with segs := (s.freeExit clear).lane.segs, freeExitAt := s.now }, out := (s.freeExit clear).out } := by
  have hsent := foldl_rel (fun a b : State => b = { a with lane := { a.lane with segs := b.lane.segs }, out := b.out })
    (fun _ => rfl) (fun a b c h1 h2 => by rw [h2, h1]) (State.sendFreeExit clear)
    (fun _ _ => State.sendZero_frame _ _ _ _) (List.range 8) s
  rw [State.freeExit_eq, hsent]

@[simp] theorem State.freeExit_emg (clear : Bool) : (s.freeExit clear).lane.emg = s.lane.emg := by rw [State.freeExit_frame]
@[simp] theorem State.freeExit_releasing (clear : Bool) : (s.freeExit clear).lane.releasing = s.lane.releasing := by
  rw [State.freeExit_frame]
@[simp] theorem State.freeExit_clearSent (clear : Bool) : (s.freeExit clear).lane.clearSent = s.lane.clearSent := by
  rw [State.freeExit_frame]
@[simp] theorem State.freeExit_freeExitAt (clear : Bool) : (s.freeExit clear).lane.freeExitAt = s.now := by
  rw [State.freeExit_frame]

theorem State.freeExit_turn (clear : Bool) (k : Nat) : ((s.freeExit clear).seg k).turn = (s.seg k).turn :=
  foldl_rel (fun a b : State => (b.seg k).turn = (a.seg k).turn) (fun _ => rfl) (fun _ _ _ h1 h2 => h2.trans h1)
    (State.sendFreeExit clear) (fun _ _ => State.sendZero_turn _ _ _ _ k) (List.range 8) s

/-- FREE_EXIT goes out on each of the eight segments (R179). -/
theorem State.freeExit_sent (clear : Bool) {n : Nat} (hn : b2n clear = n) :
    ∀ g, g < 8 → FreeExitSent n (s.freeExit clear) g := by
  subst hn
  intro g hg
  exact foldl_reaches (FreeExitSent (b2n clear)) (State.sendFreeExit clear)
    (fun _ _ => State.sendZero_sent _ _ _ _) (fun _ _ _ => .of_out (State.sendZero_out _ _ _ _)) (List.range 8) s g
    (List.mem_range.mpr hg)

/-! ### The turns in progress end (R36) -/

theorem State.echoCut_frame (g : Nat) : s.echoCut g =
    { s with lane := { s.lane with units := (s.echoCut g).lane.units }, test := (s.echoCut g).test } := by
  unfold State.echoCut State.modTest
  dsimp only
  have hunits := foldl_rel (fun a b : State => b = { a with lane := { a.lane with units := b.lane.units } }) (fun _ => rfl)
    (fun a b c h1 h2 => by rw [h2, h1]) (fun (s : State) l => s.modUnit l (fun u => { u with echo := none }))
    (fun _ _ => rfl) (tget s.test.echoOpen g []) s
  rw [hunits]

@[simp] theorem State.seg_echoCut (g k : Nat) : (s.echoCut g).seg k = s.seg k := by
  rw [State.echoCut_frame]
  rfl

theorem State.cutTurn_frame (g : Nat) : s.cutTurn g = { s with lane := (s.cutTurn g).lane, test := (s.cutTurn g).test } := by
  unfold State.cutTurn
  dsimp only
  split
  · rw [State.echoCut_frame]
    rfl
  · rfl

theorem State.cutTurn_turn (g : Nat) : ((s.cutTurn g).seg g).turn = none := by
  unfold State.cutTurn
  dsimp only
  split <;> simp

theorem State.cutTurn_seg_ne {g k : Nat} (h : k ≠ g) : (s.cutTurn g).seg k = s.seg k := by
  unfold State.cutTurn
  dsimp only
  split <;> simp [State.seg_modSeg_ne _ _ h]

/-- Every segment's turn cut: none is under way, and only the segments' state and the segment tests have changed. -/
theorem State.cutTurns :
    (List.range 8).foldl State.cutTurn s = { s with lane := ((List.range 8).foldl State.cutTurn s).lane
                                                    test := ((List.range 8).foldl State.cutTurn s).test } ∧
    ∀ g, g < 8 → (((List.range 8).foldl State.cutTurn s).seg g).turn = none := by
  refine ⟨?_, fun g hg => ?_⟩
  · exact foldl_rel (fun a b : State => b = { a with lane := b.lane, test := b.test }) (fun _ => rfl)
      (fun a b c h1 h2 => by rw [h2, h1]) _ (fun s g => s.cutTurn_frame g) _ s
  · refine foldl_reaches (fun (s : State) g => (s.seg g).turn = none) _ (fun s g => s.cutTurn_turn g) ?_ _ s g (List.mem_range.mpr hg)
    intro s g k hk
    by_cases h : k = g
    · exact h ▸ s.cutTurn_turn g
    · rwa [s.cutTurn_seg_ne h]

/-! ### What leaves the broadcast standing -/

/-- What was sent stays sent, the emergency path stands, and no turn begins or ends. -/
structure State.KeepsBroadcast (s s' : State) : Prop where
  lane : s'.lane = { s.lane with segs := s'.lane.segs }
  turn : ∀ g, (s'.seg g).turn = (s.seg g).turn
  out : s.out ⊆ s'.out

theorem State.KeepsBroadcast.refl : s.KeepsBroadcast s := ⟨rfl, fun _ => rfl, List.Subset.refl _⟩

theorem State.KeepsBroadcast.trans {a b c : State} (h1 : a.KeepsBroadcast b) (h2 : b.KeepsBroadcast c) : a.KeepsBroadcast c where
  lane := by rw [h2.lane, h1.lane]
  turn g := (h2.turn g).trans (h1.turn g)
  out := List.Subset.trans h1.out h2.out

theorem State.KeepsBroadcast.foldl {α : Type} (f : State → α → State) (hf : ∀ (s : State) x, s.KeepsBroadcast (f s x))
    (l : List α) : s.KeepsBroadcast (l.foldl f s) := foldl_rel _ .refl (fun _ _ _ => .trans) f hf l s

theorem State.EndsSession.keepsBroadcast {s s' : State} (h : s.EndsSession s') : s.KeepsBroadcast s' where
  lane := by rw [h.frame]
  turn := h.turn
  out := by rw [h.frame]; exact List.Subset.refl _

theorem State.raiseDev_out (code src data : Nat) (e : Option (Word × Word × Word)) :
    s.out ⊆ (s.raiseDev code src data e).out := by
  unfold State.raiseDev State.raise
  split
  · exact List.Subset.refl _
  · rw [State.raiseTo_out]
    exact List.subset_cons_self _ _

theorem State.raiseDev_keepsBroadcast (code src data : Nat) (e : Option (Word × Word × Word)) :
    s.KeepsBroadcast (s.raiseDev code src data e) where
  lane := by simp
  turn g := by rw [State.seg_of_lane (s.raiseDev_lane code src data e)]
  out := s.raiseDev_out code src data e

theorem State.emergencyAbort_ends (lane : Nat) : s.EndsSession (s.emergencyAbort lane) := by
  unfold State.emergencyAbort
  split
  · exact (State.TidiesUp.refl s).toEndsSession
  · split
    · exact s.markAbort_ends lane 0x39
    · exact s.abortSes_ends lane 0x39

/-! ### The segments resume (R170, R180) -/

/-- What a segment's resumption may change: units, the segments' lists, and events. -/
structure State.Resumes (s s' : State) : Prop where
  frame : s' = { s with lane := { s.lane with segs := s'.lane.segs, units := s'.lane.units }, evt := s'.evt, out := s'.out }
  out : s.out ⊆ s'.out

theorem State.Resumes.refl : s.Resumes s := ⟨rfl, List.Subset.refl _⟩

theorem State.Resumes.trans {a b c : State} (h1 : a.Resumes b) (h2 : b.Resumes c) : a.Resumes c where
  frame := by rw [h2.frame, h1.frame]
  out := List.Subset.trans h1.out h2.out

theorem State.Resumes.foldl {α : Type} (f : State → α → State) (hf : ∀ (s : State) x, s.Resumes (f s x)) (l : List α) :
    s.Resumes (l.foldl f s) := foldl_rel _ .refl (fun _ _ _ => .trans) f hf l s

theorem State.Resumes.of_modSeg (n : Nat) (f : Seg → Seg) : s.Resumes (s.modSeg n f) := ⟨rfl, List.Subset.refl _⟩

theorem State.Resumes.of_modUnit (n : Nat) (f : LaneUnit → LaneUnit) : s.Resumes (s.modUnit n f) := ⟨rfl, List.Subset.refl _⟩

theorem State.Resumes.of_raiseDev (code src data : Nat) (e : Option (Word × Word × Word)) :
    s.Resumes (s.raiseDev code src data e) where
  frame := by
    rw [State.raiseDev_frame]
  out := s.raiseDev_out code src data e

theorem State.Resumes.of_event (c : Prop) [Decidable c] (code src data : Nat) :
    s.Resumes (if c then s.raiseDev code src data else s) := by
  split
  · exact .of_raiseDev s code src data none
  · exact .refl s

theorem State.startCycle_resumes (seg : Nat) : s.Resumes (s.startCycle seg) := by
  unfold State.startCycle
  dsimp only
  refine .trans ?_ (.of_modSeg _ _ _)
  split
  · generalize hs1 : List.foldl _ s (segLanes seg) = s1
    have hunits : s.Resumes s1 := hs1 ▸ .foldl s _ (fun s l => .of_modUnit s l _) _
    exact (hunits.trans (.of_modSeg s1 seg _)).trans (.of_event _ _ _ _ _)
  · exact .refl s

/-- What the release's end does on a segment: a roll call where the segment runs, and the event (R180). -/
theorem State.resume_resumes (seg : Nat) :
    s.Resumes ((if s.segRuns seg then s.startCycle seg else s).raiseDev 0x0508 (srcSegment seg) 0) := by
  split
  · exact (s.startCycle_resumes seg).trans (.of_raiseDev _ _ _ _ _)
  · exact .of_raiseDev _ _ _ _ _
end

/-! ### The commands of the emergency path (R178 to R180) -/

section
variable {t : Nat} {s : State}

/-- The emergency asserted, with every turn cut, before FREE_EXIT goes out. -/
def State.asserted (s : State) : State :=
  let s1 := (List.range 8).foldl State.cutTurn s
  { s1 with lane := { s1.lane with emg := true, releasing := false, clearSent := 0 } }

@[simp] theorem State.asserted_now (s : State) : s.asserted.now = s.now := by
  obtain ⟨hframe, -⟩ := s.cutTurns
  unfold State.asserted
  dsimp only
  rw [hframe]

theorem State.asserted_turn (s : State) {g : Nat} (hg : g < 8) : (s.asserted.seg g).turn = none := by
  obtain ⟨-, hcut⟩ := s.cutTurns
  unfold State.asserted
  generalize (List.range 8).foldl State.cutTurn s = s1 at hcut ⊢
  exact hcut g hg

theorem exec_emgFilterAssert_of_due (hp : s.lane.emgPath = true) (he : s.lane.emg = false) (hi : s.lane.emgInput = true)
    (hd : s.lane.emgSince + 100000 ≤ (s.tick t).now) :
    ∃ s', exec (.emgFilterAssert t) s = .next s' ∧ ((s.tick t).asserted.freeExit false).KeepsBroadcast s' := by
  refine ⟨_, ?_, (State.KeepsBroadcast.foldl _ (fun s g => s.raiseDev 0x0507 (srcSegment g) 0)
    (fun s _ => s.raiseDev_keepsBroadcast _ _ _ _) (List.range 8)).trans (.foldl _ State.emergencyAbort
      (fun s l => (s.emergencyAbort_ends l).keepsBroadcast) ((List.range 8).flatMap (fun g => (s.seg g).active)))⟩
  simp [exec, execEmgFilterAssert, hp, he, hi, Nat.not_lt.mpr hd, State.asserted]

theorem exec_emgFilterAssert_of_not_due (h : s.lane.emgPath = false ∨ s.lane.emg = true ∨ s.lane.emgInput = false ∨
    (s.tick t).now < s.lane.emgSince + 100000) : exec (.emgFilterAssert t) s = .next (s.tick t) := by
  obtain h | h | h | h := h <;> simp [exec, execEmgFilterAssert, h]

theorem exec_freeExitRepeat_of_due (he : s.lane.emg = true) (hd : s.lane.freeExitAt + 10000000 ≤ (s.tick t).now) :
    exec (.freeExitRepeat t) s = .next ((s.tick t).freeExit false) := by
  simp [exec, execFreeExitRepeat, he, hd]

/-- The emergency released, before FREE_EXIT with CLEAR goes out for the first time. -/
def State.released (s : State) : State :=
  { s with lane := { s.lane with emg := false, releasing := true, clearSent := 1 }
           aud := { s.aud with prompts := s.aud.prompts.filter (fun p => !p.2.emg), emgNext := none } }

theorem exec_emgFilterRelease_of_due (he : s.lane.emg = true) (hi : s.lane.emgInput = false)
    (hd : s.lane.emgSince + s.devN 0x0502 * 1000000 ≤ (s.tick t).now) :
    exec (.emgFilterRelease t) s = .next ((s.tick t).released.freeExit true) := by
  simp [exec, execEmgFilterRelease, he, hi, Nat.not_lt.mpr hd, State.released, State.modAud]

/-- FREE_EXIT with CLEAR sent once more, and counted. -/
def State.clearedAgain (s : State) : State :=
  { s.freeExit true with lane := { (s.freeExit true).lane with clearSent := (s.freeExit true).lane.clearSent + 1 } }

theorem State.clearedAgain_out (s : State) : s.clearedAgain.out = (s.freeExit true).out := rfl

theorem exec_freeExitClearRepeat_of_second (hr : s.lane.releasing = true) (hd : s.lane.freeExitAt + 10000000 ≤ (s.tick t).now)
    (hc : s.lane.clearSent = 1) : exec (.freeExitClearRepeat t) s = .next (s.tick t).clearedAgain := by
  simp [exec, execFreeExitClearRepeat, hr, hc, Nat.not_lt.mpr hd, State.clearedAgain]

/-- With the third FREE_EXIT with CLEAR the release ends and the segments resume. -/
theorem exec_freeExitClearRepeat_of_third (hr : s.lane.releasing = true) (hd : s.lane.freeExitAt + 10000000 ≤ (s.tick t).now)
    (hc : s.lane.clearSent = 2) : ∃ s', exec (.freeExitClearRepeat t) s = .next s' ∧
      State.Resumes { (s.tick t).clearedAgain with lane := { (s.tick t).clearedAgain.lane with releasing := false } } s' := by
  refine ⟨_, ?_, .foldl _ _ (fun s g => s.resume_resumes g) (List.range 8)⟩
  simp [exec, execFreeExitClearRepeat, hr, hc, Nat.not_lt.mpr hd, State.clearedAgain]

end

/-- Settles O34: the filter's two edges, the repeats and the release, each with FREE_EXIT on the eight segments. -/
theorem emergencyBroadcast : Obligations.EmergencyBroadcast := by
  intro t s s0 l all
  refine ⟨?change, ?same, ?assert, fun h => exec_emgFilterAssert_of_not_due h, ?repeated, ?release, ?second, ?third⟩
  case change =>
    intro level (hl : s.lane.emgInput = level)
    simp [exec, execEmgOpenNChange, hl, s0, l]
  case same =>
    intro level (hl : s.lane.emgInput = !level)
    simp [exec, execEmgOpenNChange, hl, s0]
  case assert =>
    intro hp he hi hd
    obtain ⟨s', hexec, hkeeps⟩ := exec_emgFilterAssert_of_due hp he hi hd
    refine ⟨s', hexec, ?_, ?_, ?_, fun g hg => (s0.asserted.freeExit_sent false rfl g hg).of_out hkeeps.out, fun g hg => ?_⟩
    · rw [hkeeps.lane]
      simp [State.asserted]
    · rw [hkeeps.lane]
      simp [State.asserted]
    · rw [hkeeps.lane]
      simp [s0]
    · rw [hkeeps.turn, State.freeExit_turn, State.asserted_turn _ hg]
  case repeated =>
    intro he hd
    refine ⟨_, exec_freeExitRepeat_of_due he hd, s0.freeExit_freeExitAt false, s0.freeExit_sent false rfl, ?_, ?_⟩
    · simpa using he
    · rw [State.freeExit_frame]
  case release =>
    intro he hi hd
    refine ⟨_, exec_emgFilterRelease_of_due he hi hd, ?_, ?_, ?_, s0.released.freeExit_sent true rfl, ?_⟩
    · simp [State.released]
    · simp [State.released]
    · simp [State.released]
    · rw [State.freeExit_frame]
      rfl
  case second =>
    intro hr hd hc
    refine ⟨_, exec_freeExitClearRepeat_of_second hr hd hc, ?_, ?_, s0.freeExit_sent true rfl, ?_⟩
    · simpa [State.clearedAgain] using hr
    · simpa [State.clearedAgain] using hc
    · unfold State.clearedAgain
      rw [State.freeExit_frame]
  case third =>
    intro hr hd hc
    obtain ⟨s', hexec, hresumes⟩ := exec_freeExitClearRepeat_of_third hr hd hc
    have hout : s0.clearedAgain.out ⊆ s'.out := hresumes.out
    rw [State.clearedAgain_out] at hout
    refine ⟨s', hexec, ?_, fun g hg => (s0.freeExit_sent true rfl g hg).of_out hout, ?_⟩
    · rw [hresumes.frame]
    · rw [hresumes.frame]
      unfold State.clearedAgain
      rw [State.freeExit_frame]

end Sys2Proof.Machine
end

section
/-! PROOFS. The block command's envelope: what each of its branches answers (R50, R51, R54, R56 to R58, R540 to R543,
Tables 2-7 to 2-9). -/

namespace Sys2Proof.Machine
open Sys2Proof.Say

/-- Each block command of the chapters' tables is its row run in the envelope. -/
theorem exec_blockRow {c : Instr} {b : BlockRow} (hb : blockRow c = some b) (s : State) :
    exec c s = .next (s.runWith b.d b.own b.needs b.put b.work b.t b.tag b.io) := by
  cases c <;> simp only [blockRow, Option.some.injEq, reduceCtorEq] at hb
  all_goals
    subst hb
    rfl

/-! ### The reply -/

section
variable (s : State)

/-- A reply and the taking of the next command leave another page alone but in TAKEN. -/
theorem State.page_complete_take_ne (st : Nat) (rs : List Word) {k j : Nat} (h : j ≠ k) :
    (s.complete k st rs).take.page j = { s.page j with taken := ((s.complete k st rs).take.page j).taken } := by
  obtain hp | ⟨-, hp⟩ := (s.complete k st rs).page_take j <;> rw [hp, s.page_complete_ne k j st rs h]

theorem State.replied_complete_take (k st : Nat) (rs : List Word) : Replied s (s.complete k st rs).take k st rs := by
  refine ⟨?_, ?_, ?_, ?_, fun j hj => s.page_complete_take_ne st rs hj, s.complete_take_frame k st rs⟩ <;>
    rw [State.page_complete_take]
  rfl

@[simp] theorem State.take_stat : s.take.stat = s.stat := by rw [State.take_frame]
@[simp] theorem State.writeReply_stat (k : Nat) (ws : List Word) : (s.writeReply k ws).stat = s.stat := by
  rw [State.writeReply_frame]

@[simp] theorem State.page_count (g n i k : Nat) : (s.count g n i).page k = s.page k := State.page_of_mbx (by simp) k

end

/-! ### The envelope's branches (Table 2-9) -/

section
variable {c : Instr} {b : BlockRow} {s : State} (hb : blockRow c = some b) (hr : (s.tick b.t).ready b.tag b.d.code = true)
include hb hr

theorem exec_of_replay {s1 : State} (h : (s.tick b.t).replay b.tag = some s1) : exec c s = .next s1.take := by
  rw [exec_blockRow hb]
  simp [State.runWith, hr, h]

theorem exec_of_precheck_error (hn : (s.tick b.t).replay b.tag = none) {st : Nat}
    (h : (s.tick b.t).precheck b.d b.own b.needs b.tag b.io = .error (st, s.tick b.t)) :
    ∃ s', exec c s = .next s' ∧ Replied (s.tick b.t) s' b.tag st [] := by
  refine ⟨_, ?_, State.replied_complete_take _ _ _ _⟩
  rw [exec_blockRow hb]
  simp [State.runWith, hr, hn, h]

theorem exec_of_put_off (hn : (s.tick b.t).replay b.tag = none) {a : List Word} {s1 : State}
    (hc : (s.tick b.t).precheck b.d b.own b.needs b.tag b.io = .ok a) (hp : b.d.pend = true) (hs : b.io.slow = true)
    (hput : b.put a (s.tick b.t) = .ok s1) :
    exec c s = .next (((s1.defer b.d b.tag a).2.complete b.tag 1 [wd s1.mbx.nextTicket]).take) := by
  rw [exec_blockRow hb]
  simp [State.runWith, hr, hn, hc, hp, hs, hput, State.defer]

end

theorem exec_of_runs {c : Instr} {b : BlockRow} {s : State} {a : List Word} (hb : blockRow c = some b) (h : Runs c s a) :
    exec c s = .next (State.answer b.tag (b.work a (s.tick b.t))) := by
  unfold Runs at h
  rw [hb] at h
  obtain ⟨hr, hn, hc, hp⟩ := h
  rw [exec_blockRow hb, State.runWith_work _ _ _ _ _ _ _ _ _ a hr hn ?_ hp]
  split at hc
  · rename_i heq
    rw [heq, hc]
  · exact hc.elim

/-- Settles O7: what the work answers stands in the page, and the rest is the state that the work leaves. -/
theorem blockCommandsRun : Obligations.BlockCommandsRun := by
  intro c b s a st rs s1 hb h hw
  exact ⟨_, exec_of_runs hb h, hw ▸ s1.replied_complete_take b.tag st rs⟩

/-! ### The stored reply (R54) -/

theorem State.replay_of_stored {s : State} {k : Nat} {ws : List Word}
    (h : (s.cmdRec k).stored = some (fld ((s.page k).blk.getD 0 0) 15 8, ws)) :
    s.replay k = some ((s.writeReply k ((ws.getD 0 0 ||| 1) :: ws.drop 1)).count 3 k 0) := by
  simp [State.replay, h]

/-- The stored reply returned stands in the page after the taking of the next command. -/
theorem State.page_replayed (s : State) (k : Nat) (ws : List Word) : ((s.writeReply k ws).count 3 k 0).take.page k =
    { s.page k with blk := (ws ++ List.replicate 16 0).take 16, done := true, go := false, taken := false } := by
  rw [State.page_take_of_idle] <;> simp [State.page_writeReply]

theorem State.replayed_frame (s : State) (k : Nat) (ws : List Word) : ((s.writeReply k ws).count 3 k 0).take =
    { s with mbx := ((s.writeReply k ws).count 3 k 0).take.mbx, ins := ((s.writeReply k ws).count 3 k 0).take.ins
             out := ((s.writeReply k ws).count 3 k 0).take.out, stat := ((s.writeReply k ws).count 3 k 0).take.stat } := by
  rw [State.take_frame, State.count_frame, State.writeReply_frame]

theorem storedReplyReturned : storedReplyReturnedSay := by
  intro c b s ws hb hr hst
  have hreplay := State.replay_of_stored (s := s.tick b.t) (k := b.tag) (ws := ws) (by simpa [State.cmdRec] using hst)
  refine ⟨_, exec_of_replay hb hr hreplay, ?_, ?_, ?_, ?_, State.replayed_frame _ _ _⟩
  · rw [State.page_replayed]
  · rw [State.page_replayed]
  · rw [State.page_replayed]
  · rw [State.counter_of_stat (State.take_stat _), State.counter_count_same, State.counter_of_stat (s := s) (by simp)]

/-! ### The checks in order (Table 2-9) -/

section
variable {s : State} {d : CmdDef} {own needs : List Word → Bool} {k : Nat} {io : HostIo}

theorem State.precheck_of_reserved_request (h : fld ((s.page k).blk.getD 0 0) 3 2 ≠ 0) :
    s.precheck d own needs k io = .error (0x0013, s) := if_pos h

theorem State.precheck_of_tenant_denied (h : fld ((s.page k).blk.getD 0 0) 3 2 = 0) (hk : isPf k = false)
    (hd : d.tenant = false ∨ (s.rights k).getLsbD (d.code / 256) = false) :
    s.precheck d own needs k io = .error (0x0014, s) := by
  refine (if_neg (not_not.mpr h)).trans (if_pos ?_)
  obtain hd | hd := hd <;> simp [hk, hd]

/-- The PF's request lies in the page and sets no reserved bit, and the PF may name what its arguments name. -/
structure State.PfRequest (s : State) (d : CmdDef) (k : Nat) (io : HostIo) : Prop where
  direct : bit ((s.page k).blk.getD 0 0) 0 = false
  request : fld ((s.page k).blk.getD 0 0) 3 2 = 0
  pf : isPf k = true
  may : ∀ a, argsOf d (s.page k) io = some a → d.pfMay a = true

theorem State.PfRequest.indCause (h : s.PfRequest d k io) : s.indCause k (s.page k) io = none :=
  if_neg (by rw [h.direct]; exact Bool.false_ne_true)

theorem State.precheck_of_lifecycle (h : s.PfRequest d k io) {st : Nat} (hl : s.lifecycleStatus d = some st) :
    s.precheck d own needs k io = .error (st, s) := by
  refine (if_neg (not_not.mpr h.request)).trans ((if_neg ?_).trans (by rw [hl]))
  cases ha : argsOf d (s.page k) io with
  | none => simp [h.pf]
  | some a => simp [h.pf, h.indCause, h.may a ha]

theorem State.precheck_of_length (h : s.PfRequest d k io) (hl : s.lifecycleStatus d = none)
    (ha : argsOf d (s.page k) io = none) : s.precheck d own needs k io = .error (0x0011, s) := by
  refine (if_neg (not_not.mpr h.request)).trans ((if_neg ?_).trans (by rw [hl, ha]))
  simp [h.pf, ha]

/-- Steps 7 and 8 of Table 2-9, of arguments that lie in the page. -/
theorem State.precheck_of_args (h : s.PfRequest d k io) (hl : s.lifecycleStatus d = none) {a : List Word}
    (ha : argsOf d (s.page k) io = some a) : s.precheck d own needs k io =
      if (d.staged || needs a) && (s.openMan k).isNone then .error (0x001D, s)
      else if reservedSet d.masks a then .error (0x0013, s) else .ok a := by
  refine (if_neg (not_not.mpr h.request)).trans ((if_neg ?_).trans ?_)
  · simp [h.pf, ha, h.indCause, h.may a ha]
  · simp [hl, ha, h.indCause]

end

theorem checksInOrder : checksInOrderSay := by
  refine ⟨fun c b s hb hr hn hdirect => ?_, fun t tag io s code hcode hblock hr hn => ?_⟩
  · intro b0 s0 refuse
    have hpage : s0.page b.tag = s.page b.tag := s.page_tick b.t b.tag
    have hrefuse {st : Nat} (h : s0.precheck b.d b.own b.needs b.tag b.io = .error (st, s0)) : refuse st :=
      exec_of_precheck_error hb hr hn h
    have hpf (hq : fld b0 3 2 = 0) (hk : isPf b.tag = true)
        (hm : ∀ a, argsOf b.d (s.page b.tag) b.io = some a → b.d.pfMay a = true) : s0.PfRequest b.d b.tag b.io :=
      ⟨by rwa [hpage], by rwa [hpage], hk, by rwa [hpage]⟩
    refine ⟨fun hq => ?request, fun hq hk hd => ?tenant, fun hq hk hd => ?rights, fun st hq hk hm hl => ?lifecycle,
      fun hq hk hl ha => ?length, fun a hq hk hm hl ha hs ho => ?manifest, fun a hq hk hm hl ha ho hs => ?arguments⟩
    case request => exact hrefuse (State.precheck_of_reserved_request (by rwa [hpage]))
    case tenant => exact hrefuse (State.precheck_of_tenant_denied (by rwa [hpage]) hk (.inl hd))
    case rights => exact hrefuse (State.precheck_of_tenant_denied (by rwa [hpage]) hk (.inr hd))
    case lifecycle => exact hrefuse (State.precheck_of_lifecycle (hpf hq hk fun a _ => hm a) hl)
    case length => exact hrefuse (State.precheck_of_length (hpf hq hk (by simp [ha])) hl (by rwa [hpage]))
    case manifest =>
      apply hrefuse
      rw [State.precheck_of_args (hpf hq hk fun a _ => hm a) hl (by rwa [hpage]), hs, ho]
      rfl
    case arguments =>
      apply hrefuse
      have hman : ((b.d.staged || b.needs a) && (s0.openMan b.tag).isNone) = false := by
        obtain h | h := ho
        · simp [h]
        · simp [Option.isNone_eq_false_iff.mpr h]
      rw [State.precheck_of_args (hpf hq hk fun a _ => hm a) hl (by rwa [hpage]), hman, hs]
      rfl
  · subst hcode
    refine ⟨_, ?_, State.replied_complete_take _ _ _ _⟩
    have hrun : (blockCommand (fld ((s.page tag).blk.getD 0 0) 31 16) ||
        !(s.tick t).ready tag (fld ((s.page tag).blk.getD 0 0) 31 16)) = false := by rw [hblock, hr]; rfl
    unfold exec execUnknownCommand
    dsimp only
    rw [State.page_tick, hrun, hn]
    simp

/-- Settles O8: the stored reply, and each check where those before it pass. -/
theorem replaysAndChecks : Obligations.ReplaysAndChecks := ⟨storedReplyReturned, checksInOrder⟩

/-! ### Commands put off (R51, R57) -/

theorem State.defer_frame (s : State) (d : CmdDef) (k : Nat) (a : List Word) : (s.defer d k a).2 =
    { s with mbx := { s.mbx with tickets := (s.defer d k a).2.mbx.tickets
                                 nextTicket := (s.defer d k a).2.mbx.nextTicket } } := rfl

theorem State.tickets_defer (s : State) (d : CmdDef) (k : Nat) (a : List Word) :
    tfind (s.defer d k a).2.mbx.tickets s.mbx.nextTicket =
      some { tag := k, code := d.code, seq := fld ((s.page k).blk.getD 0 0) 15 8, args := a, at_ := s.now } :=
  tfind_tset_same _ _ _

theorem State.tickets_complete_take (s : State) (k st : Nat) (rs : List Word) :
    (s.complete k st rs).take.mbx.tickets = s.mbx.tickets := by
  rw [State.complete_take_frame]

theorem pendingReply : pendingReplySay := by
  intro c b s s1 a hb hr hn hc hp hs hput hmbx
  have hpage : (s1.defer b.d b.tag a).2.page b.tag = s.page b.tag := State.page_of_mbx hmbx _
  refine ⟨_, exec_of_put_off hb hr hn hc hp hs hput, ?_, ?_, ?_, ?_, ?_⟩
  · rw [State.page_complete_take]
  · rw [State.page_complete_take, replyOf, hpage]
    rfl
  · rw [State.page_complete_take, replyOf, hmbx]
    rfl
  · rw [State.tickets_complete_take, ← hmbx, State.tickets_defer]
    rfl
  · rw [State.complete_take_frame, State.defer_frame]

theorem ticketsEnd : ticketsEndSay := by
  intro t k io s s0
  refine ⟨fun h => ?_, fun c hc hs h1 h2 => ⟨fun hx => ?_, fun st rs s1 hx hw => ?_⟩⟩
  · cases hc : tfind s.mbx.tickets k with
    | none => simp [exec, execPendingDone, hc, s0]
    | some c =>
      have hs : s.mbx.state ≠ .serving := h.resolve_left (by simp [hc])
      simp [exec, execPendingDone, hc, hs, s0]
  · simp [exec, execPendingDone, hc, hs, h1, h2, hx, s0]
  · simp [exec, execPendingDone, hc, hs, h1, h2, hx, hw, State.ticketAnswer, s0]

/-- Settles O51: the ticket answered and its arguments kept, and the end of a ticket's work. -/
theorem pendingCommands : Obligations.PendingCommands := ⟨pendingReply, ticketsEnd⟩

end Sys2Proof.Machine
end

section
/-! PROOFS. Reset, the mailbox words and the taking of a posted command (R42, R45 to R47, R50, R54, R57, R66, R109). -/

namespace Sys2Proof.Machine
open Sys2Proof.Say

/-- Settles O2: the reset state's fields, each at the value that the spec gives. -/
theorem resetState : Obligations.ResetState := by
  refine ⟨fun tag => ?_, ?_⟩
  · exact ⟨rfl, rfl, rfl, rfl, rfl, rfl, rfl, rfl, rfl, rfl, rfl, rfl, rfl, rfl, rfl⟩
  · exact ⟨rfl, by decide, by decide, rfl, fun _ => rfl, rfl, rfl, rfl, rfl, rfl, rfl, rfl⟩

/-! ### Words (R45 to R47, R57) -/

section
variable {s : State} {t k op : Nat}

theorem heldWord_of_held (h : Held1 s t k op) : (s.tick t).heldWord k = some (s.page k).h2s := by
  obtain ⟨hs, hr, hf, -⟩ := h
  rw [State.tick_mbx] at hs
  simp [State.heldWord, hs, hr, hf]

theorem exec_wPing_of_held (h : Held1 s t k 1) : exec (.wPing t k) s =
    .next (((s.tick t).takeWord k).notice k (noticeWord 2 (fld (s.page k).h2s 23 0))) := by
  simp [exec, execWPing, heldWord_of_held h, h.2.2.2]

theorem exec_badWord_of_held (h : Held1 s t k op) (h1 : op ≠ 1) (h2 : op ≠ 2) :
    exec (.badWord t k) s = .next (((s.tick t).takeWord k).count 3 k 1) := by
  simp [exec, execBadWord, heldWord_of_held h, h.2.2.2, h1, h2]

theorem exec_wCancel_of_posted (h : Held1 s t k 2) (hg : (s.page k).go = true) (ht : (s.page k).taken = false)
    (hq : fld ((s.page k).blk.getD 0 0) 15 8 = fld (s.page k).h2s 7 0) : exec (.wCancel t k) s =
      .next (((s.tick t).takeWord k).writeReply k [replyWord 0x001B (fld (s.page k).h2s 7 0) 0 false]) := by
  have hp : ((s.tick t).takeWord k).page k = { s.page k with h2sFull := false } := by simp [State.takeWord]
  unfold exec execWCancel
  simp only [heldWord_of_held h, h.2.2.2, hp, hg, ht, hq]
  simp

theorem exec_wCancel_of_taken (h : Held1 s t k 2) (hg : (s.page k).go = true) (ht : (s.page k).taken = true)
    (hq : fld ((s.page k).blk.getD 0 0) 15 8 = fld (s.page k).h2s 7 0)
    (hc : cancellable (fld ((s.page k).blk.getD 0 0) 31 16) = false) :
    exec (.wCancel t k) s = .next ((s.tick t).takeWord k) := by
  have hp : ((s.tick t).takeWord k).page k = { s.page k with h2sFull := false } := by simp [State.takeWord]
  unfold exec execWCancel
  simp only [heldWord_of_held h, h.2.2.2, hp, hg, ht, hq, hc]
  simp

@[simp] theorem State.page_takeWord (s : State) (k : Nat) : (s.takeWord k).page k = { s.page k with h2sFull := false } := by
  simp [State.takeWord]

theorem State.takeWord_frame (s : State) (k : Nat) : s.takeWord k = { s with mbx := (s.takeWord k).mbx } := rfl

end

/-- Settles O4: the word taken, and what its opcode asks for. -/
theorem wordsTaken : Obligations.WordsTaken := by
  refine ⟨fun t tag s h => ?ping, fun t tag op s h1 h2 h => ?other, fun t tag s h hg ht hq => ?posted,
    fun t tag s h hg ht hq hc => ?taken⟩
  case ping =>
    refine ⟨_, exec_wPing_of_held h, ?_, ?_⟩
    · rw [State.page_notice]
      simp
    · rw [State.notice_frame, State.takeWord_frame]
  case other =>
    refine ⟨_, exec_badWord_of_held h h1 h2, ?_, ?_, ?_⟩
    · simp
    · rw [State.counter_count_same, State.counter_of_stat (s := s) (s' := (s.tick t).takeWord tag) (by simp [State.takeWord])]
    · rw [State.count_frame, State.takeWord_frame]
  case posted =>
    refine ⟨_, exec_wCancel_of_posted h hg ht hq, ?_, ?_⟩
    · rw [State.page_writeReply]
      simp
    · rw [State.writeReply_frame, State.takeWord_frame]
  case taken => exact exec_wCancel_of_taken h hg ht hq hc

/-! ### The taking of a posted command (R50, R109) -/

theorem mem_tset {α : Type} {t : Tbl α} {k : Nat} {a : α} {p : Nat × α} (h : p ∈ tset t k a) : p = (k, a) ∨ p ∈ t := by
  induction t with
  | nil => exact .inl (by simpa [tset] using h)
  | cons q r ih =>
    obtain ⟨j, b⟩ := q
    simp only [tset] at h
    split at h
    · simpa using h
    · split at h
      · obtain h | h := List.mem_cons.mp h
        · exact .inl h
        · exact .inr (List.mem_cons_of_mem _ h)
      · obtain h | h := List.mem_cons.mp h
        · exact .inr (h ▸ List.mem_cons_self)
        · exact (ih h).imp_right (List.mem_cons_of_mem _)

theorem mem_tenantOrder {k : Nat} (last : Nat) (h1 : 1 ≤ k) (h2 : k ≤ 287) : k ∈ tenantOrder last := by
  refine List.mem_map.mpr ⟨(k + 286 + 287 * last - last) % 287, List.mem_range.mpr (Nat.mod_lt _ (by decide)), ?_⟩
  omega

section
variable {s : State} {k : Nat}

theorem State.someTaken_modPage (h : s.someTaken = false) {f : Page → Page} (hf : (f (s.page k)).taken = false) :
    (s.modPage k f).someTaken = false := by
  rw [State.someTaken, List.any_eq_false] at h ⊢
  intro p hp
  obtain rfl | hp := mem_tset hp
  · simpa [State.page] using hf
  · exact h p hp

theorem State.eligible_iff : s.eligible k = true ↔ (s.page k).go = true ∧ (s.page k).taken = false ∧
    (s.page k).ready = true ∧ (isPf k = true ∨ 0 < (s.cmdRec k).tokens) := by
  simp [State.eligible, and_assoc]

theorem State.eligible_modPage_ne {j : Nat} (f : Page → Page) (h : j ≠ k) : (s.modPage k f).eligible j = s.eligible j := by
  unfold State.eligible
  rw [State.page_modPage_ne _ _ (Ne.symm h)]
  rfl

theorem State.cmdRec_modRec_ne {j : Nat} (f : CmdRec → CmdRec) (h : j ≠ k) : (s.modRec k f).cmdRec j = s.cmdRec j := by
  simp [State.cmdRec, State.modRec, Ne.symm h]

theorem State.eligible_modRec_ne {j : Nat} (f : CmdRec → CmdRec) (h : j ≠ k) : (s.modRec k f).eligible j = s.eligible j := by
  simp [State.eligible, State.cmdRec_modRec_ne f h]

/-- The taking of the next command where no page but one has a command that may be taken. -/
theorem State.nextPage_of_only (hk : k ≤ 287) (he : s.eligible k = true) (ho : ∀ j, j ≠ k → s.eligible j = false) :
    s.nextPage = some k := by
  obtain rfl | hk0 := Nat.eq_zero_or_pos k
  · have hnone : (tenantOrder s.mbx.lastTenant).find? s.eligible = none := by
      refine List.find?_eq_none.mpr fun j hj => ?_
      obtain ⟨i, -, rfl⟩ := List.mem_map.mp hj
      simp [ho]
    simp [State.nextPage, he, hnone]
  · have h0 : s.eligible 0 = false := ho 0 (by omega)
    cases hf : (tenantOrder s.mbx.lastTenant).find? s.eligible with
    | none =>
      have := List.find?_eq_none.mp hf k (mem_tenantOrder _ hk0 hk)
      exact absurd he this
    | some j =>
      have hj : j = k := by
        by_contra hne
        simpa [ho j hne] using List.find?_some hf
      simp [State.nextPage, h0, hf, hj]

theorem State.take_of_none (h : ∀ j, s.eligible j = false) : s.take = s := by
  have hnext : s.nextPage = none := by
    cases hn : s.nextPage with
    | none => rfl
    | some j => simpa [h j] using s.nextPage_eligible j hn
  unfold State.take
  split <;> simp [hnext]

/-- The one command that may be taken is, and a tenant's spends a token (R109). -/
theorem State.take_of_only (hs : s.mbx.state = .serving) (ht : s.someTaken = false) (hk : k ≤ 287) (he : s.eligible k = true)
    (ho : ∀ j, j ≠ k → s.eligible j = false) : s.take.page k = { s.page k with taken := true } ∧
      (s.take.cmdRec k).tokens = if isPf k then (s.cmdRec k).tokens else (s.cmdRec k).tokens - 1 := by
  unfold State.take
  simp only [hs, ht, State.nextPage_of_only hk he ho]
  cases isPf k <;> simp [State.page, State.cmdRec, State.modPage, State.modRec]

/-- The taking leaves the record of a page alone on which no command is posted. -/
theorem State.cmdRec_take_of_idle (h : (s.page k).go = false) : s.take.cmdRec k = s.cmdRec k := by
  unfold State.take
  split
  · rfl
  · split
    · rfl
    · rename_i j hj
      have hne : j ≠ k := by
        rintro rfl
        simpa [State.eligible, h] using s.nextPage_eligible j hj
      dsimp only
      split <;> simp [State.cmdRec, State.modPage, State.modRec, hne]

end

/-- The steward serves, with no command TAKEN and none that it may take. -/
structure State.Idle (s : State) : Prop where
  serving : s.mbx.state = .serving
  free : s.someTaken = false
  none : ∀ j, s.eligible j = false

/-- A command posted: GO set and DONE cleared (R49). -/
def State.posted (s : State) (k : Nat) : State := s.modPage k (fun p => { p with go := true, done := false })

/-- A token arrived, with up to 16 held (R109). -/
def State.tokenArrived (s : State) (k : Nat) : State := s.modRec k (fun r => { r with tokens := min 16 (r.tokens + 1) })

section
variable {t k : Nat} {s : State}

theorem State.Idle.tick (h : s.Idle) (t : Nat) : (s.tick t).Idle :=
  ⟨by simpa using h.serving, by simpa using h.free, by simpa using h.none⟩

theorem exec_go_of_idle (hk : k ≤ 287) (hg : (s.page k).go = false) :
    exec (.go t k) s = .next ((s.tick t).posted k).take := by
  simp [exec, execGo, hg, Nat.not_lt.mpr hk, State.posted]

theorem exec_rateToken_of_enabled (hk : isPf k = false) (he : s.enabled k = true) :
    exec (.rateToken t k) s = .next ((s.tick t).tokenArrived k).take := by
  simp [exec, execRateToken, hk, he, State.tokenArrived]

/-- A command posted with a token at hand, or by the PF, is taken at once (R50, R109). -/
theorem State.take_posted (h : s.Idle) (hk : k ≤ 287) (ht : (s.page k).taken = false) (hr : (s.page k).ready = true)
    (hp : isPf k = true ∨ 0 < (s.cmdRec k).tokens) :
    (s.posted k).take.page k = { s.page k with go := true, done := false, taken := true } ∧
      ((s.posted k).take.cmdRec k).tokens = if isPf k then (s.cmdRec k).tokens else (s.cmdRec k).tokens - 1 := by
  have he : (s.posted k).eligible k = true := State.eligible_iff.mpr (by simpa [State.posted, ht, hr] using hp)
  have ho (j : Nat) (hj : j ≠ k) : (s.posted k).eligible j = false := by rw [State.posted, State.eligible_modPage_ne _ hj, h.none]
  obtain ⟨hpage, htokens⟩ := State.take_of_only (s := s.posted k) h.serving (State.someTaken_modPage h.free ht) hk he ho
  exact ⟨by rw [hpage]; simp [State.posted], htokens⟩

/-- A tenant's command posted without a token waits (R109). -/
theorem State.take_posted_of_no_token (h : s.Idle) (hk : isPf k = false) (hz : (s.cmdRec k).tokens = 0) :
    (s.posted k).take = s.posted k := by
  refine State.take_of_none fun j => ?_
  by_cases hj : j = k
  · subst hj
    refine Bool.eq_false_iff.mpr fun he => ?_
    obtain ⟨-, -, -, hp⟩ := State.eligible_iff.mp he
    simp [State.posted, hk, hz] at hp
  · rw [State.posted, State.eligible_modPage_ne _ hj, h.none]

/-- A command that waited for a token is taken when one arrives (R109). -/
theorem State.take_tokenArrived (h : s.Idle) (hk : k ≤ 287) (hpf : isPf k = false) (hg : (s.page k).go = true)
    (ht : (s.page k).taken = false) (hr : (s.page k).ready = true) :
    ((s.tokenArrived k).take.page k).taken = true ∧ ((s.tokenArrived k).take.cmdRec k).tokens = (s.cmdRec k).tokens := by
  have hz : (s.cmdRec k).tokens = 0 := by
    have hnot : ¬ s.eligible k = true := by simp [h.none k]
    simpa [State.eligible_iff, hg, ht, hr, hpf] using hnot
  have he : (s.tokenArrived k).eligible k = true := State.eligible_iff.mpr (by simp [State.tokenArrived, hg, ht, hr])
  have ho (j : Nat) (hj : j ≠ k) : (s.tokenArrived k).eligible j = false := by
    rw [State.tokenArrived, State.eligible_modRec_ne _ hj, h.none]
  obtain ⟨hpage, htokens⟩ := State.take_of_only (s := s.tokenArrived k) h.serving h.free hk he ho
  exact ⟨by rw [hpage], by rw [htokens]; simp [State.tokenArrived, hpf, hz]⟩

end

/-- Settles O6: where no other command may be taken, the page's own is taken, if it is the PF's or a token is at hand. -/
theorem commandTaken : Obligations.CommandTaken := by
  refine ⟨fun t s hg ht hr hs hn hi => ?pf, fun t tag s h1 h2 hg ht hr hs hn hi => ?tenant, fun t tag s hk he hg => ?token,
    fun t tag s hk h1 h2 he hg ht hr hs hn hi => ?waiting⟩
  case pf =>
    have hidle := (State.Idle.mk hs hn hi).tick t
    obtain ⟨hp, -⟩ := State.take_posted hidle (k := 0) (by decide) (by simpa) (by simpa) (.inl rfl)
    exact ⟨_, exec_go_of_idle (by decide) hg, by rw [hp], by rw [hp]⟩
  case tenant =>
    have hidle := (State.Idle.mk hs hn hi).tick t
    have hk : isPf tag = false := by simp [isPf]; omega
    refine ⟨_, exec_go_of_idle h2 hg, ?_⟩
    obtain hz | hz := Nat.eq_zero_or_pos (s.cmdRec tag).tokens
    · rw [State.take_posted_of_no_token hidle hk (by simpa)]
      simp [State.posted, ht, hz]
    · obtain ⟨hp, htokens⟩ := State.take_posted hidle h2 (by simpa) (by simpa) (.inr (by simpa))
      rw [hp, htokens]
      simp [hz, hk]
  case token =>
    refine ⟨_, exec_rateToken_of_enabled hk he, ?_, ?_⟩
    · rw [State.cmdRec_take_of_idle (by simpa [State.tokenArrived] using hg)]
      simp [State.tokenArrived]
    · rw [State.take_frame]
      rfl
  case waiting =>
    obtain ⟨hp, htokens⟩ := State.take_tokenArrived ((State.Idle.mk hs hn hi).tick t) h2 hk (by simpa) (by simpa) (by simpa)
    exact ⟨_, exec_rateToken_of_enabled hk he, hp, by rw [htokens, State.tick_cmdRec]⟩

end Sys2Proof.Machine
end

section
/-! PROOFS. The general-area commands (Table 2-12, R61 to R63, R508, R545). -/

namespace Sys2Proof.Machine
open Sys2Proof.Say

/-- A block command that runs is answered with what its row's work answers. -/
theorem exec_replied {c : Instr} {b : BlockRow} {s : State} {a : List Word} {st : Nat} {rs : List Word} {s1 : State}
    (hb : blockRow c = some b) (h : Runs c s a) (hw : b.work a (s.tick b.t) = .reply st rs s1) :
    ∃ s', exec c s = .next s' ∧ Replied s1 s' b.tag st rs := blockCommandsRun c b s a st rs s1 hb h hw

theorem accessLevel_eq (k : Nat) : accessLevel k = if k = 0 then 1 else 2 := by
  simp [accessLevel, isPf]

/-! ### Pins (R508) -/

/-- A byte of a word, bit by bit. -/
theorem getLsbD_fld (w : Word) {hi lo i : Nat} (h : hi = lo + 7) (hi8 : i < 8) :
    (BitVec.ofNat 8 (fld w hi lo)).getLsbD i = bit w (lo + i) := by
  subst h
  unfold fld bit BitVec.getLsbD
  rw [show lo + 7 + 1 - lo = 8 by omega, BitVec.toNat_ofNat, Nat.mod_mod, Nat.testBit_mod_two_pow, Nat.testBit_shiftRight]
  simp [hi8]

/-- The pins named take the new levels, and no others (R508). -/
theorem getLsbD_masked (pins old new : BitVec 8) (i : Nat) :
    ((old &&& ~~~pins) ||| (new &&& pins)).getLsbD i = if pins.getLsbD i then new.getLsbD i else old.getLsbD i := by
  by_cases hi : i < 8
  · rw [BitVec.getLsbD_or, BitVec.getLsbD_and, BitVec.getLsbD_and, BitVec.getLsbD_not]
    cases pins.getLsbD i <;> simp [hi]
  · simp [BitVec.getLsbD_of_ge _ i (Nat.le_of_not_lt hi)]

/-- Settles O9: what each command's work answers, in the envelope of every block command. -/
theorem generalCommands : Obligations.GeneralCommands := by
  refine ⟨fun t tag io s a => ⟨fun h hd => ?four, fun h hd => ?two, fun h => ?version, fun h => ?ping, fun h => ?next,
    fun h => ?gpioSet, fun h => ?gpioGet⟩, fun t tag io s a p hp => ⟨fun h => ?get, fun h => ?info, fun h ho hr hc => ?set,
    fun h hr => ?range⟩⟩
  case four =>
    refine exec_replied rfl h ?_
    simp [genIdentifyWork, Answer.ok, hd, accessLevel_eq]
  case two =>
    refine exec_replied rfl h ?_
    simp [genIdentifyWork, Answer.ok, hd, accessLevel_eq]
  case version =>
    refine exec_replied rfl h ?_
    simp [genVersionWork, Answer.ok]
  case ping => exact exec_replied rfl h rfl
  case next => exact exec_replied rfl h rfl
  case gpioSet =>
    obtain ⟨s', hexec, hreplied⟩ := exec_replied rfl h rfl
    refine ⟨s', hexec, _, hreplied, fun i hi => ?_, fun i hi => ?_, ?_⟩
    · dsimp only
      rw [getLsbD_masked, getLsbD_fld _ rfl hi, getLsbD_fld _ rfl hi, Nat.zero_add, State.tick_lcy]
    · dsimp only
      rw [getLsbD_masked, getLsbD_fld _ rfl hi, getLsbD_fld _ rfl hi, Nat.zero_add, State.tick_lcy]
    · rw [State.tick_lcy]
  case gpioGet =>
    refine exec_replied rfl h ?_
    simp [genGpioGetWork, Answer.ok, State.gpioBalls]
  case get =>
    have hw : ∃ w, genParamGetWork tag io a (s.tick t) =
        .ok (valueWords (s.cfg.param (selTag (arg a 1)) p.id) ++ [w]) (s.tick t) := by
      simp only [genParamGetWork, hp, State.tick_cfg]
      exact ⟨_, rfl⟩
    obtain ⟨w, hw⟩ := hw
    obtain ⟨s', hexec, hreplied⟩ := exec_replied rfl h hw
    exact ⟨s', w, hexec, hreplied⟩
  case info =>
    refine exec_replied rfl h ?_
    simp [genParamInfoWork, hp, Answer.ok]
  case set =>
    refine exec_replied rfl h ?_
    simp [genParamSetWork, hp, hr, ho, hc, Answer.ok]
  case range =>
    refine exec_replied rfl h ?_
    simp [genParamSetWork, hp, hr, Answer.status]

end Sys2Proof.Machine
end

section
/-! PROOFS. The steward's reset and its restart (R66, R67, R405, R477). -/

namespace Sys2Proof.Machine
open Sys2Proof.Say

/-! ### The reset (R66, R477) -/

theorem tfind_tmap {α : Type} (t : Tbl α) (f : Nat → α → α) (k : Nat) : tfind (tmap t f) k = (tfind t k).map (f k) := by
  induction t with
  | nil => rfl
  | cons p r ih =>
    obtain ⟨j, a⟩ := p
    rw [tmap] at ih
    by_cases h : j = k
    · simp [tmap, tfind, h]
    · simpa [tmap, tfind, h] using ih

theorem mem_of_tfind {α : Type} {t : Tbl α} {k : Nat} {a : α} (h : tfind t k = some a) : (k, a) ∈ t := by
  induction t with
  | nil => cases h
  | cons p r ih =>
    obtain ⟨j, b⟩ := p
    by_cases hj : j = k
    · subst hj
      simp only [tfind, ↓reduceIte, Option.some.injEq] at h
      exact h ▸ List.mem_cons_self
    · exact List.mem_cons_of_mem _ (ih (by simpa [tfind, hj] using h))

/-- An entry mapped, where the default maps to itself. -/
theorem tget_tmap {α : Type} (t : Tbl α) (f : Nat → α → α) (k : Nat) {d : α} (hd : f k d = d) :
    tget (tmap t f) k d = f k (tget t k d) := by
  simp only [tget, tfind_tmap]
  cases tfind t k <;> simp [hd]

/-- READY falls on every page and the restart is counted (R66). -/
def State.dropped (s : State) : State := s.modMbx (fun m =>
  { m with state := .restarting, restarts := min 65535 (m.restarts + 1), pages := tmap m.pages (fun _ p => { p with ready := false }) })

theorem State.page_dropped (s : State) (k : Nat) : s.dropped.page k = { s.page k with ready := false } :=
  tget_tmap s.mbx.pages (fun _ p => { p with ready := false }) k rfl

/-- The times of the restarts within 60 s, this one among them (R477). -/
def State.recentRestarts (s : State) : List Nat := s.now :: s.lcy.restartTimes.filter (fun x => decide (s.now < x + 60000000000))

/-- This restart starts the warm reset (R477, R480, R405). -/
def State.fourth (s : State) : Bool := decide (4 ≤ s.recentRestarts.length) && !s.lcy.warm && !s.sec.zeroised

/-- The restart's time is kept, or the count cleared by a fourth (R477). -/
def State.timed (s : State) : State := s.modLcy (fun l =>
  { l with restartTimes := if s.fourth then [] else s.recentRestarts, warmByRestart := l.warmByRestart || s.fourth })

theorem State.timed_dropped_frame (s : State) :
    s.timed.dropped = { s with mbx := s.timed.dropped.mbx, lcy := s.timed.dropped.lcy } := rfl

theorem State.restartBegin_eq (s : State) :
    s.restartBegin true = if s.fourth then s.timed.dropped.warmStart else s.timed.dropped := rfl

theorem State.not_fourth_of_few {s : State} (h : s.lcy.restartTimes.length < 3) : s.fourth = false := by
  have hlen := s.lcy.restartTimes.length_filter_le (fun x => decide (s.now < x + 60000000000))
  have hfew : ¬ 4 ≤ s.recentRestarts.length := by
    unfold State.recentRestarts
    rw [List.length_cons]
    omega
  simp [State.fourth, hfew]

theorem exec_stewardReset_of_not_serving {t : Nat} {s : State} (h : s.mbx.state ≠ .serving) :
    exec (.stewardReset t) s = .next (s.tick t) := by
  simp [exec, execStewardReset, h]

theorem exec_stewardReset_of_few {t : Nat} {s : State} (h : s.mbx.state = .serving) (hf : s.lcy.restartTimes.length < 3) :
    exec (.stewardReset t) s = .next (s.tick t).timed.dropped := by
  simp [exec, execStewardReset, h, State.restartBegin_eq, State.not_fourth_of_few (s := s.tick t) (by simpa using hf)]

/-! ### What the steps of a restart keep (R67) -/

/-- A command answered: DONE set and GO cleared (R50). -/
def State.Answered (s : State) (k : Nat) : Prop := (s.page k).done = true ∧ (s.page k).go = false

/-- Neither the steward's state, nor zeroisation, sessions or instances change; a page answered stays so, one that is
READY stays so, and no event is held back once the steward serves. -/
structure State.Restarts (s s' : State) : Prop where
  state : s'.mbx.state = s.mbx.state
  held : s'.mbx.held = s.mbx.held
  answered : ∀ k, s.Answered k → s'.Answered k
  ready : ∀ k, (s.page k).ready = true → (s'.page k).ready = true
  insts : s'.ins.insts = s.ins.insts
  fare : s'.fare = s.fare
  zeroising : s'.sec.zeroising = s.sec.zeroising
  zeroised : s'.sec.zeroised = s.sec.zeroised
  heldBack : s.mbx.state ≠ .restarting → s.evt.heldBack = [] → s'.evt.heldBack = []

variable (s : State)

theorem State.Restarts.refl : s.Restarts s := ⟨rfl, rfl, fun _ => id, fun _ => id, rfl, rfl, rfl, rfl, fun _ => id⟩

theorem State.Restarts.trans {a b c : State} (h1 : a.Restarts b) (h2 : b.Restarts c) : a.Restarts c where
  state := h2.state.trans h1.state
  held := h2.held.trans h1.held
  answered k h := h2.answered k (h1.answered k h)
  ready k h := h2.ready k (h1.ready k h)
  insts := h2.insts.trans h1.insts
  fare := h2.fare.trans h1.fare
  zeroising := h2.zeroising.trans h1.zeroising
  zeroised := h2.zeroised.trans h1.zeroised
  heldBack hs h := h2.heldBack (by rwa [h1.state]) (h1.heldBack hs h)

theorem State.Restarts.foldl {α : Type} (f : State → α → State) (hf : ∀ (s : State) x, s.Restarts (f s x)) (l : List α) :
    s.Restarts (l.foldl f s) := foldl_rel _ .refl (fun _ _ _ => .trans) f hf l s

/-- A step that touches the pages in what it may, and of the mailboxes nothing else that counts. -/
theorem State.Restarts.of_pages {s s' : State} (hframe : s' = { s with mbx := s'.mbx, ins := s'.ins, out := s'.out })
    (hi : s'.ins.insts = s.ins.insts) (hs : s'.mbx.state = s.mbx.state) (hh : s'.mbx.held = s.mbx.held)
    (ha : ∀ k, s.Answered k → s'.Answered k) (hr : ∀ k, (s.page k).ready = true → (s'.page k).ready = true) : s.Restarts s' :=
  ⟨hs, hh, ha, hr, hi, by rw [hframe], by rw [hframe], by rw [hframe], fun _ h => by rw [hframe]; exact h⟩

/-- A step that leaves the mailboxes, the instances and the sessions alone. -/
theorem State.Restarts.of_mbx {s s' : State} (hm : s'.mbx = s.mbx) (hi : s'.ins = s.ins) (hf : s'.fare = s.fare)
    (hz : s'.sec.zeroising = s.sec.zeroising) (hd : s'.sec.zeroised = s.sec.zeroised)
    (he : s.mbx.state ≠ .restarting → s'.evt.heldBack = s.evt.heldBack) : s.Restarts s' :=
  ⟨by rw [hm], by rw [hm], fun k h => by rwa [State.Answered, State.page_of_mbx hm], fun k h => by rwa [State.page_of_mbx hm],
    by rw [hi], hf, hz, hd, fun hs h => by rw [he hs, h]⟩

theorem State.complete_answers (k st : Nat) (rs : List Word) : (s.complete k st rs).Answered k := by
  rw [State.Answered, State.page_complete]
  exact ⟨rfl, rfl⟩

theorem State.complete_restarts (k st : Nat) (rs : List Word) : s.Restarts (s.complete k st rs) := by
  refine .of_pages ?_ ?_ ?_ ?_ (fun j h => ?_) (fun j h => ?_)
  · rw [State.complete_frame]
  · rw [State.complete_frame]
  · rw [State.complete_frame]
  · rw [State.complete_frame]
  · by_cases hj : j = k
    · exact hj ▸ s.complete_answers k st rs
    · rwa [State.Answered, s.page_complete_ne _ _ _ _ hj]
  · by_cases hj : j = k
    · subst hj
      rw [State.page_complete]
      exact h
    · rwa [s.page_complete_ne _ _ _ _ hj]

theorem State.page_notice_ne {j k : Nat} (w : Word) (h : j ≠ k) : (s.notice k w).page j = s.page j := by
  unfold State.notice
  dsimp only
  split <;> simp [State.page_modPage_ne _ _ (Ne.symm h)]

theorem State.notice_restarts (k : Nat) (w : Word) : s.Restarts (s.notice k w) := by
  have hpage (j : Nat) : ((s.notice k w).page j).done = (s.page j).done ∧ ((s.notice k w).page j).go = (s.page j).go ∧
      ((s.notice k w).page j).ready = (s.page j).ready := by
    by_cases hj : j = k
    · subst hj
      rw [State.page_notice]
      exact ⟨rfl, rfl, rfl⟩
    · rw [s.page_notice_ne w hj]
      exact ⟨rfl, rfl, rfl⟩
  refine .of_pages ?_ ?_ ?_ ?_ (fun j h => ?_) (fun j h => ?_)
  · rw [State.notice_frame]
  · rw [State.notice_frame]
  · rw [State.notice_frame]
  · rw [State.notice_frame]
  · obtain ⟨hd, hg, -⟩ := hpage j
    rwa [State.Answered, hd, hg]
  · rw [(hpage j).2.2, h]

theorem State.take_restarts : s.Restarts s.take := by
  refine .of_pages ?_ ?_ ?_ ?_ (fun j h => ?_) (fun j h => ?_)
  · rw [State.take_frame]
  · rw [State.take_frame]
  · rw [State.take_frame]
  · rw [State.take_frame]
  · obtain hp | ⟨-, hp⟩ := s.page_take j <;> rw [State.Answered, hp] <;> exact h
  · obtain hp | ⟨-, hp⟩ := s.page_take j <;> rw [hp] <;> exact h

/-- READY set on a page (R67). -/
def State.setReady (s : State) (k : Nat) : State := s.modPage k (fun p => { p with ready := true })

theorem State.setReady_ready (k : Nat) : ((s.setReady k).page k).ready = true := by simp [State.setReady]

theorem State.setReady_restarts (k : Nat) : s.Restarts (s.setReady k) := by
  refine .of_pages rfl rfl rfl rfl (fun j h => ?_) (fun j h => ?_)
  · by_cases hj : j = k
    · subst hj
      simpa [State.Answered, State.setReady] using h
    · rwa [State.Answered, State.setReady, State.page_modPage_ne _ _ (Ne.symm hj)]
  · by_cases hj : j = k
    · exact hj ▸ s.setReady_ready k
    · rwa [State.setReady, State.page_modPage_ne _ _ (Ne.symm hj)]

/-! ### Manifests rolled back (R67) -/

/-- Of the security state the end of a manifest changes the keys only (R397). -/
theorem State.dropImports_sec (id : Nat) : (s.dropImports id).sec = { s.sec with keys := (s.dropImports id).sec.keys } := by
  unfold State.dropImports
  dsimp only
  refine foldl_rel (fun a b : State => b.sec = { a.sec with keys := b.sec.keys }) (fun _ => rfl) ?_ _ (fun a p => ?_) _ _
  · intro a b c h1 h2
    rw [h2, h1]
  · simp

theorem State.endMan_sec (id o : Nat) : (s.endMan id o).sec = { s.sec with keys := (s.endMan id o).sec.keys } := by
  unfold State.endMan
  rw [State.closeMan_frame]
  exact s.dropImports_sec id

theorem State.rollbackOpen_restarts : s.Restarts s.rollbackOpen := by
  unfold State.rollbackOpen
  dsimp only
  refine .foldl s _ (fun s p => ?_) _
  refine .of_mbx (by simp) (by simp) (by simp) ?_ ?_ (by simp) <;> rw [State.endMan_sec]

/-! ### Tickets end (R67) -/

theorem State.raiseTo_heldBack (code src tag : Nat) (data : Word) (e : Option (Word × Word × Word)) (rcpt : List (Nat × Bool))
    (h : s.mbx.state ≠ .restarting) : (s.raiseTo code src tag data e rcpt).evt.heldBack = s.evt.heldBack := by
  have hmasked (l : List (Nat × Bool)) : (l.foldl (fun s p => s.countMasked p.1) s).evt.heldBack = s.evt.heldBack ∧
      (l.foldl (fun s p => s.countMasked p.1) s).mbx = s.mbx :=
    foldl_rel (fun a b : State => b.evt.heldBack = a.evt.heldBack ∧ b.mbx = a.mbx) (fun _ => ⟨rfl, rfl⟩)
      (fun _ _ _ h1 h2 => ⟨h2.1.trans h1.1, h2.2.trans h1.2⟩) (fun s p => s.countMasked p.1) (fun _ _ => ⟨rfl, rfl⟩) l s
  unfold State.raiseTo
  dsimp only
  split
  · rfl
  · split
    · exact (hmasked _).1
    · split
      · rename_i hs
        rw [(hmasked _).2] at hs
        simp [h] at hs
      · exact (hmasked _).1

theorem State.raise_heldBack (code src o tag data : Nat) (e : Option (Word × Word × Word))
    (h : s.mbx.state ≠ .restarting) : (s.raise code src o tag data e).evt.heldBack = s.evt.heldBack := by
  unfold State.raise
  split
  · rfl
  · exact State.raiseTo_heldBack _ _ _ _ _ _ _ h

theorem State.ticketDone_restarts (k st : Nat) (ws : List Word) : s.Restarts (s.ticketDone k st ws) := by
  unfold State.ticketDone
  split
  · exact .refl s
  · rename_i c hc
    dsimp only
    have hraised : s.Restarts (State.raise { s with mbx := { s.mbx with tickets := terase s.mbx.tickets k } } 0x0101 srcSteward c.tag
        c.tag (k + st * 2 ^ 16) (some (ws.getD 0 0, ws.getD 1 0, ws.getD 2 0))) := by
      refine .trans (b := { s with mbx := { s.mbx with tickets := terase s.mbx.tickets k } })
        ⟨rfl, rfl, fun _ => id, fun _ => id, rfl, rfl, rfl, rfl, fun _ => id⟩ ?_
      exact .of_mbx (by simp) (by simp) (by simp) (by simp) (by simp) (fun h => State.raise_heldBack _ _ _ _ _ _ _ h)
    split
    · exact hraised.trans (State.notice_restarts _ _ _)
    · exact hraised

theorem State.ticketsEnd_restarts : s.Restarts s.ticketsEnd := by
  unfold State.ticketsEnd
  dsimp only
  refine State.Restarts.trans ?_ (.foldl _ (fun s k => s.ticketDone k 0x001A []) (fun s k => s.ticketDone_restarts k _ _) _)
  exact ⟨rfl, rfl, fun _ => id, fun _ => id, rfl, rfl, rfl, rfl, fun _ => id⟩

/-! ### The restart's end (R67, R405) -/

/-- Steps 1 and 2: the commands that stood TAKEN are answered with ST_RESTARTED. -/
def State.restartAnswers (s : State) : State :=
  (((s.mbx.pages.filter (fun p => p.2.taken)).map (·.1)).foldl (fun s k => s.complete k 0x001A [])
    (s.modMbx (fun m => { m with held := none }))).rollbackOpen

/-- Steps 3 to 5: no SEQ stays stored, N_RESTARTED is posted, and READY rises on the pages of the enabled instances. -/
def State.restartNotices (s : State) : State :=
  let s1 := s.modMbx (fun m => { m with recs := tmap m.recs (fun _ r => { r with stored := none }) })
  let s2 := s1.enabledTags.foldl (fun s k => s.notice k (noticeWord 0x03 s.mbx.restarts)) s1
  s2.enabledTags.foldl State.setReady s2

/-- Step 6: the steward serves, and what waited for it ends. -/
def State.restartServes (s : State) : State := (s.modMbx (fun m => { m with state := .serving })).releaseHeld

theorem exec_stewardRestartDone_of_not_restarting {t : Nat} {s : State} (h : s.mbx.state ≠ .restarting ∨ s.lcy.warm = true) :
    exec (.stewardRestartDone t) s = .next (s.tick t) := by
  obtain h | h := h <;> simp [exec, execStewardRestartDone, h]

theorem exec_stewardRestartDone_of_restarting {t : Nat} {s : State} (h : s.mbx.state = .restarting) (hw : s.lcy.warm = false) :
    exec (.stewardRestartDone t) s =
      .next (s.tick t).restartAnswers.restartNotices.restartServes.ticketsEnd.zeroiseEnd.take :=
  if_neg (by simp [h, hw])

theorem State.restartAnswers_restarts : (s.modMbx (fun m => { m with held := none })).Restarts s.restartAnswers :=
  (State.Restarts.foldl _ _ (fun s k => s.complete_restarts k _ _) _).trans (State.rollbackOpen_restarts _)

theorem State.mem_taken {k : Nat} (h : (s.page k).taken = true) : k ∈ (s.mbx.pages.filter (fun p => p.2.taken)).map (·.1) := by
  unfold State.page tget at h
  cases hp : tfind s.mbx.pages k with
  | none =>
    rw [hp] at h
    cases h
  | some p =>
    rw [hp] at h
    exact List.mem_map.mpr ⟨(k, p), List.mem_filter.mpr ⟨mem_of_tfind hp, h⟩, rfl⟩

theorem State.restartAnswers_answered {k : Nat} (h : (s.page k).taken = true) : s.restartAnswers.Answered k :=
  (State.rollbackOpen_restarts _).answered k (foldl_reaches State.Answered _ (fun s k => s.complete_answers k _ _)
    (fun s j k hk => (s.complete_restarts j _ _).answered k hk) _ _ k (s.mem_taken h))

theorem State.restartNotices_restarts : s.Restarts s.restartNotices := by
  refine State.Restarts.trans (b := s.modMbx (fun m => { m with recs := tmap m.recs (fun _ r => { r with stored := none }) }))
    ⟨rfl, rfl, fun _ => id, fun _ => id, rfl, rfl, rfl, rfl, fun _ => id⟩ ?_
  exact (State.Restarts.foldl _ _ (fun s k => s.notice_restarts k _) _).trans (.foldl _ _ (fun s k => s.setReady_restarts k) _)

theorem State.mem_enabledTags {k : Nat} (h : s.enabled k = true) : k ∈ s.enabledTags := by
  unfold State.enabled State.inst tget at h
  cases hi : tfind s.ins.insts k with
  | none =>
    rw [hi] at h
    cases h
  | some i =>
    rw [hi] at h
    exact List.mem_map.mpr ⟨(k, i), List.mem_filter.mpr ⟨mem_of_tfind hi, h⟩, rfl⟩

theorem State.restartNotices_ready {k : Nat} (h : s.enabled k = true) : (s.restartNotices.page k).ready = true := by
  refine foldl_reaches (fun (s : State) k => (s.page k).ready = true) State.setReady (fun s k => s.setReady_ready k)
    (fun s j k hk => (s.setReady_restarts j).ready k hk) _ _ k (State.mem_enabledTags _ ?_)
  have hinsts := (State.Restarts.foldl (s.modMbx (fun m => { m with recs := tmap m.recs (fun _ r => { r with stored := none }) }))
    (fun s k => s.notice k (noticeWord 0x03 s.mbx.restarts)) (fun s k => s.notice_restarts k _)
    (s.modMbx (fun m => { m with recs := tmap m.recs (fun _ r => { r with stored := none }) })).enabledTags).insts
  simpa [State.enabled, State.inst, hinsts] using h

/-- A zeroisation's last step leaves the mailboxes, the sessions and what is held back alone (R405). -/
theorem State.zeroiseEnd_frame : s.zeroiseEnd =
    { s with sec := s.zeroiseEnd.sec, evt := { s.evt with zeroisedFor := s.zeroiseEnd.evt.zeroisedFor } } := by
  unfold State.zeroiseEnd
  split <;> rfl

theorem State.zeroiseEnd_zeroising : s.zeroiseEnd.sec.zeroising = none := by
  unfold State.zeroiseEnd
  split
  · assumption
  · rfl

theorem State.zeroiseEnd_zeroised : s.zeroiseEnd.sec.zeroised = (s.sec.zeroised || s.sec.zeroising.isSome) := by
  unfold State.zeroiseEnd
  split <;> rename_i h <;> simp [h, State.modEvt, State.modSec]

/-- The state in which a restart leaves the part. -/
structure State.Restarted (s s' : State) : Prop where
  serving : s'.mbx.state = .serving
  held : s'.mbx.held = none
  ready : ∀ k, s.enabled k = true → (s'.page k).ready = true
  answered : ∀ k, (s.page k).taken = true → s'.Answered k
  heldBack : s'.evt.heldBack = []
  zeroising : s'.sec.zeroising = none
  zeroised : s'.sec.zeroised = (s.sec.zeroised || s.sec.zeroising.isSome)
  fare : s'.fare = s.fare

theorem State.Restarts.enabled {s s' : State} (h : s.Restarts s') (k : Nat) : s'.enabled k = s.enabled k := by
  simp [State.enabled, State.inst, h.insts]

/-- The restart's steps in order: the answers, the notices, and what waited for the steward to serve again. -/
theorem State.restarted_of_steps {s a b d : State} (ha : (s.modMbx (fun m => { m with held := none })).Restarts a)
    (hanswered : ∀ k, (s.page k).taken = true → a.Answered k) (hb : a.Restarts b)
    (hready : ∀ k, a.enabled k = true → (b.page k).ready = true) (hd : b.restartServes.Restarts d) :
    s.Restarted d.zeroiseEnd.take := by
  have hf := d.zeroiseEnd.take_restarts
  have hmbx : d.zeroiseEnd.mbx = d.mbx := by rw [State.zeroiseEnd_frame]
  have hserving : d.mbx.state = .serving := hd.state
  refine ⟨?_, ?_, fun k hk => ?_, fun k hk => ?_, ?_, ?_, ?_, ?_⟩
  · rw [hf.state, hmbx, hserving]
  · rw [hf.held, hmbx, hd.held]
    exact hb.held.trans ha.held
  · refine hf.ready k ?_
    rw [State.page_of_mbx hmbx]
    exact hd.ready k (hready k ((ha.enabled k).trans hk))
  · refine hf.answered k ?_
    rw [State.Answered, State.page_of_mbx hmbx]
    exact hd.answered k (hb.answered k (hanswered k hk))
  · refine hf.heldBack (by rw [hmbx, hserving]; decide) ?_
    rw [State.zeroiseEnd_frame]
    exact hd.heldBack (by rw [← hd.state, hserving]; decide) rfl
  · rw [hf.zeroising, State.zeroiseEnd_zeroising]
  · rw [hf.zeroised, State.zeroiseEnd_zeroised, hd.zeroised, hd.zeroising]
    exact congrArg₂ (· || ·) (hb.zeroised.trans ha.zeroised) (congrArg Option.isSome (hb.zeroising.trans ha.zeroising))
  · rw [hf.fare, State.zeroiseEnd_frame]
    exact hd.fare.trans (hb.fare.trans ha.fare)

theorem State.restarted : s.Restarted s.restartAnswers.restartNotices.restartServes.ticketsEnd.zeroiseEnd.take :=
  State.restarted_of_steps s.restartAnswers_restarts (fun _ => s.restartAnswers_answered) (State.restartNotices_restarts _)
    (fun _ => State.restartNotices_ready _) (State.ticketsEnd_restarts _)

theorem stewardRestart : stewardRestartSay := by
  intro t s s0
  refine ⟨exec_stewardReset_of_not_serving, fun hs hf => ?reset, exec_stewardRestartDone_of_not_restarting, fun hs hw => ?restart⟩
  case reset =>
    refine ⟨_, exec_stewardReset_of_few hs hf, ?_, ?_, fun tag => ?_, s0.timed_dropped_frame⟩
    · simp [State.dropped, State.modMbx]
    · simp [State.dropped, State.timed, State.modMbx]
    · rw [State.page_dropped]
      simp [State.timed, State.page, State.modLcy]
  case restart =>
    have hexec := exec_stewardRestartDone_of_restarting (t := t) hs hw
    have hdone := (s.tick t).restarted
    generalize (s.tick t).restartAnswers.restartNotices.restartServes.ticketsEnd.zeroiseEnd.take = s' at hexec hdone
    obtain ⟨hserving, hheld, hready, hanswered, hheldBack, hzeroising, hzeroised, hfare⟩ := hdone
    refine ⟨s', hexec, hserving, hheld, fun k hk => hready k ?_, fun k hk => hanswered k ?_, hheldBack, hzeroising,
      fun hz => ?_, fun hz => ?_, ?_⟩
    · simpa using hk
    · simpa using hk
    · rw [hzeroised]
      simp [hz]
    · rw [hzeroised]
      simp [hz]
    · rw [hfare]
      simp

end Sys2Proof.Machine
end

section
/-! PROOFS. What the parts of a reset may change: events and completions (R98 to R104, R449, R451), the ends of sessions, jobs and
manifests (R67, R116), and the parts of the warm reset (R366, R373, R422, R477). -/

namespace Sys2Proof.Machine
open Sys2Proof.Say

/-! ### What a reset of a part leaves alone -/

/-- What every part of a reset keeps: lifecycle, fuses and the battery domain, the steward's state; READY only falls, and
neither cache lines nor translations come to be where none are. -/
structure State.Resets (s s' : State) : Prop where
  lcy : s'.lcy = s.lcy
  bat : s'.sec.bat = s.sec.bat
  state : s'.mbx.state = s.mbx.state
  ready : ∀ k, (s'.page k).ready = true → (s.page k).ready = true
  lines : s.mem.lines = [] → s'.mem.lines = []
  tlb : s.ins.tlb = [] → s'.ins.tlb = []

/-- A port's link is down and nothing is queued on it (12 Failures). -/
def State.PortDown (s : State) (p : Nat) : Prop := (s.port p).link = false ∧ (s.port p).queues = []

/-- A part of a reset that leaves the mailboxes, the manifests and the islands alone, and brings no port back. -/
structure State.Spares (s s' : State) : Prop where
  lcy : s'.lcy = s.lcy
  sec : s'.sec = s.sec
  mbx : s'.mbx = s.mbx
  man : s'.man = s.man
  islands : s'.isl.islands = s.isl.islands
  lines : s'.mem.lines = s.mem.lines
  tlb : s.ins.tlb = [] → s'.ins.tlb = []
  down : ∀ p, s.PortDown p → s'.PortDown p

variable (s : State)

theorem State.Resets.refl : s.Resets s := ⟨rfl, rfl, rfl, fun _ => id, id, id⟩

theorem State.Resets.trans {a b c : State} (h1 : a.Resets b) (h2 : b.Resets c) : a.Resets c :=
  ⟨h2.lcy.trans h1.lcy, h2.bat.trans h1.bat, h2.state.trans h1.state, fun k h => h1.ready k (h2.ready k h),
    fun h => h2.lines (h1.lines h), fun h => h2.tlb (h1.tlb h)⟩

theorem State.Resets.foldl {α : Type} (f : State → α → State) (hf : ∀ (s : State) x, s.Resets (f s x)) (l : List α) :
    s.Resets (l.foldl f s) := foldl_rel _ .refl (fun _ _ _ => .trans) f hf l s

theorem State.Spares.refl : s.Spares s := ⟨rfl, rfl, rfl, rfl, rfl, rfl, id, fun _ => id⟩

theorem State.Spares.trans {a b c : State} (h1 : a.Spares b) (h2 : b.Spares c) : a.Spares c :=
  ⟨h2.lcy.trans h1.lcy, h2.sec.trans h1.sec, h2.mbx.trans h1.mbx, h2.man.trans h1.man, h2.islands.trans h1.islands,
    h2.lines.trans h1.lines, fun h => h2.tlb (h1.tlb h), fun p h => h2.down p (h1.down p h)⟩

theorem State.Spares.foldl {α : Type} (f : State → α → State) (hf : ∀ (s : State) x, s.Spares (f s x)) (l : List α) :
    s.Spares (l.foldl f s) := foldl_rel _ .refl (fun _ _ _ => .trans) f hf l s

/-- A part that leaves the mailboxes alone. -/
theorem State.Resets.of_mbx {s s' : State} (hm : s'.mbx = s.mbx) (hl : s'.lcy = s.lcy) (hb : s'.sec.bat = s.sec.bat)
    (hlines : s.mem.lines = [] → s'.mem.lines = []) (htlb : s.ins.tlb = [] → s'.ins.tlb = []) : s.Resets s' :=
  ⟨hl, hb, by rw [hm], fun k h => by rwa [State.page_of_mbx hm] at h, hlines, htlb⟩

theorem State.Spares.resets {s s' : State} (h : s.Spares s') : s.Resets s' :=
  .of_mbx h.mbx h.lcy (by rw [h.sec]) (fun hl => h.lines.trans hl) h.tlb

/-- A part that of all that counts touches the pages only, and sets READY on none. -/
theorem State.Resets.of_pages {s s' : State} (hl : s'.lcy = s.lcy) (hs : s'.sec = s.sec) (hmem : s'.mem = s.mem)
    (htlb : s'.ins.tlb = s.ins.tlb) (hst : s'.mbx.state = s.mbx.state)
    (hr : ∀ k, (s'.page k).ready = true → (s.page k).ready = true) : s.Resets s' :=
  ⟨hl, by rw [hs], hst, hr, fun h => by rw [hmem, h], fun h => by rw [htlb, h]⟩

/-! ### Events and completions (R98 to R104, R449) -/

theorem State.raiseDev_spares (code src data : Nat) (e : Option (Word × Word × Word)) : s.Spares (s.raiseDev code src data e) := by
  rw [State.raiseDev_frame]
  exact ⟨rfl, rfl, rfl, rfl, rfl, rfl, id, fun _ => id⟩

theorem State.count_spares (g n i b : Nat) : s.Spares (s.count g n i b) := by
  unfold State.count
  split <;> exact ⟨rfl, rfl, rfl, rfl, rfl, rfl, id, fun _ => id⟩

theorem State.modQp_spares (k q : Nat) (f : Qp → Qp) : s.Spares (s.modQp k q f) := ⟨rfl, rfl, rfl, rfl, rfl, rfl, id, fun _ => id⟩

theorem State.signal_spares (k v : Nat) : s.Spares (s.signal k v) := by
  unfold State.signal
  rw [State.msix_frame]
  exact ⟨rfl, rfl, rfl, rfl, rfl, rfl, id, fun _ => id⟩

theorem State.tlbTouch_spares (k iova len : Nat) : s.Spares (s.tlbTouch k iova len) := by
  unfold State.tlbTouch
  split
  · exact .refl s
  · exact ⟨rfl, rfl, rfl, rfl, rfl, rfl, fun h => by simp [h], fun _ => id⟩

theorem State.dmaOut_spares (k iova : Nat) (b : List Byte) : s.Spares (s.dmaOut k iova b) :=
  (s.tlbTouch_spares k iova b.length).trans ⟨rfl, rfl, rfl, rfl, rfl, rfl, id, fun _ => id⟩

theorem State.dmaPhaseLast_spares (k iova : Nat) (b : List Byte) (n : Nat) : s.Spares (s.dmaPhaseLast k iova b n) :=
  ((s.dmaOut_spares _ _ _).trans (State.dmaOut_spares _ _ _ _)).trans (State.dmaOut_spares _ _ _ _)

theorem State.xlateFault_spares (k iova c : Nat) (w : Bool) (src : Nat) : s.Spares (s.xlateFault k iova c w src) := by
  unfold State.xlateFault
  dsimp only
  split
  · rw [State.raiseTo_frame]
    exact ⟨rfl, rfl, rfl, rfl, rfl, rfl, id, fun _ => id⟩
  · rw [State.raise_frame]
    exact ⟨rfl, rfl, rfl, rfl, rfl, rfl, id, fun _ => id⟩

theorem State.cqCoalesce_spares (k q : Nat) (atOnce : Bool) : s.Spares (s.cqCoalesce k q atOnce) := by
  unfold State.cqCoalesce State.cqSignal
  dsimp only
  split
  · exact ((s.modQp_spares _ _ _).trans (State.modQp_spares _ _ _ _)).trans (State.signal_spares _ _ _)
  · exact s.modQp_spares _ _ _

theorem State.qpFail_spares (k q : Nat) : s.Spares (s.qpFail k q) := ⟨rfl, rfl, rfl, rfl, rfl, rfl, id, fun _ => id⟩

theorem State.cqWrite_spares (k q cid st type sqHead : Nat) (body : List Byte) (fault : Option Nat) (atOnce : Bool) :
    s.Spares (s.cqWrite k q cid st type sqHead body fault atOnce).2 := by
  unfold State.cqWrite
  dsimp only
  split
  · exact (s.modQp_spares _ _ _).trans (State.qpFail_spares _ _ _)
  · split
    · exact ((s.xlateFault_spares _ _ _ _ _).trans (State.modQp_spares _ _ _ _)).trans (State.qpFail_spares _ _ _)
    · exact ((s.dmaPhaseLast_spares _ _ _ _).trans (State.modQp_spares _ _ _ _)).trans (State.cqCoalesce_spares _ _ _ _)

theorem State.cqComplete_spares (k q cid : Nat) (noCqe : Bool) (sqHead st : Nat) (body : List Byte) (fault : Option Nat) :
    s.Spares (s.cqComplete k q cid noCqe sqHead st body fault) := by
  unfold State.cqComplete
  dsimp only
  split
  · exact .refl s
  · refine (s.modQp_spares k q (fun p => { p with reserved := p.reserved - 1 })).trans ?_
    split
    · exact .refl _
    · exact State.modQp_spares _ _ _ _
    · split
      · exact .refl _
      · exact State.cqWrite_spares _ _ _ _ _ _ _ _ _ _

/-! ### Hub islands (R367) -/

theorem State.free_spares : s.Spares s.free.2 := ⟨rfl, rfl, rfl, rfl, rfl, rfl, id, fun _ => id⟩

theorem State.dropWait_spares (k : Nat) : s.Spares (s.modNet (fun n => { n with txWaits := terase n.txWaits k })) :=
  ⟨rfl, rfl, rfl, rfl, rfl, rfl, id, fun _ => id⟩

theorem State.txFail_spares (w : TxFor) (cq : Option Nat) : s.Spares (s.txFail w cq) := by
  unfold State.txFail
  split
  · split
    · exact ((s.free_spares.trans (State.free_spares _)).trans (State.dropWait_spares _ _)).trans
        (State.cqComplete_spares _ _ _ _ _ _ _ _ _)
    · exact .refl s
  · exact .refl s

@[simp] theorem State.port_modPort_same (p : Nat) (f : Port → Port) : (s.modPort p f).port p = f (s.port p) := by
  simp [State.port, State.modPort]

theorem State.port_modPort_ne {p k : Nat} (f : Port → Port) (h : k ≠ p) : (s.modPort p f).port k = s.port k := by
  simp [State.port, State.modPort, Ne.symm h]

/-- A change of one port that keeps it down. -/
theorem State.modPort_spares (p : Nat) (f : Port → Port)
    (hf : ∀ x, x.link = false ∧ x.queues = [] → (f x).link = false ∧ (f x).queues = []) : s.Spares (s.modPort p f) := by
  refine ⟨rfl, rfl, rfl, rfl, rfl, rfl, id, fun k h => ?_⟩
  unfold State.PortDown at h ⊢
  by_cases hk : k = p
  · subst hk
    rw [State.port_modPort_same]
    exact hf _ h
  · rwa [s.port_modPort_ne f hk]

/-- A port's queues emptied, before what its copies waited for fails. -/
def State.emptied (s : State) (p stat : Nat) : State :=
  (s.count 12 p stat ((s.port p).queues.flatMap (·.2)).length).modPort p (fun x => { x with queues := [], deficits := [] })

theorem State.emptied_flushPort (p stat : Nat) (cq : Option Nat) : (s.emptied p stat).Spares (s.flushPort p stat cq) :=
  .foldl _ (fun s (c : Copy) => s.txFail c.for_ cq) (fun s _ => s.txFail_spares _ _) _

theorem State.flushPort_spares (p stat : Nat) (cq : Option Nat) : s.Spares (s.flushPort p stat cq) :=
  ((s.count_spares _ _ _ _).trans (State.modPort_spares _ p (fun x => { x with queues := [], deficits := [] })
    (fun _ h => ⟨h.1, rfl⟩))).trans (s.emptied_flushPort p stat cq)

theorem State.flushPort_down {p : Nat} (stat : Nat) (cq : Option Nat) (h : (s.port p).link = false) :
    (s.flushPort p stat cq).PortDown p := by
  refine (s.emptied_flushPort p stat cq).down p ⟨?_, ?_⟩
  · rw [State.emptied, State.port_modPort_same]
    simpa [State.port] using h
  · simp [State.emptied]

theorem State.endEqFreeze_spares (p : Nat) : s.Spares (s.endEqFreeze p) := by
  unfold State.endEqFreeze
  split
  · refine State.Spares.trans ?_ (State.raiseDev_spares _ _ _ _ _)
    exact ⟨rfl, rfl, rfl, rfl, rfl, rfl, id, fun _ => id⟩
  · exact .refl s

/-- One port in a reset of H.NET: its link down, its copies dropped, its equaliser's freeze over. -/
def State.portReset (s : State) (p : Nat) : State :=
  if (s.port p).link then
    (((s.modPort p (fun x => { x with link := false })).flushPort p 18 none).endEqFreeze p).raiseDev 0x0A01 (srcPort p) 0
  else ((s.modPort p (fun x => { x with link := false })).flushPort p 18 none).endEqFreeze p

theorem State.netReset_eq : s.netReset =
    (([0, 1, 2, 3].foldl State.portReset s).net.stewardIn.foldl (fun s f => s.count 12 f.1 18)
      ([0, 1, 2, 3].foldl State.portReset s)).modNet (fun n => { n with stewardIn := [] }) := rfl

theorem State.flushed_portReset (p : Nat) :
    ((s.modPort p (fun x => { x with link := false })).flushPort p 18 none).Spares (s.portReset p) := by
  unfold State.portReset
  split
  · exact (State.endEqFreeze_spares _ p).trans (State.raiseDev_spares _ _ _ _ _)
  · exact State.endEqFreeze_spares _ p

theorem State.portReset_spares (p : Nat) : s.Spares (s.portReset p) :=
  ((s.modPort_spares p (fun x => { x with link := false }) (fun _ h => ⟨rfl, h.2⟩)).trans
    (State.flushPort_spares _ p 18 none)).trans (s.flushed_portReset p)

theorem State.portReset_down (p : Nat) : (s.portReset p).PortDown p :=
  (s.flushed_portReset p).down p (State.flushPort_down _ _ _ (by simp))

/-- The frames that the steward holds are dropped, each counted at its port. -/
theorem State.ports_netReset : ([0, 1, 2, 3].foldl State.portReset s).Spares s.netReset := by
  rw [State.netReset_eq]
  generalize [0, 1, 2, 3].foldl State.portReset s = down
  refine State.Spares.trans (.foldl down (fun s f => s.count 12 f.1 18) (fun s f => s.count_spares _ _ _ _) down.net.stewardIn) ?_
  exact ⟨rfl, rfl, rfl, rfl, rfl, rfl, id, fun _ => id⟩

theorem State.netReset_spares : s.Spares s.netReset :=
  (State.Spares.foldl s State.portReset (fun s p => s.portReset_spares p) _).trans s.ports_netReset

theorem State.netReset_down {p : Nat} (hp : p ≤ 3) : s.netReset.PortDown p :=
  s.ports_netReset.down p (foldl_reaches State.PortDown State.portReset (fun s p => s.portReset_down p)
    (fun s p k h => (s.portReset_spares p).down k h) _ s p (by simp; omega))

theorem State.modAud_spares (f : Aud → Aud) : s.Spares (s.modAud f) := ⟨rfl, rfl, rfl, rfl, rfl, rfl, id, fun _ => id⟩

theorem State.rxRestart_spares (n : Nat) : s.Spares (s.rxRestart n) := by
  unfold State.rxRestart
  exact (s.count_spares _ _ _ _).trans (State.modAud_spares _ _)

theorem State.audReset_spares : s.Spares s.audReset := by
  unfold State.audReset
  exact (State.Spares.foldl s _ (fun s n => s.rxRestart_spares n) _).trans (State.modAud_spares _ _)

theorem State.assignBus_frame (b : Nat) : s.assignBus b = { s with aud := { s.aud with buses := (s.assignBus b).aud.buses } } := by
  unfold State.assignBus
  dsimp only
  split <;> rfl

theorem State.assignBuses_frame : s.assignBuses =
    { s with aud := { s.aud with buses := s.assignBuses.aud.buses, noCells := s.assignBuses.aud.noCells }
             evt := s.assignBuses.evt, out := s.assignBuses.out } := by
  have hfold (l : List Nat) : l.foldl State.assignBus s =
      { s with aud := { s.aud with buses := (l.foldl State.assignBus s).aud.buses } } :=
    foldl_rel (fun a b : State => b = { a with aud := { a.aud with buses := b.aud.buses } }) (fun _ => rfl)
      (fun a b c h1 h2 => by rw [h2, h1]) State.assignBus (fun s b => s.assignBus_frame b) l s
  unfold State.assignBuses
  dsimp only
  rw [hfold]
  split
  · rfl
  · split
    · rfl
    · rw [State.raiseDev_frame]

theorem State.assignBuses_spares : s.Spares s.assignBuses := by
  rw [State.assignBuses_frame]
  generalize s.assignBuses = after
  exact ⟨rfl, rfl, rfl, rfl, rfl, rfl, id, fun _ => id⟩

theorem State.suspendDrover_spares : s.Spares s.suspendDrover := ⟨rfl, rfl, rfl, rfl, rfl, rfl, id, fun _ => id⟩

/-- Records are lost: counted at their queues and in all (R451). -/
def State.LosesRecords (s s' : State) : Prop :=
  s' = { s with evt := { s.evt with queues := s'.evt.queues, lostTotal := s'.evt.lostTotal } }

theorem State.LosesRecords.trans {a b c : State} (h1 : a.LosesRecords b) (h2 : b.LosesRecords c) : a.LosesRecords c := by
  unfold State.LosesRecords at *
  rw [h2, h1]

theorem State.LosesRecords.foldl {α : Type} (f : State → α → State) (hf : ∀ (s : State) x, s.LosesRecords (f s x)) (l : List α) :
    s.LosesRecords (l.foldl f s) := foldl_rel State.LosesRecords (fun _ => rfl) (fun _ _ _ => .trans) f hf l s

theorem State.loseRecord_loses (q n : Nat) (d : Bool) : s.LosesRecords (s.loseRecord q n d) := rfl

/-- What waited to be written is gone, and counted as lost (18 Failures). -/
theorem State.evtReset_loses : (s.modEvt (fun e => { e with raised := [], windows := [] })).LosesRecords s.evtReset := by
  unfold State.evtReset
  generalize s.evt.raised = raised
  generalize s.evt.windows = windows
  dsimp only
  generalize s.modEvt (fun e => { e with raised := [], windows := [] }) = cleared
  refine State.LosesRecords.trans (.foldl cleared _ (fun s r => ?_) raised) (.foldl _ _ (fun s w => ?_) windows)
  · exact .foldl s _ (fun s p => s.loseRecord_loses _ _ _) r.rcpt
  · split
    · exact (rfl : s.LosesRecords s)
    · exact s.loseRecord_loses _ _ _

theorem State.evtReset_spares : s.Spares s.evtReset := by
  rw [s.evtReset_loses]
  exact ⟨rfl, rfl, rfl, rfl, rfl, rfl, id, fun _ => id⟩

/-! ### The ends of sessions, jobs and manifests (R67, R116, R203) -/

theorem State.EndsSession.resets {s s' : State} (h : s.EndsSession s') : s.Resets s' := by
  have hf := h.frame
  exact .of_mbx (by rw [hf]) (by rw [hf]) (by rw [hf]) (fun hl => by rwa [hf]) (fun ht => by rwa [hf])

theorem State.modSea_resets (f : Sea → Sea) : s.Resets (s.modSea f) := .of_mbx rfl rfl rfl id id

theorem State.modTest_resets (f : TestSt → TestSt) : s.Resets (s.modTest f) := .of_mbx rfl rfl rfl id id

theorem State.releaseSlot_resets (n : Nat) : s.Resets (s.releaseSlot n) := by
  unfold State.releaseSlot
  split
  · exact .refl s
  · exact (s.modSea_resets _).trans (State.count_spares _ _ _ _ _).resets

theorem State.freeObject_resets (n : Nat) : s.Resets (s.freeObject n) := .of_mbx rfl rfl rfl id id

theorem State.take_resets : s.Resets s.take := by
  refine .of_pages ?_ ?_ ?_ ?_ s.take_restarts.state (fun k h => ?_)
  · rw [State.take_frame]
  · rw [State.take_frame]
  · rw [State.take_frame]
  · rw [State.take_frame]
  · obtain hp | ⟨-, hp⟩ := s.page_take k <;> rwa [hp] at h

theorem State.complete_resets (k st : Nat) (rs : List Word) : s.Resets (s.complete k st rs) := by
  refine .of_pages ?_ ?_ ?_ ?_ (s.complete_restarts k st rs).state (fun j h => ?_)
  · rw [State.complete_frame]
  · rw [State.complete_frame]
  · rw [State.complete_frame]
  · rw [State.complete_frame]
  · by_cases hj : j = k
    · subst hj
      rwa [State.page_complete] at h
    · rwa [s.page_complete_ne _ _ _ _ hj] at h

theorem State.endMan_resets (id o : Nat) : s.Resets (s.endMan id o) :=
  .of_mbx (by simp) (by simp) (by rw [State.endMan_sec]) (by simp) (by simp)

theorem State.Resets.ite {s x y : State} {c : Prop} {_ : Decidable c} (hx : s.Resets x) (hy : x.Resets y) :
    s.Resets (if c then x else y) := by
  split
  · exact hx
  · exact hx.trans hy

theorem State.endJob_resets (n st : Nat) (body : List Byte) (cq : Option Nat) : s.Resets (s.endJob n st body cq) := by
  unfold State.endJob
  split
  · exact .refl s
  · refine .ite ?_ (State.cqComplete_spares _ _ _ _ _ _ _ _ _).resets
    refine .trans ?_ (State.modSea_resets _ _)
    refine .trans ?_ (.foldl _ State.freeObject (fun s n => s.freeObject_resets n) _)
    split
    · refine .trans ?_ (State.releaseSlot_resets _ _)
      exact .of_mbx rfl rfl rfl id id
    · exact .of_mbx rfl rfl rfl id id

theorem State.discardJobs_resets (k : Nat) : s.Resets (s.discardJobs k) := by
  unfold State.discardJobs
  refine .foldl s _ (fun s n => ?_) _
  have hmarked : s.Resets ((s.modJob n (fun j => { j with discard := true })).unwait (.piece n)) := .of_mbx rfl rfl rfl id id
  dsimp only
  split
  · split
    · exact hmarked.trans (State.endJob_resets _ _ _ _ _)
    · exact hmarked
  · exact hmarked

theorem State.withdraw_resets (n o : Nat) : s.Resets (s.withdraw n o) := by
  unfold State.withdraw
  split
  · exact .refl s
  · refine (s.endMan_resets n o).trans ?_
    rw [State.manEvent_frame]
    exact .of_mbx rfl rfl rfl id id

theorem State.dropManifests_resets (k : Nat) : s.Resets (s.dropManifests k) := by
  unfold State.dropManifests
  refine .foldl s _ (fun s p => ?_) _
  split
  · exact s.endMan_resets _ _
  · split
    · exact s.withdraw_resets _ _
    · exact .refl s

theorem State.rollbackOpen_resets : s.Resets s.rollbackOpen := by
  unfold State.rollbackOpen
  exact .foldl s _ (fun s p => s.endMan_resets _ _) _

/-! ### Instances disabled (R116, Table 4-12) -/

theorem State.abandonCmd_resets (k : Nat) : s.Resets (s.abandonCmd k) := by
  have hpage : s.Resets (s.modPage k (fun p => { p with go := false, taken := false, ready := false })) := by
    refine .of_pages rfl rfl rfl rfl rfl (fun j h => ?_)
    by_cases hj : j = k
    · subst hj
      simp at h
    · rwa [State.page_modPage_ne _ _ (Ne.symm hj)] at h
  unfold State.abandonCmd
  dsimp only
  split
  · split
    · exact hpage.trans (.of_pages rfl rfl rfl rfl rfl (fun _ => id))
    · exact hpage
  · exact hpage

theorem State.disableEvents_resets (k : Nat) : s.Resets (s.disableEvents k) := .of_mbx rfl rfl rfl id id

theorem State.disable_resets (k : Nat) : s.Resets (s.disable k) := by
  unfold State.disable
  split
  · exact .refl s
  · refine .trans ?_ (State.take_resets _)
    refine .trans ?_ (.foldl _ _ (fun s l => (s.markAbort_ends l 0x37).resets) _)
    refine .trans ?_ (State.discardJobs_resets _ _)
    refine .trans ?_ (State.dropManifests_resets _ _)
    refine .trans ?_ (State.disableEvents_resets _ _)
    refine .trans ?_ (State.abandonCmd_resets _ _)
    exact .of_mbx rfl rfl rfl id id

theorem State.linkLost_resets : s.Resets s.linkLost := by
  refine State.Resets.trans (b := s.disableAll (fun _ => true)) ?_ (.of_mbx rfl rfl rfl id id)
  exact .foldl s State.disable (fun s k => s.disable_resets k) _

/-- A warm reset under way (R477). -/
def State.warming (s : State) : State := s.modLcy (fun l => { l with warm := true })

theorem State.warmStart_resets : s.warming.Resets s.warmStart := by
  unfold State.warmStart
  exact (State.linkLost_resets _).trans (.foldl _ _ (fun s p => (s.markAbort_ends _ 0x36).resets) _)

/-! ### The parts of the warm reset (R203, R366, R373, R422, R477) -/

theorem State.latch_resets (late reset : Bool) (sec ns : Nat) : s.Resets (s.latch late reset sec ns) := .of_mbx rfl rfl rfl id id

theorem State.restoreLock_resets (l : Lease) : s.Resets (s.restoreLock l) := by
  unfold State.restoreLock State.store
  split
  · split <;> exact .of_mbx rfl rfl rfl id id
  · split <;> exact .of_mbx rfl rfl rfl id id
  · exact .refl s

theorem State.cellsReset_resets : s.Resets s.cellsReset := by
  unfold State.cellsReset
  refine State.Resets.trans ?_ (.foldl _ _ (fun s w => ?_) _)
  · refine .trans ?_ (.foldl _ (fun s n => s.endJob n 0 [] none) (fun s n => s.endJob_resets _ _ _ _) _)
    refine .trans ?_ (State.modTest_resets _ _)
    refine .trans ?_ (State.modTest_resets _ _)
    refine .trans ?_ (State.modSea_resets _ _)
    refine .foldl s _ (fun s p => ?_) _
    split
    · exact s.restoreLock_resets _
    · exact .refl s
  · split
    · exact (s.abortSes_ends _ _).resets
    · exact .refl s

theorem State.ackHeld_resets : s.Resets s.ackHeld := by
  unfold State.ackHeld
  split
  · exact .refl s
  · split
    · split
      · refine .trans (.trans ?_ (State.complete_resets _ _ _ _)) (State.take_resets _)
        exact .of_pages rfl rfl rfl rfl rfl (fun _ => id)
      · exact .refl s
    · exact .refl s

theorem State.ackFor_resets (n : Nat) : s.Resets (s.ackFor n) := by
  unfold State.ackFor
  refine State.Resets.trans ?_ (State.ackHeld_resets _)
  exact .of_mbx rfl rfl rfl id id

/-- The cluster islands' reset: isolated, their credits lost, and their acknowledgements made for them (R366). -/
theorem State.clusterReset_resets (n : Nat) : s.Resets (((s.isolate n).loseCredits n).ackFor n) := by
  refine State.Resets.trans ?_ (State.ackFor_resets _ _)
  exact .of_mbx rfl rfl rfl id id

theorem State.auditRequest_resets (d : Nat) : s.Resets (s.auditRequest d) := by
  unfold State.auditRequest
  dsimp only
  split <;> exact .of_mbx rfl rfl rfl id id

/-- Cluster islands lose their cache lines, which nothing fills again (R477). -/
theorem State.clustersReset_resets : ({ s with mem := { s.mem with lines := [] } } : State).Resets s.clustersReset := by
  unfold State.clustersReset
  refine .trans (.foldl _ (fun s n => ((s.isolate n).loseCredits n).ackFor n) (fun s n => s.clusterReset_resets n) _)
    (.foldl _ _ (fun s d => ?_) _)
  split
  · exact s.auditRequest_resets d
  · exact .refl s

theorem State.bumpAll_resets (f g : Nat → Bool) : s.Resets (s.bumpAll f g) := by
  rw [State.bumpAll_frame]
  exact .of_mbx rfl rfl rfl id id

theorem State.disabled_resets (k : Nat) : s.Resets (s.disabled k) := by
  have hdropped : s.Resets ((s.tlbDrop k 0 0).modInst k (fun _ => {})) :=
    .of_mbx rfl rfl rfl id (fun h => by simp [State.tlbDrop, State.modInst, h])
  unfold State.disabled
  refine .trans hdropped ?_
  dsimp only
  split <;> split <;> exact .of_mbx rfl rfl rfl id id

/-- The objects of the instances that are being disabled revoked, and the instances themselves gone (Table 19-9). -/
def State.instancesGone (s : State) : State :=
  let tags := (s.ins.insts.filter (fun p => p.2.phase == .disabling)).map (·.1)
  tags.foldl State.disabled (s.bumpAll (fun n => tags.contains (s.obj n).owner) (fun n => tags.contains (s.obj n).owner))

theorem State.instancesLost_eq : s.instancesLost =
    { s.instancesGone with ins := { s.instancesGone.ins with tlb := [], scratch := 0 }
                           isl := { s.instancesGone.isl with sel := 0, telem0 := 0, telem1 := 0 } } := rfl

/-- The instances' sequences end, and no translation is left (Table 19-9). -/
theorem State.instancesLost_resets : s.Resets s.instancesLost := by
  rw [State.instancesLost_eq]
  refine State.Resets.trans (b := s.instancesGone) ?_ (.of_mbx rfl rfl rfl id (fun _ => rfl))
  exact (s.bumpAll_resets _ _).trans (.foldl _ State.disabled (fun s k => s.disabled_resets k) _)

theorem State.instancesLost_tlb : s.instancesLost.ins.tlb = [] := rfl

end Sys2Proof.Machine
end

section
/-! PROOFS. A hub island's reset and the warm reset (R366, R367, R459, R477, R478). -/

namespace Sys2Proof.Machine
open Sys2Proof.Say

variable (s : State)

/-! ### A hub island's reset (R366, R367) -/

@[simp] theorem State.isolate_mbx (n : Nat) : (s.isolate n).mbx = s.mbx := by simp [State.isolate, State.free, State.modIsland]
@[simp] theorem State.isolate_man (n : Nat) : (s.isolate n).man = s.man := by simp [State.isolate, State.free, State.modIsland]

theorem State.isolate_isolated (n : Nat) : ((s.isolate n).island n).state = .reset ∧ ((s.isolate n).island n).isolated = true ∧
    ((s.isolate n).island n).resetAt = s.now := by
  simp [State.isolate, State.free, State.modIsland, State.island]

theorem State.island_isolate_ne {n k : Nat} (h : k ≠ n) : (s.isolate n).island k = s.island k := by
  simp [State.isolate, State.free, State.modIsland, State.island, Ne.symm h]

/-- What a hub island's reset makes of the state in which the island stands isolated (R367). -/
structure State.HubReset (n : Nat) (s s' : State) : Prop where
  steward : n = 96 → s' = if s.mbx.state = .serving then s.restartBegin true else s
  host : n = 97 → s' = s.linkLost
  net : n = 98 → s' = s.netReset
  audio : n = 100 → s' = s.audReset.assignBuses
  drover : n = 104 → s' = s.suspendDrover
  events : n = 107 → s' = s.evtReset
  others : n ≠ 96 → n ≠ 97 → n ≠ 98 → n ≠ 100 → n ≠ 104 → n ≠ 107 → s' = s

theorem exec_hubIslandReset_of_run {t n : Nat} {s : State} (h1 : 96 ≤ n) (h2 : n ≤ 107) (hg : s.lcy.powerGood = true)
    (hr : (s.island n).state = .run) : ∃ s', exec (.hubIslandReset t n) s = .next s' ∧ ((s.tick t).isolate n).HubReset n s' := by
  have hexec : exec (.hubIslandReset t n) s = execHubIslandReset t n s := rfl
  rw [hexec]
  unfold execHubIslandReset
  dsimp only
  rw [if_neg (by simp_all [State.island])]
  split
  · exact ⟨_, rfl, by constructor <;> simp⟩
  · exact ⟨_, rfl, by constructor <;> simp⟩
  · exact ⟨_, rfl, by constructor <;> simp⟩
  · exact ⟨_, rfl, by constructor <;> simp⟩
  · exact ⟨_, rfl, by constructor <;> simp⟩
  · exact ⟨_, rfl, by constructor <;> simp⟩
  · rename_i h96 h97 h98 h100 h104 h107
    exact ⟨_, rfl, by constructor <;> simp_all⟩

theorem exec_hubIslandReset_of_not_run {t n : Nat} {s : State}
    (h : n < 96 ∨ 107 < n ∨ s.lcy.powerGood = false ∨ (s.island n).state ≠ .run) :
    exec (.hubIslandReset t n) s = .next (s.tick t) := by
  have hexec : exec (.hubIslandReset t n) s = execHubIslandReset t n s := rfl
  rw [hexec]
  unfold execHubIslandReset
  refine if_pos ?_
  simpa [State.island, or_assoc] using h

variable {s} {s' : State} {n : Nat}

/-- Apart from H.STW and H.HOST a hub island's reset leaves the mailboxes and the islands as they stand. -/
theorem State.HubReset.spares (h : s.HubReset n s') (h96 : n ≠ 96) (h97 : n ≠ 97) : s.Spares s' := by
  by_cases h98 : n = 98
  · exact h.net h98 ▸ s.netReset_spares
  by_cases h100 : n = 100
  · exact h.audio h100 ▸ s.audReset_spares.trans (State.assignBuses_spares _)
  by_cases h104 : n = 104
  · exact h.drover h104 ▸ s.suspendDrover_spares
  by_cases h107 : n = 107
  · exact h.events h107 ▸ s.evtReset_spares
  · exact h.others h96 h97 h98 h100 h104 h107 ▸ .refl s

variable (s) in
/-- The steward's reset, the fourth within 60 s with the warm reset that it starts (R66, R477). -/
theorem State.restartBegin_restarting :
    (s.restartBegin true).mbx.state = .restarting ∧ ∀ k, ((s.restartBegin true).page k).ready = false := by
  have hdropped (k : Nat) : (s.timed.dropped.page k).ready = false := by rw [State.page_dropped]
  rw [State.restartBegin_eq]
  split
  · have hwarm := s.timed.dropped.warmStart_resets
    refine ⟨hwarm.state, fun k => ?_⟩
    rw [← Bool.not_eq_true]
    intro hk
    have hready := hwarm.ready k hk
    rw [State.page_of_mbx (s := s.timed.dropped) (s' := s.timed.dropped.warming) rfl, hdropped] at hready
    cases hready
  · exact ⟨rfl, hdropped⟩

theorem State.HubReset.restarting (h : s.HubReset n s') (hn : n = 96) (hs : s.mbx.state = .serving) :
    s'.mbx.state = .restarting ∧ ∀ k, (s'.page k).ready = false := by
  rw [h.steward hn, if_pos hs]
  exact s.restartBegin_restarting

theorem State.HubReset.not_placing (h : s.HubReset n s') (hn : n = 104) : s'.placing = false := by
  rw [h.drover hn]
  simp [State.placing, State.suspendDrover, State.modSea]

theorem State.HubReset.no_events (h : s.HubReset n s') (hn : n = 107) : s'.evt.raised = [] ∧ s'.evt.windows = [] := by
  rw [h.events hn, s.evtReset_loses]
  exact ⟨rfl, rfl⟩

theorem State.HubReset.engine (h : s.HubReset n s') (hn : n = 100) : s'.aud.prompts = [] ∧ s'.aud.ver = s.man.cur := by
  rw [h.audio hn, State.assignBuses_frame]
  exact ⟨rfl, congrArg ManSt.cur (State.Spares.foldl s State.rxRestart (fun s n => s.rxRestart_spares n) _).man⟩

theorem State.HubReset.ports (h : s.HubReset n s') (hn : n = 98) : s'.net.stewardIn = [] ∧ ∀ p, p ≤ 3 → s'.PortDown p := by
  rw [h.net hn]
  exact ⟨rfl, fun _ hp => s.netReset_down hp⟩

/-! ### The warm reset (R477) -/

variable (s)

theorem State.isolates_frame (l : List Nat) : l.foldl State.isolate s =
    { s with freeCtr := (l.foldl State.isolate s).freeCtr
             isl := { s.isl with islands := (l.foldl State.isolate s).isl.islands } } :=
  foldl_rel (fun a b : State => b = { a with freeCtr := b.freeCtr, isl := { a.isl with islands := b.isl.islands } }) (fun _ => rfl)
    (fun a b c h1 h2 => by rw [h2, h1]) State.isolate (fun _ _ => rfl) l s

/-- The quantities that a reset excuses in the epoch's ledger stand open (R422). -/
def State.excused (s : State) : State :=
  { s with stat := { s.stat with openWindows := s.stat.openWindows ++
      ((5, 0) :: ((List.range 4).map (fun p => (6, p)) ++ (List.range 64).map (fun n => (8, n)))) } }

/-- The epoch latched and the cells reset, the first part of a warm reset (R422, R203). -/
def State.cellsDown (s : State) : State := (s.excused.latch false true s.servedSec s.servedNs).cellsReset

/-- The warm reset up to the steward's reset. -/
def State.partsDown (s : State) : State := s.cellsDown.clustersReset.instancesLost

theorem State.warmReset_eq : s.warmReset =
    ([96, 97, 98, 100].foldl State.isolate s.partsDown.stewardReset.netReset.audReset).modLcy
      (fun l => { l with stage := 7, lastReset := .warm }) := rfl

theorem State.cellsDown_resets : s.Resets s.cellsDown := by
  have hexcused : s.Resets s.excused := .of_mbx rfl rfl rfl id id
  exact hexcused.trans ((State.latch_resets _ _ _ _ _).trans (State.cellsReset_resets _))

/-- After the reset of the cells and the clusters no cache line is left, and after the instances' no translation. -/
theorem State.partsDown_empty : s.partsDown.mem.lines = [] ∧ s.partsDown.ins.tlb = [] :=
  ⟨(State.instancesLost_resets _).lines ((State.clustersReset_resets _).lines rfl), State.instancesLost_tlb _⟩

theorem State.partsDown_resets : s.Resets s.partsDown := by
  have hlines : s.cellsDown.Resets { s.cellsDown with mem := { s.cellsDown.mem with lines := [] } } :=
    .of_mbx rfl rfl rfl (fun _ => rfl) id
  exact s.cellsDown_resets.trans (hlines.trans ((State.clustersReset_resets _).trans (State.instancesLost_resets _)))

/-- What a warm reset leaves, in terms of what the part kept. -/
structure State.Warm (s s' : State) : Prop where
  lcy : s'.lcy = { s.lcy with stage := 7, lastReset := .warm }
  state : s'.mbx.state = .booting
  pages : s'.mbx.pages = []
  tickets : s'.mbx.tickets = []
  lines : s'.mem.lines = []
  tlb : s'.ins.tlb = []
  bat : s'.sec.bat = s.sec.bat

/-- The steward's reset: the manifests rolled back, and of its mailboxes nothing left (R67, R477). -/
theorem State.stewardReset_warm : s.stewardReset.lcy = s.lcy ∧ s.stewardReset.sec.bat = s.sec.bat ∧
    (s.mem.lines = [] → s.stewardReset.mem.lines = []) ∧ (s.ins.tlb = [] → s.stewardReset.ins.tlb = []) := by
  have hroll := s.rollbackOpen_resets
  exact ⟨hroll.lcy, hroll.bat, hroll.lines, hroll.tlb⟩

theorem State.warmReset_warm : s.Warm s.warmReset := by
  have hparts := s.partsDown_resets
  obtain ⟨hlines, htlb⟩ := s.partsDown_empty
  obtain ⟨hlcy, hbat, hmem, hins⟩ := s.partsDown.stewardReset_warm
  have hhub := s.partsDown.stewardReset.netReset_spares.trans (State.audReset_spares _)
  rw [State.warmReset_eq, State.isolates_frame]
  have hmbx : s.partsDown.stewardReset.mbx.state = .booting ∧ s.partsDown.stewardReset.mbx.pages = [] ∧
      s.partsDown.stewardReset.mbx.tickets = [] := ⟨rfl, rfl, rfl⟩
  generalize s.partsDown.stewardReset = b at *
  generalize b.netReset.audReset = c at *
  refine ⟨?_, ?_, ?_, ?_, ?_, ?_, ?_⟩
  · simp [State.modLcy, hhub.lcy, hlcy, hparts.lcy]
  · simp [State.modLcy, hhub.mbx, hmbx]
  · simp [State.modLcy, hhub.mbx, hmbx]
  · simp [State.modLcy, hhub.mbx, hmbx]
  · simp [State.modLcy, hhub.lines, hmem hlines]
  · simp [State.modLcy, hhub.tlb (hins htlb)]
  · simp [State.modLcy, hhub.sec, hbat, hparts.bat]

/-- The fuses and the battery domain outlast a warm reset that had begun, with the rest that R477 keeps. -/
theorem State.warmStart_warmReset : s.warming.Warm s.warmStart.warmReset := by
  have hstart := s.warmStart_resets
  obtain ⟨hlcy, hstate, hpages, htickets, hlines, htlb, hbat⟩ := s.warmStart.warmReset_warm
  exact ⟨by rw [hlcy, hstart.lcy], hstate, hpages, htickets, hlines, htlb, hbat.trans hstart.bat⟩

theorem exec_warmReset_of_not_begun {t : Nat} {s : State} (h : s.lcy.warm = false ∨ s.lcy.stage ≠ 8) (ok : Bool) :
    exec (.warmReset t ok) s = .next (s.tick t) := by
  obtain h | h := h <;> simp [exec, execWarmReset, h]

theorem exec_warmReset_of_begun {t : Nat} {s : State} (hw : s.lcy.warm = true) (hs : s.lcy.stage = 8) (ok : Bool) :
    exec (.warmReset t ok) s =
      .next (if ok then (s.tick t).warmStart.warmReset else (s.tick t).warmStart.warmReset.coldReset .cold) := by
  simp [exec, execWarmReset, hw, hs]

/-! ### The cold reset that an image's failed check makes of it (R478) -/

theorem State.armPps_frame : s.armPps = { s with tim := s.armPps.tim } := by
  unfold State.armPps
  generalize s.devN 0x080A = off
  dsimp only
  generalize (if s.servedNs < off then s.sec32 else (s.sec32 + 1) % 2 ^ 32) = sec
  rfl

theorem State.armBoundary_frame (b : Nat) :
    s.armBoundary b = { s with stat := (s.armBoundary b).stat, tim := (s.armBoundary b).tim } := rfl

theorem State.startTime_frame : s.startTime = { s with stat := s.startTime.stat, tim := s.startTime.tim } := by
  unfold State.startTime
  generalize nextMultiple s.servedSec (s.devN 0x0B01) = b
  rw [State.armPps_frame, State.armBoundary_frame]

/-- What a cold reset leaves. -/
structure State.Cold (s s' : State) : Prop where
  stage : s'.lcy.stage = if s.lcy.powerGood then 1 else 0
  fuses : s'.lcy.fuses = s.lcy.fuses
  bat : s'.sec.bat = s.sec.bat
  bytes : s'.mem.bytes = []
  pages : s'.mbx.pages = []
  sealKey : s'.cap.sealKey = none
  fare : s'.fare = {}

theorem State.coldReset_cold (last : LastReset) : s.Cold (s.coldReset last) := by
  unfold State.coldReset
  rw [State.startTime_frame]
  constructor <;> rfl

theorem State.coldReset_lastReset (last : LastReset) : (s.coldReset last).lcy.lastReset = last := by
  unfold State.coldReset
  rw [State.startTime_frame]

theorem partResets : partResetsSay := by
  intro t n s s0
  refine ⟨exec_hubIslandReset_of_not_run, fun h1 h2 hg hr => ?hub, exec_warmReset_of_not_begun, fun hw hs => ⟨?warm, ?cold⟩⟩
  case hub =>
    obtain ⟨s', hexec, h⟩ := exec_hubIslandReset_of_run (t := t) h1 h2 hg hr
    refine ⟨s', hexec, fun h96 h97 => ?_, fun hn hs => h.restarting hn ?_, h.not_placing, h.no_events, fun hn => ?_, h.ports⟩
    · have hspares := h.spares h96 h97
      have hisland (k : Nat) : s'.island k = (s0.isolate n).island k :=
        congrArg (tget · k ({} : Island)) hspares.islands
      obtain ⟨hstate, hisolated, hat⟩ := s0.isolate_isolated n
      rw [hisland, hspares.mbx]
      refine ⟨hstate, hisolated, hat, fun k hk => ?_, ?_⟩
      · rw [hisland, s0.island_isolate_ne hk]
        simp [s0, State.island]
      · simp
    · simpa using hs
    · simpa using h.engine hn
  case warm =>
    obtain ⟨hlcy, hstate, hpages, htickets, hlines, htlb, hbat⟩ := s0.warmStart_warmReset
    refine ⟨_, exec_warmReset_of_begun hw hs true, ?_⟩
    simp [s0, hlcy, hstate, hpages, htickets, hlines, htlb, hbat, State.warming, State.modLcy]
  case cold =>
    have hwarm := s0.warmStart_warmReset
    obtain ⟨hstage, hfuses, hbat, hbytes, hpages, hseal, hfare⟩ := s0.warmStart.warmReset.coldReset_cold .cold
    refine ⟨_, exec_warmReset_of_begun hw hs false, ?_⟩
    simp [s0, hstage, hfuses, hbat, hbytes, hpages, hseal, hfare, hwarm.lcy, hwarm.bat, State.coldReset_lastReset, State.warming,
      State.modLcy]

/-- Settles O52: a steward's restart answers what it found TAKEN and ends what waited; a part's reset spares the others; and what a
reset keeps is carried part by part through the warm reset. -/
theorem restartsAndResets : Obligations.RestartsAndResets := ⟨stewardRestart, partResets⟩

end Sys2Proof.Machine
end

section
/-! PROOFS. The manifest commands: what the work of each answers, in the envelope of every block command (R69, R71, R75, R78,
R82, R87, R88). -/

namespace Sys2Proof.Machine
open Sys2Proof.Say

section
variable {s : State} {tag id : Nat} {m : Manifest}

/-! ### MAN_COMMIT (R75, R78, R82) -/

theorem manCommitWork_of_ready {a : List Word} (io : HostIo) (hp : s.commitPre tag a = none) :
    manCommitWork tag io a s = s.commitWork (arg a 1).toNat (bit (arg a 2) 0) := by
  simp [manCommitWork, hp]

/-- A check that fails returns the manifest to OPEN with the failure (R75). -/
theorem State.commitWork_of_fail (hm : tfind s.man.mans id = some m) {step : Nat} {f : CheckFail}
    (hc : s.commitChecks id m = some (step, f)) (aligned : Bool) :
    s.commitWork id aligned =
      .reply f.1 (failWords m step f) (s.modMan id (fun m => { m with state := .open_, touched := s.now })) := by
  simp [State.commitWork, hm, hc]

/-- Checks passed before the freeze point: the commit point is written at once (R78, R85). -/
theorem State.commitWork_immediate (hm : tfind s.man.mans id = some m) (hc : s.commitChecks id m = none)
    (hf : s.stat.frozenPast = false) :
    s.commitWork id false = .ok (s.commitPoint id).commitWords (s.commitPoint id) := by
  simp [State.commitWork, hm, hc, hf]

/-- The boundary at which a manifest scheduled now takes effect (R82). -/
def State.alignedBoundary (s : State) : Nat :=
  if s.stat.frozenPast then nextMultiple s.stat.boundary (s.devN 0x0B01) else s.stat.boundary

@[simp] theorem State.alignedBoundary_tick (s : State) (t : Nat) : (s.tick t).alignedBoundary = s.alignedBoundary := by
  simp [State.alignedBoundary]

/-- Checks passed by an aligned commit: the manifest is SCHEDULED, last in the order of the scheduling (R82). -/
theorem State.commitWork_aligned (hm : tfind s.man.mans id = some m) (hc : s.commitChecks id m = none) :
    s.commitWork id true = .ok [1, wd s.alignedBoundary, 0] { s with man := { s.man with
      mans := tupd s.man.mans id (fun m =>
        { m with state := .scheduled, boundary := s.alignedBoundary, order := s.man.order, touched := s.now })
      order := s.man.order + 1 } } := by
  simp [State.commitWork, hm, hc, State.alignedBoundary, State.modMan]

/-! ### MAN_ROLLBACK and MAN_STATUS (R87, R88) -/

/-- A manifest is seen by its owner and by the PF (R87). -/
theorem State.manOf_of_seen (hm : tfind s.man.mans id = some m) (h : m.tag = tag ∨ tag = 0) : s.manOf tag id = some m := by
  simp [State.manOf, hm, isPf, h]

theorem manRollbackWork_of_own {a : List Word} (io : HostIo) (hm : tfind s.man.mans (arg a 1).toNat = some m)
    (ht : m.tag = tag) (hs : m.state = .open_ ∨ m.state = .scheduled) :
    manRollbackWork tag io a s = .ok [] (s.endMan (arg a 1).toNat 0x001B) := by
  have hseen := State.manOf_of_seen hm (.inl ht)
  obtain hs | hs := hs <;> simp [manRollbackWork, hseen, hs, ht]

theorem manStatusWork_of_seen {a : List Word} (io : HostIo) (h0 : arg a 1 ≠ 0)
    (hm : tfind s.man.mans (arg a 1).toNat = some m) (h : m.tag = tag ∨ tag = 0) :
    manStatusWork tag io a s = .ok [wd (manCode m.state), wd m.entries.length, wd m.bulk, wd m.boundary
      , if m.state = .closed then wd m.outcome else 0] s := by
  simp only [manStatusWork, if_neg h0, State.manOf_of_seen hm h]

/-! ### MAN_BEGIN (R69, R71) -/

/-- The SERIAL that a tag's next manifest has (R71). -/
def State.nextSerial (s : State) (tag : Nat) : Nat := tget s.man.serials tag 0 % 65535 + 1

theorem manBeginWork_of_none_open (io : HostIo) (a : List Word) (hl : s.lifecycle = 1 ∨ s.lifecycle = 2)
    (ho : s.openMan tag = none) :
    manBeginWork tag io a s = .ok [wd (tag * 65536 + s.nextSerial tag)] { s with man := { s.man with
      serials := tset s.man.serials tag (s.nextSerial tag)
      mans := tset s.man.mans (tag * 65536 + s.nextSerial tag)
        { tag, serial := s.nextSerial tag, touched := s.now } } } := by
  obtain hl | hl := hl <;> simp [manBeginWork, hl, ho, State.nextSerial]

end

/-- Settles O10: what each manifest command's work answers, in the envelope of every block command. -/
theorem manifestCommands : Obligations.ManifestCommands := by
  intro t tag io s a m s0 id
  refine ⟨fun h hl ho => ?begin, fun h hm hp hc hb hf => ?immediate, fun h hm hp hc hb => ?aligned,
    fun step st item h hm hp hc => ?fail, fun h hm ht hs => ?rollback, fun h h0 hm ht => ?status⟩
  case begin =>
    have hwork := manBeginWork_of_none_open (s := s0) (tag := tag) io a (by simpa [s0] using hl) (by simpa [s0] using ho)
    simpa [s0, State.nextSerial] using exec_replied rfl h hwork
  case immediate =>
    have hwork := manCommitWork_of_ready io hp
    rw [hb, State.commitWork_immediate (m := m) (by simpa [s0] using hm) hc (by simpa [s0] using hf)] at hwork
    exact exec_replied rfl h hwork
  case aligned =>
    have hwork := manCommitWork_of_ready io hp
    rw [hb, State.commitWork_aligned (m := m) (by simpa [s0] using hm) hc] at hwork
    simpa [s0, State.alignedBoundary] using exec_replied rfl h hwork
  case fail =>
    have hwork := manCommitWork_of_ready io hp
    rw [State.commitWork_of_fail (m := m) (by simpa [s0] using hm) hc] at hwork
    exact exec_replied rfl h hwork
  case rollback => exact exec_replied rfl h (manRollbackWork_of_own io (by simpa using hm) ht hs)
  case status => exact exec_replied rfl h (manStatusWork_of_seen io h0 (by simpa using hm) ht)

end Sys2Proof.Machine
end

section
/-! PROOFS. How a manifest closes, and the manifests' own events (R79, R83, R85, R88, R89). -/

namespace Sys2Proof.Machine
open Sys2Proof.Say

/-! ### Closing (R88) -/

/-- The entry that a table finds under a number is found in every part of the table that keeps it. -/
theorem tfind_filter_of_kept {α : Type} {t : Tbl α} {k : Nat} {a : α} {keep : Nat × α → Bool} (h : tfind t k = some a)
    (hk : keep (k, a) = true) : tfind (t.filter keep) k = some a := by
  induction t with
  | nil => exact h
  | cons p r ih =>
    obtain ⟨j, b⟩ := p
    by_cases hj : j = k
    · obtain rfl : b = a := by simpa [tfind, hj] using h
      simp [hj, hk, tfind]
    · have hr : tfind (r.filter keep) k = some a := ih (by simpa [tfind, hj] using h)
      by_cases hb : keep (j, b) = true <;> simp [hb, tfind, hj, hr]

section
variable {s : State} {id out : Nat} {m : Manifest}

/-- The manifests with one CLOSED, before the outcomes that are too old are dropped. -/
def State.mansClosed (s : State) (id out : Nat) : Tbl Manifest :=
  tupd s.man.mans id (fun m => { m with state := .closed, outcome := out, order := s.man.order })

/-- A close keeps every manifest that is not CLOSED, and the one closed last of all. -/
theorem State.tfind_closeMan {k : Nat} {x : Manifest} (hm : tfind s.man.mans id = some m)
    (hx : tfind (s.mansClosed id out) k = some x)
    (hlast : x.state = .closed → ∀ p ∈ s.mansClosed id out, p.2.state = .closed → p.2.order ≤ x.order) :
    tfind (s.closeMan id out).man.mans k = some x := by
  simp only [State.closeMan, hm]
  refine tfind_filter_of_kept hx ?_
  by_cases hc : x.state = .closed
  · have hnewer : (s.mansClosed id out).filter
        (fun p => p.2.tag == m.tag && p.2.state == .closed && decide (x.order < p.2.order)) = [] := by
      rw [List.filter_eq_nil_iff]
      intro p hp hnew
      simp only [Bool.and_eq_true, beq_iff_eq, decide_eq_true_eq] at hnew
      obtain ⟨⟨-, hpc⟩, hlt⟩ := hnew
      exact absurd (hlast hc p hp hpc) (Nat.not_le.mpr hlt)
    rw [State.mansClosed] at hnewer
    simp [hnewer]
  · simp [hc]

/-- The manifest closed now is the last in the order of closing. -/
theorem State.mansClosed_order_le (h : ∀ p ∈ s.man.mans, p.2.state = .closed → p.2.order < s.man.order) :
    ∀ p ∈ s.mansClosed id out, p.2.state = .closed → p.2.order ≤ s.man.order := by
  intro p hp hc
  obtain ⟨q, hq, rfl⟩ := List.mem_map.mp hp
  by_cases hid : q.1 = id
  · simp [hid]
  · rw [if_neg hid] at hc ⊢
    exact (h q hq hc).le

theorem manifestClosed : manifestClosedSay := by
  intro s id out m hm _ horder
  have hclosed : tfind (s.mansClosed id out) id =
      some { m with state := .closed, outcome := out, order := s.man.order } := by
    rw [State.mansClosed, tfind_tupd_same, hm, Option.map_some]
  refine ⟨?_, fun k x hk hx hopen => ?_, s.closeMan_frame id out⟩
  · rw [State.tfind_closeMan hm hclosed fun _ => State.mansClosed_order_le horder, Option.map_some]
  · refine State.tfind_closeMan hm ?_ fun hc => absurd hc hopen
    rw [State.mansClosed, tfind_tupd_ne _ _ hk.symm, hx]

end

/-! ### The open timeout (R89) -/

section
variable {s : State} {t tag id : Nat} {m : Manifest}

theorem exec_manOpenTimeout_of_expired (ho : (s.tick t).openMan tag = some (id, m))
    (he : m.touched + (s.tick t).insN tag 0x0201 * 1000000 ≤ (s.tick t).now) :
    exec (.manOpenTimeout t tag) s =
      .next (((s.tick t).endMan id 0x001B).raise 0x0203 srcSteward m.tag m.tag id) := by
  simp only [exec, execManOpenTimeout, ho]
  exact if_neg (by omega)

/-! ### The freeze point (R83) -/

/-- Unit 1 fired and disarmed, and the armed boundary past its freeze point. -/
def State.pastFreeze (s : State) : State :=
  let s := (s.fireMark 1).modCmp 1 (fun c => { c with armed := false })
  { s with stat := { s.stat with frozenPast := true } }

theorem State.pastFreeze_eq (s : State) : s.pastFreeze =
    { s with tim := ((s.fireMark 1).modCmp 1 (fun c => { c with armed := false })).tim
             stat := { s.stat with frozenPast := true } } := rfl

theorem State.pastFreeze_disarmed (s : State) : (s.pastFreeze.cmp 1).armed = false := by
  simp [State.pastFreeze, State.cmp, State.modCmp, State.modTim]

/-- The scheduled manifests of the boundary armed. -/
def State.dueMans (s : State) : List (Nat × Manifest) :=
  s.man.mans.filter (fun p => p.2.state == .scheduled && decide (p.2.boundary ≤ s.stat.boundary))

/-- The rerun of one scheduled manifest's checks: it is FROZEN or withdrawn (R83). -/
def State.freezeMan (s : State) (p : Nat × Manifest) : State :=
  match s.commitChecks p.1 p.2 with
  | none => s.modMan p.1 (fun m => { m with state := .frozen })
  | some (_, f) => s.withdraw p.1 f.1

theorem exec_freezePoint_of_due (h : (s.tick t).cmpDue 1 = true) :
    exec (.freezePoint t) s = .next ((sortBy (fun a b => decide (a.2.order ≤ b.2.order)) s.dueMans).foldl State.freezeMan
      (s.tick t).pastFreeze) := by
  have hdue : (s.tick t).dueMans = s.dueMans := by simp [State.dueMans]
  rw [← hdue]
  simp only [exec, execFreezePoint, h]
  rfl

theorem exec_freezePoint_of_none_due (h : (s.tick t).cmpDue 1 = true)
    (hn : s.man.mans.all (fun p => p.2.state != .scheduled) = true) :
    exec (.freezePoint t) s = .next (s.tick t).pastFreeze := by
  have hdue : s.dueMans = [] := by
    rw [State.dueMans, List.filter_eq_nil_iff]
    intro p hp
    have hne : p.2.state ≠ .scheduled := by simpa using List.all_eq_true.mp hn p hp
    simp [hne]
  rw [exec_freezePoint_of_due h, hdue]
  rfl

theorem exec_freezePoint_of_one_due (h : (s.tick t).cmpDue 1 = true) (hm : s.man.mans = [(id, m)])
    (hs : m.state = .scheduled) (hb : m.boundary ≤ s.stat.boundary) :
    exec (.freezePoint t) s = .next ((s.tick t).pastFreeze.freezeMan (id, m)) := by
  have hdue : s.dueMans = [(id, m)] := by simp [State.dueMans, hm, hs, hb]
  rw [exec_freezePoint_of_due h, hdue]
  rfl

/-! ### The commit that waited (R85) -/

theorem exec_deferredImmediateCommit_of_held {h : Held} (hh : s.mbx.held = some h) (hw : h.wait = .commit id) (ht : h.tag = tag)
    (hf : s.stat.frozenPast = false) :
    let s1 := ({ s.tick t with mbx := { s.mbx with held := none } } : State).commitPoint id
    exec (.deferredImmediateCommit t tag) s = .next ((s1.complete tag 0 s1.commitWords).take) := by
  simp [exec, execDeferredImmediateCommit, hh, hw, ht, hf]

/-! ### The end of a flush (R79) -/

/-- A flush has ended: the manifest is CLOSED and EV_MAN_APPLIED raised. -/
def State.flushed (s : State) (id : Nat) (m : Manifest) : State :=
  (s.closeMan id 0).raise 0x0201 srcSteward m.tag m.tag id (some (wd m.sec, wd m.ns, 0))

theorem State.flushed_man (s : State) (id : Nat) (m : Manifest) : (s.flushed id m).man = (s.closeMan id 0).man := by
  rw [State.flushed, State.raise_man]

theorem exec_manFlushEnd_of_applying (hm : tfind s.man.mans id = some m) (hs : m.state = .applying) :
    exec (.manFlushEnd t id) s =
      .next (if ((s.tick t).closeMan id 0).man.mans.any (fun p => p.2.state == .applying) then (s.tick t).flushed id m
        else ((s.tick t).flushed id m).audioFlush) := by
  simp only [exec, execManFlushEnd, State.tick_man, hm, hs, ne_eq, not_true_eq_false, ↓reduceIte]
  rw [← State.flushed_man]
  rfl

end

theorem manifestEvents : manifestEventsSay := by
  refine ⟨fun t tag id s m ho he => ?timeout, fun t s hdue hnone => ?noneDue, fun t id s m hdue hm hs hb hc => ?oneDue,
    fun t tag id s h hh hw ht hf => ?deferred, fun t man s m hm hs hmore => ?otherFlushes,
    fun t man s m hm hs hlast => ?lastFlush⟩
  case timeout => exact ⟨_, exec_manOpenTimeout_of_expired ho he, rfl, by simp⟩
  case noneDue =>
    exact ⟨_, exec_freezePoint_of_none_due hdue hnone, rfl, State.pastFreeze_disarmed _, State.pastFreeze_eq _⟩
  case oneDue =>
    have hpast : (s.tick t).pastFreeze.commitChecks id m = none := by
      rwa [State.pastFreeze_eq, State.tick_stat]
    have hfrozen : (s.tick t).pastFreeze.freezeMan (id, m) =
        (s.tick t).pastFreeze.modMan id (fun m => { m with state := .frozen }) := by
      simp [State.freezeMan, hpast]
    have hmans : (s.tick t).pastFreeze.man.mans = [(id, m)] := (congrArg ManSt.mans (s.tick_man t)).trans hm
    refine ⟨_, exec_freezePoint_of_one_due hdue hm hs hb, ?_, ?_⟩ <;> rw [hfrozen]
    · rfl
    · simp [State.modMan, tfind_tupd_same, hmans, tfind]
  case deferred => exact ⟨_, exec_deferredImmediateCommit_of_held hh hw ht hf, State.replied_complete_take _ _ _ _⟩
  case otherFlushes =>
    refine ⟨_, exec_manFlushEnd_of_applying hm hs, ?_, ?_⟩ <;> rw [if_pos hmore]
    · rfl
    · exact State.flushed_man _ _ _
  case lastFlush =>
    refine ⟨_, exec_manFlushEnd_of_applying hm hs, ?_⟩
    rw [if_neg (by simp [hlast]), State.flushed]

/-- Settles O11: the close keeps the outcome and the manifests that are not CLOSED, and each event does as its rule says. -/
theorem manifestTimers : Obligations.ManifestTimers := ⟨manifestClosed, manifestEvents⟩

end Sys2Proof.Machine
end

section
/-! PROOFS. Changes of one queue pair, the doorbells, and the messages that interrupts send (R97, R98, R103, R104, R120, R451,
R534). -/

namespace Sys2Proof.Machine
open Sys2Proof.Say

/-! ### A change of one queue pair -/

@[simp] theorem State.qp_modQp_same (s : State) (n q : Nat) (f : Qp → Qp) : (s.modQp n q f).qp n q = f (s.qp n q) := by
  simp [State.qp, State.modQp]

theorem State.qp_modQp_ne (s : State) (n : Nat) {q j : Nat} (f : Qp → Qp) (h : j ≠ q) : (s.modQp n q f).qp n j = s.qp n j := by
  simp [State.qp, State.modQp, Ne.symm h]

theorem State.inst_modQp_ne (s : State) (q : Nat) {n k : Nat} (f : Qp → Qp) (h : k ≠ n) : (s.modQp n q f).inst k = s.inst k :=
  s.inst_modInst_ne _ (Ne.symm h)

theorem State.inst_modQp_same (s : State) (n q : Nat) (f : Qp → Qp) :
    (s.modQp n q f).inst n = { s.inst n with qps := tmod (s.inst n).qps q {} f } := s.inst_modInst_same n _

theorem State.inst_of_ins {s s' : State} (h : s'.ins = s.ins) (k : Nat) : s'.inst k = s.inst k := by simp [State.inst, h]

@[simp] theorem State.inst_count (s : State) (g n i k : Nat) : (s.count g n i).inst k = s.inst k := State.inst_of_ins (by simp) k

theorem State.evq_of_evt {s s' : State} (h : s'.evt = s.evt) (k : Nat) : s'.evq k = s.evq k := by simp [State.evq, h]

@[simp] theorem State.evq_modEvq_same (s : State) (n : Nat) (f : EvQueue → EvQueue) : (s.modEvq n f).evq n = f (s.evq n) := by
  simp [State.evq, State.modEvq]

theorem State.evq_modEvq_ne (s : State) {n k : Nat} (f : EvQueue → EvQueue) (h : k ≠ n) : (s.modEvq n f).evq k = s.evq k := by
  simp [State.evq, State.modEvq, Ne.symm h]

/-- A tick followed by a change of one queue pair: that pair, the other pairs and instances, and the rest of the state. -/
theorem State.tick_modQp_effect (s : State) (t n q : Nat) (f : Qp → Qp) :
    let s' := (s.tick t).modQp n q f
    s'.qp n q = f (s.qp n q) ∧ (∀ k, k ≠ n → s'.inst k = s.inst k) ∧ (∀ j, j ≠ q → s'.qp n j = s.qp n j) ∧
      s'.inst n = { s.inst n with qps := (s'.inst n).qps } ∧ s' = { s.tick t with ins := { s.ins with insts := s'.ins.insts } } := by
  refine ⟨by simp, fun k hk => ?_, fun j hj => ?_, ?_, ?_⟩
  · rw [State.inst_modQp_ne _ q f hk, State.tick_inst]
  · rw [State.qp_modQp_ne _ n f hj, State.tick_qp]
  · rw [State.inst_modQp_same, State.tick_inst]
  · simp [State.modQp, State.modInst]

/-- A tick followed by a change of one event queue. -/
theorem State.tick_modEvq_effect (s : State) (t n : Nat) (f : EvQueue → EvQueue) :
    let s' := (s.tick t).modEvq n f
    s'.evq n = f (s.evq n) ∧ (∀ k, k ≠ n → s'.evq k = s.evq k) ∧
      s' = { s.tick t with evt := { s.evt with queues := s'.evt.queues } } :=
  ⟨by simp, fun k hk => by simp [State.evq_modEvq_ne _ _ hk], by simp [State.modEvq]⟩

/-! ### Doorbells (R97, R98, R451, R534) -/

theorem State.doorbell_of_active {s : State} {n q : Nat} (f : Qp → State) (he : s.enabled n = true) (hq : q < qpCount n)
    (ha : (s.qp n q).state = .active) : s.doorbell n q f = f (s.qp n q) := by
  simp [State.doorbell, he, hq, ha]

theorem State.doorbell_of_error {s : State} {n q : Nat} (f : Qp → State) (he : s.enabled n = true) (hq : q < qpCount n)
    (ha : (s.qp n q).state = .error) : s.doorbell n q f = s.modInst n (fun i => { i with qpError := true }) := by
  simp [State.doorbell, he, hq, ha]

theorem State.doorbell_of_unreached {s : State} {n q : Nat} (f : Qp → State)
    (h : s.enabled n = false ∨ qpCount n ≤ q ∨ (s.qp n q).state = .disabled) : s.doorbell n q f = s := by
  obtain h | h | h := h <;> simp [State.doorbell, h]

/-- A doorbell that is ignored: the tag's error bit, the counter, the other tags, and the rest of the state (R97). -/
theorem State.tick_doorbellError_effect (s : State) (t n : Nat) (tail : Bool) :
    let s' := (s.tick t).doorbellError n tail
    s'.inst n = (if tail then { s.inst n with badTail := true } else { s.inst n with badHead := true }) ∧
      s'.counter 3 n 2 = min statMax (s.counter 3 n 2 + 1) ∧ (∀ k, k ≠ n → s'.inst k = s.inst k) ∧
      s' = { s.tick t with ins := { s.ins with insts := s'.ins.insts }, stat := s'.stat } := by
  refine ⟨by simp [State.doorbellError], ?_, fun k hk => ?_, ?_⟩
  · rw [State.doorbellError, State.counter_count_same]
    exact congrArg (min statMax <| · + 1) (State.counter_of_stat (by simp) _ _ _)
  · rw [State.doorbellError, State.inst_count, State.inst_modInst_ne _ _ (Ne.symm hk), State.tick_inst]
  · rw [State.doorbellError, State.count_frame]
    simp [State.modInst]

section
variable {t n q : Nat} {v : Word} {s : State}

theorem exec_sqTail_of_active (he : s.enabled n = true) (hq : q < qpCount n) (ha : (s.qp n q).state = .active) :
    exec (.qdbSqTailWrite t n q v) s = .next (
      if 2 ^ (s.qp n q).sqLog2 ≤ fld v 15 0 ∨
          2 ^ (s.qp n q).sqLog2 ≤ pendingIn (s.qp n q) + ringDist (s.qp n q).sqTail (fld v 15 0) (s.qp n q).sqLog2 then
        (s.tick t).doorbellError n true
      else (s.tick t).modQp n q (fun p => { p with sqTail := fld v 15 0 })) := by
  refine congrArg Host.Outcome.next ((State.doorbell_of_active _ (by simpa) hq (by simpa)).trans ?_)
  rw [State.tick_qp]
  rfl

theorem exec_cqHead_of_active (he : s.enabled n = true) (hq : q < qpCount n) (ha : (s.qp n q).state = .active) :
    let p := s.qp n q
    let freed := freedBy p.cqHead (fld v 15 0) p.cqTail p.cqUsed p.cqLog2
    exec (.qdbCqHeadWrite t n q v) s = .next (
      if 2 ^ p.cqLog2 ≤ fld v 15 0 ∨ p.cqUsed < freed then (s.tick t).doorbellError n false
      else (s.tick t).modQp n q (fun p => { p with cqHead := fld v 15 0, cqUsed := p.cqUsed - freed })) := by
  refine congrArg Host.Outcome.next ((State.doorbell_of_active _ (by simpa) hq (by simpa)).trans ?_)
  rw [State.tick_qp]

/-- Both doorbells of a pair test first that they reach it. -/
theorem exec_pairDoorbell {c : Instr} (hc : c = .qdbSqTailWrite t n q v ∨ c = .qdbCqHeadWrite t n q v) :
    ∃ f, exec c s = .next ((s.tick t).doorbell n q f) := by
  obtain rfl | rfl := hc <;> exact ⟨_, rfl⟩

theorem State.writeLost_of_none (h : (s.evq n).lostPending = 0) : s.writeLost n = s := by
  simp [State.writeLost, h]

section
variable (he : s.enabled n = true) (hn : isSlice n = false) (ha : (s.evq n).active = true)
include he hn ha

theorem exec_eqHead_of_bad (h : 2 ^ (s.evq n).log2 ≤ fld v 15 0 ∨
    (s.evq n).used < freedBy (s.evq n).head (fld v 15 0) (s.evq n).tail (s.evq n).used (s.evq n).log2) :
    exec (.qdbEqHeadWrite t n v) s = .next ((s.tick t).doorbellError n false) := by
  simp [exec, execQdbEqHeadWrite, he, hn, ha, h]

/-- A head within the queue frees the entries it passes; without a lost record nothing is written (R97, R451). -/
theorem exec_eqHead_of_good (h1 : fld v 15 0 < 2 ^ (s.evq n).log2)
    (h2 : freedBy (s.evq n).head (fld v 15 0) (s.evq n).tail (s.evq n).used (s.evq n).log2 ≤ (s.evq n).used)
    (hl : (s.evq n).lostPending = 0) :
    exec (.qdbEqHeadWrite t n v) s = .next ((s.tick t).modEvq n (fun e => { e with
      head := fld v 15 0
      used := e.used - freedBy (s.evq n).head (fld v 15 0) (s.evq n).tail (s.evq n).used (s.evq n).log2 })) := by
  have hgood := not_or.mpr ⟨Nat.not_le.mpr h1, Nat.not_lt.mpr h2⟩
  simp [exec, execQdbEqHeadWrite, he, hn, ha, hgood, State.writeLost_of_none, hl]

end

end

theorem doorbells : doorbellsSay := by
  refine ⟨fun t n q v s he hq ha hb => ?tail, fun t n q v s he hq ha hb => ?badTail, fun t n q v s he hq ha => ⟨fun h1 h2 => ?head,
    fun hb => ?badHead⟩, fun t n q v s c hc => ⟨fun he hq ha => ?error, fun h => ?unreached⟩,
    fun t n v s he hn ha => ⟨fun h1 h2 hl => ?eqHead, fun hb => ?badEqHead⟩⟩
  case tail => exact ⟨_, (exec_sqTail_of_active he hq ha).trans (congrArg _ (if_neg hb)), s.tick_modQp_effect t n q _⟩
  case badTail => exact ⟨_, (exec_sqTail_of_active he hq ha).trans (congrArg _ (if_pos hb)), s.tick_doorbellError_effect t n true⟩
  case head => exact ⟨_, (exec_cqHead_of_active he hq ha).trans (by rw [if_neg (by omega)]), s.tick_modQp_effect t n q _⟩
  case badHead => exact ⟨_, (exec_cqHead_of_active he hq ha).trans (by rw [if_pos hb]), s.tick_doorbellError_effect t n false⟩
  case error =>
    obtain ⟨f, hf⟩ := exec_pairDoorbell (s := s) hc
    exact ⟨_, hf.trans (by rw [State.doorbell_of_error f (by simpa) hq (by simpa)]), s.tick_modInst_effect t n _⟩
  case unreached =>
    obtain ⟨f, hf⟩ := exec_pairDoorbell (s := s) hc
    exact hf.trans (by rw [State.doorbell_of_unreached f (by simpa)])
  case eqHead => exact ⟨_, exec_eqHead_of_good he hn ha h1 h2 hl, s.tick_modEvq_effect t n _⟩
  case badEqHead =>
    obtain ⟨hi, hc, -, hs⟩ := s.tick_doorbellError_effect t n false
    exact ⟨_, exec_eqHead_of_bad he hn ha hb, hi, hc, hs⟩

/-! ### Messages (R103, R104, R120) -/

/-- Pending messages that leave change the function's vectors and the output only. -/
theorem State.msixFlush_form (s : State) (fn : Nat) :
    s.msixFlush fn = { s with ins := { s.ins with fns := (s.msixFlush fn).ins.fns }, out := (s.msixFlush fn).out } ∧
      (s.msixFlush fn).func fn = { s.func fn with msix := ((s.msixFlush fn).func fn).msix } := by
  unfold State.msixFlush
  dsimp only
  split
  · exact ⟨rfl, rfl⟩
  · refine foldl_rel (fun a b : State => b = { a with ins := { a.ins with fns := b.ins.fns }, out := b.out } ∧
      b.func fn = { a.func fn with msix := (b.func fn).msix }) (fun _ => ⟨rfl, rfl⟩) ?_ _ ?_ _ _
    · intro a b c ⟨hab, hab'⟩ ⟨hbc, hbc'⟩
      exact ⟨by rw [hbc, hab], by rw [hbc', hab']⟩
    · intro a p
      split
      · exact ⟨rfl, by simp⟩
      · exact ⟨rfl, rfl⟩

theorem State.signal_form (s : State) (n v : Nat) :
    s.signal n v = { s with ins := { s.ins with fns := (s.signal n v).ins.fns }, out := (s.signal n v).out } := s.msix_frame _ v

@[simp] theorem State.inst_signal (s : State) (n v k : Nat) : (s.signal n v).inst k = s.inst k := by
  rw [State.signal_form]
  rfl

@[simp] theorem State.qp_signal (s : State) (n v k q : Nat) : (s.signal n v).qp k q = s.qp k q := by simp [State.qp]

/-- A function that may not send keeps its pending messages. -/
theorem State.msixFlush_of_held (s : State) (fn : Nat)
    (h : (s.func fn).msixEn = false ∨ (s.func fn).fnMask = true ∨ (s.func fn).bme = false) : s.msixFlush fn = s := by
  obtain h | h | h := h <;> simp [State.msixFlush, h]

theorem exec_cqCoalesceTimeout_of_waiting {t n q : Nat} {s : State} (he : s.enabled n = true) (ha : (s.qp n q).state = .active)
    (hu : (s.qp n q).unsignalled ≠ 0) : exec (.cqCoalesceTimeout t n q) s =
      .next ((s.tick (max t ((s.qp n q).firstUnsig + (s.qp n q).coalT))).cqSignal n q) :=
  if_neg (by simp [he, ha, hu])

theorem exec_msixVectorUnmask {t fn v : Nat} (s : State) (h : fn = 0 ∧ v < 64 ∨ 1 ≤ fn ∧ fn ≤ 31 ∧ v < 8) :
    exec (.msixVectorUnmask t fn v) s = .next (((s.tick t).modFunc fn (fun f =>
      { f with msix := tmod f.msix v {} (fun e => { e with mask := false }) })).msixFlush fn) := by
  refine if_neg ?_
  split <;> omega

theorem exec_busMasterEnableChange {t fn : Nat} (level : Bool) (s : State) (h : fn ≤ 31) :
    exec (.busMasterEnableChange t fn level) s = .next (
      if level then (((s.tick t).modFunc fn (fun f => { f with bme := level })).msixFlush fn).writeLost fn
      else (s.tick t).modFunc fn (fun f => { f with bme := level })) := if_neg (by omega)

theorem interruptsDelivered : interruptsDeliveredSay := by
  refine ⟨fun t n q s he ha hu => ?coalesce, fun t fn v s e hfn hmsix hen hfm hbme hpend => ?unmask,
    fun t fn v s hfn hheld => ?held, fun t fn s hfn => ?cleared, fun t fn v s e hfn hmsix hen hfm hpend hmask hlost => ?set⟩
  case coalesce =>
    have hqp : ((s.tick (max t ((s.qp n q).firstUnsig + (s.qp n q).coalT))).cqSignal n q).qp n q =
        { s.qp n q with unsignalled := 0 } := by simp [State.cqSignal]
    refine ⟨_, exec_cqCoalesceTimeout_of_waiting he ha hu, by rw [hqp], hqp, fun k hk => ?_, ?_⟩
    · simp [State.cqSignal, State.inst_modQp_ne _ q _ hk]
    · rw [State.cqSignal, State.signal_frame]
      rfl
  case unmask =>
    have hset : ((s.tick t).modFunc fn (fun f =>
        { f with msix := tmod f.msix v {} (fun e => { e with mask := false }) })).func fn =
        { s.func fn with msix := [(v, { e with mask := false })] } := by simp [hmsix, tmod, tset, tget, tfind]
    obtain ⟨hsent, hout⟩ := State.msixFlush_of_singleton _ fn v { e with mask := false } (by rw [hset]) hpend rfl
      (by rwa [hset]) (by rwa [hset]) (by rwa [hset])
    refine ⟨_, exec_msixVectorUnmask s hfn, by simpa using hout, hsent, ?_⟩
    rw [(State.msixFlush_form _ fn).1]
    simp [State.modFunc]
  case held =>
    obtain ⟨hfunc, -, hframe⟩ := s.tick_modFunc_effect t fn
      (fun f => { f with msix := tmod f.msix v {} (fun e => { e with mask := false }) })
    exact ⟨_, (exec_msixVectorUnmask s hfn).trans (by rw [State.msixFlush_of_held _ fn (by simpa using hheld)]), hfunc, hframe⟩
  case cleared => exact ⟨_, exec_busMasterEnableChange false s hfn, s.tick_modFunc_effect t fn _⟩
  case set =>
    have hset : ((s.tick t).modFunc fn (fun f => { f with bme := true })).func fn = { s.func fn with bme := true } := by simp
    obtain ⟨-, hout⟩ := State.msixFlush_of_singleton _ fn v e (by rw [hset, hmsix]) hpend hmask
      (by rwa [hset]) (by rwa [hset]) (by rw [hset])
    obtain ⟨hframe, hfunc⟩ := State.msixFlush_form ((s.tick t).modFunc fn (fun f => { f with bme := true })) fn
    have hnone : (((s.tick t).modFunc fn (fun f => { f with bme := true })).msixFlush fn).writeLost fn =
        ((s.tick t).modFunc fn (fun f => { f with bme := true })).msixFlush fn := by
      refine State.writeLost_of_none ?_
      rwa [State.evq_of_evt (s := s) (by simp)]
    refine ⟨_, exec_busMasterEnableChange true s hfn, ?_⟩
    rw [if_pos rfl, hnone]
    refine ⟨by simpa using hout, by rw [hfunc, hset], ?_⟩
    rw [hframe]
    simp [State.modFunc]

/-- Settles O13: the doorbells by the change each makes of one pair, one tag or one event queue; the interrupts by what is
pending and may leave. -/
theorem doorbellsAndInterrupts : Obligations.DoorbellsAndInterrupts := ⟨doorbells, interruptsDelivered⟩

end Sys2Proof.Machine
end

section
/-! PROOFS. The fetch of a queue entry and the fill of the translation cache (R101, R102, R105, R106, R108, R110, R121). -/

namespace Sys2Proof.Machine
open Sys2Proof.Say

/-! ### Translation faults and a pair's failure (R98, R108) -/

/-- With tables set, an access within the address space faults only where its walk does (R108). -/
theorem State.xlateCause_of_tables {s : State} {n iova len : Nat} (walk : Option Nat) (hroot : (s.inst n).root.isSome = true)
    (hlen : 0 < len) (hr : iova + len ≤ 2 ^ 33) : s.xlateCause n iova len walk = walk := by
  rw [State.xlateCause, if_neg hlen.ne', if_neg (Nat.not_lt.mpr hr), if_neg (by simp [Option.isSome_iff_ne_none.mp hroot])]

/-- A translation fault is logged with its tag, and of the other tags none changes (R108). -/
theorem State.xlateFault_ins (s : State) (n iova c : Nat) (w : Bool) (src : Nat) : (s.xlateFault n iova c w src).ins =
    (s.modInst n (fun i =>
      if i.faults.length < 8 then
        { i with faults := i.faults ++ [{ iova, cause := c, write := w, source := src, sec := s.sec32, ns := s.servedNs }] }
      else { i with faultsLost := satAdd 255 i.faultsLost 1 })).ins := by
  unfold State.xlateFault
  dsimp only
  split
  · rw [State.raiseTo_frame]
  · rw [State.raise_frame]

theorem State.inst_xlateFault (s : State) (n iova c : Nat) (w : Bool) (src : Nat) : (s.xlateFault n iova c w src).inst n =
    if (s.inst n).faults.length < 8 then
      { s.inst n with
        faults := (s.inst n).faults ++ [{ iova, cause := c, write := w, source := src, sec := s.sec32, ns := s.servedNs }] }
    else { s.inst n with faultsLost := satAdd 255 (s.inst n).faultsLost 1 } := by
  rw [State.inst_of_ins (s.xlateFault_ins n iova c w src), State.inst_modInst_same]

theorem State.qp_xlateFault (s : State) (n iova c : Nat) (w : Bool) (src q : Nat) :
    (s.xlateFault n iova c w src).qp n q = s.qp n q := by
  unfold State.qp
  rw [State.inst_xlateFault]
  split <;> rfl

theorem State.qp_qpFail (s : State) (n q : Nat) : (s.qpFail n q).qp n q = { s.qp n q with state := .error } := by
  simp [State.qpFail, State.qp, State.modQp]

theorem State.inst_qpFail (s : State) (n q : Nat) : (s.qpFail n q).inst n =
    { s.inst n with qps := tmod (s.inst n).qps q {} (fun p => { p with state := .error }), qpError := true } := by
  rw [State.qpFail, State.inst_modInst_same, State.inst_modQp_same]

/-! ### The queue fetch (R101, R102, R105, R108, R110) -/

/-- Where the entry at the head of a pair's SQ lies. -/
def Qp.entryAt (p : Qp) : Nat := p.sqBase + 64 * p.sqHead

/-- The entry at the head of a pair's SQ read: the head past it, with its wrap, and a CQ entry reserved. -/
def State.fetched (s : State) (n q : Nat) : State :=
  (s.tlbTouch n (s.qp n q).entryAt 64).modQp n q (fun p =>
    { p with sqHead := ((s.qp n q).sqHead + 1) % 2 ^ (s.qp n q).sqLog2, reserved := p.reserved + 1 })

/-- A pair has an entry that the hub may fetch. -/
structure State.MayFetch (s : State) (n q : Nat) : Prop where
  enabled : s.enabled n = true
  active : (s.qp n q).state = .active
  entry : (s.qp n q).sqHead ≠ (s.qp n q).sqTail
  room : (s.qp n q).cqFree ≠ 0
  master : s.bme n = true

@[simp] theorem State.inst_tlbTouch (s : State) (n iova len k : Nat) : (s.tlbTouch n iova len).inst k = s.inst k := by
  unfold State.tlbTouch
  split <;> rfl

@[simp] theorem State.qp_tlbTouch (s : State) (n iova len k q : Nat) : (s.tlbTouch n iova len).qp k q = s.qp k q := by
  simp [State.qp]

theorem State.sqCheck_fetched (s : State) (n q k : Nat) (b : List Byte) (o : SqOp) :
    (s.fetched n q).sqCheck k b o = s.sqCheck k b o := by
  rw [State.fetched, State.tlbTouch_frame]
  rfl

section
variable {t n q : Nat} {io : HostIo} {s : State} (h : s.MayFetch n q)
include h

theorem exec_sqEntryFetch_of_fault {c : Nat}
    (hx : (s.tick t).xlateCause n (s.qp n q).entryAt 64 io.dataFault = some c) :
    exec (.sqEntryFetch t n q io) s = .next (((s.tick t).xlateFault n (s.qp n q).entryAt c false 0).qpFail n q) := by
  obtain ⟨he, ha, hne, hroom, hbme⟩ := h
  unfold Qp.entryAt at *
  simp [exec, execSqEntryFetch, he, ha, hne, hroom, hbme, hx]

/-- An entry that translates is fetched; then it completes with the check that fails, or waits to run (R101). -/
theorem exec_sqEntryFetch_of_read (hx : (s.tick t).xlateCause n (s.qp n q).entryAt 64 io.dataFault = none) :
    let b := (io.data ++ List.replicate 64 0).take 64
    let o := sqOf b (((s.qp n q).sqHead + 1) % 2 ^ (s.qp n q).sqLog2)
    exec (.sqEntryFetch t n q io) s = .next (((s.tick t).sqCheck n b o).elim
      (((s.tick t).fetched n q).modQp n q (fun p => { p with ops := p.ops ++ [o] }))
      (fun st => ((s.tick t).fetched n q).opDone n q o st [] io)) := by
  intro b o
  obtain ⟨he, ha, hne, hroom, hbme⟩ := h
  rw [← State.sqCheck_fetched _ n q]
  unfold State.fetched Qp.entryAt at *
  simp only [exec, execSqEntryFetch, State.tick_enabled, State.tick_qp, State.tick_bme, he, ha, beq_eq_false_iff_ne.mpr hne,
    beq_eq_false_iff_ne.mpr hroom, hbme, hx, Bool.not_true, Bool.or_false, ne_eq, not_true_eq_false, decide_false,
    Bool.false_eq_true, ↓reduceIte]
  split <;> rename_i hc <;> simp only [b, o, hc, Option.elim]

end

theorem queueFetch : queueFetchSay := by
  intro t n q io s he ha hne hroom hbme p b head o
  have h : s.MayFetch n q := ⟨he, ha, hne, hroom, hbme⟩
  refine ⟨fun hx hc => ?waits, fun hx ho => ?unknown, fun c hx => ?fault⟩
  case waits =>
    refine ⟨_, (exec_sqEntryFetch_of_read h hx).trans (congrArg (fun x => Host.Outcome.next (Option.elim x _ _)) hc), ?_,
      fun k hk => ?_, fun j hj => ?_, ?_⟩
    · rw [Option.elim_none, State.qp_modQp_same, State.fetched, State.qp_modQp_same, State.qp_tlbTouch, State.tick_qp]
    · simp [State.fetched, State.inst_modQp_ne _ q _ hk]
    · simp [State.fetched, State.qp_modQp_ne _ n _ hj]
    · rw [State.fetched, State.tlbTouch_frame]
      rfl
  case unknown =>
    have hc : (s.tick t).sqCheck n b o = some 0x0010 := by simp [State.sqCheck, ho]
    refine ⟨_, (exec_sqEntryFetch_of_read h hx).trans (congrArg (fun x => Host.Outcome.next (Option.elim x _ _)) hc), ?_⟩
    rw [State.fetched, State.tick_qp]
    rfl
  case fault =>
    refine ⟨_, exec_sqEntryFetch_of_fault h hx, ?_, ?_, ?_, fun hroom => ?_⟩
    · rw [State.qp_qpFail]
    · rw [State.inst_qpFail]
    · rw [State.qp_qpFail, State.qp_xlateFault, State.tick_qp]
    · rw [State.inst_qpFail, State.inst_xlateFault, State.tick_inst, if_pos hroom]
      rfl

/-! ### The translation fill (R105, R106, R108, R121) -/

/-- A walk for a page began before an invalidation that covers it (R121). -/
def State.walkStale (s : State) (n iova : Nat) (w : Walk) : Bool :=
  s.ins.invals.any (fun (at_, g, first, count) => g == n && decide (w.began ≤ at_) &&
    (count == 0 || (decide (first ≤ iova / 4096) && decide (iova / 4096 < first + count))))

/-- The translation that a leaf entry gives (Table 4-5). -/
def leafEntry (n iova : Nat) (l : Word64) : TlbEntry :=
  { tag := n, page := iova / 4096, bus := ptePage l, r := pteR l, w := pteW l, used := 0 }

section
variable {t n iova : Nat} {w : Walk} {s : State} (he : s.enabled n = true) (hi : iova < 2 ^ 33)
  (hroot : (s.inst n).root.isSome = true)
include he hi hroot

theorem exec_tlbFill_of_error {c : Nat} (hw : walkOf w = .error c) :
    exec (.tlbFill t n iova w) s = .next ((s.tick t).xlateFault n iova c w.write w.source) := by
  have hx := State.xlateCause_of_tables (s := s) (n := n) none hroot one_pos (by omega : iova + 1 ≤ 2 ^ 33)
  simp [exec, execTlbFill, he, hx, hw]

theorem exec_tlbFill_of_stale {l : Word64} (hw : walkOf w = .ok l) (hs : s.walkStale n iova w = true) :
    exec (.tlbFill t n iova w) s = .next (s.tick t) := by
  have hx := State.xlateCause_of_tables (s := s) (n := n) none hroot one_pos (by omega : iova + 1 ≤ 2 ^ 33)
  unfold State.walkStale at hs
  simp only [exec, execTlbFill, State.tick_enabled, State.tick_xlateCause, State.tick_ins, he, hx, hw, hs, Bool.not_true,
    Bool.false_eq_true, ↓reduceIte]

theorem exec_tlbFill_of_fresh {l : Word64} (hw : walkOf w = .ok l) (hs : s.walkStale n iova w = false) :
    exec (.tlbFill t n iova w) s = .next ((s.tick t).tlbInstall (leafEntry n iova l)) := by
  have hx := State.xlateCause_of_tables (s := s) (n := n) none hroot one_pos (by omega : iova + 1 ≤ 2 ^ 33)
  unfold State.walkStale at hs
  simp only [exec, execTlbFill, State.tick_enabled, State.tick_xlateCause, State.tick_ins, he, hx, hw, hs, Bool.not_true,
    Bool.false_eq_true, ↓reduceIte, leafEntry]

end

theorem walkOf_of_leaf {w : Walk} {r l : Word64} (hr : w.root = some r) (hl : w.leaf = some l) : walkOf w =
    if !pteV r then .error 2
    else if !pteV l then .error 3
    else if w.write && !pteW l then .error 4
    else if !w.write && !pteR l then .error 5
    else .ok l := by
  simp [walkOf, hr, hl]

/-- The entries beside a new one hold nothing of its tag and page (R106). -/
theorem State.tlbInstall_tail (s : State) (e : TlbEntry) : ∃ l, (s.tlbInstall e).ins.tlb = { e with used := s.ins.tlbClock } :: l ∧
    ∀ x ∈ l, (x.tag == e.tag && x.page == e.page) = false := by
  refine ⟨_, rfl, fun x hx => ?_⟩
  have hother : x ∈ s.ins.tlb.filter (fun x => !(x.tag == e.tag && x.page == e.page)) := by
    split at hx
    · exact List.mem_of_mem_filter hx
    · exact hx
  simpa only [Bool.not_eq_true'] using (List.mem_filter.mp hother).2

theorem translationFill : translationFillSay := by
  intro t n iova w s r l he hi hroot hr hl
  have hwalk := walkOf_of_leaf hr hl
  have hok (hvr : pteV r = true) (hvl : pteV l = true) (hw : w.write = true → pteW l = true)
      (hrd : w.write = false → pteR l = true) : walkOf w = .ok l := by
    cases hwr : w.write <;> simp_all
  refine ⟨fun hvr hvl hw hrd hfresh => ?installs, fun at_ first count hmem hbegan hcovers hvr hvl hw hrd => ?stale,
    fun hvr => ?root, fun hvr hvl => ?leaf, fun hvr hvl hw hwr => ?write, fun hvr hvl hw hrd => ?read⟩
  case installs =>
    have hs : s.walkStale n iova w = false := by
      rw [State.tick_ins] at hfresh
      exact List.any_eq_false.mpr fun x hx =>
        ne_true_of_eq_false ((Bool.not_eq_true' _).mp (List.all_eq_true.mp hfresh x hx))
    obtain ⟨rest, hnew, hother⟩ := (s.tick t).tlbInstall_tail (leafEntry n iova l)
    refine ⟨_, exec_tlbFill_of_fresh he hi hroot (hok hvr hvl hw hrd) hs, ?_, ?_, ?_⟩
    · rw [hnew, State.tick_ins]
      rfl
    · rw [hnew, List.filter_cons_of_pos (by simp [leafEntry]), List.filter_eq_nil_iff.mpr (by simpa [leafEntry] using hother)]
      rfl
    · simp [State.tlbInstall]
  case stale =>
    refine exec_tlbFill_of_stale he hi hroot (hok hvr hvl hw hrd) (List.any_eq_true.mpr ⟨_, hmem, ?_⟩)
    obtain hall | ⟨hfirst, hlast⟩ := hcovers
    · simp [hbegan, hall]
    · simp [hbegan, hfirst, hlast]
  case root => exact exec_tlbFill_of_error he hi hroot (by simp [hwalk, hvr])
  case leaf => exact exec_tlbFill_of_error he hi hroot (by simp [hwalk, hvr, hvl])
  case write => exact exec_tlbFill_of_error he hi hroot (by simp [hwalk, hvr, hvl, hw, hwr])
  case read => exact exec_tlbFill_of_error he hi hroot (by simp [hwalk, hvr, hvl, hw, hrd])

/-- Settles O14: the fetch by what the entry's translation and checks answer; the fill by what the walk found. -/
theorem queueFetchAndFill : Obligations.QueueFetchAndFill := ⟨queueFetch, translationFill⟩

end Sys2Proof.Machine
end

section
/-! PROOFS. Batch jobs: the grant of a slot, the end of a piece at its boundary, and the end of a discarded job (R110, R111, R141,
R210, R547, Table 4-12). -/

namespace Sys2Proof.Machine
open Sys2Proof.Say

section
variable (s : State)

/-! ### One cell, one job -/

theorem State.qp_of_ins {s s' : State} (h : s'.ins = s.ins) (n q : Nat) : s'.qp n q = s.qp n q := by
  simp [State.qp, State.inst, h]

@[simp] theorem State.cell_modCell_same (n : Nat) (f : Cell → Cell) : (s.modCell n f).cell n = f (s.cell n) := by
  simp [State.cell, State.modCell, State.modSea]

theorem State.cell_modCell_ne {n k : Nat} (f : Cell → Cell) (h : k ≠ n) : (s.modCell n f).cell k = s.cell k := by
  simp [State.cell, State.modCell, State.modSea, h.symm]

theorem State.cell_of_cells {s s' : State} (h : s'.sea.cells = s.sea.cells) (k : Nat) : s'.cell k = s.cell k := by
  simp [State.cell, h]

@[simp] theorem State.cell_modJob (n k : Nat) (f : Job → Job) : (s.modJob n f).cell k = s.cell k := rfl
@[simp] theorem State.cell_unwait (w : Work) (k : Nat) : (s.unwait w).cell k = s.cell k := rfl
@[simp] theorem State.job_modCell (n k : Nat) (f : Cell → Cell) : (s.modCell n f).job k = s.job k := rfl
@[simp] theorem State.job_unwait (w : Work) (k : Nat) : (s.unwait w).job k = s.job k := rfl

@[simp] theorem State.job_modJob_same (n : Nat) (f : Job → Job) : (s.modJob n f).job n = (s.job n).map f := tfind_tupd_same _ n f

/-! ### The end of a discarded job (Table 4-12, R547) -/

theorem State.releaseSlot_frame (n : Nat) : s.releaseSlot n =
    { s with sea := { s.sea with slots := (s.releaseSlot n).sea.slots }, stat := (s.releaseSlot n).stat } := by
  unfold State.releaseSlot
  split
  · rfl
  · rw [State.count_frame]
    rfl

theorem State.freeObjects_frame (l : List Nat) : l.foldl State.freeObject s =
    { s with cap := (l.foldl State.freeObject s).cap } :=
  foldl_rel (fun a b : State => b = { a with cap := b.cap }) (fun _ => rfl) (fun a b c h1 h2 => by rw [h2, h1]) _ (fun _ _ => rfl) l s

/-- A cell whose hub-entered request has ended holds no registers of it (R146 step 2). -/
def Cell.endRequest (n : Nat) (c : Cell) : Cell := if c.request == some n then c.clearRegs else c

/-- A unit of work is on no context of a cell any more. -/
def Cell.withoutWork (w : Work) (c : Cell) : Cell :=
  if c.work.contains w then { c with work := c.work.filter (· ≠ w) } else c

/-- A job's cells, slot, objects and its own entry given back, before it completes. -/
def State.jobFreed (n : Nat) (j : Job) : State :=
  let left := (((s.modSea (fun a => { a with cells := tmap a.cells (fun _ => Cell.endRequest n) })).dropWork (.piece n)).unwait
    (.piece n))
  let freed := match j.slot with | some k => (left.dropLease k).releaseSlot k | none => left
  (j.objs.foldl State.freeObject freed).modSea (fun a => { a with jobs := terase a.jobs n })

/-- A discarded job ends without a completion. -/
theorem State.endJob_of_discarded {n : Nat} {j : Job} (h : s.job n = some j) (hd : j.discard = true) (st : Nat) (b : List Byte)
    (cq : Option Nat) : s.endJob n st b cq = s.jobFreed n j := by
  simp only [State.endJob, h, hd, Bool.or_true, ↓reduceIte]
  rfl

theorem State.jobFreed_frame (n : Nat) (j : Job) : s.jobFreed n j =
    { s with cap := (s.jobFreed n j).cap, stat := (s.jobFreed n j).stat
             sea := { s.sea with
               cells := tmap (tmap s.sea.cells (fun _ => Cell.endRequest n)) (fun _ => Cell.withoutWork (.piece n))
               slots := (s.jobFreed n j).sea.slots, leases := (s.jobFreed n j).sea.leases
               waiting := s.sea.waiting.filter (fun x => x.work ≠ .piece n), jobs := terase s.sea.jobs n } } := by
  unfold State.jobFreed
  dsimp only
  rw [State.freeObjects_frame]
  split
  · rw [State.releaseSlot_frame]
    rfl
  · rfl

theorem State.job_jobFreed (n : Nat) (j : Job) : (s.jobFreed n j).job n = none := by
  rw [State.job, State.jobFreed_frame]
  exact tfind_terase_same _ _

/-- A cell without work takes none by a job's end. -/
theorem State.work_jobFreed (n : Nat) (j : Job) {k : Nat} (h : (s.cell k).work = []) : ((s.jobFreed n j).cell k).work = [] := by
  have hcell : (s.jobFreed n j).cell k = (Cell.endRequest n (s.cell k)).withoutWork (.piece n) := by
    rw [State.cell, State.jobFreed_frame]
    exact (tget_tmap _ (fun _ => Cell.withoutWork (.piece n)) k rfl).trans
      (congrArg _ (tget_tmap _ (fun _ => Cell.endRequest n) k rfl))
  have hended : (Cell.endRequest n (s.cell k)).work = [] := by
    unfold Cell.endRequest
    split <;> exact h
  simp [hcell, Cell.withoutWork, hended]

/-! ### The grant of a slot (R110, R111, R141) -/

/-- The job that a fetched JOB_RUN becomes under a gate, with the slot granted to it. -/
def jobOf (tag q : Nat) (o : SqOp) (g : Gate) (c : Cap) (a : Option Cap) (k now : Nat) : Job :=
  { tag, qp := q, cid := o.cid, noCqe := o.noCqe, sqHead := o.sqHead, gate := g.number, gateCap := c, dataIova := o.dataIova
    dataLen := o.dataLen, resIova := o.resIova, resLen := o.resLen, params := o.params, arg := a, slot := some k, since := now }

theorem State.grantSlot_now (k : Nat) (charged : Option Nat) : (s.grantSlot k charged).now = s.now := by
  rw [State.grantSlot_frame]

/-- A fetched operation has left its pair, its job has the slot, and waits for a cell. -/
def State.jobGranted (tag q : Nat) (rest : List SqOp) (g : Gate) (j : Job) (k : Nat) : State :=
  ((((s.modQp tag q (fun p => { p with ops := rest })).grantSlot k (some tag)).modSea (fun a =>
    { a with jobs := tset a.jobs s.sea.nextJob j, nextJob := s.sea.nextJob + 1 })).await (.piece s.sea.nextJob) (casteOf g.caste))

theorem State.jobGranted_frame (tag q : Nat) (rest : List SqOp) (g : Gate) (j : Job) (k : Nat) :
    s.jobGranted tag q rest g j k =
      { s with ins := (s.modQp tag q (fun p => { p with ops := rest })).ins, stat := (s.jobGranted tag q rest g j k).stat
               sea := { s.sea with
                 slots := tset s.sea.slots k { state := .active, charged := some tag }, jobs := tset s.sea.jobs s.sea.nextJob j
                 nextJob := s.sea.nextJob + 1
                 waiting := s.sea.waiting ++ [{ work := .piece s.sea.nextJob, caste := casteOf g.caste, since := s.now }] } } := by
  unfold State.jobGranted
  rw [State.grantSlot_frame, State.grantSlot_sea]
  rfl

theorem State.jobGranted_ins (tag q : Nat) (rest : List SqOp) (g : Gate) (j : Job) (k : Nat) :
    (s.jobGranted tag q rest g j k).ins = (s.modQp tag q (fun p => { p with ops := rest })).ins := by
  rw [State.jobGranted_frame]

end

section
variable {t tag q : Nat} {io : HostIo} {s : State} {o : SqOp} {rest : List SqOp}
  (ho : takeOp 0x06C8 (s.qp tag q).ops = some (o, rest)) (he : s.enabled tag = true)
include ho he

theorem exec_jobRun_of_refused {st : Nat} {body : List Byte} (hg : (s.tick t).gateEntry tag o = .error (st, body)) :
    exec (.jobRun t tag q io) s =
      .next (((s.tick t).modQp tag q (fun p => { p with ops := rest })).opDone tag q o st body io) := by
  rw [State.tick_gateEntry] at hg
  simp [exec, execJobRun, ho, he, hg]

theorem exec_jobRun_of_no_slot {g : Gate × Cap × Option Cap} (hg : (s.tick t).gateEntry tag o = .ok g)
    (hs : s.slotGrantable tag = false) : exec (.jobRun t tag q io) s = .next (s.tick t) := by
  rw [State.tick_gateEntry] at hg
  simp [exec, execJobRun, ho, he, hg, hs]

theorem exec_jobRun_of_slot {g : Gate} {c : Cap} {a : Option Cap} {k : Nat} (hg : (s.tick t).gateEntry tag o = .ok (g, c, a))
    (hs : s.slotGrantable tag = true) (hk : s.freeSlotNo = some k) : exec (.jobRun t tag q io) s =
      .next ((s.tick t).jobGranted tag q rest g (jobOf tag q o g c a k (s.tick t).now) k) := by
  rw [State.tick_gateEntry] at hg
  simp [exec, execJobRun, ho, he, hg, hs, hk, State.jobGranted, jobOf, State.grantSlot_now]

end

/-! ### A job boundary (R210, R547, Table 4-12) -/

/-- A piece has left its cell, and its job counts it no more. -/
def State.pieceEnded (s : State) (cell n : Nat) (last : Bool) : State :=
  let left := ((s.dropWorkOn cell (.piece n)).modCell cell (fun c => if c.request = some n then c.clearRegs else c)).modJob n
    (fun j => { j with pieces := j.pieces - 1 })
  if last then left.unwait (.piece n) else left

section
variable (s : State) (cell n : Nat) (last : Bool)

theorem State.pieceEnded_frame : s.pieceEnded cell n last = { s with sea := (s.pieceEnded cell n last).sea } := by
  cases last <;> rfl

theorem State.job_pieceEnded : (s.pieceEnded cell n last).job n = (s.job n).map (fun j => { j with pieces := j.pieces - 1 }) := by
  cases last <;> simp [State.pieceEnded, State.dropWorkOn]

theorem State.cell_pieceEnded_ne {k : Nat} (h : k ≠ cell) : (s.pieceEnded cell n last).cell k = s.cell k := by
  cases last <;> simp [State.pieceEnded, State.dropWorkOn, State.cell_modCell_ne _ _ h]

theorem State.work_pieceEnded (h : (s.cell cell).work = [.piece n]) : ((s.pieceEnded cell n last).cell cell).work = [] := by
  have hleft : ((s.pieceEnded cell n last).cell cell).work = (s.cell cell).work.erase (.piece n) := by
    cases last <;> simp only [State.pieceEnded, State.dropWorkOn, Bool.false_eq_true, ↓reduceIte, State.cell_unwait,
      State.cell_modJob, State.cell_modCell_same] <;> split <;> rfl
  simp [hleft, h]

end

/-- A piece's end renews the lease of its job's slot, where it has one. -/
def State.renewFor (s : State) (j : Job) : State := match j.slot with | some k => s.renew k | none => s

theorem State.renewFor_frame (s : State) (j : Job) : s.renewFor j =
    { s with sea := { s.sea with leases := (s.renewFor j).sea.leases } } := by
  unfold State.renewFor State.renew
  split
  · split
    · dsimp only
      split <;> rfl
    · rfl
  · rfl

section
variable {t cell n : Nat} {last : Bool} {s : State} {j : Job} (hw : (s.cell cell).work = [.piece n]) (hj : s.job n = some j)
include hw hj

/-- A piece that is no hub-entered request, or whose job is discarded, ends at its boundary; a discarded job ends with its last
piece. -/
theorem exec_jobBoundary_of_piece (hr : (s.cell cell).request = some n → j.discard = true) :
    exec (.jobBoundary t cell last) s = .next (
      if j.discard = true ∧ j.pieces - 1 = 0 then (((s.tick t).pieceEnded cell n last).renewFor j).endJob n 0 [] none
      else ((s.tick t).pieceEnded cell n last).renewFor j) := by
  have hended : ((s.tick t).pieceEnded cell n last).job n = some { j with pieces := j.pieces - 1 } := by
    rw [State.job_pieceEnded, State.tick_job, hj]
    rfl
  have hpiece : ¬((s.cell cell).request = some n ∧ j.discard = false) := fun h => by simp [hr h.1] at h
  unfold State.pieceEnded at *
  simp only [exec, execJobBoundary, State.tick_cell, State.tick_job, hw, hj, List.findSome?_cons, Bool.not_eq_true', hpiece,
    ↓reduceIte, hended, State.renewFor]
  split <;> rfl

end

theorem batchJobs : batchJobsSay := by
  refine ⟨fun t tag q io s o rest ho he => ⟨fun g c a k hg hs hk => ?granted, fun g hg hs => ?waits, fun st body hg => ?refused⟩,
    fun t cell n last s j hw hr hj hd hs => ?boundary, fun t cell n last s j hw hj hd hp => ?discarded⟩
  case granted =>
    have hframe := (s.tick t).jobGranted_frame tag q rest g (jobOf tag q o g c a k (s.tick t).now) k
    refine ⟨_, jobOf tag q o g c a k (s.tick t).now, exec_jobRun_of_slot ho he hg hs hk, ?_, rfl, rfl, rfl, rfl, rfl, ?_, ?_, ?_, ?_,
      fun j hj => ?_, fun i => ?_, ?_⟩
    · rw [hframe]
      simp [State.job]
    · rw [hframe]
      simp [State.slot]
    · rw [State.qp_of_ins (State.jobGranted_ins _ _ _ _ _ _ _), State.qp_modQp_same]
    · rw [hframe, State.tick_sea]
    · rw [hframe, State.tick_sea]
    · rw [hframe]
      simp [State.slot, hj.symm]
    · exact State.cell_of_cells (by rw [hframe]; simp) i
    · exact hframe.trans (by rw [hframe])
  case waits => exact exec_jobRun_of_no_slot ho he hg hs
  case refused => exact ⟨_, exec_jobRun_of_refused ho he hg, rfl⟩
  case boundary =>
    have hexec := exec_jobBoundary_of_piece (t := t) (last := last) hw hj (fun h => absurd h hr)
    simp only [hd, State.renewFor, hs, Bool.false_eq_true, false_and, ↓reduceIte] at hexec
    refine ⟨_, hexec, ?_, ?_, fun k hk => ?_, State.pieceEnded_frame _ _ _ _⟩
    · exact State.work_pieceEnded _ _ _ _ (by rwa [State.tick_cell])
    · rw [State.job_pieceEnded, State.tick_job, hj]
      rfl
    · rw [State.cell_pieceEnded_ne _ _ _ _ hk, State.tick_cell]
  case discarded =>
    have hframe := ((s.tick t).pieceEnded cell n last).renewFor_frame j
    have hj1 : (((s.tick t).pieceEnded cell n last).renewFor j).job n = some { j with pieces := j.pieces - 1 } := by
      rw [hframe]
      refine (State.job_pieceEnded _ _ _ _).trans ?_
      rw [State.tick_job, hj]
      rfl
    have hw1 : ((((s.tick t).pieceEnded cell n last).renewFor j).cell cell).work = [] := by
      rw [hframe]
      exact State.work_pieceEnded _ _ _ _ (by rwa [State.tick_cell])
    refine ⟨_, (exec_jobBoundary_of_piece hw hj (fun _ => hd)).trans (congrArg _ (if_pos ⟨hd, by omega⟩)), ?_, ?_⟩
    · rw [State.endJob_of_discarded _ hj1 hd, State.job_jobFreed]
    · rw [State.endJob_of_discarded _ hj1 hd, State.work_jobFreed _ _ _ hw1]

end Sys2Proof.Machine
end

section
/-! PROOFS. Scores, peaks of busy cells, and task inputs (R189, R193, R199, R200). -/

namespace Sys2Proof.Machine
open Sys2Proof.Say

/-! ### The score tick (R189, R193) -/

/-- A cell at a score tick: an AVAILABLE one takes its terms and their weighted sum. -/
def State.scored (s : State) (n : Nat) (c : Cell) : Cell :=
  if c.state == .available then { c with terms := s.scoreTerms n, score := s.scoreOf (s.scoreTerms n) } else c

theorem exec_scoreTick (t : Nat) (s : State) : exec (.scoreTick t) s = .next ((s.tick t).modSea (fun a => { a with
    cells := tmap s.sea.cells s.scored
    peaks := (List.range 5).map (fun k => max (s.sea.peaks.getD k 0) (s.busyCells.getD k 0)) })) := by
  have hscored : s.scored = (s.tick t).scored := by
    unfold State.scored
    simp only [State.tick_scoreTerms, State.tick_scoreOf]
  rw [hscored]
  simp only [exec, execScoreTick, State.tick_sea, State.tick_busyCells]
  rfl

theorem State.cell_scored {s s' : State} (h : s'.sea.cells = tmap s.sea.cells s.scored) (n : Nat) :
    s'.cell n = s.scored n (s.cell n) := by
  rw [State.cell, h]
  exact tget_tmap _ _ _ rfl

/-! ### Task inputs (R199, R200) -/

section
variable {x : TaskInput} {t : Nat}

theorem TaskInput.inCycle_of_new (h : x.cycle ≠ t + 1) : x.inCycle t =
    { x with cycle := t + 1, count0 := x.count, first0 := x.first, ovf0 := x.ovf, taken := 0, arrived := [] } := if_neg h

theorem TaskInput.inCycle_of_same (h : x.cycle = t + 1) : x.inCycle t = x := if_pos h

end

/-- A task input after arrivals of its cycle (R199). -/
def TaskInput.arrive (x : TaskInput) (src : List Nat) : TaskInput :=
  { x with arrived := x.arrived ++ src.filter (fun n => decide (n < 64)) }.settle

/-- A task input after takes of its cycle (R200). -/
def TaskInput.take (x : TaskInput) (n : Nat) : TaskInput := { x with taken := min x.count0 (x.taken + n) }.settle

section
variable {t cell i : Nat} {s : State} (hc : (s.cell cell).state ≠ .absent) (hi : i ≤ 15)
include hc hi

theorem exec_taskInputEvent_of_present (src : List Nat) : exec (.taskInputEvent t cell i src) s =
    .next (((s.tick t).setTaskInput cell i (((s.taskInput cell i).inCycle (s.tick t).now).arrive src)).count 5 cell 1
      ((((s.taskInput cell i).inCycle (s.tick t).now).arrive src).over - ((s.taskInput cell i).inCycle (s.tick t).now).over)) := by
  rw [← State.tick_taskInput s t]
  exact if_neg (not_or.mpr ⟨by rwa [State.tick_cell], by omega⟩)

theorem exec_taskInputTake_of_present (n : Nat) : exec (.taskInputTake t cell i n) s =
    .next ((s.tick t).setTaskInput cell i (((s.taskInput cell i).inCycle (s.tick t).now).take n)) := by
  rw [← State.tick_taskInput s t]
  exact if_neg (not_or.mpr ⟨by rwa [State.tick_cell], by omega⟩)

theorem exec_taskOvfClear_of_present : exec (.taskOvfClear t cell i) s =
    .next ((s.tick t).setTaskInput cell i { s.taskInput cell i with ovf := false, ovf0 := false }) := by
  rw [← State.tick_taskInput s t]
  exact if_neg (not_or.mpr ⟨by rwa [State.tick_cell], by omega⟩)

end

section
variable (s : State) (cell i : Nat) (x : TaskInput)

@[simp] theorem State.taskInput_setTaskInput_same : (s.setTaskInput cell i x).taskInput cell i = x := by
  simp [State.taskInput, State.setTaskInput]

theorem State.taskInput_setTaskInput_ne {k : Nat} (h : k ≠ i) : (s.setTaskInput cell i x).taskInput cell k = s.taskInput cell k := by
  simp [State.taskInput, State.setTaskInput, h.symm]

theorem State.cell_setTaskInput_ne {k : Nat} (h : k ≠ cell) : (s.setTaskInput cell i x).cell k = s.cell k :=
  s.cell_modCell_ne _ h

@[simp] theorem State.cell_count (g n m by_ k : Nat) : (s.count g n m by_).cell k = s.cell k :=
  State.cell_of_cells (by simp) k

@[simp] theorem State.taskInput_count (g n m by_ k j : Nat) : (s.count g n m by_).taskInput k j = s.taskInput k j := by
  simp [State.taskInput]

theorem State.count_by_frame (g n m by_ : Nat) : s.count g n m by_ = { s with stat := (s.count g n m by_).stat } := by
  unfold State.count
  split <;> rfl

/-- A counter that counts several events at once (R414). -/
theorem State.counter_count_by (g n m : Nat) {by_ : Nat} (h : s.counter g n m ≤ statMax) :
    (s.count g n m by_).counter g n m = min statMax (s.counter g n m + by_) := by
  unfold State.count
  split
  · rename_i h0
    rw [h0, Nat.add_zero, Nat.min_eq_right h]
  · simp [State.counter]

/-- A tick followed by a change of one task input: that input, the cell's other inputs, the other cells, and the rest. -/
theorem State.tick_setTaskInput_effect (t : Nat) : let s' := (s.tick t).setTaskInput cell i x
    s'.taskInput cell i = x ∧ (∀ k, k ≠ cell → s'.cell k = s.cell k) ∧ (∀ k, k ≠ i → s'.taskInput cell k = s.taskInput cell k) ∧
      s' = { s.tick t with sea := { s.sea with cells := s'.sea.cells } } := by
  refine ⟨State.taskInput_setTaskInput_same _ _ _ _, fun k hk => ?_, fun k hk => ?_, ?_⟩
  · rw [State.cell_setTaskInput_ne _ _ _ _ hk, State.tick_cell]
  · rw [State.taskInput_setTaskInput_ne _ _ _ _ hk, State.tick_taskInput]
  · simp [State.setTaskInput, State.modCell, State.modSea]

end

/-- The lowest source of a cycle's arrivals (R199). -/
theorem foldl_min_lowest {src : List Nat} (hne : src ≠ []) (h : ∀ n ∈ src, n < 64) :
    src.foldl min 63 ∈ src ∧ ∀ n ∈ src, src.foldl min 63 ≤ n := by
  have hmin : src.foldl min 63 = src.min hne := by
    rw [List.foldl_min_eq_min hne]
    exact Nat.min_eq_right (Nat.le_of_lt_succ (h _ (List.min_mem hne)))
  rw [hmin]
  exact ⟨List.min_mem hne, fun n hn => List.min_le_of_mem hn⟩

/-- The sources of the task inputs' events, all of them numbers that the device has. -/
theorem filter_sources {src : List Nat} (h : ∀ n ∈ src, n < 64) : src.filter (fun n => decide (n < 64)) = src :=
  List.filter_eq_self.mpr (by simpa using h)

section
variable {x : TaskInput} {t : Nat} (hnew : x.cycle ≠ t + 1)
include hnew

/-- Arrivals in a new cycle: what they leave of the input, and the excess they bring (R199). -/
theorem TaskInput.arrive_of_new {src : List Nat} (h : ∀ n ∈ src, n < 64) : (x.inCycle t).arrive src =
    { x with
      cycle := t + 1, count0 := x.count, first0 := x.first, ovf0 := x.ovf, taken := 0, arrived := src
      count := min 255 (x.count + src.length), first := if x.count = 0 ∧ 0 < src.length then src.foldl min 63 else x.first
      ovf := x.ovf || decide (255 < x.count + src.length) } := by
  rw [TaskInput.inCycle_of_new hnew, TaskInput.arrive, filter_sources h]
  rfl

/-- Of a new cycle's arrivals those beyond 255 are in excess (R199). -/
theorem TaskInput.over_of_new (hcount : x.count ≤ 255) {src : List Nat} (h : ∀ n ∈ src, n < 64) :
    ((x.inCycle t).arrive src).over - (x.inCycle t).over = x.count + src.length - 255 := by
  have hbefore : (x.inCycle t).over = 0 := by
    rw [TaskInput.inCycle_of_new hnew]
    exact Nat.sub_eq_zero_of_le hcount
  have hafter : ((x.inCycle t).arrive src).over = x.count + src.length - 255 := by
    rw [TaskInput.arrive_of_new hnew h]
    unfold TaskInput.over
    dsimp only
    rw [Nat.sub_zero]
  rw [hbefore, hafter, Nat.sub_zero]

/-- Takes in a cycle that has brought arrivals come before these (R200). -/
theorem TaskInput.take_after_arrive {src : List Nat} (h : ∀ n ∈ src, n < 64) (n : Nat) :
    ((((x.inCycle t).arrive src).inCycle t).take n).count = min 255 (x.count - min x.count n + src.length) := by
  rw [TaskInput.inCycle_of_same (by rw [TaskInput.arrive_of_new hnew h]), TaskInput.arrive_of_new hnew h]
  simp [TaskInput.take, TaskInput.settle]

/-- Takes in a new cycle leave what they do not take (R200). -/
theorem TaskInput.take_of_new (hcount : x.count ≤ 255) (n : Nat) : ((x.inCycle t).take n).count = x.count - n ∧
    ((x.inCycle t).take n).ovf = x.ovf ∧ ((x.inCycle t).take n).first = x.first := by
  have hleft : x.count - min x.count n = x.count - n := by omega
  have hfits : ¬ 255 < x.count - n := by omega
  have hmin : min 255 (x.count - n) = x.count - n := by omega
  rw [TaskInput.inCycle_of_new hnew]
  simp [TaskInput.take, TaskInput.settle, hleft, hfits, hmin]

end

theorem scoresAndTaskInputs : scoresAndTaskInputsSay := by
  intro t cell i s s0 x
  refine ⟨?tick, fun src hc hi hcell hnew hsrc hcount hmax => ?event, fun n hc hi hnew hcount => ?take,
    fun n src s1 hc hi hnew hcount hsrc hevent => ?eventThenTake, fun hc hi => ?clear⟩
  case tick =>
    refine ⟨_, exec_scoreTick t s, fun n hn ha => ?_, fun n ha => ?_, fun k hk => ?_, ?_⟩
    · rw [State.cell_scored (s := s) rfl]
      simp [State.scored, ha, State.scoreOf]
    · rw [State.cell_scored (s := s) rfl]
      simp [State.scored, ha]
    · simp [State.modSea, hk]
    · simp [State.modSea, s0]
  case event =>
    have hy := TaskInput.arrive_of_new hnew hsrc
    obtain ⟨hinput, hcells, hinputs, hframe⟩ := s.tick_setTaskInput_effect cell i ((x.inCycle s0.now).arrive src) t
    have hexec := exec_taskInputEvent_of_present (t := t) hc hi src
    rw [TaskInput.over_of_new hnew hcount hsrc] at hexec
    refine ⟨_, hexec, ?_, ?_, fun h0 hne => ?_, fun h => ?_, ?_, fun k hk => ?_, fun k hk => ?_, ?_⟩
    · rw [State.taskInput_count, hinput, hy]
    · rw [State.taskInput_count, hinput, hy]
    · rw [State.taskInput_count, hinput, hy]
      simpa [h0, List.length_pos_iff.mpr hne] using foldl_min_lowest hne hsrc
    · rw [State.taskInput_count, hinput, hy]
      refine if_neg fun hfirst => ?_
      obtain h | h := h
      · exact h hfirst.1
      · simp [h] at hfirst
    · rw [State.counter_count_by _ _ _ _ (by simpa [State.counter, State.setTaskInput, State.modCell, State.modSea] using hmax)]
      simp [State.counter, State.setTaskInput, State.modCell, State.modSea]
    · rw [State.cell_count, hcells k hk]
    · rw [State.taskInput_count, hinputs k hk]
    · rw [State.count_by_frame, hframe]
  case take =>
    obtain ⟨hinput, hcells, -, hframe⟩ := s.tick_setTaskInput_effect cell i ((x.inCycle s0.now).take n) t
    obtain ⟨hleft, hovf, hfirst⟩ := TaskInput.take_of_new hnew hcount n
    exact ⟨_, exec_taskInputTake_of_present hc hi n, by rw [hinput, hleft], by rw [hinput, hovf], by rw [hinput, hfirst], hcells,
      hframe⟩
  case eventThenTake =>
    have hexec := exec_taskInputEvent_of_present (t := t) hc hi src
    rw [hevent, Host.Outcome.next.injEq] at hexec
    obtain ⟨hinput, -, -, -⟩ := s.tick_setTaskInput_effect cell i ((x.inCycle s0.now).arrive src) t
    have harrived : s1.taskInput cell i = (x.inCycle s0.now).arrive src := by rw [hexec, State.taskInput_count, hinput]
    have hnow : s1.now = s0.now := by rw [hexec, State.count_now, State.setTaskInput_now]
    have hstate : (s1.cell cell).state = (s.cell cell).state := by simp [hexec, State.setTaskInput]
    have htick : s1.tick t = s1 := if_pos (by rw [hnow, State.tick_now]; exact Nat.le_max_right _ _)
    have htake := exec_taskInputTake_of_present (t := t) (s := s1) (by rwa [hstate]) hi n
    rw [htick, harrived, hnow] at htake
    exact ⟨_, htake, by rw [State.taskInput_setTaskInput_same, TaskInput.take_after_arrive hnew hsrc]⟩
  case clear =>
    obtain ⟨hinput, hcells, -, hframe⟩ := s.tick_setTaskInput_effect cell i { x with ovf := false, ovf0 := false } t
    exact ⟨_, exec_taskOvfClear_of_present hc hi, by rw [hinput], by rw [hinput], hcells, hframe⟩

/-- Settles O38: the jobs by the gate's answer and the boundary's piece; the inputs by the takes and arrivals of one cycle. -/
theorem jobsAndScores : Obligations.JobsAndScores := ⟨batchJobs, scoresAndTaskInputs⟩

end Sys2Proof.Machine
end

section
/-! PROOFS. The disable point of a tag and steps 1 to 5 of its sequence (R65, R80, R116, R457, Table 4-12). -/

namespace Sys2Proof.Machine
open Sys2Proof.Say

/-! ### Steps 3 to 5: manifests, jobs and sessions go -/

/-- What the end of a tag's manifests, jobs and sessions, and the taking of the next command, may change: no tag, no
event queue, and no page without a posted command. -/
structure State.Quits (s s' : State) : Prop where
  frame : s' = { s with
    mbx := s'.mbx, man := s'.man, cap := s'.cap, lane := s'.lane, sea := s'.sea, fare := s'.fare, sec := s'.sec, stat := s'.stat
    evt := s'.evt, out := s'.out }
  queues : s'.evt.queues = s.evt.queues
  page : ∀ k, (s.page k).go = false → s'.page k = s.page k

variable (s : State)

theorem State.Quits.refl : s.Quits s := ⟨rfl, rfl, fun _ _ => rfl⟩

theorem State.Quits.trans {a b c : State} (h1 : a.Quits b) (h2 : b.Quits c) : a.Quits c where
  frame := by rw [h2.frame, h1.frame]
  queues := h2.queues.trans h1.queues
  page k h := by rw [h2.page k (by rwa [h1.page k h]), h1.page k h]

theorem State.Quits.foldl {α : Type} (f : State → α → State) (hf : ∀ (s : State) x, s.Quits (f s x)) (l : List α) :
    s.Quits (l.foldl f s) := foldl_rel _ .refl (fun _ _ _ => .trans) f hf l s

/-- A part that leaves the mailboxes and the events alone. -/
theorem State.Quits.of_frame {s s' : State} (h : s' = { s with
    man := s'.man, cap := s'.cap, lane := s'.lane, sea := s'.sea, fare := s'.fare, sec := s'.sec, stat := s'.stat }) :
    s.Quits s' where
  frame := by rw [h]
  queues := by rw [h]
  page k _ := State.page_of_mbx (by rw [h]) k

theorem State.endMan_quits (id o : Nat) : s.Quits (s.endMan id o) := .of_frame (by rw [State.endMan_frame])

/-- An event that cannot be masked is counted as masked at no queue (R454, R455). -/
theorem State.raiseTo_queues_of_unmaskable {code : Nat} (hu : evU code = true) (src tag : Nat) (d : Word)
    (e : Option (Word × Word × Word)) (l : List (Nat × Bool)) : (s.raiseTo code src tag d e l).evt.queues = s.evt.queues := by
  simp only [State.raiseTo, hu, Bool.not_true, Bool.and_false, Bool.false_and, Bool.false_eq_true, ↓reduceIte, List.filter_false,
    List.foldl_nil]
  split
  · rfl
  · split <;> rfl

theorem State.manEvent_quits {code : Nat} (hu : evU code = true) (id : Nat) (m : Manifest) (a b : Word) :
    s.Quits (s.manEvent code id m a b) where
  frame := by rw [State.manEvent_frame]
  queues := by
    unfold State.manEvent State.raise
    split
    · rfl
    · exact (s.emitOut _).raiseTo_queues_of_unmaskable hu _ _ _ _ _
  page k _ := State.page_of_mbx (by rw [State.manEvent_frame]) k

theorem State.withdraw_quits (id o : Nat) : s.Quits (s.withdraw id o) := by
  unfold State.withdraw
  split
  · exact .refl s
  · exact (s.endMan_quits id o).trans (State.manEvent_quits _ rfl _ _ _ _)

theorem State.dropManifests_quits (n : Nat) : s.Quits (s.dropManifests n) := by
  unfold State.dropManifests
  refine .foldl s _ (fun s p => ?_) _
  split
  · exact s.endMan_quits _ _
  · split
    · exact s.withdraw_quits _ _
    · exact .refl s

/-- A job discarded: it waits for no cell any more, and ends at once while it has no piece. -/
def State.discardJob (n : Nat) : State :=
  let marked := (s.modJob n (fun j => { j with discard := true })).unwait (.piece n)
  match marked.job n with
  | some j => if j.pieces = 0 then marked.endJob n 0 [] none else marked
  | none => marked

theorem State.discardJobs_eq (n : Nat) : s.discardJobs n =
    ((s.sea.jobs.filter (fun p => p.2.tag == n)).map (·.1)).foldl State.discardJob s := rfl

theorem State.discardJob_quits (n : Nat) : s.Quits (s.discardJob n) := by
  have hmarked : s.Quits ((s.modJob n (fun j => { j with discard := true })).unwait (.piece n)) := .of_frame rfl
  unfold State.discardJob
  dsimp only
  split
  · rename_i j hj
    split
    · have hd : j.discard = true := by
        rw [State.job_unwait, State.job_modJob_same, Option.map_eq_some_iff] at hj
        obtain ⟨-, -, rfl⟩ := hj
        rfl
      rw [State.endJob_of_discarded _ hj hd]
      exact hmarked.trans (.of_frame (by rw [State.jobFreed_frame]))
    · exact hmarked
  · exact hmarked

theorem State.discardJobs_quits (n : Nat) : s.Quits (s.discardJobs n) := by
  rw [State.discardJobs_eq]
  exact .foldl s _ (fun s n => s.discardJob_quits n) _

theorem State.markAbort_quits (lane reason : Nat) : s.Quits (s.markAbort lane reason) :=
  .of_frame (by rw [(s.markAbort_ends lane reason).frame])

theorem State.take_quits : s.Quits s.take where
  frame := by rw [State.take_frame]
  queues := by rw [State.take_frame]
  page k h := s.page_take_of_idle k h

/-! ### The disable point and steps 1 and 2 -/

/-- A tag at its disable point: its sequence begins, and what its pairs had fetched is dropped (R116). -/
def Inst.atDisable (now : Nat) (i : Inst) : Inst :=
  { i with phase := .disabling, disabledAt := now, qps := tmap i.qps (fun _ q => { q with ops := [] }) }

/-- The disable point, with the tag's command abandoned and its events gone. -/
def State.disablePoint (n : Nat) : State := ((s.modInst n (Inst.atDisable s.now)).abandonCmd n).disableEvents n

theorem State.abandonCmd_frame (n : Nat) : s.abandonCmd n = { s with mbx := (s.abandonCmd n).mbx } := by
  unfold State.abandonCmd
  dsimp only
  split
  · split <;> rfl
  · rfl

theorem State.page_abandonCmd (n : Nat) :
    (s.abandonCmd n).page n = { s.page n with go := false, taken := false, ready := false } := by
  have hpages : (s.abandonCmd n).mbx.pages =
      (s.modPage n (fun p => { p with go := false, taken := false, ready := false })).mbx.pages := by
    unfold State.abandonCmd
    dsimp only
    split
    · split <;> rfl
    · rfl
  rw [State.page, hpages]
  exact s.page_modPage_same n _

theorem State.disableEvents_frame (n : Nat) : s.disableEvents n = { s with evt := (s.disableEvents n).evt } := rfl

theorem State.evq_disableEvents (n : Nat) :
    (s.disableEvents n).evq n = { s.evq n with active := false, mask := [], copyMask := [] } := by
  exact s.evq_modEvq_same n (fun q => { q with active := false, mask := [], copyMask := [] })

theorem State.evq_disableEvents_ne {n k : Nat} (h : k ≠ n) : (s.disableEvents n).evq k = s.evq k := by
  exact s.evq_modEvq_ne (fun q => { q with active := false, mask := [], copyMask := [] }) h

theorem State.disablePoint_frame (n : Nat) : s.disablePoint n =
    { s with ins := { s.ins with insts := tmod s.ins.insts n {} (Inst.atDisable s.now) }
             mbx := (s.disablePoint n).mbx, evt := (s.disablePoint n).evt } := by
  unfold State.disablePoint
  rw [State.disableEvents_frame, State.abandonCmd_frame]
  rfl

theorem State.page_disablePoint (n : Nat) :
    (s.disablePoint n).page n = { s.page n with go := false, taken := false, ready := false } := by
  unfold State.disablePoint
  exact (State.page_of_mbx rfl n).trans (State.page_abandonCmd _ n)

theorem State.evq_disablePoint (n : Nat) :
    (s.disablePoint n).evq n = { s.evq n with active := false, mask := [], copyMask := [] } := by
  unfold State.disablePoint
  rw [State.evq_disableEvents, State.evq_of_evt (by rw [State.abandonCmd_frame])]
  rfl

theorem State.evq_disablePoint_ne {n k : Nat} (h : k ≠ n) : (s.disablePoint n).evq k = s.evq k := by
  unfold State.disablePoint
  rw [State.evq_disableEvents_ne _ h, State.evq_of_evt (by rw [State.abandonCmd_frame])]
  rfl

/-! ### The whole -/

theorem State.disable_of_not_on {n : Nat} (h : (s.inst n).phase ≠ .on) : s.disable n = s := if_pos h

theorem State.disable_of_on {n : Nat} (h : (s.inst n).phase = .on) : (s.disablePoint n).Quits (s.disable n) := by
  have hlanes (s1 : State) (l : List Nat) : s1.Quits (l.foldl (fun s l => s.markAbort l 0x37) s1) :=
    .foldl s1 _ (fun s l => s.markAbort_quits l _) l
  unfold State.disable
  rw [if_neg (not_not.mpr h)]
  exact (((State.dropManifests_quits _ n).trans (State.discardJobs_quits _ n)).trans (hlanes _ _)).trans (State.take_quits _)

/-- A tag on passes its disable point, and of the instances' side nothing else changes. -/
theorem State.disable_ins_of_on {n : Nat} (h : (s.inst n).phase = .on) :
    (s.disable n).ins = { s.ins with insts := tmod s.ins.insts n {} (Inst.atDisable s.now) } := by
  rw [(s.disable_of_on h).frame]
  exact congrArg State.ins (s.disablePoint_frame n)

theorem State.inst_disable_of_on {n : Nat} (h : (s.inst n).phase = .on) : (s.disable n).inst n = (s.inst n).atDisable s.now := by
  rw [State.inst, s.disable_ins_of_on h]
  exact tget_tmod_same _ _ _ _

theorem State.inst_disable_ne {n k : Nat} (h : k ≠ n) : (s.disable n).inst k = s.inst k := by
  by_cases hon : (s.inst n).phase = .on
  · rw [State.inst, s.disable_ins_of_on hon]
    exact tget_tmod_ne _ _ _ h.symm
  · rw [s.disable_of_not_on hon]

/-- Settles O15: the tag's own entry, page and event queue by the disable point; the manifests, jobs and sessions that end
then touch none of them. -/
theorem disableSequenceBegins : Obligations.DisableSequenceBegins := by
  intro s n hon _ s'
  have hquits : (s.disablePoint n).Quits s' := s.disable_of_on hon
  have hinst : s'.inst n = (s.inst n).atDisable s.now := s.inst_disable_of_on hon
  have hpage : s'.page n = { s.page n with go := false, taken := false, ready := false } := by
    rw [hquits.page n (by rw [State.page_disablePoint]), State.page_disablePoint]
  have hevq (k : Nat) : s'.evq k = (s.disablePoint n).evq k := by rw [State.evq, hquits.queues]; rfl
  have hframe := hquits.frame
  rw [s.disablePoint_frame n] at hframe
  refine ⟨by rw [hinst]; rfl, by rw [hinst]; rfl, fun q => ?_, by rw [hpage], by rw [hpage], by rw [hpage], ?_, ?_, ?_,
    fun k hk => ⟨s.inst_disable_ne hk, ?_⟩, ?_, ?_, ?_, ?_, ?_, ?_, ?_⟩
  · rw [State.qp, hinst, Inst.atDisable, tget_tmap _ _ _ rfl]
  · rw [hevq, State.evq_disablePoint]
  · rw [hevq, State.evq_disablePoint]
  · rw [hevq, State.evq_disablePoint]
  · rw [hevq, State.evq_disablePoint_ne _ hk]
  all_goals rw [hframe]

end Sys2Proof.Machine
end

section
/-! PROOFS. Each disable point disables the instances it names, and the sequence ends with revocation (R116 to R118, R120, R140,
R475, R476, R546, Tables 4-11 and 4-12). -/

namespace Sys2Proof.Machine
open Sys2Proof.Say

variable (s : State)

/-! ### Many instances disabled -/

theorem State.disable_ins (n : Nat) : (s.disable n).ins = { s.ins with insts := (s.disable n).ins.insts } := by
  by_cases hon : (s.inst n).phase = .on
  · rw [s.disable_ins_of_on hon]
  · rw [s.disable_of_not_on hon]

theorem State.enabled_disable_same (n : Nat) : (s.disable n).enabled n = false := by
  by_cases hon : (s.inst n).phase = .on
  · rw [State.enabled, s.inst_disable_of_on hon]
    rfl
  · rw [s.disable_of_not_on hon, State.enabled]
    simpa using hon

theorem State.enabled_disable_of_not {k : Nat} (n : Nat) (h : s.enabled k = false) : (s.disable n).enabled k = false := by
  obtain rfl | hk := eq_or_ne k n
  · exact s.enabled_disable_same k
  · rwa [State.enabled, s.inst_disable_ne hk]

theorem State.disableAll_ins (f : Nat → Bool) : (s.disableAll f).ins = { s.ins with insts := (s.disableAll f).ins.insts } :=
  foldl_rel (fun a b : State => b.ins = { a.ins with insts := b.ins.insts }) (fun _ => rfl) (fun _ _ _ h1 h2 => by rw [h2, h1])
    State.disable (fun s n => s.disable_ins n) _ s

theorem State.inst_disableAll_of_not {f : Nat → Bool} {k : Nat} (h : f k = false) : (s.disableAll f).inst k = s.inst k := by
  refine List.foldlRecOn (motive := fun x => x.inst k = s.inst k) _ State.disable rfl (fun x hx n hn => ?_)
  refine (x.inst_disable_ne ?_).trans hx
  rintro rfl
  simp [h] at hn

theorem State.enabled_disableAll {f : Nat → Bool} {k : Nat} (h : f k = true) : (s.disableAll f).enabled k = false := by
  cases hk : s.enabled k with
  | true =>
    exact foldl_reaches (fun (x : State) n => x.enabled n = false) _ (fun x n => x.enabled_disable_same n)
      (fun x n _ hb => x.enabled_disable_of_not n hb) _ s k (List.mem_filter.mpr ⟨s.mem_enabledTags hk, h⟩)
  | false =>
    exact List.foldlRecOn (motive := fun x : State => x.enabled k = false) _ _ hk (fun x hx n _ => x.enabled_disable_of_not n hx)

/-! ### A tag enabled -/

/-- A tag on with its page and registers at their reset values, before the steward's N_READY. -/
def State.freshInst (n pasid notify : Nat) : State :=
  let s1 := { s with
    ins := { s.ins with insts := tset s.ins.insts n { phase := .on, pasid, notify } }
    mbx := { s.mbx with pages := tset s.mbx.pages n { ready := s.mbx.state == .serving }, recs := tset s.mbx.recs n {} } }
  if isSlice n then s1 else s1.modFunc n (fun f => { f with msix := [] })

theorem State.freshInst_frame (n p q : Nat) : s.freshInst n p q = { s with
    ins := { s.ins with insts := tset s.ins.insts n { phase := .on, pasid := p, notify := q }, fns := (s.freshInst n p q).ins.fns }
    mbx := { s.mbx with pages := tset s.mbx.pages n { ready := s.mbx.state == .serving }, recs := tset s.mbx.recs n {} } } := by
  unfold State.freshInst
  dsimp only
  split <;> rfl

theorem State.page_freshInst (n p q : Nat) : (s.freshInst n p q).page n = { ready := s.mbx.state == .serving } := by
  rw [State.freshInst_frame]
  exact tget_tset_same _ _ _ _

theorem State.notice_of_unsignalled {n : Nat} (w : Word) (h : (s.page n).s2hIe = false) : s.notice n w =
    s.modPage n (fun p => { p with s2h := w, s2hFull := true, s2hCollide := p.s2hCollide || p.s2hFull }) :=
  if_neg (by simp [h])

theorem State.enable_eq (n p q : Nat) : s.enable n p q =
    if s.mbx.state = .serving then (s.freshInst n p q).notice n s.readyWord else s.freshInst n p q := by
  by_cases hs : s.mbx.state = .serving <;> by_cases hn : isSlice n <;>
    simp [State.enable, State.freshInst, hs, hn] <;> rfl

theorem State.enable_frame (n p q : Nat) : s.enable n p q = { s with
    ins := { s.ins with insts := tset s.ins.insts n { phase := .on, pasid := p, notify := q }, fns := (s.enable n p q).ins.fns }
    mbx := (s.enable n p q).mbx } := by
  rw [State.enable_eq]
  split
  · rw [State.notice_of_unsignalled _ _ (by rw [State.page_freshInst]), State.modPage, State.freshInst_frame]
  · rw [State.freshInst_frame]

theorem State.page_enable_of_serving (n p q : Nat) (h : s.mbx.state = .serving) :
    (s.enable n p q).page n = { ready := true, s2h := s.readyWord, s2hFull := true } := by
  rw [State.enable_eq, if_pos h, State.page_notice, State.page_freshInst, h]
  rfl

theorem State.inst_enable_same (n p q : Nat) : (s.enable n p q).inst n = { phase := .on, pasid := p, notify := q } := by
  rw [State.enable_frame]
  exact tget_tset_same _ _ _ _

theorem State.inst_enable_ne {n k : Nat} (p q : Nat) (h : k ≠ n) : (s.enable n p q).inst k = s.inst k := by
  rw [State.enable_frame]
  exact tget_tset_ne _ _ _ h.symm

@[simp] theorem State.inst_take (k : Nat) : s.take.inst k = s.inst k := State.inst_of_ins (by rw [State.take_frame]) k

end Sys2Proof.Machine
end

section
/-! PROOFS. The disable points one by one, and the end of the sequence (O16). -/

namespace Sys2Proof.Machine
open Sys2Proof.Say

variable (s : State)

/-! ### VFs enabled while VF Enable is set -/

/-- VF i + 1 is enabled if it is off. -/
def State.enableVf (i : Nat) : State := if (s.inst (i + 1)).phase = .off then s.enable (i + 1) else s

theorem State.inst_enableVf_ne {i k : Nat} (h : k ≠ i + 1) : (s.enableVf i).inst k = s.inst k := by
  unfold State.enableVf
  split
  · exact s.inst_enable_ne _ _ h
  · rfl

theorem State.enableVf_ins (i : Nat) : (s.enableVf i).ins =
    { s.ins with insts := (s.enableVf i).ins.insts, fns := (s.enableVf i).ins.fns } := by
  unfold State.enableVf
  split
  · rw [State.enable_frame]
  · rfl

theorem State.phase_enableVf_same (i : Nat) : ((s.enableVf i).inst (i + 1)).phase ≠ .off := by
  unfold State.enableVf
  split
  · simp [State.inst_enable_same]
  · assumption

theorem State.phase_enableVf_cases (i k : Nat) : ((s.enableVf i).inst k).phase = .on ∨ (s.enableVf i).inst k = s.inst k := by
  unfold State.enableVf
  split
  · obtain rfl | hk := eq_or_ne k (i + 1)
    · exact .inl (by rw [State.inst_enable_same])
    · exact .inr (s.inst_enable_ne _ _ hk)
  · exact .inr rfl

/-- The VFs 1 to n, those that are off enabled. -/
def State.enableVfs (n : Nat) : State := (List.range n).foldl State.enableVf s

theorem State.enableVfs_ins (n : Nat) : (s.enableVfs n).ins =
    { s.ins with insts := (s.enableVfs n).ins.insts, fns := (s.enableVfs n).ins.fns } :=
  foldl_rel (fun a b : State => b.ins = { a.ins with insts := b.ins.insts, fns := b.ins.fns }) (fun _ => rfl)
    (fun _ _ _ h1 h2 => by rw [h2, h1]) State.enableVf (fun s i => s.enableVf_ins i) _ s

theorem State.inst_enableVfs_of_out {n k : Nat} (h : k = 0 ∨ n < k) : (s.enableVfs n).inst k = s.inst k := by
  refine List.foldlRecOn (motive := fun x : State => x.inst k = s.inst k) _ State.enableVf rfl (fun x hx i hi => ?_)
  have hlt := List.mem_range.mp hi
  exact (x.inst_enableVf_ne (by omega)).trans hx

theorem State.enabled_enableVfs {n k : Nat} (h1 : 1 ≤ k) (hn : k ≤ n) (hoff : (s.inst k).phase = .off) :
    (s.enableVfs n).enabled k = true := by
  have hleft : ((s.enableVfs n).inst (k - 1 + 1)).phase ≠ .off := by
    refine foldl_reaches (fun (x : State) i => (x.inst (i + 1)).phase ≠ .off) _ (fun x i => x.phase_enableVf_same i)
      (fun x i j hj => ?_) _ s (k - 1) (List.mem_range.mpr (by omega))
    obtain h | h := x.phase_enableVf_cases i (j + 1)
    · simp [h]
    · rwa [h]
  have hkind : ((s.enableVfs n).inst k).phase = .on ∨ ((s.enableVfs n).inst k).phase = .off := by
    refine List.foldlRecOn (motive := fun x : State => (x.inst k).phase = .on ∨ (x.inst k).phase = .off) _ State.enableVf
      (.inr hoff) (fun x hx i _ => ?_)
    obtain h | h := x.phase_enableVf_cases i k
    · exact .inl h
    · rwa [h]
  rw [Nat.sub_add_cancel h1] at hleft
  simpa [State.enabled] using hkind.resolve_right hleft

/-! ### The disable points (Table 4-11) -/

theorem State.inst_of_insts {s s' : State} (h : s'.ins.insts = s.ins.insts) (k : Nat) : s'.inst k = s.inst k := by
  simp [State.inst, h]

theorem State.enabled_of_insts {s s' : State} (h : s'.ins.insts = s.ins.insts) (k : Nat) : s'.enabled k = s.enabled k := by
  simp [State.enabled, State.inst_of_insts h]

theorem exec_vfEnableChange_of_set (t n : Nat) (h : s.ins.vfEnable = false) : exec (.vfEnableChange t true n) s =
    .next (({ s.tick t with ins := { s.ins with vfEnable := true, numVfs := min n 31 } }).enableVfs (min n 31)).take := by
  show execVfEnableChange t true n s = _
  unfold execVfEnableChange
  simp only [State.tick_ins, h, Bool.false_and, Bool.false_eq_true, ↓reduceIte, Bool.not_true]
  rfl

theorem disablePoints : disablePointsSay := by
  refine fun t s _ => ⟨fun fn h1 h31 hon => ?flr, ?pf, fun n => ?vfClear, fun n hclear => ?vfSet, fun hup => ?linkDown, ?pasid,
    fun hgood => ?perstFall, fun hlow => ?perstRise, fun hperst hgood hserving hoff => ?pageReady⟩
  case flr =>
    have hphase : ((s.tick t).inst fn).phase = .on := by simpa [State.enabled] using hon
    have hexec : exec (.functionLevelReset t fn) s = .next (((s.tick t).disable fn).modFunc fn (fun _ => {})) := by
      refine (if_neg (by omega)).trans (if_pos h31)
    refine ⟨_, hexec, ?_, by simp, fun k hk => ⟨?_, ?_⟩⟩
    · exact congrArg Inst.phase ((s.tick t).inst_disable_of_on hphase)
    · exact ((s.tick t).inst_disable_ne hk).trans (by simp)
    · rw [State.func_modFunc_ne _ _ hk.symm, State.func, State.disable_ins, State.tick_ins]
      rfl
  case pf =>
    refine ⟨_, rfl, fun k => ?_, rfl, rfl, rfl, ?_⟩
    · exact (State.enabled_of_insts rfl k).trans ((s.tick t).enabled_disableAll rfl)
    · exact (congrArg Ins.linkUp ((s.tick t).disableAll_ins _)).trans (by simp)
  case vfClear =>
    refine ⟨_, rfl, rfl, fun hset k hk => ?_, fun k hk => ?_⟩
    · rw [State.enabled_of_insts (s := (s.tick t).disableAll isVf) (by simp [hset])]
      exact (s.tick t).enabled_disableAll hk
    · rw [State.inst_of_insts (s := if s.ins.vfEnable then (s.tick t).disableAll isVf else s.tick t) (by simp)]
      split
      · exact ((s.tick t).inst_disableAll_of_not hk).trans (by simp)
      · simp
  case vfSet =>
    refine ⟨_, exec_vfEnableChange_of_set s t n hclear, ?_, ?_, fun k h1 hn hoff => ?_, fun k hk => ?_⟩
    · rw [State.take_frame, State.enableVfs_ins]
    · rw [State.take_frame, State.enableVfs_ins]
    · rw [State.enabled, State.inst_take]
      exact State.enabled_enableVfs _ h1 hn hoff
    · rw [State.inst_take]
      exact State.inst_enableVfs_of_out _ hk
  case linkDown =>
    have hexec : exec (.pcieLinkDown t) s = .next (s.tick t).linkLost := if_pos (by simpa using hup)
    exact ⟨_, hexec, fun k => (State.enabled_of_insts rfl k).trans ((s.tick t).enabled_disableAll rfl), rfl, rfl, rfl, rfl⟩
  case pasid =>
    refine ⟨_, rfl, rfl, fun k hk => ?_, fun k hk => ?_⟩
    · exact (State.enabled_of_insts rfl k).trans ((s.tick t).enabled_disableAll hk)
    · exact ((s.tick t).inst_disableAll_of_not hk).trans (by simp)
  case perstFall =>
    have hexec : exec (.perstNFall t) s =
        .next { (s.tick t).linkLost with ins := { (s.tick t).linkLost.ins with perstN := false } } := by
      show execPerstNFall t s = _
      simp [execPerstNFall, hgood]
    exact ⟨_, hexec, fun k => (State.enabled_of_insts rfl k).trans ((s.tick t).enabled_disableAll rfl), rfl, rfl, rfl⟩
  case perstRise =>
    exact ⟨_, if_neg (by simpa using hlow), rfl, rfl, rfl, rfl⟩
  case pageReady =>
    have hexec : exec (.pfPageReady t) s = .next (State.enable
        { s.tick t with ins := { s.ins with linkUp := true }, lcy := { s.lcy with crs := false } } 0).take := by
      show execPfPageReady t s = _
      simp only [execPfPageReady, State.tick_ins, State.tick_lcy, State.tick_mbx, State.tick_inst, hperst, hgood, hserving, hoff]
      rfl
    have hpage (s1 : State) (h : s1.mbx.state = .serving) :
        (s1.enable 0).take.page 0 = { ready := true, s2h := s1.readyWord, s2hFull := true } := by
      rw [State.page_take_of_idle _ _ (by rw [State.page_enable_of_serving _ _ _ _ h]), State.page_enable_of_serving _ _ _ _ h]
    refine ⟨_, hexec, ?_, ?_, ?_, ?_, ?_, ?_, fun k hk => ?_, ?_⟩
    · rw [State.take_frame, State.enable_frame]
    · rw [State.take_frame, State.enable_frame]
    · rw [State.enabled, State.inst_take, State.inst_enable_same]
      rfl
    · rw [hpage _ (by simpa using hserving)]
    · rw [hpage _ (by simpa using hserving)]
      rfl
    · rw [hpage _ (by simpa using hserving)]
    · rw [State.inst_take, State.inst_enable_ne _ _ _ hk]
      rfl
    · rw [State.take_frame, State.enable_frame]

/-! ### The end of the sequence (Table 4-12 steps 6 and 7) -/

theorem State.obj_bumpAll_of_miss {hit free : Nat → Bool} {n : Nat} (h : hit n = false) : (s.bumpAll hit free).obj n = s.obj n := by
  unfold State.bumpAll
  dsimp only
  split
  · rfl
  · have hmiss : ((s.cap.objs.filter (fun p => p.2.state == .live && hit p.1)).map (·.1)).contains n = false := by
      simp [h]
    simp only [State.obj, tget, tfind_tmap, hmiss, Bool.false_eq_true, ↓reduceIte, Option.map_id']

/-- A live object chosen has its generation raised or is retired, and is freed where that is asked. -/
theorem State.obj_bumpAll_of_hit {hit free : Nat → Bool} {n : Nat} (hl : (s.obj n).state = .live) (h : hit n = true) :
    (s.bumpAll hit free).obj n = if free n then (s.obj n).bump.release else (s.obj n).bump := by
  obtain ⟨o, ho⟩ : ∃ o, tfind s.cap.objs n = some o := by
    refine Option.ne_none_iff_exists'.mp (fun hnone => ?_)
    simp [State.obj, tget, hnone] at hl
  have hobj : s.obj n = o := by simp [State.obj, tget, ho]
  rw [hobj] at hl ⊢
  have hmem : n ∈ (s.cap.objs.filter (fun p => p.2.state == .live && hit p.1)).map (·.1) :=
    List.mem_map.mpr ⟨(n, o), List.mem_filter.mpr ⟨mem_of_tfind ho, by simp [hl, h]⟩, rfl⟩
  unfold State.bumpAll
  dsimp only
  rw [if_neg (by simpa using List.ne_nil_of_mem hmem)]
  simp only [State.obj, tget, tfind_tmap, ho, Option.map_some, Option.getD_some, List.contains_iff_mem.mpr hmem, ↓reduceIte]

/-- A live object freed in a revocation keeps the generation after its own, or is RETIRED with the last (R135, R139). -/
theorem Obj.bump_release_of_live {o : Obj} (h : o.state = .live) :
    o.bump.release.state ≠ .live ∧ (o.gen < 65535 → o.bump.release.gen = o.gen + 1) := by
  by_cases hg : o.gen = 65535
  · simp [Obj.bump, Obj.release, h, hg]
  · simp [Obj.bump, Obj.release, h, hg]

/-- The page in force with a slice's parameters and rights at their defaults (R546). -/
def Cfg.withoutSlice (n : Nat) (c : Cfg) : Cfg :=
  { c with params := c.params.filter (fun p => p.1 / 65536 ≠ n), rights := terase c.rights n }

/-- A slice disabled: its entry, its translations, its parameters and its rights are gone, and of the rest its event queue alone
changes. -/
theorem State.disabled_of_slice {n : Nat} (h : isSlice n = true) : s.disabled n =
    { ((s.tlbDrop n 0 0).modInst n (fun _ => {})).modCfg (Cfg.withoutSlice n) with evt := (s.disabled n).evt } := by
  have hpf : isPf n = false := by simp [isSlice, isPf] at *; omega
  simp only [State.disabled, h, hpf, ↓reduceIte, Bool.false_eq_true]
  rfl

@[simp] theorem State.cfg_modCfg (f : Cfg → Cfg) : (s.modCfg f).cfg = f s.cfg := by
  simp [State.modCfg, State.cfg, State.cfgOf]

theorem State.cfg_of_man {s s' : State} (h : s'.man = s.man) : s'.cfg = s.cfg := by simp [State.cfg, State.cfgOf, h]

theorem State.cfg_disabled_of_slice {n : Nat} (h : isSlice n = true) : (s.disabled n).cfg = s.cfg.withoutSlice n := by
  rw [State.cfg_of_man (s := ((s.tlbDrop n 0 0).modInst n (fun _ => {})).modCfg (Cfg.withoutSlice n))
    (by rw [s.disabled_of_slice h]), State.cfg_modCfg]
  rfl

theorem State.reenable_of_slice {n : Nat} (h : isSlice n = true) : s.reenable n = s := by
  have hpf : isPf n = false := by simp [isSlice, isPf] at *; omega
  have hvf : isVf n = false := by simp [isSlice, isVf] at *; omega
  simp [State.reenable, hpf, hvf]

theorem State.ackHeld_of_none (h : s.mbx.held = none) : s.ackHeld = s := by
  simp [State.ackHeld, h]

/-- Step 6: every object that a tag owns is revoked and freed. -/
def State.revokeOwned (n : Nat) : State := s.bumpAll (fun k => (s.obj k).owner == n) (fun k => (s.obj k).owner == n)

theorem exec_disableRevoke {t n : Nat} (h : isSlice n = true) (hp : (s.inst n).phase = .disabling)
    (hses : s.fare.sessions.any (fun p => p.2.tenant == n && p.2.outcome.isNone) = false) (hheld : s.mbx.held = none) :
    exec (.disableRevoke t n) s = .next (((s.tick t).revokeOwned n).disabled n).take := by
  have hnone : (((s.tick t).revokeOwned n).disabled n).mbx.held = none := by
    rw [State.disabled_of_slice _ h]
    simpa [State.revokeOwned, State.modCfg, State.modInst, State.tlbDrop] using hheld
  have hn : n ≠ 0 := by
    rintro rfl
    cases h
  have hgoes : ¬(((s.tick t).inst n).phase ≠ .disabling ∨
      (s.tick t).fare.sessions.any (fun p => n ≠ 0 && p.2.tenant == n && p.2.outcome.isNone) = true) := by
    simpa [hp, hn] using hses
  refine (if_neg (by simpa using hgoes)).trans ?_
  unfold State.revokeOwned at hnone ⊢
  dsimp only
  rw [hnone]
  dsimp only
  rw [State.reenable_of_slice _ h, State.ackHeld_of_none _ hnone]

theorem disableEnds : disableEndsSay := by
  intro t n s hn hp hses hheld
  have hins : (((s.tick t).revokeOwned n).disabled n).take.ins =
      (((s.tick t).tlbDrop n 0 0).modInst n (fun _ => {})).ins := by
    rw [State.take_frame, State.disabled_of_slice _ hn]
    simp [State.revokeOwned, State.modCfg, State.modInst, State.tlbDrop]
  have hobj (k : Nat) : (((s.tick t).revokeOwned n).disabled n).take.obj k = ((s.tick t).revokeOwned n).obj k := by
    rw [State.take_frame, State.disabled_of_slice _ hn]
    rfl
  have hcfg : (((s.tick t).revokeOwned n).disabled n).take.cfg = s.cfg.withoutSlice n := by
    rw [State.cfg_of_man (s := ((s.tick t).revokeOwned n).disabled n) (by rw [State.take_frame]), State.cfg_disabled_of_slice _ hn,
      State.cfg_of_man (s := s) (by simp [State.revokeOwned])]
  refine ⟨_, exec_disableRevoke s hn hp hses hheld, ?_, fun e he => ?_, fun k hk hl => ?_, fun k hk => ?_, ?_, fun p hp => ?_,
    fun k hk => ?_⟩
  · rw [State.inst_of_ins hins, State.inst_modInst_same]
  · rw [hins] at he
    simpa [State.modInst, State.tlbDrop] using (List.mem_filter.mp he).2
  · have hbump : ((s.tick t).revokeOwned n).obj k = (s.obj k).bump.release := by
      refine ((s.tick t).obj_bumpAll_of_hit (by simpa [State.obj] using hl) (by simpa [State.obj] using hk)).trans ?_
      simp [State.obj] at hk ⊢
      simp [hk]
    rw [hobj, hbump]
    exact Obj.bump_release_of_live hl
  · rw [hobj]
    refine ((s.tick t).obj_bumpAll_of_miss (by simpa [State.obj] using hk)).trans (by simp [State.obj])
  · rw [hcfg]
    exact tfind_terase_same _ _
  · rw [hcfg] at hp
    simpa using (List.mem_filter.mp hp).2
  · rw [State.inst_of_ins hins, State.inst_modInst_ne _ _ hk.symm]
    exact State.inst_of_insts (by simp [State.tlbDrop]) k

/-- Settles O16: each disable point by the instances it disables or enables one by one, and the end of a slice's sequence by what
its revocation makes of the objects. -/
theorem disableRunsAndEnds : Obligations.DisableRunsAndEnds := ⟨disablePoints, disableEnds⟩

end Sys2Proof.Machine
end

section
/-! PROOFS. What the commands of the INS area answer and do (Table 4-8, R98, R99, R105, R108, R113). -/

namespace Sys2Proof.Machine
open Sys2Proof.Say

variable {c : Instr} {b : BlockRow} {s : State} {a : List Word}

/-! ### Answers and staged entries from a command's work -/

theorem answers_of_work {st : Nat} {rs : List Word} {s1 : State} (hb : blockRow c = some b)
    (hw : b.work a (s.tick b.t) = .reply st rs s1) : Answers c s a st rs s1 := by
  intro b' hb' h
  obtain rfl : b = b' := Option.some.inj (hb.symm.trans hb')
  exact exec_replied hb h hw

theorem stages_of_work {op : StagedOp} {bulk : Nat} {rs : List Word} (hb : blockRow c = some b)
    (hw : b.work a (s.tick b.t) = (s.tick b.t).stage b.tag b.d.code op bulk rs) : Stages c s a op bulk rs := by
  intro b' id m hb' h hopen hroom hbulk
  obtain rfl : b = b' := Option.some.inj (hb.symm.trans hb')
  refine exec_replied hb h (hw.trans ?_)
  simp only [State.stage, hopen]
  rw [if_neg (by simpa using ⟨hroom, hbulk⟩)]
  rfl

/-! ### Queue pairs -/

/-- INS_QP_RESET leaves the pair DISABLED with its count of dropped completions, and no other pair changed (R98). -/
theorem State.qpReset_effect (s : State) (n q : Nat) :
    (s.qpReset n q).qp n q = { state := .disabled, dropped := (s.qp n q).dropped } ∧
      (∀ k, k ≠ n → (s.qpReset n q).inst k = s.inst k) ∧ (∀ j, j ≠ q → (s.qpReset n q).qp n j = s.qp n j) ∧
      s.qpReset n q = { s with ins := (s.qpReset n q).ins, sea := (s.qpReset n q).sea, net := (s.qpReset n q).net } :=
  ⟨s.qp_modQp_same n q _, fun _ hk => s.inst_modQp_ne q _ hk, fun _ hj => s.qp_modQp_ne n _ hj, rfl⟩

/-! ### Translations -/

theorem State.mem_tlbDrop {s : State} {n first count : Nat} {e : TlbEntry} (h : e ∈ (s.tlbDrop n first count).ins.tlb) :
    e ∈ s.ins.tlb ∧ ¬(e.tag = n ∧ (count = 0 ∨ first ≤ e.page ∧ e.page < first + count)) := by
  simpa [State.tlbDrop, imp_iff_not_or] using h

/-- The root set with every translation of the tag gone (R105, R108). -/
theorem State.xlateSet_effect (s : State) (n : Nat) (r : Option Nat) :
    let s1 := (s.tlbDrop n 0 0).modInst n (fun i => { i with root := r })
    s1.inst n = { s.inst n with root := r } ∧ (∀ e ∈ s1.ins.tlb, e.tag ≠ n) ∧ (∀ k, k ≠ n → s1.inst k = s.inst k) ∧
      s1 = { s with ins := s1.ins } := by
  refine ⟨State.inst_modInst_same _ n _, fun e he htag => ?_, fun k hk => State.inst_modInst_ne _ _ hk.symm, rfl⟩
  exact (State.mem_tlbDrop he).2 ⟨htag, .inl rfl⟩

/-! ### The event queue -/

/-- An event queue set up, empty. -/
def EvQueue.setUp (base log2 vector : Nat) (e : EvQueue) : EvQueue :=
  { e with active := true, base, log2, vector, head := 0, tail := 0, phase := true, used := 0 }

/-- A queue set up, and free again of a zeroisation that had stopped it (R451). -/
def State.setUpQueue (s : State) (n base log2 vector : Nat) : State :=
  let s1 := s.modEvq n (EvQueue.setUp base log2 vector)
  { s1 with evt := { s1.evt with disabledByZ := s1.evt.disabledByZ.filter (· ≠ n) } }

theorem State.evq_setUpQueue (s : State) (n base log2 vector : Nat) :
    (s.setUpQueue n base log2 vector).evq n = (s.evq n).setUp base log2 vector := s.evq_modEvq_same n _

theorem State.eq_of_zeroisedFor_nil {s : State} (h : s.evt.zeroisedFor = []) :
    { s with evt := { s.evt with zeroisedFor := [] } } = s := by rw [← h]

/-- INS_EQ_SETUP of a queue that owes no EV_LOST, while no zeroisation's event is due: the queue starts empty, and nothing but
the events changes. -/
theorem insEqSetupWork_of_quiet {n : Nat} (io : HostIo) (hbase : ofTwo (arg a 1) (arg a 2) % 4096 = 0) (h6 : 6 ≤ fld (arg a 3) 4 0)
    (h16 : fld (arg a 3) 4 0 ≤ 16) (hv : vectorOk n (fld (arg a 3) 21 16) = true) (hlost : (s.evq n).lostPending = 0)
    (hz : s.evt.zeroisedFor = []) : ∃ s1, insEqSetupWork n io a s = .ok [] s1 ∧
      s1.evq n = (s.evq n).setUp (ofTwo (arg a 1) (arg a 2)) (fld (arg a 3) 4 0) (fld (arg a 3) 21 16) ∧
      (∀ k, k ≠ n → s1.evq k = s.evq k) ∧ s1 = { s with evt := s1.evt } := by
  have hqueue := s.evq_setUpQueue n (ofTwo (arg a 1) (arg a 2)) (fld (arg a 3) 4 0) (fld (arg a 3) 21 16)
  have hwrite := State.writeLost_of_none (n := n) (by rw [hqueue]; exact hlost)
  have hargs : ¬(ofTwo (arg a 1) (arg a 2) % 4096 ≠ 0 ∨ fld (arg a 3) 4 0 < 6 ∨ 16 < fld (arg a 3) 4 0) := by omega
  refine ⟨_, (if_neg hargs).trans ((if_neg (by simp [hv])).trans ?_), hqueue, fun k hk => s.evq_modEvq_ne _ hk, ?_⟩
  · unfold State.setUpQueue EvQueue.setUp at hwrite
    dsimp only
    rw [hwrite]
    simp only [State.modEvq, hz, List.filter_nil, List.foldl_nil]
    exact congrArg (Answer.ok []) (State.eq_of_zeroisedFor_nil (s := s.setUpQueue n _ _ _) hz)
  · rfl

/-! ### The commands -/

/-- Settles O17: each command by what its work answers and leaves. -/
theorem instanceCommands : Obligations.InstanceCommands := by
  intro t tag io s a s0 q p
  have hqp : s0.qp tag q = p := s.tick_qp t tag q
  refine ⟨fun hq hn hsb hcb hsl hcl hv hp => ?setup, fun hq hn hsb => ?setupAlign, fun hq => ?reset, fun hq => ?status,
    fun hset hroot hidle => ?xlateSet, ?xlateInval, fun hn => ?faultGet, fun g hpasid hv hen hfree hslice => ?sliceCreate,
    fun hpf hg => ?rightsSet, fun hslice hon h => ?sliceDestroy, ?eqSetup, ?insStatus⟩
  case setup =>
    refine answers_of_work rfl ?_
    show insQpSetupWork tag io a s0 = _
    have hdis : (s0.qp tag q).state = .disabled := by rw [hqp, hp]
    simp [insQpSetupWork, Nat.not_le.mpr hq, hn, hsb, hcb, hsl, hcl, hv, hdis, Answer.ok, q]
  case setupAlign =>
    exact answers_of_work rfl ((if_neg (by omega)).trans (if_pos (.inl hsb)))
  case reset =>
    obtain ⟨hpair, hinst, hqps, hframe⟩ := s0.qpReset_effect tag q
    refine ⟨_, answers_of_work rfl (if_neg (Nat.not_le.mpr hq)), by rw [hpair, hqp], fun k hk => ?_, fun j hj => ?_, hframe⟩
    · rw [hinst k hk, State.tick_inst]
    · rw [hqps j hj, State.tick_qp]
  case status =>
    refine answers_of_work rfl ((if_neg (Nat.not_le.mpr hq)).trans ?_)
    rw [hqp]
    rfl
  case xlateSet =>
    obtain ⟨hinst, htlb, hothers, hframe⟩ := s0.xlateSet_effect tag (some (ofTwo (arg a 1) (arg a 2)))
    refine ⟨_, answers_of_work rfl ?_, ?_, htlb, fun k hk => ?_, hframe⟩
    · refine (if_neg (by simp [hroot])).trans ((if_neg (by simpa [s0] using hidle)).trans ?_)
      rw [hset]
      rfl
    · rw [hinst, State.tick_inst]
    · rw [hothers k hk, State.tick_inst]
  case xlateInval =>
    refine ⟨_, answers_of_work rfl rfl, fun e he => ?_, ?_⟩
    · have hdrop := State.mem_tlbDrop he
      rwa [State.tick_ins] at hdrop
    · simp [State.tlbDrop, s0]
  case faultGet =>
    refine ⟨_, _, answers_of_work rfl (if_neg (by omega)), ?_, ?_, fun k hk => ?_, ?_⟩
    · simp
    · rw [State.inst_modInst_same, State.tick_inst]
    · rw [State.inst_modInst_ne _ _ hk.symm, State.tick_inst]
    · simp [State.modInst, s0]
  case sliceCreate =>
    refine answers_of_work rfl ((if_neg hpasid).trans ((if_neg hv).trans ((if_neg (by simp [hen])).trans
      ((if_neg (by simp [hfree])).trans ?_))))
    rw [State.tick_freeSlice, hslice]
    rfl
  case rightsSet =>
    refine stages_of_work rfl (if_neg ?_)
    simp [hpf, hg]
  case sliceDestroy =>
    have hwork : insSliceDestroyWork tag io a s0 = .hold (.teardown (fld (arg a 1) 9 0)) 0 [] (s0.disable (fld (arg a 1) 9 0)) := by
      refine if_neg ?_
      simp [hslice, s0, hon]
    have hphase : (s0.inst (fld (arg a 1) 9 0)).phase = .on := by simpa [s0, State.enabled] using hon
    refine ⟨_, exec_of_runs rfl h, ?_, ?_⟩
    · exact (congrArg (fun x => (State.answer tag x).mbx.held) hwork).trans rfl
    · refine (congrArg (fun x => ((State.answer tag x).inst (fld (arg a 1) 9 0)).phase) hwork).trans ?_
      exact congrArg Inst.phase (s0.inst_disable_of_on hphase)
  case eqSetup =>
    intro n hbase h6 h16 hv hlost hz
    obtain ⟨s1, hwork, hqueue, hothers, hframe⟩ := insEqSetupWork_of_quiet (s := s0) (n := tag) io hbase h6 h16 hv
      (by rwa [State.tick_evq]) (by rwa [State.tick_evt])
    refine ⟨s1, answers_of_work rfl hwork, ?_, fun k hk => ?_, hframe⟩
    · rw [hqueue, State.tick_evq]
      rfl
    · rw [hothers k hk, State.tick_evq]
  case insStatus =>
    intro g
    refine ⟨fun h => answers_of_work rfl (if_pos h), fun h => ⟨_, answers_of_work rfl (if_neg (Nat.not_lt.mpr h)), rfl, ?_, ?_⟩⟩
    · simp [g]
    · simp [g]

end Sys2Proof.Machine
end

section
/-! PROOFS. The object table: an entry that is set, an entry minted for a child, and an entry that an error retires
(R123, R124, R133, R134, R152). -/

namespace Sys2Proof.Machine

/-! ### Rising tables -/

theorem twf_tail {α : Type} {p : Nat × α} {t : Tbl α} (h : twf (p :: t) = true) : twf t = true := by
  cases t with
  | nil => rfl
  | cons q r => exact (Bool.and_eq_true_iff.mp h).2

/-- A rising table lists no number below its first. -/
theorem tfind_of_lt {α : Type} {j k : Nat} {a : α} {t : Tbl α} (h : twf ((j, a) :: t) = true) (hk : k < j) :
    tfind ((j, a) :: t) k = none := by
  induction t generalizing j a with
  | nil => simp [tfind, hk.ne']
  | cons q r ih =>
    obtain ⟨i, b⟩ := q
    have hj : j < i := of_decide_eq_true (Bool.and_eq_true_iff.mp h).1
    rw [tfind, if_neg hk.ne', ih (twf_tail h) (hk.trans hj)]

/-! ### Entries read and set -/

section
variable (s : State)

@[simp] theorem State.obj_setObj_same (n : Nat) (o : Obj) : (s.setObj n o).obj n = o := tget_tset_same _ _ _ _

theorem State.obj_setObj_ne {n k : Nat} (o : Obj) (h : k ≠ n) : (s.setObj n o).obj k = s.obj k := tget_tset_ne _ _ _ h.symm

theorem State.obj_of_cap {s s' : State} (h : s'.cap = s.cap) (k : Nat) : s'.obj k = s.obj k := by simp [State.obj, h]

/-- A capability of an object that is not LIVE is valid nowhere (R123). -/
theorem State.capValid_of_not_live {c : Cap} (h : (s.obj c.object).state ≠ .live) : s.capValid c = false := by
  simp [State.capValid, State.live, h]

/-! ### Events for the PF (R450) -/

/-- What waits for the fabric after an event without extended data is raised for the PF alone. -/
def State.pfRaise (code src tag : Nat) (d : Word) : Raise :=
  { code, source := src, tag, at_ := s.now, rcpt := [(0, false)], sec := s.sec32, ns := s.servedNs, data := d }

/-- An event for the PF that it masks neither by code nor by source waits for the fabric. -/
theorem State.raiseTo_of_unmasked {code src : Nat} (tag : Nat) (d : Word) (hsrc : s.evt.srcMask.contains src = false)
    (hcode : (s.evq 0).mask.contains code = false) (hst : src ≠ srcSteward) : s.raiseTo code src tag d none [(0, false)] =
      { s with evt := { s.evt with raised := insertRaise (s.pfRaise code src tag d) s.evt.raised } } := by
  simp only [State.raiseTo, hsrc, hcode, hst, List.filter, Bool.false_and, Bool.and_false, Bool.false_eq_true, ↓reduceIte,
    Bool.not_false, List.foldl_nil, List.isEmpty_cons, decide_false]
  rfl

theorem State.raised_raiseDev_of_unmasked {code src : Nat} {c u : Bool} (data : Nat) (hroute : evInfo code = some (.P, c, u))
    (hsrc : s.evt.srcMask.contains src = false) (hcode : (s.evq 0).mask.contains code = false) (hst : src ≠ srcSteward) :
    (s.raiseDev code src data).evt.raised = insertRaise (s.pfRaise code src tagDevice (wd data)) s.evt.raised := by
  unfold State.raiseDev State.raise
  rw [hroute]
  exact congrArg (·.evt.raised) ((s.emitOut _).raiseTo_of_unmasked tagDevice (wd data) hsrc hcode hst)

/-! ### Minting (R124, R133, R139) -/

theorem le_freeObj (k : Nat) (t : Tbl Obj) : k ≤ freeObj k t := by
  induction t generalizing k with
  | nil => exact le_rfl
  | cons p r ih =>
    obtain ⟨j, o⟩ := p
    unfold freeObj
    split
    · exact ih k
    · split
      · exact le_rfl
      · split
        · exact le_rfl
        · exact (Nat.le_succ k).trans (ih (k + 1))

/-- The entry that a minting takes is FREE, listed or not. -/
theorem freeObj_free {t : Tbl Obj} (h : twf t = true) (k : Nat) : (tget t (freeObj k t) {}).state = .free := by
  induction t generalizing k with
  | nil => rfl
  | cons p r ih =>
    obtain ⟨j, o⟩ := p
    have hskip {i : Nat} (hi : j < i) : (tget ((j, o) :: r) (freeObj i r) {}).state = .free := by
      have hne : j ≠ freeObj i r := (hi.trans_le (le_freeObj i r)).ne
      simpa [tget, tfind, hne] using ih (twf_tail h) i
    unfold freeObj
    split
    case isTrue hj => exact hskip hj
    case isFalse hj =>
      split
      case isTrue hk => simp [tget, tfind_of_lt h hk]
      case isFalse hk =>
        obtain rfl : j = k := by omega
        split
        case isTrue hfree => simpa [tget, tfind] using (Bool.and_eq_true_iff.mp hfree).1
        case isFalse => exact hskip (Nat.lt_succ_self j)

/-- What minting an object in an entry does: a FREE entry becomes LIVE under the generation after the one it last held, and
entries that are not FREE stay. -/
structure State.Mints (s s1 : State) (o : Obj) (n : Nat) : Prop where
  pos : 1 ≤ n
  le : n ≤ 65535
  free : (s.obj n).state = .free
  minted : s1.obj n = { o with state := .live, gen := (s.obj n).gen + 1 }
  kept : ∀ k, (s.obj k).state ≠ .free → s1.obj k = s.obj k
  frame : s1 = { s with cap := { s.cap with objs := s1.cap.objs } }

/-- A FREE entry whose generation cannot rise is RETIRED if it lies before the entry that a minting takes (R139). -/
def Obj.retireBefore (n k : Nat) (o : Obj) : Obj :=
  if decide (k < n) && o.state == .free && o.gen == 65535 then { o with state := .retired } else o

theorem Obj.retireBefore_of_not_free {n k : Nat} {o : Obj} (h : o.state ≠ .free) : o.retireBefore n k = o := by
  simp [Obj.retireBefore, h]

/-- The table after the entries that cannot rise again are RETIRED. -/
def State.retiredBefore (n : Nat) : State := { s with cap := { s.cap with objs := tmap s.cap.objs (Obj.retireBefore n) } }

theorem State.obj_retiredBefore (n k : Nat) : (s.retiredBefore n).obj k = (s.obj k).retireBefore n k :=
  tget_tmap _ _ _ (by simp [Obj.retireBefore])

theorem State.mint_eq_some {o : Obj} {n : Nat} {s1 : State} (h : s.mint o = some (n, s1)) :
    n = freeObj 1 s.cap.objs ∧ n ≤ 65535 ∧
      s1 = (s.retiredBefore n).setObj n { o with state := .live, gen := ((s.retiredBefore n).obj n).gen + 1 } := by
  unfold State.mint at h
  dsimp only at h
  split at h
  · cases h
  · split at h
    · cases h
    · rename_i hle
      obtain ⟨rfl, rfl⟩ := Prod.mk.inj (Option.some.inj h)
      exact ⟨rfl, Nat.le_of_not_lt hle, rfl⟩

theorem State.mints_of_mint {o : Obj} {n : Nat} {s1 : State} (hwf : twf s.cap.objs = true) (h : s.mint o = some (n, s1)) :
    s.Mints s1 o n := by
  obtain ⟨hn, hle, rfl⟩ := s.mint_eq_some h
  have hfree : (s.obj n).state = .free := hn ▸ freeObj_free hwf 1
  refine ⟨hn ▸ le_freeObj 1 _, hle, hfree, ?_, fun k hk => ?_, rfl⟩
  · rw [State.obj_setObj_same, State.obj_retiredBefore]
    simp [Obj.retireBefore]
  · have hkn : k ≠ n := fun e => hk (e ▸ hfree)
    rw [State.obj_setObj_ne _ _ hkn, State.obj_retiredBefore, Obj.retireBefore_of_not_free hk]

/-! ### Children (R134) -/

theorem childWindow_inside {type plen off len w l : Nat} (ht : type = 1 ∨ type = 6)
    (h : childWindow type plen off len = some (w, l)) : w = off ∧ off + l ≤ plen := by
  unfold childWindow at h
  rw [if_pos ht] at h
  split at h
  · cases h
  · by_cases hfit : off + (if len = 0 then plen - off else len) ≤ plen
    · rw [if_pos hfit] at h
      obtain ⟨rfl, rfl⟩ := Prod.mk.inj (Option.some.inj h)
      exact ⟨rfl, hfit⟩
    · cases (if_neg hfit).symm.trans h

theorem State.child_eq_ok {parent owner level off len n : Nat} {rights : BitVec 16} {s1 : State}
    (h : s.child parent owner level rights off len = .ok (n, s1)) :
    ∃ w l, childWindow (s.obj parent).type (s.obj parent).length off len = some (w, l) ∧ (s.obj parent).depth < 4 ∧
      s.mint { s.obj parent with
        level, owner, rights, base := (s.obj parent).base + w, offset := (s.obj parent).offset + w, length := l, parent
        depth := (s.obj parent).depth + 1, label := 0 } = some (n, s1) := by
  unfold State.child at h
  dsimp only at h
  split at h
  · cases h
  · rename_i w l hw
    split at h
    · cases h
    · rename_i hdepth
      split at h
      · cases h
      · split at h
        · cases h
        · rename_i p hp
          exact ⟨w, l, hw, Nat.lt_of_not_le hdepth, Except.ok.inj h ▸ hp⟩

end

/-- Settles O19: the child is minted in a FREE entry, in the window that lies in its parent's. -/
theorem childObjects : Obligations.ChildObjects := by
  intro s s1 parent owner level off len n rights hchild ⟨_, _, _, hwf, _⟩ o
  obtain ⟨w, l, hwindow, hdepth, hmint⟩ := s.child_eq_ok hchild
  obtain ⟨hpos, hle, hfree, hminted, hkept, hframe⟩ := s.mints_of_mint hwf hmint
  rw [hminted]
  refine ⟨rfl, rfl, by simp [hfree], rfl, rfl, rfl, rfl, rfl, hdepth, rfl, hpos, hle, fun ht => ?_,
    fun k hk => hkept k (by simp [hk]), hframe⟩
  obtain ⟨rfl, hin⟩ := childWindow_inside ht hwindow
  exact ⟨Nat.le_add_right _ _, by simpa [o, Nat.add_assoc] using hin, rfl⟩

/-- Settles O22: the entry is RETIRED, so that no capability of it is valid, and the event goes to the PF. -/
theorem objectTableError : Obligations.ObjectTableError := by
  intro t obj s hpos hle s0
  have hexec : exec (.objectTableEcc t obj) s = .next ((({ s0 with cap := { s0.cap with eccErrors := s0.cap.eccErrors + 1 } }).setObj
      obj { s0.obj obj with state := .retired }).raiseDev 0x0402 srcObjects obj) := if_neg (by omega)
  have hobj (s1 : State) (k : Nat) : (s1.raiseDev 0x0402 srcObjects obj).obj k = s1.obj k := State.obj_of_cap (by simp) k
  have hretired := State.obj_setObj_same { s0 with cap := { s0.cap with eccErrors := s0.cap.eccErrors + 1 } } obj
    { s0.obj obj with state := .retired }
  refine ⟨_, hexec, ?_, fun c hc => State.capValid_of_not_live _ ?_, fun k hk => ?_, ?_, fun hsrc hcode => ?_, ?_⟩
  · rw [hobj, hretired, State.tick_obj]
  · rw [hobj, hc, hretired]
    simp
  · rw [hobj, State.obj_setObj_ne _ _ hk]
    exact s.tick_obj t k
  · simp [State.setObj, s0]
  · refine (State.raised_raiseDev_of_unmasked _ obj rfl ?_ ?_ (by decide)).trans (congrArg _ (congrArg _ (s.tick_evt t)))
    · exact (congrArg (·.srcMask.contains srcObjects) (s.tick_evt t)).trans hsrc
    · exact (congrArg (·.mask.contains 0x0402) (s.tick_evq t 0)).trans hcode
  · rw [State.raiseDev_frame]
    rfl

end Sys2Proof.Machine
end

section
/-! PROOFS. Revocation: what a tree's bump makes of each object, and the replies that wait for the broadcast (R135, R136, R138, R139). -/

namespace Sys2Proof.Machine
open Sys2Proof.Say

/-- A block command that runs leaves what the steward does with its work's answer. -/
theorem exec_of_answer {c : Instr} {b : BlockRow} {s : State} {a : List Word} {x : Answer} (hb : blockRow c = some b)
    (h : Runs c s a) (hw : b.work a (s.tick b.t) = x) : exec c s = .next (State.answer b.tag x) := hw ▸ exec_of_runs hb h

section
variable (s : State)

/-! ### Freed objects -/

theorem Obj.release_not_live (o : Obj) : o.release.state ≠ .live := by
  unfold Obj.release
  split
  · simp [*]
  · simp

theorem Obj.bump_of_not_live {o : Obj} (h : o.state ≠ .live) : o.bump = o := if_pos h

/-- A bump leaves an entry alone, raises it or frees it. -/
theorem State.obj_bumpAll_cases (hit free : Nat → Bool) (k : Nat) : (s.bumpAll hit free).obj k = s.obj k ∨
    (s.bumpAll hit free).obj k = (s.obj k).bump ∨ (s.bumpAll hit free).obj k = (s.obj k).bump.release := by
  unfold State.bumpAll
  dsimp only
  split
  · exact .inl rfl
  · have hobj := tget_tmap s.cap.objs (fun n o =>
      if ((s.cap.objs.filter (fun p => p.2.state == .live && hit p.1)).map (·.1)).contains n then
        (if free n then o.bump.release else o.bump) else o) k (d := {}) (by split <;> [split <;> rfl; rfl])
    refine Eq.rec (motive := fun o _ => o = s.obj k ∨ o = (s.obj k).bump ∨ o = (s.obj k).bump.release) ?_ hobj.symm
    split
    · split
      · exact .inr (.inr rfl)
      · exact .inr (.inl rfl)
    · exact .inl rfl

/-- An object that a bump is to free is not LIVE after it, whatever it was. -/
theorem State.not_live_bumpAll {hit free : Nat → Bool} {k : Nat} (hhit : hit k = true) (hfree : free k = true) :
    ((s.bumpAll hit free).obj k).state ≠ .live := by
  by_cases hl : (s.obj k).state = .live
  · rw [s.obj_bumpAll_of_hit hl hhit, if_pos hfree]
    exact Obj.release_not_live _
  · obtain h | h | h := s.obj_bumpAll_cases hit free k <;> rw [h]
    · exact hl
    · rwa [Obj.bump_of_not_live hl]
    · exact Obj.release_not_live _

theorem underIn_self (t : Tbl Obj) (fuel n : Nat) : underIn t fuel n n = true := by
  cases fuel <;> simp [underIn]

/-- The root of a revoked tree is raised and stays LIVE while its generation can rise (R135). -/
theorem State.obj_revokeTree_root {n : Nat} (hl : (s.obj n).state = .live) (hg : (s.obj n).gen < 65535) :
    (s.revokeTree n).obj n = { s.obj n with gen := (s.obj n).gen + 1 } := by
  refine (s.obj_bumpAll_of_hit hl (underIn_self _ _ _)).trans ?_
  simp [Obj.bump, hl, hg.ne]

theorem State.not_live_revokeTree {n k : Nat} (hk : k ≠ n) (hu : underIn s.cap.objs 4 n k = true) :
    ((s.revokeTree n).obj k).state ≠ .live := s.not_live_bumpAll hu (by simp [hu, hk])

/-! ### The commands (R138) -/

theorem capRevokeWork_of_live {tag : Nat} (io : HostIo) {a : List Word} {c : Cap}
    (hc : s.handleFor tag (argHandle a 1) (fun _ => true) (1 <<< rRevoke) = .ok c) (hl : s.live c.object = true)
    (hg : (s.obj c.object).gen < 65535) :
    ∃ rs, capRevokeWork tag io a s = .hold .broadcast 0 rs (s.revokeTree c.object) := by
  have hl' := hl
  simp only [State.live, Bool.and_eq_true, beq_iff_eq] at hl'
  have hstays : (s.revokeTree c.object).live c.object = true := by
    simpa [State.live, s.obj_revokeTree_root hl'.2 hg] using hl'
  simp only [capRevokeWork, hc]
  exact ⟨_, if_pos hstays⟩

theorem capReleaseWork_of_ok {tag : Nat} (io : HostIo) {a : List Word} {c : Cap} (hc : s.handleOk tag (argHandle a 1) = .ok c) :
    capReleaseWork tag io a s = .hold .broadcast 0 [] (s.releaseTree c.object) := by
  simp only [capReleaseWork, hc]

/-! ### Acknowledgements (R136) -/

theorem State.ackHeld_of_last {h : Held} (hb : s.cap.broadcasts = []) (hh : s.mbx.held = some h) (hw : h.wait = .broadcast) :
    s.ackHeld = (({ s with mbx := { s.mbx with held := none } } : State).complete h.tag h.status h.results).take := by
  simp [State.ackHeld, hb, hh, hw]

theorem State.ackHeld_of_waiting (hb : s.cap.broadcasts ≠ []) : s.ackHeld = s := if_pos (by simpa using hb)

theorem ackUnit_of_others {b : Broadcast} {unit u : Nat} (hunit : unit ∈ b.units) (hu : u ∈ b.units) (hne : u ≠ unit) :
    ackUnit unit [b] = [{ b with units := b.units.filter (· ≠ unit) }] := by
  have hleft : (b.units.filter (· ≠ unit)).isEmpty = false :=
    List.isEmpty_eq_false_iff.mpr (List.ne_nil_of_mem (List.mem_filter.mpr ⟨hu, by simpa using hne⟩))
  unfold ackUnit
  rw [if_pos (List.contains_iff_mem.mpr hunit)]
  exact if_neg (by simpa using hleft)

theorem ackUnit_of_last {b : Broadcast} {unit : Nat} (h : b.units = [unit]) : ackUnit unit [b] = [] := by
  simp [ackUnit, h]

end

/-- Settles O18: the tree's bump makes of each object what R135 and R138 say, and the reply leaves with the last unit's
acknowledgement. -/
theorem revocation : Obligations.Revocation := by
  refine ⟨fun t tag io s a c hruns hc hl hg => ?revoke, fun t tag io s a c hruns hc => ?release,
    fun t unit s b h hb hu hh hw => ?last, fun t unit u s b hb hunit hu hne => ?others⟩
  case revoke =>
    have hlive : (s.obj c.object).state = .live := by simpa using (Bool.and_eq_true_iff.mp hl).2
    obtain ⟨rs, hwork⟩ := capRevokeWork_of_live (s.tick t) io hc (by simpa using hl) (by simpa using hg)
    refine ⟨_, exec_of_answer rfl hruns hwork, ?_,
      fun k hk hu => ?_, fun k hu => ?_, ⟨_, rfl, rfl, rfl, rfl⟩, ?_, ?_⟩
    · refine ((s.tick t).obj_revokeTree_root (by simpa using hlive) (by simpa using hg)).trans ?_
      rw [State.tick_obj]
    · exact (s.tick t).not_live_revokeTree hk (by simpa using hu)
    · exact ((s.tick t).obj_bumpAll_of_miss (by simpa using hu)).trans (s.tick_obj t k)
    · exact (State.page_of_mbx ((s.tick t).revokeTree_mbx c.object) tag).trans (s.tick_page t tag)
    · simp only [State.answer]
      rw [State.revokeTree_frame]
      simp
  case release =>
    have hwork := capReleaseWork_of_ok (s.tick t) io hc
    refine ⟨_, exec_of_answer rfl hruns hwork,
      fun k hu => ?_, fun k hu => ?_, rfl, ?_⟩
    · exact (s.tick t).not_live_bumpAll (by simpa using hu) (by simpa using hu)
    · exact ((s.tick t).obj_bumpAll_of_miss (by simpa using hu)).trans (s.tick_obj t k)
    · simp only [State.answer]
      rw [State.releaseTree_frame]
      simp
  case last =>
    have hcap : ackUnit unit (s.tick t).cap.broadcasts = [] := by rw [State.tick_cap, hb, ackUnit_of_last hu]
    refine ⟨_, ?_, State.replied_complete_take _ h.tag h.status h.results⟩
    refine congrArg Host.Outcome.next ((State.ackHeld_of_last _ hcap (by simpa using hh) hw).trans ?_)
    simp [hb, ackUnit_of_last hu]
  case others =>
    have hcap : ackUnit unit (s.tick t).cap.broadcasts = [{ b with units := b.units.filter (· ≠ unit) }] := by
      rw [State.tick_cap, hb, ackUnit_of_others hunit hu hne]
    refine congrArg Host.Outcome.next ((State.ackHeld_of_waiting _ ?_).trans ?_) <;> rw [hcap]
    · exact List.cons_ne_nil _ _
    · rw [State.tick_cap]

end Sys2Proof.Machine
end

section
/-! PROOFS. DMA pieces, descriptor errors and the memory-area commands (R137, R341, R342, R344, R349, R351, R360, R362). -/

namespace Sys2Proof.Machine
open Sys2Proof.Say

/-! ### Memory bytes (R342) -/

/-- Of a part of a table that is chosen by number, an entry chosen reads as before and any other is absent. -/
theorem tfind_filter_number {α : Type} (t : Tbl α) (f : Nat → Bool) (k : Nat) :
    tfind (t.filter (fun p => f p.1)) k = if f k then tfind t k else none := by
  induction t with
  | nil => simp
  | cons p r ih =>
    obtain ⟨j, a⟩ := p
    by_cases hj : j = k
    · subst hj
      by_cases hf : f j = true <;> simp [hf, tfind, ih]
    · by_cases hf : f j = true <;> simp [hf, tfind, hj, ih]

theorem tfind_terase_ne {α : Type} (t : Tbl α) {j k : Nat} (h : k ≠ j) : tfind (terase t j) k = tfind t k :=
  (tfind_filter_number t (fun i => decide (i ≠ j)) k).trans (if_pos (decide_eq_true h))

@[simp] theorem readByte_writeByte_same (m : List (Nat × Byte)) (a : Nat) (b : Byte) : readByte (writeByte m a b) a = b := by
  unfold readByte writeByte
  split
  · rename_i hb
    rw [tfind_terase_same, hb]
    rfl
  · rw [tfind_tset_same]
    rfl

theorem readByte_writeByte_ne (m : List (Nat × Byte)) {a k : Nat} (b : Byte) (h : k ≠ a) :
    readByte (writeByte m a b) k = readByte m k := by
  unfold readByte writeByte
  split
  · rw [tfind_terase_ne m h]
  · rw [tfind_tset_ne m b h.symm]

/-- Bytes written read back at their addresses, and no other byte changes. -/
theorem readByte_writeBytes (m : List (Nat × Byte)) (a : Nat) (bs : List Byte) (b : Nat) : readByte (writeBytes m a bs) b =
    if a ≤ b ∧ b < a + bs.length then bs.getD (b - a) 0 else readByte m b := by
  induction bs generalizing m a with
  | nil => rw [if_neg (by simp)]; rfl
  | cons x r ih =>
    rw [writeBytes, ih]
    by_cases hb : b = a
    · subst hb
      simp
    · rw [readByte_writeByte_ne m x hb]
      by_cases hin : a + 1 ≤ b ∧ b < a + 1 + r.length
      · obtain ⟨i, rfl⟩ := Nat.exists_eq_add_of_lt hin.1
        rw [if_pos hin, if_pos (by simp only [List.length_cons]; omega)]
        simp [show a + i + 1 - a = i + 1 by omega]
      · rw [if_neg hin, if_neg (by simp only [List.length_cons]; omega)]

section
variable (s : State)

theorem State.store_frame (a : Nat) (bs : List Byte) : s.store a bs =
    { s with mem := { s.mem with bytes := (s.store a bs).mem.bytes, tags := (s.store a bs).mem.tags } } := by
  unfold State.store
  split <;> rfl

theorem State.bytes_store (a : Nat) (bs : List Byte) : (s.store a bs).mem.bytes = writeBytes s.mem.bytes a bs := by
  unfold State.store
  split
  · rename_i h
    rw [List.isEmpty_iff.mp h]
    rfl
  · rfl

/-- The bytes that the MPU allowed stand at the piece's addresses, and no other byte changes. -/
theorem State.readByte_store_take (a k : Nat) (bs : List Byte) (b : Nat) : readByte (s.store a (bs.take k)).mem.bytes b =
    if a ≤ b ∧ b < a + min k bs.length then bs.getD (b - a) 0 else readByte s.mem.bytes b := by
  rw [State.bytes_store, readByte_writeBytes, List.length_take]
  split
  · rename_i h
    simp only [List.getD_eq_getElem?_getD, List.getElem?_take_of_lt (show b - a < k by omega)]
  · rfl

end

/-! ### DMA pieces (R120, R137, R349) -/

section
variable {t : Nat} {s : State} {j : DmaReq} (hc : j.cell = none)
include hc

theorem exec_dmaPiece_of_barred (h : s.enabled j.tag = false ∨ s.bme j.tag = false) : exec (.dmaPiece t j) s = .next (s.tick t) := by
  have hbar : ((s.tick t).enabled j.tag && (s.tick t).bme j.tag) = false := by
    obtain h | h := h <;> simp [h]
  change execDmaPiece t j s = _
  simp only [execDmaPiece, hc, hbar, Bool.false_eq_true, ↓reduceIte]

theorem exec_dmaPiece_of_open (he : s.enabled j.tag = true) (hb : s.bme j.tag = true) :
    exec (.dmaPiece t j) s = .next ((s.tick t).dmaHost j) := by
  have hopen : ((s.tick t).enabled j.tag && (s.tick t).bme j.tag) = true := by simp [he, hb]
  change execDmaPiece t j s = _
  simp only [execDmaPiece, hc, hopen, ↓reduceIte]

end

/-- A piece that reads a host buffer stores what the blocks allowed by the MPU of its device address hold. -/
theorem State.dmaHost_of_read {s s1 s2 : State} {j : DmaReq} {mpu k : Nat} (hw : j.write = true)
    (hread : s.hostRead j.tag j.iova j.data.length 3 j.fault = .ok s1) (hat : mpuAt s1.mem.extMib j.addr = some mpu)
    (hrun : State.mpuRun mpu (j.data.length / 256 + 2)
      { addr := j.addr, level := accessLevel j.tag, charge := j.tag, write := true, dma := true } j.data.length s1 = (k, s2)) :
    s.dmaHost j = s2.store j.addr (j.data.take k) := by
  simp only [State.dmaHost, hw, ↓reduceIte, hread, hat, Bool.not_true, hrun]

/-! ### Descriptor errors (R362) -/

theorem State.mpuRegion_of_bad {s : State} {m : Nat} (h : s.now < tget s.mem.eccBad m 0) (c x : Nat) : s.mpuRegion m c x = 0xFF :=
  if_pos (decide_eq_true h)

/-- An MPU refuses every access for 1 ms after an uncorrectable error, and the error is raised. -/
theorem exec_mpuEcc_of_instance {t m : Nat} (s : State) (h : m ≤ 5) : ∃ s', exec (.mpuEcc t m) s = .next s' ∧
    s'.mem = { s.mem with eccBad := tset s.mem.eccBad m ((s.tick t).now + 1000000) } ∧
    s' = { s.tick t with mem := s'.mem, evt := s'.evt, out := s'.out } := by
  refine ⟨_, if_neg (Nat.not_lt.mpr h), ?_, ?_⟩
  · simp
  · rw [State.raise_frame]

/-! ### The commands -/

section
variable {tag : Nat} {a : List Word} {s : State} (io : HostIo)

theorem memMpuRegionWork_of_good (hm : fld (arg a 1) 2 0 ≤ 5) (hn : fld (arg a 1) 12 8 ≤ 23)
    (hlo : (allottable s.mem.extMib (fld (arg a 1) 2 0)).1 ≤ (regionOf (arg a 2) (arg a 3) (arg a 4)).base * 256)
    (hhi : (regionOf (arg a 2) (arg a 3) (arg a 4)).base * 256 + 2 ^ (regionOf (arg a 2) (arg a 3) (arg a 4)).sizeLog2 - 1 ≤
      (allottable s.mem.extMib (fld (arg a 1) 2 0)).2)
    (hattr : (regionOf (arg a 2) (arg a 3) (arg a 4)).attrBad (fld (arg a 1) 2 0) = false) :
    memMpuRegionWork tag io a s = s.stage tag 0x0342
      (.mpuRegion (fld (arg a 1) 2 0) (fld (arg a 1) 12 8) (regionOf (arg a 2) (arg a 3) (arg a 4))) := by
  refine (if_neg (Nat.not_lt.mpr hm)).trans ((if_neg ?_).trans (if_neg (by simp [hattr])))
  simp only [Bool.or_eq_true, decide_eq_true_eq, not_or, Nat.not_lt]
  exact ⟨⟨hn, hlo⟩, hhi⟩

theorem memMpuRegionWork_of_firmware (hm : fld (arg a 1) 2 0 ≤ 5) (hn : 23 < fld (arg a 1) 12 8) :
    memMpuRegionWork tag io a s = .status 0x0341 s :=
  (if_neg (Nat.not_lt.mpr hm)).trans (if_pos (by simp [hn]))

theorem bit_low_flag (x y : Bool) : bit (wd (b2n x + 2 * b2n y)) 0 = x := by cases x <;> cases y <;> rfl

/-- MEM_MPU_READ answers the descriptor, the mode in bit 0 of the next word, and the overlap hits. -/
theorem memMpuReadWork_of_instance (hm : fld (arg a 1) 2 0 ≤ 5) : ∃ w : Word,
    memMpuReadWork tag io a s = .ok ((s.region s.cfg (fld (arg a 1) 2 0) (fld (arg a 1) 12 8)).words ++
      [w, wd (tget s.mem.overlap (fld (arg a 1) 2 0) 0)]) s ∧ bit w 0 = s.cfg.layered (fld (arg a 1) 2 0) := by
  exact ⟨_, if_neg (Nat.not_lt.mpr hm), bit_low_flag _ _⟩

/-- The refusal that MEM_MPU_FAULT_GET finds for a caller: the PF's is any, a tenant's its own (R351). -/
theorem memMpuFaultGetWork_of_logged {x : Refusal13}
    (h : s.mem.refusals.find? (fun r => r.seq == (arg a 1).toNat && (isPf tag || r.tag == tag)) = some x) :
    memMpuFaultGetWork tag io a s = .ok (leWords x.bytes) s := by
  simp only [memMpuFaultGetWork, h]

theorem memMpuFaultGetWork_of_unlogged
    (h : s.mem.refusals.find? (fun r => r.seq == (arg a 1).toNat && (isPf tag || r.tag == tag)) = none) :
    memMpuFaultGetWork tag io a s = .status 0x0344 s := by
  simp only [memMpuFaultGetWork, h]

theorem memMapWork_of_instance (hm : fld (arg a 1) 2 0 ≤ 5) : memMapWork tag io a s =
    .ok (twoWords (allottable s.mem.extMib (fld (arg a 1) 2 0)).1 ++ twoWords (allottable s.mem.extMib (fld (arg a 1) 2 0)).2 ++
      [wd s.mem.extMib]) s := if_neg (Nat.not_lt.mpr hm)

end

/-- Settles O26: the piece by the blocks that the MPU allows, the error by the time until which the MPU refuses, and
each command by what its work answers. -/
theorem memoryCommands : Obligations.MemoryCommands := by
  intro t tag io s a s0 m n r
  refine ⟨fun j s1 s2 mpu k hc he hb hw hread hat hrun => ?piece, fun j hc h => exec_dmaPiece_of_barred hc h, fun hm => ?ecc,
    fun hm => stages_of_work rfl (if_neg (Nat.not_lt.mpr hm)), fun hm hn hlo hhi hattr => ?region,
    fun hm hn => answers_of_work rfl (memMpuRegionWork_of_firmware io hm hn), fun hm => ?read, fun x hx => ?found, fun hx => ?lost,
    fun hm => ?map⟩
  case piece =>
    refine ⟨_, (exec_dmaPiece_of_open hc he hb).trans (congrArg Host.Outcome.next (State.dmaHost_of_read hw hread hat hrun)),
      s2.readByte_store_take _ _ _, s2.store_frame _ _⟩
  case ecc =>
    obtain ⟨s', hexec, hmem, hframe⟩ := exec_mpuEcc_of_instance (t := t) s hm
    have hbad : tget s'.mem.eccBad m 0 = s0.now + 1000000 := by rw [hmem]; simp [s0]
    refine ⟨s', hexec, hbad, fun c x => State.mpuRegion_of_bad ?_ c x, ?_⟩
    · rw [hbad, hframe]
      exact Nat.lt_add_of_pos_right (by decide)
    · rw [hframe, hmem]
  case region => exact stages_of_work rfl (memMpuRegionWork_of_good io hm hn (by simpa using hlo) (by simpa using hhi) hattr)
  case read =>
    obtain ⟨w, hwork, hbit⟩ := memMpuReadWork_of_instance (tag := tag) (s := s0) io hm
    refine ⟨w, answers_of_work rfl (hwork.trans ?_), by simpa [s0] using hbit⟩
    rw [State.tick_region, State.tick_cfg, State.tick_mem]
    rfl
  case found =>
    have hx0 : s0.mem.refusals.find? (fun r => r.seq == (arg a 1).toNat && (isPf tag || r.tag == tag)) = some x := by
      simpa [s0] using hx
    exact answers_of_work rfl (memMpuFaultGetWork_of_logged io hx0)
  case lost =>
    have hx0 : s0.mem.refusals.find? (fun r => r.seq == (arg a 1).toNat && (isPf tag || r.tag == tag)) = none := by
      simpa [s0] using hx
    exact answers_of_work rfl (memMpuFaultGetWork_of_unlogged io hx0)
  case map =>
    refine answers_of_work rfl ((memMapWork_of_instance (tag := tag) io hm).trans ?_)
    rw [State.tick_mem]
    rfl

end Sys2Proof.Machine
end

section
/-! PROOFS. What the capability-area commands answer (Tables 5-13, R131, R134, R141, R148, R149). -/

namespace Sys2Proof.Machine
open Sys2Proof.Say

section
variable {s s1 : State} {tag n : Nat} {a : List Word} {c : Cap} (io : HostIo)

theorem capInfoWork_of_ok (h : s.handleOk tag (argHandle a 1) = .ok c) : capInfoWork tag io a s = .ok
    [ wd ((s.obj c.object).gen * 2 ^ 16 + c.object)
    , wd ((s.obj c.object).rights.toNat + (s.obj c.object).type * 2 ^ 16 + (s.obj c.object).level * 2 ^ 20 +
        (s.obj c.object).owner * 2 ^ 22)
    , wd ((s.obj c.object).parent + (s.obj c.object).depth * 2 ^ 16 + s.treeCount c.object * 2 ^ 20)
    , wd (s.obj c.object).offset, wd (s.obj c.object).length, (s.obj c.object).label ] s := by
  simp only [capInfoWork, h]

theorem capInfoWork_of_error {e : Nat} (h : s.handleOk tag (argHandle a 1) = .error e) : capInfoWork tag io a s = .status e s := by
  simp only [capInfoWork, h]

/-- CAP_DERIVE makes a child for the caller and answers its sealed handle. -/
theorem capDeriveWork_of_child (h : s.handleFor tag (argHandle a 1) (fun _ => true) (1 <<< rDerive) = .ok c)
    (hr : rightsSub (BitVec.ofNat 16 (fld (arg a 5) 15 0)) c.rights = true)
    (hchild : s.child c.object tag c.level (BitVec.ofNat 16 (fld (arg a 5) 15 0)) (arg a 6).toNat (arg a 7).toNat = .ok (n, s1)) :
    capDeriveWork tag io a s = .ok (handleWords (s1.sealed ((s1.obj n).cap n))) s1 := by
  simp only [capDeriveWork, h, hr, hchild, Bool.not_true, Bool.false_eq_true, ↓reduceIte]

theorem capDeriveWork_of_gain (h : s.handleFor tag (argHandle a 1) (fun _ => true) (1 <<< rDerive) = .ok c)
    (hr : rightsSub (BitVec.ofNat 16 (fld (arg a 5) 15 0)) c.rights = false) : capDeriveWork tag io a s = .status 0x0401 s := by
  simp only [capDeriveWork, h, hr, Bool.not_false, ↓reduceIte]

/-- CAP_GRANT makes a child without GRANT for an enabled tenant and answers its sealed handle. -/
theorem capGrantWork_of_child (h : s.handleFor tag (argHandle a 1) (fun _ => true) (1 <<< rGrant) = .ok c)
    (hpf : isPf (fld (arg a 5) 9 0) = false) (hle : fld (arg a 5) 9 0 ≤ 287) (he : s.enabled (fld (arg a 5) 9 0) = true)
    (hg : (BitVec.ofNat 16 (fld (arg a 6) 15 0)).getLsbD rGrant = false)
    (hr : rightsSub (BitVec.ofNat 16 (fld (arg a 6) 15 0)) c.rights = true)
    (hchild : s.child c.object (fld (arg a 5) 9 0) 2 (BitVec.ofNat 16 (fld (arg a 6) 15 0)) (arg a 7).toNat (arg a 8).toNat =
      .ok (n, s1)) :
    capGrantWork tag io a s = .ok (handleWords (s1.sealed ((s1.obj n).cap n))) s1 := by
  have hnot : ¬287 < fld (arg a 5) 9 0 := Nat.not_lt.mpr hle
  simp only [capGrantWork, h, hpf, he, hg, hr, hchild, hnot, decide_false, Bool.not_true, Bool.or_self, Bool.false_eq_true,
    ↓reduceIte]

/-- The LIVE objects of a caller that a handle may name, from a number on. -/
def State.listed (s : State) (tag first : Nat) : List (Nat × Obj) := s.cap.objs.filter (fun p =>
  p.2.state == .live && p.2.owner == tag && handleType p.2.type && decide (first ≤ p.1))

/-- CAP_LIST writes the sealed handles of the objects listed, where the buffer holds them all. -/
theorem capListWork_of_room (hpos : 0 < (arg a 3).toNat) (h16 : (arg a 3).toNat % 16 = 0)
    (hroom : (s.listed tag (fld (arg a 4) 15 0)).length ≤ (arg a 3).toNat / 16)
    (hw : s.hostWrite tag (ofTwo (arg a 1) (arg a 2))
      ((s.listed tag (fld (arg a 4) 15 0)).flatMap (fun p => toLe 16 (s.sealed (p.2.cap p.1)).toNat)) io.dataFault = (0, s1)) :
    capListWork tag io a s = .ok [wd (s.listed tag (fld (arg a 4) 15 0)).length, 0] s1 := by
  refine (if_neg (by omega)).trans ?_
  have htake := List.take_of_length_le hroom
  have hdrop := List.drop_of_length_le hroom
  unfold State.listed at htake hdrop hw ⊢
  rw [htake, hdrop, hw]
  rfl

theorem capGateOpenWork_of_gate {g : Gate} (h : s.gate (fld (arg a 1) 15 0) = some g) (hl : accessLevel tag ≤ g.level)
    (hmint : s.mintRoot tag (accessLevel tag) 2 (1 <<< rCall) (.gate g.number) 0 0 = some (n, s1)) :
    capGateOpenWork tag io a s = .ok (handleWords (s1.sealed ((s1.obj n).cap n))) s1 := by
  simp only [capGateOpenWork, h, Nat.not_lt.mpr hl, hmint, ↓reduceIte]

theorem capGateOpenWork_of_level {g : Gate} (h : s.gate (fld (arg a 1) 15 0) = some g) (hl : g.level < accessLevel tag) :
    capGateOpenWork tag io a s = .status 0x0014 s := by
  simp only [capGateOpenWork, h, hl, ↓reduceIte]

theorem capGateInfoWork_of_gate {g : Gate} (h : s.gate (fld (arg a 1) 15 0) = some g) : capGateInfoWork tag io a s = .ok
    [wd (g.number + g.caste * 2 ^ 16 + g.level * 2 ^ 20), (g.slots.getD 0 {}).a, (g.slots.getD 0 {}).b, (g.slots.getD 1 {}).a
    , (g.slots.getD 1 {}).b, (g.slots.getD 2 {}).a, (g.slots.getD 2 {}).b] s := by
  simp only [capGateInfoWork, h]
  rfl

/-- The fault record that CAP_FAULT_GET finds for a caller: the PF's is any, a tenant's its own (R148). -/
theorem capFaultGetWork_of_logged {f : FaultRec}
    (h : s.cap.faults.find? (fun f => f.seq == (arg a 1).toNat && (isPf tag || f.tag == tag)) = some f) :
    capFaultGetWork tag io a s = .ok (leWords (s.faultView tag f).bytes) s := by
  simp only [capFaultGetWork, h]

theorem capFaultGetWork_of_unlogged
    (h : s.cap.faults.find? (fun f => f.seq == (arg a 1).toNat && (isPf tag || f.tag == tag)) = none) :
    capFaultGetWork tag io a s = .status 0x0409 s := by
  simp only [capFaultGetWork, h]

end

/-- Each capability-area command by what its work answers. -/
theorem capabilityCommands : capabilityCommandsSay := by
  intro t tag io s a s0 want give dst
  refine ⟨fun c hc => ?info, fun e he => answers_of_work rfl (capInfoWork_of_error io he),
    fun c n s1 hc hr hchild => answers_of_work rfl (capDeriveWork_of_child io hc hr hchild),
    fun c hc hr => answers_of_work rfl (capDeriveWork_of_gain io hc hr),
    fun c n s1 hc hpf hle he hg hr hchild =>
      answers_of_work rfl (capGrantWork_of_child io hc hpf hle ((s.tick_enabled t dst).trans he) hg hr hchild),
    fun h => answers_of_work rfl (if_pos h), ?list, fun g hg => ?gate, fun f hf => ?logged, fun hf => ?unlogged⟩
  case info =>
    refine answers_of_work rfl ((capInfoWork_of_ok io hc).trans ?_)
    rw [State.tick_obj, State.tick_treeCount]
    rfl
  case list =>
    intro mine s1 hpos h16 hroom hw
    have hlisted : (s.tick t).listed tag (fld (arg a 4) 15 0) = mine := by
      rw [State.listed, State.tick_cap]
    refine answers_of_work rfl ((capListWork_of_room io hpos h16 ?_ ?_).trans (congrArg (Answer.ok [wd ·.length, 0] s1) hlisted))
    · rwa [hlisted]
    · simpa only [hlisted, State.tick_sealed]
  case gate =>
    have hg0 : s0.gate (fld (arg a 1) 15 0) = some g := (s.tick_gate t _).trans hg
    exact ⟨answers_of_work rfl (capGateInfoWork_of_gate (tag := tag) io hg0),
      fun hl => answers_of_work rfl (capGateOpenWork_of_level io hg0 hl),
      fun n s1 hl hmint => answers_of_work rfl (capGateOpenWork_of_gate io hg0 hl hmint)⟩
  case logged =>
    refine answers_of_work rfl ((capFaultGetWork_of_logged io (by rwa [State.tick_cap])).trans ?_)
    rw [State.tick_faultView]
    rfl
  case unlogged => exact answers_of_work rfl (capFaultGetWork_of_unlogged io (by rwa [State.tick_cap]))

end Sys2Proof.Machine
end

section
/-! PROOFS. Capability registers and tagged memory in the cells (R127 to R129, R350, R355, R356). -/

namespace Sys2Proof.Machine
open Sys2Proof.Say

/-! ### One cell changed -/

/-- A command that changes one cell alone leaves every other cell and the rest of the state. -/
theorem State.tick_modCell_effect (s : State) (t n : Nat) (f : Cell → Cell) : let s' := (s.tick t).modCell n f
    s'.cell n = f (s.cell n) ∧ (∀ k, k ≠ n → s'.cell k = s.cell k) ∧
      s' = { s.tick t with sea := { s.sea with cells := s'.sea.cells } } := by
  refine ⟨by simp, fun k hk => ?_, ?_⟩
  · rw [State.cell_modCell_ne _ _ hk, State.tick_cell]
  · simp [State.modCell, State.modSea]

/-! ### Accesses that pass the checks (R350) -/

section
variable {s : State} {cell auth off size m r : Nat} {read write : Bool}

/-- The region that decides an access that passes is the one named. -/
theorem State.regionAt_of_reach (h : Reach s cell auth off size read write m r) :
    s.regionAt (s.cell cell).charge (addrOf s cell auth off) = s.region s.cfg m r := by
  obtain ⟨-, -, -, -, -, hat, hregion, hr, -⟩ := h
  simp only [State.regionAt, addrOf, hat, hregion, hr, ↓reduceIte]

theorem State.mpuCheckAt_of_reach (h : Reach s cell auth off size read write m r) :
    s.mpuCheckAt { addr := addrOf s cell auth off, level := (s.cell cell).level, charge := (s.cell cell).charge, cell, read, write } =
      (true, s) := by
  obtain ⟨-, -, -, -, -, hat, hregion, hr, hperm⟩ := h
  simp only [State.mpuCheckAt, addrOf, hat, State.mpuCheck, hregion, hr, hperm, decide_true, Bool.and_self, ↓reduceIte]

/-- The register that a capability store writes may not go to a region: it lacks STORE, or the region holds no capabilities
(R127). -/
def badStore (x : CapReg) (g : Region) : Bool := (x.tag && !x.cap.rights.getLsbD rStore) || !g.capst

theorem badStore_iff {x : CapReg} {g : Region} :
    badStore x g = true ↔ (x.tag = true ∧ x.cap.rights.getLsbD rStore = false) ∨ g.capst = false := by
  simp [badStore]

theorem not_badStore_iff {x : CapReg} {g : Region} :
    badStore x g = false ↔ (x.tag = false ∨ x.cap.rights.getLsbD rStore = true) ∧ g.capst = true := by
  rw [badStore, Bool.or_eq_false_iff, Bool.and_eq_false_iff, Bool.not_eq_false', Bool.not_eq_false']

/-- An access that passes the checks of R350 fails only where it stores a register that may not go there. -/
theorem State.cellAccess_of_reach (h : Reach s cell auth off size read write m r) (cap : Option CapReg) :
    s.cellAccess cell auth off size read write cap =
      if cap.any (badStore · (s.region s.cfg m r)) then .error (7, s)
      else .ok (addrOf s cell auth off, s.region s.cfg m r, s) := by
  have hregion := State.regionAt_of_reach h
  have hcheck := State.mpuCheckAt_of_reach h
  obtain ⟨-, -, hspan, hcause, hhost, hat, hfound, hr, -⟩ := h
  unfold State.cellAccess
  unfold addrOf at *
  generalize (tget (s.cell cell).c auth {} : CapReg) = x at *
  have hfits : ¬(16 < size ∨ 16 < s.capAddr x.cap off % 16 + size) := by omega
  cases hwhat : (s.obj x.cap.object).what with
  | iova k => exact (hhost k hwhat).elim
  | none | device | gate | key | lane | slot | dataset =>
    cases cap <;> simp [hfits, hcause, hat, hfound, hr, hregion, hwhat, hcheck, badStore]

theorem State.bufferStore_of_room {n : Nat} {e : StoreEntry} (h : (s.cell n).stores.length < 8) : s.bufferStore n e =
    s.modCell n (fun c => { c with stores := c.stores ++ [e], stalled := false }) := if_neg (Nat.not_le.mpr h)

/-- What memory holds outside the areas without a layout, with the granule's tag. -/
theorem State.fetch_uncached {n a : Nat} (h : openArea a = false) (size : Nat) : s.fetch n a size false =
    ((List.range size).map (fun i => s.memByte (a + i)), s.mem.tags.contains (a / 16), s) := by
  simp only [State.fetch, State.loadBytes, h, Bool.false_eq_true, ↓reduceIte]

end

/-! ### The instructions -/

section
variable {t cell auth off m r : Nat} {s : State}

/-- A capability store whose access passes traps where the register may not go there, and else enters the store buffer. -/
theorem exec_capabilityStore_of_reach (src : Nat) (h : Reach (s.tick t) cell auth off 16 false true m r) :
    exec (.capabilityStore t cell auth off src) s = .next
      (if badStore (tget (s.cell cell).c src {}) (s.region s.cfg m r) then
        (s.tick t).trap cell 7 { reg := auth, offset := off, size := 16, write := true } none
      else (s.tick t).bufferStore cell
        { addr := addrOf s cell auth off, data := (tget (s.cell cell).c src {} : CapReg).cap.bytes
          cap := some (tget (s.cell cell).c src {}), cached := (s.region s.cfg m r).cacheable }) := by
  change execCapabilityStore t cell auth off src s = _
  simp only [execCapabilityStore, h.1, State.cellAccess_of_reach h, Option.any_some, State.tick_cell, State.tick_region,
    State.tick_cfg, Bool.not_true, Bool.false_eq_true, ↓reduceIte]
  by_cases hbad : badStore (tget (s.cell cell).c src {}) (s.region s.cfg m r) = true
  · simp only [hbad, ↓reduceIte]
  · simp only [hbad, ↓reduceIte, Bool.false_eq_true]
    simp [addrOf, State.capAddr]

section
variable {dst : Nat} (hd : dst ≤ 15) (h : Reach (s.tick t) cell auth off 16 true false m r)
include hd h

/-- A capability load that a buffered store overlaps takes what a capability store holds, and stalls on any other (R355). -/
theorem exec_capabilityLoad_of_overlap {e : StoreEntry} (he : (s.cell cell).overlap (addrOf s cell auth off) 16 = some e) :
    (e.cap = none → exec (.capabilityLoad t cell auth off dst) s =
      .next ((s.tick t).modCell cell (fun c => { c with stalled := true }))) ∧
    (∀ x, e.cap = some x → exec (.capabilityLoad t cell auth off dst) s =
      .next ((s.tick t).modCell cell (fun c => { c with c := tset c.c dst x, stalled := false }))) := by
  have hover : ((s.tick t).cell cell).overlap (addrOf (s.tick t) cell auth off) 16 = some e := by
    simpa [addrOf, State.capAddr] using he
  change (_ → execCapabilityLoad t cell auth off dst s = _) ∧ ∀ x, _ → execCapabilityLoad t cell auth off dst s = _
  simp only [execCapabilityLoad, h.1, Nat.not_lt.mpr hd, State.cellAccess_of_reach h, hover, Option.any_none, Bool.not_true,
    Bool.false_eq_true, or_self, ↓reduceIte]
  exact ⟨fun hcap => by rw [hcap], fun x hcap => by rw [hcap]⟩

/-- A capability load that no buffered store overlaps delivers the granule's bytes and its hidden tag. -/
theorem exec_capabilityLoad_of_memory (hnone : (s.cell cell).overlap (addrOf s cell auth off) 16 = none)
    (hc : (s.region s.cfg m r).cacheable = false) (ho : openArea (addrOf s cell auth off) = false) :
    exec (.capabilityLoad t cell auth off dst) s = .next ((s.tick t).modCell cell (fun c => { c with
      c := tset c.c dst
        { tag := s.mem.tags.contains (addrOf s cell auth off / 16)
          cap := capOfBytes ((List.range 16).map (fun i => s.memByte (addrOf s cell auth off + i))) }
      stalled := false })) := by
  have ha : addrOf (s.tick t) cell auth off = addrOf s cell auth off := by simp [addrOf, State.capAddr]
  change execCapabilityLoad t cell auth off dst s = _
  simp only [execCapabilityLoad, h.1, Nat.not_lt.mpr hd, State.cellAccess_of_reach h, ha, hnone, hc, State.fetch_uncached ho,
    State.tick_cell, State.tick_region, State.tick_cfg, State.tick_mem, State.tick_memByte, Option.any_none, Bool.not_true,
    Bool.false_eq_true, or_self, ↓reduceIte]

end

theorem exec_registerDerive_of_runs {dst : Nat} (hr : s.cellRuns cell = true) (hd : dst ≤ 15) (src rights o len level : Nat) :
    let x : CapReg := tget (s.cell cell).c src {}
    let y : Cap := { x.cap with rights := BitVec.ofNat 16 rights, offset := o % 2 ^ 32, length := len % 2 ^ 32, level := level % 4 }
    exec (.registerDerive t cell dst src rights o len level) s =
      .next ((s.tick t).modCell cell (fun c => { c with c := tset c.c dst { tag := x.tag && derives x.cap y, cap := y } })) := by
  intro x y
  change execRegisterDerive t cell dst src rights o len level s = _
  simp only [execRegisterDerive, State.tick_cellRuns, hr, Nat.not_lt.mpr hd, State.tick_cell, Bool.not_true, Bool.false_eq_true,
    or_self, ↓reduceIte, x, y]

end

/-- A derivation that keeps the tag gains no right, no address and no privilege (R129). -/
theorem gains_nothing_of_derives {a b : Cap} (h : derives a b = true) : rightsSub b.rights a.rights = true ∧
    a.offset ≤ b.offset ∧ b.offset + b.length ≤ a.offset + a.length ∧ a.level ≤ b.level := by
  simp only [derives, Bool.and_eq_true, decide_eq_true_eq] at h
  obtain ⟨⟨⟨⟨hrights, hoff⟩, hend⟩, hlevel⟩, -⟩ := h
  exact ⟨hrights, hoff, hend, hlevel⟩

/-- The cells' capability instructions, each by the access that it makes or the register that it derives. -/
theorem cellCapabilities : cellCapabilitiesSay := by
  intro t cell auth off s s0 a
  refine ⟨fun src m r h hgood hroom => ?store, fun src m r h hbad => ?barred,
    fun dst m r hd h hnone hc ho => ⟨_, exec_capabilityLoad_of_memory hd h hnone hc ho, rfl⟩,
    fun dst m r e hd h he => exec_capabilityLoad_of_overlap hd h he, fun dst src rights o len level hruns hd => ?derive⟩
  case store =>
    have hexec := exec_capabilityStore_of_reach src h
    rw [not_badStore_iff.mpr hgood, if_neg Bool.false_ne_true, State.bufferStore_of_room (by simpa using hroom)] at hexec
    exact ⟨_, hexec, s.tick_modCell_effect t cell _⟩
  case barred => rw [exec_capabilityStore_of_reach src h, if_pos (badStore_iff.mpr hbad)]
  case derive =>
    obtain ⟨hcell, hothers, hframe⟩ := s.tick_modCell_effect t cell _
    refine ⟨_, exec_registerDerive_of_runs hruns hd src rights o len level, ?_⟩
    rw [hcell]
    refine ⟨?_, fun htag => ?_, fun k hk => tget_tset_ne _ _ _ hk.symm, hothers, hframe⟩
    · rw [tget_tset_same]
    · rw [tget_tset_same] at htag ⊢
      obtain ⟨hx, hder⟩ := Bool.and_eq_true_iff.mp htag
      exact ⟨hx, gains_nothing_of_derives hder⟩

/-- Settles O20: the host's commands and the cells' instructions. -/
theorem capabilityUse : Obligations.CapabilityUse := ⟨capabilityCommands, cellCapabilities⟩

end Sys2Proof.Machine
end

section
/-! PROOFS. What the draining of a store buffer, the completion of a queued job and the recovery after a trap may change
(R144 to R148, R203, R355, R356). -/

namespace Sys2Proof.Machine

variable (s : State)

/-! ### Stores that drain -/

/-- What a draining store may change: memory and the directory, and of the cells their store buffers and L1s. -/
structure State.Drains (s s' : State) : Prop where
  frame : s' = { s with sea := { s.sea with cells := s'.sea.cells }, mem := s'.mem, freeCtr := s'.freeCtr }
  cell : ∀ k, s'.cell k = { s.cell k with stores := (s'.cell k).stores, l1 := (s'.cell k).l1 }

theorem State.Drains.refl : s.Drains s := ⟨rfl, fun _ => rfl⟩

theorem State.Drains.trans {a b c : State} (h1 : a.Drains b) (h2 : b.Drains c) : a.Drains c where
  frame := by rw [h2.frame, h1.frame]
  cell k := by rw [h2.cell, h1.cell]

theorem State.Drains.foldl {α : Type} (f : State → α → State) (hf : ∀ (s : State) x, s.Drains (f s x)) (l : List α) :
    s.Drains (l.foldl f s) := foldl_rel State.Drains .refl (fun _ _ _ => .trans) f hf l s

theorem State.Drains.of_modCell (n : Nat) (f : Cell → Cell) (hf : ∀ c, f c = { c with stores := (f c).stores, l1 := (f c).l1 }) :
    s.Drains (s.modCell n f) where
  frame := rfl
  cell k := by
    by_cases h : k = n
    · subst h
      rw [State.cell_modCell_same]
      exact hf _
    · rw [State.cell_modCell_ne _ _ h]

theorem State.Drains.of_mem {s s' : State} (h : s' = { s with mem := s'.mem, freeCtr := s'.freeCtr }) : s.Drains s' where
  frame := by rw [h]
  cell k := by rw [h]; rfl

theorem State.setL1_drains (n line : Nat) (x : Option L1State) : s.Drains (s.setL1 n line x) := .of_modCell s n _ (fun _ => rfl)

theorem State.setLine_drains (k : Nat) (l : Line) : s.Drains (s.setLine k l) := ⟨rfl, fun _ => rfl⟩

theorem State.store_drains (a : Nat) (bs : List Byte) : s.Drains (s.store a bs) := .of_mem (by rw [State.store_frame])

theorem State.storeCap_drains (a : Nat) (r : CapReg) : s.Drains (s.storeCap a r) := by
  have hstore := s.store_drains a r.cap.bytes
  unfold State.storeCap
  generalize s.store a r.cap.bytes = s1 at *
  dsimp only
  split
  · exact hstore.trans ⟨rfl, fun _ => rfl⟩
  · exact hstore

theorem State.fillLine_drains (k line : Nat) : s.Drains (s.fillLine k line) := by
  unfold State.fillLine State.loadBytes
  dsimp only
  split
  · exact .refl s
  · split <;> exact .of_mem rfl

theorem State.ownLine_drains (n line : Nat) : s.Drains (s.ownLine n line) := by
  unfold State.ownLine
  refine (((s.fillLine_drains _ line).trans (.foldl _ _ (fun s p => ?_) _)).trans (State.setLine_drains _ _ _)).trans
    (State.setL1_drains _ n line _)
  split
  · exact .refl s
  · split
    · exact s.setL1_drains _ _ _
    · exact .refl s

theorem State.drainOne_drains (n : Nat) : s.Drains (s.drainOne n) := by
  unfold State.drainOne
  split
  · exact .refl s
  · rename_i r _
    refine (State.Drains.of_modCell s n (fun c => { c with stores := r }) (fun _ => rfl)).trans ?_
    split
    · exact (State.ownLine_drains _ _ _).trans (State.setLine_drains _ _ _)
    · split
      · exact State.storeCap_drains _ _ _
      · exact State.store_drains _ _ _

theorem State.drainAll_drains (n : Nat) : s.Drains (s.drainAll n) := .foldl s _ (fun s _ => s.drainOne_drains n) _

/-! ### A job's end (R146, R210) -/

/-- What a completion may change: the queue pairs and what signals them. -/
structure State.Completes (s s' : State) : Prop where
  frame : s' = { s with ins := s'.ins, evt := s'.evt, out := s'.out }

theorem State.Completes.trans {a b c : State} (h1 : a.Completes b) (h2 : b.Completes c) : a.Completes c where
  frame := by rw [h2.frame, h1.frame]

theorem State.Completes.of_modQp (k q : Nat) (f : Qp → Qp) : s.Completes (s.modQp k q f) := ⟨rfl⟩

theorem State.cqSignal_completes (k q : Nat) : s.Completes (s.cqSignal k q) := by
  unfold State.cqSignal
  exact (State.Completes.of_modQp s k q _).trans ⟨by rw [State.signal_frame]⟩

theorem State.cqCoalesce_completes (k q : Nat) (atOnce : Bool) : s.Completes (s.cqCoalesce k q atOnce) := by
  unfold State.cqCoalesce
  dsimp only
  split
  · exact (State.Completes.of_modQp s k q _).trans (State.cqSignal_completes _ k q)
  · exact .of_modQp s k q _

theorem State.cqWrite_completes (k q cid st type sqHead : Nat) (body : List Byte) (fault : Option Nat) (atOnce : Bool) :
    s.Completes (s.cqWrite k q cid st type sqHead body fault atOnce).2 := by
  unfold State.cqWrite
  dsimp only
  split
  · exact ⟨rfl⟩
  · split
    · exact State.Completes.trans ⟨by rw [State.xlateFault_frame]⟩ (b := s.xlateFault k _ _ true 1) ⟨rfl⟩
    · refine State.Completes.trans (b := s.dmaPhaseLast k _ _ 6) ⟨by rw [State.dmaPhaseLast_frame]⟩
        ((State.Completes.of_modQp _ k q _).trans (State.cqCoalesce_completes _ k q atOnce))

theorem State.cqComplete_completes (k q cid : Nat) (noCqe : Bool) (sqHead st : Nat) (body : List Byte) (fault : Option Nat) :
    s.Completes (s.cqComplete k q cid noCqe sqHead st body fault) := by
  unfold State.cqComplete
  dsimp only
  split
  · exact ⟨rfl⟩
  · refine (State.Completes.of_modQp s k q (fun p => { p with reserved := p.reserved - 1 })).trans ?_
    split
    · exact ⟨rfl⟩
    · exact ⟨rfl⟩
    · split
      · exact ⟨rfl⟩
      · exact State.cqWrite_completes _ _ _ _ _ _ _ _ _ _

/-- A job that ends is given back, and then completes unless nobody waits for it. -/
theorem State.endJob_completes {n : Nat} {j : Job} (h : s.job n = some j) (st : Nat) (b : List Byte) (cq : Option Nat) :
    (s.jobFreed n j).Completes (s.endJob n st b cq) := by
  have heq : s.endJob n st b cq = if j.orphan || j.discard then s.jobFreed n j
      else (s.jobFreed n j).cqComplete j.tag j.qp j.cid j.noCqe j.sqHead st b cq := by
    simp only [State.endJob, h]
    rfl
  rw [heq]
  split
  · exact ⟨rfl⟩
  · exact State.cqComplete_completes _ _ _ _ _ _ _ _ _

theorem State.cell_jobFreed (n : Nat) (j : Job) (k : Nat) :
    (s.jobFreed n j).cell k = ((s.cell k).endRequest n).withoutWork (.piece n) := by
  rw [State.cell, State.jobFreed_frame]
  exact (tget_tmap _ (fun _ => Cell.withoutWork (.piece n)) k rfl).trans
    (congrArg _ (tget_tmap _ (fun _ => Cell.endRequest n) k rfl))

theorem State.job_endJob {n : Nat} {j : Job} (h : s.job n = some j) (st : Nat) (b : List Byte) (cq : Option Nat) :
    (s.endJob n st b cq).job n = none := by
  rw [State.job, (s.endJob_completes h st b cq).frame]
  exact s.job_jobFreed n j

/-- The cell of a hub-entered request serves it no more once its job has ended (R146). -/
theorem State.request_endJob {n k : Nat} {j : Job} (h : s.job n = some j) (hk : (s.cell k).request = some n) (st : Nat)
    (b : List Byte) (cq : Option Nat) : ((s.endJob n st b cq).cell k).request = none := by
  have hcell : (s.endJob n st b cq).cell k = (s.jobFreed n j).cell k :=
    State.cell_of_cells (by rw [(s.endJob_completes h st b cq).frame]) k
  rw [hcell, State.cell_jobFreed]
  unfold Cell.withoutWork Cell.endRequest
  simp only [hk, beq_self_eq_true, ↓reduceIte]
  split <;> rfl

end Sys2Proof.Machine
end

section
/-! PROOFS. A trap's record and count stand whatever recovery follows (R145 to R148, R203). -/

namespace Sys2Proof.Machine

variable (s : State)

/-- What recovery after a trap leaves alone: the fault log and the cells' counts of traps. -/
structure State.KeepsTraps (s s' : State) : Prop where
  faults : s'.cap.faults = s.cap.faults
  seq : s'.cap.faultSeq = s.cap.faultSeq
  traps : ∀ n, s'.counter 5 n 2 = s.counter 5 n 2

theorem State.KeepsTraps.refl : s.KeepsTraps s := ⟨rfl, rfl, fun _ => rfl⟩

theorem State.KeepsTraps.trans {a b c : State} (h1 : a.KeepsTraps b) (h2 : b.KeepsTraps c) : a.KeepsTraps c :=
  ⟨h2.faults.trans h1.faults, h2.seq.trans h1.seq, fun n => (h2.traps n).trans (h1.traps n)⟩

theorem State.KeepsTraps.foldl {α : Type} (f : State → α → State) (hf : ∀ (s : State) x, s.KeepsTraps (f s x)) (l : List α) :
    s.KeepsTraps (l.foldl f s) := foldl_rel State.KeepsTraps .refl (fun _ _ _ => .trans) f hf l s

theorem State.KeepsTraps.ite {x y : State} {c : Prop} {_ : Decidable c} (hx : s.KeepsTraps x) (hy : s.KeepsTraps y) :
    s.KeepsTraps (if c then x else y) := by split <;> assumption

theorem State.KeepsTraps.of_same {s s' : State} (hc : s'.cap = s.cap) (hs : s'.stat = s.stat) : s.KeepsTraps s' :=
  ⟨by rw [hc], by rw [hc], fun n => State.counter_of_stat hs 5 n 2⟩

theorem State.KeepsTraps.of_modSea (f : Sea → Sea) : s.KeepsTraps (s.modSea f) := .of_same rfl rfl

theorem State.KeepsTraps.of_modCell (n : Nat) (f : Cell → Cell) : s.KeepsTraps (s.modCell n f) := .of_same rfl rfl

theorem State.KeepsTraps.of_modSes (lane : Nat) (f : Session → Session) : s.KeepsTraps (s.modSes lane f) := .of_same rfl rfl

theorem State.KeepsTraps.of_test (x : TestSt) : s.KeepsTraps { s with test := x } := .of_same rfl rfl

/-- A statistic of another index is no cell's count of traps. -/
theorem State.KeepsTraps.of_count (g n : Nat) {i : Nat} (hi : i ≠ 2) (h32 : i < 32) : s.KeepsTraps (s.count g n i) where
  faults := by rw [State.count_cap]
  seq := by rw [State.count_cap]
  traps m := State.counter_count_ne s (by unfold statKey; omega)

theorem State.KeepsTraps.of_raiseDev (code src data : Nat) (e : Option (Word × Word × Word)) :
    s.KeepsTraps (s.raiseDev code src data e) := .of_same (by simp) (by simp)

/-! ### Sessions (R217, R222) -/

theorem State.drainSlot_keepsTraps (n : Nat) : s.KeepsTraps (s.drainSlot n) := .ite s (.of_modSea s _) (.refl s)

theorem State.leaveCell_keepsTraps (lane : Nat) (x : Session) : s.KeepsTraps (s.leaveCell lane x true) := by
  have hleft : s.KeepsTraps ((s.dropWork (.session lane)).unwait (.session lane)) := .of_same rfl rfl
  unfold State.leaveCell
  dsimp only
  split
  · exact hleft.trans ((State.KeepsTraps.of_modSea _ _).trans (State.drainSlot_keepsTraps _ _))
  · exact hleft

theorem State.queueDecision_keepsTraps (lane type : Nat) : s.KeepsTraps (s.queueDecision lane type) := by
  unfold State.queueDecision
  split
  · exact .of_same rfl rfl
  · exact .refl s

theorem State.leaveSeg_keepsTraps (lane : Nat) : s.KeepsTraps (s.leaveSeg lane) := by
  unfold State.leaveSeg State.admitNext
  dsimp only
  split
  · split
    · split <;> exact .of_same rfl rfl
    · exact .of_same rfl rfl
  · exact .of_same rfl rfl

theorem State.countOutcome_keepsTraps (lane : Nat) {o : Outcome8} (h : o ≠ .deny) : s.KeepsTraps (s.countOutcome lane o) := by
  have hcode : outcomeCode o ≠ 2 ∧ outcomeCode o < 32 := by
    cases o with
    | deny => exact (h rfl).elim
    | accept | refer | abort => decide
  exact (State.KeepsTraps.of_count s 1 lane hcode.1 hcode.2).trans (.of_modSes _ lane _)

theorem State.fixOutcome_keepsTraps (lane : Nat) (o : Outcome8) (reason prompt : Nat) (frame : Bool) (x : Session) :
    s.KeepsTraps (s.fixOutcome lane o reason prompt frame x) := by
  unfold State.fixOutcome State.await
  exact ((s.leaveCell_keepsTraps lane x).trans (.of_modSes _ _ _)).trans (.of_modSea _ _)

/-- A session that ends otherwise than by a Deny counts no event under a trap's index. -/
theorem State.conclude_keepsTraps (lane : Nat) {o : Outcome8} (h : o ≠ .deny) (reason prompt : Nat) (frame : Bool) :
    s.KeepsTraps (s.conclude lane o reason prompt frame) := by
  have hsilent (s1 : State) : s1.KeepsTraps (((s1.countOutcome lane o).stampDecision lane).leaveSeg lane) :=
    ((s1.countOutcome_keepsTraps lane h).trans (.of_modSes _ lane _)).trans (State.leaveSeg_keepsTraps _ lane)
  have hframe (s1 : State) (type : Nat) : s1.KeepsTraps (((s1.countOutcome lane o).queueDecision lane type).leaveSeg lane) :=
    ((s1.countOutcome_keepsTraps lane h).trans (State.queueDecision_keepsTraps _ lane type)).trans (State.leaveSeg_keepsTraps _ lane)
  cases hx : s.ses lane with
  | none => simpa only [State.conclude, hx] using State.KeepsTraps.refl s
  | some x =>
    refine (s.fixOutcome_keepsTraps lane o reason prompt frame x).trans ?_
    unfold State.conclude
    rw [hx]
    cases o with
    | deny => exact (h rfl).elim
    | accept => exact .refl _
    | abort => cases frame <;> [exact hsilent _; exact hframe _ _]
    | refer => cases frame <;> [exact hsilent _; exact State.queueDecision_keepsTraps _ _ _]

theorem State.abortSes_keepsTraps (lane reason : Nat) : s.KeepsTraps (s.abortSes lane reason) := by
  unfold State.abortSes
  split
  · exact .refl s
  · split
    · exact .refl s
    · dsimp only
      split
      · exact (State.KeepsTraps.of_modSes s lane _).trans (State.conclude_keepsTraps _ lane (o := .refer) (by decide) _ _ _)
      · exact (State.KeepsTraps.of_modSes s lane _).trans (State.conclude_keepsTraps _ lane (o := .abort) (by decide) _ _ _)

/-! ### Jobs (R146) -/

theorem State.releaseSlot_keepsTraps (n : Nat) : s.KeepsTraps (s.releaseSlot n) :=
  .ite s (.refl s) ((State.KeepsTraps.of_modSea s _).trans (.of_count _ 4 0 (by decide) (by decide)))

theorem State.dropLease_keepsTraps (n : Nat) : s.KeepsTraps (s.dropLease n) := .of_modSea s _

theorem State.freeObject_keepsTraps (n : Nat) : s.KeepsTraps (s.freeObject n) := ⟨rfl, rfl, fun _ => rfl⟩

theorem State.jobFreed_keepsTraps (n : Nat) (j : Job) : s.KeepsTraps (s.jobFreed n j) := by
  have hleft : s.KeepsTraps (((s.modSea (fun a => { a with cells := tmap a.cells (fun _ => Cell.endRequest n) })).dropWork
      (.piece n)).unwait (.piece n)) := .of_same rfl rfl
  have hobjs (s1 : State) : s1.KeepsTraps ((j.objs.foldl State.freeObject s1).modSea (fun a => { a with jobs := terase a.jobs n })) :=
    (State.KeepsTraps.foldl s1 _ State.freeObject_keepsTraps j.objs).trans (.of_modSea _ _)
  unfold State.jobFreed
  dsimp only
  split
  · exact ((hleft.trans (State.dropLease_keepsTraps _ _)).trans (State.releaseSlot_keepsTraps _ _)).trans (hobjs _)
  · exact hleft.trans (hobjs _)

theorem State.endJob_keepsTraps (n st : Nat) (b : List Byte) (cq : Option Nat) : s.KeepsTraps (s.endJob n st b cq) := by
  cases h : s.job n with
  | none => simpa only [State.endJob, h] using State.KeepsTraps.refl s
  | some j =>
    have hend := (s.endJob_completes h st b cq).frame
    exact (s.jobFreed_keepsTraps n j).trans (.of_same (by rw [hend]) (by rw [hend]))

/-! ### Recovery (R203) -/

theorem State.endL2_keepsTraps (island : Nat) : s.KeepsTraps (s.endL2 island) := by
  unfold State.endL2
  dsimp only
  refine ((State.KeepsTraps.of_test s _).trans (.of_modSea _ _)).trans (.foldl _ _ (fun s1 p => ?_) _)
  split
  · exact .of_modCell s1 _ _
  · exact .refl s1

theorem State.endWork_keepsTraps (st : Nat) (cq : Option Nat) (w : Work) : s.KeepsTraps (s.endWork st cq w) := by
  unfold State.endWork
  split
  · exact s.abortSes_keepsTraps _ _
  · exact s.endJob_keepsTraps _ _ _ _
  · dsimp only
    split
    · exact (State.KeepsTraps.of_test s _).trans (State.endL2_keepsTraps _ _)
    · split
      · exact (State.KeepsTraps.of_test s _).trans (.of_modCell _ _ _)
      · exact .of_test s _
  · exact .refl s

theorem State.restoreLock_keepsTraps (l : Lease) : s.KeepsTraps (s.restoreLock l) := by
  unfold State.restoreLock
  split
  · exact .of_same (by rw [State.store_frame]) (by rw [State.store_frame])
  · exact .of_same (by rw [State.store_frame]) (by rw [State.store_frame])
  · exact .refl s

theorem State.dropLoan_keepsTraps (n : Nat) : s.KeepsTraps (s.dropLoan n) := by
  unfold State.dropLoan
  split <;> exact .of_same rfl rfl

theorem State.fill_keepsTraps (c : Caste) (need : Nat) : s.KeepsTraps (s.fill c need).2 := by
  have hmove (s : State) (n : Nat) (c : Caste) : s.KeepsTraps (s.moveTo n c) := .of_same rfl rfl
  unfold State.fill
  split
  · exact .refl s
  · split
    · exact (State.KeepsTraps.foldl s _ (fun s n => hmove s n _) _).trans
        (.foldl _ _ (fun s n => (hmove s n _).trans (hmove _ _ _)) _)
    · exact .foldl s _ (fun s n => hmove s n c) _

theorem State.refillOne_keepsTraps (c : Caste) : s.KeepsTraps (s.refillOne c) := by
  have hfill := s.fill_keepsTraps c (s.cfg.casteMin (casteNum c) - s.casteSize c)
  unfold State.refillOne
  split
  · exact .refl s
  · dsimp only
    split
    · exact hfill.trans (.of_modSea _ _)
    · split
      · exact hfill
      · exact (hfill.trans (.of_modSea _ _)).trans (.of_raiseDev _ _ _ _ _)

theorem State.auditRequest_keepsTraps (die : Nat) : s.KeepsTraps (s.auditRequest die) := by
  unfold State.auditRequest
  dsimp only
  split <;> exact .of_same rfl rfl

theorem State.audioLost_keepsTraps (n : Nat) : s.KeepsTraps (s.audioLost n) := .ite s (.of_modSea s _) (.refl s)

theorem State.dropLines_keepsTraps (n : Nat) : s.KeepsTraps (s.dropLines n) := .of_same rfl rfl

theorem State.giveBack_keepsTraps (p : Nat × Lease) :
    s.KeepsTraps ((if p.2.slot.isNone then s.restoreLock p.2 else s).dropLease p.1) := by
  split
  · exact (s.restoreLock_keepsTraps _).trans (State.dropLease_keepsTraps _ _)
  · exact s.dropLease_keepsTraps _

theorem State.cellFault_keepsTraps (n st : Nat) (cq : Option Nat) : s.KeepsTraps (s.cellFault n st cq) := by
  have haudit (s1 : State) (k : Nat) : s1.KeepsTraps (if s1.holdsCredits k then s1.auditRequest (dieOf k) else s1) := by
    split
    · exact s1.auditRequest_keepsTraps _
    · exact .refl s1
  unfold State.cellFault
  dsimp only
  split
  · exact .refl s
  · exact ((((((((s.audioLost_keepsTraps n).trans (.of_modCell _ n _)).trans (.of_modCell _ n _)).trans
      (State.dropLoan_keepsTraps _ n)).trans (State.dropLines_keepsTraps _ n)).trans
      (.foldl _ _ State.giveBack_keepsTraps _)).trans (.foldl _ _ (fun s1 w => s1.endWork_keepsTraps st cq w) _)).trans
      (haudit _ _)).trans (State.refillOne_keepsTraps _ _)

end Sys2Proof.Machine
end

section
/-! PROOFS. Traps (R145 to R148), and the entry and the return of call gates (R141 to R146). -/

namespace Sys2Proof.Machine

variable (s : State)

/-! ### What a trap records -/

/-- A trap's record stands first in the fault log under the next number, and the trap is counted on its cell (R148). -/
structure State.LogsTrap (s s' : State) (n cause : Nat) : Prop where
  record : ∃ r, s'.cap.faults = (r :: s.cap.faults).take 256 ∧ r.seq = s.cap.faultSeq ∧ r.cell = n ∧ r.cause = cause ∧
    r.handling = trapFaults cause (s.cell n).level
  seq : s'.cap.faultSeq = (s.cap.faultSeq + 1) % 2 ^ 32
  counted : s'.counter 5 n 2 = min statMax (s.counter 5 n 2 + 1)

/-- Recovery leaves a trap's record and count as they are. -/
theorem State.LogsTrap.trans {a b c : State} {n cause : Nat} (h1 : a.LogsTrap b n cause) (h2 : b.KeepsTraps c) :
    a.LogsTrap c n cause where
  record := by rw [h2.faults]; exact h1.record
  seq := h2.seq.trans h1.seq
  counted := (h2.traps n).trans h1.counted

/-- Stores that drain before a trap change nothing that its record speaks of. -/
theorem State.LogsTrap.of_drains {a b c : State} {n cause : Nat} (h1 : a.Drains b) (h2 : b.LogsTrap c n cause) :
    a.LogsTrap c n cause := by
  have hcap : b.cap = a.cap := by rw [h1.frame]
  have hlevel : (b.cell n).level = (a.cell n).level := by rw [h1.cell n]
  have hcount : b.counter 5 n 2 = a.counter 5 n 2 := State.counter_of_stat (by rw [h1.frame]) 5 n 2
  obtain ⟨hr, hs, hc⟩ := h2
  rw [hcap, hlevel] at hr
  rw [hcap] at hs
  rw [hcount] at hc
  exact ⟨hr, hs, hc⟩

theorem State.faultRecord_logs (n cause : Nat) (i : TrapInfo) : s.LogsTrap ((s.count 5 n 2).faultRecord n cause i) n cause := by
  have hcell : (s.count 5 n 2).cell n = s.cell n := State.cell_of_cells (by simp) n
  unfold State.faultRecord
  dsimp only
  refine ⟨⟨_, by simp only [State.raise_cap, State.count_cap]; rfl, rfl, rfl, rfl, by rw [hcell]⟩,
    by simp only [State.raise_cap, State.count_cap], ?_⟩
  exact (State.counter_of_stat (by simp only [State.raise_stat]) 5 n 2).trans (s.counter_count_same 5 n 2)

/-- Whatever recovery a trap asks for, its record and its count stand. -/
theorem State.trap_logs (n cause : Nat) (i : TrapInfo) (cq : Option Nat) : s.LogsTrap (s.trap n cause i cq) n cause := by
  have hlogs := (s.drainAll n).faultRecord_logs n cause i
  refine .of_drains (s.drainAll_drains n) ?_
  unfold State.trap
  dsimp only
  split
  · exact (hlogs.trans (.of_raiseDev _ _ _ _ _)).trans (State.cellFault_keepsTraps _ _ _ _)
  · have hcleared := hlogs.trans (.of_modCell _ n (fun c => { c.clearRegs with scratchUsed := false }))
    split
    · exact hcleared.trans (State.endJob_keepsTraps _ _ _ _ _)
    · exact (hcleared.trans (.of_modCell _ n _)).trans (State.endWork_keepsTraps _ _ _ _)
    · exact hcleared

theorem exec_cellTrap_of_runs {s : State} {cell cause : Nat} (hr : s.cellRuns cell = true) (h1 : 1 ≤ cause) (h2 : cause ≤ 0x11)
    (t : Nat) (info : TrapInfo) (io : HostIo) :
    exec (.cellTrap t cell cause info io) s = .next ((s.tick t).trap cell cause info io.cqFault) :=
  if_pos ⟨(State.tick_cellRuns ..).trans hr, h1, h2⟩

/-! ### Registers that a gate keeps and clears -/

theorem tget_keepRegs {α : Type} (t : Tbl α) (f : Nat → Bool) (k : Nat) (d : α) :
    tget (keepRegs t f) k d = if f k then tget t k d else d := by
  unfold tget keepRegs
  rw [tfind_filter_number]
  split <;> rfl

theorem tget_keepRegs_le {α : Type} (t : Tbl α) {m k : Nat} (h : k ≤ m) (d : α) :
    tget (keepRegs t (fun k => decide (k ≤ m))) k d = tget t k d := by
  rw [tget_keepRegs, if_pos (decide_eq_true h)]

theorem tget_keepRegs_gt {α : Type} (t : Tbl α) {m k : Nat} (h : m < k) (d : α) :
    tget (keepRegs t (fun k => decide (k ≤ m))) k d = d := by
  rw [tget_keepRegs, decide_eq_false (Nat.not_le.mpr h)]
  rfl

/-! ### Entry (R141, R142) -/

/-- The frame that the gate entered puts on the caller's stack. -/
def Cell.callerFrame (c : Cell) (g : Gate) (ret serial : Nat) : Frame :=
  { c15 := tget c.c 15 {}, level := c.level, ret, gate := g.number, serial }

/-- The cell inside the gate it has entered, with the caller's frame on its stack. -/
def Cell.enterGate (g : Gate) (f : Frame) (c : Cell) : Cell :=
  { c with
    frames := f :: c.frames, level := g.level, point := g.entryPoint
    c := tset (tset (keepRegs c.c (fun k => decide (k ≤ 2))) 14 (returnCap g.level f.serial)) 15 g.stack
    gr := keepRegs c.gr (fun k => decide (k ≤ 3)) }

section
variable {s : State} {t cell : Nat} (hr : s.cellRuns cell = true)
include hr

theorem exec_callGateEntry_of_ok {reg : Nat} {g : Gate}
    (hg : (s.tick t).workerEntry (s.cell cell) (tget (s.cell cell).c reg {}) = .ok g) (ret : Nat) :
    exec (.callGateEntry t cell reg ret) s = .next
      ({ s.tick t with cap := { s.cap with frameSerial := s.cap.frameSerial + 1 } }.modCell cell
        (Cell.enterGate g ((s.cell cell).callerFrame g ret s.cap.frameSerial))) := by
  change execCallGateEntry t cell reg ret s = _
  simp only [execCallGateEntry, State.tick_cellRuns, hr, State.tick_cell, hg, State.tick_cap, Bool.not_true, Bool.false_eq_true,
    ↓reduceIte]
  rfl

theorem exec_callGateEntry_of_error {reg cause detail : Nat}
    (hg : (s.tick t).workerEntry (s.cell cell) (tget (s.cell cell).c reg {}) = .error (cause, detail)) (ret : Nat) :
    ∃ g, exec (.callGateEntry t cell reg ret) s = .next ((s.tick t).trap cell cause { reg, gate := g, detail } none) := by
  apply Exists.intro
  change execCallGateEntry t cell reg ret s = _
  simp only [execCallGateEntry, State.tick_cellRuns, hr, State.tick_cell, hg, Bool.not_true, Bool.false_eq_true, ↓reduceIte]
  rfl

/-! ### Return (R143, R146) -/

/-- The cell back in the caller of its innermost frame. -/
def Cell.leaveGate (f : Frame) (c : Cell) : Cell :=
  let c0 : CapReg := tget c.c 0 {}
  let c14 : CapReg := tget c.c 14 {}
  { c with
    frames := c.frames.drop 1, level := f.level, point := f.ret
    c := tset (tset (tset [] 0 { c0 with tag := c0.tag && decide (f.level ≤ c0.cap.level) }) 14 c14) 15 f.c15
    gr := keepRegs c.gr (fun k => decide (k ≤ 3)) }

theorem exec_callGateReturn_of_some {reg : Nat} {f : Frame} (hf : (s.cell cell).returnFrame reg = some f) :
    exec (.callGateReturn t cell reg) s = .next ((s.tick t).modCell cell (Cell.leaveGate f)) := by
  change execCallGateReturn t cell reg s = _
  simp only [execCallGateReturn, State.tick_cellRuns, hr, State.tick_cell, hf, Bool.not_true, Bool.false_eq_true, ↓reduceIte]
  rfl

theorem exec_callGateReturn_of_none {reg : Nat} (hf : (s.cell cell).returnFrame reg = none) :
    ∃ g, exec (.callGateReturn t cell reg) s = .next ((s.tick t).trap cell 0x0A { reg, gate := g } none) := by
  apply Exists.intro
  change execCallGateReturn t cell reg s = _
  simp only [execCallGateReturn, State.tick_cellRuns, hr, State.tick_cell, hf, Bool.not_true, Bool.false_eq_true, ↓reduceIte]
  rfl

end

theorem exec_hubRequestReturn_of_request {s : State} {cell n : Nat} (hn : (s.cell cell).request = some n)
    (hf : (s.cell cell).frames = []) (t : Nat) (body : List Byte) (io : HostIo) :
    exec (.hubRequestReturn t cell body io) s = .next (((s.tick t).drainAll cell).endJob n (fld (tget (s.cell cell).gr 0 0) 15 0)
      (body.take 224) io.cqFault) := by
  change execHubRequestReturn t cell body io s = _
  simp only [execHubRequestReturn, State.tick_cell, hn, hf, List.isEmpty_nil, ↓reduceIte]

/-- Stores that drain leave every job of the table as it is. -/
theorem State.Drains.job {a b : State} (h : a.Drains b) (n : Nat) : b.job n = a.job n := by
  rw [State.job, h.frame]
  rfl

theorem State.Drains.request {a b : State} (h : a.Drains b) (k : Nat) : (b.cell k).request = (a.cell k).request := by
  rw [h.cell k]

/-! ### What the two changes of the cell say -/

theorem Cell.enterGate_kept (g : Gate) (f : Frame) (c : Cell) {k : Nat} (h : k ≤ 2) :
    (tget (c.enterGate g f).c k {} : CapReg) = tget c.c k {} := by
  unfold Cell.enterGate
  rw [tget_tset_ne _ _ _ (by omega), tget_tset_ne _ _ _ (by omega), tget_keepRegs_le _ h]

theorem Cell.enterGate_cleared (g : Gate) (f : Frame) (c : Cell) {k : Nat} (h3 : 3 ≤ k) (h13 : k ≤ 13) :
    (tget (c.enterGate g f).c k {} : CapReg) = {} := by
  unfold Cell.enterGate
  rw [tget_tset_ne _ _ _ (by omega), tget_tset_ne _ _ _ (by omega), tget_keepRegs_gt _ h3]

theorem Cell.leaveGate_cleared (f : Frame) (c : Cell) {k : Nat} (h1 : 1 ≤ k) (h13 : k ≤ 13) :
    (tget (c.leaveGate f).c k {} : CapReg) = {} := by
  unfold Cell.leaveGate
  rw [tget_tset_ne _ _ _ (by omega), tget_tset_ne _ _ _ (by omega), tget_tset_ne _ _ _ (by omega)]
  rfl

/-- c0 stays a capability over the return only if its level reaches the caller's (R143). -/
theorem Cell.leaveGate_level {f : Frame} {c : Cell} (h : (tget (c.leaveGate f).c 0 {} : CapReg).tag = true) :
    f.level ≤ (tget c.c 0 {} : CapReg).cap.level := by
  unfold Cell.leaveGate at h
  rw [tget_tset_ne _ _ _ (by decide), tget_tset_ne _ _ _ (by decide), tget_tset_same] at h
  exact of_decide_eq_true (Bool.and_eq_true_iff.mp h).2

/-! ### The obligation -/

/-- Settles O21: the entry and the return are one change of the cell each; a trap is its record and its count, which the recovery
that follows leaves alone. -/
theorem callGates : Obligations.CallGates := by
  intro t cell s s0 c
  refine ⟨fun reg ret g hr hg => ?_, fun reg ret cause detail hr hg => exec_callGateEntry_of_error hr hg ret,
    fun f fs hr hfs hf => ?_, fun reg hr hf => exec_callGateReturn_of_none hr hf, fun body io n j hn hf hj => ?_,
    fun cause info io hr _ h1 h2 => ?_⟩
  · have hcell := State.cell_modCell_same { s0 with cap := { s.cap with frameSerial := s.cap.frameSerial + 1 } } cell
      (Cell.enterGate g (c.callerFrame g ret s.cap.frameSerial))
    have hcells (k : Nat) : State.cell { s0 with cap := { s.cap with frameSerial := s.cap.frameSerial + 1 } } k = s.cell k :=
      s.tick_cell t k
    refine ⟨_, exec_callGateEntry_of_ok hr hg ret, ?_⟩
    rw [hcell, hcells]
    refine ⟨rfl, rfl, rfl, tget_tset_same _ _ _ _, fun k hk => c.enterGate_kept g _ hk,
      fun k h3 h13 => c.enterGate_cleared g _ h3 h13, fun k hk => tget_keepRegs_gt c.gr hk 0, fun k hk => tget_keepRegs_le c.gr hk 0,
      fun k hk => (State.cell_modCell_ne _ _ hk).trans (hcells k), ?_⟩
    simp [s0, State.modCell, State.modSea]
  · obtain ⟨hcell, hothers, hframe⟩ := s.tick_modCell_effect t cell (Cell.leaveGate f)
    refine ⟨_, exec_callGateReturn_of_some hr hf, ?_⟩
    rw [hcell]
    refine ⟨congrArg (List.drop 1) hfs, rfl, rfl, tget_tset_same _ _ _ _, 
      fun k h1 h13 => c.leaveGate_cleared f h1 h13, Cell.leaveGate_level, hothers, hframe⟩
  · have hdrains := s0.drainAll_drains cell
    have hjob : (s0.drainAll cell).job n = some j := ((hdrains.job n).trans (s.tick_job t n)).trans hj
    have hreq : ((s0.drainAll cell).cell cell).request = some n :=
      ((hdrains.request cell).trans (congrArg Cell.request (s.tick_cell t cell))).trans hn
    exact ⟨_, exec_hubRequestReturn_of_request hn hf t body io, rfl, State.job_endJob _ hjob _ _ _,
      State.request_endJob _ hjob hreq _ _ _⟩
  · obtain ⟨⟨r, hfaults, hseq, hcell, hcause, hhandling⟩, hnext, hcounted⟩ := s0.trap_logs cell cause info io.cqFault
    simp only [s0, State.tick_cap, State.tick_cell, State.tick_counter] at hfaults hseq hhandling hnext hcounted
    exact ⟨_, r, exec_cellTrap_of_runs hr h1 h2 t info io, hfaults, hseq, hcell, hcause, hhandling, hnext, hcounted⟩

end Sys2Proof.Machine
end

section
/-! PROOFS. The turns of a segment: the decision that leaves, the turn that fails and is repeated, and the unit given up (R158, R161,
R164, R168, R175, R183). -/

namespace Sys2Proof.Machine

section
variable (s : State)

/-! ### The choice of a turn (R164) -/

theorem State.pruneAssigns_of_nil {seg : Nat} (h : (s.seg seg).assigns = []) : s.pruneAssigns seg = s := by
  simp [State.pruneAssigns, h]

theorem State.turnChoice_of_decision {seg : Nat} {d : Decision} {ds : List Decision} (hr : (s.seg seg).retryDecision = none)
    (hd : (s.seg seg).decisions = d :: ds) : s.turnChoice seg = some (.decision d, false) := by
  simp [State.turnChoice, hr, hd]

/-- A new frame to a unit takes its next SEQ and is outstanding (R158). -/
theorem State.sendUnit_new (lane type : Nat) (b : List Byte) : s.sendUnit lane type b false =
    (s.modUnit lane (fun u =>
      { u with outstanding := some { addr := laneAddr lane, type, seq := (s.unit lane).txSeq, payload := b }
               txSeq := (u.txSeq + 1) % 256 })).emitOut
      (.lane (laneSeg lane) (laneAddr lane) type (s.unit lane).txSeq false b) := rfl

/-- A decision's turn begun and its frame sent, before what follows the frame. -/
def State.decisionTurn (seg : Nat) (d : Decision) : State :=
  ((s.modSeg seg (fun g => { g with turn := some (.decision d), retrying := false })).sendUnit d.lane d.type d.payload false).modSeg
    seg (fun g => { g with decisions := g.decisions.drop 1 })

theorem State.seg_decisionTurn (seg : Nat) (d : Decision) : (s.decisionTurn seg d).seg seg =
    { s.seg seg with turn := some (.decision d), retrying := false, decisions := (s.seg seg).decisions.drop 1 } := by
  simp [State.decisionTurn, State.sendUnit_new]

theorem State.unit_decisionTurn (seg : Nat) (d : Decision) : (s.decisionTurn seg d).unit d.lane =
    { s.unit d.lane with
      outstanding := some { addr := laneAddr d.lane, type := d.type, seq := (s.unit d.lane).txSeq, payload := d.payload }
      txSeq := ((s.unit d.lane).txSeq + 1) % 256 } := by
  simp [State.decisionTurn, State.sendUnit_new]

theorem State.decisionTurn_sent (seg : Nat) (d : Decision) : Say.sent (s.decisionTurn seg d) (laneSeg d.lane) (laneAddr d.lane)
    d.type (s.unit d.lane).txSeq false d.payload := List.mem_cons_self

/-! ### What follows a decision frame (R183, R310, R419) -/

theorem State.addPrompt_frame (p : Prompt) : s.addPrompt p = { s with aud := (s.addPrompt p).aud } := by
  unfold State.addPrompt
  dsimp only
  split <;> rfl

theorem State.schedulePrompt_frame (lane tenant prompt ver : Nat) : s.schedulePrompt lane tenant prompt ver =
    { s with aud := (s.schedulePrompt lane tenant prompt ver).aud, stat := (s.schedulePrompt lane tenant prompt ver).stat } := by
  unfold State.schedulePrompt
  dsimp only
  split
  · rfl
  · split
    · rw [State.count_frame]
    · split
      · rw [State.count_frame]
      · rw [State.addPrompt_frame]

theorem State.closeSes_frame (lane : Nat) :
    s.closeSes lane = { s with fare := (s.closeSes lane).fare, man := (s.closeSes lane).man } := by
  unfold State.closeSes
  split
  · split <;> rfl
  · rfl

theorem State.closeSes_lane (lane : Nat) : (s.closeSes lane).lane = s.lane := by rw [State.closeSes_frame]

theorem State.decisions_modSeg (n k : Nat) (f : Seg → Seg) (hf : ∀ g, (f g).decisions = g.decisions) :
    ((s.modSeg n f).seg k).decisions = (s.seg k).decisions := by
  by_cases h : k = n
  · subst h
    simp [hf]
  · simp [s.seg_modSeg_ne f h]

/-- A lane that leaves its segment's sessions, and the tap admitted in its place, leave the decisions waiting in place. -/
theorem State.decisions_leaveSeg (lane k : Nat) : ((s.leaveSeg lane).seg k).decisions = (s.seg k).decisions := by
  have hadmit (s : State) (l : Nat) : ((s.admitTap l).seg k).decisions = (s.seg k).decisions := by
    unfold State.admitTap
    exact State.decisions_modSeg _ _ _ _ (by simp)
  have hnext (s : State) (g : Nat) : ((s.admitNext g).seg k).decisions = (s.seg k).decisions := by
    unfold State.admitNext
    split
    · split
      · exact (hadmit _ _).trans (State.decisions_modSeg _ _ _ _ (by simp))
      · rfl
    · rfl
  unfold State.leaveSeg
  dsimp only
  split
  · exact (hnext _ _).trans (State.decisions_modSeg _ _ _ _ (by simp))
  · exact State.decisions_modSeg _ _ _ _ (by simp)

/-- The decision frame's first leaving ends its session's part on the segment, after steps that touch no lane. -/
theorem State.decisionSent_eq (d : Decision) : s.decisionSent d = s ∨
    ∃ s1 : State, s1.lane = s.lane ∧ s1.out = s.out ∧ s.decisionSent d = (s1.leaveSeg d.lane).closeSes d.lane := by
  unfold State.decisionSent
  split
  · exact .inl rfl
  · refine .inr ⟨_, ?_, ?_, rfl⟩
    all_goals
      rw [State.schedulePrompt_frame]
      split
      · split <;> simp [State.countOutcome, State.stampDecision]
      · rfl

/-- What follows a decision frame leaves the units, the frames sent, the turns and the decisions waiting in place. -/
theorem State.decisionSent_keeps (d : Decision) :
    (s.decisionSent d).lane.units = s.lane.units ∧ (s.decisionSent d).out = s.out ∧
      ∀ k, ((s.decisionSent d).seg k).turn = (s.seg k).turn ∧ ((s.decisionSent d).seg k).decisions = (s.seg k).decisions := by
  obtain h | ⟨s1, hlane, hout, h⟩ := s.decisionSent_eq d
  · rw [h]
    exact ⟨rfl, rfl, fun _ => ⟨rfl, rfl⟩⟩
  · have hleft := s1.leaveSeg_tidies d.lane
    have hseg (k : Nat) : (((s1.leaveSeg d.lane).closeSes d.lane).seg k) = (s1.leaveSeg d.lane).seg k :=
      State.seg_of_lane (State.closeSes_lane _ _) k
    rw [h]
    refine ⟨?_, ?_, fun k => ⟨?_, ?_⟩⟩
    · rw [State.closeSes_lane, hleft.frame, hlane]
    · rw [State.closeSes_frame, hleft.frame, hout]
    · rw [hseg, hleft.turn, State.seg_of_lane hlane]
    · rw [hseg, State.decisions_leaveSeg, State.seg_of_lane hlane]

/-! ### A turn that fails (R168) -/

/-- The turn under way with a unit over and counted as failed. -/
def State.turnLost (seg lane : Nat) : State :=
  ((s.count 2 seg 6).modSeg seg (fun g => { g with turn := none, retrying := false })).modUnit lane
    (fun u => { u with fails := u.fails + 1 })

@[simp] theorem State.seg_turnLost (seg lane : Nat) :
    (s.turnLost seg lane).seg seg = { s.seg seg with turn := none, retrying := false } := by
  simp [State.turnLost]

theorem State.seg_turnLost_ne {seg k : Nat} (lane : Nat) (h : k ≠ seg) : (s.turnLost seg lane).seg k = s.seg k := by
  simp [State.turnLost, State.seg_modSeg_ne _ _ h]

@[simp] theorem State.unit_turnLost (seg lane : Nat) :
    (s.turnLost seg lane).unit lane = { s.unit lane with fails := (s.unit lane).fails + 1 } := by
  simp [State.turnLost]

theorem State.unit_turnLost_ne (seg : Nat) {lane k : Nat} (h : k ≠ lane) : (s.turnLost seg lane).unit k = s.unit k := by
  simp [State.turnLost, State.unit_modUnit_ne _ _ h]

theorem State.counter_turnLost (seg lane : Nat) :
    (s.turnLost seg lane).counter 2 seg 6 = min statMax (s.counter 2 seg 6 + 1) := s.counter_count_same 2 seg 6

theorem State.turnLost_frame (seg lane : Nat) :
    s.turnLost seg lane = { s with lane := (s.turnLost seg lane).lane, stat := (s.turnLost seg lane).stat } := by
  unfold State.turnLost
  rw [State.count_frame]
  rfl

theorem State.failTurn_of_poll {seg lane : Nat} (ht : (s.seg seg).turn = some (.poll lane)) (hf : (s.unit lane).fails < 3) :
    s.failTurn seg = (s.turnLost seg lane).modSeg seg (fun g => { g with retryOpen := some (.poll lane) }) := by
  have hfew : (s.unit lane).fails + 1 < 4 := by omega
  simp [State.failTurn, ht, turnLane, hfew, State.turnLost]

theorem State.failTurn_of_decision {seg : Nat} {d : Decision} (ht : (s.seg seg).turn = some (.decision d))
    (hf : (s.unit d.lane).fails < 3) :
    s.failTurn seg = (s.turnLost seg d.lane).modSeg seg (fun g => { g with retryDecision := some (.decision d) }) := by
  have hfew : (s.unit d.lane).fails + 1 < 4 := by omega
  simp [State.failTurn, ht, turnLane, hfew, State.turnLost]

theorem State.failTurn_of_fourth {seg lane : Nat} (ht : (s.seg seg).turn = some (.poll lane)) (hf : (s.unit lane).fails = 3) :
    s.failTurn seg = (s.turnLost seg lane).unitAbsent lane := by
  simp [State.failTurn, ht, turnLane, hf, State.turnLost]

/-! ### A unit given up (R168) -/

theorem State.endReq_lane (cls num st : Nat) (r : Option TestResult) : (s.endReq cls num st r).lane = s.lane := by
  have hunmark (s : State) : (s.unmark cls num).lane = s.lane := by
    unfold State.unmark
    split <;> rfl
  have hticket (s : State) (k : Nat) (ws : List Word) : (s.ticketDone k st ws).lane = s.lane := by
    unfold State.ticketDone
    split
    · rfl
    · dsimp only
      split
      · rw [State.notice_frame, State.raise_lane]
      · rw [State.raise_lane]
  have hmark (s : State) (k : Nat) : (s.markReq k).lane = s.lane := by
    unfold State.markReq
    split
    · rfl
    · simp only [apply_ite State.lane, State.modTest_lane, State.modSea_lane, ite_self]
  have hnext (s : State) : s.markNext.lane = s.lane :=
    foldl_rel (fun a b : State => b.lane = a.lane) (fun _ => rfl) (fun _ _ _ h1 h2 => h2.trans h1) State.markReq hmark _ s
  unfold State.endReq
  split
  · rfl
  · dsimp only
    rw [hnext]
    split
    · rw [hticket, hunmark]
      rfl
    · rw [hunmark]
      rfl

theorem State.testResult_lane (cls num d : Nat) (r : TestResult) : (s.testResult cls num r d).lane = s.lane :=
  (s.recordTest cls num r d).endReq_lane cls num 0 (some r)

theorem State.testFailedFree_lane (cls num : Nat) : (s.testFailedFree cls num).lane = s.lane := by
  unfold State.testFailedFree State.testFailed
  exact State.raiseDev_lane _ _ _ _ _

/-- A lane's ECHO closed changes of Lane Link only that the lane's unit has none due (R435). -/
theorem State.echoClose_lane (lane : Nat) (bad : Bool) : (s.echoClose lane bad).lane = s.lane ∨
    (s.echoClose lane bad).lane = (s.modUnit lane (fun u => { u with echo := none })).lane := by
  unfold State.echoClose
  split
  · exact .inl rfl
  · refine .inr ?_
    simp only [apply_ite State.lane, State.testFailedFree_lane, State.testResult_lane, State.modTest_lane, ite_self]

/-- What giving a unit up leaves in place: every turn, and every unit but for its ECHO. -/
structure State.KeepsTurns (s s' : State) : Prop where
  turn : ∀ g, (s'.seg g).turn = (s.seg g).turn
  unit : ∀ l, s'.unit l = { s.unit l with echo := (s'.unit l).echo }

theorem State.KeepsTurns.trans {a b c : State} (h1 : a.KeepsTurns b) (h2 : b.KeepsTurns c) : a.KeepsTurns c where
  turn g := (h2.turn g).trans (h1.turn g)
  unit l := by rw [h2.unit l, h1.unit l]

theorem State.KeepsTurns.of_lane {s s' : State} (h : s'.lane = s.lane) : s.KeepsTurns s' where
  turn g := by rw [State.seg_of_lane h]
  unit l := by rw [State.unit_of_lane h]

theorem State.KeepsTurns.of_modSeg (n : Nat) (f : Seg → Seg) (hf : ∀ g, (f g).turn = g.turn) : s.KeepsTurns (s.modSeg n f) where
  turn := (State.TidiesUp.of_modSeg s n f hf).turn
  unit _ := rfl

theorem State.EndsSession.keepsTurns {s s' : State} (h : s.EndsSession s') : s.KeepsTurns s' where
  turn := h.turn
  unit l := by
    have hunit : s'.unit l = s.unit l := by rw [h.frame]; rfl
    rw [hunit]

theorem State.echoClose_keepsTurns (lane : Nat) (bad : Bool) : s.KeepsTurns (s.echoClose lane bad) := by
  obtain h | h := s.echoClose_lane lane bad
  · exact .of_lane h
  · refine .trans (b := s.modUnit lane (fun u => { u with echo := none })) ⟨fun _ => rfl, fun l => ?_⟩ (.of_lane h)
    by_cases hl : l = lane
    · subst hl
      simp
    · rw [s.unit_modUnit_ne _ hl]

theorem State.noDecision_keepsTurns (lane : Nat) : s.KeepsTurns (s.noDecision lane) := by
  unfold State.noDecision
  split
  · exact .of_lane rfl
  · dsimp only
    split
    · exact .of_modSeg s _ _ (fun _ => rfl)
    · split
      · exact .of_modSeg s _ _ (fun _ => rfl)
      · refine .trans ?_ (.of_lane (State.closeSes_lane _ _))
        refine .trans ?_ (State.leaveSeg_tidies _ _).keepsTurns
        refine .trans ?_ (State.stampDecision_tidies _ _).keepsTurns
        refine .trans ?_ (State.EndsSession.of_modSes _ _ _).keepsTurns
        split
        · exact .of_modSeg s _ _ (fun _ => rfl)
        · refine .trans ?_ (State.countOutcome_tidies _ _ _).keepsTurns
          exact .of_modSeg s _ _ (fun _ => rfl)

/-- A unit is ABSENT with nothing outstanding, and every turn stands as it did (R168). -/
theorem State.unitAbsent_effect (lane : Nat) : ((s.unitAbsent lane).unit lane).state = .absent ∧
    ((s.unitAbsent lane).unit lane).outstanding = none ∧ ∀ g, ((s.unitAbsent lane).seg g).turn = (s.seg g).turn := by
  have hkeeps : (s.modUnit lane (fun u => { u with state := .absent, changed := s.sec32, outstanding := none })).KeepsTurns
      (s.unitAbsent lane) := by
    unfold State.unitAbsent
    refine .trans (.of_lane (State.raiseDev_lane _ 0x0501 (srcLane lane) 4 none)) ?_
    refine .trans (State.echoClose_keepsTurns _ lane false) ?_
    refine .trans (State.abortSes_ends _ lane 0x38).keepsTurns ?_
    exact .trans (State.noDecision_keepsTurns _ lane) (.of_modSeg _ _ _ (fun _ => rfl))
  refine ⟨?_, ?_, fun g => hkeeps.turn g⟩ <;> rw [hkeeps.unit, State.unit_modUnit_same]

end

/-! ### TURN_START, TURN_FAILED and TRANSMISSION_DROPPED (R161, R164, R168, R175) -/

section
variable {t seg : Nat} {s : State}

theorem exec_turnStart_of_decision {d : Decision} {ds : List Decision} (hr : s.segRuns seg = true)
    (ht : (s.seg seg).turn = none) (ha : (s.seg seg).assigns = []) (hd : (s.seg seg).retryDecision = none)
    (hds : (s.seg seg).decisions = d :: ds) : exec (.turnStart t seg false) s =
      .next (((s.tick t).decisionTurn seg d).decisionSent d) := by
  have hprune := (s.tick t).pruneAssigns_of_nil (seg := seg) (by simpa using ha)
  have hchoice := (s.tick t).turnChoice_of_decision (seg := seg) (by simpa using hd) (by simpa using hds)
  simp [exec, execTurnStart, hr, ht, hprune, hchoice, State.turnSend, State.decisionTurn]

theorem exec_turnStart_of_none (hr : s.segRuns seg = true) (ht : (s.seg seg).turn = none) (ha : (s.seg seg).assigns = [])
    (hc : (s.tick t).turnChoice seg = none) (mismatch : Bool) : exec (.turnStart t seg mismatch) s =
      .next ((s.tick t).modSeg seg (fun g => { g with turn := none, retrying := false })) := by
  have hprune := (s.tick t).pruneAssigns_of_nil (seg := seg) (by simpa using ha)
  simp [exec, execTurnStart, hr, ht, hprune, hc]

theorem exec_turnStart_of_stopped (hr : s.segRuns seg = false) (mismatch : Bool) :
    exec (.turnStart t seg mismatch) s = .next (s.tick t) := by
  simp [exec, execTurnStart, hr]

theorem exec_turnFailed_of_poll {lane : Nat} (ht : (s.seg seg).turn = some (.poll lane)) :
    exec (.turnFailed t seg) s = .next ((s.tick t).failTurn seg) := by
  simp [exec, execTurnFailed, ht]

theorem exec_turnFailed_of_decision {d : Decision} (ht : (s.seg seg).turn = some (.decision d)) :
    exec (.turnFailed t seg) s = .next ((s.tick t).failTurn seg) := by
  simp [exec, execTurnFailed, ht]

/-- A code violation in a transmission of a known unit is counted for that unit (R175). -/
def State.blamed (s : State) (seg : Nat) (raw : RawLine) : State :=
  match raw.cause, raw.addr with
  | .code, some a =>
    if 1 ≤ a ∧ a ≤ 16 then s.modUnit (laneOf seg a) (fun u => { u with violations := u.violations + 1 }) else s
  | _, _ => s

theorem State.blamed_frame (s : State) (seg : Nat) (raw : RawLine) :
    s.blamed seg raw = { s with lane := { s.lane with units := (s.blamed seg raw).lane.units } } := by
  unfold State.blamed
  split
  · split <;> rfl
  · rfl

theorem State.blamed_of_code (s : State) (seg : Nat) {raw : RawLine} {a : Nat} (hc : raw.cause = .code) (ha : raw.addr = some a)
    (h1 : 1 ≤ a) (h16 : a ≤ 16) :
    s.blamed seg raw = s.modUnit (laneOf seg a) (fun u => { u with violations := u.violations + 1 }) := by
  simp [State.blamed, hc, ha, h1, h16]

theorem exec_transmissionDropped (hs : seg ≤ 7) (raw : RawLine) : exec (.transmissionDropped t seg raw) s =
    .next (((s.tick t).count 2 seg (if raw.cause = .crc then 0 else 1)).blamed seg raw) := by
  obtain ⟨cause, addr⟩ := raw
  change execTransmissionDropped t seg _ s = _
  unfold execTransmissionDropped State.blamed
  rw [if_neg (Nat.not_lt.mpr hs)]
  cases cause with
  | code =>
    cases addr with
    | none => rfl
    | some a => exact (apply_ite Host.Outcome.next _ _ _).symm
  | len | crc | header => rfl

end

/-- The turns of a segment: the decision that leaves, no turn, the turn that fails, and the transmission that is dropped. -/
theorem laneTurns : Say.laneTurnsSay := by
  intro t seg s s0 g
  refine ⟨?decision, fun _ hr ht ha hc => exec_turnStart_of_none hr ht ha hc _, fun _ hr => exec_turnStart_of_stopped hr _, ?polled,
    ?decided, ?fourth, ?dropped⟩
  case decision =>
    intro d ds hr ht ha hd hds hl _
    obtain ⟨hunits, hout, hsegs⟩ := (s0.decisionTurn seg d).decisionSent_keeps d
    obtain ⟨hturn, hdecisions⟩ := hsegs seg
    have hunit : ((s0.decisionTurn seg d).decisionSent d).unit d.lane = (s0.decisionTurn seg d).unit d.lane := by
      rw [State.unit, hunits, State.unit]
    have hsent := s0.decisionTurn_sent seg d
    rw [s.tick_unit t d.lane, hl] at hsent
    refine ⟨_, exec_turnStart_of_decision hr ht ha hd hds, ?_, ?_, sent_of_out hout hsent, ?_, ?_⟩
    · rw [hturn, State.seg_decisionTurn]
    · rw [hdecisions, State.seg_decisionTurn, s.tick_seg t seg]
      exact congrArg (List.drop 1) hds
    · rw [hunit, State.unit_decisionTurn, s.tick_unit t d.lane]
    · rw [hunit, State.unit_decisionTurn, s.tick_unit t d.lane]
  case polled =>
    intro lane ht hf
    have hfail := s0.failTurn_of_poll (seg := seg) (lane := lane) (by simpa [s0] using ht) (by simpa [s0] using hf)
    refine ⟨_, (exec_turnFailed_of_poll ht).trans (congrArg Host.Outcome.next hfail), ?_, ?_, fun k hk => ?_, fun k hk => ?_, ?_, ?_⟩
    · simp [s0, g]
    · simp [s0]
    · simp [State.unit_turnLost_ne _ _ hk, s0]
    · simp [State.seg_modSeg_ne _ _ hk, State.seg_turnLost_ne _ _ hk, s0]
    · exact (s0.counter_turnLost seg lane).trans (by simp [s0])
    · rw [State.turnLost_frame]
      rfl
  case decided =>
    intro d ht hf
    have hfail := s0.failTurn_of_decision (seg := seg) (d := d) (by simpa [s0] using ht) (by simpa [s0] using hf)
    refine ⟨_, (exec_turnFailed_of_decision ht).trans (congrArg Host.Outcome.next hfail), ?_, ?_⟩
    · simp [s0, g]
    · rw [State.turnLost_frame]
      rfl
  case fourth =>
    intro lane ht hf
    have hfail := s0.failTurn_of_fourth (seg := seg) (lane := lane) (by simpa [s0] using ht) (by simpa [s0] using hf)
    obtain ⟨hstate, hfree, hturn⟩ := (s0.turnLost seg lane).unitAbsent_effect lane
    exact ⟨_, (exec_turnFailed_of_poll ht).trans (congrArg Host.Outcome.next hfail), hstate, hfree, by rw [hturn, State.seg_turnLost]⟩
  case dropped =>
    intro raw hs
    refine ⟨_, exec_transmissionDropped hs raw, ?_, fun a hc ha h1 h16 => ?_, fun k => ?_, ?_⟩
    · rw [State.blamed_frame]
      exact (s0.counter_count_same 2 seg _).trans (by simp [s0])
    · rw [State.blamed_of_code _ _ hc ha h1 h16]
      simp
    · rw [State.blamed_frame]
      exact (s0.seg_count k 2 seg _).trans (s.tick_seg t k)
    · rw [State.blamed_frame, State.count_frame]

end Sys2Proof.Machine
end

section
/-! PROOFS. The roll call: its answers, its garbled slots and the start of a cycle (R170 to R175, R548). -/

namespace Sys2Proof.Machine

section
variable (s : State)

/-! ### The lanes of a segment (R15) -/

theorem mem_segLanes {seg l : Nat} : l ∈ segLanes seg ↔ 16 * seg ≤ l ∧ l < 16 * seg + 16 := by
  simp only [segLanes, List.mem_map, List.mem_range]
  exact ⟨fun ⟨a, ha, h⟩ => by omega, fun h => ⟨l - 16 * seg, by omega, by omega⟩⟩

theorem segLanes_nodup (seg : Nat) : (segLanes seg).Nodup :=
  List.Nodup.map (fun _ _ h => Nat.add_left_cancel h) List.nodup_range

/-- One change of each unit of a list that names none twice. -/
theorem State.unit_foldl_modUnit (f : LaneUnit → LaneUnit) {ls : List Nat} (hn : ls.Nodup) (k : Nat) :
    (ls.foldl (fun s l => s.modUnit l f) s).unit k = if k ∈ ls then f (s.unit k) else s.unit k := by
  induction ls generalizing s with
  | nil => rfl
  | cons l ls ih =>
    obtain ⟨hl, hls⟩ := List.nodup_cons.mp hn
    rw [List.foldl_cons, ih _ hls]
    by_cases h : k = l
    · subst h
      simp [hl]
    · simp [h, State.unit_modUnit_ne _ _ h]

/-! ### A cycle starts (R170, R174, R175) -/

/-- A unit's glitch width adapted to the violations of the cycle that ends (R175). -/
def LaneUnit.adapted (least : Nat) (u : LaneUnit) : LaneUnit :=
  { u with violations := 0
           g := if 8 < u.violations then min 3 (u.g + 1) else if u.violations = 0 then max least (u.g - 1) else u.g }

/-- Every unit of a segment adapted. -/
def State.adaptUnits (seg : Nat) : State :=
  (segLanes seg).foldl (fun s' l => s'.modUnit l (LaneUnit.adapted (s.devN 0x0501))) s

/-- The cycles without an answer, once the cycle that ends is among them (R174). -/
def Seg.quietNow (g : Seg) : Nat := if g.answered then 0 else min 65535 (g.quiet + 1)

/-- A segment without a PRESENT unit is LONELY after four cycles without an answer (R174). -/
def State.lonelyNow (seg : Nat) : Bool :=
  decide (4 ≤ (s.seg seg).quietNow) && !(segLanes seg).any (fun l => ((s.adaptUnits seg).unit l).state == .present)

/-- The cycle that ends judged: its units adapted, its answers weighed, and LONELY reported once. -/
def State.judgeCycle (seg : Nat) : State :=
  let g := s.seg seg
  let s' := (s.adaptUnits seg).modSeg seg (fun g' => { g' with quiet := g.quietNow, lonely := g'.lonely || s.lonelyNow seg })
  if s.lonelyNow seg && !g.lonely then s'.raiseDev 0x0506 (srcSegment seg) 0 else s'

/-- A segment's state as a cycle begins with these probes. -/
def Seg.begin (probes : List Nat) (g : Seg) : Seg :=
  { g with cycled := true, answered := false, steps := [(0, 0)], closed := [], probes }

/-- The cycle before, if there was one, is judged; then the new one begins with a probe for each ABSENT unit. -/
theorem State.startCycle_eq (seg : Nat) :
    let s' := if (s.seg seg).cycled then s.judgeCycle seg else s
    s.startCycle seg = s'.modSeg seg (Seg.begin ((segLanes seg).filter (fun l => (s'.unit l).state == .absent))) := rfl

theorem State.unit_adaptUnits {seg l : Nat} (h : l ∈ segLanes seg) :
    (s.adaptUnits seg).unit l = (s.unit l).adapted (s.devN 0x0501) := by
  rw [State.adaptUnits, s.unit_foldl_modUnit _ (segLanes_nodup seg), if_pos h]

theorem State.seg_adaptUnits (seg k : Nat) : (s.adaptUnits seg).seg k = s.seg k := by
  unfold State.adaptUnits
  generalize LaneUnit.adapted (s.devN 0x0501) = f
  exact foldl_rel (fun a b : State => b.seg k = a.seg k) (fun _ => rfl) (fun _ _ _ h1 h2 => h2.trans h1)
    (fun s' l => s'.modUnit l f) (fun s' l => s'.seg_modUnit l k f) _ s

theorem State.judgeCycle_lane (seg : Nat) : (s.judgeCycle seg).lane = ((s.adaptUnits seg).modSeg seg
    (fun g' => { g' with quiet := (s.seg seg).quietNow, lonely := g'.lonely || s.lonelyNow seg })).lane := by
  unfold State.judgeCycle
  dsimp only
  split
  · exact State.raiseDev_lane _ _ _ _ _
  · rfl

theorem State.unit_judgeCycle {seg l : Nat} (h : l ∈ segLanes seg) :
    (s.judgeCycle seg).unit l = (s.unit l).adapted (s.devN 0x0501) := by
  rw [State.unit_of_lane (s.judgeCycle_lane seg), State.unit_modSeg, s.unit_adaptUnits h]

theorem State.seg_judgeCycle_ne {seg k : Nat} (h : k ≠ seg) : (s.judgeCycle seg).seg k = s.seg k := by
  rw [State.seg_of_lane (s.judgeCycle_lane seg), State.seg_modSeg_ne _ _ h, State.seg_adaptUnits]

theorem State.lonely_judgeCycle (seg : Nat) :
    ((s.judgeCycle seg).seg seg).lonely = ((s.seg seg).lonely || s.lonelyNow seg) := by
  rw [State.seg_of_lane (s.judgeCycle_lane seg), State.seg_modSeg_same, State.seg_adaptUnits]

/-- Four cycles without an answer on a segment without a PRESENT unit make it LONELY (R174). -/
theorem State.lonelyNow_of_silence {seg : Nat} (ha : (s.seg seg).answered = false) (hq : 3 ≤ (s.seg seg).quiet)
    (hu : ∀ l, 16 * seg ≤ l → l < 16 * seg + 16 → (s.unit l).state ≠ .present) : s.lonelyNow seg = true := by
  have hnone : (segLanes seg).any (fun l => ((s.adaptUnits seg).unit l).state == .present) = false := by
    refine List.any_eq_false.mpr fun l hl => ?_
    obtain ⟨h1, h16⟩ := mem_segLanes.mp hl
    rw [s.unit_adaptUnits hl]
    simpa [LaneUnit.adapted] using hu l h1 h16
  have hquiet : 4 ≤ (s.seg seg).quietNow := by
    simp only [Seg.quietNow, ha, Bool.false_eq_true, ↓reduceIte]
    omega
  simp [State.lonelyNow, hnone, hquiet]

/-- The state in which a cycle begins has each unit's address state as before. -/
theorem State.unit_state_judged {seg l : Nat} (h : l ∈ segLanes seg) :
    ((if (s.seg seg).cycled then s.judgeCycle seg else s).unit l).state = (s.unit l).state := by
  split
  · rw [s.unit_judgeCycle h]
    rfl
  · rfl

theorem State.mem_probes_startCycle (seg l : Nat) :
    l ∈ ((s.startCycle seg).seg seg).probes ↔ 16 * seg ≤ l ∧ l < 16 * seg + 16 ∧ (s.unit l).state = .absent := by
  rw [s.startCycle_eq, State.seg_modSeg_same, ← and_assoc, ← mem_segLanes]
  refine List.mem_filter.trans (and_congr_right fun hl => ?_)
  rw [s.unit_state_judged hl, beq_iff_eq]

theorem State.seg_startCycle_ne {seg k : Nat} (h : k ≠ seg) : (s.startCycle seg).seg k = s.seg k := by
  rw [s.startCycle_eq, State.seg_modSeg_ne _ _ h]
  split
  · exact s.seg_judgeCycle_ne h
  · rfl

theorem State.unit_startCycle_of_cycled {seg l : Nat} (hc : (s.seg seg).cycled = true) (h : l ∈ segLanes seg) :
    (s.startCycle seg).unit l = (s.unit l).adapted (s.devN 0x0501) := by
  rw [s.startCycle_eq, if_pos hc, State.unit_modSeg, s.unit_judgeCycle h]

theorem State.lonely_startCycle_of_cycled {seg : Nat} (hc : (s.seg seg).cycled = true) :
    ((s.startCycle seg).seg seg).lonely = ((s.seg seg).lonely || s.lonelyNow seg) := by
  rw [s.startCycle_eq, if_pos hc, State.seg_modSeg_same]
  exact s.lonely_judgeCycle seg

/-! ### Answers and garbled slots (R171, R172, R174) -/

theorem State.heard_seg (seg : Nat) :
    (s.heard seg).seg seg = { s.seg seg with answered := true, lonely := false, quiet := 0 } := s.seg_modSeg_same seg _

@[simp] theorem State.unit_heard (seg k : Nat) : (s.heard seg).unit k = s.unit k := rfl

/-- A clash reported leaves the units and the ASSIGNs alone and keeps the identity (R172). -/
theorem State.clash_effect (seg lane : Nat) (id : Word64) : id ∈ ((s.clash seg lane id).seg seg).clashes ∧
    ((s.clash seg lane id).seg seg).assigns = (s.seg seg).assigns ∧ ∀ k, (s.clash seg lane id).unit k = s.unit k := by
  unfold State.clash
  split
  · next h => exact ⟨List.contains_iff_mem.mp h, rfl, fun _ => rfl⟩
  · simp

theorem State.garble_of_shallow (seg slot : Nat) {plen : Nat} (pfx : Word64) (h : plen < 62) : s.garble seg plen pfx slot =
    (s.count 2 seg 3).modSeg seg (fun g => { g with steps := g.steps ++ [(plen + 2, deeper plen pfx slot)] }) :=
  if_neg (by omega)

theorem State.counter_identityEvent (code src g n i : Nat) (id old : Word64) :
    (s.identityEvent code src id old).counter g n i = s.counter g n i :=
  State.counter_of_stat (by rw [State.identityEvent_frame]) g n i

/-- At depth 62 a garbled slot shows an identity clash, and its branch is closed (R171). -/
theorem State.garble_of_deepest (seg slot : Nat) (pfx : Word64) : s.garble seg 62 pfx slot =
    (((s.count 2 seg 3).count 2 seg 5).modSeg seg (fun g => { g with closed := deeper 62 pfx slot :: g.closed })).identityEvent 0x0505
      (srcSegment seg) pfx 0 := rfl

end

/-! ### HERE_RECEIVED, HERE_GARBLE and ROLLCALL_CYCLE -/

/-- The identity of a HERE. -/
def hereId (f : LaneFrame) : Word64 := BitVec.ofNat 64 (beNat (f.payload.take 8))

/-- The ASSIGN that a HERE draws (R172). -/
def hereAssign (f : LaneFrame) : Assign :=
  { identity := hereId f, address := byteAt f.payload 8, caps := byteAt f.payload 9, position := byteAt f.payload 8 }

section
variable {t seg slot plen : Nat} {pfx : Word64} {s : State} (hs : seg ≤ 7) (hslot : slot ≤ 3)
  (ht : (s.seg seg).turn = some (.rollcall plen pfx))
include hs hslot ht

theorem exec_hereGarble : exec (.hereGarble t seg slot) s = .next ((s.tick t).garble seg plen pfx slot) := by
  have hnamed : ¬(7 < seg ∨ 3 < slot) := by omega
  simp [exec, execHereGarble, ht, hnamed]

variable {f : LaneFrame}

theorem exec_hereReceived_of_bad (hok : hereOk f.payload = false) :
    exec (.hereReceived t seg slot f) s = .next ((s.tick t).count 2 seg 8) := by
  have hnamed : ¬(7 < seg ∨ 3 < slot) := by omega
  simp [exec, execHereReceived, ht, hnamed, hok]

variable (hok : hereOk f.payload = true)
  (hpfx : (hereId f).toNat >>> (62 - plen) = (deeper plen pfx slot).toNat >>> (62 - plen))
include hok hpfx

/-- A HERE whose identity has its slot's prefix: the segment hears it, and then its position decides. -/
theorem exec_hereReceived_of_prefix : exec (.hereReceived t seg slot f) s =
    .next (if byteAt f.payload 8 = 0 then ((s.tick t).heard seg).count 2 seg 4
      else if (s.unit (laneOf seg (byteAt f.payload 8))).state = .present ∧
          (s.unit (laneOf seg (byteAt f.payload 8))).identity ≠ hereId f then
        ((s.tick t).heard seg).clash seg (laneOf seg (byteAt f.payload 8)) (hereId f)
      else if (s.seg seg).assigns.any (fun x => x.identity == hereId f && x.address == byteAt f.payload 8) then (s.tick t).heard seg
      else ((s.tick t).heard seg).modSeg seg (fun g => { g with assigns := g.assigns ++ [hereAssign f] })) := by
  have hnamed : ¬(7 < seg ∨ 3 < slot) := by omega
  change execHereReceived t seg slot f s = _
  unfold execHereReceived
  simp only [State.tick_seg, ht, if_neg hnamed, hok, Bool.not_true, Bool.false_eq_true, ↓reduceIte]
  refine (if_neg (not_not.mpr hpfx)).trans ?_
  simp only [State.unit_heard, State.tick_unit, State.heard_seg, State.tick_seg]
  rw [apply_ite Host.Outcome.next, apply_ite Host.Outcome.next, apply_ite Host.Outcome.next]
  rfl

end

/-- The roll call: each HERE by its position, each garbled slot by its depth, and the start of a cycle. -/
theorem rollCall : Say.rollCallSay := by
  intro t seg slot s hs hslot s0 g
  refine ⟨fun f plen pfx ht => ⟨fun hok => ?bad, fun hok hpfx => ⟨fun hpos => ?unplaced, fun hpos hu hnew => ?placed,
    fun hpos hp hid => ?clash⟩⟩, fun plen pfx ht hlen => ?garbled, fun pfx ht => ?deepest, fun hr => ?cycle, fun hr => ?stopped⟩
  case bad =>
    exact ⟨_, exec_hereReceived_of_bad hs hslot ht hok, (s0.counter_count_same 2 seg 8).trans (by simp [s0]), s0.count_frame 2 seg 8⟩
  case unplaced =>
    refine ⟨_, exec_hereReceived_of_prefix hs hslot ht hok hpfx, ?_⟩
    rw [if_pos hpos]
    refine ⟨(State.counter_count_same _ 2 seg 4).trans ?_, ?_, ?_⟩
    · exact congrArg (fun n => min statMax (n + 1)) (s.tick_counter t 2 seg 4)
    · simp [State.heard_seg, g]
    · rw [State.count_frame]
      rfl
  case placed =>
    have hfree : ¬((s.unit (laneOf seg (byteAt f.payload 8))).state = .present ∧
        (s.unit (laneOf seg (byteAt f.payload 8))).identity ≠ hereId f) := fun ⟨hp, hid⟩ => hu.elim (· hp) hid
    have hnone : ¬(s.seg seg).assigns.any (fun x => x.identity == hereId f && x.address == byteAt f.payload 8) = true :=
      Bool.eq_false_iff.mp hnew
    refine ⟨_, exec_hereReceived_of_prefix hs hslot ht hok hpfx, ?_⟩
    rw [if_neg hpos, if_neg hfree, if_neg hnone]
    refine ⟨?_, ?_, fun k => ?_, rfl⟩
    · simp [State.heard_seg, g, hereAssign, hereId]
    · simp [State.heard_seg]
    · simp
  case clash =>
    refine ⟨_, exec_hereReceived_of_prefix hs hslot ht hok hpfx, ?_⟩
    rw [if_neg hpos, if_pos ⟨hp, hid⟩]
    obtain ⟨hkept, hassigns, hunits⟩ := (s0.heard seg).clash_effect seg (laneOf seg (byteAt f.payload 8)) (hereId f)
    refine ⟨hkept, hassigns.trans ?_, fun k => (hunits k).trans (s.tick_unit t k)⟩
    simp [State.heard_seg, s0, g]
  case garbled =>
    refine ⟨_, exec_hereGarble hs hslot ht, ?_⟩
    rw [State.garble_of_shallow _ _ _ _ hlen]
    refine ⟨?_, ?_, fun k hk => ?_, fun k => ?_, ?_⟩
    · simp [g]
    · exact (s0.counter_count_same 2 seg 3).trans (by simp [s0])
    · simp [State.seg_modSeg_ne _ _ hk]
    · simp
    · rw [State.count_frame]
      rfl
  case deepest =>
    refine ⟨_, exec_hereGarble hs hslot ht, ?_⟩
    rw [State.garble_of_deepest]
    refine ⟨?_, ?_, ?_⟩
    · simp [g]
    · simp
    · refine (State.counter_identityEvent _ _ _ _ _ _ _ _).trans ((State.counter_count_same _ 2 seg 5).trans ?_)
      rw [State.counter_count_ne _ (by unfold statKey; omega), State.tick_counter]
  case cycle =>
    have hexec : exec (.rollcallCycle t seg) s = .next (s0.startCycle seg) := by simp [exec, execRollcallCycle, hr, s0]
    have hbegun := s0.startCycle_eq seg
    refine ⟨_, hexec, ?_, ?_, ?_, ?_, fun l => ?_, fun hc l h1 h16 => ?_, fun hc ha hq hu => ?_, fun k hk => ?_, ?_⟩
    · simp [hbegun, Seg.begin]
    · simp [hbegun, Seg.begin]
    · simp [hbegun, Seg.begin]
    · simp [hbegun, Seg.begin]
    · simpa [s0] using s0.mem_probes_startCycle seg l
    · rw [s0.unit_startCycle_of_cycled (by simpa [s0] using hc) (mem_segLanes.mpr ⟨h1, h16⟩)]
      simp [LaneUnit.adapted, s0]
    · rw [s0.lonely_startCycle_of_cycled (by simpa [s0] using hc), s0.lonelyNow_of_silence (by simpa [s0] using ha)
        (by simpa [s0] using hq) (by simpa [s0] using hu), Bool.or_true]
    · rw [s0.seg_startCycle_ne hk, s.tick_seg]
    · rw [(s0.startCycle_resumes seg).frame]
  case stopped => simp [exec, execRollcallCycle, hr, s0]

/-- Settles O33: the turns that begin and fail, and the roll call's answers, garbled slots and cycles. -/
theorem turnsAndRollCall : Obligations.TurnsAndRollCall := ⟨laneTurns, rollCall⟩

end Sys2Proof.Machine
end

section
/-! PROOFS. A session's card exchanges: the APDU that a cell queues, and the ends that the limits set (R154, R166, R167, R220, R222). -/

namespace Sys2Proof.Machine

section
variable (s : State)

/-! ### What an exchange does to its slot's lease (R201, R202, R222) -/

theorem State.renew_frame (n : Nat) :
    s.renew n = { s with sea := { s.sea with leases := (s.renew n).sea.leases } } := by
  unfold State.renew
  split
  · dsimp only
    split <;> rfl
  · rfl

/-- The lease of a session's slot renewed by an exchange; the first write marks the change beside it as prepared. -/
def State.leaseUsed (x : Session) (first : Bool) : State :=
  match x.slot with
  | some n => if first then (s.renew n).intent n .prepared else s.renew n
  | none => s

theorem State.leaseUsed_frame (x : Session) (first : Bool) :
    s.leaseUsed x first = { s with sea := { s.sea with leases := (s.leaseUsed x first).sea.leases } } := by
  unfold State.leaseUsed
  split
  · split
    · rw [State.renew_frame]
      rfl
    · exact s.renew_frame _
  · rfl

@[simp] theorem State.ses_leaseUsed (x : Session) (first : Bool) (l : Nat) : (s.leaseUsed x first).ses l = s.ses l :=
  State.ses_of_fare (by rw [State.leaseUsed_frame]) l

/-! ### Ends of a session in an exchange (R154, R217, R220) -/

/-- A session with no card write prepared ends as an Abort where Table 8-1 gives no reason (R154). -/
theorem State.abortFree_ended {lane : Nat} {x : Session} (h : s.ses lane = some x) (hp : x.prepared = false) :
    ∃ r, Say.ended (s.abortFree lane) lane = some (some .abort, r) := by
  simp only [State.abortFree, h, hp, Bool.false_eq_true, ↓reduceIte, State.free]
  refine ⟨_, State.conclude_ended _ (x := { x with fare := 0, valueAfter := 0 }) ?_ _ _ _ _⟩
  rw [State.ses_modSes_same]
  exact congrArg _ h

/-- An exchange that fails ends a session without a mark with the failure's reason (R220). -/
theorem State.exchangeFailed_ended {lane : Nat} {x : Session} (h : s.ses lane = some x) (ho : x.outcome = none)
    (hp : x.prepared = false) (hm : x.abortMark = none) (reason : Nat) :
    Say.ended (s.exchangeFailed lane reason) lane = some (some .abort, reason) := by
  simp only [State.exchangeFailed, h, hm, Option.getD_none]
  exact State.abortSes_ended _ (x := { x with awaiting := none }) (by rw [State.ses_modSes_same, h]; rfl) ho hp reason

end

/-! ### APDU_COMMAND_QUEUE (R154, R220, R222) -/

section
variable {t lane : Nat} {kind : ExKind} {apdu : List Byte} {s : State} {x : Session} (hx : s.ses lane = some x)
  (ho : x.outcome = none) (hc : x.cell.isSome = true) (hq : x.queued = none) (ha : x.awaiting = none) (hb : x.barcode = false)
  (hk : kind ≠ .select) (hfor : (s.tick t).apduFor lane x kind apdu = some apdu)
include hx ho hc hq ha hb hk hfor

/-- An APDU that a bound session's cell may queue: the LANE capability and the exchange limit decide. -/
theorem exec_apduCommandQueue : exec (.apduCommandQueue t lane kind apdu) s =
    .next (if s.capValid x.laneCap = false then (s.tick t).abortFree lane
      else if ((s.cfgOf x.cfg).param 0 0x0603).toNat < x.xseq + 1 then (s.tick t).abortSes lane 0x32
      else ((s.tick t).leaseUsed x ((kind == .write || kind == .commit) && !x.prepared)).modSes lane (fun y =>
        { y with queued := some (kind, apdu), xseq := y.xseq + 1
                 prepared := y.prepared || ((kind == .write || kind == .commit) && !x.prepared) })) := by
  have hmay : (x.cell.isNone || x.outcome.isSome || x.queued.isSome || x.awaiting.isSome || x.barcode) = false := by
    rw [ho, hq, ha, hb, Option.isNone_eq_false_iff.mpr hc]
    rfl
  change execApduCommandQueue t lane kind apdu s = _
  unfold execApduCommandQueue
  simp only [State.tick_ses, hx, hmay, Bool.false_eq_true, ↓reduceIte, hk, false_and, hfor, State.tick_capValid, State.tick_cfgOf,
    Bool.not_eq_true']
  rw [apply_ite Host.Outcome.next, apply_ite Host.Outcome.next]
  unfold State.leaseUsed
  cases x.slot <;> rfl

end

theorem exec_exchangeTimeout_of_due {t lane q : Nat} {k : ExKind} {since : Nat} {s : State} {x : Session}
    (hx : s.ses lane = some x) (ha : x.awaiting = some (q, k, some since))
    (hd : since + ((s.cfgOf x.cfg).param 0 0x0602).toNat * 1000000 ≤ (s.tick t).now) :
    exec (.exchangeTimeout t lane) s = .next ((s.tick t).exchangeFailed lane 0x30) := by
  simp [exec, execExchangeTimeout, hx, ha, hd]

theorem exec_barcodeTransferTimeout {t lane : Nat} {s : State} {x : Session} (hx : s.ses lane = some x)
    (hp : x.phase = .transfer) (ho : x.outcome = none) : exec (.barcodeTransferTimeout t lane) s =
      .next (if x.budget ≤ (s.tick t).now + 57000000 then (s.tick t).abortSes lane 0x3A else s.tick t) := by
  simp only [exec, execBarcodeTransferTimeout, State.tick_ses, hx, hp, ho, true_and]
  exact (apply_ite Host.Outcome.next _ _ _).symm

/-- Settles O35: the APDU queued or refused by the capability and the limit, and the two timeouts. -/
theorem cardExchanges : Obligations.CardExchanges := by
  intro t lane s x hx ho s0
  have hx0 : s0.ses lane = some x := (s.tick_ses t lane).trans hx
  refine ⟨fun kind apdu hc hq ha hb hfor hk => ?apdu, fun q k since ha hd hp hm => ?exchange, fun hp hprep hd => ?transfer,
    fun hp hd => ?waits⟩
  case apdu =>
    have hexec := exec_apduCommandQueue hx ho hc hq ha hb hk hfor
    refine ⟨fun hv hroom => ?queued, fun hv hfull hp => ?limit, fun hv hp => ?barred⟩
    case queued =>
      rw [if_neg (by simp [hv]), if_neg (Nat.not_lt.mpr hroom)] at hexec
      refine ⟨_, hexec, ?_, fun k hk => ?_, ?_⟩
      · simp [hx]
      · simp [State.ses_modSes_ne _ _ hk]
      · rw [State.leaseUsed_frame]
        simp [State.modSes, State.modFare, s0]
    case limit =>
      rw [if_neg (by simp [hv]), if_pos hfull] at hexec
      exact ⟨_, hexec, s0.abortSes_ended hx0 ho hp 0x32⟩
    case barred =>
      rw [if_pos hv] at hexec
      obtain ⟨r, hended⟩ := s0.abortFree_ended hx0 hp
      refine ⟨_, hexec, ?_⟩
      simpa [Say.ended] using congrArg (Option.map Prod.fst) hended
  case exchange => exact ⟨_, exec_exchangeTimeout_of_due hx ha hd, s0.exchangeFailed_ended hx0 ho hp hm 0x30⟩
  case transfer =>
    have hexec := exec_barcodeTransferTimeout (t := t) hx hp ho
    rw [if_pos hd] at hexec
    exact ⟨_, hexec, s0.abortSes_ended hx0 ho hprep 0x3A⟩
  case waits => exact (exec_barcodeTransferTimeout hx hp ho).trans (congrArg Host.Outcome.next (if_neg (Nat.not_le.mpr hd)))

end Sys2Proof.Machine
end

section
/-! PROOFS. The lane and the Drover commands (Tables 6-14 and 7-5, R173, R181, R207, R212). -/

namespace Sys2Proof.Machine
open Sys2Proof.Say

section
variable {s : State} {tag : Nat} {a : List Word} (io : HostIo)

/-! ### What the lane commands' work answers (Table 6-14) -/

/-- LANE_BIND's binding. -/
def bindingOf (a : List Word) : LaneBind :=
  { tenants := onesOf 32 (arg a 2).toNat, failOpen := bit (arg a 3) 0, openTime := fld (arg a 3) 15 8 }

theorem laneBindWork_of_tenants (h5 : 5 ≤ fld (arg a 3) 15 8) (h100 : fld (arg a 3) 15 8 ≤ 100)
    (hne : onesOf 32 (arg a 2).toNat ≠ []) (hen : ∀ n ∈ onesOf 32 (arg a 2).toNat, s.enabled n = true) :
    laneBindWork tag io a s = s.stage tag 0x0501 (.laneBind (fld (arg a 1) 6 0) (bindingOf a)) := by
  have hopen : ¬(fld (arg a 3) 15 8 < 5 ∨ 100 < fld (arg a 3) 15 8) := by omega
  have htenants : ¬((onesOf 32 (arg a 2).toNat).isEmpty = true ∨
      (onesOf 32 (arg a 2).toNat).any (fun n => !s.enabled n) = true) := by
    simpa [hne] using hen
  exact (if_neg hopen).trans (if_neg htenants)

theorem laneUnbindWork_of_open {p : Nat × Manifest} (hp : s.openMan tag = some p) : laneUnbindWork tag io a s =
    if tmem (s.resulting p.2).lanes (fld (arg a 1) 6 0) = true then s.stage tag 0x0502 (.laneUnbind (fld (arg a 1) 6 0))
    else .status 0x0502 s := by
  unfold laneUnbindWork
  simp only [hp]
  cases tmem (s.resulting p.2).lanes (fld (arg a 1) 6 0) <;> rfl

theorem laneStatusWork_of_mine (h : isPf tag = true) : laneStatusWork tag io a s =
    let lane := fld (arg a 1) 6 0
    let u := s.unit lane
    let g := s.seg (laneSeg lane)
    .ok [ wd (addrCode u.state + b2n (tmem s.cfg.lanes lane) * 4 + b2n (g.active.contains lane) * 8 +
            b2n (g.queue.contains lane) * 16 + u.lastNil * 256 + u.g * 2 ^ 16)
        , wd u.identity.toNat, wd (u.identity.toNat / 2 ^ 32), wd (u.caps + u.position * 256), wd u.changed ] s := by
  simp [laneStatusWork, h, tmem]

theorem laneStatusWork_of_unbound (h : isPf tag = false) (hb : tmem s.cfg.lanes (fld (arg a 1) 6 0) = false) :
    laneStatusWork tag io a s = .status 0x0502 s := by
  have hnone : tfind s.cfg.lanes (fld (arg a 1) 6 0) = none := by simpa [tmem] using hb
  simp [laneStatusWork, h, hnone]

/-- A segment that runs is enabled, and no emergency is asserted (R36, R182). -/
theorem State.segRuns_enabled {seg : Nat} (h : s.segRuns seg = true) : s.cfg.segs.contains seg = true ∧ s.lane.emg = false := by
  simp only [State.segRuns, Bool.and_eq_true, Bool.not_eq_true'] at h
  obtain ⟨⟨⟨-, hseg⟩, hemg⟩, -⟩ := h
  exact ⟨hseg, hemg⟩

theorem laneRollcallWork_of_running (h : s.segRuns (fld (arg a 1) 2 0) = true) :
    laneRollcallWork tag io a s = .ok [] (s.startCycle (fld (arg a 1) 2 0)) := by
  obtain ⟨hseg, hemg⟩ := State.segRuns_enabled h
  simp only [laneRollcallWork, hemg, hseg, h, Bool.not_true, Bool.false_eq_true, ↓reduceIte]

theorem laneRollcallWork_of_disabled (he : s.lane.emg = false) (h : s.cfg.segs.contains (fld (arg a 1) 2 0) = false) :
    laneRollcallWork tag io a s = .status 0x0506 s := by
  simp only [laneRollcallWork, he, h, Bool.not_false, Bool.false_eq_true, ↓reduceIte]

/-- An ABSENT unit forgotten: VACANT, with nothing kept but its glitch width, and no probe due (R181). -/
def State.forgotten (s : State) (lane : Nat) : State :=
  (s.modUnit lane (fun u => { ({} : LaneUnit) with g := u.g, changed := s.sec32 })).modSeg (laneSeg lane)
    (fun g => { g with probes := g.probes.filter (· ≠ lane) })

theorem laneForgetWork_of_absent (h : (s.unit (fld (arg a 1) 6 0)).state = .absent) :
    laneForgetWork tag io a s = .ok [] (s.forgotten (fld (arg a 1) 6 0)) := by
  simp only [laneForgetWork, h]
  rfl

theorem laneForgetWork_of_present (h : (s.unit (fld (arg a 1) 6 0)).state = .present) :
    laneForgetWork tag io a s = .status 0x0505 s := by
  simp only [laneForgetWork, h]

theorem laneForgetWork_of_vacant (h : (s.unit (fld (arg a 1) 6 0)).state = .vacant) : laneForgetWork tag io a s = .ok [] s := by
  simp only [laneForgetWork, h]

theorem State.unit_forgotten (lane : Nat) :
    (s.forgotten lane).unit lane = { ({} : LaneUnit) with g := (s.unit lane).g, changed := s.sec32 } := by
  simp [State.forgotten]

theorem State.unit_forgotten_ne {lane k : Nat} (h : k ≠ lane) : (s.forgotten lane).unit k = s.unit k := by
  simp [State.forgotten, State.unit_modUnit_ne _ _ h]

end

/-- The lane commands, each by what its work answers. -/
theorem laneCommands : laneCommandsSay := by
  intro t tag io s a s0 lane seg open_ u g
  refine ⟨fun h5 h100 hne hen => ?bind, fun h => ?bindTime, fun p hp hb => ?unbind, fun p hp hb => ?unbindUnbound, fun h => ?status,
    fun h hb => ?statusDenied, ?segStatus, ?segEnable, fun h => ?emergency, fun he h => ?disabled, fun h => ?rollcall,
    fun h => ?present, fun h => ?vacant, fun h => ?absent⟩
  case bind => exact stages_of_work rfl (laneBindWork_of_tenants io h5 h100 hne (by simpa [s0] using hen))
  case bindTime => exact answers_of_work rfl (if_pos h)
  case unbind =>
    exact stages_of_work rfl ((laneUnbindWork_of_open io ((s.tick_openMan t tag).trans hp)).trans (if_pos hb))
  case unbindUnbound =>
    exact answers_of_work rfl ((laneUnbindWork_of_open io ((s.tick_openMan t tag).trans hp)).trans
      (if_neg (Bool.eq_false_iff.mp hb)))
  case status =>
    refine answers_of_work rfl ((laneStatusWork_of_mine io h).trans ?_)
    simp only [State.tick_unit, State.tick_seg, State.tick_cfg]
    rfl
  case statusDenied => exact answers_of_work rfl (laneStatusWork_of_unbound io h (by simpa using hb))
  case segStatus =>
    refine ⟨_, answers_of_work rfl rfl, rfl, ?_, fun he => ?_, ?_⟩
    · simp [seg]
    · simp only [State.tick_lane, he, Bool.true_or, ↓reduceIte, List.getD_cons_zero]
      rfl
    · simp [seg]
  case segEnable => exact stages_of_work rfl rfl
  case emergency => exact answers_of_work rfl (if_pos (by simpa using h))
  case disabled => exact answers_of_work rfl (laneRollcallWork_of_disabled (tag := tag) io (by simpa using he) (by simpa using h))
  case rollcall => exact answers_of_work rfl (laneRollcallWork_of_running (tag := tag) io (by simpa using h))
  case present => exact answers_of_work rfl (laneForgetWork_of_present (tag := tag) io (by simpa using h))
  case vacant => exact answers_of_work rfl (laneForgetWork_of_vacant (tag := tag) io (by simpa using h))
  case absent =>
    refine ⟨_, answers_of_work rfl (laneForgetWork_of_absent (tag := tag) io (by simpa using h)), ?_, ?_, ?_, fun k hk => ?_, ?_⟩
    · rw [State.unit_forgotten]
    · rw [State.unit_forgotten]
    · rw [State.unit_forgotten, State.tick_unit]
    · rw [State.unit_forgotten_ne hk, State.tick_unit]
    · rfl

section
variable {s : State} {tag : Nat} {a : List Word} (io : HostIo)

/-! ### What the Drover's commands' work answers (Table 7-5) -/

/-- The minimum and the maximum that DRV_CASTE_PLAN gives each caste. -/
def planOf (a : List Word) : List (Nat × Nat) :=
  (List.range 5).map (fun k => (fld (arg a (2 * k + 1)) 9 0, fld (arg a (2 * k + 2)) 9 0))

theorem drvCastePlanWork_of_ok (hmin : ((planOf a).getD 2 (0, 0)).1 % 2 = 0) (hmax : ((planOf a).getD 2 (0, 0)).2 % 2 = 0)
    (hp : ∀ x ∈ planOf a, x.1 ≤ x.2 ∧ x.2 ≤ 768) : drvCastePlanWork tag io a s = s.stage tag 0x06C1 (.castePlan (planOf a)) := by
  have hrange : (planOf a).any (fun x => decide (768 < x.1) || decide (768 < x.2) || decide (x.2 < x.1)) = false := by
    refine List.any_eq_false.mpr fun x hx => ?_
    obtain ⟨hle, hmost⟩ := hp x hx
    simp only [Bool.or_eq_true, decide_eq_true_eq]
    omega
  refine if_neg (fun h => ?_)
  obtain h | h | h := h
  · exact absurd (hmin.symm.trans h) (by decide)
  · exact absurd (hmax.symm.trans h) (by decide)
  · exact absurd (hrange.symm.trans h) (by decide)

/-- The word of DRV_CASTE_STATUS for a caste: its cells, its target and the cells that move. -/
theorem drvCasteStatusWork_eq : ∃ rs, drvCasteStatusWork tag io a s = .ok rs { s with freeCtr := s.freeCtr + 1 } ∧ rs.length = 7 ∧
    rs.getD 6 0 = wd (s.cellsIn .faulted none + s.cellsIn .quarantined none * 2 ^ 10 + s.cellsIn .testing none * 2 ^ 20) ∧
    ∀ k, k < 5 → rs.getD k 0 = wd (s.cellsIn .available (some (casteOf k)) + s.sea.targets.getD k 0 % 2 ^ 10 * 2 ^ 10 +
      s.cellsIn .moving (some (casteOf k)) * 2 ^ 20) := by
  refine ⟨_, rfl, rfl, rfl, fun k hk => ?_⟩
  interval_cases k <;> rfl

/-- An AVAILABLE cell that leaves its caste for quarantine (R212). -/
def Cell.leaving (sec : Nat) (c : Cell) : Cell :=
  { c with toQuarantine := true, state := .moving, changed := sec, loading := false, next := .reserve }

/-- An entry set twice stands as it was set last. -/
theorem tset_tset_same {α : Type} (t : Tbl α) (k : Nat) (x y : α) : tset (tset t k x) k y = tset t k y := by
  induction t with
  | nil => simp [tset]
  | cons p r ih =>
    obtain ⟨j, z⟩ := p
    by_cases hlt : k < j
    · simp [tset, hlt]
    · by_cases heq : j = k
      · simp [tset, heq]
      · simp [tset, hlt, heq, ih]

/-- Two changes of one cell are one. -/
theorem State.modCell_modCell (s : State) (n : Nat) (f g : Cell → Cell) :
    (s.modCell n f).modCell n g = s.modCell n (fun c => g (f c)) := by
  simp [State.modCell, State.modSea, tmod, tset_tset_same]

theorem State.audioLost_of_other {n : Nat} (h : (s.cell n).caste ≠ .audio) : s.audioLost n = s := by
  simp [State.audioLost, h]

theorem drvCellQuarantineWork_of_available (hn : fld (arg a 1) 9 0 ≤ 767)
    (hst : (s.cell (fld (arg a 1) 9 0)).state = .available) (hc : (s.cell (fld (arg a 1) 9 0)).caste ≠ .audio) :
    drvCellQuarantineWork tag io a s = .ok [] (s.modCell (fld (arg a 1) 9 0) (Cell.leaving s.sec32)) := by
  have hlost := State.audioLost_of_other (s := s.modCell (fld (arg a 1) 9 0) (fun c => { c with toQuarantine := true }))
    (n := fld (arg a 1) 9 0) (by simpa using hc)
  simp only [drvCellQuarantineWork, Nat.not_lt.mpr hn, hst, hc, hlost, ↓reduceIte, State.setCell, State.modCell_modCell,
    reduceCtorEq, or_self, ne_eq, not_true_eq_false]
  rfl

end

/-- The Drover's commands, each by what its work answers. -/
theorem droverCommands : droverCommandsSay := by
  intro t tag io s a s0 n c plan
  have hcell : s0.cell n = c := s.tick_cell t n
  refine ⟨fun hmin hmax hp => ?plan, fun hodd => ?planOdd, ?casteStatus, fun hn => ?cellStatus, fun hn cmd hcmd => ?noCell,
    fun hn hst => ?quarantineRefused, fun hn hst hc => ?quarantine, fun hn hst => ?returnRefused, fun hn hst => ?returned, ?slots⟩
  case plan => exact stages_of_work rfl (drvCastePlanWork_of_ok io hmin hmax hp)
  case planOdd => exact answers_of_work rfl (if_pos (.inl hodd))
  case casteStatus =>
    obtain ⟨rs, hwork, hlen, hlast, hcastes⟩ := drvCasteStatusWork_eq (s := s0) (tag := tag) (a := a) io
    exact ⟨rs, _, answers_of_work rfl hwork, hlen, by simpa [s0] using hlast, by simpa [s0] using hcastes, rfl⟩
  case cellStatus =>
    refine ⟨_, answers_of_work rfl (if_neg (Nat.not_lt.mpr hn)), rfl, ?_, ?_⟩
    · simp [n, c]
    · simp [n, c]
  case noCell => obtain rfl | rfl | rfl := hcmd <;> exact answers_of_work rfl (if_pos hn)
  case quarantineRefused =>
    exact answers_of_work rfl ((if_neg (Nat.not_lt.mpr hn)).trans (if_pos (by rw [hcell]; exact hst)))
  case quarantine =>
    exact answers_of_work rfl (drvCellQuarantineWork_of_available (tag := tag) io hn (by rw [hcell]; exact hst)
      (by rw [hcell]; exact hc))
  case returnRefused =>
    exact answers_of_work rfl ((if_neg (Nat.not_lt.mpr hn)).trans (if_pos (by rw [hcell]; exact hst)))
  case returned =>
    exact answers_of_work rfl ((if_neg (Nat.not_lt.mpr hn)).trans (if_neg (by rw [hcell]; exact not_not.mpr hst)))
  case slots =>
    refine answers_of_work rfl ?_
    simp [drvSlotStatusWork, Answer.ok, s0]

/-- Settles O40: the lane commands and the Drover's, each in the envelope of every block command. -/
theorem laneAndDroverCommands : Obligations.LaneAndDroverCommands := ⟨laneCommands, droverCommands⟩

end Sys2Proof.Machine
end

section
/-! PROOFS. The cell chosen for a placement (R193, R195). -/

namespace Sys2Proof.Machine

/-- A rising table reads each of its entries under the entry's number. -/
theorem tfind_of_mem {α : Type} {t : Tbl α} (hwf : twf t = true) {k : Nat} {a : α} (h : (k, a) ∈ t) : tfind t k = some a := by
  induction t with
  | nil => cases h
  | cons p r ih =>
    obtain ⟨j, b⟩ := p
    obtain heq | hr := List.mem_cons.mp h
    · cases heq
      simp [tfind]
    · have hrest := ih (twf_tail hwf) hr
      have hne : j ≠ k := by
        rintro rfl
        cases r with
        | nil => cases hr
        | cons q r =>
          obtain ⟨i, c⟩ := q
          have hlt : j < i := of_decide_eq_true (Bool.and_eq_true_iff.mp hwf).1
          rw [tfind_of_lt (twf_tail hwf) hlt] at hrest
          cases hrest
      rwa [tfind, if_neg hne]

variable (s : State)

variable {s} in
theorem State.cell_of_mem (hwf : twf s.sea.cells = true) {p : Nat × Cell} (h : p ∈ s.sea.cells) : s.cell p.1 = p.2 := by
  rw [State.cell, tget, tfind_of_mem hwf h, Option.getD_some]

/-- A cell is placed before another: its score is higher, or as high and it was placed no later (R195). -/
def State.noWorse (s : State) (session : Bool) (n k : Nat) : Prop :=
  s.placeScore k session < s.placeScore n session ∨
    s.placeScore k session = s.placeScore n session ∧ (s.cell n).placed ≤ (s.cell k).placed

theorem State.noWorse_refl (session : Bool) (n : Nat) : s.noWorse session n n := .inr ⟨rfl, le_rfl⟩

variable {s} in
theorem State.noWorse_trans {session : Bool} {a b c : Nat} (h1 : s.noWorse session a b) (h2 : s.noWorse session b c) :
    s.noWorse session a c := by
  unfold State.noWorse at *
  omega

/-- One step of the search for the best cell. -/
def State.takeBetter (s : State) (caste : Caste) (session : Bool) (best : Option Nat) (p : Nat × Cell) : Option Nat :=
  if !s.eligibleCell caste p.1 p.2 then best else match best with
  | none => some p.1
  | some b =>
    let sb := s.placeScore b session
    let sp := s.placeScore p.1 session
    if sb < sp || (sb == sp && decide (p.2.placed < (s.cell b).placed)) then some p.1 else best

theorem State.bestCell_eq (caste : Caste) (session : Bool) :
    s.bestCell caste session = s.sea.cells.foldl (s.takeBetter caste session) none := rfl

/-- What a search over some of the cells has found: an eligible cell no worse than any eligible one of them, or none if none of them
is eligible. -/
def State.BestOf (s : State) (caste : Caste) (session : Bool) (l : List (Nat × Cell)) : Option Nat → Prop
  | none => ∀ p ∈ l, s.eligibleCell caste p.1 p.2 = false
  | some n => s.eligibleCell caste n (s.cell n) = true ∧
      ∀ p ∈ l, s.eligibleCell caste p.1 p.2 = true → s.noWorse session n p.1

variable {s} {caste : Caste} {session : Bool}

/-- The search takes a cell that is eligible and better than what it has. -/
theorem State.takeBetter_best {l : List (Nat × Cell)} {best : Option Nat} {p : Nat × Cell} (hp : s.cell p.1 = p.2)
    (h : s.BestOf caste session l best) : s.BestOf caste session (l ++ [p]) (s.takeBetter caste session best p) := by
  cases he : s.eligibleCell caste p.1 p.2 with
  | false =>
    cases best with
    | none => simpa [State.takeBetter, State.BestOf, he, or_imp, forall_and] using h
    | some b => simpa [State.takeBetter, State.BestOf, he, or_imp, forall_and] using h
  | true =>
    cases best with
    | none =>
      simp only [State.takeBetter, he, Bool.not_true, Bool.false_eq_true, ↓reduceIte, State.BestOf]
      refine ⟨hp ▸ he, fun q hq hqe => ?_⟩
      obtain hq | hq := List.mem_append.mp hq
      · rw [h q hq] at hqe
        cases hqe
      · obtain rfl := List.mem_singleton.mp hq
        exact s.noWorse_refl session _
    | some b =>
      obtain ⟨hb, hbest⟩ := h
      simp only [State.takeBetter, he, Bool.not_true, Bool.false_eq_true, ↓reduceIte]
      split
      · rename_i hbetter
        have hpb : s.noWorse session p.1 b := by
          simp only [Bool.or_eq_true, Bool.and_eq_true, decide_eq_true_eq, beq_iff_eq] at hbetter
          rw [← hp] at hbetter
          unfold State.noWorse
          omega
        refine ⟨hp ▸ he, fun q hq hqe => ?_⟩
        obtain hq | hq := List.mem_append.mp hq
        · exact State.noWorse_trans hpb (hbest q hq hqe)
        · obtain rfl := List.mem_singleton.mp hq
          exact s.noWorse_refl session _
      · rename_i hbetter
        have hbp : s.noWorse session b p.1 := by
          simp only [Bool.or_eq_true, Bool.and_eq_true, decide_eq_true_eq, beq_iff_eq] at hbetter
          rw [← hp] at hbetter
          unfold State.noWorse
          omega
        refine ⟨hb, fun q hq hqe => ?_⟩
        obtain hq | hq := List.mem_append.mp hq
        · exact hbest q hq hqe
        · obtain rfl := List.mem_singleton.mp hq
          exact hbp

theorem State.foldl_takeBetter_best (l : List (Nat × Cell)) (hl : ∀ p ∈ l, s.cell p.1 = p.2) :
    s.BestOf caste session l (l.foldl (s.takeBetter caste session) none) := by
  induction l using List.reverseRecOn with
  | nil => simp [State.BestOf]
  | append_singleton l p ih =>
    rw [List.foldl_concat]
    exact State.takeBetter_best (hl p (by simp)) (ih fun q hq => hl q (List.mem_append_left _ hq))

/-- In a state of the canonical form the search finds the best cell of all that are listed (R195). -/
theorem State.bestCell_best (hwf : twf s.sea.cells = true) : s.BestOf caste session s.sea.cells (s.bestCell caste session) :=
  State.foldl_takeBetter_best _ fun _ hp => State.cell_of_mem hwf hp

/-- Settles O36: the search over the listed cells keeps an eligible cell that none of those seen surpasses. -/
theorem bestCell : Obligations.BestCell := by
  intro s caste session hformed
  have hwf : twf s.sea.cells = true := hformed.1
  have hbest := State.bestCell_best (caste := caste) (session := session) hwf
  refine ⟨fun n hn => ?chosen, fun hn k hk => ?nobody⟩
  case chosen =>
    rw [hn] at hbest
    obtain ⟨helig, hall⟩ := hbest
    refine ⟨helig, fun k hk hke => ?_⟩
    obtain ⟨p, hp, rfl⟩ := List.mem_map.mp hk
    rw [State.cell_of_mem hwf hp] at hke
    have hno := hall p hp hke
    unfold State.noWorse at hno
    omega
  case nobody =>
    rw [hn] at hbest
    obtain ⟨p, hp, rfl⟩ := List.mem_map.mp hk
    rw [State.cell_of_mem hwf hp]
    exact hbest p hp

end Sys2Proof.Machine
end

section
/-! PROOFS. What recovery after a fault leaves alone: device time, the islands, the die links, and the cells that are out of service
(R191, R203 to R206, R209). -/

namespace Sys2Proof.Machine

/-! ### The relations -/

/-- A FAULTED or a QUARANTINED cell is out of service. -/
def Cell.Out (c : Cell) : Prop := c.state = .faulted ∨ c.state = .quarantined

/-- A cell out of service stays so, under its holder generation, and is given no work. -/
structure Cell.StaysOut (c c' : Cell) : Prop where
  state : c'.state = c.state
  hgen : c'.hgen = c.hgen
  work : c.work = [] → c'.work = []

theorem Cell.StaysOut.refl (c : Cell) : c.StaysOut c := ⟨rfl, rfl, id⟩

theorem Cell.StaysOut.trans {a b c : Cell} (h1 : a.StaysOut b) (h2 : b.StaysOut c) : a.StaysOut c :=
  ⟨h2.state.trans h1.state, h2.hgen.trans h1.hgen, fun h => h2.work (h1.work h)⟩

theorem Cell.StaysOut.out {c c' : Cell} (h : c.StaysOut c') (hc : c.Out) : c'.Out := by
  unfold Cell.Out at *
  rwa [h.state]

/-- What neither recovery nor a quarantine touches: device time, the islands, the states of the die links, the dies declared failed and
the L2 checks under way. -/
structure State.KeepsIslands (s s' : State) : Prop where
  now : s'.now = s.now
  islands : s'.isl.islands = s.isl.islands
  link : ∀ d, (s'.link d).state = (s.link d).state
  dead : s'.sea.deadDies = s.sea.deadDies
  checks : s'.sea.l2Check = s.sea.l2Check

/-- What every part of recovery keeps besides: the table of cells rises, cells out of service stay so, and no lease comes to be held
that was not. -/
structure State.Recovers (s s' : State) : Prop extends State.KeepsIslands s s' where
  rising : twf s.sea.cells = true → twf s'.sea.cells = true
  out : twf s.sea.cells = true → ∀ k, (s.cell k).Out → (s.cell k).StaysOut (s'.cell k)
  holder : ∀ k l, tfind s'.sea.leases k = some l → ∃ l0, tfind s.sea.leases k = some l0 ∧ l0.holder = l.holder

variable (s : State)

theorem State.KeepsIslands.refl : s.KeepsIslands s := ⟨rfl, rfl, fun _ => rfl, rfl, rfl⟩

theorem State.KeepsIslands.trans {a b c : State} (h1 : a.KeepsIslands b) (h2 : b.KeepsIslands c) : a.KeepsIslands c :=
  ⟨h2.now.trans h1.now, h2.islands.trans h1.islands, fun d => (h2.link d).trans (h1.link d), h2.dead.trans h1.dead,
    h2.checks.trans h1.checks⟩

theorem State.KeepsIslands.foldl {α : Type} (f : State → α → State) (hf : ∀ (s : State) x, s.KeepsIslands (f s x)) (l : List α) :
    s.KeepsIslands (l.foldl f s) := foldl_rel _ .refl (fun _ _ _ => .trans) f hf l s

theorem State.KeepsIslands.of_same {s s' : State} (hnow : s'.now = s.now) (hisl : s'.isl = s.isl)
    (hsea : (s'.sea.deadDies, s'.sea.l2Check) = (s.sea.deadDies, s.sea.l2Check)) : s.KeepsIslands s' := by
  rw [Prod.mk.injEq] at hsea
  exact ⟨hnow, by rw [hisl], fun d => by rw [State.link, hisl, State.link], hsea.1, hsea.2⟩

theorem State.KeepsIslands.island {s s' : State} (h : s.KeepsIslands s') (n : Nat) : s'.island n = s.island n := by
  rw [State.island, h.islands, State.island]

theorem State.Recovers.refl : s.Recovers s := ⟨.refl s, id, fun _ _ _ => .refl _, fun _ l h => ⟨l, h, rfl⟩⟩

theorem State.Recovers.trans {a b c : State} (h1 : a.Recovers b) (h2 : b.Recovers c) : a.Recovers c where
  toKeepsIslands := h1.toKeepsIslands.trans h2.toKeepsIslands
  rising h := h2.rising (h1.rising h)
  out h k hk :=
    have h1k := h1.out h k hk
    h1k.trans (h2.out (h1.rising h) k (h1k.out hk))
  holder k l h := by
    obtain ⟨l1, h1l, he1⟩ := h2.holder k l h
    obtain ⟨l0, h0l, he0⟩ := h1.holder k l1 h1l
    exact ⟨l0, h0l, he0.trans he1⟩

theorem State.Recovers.foldl {α : Type} (f : State → α → State) (hf : ∀ (s : State) x, s.Recovers (f s x)) (l : List α) :
    s.Recovers (l.foldl f s) := foldl_rel _ .refl (fun _ _ _ => .trans) f hf l s

theorem State.Recovers.ite {x y : State} {c : Prop} {_ : Decidable c} (hx : s.Recovers x) (hy : s.Recovers y) :
    s.Recovers (if c then x else y) := by split <;> assumption

/-! ### Changes of one field -/

/-- A change that touches none of what recovery keeps. -/
theorem State.Recovers.of_same {s s' : State} (hnow : s'.now = s.now) (hisl : s'.isl = s.isl)
    (hsea : (s'.sea.cells, s'.sea.leases, s'.sea.deadDies, s'.sea.l2Check) =
      (s.sea.cells, s.sea.leases, s.sea.deadDies, s.sea.l2Check)) : s.Recovers s' := by
  simp only [Prod.mk.injEq] at hsea
  obtain ⟨hcells, hleases, hdead, hchecks⟩ := hsea
  exact ⟨.of_same hnow hisl (by rw [hdead, hchecks]), fun h => by rwa [hcells],
    fun _ k _ => by rw [State.cell_of_cells hcells]; exact .refl _, fun k l h => ⟨l, by rwa [hleases] at h, rfl⟩⟩

theorem State.Recovers.of_sea {s s' : State} (h : s' = { s' with now := s.now, isl := s.isl, sea := s.sea }) : s.Recovers s' := by
  rw [h]
  exact .of_same rfl rfl rfl

theorem State.Recovers.of_modSea (f : Sea → Sea) (h : ((f s.sea).cells, (f s.sea).leases, (f s.sea).deadDies, (f s.sea).l2Check) =
    (s.sea.cells, s.sea.leases, s.sea.deadDies, s.sea.l2Check)) : s.Recovers (s.modSea f) := .of_same rfl rfl h

theorem State.Recovers.of_modSes (lane : Nat) (f : Session → Session) : s.Recovers (s.modSes lane f) := .of_same rfl rfl rfl

theorem State.Recovers.of_test (x : TestSt) : s.Recovers { s with test := x } := .of_same rfl rfl rfl

theorem State.Recovers.of_unwait (w : Work) : s.Recovers (s.unwait w) := .of_modSea s _ rfl

/-- A change of one cell, which if it is out of service stays so. -/
theorem State.Recovers.of_modCell (n : Nat) (f : Cell → Cell) (hf : (s.cell n).Out → (s.cell n).StaysOut (f (s.cell n))) :
    s.Recovers (s.modCell n f) where
  toKeepsIslands := .of_same rfl rfl rfl
  rising h := twf_tset _ _ _ h
  out _ k hk := by
    by_cases h : k = n
    · subst h
      rw [State.cell_modCell_same]
      exact hf hk
    · rw [s.cell_modCell_ne f h]
      exact .refl _
  holder _ l h := ⟨l, h, rfl⟩

theorem twf_tmap {α : Type} {t : Tbl α} (f : Nat → α → α) (h : twf t = true) : twf (tmap t f) = true := by
  induction t with
  | nil => rfl
  | cons p r ih =>
    have hrest := ih (twf_tail h)
    cases r with
    | nil => rfl
    | cons q r => exact Bool.and_eq_true_iff.mpr ⟨(Bool.and_eq_true_iff.mp h).1, hrest⟩

/-- A change of every listed cell by which those out of service stay so. -/
theorem State.Recovers.of_cells (f : Nat → Cell → Cell) (hd : ∀ k, f k {} = {}) (hf : ∀ k (c : Cell), c.StaysOut (f k c)) :
    s.Recovers (s.modSea (fun a => { a with cells := tmap a.cells f })) where
  toKeepsIslands := .of_same rfl rfl rfl
  rising := twf_tmap f
  out _ k _ := by
    have hk : (s.modSea (fun a => { a with cells := tmap a.cells f })).cell k = f k (s.cell k) := tget_tmap _ f k (hd k)
    rw [hk]
    exact hf k _
  holder _ l h := ⟨l, h, rfl⟩

theorem State.dropLease_recovers (n : Nat) : s.Recovers (s.dropLease n) where
  toKeepsIslands := .of_same rfl rfl rfl
  rising := id
  out _ _ _ := .refl _
  holder k l h := by
    have h' : tfind (terase s.sea.leases n) k = some l := h
    by_cases hk : k = n
    · rw [hk, tfind_terase_same] at h'
      cases h'
    · exact ⟨l, by rwa [tfind_terase_ne _ hk] at h', rfl⟩

/-- A change of a die link that leaves its state. -/
theorem State.KeepsIslands.of_modLink (d : Nat) (f : DieLink → DieLink) (hf : ∀ l, (f l).state = l.state) :
    s.KeepsIslands (s.modLink d f) where
  now := rfl
  islands := rfl
  link k := by
    by_cases h : d = k
    · subst h
      simp [State.link, State.modLink, hf]
    · simp [State.link, State.modLink, h]
  dead := rfl
  checks := rfl

theorem State.Recovers.of_count (g n i b : Nat) : s.Recovers (s.count g n i b) := .of_same (by simp) (by simp) (by simp)

theorem State.Recovers.of_raiseDev (code src data : Nat) (e : Option (Word × Word × Word)) :
    s.Recovers (s.raiseDev code src data e) := .of_same (by simp) (by simp) (by simp)

/-! ### Work that ends (R146, R203, R217) -/

theorem State.dropWork_recovers (w : Work) : s.Recovers (s.dropWork w) := by
  refine .of_cells s (fun _ => Cell.withoutWork w) (fun _ => rfl) (fun _ c => ?_)
  unfold Cell.withoutWork
  split
  · exact ⟨rfl, rfl, fun h => by simp [h]⟩
  · exact .refl c

theorem State.dropWorkOn_recovers (n : Nat) (w : Work) : s.Recovers (s.dropWorkOn n w) :=
  .of_modCell s n _ fun _ => ⟨rfl, rfl, fun h => by simp [h]⟩

theorem State.drainSlot_recovers (n : Nat) : s.Recovers (s.drainSlot n) := .ite s (.of_modSea s _ rfl) (.refl s)

theorem State.leaveCell_recovers (lane : Nat) (x : Session) : s.Recovers (s.leaveCell lane x true) := by
  have hleft : s.Recovers ((s.dropWork (.session lane)).unwait (.session lane)) := (s.dropWork_recovers _).trans (.of_unwait _ _)
  unfold State.leaveCell
  dsimp only
  split
  · exact (hleft.trans (State.dropLease_recovers _ _)).trans (State.drainSlot_recovers _ _)
  · exact hleft

theorem State.fixOutcome_recovers (lane : Nat) (o : Outcome8) (reason prompt : Nat) (frame : Bool) (x : Session) :
    s.Recovers (s.fixOutcome lane o reason prompt frame x) := by
  unfold State.fixOutcome State.await
  exact ((s.leaveCell_recovers lane x).trans (.of_modSes _ _ _)).trans (.of_modSea _ _ rfl)

theorem State.queueDecision_recovers (lane type : Nat) : s.Recovers (s.queueDecision lane type) := by
  unfold State.queueDecision
  split <;> exact .of_same rfl rfl rfl

theorem State.leaveSeg_recovers (lane : Nat) : s.Recovers (s.leaveSeg lane) := by
  unfold State.leaveSeg State.admitNext
  dsimp only
  split
  · split
    · split <;> exact .of_same rfl rfl rfl
    · exact .of_same rfl rfl rfl
  · exact .of_same rfl rfl rfl

theorem State.countOutcome_recovers (lane : Nat) (o : Outcome8) : s.Recovers (s.countOutcome lane o) :=
  (State.Recovers.of_count s 1 lane _ _).trans (.of_modSes _ lane _)

theorem State.conclude_recovers (lane : Nat) (o : Outcome8) (reason prompt : Nat) (frame : Bool) :
    s.Recovers (s.conclude lane o reason prompt frame) := by
  have hsilent (s1 : State) : s1.Recovers (((s1.countOutcome lane o).stampDecision lane).leaveSeg lane) :=
    ((s1.countOutcome_recovers lane o).trans (.of_modSes _ lane _)).trans (State.leaveSeg_recovers _ lane)
  have hframe (s1 : State) (type : Nat) : s1.Recovers (((s1.countOutcome lane o).queueDecision lane type).leaveSeg lane) :=
    ((s1.countOutcome_recovers lane o).trans (State.queueDecision_recovers _ lane type)).trans (State.leaveSeg_recovers _ lane)
  cases hx : s.ses lane with
  | none => simpa only [State.conclude, hx] using State.Recovers.refl s
  | some x =>
    refine (s.fixOutcome_recovers lane o reason prompt frame x).trans ?_
    unfold State.conclude
    rw [hx]
    cases o with
    | accept => exact .refl _
    | abort => cases frame <;> [exact hsilent _; exact hframe _ _]
    | deny | refer => cases frame <;> [exact hsilent _; exact State.queueDecision_recovers _ _ _]

theorem State.abortSes_recovers (lane reason : Nat) : s.Recovers (s.abortSes lane reason) := by
  unfold State.abortSes
  split
  · exact .refl s
  · split
    · exact .refl s
    · dsimp only
      split <;> exact (State.Recovers.of_modSes s lane _).trans (State.conclude_recovers _ _ _ _ _ _)

theorem State.releaseSlot_recovers (n : Nat) : s.Recovers (s.releaseSlot n) := by
  rw [State.releaseSlot_frame]
  exact .of_same rfl rfl rfl

theorem State.jobFreed_recovers (n : Nat) (j : Job) : s.Recovers (s.jobFreed n j) := by
  have hended : s.Recovers (s.modSea (fun a => { a with cells := tmap a.cells (fun _ => Cell.endRequest n) })) := by
    refine .of_cells s (fun _ => Cell.endRequest n) (fun _ => rfl) (fun _ c => ?_)
    unfold Cell.endRequest
    split
    · exact ⟨rfl, rfl, id⟩
    · exact .refl c
  have hleft := (hended.trans (State.dropWork_recovers _ (.piece n))).trans
    (.of_unwait _ (.piece n))
  have hobjs (s1 : State) : s1.Recovers ((j.objs.foldl State.freeObject s1).modSea (fun a => { a with jobs := terase a.jobs n })) := by
    refine State.Recovers.trans (b := j.objs.foldl State.freeObject s1) ?_ (.of_modSea _ _ rfl)
    rw [State.freeObjects_frame]
    exact .of_same rfl rfl rfl
  unfold State.jobFreed
  dsimp only
  split
  · exact ((hleft.trans (State.dropLease_recovers _ _)).trans (State.releaseSlot_recovers _ _)).trans (hobjs _)
  · exact hleft.trans (hobjs _)

theorem State.endJob_recovers (n st : Nat) (b : List Byte) (cq : Option Nat) : s.Recovers (s.endJob n st b cq) := by
  cases h : s.job n with
  | none => simpa only [State.endJob, h] using State.Recovers.refl s
  | some j =>
    have hend := (s.endJob_completes h st b cq).frame
    exact (s.jobFreed_recovers n j).trans (.of_same (by rw [hend]) (by rw [hend]) (by rw [hend]))

/-! ### Tests that end (R427, R429) -/

/-- A cell that leaves test was not out of service. -/
theorem State.Recovers.of_leaveTest (n : Nat) : s.Recovers (if (s.cell n).state == .testing then s.setCell n .available else s) := by
  split
  · rename_i htest
    have hstate : (s.cell n).state = .testing := beq_iff_eq.mp htest
    exact .of_modCell s n _ fun hout => by simp [Cell.Out, hstate] at hout
  · exact .refl s

theorem State.endL2_recovers (island : Nat) : s.Recovers (s.endL2 island) := by
  unfold State.endL2
  exact ((State.Recovers.of_test s _).trans (.of_modSea _ _ rfl)).trans (.foldl _ _ (fun s1 p => .of_leaveTest s1 _) _)

theorem State.endWork_recovers (st : Nat) (cq : Option Nat) (w : Work) : s.Recovers (s.endWork st cq w) := by
  unfold State.endWork
  split
  · exact s.abortSes_recovers _ _
  · exact s.endJob_recovers _ _ _ _
  · dsimp only
    split
    · exact (State.Recovers.of_test s _).trans (State.endL2_recovers _ _)
    · exact (State.Recovers.of_test s _).trans (.of_leaveTest _ _)
  · exact .refl s

theorem State.dropLoan_recovers (n : Nat) : s.Recovers (s.dropLoan n) := by
  unfold State.dropLoan
  split
  · exact (State.Recovers.of_test s _).trans (State.dropWorkOn_recovers _ _ _)
  · exact .refl s

/-! ### Castes refilled (R191, R192) -/

/-- What the moves of a refill may change: cells in service, none of which they put out of service. -/
structure State.Musters (s s' : State) : Prop where
  frame : s' = { s with sea := { s.sea with cells := s'.sea.cells } }
  rising : twf s.sea.cells = true → twf s'.sea.cells = true
  out : ∀ k, (s.cell k).Out → s'.cell k = s.cell k
  fit : ∀ k, ¬ (s.cell k).Out → ¬ (s'.cell k).Out

theorem State.Musters.refl : s.Musters s := ⟨rfl, id, fun _ _ => rfl, fun _ => id⟩

theorem State.Musters.trans {a b c : State} (h1 : a.Musters b) (h2 : b.Musters c) : a.Musters c where
  frame := by rw [h2.frame, h1.frame]
  rising h := h2.rising (h1.rising h)
  out k hk := (h2.out k (by rwa [h1.out k hk])).trans (h1.out k hk)
  fit k hk := h2.fit k (h1.fit k hk)

theorem State.moveTo_frame (n : Nat) (c : Caste) : s.moveTo n c = s.modCell n (fun x =>
    { x with state := .moving, changed := s.sec32, next := c, loading := false }) := s.modCell_modCell n _ _

theorem State.moveTo_musters {n : Nat} (c : Caste) (h : ¬ (s.cell n).Out) : s.Musters (s.moveTo n c) := by
  rw [State.moveTo_frame]
  refine ⟨rfl, twf_tset _ _ _, fun k hk => s.cell_modCell_ne _ ?_, fun k hk => ?_⟩
  · rintro rfl
    exact h hk
  · by_cases hkn : k = n
    · rw [hkn, State.cell_modCell_same]
      simp [Cell.Out]
    · rwa [s.cell_modCell_ne _ hkn]

/-- Moves of cells all of which were in service when the list was made. -/
theorem State.Musters.foldl (f : State → Nat → State) (P : State → Nat → Prop) (hf : ∀ (s : State) n, P s n → s.Musters (f s n))
    (hP : ∀ (s s' : State) n, s.Musters s' → P s n → P s' n) (l : List Nat) (h : ∀ n ∈ l, P s n) : s.Musters (l.foldl f s) := by
  induction l generalizing s with
  | nil => exact .refl s
  | cons n r ih =>
    have hn := hf s n (h n List.mem_cons_self)
    exact hn.trans (ih _ fun m hm => hP s _ m hn (h m (List.mem_cons_of_mem _ hm)))

theorem mem_lowest_ins {p q : Nat × Nat} {l : List (Nat × Nat)} (h : q ∈ State.lowest.ins p l) : q = p ∨ q ∈ l := by
  induction l with
  | nil => exact .inl (List.mem_singleton.mp h)
  | cons r l ih =>
    rw [State.lowest.ins] at h
    split at h
    · exact List.mem_cons.mp h
    · obtain rfl | h := List.mem_cons.mp h
      · exact .inr List.mem_cons_self
      · exact (ih h).imp_right (List.mem_cons_of_mem _)

variable {s} in
/-- The cells taken from a caste are listed as AVAILABLE in it, and pass the test. -/
theorem State.mem_lowest {c : Caste} {f : Nat → Bool} {n : Nat} (h : n ∈ s.lowest c f) :
    ∃ x, (n, x) ∈ s.sea.cells ∧ x.state = .available ∧ x.caste = c ∧ f n = true := by
  have hfold (l : List (Nat × Cell)) (acc : List (Nat × Nat)) (q : Nat × Nat)
      (hq : q ∈ l.foldl (fun acc p => State.lowest.ins (p.2.score, p.1) acc) acc) : q ∈ acc ∨ ∃ p ∈ l, p.1 = q.2 := by
    induction l generalizing acc with
    | nil => exact .inl hq
    | cons p r ih =>
      obtain hacc | ⟨p', hp', he⟩ := ih _ hq
      · obtain rfl | hacc := mem_lowest_ins hacc
        · exact .inr ⟨p, List.mem_cons_self, rfl⟩
        · exact .inl hacc
      · exact .inr ⟨p', List.mem_cons_of_mem _ hp', he⟩
  obtain ⟨q, hq, rfl⟩ := List.mem_map.mp h
  obtain hq | ⟨p, hp, he⟩ := hfold _ _ _ hq
  · cases hq
  · simp only [List.mem_filter, Bool.and_eq_true, beq_iff_eq] at hp
    obtain ⟨hmem, ⟨hstate, hcaste⟩, hf⟩ := hp
    exact ⟨p.2, he ▸ hmem, hstate, hcaste, he ▸ hf⟩

variable {s} in
theorem State.lowest_available (hwf : twf s.sea.cells = true) {c : Caste} {f : Nat → Bool} {n : Nat} (h : n ∈ s.lowest c f) :
    (s.cell n).state = .available ∧ (s.cell n).caste = c ∧ f n = true := by
  obtain ⟨x, hmem, hx⟩ := State.mem_lowest h
  rwa [State.cell_of_mem hwf hmem]

theorem Cell.not_out_of_available {c : Cell} (h : c.state = .available) : ¬ c.Out := by simp [Cell.Out, h]

/-- Cells of Reserve move one by one. -/
theorem State.moveEach_musters (c : Caste) (l : List Nat) (h : ∀ n ∈ l, (s.cell n).state = .available) :
    s.Musters (l.foldl (fun s n => s.moveTo n c) s) :=
  .foldl s _ (fun s n => ¬ (s.cell n).Out) (fun s _ hn => s.moveTo_musters c hn) (fun _ _ n hm hn => hm.fit n hn) l
    fun n hn => Cell.not_out_of_available (h n hn)

/-- Cells of Reserve move as Audio pairs. -/
theorem State.movePairs_musters (c : Caste) (l : List Nat)
    (h : ∀ n ∈ l, (s.cell n).state = .available ∧ (s.cell (n + 1)).state = .available) :
    s.Musters (l.foldl (fun s n => (s.moveTo n c).moveTo (n + 1) c) s) := by
  refine .foldl s _ (fun s n => ¬ (s.cell n).Out ∧ ¬ (s.cell (n + 1)).Out) (fun s n hn => ?_)
    (fun _ _ n hm hn => ⟨hm.fit n hn.1, hm.fit _ hn.2⟩) l
    fun n hn => ⟨Cell.not_out_of_available (h n hn).1, Cell.not_out_of_available (h n hn).2⟩
  have hfirst := s.moveTo_musters c hn.1
  exact hfirst.trans (State.moveTo_musters _ c (hfirst.fit _ hn.2))

variable {s} in
theorem State.fill_musters (hwf : twf s.sea.cells = true) (c : Caste) (need : Nat) : s.Musters (s.fill c need).2 := by
  unfold State.fill
  split
  · exact .refl s
  · split
    · have hone := s.moveEach_musters .audio (s.spareCells.take need)
        fun n hn => (State.lowest_available hwf (List.mem_of_mem_take hn)).1
      refine hone.trans (State.movePairs_musters _ .audio _ fun n hn => ?_)
      obtain ⟨hstate, -, hmate⟩ := State.lowest_available (hone.rising hwf) (List.mem_of_mem_take hn)
      simp only [Bool.and_eq_true, beq_iff_eq] at hmate
      exact ⟨hstate, hmate.1.2⟩
    · exact s.moveEach_musters c _ fun n hn => (State.lowest_available hwf (List.mem_of_mem_take hn)).1

theorem State.fill_frame (c : Caste) (need : Nat) :
    (s.fill c need).2 = { s with sea := { s.sea with cells := (s.fill c need).2.sea.cells } } := by
  let P (a b : State) : Prop := b = { a with sea := { a.sea with cells := b.sea.cells } }
  have htrans (a b c : State) (h1 : P a b) (h2 : P b c) : P a c := by
    rw [show c = _ from h2, show b = _ from h1]
  unfold State.fill
  split
  · rfl
  · split
    · exact htrans _ _ _ (foldl_rel P (fun _ => rfl) htrans _ (fun _ _ => rfl) _ _)
        (foldl_rel P (fun _ => rfl) htrans _ (fun _ _ => rfl) _ _)
    · exact foldl_rel P (fun _ => rfl) htrans _ (fun _ _ => rfl) _ _

theorem State.fill_recovers (c : Caste) (need : Nat) : s.Recovers (s.fill c need).2 where
  toKeepsIslands := by
    rw [State.fill_frame]
    exact .of_same rfl rfl rfl
  rising h := (State.fill_musters h c need).rising h
  out h k hk := by
    rw [(State.fill_musters h c need).out k hk]
    exact .refl _
  holder k l h := ⟨l, by rwa [State.fill_frame] at h, rfl⟩

theorem State.refillOne_recovers (c : Caste) : s.Recovers (s.refillOne c) := by
  have hfill := s.fill_recovers c (s.cfg.casteMin (casteNum c) - s.casteSize c)
  unfold State.refillOne
  split
  · exact .refl s
  · dsimp only
    split
    · exact hfill.trans (.of_modSea _ _ rfl)
    · split
      · exact hfill
      · exact (hfill.trans (.of_modSea _ _ rfl)).trans (.of_raiseDev _ _ _ _ _)

/-! ### A faulted cell (R203, R205) -/

theorem State.auditRequest_recovers (die : Nat) : s.Recovers (s.auditRequest die) := by
  have hsame (l : DieLink) (hl : l.state = (s.link die).state) :
      s.Recovers { s with isl := { s.isl with links := tset s.isl.links die l } } := by
    refine ⟨⟨rfl, rfl, fun d => ?_, rfl, rfl⟩, id, fun _ _ _ => .refl _, fun _ l h => ⟨l, h, rfl⟩⟩
    by_cases hd : die = d
    · subst hd
      simpa [State.link] using hl
    · simp [State.link, hd]
  unfold State.auditRequest
  dsimp only
  split
  · exact .refl s
  · exact hsame _ (by split <;> rfl)

theorem State.audioLost_recovers (n : Nat) : s.Recovers (s.audioLost n) := .ite s (.of_modSea s _ rfl) (.refl s)

theorem State.dropLines_recovers (n : Nat) : s.Recovers (s.dropLines n) :=
  State.Recovers.trans (b := { s with mem := (s.dropLines n).mem }) (.of_same rfl rfl rfl)
    (.of_modCell _ n (fun c => { c with l1 := [] }) fun _ => ⟨rfl, rfl, id⟩)

theorem State.restoreLock_recovers (l : Lease) : s.Recovers (s.restoreLock l) := by
  unfold State.restoreLock
  split
  · exact .of_sea (by rw [State.store_frame])
  · exact .of_sea (by rw [State.store_frame])
  · exact .refl s

/-- A lease of a lost holder is voided: a lock's intent is restored or completed first (R203). -/
def State.voidLease (s : State) (p : Nat × Lease) : State := (if p.2.slot.isNone then s.restoreLock p.2 else s).dropLease p.1

theorem State.voidLease_recovers (p : Nat × Lease) : s.Recovers (s.voidLease p) :=
  (State.Recovers.ite s (s.restoreLock_recovers _) (.refl s)).trans (State.dropLease_recovers _ _)

/-- A cell as a fault leaves it. -/
def Cell.fault (sec now : Nat) (c : Cell) : Cell :=
  { c.clearRegs with
    state := .faulted, changed := sec, hgen := (c.hgen + 1) % 65536, work := [], loading := false, caste := .reserve, stores := []
    scratchUsed := false, faultTimes := now :: c.faultTimes }

/-- The cell FAULTED, without what was lent or cached, before its leases are voided. -/
def State.faulted (s : State) (n : Nat) : State :=
  (((s.audioLost n).modCell n (Cell.fault (s.audioLost n).sec32 (s.audioLost n).now)).dropLoan n).dropLines n

/-- The leases of the faulted cell voided, before its work ends. -/
def State.voided (s : State) (n : Nat) : State :=
  ((s.faulted n).sea.leases.filter (fun p => p.2.holder == n)).foldl State.voidLease (s.faulted n)

/-- The work of the faulted cell ended. -/
def State.unburdened (s : State) (n st : Nat) (cq : Option Nat) : State :=
  (s.cell n).work.foldl (fun s w => s.endWork st cq w) (s.voided n)

theorem State.cellFault_of_out {n : Nat} (h : (s.cell n).Out ∨ (s.cell n).state = .absent) (st : Nat) (cq : Option Nat) :
    s.cellFault n st cq = s := by
  refine if_pos ?_
  simpa [Cell.Out] using h

theorem State.cellFault_of_in {n : Nat} (h : ¬ ((s.cell n).Out ∨ (s.cell n).state = .absent)) (st : Nat) (cq : Option Nat) :
    s.cellFault n st cq =
      (if (s.unburdened n st cq).holdsCredits (clusterOf n) then (s.unburdened n st cq).auditRequest (dieOf (clusterOf n))
        else s.unburdened n st cq).refillOne (s.cell n).caste := by
  have hin : ¬ ((s.cell n).state == .faulted || (s.cell n).state == .quarantined || (s.cell n).state == .absent) = true := by
    simpa [Cell.Out] using h
  have hfault : ((s.audioLost n).setCell n .faulted).modCell n (fun c =>
      { c.clearRegs with hgen := (c.hgen + 1) % 65536, work := [], loading := false, caste := .reserve, stores := []
                         scratchUsed := false, faultTimes := (s.audioLost n).now :: c.faultTimes }) =
      (s.audioLost n).modCell n (Cell.fault (s.audioLost n).sec32 (s.audioLost n).now) := State.modCell_modCell _ n _ _
  unfold State.cellFault State.unburdened State.voided State.faulted
  rw [if_neg hin, ← hfault]
  rfl

/-- What follows the voiding of the leases. -/
theorem State.voided_cellFault {n : Nat} (h : ¬ ((s.cell n).Out ∨ (s.cell n).state = .absent)) (st : Nat) (cq : Option Nat) :
    (s.voided n).Recovers (s.cellFault n st cq) := by
  rw [s.cellFault_of_in h]
  have hended : (s.voided n).Recovers (s.unburdened n st cq) := .foldl _ _ (fun s1 w => s1.endWork_recovers st cq w) _
  exact (hended.trans (.ite _ (State.auditRequest_recovers _ _) (.refl _))).trans (State.refillOne_recovers _ _)

theorem State.faulted_voided (n : Nat) : (s.faulted n).Recovers (s.voided n) :=
  .foldl _ _ (fun s1 p => s1.voidLease_recovers p) _

theorem State.fault_faulted (n : Nat) :
    ((s.audioLost n).modCell n (Cell.fault (s.audioLost n).sec32 (s.audioLost n).now)).Recovers (s.faulted n) :=
  (State.dropLoan_recovers _ n).trans (State.dropLines_recovers _ n)

@[simp] theorem State.cell_audioLost (n k : Nat) : (s.audioLost n).cell k = s.cell k := by
  unfold State.audioLost
  dsimp only
  split <;> rfl

/-- The fault of a cell leaves the others that are out of service as they are. -/
theorem State.cellFault_recovers (n st : Nat) (cq : Option Nat) : s.Recovers (s.cellFault n st cq) := by
  by_cases h : (s.cell n).Out ∨ (s.cell n).state = .absent
  · rw [s.cellFault_of_out h]
    exact .refl s
  · have hfault : (s.audioLost n).Recovers
        ((s.audioLost n).modCell n (Cell.fault (s.audioLost n).sec32 (s.audioLost n).now)) :=
      .of_modCell _ n _ fun hout => (h (.inl (by simpa using hout))).elim
    exact ((((s.audioLost_recovers n).trans hfault).trans (s.fault_faulted n)).trans (s.faulted_voided n)).trans
      (s.voided_cellFault h st cq)

/-- Every lease of the faulted cell is voided (R203). -/
theorem State.voided_holder (n k : Nat) (l : Lease) (h : tfind (s.voided n).sea.leases k = some l) : l.holder ≠ n := by
  intro hl
  obtain ⟨l0, hl0, he⟩ := (s.faulted_voided n).holder k l h
  have hmine : (k, l0) ∈ (s.faulted n).sea.leases.filter (fun p => p.2.holder == n) := by
    simp [List.mem_filter, mem_of_tfind hl0, he.trans hl]
  have hgone : tfind (s.voided n).sea.leases k = none :=
    foldl_reaches (fun s (p : Nat × Lease) => tfind s.sea.leases p.1 = none) State.voidLease
      (fun _ p => tfind_terase_same _ p.1)
      (fun s p q hq => by
        by_contra hsome
        obtain ⟨x, hx⟩ := Option.ne_none_iff_exists'.mp hsome
        obtain ⟨y, hy, -⟩ := (s.voidLease_recovers p).holder q.1 x hx
        rw [hq] at hy
        cases hy) _ (s.faulted n) _ hmine
  rw [hgone] at h
  cases h

variable {s} in
/-- A cell in service that faults: FAULTED under the next generation, without work and without leases (R203). -/
theorem State.cellFault_effect (hwf : twf s.sea.cells = true) {n : Nat} (h : ¬ ((s.cell n).Out ∨ (s.cell n).state = .absent)) (st : Nat)
    (cq : Option Nat) : ((s.cellFault n st cq).cell n).state = .faulted ∧
      ((s.cellFault n st cq).cell n).hgen = ((s.cell n).hgen + 1) % 65536 ∧ ((s.cellFault n st cq).cell n).work = [] ∧
      ∀ k l, tfind (s.cellFault n st cq).sea.leases k = some l → l.holder ≠ n := by
  have hvoid := s.voided_cellFault h st cq
  have hrec := ((s.fault_faulted n).trans (s.faulted_voided n)).trans hvoid
  have hcell : ((s.audioLost n).modCell n (Cell.fault (s.audioLost n).sec32 (s.audioLost n).now)).cell n =
      (s.cell n).fault (s.audioLost n).sec32 (s.audioLost n).now := by simp
  have hstays := hrec.out (twf_tset _ _ _ ((s.audioLost_recovers n).rising hwf)) n (by rw [hcell]; exact .inl rfl)
  rw [hcell] at hstays
  refine ⟨hstays.state, hstays.hgen, hstays.work rfl, fun k l hl => ?_⟩
  obtain ⟨l0, hl0, he⟩ := hvoid.holder k l hl
  exact he ▸ s.voided_holder n k l0 hl0

/-! ### Quarantine (R205, R212) -/

/-- A cell as its quarantine leaves it. -/
def Cell.quarantined (sec : Nat) (c : Cell) : Cell :=
  { c.clearRegs with
    state := .quarantined, changed := sec, caste := .reserve, toQuarantine := false, loading := false, work := [], scratchUsed := false
    returnTest := false }

theorem State.quarantine_eq (n : Nat) : s.quarantine n =
    ((s.modCell n (Cell.quarantined s.sec32)).raiseDev 0x0605 srcDrover n).refillOne (s.cell n).caste := by
  have hcell := s.modCell_modCell n (fun c => { c with state := .quarantined, changed := s.sec32 }) (fun c =>
    { c.clearRegs with
      caste := .reserve, toQuarantine := false, loading := false, work := [], scratchUsed := false, returnTest := false })
  unfold State.quarantine State.setCell
  rw [hcell]
  rfl

theorem State.quarantine_recovers (n : Nat) : (s.modCell n (Cell.quarantined s.sec32)).Recovers (s.quarantine n) := by
  rw [State.quarantine_eq]
  exact (State.Recovers.of_raiseDev _ _ _ _ _).trans (State.refillOne_recovers _ _)

variable {s} in
theorem State.quarantine_effect (hwf : twf s.sea.cells = true) (n : Nat) :
    ((s.quarantine n).cell n).state = .quarantined ∧ ((s.quarantine n).cell n).work = [] := by
  have hcell : (s.modCell n (Cell.quarantined s.sec32)).cell n = (s.cell n).quarantined s.sec32 := s.cell_modCell_same n _
  have hstays := (s.quarantine_recovers n).out (twf_tset _ _ _ hwf) n (by rw [hcell]; exact .inr rfl)
  rw [hcell] at hstays
  exact ⟨hstays.state, hstays.work rfl⟩

theorem State.quarantine_keepsIslands (n : Nat) : s.KeepsIslands (s.quarantine n) :=
  State.KeepsIslands.trans (b := s.modCell n (Cell.quarantined s.sec32)) (.of_same rfl rfl rfl) (s.quarantine_recovers n).toKeepsIslands

theorem State.quarantineAll_keepsIslands (cells : List Nat) : s.KeepsIslands (s.quarantineAll cells) := by
  refine .foldl s _ (fun s n => ?_) cells
  split
  · exact .refl s
  · exact (s.cellFault_recovers n _ _).toKeepsIslands.trans (State.quarantine_keepsIslands _ n)

end Sys2Proof.Machine
end

section
/-! PROOFS. Cells that move between castes, fault and return (R190, R191, R203, R205, R207, R209, R212). -/

namespace Sys2Proof.Machine
open Sys2Proof.Say

section
variable (s : State)

/-! ### A MOVING cell is emptied (R190, R212) -/

theorem State.drainAll_of_empty {n : Nat} (h : (s.cell n).stores = []) : s.drainAll n = s := by simp [State.drainAll, h]

@[simp] theorem State.store_sea (a : Nat) (bs : List Byte) : (s.store a bs).sea = s.sea := by rw [State.store_frame]

@[simp] theorem State.storeCap_sea (a : Nat) (r : CapReg) : (s.storeCap a r).sea = s.sea := by
  unfold State.storeCap
  dsimp only
  split <;> exact s.store_sea _ _

@[simp] theorem State.fillLine_sea (k line : Nat) : (s.fillLine k line).sea = s.sea := by
  unfold State.fillLine State.loadBytes
  dsimp only
  split
  · rfl
  · split <;> rfl

/-- A fold of steps each of which lists the cells in rising order still. -/
theorem foldl_rising {α : Type} (f : State → α → State)
    (hf : ∀ (s : State) x, twf s.sea.cells = true → twf (f s x).sea.cells = true) (l : List α) (s : State) :
    twf s.sea.cells = true → twf (l.foldl f s).sea.cells = true :=
  foldl_rel (fun a b : State => twf a.sea.cells = true → twf b.sea.cells = true) (fun _ => id) (fun _ _ _ h1 h2 h => h2 (h1 h)) f hf l s

variable {s} in
theorem State.ownLine_rising (n line : Nat) (h : twf s.sea.cells = true) : twf (s.ownLine n line).sea.cells = true := by
  unfold State.ownLine
  refine twf_tset _ _ _ (foldl_rising _ (fun s p hs => ?_) _ _ (by rwa [State.fillLine_sea]))
  split
  · exact hs
  · split
    · exact twf_tset _ _ _ hs
    · exact hs

variable {s} in
theorem State.drainAll_rising (n : Nat) : twf s.sea.cells = true → twf (s.drainAll n).sea.cells = true := by
  refine foldl_rising _ (fun s _ hs => ?_) _ s
  unfold State.drainOne
  split
  · exact hs
  · have hpopped (r : List StoreEntry) : twf (s.modCell n (fun c => { c with stores := r })).sea.cells = true := twf_tset _ _ _ hs
    dsimp only
    split
    · exact State.ownLine_rising n _ (hpopped _)
    · split
      · rw [State.storeCap_sea]
        exact hpopped _
      · rw [State.store_sea]
        exact hpopped _

/-- A cell as it leaves its caste: nothing buffered or cached, nothing in its registers or in its scratch (R190). -/
def State.vacated (s : State) (n : Nat) : State :=
  ((s.drainAll n).dropLines n).modCell n (fun c => { c.clearRegs with scratchUsed := false })

theorem exec_casteImageLoad_of_canLeave {s : State} {n : Nat} (t : Nat) (h : s.canLeave n = true) :
    exec (.casteImageLoad t n) s = .next (if (((s.tick t).vacated n).cell n).toQuarantine then ((s.tick t).vacated n).quarantine n
      else ((s.tick t).vacated n).modCell n (fun c => { c with loading := true })) := by
  have hleave : ¬ (!(s.tick t).canLeave n) = true := by simp [h]
  exact (if_neg hleave).trans (apply_ite Host.Outcome.next _ _ _).symm

theorem State.cell_dropLines_same (n : Nat) : (s.dropLines n).cell n = { s.cell n with l1 := [] } := State.cell_modCell_same _ n _

theorem State.toQuarantine_vacated (n : Nat) : ((s.vacated n).cell n).toQuarantine = (s.cell n).toQuarantine := by
  have hdrained := congrArg Cell.toQuarantine ((s.drainAll_drains n).cell n)
  rw [State.vacated, State.cell_modCell_same, State.cell_dropLines_same]
  exact hdrained

variable {s} in
theorem State.vacated_rising (n : Nat) (h : twf s.sea.cells = true) : twf (s.vacated n).sea.cells = true :=
  twf_tset _ _ _ ((State.dropLines_recovers _ n).rising (State.drainAll_rising n h))

/-- With its store buffer empty, a cell is emptied and its image loads by one change of itself and one of the directory (R190). -/
theorem State.loading_vacated_of_empty {n : Nat} (h : (s.cell n).stores = []) :
    (s.vacated n).modCell n (fun c => { c with loading := true }) =
      { s.modCell n (fun c => { c.clearRegs with l1 := [], scratchUsed := false, loading := true }) with
        mem := { s.mem with lines := (s.dropLines n).mem.lines } } := by
  rw [State.vacated, s.drainAll_of_empty h, State.modCell_modCell]
  exact State.modCell_modCell _ n _ _

/-- A cell arrived in the caste it moved to. -/
def State.arrived (s : State) (n : Nat) : State :=
  (s.setCell n .available).modCell n (fun c => { c with caste := c.next, loading := false })

/-- The end of a move, when the image of the caste moved into has loaded (R190). -/
theorem exec_casteMoveDone_of_loaded {s : State} {cell : Nat} (t : Nat) (hst : (s.cell cell).state = .moving)
    (hload : (s.cell cell).loading = true) : exec (.casteMoveDone t cell) s = .next (
      if (s.cell cell).toQuarantine then (s.tick t).quarantine cell
      else if (s.cell cell).next = .audio then
        (if (s.cell cell).next = .reserve then ((s.tick t).arrived cell).refillShort else (s.tick t).arrived cell).assignBuses
      else if (s.cell cell).next = .reserve then ((s.tick t).arrived cell).refillShort else (s.tick t).arrived cell) := by
  have hmoves : ¬ (((s.tick t).cell cell).state ≠ .moving ∨ (!((s.tick t).cell cell).loading) = true) := by simp [hst, hload]
  have hexec : exec (.casteMoveDone t cell) s = execCasteMoveDone t cell s := rfl
  rw [hexec, execCasteMoveDone, if_neg hmoves, State.tick_cell]
  exact (apply_ite Host.Outcome.next _ _ _).symm

/-! ### Castes grow from Reserve (R191) -/

variable {s} in
theorem State.fill_one {c : Caste} {n : Nat} {rest : List Nat} (hc : c ≠ .audio) (h : s.lowest .reserve (fun _ => true) = n :: rest) :
    (s.fill c 1).2 = s.moveTo n c := by simp [State.fill, hc, h]

/-- A placement that has waited 1 ms waits for the next growth from then on (R191). -/
def State.waitedAgain (s : State) (w : Waiting) : State := s.modSea (fun a => { a with
  waiting := a.waiting.map (fun x => if x = w then { x with since := x.since + 1000000 } else x) })

theorem exec_casteGrow_of_due {s : State} {t caste n : Nat} {w : Waiting} {rest : List Nat} (h4 : caste ≤ 4) (h2 : caste ≠ 2)
    (hw : s.sea.waiting = [w]) (hc : w.caste = casteOf caste) (hdue : w.since + 1000000 ≤ (s.tick t).now)
    (hmax : s.casteSize (casteOf caste) + 1 ≤ s.cfg.casteMax caste) (hl : s.lowest .reserve (fun _ => true) = n :: rest) :
    exec (.casteGrow t caste) s = .next (((s.tick t).waitedAgain w).moveTo n (casteOf caste)) := by
  have haudio : casteOf caste ≠ .audio := by
    interval_cases caste <;> simp_all [casteOf]
  have hfind : (s.tick t).sea.waiting.find? (fun w => w.caste == casteOf caste && decide (w.since + 1000000 ≤ (s.tick t).now)) = some w := by
    simp [hw, hc, hdue]
  have hroom : ¬ (4 < caste ∨ (s.tick t).cfg.casteMax caste < (s.tick t).casteSize (casteOf caste) + 1) := by
    simp only [State.tick_cfg, State.tick_casteSize]
    omega
  have hlow : ((s.tick t).waitedAgain w).lowest .reserve (fun _ => true) = n :: rest := (s.tick_lowest t _ _).trans hl
  have hexec : exec (.casteGrow t caste) s = execCasteGrow t caste s := rfl
  rw [hexec, execCasteGrow, hfind]
  simp only [if_neg haudio, if_neg hroom]
  exact congrArg Host.Outcome.next (State.fill_one haudio hlow)

/-! ### Leases that expire (R203) -/

theorem exec_leaseExpired_of_expired {s : State} {t n : Nat} {l : Lease} (hl : tfind s.sea.leases n = some l)
    (hgen : l.hgen = (s.cell l.holder).hgen) (hheld : (s.tick t).leaseHeld l = false) : exec (.leaseExpired t n) s =
      .next (((s.tick t).raiseDev 0x0604 srcDrover l.holder).cellFault l.holder 0x0401 none) := by
  have hexec : exec (.leaseExpired t n) s = execLeaseExpired t n s := rfl
  rw [hexec, execLeaseExpired, State.tick_sea, hl]
  exact if_neg (by simp [hgen, hheld])

theorem exec_leaseExpired_of_held {s : State} {t n : Nat} {l : Lease} (hl : tfind s.sea.leases n = some l)
    (hheld : (s.tick t).leaseHeld l = true) : exec (.leaseExpired t n) s = .next (s.tick t) := by
  have hexec : exec (.leaseExpired t n) s = execLeaseExpired t n s := rfl
  rw [hexec, execLeaseExpired, State.tick_sea, hl]
  exact if_pos (.inr hheld)

/-! ### Cells that return (R205) -/

variable {s} in
/-- With nothing reported short and no Audio cell there is nothing to refill. -/
theorem State.refillShort_of_none (hs : s.sea.shortRaised = []) (hc : ∀ j, (s.cell j).caste ≠ .audio) : s.refillShort = s := by
  have hspare : s.spareCells = [] := by
    refine List.eq_nil_iff_forall_not_mem.mpr fun n hn => ?_
    obtain ⟨x, -, -, -, hmate⟩ := State.mem_lowest hn
    simp only [Bool.and_eq_true, beq_iff_eq] at hmate
    exact hc _ hmate.1
  simp [State.refillShort, hspare, hs]

/-- A cell back in Reserve after its check (R205). -/
def State.returned (s : State) (n : Nat) : State := (s.setCell n .available).modCell n (fun c => { c with caste := .reserve })

theorem State.returned_eq (n : Nat) :
    s.returned n = s.modCell n (fun c => { c with state := .available, changed := s.sec32, caste := .reserve }) :=
  s.modCell_modCell n _ _

theorem State.cell_returned (n : Nat) :
    (s.returned n).cell n = { s.cell n with state := .available, changed := s.sec32, caste := .reserve } := by
  rw [State.returned_eq, State.cell_modCell_same]

theorem State.cell_returned_ne {n k : Nat} (h : k ≠ n) : (s.returned n).cell k = s.cell k := by
  rw [State.returned_eq, s.cell_modCell_ne _ h]

variable {s} in
theorem State.refillShort_returned (n : Nat) (hs : s.sea.shortRaised = []) (hc : ∀ j, (s.cell j).caste ≠ .audio) :
    (s.returned n).refillShort = s.returned n := by
  refine State.refillShort_of_none hs fun j => ?_
  by_cases hj : j = n
  · rw [hj, State.cell_returned]
    exact Caste.noConfusion
  · rw [s.cell_returned_ne hj]
    exact hc j

end

/-- A cell check that ends passes the cell on, by its result, its faults and what the PF asked for (R205). -/
theorem exec_cellCheckDone_of_sentinel {s : State} {cell k : Nat} (t : Nat) (pass : Bool) (hwf : twf s.sea.cells = true)
    (hst : (s.cell cell).state = .faulted) (hk : (s.cell k).state = .available) (hkc : (s.cell k).caste = .sentinel)
    (hkw : (s.cell k).work = []) (hmem : k ∈ tkeys s.sea.cells) (hl2 : s.sea.l2Check.contains (clusterOf cell) = false)
    (hrun : (tget s.isl.islands (clusterOf cell) {} : Island).state = .run) :
    exec (.cellCheckDone t cell pass) s = .next (
      let s1 := (s.tick t).recordTest 0 cell (if pass then .pass else .fail) 0
      if !pass then (s1.quarantine cell).testFailedFree 0 cell
      else if (s.cell cell).toQuarantine || decide (s1.devN 0x06C7 ≤ s1.faults24 cell) then s1.quarantine cell
      else (s1.returned cell).refillShort) := by
  have hsentinel : s.sea.cells.any (fun p => p.2.state == .available && p.2.caste == .sentinel && p.2.work.isEmpty) = true := by
    obtain ⟨p, hp, rfl⟩ := List.mem_map.mp hmem
    rw [State.cell_of_mem hwf hp] at hk hkc hkw
    exact List.any_eq_true.mpr ⟨p, hp, by simp [hk, hkc, hkw]⟩
  have hexec : exec (.cellCheckDone t cell pass) s = execCellCheckDone t cell pass s := rfl
  rw [hexec, execCellCheckDone]
  simp only [State.tick_cell, State.tick_sea, State.tick_isl, hst, hsentinel, hl2, hrun]
  cases pass
  · rfl
  · exact (apply_ite Host.Outcome.next _ _ _).symm

theorem State.cell_testFailedFree (s : State) (cls num k : Nat) : (s.testFailedFree cls num).cell k = s.cell k :=
  State.cell_of_cells (by simp [State.testFailedFree, State.testFailed]) k

/-! ### The obligation -/

theorem castesMove : castesMoveSay := by
  intro t cell s hformed s0 c
  have hwf : twf s.sea.cells = true := hformed.1
  have hwf0 : twf s0.sea.cells = true := by rwa [State.tick_sea]
  have hcell (k : Nat) : s0.cell k = s.cell k := s.tick_cell t k
  refine ⟨fun hleave hstores hq => ?emptied, fun hleave hq => ?toQuarantine, fun hleave => ?stays, fun hst hload hq hres haud => ?moved,
    fun hst hload hq => ?quarantined, fun caste w n rest h4 h2 hw hc hdue hmax hl => ?grown, fun p hdue hready hwait => ?switched,
    fun p hdue => ?notDue⟩
  case emptied =>
    have hmoving : (s.cell cell).state = .moving := by
      simp only [State.canLeave, Bool.and_eq_true, beq_iff_eq] at hleave
      exact hleave.1.1.1
    have hkeep : ¬ ((s0.vacated cell).cell cell).toQuarantine = true := by
      rw [State.toQuarantine_vacated, hcell, Bool.not_eq_true]
      exact hq
    refine ⟨_, (exec_casteImageLoad_of_canLeave t hleave).trans (congrArg Host.Outcome.next (if_neg hkeep)), ?_⟩
    rw [s0.loading_vacated_of_empty (by rwa [hcell])]
    have hself := s0.cell_modCell_same cell (fun c => { c.clearRegs with l1 := [], scratchUsed := false, loading := true })
    rw [hcell] at hself
    refine ⟨congrArg Cell.loading hself, (congrArg Cell.state hself).trans hmoving, congrArg Cell.l1 hself, congrArg Cell.c hself,
      congrArg Cell.gr hself, congrArg Cell.scratchUsed hself, fun k hk => (s0.cell_modCell_ne _ hk).trans (hcell k), ?_⟩
    rw [← s.tick_sea t, ← s.tick_mem t]
    rfl
  case toQuarantine =>
    have hleaves : ((s0.vacated cell).cell cell).toQuarantine = true := by
      rw [State.toQuarantine_vacated, hcell]
      exact hq
    exact ⟨_, (exec_casteImageLoad_of_canLeave t hleave).trans (congrArg Host.Outcome.next (if_pos hleaves)),
      State.quarantine_effect (State.vacated_rising cell hwf0) cell⟩
  case stays => exact if_pos (by simpa using hleave)
  case moved =>
    refine (exec_casteMoveDone_of_loaded t hst hload).trans (congrArg Host.Outcome.next ((if_neg (Bool.eq_false_iff.mp hq)).trans ?_))
    rw [if_neg haud, if_neg hres]
    exact State.modCell_modCell _ _ _ _
  case quarantined =>
    exact ⟨_, (exec_casteMoveDone_of_loaded t hst hload).trans (congrArg Host.Outcome.next (if_pos hq)), (State.quarantine_effect hwf0 cell).1⟩
  case grown =>
    refine ⟨_, exec_casteGrow_of_due h4 h2 hw hc hdue hmax hl, ?_⟩
    rw [State.moveTo_frame]
    have hself := (s0.waitedAgain w).cell_modCell_same n (fun x =>
      { x with state := .moving, changed := (s0.waitedAgain w).sec32, next := casteOf caste, loading := false })
    refine ⟨congrArg Cell.state hself, congrArg Cell.next hself,
      fun k hk => ((s0.waitedAgain w).cell_modCell_ne _ hk).trans (hcell k), ?_, ?_⟩
    · simp [State.waitedAgain, State.modCell, State.modSea, hw]
    · rw [← s.tick_sea t]
      rfl
  case switched =>
    have hwaits : s.switchWaits p = false := (s.tick_switchWaits t p).symm.trans hwait
    refine ⟨_, if_pos (by simp [hdue, hready, hwaits]), ?_, fun k hk => ?_, ?_⟩
    · simp [State.pair, State.modSea, State.modTest]
    · simp [State.pair, State.modSea, State.modTest, hk.symm]
    · rw [← s.tick_sea t]
      rfl
  case notDue => exact if_neg (by simp [hdue])

theorem cellFaults : cellFaultsSay := by
  refine ⟨fun t n s l hformed hl hgen hheld hst => ?expired, fun t n s l hl hheld => ?held,
    fun t cell k s hformed hst hk hkc hkw hmem hl2 hrun => ⟨?failed, fun hq hfaults hshort haud => ?passed⟩⟩
  case expired =>
    have hwf : twf ((s.tick t).raiseDev 0x0604 srcDrover l.holder).sea.cells = true := by simpa using hformed.1
    have hcell : ((s.tick t).raiseDev 0x0604 srcDrover l.holder).cell l.holder = s.cell l.holder := State.cell_of_cells (by simp) _
    have hin : ¬ ((((s.tick t).raiseDev 0x0604 srcDrover l.holder).cell l.holder).Out ∨
        (((s.tick t).raiseDev 0x0604 srcDrover l.holder).cell l.holder).state = .absent) := by
      rw [hcell]
      simp [Cell.Out, hst]
    obtain ⟨hstate, hnext, hwork, hleases⟩ := State.cellFault_effect hwf hin 0x0401 none
    rw [hcell] at hnext
    exact ⟨_, exec_leaseExpired_of_expired hl hgen hheld, hstate, hnext, hwork, hleases⟩
  case held => exact exec_leaseExpired_of_held hl hheld
  case failed =>
    have hwf : twf ((s.tick t).recordTest 0 cell .fail 0).sea.cells = true := by simpa [State.recordTest] using hformed.1
    refine ⟨_, exec_cellCheckDone_of_sentinel t false hformed.1 hst hk hkc hkw hmem hl2 hrun, ?_⟩
    exact (congrArg Cell.state (State.cell_testFailedFree _ _ _ _)).trans (State.quarantine_effect hwf cell).1
  case passed =>
    have hgood : ¬ ((s.cell cell).toQuarantine || decide (((s.tick t).recordTest 0 cell .pass 0).devN 0x06C7 ≤
        ((s.tick t).recordTest 0 cell .pass 0).faults24 cell)) = true := by
      have hdev : ((s.tick t).recordTest 0 cell .pass 0).devN 0x06C7 = s.devN 0x06C7 := s.tick_devN t 0x06C7
      have hcount : ((s.tick t).recordTest 0 cell .pass 0).faults24 cell = (s.tick t).faults24 cell := rfl
      simp [hq, hdev, hcount, hfaults]
    have hcell (j : Nat) : ((s.tick t).recordTest 0 cell .pass 0).cell j = s.cell j := s.tick_cell t j
    have hrefill : (((s.tick t).recordTest 0 cell .pass 0).returned cell).refillShort =
        ((s.tick t).recordTest 0 cell .pass 0).returned cell :=
      State.refillShort_returned cell ((congrArg Sea.shortRaised (s.tick_sea t)).trans hshort) fun j => by rw [hcell]; exact haud j
    refine ⟨((s.tick t).recordTest 0 cell .pass 0).returned cell, ?_, ?_, ?_, fun j hj => ?_⟩
    · rw [exec_cellCheckDone_of_sentinel t true hformed.1 hst hk hkc hkw hmem hl2 hrun, ← hrefill]
      exact congrArg Host.Outcome.next (if_neg hgood)
    · rw [State.cell_returned]
    · rw [State.cell_returned]
    · rw [State.cell_returned_ne _ hj, hcell]

/-- Settles O39: the moves between castes, and the faults and checks of cells; what recovery does besides leaves the cell out of service
as it is. -/
theorem cellsMoveAndFault : Obligations.CellsMoveAndFault := ⟨castesMove, cellFaults⟩

end Sys2Proof.Machine
end

section
/-! PROOFS. Resets of clusters and of die links: what each makes of its island or its link, and what it leaves (R203, R206, R366 to R369,
R373). -/

namespace Sys2Proof.Machine

variable (s : State)

/-! ### One island, one link -/

@[simp] theorem State.island_modIsland_same (n : Nat) (f : Island → Island) : (s.modIsland n f).island n = f (s.island n) := by
  simp [State.island, State.modIsland]

theorem State.island_modIsland_ne {n k : Nat} (f : Island → Island) (h : k ≠ n) : (s.modIsland n f).island k = s.island k := by
  simp [State.island, State.modIsland, h.symm]

@[simp] theorem State.link_modLink_same (d : Nat) (f : DieLink → DieLink) : (s.modLink d f).link d = f (s.link d) := by
  simp [State.link, State.modLink]

theorem State.link_modLink_ne {d k : Nat} (f : DieLink → DieLink) (h : k ≠ d) : (s.modLink d f).link k = s.link k := by
  simp [State.link, State.modLink, h.symm]

theorem State.island_of_isl {s s' : State} (h : s'.isl = s.isl) (n : Nat) : s'.island n = s.island n := by simp [State.island, h]

theorem State.link_of_isl {s s' : State} (h : s'.isl = s.isl) (d : Nat) : s'.link d = s.link d := by simp [State.link, h]

@[simp] theorem State.island_raiseDev (code src data n : Nat) (e : Option (Word × Word × Word)) :
    (s.raiseDev code src data e).island n = s.island n := State.island_of_isl (by simp) n

@[simp] theorem State.link_raiseDev (code src data d : Nat) (e : Option (Word × Word × Word)) :
    (s.raiseDev code src data e).link d = s.link d := State.link_of_isl (by simp) d

@[simp] theorem State.island_count (g n i b k : Nat) : (s.count g n i b).island k = s.island k := State.island_of_isl (by simp) k

@[simp] theorem State.link_count (g n i b d : Nat) : (s.count g n i b).link d = s.link d := State.link_of_isl (by simp) d

@[simp] theorem DieLink.dir_setDir (l : DieLink) (d : Nat) (x : LinkDir) : (l.setDir d x).dir d = x := by
  unfold DieLink.setDir DieLink.dir
  split <;> rfl

@[simp] theorem DieLink.state_setDir (l : DieLink) (d : Nat) (x : LinkDir) : (l.setDir d x).state = l.state := by
  unfold DieLink.setDir
  split <;> rfl

@[simp] theorem DieLink.retrains_setDir (l : DieLink) (d : Nat) (x : LinkDir) : (l.setDir d x).retrains = l.retrains := by
  unfold DieLink.setDir
  split <;> rfl

theorem mem_linsert (l : List Nat) (k : Nat) : k ∈ linsert l k := by
  induction l with
  | nil => exact List.mem_cons_self
  | cons j r ih =>
    unfold linsert
    split
    · exact List.mem_cons_self
    · split
      · rename_i h
        exact h ▸ List.mem_cons_self
      · exact List.mem_cons_of_mem _ ih

/-! ### A cluster's reset (R203, R366, R367) -/

theorem State.KeepsIslands.of_raiseDev (code src data : Nat) (e : Option (Word × Word × Word)) :
    s.KeepsIslands (s.raiseDev code src data e) := (State.Recovers.of_raiseDev s code src data e).toKeepsIslands

theorem State.ackFor_keepsIslands (n : Nat) : s.KeepsIslands (s.ackFor n) := by
  unfold State.ackFor State.ackHeld
  dsimp only
  split
  · exact .of_same rfl rfl rfl
  · split
    · split
      · rw [State.complete_take_frame]
        exact .of_same rfl rfl rfl
      · exact .of_same rfl rfl rfl
    · exact .of_same rfl rfl rfl

/-- The reset of a cluster up to its cells: a test of its L2 ended, its cells FAULTED. -/
def State.cellsLost (s : State) (n : Nat) : State :=
  let s := if s.test.l2.contains n then
      ((match tfind s.test.loans (1024 + n) with
        | some c => s.dropWorkOn c (.check (1024 + n))
        | none => s).endL2 n)
    else s
  let s := { s with test := { s.test with loans := terase s.test.loans (1024 + n) } }
  (List.range 8).foldl (fun s p => s.cellFault (8 * n + p) 0x0401 none) s

theorem State.cellsLost_recovers (n : Nat) : s.Recovers (s.cellsLost n) := by
  have htested : s.Recovers (if s.test.l2.contains n then
      ((match tfind s.test.loans (1024 + n) with
        | some c => s.dropWorkOn c (.check (1024 + n))
        | none => s).endL2 n)
    else s) := by
    refine .ite s (State.Recovers.trans ?_ (State.endL2_recovers _ n)) (.refl s)
    split
    · exact s.dropWorkOn_recovers _ _
    · exact .refl s
  exact (htested.trans (.of_test _ _)).trans (.foldl _ _ (fun s1 p => s1.cellFault_recovers _ _ _) _)

/-- A cluster isolated in reset, its lines lost, an L2 check asked for (R206, R366). -/
def State.clusterIsolated (s : State) (n : Nat) : State :=
  ((s.free.2.dropCluster n).modIsland n (fun i =>
    { i with state := .reset, isolated := true, resetAt := s.free.2.now, heldTransfers := s.free.1 })).modSea
      (fun a => { a with l2Check := linsert a.l2Check n })

theorem State.resetIsland_eq (n : Nat) : s.resetIsland n =
    ((((s.cellsLost n).clusterIsolated n).loseCredits n).auditRequest (dieOf n)).ackFor n := rfl

theorem State.island_clusterIsolated (n : Nat) : (s.clusterIsolated n).island n =
    { s.island n with state := .reset, isolated := true, resetAt := s.now, heldTransfers := s.free.1 } :=
  State.island_modIsland_same (s.free.2.dropCluster n) n _

theorem State.island_clusterIsolated_ne {n k : Nat} (h : k ≠ n) : (s.clusterIsolated n).island k = s.island k :=
  State.island_modIsland_ne (s.free.2.dropCluster n) _ h

theorem State.l2Check_clusterIsolated (n : Nat) : (s.clusterIsolated n).sea.l2Check = linsert s.sea.l2Check n := rfl

theorem State.loseCredits_keepsIslands (n : Nat) : s.KeepsIslands (s.loseCredits n) := .of_modLink s _ _ fun _ => rfl

theorem State.clusterIsolated_resetIsland (n : Nat) : ((s.cellsLost n).clusterIsolated n).KeepsIslands (s.resetIsland n) := by
  rw [State.resetIsland_eq]
  generalize (s.cellsLost n).clusterIsolated n = s1
  exact ((s1.loseCredits_keepsIslands n).trans (State.auditRequest_recovers _ _).toKeepsIslands).trans (State.ackFor_keepsIslands _ n)

/-- What a cluster's reset makes of the islands (R366, R367). -/
theorem State.island_resetIsland (n : Nat) : (s.resetIsland n).island n =
    { s.island n with state := .reset, isolated := true, resetAt := s.now, heldTransfers := (s.cellsLost n).free.1 } := by
  have hlost := (s.cellsLost_recovers n).toKeepsIslands
  rw [(s.clusterIsolated_resetIsland n).island, State.island_clusterIsolated, hlost.island, hlost.now]

theorem State.island_resetIsland_ne {n k : Nat} (h : k ≠ n) : (s.resetIsland n).island k = s.island k := by
  rw [(s.clusterIsolated_resetIsland n).island, State.island_clusterIsolated_ne _ h, (s.cellsLost_recovers n).island]

theorem State.mem_l2Check_resetIsland (n : Nat) : n ∈ (s.resetIsland n).sea.l2Check := by
  rw [(s.clusterIsolated_resetIsland n).checks, State.l2Check_clusterIsolated]
  exact mem_linsert _ n

/-! ### Traps (R147, R378) -/

theorem State.drainAll_keepsIslands (n : Nat) : s.KeepsIslands (s.drainAll n) := by
  rw [(s.drainAll_drains n).frame]
  exact .of_same rfl rfl rfl

theorem State.faultRecord_keepsIslands (n cause : Nat) (i : TrapInfo) : s.KeepsIslands (s.faultRecord n cause i) := by
  unfold State.faultRecord
  dsimp only
  rw [State.raise_frame]
  exact .of_same rfl rfl rfl

theorem State.trap_keepsIslands (n cause : Nat) (i : TrapInfo) (cq : Option Nat) : s.KeepsIslands (s.trap n cause i cq) := by
  have hlogged := ((s.drainAll_keepsIslands n).trans (State.Recovers.of_count _ 5 n 2 1).toKeepsIslands).trans
    (State.faultRecord_keepsIslands _ n cause i)
  refine hlogged.trans ?_
  unfold State.trap
  dsimp only
  generalize ((s.drainAll n).count 5 n 2).faultRecord n cause i = logged
  have hcleared : logged.KeepsIslands (logged.modCell n (fun c => { c.clearRegs with scratchUsed := false })) := .of_same rfl rfl rfl
  split
  · exact (State.KeepsIslands.of_raiseDev _ _ _ _ _).trans (State.cellFault_recovers _ _ _ _).toKeepsIslands
  · split
    · exact hcleared.trans (State.endJob_recovers _ _ _ _ _).toKeepsIslands
    · exact hcleared.trans ((State.dropWorkOn_recovers _ _ _).trans (State.endWork_recovers _ _ _ _)).toKeepsIslands
    · exact hcleared

/-! ### A link that retrains or fails (R206, R368, R369, R373) -/

theorem State.endLinkFreeze_link (d : Nat) : (s.endLinkFreeze d).link d = { s.link d with frozen := none } := by
  unfold State.endLinkFreeze
  split
  · simp
  · rename_i h
    have hnone : (s.link d).frozen = none := by simpa using h
    rw [← hnone]

/-- A broken link retrains (R369). -/
def DieLink.broken (l : DieLink) : DieLink :=
  { l with state := .training, retrains := l.retrains + 1, toHub := { l.toHub with failures := 0 }
           fromHub := { l.fromHub with failures := 0 }, frozen := none }

theorem State.link_linkBroken (d : Nat) : (s.linkBroken d).link d = (s.link d).broken := by
  have hretrain : (s.retrain d).link d = (s.link d).broken := by
    rw [State.retrain, State.endLinkFreeze_link, State.link_modLink_same]
    rfl
  rw [← hretrain, ← State.link_raiseDev (s.retrain d) 0x0CC3 (srcDie d) 0]
  rfl

theorem DieLink.failures_broken (l : DieLink) (d : Nat) : (l.broken.dir d).failures = 0 := by
  unfold DieLink.dir
  split <;> rfl

/-- A link fails for good, with its die (R206, R368). -/
theorem State.linkFail_effect {d : Nat} (h : (s.link d).state ≠ .failed) :
    ((s.linkFail d).link d).state = .failed ∧ d ∈ (s.linkFail d).sea.deadDies := by
  have hexec : s.linkFail d = ((((s.modLink d (fun l => { l with state := .failed, auditing := false, auditAgain := false })).raiseDev
      0x0CC2 (srcDie d) 0).modSea (fun a => { a with deadDies := linsert a.deadDies d })).quarantineAll
      ((List.range 192).map (fun i => 192 * d + i))) := if_neg (by simpa using h)
  have hkeep := State.quarantineAll_keepsIslands (((s.modLink d (fun l => { l with
      state := .failed, auditing := false, auditAgain := false })).raiseDev 0x0CC2 (srcDie d) 0).modSea
      (fun a => { a with deadDies := linsert a.deadDies d })) ((List.range 192).map (fun i => 192 * d + i))
  rw [hexec, hkeep.link, hkeep.dead]
  refine ⟨?_, mem_linsert _ d⟩
  have hlink := State.link_raiseDev (s.modLink d (fun l => { l with state := .failed, auditing := false, auditAgain := false }))
    0x0CC2 (srcDie d) 0 d none
  exact (congrArg DieLink.state hlink).trans (by rw [State.link_modLink_same])

/-- A link that has trained on 8 lanes or more is UP, at full width from 16 on (R368). -/
theorem State.linkTrained_up {d good : Nat} (h : 8 ≤ good) :
    ((s.linkTrained d good).link d).state = .up ∧ ((s.linkTrained d good).link d).half = decide (good < 16) := by
  unfold State.linkTrained
  rw [if_neg (Nat.not_lt.mpr h)]
  have hlimit (s1 : State) (x : List Nat) : ({ s1 with isl := { s1.isl with dieLimit := x } } : State).link d = s1.link d := rfl
  dsimp only
  split <;> split <;> simp only [State.link_raiseDev, hlimit, State.link_modLink_same, and_self]

end Sys2Proof.Machine
end

section
/-! PROOFS. Island loops, timing errors and thermal steps (R366 to R368, R375 to R383, Table 14-5). -/

namespace Sys2Proof.Machine

section
variable {i : Island} {range : Nat × Nat} {cap low high m hold : Nat}

/-! ### The rows of Table 14-3 (R375 to R377) -/

theorem Island.decide_keeps : (i.decide range cap low high m hold).state = i.state ∧ (i.decide range cap low high m hold).errors = i.errors := by
  unfold Island.decide
  dsimp only
  split_ifs <;> exact ⟨rfl, rfl⟩

/-- Whichever row applies, without a flagged error the hold has one period less. -/
theorem Island.hold_decide (h : i.flagged = false) : (i.decide range cap low high m hold).hold = hold := by
  unfold Island.decide
  rw [if_neg (by simp [h])]
  dsimp only
  split_ifs <;> rfl

/-- Row 1: an error was flagged. -/
theorem Island.decide_of_flagged (h : i.flagged = true) : i.decide range cap low high m hold = { i with
    fcode := max range.1 (min (max range.1 (i.fcode - max 1 i.extraDown)) cap), vcode := min 70 (i.vcode + 1), hold := 100 } := if_pos h

/-- Row 2: the frequency stands above the cap. -/
theorem Island.decide_of_above (h : i.flagged = false) (hc : cap < i.fcode) :
    i.decide range cap low high m hold = { i with fcode := max range.1 (i.fcode - 1), hold } :=
  (if_neg (by simp [h])).trans (if_pos hc)

/-- Rows 3 and 4: the margin is below the low threshold. -/
theorem Island.decide_of_low (h : i.flagged = false) (hc : i.fcode ≤ cap) (hm : m < low) : i.decide range cap low high m hold =
    if i.vcode < 70 then { i with vcode := i.vcode + 1, hold } else { i with fcode := max range.1 (i.fcode - 1), hold } :=
  (if_neg (by simp [h])).trans ((if_neg (by omega)).trans (if_pos hm))

/-- Rows 5 and 6: the margin is above the high threshold and no hold runs. -/
theorem Island.decide_of_high (h : i.flagged = false) (hc : i.fcode ≤ cap) (hm : low ≤ m) (hh : high < m) (h0 : hold = 0) :
    i.decide range cap low high m hold =
      if i.fcode < cap then { i with fcode := i.fcode + 1, hold } else { i with vcode := i.vcode - 1, hold } :=
  (if_neg (by simp [h])).trans ((if_neg (by omega)).trans ((if_neg (by omega)).trans (if_pos (by simp [hh, h0]))))

/-- Row 7: the margin is between the thresholds, or a hold runs. -/
theorem Island.decide_of_within (h : i.flagged = false) (hc : i.fcode ≤ cap) (hm : low ≤ m) (hh : m ≤ high ∨ hold ≠ 0) :
    i.decide range cap low high m hold = { i with hold } :=
  (if_neg (by simp [h])).trans ((if_neg (by omega)).trans ((if_neg (by omega)).trans (if_neg (by simp; omega))))

end

section
variable (s : State)

/-- The outputs of an island's loop after a period whose margin is m; a frozen loop holds them (R380). -/
def State.loopOutputs (s : State) (n m : Nat) : Island :=
  if (s.island n).frozen.isSome then { s.island n with hold := (s.island n).hold - 1 }
  else (s.island n).decide (islandRange n) (s.islandCap n) (s.devN 0x0CC3) (s.devN 0x0CC4) m ((s.island n).hold - 1)

theorem State.loopOutputs_keeps (n m : Nat) :
    (s.loopOutputs n m).state = (s.island n).state ∧ (s.loopOutputs n m).errors = (s.island n).errors := by
  unfold State.loopOutputs
  split
  · exact ⟨rfl, rfl⟩
  · exact Island.decide_keeps

theorem exec_loopPeriod_of_stopped {s : State} {n : Nat} (t m : Nat) (h : s.islandPresent n = false ∨ (s.island n).state ≠ .run) :
    exec (.loopPeriod t n m) s = .next (s.tick t) := if_pos (by simpa using h)

/-- The outputs stood at a limit and the margin asks for more (R376). -/
def State.loopAtEnd (s : State) (n m : Nat) : Bool :=
  (s.island n).fcode == (islandRange n).1 && (s.island n).vcode == 70 && (s.loopOutputs n m).fcode == (islandRange n).1 &&
    (s.loopOutputs n m).vcode == 70 && decide (m < s.devN 0x0CC3)

/-- An island after a period whose margin is m. -/
def State.looped (s : State) (n m : Nat) : Island :=
  { s.loopOutputs n m with margin := m, flagged := false, extraDown := 0, limitRaised := s.loopAtEnd n m }

/-- The outputs by the rows of Table 14-3 (R375 to R377, R380). -/
theorem State.loopOutputs_rows (n m : Nat) :
    let i := s.island n
    let j := s.looped n (min 255 m)
    let low := s.devN 0x0CC3
    let high := s.devN 0x0CC4
    let lo := (islandRange n).1
    let cap := s.islandCap n
    (i.frozen.isSome = true → j.vcode = i.vcode ∧ j.fcode = i.fcode) ∧
    (i.frozen = none → i.flagged = true → j.vcode = min 70 (i.vcode + 1) ∧ j.hold = 100 ∧
      j.fcode = max lo (min (max lo (i.fcode - max 1 i.extraDown)) cap)) ∧
    (i.frozen = none → i.flagged = false → j.hold = i.hold - 1 ∧
      (cap < i.fcode → j.vcode = i.vcode ∧ j.fcode = max lo (i.fcode - 1)) ∧
      (i.fcode ≤ cap → min 255 m < low → i.vcode < 70 → j.vcode = i.vcode + 1 ∧ j.fcode = i.fcode) ∧
      (i.fcode ≤ cap → min 255 m < low → 70 ≤ i.vcode → j.vcode = i.vcode ∧ j.fcode = max lo (i.fcode - 1)) ∧
      (i.fcode ≤ cap → low ≤ min 255 m → high < min 255 m → i.hold ≤ 1 →
        (i.fcode < cap → j.vcode = i.vcode ∧ j.fcode = i.fcode + 1) ∧ (i.fcode = cap → j.vcode = i.vcode - 1 ∧ j.fcode = i.fcode)) ∧
      (i.fcode ≤ cap → low ≤ min 255 m → (min 255 m ≤ high ∨ 2 ≤ i.hold) → j.vcode = i.vcode ∧ j.fcode = i.fcode)) := by
  intro i j low high lo cap
  have hfrozen (h : i.frozen.isSome = true) : s.loopOutputs n (min 255 m) = { i with hold := i.hold - 1 } := if_pos h
  have hfree (h : i.frozen = none) : s.loopOutputs n (min 255 m) = i.decide (islandRange n) cap low high (min 255 m) (i.hold - 1) :=
    if_neg (by simp only [show (s.island n).frozen = none from h]; decide)
  have hv : j.vcode = (s.loopOutputs n (min 255 m)).vcode := rfl
  have hf : j.fcode = (s.loopOutputs n (min 255 m)).fcode := rfl
  have hh : j.hold = (s.loopOutputs n (min 255 m)).hold := rfl
  rw [hv, hf, hh]
  refine ⟨fun h => ?_, fun h hflag => ?_, fun h hflag => ⟨?_, fun hc => ?_, fun hc hm hvc => ?_, fun hc hm hvc => ?_,
    fun hc hm hhi hhold => ⟨fun hlt => ?_, fun heq => ?_⟩, fun hc hm hwithin => ?_⟩⟩
  · rw [hfrozen h]
    exact ⟨rfl, rfl⟩
  · rw [hfree h, Island.decide_of_flagged hflag]
    exact ⟨rfl, rfl, rfl⟩
  · rw [hfree h, Island.hold_decide hflag]
  · rw [hfree h, Island.decide_of_above hflag hc]
    exact ⟨rfl, rfl⟩
  · rw [hfree h, Island.decide_of_low hflag hc hm, if_pos hvc]
    exact ⟨rfl, rfl⟩
  · rw [hfree h, Island.decide_of_low hflag hc hm, if_neg (by omega)]
    exact ⟨rfl, rfl⟩
  · rw [hfree h, Island.decide_of_high hflag hc hm hhi (by omega), if_pos hlt]
    exact ⟨rfl, rfl⟩
  · rw [hfree h, Island.decide_of_high hflag hc hm hhi (by omega), if_neg (by omega)]
    exact ⟨rfl, rfl⟩
  · rw [hfree h, Island.decide_of_within hflag hc hm (by omega)]
    exact ⟨rfl, rfl⟩

theorem State.tick_looped (t n m : Nat) : (s.tick t).looped n m = s.looped n m := by
  simp only [State.looped, State.loopAtEnd, State.loopOutputs, State.tick_island, State.tick_islandCap, State.tick_devN]

theorem exec_loopPeriod_of_run {s : State} {n : Nat} (t m : Nat) (hp : s.islandPresent n = true) (hr : (s.island n).state = .run) :
    exec (.loopPeriod t n m) s = .next (if (s.tick t).loopAtEnd n (min 255 m) && !((s.tick t).island n).limitRaised
      then ((s.tick t).modIsland n (fun _ => (s.tick t).looped n (min 255 m))).raiseDev 0x0CC4 (srcIsland n) 0
      else (s.tick t).modIsland n (fun _ => (s.tick t).looped n (min 255 m))) := by
  have hrun : ¬ (!(s.tick t).islandPresent n || ((s.tick t).island n).state != .run) = true := by simp [hp, hr]
  exact if_neg hrun

/-- A period of a running loop changes its island, and nothing else but an event follows. -/
theorem exec_loopPeriod_effect {s : State} {n : Nat} (t m : Nat) (hp : s.islandPresent n = true) (hr : (s.island n).state = .run) :
    ∃ s', exec (.loopPeriod t n m) s = .next s' ∧
      s' = { (s.tick t).modIsland n (fun _ => s.looped n (min 255 m)) with evt := s'.evt, out := s'.out } := by
  refine ⟨_, exec_loopPeriod_of_run t m hp hr, ?_⟩
  rw [s.tick_looped]
  split
  · rw [State.raiseDev_frame]
  · rfl

/-! ### Timing errors (R378) -/

/-- The outcome of a timing error for its island, before the alarm of the error rate. -/
def Island.erred (again : Bool) (i : Island) : Island :=
  { i with
    flagged := true, errors := i.errors + (1 + b2n again), errorsTotal := satAdd (2 ^ 32 - 1) i.errorsTotal (1 + b2n again)
    extraDown := if again then 4 else i.extraDown
    replayTraps := if again then satAdd 65535 i.replayTraps 1 else i.replayTraps }

/-- The error counted, and a freeze of the loop ended. -/
def State.erred (s : State) (n : Nat) (again : Bool) : State :=
  ((s.count 15 n 0 (1 + b2n again)).modIsland n (Island.erred again)).endAvfsFreeze n

/-- The alarm of the error rate raised once an epoch. -/
def State.rateChecked (s : State) (n : Nat) : State :=
  if s.devN 0x0CC6 ≤ (s.island n).errors ∧ !(s.island n).rateRaised then
    (s.modIsland n (fun i => { i with rateRaised := true })).raiseDev 0x0CC5 (srcIsland n) 0 else s

theorem State.endAvfsFreeze_effect (n : Nat) : (s.endAvfsFreeze n).island n = { s.island n with frozen := none } ∧
    (∀ k, k ≠ n → (s.endAvfsFreeze n).island k = s.island k) ∧ (s.endAvfsFreeze n).stat = s.stat ∧ (s.endAvfsFreeze n).sea = s.sea := by
  unfold State.endAvfsFreeze
  split
  · refine ⟨by simp, fun k hk => ?_, by simp, by simp⟩
    rw [State.island_raiseDev, s.island_modIsland_ne _ hk]
  · rename_i h
    have hnone : (s.island n).frozen = none := by simpa using h
    exact ⟨by rw [← hnone], fun _ _ => rfl, rfl, rfl⟩

theorem State.rateChecked_effect (n : Nat) : (∃ b, (s.rateChecked n).island n = { s.island n with rateRaised := b }) ∧
    (∀ k, k ≠ n → (s.rateChecked n).island k = s.island k) ∧ (s.rateChecked n).stat = s.stat ∧ (s.rateChecked n).sea = s.sea := by
  unfold State.rateChecked
  split
  · refine ⟨⟨true, by simp⟩, fun k hk => ?_, by simp, by simp⟩
    rw [State.island_raiseDev, s.island_modIsland_ne _ hk]
  · exact ⟨⟨_, rfl⟩, fun _ _ => rfl, rfl, rfl⟩

/-- What a timing error makes of the islands and the counters. -/
theorem State.erred_effect (n : Nat) (again : Bool) : let s' := (s.erred n again).rateChecked n
    (∃ b, s'.island n = { (s.island n).erred again with frozen := none, rateRaised := b }) ∧ (∀ k, k ≠ n → s'.island k = s.island k) ∧
      s'.stat = (s.count 15 n 0 (1 + b2n again)).stat ∧ s'.sea = s.sea := by
  obtain ⟨hfrozen, hne, hstat, hsea⟩ := ((s.count 15 n 0 (1 + b2n again)).modIsland n (Island.erred again)).endAvfsFreeze_effect n
  obtain ⟨⟨b, hrate⟩, hne', hstat', hsea'⟩ := (s.erred n again).rateChecked_effect n
  refine ⟨⟨b, ?_⟩, fun k hk => ?_, hstat'.trans hstat, hsea'.trans (hsea.trans (by simp))⟩
  · rw [hrate, State.erred, hfrozen]
    simp
  · rw [hne' k hk, State.erred, hne k hk, State.island_modIsland_ne _ _ hk, State.island_count]

theorem exec_timingError_of_run {s : State} {t cell n : Nat} (again : Bool) (hc : cell ≤ 767) (hn : clusterOf cell = n)
    (ha : (s.cell cell).state = .available) (hr : (s.island n).state = .run) : exec (.timingError t cell again) s =
      .next (if again then (((s.tick t).erred n again).rateChecked n).trap cell 0x0F {} none else ((s.tick t).erred n again).rateChecked n) := by
  subst hn
  refine if_neg ?_
  simp [ha, hr, Nat.not_lt.mpr hc]

/-! ### Thermal samples (R381, R382) -/

/-- The temperature kept, and the warning entered or released. -/
def State.warmed (s : State) (n : Nat) (tj : Int) : State :=
  let warned := thermalStep (s.island n).warned tj (s.dev 0x0CC5)
  let s1 := s.modIsland n (fun i => { i with tj, warned })
  if warned && !(s.island n).warned then s1.raiseDev 0x0CC7 (srcIsland n) (tjCode tj) else s1

theorem State.warmed_effect (n : Nat) (tj : Int) :
    (s.warmed n tj).island n = { s.island n with tj, warned := thermalStep (s.island n).warned tj (s.dev 0x0CC5) } ∧
      ∀ k, k ≠ n → (s.warmed n tj).island k = s.island k := by
  unfold State.warmed
  dsimp only
  split
  · exact ⟨by simp, fun k hk => by rw [State.island_raiseDev, s.island_modIsland_ne _ hk]⟩
  · exact ⟨by simp, fun k hk => s.island_modIsland_ne _ hk⟩

/-- A hub island's critical step entered or released (Table 14-5). -/
def State.hubHeated (s : State) (n : Nat) (i : Island) (tj : Int) : State :=
  let s1 := s.modIsland n (fun j => { j with atFloor := thermalStep i.atFloor tj 115 })
  if thermalStep i.atFloor tj 115 && !i.atFloor then s1.raiseDev 0x0CC8 (srcIsland n) (tjCode tj) else s1

theorem State.hubHeated_effect (n : Nat) (i : Island) (tj : Int) :
    (s.hubHeated n i tj).island n = { s.island n with atFloor := thermalStep i.atFloor tj 115 } ∧
      ∀ k, k ≠ n → (s.hubHeated n i tj).island k = s.island k := by
  unfold State.hubHeated
  dsimp only
  split
  · exact ⟨by simp, fun k hk => by rw [State.island_raiseDev, s.island_modIsland_ne _ hk]⟩
  · exact ⟨by simp, fun k hk => s.island_modIsland_ne _ hk⟩

/-- The steps of a cluster short of the critical one, entered or released (Table 14-5). -/
def thermalSteps (warn tj : Int) (i : Island) : Island :=
  { i with capped := decide (warn < tj) || (i.capped && decide (warn - 5 < tj))
           atFloor := thermalStep i.atFloor tj 105, ineligible := thermalStep i.ineligible tj 110 }

/-- A cluster at its critical temperature is reset and held; one that was held leaves below the warning (R382). -/
def State.clusterHeated (s : State) (n : Nat) (i : Island) (tj warn : Int) : State :=
  if 112 ≤ tj then
    if i.state == .heldHot then s else
      ((if i.state == .run then (s.clusterEvent n 4).resetIsland n else s).modIsland n (fun i => { i with state := .heldHot })).raiseDev
        0x0CC8 (srcIsland n) (tjCode tj)
  else if i.state == .heldHot && decide (tj < warn) then s.modIsland n (fun i => { i with state := .reset })
  else s

/-- A cluster's event changes no island. -/
theorem State.island_clusterEvent (n cause k : Nat) : (s.clusterEvent n cause).island k = s.island k := s.island_raiseDev _ _ _ _ _

/-- What of an island neither a reset nor a change of its state touches. -/
structure Island.SameHeat (i j : Island) : Prop where
  tj : j.tj = i.tj
  warned : j.warned = i.warned
  atFloor : j.atFloor = i.atFloor
  ineligible : j.ineligible = i.ineligible

theorem State.clusterHeated_effect (n : Nat) (i : Island) (tj warn : Int) : let s' := s.clusterHeated n i tj warn
    (s.island n).SameHeat (s'.island n) ∧ (∀ k, k ≠ n → s'.island k = s.island k) ∧
      ((s.island n).state = i.state → (112 ≤ tj → (s'.island n).state = .heldHot) ∧
        (tj < 112 → tj < warn → i.state = .heldHot → (s'.island n).state = .reset) ∧
        (tj < 112 → i.state = .run → (s'.island n).state = .run)) := by
  unfold State.clusterHeated
  split
  · rename_i hhot
    split
    · rename_i hheld
      exact ⟨⟨rfl, rfl, rfl, rfl⟩, fun _ _ => rfl,
        fun hi => ⟨fun _ => hi.trans (beq_iff_eq.mp hheld), fun h => by omega, fun h => by omega⟩⟩
    · have hreset : (s.island n).SameHeat ((if i.state == .run then (s.clusterEvent n 4).resetIsland n else s).island n) ∧
          ∀ k, k ≠ n → (if i.state == .run then (s.clusterEvent n 4).resetIsland n else s).island k = s.island k := by
        split
        · refine ⟨?_, fun k hk => ?_⟩
          · rw [State.island_resetIsland, State.island_clusterEvent]
            exact ⟨rfl, rfl, rfl, rfl⟩
          · rw [State.island_resetIsland_ne _ hk, State.island_clusterEvent]
        · exact ⟨⟨rfl, rfl, rfl, rfl⟩, fun _ _ => rfl⟩
      generalize (if i.state == .run then (s.clusterEvent n 4).resetIsland n else s) = s1 at hreset
      obtain ⟨⟨htj, hwarned, hfloor, hinel⟩, hne⟩ := hreset
      have hself : ((s1.modIsland n (fun i => { i with state := .heldHot })).raiseDev 0x0CC8 (srcIsland n) (tjCode tj)).island n =
          { s1.island n with state := .heldHot } := by rw [State.island_raiseDev, State.island_modIsland_same]
      dsimp only
      rw [hself]
      exact ⟨⟨htj, hwarned, hfloor, hinel⟩, fun k hk => by rw [State.island_raiseDev, s1.island_modIsland_ne _ hk, hne k hk],
        fun _ => ⟨fun _ => rfl, fun h => by omega, fun h => by omega⟩⟩
  · rename_i hcool
    split
    · rename_i hheld
      simp only [Bool.and_eq_true, beq_iff_eq, decide_eq_true_eq] at hheld
      dsimp only
      rw [State.island_modIsland_same]
      exact ⟨⟨rfl, rfl, rfl, rfl⟩, fun k hk => s.island_modIsland_ne _ hk,
        fun _ => ⟨fun h => (hcool h).elim, fun _ _ _ => rfl, fun _ h => by simp [hheld.1] at h⟩⟩
    · rename_i hheld
      exact ⟨⟨rfl, rfl, rfl, rfl⟩, fun _ _ => rfl,
        fun hi => ⟨fun h => (hcool h).elim, fun _ hw hs => by simp [hw, hs] at hheld, fun _ h => hi.trans h⟩⟩

theorem State.next_clusterHeated (n : Nat) (i : Island) (tj warn : Int) :
    (Host.Outcome.next (s.clusterHeated n i tj warn) : Out) =
      if 112 ≤ tj then
        if i.state == .heldHot then .next s else
          .next (((if i.state == .run then (s.clusterEvent n 4).resetIsland n else s).modIsland n
            (fun i => { i with state := .heldHot })).raiseDev 0x0CC8 (srcIsland n) (tjCode tj))
      else if i.state == .heldHot && decide (tj < warn) then .next (s.modIsland n (fun i => { i with state := .reset }))
      else .next s := by
  unfold State.clusterHeated
  rw [apply_ite Host.Outcome.next, apply_ite Host.Outcome.next, apply_ite Host.Outcome.next]

section
variable {s} {n : Nat} (t : Nat) (tj : Int) (hp : s.islandPresent n = true) (ha : (s.island n).state ≠ .absent)
include hp ha

theorem thermalSample_live : ¬ (!(s.tick t).islandPresent n || ((s.tick t).island n).state == .absent) = true := by simp [hp, ha]

theorem exec_thermalSample_of_hub (h96 : 96 ≤ n) : exec (.thermalSample t n tj) s =
    .next (((s.tick t).warmed n tj).hubHeated n (s.island n) tj) := by
  rw [← s.tick_island t]
  exact (if_neg (thermalSample_live t hp ha)).trans (if_pos h96)

theorem exec_thermalSample_of_cluster (h96 : ¬ 96 ≤ n) : exec (.thermalSample t n tj) s =
    .next ((((s.tick t).warmed n tj).modIsland n (thermalSteps (s.dev 0x0CC5) tj)).clusterHeated n (s.island n) tj (s.dev 0x0CC5)) := by
  rw [← s.tick_island t, ← s.tick_dev t]
  exact (if_neg (thermalSample_live t hp ha)).trans ((if_neg h96).trans (State.next_clusterHeated _ n _ tj _).symm)

end

/-- A thermal sample of a live island (R381, R382, Table 14-5). -/
theorem exec_thermalSample_effect {s : State} {n : Nat} (t : Nat) (tj : Int) (hp : s.islandPresent n = true)
    (ha : (s.island n).state ≠ .absent) : ∃ s', exec (.thermalSample t n tj) s = .next s' ∧ (s'.island n).tj = tj ∧
      (s'.island n).warned = thermalStep (s.island n).warned tj (s.dev 0x0CC5) ∧ (∀ k, k ≠ n → s'.island k = s.island k) ∧
      (96 ≤ n → (s'.island n).atFloor = thermalStep (s.island n).atFloor tj 115 ∧ (s'.island n).state = (s.island n).state) ∧
      (n < 96 → (s'.island n).atFloor = thermalStep (s.island n).atFloor tj 105 ∧
        (s'.island n).ineligible = thermalStep (s.island n).ineligible tj 110 ∧ (112 ≤ tj → (s'.island n).state = .heldHot) ∧
        (tj < 112 → tj < s.dev 0x0CC5 → (s.island n).state = .heldHot → (s'.island n).state = .reset) ∧
        (tj < 112 → (s.island n).state = .run → (s'.island n).state = .run)) := by
  obtain ⟨hwarm, hwarmNe⟩ := (s.tick t).warmed_effect n tj
  rw [s.tick_island, s.tick_dev] at hwarm
  by_cases h96 : 96 ≤ n
  · refine ⟨_, exec_thermalSample_of_hub t tj hp ha h96, ?_⟩
    obtain ⟨hself, hne⟩ := ((s.tick t).warmed n tj).hubHeated_effect n (s.island n) tj
    rw [hself, hwarm]
    exact ⟨rfl, rfl, fun k hk => by rw [hne k hk, hwarmNe k hk, s.tick_island], fun _ => ⟨rfl, rfl⟩, fun h => by omega⟩
  · refine ⟨_, exec_thermalSample_of_cluster t tj hp ha h96, ?_⟩
    have hstepped : (((s.tick t).warmed n tj).modIsland n (thermalSteps (s.dev 0x0CC5) tj)).island n =
        thermalSteps (s.dev 0x0CC5) tj { s.island n with tj, warned := thermalStep (s.island n).warned tj (s.dev 0x0CC5) } := by
      rw [State.island_modIsland_same, hwarm]
    obtain ⟨⟨htj, hwarned, hfloor, hinel⟩, hne, hstate⟩ := (((s.tick t).warmed n tj).modIsland n
      (thermalSteps (s.dev 0x0CC5) tj)).clusterHeated_effect n (s.island n) tj (s.dev 0x0CC5)
    rw [hstepped] at htj hwarned hfloor hinel hstate
    refine ⟨htj, hwarned, fun k hk => ?_, fun h => (h96 h).elim, fun _ => ⟨hfloor, hinel, hstate rfl⟩⟩
    rw [hne k hk, State.island_modIsland_ne _ _ hk, hwarmNe k hk, s.tick_island]

/-! ### Resets of a cluster and their end (R206, R366, R367) -/

theorem exec_clusterL2Error_of_run {s : State} {n : Nat} (t : Nat) (dir : Bool) (hn : n ≤ 95) (hp : s.islandPresent n = true)
    (hr : (s.island n).state = .run) :
    exec (.clusterL2Error t n dir) s = .next (((s.tick t).clusterEvent n (if dir then 2 else 1)).resetIsland n) :=
  if_neg (by simp [hp, hr, Nat.not_lt.mpr hn])

/-- An LDO fault of a cluster kept with its time; a running cluster is reset (R367). -/
def State.ldoFaulted (s : State) (n : Nat) : State :=
  let s1 := (s.modIsland n (fun i => { i with ldoFaults := s.now :: i.ldoFaults })).clusterEvent n 3
  if (s.island n).state == .run then s1.resetIsland n else s1

theorem exec_ldoFault_of_live {s : State} {n : Nat} (t : Nat) (hn : n ≤ 95) (hp : s.islandPresent n = true)
    (ha : (s.island n).state ≠ .absent) : exec (.ldoFault t n) s = .next (
      if ((s.tick t).island n).ldoFaults.any (fun f => decide ((s.tick t).now < f + 86400000000000)) then
        ((s.tick t).ldoFaulted n).quarantineAll ((List.range 8).map (fun p => 8 * n + p))
      else (s.tick t).ldoFaulted n) := by
  have hlive : ¬ (decide (95 < n) || !(s.tick t).islandPresent n || ((s.tick t).island n).state == .absent) = true := by
    simp [hp, ha, Nat.not_lt.mpr hn]
  exact if_neg hlive

variable {s} in
/-- What an LDO fault leaves of a running cluster (R367). -/
theorem State.island_ldoFaulted {n : Nat} (hr : (s.island n).state = .run) : ((s.ldoFaulted n).island n).state = .reset ∧
    ((s.ldoFaulted n).island n).isolated = true ∧ ((s.ldoFaulted n).island n).ldoFaults = s.now :: (s.island n).ldoFaults ∧
    ∀ k, k ≠ n → (s.ldoFaulted n).island k = s.island k := by
  have hreset : s.ldoFaulted n =
      ((s.modIsland n (fun i => { i with ldoFaults := s.now :: i.ldoFaults })).clusterEvent n 3).resetIsland n := if_pos (by simp [hr])
  rw [hreset, State.island_resetIsland, State.island_clusterEvent, State.island_modIsland_same]
  refine ⟨rfl, rfl, rfl, fun k hk => ?_⟩
  rw [State.island_resetIsland_ne _ hk, State.island_clusterEvent, s.island_modIsland_ne _ hk]

/-- A further LDO fault within 24 h quarantines the cells, which changes no island (R367). -/
theorem exec_ldoFault_effect {s : State} {n : Nat} (t : Nat) (hn : n ≤ 95) (hp : s.islandPresent n = true)
    (hr : (s.island n).state = .run) : ∃ s', exec (.ldoFault t n) s = .next s' ∧ (s'.island n).state = .reset ∧
      (s'.island n).isolated = true ∧ (s'.island n).ldoFaults = (s.tick t).now :: (s.island n).ldoFaults ∧
      ∀ k, k ≠ n → s'.island k = s.island k := by
  obtain ⟨hstate, hisolated, hfaults, hne⟩ := State.island_ldoFaulted (s := s.tick t) (n := n) (by rwa [s.tick_island])
  simp only [State.tick_island] at hfaults hne
  refine ⟨_, exec_ldoFault_of_live t hn hp (by simp [hr]), ?_⟩
  split
  · have hkeep := ((s.tick t).ldoFaulted n).quarantineAll_keepsIslands ((List.range 8).map (fun p => 8 * n + p))
    simp only [hkeep.island]
    exact ⟨hstate, hisolated, hfaults, hne⟩
  · exact ⟨hstate, hisolated, hfaults, hne⟩

theorem exec_clusterResetDone_of_isolated {s : State} {n : Nat} (t : Nat) (hp : s.islandPresent n = true)
    (hr : (s.island n).state = .reset) (hi : (s.island n).isolated = true) :
    exec (.clusterResetDone t n) s = .next ((s.tick t).leaveReset n) := if_neg (by simp [hp, hr, hi])

theorem exec_l2CheckDone_of_checking {s : State} {n : Nat} (t : Nat) (pass : Bool) (hc : s.sea.l2Check.contains n = true)
    (hr : (s.island n).state = .run) : exec (.l2CheckDone t n pass) s = .next (
      if pass then ((s.tick t).modSea (fun a => { a with l2Check := a.l2Check.filter (· ≠ n) })).measure n
      else ((s.tick t).modSea (fun a => { a with l2Check := a.l2Check.filter (· ≠ n) })).quarantineAll
        ((List.range 8).map (fun p => 8 * n + p))) :=
  if_neg (by simp only [State.tick_sea, State.tick_island, hc, hr]; decide)

end

end Sys2Proof.Machine
end

section
/-! PROOFS. Die links, LPDDR4X tracking, freezes and telemetry (R368 to R374, R379, R380, R383), and the islands' obligation. -/

namespace Sys2Proof.Machine
open Sys2Proof.Say

section
variable (s : State)

/-! ### Frames of a link (R369, R372) -/

section
variable {s} {die dir : Nat} (t : Nat) (hd : die < s.lcy.dies) (h1 : dir ≤ 1)

/-- A direction whose frame arrived whole. -/
def DieLink.passed (dir : Nat) (l : DieLink) : DieLink :=
  let x := l.dir dir
  l.setDir dir { x with flits := x.flits + 16, failures := 0 }

/-- A direction whose frame's tag did not match. -/
def DieLink.garbled (dir : Nat) (l : DieLink) : DieLink :=
  let x := l.dir dir
  l.setDir dir { x with failures := x.failures + 1 }

/-- A direction that changed its key (R369). -/
def DieLink.rekeyed (dir : Nat) (l : DieLink) : DieLink :=
  let x := l.dir dir
  l.setDir dir { x with flits := 0, key := x.key + 1 }

/-- An integrity failure counted on its link, before what four in a row ask for. -/
def State.garbled (s : State) (die dir : Nat) : State := (s.count 16 (linkStat die dir 0) 6).modLink die (DieLink.garbled dir)

theorem State.link_garbled (die dir : Nat) : (s.garbled die dir).link die = (s.link die).garbled dir := by
  rw [State.garbled, State.link_modLink_same, State.link_count]

include hd h1

theorem integrityFrame_up (hu : (s.link die).state = .up) :
    ¬ ((s.tick t).lcy.dies ≤ die ∨ 1 < dir ∨ ((s.tick t).link die).state ≠ .up) := by
  simp only [State.tick_lcy, State.tick_link, hu, ne_eq, not_true_eq_false, or_false]
  omega

theorem exec_integrityFrame_toHub (hu : (s.link die).state = .up) (h0 : dir = 0) (flits : List (Nat × Nat)) :
    exec (.integrityFrame t die dir { tagOk := true, flits }) s = .next ((s.tick t).modLink die (DieLink.passed dir)) :=
  (if_neg (integrityFrame_up t hd h1 hu)).trans ((if_pos rfl).trans (if_pos h0))

theorem exec_integrityFrame_of_garbled (hu : (s.link die).state = .up) (flits : List (Nat × Nat)) :
    exec (.integrityFrame t die dir { tagOk := false, flits }) s = .next (
      if 4 ≤ ((((s.tick t).garbled die dir).link die).dir dir).failures then ((s.tick t).garbled die dir).linkBroken die
      else (s.tick t).garbled die dir) :=
  (if_neg (integrityFrame_up t hd h1 hu)).trans (if_neg Bool.false_ne_true)

theorem exec_keyRollover_of_due (hk : 2 ^ 40 ≤ ((s.link die).dir dir).flits) :
    exec (.keyRollover t die dir) s = .next ((s.tick t).modLink die (DieLink.rekeyed dir)) := by
  refine if_neg ?_
  rw [State.tick_lcy, State.tick_link]
  omega

end

/-! ### Credit audits (R373, R374) -/

/-- Credits of a channel that an audit finds leaked. -/
def DieLink.leak (l : DieLink) (c : Nat) : Int := (tget l.toHub.chans c {} : Chan).leaked (chanSize c)

/-- The channels with the leaked credits restored. -/
def DieLink.mended (l : DieLink) : Tbl Chan := (List.range 4).map (fun c =>
  let x : Chan := tget l.toHub.chans c {}
  (c, { x with free := x.free + (l.leak c).toNat, inFlight := 0, returning := 0, restored := (l.leak c).toNat }))

theorem DieLink.mended_chan (l : DieLink) {c : Nat} (h : c < 4) : (tget l.mended c {} : Chan) =
    { (tget l.toHub.chans c {} : Chan) with
      free := (tget l.toHub.chans c {} : Chan).free + (l.leak c).toNat, inFlight := 0, returning := 0, restored := (l.leak c).toNat } := by
  interval_cases c <;> rfl

/-- The audit's restored credits counted, and the link as the audit leaves it. -/
def State.mended (s : State) (die : Nat) : State :=
  ((List.range 4).foldl (fun s1 c => s1.count 16 (linkStat die 0 c) 7 ((s.link die).leak c).toNat) s).modLink die (fun l =>
    { l with toHub := { l.toHub with chans := (s.link die).mended }, auditing := l.auditAgain, auditAgain := false
             audits := l.audits + 1 })

/-- A fold of steps that leave the islands and links alone. -/
theorem foldl_isl {α : Type} (f : State → α → State) (hf : ∀ (s : State) x, (f s x).isl = s.isl) (l : List α) (s : State) :
    (l.foldl f s).isl = s.isl :=
  foldl_rel (fun a b : State => b.isl = a.isl) (fun _ => rfl) (fun _ _ _ h1 h2 => h2.trans h1) f hf l s

theorem State.link_mended (die : Nat) : (s.mended die).link die = { s.link die with
    toHub := { (s.link die).toHub with chans := (s.link die).mended }, auditing := (s.link die).auditAgain, auditAgain := false
    audits := (s.link die).audits + 1 } := by
  have hcounted := State.link_of_isl (foldl_isl (fun s1 c => s1.count 16 (linkStat die 0 c) 7 ((s.link die).leak c).toNat)
    (fun s1 c => s1.count_isl _ _ _ _) (List.range 4) s) die
  rw [State.mended, State.link_modLink_same, hcounted]

section
variable {s} {die : Nat} (t : Nat) (hd : die < s.lcy.dies) (ha : (s.link die).auditing = true)
include hd ha

theorem exec_auditMarkerReturn_of_auditing : exec (.auditMarkerReturn t die) s =
    if (List.range 4).any (fun c => decide (((s.tick t).link die).leak c < 0)) then
      .next (((s.tick t).modLink die (fun l => { l with auditing := false, auditAgain := false })).linkBroken die)
    else .next ((List.range 24).foldl (fun s1 i =>
      if (s1.island (24 * die + i)).state == .absent then s1 else s1.measure (24 * die + i)) ((s.tick t).mended die)) := by
  refine if_neg ?_
  simp [ha, hd]

/-- No credit too many: what leaked is restored (R373). -/
theorem exec_auditMarkerReturn_mended (hl : ∀ c, c < 4 → 0 ≤ (s.link die).leak c) :
    ∃ s', exec (.auditMarkerReturn t die) s = .next s' ∧ s'.link die = { s.link die with
      toHub := { (s.link die).toHub with chans := (s.link die).mended }, auditing := (s.link die).auditAgain, auditAgain := false
      audits := (s.link die).audits + 1 } := by
  have hnone : ¬ (List.range 4).any (fun c => decide (((s.tick t).link die).leak c < 0)) = true := by
    simpa [s.tick_link] using hl
  refine ⟨_, (exec_auditMarkerReturn_of_auditing t hd ha).trans (if_neg hnone), ?_⟩
  rw [State.link_of_isl (foldl_isl _ (fun s1 i => ?_) _ _), State.link_mended, s.tick_link]
  split <;> rfl

/-- A credit too many breaks the link (R373). -/
theorem exec_auditMarkerReturn_broken {c : Nat} (hc : c < 4) (hl : (s.link die).leak c < 0) :
    exec (.auditMarkerReturn t die) s =
      .next (((s.tick t).modLink die (fun l => { l with auditing := false, auditAgain := false })).linkBroken die) := by
  have hsome : (List.range 4).any (fun c => decide (((s.tick t).link die).leak c < 0)) = true :=
    List.any_eq_true.mpr ⟨c, List.mem_range.mpr hc, by simpa [s.tick_link] using hl⟩
  exact (exec_auditMarkerReturn_of_auditing t hd ha).trans (if_pos hsome)

end

/-! ### LPDDR4X tracking (R379) -/

/-- Drifts as the tracking limits them. -/
def limited (l : List Int) : List Int := l.map (fun x => max (-64) (min 64 x))

/-- The drifts kept, or after a retrain none (R379). -/
def State.tracked (s : State) (l : List Int) : State :=
  { s with isl := { s.isl with
      drift := if l.any (fun x => decide (48 ≤ x.natAbs)) then [0, 0, 0, 0] else l
      ddrRetrains := s.isl.ddrRetrains + b2n (l.any (fun x => decide (48 ≤ x.natAbs))), ddrLimit := false } }

theorem exec_ddrOscRead_of_unfrozen {s : State} (t : Nat) (a b c d : Int) (h : s.isl.ddrFrozen = none) :
    exec (.ddrOscRead t [a, b, c, d]) s = .next (State.tracked
      (if (limited [a, b, c, d]).any (fun x => decide (64 ≤ x.natAbs)) then (s.tick t).raiseDev 0x0CC4 (srcIsland 103) 3 else s.tick t)
      (limited [a, b, c, d])) := by
  have h0 : (s.tick t).isl.ddrFrozen = none := by rw [s.tick_isl, h]
  have hexec : exec (.ddrOscRead t [a, b, c, d]) s = execDdrOscRead t [a, b, c, d] s := rfl
  rw [hexec, execDdrOscRead]
  simp only [h0]
  rfl

theorem exec_ddrOscRead_effect {s : State} (t : Nat) (a b c d : Int) (h : s.isl.ddrFrozen = none) :
    ∃ s', exec (.ddrOscRead t [a, b, c, d]) s = .next s' ∧
      ((∀ x ∈ limited [a, b, c, d], x.natAbs < 48) → s'.isl.drift = limited [a, b, c, d] ∧ s'.isl.ddrRetrains = s.isl.ddrRetrains) ∧
      ((∃ x ∈ limited [a, b, c, d], 48 ≤ x.natAbs) → s'.isl.drift = [0, 0, 0, 0] ∧ s'.isl.ddrRetrains = s.isl.ddrRetrains + 1) ∧
      s' = { s.tick t with isl := s'.isl, evt := s'.evt, out := s'.out } := by
  refine ⟨_, exec_ddrOscRead_of_unfrozen t a b c d h, ?_⟩
  have hraised : ∃ s1 : State, (if (limited [a, b, c, d]).any (fun x => decide (64 ≤ x.natAbs)) then
      (s.tick t).raiseDev 0x0CC4 (srcIsland 103) 3 else s.tick t) = s1 ∧ s1.isl = s.isl ∧
      s1 = { s.tick t with evt := s1.evt, out := s1.out } := by
    refine ⟨_, rfl, ?_⟩
    split
    · exact ⟨by simp, by rw [State.raiseDev_frame]⟩
    · exact ⟨by simp, rfl⟩
  obtain ⟨s1, hs1, hisl, hframe⟩ := hraised
  rw [hs1]
  generalize limited [a, b, c, d] = l
  refine ⟨fun hnear => ?_, fun hfar => ?_, ?_⟩
  · have hany : l.any (fun x => decide (48 ≤ x.natAbs)) = false := by simpa using hnear
    simp [State.tracked, hany, hisl, b2n]
  · have hany : l.any (fun x => decide (48 ≤ x.natAbs)) = true := by simpa using hfar
    simp [State.tracked, hany, hisl, b2n]
  · rw [State.tracked, hframe]

/-! ### Freezes (R380) -/

theorem exec_loopFreezeExpiry_of_frozen {s : State} {loop n e : Nat} (t : Nat) (h : s.freezeEnd loop n = some e) :
    exec (.loopFreezeExpiry t loop n) s = if e ≤ (s.tick t).now then .next ((s.tick t).setFreeze loop n none) else .next (s.tick t) := by
  have hexec : exec (.loopFreezeExpiry t loop n) s = execLoopFreezeExpiry t loop n s := rfl
  rw [hexec, execLoopFreezeExpiry, s.tick_freezeEnd, h]

end

/-! ### The obligation -/

/-- Settles O48: each event is one change of its island or of its link; what recovery and quarantines do besides leaves the islands
and the links' states as they are. -/
theorem islands : Obligations.Islands := by
  intro t n s s0 i alone
  have hisland (k : Nat) : s0.island k = s.island k := s.tick_island t k
  have hlink (k : Nat) : s0.link k = s.link k := s.tick_link t k
  refine ⟨fun h m => exec_loopPeriod_of_stopped t m h, fun hp hr m => ?loop, fun cell hc hn ha hr => ⟨?error, ?trap⟩,
    fun tj hp ha => exec_thermalSample_effect t tj hp ha, fun hp => ?absent, fun hn hp hr => ⟨fun d => ?l2Error, exec_ldoFault_effect t hn hp hr⟩,
    fun hp hr hiso => ?resetDone, fun hc hr => ⟨exec_l2CheckDone_of_checking t true hc hr, exec_l2CheckDone_of_checking t false hc hr⟩,
    fun hc pass => if_pos (by simp only [State.tick_sea, hc]; rfl), fun hiso hat => ?timedOut,
    fun hiso => if_pos (by simp [show (s.island n).isolated = false from hiso]),
    fun dir hd h1 => ⟨fun hu => ⟨fun flits h0 => ?passed, fun flits hf => ?garbled, fun flits hf => ?broken⟩, fun hu f => ?down,
      fun hk => ?rekeyed, fun hk => ?early⟩,
    fun hd hst => ?trained, fun hst good => if_pos (.inr (by rwa [s.tick_link])),
    fun hd ha => ⟨fun hleak => ?mended, fun c hc hleak => ?overfull⟩, fun ha => if_pos (.inr (by simp [ha])),
    fun a b c d hf => exec_ddrOscRead_effect t a b c d hf,
    fun loop e he => ⟨fun hle => (exec_loopFreezeExpiry_of_frozen t he).trans (if_pos hle),
      fun hlt => (exec_loopFreezeExpiry_of_frozen t he).trans (if_neg (Nat.not_le.mpr hlt))⟩, fun v => ?telemetry⟩
  case loop =>
    obtain ⟨s', hexec, hs'⟩ := exec_loopPeriod_effect t m hp hr
    have hself : s'.island n = s.looped n (min 255 m) := by
      rw [hs']
      exact State.island_modIsland_same _ n _
    obtain ⟨hstate, herrors⟩ := s.loopOutputs_keeps n (min 255 m)
    refine ⟨s', s.looped n (min 255 m), hexec, hself, fun k hk => ?_, rfl, rfl, rfl, hstate.trans hr, herrors, ?_, s.loopOutputs_rows n m⟩
    · rw [hs']
      exact (s0.island_modIsland_ne _ hk).trans (hisland k)
    · rw [← s.tick_isl t, hs']
      rfl
  case error =>
    obtain ⟨⟨b, hself⟩, hne, hstat, hsea⟩ := s0.erred_effect n false
    rw [hisland] at hself
    refine ⟨(s0.erred n false).rateChecked n, (exec_timingError_of_run false hc hn ha hr).trans (congrArg _ (if_neg Bool.false_ne_true)), by rw [hself]; rfl, by rw [hself]; rfl, by rw [hself]; rfl, by rw [hself], ?_,
      fun k hk => (hne k hk).trans (hisland k), hsea.trans (s.tick_sea t)⟩
    exact (State.counter_of_stat hstat _ _ _).trans ((s0.counter_count_same 15 n 0).trans (by rw [s.tick_counter]))
  case trap =>
    obtain ⟨⟨b, hself⟩, -⟩ := s0.erred_effect n true
    have hkeep := ((s0.erred n true).rateChecked n).trap_keepsIslands cell 0x0F {} none
    rw [← hkeep.island, hisland] at hself
    exact ⟨((s0.erred n true).rateChecked n).trap cell 0x0F {} none, (exec_timingError_of_run true hc hn ha hr).trans (congrArg _ (if_pos rfl)), by rw [hself]; rfl, by rw [hself]; rfl, by rw [hself]; rfl, by rw [hself]; rfl⟩
  case absent =>
    exact ⟨fun tj => if_pos (by simp [hp]), fun d => if_pos (by simp [hp]), if_pos (by simp [hp]), if_pos (by simp [hp])⟩
  case l2Error =>
    refine ⟨_, exec_clusterL2Error_of_run t d hn hp hr, ?_, ?_, ?_, State.mem_l2Check_resetIsland _ n, fun k hk => ?_⟩
    · rw [State.island_resetIsland]
    · rw [State.island_resetIsland]
    · rw [State.island_resetIsland]
      exact State.raiseDev_now _ _ _ _ _
    · rw [State.island_resetIsland_ne _ hk, State.island_clusterEvent, hisland]
  case resetDone =>
    refine ⟨_, exec_clusterResetDone_of_isolated t hp hr hiso, ?_, fun k hk => (s0.island_modIsland_ne _ hk).trans (hisland k), rfl⟩
    exact (s0.island_modIsland_same n _).trans (by rw [hisland])
  case timedOut =>
    have hover : ¬ (!(s0.island n).isolated || decide (s0.now < (s0.island n).resetAt + 50000)) = true := by
      rw [hisland]
      simp only [show (s.island n).isolated = true from hiso, Bool.not_true, Bool.false_or, decide_eq_true_eq, not_lt]
      exact hat
    rw [show i.heldTransfers = (s0.island n).heldTransfers from congrArg _ (hisland n).symm]
    exact if_neg hover
  case passed =>
    refine ⟨_, exec_integrityFrame_toHub t hd h1 hu h0 flits, ?_, fun k hk => (s0.link_modLink_ne _ hk).trans (hlink k), rfl⟩
    rw [State.link_modLink_same, hlink, h0]
    rfl
  case garbled =>
    have hfew : ¬ 4 ≤ (((s0.garbled n dir).link n).dir dir).failures := by
      rw [State.link_garbled, hlink, DieLink.garbled, DieLink.dir_setDir]
      exact Nat.not_le.mpr (Nat.succ_lt_succ hf)
    refine ⟨_, (exec_integrityFrame_of_garbled t hd h1 hu flits).trans (congrArg Host.Outcome.next (if_neg hfew)), ?_, ?_, ?_⟩
    · rw [State.link_garbled, hlink, DieLink.garbled, DieLink.dir_setDir]
    · rw [State.link_garbled, hlink, DieLink.garbled, DieLink.state_setDir]
      exact hu
    · exact (s0.counter_count_same 16 (linkStat n dir 0) 6).trans (by rw [s.tick_counter])
  case broken =>
    have hmany : 4 ≤ (((s0.garbled n dir).link n).dir dir).failures := by
      rw [State.link_garbled, hlink, DieLink.garbled, DieLink.dir_setDir]
      exact Nat.succ_le_succ hf
    refine ⟨_, (exec_integrityFrame_of_garbled t hd h1 hu flits).trans (congrArg Host.Outcome.next (if_pos hmany)), ?_, ?_, ?_⟩
    · rw [State.link_linkBroken]
      rfl
    · rw [State.link_linkBroken, State.link_garbled, hlink]
      exact congrArg (· + 1) (DieLink.retrains_setDir _ _ _)
    · rw [State.link_linkBroken, DieLink.failures_broken]
  case down => exact if_pos (.inr (.inr (by rwa [s.tick_link])))
  case rekeyed =>
    refine ⟨_, exec_keyRollover_of_due t hd h1 hk, ?_, rfl⟩
    rw [State.link_modLink_same, hlink, DieLink.rekeyed, DieLink.dir_setDir]
  case early => exact if_pos (.inr (.inr (by rwa [s.tick_link])))
  case trained =>
    have htrain (good : Nat) : exec (.linkTrained t n good) s = .next (s0.linkTrained n good) := by
      refine if_neg ?_
      rw [s.tick_link, s.tick_lcy]
      simp only [hst, ne_eq, not_true_eq_false, or_false, not_le]
      exact hd
    refine ⟨fun good hg => ⟨_, htrain good, ?_⟩, fun good hg hl => ⟨_, htrain good, ?_⟩, fun good hg => ⟨_, htrain good, ?_⟩⟩
    · obtain ⟨hup, hhalf⟩ := s0.linkTrained_up (d := n) (good := good) (by omega)
      exact ⟨hup, hhalf.trans (decide_eq_false (Nat.not_lt.mpr hg))⟩
    · obtain ⟨hup, hhalf⟩ := s0.linkTrained_up (d := n) hg
      exact ⟨hup, hhalf.trans (decide_eq_true hl)⟩
    · rw [show s0.linkTrained n good = s0.linkFail n from if_pos hg]
      exact s0.linkFail_effect (by rw [hlink, hst]; decide)
  case mended =>
    obtain ⟨s', hexec, hself⟩ := exec_auditMarkerReturn_mended t hd ha hleak
    refine ⟨s', hexec, fun c hc => ?_, by rw [hself], by rw [hself], by rw [hself]⟩
    rw [hself]
    exact ⟨congrArg Chan.free ((s.link n).mended_chan hc), congrArg Chan.restored ((s.link n).mended_chan hc)⟩
  case overfull =>
    refine ⟨_, exec_auditMarkerReturn_broken t hd ha hc hleak, ?_, ?_⟩
    · rw [State.link_linkBroken, State.link_modLink_same]
      rfl
    · rw [State.link_linkBroken]
      rfl
  case telemetry =>
    rw [← s.tick_isl t, ← s.tick_telem t]
    rfl

end Sys2Proof.Machine
end

section
/-! PROOFS. What the fare commands answer, and the load of a shadow denylist (R229, R230, R232, R236, R238, Table 8-9). -/

namespace Sys2Proof.Machine
open Sys2Proof.Say

/-- A buffer's bytes as far as the host gave them, with zeros for the rest of its length. -/
def padded (b : List Byte) (len : Nat) : List Byte := (b ++ List.replicate len 0).take len

@[simp] theorem length_padded (b : List Byte) (len : Nat) : (padded b len).length = len := by
  simp [padded]

/-! ### Entries recorded (R72, R73) -/

/-- A manifest with a command's operation recorded after its other entries. -/
def State.entered (s : State) (id code : Nat) (op : StagedOp) (bulk : Nat) : State :=
  s.modMan id (fun m => { m with
    entries := m.entries ++ [{ op, code, items := op.items.map (fun i => (i, s.version i)), bulk }], touched := s.now })

section
variable {s : State} {tag id : Nat} {m : Manifest} (hopen : s.openMan tag = some (id, m))
include hopen

theorem State.stage_of_room {bulk : Nat} (hroom : m.entries.length < entryLimit tag) (hbulk : m.bulk + bulk ≤ bulkLimit tag)
    (code : Nat) (op : StagedOp) (rs : List Word) : s.stage tag code op bulk rs = .ok rs (s.entered id code op bulk) := by
  simp only [State.stage, hopen]
  exact if_neg (by simpa using ⟨hroom, hbulk⟩)

/-! ### Tables and deltas after their bytes have been read (R229, R230, R232) -/

/-- A signature of a table verifies under a key bound to its role, over the bytes before the signature block (Table 8-6). -/
def State.tableSigned (s : State) (c : Cfg) (man tag role : Nat) (ok : List Byte → List Byte → List Byte → Bool) (b : List Byte)
    (back n : Nat) : Bool :=
  (s.roleKeys c man tag role).any (fun k => ok k (b.take (b.length - 2484)) (slice b (b.length - back) n))

theorem State.stageTable_of_open (code : Nat) (b : List Byte) : s.stageTable tag code b =
    if !tableOk b b.length || tabField b 6 2 ≠ tag then .status 0x0601 s
    else if !s.tableSigned (s.resulting m) id tag 0 Config.ecVerify b 2484 64 ||
        !s.tableSigned (s.resulting m) id tag 1 Config.pqVerify b 2420 2420 then .status 0x0602 s
    else if tabField b 12 4 ≤ s.topSerial tag then .status 0x0603 s
    else s.stage tag code (.fareTable tag (tableOf b)) b.length := by
  simp only [State.stageTable, hopen]
  rfl

theorem State.stageDelta_of_open (code : Nat) (b : List Byte) : s.stageDelta tag code b =
    if denyMax < (((s.resulting m).deny tag).delta (denyEntries (b.length / 24) b)).entries.length then .status 0x0606 s
    else s.stage tag code (.denyDelta tag (denyEntries (b.length / 24) b)) b.length := by
  simp only [State.stageDelta, hopen]

end

/-! ### What the work of each command answers (Table 8-9) -/

section
variable {s : State} {tag : Nat} {a : List Word} (io : HostIo)

theorem fareTableLoadWork_of_read {s1 : State} (h0 : 2612 ≤ (arg a 3).toNat) (h1 : (arg a 3).toNat ≤ 4 * 2 ^ 20)
    (hread : s.hostRead tag (ofTwo (arg a 1) (arg a 2)) (arg a 3).toNat 3 io.dataFault = .ok s1) :
    fareTableLoadWork tag io a s = s1.stageTable tag 0x0601 (padded io.data (arg a 3).toNat) := by
  have hlen : ¬((arg a 3).toNat < 2612 ∨ 4 * 2 ^ 20 < (arg a 3).toNat) := by omega
  simp only [fareTableLoadWork, State.tableLoad, hlen, ↓reduceIte, hread]
  rfl

theorem fareDenyDeltaWork_of_read {s1 : State} (h : deltaLen (arg a 3).toNat = true)
    (hread : s.hostRead tag (ofTwo (arg a 1) (arg a 2)) (arg a 3).toNat 3 io.dataFault = .ok s1) :
    fareDenyDeltaWork tag io a s = s1.stageDelta tag 0x0603 (padded io.data (arg a 3).toNat) := by
  simp only [fareDenyDeltaWork, State.denyDelta, h, hread, Bool.not_true, Bool.false_eq_true, ↓reduceIte]
  rfl

theorem fareKeyBindWork_of_key {c : Cap} {k : KeyRec}
    (hc : s.handleFor tag (argHandle a 1) (· == 3) (1 <<< rUse) true = .ok c) (hk : s.keyOf (s.obj c.object) = some k)
    (h4 : fld (arg a 5) 2 0 ≤ 4) : fareKeyBindWork tag io a s =
      if roleSuits (fld (arg a 5) 2 0) k.type = true then s.stage tag 0x0602 (.keyBind tag
        { role := fld (arg a 5) 2 0, issuer := (arg a 6).toNat, keyId := fld (arg a 7) 15 0, object := c.object, gen := c.gen })
      else .status 0x0604 s := by
  simp only [fareKeyBindWork, hc, Nat.not_lt.mpr h4, hk, ↓reduceIte]
  cases roleSuits (fld (arg a 5) 2 0) k.type <;> rfl

theorem fareDenySwapWork_of_complete {x : Shadow8} (hx : tfind s.fare.shadows tag = some x) (hc : x.complete = true) :
    fareDenySwapWork tag io a s = s.stage tag 0x0604 (.denySwap tag) := by
  simp only [fareDenySwapWork, hx, hc, ↓reduceIte]

theorem fareDenySwapWork_of_none (hx : tfind s.fare.shadows tag = none) : fareDenySwapWork tag io a s = .status 0x0607 s := by
  simp only [fareDenySwapWork, hx]

theorem fareDenyStatusWork_of_complete {x : Shadow8} (hx : tfind s.fare.shadows tag = some x) (hc : x.complete = true) :
    fareDenyStatusWork tag io a s =
      .ok [wd (s.cfg.deny tag).entries.length, wd x.list.entries.length, wd (s.cfg.deny tag).log2] s := by
  simp only [fareDenyStatusWork, hx, hc, ↓reduceIte]

/-- FARE_STATUS: the serials in force and staged, the HELD entries, and the records that found no destination. -/
theorem fareStatusWork_eq : ∃ staged, fareStatusWork tag io a s = .ok
    [ wd (match tfind s.cfg.tables tag with | some f => f.serial | none => 0), staged, wd s.fare.hub.length
    , wd (min (if isPf tag then s.counter 7 0 1 else s.counter 3 tag 7) (2 ^ 32 - 1)) ] s := ⟨_, rfl⟩

/-- FARE_JOURNAL_READ where the buffer holds every HELD record from the index on: bit 31 says that none is left. -/
theorem fareJournalReadWork_of_room {s1 : State} (h128 : (arg a 3).toNat % 128 = 0)
    (hroom : (s.heldFrom tag (fld (arg a 4) 12 0)).length ≤ (arg a 3).toNat / 128) (hne : s.heldFrom tag (fld (arg a 4) 12 0) ≠ [])
    (hw : s.hostWrite tag (ofTwo (arg a 1) (arg a 2)) ((s.heldFrom tag (fld (arg a 4) 12 0)).flatMap (fun p => p.2.bytes))
      io.dataFault = (0, s1)) : ∃ next, next < 8192 ∧ fareJournalReadWork tag io a s =
        .ok [wd (s.heldFrom tag (fld (arg a 4) 12 0)).length, wd (next + 2 ^ 31)] s1 := by
  have hlast := List.getLast?_eq_some_getLast hne
  refine ⟨(((s.heldFrom tag (fld (arg a 4) 12 0)).getLast hne).1 + 1) % 8192, Nat.mod_lt _ (by decide), ?_⟩
  refine (if_neg (not_not.mpr h128)).trans ?_
  rw [List.take_of_length_le hroom, hw, hlast]
  simp [b2n]

/-- Of a rising table, the entries with a number listed are that number's one entry. -/
theorem filter_number_eq_singleton {α : Type} {t : Tbl α} {k : Nat} {x : α} (hwf : twf t = true) (h : tfind t k = some x) :
    t.filter (fun p => p.1 == k) = [(k, x)] := by
  induction t with
  | nil => cases h
  | cons p r ih =>
    obtain ⟨j, y⟩ := p
    by_cases hj : j = k
    · subst hj
      obtain rfl : y = x := by simpa [tfind] using h
      have hrest : r.filter (fun p => p.1 == j) = [] := by
        refine List.filter_eq_nil_iff.mpr fun p hp hpj => ?_
        obtain ⟨i, z⟩ := p
        obtain rfl : i = j := eq_of_beq hpj
        cases r with
        | nil => cases hp
        | cons q r =>
          have hlt : i < q.1 := of_decide_eq_true (Bool.and_eq_true_iff.mp hwf).1
          exact nomatch (tfind_of_lt (twf_tail hwf) hlt).symm.trans (tfind_of_mem (twf_tail hwf) hp)
      simp [hrest]
    · rw [List.filter_cons_of_neg (by simpa using hj)]
      exact ih (twf_tail hwf) (by simpa [tfind, hj] using h)

/-- FARE_JOURNAL_ACK of one HELD index: the range from it on of one entry holds that index alone. -/
theorem fareJournalAckWork_of_held {n : Nat} (hone : (arg a 2).toNat = 1) (hn : tfind s.fare.hub (fld (arg a 1) 12 0) = some n)
    (hwf : twf s.fare.hub = true) (hub : ∀ p ∈ s.fare.hub, p.1 < 8192) :
    fareJournalAckWork tag io a s = .ok [1] (s.hubFree (fld (arg a 1) 12 0)) := by
  have hfirst : fld (arg a 1) 12 0 < 8192 := Nat.mod_lt _ (by decide)
  have hhit : s.fare.hub.filter (fun p => decide ((p.1 + 8192 - fld (arg a 1) 12 0) % 8192 < 1)) = [(fld (arg a 1) 12 0, n)] := by
    rw [← filter_number_eq_singleton hwf hn]
    refine List.filter_congr fun p hp => ?_
    have hlt := hub p hp
    rw [beq_eq_decide, decide_eq_decide]
    omega
  simp only [fareJournalAckWork, hone, hhit, List.foldl_cons, List.foldl_nil, hn]
  rfl

end

/-! ### The load of a shadow denylist (R229) -/

@[simp] theorem length_denyEntries (n : Nat) (b : List Byte) : (denyEntries n b).length = n := by
  induction n generalizing b with
  | zero => rfl
  | succ n ih => simp [denyEntries, ih]

section
variable (old : Option Shadow8) (log2 : Nat) {b : List Byte}

/-- A load that starts a list and brings additions only, in rising order, leaves the list complete. -/
theorem Shadow8.load_of_rising (h24 : b.length % 24 = 0) (hmax : b.length ≤ 24 * denyMax)
    (hadd : (denyEntries (b.length / 24) b).all (fun e => !e.2) = true)
    (hrise : risingFrom none ((denyEntries (b.length / 24) b).map (·.1)) = true) : ∃ bloom, Shadow8.load old log2 true b =
      (0, some { list := { entries := (denyEntries (b.length / 24) b).map (·.1), bloom, log2 }, complete := true }) := by
  have hnone : (denyEntries (b.length / 24) b).any (·.2) = false := by simpa using hadd
  have hroom : ¬denyMax < b.length / 24 := by omega
  refine ⟨((denyEntries (b.length / 24) b).map (·.1)).foldl (fun x e => bloomAdd x e.key log2) [], ?_⟩
  simp only [Shadow8.load, h24, hnone, hrise, List.getLast?_nil, Option.map_none, ↓reduceIte, List.length_map, length_denyEntries,
    List.length_nil, Nat.zero_add, hroom, ne_eq, not_true_eq_false, Bool.not_true, Bool.false_eq_true, or_self, List.nil_append]

/-- Keys that do not rise discard the list. -/
theorem Shadow8.load_of_unsorted (hrise : risingFrom none ((denyEntries (b.length / 24) b).map (·.1)) = false) :
    Shadow8.load old log2 true b = (0x0605, none) := by
  simp [Shadow8.load, hrise]

end

/-- The shadows with a tenant's list put in place, or discarded. -/
def putShadow (tag : Nat) (x : Option Shadow8) (l : Tbl Shadow8) : Tbl Shadow8 :=
  match x with
  | some x => tset l tag x
  | none => terase l tag

@[simp] theorem tfind_putShadow_same (tag : Nat) (x : Option Shadow8) (l : Tbl Shadow8) : tfind (putShadow tag x l) tag = x := by
  cases x with
  | none => exact tfind_terase_same l tag
  | some x => exact tfind_tset_same l tag x

theorem tfind_putShadow_ne {tag k : Nat} (x : Option Shadow8) (l : Tbl Shadow8) (h : k ≠ tag) :
    tfind (putShadow tag x l) k = tfind l k := by
  cases x with
  | none => exact tfind_terase_ne l h
  | some x => exact tfind_tset_ne l x h.symm

/-- The checks of a host access change what they log, and nothing else. -/
structure State.Checked (s s' : State) : Prop where
  frame : s' = { s with mem := s'.mem, evt := s'.evt, out := s'.out }

theorem State.Checked.trans {a b c : State} (h1 : a.Checked b) (h2 : b.Checked c) : a.Checked c where
  frame := by rw [h2.frame, h1.frame]

theorem State.mpuRun_checked (mpu fuel : Nat) (x : Access) (len : Nat) (s : State) :
    s.Checked (State.mpuRun mpu fuel x len s).2 := by
  induction fuel generalizing x len s with
  | zero => exact ⟨rfl⟩
  | succ fuel ih =>
    have hcheck : s.Checked (s.mpuCheck mpu x).2 := ⟨s.mpuCheck_frame mpu x⟩
    unfold State.mpuRun
    dsimp only
    split
    · exact ⟨rfl⟩
    · split
      next heq =>
        rw [heq] at hcheck
        exact hcheck.trans (ih _ _ _)
      next heq =>
        rw [heq] at hcheck
        exact hcheck

theorem State.hostRead_frame {s s1 : State} {tag iova len source : Nat} {walk : Option Nat}
    (h : s.hostRead tag iova len source walk = .ok s1) :
    s1 = { s with ins := s1.ins, mem := s1.mem, evt := s1.evt, out := s1.out } := by
  unfold State.hostRead at h
  split at h
  · cases h
  · dsimp only at h
    split at h
    · cases h
    · cases h
      rw [State.tlbTouch_frame, (State.mpuRun_checked _ _ _ _ _).frame]

theorem State.opDone_fare (s : State) (tag q : Nat) (o : SqOp) (st : Nat) (body : List Byte) (io : HostIo) :
    (s.opDone tag q o st body io).fare = s.fare := by
  rw [State.opDone, (s.cqComplete_completes tag q o.cid o.noCqe o.sqHead st body io.cqFault).frame]

/-- FARE_DENY_LOAD's passage through a Ledger cell: the placement is counted, and the cell's context is free again. -/
def State.throughCell (s : State) (cell : Nat) : State := (s.giveWork cell .mix).dropWorkOn cell .mix

theorem State.throughCell_frame (s : State) (cell : Nat) :
    s.throughCell cell = { s with sea := (s.throughCell cell).sea, stat := (s.throughCell cell).stat } := by
  unfold State.throughCell
  rw [State.giveWork_frame]
  rfl

/-- A buffer read through a Ledger cell leaves the fare part and the configuration alone. -/
theorem State.throughCell_read {s s1 : State} {cell tag iova len : Nat} {walk : Option Nat}
    (h : (s.throughCell cell).hostRead tag iova len 3 walk = .ok s1) : s1.fare = s.fare ∧ s1.man = s.man := by
  rw [State.hostRead_frame h, State.throughCell_frame]
  exact ⟨rfl, rfl⟩

/-- What a load makes of a tenant's shadow (R229). -/
def State.denyLoaded (s : State) (tag : Nat) (o : SqOp) (data : List Byte) : Nat × Option Shadow8 :=
  Shadow8.load (tfind s.fare.shadows tag) (s.insN tag 0x0604) (bit (o.params.getD 0 0) 0) (padded data o.dataLen)

section
variable {t tag q : Nat} {io : HostIo} {s : State} {o : SqOp} {rest : List SqOp}
  (ho : takeOp 0x0610 (s.qp tag q).ops = some (o, rest)) (he : s.enabled tag = true) {g : Gate} {c : Cap} {cap : Option Cap}
  (hg : (s.tick t).gateEntry tag o = .ok (g, c, cap))
include ho he hg

theorem exec_fareDenyLoad_of_other_caste (hc : g.caste ≠ 3) : exec (.fareDenyLoad t tag q io) s =
    .next (((s.tick t).modQp tag q (fun p => { p with ops := rest })).opDone tag q o 0x0407 [] io) := by
  rw [State.tick_gateEntry] at hg
  simp [exec, execFareDenyLoad, ho, he, hg, hc]

theorem exec_fareDenyLoad_of_no_cell (hc : g.caste = 3) (hb : (s.tick t).bestCell .ledger false = none) :
    exec (.fareDenyLoad t tag q io) s = .next (s.tick t) := by
  rw [State.tick_gateEntry] at hg
  rw [State.tick_bestCell] at hb
  simp [exec, execFareDenyLoad, ho, he, hg, hc, hb]

theorem exec_fareDenyLoad_of_read {cell : Nat} {s1 : State} (hc : g.caste = 3)
    (hb : (s.tick t).bestCell .ledger false = some cell)
    (hread : ((s.tick t).throughCell cell).hostRead tag o.dataIova o.dataLen 3 io.dataFault = .ok s1) :
    exec (.fareDenyLoad t tag q io) s = .next (((s1.modFare (fun x => { x with
        shadows := putShadow tag (s1.denyLoaded tag o io.data).2 x.shadows })).modQp tag q (fun p => { p with ops := rest })).opDone
      tag q o (s1.denyLoaded tag o io.data).1 [] io) := by
  rw [State.tick_gateEntry] at hg
  rw [State.tick_bestCell] at hb
  unfold State.throughCell at hread
  change execFareDenyLoad t tag q io s = _
  simp only [execFareDenyLoad, State.tick_qp, ho, State.tick_enabled, he, Bool.not_true, Bool.false_eq_true, ↓reduceIte,
    State.tick_gateEntry, hg, hc, ne_eq, not_true_eq_false, State.tick_bestCell, hb, hread]
  rfl

end

/-- The fare commands, each by what its work answers; FARE_DENY_LOAD by the cell and the gate that it finds. -/
theorem fareCommands : fareCommandsSay := by
  intro t tag io s a s0 len data
  have hlen : data.length = len := length_padded io.data len
  refine ⟨fun h => answers_of_work rfl (if_pos h), fun s1 id m h0 h1 hread hopen => ?table, fun c k hc hk h4 => ?keyBind,
    fun h => answers_of_work rfl (if_pos (by simp [len, h])), fun s1 id m h hread hopen hmax => ?deltaFull,
    fun s1 id m h hread hopen hroom hbulk hmax => ?delta, fun x hx hc => ?swap, fun hx => ?swapNone, fun x hx hc => ?denyStatus,
    fun h => answers_of_work rfl (if_pos h), fun s1 h128 hroom hne hw => ?read, fun i n hi hone hn hform hub => ?ack,
    fun h => answers_of_work rfl (if_pos h), ?status, fun q o rest ho he => ?load, fun old log2 b h24 hmax => ?loaded⟩
  case table =>
    intro signed ec pq
    have hwork : fareTableLoadWork tag io a s0 = _ :=
      (fareTableLoadWork_of_read io h0 h1 hread).trans (State.stageTable_of_open hopen 0x0601 data)
    have hec : s1.tableSigned (s1.resulting m) id tag 0 Config.ecVerify data 2484 64 = ec := by
      unfold State.tableSigned
      rw [hlen]
    have hpq : s1.tableSigned (s1.resulting m) id tag 1 Config.pqVerify data 2420 2420 = pq := by
      unfold State.tableSigned
      rw [hlen]
    rw [hlen, hec, hpq] at hwork
    refine ⟨fun hbad => ?_, fun hok htag hsig => ?_, fun hok htag hec hpq hold => ?_, fun hok htag hec hpq hnew hroom hbulk => ?_⟩
    · exact answers_of_work rfl (hwork.trans (if_pos (by simpa using hbad)))
    · refine answers_of_work rfl (hwork.trans ((if_neg (by simp [hok, htag])).trans (if_pos (by simpa using hsig))))
    · exact answers_of_work rfl
        (hwork.trans ((if_neg (by simp [hok, htag])).trans ((if_neg (by simp [hec, hpq])).trans (if_pos hold))))
    · refine answers_of_work rfl (hwork.trans ((if_neg (by simp [hok, htag])).trans ((if_neg (by simp [hec, hpq])).trans
        ((if_neg (Nat.not_le.mpr hnew)).trans ?_))))
      exact State.stage_of_room hopen hroom hbulk 0x0601 _ []
  case keyBind =>
    have hwork := fareKeyBindWork_of_key io hc (by rwa [State.tick_obj]) h4
    exact ⟨fun hr => stages_of_work rfl (hwork.trans (if_pos hr)), fun hr => answers_of_work rfl (hwork.trans (if_neg (by simp [hr])))⟩
  case deltaFull =>
    refine answers_of_work rfl ((fareDenyDeltaWork_of_read io h hread).trans ((State.stageDelta_of_open hopen _ _).trans (if_pos ?_)))
    rwa [length_padded]
  case delta =>
    refine answers_of_work rfl ((fareDenyDeltaWork_of_read io h hread).trans ((State.stageDelta_of_open hopen _ _).trans ?_))
    rw [length_padded]
    exact (if_neg (Nat.not_lt.mpr hmax)).trans (State.stage_of_room hopen hroom hbulk 0x0603 _ [])
  case swap => exact stages_of_work rfl (fareDenySwapWork_of_complete (a := a) io (by simpa [s0] using hx) hc)
  case swapNone => exact answers_of_work rfl (fareDenySwapWork_of_none (a := a) io (by simpa [s0] using hx))
  case denyStatus =>
    refine answers_of_work rfl ((fareDenyStatusWork_of_complete (a := a) (x := x) io (by simpa [s0] using hx) hc).trans ?_)
    rw [State.tick_cfg]
    rfl
  case read =>
    rw [← s.tick_heldFrom t] at hroom hne hw ⊢
    obtain ⟨next, hnext, hwork⟩ := fareJournalReadWork_of_room io h128 hroom hne hw
    exact ⟨next, hnext, answers_of_work rfl hwork⟩
  case ack =>
    obtain ⟨-, -, -, -, hwf⟩ := hform
    subst hi
    have hfare : s0.fare = s.fare := s.tick_fare t
    exact answers_of_work rfl (fareJournalAckWork_of_held (tag := tag) io hone (by rwa [hfare]) (by rwa [hfare]) (by rwa [hfare]))
  case status =>
    obtain ⟨staged, hwork⟩ := fareStatusWork_eq (s := s0) (tag := tag) (a := a) io
    refine ⟨staged, answers_of_work rfl (hwork.trans ?_)⟩
    simp only [s0, State.tick_cfg, State.tick_fare, State.tick_counter]
    rfl
  case load =>
    refine ⟨fun g c cap hg hc => ⟨exec_fareDenyLoad_of_no_cell ho he hg hc, fun cell s1 hb hread => ?_⟩,
      fun g c cap hg hc => exec_fareDenyLoad_of_other_caste ho he hg hc⟩
    obtain ⟨hfare, hman⟩ := State.throughCell_read hread
    have hloaded : s1.denyLoaded tag o io.data = s.denyLoaded tag o io.data := by
      simp only [State.denyLoaded, State.insN, State.cfg, State.cfgOf, hfare, hman, s0, State.tick_fare, State.tick_man]
    refine ⟨_, _, exec_fareDenyLoad_of_read ho he hg hc hb hread, by rw [hloaded]; rfl, ?_, fun k hk => ?_, ?_⟩
    · rw [State.opDone_fare, hloaded]
      exact tfind_putShadow_same _ _ _
    · rw [State.opDone_fare]
      refine (tfind_putShadow_ne _ _ hk).trans ?_
      rw [hfare, State.tick_fare]
    · rw [State.opDone_fare]
      rfl
  case loaded =>
    exact ⟨Shadow8.load_of_rising old log2 h24 hmax, Shadow8.load_of_unsorted old log2, rfl⟩

end Sys2Proof.Machine
end

section
/-! PROOFS. What the cartridge commands answer (R252, R256, R259 to R263, Table 9-10). -/

namespace Sys2Proof.Machine
open Sys2Proof.Say

section
variable {s : State} {tag : Nat} {a : List Word} (io : HostIo)

/-! ### CART_BIND, CART_STATUS, CART_EJECT and CART_FORMAT (R261 to R263) -/

/-- CART_BIND without a password's key: the tenant's number decides. -/
theorem cartBindWork_of_no_key (h : argHandle a 3 = 0) : cartBindWork tag io a s =
    if 31 < fld (arg a 2) 9 0 then .status 0x0012 s
    else if fld (arg a 2) 9 0 = 0 then s.stage tag 0x0701 (.cartBind (cartArg a) none)
    else if s.boundElsewhere (cartArg a) (fld (arg a 2) 9 0) then .status 0x0709 s
    else s.stage tag 0x0701 (.cartBind (cartArg a) (some { tenant := fld (arg a 2) 9 0, pwd := none })) := by
  simp only [cartBindWork, h, ↓reduceIte]

theorem cartStatusWork_of_mine (h : s.cartMine tag (cartArg a) = true) : cartStatusWork tag io a s =
    let c := s.cartSlot (cartArg a)
    .ok ([ wd (cartCode c.state + 16 * c.mode + 128 * b2n c.wide + 256 * b2n c.v18 + 512 * b2n c.full + 1024 * b2n c.wasLocked)
         , wd c.capacity ] ++ twoWords c.highest ++ twoWords c.collected ++
           [wd (min (2 ^ 32 - 1) (s.counter 8 (cartArg a) 1))]) s := by
  simp only [cartStatusWork, h, Bool.not_true, Bool.false_eq_true, ↓reduceIte]

theorem cartEjectWork_of_idle (h : s.cartMine tag (cartArg a) = true) (hst : (s.cartSlot (cartArg a)).state = .ready)
    (hq : (s.cartSlot (cartArg a)).queue = []) (hw : (s.cartSlot (cartArg a)).writing = none)
    (hr : (s.cartSlot (cartArg a)).rewrite = none) : cartEjectWork tag io a s =
      .ok [] ((s.modCart (cartArg a) (fun c => { c with queue := [] })).cartEject (cartArg a) true) := by
  simp only [cartEjectWork, h, hst, hq, hw, hr, Bool.not_true, Bool.false_eq_true, ↓reduceIte, List.foldl_nil, Option.isSome_none,
    Bool.or_self]

theorem cartEjectWork_of_unready (h : s.cartMine tag (cartArg a) = true)
    (hst : (s.cartSlot (cartArg a)).state = .locked ∨ (s.cartSlot (cartArg a)).state = .unformatted ∨
      (s.cartSlot (cartArg a)).state = .foreign ∨ (s.cartSlot (cartArg a)).state = .failed) :
    cartEjectWork tag io a s = .ok [] (s.cartEject (cartArg a) false) := by
  obtain hst | hst | hst | hst := hst <;> simp only [cartEjectWork, h, hst, Bool.not_true, Bool.false_eq_true, ↓reduceIte]

theorem cartEjectWork_of_empty (h : s.cartMine tag (cartArg a) = true) (hst : (s.cartSlot (cartArg a)).state = .empty) :
    cartEjectWork tag io a s = .status 0x0702 s := by
  simp only [cartEjectWork, h, hst, Bool.not_true, Bool.false_eq_true, ↓reduceIte]

theorem cartFormatWork_of_id (hid : ofTwo (arg a 4) (arg a 5) ≠ 0) (hc : (s.cartSlot (cartArg a)).capacity ≠ 0) :
    cartFormatWork tag io a s =
      if (arg a 3).toNat < 65536 ∨ (s.cartSlot (cartArg a)).capacity < 32 + (arg a 2).toNat + (arg a 3).toNat then .status 0x0708 s
      else s.stage tag 0x0707 (.cartFormat (cartArg a) (arg a 2).toNat (arg a 3).toNat (ofTwo (arg a 4) (arg a 5))) := by
  simp only [cartFormatWork, hid, hc, ↓reduceIte]

/-! ### Commands that read a slot (R256, R259, R260, R263) -/

theorem State.cartBar_of_not_mine (h : s.cartMine tag (cartArg a) = false) : s.cartBar tag a = some 0x0701 := by
  simp [State.cartBar, h]

theorem State.cartBar_of_unready (h : s.cartMine tag (cartArg a) = true) (hst : (s.cartSlot (cartArg a)).state ≠ .ready) :
    s.cartBar tag a = some 0x0702 := by
  simp [State.cartBar, h, hst]

theorem State.cartBar_of_ready (h : s.cartMine tag (cartArg a) = true) (hst : (s.cartSlot (cartArg a)).state = .ready) :
    s.cartBar tag a = none := by
  simp [State.cartBar, h, hst]

/-- A slot that is barred bars each of the commands that read it. -/
theorem answers_of_cartBar {t st : Nat} {c : Instr} (hc : c = .cartJournalRead t tag io ∨ c = .cartJournalMark t tag io ∨
    c = .cartDataList t tag io ∨ c = .cartDataStage t tag io) (h : s.cartBar tag a = some st) : Answers c s a st [] (s.tick t) := by
  have hbar : (s.tick t).cartBar tag a = some st := by rwa [State.tick_cartBar]
  obtain rfl | rfl | rfl | rfl := hc <;> refine answers_of_work rfl ?_
  · simp only [cartJournalReadWork, State.journalRead, State.journalReadBar, hbar]
    rfl
  · simp only [cartJournalMarkWork, hbar]
    rfl
  · simp only [cartDataListWork, hbar]
    rfl
  · simp only [cartDataStageWork, State.dataStage, hbar]
    rfl

section
variable (h : s.cartBar tag a = none)
include h

theorem cartJournalReadWork_of_bad_length (hlen : readLen (arg a 4).toNat = false) :
    cartJournalReadWork tag io a s = .status 0x0012 s := by
  simp [cartJournalReadWork, State.journalRead, State.journalReadBar, h, hlen]

/-- Blocks of 512 bytes from a serial on that the journal holds, as many as a length takes. -/
def CartSlot.blocksFrom (c : CartSlot) (len first : Nat) : Nat := min (len / 512) (c.highest + 1 - first)

theorem cartJournalReadWork_of_card {bytes : List Byte} {s1 : State} (hlen : readLen (arg a 4).toNat = true)
    (hcard : io.card = some bytes) (hfirst : 0 < ofTwo (arg a 5) (arg a 6))
    (hw : s.hostWrite tag (ofTwo (arg a 2) (arg a 3)) (padded bytes
      (512 * (s.cartSlot (cartArg a)).blocksFrom (arg a 4).toNat (ofTwo (arg a 5) (arg a 6)))) io.dataFault = (0, s1)) :
    cartJournalReadWork tag io a s =
      .ok (wd ((s.cartSlot (cartArg a)).blocksFrom (arg a 4).toNat (ofTwo (arg a 5) (arg a 6))) ::
        twoWords (ofTwo (arg a 5) (arg a 6) + (s.cartSlot (cartArg a)).blocksFrom (arg a 4).toNat (ofTwo (arg a 5) (arg a 6)))) s1 := by
  unfold padded CartSlot.blocksFrom at hw
  simp only [cartJournalReadWork, State.journalRead, State.journalReadBar, h, hlen, hcard, hfirst.ne', hw, ↓reduceIte]
  rfl

theorem cartJournalMarkWork_of_outside
    (hv : ofTwo (arg a 2) (arg a 3) < (s.cartSlot (cartArg a)).collected ∨ (s.cartSlot (cartArg a)).highest < ofTwo (arg a 2) (arg a 3)) :
    cartJournalMarkWork tag io a s = .status 0x0012 s := by
  simp only [cartJournalMarkWork, h, hv, ↓reduceIte]

/-- CART_JOURNAL_MARK while no block is being written: COLLECTED moves, and a header follows at once (R256). -/
theorem cartJournalMarkWork_of_idle (hlo : (s.cartSlot (cartArg a)).collected ≤ ofTwo (arg a 2) (arg a 3))
    (hhi : ofTwo (arg a 2) (arg a 3) ≤ (s.cartSlot (cartArg a)).highest) (hw : (s.cartSlot (cartArg a)).writing = none) :
    cartJournalMarkWork tag io a s = .ok []
      (((s.modCart (cartArg a) (fun c => { c with collected := ofTwo (arg a 2) (arg a 3) })).cartHeader (cartArg a)).cartFullCheck
        (cartArg a)) := by
  have hv : ¬(ofTwo (arg a 2) (arg a 3) < (s.cartSlot (cartArg a)).collected ∨
      (s.cartSlot (cartArg a)).highest < ofTwo (arg a 2) (arg a 3)) := by omega
  simp only [cartJournalMarkWork, h, hv, hw, Option.isSome_none, Bool.false_eq_true, ↓reduceIte]

theorem cartDataListWork_of_bad_length (hlen : (arg a 4).toNat ≠ 8192) : cartDataListWork tag io a s = .status 0x0012 s := by
  simp only [cartDataListWork, h]
  exact if_pos hlen

theorem cartDataListWork_of_card {bytes : List Byte} {s1 : State} (hlen : (arg a 4).toNat = 8192) (hcard : io.card = some bytes)
    (hw : s.hostWrite tag (ofTwo (arg a 2) (arg a 3)) (padded bytes 8192) io.dataFault = (0, s1)) :
    cartDataListWork tag io a s = .ok [wd (bf (padded bytes 8192) 4 2), wd (bf (padded bytes 8192) 8 4)] s1 := by
  unfold padded at hw
  simp only [cartDataListWork, h, hlen, hcard, hw, ne_eq, not_true_eq_false, ↓reduceIte]
  rfl

/-- What CART_DATA_STAGE finds in a READY slot's directory and in the object that it names (R259). -/
def State.stagedObject (s : State) (a : List Word) (id : Nat) (bytes : List Byte) : Except Nat (Nat × List Byte) :=
  s.dirCheck id (s.cartSlot (cartArg a)).tenant (fld (arg a 2) 5 0) (s.cartSlot (cartArg a)).dataBlocks (padded bytes 8192)
    (bytes.drop 8192)

section
variable {bytes : List Byte} {id : Nat} {m : Manifest} (hcard : io.card = some bytes) (hopen : s.openMan tag = some (id, m))
include hcard hopen

theorem cartDataStageWork_of_refused {st : Nat} (hdir : s.stagedObject a id bytes = .error st) :
    cartDataStageWork tag io a s = .status st s := by
  unfold State.stagedObject padded at hdir
  simp only [cartDataStageWork, State.dataStage, h, hopen, hcard, hdir]

theorem cartDataStageWork_of_table {o : List Byte} (hdir : s.stagedObject a id bytes = .ok (1, o)) (h0 : 2612 ≤ o.length)
    (h1 : o.length ≤ 4 * 2 ^ 20) : cartDataStageWork tag io a s = s.stageTable tag 0x0706 o := by
  unfold State.stagedObject padded at hdir
  simp only [cartDataStageWork, State.dataStage, h, hopen, hcard, hdir]
  exact if_neg (by omega)

theorem cartDataStageWork_of_delta {o : List Byte} (hdir : s.stagedObject a id bytes = .ok (2, o))
    (hlen : deltaLen o.length = true) : cartDataStageWork tag io a s = s.stageDelta tag 0x0706 o := by
  unfold State.stagedObject padded at hdir
  simp only [cartDataStageWork, State.dataStage, h, hopen, hcard, hdir, hlen, ↓reduceIte]

end

end

end

/-- The cartridge commands, each by what its work answers. -/
theorem cartridgeCommands : cartridgeCommandsSay := by
  intro t tag io s a s0 n c tenant len
  have hslot : s0.cartSlot n = c := s.tick_cartSlot t n
  have hmine : s0.cartMine tag n = s.cartMine tag n := s.tick_cartMine t tag n
  refine ⟨fun h0 hz => ?unbind, fun h0 h1 h31 hb => ?bind, fun h0 h1 h31 hb => ?bound, fun h0 h31 => ?badTenant, fun hm => ?status,
    fun cmd hcmd => ⟨fun hm => answers_of_cartBar io hcmd (State.cartBar_of_not_mine hm), fun hm hst =>
      answers_of_cartBar io hcmd (State.cartBar_of_unready hm hst)⟩,
    fun hm => ?notMine, fun hm hst => ?ready, fun hm hst => ?ejectUnready, fun hm hst => ?ejectEmpty, ?format,
    stages_of_work rfl rfl⟩
  case unbind =>
    exact stages_of_work rfl ((cartBindWork_of_no_key io h0).trans ((if_neg (by omega)).trans (if_pos hz)))
  case bind =>
    refine stages_of_work rfl ((cartBindWork_of_no_key io h0).trans ((if_neg (by omega)).trans ((if_neg (by omega)).trans
      (if_neg ?_))))
    simpa using hb
  case bound =>
    refine answers_of_work rfl ((cartBindWork_of_no_key io h0).trans ((if_neg (by omega)).trans ((if_neg (by omega)).trans
      (if_pos ?_))))
    simpa using hb
  case badTenant => exact answers_of_work rfl ((cartBindWork_of_no_key io h0).trans (if_pos h31))
  case status =>
    refine answers_of_work rfl ((cartStatusWork_of_mine io (hmine.trans hm)).trans ?_)
    rw [hslot, State.tick_counter]
    rfl
  case notMine =>
    have hbar : (!s0.cartMine tag n) = true := by simp [hmine, hm]
    exact ⟨answers_of_work rfl (if_pos hbar), answers_of_work rfl (if_pos hbar)⟩
  case ready =>
    have hbar : s0.cartBar tag a = none := (s.tick_cartBar t tag a).trans (State.cartBar_of_ready hm hst)
    refine ⟨fun hlen => ?readLength, fun bytes s1 hlen hcard => ?read, ⟨fun hv => ?markOutside,
      fun hlo hhi hw => ?mark⟩, fun hlen => ?listLength, fun bytes s1 hlen hcard => ?list,
      fun bytes id m hcard hopen => ?stage, fun hq hw hr => ?eject⟩
    case readLength => exact answers_of_work rfl (cartJournalReadWork_of_bad_length io hbar hlen)
    case read =>
      intro first k hfirst hw
      have hk : (s0.cartSlot n).blocksFrom len first = k := by rw [hslot]; rfl
      have hwork := cartJournalReadWork_of_card (s1 := s1) io hbar hlen hcard hfirst (by rw [hk]; exact hw)
      rw [hk] at hwork
      exact answers_of_work rfl hwork
    case markOutside => exact answers_of_work rfl (cartJournalMarkWork_of_outside io hbar (by rw [hslot]; exact hv))
    case mark =>
      exact answers_of_work rfl (cartJournalMarkWork_of_idle io hbar (by rw [hslot]; exact hlo) (by rw [hslot]; exact hhi)
        (by rw [hslot]; exact hw))
    case listLength => exact answers_of_work rfl (cartDataListWork_of_bad_length io hbar hlen)
    case list =>
      intro d hw
      exact answers_of_work rfl (cartDataListWork_of_card io hbar hlen hcard hw)
    case stage =>
      intro dir
      have hobject : s0.stagedObject a id bytes = dir := by
        unfold State.stagedObject
        rw [hslot]
        rfl
      refine ⟨fun st hdir => ?_, fun o st rs s1 hdir h0 h1 hwork => ?_, fun o st rs s1 hdir hlen hwork => ?_⟩
      · exact answers_of_work rfl (cartDataStageWork_of_refused io hbar hcard hopen (hobject.trans hdir))
      · exact answers_of_work rfl ((cartDataStageWork_of_table io hbar hcard hopen (hobject.trans hdir) h0 h1).trans hwork)
      · exact answers_of_work rfl ((cartDataStageWork_of_delta io hbar hcard hopen (hobject.trans hdir) hlen).trans hwork)
    case eject =>
      exact answers_of_work rfl (cartEjectWork_of_idle io (hmine.trans hm) (by rw [hslot]; exact hst) (by rw [hslot]; exact hq)
        (by rw [hslot]; exact hw) (by rw [hslot]; exact hr))
  case ejectUnready =>
    exact answers_of_work rfl (cartEjectWork_of_unready io (hmine.trans hm) (by rw [hslot]; exact hst))
  case ejectEmpty =>
    exact answers_of_work rfl (cartEjectWork_of_empty io (hmine.trans hm) (by rw [hslot]; exact hst))
  case format =>
    refine ⟨fun hid => answers_of_work rfl (if_pos hid), fun hid hc hb => ?_, fun hid hc h0 h1 => ?_⟩
    · exact answers_of_work rfl ((cartFormatWork_of_id io hid (by rw [hslot]; exact hc)).trans (if_pos (by rw [hslot]; exact hb)))
    · refine stages_of_work rfl ((cartFormatWork_of_id io hid (by rw [hslot]; exact hc)).trans (if_neg ?_))
      rw [hslot]
      omega

/-- Settles O43: the fare commands and the cartridge commands, each in the envelope of every block command. -/
theorem fareAndCartridgeCommands : Obligations.FareAndCartridgeCommands := ⟨fareCommands, cartridgeCommands⟩

end Sys2Proof.Machine
end

section
/-! PROOFS. The checks of a session: the exact denylist search, the ticket and the tariff (R219, R225, R228, R231, R232, Table 8-4). -/

namespace Sys2Proof.Machine
open Sys2Proof.Say

/-! ### A session denied (R216, R217) -/

section
variable (s : State)

theorem State.queueDecision_frame (lane type : Nat) : s.queueDecision lane type =
    { s with lane := { s.lane with segs := (s.queueDecision lane type).lane.segs } } := by
  unfold State.queueDecision
  split <;> rfl

@[simp] theorem State.queueDecision_fare (lane type : Nat) : (s.queueDecision lane type).fare = s.fare := by
  rw [State.queueDecision_frame]

@[simp] theorem State.ses_queueDecision (lane type k : Nat) : (s.queueDecision lane type).ses k = s.ses k :=
  State.ses_of_fare (by simp) k

theorem State.leaveCell_frame (lane : Nat) (x : Session) : s.leaveCell lane x true = { s with sea := (s.leaveCell lane x true).sea } := by
  have hdrain (s : State) (n : Nat) : s.drainSlot n = { s with sea := (s.drainSlot n).sea } := by
    unfold State.drainSlot
    split <;> rfl
  unfold State.leaveCell
  dsimp only
  split
  · exact hdrain _ _
  · rfl

end

/-- A session that a Deny has ended at a time: nothing is charged, and its record waits to be sealed. -/
def Session.denied (x : Session) (at_ reason prompt : Nat) : Session :=
  { x with fare := 0, valueAfter := 0, outcome := some .deny, reason, prompt, frame := true, phase := .sealing, queued := none
           awaiting := none, sealBy := some (at_ + 8000000) }

section
variable {s : State} {lane : Nat} {x : Session} (hx : s.ses lane = some x)
include hx

theorem State.denySes_eq (reason prompt : Nat) : s.denySes lane reason prompt =
    ((s.modSes lane (fun x => { x with fare := 0, valueAfter := 0 })).fixOutcome lane .deny reason prompt true
      { x with fare := 0, valueAfter := 0 }).queueDecision lane 0x11 := by
  simp only [State.denySes, State.conclude, State.ses_modSes_same, hx, Option.map_some]
  rfl

theorem State.ses_denySes (reason prompt : Nat) : (s.denySes lane reason prompt).ses lane = some (x.denied s.now reason prompt) := by
  rw [State.denySes_eq hx, State.ses_queueDecision, State.fixOutcome, State.ses_await, State.ses_modSes_same, State.leaveCell_frame]
  exact congrArg _ ((State.ses_modSes_same s lane _).trans (congrArg _ hx))

theorem State.ses_denySes_ne (reason prompt : Nat) {k : Nat} (hk : k ≠ lane) : (s.denySes lane reason prompt).ses k = s.ses k := by
  rw [State.denySes_eq hx, State.ses_queueDecision, State.fixOutcome, State.ses_await, State.ses_modSes_ne _ _ hk,
    State.leaveCell_frame]
  exact s.ses_modSes_ne _ hk

theorem State.denySes_ended (reason prompt : Nat) : ended (s.denySes lane reason prompt) lane = some (some .deny, reason) :=
  congrArg (Option.map _) (State.ses_denySes hx reason prompt)

/-! ### The exact denylist search (R228) -/

/-- An entry that stands, for ever or until its expiry, denies the session. -/
theorem State.denySearch_of_listed {e : DenyEntry}
    (hit : ((s.cfgOf x.cfg).deny x.tenant).entries.find? (fun e => e.key == denyKey x.kind x.ident) = some e)
    (hexp : e.expiry = 0 ∨ timeLe s.sec32 e.expiry = true) :
    s.denySearch lane = (s.modSes lane (fun x => { x with denyHit := true })).denySes lane 0x10 0x10 := by
  simp only [State.denySearch, hx, hit, hexp, ↓reduceIte]

theorem State.denySearch_of_expired {e : DenyEntry}
    (hit : ((s.cfgOf x.cfg).deny x.tenant).entries.find? (fun e => e.key == denyKey x.kind x.ident) = some e)
    (h0 : e.expiry ≠ 0) (hexp : timeLe s.sec32 e.expiry = false) : s.denySearch lane = s.afterDeny lane := by
  simp only [State.denySearch, hx, hit, h0, hexp, Bool.false_eq_true, or_self, ↓reduceIte]

theorem State.denySearch_of_unlisted
    (hit : ((s.cfgOf x.cfg).deny x.tenant).entries.find? (fun e => e.key == denyKey x.kind x.ident) = none) :
    s.denySearch lane = (s.count 3 x.tenant 4).afterDeny lane := by
  simp only [State.denySearch, hx, hit]

/-! ### The ticket (R225, Tables 8-3 and 8-4) -/

theorem State.ticketCheck_of_bad (hb : ticketOk x.ticket = false) : s.ticketCheck lane =
    (s.free.2.modSes lane (fun x => { x with ident := toLe 16 s.free.1 })).denySes lane 0x17 0x14 := by
  simp only [State.ticketCheck, hx, hb, Bool.not_false, ↓reduceIte]

end

/-- The first tenant of a lane whose tariff takes an issuer's tickets (R225). -/
def Cfg.takerOf (c : Cfg) (lane issuer : Nat) : Option Nat :=
  (match tfind c.lanes lane with | some l => l.tenants | none => []).find?
    (fun t => match tfind c.tables t with | some f => f.issuers.contains issuer | none => false)

theorem Cfg.takerOf_eq_none {c : Cfg} {lane issuer : Nat}
    (h : ∀ b, tfind c.lanes lane = some b → ∀ n ∈ b.tenants, ∀ f, tfind c.tables n = some f → issuer ∉ f.issuers) :
    c.takerOf lane issuer = none := by
  refine List.find?_eq_none.mpr fun n hn => ?_
  split at hn
  next b hb =>
    split
    next f hf => simpa using h b hb n hn f hf
    next => simp
  next => cases hn

theorem Cfg.takerOf_single {c : Cfg} {lane issuer n : Nat} {b : LaneBind} {f : FareTable} (hb : tfind c.lanes lane = some b)
    (hn : b.tenants = [n]) (hf : tfind c.tables n = some f) (hi : issuer ∈ f.issuers) : c.takerOf lane issuer = some n := by
  simp [Cfg.takerOf, hb, hn, hf, hi]

/-- A ticket's identity and product read into its session (Table 8-8). -/
def State.ticketRead (s : State) (lane : Nat) (b : List Byte) : State :=
  s.modSes lane (fun x => { x with ident := ticketIdent b, product := beNat (slice b 28 2) })

/-- A session bound to a tenant of its configuration (R218, R224). -/
def Session.boundTo (x : Session) (c : Cfg) (tenant profile : Nat) : Session :=
  { x with
    tenant, profile
    stationId := match tfind c.tables tenant with | some f => f.stationId | none => 0
    tableSerial := match tfind c.tables tenant with | some f => f.serial | none => 0 }

theorem Session.boundTo_stationId (x : Session) {c : Cfg} {tenant : Nat} {f : FareTable} (hf : tfind c.tables tenant = some f)
    (profile : Nat) : (x.boundTo c tenant profile).stationId = f.stationId := by simp only [Session.boundTo, hf]

theorem State.ses_bindSes {s : State} {lane : Nat} {x : Session} (hx : s.ses lane = some x) (tenant profile : Nat) :
    (s.bindSes lane tenant profile).ses lane = some (x.boundTo (s.cfgOf x.cfg) tenant profile) := by
  have hbound := (State.ses_modSes_same s lane (fun x => x.boundTo (s.cfgOf x.cfg) tenant profile)).trans (congrArg _ hx)
  simp only [State.bindSes, hx]
  split <;> split <;> exact hbound

theorem State.boundKey_of_no_keys {s : State} {c : Cfg} {tenant : Nat} (h : tget c.keys tenant [] = []) (role issuer keyId : Nat) :
    s.boundKey c tenant role issuer keyId = none := by
  simp [State.boundKey, h]

/-- No policy of Table 8-4 passes without a signature that verifies. -/
theorem policyPasses_of_unsigned (policy : Nat) (ecHere pqHere : Bool) : policyPasses policy ecHere pqHere false false = false := by
  unfold policyPasses
  split
  · rfl
  · cases ecHere <;> cases pqHere <;> rfl
  · rfl
  · rfl

section
variable {s : State} {lane : Nat} {x : Session} (hx : s.ses lane = some x) (hb : ticketOk x.ticket = true)
include hx hb

theorem State.ticketCheck_of_untaken (hn : (s.cfgOf x.cfg).takerOf lane (beNat (slice x.ticket 2 4)) = none) :
    s.ticketCheck lane = (s.ticketRead lane x.ticket).denySes lane 0x15 0x15 := by
  simp only [State.ticketCheck, hx, hb, Bool.not_true, Bool.false_eq_true, ↓reduceIte]
  split
  next => rfl
  next h => exact nomatch hn.symm.trans h

/-- A ticket of a tenant without keys verifies under no policy of Table 8-4. -/
theorem State.ticketCheck_of_keyless {n : Nat} (hn : (s.cfgOf x.cfg).takerOf lane (beNat (slice x.ticket 2 4)) = some n)
    (hk : tget (s.cfgOf x.cfg).keys n [] = []) : s.ticketCheck lane =
      (((s.ticketRead lane x.ticket).bindSes lane n 0).modSes lane (fun x => { x with ecOk := false, pqOk := false })).denySes
        lane 0x14 0x14 := by
  simp only [State.ticketCheck, hx, hb, Bool.not_true, Bool.false_eq_true, ↓reduceIte]
  split
  next h => exact nomatch hn.symm.trans h
  next h =>
    obtain rfl := Option.some.inj (hn.symm.trans h)
    simp only [State.boundKey_of_no_keys hk, Bool.and_false, policyPasses_of_unsigned, Bool.not_false, ↓reduceIte]
    rfl

end

/-! ### The tariff (R231, R232) -/

section
variable {f : FareTable} {tap product : Nat} {card : Option (Int × List Nat)}

theorem FareTable.judge_of_outside (h : (timeLe f.validFrom (tap % 2 ^ 32) && timeLe (tap % 2 ^ 32) f.validTo) = false) :
    f.judge tap product card = { outcome := .deny, reason := 0x11, prompt := 0x11 } := by
  simp only [FareTable.judge, h, Bool.not_false, ↓reduceIte]

/-- The rule that decides: the first that matches the product, the local day and the local minute (R231). -/
def FareTable.ruleFor (f : FareTable) (tap product : Nat) : Option FareRule :=
  f.rules.find? (fun r => r.matches_ product
    (if f.holidays.contains (((tap : Int) + f.tzOffset) / 86400).toNat then 7 else ((((tap : Int) + f.tzOffset) / 86400 + 3) % 7).toNat)
    (((tap : Int) + f.tzOffset) % 86400 / 60).toNat)

variable (hv : (timeLe f.validFrom (tap % 2 ^ 32) && timeLe (tap % 2 ^ 32) f.validTo) = true)
include hv

theorem FareTable.judge_of_no_rule (h : f.ruleFor tap product = none) :
    f.judge tap product card = { outcome := .deny, reason := 0x11, prompt := 0x11 } := by
  unfold FareTable.ruleFor at h
  simp only [FareTable.judge, hv, Bool.not_true, Bool.false_eq_true, ↓reduceIte, h]

theorem FareTable.judge_of_refusal {r : FareRule} (h : f.ruleFor tap product = some r) (ha : r.action = 2) :
    f.judge tap product card = { outcome := .deny, reason := 0x18, prompt := if r.prompt ≠ 0 then r.prompt else 0x11 } := by
  unfold FareTable.ruleFor at h
  simp only [FareTable.judge, hv, Bool.not_true, Bool.false_eq_true, ↓reduceIte, h, ha]

theorem FareTable.judge_of_pass {r : FareRule} (h : f.ruleFor tap product = some r) (ha : r.action = 1) :
    f.judge tap product card = { outcome := .accept, reason := 2, prompt := if r.prompt ≠ 0 then r.prompt else 3
                                 valueAfter := card.elim 0 (·.1) } := by
  unfold FareTable.ruleFor at h
  simp only [FareTable.judge, hv, Bool.not_true, Bool.false_eq_true, ↓reduceIte, h, ha, OfNat.one_ne_ofNat]
  cases card <;> rfl

/-- A card without an earlier tap pays the rule's fare, down to the least value that the table allows. -/
theorem FareTable.judge_of_fare {r : FareRule} (h : f.ruleFor tap product = some r) (ha : r.action = 0) (bal : Int) :
    f.judge tap product (some (bal, [])) =
      if bal - r.fare < f.minValue then { outcome := .deny, reason := 0x12, prompt := 0x12 }
      else { outcome := .accept, reason := 0, prompt := if r.prompt ≠ 0 then r.prompt else 1, fare := r.fare
             valueAfter := bal - r.fare } := by
  unfold FareTable.ruleFor at h
  simp only [FareTable.judge, hv, Bool.not_true, Bool.false_eq_true, ↓reduceIte, h, ha, OfNat.zero_ne_ofNat, zero_ne_one,
    List.any_nil]
  rfl

end

end Sys2Proof.Machine
end

section
/-! PROOFS. The sealing of a session's record and its offer to its destinations (R29, R216, R226, R233 to R236, R241, R258). -/

namespace Sys2Proof.Machine
open Sys2Proof.Say

/-! ### The record sealed (R233, R234) -/

/-- The key of the chain that a session's record is sealed under. -/
def State.chainKey (s : State) (x : Session) : Option (List Byte) :=
  s.journalKey (if x.cell.isSome then s.cfgOf x.cfg else s.cfg) x.tenant

/-- Journal code of a session's outcome, 0 without one. -/
def Session.code (x : Session) : Nat := match x.outcome with | some o => outcomeCode o | none => 0

/-- The 128 bytes of a session's record, with its decision stamp and its cell, under its chain's next RSEQ (Table 8-8). -/
def State.sealedBytes (s : State) (lane : Nat) (x : Session) (dec cell : Nat) : List Byte :=
  sealBytes (s.chainKey x) (x.head lane ((s.chain x.tenant).rseq + 1) dec ((s.chain x.tenant).restart && (s.chainKey x).isSome) cell
    x.code x.reason x.prompt ++ (if (s.chain x.tenant).restart then List.replicate 16 0 else (s.chain x.tenant).lastSeal))

/-- A session's record before it is offered. -/
def State.sealedRec (s : State) (lane : Nat) (x : Session) (bytes : List Byte) : JRec :=
  { bytes, tenant := x.tenant, rseq := (s.chain x.tenant).rseq + 1, lane, slot := x.slot, outcome := x.code, reason := x.reason }

/-- The chain after a record with these bytes. -/
def State.chainAfter (s : State) (x : Session) (bytes : List Byte) : Chain :=
  { rseq := (s.chain x.tenant).rseq + 1, lastSeal := bytes.drop 112, restart := (s.chainKey x).isNone }

/-- A session's record sealed, listed and counted. -/
def State.withSealed (s : State) (lane : Nat) (x : Session) (bytes : List Byte) : State :=
  ((s.modFare (fun a => { a with
    records := tset a.records s.fare.nextRec (s.sealedRec lane x bytes), nextRec := s.fare.nextRec + 1
    chains := tset a.chains x.tenant (s.chainAfter x bytes) })).count 7 0 0).modSes lane
      (fun x => { x with record := some s.fare.nextRec, phase := .sealed })

theorem State.decOf_eq (s : State) (x : Session) : ∃ drawn dec, s.decOf x = (dec, { s with freeCtr := drawn }) ∧
    (x.decided = true → dec = x.decSec % 2 ^ 48 + x.decNs * 2 ^ 48) := by
  by_cases hd : x.decided = true
  · exact ⟨_, _, if_pos hd, fun _ => rfl⟩
  · exact ⟨_, _, if_neg hd, fun h => absurd h hd⟩

/-- The decision stamp is the session's where its decision stands, and the cell its own where it has one; what is open of
the two is drawn. -/
theorem State.sealRecord_eq (s : State) (lane : Nat) (x : Session) : ∃ drawn dec cell,
    (x.decided = true → dec = x.decSec % 2 ^ 48 + x.decNs * 2 ^ 48) ∧ (∀ n, x.cell = some n → cell = n) ∧
      s.sealRecord lane x = (s.fare.nextRec, ({ s with freeCtr := drawn } : State).withSealed lane x (s.sealedBytes lane x dec cell)) := by
  obtain ⟨drawn, dec, hdec, hstamp⟩ := s.decOf_eq x
  cases hc : x.cell with
  | some n =>
    refine ⟨drawn, dec, n, hstamp, fun k hk => Option.some.inj hk, ?_⟩
    simp only [State.sealRecord, hdec, hc]
    simp only [State.withSealed, State.sealedRec, State.chainAfter, State.sealedBytes, State.chainKey, hc]
    rfl
  | none =>
    refine ⟨drawn + 1, dec, Config.freeValue drawn, hstamp, fun k hk => (nomatch hk), ?_⟩
    simp only [State.sealRecord, hdec, hc, State.free]
    simp only [State.withSealed, State.sealedRec, State.chainAfter, State.sealedBytes, State.chainKey, hc]
    rfl

section
variable (s : State)

@[simp] theorem State.jrec_modJ_same (n : Nat) (f : JRec → JRec) : (s.modJ n f).jrec n = (s.jrec n).map f := tfind_tupd_same _ n f

theorem State.jrec_of_records {s s' : State} (h : s'.fare.records = s.fare.records) (n : Nat) : s'.jrec n = s.jrec n := by
  rw [State.jrec, h, State.jrec]

/-! ### The destinations (R29, R102, R235, R243) -/

/-- What the offer of record n to the ring and to the cartridge may change: what these two hold, the tickets used, counters
other than that of the records sealed, and of the record what it was answered. -/
structure State.Offers (n : Nat) (s s' : State) : Prop where
  frame : s' = { s with ins := s'.ins, evt := s'.evt, out := s'.out, stat := s'.stat, cart := s'.cart
                        fare := { s.fare with records := s'.fare.records, used := s'.fare.used } }
  sealed : s'.counter 7 0 0 = s.counter 7 0 0
  record : ∀ r, s.jrec n = some r → ∃ r', s'.jrec n = some r' ∧
    r' = { r with ring := r'.ring, cart := r'.cart, cartSlot := r'.cartSlot, cartBy := r'.cartBy }

variable {s} in
theorem State.Offers.trans {n : Nat} {a b c : State} (h1 : a.Offers n b) (h2 : b.Offers n c) : a.Offers n c where
  frame := by rw [h2.frame, h1.frame]
  sealed := h2.sealed.trans h1.sealed
  record r hr := by
    obtain ⟨r1, hr1, heq1⟩ := h1.record r hr
    obtain ⟨r2, hr2, heq2⟩ := h2.record r1 hr1
    exact ⟨r2, hr2, by rw [heq2, heq1]⟩

theorem State.Offers.refl (n : Nat) : s.Offers n s := ⟨rfl, rfl, fun r hr => ⟨r, hr, rfl⟩⟩

/-- A part of the offer that leaves every record alone. -/
theorem State.Offers.of_records {n : Nat} {s s' : State} (hr : s'.fare.records = s.fare.records)
    (hc : s'.counter 7 0 0 = s.counter 7 0 0)
    (hf : s' = { s with ins := s'.ins, evt := s'.evt, out := s'.out, stat := s'.stat, cart := s'.cart
                        fare := { s.fare with records := s'.fare.records, used := s'.fare.used } }) : s.Offers n s' :=
  ⟨hf, hc, fun r h => ⟨r, (State.jrec_of_records hr n).trans h, rfl⟩⟩

theorem State.Offers.of_count (n g k i : Nat) (h : statKey g k i ≠ statKey 7 0 0) : s.Offers n (s.count g k i) :=
  .of_records (by simp) (s.counter_count_ne h) (by rw [State.count_frame])

theorem State.Offers.of_modJ (n : Nat) (f : JRec → JRec)
    (hf : ∀ r, f r = { r with ring := (f r).ring, cart := (f r).cart, cartSlot := (f r).cartSlot, cartBy := (f r).cartBy }) :
    s.Offers n (s.modJ n f) where
  frame := rfl
  sealed := rfl
  record r hr := ⟨f r, by rw [State.jrec_modJ_same, hr]; rfl, hf r⟩

theorem State.Completes.offers {n : Nat} {s s' : State} (h : s.Completes s') : s.Offers n s' :=
  .of_records (by rw [h.frame]) (State.counter_of_stat (by rw [h.frame]) _ _ _) (by rw [h.frame])

/-- An accepted single ride's ticket joins its tenant's set; a full set counts the ticket that it evicts (R226). -/
theorem State.markUsed_offers {x : Session} (h : x.tenant < 768) (n : Nat) : s.Offers n (s.markUsed x) := by
  have hadd (l : List UsedTicket) : s.Offers n (s.modFare (fun a => { a with used := tset a.used x.tenant l })) :=
    .of_records rfl rfl rfl
  unfold State.markUsed
  split
  · unfold State.useTicket
    dsimp only
    split
    · exact hadd _
    · exact (hadd _).trans (.of_count _ _ _ _ _ (by unfold statKey; omega))
  · exact .refl s n

theorem State.ringOffer_offers {tenant : Nat} (h : tenant < 768) (n : Nat) (record : List Byte) (fault : Option Nat) :
    s.Offers n (s.ringOffer tenant record fault).2 := by
  have hrefuse (s : State) : s.Offers n (s.count 3 tenant 3) := .of_count _ _ _ _ _ (by unfold statKey; omega)
  have hwrite := (s.cqWrite_completes tenant (s.insN tenant 0x0305) 0xFFFF 0 2 0xFFFF record fault true).offers (n := n)
  unfold State.ringOffer
  dsimp only
  split
  · exact hrefuse s
  · split
    next heq => rwa [heq] at hwrite
    next heq =>
      rw [heq] at hwrite
      exact hwrite.trans (hrefuse _)

theorem State.cartOffer_offers (n tenant : Nat) : s.Offers n (s.cartOffer n tenant) := by
  unfold State.cartOffer
  split
  · exact .of_modJ s n _ (fun _ => rfl)
  · dsimp only
    split
    · refine .trans ?_ (.of_modJ _ n _ (fun _ => rfl))
      exact .of_records rfl rfl rfl
    · exact (State.Offers.of_modJ s n _ (fun _ => rfl)).trans (.of_count _ _ _ _ _ (by unfold statKey; omega))

/-- A tenant's record goes to the ring and the cartridge, an unbound one to neither; the hub journal buffer comes last. -/
theorem State.offer_eq {tenant : Nat} (h : tenant < 768) (n : Nat) (fault : Option Nat) :
    ∃ s1, s.Offers n s1 ∧ s.offer n tenant fault = s1.hubOffer n := by
  unfold State.offer
  split
  · exact ⟨s, .refl s n, rfl⟩
  · exact ⟨_, ((s.ringOffer_offers h n _ fault).trans (.of_modJ _ n _ (fun _ => rfl))).trans (State.cartOffer_offers _ n tenant), rfl⟩

/-! ### The hub journal buffer (R236) -/

/-- A record written to an index of the hub journal buffer, which becomes HELD. -/
def State.heldAt (s : State) (n i : Nat) : State :=
  (s.modFare (fun a => { a with hub := tset a.hub i n, append := (i + 1) % 8192 })).modJ n
    (fun r => { r with hub := .accepted, index := some i })

theorem State.hubOffer_of_free {i : Nat} (h : hubNext s.fare.hub 8192 s.fare.append = some i) (n : Nat) :
    s.hubOffer n = s.heldAt n i := by
  simp only [State.hubOffer, h]
  rfl

theorem State.jrec_heldAt {n : Nat} {r : JRec} (h : s.jrec n = some r) (i : Nat) :
    (s.heldAt n i).jrec n = some { r with hub := .accepted, index := some i } := by
  rw [State.heldAt, State.jrec_modJ_same]
  exact congrArg _ h

/-! ### The first acceptance, and what follows the answers (R29, R197, R236) -/

theorem State.firstAccept_frame (n : Nat) : s.firstAccept n =
    { s with lane := { s.lane with segs := (s.firstAccept n).lane.segs }
             fare := { s.fare with sessions := (s.firstAccept n).fare.sessions } } := by
  unfold State.firstAccept
  split
  · rfl
  · split
    · split
      · rw [State.queueDecision_frame]
        rfl
      · rfl
    · rfl

theorem State.ses_firstAccept_ne {n k : Nat} {r : JRec} (hr : s.jrec n = some r) (hk : k ≠ r.lane) :
    (s.firstAccept n).ses k = s.ses k := by
  simp only [State.firstAccept, hr]
  split
  · split
    · rw [State.ses_queueDecision, State.ses_modSes_ne _ _ hk]
    · rfl
  · rfl

/-- OPEN is queued at the first acceptance of a sealed Accept's record (R29). -/
theorem State.firstAccept_of_accept {n : Nat} {r : JRec} {y : Session} (hr : s.jrec n = some r) (hy : s.ses r.lane = some y)
    (hrec : y.record = some n) (ho : y.outcome = some .accept) (hp : y.phase = .sealed) (hd : y.decided = false)
    (hn : r.nowhere = false) : s.firstAccept n = (s.modSes r.lane (fun x => { x with phase := .closing })).queueDecision r.lane 0x10 := by
  simp [State.firstAccept, hr, hy, hrec, ho, hp, hd, hn]

/-- The decision frame of a session in the place of its segment's last (R183). -/
theorem State.seg_queueDecision {lane : Nat} {x : Session} (h : s.ses lane = some x) (type : Nat) :
    ((s.queueDecision lane type).seg (laneSeg lane)).decisions = (s.seg (laneSeg lane)).decisions ++
      [{ lane, type, slot := x.slot.getD 0xFFFF, prompt := x.prompt, openTime := if type = 0x10 then s.openTime lane x else 0 }] := by
  simp only [State.queueDecision, h, State.seg_modSeg_same]

/-- The slot of a record that every destination has answered becomes FREE (R197). -/
def State.slotFreed (s : State) (r : JRec) : State :=
  if r.open_ then s else match r.slot with
    | some k => if (s.slot k).state == .draining then s.releaseSlot k else s
    | none => s

theorem State.slotFreed_frame (r : JRec) : s.slotFreed r = { s with sea := (s.slotFreed r).sea, stat := (s.slotFreed r).stat } := by
  unfold State.slotFreed
  split
  · rfl
  · split
    · split
      · rw [State.releaseSlot_frame]
      · rfl
    · rfl

theorem State.counter_slotFreed (r : JRec) : (s.slotFreed r).counter 7 0 0 = s.counter 7 0 0 := by
  have hrelease (k : Nat) : (s.releaseSlot k).counter 7 0 0 = s.counter 7 0 0 := by
    unfold State.releaseSlot
    split
    · rfl
    · exact State.counter_count_ne _ (by decide)
  unfold State.slotFreed
  split
  · rfl
  · split
    · split
      · exact hrelease _
      · rfl
    · rfl

/-- Record n is listed no more once nothing needs it. -/
def State.dropDone (s : State) (n : Nat) : State :=
  s.modFare (fun a => { a with records := a.records.filter (fun p => !(p.1 == n && p.2.done)) })

theorem State.unplace_of_accepted {n : Nat} {r : JRec} (hr : s.jrec n = some r) (hn : r.nowhere = false) : s.unplace n = s := by
  simp [State.unplace, hr, hn]

/-- A record HELD in the hub journal buffer, which keeps what other destinations have accepted (fare.hub_keep), stays there. -/
theorem State.settle_of_held {n : Nat} {r : JRec} {i : Nat} (hr : s.jrec n = some r) (hhub : r.hub = .accepted) (hi : r.index = some i)
    (hkeep : s.devN 0x0606 ≠ 0) : s.settle n = ((s.firstAccept n).slotFreed r).dropDone n := by
  have hn : r.nowhere = false := by simp [JRec.nowhere, hhub]
  have hfirst : (s.firstAccept n).jrec n = some r := (State.jrec_of_records (by rw [State.firstAccept_frame]) n).trans hr
  have hfreed : ((s.firstAccept n).slotFreed r).jrec n = some r :=
    (State.jrec_of_records (by rw [State.slotFreed_frame]) n).trans hfirst
  have hdev : ((s.firstAccept n).slotFreed r).devN 0x0606 ≠ 0 := by
    rw [State.slotFreed_frame, State.firstAccept_frame]
    exact hkeep
  have hunplace := State.unplace_of_accepted _ hfreed hn
  simp only [State.settle, hfirst, hi]
  change (if (decide ((((s.firstAccept n).slotFreed r).unplace n).devN 0x0606 = 0) && r.elsewhere) = true then _
    else ((s.firstAccept n).slotFreed r).unplace n).dropDone n = _
  rw [hunplace, if_neg (by simp [hdev])]

theorem State.jrec_dropDone_of_held {n : Nat} {r : JRec} {i : Nat} (hr : s.jrec n = some r) (hi : r.index = some i) :
    (s.dropDone n).jrec n = some r := tfind_filter_of_kept hr (by simp [JRec.done, hi])

theorem State.closeSes_fare (lane : Nat) : (s.closeSes lane).fare = { s.fare with sessions := (s.closeSes lane).fare.sessions } := by
  unfold State.closeSes
  split
  · split <;> rfl
  · rfl

theorem State.ses_closeSes_ne {lane k : Nat} (hk : k ≠ lane) : (s.closeSes lane).ses k = s.ses k := by
  unfold State.closeSes
  split
  · split
    · exact tfind_terase_ne _ hk
    · rfl
  · rfl

/-- What the settling of a HELD record and the close of its session may change. -/
theorem State.settle_closeSes_of_held {n i : Nat} {r : JRec} (hr : s.jrec n = some r) (hhub : r.hub = .accepted)
    (hi : r.index = some i) (hkeep : s.devN 0x0606 ≠ 0) :
    let s' := (s.settle n).closeSes r.lane
    s'.jrec n = some r ∧ s'.fare = { s.fare with sessions := s'.fare.sessions, records := s'.fare.records } ∧
      s'.lane = (s.firstAccept n).lane ∧ s'.counter 7 0 0 = s.counter 7 0 0 ∧ ∀ k, k ≠ r.lane → s'.ses k = s.ses k := by
  have hfreed : ((s.firstAccept n).slotFreed r).jrec n = some r :=
    (State.jrec_of_records (by rw [State.slotFreed_frame, State.firstAccept_frame]) n).trans hr
  intro s'
  have hs' : s' = (((s.firstAccept n).slotFreed r).dropDone n).closeSes r.lane :=
    congrArg (State.closeSes · r.lane) (s.settle_of_held hr hhub hi hkeep)
  rw [hs']
  refine ⟨?_, ?_, ?_, ?_, fun k hk => ?_⟩
  · exact (State.jrec_of_records (by rw [State.closeSes_fare]) n).trans (State.jrec_dropDone_of_held _ hfreed hi)
  · rw [State.closeSes_fare, State.dropDone, State.slotFreed_frame, State.firstAccept_frame]
    rfl
  · rw [State.closeSes_lane, State.dropDone, State.slotFreed_frame]
    rfl
  · exact (State.counter_of_stat (by rw [State.closeSes_frame]; rfl) 7 0 0).trans
      ((State.counter_slotFreed _ r).trans (State.counter_of_stat (by rw [State.firstAccept_frame]) 7 0 0))
  · have hses : ((s.firstAccept n).slotFreed r).ses k = (s.firstAccept n).ses k :=
      State.ses_of_fare (by rw [State.slotFreed_frame]) k
    exact (State.ses_closeSes_ne _ hk).trans (hses.trans (s.ses_firstAccept_ne hr hk))

/-- What the offer of a record leaves where the hub journal buffer has room, the ticket used at once. -/
theorem State.offer_of_room {n i : Nat} {x : Session} {r0 : JRec} (ht : x.tenant < 768)
    (hroom : hubNext s.fare.hub 8192 s.fare.append = some i) (hr : s.jrec n = some r0) (fault : Option Nat) :
    let s' := (s.markUsed x).offer n x.tenant fault
    (∃ r, s'.jrec n = some r ∧ r = { r0 with ring := r.ring, cart := r.cart, cartSlot := r.cartSlot, cartBy := r.cartBy
                                             hub := .accepted, index := some i }) ∧
      s' = { s with ins := s'.ins, evt := s'.evt, out := s'.out, stat := s'.stat, cart := s'.cart
                    fare := { s.fare with records := s'.fare.records, used := s'.fare.used
                                          hub := tset s.fare.hub i n, append := (i + 1) % 8192 } } ∧
      s'.counter 7 0 0 = s.counter 7 0 0 := by
  obtain ⟨s1, hoffered, heq⟩ := (s.markUsed x).offer_eq ht n fault
  have hoffers := (s.markUsed_offers ht n).trans hoffered
  have hheld : (s.markUsed x).offer n x.tenant fault = s1.heldAt n i :=
    heq.trans (s1.hubOffer_of_free (by rw [hoffers.frame]; exact hroom) n)
  obtain ⟨r, hr1, hsame⟩ := hoffers.record r0 hr
  rw [hheld]
  refine ⟨⟨_, s1.jrec_heldAt hr1 i, by rw [hsame]⟩, ?_, hoffers.sealed⟩
  rw [State.heldAt, hoffers.frame]
  rfl

end

end Sys2Proof.Machine
end

section
/-! PROOFS. Fare sessions: the commands that search, verify, seal and end them, and the used tickets (R219, R225 to R228, R231,
R233 to R237, Tables 8-4 and 8-8). -/

namespace Sys2Proof.Machine
open Sys2Proof.Say

/-! ### DENYLIST_EXACT_SEARCH and BARCODE_VERIFY (R225, R228) -/

section
variable {s : State} {t lane : Nat} {x : Session} (hx : s.ses lane = some x)
include hx

theorem exec_denylistExactSearch_of_searching (hp : x.phase = .searching) :
    exec (.denylistExactSearch t lane) s = .next ((s.tick t).denySearch lane) := by
  simp only [exec, execDenylistExactSearch, State.tick_ses, hx, hp, ↓reduceIte]

theorem exec_denylistExactSearch_of_other (hp : x.phase ≠ .searching) : exec (.denylistExactSearch t lane) s = .next (s.tick t) := by
  simp only [exec, execDenylistExactSearch, State.tick_ses, hx, hp, ↓reduceIte]

theorem exec_barcodeVerify_of_verifying (hp : x.phase = .verifying) :
    exec (.barcodeVerify t lane) s = .next ((s.tick t).ticketCheck lane) := by
  simp only [exec, execBarcodeVerify, State.tick_ses, hx, hp, ↓reduceIte]

end

section
variable {s : State} {t lane : Nat} {x : Session} (hx : s.ses lane = some x)
include hx

/-- A session read further and then denied. -/
theorem State.modSes_denySes (f : Session → Session) (reason prompt : Nat) :
    ended ((s.modSes lane f).denySes lane reason prompt) lane = some (some .deny, reason) ∧
      ∀ k, k ≠ lane → ((s.modSes lane f).denySes lane reason prompt).ses k = s.ses k := by
  have hread : (s.modSes lane f).ses lane = some (f x) := by
    rw [State.ses_modSes_same, hx]
    rfl
  exact ⟨State.denySes_ended hread reason prompt,
    fun k hk => (State.ses_denySes_ne hread reason prompt hk).trans (s.ses_modSes_ne f hk)⟩

/-- A listed identity is denied unless its entry has expired (R228). -/
theorem denylistExactSearch_denies (hp : x.phase = .searching) {e : DenyEntry}
    (hit : ((s.cfgOf x.cfg).deny x.tenant).entries.find? (fun e => e.key == denyKey x.kind x.ident) = some e)
    (hexp : e.expiry = 0 ∨ timeLe (s.tick t).sec32 e.expiry = true) : ∃ s', exec (.denylistExactSearch t lane) s = .next s' ∧
      ended s' lane = some (some .deny, 0x10) ∧ ∀ k, k ≠ lane → s'.ses k = s.ses k := by
  have htick : (s.tick t).ses lane = some x := by simpa using hx
  have hlisted := State.denySearch_of_listed htick (by simpa using hit) hexp
  obtain ⟨hended, hothers⟩ := State.modSes_denySes htick (fun x => { x with denyHit := true }) 0x10 0x10
  rw [← hlisted] at hended hothers
  exact ⟨_, exec_denylistExactSearch_of_searching hx hp, hended, fun k hk => (hothers k hk).trans (s.tick_ses t k)⟩

/-- A ticket that breaks its layout is denied with 0x17 (R225, Table 8-3). -/
theorem barcodeVerify_denies_layout (hp : x.phase = .verifying) (hb : ticketOk x.ticket = false) :
    ∃ s', exec (.barcodeVerify t lane) s = .next s' ∧ ended s' lane = some (some .deny, 0x17) ∧
      ∀ k, k ≠ lane → s'.ses k = s.ses k := by
  have htick : (s.tick t).ses lane = some x := by simpa using hx
  obtain ⟨hended, hothers⟩ := State.modSes_denySes (s := (s.tick t).free.2) htick
    (fun x => { x with ident := toLe 16 (s.tick t).free.1 }) 0x17 0x14
  rw [← State.ticketCheck_of_bad htick hb] at hended hothers
  exact ⟨_, exec_barcodeVerify_of_verifying hx hp, hended, fun k hk => (hothers k hk).trans (s.tick_ses t k)⟩

/-- A ticket of an issuer that no tenant of the lane takes is denied with 0x15 (R225). -/
theorem barcodeVerify_denies_issuer (hp : x.phase = .verifying) (hb : ticketOk x.ticket = true)
    (hn : (s.cfgOf x.cfg).takerOf lane (beNat (slice x.ticket 2 4)) = none) :
    ∃ s', exec (.barcodeVerify t lane) s = .next s' ∧ ended s' lane = some (some .deny, 0x15) := by
  have htick : (s.tick t).ses lane = some x := by simpa using hx
  obtain ⟨hended, -⟩ := State.modSes_denySes htick (fun y => { y with ident := ticketIdent x.ticket, product := beNat (slice x.ticket 28 2) })
    0x15 0x15
  have huntaken := State.ticketCheck_of_untaken htick hb (by simpa using hn)
  exact ⟨_, exec_barcodeVerify_of_verifying hx hp, (congrArg (ended · lane) huntaken).trans hended⟩

/-- A ticket is bound to the tenant that takes its issuer, and denied with 0x14 where that tenant has no key for it. -/
theorem barcodeVerify_denies_keyless (hp : x.phase = .verifying) (hb : ticketOk x.ticket = true) {n : Nat} {f : FareTable}
    (hn : (s.cfgOf x.cfg).takerOf lane (beNat (slice x.ticket 2 4)) = some n) (hf : tfind (s.cfgOf x.cfg).tables n = some f)
    (hk : tget (s.cfgOf x.cfg).keys n [] = []) :
    ∃ s', exec (.barcodeVerify t lane) s = .next s' ∧ ended s' lane = some (some .deny, 0x14) ∧
      (s'.ses lane).map (fun y => (y.tenant, y.stationId)) = some (n, f.stationId) := by
  have htick : (s.tick t).ses lane = some x := by simpa using hx
  have hkeyless := State.ticketCheck_of_keyless htick hb (by simpa using hn) (by simpa using hk)
  have hread : ((s.tick t).ticketRead lane x.ticket).ses lane =
      some { x with ident := ticketIdent x.ticket, product := beNat (slice x.ticket 28 2) } :=
    (State.ses_modSes_same _ lane _).trans (congrArg _ htick)
  have hverified := (State.ses_modSes_same _ lane (fun x => { x with ecOk := false, pqOk := false })).trans
    (congrArg _ (State.ses_bindSes hread n 0))
  have hdenied := State.ses_denySes hverified 0x14 0x14
  rw [← hkeyless] at hdenied
  have htables : tfind (((s.tick t).ticketRead lane x.ticket).cfgOf x.cfg).tables n = some f :=
    (congrArg (fun c : Cfg => tfind c.tables n) (s.tick_cfgOf t x.cfg)).trans hf
  refine ⟨_, exec_barcodeVerify_of_verifying hx hp, ?_, ?_⟩
  · rw [ended, hdenied]
    rfl
  · rw [hdenied]
    exact congrArg (fun i => some (n, i)) (Session.boundTo_stationId x htables 0)

end

/-! ### JOURNAL_SEAL (R29, R216, R233 to R236) -/

/-- A session's record sealed on a Ledger cell, offered, settled, and the session closed if it is decided. -/
def State.journalled (s : State) (lane cell : Nat) (x : Session) (fault : Option Nat) : State :=
  let p := ((s.unwait (.sealing lane)).giveWork cell (.sealing lane)).sealRecord lane x
  ((((p.2.markUsed x).offer p.1 x.tenant fault).dropWorkOn cell (.sealing lane)).settle p.1).closeSes lane

theorem exec_journalSeal_of_cell {s : State} {t lane cell : Nat} {io : HostIo} {x : Session} (hx : s.ses lane = some x)
    (hp : x.phase = .sealing) (hgo : (s.tick t).placing = true) (hfirst : (s.tick t).sealFirst lane x = true)
    (hcell : (s.tick t).bestCell .ledger false = some cell) :
    exec (.journalSeal t lane cell io) s = .next ((s.tick t).journalled lane cell x io.cqFault) := by
  change execJournalSeal t lane cell io s = _
  simp only [execJournalSeal, State.tick_ses, hx, hp, hgo, hfirst, hcell]
  exact if_neg (by simp)

theorem exec_journalSeal_of_unready {s : State} {t lane cell : Nat} {io : HostIo} (h : ∀ x, s.ses lane = some x → x.phase ≠ .sealing) :
    exec (.journalSeal t lane cell io) s = .next (s.tick t) := by
  change execJournalSeal t lane cell io s = _
  cases hx : s.ses lane with
  | none => simp only [execJournalSeal, State.tick_ses, hx]
  | some x => simp [execJournalSeal, hx, h x hx]

/-- What JOURNAL_SEAL leaves of a session's record and of the state, where the hub journal buffer has room. -/
structure State.Journalled (s s' : State) (lane i : Nat) (x : Session) (bytes : List Byte) : Prop where
  record : ∃ r, s'.jrec s.fare.nextRec = some r ∧ r.bytes = bytes ∧ r.tenant = x.tenant ∧ r.rseq = (s.chain x.tenant).rseq + 1 ∧
    r.hub = .accepted ∧ r.index = some i
  hub : s'.fare.hub = tset s.fare.hub i s.fare.nextRec
  append : s'.fare.append = (i + 1) % 8192
  nextRec : s'.fare.nextRec = s.fare.nextRec + 1
  chains : s'.fare.chains = tset s.fare.chains x.tenant (s.chainAfter x bytes)
  counted : s'.counter 7 0 0 = min statMax (s.counter 7 0 0 + 1)
  opened : x.outcome = some .accept → x.decided = false → (s'.seg (laneSeg lane)).decisions = (s.seg (laneSeg lane)).decisions ++
    [{ lane, type := 0x10, slot := x.slot.getD 0xFFFF, prompt := x.prompt, openTime := s.openTime lane x }]
  others : ∀ k, k ≠ lane → s'.ses k = s.ses k

theorem State.jrec_withSealed (s : State) (lane : Nat) (x : Session) (bytes : List Byte) :
    (s.withSealed lane x bytes).jrec s.fare.nextRec = some (s.sealedRec lane x bytes) := by
  simp [State.jrec, State.withSealed, State.modSes, State.modFare]

theorem State.withSealed_frame (s : State) (lane : Nat) (x : Session) (bytes : List Byte) : s.withSealed lane x bytes =
    { s with stat := (s.withSealed lane x bytes).stat
             fare := { s.fare with
               sessions := (s.withSealed lane x bytes).fare.sessions, records := (s.withSealed lane x bytes).fare.records
               nextRec := s.fare.nextRec + 1, chains := tset s.fare.chains x.tenant (s.chainAfter x bytes) } } := by
  unfold State.withSealed
  rw [State.count_frame]
  rfl

theorem State.counter_withSealed (s : State) (lane : Nat) (x : Session) (bytes : List Byte) :
    (s.withSealed lane x bytes).counter 7 0 0 = min statMax (s.counter 7 0 0 + 1) := State.counter_count_same _ 7 0 0

theorem State.ses_withSealed_ne (s : State) {lane k : Nat} (x : Session) (bytes : List Byte) (hk : k ≠ lane) :
    (s.withSealed lane x bytes).ses k = s.ses k := by
  rw [State.withSealed, State.ses_modSes_ne _ _ hk, State.ses_count]
  rfl

section
variable {s : State} {lane : Nat} {x : Session} (hx : s.ses lane = some x)
include hx

theorem State.ses_withSealed (bytes : List Byte) :
    (s.withSealed lane x bytes).ses lane = some { x with record := some s.fare.nextRec, phase := .sealed } := by
  rw [State.withSealed, State.ses_modSes_same, State.ses_count]
  exact congrArg _ hx

/-- A record sealed, offered and settled, from the state in which its cell has the work. -/
theorem State.withSealed_journalled {i : Nat} (ht : x.tenant < 768) (hkeep : s.devN 0x0606 ≠ 0)
    (hroom : hubNext s.fare.hub 8192 s.fare.append = some i) (bytes : List Byte) (cell : Nat) (fault : Option Nat) :
    s.Journalled (((((s.withSealed lane x bytes).markUsed x).offer s.fare.nextRec x.tenant fault).dropWorkOn cell
      (.sealing lane)).settle s.fare.nextRec |>.closeSes lane) lane i x bytes := by
  have hsealed := s.jrec_withSealed lane x bytes
  have hcount := s.counter_withSealed lane x bytes
  have hopen := State.ses_withSealed hx bytes
  have helse (k : Nat) (hk : k ≠ lane) := s.ses_withSealed_ne x bytes hk
  have hw := s.withSealed_frame lane x bytes
  generalize s.withSealed lane x bytes = w at *
  obtain ⟨⟨r, hr, hrec⟩, hd, hcounter⟩ := w.offer_of_room ht (by rw [hw]; exact hroom) hsealed fault
  generalize (w.markUsed x).offer s.fare.nextRec x.tenant fault = d at *
  have hlane : r.lane = lane := by rw [hrec]; rfl
  have hhub : r.hub = .accepted := by rw [hrec]
  have hses (k : Nat) : d.ses k = w.ses k := by rw [State.ses, hd]; rfl
  obtain ⟨hrecord, hfare, hsegs, hcounted, hothers⟩ := (d.dropWorkOn cell (.sealing lane)).settle_closeSes_of_held hr hhub
    (by rw [hrec]) (by rw [hd, hw]; exact hkeep)
  rw [hlane] at hrecord hfare hsegs hcounted hothers
  refine ⟨⟨r, hrecord, ?_⟩, ?_, ?_, ?_, ?_, ?_, fun ho hdec => ?_, fun k hk => ?_⟩
  · rw [hrec]
    exact ⟨rfl, rfl, rfl, rfl, rfl⟩
  · rw [hfare]
    change d.fare.hub = _
    rw [hd, hw]
  · rw [hfare]
    change d.fare.append = _
    rw [hd]
  · rw [hfare]
    change d.fare.nextRec = _
    rw [hd, hw]
  · rw [hfare]
    change d.fare.chains = _
    rw [hd, hw]
  · exact hcounted.trans (hcounter.trans hcount)
  · have hy : (d.dropWorkOn cell (.sealing lane)).ses r.lane = some { x with record := some s.fare.nextRec, phase := .sealed } := by
      rw [hlane]
      exact (hses lane).trans hopen
    have hfirst := State.firstAccept_of_accept (d.dropWorkOn cell (.sealing lane)) hr hy rfl ho rfl hdec (by simp [JRec.nowhere, hhub])
    rw [hlane] at hy hfirst
    have hclosing : ((d.dropWorkOn cell (.sealing lane)).modSes lane (fun x => { x with phase := .closing })).ses lane =
        some { x with record := some s.fare.nextRec, phase := .closing } := by
      rw [State.ses_modSes_same, hy]
      rfl
    rw [State.seg_of_lane hsegs, hfirst, State.seg_queueDecision _ hclosing]
    change (d.seg (laneSeg lane)).decisions ++ [{ openTime := d.openTime lane x, .. }] = _
    rw [hd, hw]
    rfl
  · exact (hothers k hk).trans ((hses k).trans (helse k hk))

end

/-- A state that differs from s only in its clock, its placements, the values drawn and counters other than that of the records
sealed: a record sealed from it is the one sealed from s. -/
structure State.Prepares (s u : State) : Prop where
  frame : u = { s with now := u.now, tim := u.tim, sea := u.sea, stat := u.stat, freeCtr := u.freeCtr }
  counted : u.counter 7 0 0 = s.counter 7 0 0

section
variable {s u : State} (h : s.Prepares u)
include h

theorem State.Prepares.sealedBytes (lane : Nat) (x : Session) (dec cell : Nat) :
    u.sealedBytes lane x dec cell = s.sealedBytes lane x dec cell := by
  rw [h.frame]
  rfl

theorem State.Prepares.journalled {s' : State} {lane i : Nat} {x : Session} {bytes : List Byte}
    (hj : u.Journalled s' lane i x bytes) : s.Journalled s' lane i x bytes := by
  have hcounted := hj.counted
  rw [h.counted] at hcounted
  rw [h.frame] at hj
  exact ⟨hj.record, hj.hub, hj.append, hj.nextRec, hj.chains, hcounted, hj.opened, hj.others⟩

end

theorem State.prepares_tick (s : State) (t : Nat) : s.Prepares (s.tick t) where
  frame := by
    obtain ⟨n, x, e⟩ := s.tick_form t
    rw [e]
  counted := by simp

/-- A cell, which is one of the 768, takes the sealing, and a value is drawn. -/
theorem State.prepares_giveWork (s : State) {lane cell : Nat} (h : cell ≤ 767) (drawn : Nat) :
    s.Prepares { (s.unwait (.sealing lane)).giveWork cell (.sealing lane) with freeCtr := drawn } where
  frame := by
    rw [State.giveWork_frame]
    rfl
  counted := State.counter_count_ne _ (by unfold statKey; omega)

theorem State.journalled_of_room {s : State} {lane cell i : Nat} {x : Session} (hx : s.ses lane = some x) (ht : x.tenant < 768)
    (hcell : cell ≤ 767) (hkeep : s.devN 0x0606 ≠ 0) (hroom : hubNext s.fare.hub 8192 s.fare.append = some i) (fault : Option Nat) :
    ∃ dec c, (x.decided = true → dec = x.decSec % 2 ^ 48 + x.decNs * 2 ^ 48) ∧ (∀ n, x.cell = some n → c = n) ∧
      s.Journalled (s.journalled lane cell x fault) lane i x (s.sealedBytes lane x dec c) := by
  obtain ⟨drawn, dec, c, hdec, hc, heq⟩ := ((s.unwait (.sealing lane)).giveWork cell (.sealing lane)).sealRecord_eq lane x
  refine ⟨dec, c, hdec, hc, ?_⟩
  have hprep := s.prepares_giveWork (lane := lane) hcell drawn
  unfold State.journalled
  rw [heq, ← hprep.sealedBytes]
  exact hprep.journalled (State.withSealed_journalled (by rw [State.giveWork_frame]; exact hx) ht (by rw [State.giveWork_frame]; exact hkeep)
    (by rw [State.giveWork_frame]; exact hroom) _ cell fault)

/-- A session's record is sealed and journalled, and what JOURNAL_SEAL leaves alone. -/
theorem exec_journalSeal_of_room {s : State} {t lane cell i : Nat} {io : HostIo} {x : Session} (hx : s.ses lane = some x)
    (hp : x.phase = .sealing) (ht : x.tenant < 768) (hcell : cell ≤ 767) (hkeep : s.devN 0x0606 ≠ 0)
    (hgo : (s.tick t).placing = true) (hfirst : (s.tick t).sealFirst lane x = true)
    (hbest : (s.tick t).bestCell .ledger false = some cell) (hroom : hubNext s.fare.hub 8192 s.fare.append = some i) :
    ∃ s' dec c, exec (.journalSeal t lane cell io) s = .next s' ∧
      (x.decided = true → dec = x.decSec % 2 ^ 48 + x.decNs * 2 ^ 48) ∧ (∀ n, x.cell = some n → c = n) ∧
      s.Journalled s' lane i x (s.sealedBytes lane x dec c) := by
  have hprep := s.prepares_tick t
  obtain ⟨dec, c, hdec, hc, hj⟩ := State.journalled_of_room (s := s.tick t) (by simpa using hx) ht hcell (by simpa using hkeep)
    (by simpa using hroom) io.cqFault
  rw [hprep.sealedBytes] at hj
  exact ⟨_, dec, c, exec_journalSeal_of_cell hx hp hgo hfirst hbest, hdec, hc, hprep.journalled hj⟩

/-! ### SEAL_BUDGET_EXPIRED (R30, R237, R241) -/

/-- A would-be Accept that no destination accepted in time. -/
def Session.late (x : Session) : Session :=
  { x with outcome := some .refer, reason := 0x20, prompt := 0x20, sealBy := none
           phase := if x.record.isSome then .closing else x.phase }

/-- A lane's session referred for its late record, which is sealed again. -/
def State.referred (s : State) (lane : Nat) (x : Session) : State :=
  let s1 := s.modSes lane Session.late
  match x.record with | some n => s1.resealRefer n | none => s1

theorem State.resealRefer_frame (s : State) (n : Nat) : s.resealRefer n =
    { s with freeCtr := (s.resealRefer n).freeCtr
             fare := { s.fare with records := (s.resealRefer n).fare.records, chains := (s.resealRefer n).fare.chains } } := by
  unfold State.resealRefer
  split
  · rfl
  · split
    · rfl
    next x _ =>
      obtain ⟨drawn, dec, hdec, -⟩ := s.decOf_eq x
      rw [hdec]
      rfl

theorem State.ses_referred (s : State) (lane : Nat) (x : Session) (k : Nat) :
    (s.referred lane x).ses k = (s.modSes lane Session.late).ses k := by
  unfold State.referred
  split
  · rw [State.ses, State.resealRefer_frame]
    rfl
  · rfl

theorem State.referred_frame (s : State) (lane : Nat) (x : Session) : s.referred lane x =
    { s with fare := (s.referred lane x).fare, freeCtr := (s.referred lane x).freeCtr } := by
  unfold State.referred
  split
  · rw [State.resealRefer_frame]
    rfl
  · rfl

section
variable {s : State} {t lane due : Nat} {x : Session} (hx : s.ses lane = some x) (hdue : x.sealBy = some due)
include hx hdue

theorem exec_sealBudgetExpired_of_late (hd : x.decided = false) (ho : x.outcome = some .accept) (hp : x.phase ≠ .closing)
    (hnone : s.pending.any (sameCycleAccept t lane) = false) :
    exec (.sealBudgetExpired t lane) s = .next (((s.tick (max t due)).referred lane x).queueDecision lane 0x12) := by
  have hpending : (s.tick (max t due)).pending.any (sameCycleAccept t lane) = false := by simpa using hnone
  have hopen : (x.decided || decide (x.outcome ≠ some .accept) || x.phase == .closing) = false := by simp [hd, ho, hp]
  change execSealBudgetExpired t lane s = _
  simp only [execSealBudgetExpired, hx, hdue, hpending, hopen, Bool.and_false, Bool.false_eq_true, if_false]
  rfl

theorem exec_sealBudgetExpired_of_decided (hd : x.decided = true) :
    exec (.sealBudgetExpired t lane) s = .next ((s.tick (max t due)).modSes lane (fun x => { x with sealBy := none })) := by
  change execSealBudgetExpired t lane s = _
  simp only [execSealBudgetExpired, hx, hdue, hd, Bool.true_or, if_true]

end

/-! ### CART_ACCEPT_TIMEOUT and USED_TICKET_PURGE (R226, R235) -/

section
variable {s : State} {t rec : Nat} {r : JRec} (hr : s.jrec rec = some r)
include hr

theorem exec_cartAcceptTimeout_of_waiting (hw : r.cart = .waiting) : exec (.cartAcceptTimeout t rec) s =
    .next ((((s.tick (max t r.cartBy)).count 8 (r.cartSlot.getD 0) 1).modJ rec (fun r => { r with cart := .refused })).settle rec) := by
  have htick : (s.tick (max t r.cartBy)).jrec rec = some r := by simpa using hr
  simp only [exec, execCartAcceptTimeout, hr, hw, if_true, State.cartAnswer, htick, ne_eq, not_true_eq_false, if_false]
  rfl

theorem exec_cartAcceptTimeout_of_answered (hw : r.cart ≠ .waiting) : exec (.cartAcceptTimeout t rec) s = .next (s.tick t) := by
  simp only [exec, execCartAcceptTimeout, hr, hw, if_false]

end

/-- A tenant's used tickets without those past VALID_TO. -/
def State.purged (s : State) (tag : Nat) : State :=
  s.modFare (fun a => { a with used := tupd a.used tag (fun l => l.filter (fun u => !timeLt u.validTo s.sec32)) })

theorem exec_usedTicketPurge (s : State) (t tag : Nat) : exec (.usedTicketPurge t tag) s = .next ((s.tick t).purged tag) := rfl

theorem State.used_purged_same (s : State) (tag : Nat) :
    tget (s.purged tag).fare.used tag [] = (tget s.fare.used tag []).filter (fun u => !timeLt u.validTo s.sec32) := by
  change (tfind (tupd s.fare.used tag _) tag).getD [] = _
  rw [tfind_tupd_same, tget]
  cases tfind s.fare.used tag <;> rfl

theorem State.used_purged_ne (s : State) {tag k : Nat} (h : k ≠ tag) :
    tget (s.purged tag).fare.used k [] = tget s.fare.used k [] := by
  change (tfind (tupd s.fare.used tag _) k).getD [] = _
  rw [tfind_tupd_ne _ _ h.symm, tget]

/-! ### The statement, part by part -/

section
variable {s : State} {t lane : Nat} {x : Session} (hx : s.ses lane = some x)
include hx

/-- An Accept that no destination accepts in its budget becomes a Refer with reason 0x20, decided on its lane. -/
theorem sealBudgetExpired_refers {due : Nat} (hdue : x.sealBy = some due) (hd : x.decided = false) (ho : x.outcome = some .accept)
    (hp : x.phase ≠ .closing) (hnone : s.pending.any (sameCycleAccept t lane) = false) :
    ∃ s', exec (.sealBudgetExpired t lane) s = .next s' ∧ ended s' lane = some (some .refer, 0x20) ∧ s'.now = (s.tick (max t due)).now ∧
      (s'.seg (laneSeg lane)).decisions = (s.seg (laneSeg lane)).decisions ++
        [{ lane, type := 0x12, slot := x.slot.getD 0xFFFF, prompt := 0x20, openTime := 0 }] ∧ ∀ k, k ≠ lane → s'.ses k = s.ses k := by
  have hlate : ((s.tick (max t due)).referred lane x).ses lane = some x.late := by
    rw [State.ses_referred, State.ses_modSes_same, State.tick_ses, hx]
    rfl
  refine ⟨_, exec_sealBudgetExpired_of_late hx hdue hd ho hp hnone, ?_, ?_, ?_, fun k hk => ?_⟩
  · rw [ended, State.ses_queueDecision, hlate]
    rfl
  · rw [State.queueDecision_frame, State.referred_frame]
  · rw [State.seg_queueDecision _ hlate, State.seg_of_lane (s := s.tick (max t due)) (by rw [State.referred_frame]), State.tick_seg]
    rfl
  · rw [State.ses_queueDecision, State.ses_referred, State.ses_modSes_ne _ _ hk, State.tick_ses]

theorem sealBudgetExpired_keeps {due : Nat} (hdue : x.sealBy = some due) (hd : x.decided = true) :
    ∃ s', exec (.sealBudgetExpired t lane) s = .next s' ∧ ended s' lane = some (x.outcome, x.reason) ∧ s'.lane = s.lane := by
  refine ⟨_, exec_sealBudgetExpired_of_decided hx hdue hd, ?_, ?_⟩
  · rw [ended, State.ses_modSes_same, State.tick_ses, hx]
    rfl
  · exact State.tick_lane s _

end

/-- Settles O41: each command's step is reduced to one function of the session (its denial, its binding, its record sealed, its
reference), whose effect is said once. -/
theorem fareSessions : Obligations.FareSessions := by
  refine ⟨?_, ?_, ?_, ?_, ?_, ?_, ?_, ?_, ?_, ?_, ?_⟩
  · intro t lane s x hx hp s0 hit
    have htick : s0.ses lane = some x := by simpa [s0] using hx
    have hsame : ((s0.cfgOf x.cfg).deny x.tenant).entries.find? (fun e => e.key == denyKey x.kind x.ident) = hit := by
      rw [State.tick_cfgOf]
    have hexec := exec_denylistExactSearch_of_searching (t := t) hx hp
    refine ⟨fun e he hexp => denylistExactSearch_denies hx hp he hexp, fun e he h0 hexp => ?_, fun he => ?_⟩
    · exact hexec.trans (congrArg _ (State.denySearch_of_expired htick (hsame.trans he) h0 hexp))
    · exact hexec.trans (congrArg _ (State.denySearch_of_unlisted htick (hsame.trans he)))
  · intro t lane s x hx hp
    exact exec_denylistExactSearch_of_other hx hp
  · intro t lane s x hx hp
    refine ⟨barcodeVerify_denies_layout hx hp, fun hb hn => ?_, fun b n f hb hlane htenants hf hi hk => ?_⟩
    · exact barcodeVerify_denies_issuer hx hp hb (Cfg.takerOf_eq_none hn)
    · exact barcodeVerify_denies_keyless hx hp hb (Cfg.takerOf_single hlane htenants hf hi) hf hk
  · intro f tap product card
    refine ⟨FareTable.judge_of_outside, fun day hv hday => ?_⟩
    subst hday
    intro bit rule
    refine ⟨FareTable.judge_of_no_rule hv, fun r hr ha => ?_, fun r hr ha => ?_, fun r bal hr ha hcard => ?_⟩
    · rw [FareTable.judge_of_refusal hv hr ha]
      exact ⟨rfl, rfl⟩
    · rw [FareTable.judge_of_pass hv hr ha]
      exact ⟨rfl, rfl, rfl⟩
    · rw [hcard, FareTable.judge_of_fare hv hr ha bal]
      refine ⟨fun hlow => ?_, fun hhigh => ?_⟩
      · rw [if_pos hlow]
        exact ⟨rfl, rfl⟩
      · rw [if_neg (Int.not_lt.mpr hhigh)]
        exact ⟨rfl, rfl, rfl⟩
  · intro t lane cell i io s x hx hp ht hcell hkeep s0 hgo hfirst hbest hroom key ch code
    obtain ⟨s', dec, c, hexec, hdec, hc, hj⟩ := exec_journalSeal_of_room (io := io) hx hp ht hcell hkeep hgo hfirst hbest hroom
    obtain ⟨r, hr, hbytes, htenant, hrseq, hhub, hindex⟩ := hj.record
    refine ⟨s', r, dec, c, hexec, hr, hbytes, hdec, hc, htenant, hrseq, hhub, hindex, ?_, hj.append, hj.nextRec, ?_, fun k hk => ?_,
      hj.counted, hj.opened, hj.others⟩
    · rw [hj.hub, tfind_tset_same]
    · rw [hj.chains, tfind_tset_same, hbytes]
      rfl
    · rw [hj.chains, tfind_tset_ne _ _ hk.symm]
  · intro t lane cell io s h
    exact exec_journalSeal_of_unready h
  · intro t lane due s x hx hdue hd ho hp hnone
    exact sealBudgetExpired_refers hx hdue hd ho hp hnone
  · intro t lane due s x hx hdue hd
    exact sealBudgetExpired_keeps hx hdue hd
  · intro t rec s r hr hw
    exact ⟨_, exec_cartAcceptTimeout_of_waiting hr hw, rfl⟩
  · intro t rec s r hr hw
    exact exec_cartAcceptTimeout_of_answered hr hw
  · intro t tag s
    refine ⟨_, exec_usedTicketPurge s t tag, ?_, fun k hk => ?_, ?_⟩
    · rw [State.used_purged_same, State.tick_fare]
    · rw [State.used_purged_ne _ hk, State.tick_fare]
    · rw [State.purged, State.modFare, State.tick_fare]

end Sys2Proof.Machine
end

section
/-! PROOFS. What an operation of a cartridge slot makes of that slot: the relation `SlotBecomes`, which names the slot's new contents and says
that the other slots stay, with one rule for each operation (R244 to R247, R254 to R256). -/

namespace Sys2Proof.Machine

section
variable (s : State)

/-! ### Answers about records leave every slot alone (R29, R197, R235, R236) -/

theorem State.firstAccept_cart (n : Nat) : (s.firstAccept n).cart = s.cart := by rw [State.firstAccept_frame]

theorem State.slotFreed_cart (r : JRec) : (s.slotFreed r).cart = s.cart := by rw [State.slotFreed_frame]

theorem State.unplace_cart (n : Nat) : (s.unplace n).cart = s.cart := by
  unfold State.unplace
  split
  · rfl
  · split
    · rfl
    · simp [State.modJ, State.modFare]

theorem State.hubOffer_cart (n : Nat) : (s.hubOffer n).cart = s.cart := by
  unfold State.hubOffer
  split <;> rfl

theorem State.hubFree_cart (i : Nat) : (s.hubFree i).cart = s.cart := by
  unfold State.hubFree
  split
  · rfl
  · dsimp only
    split
    · rw [State.firstAccept_cart, State.hubOffer_cart]
      rfl
    · rfl

/-- What a record's settling leaves of the hub journal buffer's entry that holds it (R236). -/
def State.hubKept (s : State) (r : JRec) : State :=
  match r.index with
  | some i => if s.devN 0x0606 = 0 && r.elsewhere then s.hubFree i else s
  | none => s

theorem State.hubKept_cart (r : JRec) : (s.hubKept r).cart = s.cart := by
  unfold State.hubKept
  split
  · split
    · exact State.hubFree_cart _ _
    · rfl
  · rfl

theorem State.settle_of_record {n : Nat} {r : JRec} (hr : (s.firstAccept n).jrec n = some r) :
    s.settle n = ((((s.firstAccept n).slotFreed r).unplace n).hubKept r).dropDone n := by
  simp only [State.settle, hr]
  rfl

theorem State.settle_cart (n : Nat) : (s.settle n).cart = s.cart := by
  cases hr : (s.firstAccept n).jrec n with
  | none => simp only [State.settle, hr, State.firstAccept_cart]
  | some r =>
    rw [s.settle_of_record hr]
    calc ((((s.firstAccept n).slotFreed r).unplace n).hubKept r).cart
        = (((s.firstAccept n).slotFreed r).unplace n).cart := State.hubKept_cart _ r
      _ = s.cart := by rw [State.unplace_cart, State.slotFreed_cart, State.firstAccept_cart]

theorem State.cartAnswer_cart (n : Nat) (ok : Bool) : (s.cartAnswer n ok).cart = s.cart := by
  unfold State.cartAnswer
  split
  · rfl
  · split
    · rfl
    · exact (State.settle_cart _ n).trans (s.count_cart _ _ _ _)

theorem State.cartAnswers_cart (l : List Nat) (ok : Bool) : (l.foldl (fun s r => s.cartAnswer r ok) s).cart = s.cart :=
  foldl_rel (fun a b : State => b.cart = a.cart) (fun _ => rfl) (fun _ _ _ h1 h2 => h2.trans h1) _
    (fun s r => s.cartAnswer_cart r ok) l s

theorem State.cartEvent_frame (n code data : Nat) : s.cartEvent n code data =
    { s with evt := (s.cartEvent n code data).evt, out := (s.cartEvent n code data).out } := by
  unfold State.cartEvent
  split <;> exact State.raise_frame _ _ _ _ _ _ _

theorem State.cartEvent_cart (n code data : Nat) : (s.cartEvent n code data).cart = s.cart := by rw [State.cartEvent_frame]

theorem State.cartEvent_now (n code data : Nat) : (s.cartEvent n code data).now = s.now := by rw [State.cartEvent_frame]

theorem State.ticketDone_cart (k st : Nat) (ws : List Word) : (s.ticketDone k st ws).cart = s.cart := by
  unfold State.ticketDone
  split
  · rfl
  · dsimp only
    split
    · rw [State.notice_frame]
      simp
    · simp

/-! ### What was sent stays sent -/

theorem State.out_subset_raise (code src o tag data : Nat) (e : Option (Word × Word × Word)) :
    s.out ⊆ (s.raise code src o tag data e).out := by
  unfold State.raise
  split
  · exact List.Subset.refl _
  · rw [State.raiseTo_out]
    exact List.subset_cons_self _ _

theorem State.out_subset_cartEvent (n code data : Nat) : s.out ⊆ (s.cartEvent n code data).out := by
  unfold State.cartEvent
  split <;> exact State.out_subset_raise _ _ _ _ _ _ _

theorem State.out_subset_msix (fn v : Nat) : s.out ⊆ (s.msix fn v).out := by
  unfold State.msix
  dsimp only
  split
  · exact List.Subset.refl _
  · exact List.subset_cons_self _ _

theorem State.out_subset_notice (k : Nat) (w : Word) : s.out ⊆ (s.notice k w).out := by
  unfold State.notice
  dsimp only
  split
  · exact State.out_subset_msix (s.modPage k _) _ _
  · exact List.Subset.refl _

theorem State.out_subset_ticketDone (k st : Nat) (ws : List Word) : s.out ⊆ (s.ticketDone k st ws).out := by
  unfold State.ticketDone
  split
  · exact List.Subset.refl _
  · next c hc =>
    have hraised := State.out_subset_raise { s with mbx := { s.mbx with tickets := terase s.mbx.tickets k } } 0x0101 srcSteward c.tag c.tag
      (k + st * 2 ^ 16) (some (ws.getD 0 0, ws.getD 1 0, ws.getD 2 0))
    dsimp only
    split
    · exact List.Subset.trans hraised (State.out_subset_notice _ _ _)
    · exact hraised

end

/-! ### One slot changes -/

/-- In the later state slot n holds c, and every other slot what it held. -/
structure State.SlotBecomes (s : State) (n : Nat) (c : CartSlot) (s' : State) : Prop where
  slot : s'.cartSlot n = c
  others : ∀ k, k ≠ n → s'.cartSlot k = s.cartSlot k

/-- A slot whose power goes on or off: its bus is 1 bit wide, at 3.3 V and in mode 0 (R244, R247). -/
def CartSlot.powered (c : CartSlot) (on : Bool) : CartSlot := { c with power := on, mode := 0, wide := false, v18 := false }

/-- A slot whose writer holds no record. -/
def CartSlot.idle (c : CartSlot) : CartSlot := { c with writing := none, rewrite := none, queue := [] }

/-- A slot at step 1 of Table 9-4. -/
def CartSlot.toInit (c : CartSlot) : CartSlot := { c.idle with state := .init, step := 1, cycling := false, ejecting := false }

/-- A slot whose power is off until a time, to be initialised again then (R247). -/
def CartSlot.cycled (c : CartSlot) (ends : Nat) : CartSlot := { c.toInit.powered false with cycling := true, cycleEnds := ends }

/-- A slot that failed (R247). -/
def CartSlot.toFailed (c : CartSlot) : CartSlot := { c.idle with state := .failed, ejecting := false }

/-- A slot after a Retry of Table 9-4: the second failure of an insertion ends it, whatever failed first (log entry 46). -/
def CartSlot.retried (c : CartSlot) (ends : Nat) : CartSlot := if c.failedOnce then c.toFailed else { c.cycled ends with failedOnce := true }

theorem State.cartSlot_of_cart {s s' : State} (h : s'.cart = s.cart) (n : Nat) : s'.cartSlot n = s.cartSlot n := by
  rw [State.cartSlot, h, State.cartSlot]

theorem State.tick_becomes (s : State) (t n : Nat) : s.SlotBecomes n (s.cartSlot n) (s.tick t) :=
  ⟨s.tick_cartSlot t n, fun k _ => s.tick_cartSlot t k⟩

namespace State.SlotBecomes
variable {s s1 s2 : State} {n : Nat} {c : CartSlot} (h : s.SlotBecomes n c s1)
include h

theorem keeps (hc : s2.cart = s1.cart) : s.SlotBecomes n c s2 where
  slot := (State.cartSlot_of_cart hc n).trans h.slot
  others k hk := (State.cartSlot_of_cart hc k).trans (h.others k hk)

theorem mod {f : CartSlot → CartSlot} {c' : CartSlot} (hf : f c = c') : s.SlotBecomes n c' (s1.modCart n f) where
  slot := (tget_tmod_same _ n _ f).trans ((congrArg f h.slot).trans hf)
  others k hk := (tget_tmod_ne _ _ f hk.symm).trans (h.others k hk)

theorem card (cmd a : Nat) (data : List Byte) : s.SlotBecomes n c (s1.card n cmd a data) := h.keeps rfl

theorem count (g m i by_ : Nat) : s.SlotBecomes n c (s1.count g m i by_) := h.keeps (s1.count_cart g m i by_)

theorem event (code data : Nat) : s.SlotBecomes n c (s1.cartEvent n code data) := h.keeps (s1.cartEvent_cart n code data)

theorem modEvent {f : CartSlot → CartSlot} {c' : CartSlot} (hf : f c = c') (code data : Nat) :
    s.SlotBecomes n c' ((s1.modCart n f).cartEvent n code data) := (h.mod hf).event code data

theorem answers (l : List Nat) (ok : Bool) : s.SlotBecomes n c (l.foldl (fun s r => s.cartAnswer r ok) s1) :=
  h.keeps (s1.cartAnswers_cart l ok)

theorem step (k : Nat) : s.SlotBecomes n { c with step := k } (s1.cartStep n k) := h.mod rfl

theorem power (on : Bool) : s.SlotBecomes n (c.powered on) (s1.cartPower n on) := (h.mod (f := fun c => c.powered on) rfl).keeps rfl

theorem refuseAll : s.SlotBecomes n c.idle (s1.cartRefuseAll n) := (h.mod (f := CartSlot.idle) rfl).answers _ false

theorem init : s.SlotBecomes n c.toInit (s1.cartInit n) := h.refuseAll.mod rfl

theorem cycle : s.SlotBecomes n (c.cycled (s1.now + 50000000)) (s1.cartCycle n) := (h.init.power false).mod rfl

theorem fail (k : Nat) (unsupported : Bool) : s.SlotBecomes n c.toFailed (s1.cartFail n k unsupported) :=
  h.refuseAll.modEvent (f := fun c => { c with state := .failed, ejecting := false }) rfl 0x0704 _

theorem retry (k : Nat) : s.SlotBecomes n (c.retried (s1.now + 50000000)) (s1.cartRetry n k) := by
  unfold State.cartRetry CartSlot.retried
  rw [h.slot]
  split
  · exact h.fail k false
  · exact h.cycle.mod rfl

theorem off : s.SlotBecomes n (c.idle.powered false) (s1.cartOff n) := h.refuseAll.power false

theorem locked : s.SlotBecomes n { c with state := .locked } (s1.cartLocked n) :=
  h.modEvent (f := fun c => { c with state := .locked }) rfl 0x0705 0

end State.SlotBecomes

theorem CartSlot.retried_of_second {c : CartSlot} (h : c.failedOnce = true) (ends : Nat) : c.retried ends = c.toFailed := if_pos h

theorem CartSlot.retried_of_first {c : CartSlot} (h : c.failedOnce = false) (ends : Nat) :
    c.retried ends = { c.cycled ends with failedOnce := true } := if_neg (by simp [h])

end Sys2Proof.Machine
end

section
/-! PROOFS. A cartridge slot from a card's detection to its removal, and the steps of its initialisation (R244 to R253, Table 9-4). -/

namespace Sys2Proof

/-- A card's answer is not what a step needs: an invalid response, or none in the step's time (R247). -/
def CardResp.bad (r : CardResp) : Bool := !r.valid || r.timeout

theorem CardResp.bad_eq_true {r : CardResp} (h : r.valid = false ∨ r.timeout = true) : r.bad = true := by
  obtain h | h := h <;> simp [CardResp.bad, h]

theorem CardResp.bad_eq_false {r : CardResp} (hv : r.valid = true) (ht : r.timeout = false) : r.bad = false := by
  simp [CardResp.bad, hv, ht]

end Sys2Proof

namespace Sys2Proof.Machine

/-! ### Detection and power (R244, R245, R247) -/

section
variable {s : State} {t slot : Nat} (hslot : slot ≤ 3)
include hslot

theorem exec_cardDetectChange_of_new {level : Bool} (h : (s.cartSlot slot).cdHigh ≠ level) : exec (.cardDetectChange t slot level) s =
    .next ((s.tick t).modCart slot (fun c => { c with cdHigh := level, cdSince := (s.tick t).now })) := by
  simp [exec, execCardDetectChange, h, Nat.not_lt.mpr hslot]

omit hslot in
theorem exec_cardDetectChange_of_same : exec (.cardDetectChange t slot (s.cartSlot slot).cdHigh) s = .next (s.tick t) := by
  simp [exec, execCardDetectChange]

/-- A slot in which a card has been seated for 50 ms starts afresh, with power (R244). -/
def State.seated (s : State) (n : Nat) : State :=
  ((s.modCart n (fun c => { cdHigh := c.cdHigh, cdSince := c.cdSince, state := .init })).cartEvent n 0x0701).cartPower n true

theorem exec_cartInserted_of_seated (hpower : s.lcy.powerGood = true) (hst : (s.cartSlot slot).state = .empty)
    (hoff : (s.cartSlot slot).sealedOff = false) (hcd : (s.cartSlot slot).cdHigh = false)
    (hdue : (s.cartSlot slot).cdSince + 50000000 ≤ (s.tick t).now) :
    exec (.cartInserted t slot) s = .next ((s.tick t).seated slot) := by
  simp [exec, execCartInserted, hpower, hst, hoff, hcd, Nat.not_lt.mpr hdue, Nat.not_lt.mpr hslot, State.seated]

omit hslot in
theorem exec_cartInserted_of_early (hearly : (s.tick t).now < (s.cartSlot slot).cdSince + 50000000) :
    exec (.cartInserted t slot) s = .next (s.tick t) := by
  simp [exec, execCartInserted, hearly]

/-- A slot whose card is gone: its power goes first, then the commands that read it end and the events follow (R245). -/
def State.unseated (s : State) (n : Nat) : State :=
  let off := s.cartOff n
  let told := (off.cartReads n).foldl (fun s k => s.ticketDone k 0x0703 []) off
  ((if (s.cartSlot n).state = .erasing then told.cartEvent n 0x0706 3 else told).cartEvent n 0x0702).modCart n
    (fun c => { cdHigh := c.cdHigh, cdSince := c.cdSince })

theorem exec_cartRemoved_of_gone (hst : (s.cartSlot slot).state ≠ .empty) (hcd : (s.cartSlot slot).cdHigh = true)
    (hdue : (s.cartSlot slot).cdSince + 1000000 ≤ (s.tick t).now) :
    exec (.cartRemoved t slot) s = .next ((s.tick t).unseated slot) := by
  simp [exec, execCartRemoved, hst, hcd, Nat.not_lt.mpr hdue, Nat.not_lt.mpr hslot, State.unseated]

theorem exec_cartPowerCycleEnd_of_due (hst : (s.cartSlot slot).state = .init) (hcycling : (s.cartSlot slot).cycling = true)
    (hdue : (s.cartSlot slot).cycleEnds ≤ (s.tick t).now) : exec (.cartPowerCycleEnd t slot) s =
      .next (((s.tick t).cartPower slot true).modCart slot (fun c => { c with cycling := false, step := 1 })) := by
  simp [exec, execCartPowerCycleEnd, hst, hcycling, Nat.not_lt.mpr hdue, Nat.not_lt.mpr hslot]

end

section
variable {s s1 : State} {n : Nat} {c : CartSlot} (h : s.SlotBecomes n c s1)
include h

theorem State.SlotBecomes.seated :
    s.SlotBecomes n { cdHigh := c.cdHigh, cdSince := c.cdSince, state := .init, power := true } (s1.seated n) :=
  (h.modEvent (f := fun c => { cdHigh := c.cdHigh, cdSince := c.cdSince, state := .init }) rfl 0x0701 0).power true

theorem State.SlotBecomes.unseated : s.SlotBecomes n { cdHigh := c.cdHigh, cdSince := c.cdSince } (s1.unseated n) := by
  have htold : s.SlotBecomes n (c.idle.powered false) (((s1.cartOff n).cartReads n).foldl (fun s k => s.ticketDone k 0x0703 []) (s1.cartOff n)) :=
    h.off.keeps (foldl_rel (fun a b : State => b.cart = a.cart) (fun _ => rfl) (fun _ _ _ h1 h2 => h2.trans h1) _
      (fun s k => s.ticketDone_cart k 0x0703 []) _ _)
  unfold State.unseated
  dsimp only
  split
  · exact ((htold.event 0x0706 3).event 0x0702 0).mod rfl
  · exact (htold.event 0x0702 0).mod rfl

end

theorem State.seated_frame (s : State) (n : Nat) : s.seated n =
    { s with cart := (s.seated n).cart, evt := (s.seated n).evt, out := (s.seated n).out } := by
  unfold State.seated
  rw [State.cartEvent_frame]
  rfl

theorem State.power_mem_out_cartPower (s : State) (n : Nat) (on : Bool) :
    .pin ("K" ++ toString n ++ "_PWR_EN") on ∈ (s.cartPower n on).out := List.mem_cons_self

theorem State.power_mem_out_unseated (s : State) (n : Nat) : .pin ("K" ++ toString n ++ "_PWR_EN") false ∈ (s.unseated n).out := by
  have htold : (s.cartOff n).out ⊆ (((s.cartOff n).cartReads n).foldl (fun s k => s.ticketDone k 0x0703 []) (s.cartOff n)).out :=
    foldl_rel (fun a b : State => a.out ⊆ b.out) (fun _ => List.Subset.refl _) (fun _ _ _ => List.Subset.trans) _
      (fun s k => s.out_subset_ticketDone k 0x0703 []) _ _
  have hoff := htold (State.power_mem_out_cartPower (s.cartRefuseAll n) n false)
  unfold State.unseated
  dsimp only
  refine State.out_subset_cartEvent _ _ _ _ ?_
  split
  · exact State.out_subset_cartEvent _ _ _ _ hoff
  · exact hoff

/-! ### Initialisation (Table 9-4) -/

theorem exec_cartInitStep_of_init {s : State} {t slot : Nat} (hslot : slot ≤ 3) (hst : (s.cartSlot slot).state = .init)
    (hcycling : (s.cartSlot slot).cycling = false) (r : CardResp) :
    exec (.cartInitStep t slot r) s = .next ((s.tick t).initStep slot r) := by
  simp [exec, execCartInitStep, hst, hcycling, Nat.not_lt.mpr hslot]

theorem exec_cartInitStep_of_other {s : State} {t slot : Nat} (hst : (s.cartSlot slot).state ≠ .init) (r : CardResp) :
    exec (.cartInitStep t slot r) s = .next (s.tick t) := by
  simp [exec, execCartInitStep, hst]

section
variable {s : State} {n : Nat} (r : CardResp)

/-- CMD8's echo decides (step 3). -/
theorem State.initStep_of_three (h : (s.cartSlot n).step = 3) : s.initStep n r =
    if r.bad || r.word.toNat != 0x1AA then (s.card n 8 0x1AA).cartFail n 3 true else (s.card n 8 0x1AA).cartStep n 4 := by
  simp only [State.initStep, h]
  rfl

theorem State.initStep_of_three_echoed (h : (s.cartSlot n).step = 3) (hbad : r.bad = false) (hword : r.word.toNat = 0x1AA) :
    s.initStep n r = (s.card n 8 0x1AA).cartStep n 4 :=
  (s.initStep_of_three r h).trans (if_neg (by simp [hbad, hword]))

/-- The card's selection is a Retry (step 7). -/
theorem State.initStep_of_seven (h : (s.cartSlot n).step = 7) : s.initStep n r =
    if r.bad then (s.card n 7 0).cartRetry n 7 else (s.card n 7 0).cartStep n 8 := by
  simp only [State.initStep, h]
  rfl

theorem State.cartPwd_of_unbound (h : tfind s.cfg.carts n = none) : s.cartPwd n = none := by
  simp only [State.cartPwd, h]

/-- A locked card in a slot without a binding stays locked (step 9). -/
theorem State.initStep_of_nine (h : (s.cartSlot n).step = 9) (hl : (s.cartSlot n).lockedNow = true)
    (hb : tfind s.cfg.carts n = none) : s.initStep n r = s.cartLocked n := by
  simp [State.initStep, h, hl, State.cartPwd_of_unbound hb]

/-- What step 12 makes of a slot once it has read the label. -/
def CartSlot.labelled (c : CartSlot) (b : List Byte) : CartSlot :=
  { c with label := b, tenant := bf b 8 2, cartId := bf b 12 8, dataLba := bf b 20 4, dataBlocks := bf b 24 4, jrnLba := bf b 28 4
           jrnBlocks := bf b 32 4 }

/-- The label that step 12 has read. -/
def State.labelRead (s : State) (n : Nat) (b : List Byte) : State := (s.card n 17 0).modCart n (fun c => { c with label := b })

/-- The fields of a valid label (Table 9-6). -/
def State.labelTaken (s : State) (n : Nat) (b : List Byte) : State :=
  (s.labelRead n b).modCart n (fun c =>
    { c with tenant := bf b 8 2, cartId := bf b 12 8, dataLba := bf b 20 4, dataBlocks := bf b 24 4, jrnLba := bf b 28 4
             jrnBlocks := bf b 32 4 })

theorem State.initStep_of_twelve_unformatted (h : (s.cartSlot n).step = 12)
    (hl : labelOk r.label (s.cartSlot n).capacity = false) :
    s.initStep n r = ((s.labelRead n r.label).modCart n (fun c => { c with state := .unformatted })).cartEvent n 0x0707 := by
  simp [State.initStep, h, hl, State.labelRead]

/-- A slot's binding names a tenant. -/
def State.boundTo (s : State) (n tenant : Nat) : Bool := match tfind s.cfg.carts n with | some x => x.tenant == tenant | none => false

theorem State.boundTo_of_unbound {tenant : Nat} (h : tfind s.cfg.carts n = none) : s.boundTo n tenant = false := by
  simp only [State.boundTo, h]

theorem State.boundTo_of_bound {tenant : Nat} {b : CartBind} (h : tfind s.cfg.carts n = some b) (hb : b.tenant = tenant) :
    s.boundTo n tenant = true := by
  simp only [State.boundTo, h, hb, beq_self_eq_true]

theorem State.initStep_of_twelve_labelled (h : (s.cartSlot n).step = 12) (hbad : r.bad = false)
    (hl : labelOk r.label (s.cartSlot n).capacity = true) : s.initStep n r =
      if s.boundTo n (bf r.label 8 2) then (s.labelTaken n r.label).cartStep n 13
      else ((s.labelTaken n r.label).modCart n (fun c => { c with state := .foreign })).cartEvent n 0x0708 := by
  have hguard : (!r.valid || r.timeout || !labelOk r.label (s.cartSlot n).capacity) = false := by
    rw [hl]
    exact (Bool.or_false _).trans hbad
  simp only [State.initStep, h, hguard]
  rfl

/-- The last step makes the slot READY (step 16). -/
theorem State.initStep_of_sixteen (h : (s.cartSlot n).step = 16) : s.initStep n r =
    ((s.modCart n (fun c => { c with state := .ready })).cartEvent n 0x0703).cartFullCheck n := by
  simp only [State.initStep, h]

end

section
variable {s s1 : State} {n : Nat} {c : CartSlot} (h : s.SlotBecomes n c s1)
include h

theorem State.SlotBecomes.labelRead (b : List Byte) : s.SlotBecomes n { c with label := b } (s1.labelRead n b) :=
  (h.card 17 0 []).mod rfl

theorem State.SlotBecomes.labelTaken (b : List Byte) : s.SlotBecomes n (c.labelled b) (s1.labelTaken n b) := (h.labelRead b).mod rfl

theorem State.SlotBecomes.fullCheck_of_room (hroom : c.highest + 1 ≤ c.collected + c.jrnBlocks) :
    s.SlotBecomes n { c with full := false } (s1.cartFullCheck n) := by
  simp only [State.cartFullCheck, h.slot, if_pos hroom]
  exact h.mod rfl

/-! ### What each step makes of its slot (Table 9-4) -/

section
variable {r : CardResp}

theorem State.SlotBecomes.initStep_three_echoed (hstep : c.step = 3) (hbad : r.bad = false) (hword : r.word.toNat = 0x1AA) :
    s.SlotBecomes n { c with step := 4 } (s1.initStep n r) := by
  rw [s1.initStep_of_three_echoed r (by rw [h.slot, hstep]) hbad hword]
  exact (h.card 8 0x1AA []).step 4

theorem State.SlotBecomes.initStep_three_failed (hstep : c.step = 3)
    (hbad : r.valid = false ∨ r.timeout = true ∨ r.word.toNat ≠ 0x1AA) : s.SlotBecomes n c.toFailed (s1.initStep n r) := by
  have hguard : (r.bad || r.word.toNat != 0x1AA) = true := by
    obtain hv | ht | hword := hbad
    · rw [CardResp.bad_eq_true (.inl hv), Bool.true_or]
    · rw [CardResp.bad_eq_true (.inr ht), Bool.true_or]
    · simp [hword]
  rw [s1.initStep_of_three r (by rw [h.slot, hstep]), if_pos hguard]
  exact (h.card 8 0x1AA []).fail 3 true

theorem State.SlotBecomes.initStep_seven_selected (hstep : c.step = 7) (hbad : r.bad = false) :
    s.SlotBecomes n { c with step := 8 } (s1.initStep n r) := by
  rw [s1.initStep_of_seven r (by rw [h.slot, hstep]), if_neg (by simp [hbad])]
  exact (h.card 7 0 []).step 8

theorem State.SlotBecomes.initStep_seven_failed (hstep : c.step = 7) (hbad : r.bad = true) :
    s.SlotBecomes n (c.retried (s1.now + 50000000)) (s1.initStep n r) := by
  rw [s1.initStep_of_seven r (by rw [h.slot, hstep]), if_pos hbad]
  exact (h.card 7 0 []).retry 7

theorem State.SlotBecomes.initStep_nine_locked (hstep : c.step = 9) (hl : c.lockedNow = true) (hb : tfind s1.cfg.carts n = none) :
    s.SlotBecomes n { c with state := .locked } (s1.initStep n r) := by
  rw [s1.initStep_of_nine r (by rw [h.slot, hstep]) (by rw [h.slot, hl]) hb]
  exact h.locked

theorem State.SlotBecomes.initStep_twelve_unformatted (hstep : c.step = 12) (hl : labelOk r.label c.capacity = false) :
    s.SlotBecomes n { c with label := r.label, state := .unformatted } (s1.initStep n r) := by
  rw [s1.initStep_of_twelve_unformatted r (by rw [h.slot, hstep]) (by rw [h.slot, hl])]
  exact (h.labelRead r.label).modEvent (f := fun c => { c with state := .unformatted }) rfl 0x0707 0

section
variable (hstep : c.step = 12) (hbad : r.bad = false) (hl : labelOk r.label c.capacity = true)
include hstep hbad hl

theorem State.SlotBecomes.initStep_twelve_mine (hmine : s1.boundTo n (bf r.label 8 2) = true) :
    s.SlotBecomes n { c.labelled r.label with step := 13 } (s1.initStep n r) := by
  rw [s1.initStep_of_twelve_labelled r (by rw [h.slot, hstep]) hbad (by rw [h.slot, hl]), if_pos hmine]
  exact (h.labelTaken r.label).step 13

theorem State.SlotBecomes.initStep_twelve_foreign (hmine : s1.boundTo n (bf r.label 8 2) = false) :
    s.SlotBecomes n { c.labelled r.label with state := .foreign } (s1.initStep n r) := by
  rw [s1.initStep_of_twelve_labelled r (by rw [h.slot, hstep]) hbad (by rw [h.slot, hl]), if_neg (by simp [hmine])]
  exact (h.labelTaken r.label).modEvent (f := fun c => { c with state := .foreign }) rfl 0x0708 0

end

theorem State.SlotBecomes.initStep_sixteen_ready (hstep : c.step = 16) (hroom : c.highest + 1 ≤ c.collected + c.jrnBlocks) :
    s.SlotBecomes n { c with state := .ready, full := false } (s1.initStep n r) := by
  rw [s1.initStep_of_sixteen r (by rw [h.slot, hstep])]
  exact (h.modEvent (f := fun c => { c with state := .ready }) rfl 0x0703 0).fullCheck_of_room hroom

end

end

end Sys2Proof.Machine
end

section
/-! PROOFS. The journal writer of a cartridge slot, the end of an erase, and the cartridge slots' obligation (R252, R254 to R257, Tables 9-7
and 9-8). -/

namespace Sys2Proof.Machine

/-! ### A block's write (R254) -/

/-- A block as its write starts. -/
def CartBlock.begun (b : CartBlock) (now : Nat) : CartBlock := { b with started := now }

/-- The block that holds one record, for the serial after the highest (Table 9-7). -/
def CartSlot.blockFor (c : CartSlot) (n : Nat) (r : JRec) : CartBlock :=
  { serial := c.highest + 1, bytes := journalBlock (c.highest + 1) c.tenant c.cartId [r.bytes], recs := [n], lastRseq := r.rseq
    lastSeal := slice r.bytes 112 16 }

theorem CartSlot.lba_blockFor (c : CartSlot) (n : Nat) (r : JRec) :
    c.lba (c.blockFor n r).serial = c.jrnLba + c.highest % max 1 c.jrnBlocks := rfl

theorem State.cartWaits_of_waiting {s : State} {n : Nat} {r : JRec} (h : s.jrec n = some r) (hw : r.cart = .waiting) :
    s.cartWaits n = true := by
  simp [State.cartWaits, h, hw]

section
variable {s : State} {t slot : Nat} (hslot : slot ≤ 3) (hst : (s.cartSlot slot).state = .ready)
  (hw : (s.cartSlot slot).writing = none)
include hslot hst hw

/-- A rewrite goes first. -/
theorem exec_cartBlockWrite_of_rewrite {b : CartBlock} (hr : (s.cartSlot slot).rewrite = some b) : exec (.cartBlockWrite t slot) s =
    .next (((s.tick t).modCart slot (fun c => { c with rewrite := none })).blockStart slot { b with again := true }) := by
  simp [exec, execCartBlockWrite, hst, hw, hr, Nat.not_lt.mpr hslot]

/-- One record that waits, and no header due. -/
theorem exec_cartBlockWrite_of_record {n : Nat} {r : JRec} (hr : (s.cartSlot slot).rewrite = none)
    (hd : (s.cartSlot slot).headerDue = false) (hq : (s.cartSlot slot).queue = [n]) (hj : s.jrec n = some r) (hwait : r.cart = .waiting) :
    exec (.cartBlockWrite t slot) s = .next (((s.tick t).modCart slot (fun c => { c with queue := [] })).blockStart slot
      ((s.cartSlot slot).blockFor n r)) := by
  have htick : (s.tick t).jrec n = some r := by simpa using hj
  have hmod (f : CartSlot → CartSlot) : ((s.tick t).modCart slot f).jrec n = some r := htick
  simp [exec, execCartBlockWrite, hst, hw, hr, hd, hq, State.cartWaits_of_waiting htick hwait, hmod, Nat.not_lt.mpr hslot, CartSlot.blockFor]

end

/-! ### A block's end (R254 to R257) -/

section
variable {s : State} {t slot : Nat} {b : CartBlock}

theorem exec_cartBlockDone_of_writing (hst : (s.cartSlot slot).state = .ready) (hw : (s.cartSlot slot).writing = some b) (good : Bool) :
    exec (.cartBlockDone t slot good) s = .next (if good then (s.tick t).blockGood slot b else (s.tick t).blockBad slot b) := by
  simp [exec, execCartBlockDone, hst, hw]

theorem exec_cartBusyTimeout_of_writing (hst : (s.cartSlot slot).state = .ready) (hw : (s.cartSlot slot).writing = some b) :
    exec (.cartBusyTimeout t slot) s =
      .next (if b.started + 500000000 ≤ (s.tick t).now then (s.tick t).blockBad slot b else s.tick t) := by
  simp [exec, execCartBusyTimeout, hst, hw]

end

theorem State.blockBad_of_first {s : State} {b : CartBlock} (ha : b.again = false) (hdev : s.devN 0x0703 = 1) (n : Nat) :
    s.blockBad n b = s.modCart n (fun c => { c with writing := none, rewrite := some b }) := by
  simp only [State.blockBad, ha, hdev, Bool.not_false, decide_true, Bool.and_self, if_true]

theorem State.blockBad_of_again {s : State} {b : CartBlock} {n : Nat} (ha : b.again = true) (he : (s.cartSlot n).ejecting = false) :
    s.blockBad n b = s.cartRetry n 1 := by
  simp only [State.blockBad, ha, he, Bool.not_true, Bool.false_and, Bool.false_eq_true, if_false]

/-- A slot whose block has become the journal's highest (R257). -/
def CartSlot.wrote (c : CartSlot) (b : CartBlock) : CartSlot :=
  { c with writing := none, highest := b.serial, lastRseq := b.lastRseq, lastSeal := b.lastSeal }

/-- What a header's write and the check for a full journal may change in a slot (R256). -/
structure CartSlot.Recorded (c c' : CartSlot) : Prop where
  frame : c' = { c with hserial := c'.hserial, hint := c'.hint, newestB := c'.newestB, headerDue := c'.headerDue, full := c'.full
                        queue := c'.queue }

theorem CartSlot.Recorded.trans {a b c : CartSlot} (h1 : a.Recorded b) (h2 : b.Recorded c) : a.Recorded c :=
  ⟨by rw [h2.frame, h1.frame]⟩

section
variable {s s1 : State} {n : Nat} {c : CartSlot} (h : s.SlotBecomes n c s1)
include h

theorem State.SlotBecomes.blockStart (b : CartBlock) : s.SlotBecomes n { c with writing := some (b.begun s1.now) } (s1.blockStart n b) :=
  (h.card 24 _ _).mod rfl

/-- The block goes to the journal's LBA of its serial (R254). -/
theorem State.SlotBecomes.mem_out_blockStart (b : CartBlock) :
    .card n 24 (wd (c.lba b.serial)) b.bytes ∈ (s1.blockStart n b).out := by
  rw [← h.slot]
  exact List.mem_cons_self

theorem State.SlotBecomes.header :
    s.SlotBecomes n { c with hserial := c.hserial + 1, hint := c.highest, newestB := !c.newestB, headerDue := false } (s1.cartHeader n) :=
  (h.card 24 _ _).mod rfl

theorem State.SlotBecomes.fullCheck : ∃ c', s.SlotBecomes n c' (s1.cartFullCheck n) ∧ c.Recorded c' := by
  by_cases hroom : c.highest + 1 ≤ c.collected + c.jrnBlocks
  · exact ⟨_, h.fullCheck_of_room hroom, ⟨rfl⟩⟩
  · refine ⟨{ c with full := true, queue := [] }, ?_, ⟨rfl⟩⟩
    have hrefused := (h.mod (f := fun c => { c with full := true, queue := [] }) rfl).answers c.queue false
    simp only [State.cartFullCheck, h.slot, if_neg hroom]
    split
    · exact hrefused
    · exact hrefused.event 0x0709 0

theorem State.SlotBecomes.blockAfter (he : c.ejecting = false) : ∃ c', s.SlotBecomes n c' (s1.blockAfter n) ∧ c.Recorded c' := by
  have hejects : ¬c.ejecting = true := by simp [he]
  simp only [State.blockAfter, h.slot, if_neg hejects]
  split
  · obtain ⟨c', hc', hrec⟩ := h.header.fullCheck
    exact ⟨c', hc', CartSlot.Recorded.trans ⟨rfl⟩ hrec⟩
  · exact h.fullCheck

theorem State.SlotBecomes.blockBad_again {b : CartBlock} (ha : b.again = true) (he : c.ejecting = false) :
    s.SlotBecomes n (c.retried (s1.now + 50000000)) (s1.blockBad n b) := by
  rw [State.blockBad_of_again ha (by rw [h.slot, he])]
  exact h.retry 1

theorem State.SlotBecomes.blockGood (b : CartBlock) (he : c.ejecting = false) :
    ∃ c', s.SlotBecomes n c' (s1.blockGood n b) ∧ (c.wrote b).Recorded c' := by
  have hwrote := (h.mod (f := fun c => c.wrote b) rfl).answers b.recs true
  unfold State.blockGood
  dsimp only
  split
  · exact (hwrote.count 8 n 2 1).blockAfter he
  · exact hwrote.blockAfter he

end

/-! ### An erase's end (R252) -/

theorem exec_cartEraseDone_of_erasing {s : State} {t slot : Nat} (hslot : slot ≤ 3) (hst : (s.cartSlot slot).state = .erasing)
    (ok : Bool) : exec (.cartEraseDone t slot ok) s =
      .next (((s.tick t).cartEvent slot 0x0706 (if ok then 0 else 1)).cartCycle slot) := by
  simp [exec, execCartEraseDone, hst, Nat.not_lt.mpr hslot]

theorem exec_cartEraseDone_of_other {s : State} {t slot : Nat} (hst : (s.cartSlot slot).state ≠ .erasing) (ok : Bool) :
    exec (.cartEraseDone t slot ok) s = .next (s.tick t) := by
  simp [exec, execCartEraseDone, hst]

/-! ### The obligation -/

/-- Settles O42: each event is one change of its slot, made of the rules of `SlotBecomes`; the answers about records and the events that
come with it leave every slot alone. -/
theorem cartridgeSlots : Obligations.CartridgeSlots := by
  intro t slot s hslot s0 c lone
  have htick : s.SlotBecomes slot c s0 := s.tick_becomes t slot
  refine ⟨fun level hlevel => ?detected, exec_cardDetectChange_of_same, fun hpower hst hoff hcd hdue => ?inserted,
    exec_cartInserted_of_early, fun hst hcd hdue => ?removed, fun hst hcycling hdue => ?powered, fun hst hcycling r => ?init,
    fun hst r => exec_cartInitStep_of_other hst r, fun n r hst hw hr hd hq hj hwait => ?written, fun b hst hw hr => ?rewritten,
    fun b hst hw => ?done, fun ok hst => ?erased, fun ok hst => exec_cartEraseDone_of_other hst ok⟩
  case detected =>
    have hslot' : s.SlotBecomes slot { c with cdHigh := level, cdSince := s0.now }
      (s0.modCart slot (fun c => { c with cdHigh := level, cdSince := s0.now })) := htick.mod rfl
    exact ⟨_, exec_cardDetectChange_of_new hslot hlevel, hslot'.slot, hslot'.others, rfl⟩
  case inserted =>
    have hseated := htick.seated
    rw [hcd] at hseated
    refine ⟨_, exec_cartInserted_of_seated hslot hpower hst hoff hcd hdue, hseated.slot, hseated.others,
      State.power_mem_out_cartPower _ slot true, ?_⟩
    rw [State.seated_frame]
  case removed =>
    have hgone := htick.unseated
    rw [hcd] at hgone
    exact ⟨_, exec_cartRemoved_of_gone hslot hst hcd hdue, hgone.slot, hgone.others, s0.power_mem_out_unseated slot⟩
  case powered =>
    have hpowered := (htick.power true).mod (f := fun c => { c with cycling := false, step := 1 }) rfl
    exact ⟨_, exec_cartPowerCycleEnd_of_due hslot hst hcycling hdue, hpowered.slot, hpowered.others, rfl⟩
  case init =>
    have hcfg (n : Nat) : tfind s0.cfg.carts n = tfind s.cfg.carts n := by rw [State.tick_cfg]
    have hexec : exec (.cartInitStep t slot r) s = .next (s0.initStep slot r) := exec_cartInitStep_of_init hslot hst hcycling r
    refine ⟨fun hstep hv ht hword => ?echoed, fun hstep hbad => ?unechoed, fun hstep hv ht => ?selected, fun hstep hbad hf => ?unselected,
      fun hstep hbad hf => ?unselectedTwice, fun hstep hl hb => ?locked, fun hstep hl => ?unformatted, fun hstep hv ht hl => ?labelled,
      fun hstep hroom => ?ready⟩
    case echoed =>
      have hbad := CardResp.bad_eq_false hv ht
      have hnext := htick.initStep_three_echoed hstep hbad hword
      refine ⟨_, hexec, hnext.slot, hnext.others, ?_⟩
      rw [s0.initStep_of_three_echoed r (by rw [htick.slot, hstep]) hbad hword]
      rfl
    case unechoed =>
      have hfail := htick.initStep_three_failed hstep hbad
      exact ⟨_, hexec, congrArg CartSlot.state hfail.slot, hfail.others⟩
    case selected =>
      have hnext := htick.initStep_seven_selected hstep (CardResp.bad_eq_false hv ht)
      exact ⟨_, hexec, hnext.slot, hnext.others⟩
    case unselected =>
      have hretry := htick.initStep_seven_failed hstep (CardResp.bad_eq_true hbad)
      rw [CartSlot.retried_of_first hf] at hretry
      exact ⟨_, hexec, congrArg CartSlot.state hretry.slot, congrArg CartSlot.cycling hretry.slot, congrArg CartSlot.power hretry.slot,
        congrArg CartSlot.cycleEnds hretry.slot, congrArg CartSlot.failedOnce hretry.slot, hretry.others⟩
    case unselectedTwice =>
      have hretry := htick.initStep_seven_failed hstep (CardResp.bad_eq_true hbad)
      rw [CartSlot.retried_of_second hf] at hretry
      exact ⟨_, hexec, congrArg CartSlot.state hretry.slot, hretry.others⟩
    case locked =>
      have hlocked := htick.initStep_nine_locked (r := r) hstep hl ((hcfg slot).trans hb)
      exact ⟨_, hexec, congrArg CartSlot.state hlocked.slot, hlocked.others⟩
    case unformatted =>
      have hunformatted := htick.initStep_twelve_unformatted hstep hl
      exact ⟨_, hexec, congrArg CartSlot.state hunformatted.slot, hunformatted.others⟩
    case labelled =>
      have hbad := CardResp.bad_eq_false hv ht
      cases hmine : s0.boundTo slot (bf r.label 8 2) with
      | true =>
        have hnext := htick.initStep_twelve_mine hstep hbad hl hmine
        refine ⟨_, hexec, congrArg CartSlot.tenant hnext.slot, congrArg CartSlot.cartId hnext.slot, congrArg CartSlot.jrnLba hnext.slot,
          congrArg CartSlot.jrnBlocks hnext.slot, hnext.others, fun hnone => ?_, fun b hb htenant =>
            ⟨(congrArg CartSlot.state hnext.slot).trans hst, congrArg CartSlot.step hnext.slot⟩⟩
        simp [State.boundTo_of_unbound ((hcfg slot).trans hnone)] at hmine
      | false =>
        have hforeign := htick.initStep_twelve_foreign hstep hbad hl hmine
        refine ⟨_, hexec, congrArg CartSlot.tenant hforeign.slot, congrArg CartSlot.cartId hforeign.slot,
          congrArg CartSlot.jrnLba hforeign.slot, congrArg CartSlot.jrnBlocks hforeign.slot, hforeign.others,
          fun _ => congrArg CartSlot.state hforeign.slot, fun b hb htenant => ?_⟩
        simp [State.boundTo_of_bound ((hcfg slot).trans hb) htenant] at hmine
    case ready =>
      have hready := htick.initStep_sixteen_ready (r := r) hstep hroom
      exact ⟨_, hexec, hready.slot, hready.others⟩
  case written =>
    have hempty := htick.mod (f := fun c => { c with queue := [] }) rfl
    have hwriting := hempty.blockStart (c.blockFor n r)
    exact ⟨_, (c.blockFor n r).begun s0.now, exec_cartBlockWrite_of_record hslot hst hw hr hd hq hj hwait, rfl, hwriting.slot,
      hempty.mem_out_blockStart _, hwriting.others, rfl⟩
  case rewritten =>
    have hwriting := (htick.mod (f := fun c => { c with rewrite := none }) rfl).blockStart { b with again := true }
    exact ⟨_, exec_cartBlockWrite_of_rewrite hslot hst hw hr, hwriting.slot, hwriting.others⟩
  case done =>
    have hdone := exec_cartBlockDone_of_writing (t := t) hst hw
    have hbusy := exec_cartBusyTimeout_of_writing (t := t) hst hw
    refine ⟨fun he => ?good, fun ha hdev => ?bad, fun ha he hf => ?retried, fun ha he hf => ?failed, fun hlate => ?late, fun hearly => ?early⟩
    case good =>
      obtain ⟨c', hgood, ⟨hframe⟩⟩ := htick.blockGood b he
      have hslot' := hgood.slot.trans hframe
      exact ⟨_, hdone true, (congrArg CartSlot.state hslot').trans hst, congrArg CartSlot.writing hslot', congrArg CartSlot.highest hslot',
        congrArg CartSlot.lastRseq hslot', congrArg CartSlot.lastSeal hslot', hgood.others⟩
    case bad =>
      have hbad : s0.blockBad slot b = _ := State.blockBad_of_first ha ((s.tick_devN t 0x0703).trans hdev) slot
      have hrewrite : s.SlotBecomes slot _ (s0.modCart slot (fun c => { c with writing := none, rewrite := some b })) := htick.mod rfl
      exact ⟨_, (hdone false).trans (congrArg _ hbad), hrewrite.slot, hrewrite.others, rfl⟩
    case retried =>
      have hretry := htick.blockBad_again ha he
      rw [CartSlot.retried_of_first hf] at hretry
      exact ⟨_, hdone false, congrArg CartSlot.state hretry.slot, congrArg CartSlot.cycling hretry.slot,
        congrArg CartSlot.queue hretry.slot, hretry.others⟩
    case failed =>
      have hretry := htick.blockBad_again ha he
      rw [CartSlot.retried_of_second hf] at hretry
      exact ⟨_, hdone false, congrArg CartSlot.state hretry.slot, hretry.others⟩
    case late => exact (hbusy.trans (congrArg _ (if_pos hlate))).trans (hdone false).symm
    case early => exact hbusy.trans (congrArg _ (if_neg (Nat.not_le.mpr hearly)))
  case erased =>
    have hcycle := (htick.event 0x0706 (if ok then 0 else 1)).cycle
    rw [State.cartEvent_now] at hcycle
    exact ⟨_, exec_cartEraseDone_of_erasing hslot hst ok, congrArg CartSlot.state hcycle.slot, congrArg CartSlot.cycling hcycle.slot,
      congrArg CartSlot.cycleEnds hcycle.slot, hcycle.others⟩

end Sys2Proof.Machine
end

section
/-! PROOFS. Shadow clocks and compare units: what an update of one, a tick, and a step of the served clock leave readable (R265, R268, R276,
R282). -/

namespace Sys2Proof.Machine

section
variable (s : State)

/-! ### One shadow clock -/

theorem State.shadow_of_shadows {s s' : State} (h : s'.tim.shadows = s.tim.shadows) (n : Nat) : s'.shadow n = s.shadow n := by
  simp [State.shadow, Tim.shadow, h]

theorem State.shadow_of_tim {s s' : State} (h : s'.tim = s.tim) (n : Nat) : s'.shadow n = s.shadow n :=
  State.shadow_of_shadows (congrArg Tim.shadows h) n

@[simp] theorem State.shadow_modShadow_same (n : Nat) (f : Shadow → Shadow) : (s.modShadow n f).shadow n = f (s.shadow n) :=
  tget_tmod_same _ _ _ _

theorem State.shadow_modShadow_ne {n k : Nat} (f : Shadow → Shadow) (h : k ≠ n) : (s.modShadow n f).shadow k = s.shadow k :=
  tget_tmod_ne _ _ _ h.symm

theorem State.modShadow_tim (n : Nat) (f : Shadow → Shadow) :
    (s.modShadow n f).tim = { s.tim with shadows := (s.modShadow n f).tim.shadows } := rfl

/-- A clock's advance moves its value (R268). -/
theorem Tim.shadow_advance (dt : Nat) (x : Tim) (n : Nat) : ∃ v u, (x.advance dt).shadow n = { x.shadow n with value := v, sub := u } := by
  have hshadows : (x.advance dt).shadows = tmap x.shadows (fun _ sh =>
      if sh.state = .disabled then sh else
        { sh with value := (clockAdvance dt sh.corr sh.value sh.sub).1, sub := (clockAdvance dt sh.corr sh.value sh.sub).2 }) := by
    unfold Tim.advance
    dsimp only
    split
    · split <;> rfl
    · rfl
  rw [Tim.shadow, hshadows, tget_tmap _ _ _ rfl]
  change ∃ v u, (if (x.shadow n).state = .disabled then x.shadow n else _) = _
  split
  · exact ⟨_, _, rfl⟩
  · exact ⟨_, _, rfl⟩

theorem State.shadow_tick (t n : Nat) : ∃ v u, (s.tick t).shadow n = { s.shadow n with value := v, sub := u } := by
  unfold State.tick
  split
  · exact ⟨_, _, rfl⟩
  · split
    · exact Tim.shadow_advance _ _ n
    · exact ⟨_, _, rfl⟩

@[simp] theorem State.state_shadow_tick (t n : Nat) : ((s.tick t).shadow n).state = (s.shadow n).state := by
  obtain ⟨v, u, h⟩ := s.shadow_tick t n; rw [h]
@[simp] theorem State.master_shadow_tick (t n : Nat) : ((s.tick t).shadow n).master = (s.shadow n).master := by
  obtain ⟨v, u, h⟩ := s.shadow_tick t n; rw [h]
@[simp] theorem State.meanDelay_shadow_tick (t n : Nat) : ((s.tick t).shadow n).meanDelay = (s.shadow n).meanDelay := by
  obtain ⟨v, u, h⟩ := s.shadow_tick t n; rw [h]
@[simp] theorem State.offset_shadow_tick (t n : Nat) : ((s.tick t).shadow n).offset = (s.shadow n).offset := by
  obtain ⟨v, u, h⟩ := s.shadow_tick t n; rw [h]
@[simp] theorem State.corr_shadow_tick (t n : Nat) : ((s.tick t).shadow n).corr = (s.shadow n).corr := by
  obtain ⟨v, u, h⟩ := s.shadow_tick t n; rw [h]

/-! ### One compare unit -/

@[simp] theorem State.cmp_modCmp_same (n : Nat) (f : CmpUnit → CmpUnit) : (s.modCmp n f).cmp n = f (s.cmp n) := tget_tmod_same _ _ _ _

theorem State.cmp_modCmp_ne {n k : Nat} (f : CmpUnit → CmpUnit) (h : k ≠ n) : (s.modCmp n f).cmp k = s.cmp k :=
  tget_tmod_ne _ _ _ h.symm

theorem State.cmp_of_tim {s s' : State} (h : s'.tim = s.tim) (n : Nat) : s'.cmp n = s.cmp n := by simp [State.cmp, h]

/-- A unit that has fired: counted, LATE if it came past its target, and re-armed on its grid or disarmed (R282). -/
def CmpUnit.fired (sec ns : Nat) (c : CmpUnit) : CmpUnit :=
  let c := { c with count := (c.count + 1) % 65536, late := c.past, past := false }
  if c.period = 0 then { c with armed := false } else { c with sec := nextTarget sec ns c.sec c.ns c.period }

/-- What a firing makes of each field of its unit (R282). -/
theorem CmpUnit.fired_eq (sec ns : Nat) (c : CmpUnit) : c.fired sec ns =
    { c with count := (c.count + 1) % 65536, late := c.past, past := false, armed := c.armed && decide (c.period ≠ 0)
             sec := if c.period = 0 then c.sec else nextTarget sec ns c.sec c.ns c.period } := by
  unfold CmpUnit.fired
  dsimp only
  split
  next h => simp [h]
  next h => simp [h]

theorem State.cmp_fireMark_rearm_same (n : Nat) :
    ((s.fireMark n).rearm n).cmp n = (s.cmp n).fired s.sec32 s.servedNs := by
  rw [State.rearm, State.cmp_modCmp_same, State.fireMark, State.cmp_modCmp_same]
  rfl

theorem State.cmp_fireMark_rearm_ne {n k : Nat} (h : k ≠ n) : ((s.fireMark n).rearm n).cmp k = s.cmp k :=
  (State.cmp_modCmp_ne _ _ h).trans (State.cmp_modCmp_ne _ _ h)

theorem State.fireMark_rearm_frame (n : Nat) : (s.fireMark n).rearm n =
    { s with tim := { s.tim with cmps := ((s.fireMark n).rearm n).tim.cmps } } := rfl

/-! ### A step of the served clock (R276, R279) -/

theorem State.step_tim (u : Int) : (s.step u).tim =
    { s.tim with served := ((s.tim.served : Int) + u).toNat, steps := (s.step u).tim.steps, cmps := (s.step u).tim.cmps } := by
  unfold State.step
  dsimp only
  rw [State.raiseDev_tim]

@[simp] theorem State.shadow_step (u : Int) (n : Nat) : (s.step u).shadow n = s.shadow n :=
  State.shadow_of_shadows (by rw [s.step_tim]) n

@[simp] theorem State.step_now (u : Int) : (s.step u).now = s.now := by
  unfold State.step
  dsimp only
  rw [State.raiseDev_now]

variable {s} in
/-- An event raised after a change of the clocks and units only. -/
theorem State.raiseDev_of_tim_frame {s1 : State} {x : Tim} (h : s1 = { s with tim := x }) (code src data : Nat)
    (e : Option (Word × Word × Word)) : let s' := s1.raiseDev code src data e
    s' = { s with tim := s'.tim, evt := s'.evt, out := s'.out } := by
  subst h
  dsimp only
  rw [State.raiseDev_tim]
  exact State.raiseDev_frame _ _ _ _ _

end

end Sys2Proof.Machine
end

section
/-! PROOFS. What the time commands answer and do (Table 10-12, R282, R285, R287). -/

namespace Sys2Proof.Machine
open Sys2Proof.Say

section
variable {s : State} {tag : Nat} {a : List Word} (io : HostIo)

/-- TIME_STATUS: the served time, TIM_STATE, the residual, how long holdover has lasted, the UTC offset and the count of steps. -/
theorem timeStatusWork_eq : ∃ r held, timeStatusWork tag io a s = .ok
    [ wd (nsOf s.tim.served), wd (secOf s.tim.served), wd (secOf s.tim.served / 2 ^ 32 % 65536 + fracOf s.tim.served * 65536)
    , wd s.timState, r, held, wd (unsgn 16 s.tim.utcOffset + 65536 * b2n s.tim.utcValid), wd s.tim.steps ] s := ⟨_, _, rfl⟩

theorem timeShadowStatusWork_of_master {d : DomainCfg} {m : MasterData} (hd : tfind s.cfg.domains (fld (arg a 1) 0 0) = some d)
    (hm : (s.shadow (fld (arg a 1) 0 0)).master = some m) (hst : (s.shadow (fld (arg a 1) 0 0)).state ≠ .disabled) :
    timeShadowStatusWork tag io a s =
      let h := s.shadow (fld (arg a 1) 0 0)
      .ok ([wd (shadowCode h.state + d.port * 16 + d.domain * 64 + d.profile * 65536)] ++ twoWords m.grandmaster.toNat ++
        [ wd (m.clockClass + m.stepsRemoved * 256), satWord (toNs (s.residual (fld (arg a 1) 0 0))), satWord (toNs h.meanDelay)
        , satWord (toNs h.offset), wd (unsgn 32 (h.corr / 1000)), wd (s.counter 9 (fld (arg a 1) 0 0) 2) ]) s := by
  simp only [timeShadowStatusWork, hd, hm, hst, ↓reduceIte, Option.getD_some]

theorem timeMasterSetWork_of_good (htr : fld (arg a 1) 13 12 ≠ 3) (hs0 : -7 ≤ sgn 8 (fld (arg a 2) 7 0))
    (hs1 : sgn 8 (fld (arg a 2) 7 0) ≤ 1) (ha0 : -3 ≤ sgn 8 (fld (arg a 2) 15 8)) (ha1 : sgn 8 (fld (arg a 2) 15 8) ≤ 4) :
    timeMasterSetWork tag io a s = s.stage tag 0x0804 (.timeMaster (2 + fld (arg a 1) 0 0)
      { enable := bit (arg a 1) 1, domain := fld (arg a 1) 8 2, transport := fld (arg a 1) 13 12, profile := fld (arg a 1) 16 16
        oneStep := bit (arg a 1) 17, logSync := sgn 8 (fld (arg a 2) 7 0), logAnnounce := sgn 8 (fld (arg a 2) 15 8)
        priority1 := fld (arg a 2) 23 16, priority2 := fld (arg a 2) 31 24 }) := by
  have hgood : ¬(fld (arg a 1) 13 12 = 3 ∨ sgn 8 (fld (arg a 2) 7 0) < -7 ∨ 1 < sgn 8 (fld (arg a 2) 7 0) ∨
      sgn 8 (fld (arg a 2) 15 8) < -3 ∨ 4 < sgn 8 (fld (arg a 2) 15 8)) := by omega
  exact if_neg hgood

/-! ### TIME_JUMP_ACCEPT (R287) -/

/-- The clocks after TIME_JUMP_ACCEPT: those of a step by the residual, the shadow LOCKED and followed. -/
theorem State.jumpAccept_tim (n : Nat) :
    let u := (s.step (s.residual n)).modShadow n (fun h => { h with state := .locked, lockedSince := s.now })
    (s.jumpAccept n).tim.served = u.tim.served ∧ (s.jumpAccept n).tim.following = .shadow n ∧ (s.jumpAccept n).tim.timeState = n + 1 ∧
      (s.jumpAccept n).tim.shadows = u.tim.shadows := by
  have hnow : (s.step (s.residual n)).now = s.now := s.step_now _
  have htim : (s.jumpAccept n).tim = _ := State.raiseDev_tim _ _ _ _ _
  rw [htim, ← hnow]
  exact ⟨rfl, rfl, rfl, rfl⟩

theorem State.served_jumpAccept (n : Nat) : (s.jumpAccept n).tim.served = ((s.tim.served : Int) + s.residual n).toNat := by
  obtain ⟨hserved, -, -, -⟩ := s.jumpAccept_tim n
  rw [hserved, State.modShadow_tim, s.step_tim]

theorem State.shadow_jumpAccept (n : Nat) : (s.jumpAccept n).shadow n = { s.shadow n with state := .locked, lockedSince := s.now } := by
  obtain ⟨-, -, -, hshadows⟩ := s.jumpAccept_tim n
  rw [State.shadow_of_shadows hshadows, State.shadow_modShadow_same, State.shadow_step]

theorem timeJumpAcceptWork_of_refused (h : (s.shadow (fld (arg a 1) 0 0)).state = .refused) : timeJumpAcceptWork tag io a s =
    .ok [satWord (toNs (s.residual (fld (arg a 1) 0 0)))] (s.jumpAccept (fld (arg a 1) 0 0)) := if_neg (not_not.mpr h)

theorem timeCmpSetWork_of_good (hu : 4 ≤ fld (arg a 1) 3 0) (hns : (arg a 3).toNat ≤ 999999999) : timeCmpSetWork tag io a s =
    if bit (arg a 1) 8 then
      .ok [] (s.modCmp (fld (arg a 1) 3 0) (fun _ =>
        { sec := (arg a 2).toNat, ns := (arg a 3).toNat, armed := true, period := fld (arg a 4) 15 0
          past := s.hasReached (arg a 2).toNat (arg a 3).toNat }))
    else .ok [] (s.modCmp (fld (arg a 1) 3 0) (fun c => { c with armed := false, late := false })) :=
  (if_neg (Nat.not_lt.mpr hu)).trans (if_neg (Nat.not_lt.mpr hns))

theorem timePpsInGetWork_of_edge {v d : Nat} (h : s.tim.ppsIn = some (v, d)) : timePpsInGetWork tag io a s =
    .ok [wd (secOf v), wd (nsOf v), wd (fracOf v), wd s.tim.ppsEdges, wd (s.counter 9 0 3)] s := by
  simp only [timePpsInGetWork, h]

end

/-- The time commands, each by what its work answers. -/
theorem timeCommands : timeCommandsSay := by
  intro t tag io s a s0 n w x u
  refine ⟨?status, fun d m hd hm hst => ?shadowStatus, fun htr => stages_of_work rfl (if_neg htr),
    fun htr => ⟨answers_of_work rfl (if_pos htr), answers_of_work rfl (if_pos (.inl htr))⟩,
    fun htr hs0 hs1 ha0 ha1 => stages_of_work rfl (timeMasterSetWork_of_good io htr hs0 hs1 ha0 ha1),
    fun hst => answers_of_work rfl (if_pos (by simpa using hst)), fun hst => ?jump, fun hu => answers_of_work rfl (if_pos hu),
    fun hu hns => answers_of_work rfl ((if_neg (Nat.not_lt.mpr hu)).trans (if_pos hns)), fun hu hns hw => ?armed, fun hu hns hw => ?disarmed,
    ?cmpStatus, fun v d h => ?pps⟩
  case status =>
    obtain ⟨r, held, hwork⟩ := timeStatusWork_eq (s := s0) (tag := tag) (a := a) io
    refine ⟨r, held, answers_of_work rfl (hwork.trans ?_)⟩
    simp only [s0, State.tick_tim_utcOffset, State.tick_tim_utcValid, State.tick_tim_steps]
    rfl
  case shadowStatus =>
    have hd0 : tfind s0.cfg.domains n = some d := by simpa [s0] using hd
    have hm0 : (s0.shadow n).master = some m := by simpa [s0] using hm
    have hst0 : (s0.shadow n).state ≠ .disabled := by simpa [s0] using hst
    refine answers_of_work rfl ((timeShadowStatusWork_of_master (tag := tag) io hd0 hm0 hst0).trans ?_)
    simp only [s0, State.state_shadow_tick, State.meanDelay_shadow_tick, State.offset_shadow_tick, State.corr_shadow_tick,
      State.tick_counter]
    rfl
  case jump =>
    have hst0 : (s0.shadow n).state = .refused := by simpa [s0] using hst
    obtain ⟨-, hfollowing, hstate, -⟩ := s0.jumpAccept_tim n
    have hlocked := s0.shadow_jumpAccept n
    exact ⟨_, answers_of_work rfl (timeJumpAcceptWork_of_refused (tag := tag) io hst0), s0.served_jumpAccept n, hfollowing, hstate,
      congrArg Shadow.state hlocked, congrArg Shadow.lockedSince hlocked⟩
  case armed => exact answers_of_work rfl ((timeCmpSetWork_of_good (tag := tag) io hu hns).trans (if_pos hw))
  case disarmed =>
    exact answers_of_work rfl ((timeCmpSetWork_of_good (tag := tag) io hu hns).trans (if_neg (Bool.eq_false_iff.mp hw)))
  case cmpStatus =>
    refine answers_of_work rfl ?_
    simp only [timeCmpStatusWork, State.tick_cmp]
    rfl
  case pps =>
    refine answers_of_work rfl ((timePpsInGetWork_of_edge (tag := tag) (a := a) io (by simpa using h)).trans ?_)
    simp only [State.tick_tim_ppsEdges, State.tick_counter]
    rfl

end Sys2Proof.Machine
end

section
/-! PROOFS. What the audio commands answer and do (Table 11-6, R305, R306, R311, R314). -/

namespace Sys2Proof.Machine
open Sys2Proof.Say

section
variable {s : State} {tag : Nat} {a : List Word} (io : HostIo)

/-! ### Streams, buses and clip sets staged -/

/-- The receive stream that AUD_RX_SET's words give. -/
def rxOf (a : List Word) : RxCfg :=
  { enable := bit (arg a 1) 8, adaptive := bit (arg a 1) 9, encoding := fld (arg a 1) 10 10, channels := fld (arg a 1) 14 11
    packetTime := fld (arg a 1) 17 16, payloadType := fld (arg a 1) 24 18, linkOffset := fld (arg a 2) 7 0, portA := fld (arg a 2) 11 8
    portB := if fld (arg a 2) 15 12 = 15 then none else some (fld (arg a 2) 15 12), groupA := arg a 3, groupB := arg a 4
    udpA := fld (arg a 5) 15 0, udpB := fld (arg a 5) 31 16, source := arg a 6, rtpOffset := (arg a 7).toNat }

/-- The ports of a stream's legs, or its channels, are none that the part has (Table 11-6). -/
def rxPortsBad (a : List Word) : Prop :=
  (rxOf a).channels = 0 ∨ 8 < (rxOf a).channels ∨ 3 < (rxOf a).portA ∨
    (fld (arg a 2) 15 12 ≠ 15 ∧ (3 < fld (arg a 2) 15 12 ∨ fld (arg a 2) 15 12 = (rxOf a).portA))

section
variable (h8 : 8 ≤ (rxOf a).linkOffset) (h160 : (rxOf a).linkOffset ≤ 160) (hpt : (rxOf a).packetTime ≠ 3)
include h8 h160 hpt

theorem rxOf_offset_good : ¬((rxOf a).linkOffset < 8 ∨ 160 < (rxOf a).linkOffset ∨ (rxOf a).packetTime = 3) := by omega

theorem audRxSetWork_of_bad_ports (h : rxPortsBad a) : audRxSetWork tag io a s = .status 0x0901 s :=
  (if_neg (rxOf_offset_good h8 h160 hpt)).trans (if_pos h)

theorem audRxSetWork_of_good (h : ¬rxPortsBad a) (hlen : (rxOf a).payload (s.stagedRate tag) ≤ 1440) (h96 : 96 ≤ (rxOf a).payloadType) :
    audRxSetWork tag io a s = s.stage tag 0x0901 (.audRx (fld (arg a 1) 5 0) (rxOf a)) :=
  (if_neg (rxOf_offset_good h8 h160 hpt)).trans ((if_neg h).trans (if_neg (not_or.mpr ⟨Nat.not_lt.mpr hlen, Nat.not_lt.mpr h96⟩)))

end

/-- The transmit stream that AUD_TX_SET's words give. -/
def txOf (a : List Word) : TxCfg :=
  { enable := bit (arg a 1) 8, encoding := fld (arg a 1) 10 10, channels := fld (arg a 1) 14 11, packetTime := fld (arg a 1) 17 16
    payloadType := fld (arg a 1) 24 18, portMask := fld (arg a 2) 3 0, dscp := fld (arg a 2) 9 4, ttl := fld (arg a 2) 23 16
    group := arg a 3, dstPort := fld (arg a 4) 15 0, srcPort := fld (arg a 4) 31 16, ssrc := arg a 5, rtpOffset := (arg a 6).toNat }

theorem audTxSetWork_of_channels (hpt : (txOf a).packetTime ≠ 3) (h1 : 1 ≤ (txOf a).channels) (h8 : (txOf a).channels ≤ 8) :
    audTxSetWork tag io a s =
      if 1440 < (txOf a).channels * (2 + (txOf a).encoding) * packetSamples (s.stagedRate tag) (txOf a).packetTime ∨
          (txOf a).payloadType < 96 then .status 0x0902 s
      else s.stage tag 0x0902 (.audTx (fld (arg a 1) 5 0) (txOf a)) := by
  have hchannels : ¬((txOf a).channels = 0 ∨ 8 < (txOf a).channels) := by omega
  exact (if_neg hpt).trans (if_neg hchannels)

/-- The four sources of AUD_BUS_SET. -/
def busSourcesOf (a : List Word) : List BusSource := [arg a 2, arg a 3, arg a 4, arg a 5].map sourceOf

theorem audBusSetWork_of_reserved (hb : bit (arg a 1) 15 = false) (h : fld (arg a 1) 8 7 ≠ 0) :
    audBusSetWork tag io a s = .status 0x0013 s := if_pos (by simp [hb, h])

theorem audBusSetWork_of_good (hw : bit (arg a 1) 15 = true ∨ fld (arg a 1) 8 7 = 0)
    (hsrc : ∀ x ∈ busSourcesOf a, x.kind ≤ 4 ∧ x.gain ≤ 216 ∧ indexOk x (s.stagedRate tag) = true)
    (hbus : bit (arg a 1) 15 = true ∨ fld (arg a 1) 3 0 < tdmSlots (s.stagedRate tag)) :
    audBusSetWork tag io a s = s.stage tag 0x0903 (.audBus (fld (arg a 1) 15 0) (busSourcesOf a)) := by
  have hkinds : ¬(busSourcesOf a).any (fun b => decide (4 < b.kind) || decide (216 < b.gain)) = true := by
    simp only [List.any_eq_true, Bool.or_eq_true, decide_eq_true_eq, not_exists, not_and]
    intro x hx
    obtain ⟨hkind, hgain, -⟩ := hsrc x hx
    omega
  have hindexes : ¬((!bit (arg a 1) 15 && decide (tdmSlots (s.stagedRate tag) ≤ fld (arg a 1) 3 0)) ||
      (busSourcesOf a).any (fun b => !indexOk b (s.stagedRate tag))) = true := by
    simp only [Bool.or_eq_true, Bool.and_eq_true, Bool.not_eq_true', decide_eq_true_eq, List.any_eq_true, not_or, not_and, not_exists,
      Nat.not_le, Bool.not_eq_false]
    refine ⟨fun hb => hbus.resolve_left (by simp [hb]), fun x hx => ?_⟩
    obtain ⟨-, -, hindex⟩ := hsrc x hx
    exact hindex
  have hreserved : ¬(!bit (arg a 1) 15 && decide (fld (arg a 1) 8 7 ≠ 0)) = true := by
    obtain h | h := hw <;> simp [h]
  exact (if_neg hreserved).trans ((if_neg hkinds).trans (if_neg hindexes))

theorem audPromptLoadWork_of_read {s1 : State} (hlen : clipLen (arg a 3).toNat = true)
    (hread : s.hostRead tag (ofTwo (arg a 1) (arg a 2)) (arg a 3).toNat 3 io.dataFault = .ok s1) :
    audPromptLoadWork tag io a s = s1.stageClips tag 0x0905 (padded io.data (arg a 3).toNat) := by
  simp only [audPromptLoadWork, State.promptLoad, hlen, hread, Bool.not_true, Bool.false_eq_true, ↓reduceIte]
  rfl

theorem audPromptLoadWork_of_bad_length (hlen : clipLen (arg a 3).toNat = false) : audPromptLoadWork tag io a s = .status 0x0012 s := by
  simp [audPromptLoadWork, State.promptLoad, hlen]

theorem State.stageClips_of_refused {b : List Byte} (code : Nat) (h : clipSetOk b tag = false ∨ beNat (slice b 12 4) ≤ s.topClips tag) :
    s.stageClips tag code b = .status 0x0907 s := if_pos (by simpa using h)

theorem State.stageClips_of_newer {b : List Byte} (code : Nat) (h : clipSetOk b tag = true) (hnew : s.topClips tag < beNat (slice b 12 4)) :
    s.stageClips tag code b = s.stage tag code (.clips tag (beNat (slice b 12 4)) (clipsOf b)) b.length :=
  if_neg (by simp [h, hnew])

/-! ### AUD_PLAY (R311) -/

theorem audPlayWork_of_no_clip (hns : (arg a 3).toNat ≤ 999999999) (h : s.cfg.clip 0 (fld (arg a 1) 31 16) = none) :
    audPlayWork tag io a s = .status 0x0908 s := by
  simp only [audPlayWork, Nat.not_lt.mpr hns, h, ite_self, ↓reduceIte]

/-- A prompt at a served time plays from the first media frame at or after it. -/
theorem audPlayWork_of_time {l : List Int} (hsec : arg a 2 ≠ 0) (hns : (arg a 3).toNat ≤ 999999999) (hp : fld (arg a 1) 31 16 ≠ 0)
    (h : s.cfg.clip 0 (fld (arg a 1) 31 16) = some l) : audPlayWork tag io a s =
      let at_ : Int := ((s.servedSec : Int) + sgn 32 ((arg a 2).toNat + 2 ^ 32 - s.sec32)) * secUnit + (arg a 3).toNat * nsUnit
      .ok [] (s.addPrompt { source := 128 + fld (arg a 1) 1 0, tenant := 0, prompt := fld (arg a 1) 31 16
                            frame := (sampleCeil at_.toNat s.khz : Int) - s.aud.diff, stamp := s.tim.served, clip := clipAt s.khz l }) := by
  have hzero : ¬((arg a 2).toNat = 0 ∧ (arg a 3).toNat = 0) := fun hboth => hsec (BitVec.eq_of_toNat_eq hboth.1)
  simp only [audPlayWork, Nat.not_lt.mpr hns, hp, h, hzero, ↓reduceIte]

/-! ### AUD_STREAM_STATUS -/

theorem audStreamStatusWork_of_no_stream (h : (if s.khz = 96 then 32 else 64) ≤ fld (arg a 1) 5 0) :
    audStreamStatusWork tag io a s = .status 0x0901 s := if_pos h

theorem legCode_lt (x : LegState) : legCode x < 4 := by cases x <;> decide

/-- The states of a running receive stream's legs in its status word. -/
theorem audStreamStatusWork_of_rx {c : RxCfg} (hn : fld (arg a 1) 5 0 < 32) (hb : bit (arg a 1) 6 = false)
    (hc : tfind s.audCfg.rx (fld (arg a 1) 5 0) = some c) (he : c.enable = true) : ∃ legs, audStreamStatusWork tag io a s =
      (let x := s.rxs (fld (arg a 1) 5 0)
      .ok ([wd (legs + 16), wd x.buf.length, wd (min (2 ^ 32 - 1) x.packets)] ++
        [4, 5, 7, 8, 9, 10].map (s.counterWord 10 (fld (arg a 1) 5 0)) ++ [wd (unsgn 32 x.ratio), 0]) s) ∧
      legs % 4 = legCode (s.rxs (fld (arg a 1) 5 0)).legA.state := by
  have hcount : ¬(if s.khz = 96 then 32 else 64) ≤ fld (arg a 1) 5 0 := by split <;> omega
  refine ⟨legCode (s.rxs (fld (arg a 1) 5 0)).legA.state +
    4 * (if c.portB.isSome then legCode (s.rxs (fld (arg a 1) 5 0)).legB.state else 3), ?_, ?_⟩
  · simp only [audStreamStatusWork, hcount, hb, hc, he, Bool.false_eq_true, Bool.true_and, ↓reduceIte]
    rfl
  · have hlt := legCode_lt (s.rxs (fld (arg a 1) 5 0)).legA.state
    omega

/-- AUD_STATUS: the free buffer pool, the Audio pairs, the buses that a pair mixes, the rate and the depth, and the faults. -/
theorem audStatusWork_eq : ∃ faults, audStatusWork tag io a s = .ok
    [ wd (294912 - s.audCfg.poolAllotted), wd s.audioPairs.length, wd (s.aud.buses.filter (fun p => p.2.pair.isSome)).length
    , wd ((s.audCfg.param 0 0x0909).toNat + 4 * (s.audCfg.param 0 0x090A).toNat), faults ] s := ⟨_, rfl⟩

end

/-- The audio commands, each by what its work answers. -/
theorem audioCommands : audioCommandsSay := by
  intro t tag io s a s0 w v b rx tx khz len data
  have hkhz : s0.stagedRate tag = khz := s.tick_stagedRate t tag
  refine ⟨fun h => answers_of_work rfl (if_pos h), fun h8 h160 hpt => ⟨fun h => ?rxPorts, fun h1 hch hA hB hlen h96 => ?rx⟩,
    fun hpt => answers_of_work rfl (if_pos hpt), fun hpt h1 hch => ⟨fun h => ?txBad, fun hlen h96 => ?tx⟩,
    ⟨fun hb h => answers_of_work rfl (audBusSetWork_of_reserved io hb h), fun hw hsrc hbus => ?bus⟩, stages_of_work rfl rfl,
    fun h => answers_of_work rfl (audPromptLoadWork_of_bad_length (tag := tag) io h),
    fun s1 id m hlen hread hopen => ⟨fun h => ?clipsRefused, fun hok hnew hroom hbulk => ?clips⟩,
    fun h => answers_of_work rfl (if_pos h), fun hns h => ?noClip, fun l hv hns hp h => ?play, fun h => ?noStream,
    fun c hn hb hc he => ?stream, ?status⟩
  case rxPorts => exact answers_of_work rfl (audRxSetWork_of_bad_ports io h8 h160 hpt h)
  case rx =>
    have hports : ¬rxPortsBad a := by
      unfold rxPortsBad
      change ¬(rx.channels = 0 ∨ 8 < rx.channels ∨ 3 < rx.portA ∨ (b ≠ 15 ∧ (3 < b ∨ b = rx.portA)))
      omega
    exact stages_of_work rfl (audRxSetWork_of_good io h8 h160 hpt hports ((congrArg rx.payload hkhz).trans_le hlen) h96)
  case txBad =>
    refine answers_of_work rfl ((audTxSetWork_of_channels (tag := tag) io hpt h1 hch).trans (if_pos ?_))
    rwa [hkhz]
  case tx =>
    refine stages_of_work rfl ((audTxSetWork_of_channels (tag := tag) io hpt h1 hch).trans (if_neg ?_))
    rw [hkhz]
    exact not_or.mpr ⟨Nat.not_lt.mpr hlen, Nat.not_lt.mpr h96⟩
  case bus =>
    rw [← hkhz] at hsrc hbus
    exact stages_of_work rfl (audBusSetWork_of_good io hw hsrc hbus)
  case clipsRefused =>
    exact answers_of_work rfl ((audPromptLoadWork_of_read (tag := tag) io hlen hread).trans (State.stageClips_of_refused _ h))
  case clips =>
    have hstage := State.stage_of_room hopen hroom hbulk 0x0905 (.clips tag (beNat (slice data 12 4)) (clipsOf data)) []
    refine answers_of_work rfl ((audPromptLoadWork_of_read (tag := tag) io hlen hread).trans
      ((State.stageClips_of_newer _ hok hnew).trans ?_))
    rw [show data.length = len from length_padded io.data len]
    exact hstage
  case noClip => exact answers_of_work rfl (audPlayWork_of_no_clip (tag := tag) io hns (by simpa using h))
  case play =>
    refine answers_of_work rfl ((audPlayWork_of_time (tag := tag) io hv hns hp (by simpa using h)).trans ?_)
    simp only [State.tick_khz, State.tick_aud]
    rfl
  case noStream => exact answers_of_work rfl (audStreamStatusWork_of_no_stream (tag := tag) io (by simpa using h))
  case stream =>
    obtain ⟨legs, hwork, hA⟩ := audStreamStatusWork_of_rx (s := s0) (tag := tag) io hn hb (by simpa [s0] using hc) he
    refine ⟨legs, answers_of_work rfl (hwork.trans ?_), by simpa [s0] using hA⟩
    rw [show s0.counterWord 10 (fld (arg a 1) 5 0) = s.counterWord 10 (fld w 5 0) from funext (s.tick_counterWord t 10 _)]
    simp only [s0, State.tick_rxs]
    rfl
  case status =>
    obtain ⟨faults, hwork⟩ := audStatusWork_eq (s := s0) (tag := tag) (a := a) io
    refine ⟨faults, answers_of_work rfl (hwork.trans ?_)⟩
    simp only [s0, State.tick_audCfg, State.tick_audioPairs, State.tick_aud]
    rfl

/-- Settles O46: the time commands and the audio commands, each in the envelope of every block command. -/
theorem timeAndAudioCommands : Obligations.TimeAndAudioCommands := ⟨timeCommands, audioCommands⟩

end Sys2Proof.Machine
end

section
/-! PROOFS. The books, the compare units 4 to 15 and the statistics commands (R282, R415, R417 to R421, R423, R424, Tables 16-3 and 16-4). -/

namespace Sys2Proof.Machine
open Sys2Proof.Say

/-! ### The quantities that a check finds (R418, R421) -/

theorem mem_linsert_iff {l : List Nat} {k q : Nat} : q ∈ linsert l k ↔ q = k ∨ q ∈ l := by
  induction l with
  | nil => exact List.mem_cons
  | cons j r ih =>
    unfold linsert
    split
    · exact List.mem_cons
    · split
      · rename_i heq
        simp [heq]
      · rw [List.mem_cons, List.mem_cons, ih]
        exact or_left_comm

/-- The numbers gathered from a list are those of its members. -/
theorem mem_foldl_linsert {α : Type} {f : α → Nat} {l : List α} {acc : List Nat} {q : Nat} :
    q ∈ l.foldl (fun a x => linsert a (f x)) acc ↔ q ∈ acc ∨ ∃ x ∈ l, f x = q := by
  induction l generalizing acc with
  | nil => simp
  | cons x r ih =>
    rw [List.foldl_cons, ih, mem_linsert_iff, List.exists_mem_cons_iff, or_comm (a := q = f x), or_assoc, eq_comm (a := q)]

section
variable {e : LedgerEpoch} {links : List Nat} {q : Nat}

theorem LedgerEpoch.mem_failed_check :
    q ∈ (e.check links).failed ↔ ∃ b ∈ e.books links, b.q = q ∧ e.excuses b = false ∧ b.ok = false := by
  refine mem_foldl_linsert.trans ?_
  simp only [List.not_mem_nil, false_or, List.mem_filter, Bool.and_eq_true, Bool.not_eq_true']
  exact exists_congr fun b => by rw [and_assoc, and_comm (a := b.q = q)]

theorem LedgerEpoch.mem_excused_check : q ∈ (e.check links).excused ↔ ∃ b ∈ e.books links, b.q = q ∧ e.excuses b = true := by
  refine mem_foldl_linsert.trans ?_
  simp only [List.not_mem_nil, false_or, List.mem_filter]
  exact exists_congr fun b => by rw [and_assoc, and_comm (a := b.q = q)]

/-- A check keeps an epoch's number and statistics, and its two flags say what it found. -/
theorem LedgerEpoch.check_keeps (e : LedgerEpoch) (links : List Nat) : (e.check links).pending = false ∧
    (e.check links).number = e.number ∧ (e.check links).stats = e.stats ∧
      (e.check links).flags.imbalance = !(e.check links).failed.isEmpty ∧
      (e.check links).flags.excused = !(e.check links).excused.isEmpty := by
  unfold LedgerEpoch.check
  dsimp only
  exact ⟨rfl, rfl, rfl, rfl, rfl⟩

/-- A statistic of a group's first instance at an epoch's end. -/
def LedgerEpoch.value (e : LedgerEpoch) (g i : Nat) : Nat := tget e.stats (statKey g 0 i) 0

/-- The quantities of Table 16-3 with one instance on the part: each a stock of a fixed size, or of the castes' sum. -/
def LedgerEpoch.stocks (e : LedgerEpoch) : List Book :=
  let v (g i : Nat) : Int := e.value g i
  let st (q g : Nat) (ok : Bool) : Book := { q, inst := 0, uses := statKey g 0 0, flow := false, ok }
  [ st 2 4 (v 4 0 + v 4 1 + v 4 2 = 1024), st 5 13 (v 13 0 + v 13 1 + v 13 2 = 16384), st 7 11 (v 11 0 + v 11 1 = 294912)
  , st 9 6 (((List.range 8).map (v 6)).foldl (· + ·) 0 = v 6 8), st 10 17 (v 17 0 + v 17 1 + v 17 2 = 65535)
  , st 11 17 (v 17 3 + v 17 4 = 2048), st 12 17 (v 17 5 + v 17 6 = 256), st 13 7 (v 7 2 + v 7 3 = 8192) ]

/-- Every other quantity has an instance for each lane, channel, port or stream. -/
theorem LedgerEpoch.mem_books_of_stock {b : Book} (hq : b.q ∉ [1, 3, 4, 6, 8]) : b ∈ e.books links ↔ b ∈ e.stocks := by
  have hother {α : Type} {l : List α} {f : α → List Book} (hf : ∀ x, ∀ y ∈ f x, y.q ∈ [1, 3, 4, 6, 8]) : b ∉ l.flatMap f := by
    rw [List.mem_flatMap]
    rintro ⟨x, -, hb⟩
    exact hq (hf x b hb)
  have hone {α : Type} {l : List α} {f : α → Book} (hf : ∀ x, (f x).q ∈ [1, 3, 4, 6, 8]) : b ∉ l.map f := by
    rw [List.mem_map]
    rintro ⟨x, -, rfl⟩
    exact hq (hf x)
  unfold LedgerEpoch.books
  simp only [List.mem_append]
  rw [iff_false_intro (hother ?lanes), iff_false_intro (hother ?chans), iff_false_intro (hone ?ports), iff_false_intro (hone ?streams)]
  case lanes => simp
  case chans => simp
  case ports => simp
  case streams => simp
  simp only [LedgerEpoch.stocks, List.mem_cons, List.not_mem_nil, false_or, or_false, or_assoc]
  exact Iff.rfl

/-- With no window open and no count saturated nothing is excused: a quantity fails where its stock does not balance. -/
theorem LedgerEpoch.mem_failed_of_stock (hwin : e.windows = []) (hsat : e.saturated = []) (hstart : e.startWindows = [])
    (hq : q ∉ [1, 3, 4, 6, 8]) : q ∈ (e.check links).failed ↔ ∃ b ∈ e.stocks, b.q = q ∧ b.ok = false := by
  have hexcuses (b : Book) : e.excuses b = false := by simp [LedgerEpoch.excuses, hwin, hsat, hstart]
  refine e.mem_failed_check.trans (exists_congr fun b => ?_)
  constructor
  · rintro ⟨hb, rfl, -, hok⟩
    exact ⟨(e.mem_books_of_stock hq).mp hb, rfl, hok⟩
  · rintro ⟨hb, rfl, hok⟩
    exact ⟨(e.mem_books_of_stock hq).mpr hb, rfl, hexcuses b, hok⟩

end

section
variable (e : LedgerEpoch) (links : List Nat)

/-- The eight stocks of an epoch without windows, each against its size (Table 16-3). -/
theorem LedgerEpoch.failed_stocks (hwin : e.windows = []) (hsat : e.saturated = []) (hstart : e.startWindows = []) :
    let v := e.value
    let c := e.check links
    (2 ∈ c.failed ↔ v 4 0 + v 4 1 + v 4 2 ≠ 1024) ∧ (5 ∈ c.failed ↔ v 13 0 + v 13 1 + v 13 2 ≠ 16384) ∧
      (7 ∈ c.failed ↔ v 11 0 + v 11 1 ≠ 294912) ∧
      (9 ∈ c.failed ↔ v 6 0 + v 6 1 + v 6 2 + v 6 3 + v 6 4 + v 6 5 + v 6 6 + v 6 7 ≠ v 6 8) ∧
      (10 ∈ c.failed ↔ v 17 0 + v 17 1 + v 17 2 ≠ 65535) ∧ (11 ∈ c.failed ↔ v 17 3 + v 17 4 ≠ 2048) ∧
      (12 ∈ c.failed ↔ v 17 5 + v 17 6 ≠ 256) ∧ (13 ∈ c.failed ↔ v 7 2 + v 7 3 ≠ 8192) := by
  have hcastes : ((List.range 8).map (fun i => (e.value 6 i : Int))).foldl (· + ·) (0 : Int) =
      0 + e.value 6 0 + e.value 6 1 + e.value 6 2 + e.value 6 3 + e.value 6 4 + e.value 6 5 + e.value 6 6 + e.value 6 7 := rfl
  have hfailed {q : Nat} {p : Prop} (hq : q ∉ [1, 3, 4, 6, 8]) (h : (∃ b ∈ e.stocks, b.q = q ∧ b.ok = false) ↔ p) :
      q ∈ (e.check links).failed ↔ p := (e.mem_failed_of_stock hwin hsat hstart hq).trans h
  simp only [LedgerEpoch.stocks, hcastes, List.exists_mem_cons_iff, List.not_mem_nil, false_and, exists_false, or_false,
    decide_eq_false_iff_not] at hfailed
  refine ⟨hfailed (by decide) ?_, hfailed (by decide) ?_, hfailed (by decide) ?_, hfailed (by decide) ?_, hfailed (by decide) ?_,
    hfailed (by decide) ?_, hfailed (by decide) ?_, hfailed (by decide) ?_⟩ <;> omega

end

/-! ### BOOKS_CHECK (R421) -/

section
variable {s : State} {t : Nat} {e : LedgerEpoch}

theorem exec_booksCheck_of_not_serving (h : s.mbx.state ≠ .serving) : exec (.booksCheck t) s = .next (s.tick t) := by
  simp [exec, execBooksCheck, h]

theorem exec_booksCheck_of_serving (h : s.mbx.state = .serving) : exec (.booksCheck t) s = .next (s.tick t).checkBooks := by
  simp [exec, execBooksCheck, h]

theorem State.checkBooks_of_checked (h : ∀ e ∈ s.stat.ledger, e.pending = false) : s.checkBooks = s := by
  refine List.foldl_fixed' (fun n => ?_) _
  have hnone : s.stat.ledger.find? (fun e => e.number == n && e.pending) = none :=
    List.find?_eq_none.mpr fun e he => by simp [h e he]
  rw [hnone]

/-- The ledger bank with one epoch's check in it. -/
def State.withLedger (s : State) (c : LedgerEpoch) : State := { s with stat := { s.stat with ledger := [c] } }

theorem State.checkBooks_of_one (hl : s.stat.ledger = [e]) (hp : e.pending = true) :
    let c := e.check (List.range s.lcy.dies)
    s.checkBooks = if c.failed.isEmpty then s.withLedger c
      else (s.withLedger c).raise 0x0B01 srcSteward 0 tagDevice e.number (some (wd (bitsOf c.failed), 0, 0)) := by
  simp [State.checkBooks, State.withLedger, hl, hp]

/-- A failed check adds its event to what the passed one does. -/
theorem State.checkBooks_of_one_frame (hl : s.stat.ledger = [e]) (hp : e.pending = true) :
    let c := e.check (List.range s.lcy.dies)
    s.checkBooks.stat = (s.withLedger c).stat ∧ (c.failed = [] → s.checkBooks = s.withLedger c) ∧
      s.checkBooks = { s.withLedger c with evt := s.checkBooks.evt, out := s.checkBooks.out } := by
  intro c
  have hcheck := State.checkBooks_of_one hl hp
  refine ⟨?_, fun hpass => hcheck.trans (if_pos (by rw [hpass]; rfl)), ?_⟩
  · rw [hcheck]
    split
    · rfl
    · exact State.raise_stat _ _ _ _ _ _ _
  · rw [hcheck]
    split
    · rfl
    · rw [State.raise_frame]

end

/-! ### COMPARE_FIRE (R282) -/

section
variable {s : State} {t u : Nat}

theorem exec_compareFire_zero (s : State) (t : Nat) : exec (.compareFire t 0) s = exec (.epochBoundary t) s := by
  simp only [exec, execCompareFire, execEpochBoundary]
  cases (s.tick t).cmpDue 0 <;> rfl

theorem exec_compareFire_one (s : State) (t : Nat) : exec (.compareFire t 1) s = exec (.freezePoint t) s := by
  simp only [exec, execCompareFire, execFreezePoint]
  cases (s.tick t).cmpDue 1 <;> rfl

theorem exec_compareFire_of_idle (h : 15 < u ∨ (s.cmp u).armed = false) : exec (.compareFire t u) s = .next (s.tick t) := by
  refine if_pos ?_
  obtain h | h := h <;> simp [State.cmpDue, h]

theorem exec_compareFire_of_due (h4 : 4 ≤ u) (h15 : u ≤ 15) (h : (s.tick t).cmpDue u = true) :
    let s1 := ((s.tick t).fireMark u).rearm u
    exec (.compareFire t u) s = .next (s1.raiseDev 0x0806 (srcCmp u) (s1.cmp u).count) := by
  have hdue : ¬(decide (15 < u) || !(s.tick t).cmpDue u) = true := by simp [h, h15]
  exact (if_neg hdue).trans ((if_neg (by omega)).trans ((if_neg (by omega)).trans (if_neg (by omega))))

/-- The next target is on the unit's grid, one period or more further (R282). -/
theorem nextTarget_on_grid (sec ns target tns period : Nat) :
    ∃ k, 1 ≤ k ∧ nextTarget sec ns target tns period = (target + k * period) % 2 ^ 32 := ⟨_, Nat.le_max_left _ _, rfl⟩

end

/-! ### The statistics commands (Table 16-4) -/

section
variable {s : State} {tag : Nat} {a : List Word} (io : HostIo)

theorem statEpochWork_of_latched {e : LedgerEpoch} {rest : List LedgerEpoch} (h : s.stat.ledger = e :: rest) :
    statEpochWork tag io a s = .ok [ wd s.stat.epoch, wd s.stat.startSec, wd s.stat.startNs, wd (s.devN 0x0B01)
      , wd e.number, wd e.flags.byte, wd e.endSec, wd e.endNs ] s := by
  simp only [statEpochWork, h]
  rfl

theorem statEpochWork_of_none (h : s.stat.ledger = []) : statEpochWork tag io a s =
    .ok [wd s.stat.epoch, wd s.stat.startSec, wd s.stat.startNs, wd (s.devN 0x0B01), 0, 0, 0, 0] s := by
  simp only [statEpochWork, h]
  rfl

theorem statReadWork_of_bank_three (h : fld (arg a 4) 9 8 = 3) : statReadWork tag io a s = .status 0x0012 s := if_pos h

section
variable (hbank : fld (arg a 4) 9 8 ≠ 3)
include hbank

theorem statReadWork_of_bad_length (h : (arg a 3).toNat % 8 ≠ 0 ∨ (arg a 3).toNat < 24) : statReadWork tag io a s = .status 0x0011 s :=
  (if_neg hbank).trans (if_pos h)

section
variable (h8 : (arg a 3).toNat % 8 = 0) (h24 : 24 ≤ (arg a 3).toNat)
include h8 h24

theorem statReadWork_of_no_group (h : groupShape (fld (arg a 4) 7 0) = none) : statReadWork tag io a s = .status 0x0B01 s := by
  have hlen : ¬((arg a 3).toNat % 8 ≠ 0 ∨ (arg a 3).toNat < 24) := by omega
  simp only [statReadWork, hbank, hlen, h, ↓reduceIte]

variable {insts per : Nat} (hg : groupShape (fld (arg a 4) 7 0) = some (insts, per))
include hg

theorem statReadWork_of_past_end (h : insts < fld (arg a 4) 27 16 + fld (arg a 5) 11 0) :
    statReadWork tag io a s = .status 0x0B01 s := by
  have hlen : ¬((arg a 3).toNat % 8 ≠ 0 ∨ (arg a 3).toNat < 24) := by omega
  simp only [statReadWork, hbank, hlen, hg, h, ↓reduceIte]

variable (hin : fld (arg a 4) 27 16 + fld (arg a 5) 11 0 ≤ insts)
include hin

theorem statReadWork_of_no_epoch (h0 : fld (arg a 4) 9 8 ≠ 0) (h : s.stat.ledger[fld (arg a 4) 9 8 - 1]? = none) :
    statReadWork tag io a s = .status 0x0B02 s := by
  have hlen : ¬((arg a 3).toNat % 8 ≠ 0 ∨ (arg a 3).toNat < 24) := by omega
  simp [statReadWork, hbank, hlen, hg, Nat.not_lt.mpr hin, h0, h]

/-- What STAT_READ of the live bank writes (R423): as many instances as the buffer has room for. -/
def State.liveBytes (s : State) (g first want per len : Nat) : List Byte :=
  let n := min want ((len - 16) / (8 * per))
  statBytes s.stat.epoch g 0 n per first s.stat.flags.byte
    ((List.range n).any (fun k => s.stat.saturated.contains (statKey g (first + k) 0)))
    ((List.range n).flatMap (fun k => (List.range per).map (fun i => s.stat_ g (first + k) i)))

omit hbank in
theorem statReadWork_of_live {s1 : State} (h0 : fld (arg a 4) 9 8 = 0)
    (hw : s.hostWrite tag (ofTwo (arg a 1) (arg a 2))
      (s.liveBytes (fld (arg a 4) 7 0) (fld (arg a 4) 27 16) (fld (arg a 5) 11 0) per (arg a 3).toNat) io.dataFault = (0, s1)) :
    statReadWork tag io a s = .ok [wd (s.liveBytes (fld (arg a 4) 7 0) (fld (arg a 4) 27 16) (fld (arg a 5) 11 0) per
      (arg a 3).toNat).length, 0] s1 := by
  have hlen : ¬((arg a 3).toNat % 8 ≠ 0 ∨ (arg a 3).toNat < 24) := by omega
  unfold State.liveBytes at hw ⊢
  simp only [statReadWork, hlen, hg, Nat.not_lt.mpr hin, h0, ne_eq, not_true_eq_false, decide_false, Bool.false_and, Bool.false_eq_true,
    OfNat.zero_ne_ofNat, ↓reduceIte]
  rw [hw]
  rfl

end
end

theorem statBooksWork_of_unknown (h : ∀ e ∈ s.stat.ledger, e.number ≠ (arg a 1).toNat) :
    statBooksWork tag io a s = .status 0x0B02 s := by
  have hnone : s.stat.ledger.find? (fun e => e.number = (arg a 1).toNat) = none :=
    List.find?_eq_none.mpr fun e he => by simpa using h e he
  simp only [statBooksWork, hnone]

theorem statBooksWork_of_first {e : LedgerEpoch} {rest : List LedgerEpoch} (h : s.stat.ledger = e :: rest)
    (hn : e.number = (arg a 1).toNat) : statBooksWork tag io a s =
      .ok [wd (bitsOf e.failed), wd (bitsOf e.excused), wd (b2n e.pending), wd e.flags.byte] s := by
  have hfirst : s.stat.ledger.find? (fun e => e.number = (arg a 1).toNat) = some e := by
    rw [h]
    exact List.find?_cons_of_pos (decide_eq_true hn)
  simp only [statBooksWork, hfirst]

end

/-- Settles O53: the check by the books that it finds, a unit's firing by what it makes of the unit, and the commands by what their
work answers. -/
theorem booksAndStatistics : Obligations.BooksAndStatistics := by
  intro t tag io s a s0
  refine ⟨exec_booksCheck_of_not_serving, fun hserving h => ?checked, fun e hserving hl hp => ?books,
    ⟨exec_compareFire_zero s t, exec_compareFire_one s t⟩, fun u h => exec_compareFire_of_idle h,
    fun u h4 h15 harmed hreached => ?fire, fun e rest hl => ?epoch, fun hl => ?noEpoch,
    ⟨fun h => ?bankThree, fun hbank h => ?badLength, fun hbank h8 h24 => ⟨fun hg => ?noGroup, fun insts per hg =>
      ⟨fun h => ?pastEnd, fun hin h0 h => ?noBank, fun s1 hin h0 hw => ?live⟩⟩⟩, fun h => ?noBooks, fun e rest hl hn => ?statBooks⟩
  case checked =>
    rw [exec_booksCheck_of_serving hserving, State.checkBooks_of_checked (by simpa using h)]
  case books =>
    have hl0 : s0.stat.ledger = [e] := by simpa [s0] using hl
    have hdies : s0.lcy = s.lcy := s.tick_lcy t
    obtain ⟨hstat, hpass, hframe⟩ := State.checkBooks_of_one_frame hl0 hp
    rw [hdies] at hstat hpass hframe
    obtain ⟨hpending, hnumber, hstats, himbalance, hexcused⟩ := e.check_keeps (List.range s.lcy.dies)
    refine ⟨_, e.check (List.range s.lcy.dies), exec_booksCheck_of_serving hserving, congrArg Stat.ledger hstat, hpending,
      hnumber, hstats, fun q => e.mem_failed_check, fun q => e.mem_excused_check, himbalance, hexcused, fun h => ?_, ?_,
      fun hwin hsat hstart => e.failed_stocks _ hwin hsat hstart⟩
    · rw [hstat]
      exact hpass h
    · rw [hstat]
      exact hframe
  case fire =>
    have hdue : s0.cmpDue u = true := by simp [State.cmpDue, harmed, hreached]
    have hunit := (s0.cmp_fireMark_rearm_same u).trans (CmpUnit.fired_eq _ _ _)
    refine ⟨_, _, exec_compareFire_of_due h4 h15 hdue, State.cmp_of_tim (State.raiseDev_tim _ _ _ _ _) u, ?_⟩
    rw [hunit]
    refine ⟨rfl, rfl, rfl, rfl, rfl, by simp [harmed], fun hper => ?_, fun j hj => ?_, ?_⟩
    · obtain ⟨k, hk, hgrid⟩ := nextTarget_on_grid s0.sec32 s0.servedNs (s0.cmp u).sec (s0.cmp u).ns (s0.cmp u).period
      exact ⟨k, hk, (if_neg hper).trans hgrid⟩
    · exact (State.cmp_of_tim (State.raiseDev_tim _ _ _ _ _) j).trans (s0.cmp_fireMark_rearm_ne hj)
    · exact State.raiseDev_of_tim_frame (s0.fireMark_rearm_frame u) _ _ _ _
  case epoch =>
    refine answers_of_work rfl ((statEpochWork_of_latched (tag := tag) (a := a) io (by simpa using hl)).trans ?_)
    simp only [State.tick_stat, State.tick_devN]
    rfl
  case noEpoch =>
    refine answers_of_work rfl ((statEpochWork_of_none (tag := tag) (a := a) io (by simpa using hl)).trans ?_)
    simp only [State.tick_stat, State.tick_devN]
    rfl
  case bankThree => exact answers_of_work rfl (statReadWork_of_bank_three (tag := tag) io h)
  case badLength => exact answers_of_work rfl (statReadWork_of_bad_length (tag := tag) io hbank h)
  case noGroup => exact answers_of_work rfl (statReadWork_of_no_group (tag := tag) io hbank h8 h24 hg)
  case pastEnd => exact answers_of_work rfl (statReadWork_of_past_end (tag := tag) io hbank h8 h24 hg h)
  case noBank => exact answers_of_work rfl (statReadWork_of_no_epoch (tag := tag) io hbank h8 h24 hg hin h0 (by simpa using h))
  case live =>
    have hbytes : s0.stat = s.stat := s.tick_stat t
    rw [← hbytes] at hw ⊢
    exact answers_of_work rfl (statReadWork_of_live (tag := tag) io h8 h24 hg hin h0 hw)
  case noBooks => exact answers_of_work rfl (statBooksWork_of_unknown (tag := tag) io (by simpa using h))
  case statBooks => exact answers_of_work rfl (statBooksWork_of_first (tag := tag) io (by simpa using hl) hn)

end Sys2Proof.Machine
end

section
/-! PROOFS. What the selection of the clock to follow, a shadow's change of state and its servo leave of the shadows (R272 to R278). -/

namespace Sys2Proof.Machine

/-! ### Selections (R274 to R278) -/

/-- What a selection of the clock to follow may change: it refuses shadows that are LOCKED, and lets the others be. -/
structure State.Selects (s s' : State) : Prop where
  shadow {n : Nat} : (s.shadow n).state ≠ .locked → s'.shadow n = s.shadow n
  now : s'.now = s.now

theorem State.Selects.refl (s : State) : s.Selects s := ⟨fun _ => rfl, rfl⟩

theorem State.Selects.trans {a b c : State} (h1 : a.Selects b) (h2 : b.Selects c) : a.Selects c where
  shadow hn := by
    have heq := h1.shadow hn
    exact (h2.shadow (by rwa [heq])).trans heq
  now := h2.now.trans h1.now

theorem State.Selects.of_shadows {s s' : State} (h : s'.tim.shadows = s.tim.shadows) (hnow : s'.now = s.now) : s.Selects s' :=
  ⟨fun {n} _ => State.shadow_of_shadows h n, hnow⟩

section
variable (s : State)

theorem State.shadows_holdOver : s.holdOver.tim.shadows = s.tim.shadows := by
  unfold State.holdOver
  split
  · rfl
  · rw [State.raiseDev_tim]
    rfl

theorem State.holdOver_now : s.holdOver.now = s.now := by
  unfold State.holdOver
  split
  · rfl
  · rw [State.raiseDev_now]
    rfl

theorem State.shadows_follow (n : Nat) : (s.follow n).tim.shadows = s.tim.shadows := by
  unfold State.follow State.switchEvent
  dsimp only
  rw [State.raiseDev_tim]
  change (ite _ _ _ : State).tim.shadows = _
  split
  · rw [State.step_tim]
  · rfl

theorem State.follow_now (n : Nat) : (s.follow n).now = s.now := by
  unfold State.follow State.switchEvent
  dsimp only
  rw [State.raiseDev_now, State.modTim_now]
  split
  · exact s.step_now _
  · rfl

@[simp] theorem State.endServoFreeze_tim (n : Nat) : (s.endServoFreeze n).tim = s.tim := by
  unfold State.endServoFreeze
  split
  · rw [State.raiseDev_tim]
  · rfl

@[simp] theorem State.endServoFreeze_now (n : Nat) : (s.endServoFreeze n).now = s.now := by
  unfold State.endServoFreeze
  split
  · rw [State.raiseDev_now]
  · rfl

theorem State.setShadow_tim (n : Nat) (st : ShadowState) : (s.setShadow n st).tim = (s.modShadow n (fun h => { h with state := st })).tim := by
  unfold State.setShadow
  dsimp only
  split
  · rw [State.endServoFreeze_tim]
  · rfl

theorem State.setShadow_now (n : Nat) (st : ShadowState) : (s.setShadow n st).now = s.now := by
  unfold State.setShadow
  dsimp only
  split
  · rw [State.endServoFreeze_now, State.modShadow_now]
  · rfl

theorem State.shadow_setShadow_same (n : Nat) (st : ShadowState) : (s.setShadow n st).shadow n = { s.shadow n with state := st } :=
  (State.shadow_of_tim (s.setShadow_tim n st) n).trans (s.shadow_modShadow_same n _)

/-- A refusal marks its shadow and its time, and nothing else of the clocks (R275). -/
theorem State.refuse_tim (n : Nat) : (s.refuse n).tim =
    ((s.setShadow n .refused).modShadow n (fun h => { h with checkedAt := s.now })).tim := State.raiseDev_tim _ _ _ _ _

theorem State.shadow_refuse_same (n : Nat) : (s.refuse n).shadow n = { s.shadow n with state := .refused, checkedAt := s.now } := by
  rw [State.shadow_of_tim (s.refuse_tim n), State.shadow_modShadow_same, State.shadow_setShadow_same]

theorem State.following_refuse (n : Nat) : (s.refuse n).tim.following = s.tim.following := by
  rw [State.refuse_tim, State.modShadow_tim, State.setShadow_tim]
  rfl

/-- The shadow that time.select names is LOCKED (R274). -/
theorem State.locked_of_selected {n : Nat} (h : s.selected = some n) : (s.shadow n).state = .locked := by
  unfold State.selected at h
  dsimp only at h
  split at h
  · split at h
    · cases h
      exact eq_of_beq ‹_›
    · cases h
  · split at h
    · cases h
      exact eq_of_beq (Bool.and_eq_true_iff.mp ‹_›).1
    · split at h
      · cases h
        exact eq_of_beq ‹_›
      · cases h

theorem State.refuse_selects {n : Nat} (h : (s.shadow n).state = .locked) : s.Selects (s.refuse n) where
  shadow {k} hk := by
    have hne : k ≠ n := fun heq => hk (heq ▸ h)
    rw [State.shadow_of_tim (s.refuse_tim n), State.shadow_modShadow_ne _ _ hne, State.shadow_of_tim (s.setShadow_tim n _),
      State.shadow_modShadow_ne _ _ hne]
  now := by rw [State.refuse, State.raiseDev_now, State.modShadow_now, State.setShadow_now]

theorem State.selectN_selects (fuel : Nat) : s.Selects (s.selectN fuel) := by
  have hhold (s : State) : s.Selects s.holdOver := .of_shadows s.shadows_holdOver s.holdOver_now
  induction fuel generalizing s with
  | zero => exact hhold s
  | succ fuel ih =>
    unfold State.selectN
    split
    next => exact hhold s
    next n hn =>
      split
      · exact .refl s
      · split
        · exact (s.refuse_selects (s.locked_of_selected hn)).trans (ih _)
        · exact .of_shadows (s.shadows_follow n) (s.follow_now n)

/-- Before the first lock no shadow is refused (R275). -/
theorem State.shadows_selectN_of_first (h : s.tim.timeState = 0) (fuel : Nat) : (s.selectN fuel).tim.shadows = s.tim.shadows := by
  cases fuel with
  | zero => exact s.shadows_holdOver
  | succ fuel =>
    unfold State.selectN
    split
    next => exact s.shadows_holdOver
    next n hn =>
      simp only [h, ne_eq, not_true_eq_false, decide_false, Bool.false_and, Bool.false_eq_true, ↓reduceIte]
      split
      · rfl
      · exact s.shadows_follow n

theorem State.shadow_select_of_first (h : s.tim.timeState = 0) (n : Nat) : s.select.shadow n = s.shadow n :=
  State.shadow_of_shadows (s.shadows_selectN_of_first h 3) n

/-! ### A shadow's change of state (Table 10-5) -/

theorem State.shadowTo_selects {st : ShadowState} (n : Nat) : (s.setShadow n st).Selects (s.shadowTo n st) := by
  unfold State.shadowTo
  dsimp only
  split
  · exact State.Selects.trans (.of_shadows (State.shadows_holdOver _) (State.holdOver_now _)) (State.selectN_selects _ 3)
  · exact .refl _

theorem State.shadow_shadowTo {st : ShadowState} (h : st ≠ .locked) (n : Nat) :
    (s.shadowTo n st).shadow n = { s.shadow n with state := st } := by
  have hset := s.shadow_setShadow_same n st
  exact ((s.shadowTo_selects n).shadow (by rw [hset]; exact h)).trans hset

theorem State.shadowTo_now (n : Nat) (st : ShadowState) : (s.shadowTo n st).now = s.now :=
  (s.shadowTo_selects n).now.trans (s.setShadow_now n st)

/-- A shadow back in LISTENING follows no master and keeps those it heard. -/
theorem State.shadow_listen (n : Nat) : ((s.listen n).shadow n).state = .listening ∧ ((s.listen n).shadow n).master = none ∧
    ((s.listen n).shadow n).masters = (s.shadow n).masters := by
  rw [State.listen, State.shadow_shadowTo _ (by decide), State.shadow_modShadow_same]
  exact ⟨rfl, rfl, rfl⟩

theorem State.listen_now (n : Nat) : (s.listen n).now = s.now := State.shadowTo_now _ _ _

theorem State.shadow_acquire (n : Nat) (m : MasterData) :
    ((s.acquire n m).shadow n).state = .acquiring ∧ ((s.acquire n m).shadow n).master = some m := by
  rw [State.acquire, State.shadow_shadowTo _ (by decide), State.shadow_modShadow_same]
  exact ⟨rfl, rfl⟩

end

/-! ### The servo (R272, R273) -/

theorem natAbs_clampCorr_le (c : Int) : (clampCorr c).natAbs ≤ 500000000 := by
  unfold clampCorr
  split
  · decide
  · split
    · decide
    · omega

/-- Before the first lock a converged shadow is LOCKED whatever its residual (R275). -/
theorem State.state_enterLocked_of_first {s : State} (h : s.tim.timeState = 0) (n : Nat) :
    ((s.enterLocked n).shadow n).state = .locked := by
  simp only [State.enterLocked, h, ne_eq, not_true_eq_false, decide_false, Bool.false_and, Bool.false_eq_true, ↓reduceIte]
  have hselect := State.shadow_select_of_first (s.modShadow n (fun x => { x with state := .locked, lockedSince := s.now })) h n
  exact congrArg Shadow.state (hselect.trans (s.shadow_modShadow_same n _))

section
variable {s : State} {n : Nat} {o : Int}

/-- A shadow that has taken an offset into its servo, its correction held while the servo is frozen (R272, R380). -/
def State.servoed (s : State) (n : Nat) (o : Int) (w : Nat) (h : Shadow) : Shadow :=
  let c := Config.servo (s.devN 0x0805) (s.shadow n).history o
  { h with corr := if tmem s.isl.servoFrozen n then h.corr else clampCorr c.1, predicted := c.2, offset := o, outliers := 0, within := w
           history := (o :: h.history).take 16 }

theorem State.natAbs_corr_servoed_le (w : Nat) (h : Shadow) : (s.servoed n o w h).corr.natAbs ≤ max 500000000 h.corr.natAbs := by
  unfold State.servoed
  dsimp only
  split
  · exact Nat.le_max_right _ _
  · exact (natAbs_clampCorr_le _).trans (Nat.le_max_left _ _)

@[simp] theorem State.servoLimit_tim (s : State) (n : Nat) : (s.servoLimit n).tim = s.tim := by
  unfold State.servoLimit
  dsimp only
  split
  · rw [State.raiseDev_tim]
  · rfl

@[simp] theorem State.shadow_servoLimit (s : State) (n k : Nat) : (s.servoLimit n).shadow k = s.shadow k :=
  State.shadow_of_tim (s.servoLimit_tim n) k

theorem State.takeOffset_of_first (hst : (s.shadow n).state = .acquiring) (hh : (s.shadow n).history = []) :
    s.takeOffset n o = (s.stepShadow n (-o)).modShadow n (fun h => { h with history := [0], offset := o }) := by
  simp [State.takeOffset, hst, hh]

section
variable (hh : (s.shadow n).history ≠ [])
include hh

theorem State.takeOffset_of_outlier (hfar : within (o - (s.shadow n).predicted) (s.devN 0x0806) = false) (hfew : (s.shadow n).outliers < 7) :
    s.takeOffset n o = (s.count 9 n 1).modShadow n (fun h => { h with outliers := h.outliers + 1 }) := by
  have height : (s.shadow n).outliers + 1 < 8 := by omega
  simp [State.takeOffset, hh, hfar, height]

theorem State.takeOffset_of_near (hnear : within (o - (s.shadow n).predicted) (s.devN 0x0806) = true) :
    let w := if within o (s.devN 0x0804) then (s.shadow n).within + 1 else 0
    let s1 := (s.modShadow n (s.servoed n o w)).servoLimit n
    s.takeOffset n o = if (s.shadow n).state = .acquiring && 16 ≤ w then s1.enterLocked n else s1 := by
  simp only [State.takeOffset, List.isEmpty_eq_false_iff.mpr hh, hnear, Bool.and_false, Bool.not_true, Bool.false_eq_true, ↓reduceIte]
  rfl

/-- The 16th offset in a row within the limit locks a shadow before the first lock (R273). -/
theorem State.state_takeOffset_of_sixteenth (hnear : within (o - (s.shadow n).predicted) (s.devN 0x0806) = true)
    (hin : within o (s.devN 0x0804) = true) (hst : (s.shadow n).state = .acquiring) (hw : (s.shadow n).within = 15)
    (hfirst : s.tim.timeState = 0) : ((s.takeOffset n o).shadow n).state = .locked := by
  rw [State.takeOffset_of_near hh hnear, hin, hst, hw]
  have htime : ((s.modShadow n (s.servoed n o 16)).servoLimit n).tim.timeState = 0 := by
    rw [State.servoLimit_tim, State.modShadow_tim]
    exact hfirst
  exact State.state_enterLocked_of_first htime n

theorem State.shadow_takeOffset_of_astray (hnear : within (o - (s.shadow n).predicted) (s.devN 0x0806) = true)
    (hout : within o (s.devN 0x0804) = false) : (s.takeOffset n o).shadow n = s.servoed n o 0 (s.shadow n) := by
  rw [State.takeOffset_of_near hh hnear, hout]
  simp

end
end

end Sys2Proof.Machine
end

section
/-! PROOFS. PTP messages as a shadow takes them (R270 to R272). -/

namespace Sys2Proof.Machine

/-! ### Messages that a shadow takes or drops (R270) -/

section
variable {s : State} {n : Nat} {m : PtpMsg}

theorem State.ptpTake_of_disabled (h : (s.shadow n).state = .disabled) (follow : Bool) (lo hi : Int) (f : DomainCfg → Shadow → State) :
    s.ptpTake n m follow lo hi f = s := if_pos h

section
variable {d : DomainCfg} (hd : tfind s.cfg.domains n = some d)
include hd

theorem State.ptpTake_of_drop {k : Nat} (hen : (s.shadow n).state ≠ .disabled) (hk : s.ptpDrop n m = some k) (follow : Bool) (lo hi : Int)
    (f : DomainCfg → Shadow → State) : s.ptpTake n m follow lo hi f = s.count 9 n k := by
  simp only [State.ptpTake, hen, hd, hk, ↓reduceIte]

theorem State.ptpDrop_of_malformed (h : m.malformed = true) : s.ptpDrop n m = some 2 := by
  simp only [State.ptpDrop, hd, h, ↓reduceIte]

theorem State.ptpDrop_of_unsupported (h : m.malformed = false) (hun : m.unsupported = true) : s.ptpDrop n m = some 0 := by
  simp only [State.ptpDrop, hd, h, hun, Bool.false_eq_true, ↓reduceIte]

theorem State.ptpDrop_of_domain (h : m.malformed = false) (hun : m.unsupported = false) (hdom : d.domain ≠ m.domain) :
    s.ptpDrop n m = some 2 := by
  simp only [State.ptpDrop, hd, h, hun, hdom, Bool.false_eq_true, ne_eq, not_false_eq_true, ↓reduceIte]

end

/-- A whole message of its domain reaches an enabled shadow. -/
structure State.Hears (s : State) (n : Nat) (m : PtpMsg) (d : DomainCfg) : Prop where
  enabled : (s.shadow n).state ≠ .disabled
  domain : tfind s.cfg.domains n = some d
  whole : m.malformed = false
  supported : m.unsupported = false
  same : d.domain = m.domain

section
variable {d : DomainCfg} {lo hi : Int} (h : s.Hears n m d) (hlo : lo ≤ m.logInterval) (hhi : m.logInterval ≤ hi)
  (f : DomainCfg → Shadow → State)
include h hlo hhi

theorem State.Hears.take (follow : Bool) : s.ptpTake n m follow lo hi f =
    if follow && (!(s.shadow n).tracks || !(s.shadow n).fromMaster m) then s.count 9 n 2 else f d (s.shadow n) := by
  have hdrop : s.ptpDrop n m = none := by simp [State.ptpDrop, h.domain, h.whole, h.supported, h.same]
  have hinterval : ¬(m.logInterval < lo ∨ hi < m.logInterval) := by omega
  simp only [State.ptpTake, h.enabled, h.domain, hdrop, hinterval, ↓reduceIte]

theorem State.Hears.take_from_master (htracks : (s.shadow n).tracks = true) (hfrom : (s.shadow n).fromMaster m = true) :
    s.ptpTake n m true lo hi f = f d (s.shadow n) := by
  simp [h.take hlo hhi, htracks, hfrom]

theorem State.Hears.take_from_stranger (hfrom : (s.shadow n).fromMaster m = false) : s.ptpTake n m true lo hi f = s.count 9 n 2 := by
  simp [h.take hlo hhi, hfrom]

end
end

/-! ### The mean path delay (R272) -/

/-- The least of a list and of a start. -/
def least (l : List Int) (a : Int) : Int := l.foldl (fun a x => if x < a then x else a) a

/-- A shadow with one more path-delay sample, the mean the least of the eight last (R272). -/
def Shadow.delayed (h : Shadow) (delay logInterval : Int) : Shadow :=
  { h with delays := (delay :: h.delays).take 8, meanDelay := least ((delay :: h.delays).take 8) delay, delayReq := none
           logDelayReq := logInterval }

theorem least_cons (l : List Int) (x a : Int) : least (x :: l) a = least l (min a x) := by
  refine congrArg (least l) ?_
  change (if x < a then x else a) = min a x
  split <;> omega

/-- The least is one of them, and none is less. -/
theorem least_spec (l : List Int) (a : Int) : least l a ∈ a :: l ∧ ∀ x ∈ a :: l, least l a ≤ x := by
  induction l generalizing a with
  | nil => simp [least]
  | cons y r ih =>
    obtain ⟨hmem, hle⟩ := ih (min a y)
    have hmin := hle _ List.mem_cons_self
    rw [least_cons]
    refine ⟨?_, fun x hx => ?_⟩
    · obtain heq | hin := List.mem_cons.mp hmem
      · rw [heq]
        obtain h | h := min_choice a y <;> simp [h]
      · exact List.mem_cons_of_mem _ (List.mem_cons_of_mem _ hin)
    · obtain rfl | rfl | hr : x = a ∨ x = y ∨ x ∈ r := by simpa using hx
      · exact hmin.trans (min_le_left _ _)
      · exact hmin.trans (min_le_right _ _)
      · exact hle x (List.mem_cons_of_mem _ hr)

/-- The mean path delay is the least of the samples kept. -/
theorem Shadow.meanDelay_delayed (h : Shadow) (delay logInterval : Int) :
    (h.delayed delay logInterval).meanDelay ∈ (h.delayed delay logInterval).delays ∧
      ∀ x ∈ (h.delayed delay logInterval).delays, (h.delayed delay logInterval).meanDelay ≤ x := by
  obtain ⟨hmem, hle⟩ := least_spec ((delay :: h.delays).take 8) delay
  refine ⟨?_, fun x hx => hle x (List.mem_cons_of_mem _ hx)⟩
  change least ((delay :: h.delays).take 8) delay ∈ (delay :: h.delays).take 8
  obtain heq | hin := List.mem_cons.mp hmem
  · rw [heq]
    exact List.mem_cons_self
  · exact hin

/-! ### The messages -/

section
variable {s : State} {t n : Nat} {m : PtpMsg}

theorem exec_ptp_of_message {c : Instr}
    (hc : c = .ptpSync t n m ∨ c = .ptpFollowUp t n m ∨ c = .ptpAnnounce t n m ∨ c = .ptpDelayResp t n m) :
    ∃ follow lo hi f, exec c s = .next ((s.tick t).ptpTake n m follow lo hi f) := by
  obtain rfl | rfl | rfl | rfl := hc <;> exact ⟨_, _, _, _, rfl⟩

section
variable {d : DomainCfg} (h : (s.tick t).Hears n m d)
include h

/-- A Sync's interval and time of arrival (R271). -/
def State.syncHeard (s : State) (n : Nat) (m : PtpMsg) : State :=
  s.modShadow n (fun h => { h with lastSync := s.now, logSync := m.logInterval })

theorem exec_ptpSync_of_master (htracks : ((s.tick t).shadow n).tracks = true) (hfrom : ((s.tick t).shadow n).fromMaster m = true)
    (hlo : -7 ≤ m.logInterval) (hhi : m.logInterval ≤ 1) : exec (.ptpSync t n m) s =
      .next (if m.twoStep then ((s.tick t).syncHeard n m).modShadow n (fun h =>
          { h with pendingSync := some (m.seq, 0, (s.tick t).shadowCapture n d.port - m.correction) })
        else ((s.tick t).syncHeard n m).syncDone n ((s.tick t).shadowCapture n d.port - m.origin - m.correction)) :=
  congrArg Host.Outcome.next (h.take_from_master hlo hhi _ htracks hfrom)

theorem exec_ptpSync_of_stranger (hfrom : ((s.tick t).shadow n).fromMaster m = false) (hlo : -7 ≤ m.logInterval)
    (hhi : m.logInterval ≤ 1) : exec (.ptpSync t n m) s = .next ((s.tick t).count 9 n 2) :=
  congrArg Host.Outcome.next (h.take_from_stranger hlo hhi _ hfrom)

section
variable (htracks : ((s.tick t).shadow n).tracks = true) (hfrom : ((s.tick t).shadow n).fromMaster m = true)
  (hlo : -128 ≤ m.logInterval) (hhi : m.logInterval ≤ 127)
include htracks hfrom hlo hhi

theorem exec_ptpFollowUp_of_pending {k : Nat} {x : Int} (hp : ((s.tick t).shadow n).pendingSync = some (m.seq, k, x)) :
    exec (.ptpFollowUp t n m) s = .next ((s.tick t).syncDone n (x - m.origin - m.correction)) := by
  refine congrArg Host.Outcome.next ((h.take_from_master hlo hhi _ htracks hfrom).trans ?_)
  simp only [hp, ↓reduceIte]

theorem exec_ptpFollowUp_of_none_pending (hp : ((s.tick t).shadow n).pendingSync = none) :
    exec (.ptpFollowUp t n m) s = .next ((s.tick t).count 9 n 2) := by
  refine congrArg Host.Outcome.next ((h.take_from_master hlo hhi _ htracks hfrom).trans ?_)
  simp only [hp]

theorem exec_ptpDelayResp_of_awaited {t3 : Int} (hq : ((s.tick t).shadow n).delayReq = some (m.seq, some t3))
    (hreq : m.requesting = { clock := BitVec.ofNat 64 s.clockId, port := d.port + 1 }) : exec (.ptpDelayResp t n m) s =
      .next ((s.tick t).modShadow n (fun h => h.delayed ((h.t2t1 + (m.origin - m.correction - t3)) / 2) m.logInterval)) := by
  have hown : m.requesting = { clock := BitVec.ofNat 64 (s.tick t).clockId, port := d.port + 1 } := by rw [s.tick_clockId, hreq]
  refine congrArg Host.Outcome.next ((h.take_from_master hlo hhi _ htracks hfrom).trans ?_)
  simp only [hq, hown, and_self, ↓reduceIte]
  rfl

end

/-- An Announce's place in the list (R271). -/
def State.announceHeard (s : State) (n : Nat) (m : PtpMsg) : State :=
  s.modShadow n (fun h => { h with masters := putMaster h.masters { m.data with logAnnounce := m.logInterval } s.now })

section
variable (hst : ((s.tick t).shadow n).state = .listening) (hlo : -3 ≤ m.logInterval) (hhi : m.logInterval ≤ 4)
include hst hlo hhi

theorem exec_ptpAnnounce_of_best {b : MasterData} (hb : ((s.tick t).announceHeard n m).bmca n = some b) :
    exec (.ptpAnnounce t n m) s = .next (((s.tick t).announceHeard n m).acquire n b) := by
  have htracks : ((s.tick t).shadow n).tracks = false := by simp [Shadow.tracks, hst]
  unfold State.announceHeard at hb ⊢
  refine congrArg Host.Outcome.next ((h.take hlo hhi _ false).trans ?_)
  simp only [Bool.false_and, Bool.false_eq_true, htracks, hb, hst, true_or, ↓reduceIte]

theorem exec_ptpAnnounce_of_no_best (hb : ((s.tick t).announceHeard n m).bmca n = none) :
    exec (.ptpAnnounce t n m) s = .next ((s.tick t).announceHeard n m) := by
  have htracks : ((s.tick t).shadow n).tracks = false := by simp [Shadow.tracks, hst]
  unfold State.announceHeard at hb ⊢
  refine congrArg Host.Outcome.next ((h.take hlo hhi _ false).trans ?_)
  simp only [Bool.false_and, Bool.false_eq_true, htracks, hb, ↓reduceIte]

end
end

end

end Sys2Proof.Machine
end

section
/-! PROOFS. The timers of the shadows and of the served clock, the master ports and the PPS pins, and the time engine's obligation (R268 to
R284). -/

namespace Sys2Proof.Machine

/-! ### Frames that the time engine sends -/

/-- What the sending of a frame may change: the network, its counts, and what a completion of a dropped copy changes. -/
structure State.Sends (s s' : State) : Prop where
  frame : s' = { s with ins := s'.ins, net := s'.net, stat := s'.stat, evt := s'.evt, out := s'.out, freeCtr := s'.freeCtr }

theorem State.Sends.trans {a b c : State} (h1 : a.Sends b) (h2 : b.Sends c) : a.Sends c where
  frame := by rw [h2.frame, h1.frame]

section
variable {s s' : State}

theorem State.Sends.tim (h : s.Sends s') : s'.tim = s.tim := by rw [h.frame]

theorem State.Sends.now (h : s.Sends s') : s'.now = s.now := by rw [h.frame]

theorem State.Completes.sends (h : s.Completes s') : s.Sends s' := ⟨by rw [h.frame]⟩

end

theorem State.count_sends (s : State) (g n i : Nat) : s.Sends (s.count g n i) := ⟨by rw [s.count_frame g n i]⟩

/-- A dropped copy of a tenant's command completes it, with two words that the model leaves free. -/
theorem State.txFail_sends (s : State) (w : TxFor) (cq : Option Nat) : s.Sends (s.txFail w cq) := by
  unfold State.txFail
  split
  next k =>
    split
    · exact State.Sends.trans (b := ({ s with freeCtr := s.freeCtr + 1 + 1 } : State).modNet (fun n =>
        { n with txWaits := terase n.txWaits k })) ⟨rfl⟩ (State.cqComplete_completes _ _ _ _ _ _ _ _ _).sends
    · exact ⟨rfl⟩
  · exact ⟨rfl⟩

theorem State.admitCopy_sends (s : State) (port queue colour cls : Nat) (origin : Origin) (bytes : List Byte) (convoy : Bool) (extra : Nat)
    (w : TxFor) (oneStep : Bool) : s.Sends (s.admitCopy port queue colour cls origin bytes convoy extra w oneStep).2 := by
  unfold State.admitCopy
  dsimp only
  have hcount := s.count_sends 12 port 8
  split
  · split
    · exact hcount.trans (State.count_sends _ _ _ _)
    · exact (hcount.trans (State.count_sends _ 12 port 11)).trans ⟨rfl⟩
  · have hadmitted := hcount.trans (State.count_sends _ 12 port 9)
    split
    · exact hadmitted.trans ⟨rfl⟩
    · exact (hadmitted.trans (State.count_sends _ 12 port 14)).trans (State.txFail_sends _ _ _)

theorem State.sendPtp_sends (s : State) (port transport : Nat) (event : Bool) (msg : List Byte) (w : TxFor) (oneStep : Bool) :
    s.Sends (s.sendPtp port transport event msg w oneStep) := by
  unfold State.sendPtp
  split
  · exact State.admitCopy_sends _ _ _ _ _ _ _ _ _ _ _
  · exact ⟨rfl⟩

section
variable {s : State} {t n : Nat}

/-! ### A shadow's timers (R271, R274, R275, Table 10-5) -/

theorem exec_shadow_timers_of_idle (h : (s.shadow n).tracks = false) : exec (.delayReqSend t n) s = .next (s.tick t) ∧
    exec (.syncTimeout t n) s = .next (s.tick t) ∧ exec (.announceReceiptTimeout t n) s = .next (s.tick t) := by
  simp [exec, execDelayReqSend, execSyncTimeout, execAnnounceReceiptTimeout, h]

/-- Device time of a shadow's next Delay_Req (R271). -/
def Shadow.delayReqTime (h : Shadow) (t : Nat) : Nat := match h.delayAt with | some a => max t (a + logNs h.logDelayReq) | none => t

/-- A shadow whose Delay_Req has left. -/
def Shadow.requested (h : Shadow) (seq now : Nat) : Shadow :=
  { h with delayReq := some (seq, none), delayAt := some now, delaySeq := (seq + 1) % 65536 }

theorem exec_delayReqSend_of_tracking {d : DomainCfg} (h : (s.shadow n).tracks = true) (hd : tfind s.cfg.domains n = some d) :
    let s1 := s.tick ((s.shadow n).delayReqTime t)
    ∃ s', exec (.delayReqSend t n) s = .next s' ∧
      (s1.modShadow n (fun x => x.requested (s.shadow n).delaySeq s1.now)).Sends s' := by
  simp only [exec, execDelayReqSend, h, State.tick_cfg, hd, Bool.not_true, Bool.false_eq_true, ↓reduceIte]
  exact ⟨_, rfl, State.sendPtp_sends _ _ _ _ _ _ _⟩

theorem exec_syncTimeout_of_tracking (h : (s.shadow n).tracks = true) : exec (.syncTimeout t n) s =
    .next ((s.tick (max t ((s.shadow n).lastSync + 4 * logNs (s.shadow n).logSync))).listen n) := by
  simp [exec, execSyncTimeout, h]

theorem exec_announceReceiptTimeout_of_tracking {m : MasterData} (h : (s.shadow n).tracks = true) (hm : (s.shadow n).master = some m) :
    exec (.announceReceiptTimeout t n) s = .next (((s.tick (max t (m.heard + 3 * logNs m.logAnnounce))).modShadow n
      (fun h => { h with masters := h.masters.filter (fun x => x.source ≠ m.source) })).listen n) := by
  simp only [exec, execAnnounceReceiptTimeout, h, hm]

theorem exec_refusedRecheck_of_refused (h : (s.shadow n).state = .refused) :
    let s1 := s.tick (max t ((s.shadow n).checkedAt + 1000000000))
    exec (.refusedRecheck t n) s = if within (s1.residual n) (s1.devN 0x0803) then
        .next (s1.modShadow n (fun h => { h with state := .locked, lockedSince := s1.now })).select
      else .next (s1.refuse n) := if_neg (not_not.mpr h)

theorem exec_refusedRecheck_of_other (h : (s.shadow n).state ≠ .refused) : exec (.refusedRecheck t n) s = .next (s.tick t) := if_pos h

/-! ### The served clock's timers (R274, R276, R278) -/

theorem exec_preferredRevert_of_locked (hp : s.devN 0x0801 < 2) (hst : (s.shadow (s.devN 0x0801)).state = .locked)
    (hf : s.tim.following = .shadow (1 - s.devN 0x0801)) : exec (.preferredRevert t) s =
      .next (s.tick (max t ((s.shadow (s.devN 0x0801)).lockedSince + s.devN 0x0802 * 1000000000))).select := if_pos ⟨hp, hst, hf⟩

theorem exec_preferredRevert_of_unlocked (hst : (s.shadow (s.devN 0x0801)).state ≠ .locked) :
    exec (.preferredRevert t) s = .next (s.tick t) := if_neg fun h => hst h.2.1

theorem exec_slewEnd_of_steady (h : s.tim.slewing = false) : exec (.slewEnd t) s = .next (s.tick t) := by
  simp only [exec, execSlewEnd, h]

/-- Where its residual is 0 a slew has ended (R276). -/
def State.slewed (s : State) (n : Nat) : State :=
  { s with tim := { s.tim with slewing := decide (s.residual n ≠ 0) && s.tim.slewing } }

theorem State.slewed_eq (s : State) (n : Nat) :
    s.slewed n = if s.residual n = 0 then s.modTim (fun x => { x with slewing := false }) else s := by
  unfold State.slewed
  split
  next hzero => simp [State.modTim, hzero]
  next hleft => simp [hleft]

theorem exec_slewEnd_of_slewing (h : s.tim.slewing = true) (hf : s.tim.following = .shadow n) : exec (.slewEnd t) s =
    .next ((s.tick (max t (s.now + ((s.residual n).natAbs * 10000 + nsUnit - 1) / nsUnit))).slewed n) := by
  rw [State.slewed_eq]
  simp only [exec, execSlewEnd, h, hf]

theorem exec_holdoverAlarm_of_held (hf : s.tim.following = .holdover) (ha : s.tim.holdAlarm = false) :
    let s1 := s.tick (max t (s.tim.holdSince + s.devN 0x0807 * 1000000000))
    exec (.holdoverAlarm t) s = .next ((s1.modTim (fun x => { x with holdAlarm := true })).raiseDev 0x0805 srcServed
      ((s1.now - s1.tim.holdSince) / 1000000000)) := if_pos ⟨hf, by rw [ha]; rfl⟩

theorem exec_holdoverAlarm_of_other (h : s.tim.following ≠ .holdover ∨ s.tim.holdAlarm = true) :
    exec (.holdoverAlarm t) s = .next (s.tick t) := by
  refine if_neg ?_
  obtain h | h := h <;> simp [h]

/-! ### Master ports (R280, R281) -/

@[simp] theorem State.masterPort_modMaster_same (s : State) (n : Nat) (f : MasterPort → MasterPort) :
    (s.modMaster n f).masterPort n = f (s.masterPort n) := tget_tmod_same _ _ _ _

theorem State.masterPort_modMaster_ne (s : State) {n k : Nat} (f : MasterPort → MasterPort) (h : k ≠ n) :
    (s.modMaster n f).masterPort k = s.masterPort k := tget_tmod_ne _ _ _ h.symm

theorem State.masterPort_of_masters {s s' : State} (h : s'.tim.masters = s.tim.masters) (k : Nat) : s'.masterPort k = s.masterPort k := by
  simp [State.masterPort, h]

@[simp] theorem State.tick_masterPort (s : State) (t k : Nat) : (s.tick t).masterPort k = s.masterPort k :=
  State.masterPort_of_masters (s.tick_tim_masters t) k

/-- What a frame of a master port leaves: the port as changed, the other ports and the shadows as a tick left them. -/
theorem State.Sends.of_modMaster {s1 : State} {f : MasterPort → MasterPort} {u : Nat} (h : ((s.tick u).modMaster n f).Sends s1) :
    s1.masterPort n = f (s.masterPort n) ∧ (∀ k, k ≠ n → s1.masterPort k = s.masterPort k) ∧
      s1.tim.shadows = (s.tick u).tim.shadows := by
  have hmasters := congrArg Tim.masters h.tim
  refine ⟨?_, fun k hk => ?_, (congrArg Tim.shadows h.tim).trans rfl⟩
  · rw [State.masterPort_of_masters hmasters, State.masterPort_modMaster_same, State.tick_masterPort]
  · rw [State.masterPort_of_masters hmasters, State.masterPort_modMaster_ne _ _ hk, State.tick_masterPort]

section
variable {c : MasterCfg} (h : s.masterCfg n = some c)
include h

theorem exec_masterSyncSend_of_master :
    let s1 := s.tick (match (s.masterPort n).syncAt with | some a => max t (a + logNs c.logSync) | none => t)
    ∃ s', exec (.masterSyncSend t n) s = .next s' ∧
      (s1.modMaster n (fun x => { x with syncSeq := (x.syncSeq + 1) % 65536, syncAt := some s1.now })).Sends s' := by
  simp only [exec, execMasterSyncSend, h]
  exact ⟨_, rfl, State.sendPtp_sends _ _ _ _ _ _ _⟩

theorem exec_masterAnnounceSend_of_master :
    let s1 := s.tick (match (s.masterPort n).annAt with | some a => max t (a + logNs c.logAnnounce) | none => t)
    ∃ s', exec (.masterAnnounceSend t n) s = .next s' ∧
      (s1.modMaster n (fun x => { x with annSeq := (x.annSeq + 1) % 65536, annAt := some s1.now })).Sends s' := by
  simp only [exec, execMasterAnnounceSend, h]
  exact ⟨_, rfl, State.sendPtp_sends _ _ _ _ _ _ _⟩

theorem exec_masterDelayReq_of_whole {m : PtpMsg} (hm : m.malformed = false) (hun : m.unsupported = false) (hdom : m.domain = c.domain) :
    let s0 := s.tick t
    exec (.masterDelayReq t n m) s = .next (s0.sendPtp n c.transport false (s0.ptpBytes n c.domain 9 0x0008 3 m.seq
      (m.correction - (fracOf (s0.stampAt (0x0810 + n)) : Int)) c.logSync
      (ptpTime (s0.stampAt (0x0810 + n)) ++ toBe 8 m.data.source.clock.toNat ++ toBe 2 m.data.source.port))) := by
  simp [exec, execMasterDelayReq, h, hm, hun, hdom]

end

theorem exec_masters_of_none (h : s.masterCfg n = none) : exec (.masterSyncSend t n) s = .next (s.tick t) ∧
    exec (.masterAnnounceSend t n) s = .next (s.tick t) ∧ ∀ m, exec (.masterDelayReq t n m) s = .next (s.tick t) := by
  simp [exec, execMasterSyncSend, execMasterAnnounceSend, execMasterDelayReq, h]

/-! ### PPS (R283, R284) -/

/-- PPS_OUT0 high until its pulse's end. -/
def State.pps0High (s : State) : State :=
  (s.modTim (fun x => { x with ppsOut0 := true, ppsFall0 := s.now + s.devN 0x0809 * 1000 })).emitOut (.pin "PPS_OUT0" true)

section
variable (s : State)

theorem State.pps0High_frame : s.pps0High = { s with tim := s.pps0High.tim, out := s.pps0High.out } := rfl

@[simp] theorem State.cmp_pps0High (k : Nat) : s.pps0High.cmp k = s.cmp k := rfl

theorem State.pps0High_fall : s.pps0High.tim.ppsFall0 = s.now + s.devN 0x0809 * 1000 := rfl

/-- What a firing of unit 2 with a pulse leaves: its count, the other units, and the pin's rise. -/
theorem State.pps0_pulse : let s' := ((s.fireMark 2).rearm 2).pps0High
    s'.tim.ppsFall0 = s.now + s.devN 0x0809 * 1000 ∧ (s'.cmp 2).count = ((s.cmp 2).count + 1) % 65536 ∧
      (∀ k, k ≠ 2 → s'.cmp k = s.cmp k) ∧ .pin "PPS_OUT0" true ∈ s'.out ∧ s' = { s with tim := s'.tim, out := s'.out } := by
  dsimp only
  refine ⟨?_, ?_, fun k hk => ?_, ?_, ?_⟩
  · rw [State.pps0High_fall, s.fireMark_rearm_frame]
    rfl
  · rw [State.cmp_pps0High, State.cmp_fireMark_rearm_same, CmpUnit.fired_eq]
  · rw [State.cmp_pps0High, s.cmp_fireMark_rearm_ne hk]
  · simp [State.pps0High, State.emitOut]
  · rw [State.pps0High_frame, s.fireMark_rearm_frame]

end

theorem State.ppsRise_zero_of_pulse (h : s.devN 0x0808 = 1) : s.ppsRise 0 = ((s.fireMark 2).rearm 2).pps0High := by
  have hmode : ((s.fireMark 2).rearm 2).devN 0x0808 = 1 := h
  exact if_pos (.inl hmode)

theorem State.ppsRise_zero_of_no_pulse (h : s.devN 0x0808 = 0) : s.ppsRise 0 = (s.fireMark 2).rearm 2 := by
  have hmode : ((s.fireMark 2).rearm 2).devN 0x0808 = 0 := h
  exact if_neg (by simp [hmode])

section
variable (h : (s.cmp 2).armed = true)
include h

theorem exec_ppsOutRise_zero_of_armed : exec (.ppsOutRise t 0) s =
    .next ((s.tick (max t (s.deadlineOf (s.cmp 2).sec (s.cmp 2).ns))).ppsRise 0) := by
  simp only [exec, execPpsOutRise, h, Nat.add_zero, Bool.not_true, Bool.false_eq_true, Nat.not_lt_zero, or_self, ↓reduceIte]

theorem exec_ppsOutRise_of_pulse (hmode : s.devN 0x0808 = 1) :
    let s1 := s.tick (max t (s.deadlineOf (s.cmp 2).sec (s.cmp 2).ns))
    exec (.ppsOutRise t 0) s = .next ((s1.fireMark 2).rearm 2).pps0High := by
  dsimp only
  rw [exec_ppsOutRise_zero_of_armed h, State.ppsRise_zero_of_pulse (by rwa [State.tick_devN])]

theorem exec_ppsOutRise_of_no_pulse (hmode : s.devN 0x0808 = 0) :
    let s1 := s.tick (max t (s.deadlineOf (s.cmp 2).sec (s.cmp 2).ns))
    exec (.ppsOutRise t 0) s = .next ((s1.fireMark 2).rearm 2) := by
  dsimp only
  rw [exec_ppsOutRise_zero_of_armed h, State.ppsRise_zero_of_no_pulse (by rwa [State.tick_devN])]

end

theorem exec_ppsOutRise_of_disarmed {out : Nat} (h : (s.cmp (2 + out)).armed = false) : exec (.ppsOutRise t out) s = .next (s.tick t) :=
  if_pos (.inr (by rw [h]; rfl))

theorem exec_ppsOutFall_of_high (h : s.tim.ppsOut1 = true) : exec (.ppsOutFall t 1) s =
    .next (((s.tick (max t s.tim.ppsFall1)).modTim (fun x => { x with ppsOut1 := false })).emitOut (.pin "PPS_OUT1" false)) := by
  simp [exec, execPpsOutFall, h]

theorem exec_ppsOutFall_of_low (h : s.tim.ppsOut0 = false) : exec (.ppsOutFall t 0) s = .next (s.tick t) := by
  simp [exec, execPpsOutFall, h]

theorem exec_ppsInEdge_of_glitch {v d : Nat} (h : s.tim.ppsIn = some (v, d)) (hearly : (s.tick t).now < d + 100000000) :
    exec (.ppsInEdge t) s = .next ((s.tick t).count 9 0 3) := by
  simp [exec, execPpsInEdge, h, hearly]

theorem exec_ppsInEdge_of_clean (h : ∀ v d, s.tim.ppsIn = some (v, d) → d + 100000000 ≤ (s.tick t).now) : exec (.ppsInEdge t) s =
    .next ((s.tick t).modTim (fun x => { x with ppsIn := some (x.served, (s.tick t).now), ppsEdges := x.ppsEdges + 1 })) := by
  simp only [exec, execPpsInEdge, State.tick_tim_ppsIn]
  cases hedge : s.tim.ppsIn with
  | none => rfl
  | some p => simp [Nat.not_lt.mpr (h p.1 p.2 hedge)]

theorem exec_timServedNsRead_of_enabled (hn : n ≤ 287) (h : s.enabled n = true) : exec (.timServedNsRead t n) s =
    .next ((s.tick t).modInst n (fun i => { i with snapshot := (s.tick t).tim.served })) := if_neg (by simp [hn, h])

end

/-! ### The time engine -/

/-- Settles O44: each message, timer and pin by the lemma of its case, the shadows, ports and units being what an update, a tick and a sent
frame leave of them. -/
theorem timeEngine : Obligations.TimeEngine := by
  intro t n s s0 h
  refine ⟨fun m c hc => ?dropped, fun m d hen hd hmal hun hdom => ?heard, fun s n o => ?servo, fun htracks d hd => ?delayReq,
    fun hidle => exec_shadow_timers_of_idle hidle, fun htracks => ?syncTimeout, fun m htracks hm => ?announceTimeout,
    fun hst => ?refused, fun hst => exec_refusedRecheck_of_other hst,
    ⟨fun hp hst hf => exec_preferredRevert_of_locked hp hst hf, fun hst => exec_preferredRevert_of_unlocked hst⟩,
    fun hsteady => exec_slewEnd_of_steady hsteady, fun hslew hf => ⟨_, exec_slewEnd_of_slewing hslew hf, rfl⟩,
    fun hf ha => ⟨_, exec_holdoverAlarm_of_held hf ha, State.raiseDev_frame _ _ _ _ _⟩,
    fun hother => exec_holdoverAlarm_of_other hother, fun c hc => ?masters, fun hc => exec_masters_of_none hc,
    fun harmed hmode => ?pulse, fun harmed hmode => ?noPulse, fun hidle => exec_ppsOutRise_of_disarmed hidle,
    fun hhigh => ⟨_, exec_ppsOutFall_of_high hhigh, ?_, rfl⟩, fun hlow => exec_ppsOutFall_of_low hlow,
    fun v d hin hearly => exec_ppsInEdge_of_glitch hin hearly, fun hclean => ?edge,
    fun hn hen => exec_timServedNsRead_of_enabled hn hen⟩
  case dropped =>
    obtain ⟨follow, lo, hi, f, hexec⟩ := exec_ptp_of_message hc
    rw [hexec]
    refine ⟨fun hdis => congrArg _ (State.ptpTake_of_disabled hdis _ _ _ _), fun d hen hd => ?_⟩
    have hd0 : tfind s0.cfg.domains n = some d := by rwa [s.tick_cfg]
    have hdrop {k : Nat} (hk : s0.ptpDrop n m = some k) : (.next (s0.ptpTake n m follow lo hi f) : Out) = .next (s0.count 9 n k) :=
      congrArg _ (State.ptpTake_of_drop hd0 hen hk follow lo hi f)
    exact ⟨fun hmal => hdrop (State.ptpDrop_of_malformed hd0 hmal), fun hmal hun => hdrop (State.ptpDrop_of_unsupported hd0 hmal hun),
      fun hmal hun hdom => hdrop (State.ptpDrop_of_domain hd0 hmal hun hdom)⟩
  case heard =>
    have hears : s0.Hears n m d := ⟨hen, by rwa [s.tick_cfg], hmal, hun, hdom⟩
    refine ⟨fun htracks hfrom hlo hhi => ⟨fun htwo => ?twoStep, fun hone => ?oneStep⟩,
      fun hfrom hlo hhi => exec_ptpSync_of_stranger hears hfrom hlo hhi, fun htracks hfrom hlo hhi =>
        ⟨fun k x hp => exec_ptpFollowUp_of_pending hears htracks hfrom hlo hhi hp,
        fun hp => exec_ptpFollowUp_of_none_pending hears htracks hfrom hlo hhi hp, fun q t3 hq hseq hreq => ?delayResp⟩,
      fun b hst hlo hhi => ⟨fun hb => ⟨_, exec_ptpAnnounce_of_best hears hst hlo hhi hb, State.shadow_acquire _ n b⟩,
        fun hb => exec_ptpAnnounce_of_no_best hears hst hlo hhi hb⟩⟩
    case twoStep =>
      refine ⟨_, (exec_ptpSync_of_master hears htracks hfrom hlo hhi).trans (congrArg _ (if_pos htwo)), ?_, fun k hk => ?_, rfl⟩
      · rw [State.shadow_modShadow_same, State.syncHeard, State.shadow_modShadow_same]
      · rw [State.shadow_modShadow_ne _ _ hk, State.syncHeard, State.shadow_modShadow_ne _ _ hk]
    case oneStep =>
      exact (exec_ptpSync_of_master hears htracks hfrom hlo hhi).trans (congrArg _ (if_neg (by simp [hone])))
    case delayResp =>
      subst hseq
      refine ⟨_, exec_ptpDelayResp_of_awaited hears htracks hfrom hlo hhi hq hreq, ?_⟩
      rw [State.shadow_modShadow_same]
      obtain ⟨hmem, hleast⟩ := h.meanDelay_delayed ((h.t2t1 + (m.origin - m.correction - t3)) / 2) m.logInterval
      exact ⟨rfl, hmem, hleast, rfl, rfl⟩
  case servo =>
    refine ⟨fun hst hfirst => ?_, fun hh hfar hfew => State.takeOffset_of_outlier hh hfar hfew,
      fun hh hnear hin hst hw hfirst => State.state_takeOffset_of_sixteenth hh hnear hin hst hw hfirst, fun hh hnear hout => ?_⟩
    · rw [State.takeOffset_of_first hst hfirst, State.shadow_modShadow_same, State.stepShadow, State.shadow_modShadow_same]
      exact ⟨rfl, rfl, hst⟩
    · rw [State.shadow_takeOffset_of_astray hh hnear hout]
      exact ⟨rfl, rfl, State.natAbs_corr_servoed_le _ _⟩
  case delayReq =>
    obtain ⟨s', hexec, hsends⟩ := exec_delayReqSend_of_tracking (t := t) htracks hd
    refine ⟨s', hexec, ?_, fun k hk => ?_, hsends.now⟩
    · rw [State.shadow_of_tim hsends.tim, State.shadow_modShadow_same]
      rfl
    · rw [State.shadow_of_tim hsends.tim, State.shadow_modShadow_ne _ _ hk]
      rfl
  case syncTimeout =>
    obtain ⟨hstate, hmaster, -⟩ := State.shadow_listen (s.tick (max t ((s.shadow n).lastSync + 4 * logNs (s.shadow n).logSync))) n
    exact ⟨_, exec_syncTimeout_of_tracking htracks, hstate, hmaster, State.listen_now _ _⟩
  case announceTimeout =>
    refine ⟨_, exec_announceReceiptTimeout_of_tracking htracks hm, ?_⟩
    obtain ⟨hstate, hmaster, hmasters⟩ := State.shadow_listen ((s.tick (max t (m.heard + 3 * logNs m.logAnnounce))).modShadow n
      (fun h => { h with masters := h.masters.filter (fun x => x.source ≠ m.source) })) n
    refine ⟨hstate, hmaster, fun x hx => ?_, State.listen_now _ _⟩
    rw [hmasters, State.shadow_modShadow_same] at hx
    simpa using (List.mem_filter.mp hx).2
  case refused =>
    rw [exec_refusedRecheck_of_refused hst, State.tick_devN]
    refine ⟨fun hin => if_pos hin, fun hout => ⟨_, if_neg (by simp [hout]), ?_⟩⟩
    rw [State.shadow_refuse_same]
    exact ⟨rfl, rfl, State.following_refuse _ n⟩
  case masters =>
    refine ⟨?_, ?_, fun m hmal hun hdom => ⟨_, _, exec_masterDelayReq_of_whole hc hmal hun hdom, rfl, rfl⟩⟩
    · obtain ⟨s', hexec, hsends⟩ := exec_masterSyncSend_of_master (t := t) hc
      exact ⟨s', hexec, hsends.of_modMaster⟩
    · obtain ⟨s', hexec, hsends⟩ := exec_masterAnnounceSend_of_master (t := t) hc
      exact ⟨s', hexec, hsends.of_modMaster⟩
  case pulse =>
    obtain ⟨hfall, hcount, hother, hrest⟩ := (s.tick (max t (s.deadlineOf (s.cmp 2).sec (s.cmp 2).ns))).pps0_pulse
    rw [State.tick_devN] at hfall
    rw [State.tick_cmp] at hcount
    exact ⟨_, exec_ppsOutRise_of_pulse harmed hmode, rfl, hfall, hcount, hother, hrest⟩
  case noPulse =>
    exact ⟨_, exec_ppsOutRise_of_no_pulse harmed hmode, s.tick_out _, rfl⟩
  case edge =>
    rw [exec_ppsInEdge_of_clean hclean, ← s.tick_tim_ppsEdges t]
    rfl
  · simp [State.emitOut]

end Sys2Proof.Machine
end

section
/-! PROOFS. The forms that every step keeps: the canonical form of the memory's bytes and the rising order of the tables looked
through in order. One lemma for each operation, which keeps the form of each part whose form the operations it is made of keep. -/

namespace Sys2Proof.Machine

/-- The parts of the state whose form the model keeps: the memory's bytes, and the tables looked through in order. -/
inductive FormOf where
  | bytes | cells | jobs | mans | objs | hub

/-- A part of the state stands in its form. -/
def State.InForm (s : State) : FormOf → Prop
  | .bytes => Memory.wf s.mem.bytes
  | .cells => twf s.sea.cells = true
  | .jobs => twf s.sea.jobs = true
  | .mans => twf s.man.mans = true
  | .objs => twf s.cap.objs = true
  | .hub => twf s.fare.hub = true

/-- The state that an answer carries has the part in its form. -/
def Answer.InForm (a : Answer) (k : FormOf) : Prop :=
  match a with
  | .reply _ _ s => s.InForm k
  | .hold _ _ _ s => s.InForm k
  | .silent s => s.InForm k

/-- The next state, where there is one, has the part in its form. -/
def Out.InForm (o : Out) (k : FormOf) : Prop :=
  match o with
  | .next s => s.InForm k
  | _ => True

/-! ### Rising tables and canonical memory -/

section
variable {α : Type} {t : Tbl α}

theorem twf_eq_pairwise (t : Tbl α) : twf t = true ↔ t.Pairwise (fun p q => p.1 < q.1) := by
  induction t with
  | nil => simp [twf]
  | cons p r ih =>
    obtain ⟨j, a⟩ := p
    cases r with
    | nil => simp [twf]
    | cons q r =>
      obtain ⟨i, b⟩ := q
      simp only [twf, Bool.and_eq_true, decide_eq_true_eq, ih, List.pairwise_cons, List.mem_cons, forall_eq_or_imp]
      constructor
      · rintro ⟨hlt, hall, hr⟩
        exact ⟨⟨hlt, fun p hp => hlt.trans (hall p hp)⟩, hall, hr⟩
      · rintro ⟨⟨hlt, -⟩, hall, hr⟩
        exact ⟨hlt, hall, hr⟩

theorem twf_filter {f : Nat × α → Bool} (h : twf t = true) : twf (t.filter f) = true :=
  (twf_eq_pairwise _).2 (((twf_eq_pairwise t).1 h).filter f)

theorem twf_terase {k : Nat} (h : twf t = true) : twf (terase t k) = true := twf_filter h

theorem twf_map {f : Nat × α → Nat × α} (hf : ∀ p, (f p).1 = p.1) (h : twf t = true) : twf (t.map f) = true := by
  rw [twf_eq_pairwise, List.pairwise_map]
  simpa only [hf] using (twf_eq_pairwise t).1 h

theorem twf_tupd {k : Nat} {f : α → α} (h : twf t = true) : twf (tupd t k f) = true :=
  twf_map (fun p => by split <;> rfl) h

end

section
variable {m : List (Nat × Byte)}

theorem Memory.wf_filter {f : Nat × Byte → Bool} (h : Memory.wf m) : Memory.wf (m.filter f) :=
  ⟨twf_filter h.1, fun p hp => h.2 p (List.mem_of_mem_filter hp)⟩

theorem mem_of_mem_tset {α : Type} {t : Tbl α} {k : Nat} {a : α} {p : Nat × α} (h : p ∈ tset t k a) :
    p = (k, a) ∨ p ∈ t := by
  induction t with
  | nil => exact .inl (List.mem_singleton.1 h)
  | cons q r ih =>
    obtain ⟨j, b⟩ := q
    simp only [tset] at h
    split at h
    · exact List.mem_cons.1 h
    · split at h
      · exact (List.mem_cons.1 h).imp_right (List.mem_cons_of_mem _)
      · rcases List.mem_cons.1 h with rfl | h
        · exact .inr List.mem_cons_self
        · exact (ih h).imp_right (List.mem_cons_of_mem _)

theorem Memory.wf_writeByte (a : Nat) (b : Byte) (h : Memory.wf m) : Memory.wf (writeByte m a b) := by
  unfold writeByte
  split
  · exact Memory.wf_filter h
  · rename_i hb
    refine ⟨twf_tset _ _ _ h.1, fun p hp => ?_⟩
    rcases mem_of_mem_tset hp with rfl | hp
    · exact hb
    · exact h.2 p hp

theorem Memory.wf_writeBytes (a : Nat) (bs : List Byte) (h : Memory.wf m) : Memory.wf (writeBytes m a bs) := by
  induction bs generalizing m a with
  | nil => exact h
  | cons b r ih => exact ih (a + 1) (Memory.wf_writeByte a b h)

end

end Sys2Proof.Machine

namespace Sys2Proof.Machine.State.InForm
variable {s : State} {k : FormOf}

/-! ### The shapes of an operation -/

/-- A change of the memory's part that keeps the form of its bytes. -/
theorem memForm {mem now mbx ins lane cart tim aud net isl sec stat test evt lcy out freeCtr pending} (h : s.InForm k)
    (bytes : Memory.wf s.mem.bytes → Memory.wf mem.bytes) :
    State.InForm ⟨now, mbx, s.man, ins, s.cap, mem, lane, s.sea, s.fare, cart, tim, aud, net, isl, sec, stat, test, evt,
      lcy, out, freeCtr, pending⟩ k :=
  match k with
  | .bytes => bytes h
  | .cells | .jobs | .mans | .objs | .hub => h

/-- A change of the objects' part that keeps its form. -/
theorem capForm {cap now mbx ins lane cart tim aud net isl sec stat test evt lcy out freeCtr pending} (h : s.InForm k)
    (objs : twf s.cap.objs = true → twf cap.objs = true) :
    State.InForm ⟨now, mbx, s.man, ins, cap, s.mem, lane, s.sea, s.fare, cart, tim, aud, net, isl, sec, stat, test, evt,
      lcy, out, freeCtr, pending⟩ k :=
  match k with
  | .objs => objs h
  | .bytes | .cells | .jobs | .mans | .hub => h

/-- A change of the manifests' part that keeps its form. -/
theorem manForm {man now mbx ins lane cart tim aud net isl sec stat test evt lcy out freeCtr pending} (h : s.InForm k)
    (mans : twf s.man.mans = true → twf man.mans = true) :
    State.InForm ⟨now, mbx, man, ins, s.cap, s.mem, lane, s.sea, s.fare, cart, tim, aud, net, isl, sec, stat, test, evt,
      lcy, out, freeCtr, pending⟩ k :=
  match k with
  | .mans => mans h
  | .bytes | .cells | .jobs | .objs | .hub => h

/-- A change of the cell sea that keeps its forms. -/
theorem seaForm {sea now mbx ins lane cart tim aud net isl sec stat test evt lcy out freeCtr pending} (h : s.InForm k)
    (cells : twf s.sea.cells = true → twf sea.cells = true) (jobs : twf s.sea.jobs = true → twf sea.jobs = true) :
    State.InForm ⟨now, mbx, s.man, ins, s.cap, s.mem, lane, sea, s.fare, cart, tim, aud, net, isl, sec, stat, test, evt,
      lcy, out, freeCtr, pending⟩ k :=
  match k with
  | .cells => cells h
  | .jobs => jobs h
  | .bytes | .mans | .objs | .hub => h

/-- A change of the fare part that keeps the form of the hub journal buffer. -/
theorem fareForm {fare now mbx ins lane cart tim aud net isl sec stat test evt lcy out freeCtr pending} (h : s.InForm k)
    (hub : twf s.fare.hub = true → twf fare.hub = true) :
    State.InForm ⟨now, mbx, s.man, ins, s.cap, s.mem, lane, s.sea, fare, cart, tim, aud, net, isl, sec, stat, test, evt,
      lcy, out, freeCtr, pending⟩ k :=
  match k with
  | .hub => hub h
  | .bytes | .cells | .jobs | .mans | .objs => h

theorem ite {c : Prop} [Decidable c] {a b : State} (ha : a.InForm k) (hb : b.InForm k) : (if c then a else b).InForm k := by
  split <;> assumption

theorem ite_snd {α : Type} {c : Prop} [Decidable c] {a b : α × State} (ha : a.2.InForm k) (hb : b.2.InForm k) :
    (if c then a else b).2.InForm k := by
  split <;> assumption

theorem of_snd {α : Type} {p : α × State} {a : α} {s' : State} (e : p = (a, s')) (h : p.2.InForm k) : s'.InForm k := by
  subst e; exact h

theorem foldl {α : Type} {f : State → α → State} {l : List α} (h : s.InForm k)
    (hf : ∀ {s x}, State.InForm s k → (f s x).InForm k) : (l.foldl f s).InForm k := by
  induction l generalizing s with
  | nil => exact h
  | cons x r ih => exact ih (hf h)

theorem foldl_snd {α β : Type} {f : α × State → β → α × State} {l : List β} {p : α × State} (h : p.2.InForm k)
    (hf : ∀ {p x}, State.InForm p.2 k → (f p x).2.InForm k) : (l.foldl f p).2.InForm k := by
  induction l generalizing p with
  | nil => exact h
  | cons x r ih => exact ih (hf h)

/-- A change of the parts whose form is not kept. -/
theorem rest {now mbx ins lane cart tim aud net isl sec stat test evt lcy out freeCtr pending} (h : s.InForm k) :
    State.InForm ⟨now, mbx, s.man, ins, s.cap, s.mem, lane, s.sea, s.fare, cart, tim, aud, net, isl, sec, stat, test, evt,
      lcy, out, freeCtr, pending⟩ k := h

/-- A change of the memory's part and of the objects' that keeps both forms. -/
theorem memCapForm {mem cap now mbx ins lane cart tim aud net isl sec stat test evt lcy out freeCtr pending} (h : s.InForm k)
    (bytes : Memory.wf s.mem.bytes → Memory.wf mem.bytes) (objs : twf s.cap.objs = true → twf cap.objs = true) :
    State.InForm ⟨now, mbx, s.man, ins, cap, mem, lane, s.sea, s.fare, cart, tim, aud, net, isl, sec, stat, test, evt,
      lcy, out, freeCtr, pending⟩ k :=
  match k with
  | .bytes => bytes h
  | .objs => objs h
  | .cells | .jobs | .mans | .hub => h

/-- A change of the memory's part that leaves its bytes alone. -/
theorem memRest {now mbx ins mem lane cart tim aud net isl sec stat test evt lcy out freeCtr pending} (h : s.InForm k)
    (hb : mem.bytes = s.mem.bytes) :
    State.InForm ⟨now, mbx, s.man, ins, s.cap, mem, lane, s.sea, s.fare, cart, tim, aud, net, isl, sec, stat, test, evt,
      lcy, out, freeCtr, pending⟩ k := memForm h fun h => hb ▸ h

/-- A change of the manifests' part that leaves the manifests alone. -/
theorem manRest {now mbx man ins lane cart tim aud net isl sec stat test evt lcy out freeCtr pending} (h : s.InForm k)
    (hm : man.mans = s.man.mans) :
    State.InForm ⟨now, mbx, man, ins, s.cap, s.mem, lane, s.sea, s.fare, cart, tim, aud, net, isl, sec, stat, test, evt,
      lcy, out, freeCtr, pending⟩ k := manForm h fun h => hm ▸ h

/-- Empty tables and a memory that lists nothing stand in their forms. -/
theorem of_empty (bytes : s.mem.bytes = []) (cells : s.sea.cells = []) (jobs : s.sea.jobs = []) (mans : s.man.mans = [])
    (objs : s.cap.objs = []) (hub : s.fare.hub = []) : s.InForm k := by
  cases k with
  | bytes =>
    change Memory.wf s.mem.bytes
    rw [bytes]
    exact ⟨rfl, nofun⟩
  | cells => exact congrArg twf cells
  | jobs => exact congrArg twf jobs
  | mans => exact congrArg twf mans
  | objs => exact congrArg twf objs
  | hub => exact congrArg twf hub

theorem same {s' : State} (h : s.InForm k) (e : (Except.ok s : Except Nat State) = .ok s') : s'.InForm k := by
  cases e; exact h

end Sys2Proof.Machine.State.InForm

namespace Sys2Proof.Machine
variable {s : State} {k : FormOf}

theorem Answer.InForm.ite {c : Prop} [Decidable c] {a b : Answer} (ha : a.InForm k) (hb : b.InForm k) :
    (if c then a else b).InForm k := by
  split <;> assumption

theorem Answer.InForm.status {st : Nat} (h : s.InForm k) : (Answer.status st s).InForm k := h
theorem Answer.InForm.ok {rs : List Word} (h : s.InForm k) : (Answer.ok rs s).InForm k := h

theorem Out.InForm.ite {c : Prop} [Decidable c] {a b : Out} (ha : Out.InForm a k) (hb : Out.InForm b k) :
    Out.InForm (if c then a else b) k := by
  split <;> assumption

end Sys2Proof.Machine

namespace Sys2Proof.Machine.State.InForm
variable {s : State} {k : FormOf}

/-! ### Tables of the state, time and outputs -/

theorem modCfg {f} (h : s.InForm k) : (s.modCfg f).InForm k := h
theorem tick {t} (h : s.InForm k) : (s.tick t).InForm k := ite h (ite h h)
theorem free (h : s.InForm k) : s.free.2.InForm k := h
theorem modInst {tag f} (h : s.InForm k) : (s.modInst tag f).InForm k := h
theorem modFunc {fn f} (h : s.InForm k) : (s.modFunc fn f).InForm k := h
theorem modQp {tag q f} (h : s.InForm k) : (s.modQp tag q f).InForm k := modInst h
theorem emitOut {o} (h : s.InForm k) : (s.emitOut o).InForm k := h
theorem tlbTouch {tag iova len} (h : s.InForm k) : (s.tlbTouch tag iova len).InForm k := ite h h
theorem dmaOut {tag iova bytes} (h : s.InForm k) : (s.dmaOut tag iova bytes).InForm k := emitOut (tlbTouch h)
theorem dmaPhaseLast {tag iova bytes pos} (h : s.InForm k) : (s.dmaPhaseLast tag iova bytes pos).InForm k :=
  dmaOut (dmaOut (dmaOut h))
theorem msix {fn v} (h : s.InForm k) : (s.msix fn v).InForm k := ite (modFunc h) (emitOut h)
theorem msixFlush {fn} (h : s.InForm k) : (s.msixFlush fn).InForm k :=
  ite h (foldl h (fun h => ite (emitOut (modFunc h)) h))
theorem signal {tag v} (h : s.InForm k) : (s.signal tag v).InForm k := msix h
theorem modPage {tag f} (h : s.InForm k) : (s.modPage tag f).InForm k := h
theorem modRec {tag f} (h : s.InForm k) : (s.modRec tag f).InForm k := h
theorem mbxIrq {tag} (h : s.InForm k) : (s.mbxIrq tag).InForm k := signal h
theorem notice {tag w} (h : s.InForm k) : (s.notice tag w).InForm k := ite (mbxIrq (modPage h)) (modPage h)
theorem take (h : s.InForm k) : s.take.InForm k := by
  unfold State.take
  dsimp only
  split
  · exact h
  · split
    · exact h
    · exact rest (ite (modPage h) (modRec (modPage h)))
theorem writeReply {tag words} (h : s.InForm k) : (s.writeReply tag words).InForm k := ite (mbxIrq (modPage h)) (modPage h)
theorem complete {tag status results} (h : s.InForm k) : (s.complete tag status results).InForm k := modRec (writeReply h)

/-! ### Counters and events -/

theorem count {group n i by_} (h : s.InForm k) : (s.count group n i by_).InForm k := ite h h
theorem modEvq {tag f} (h : s.InForm k) : (s.modEvq tag f).InForm k := h
theorem countMasked {tag} (h : s.InForm k) : (s.countMasked tag).InForm k := modEvq h
theorem raiseTo {code source tag data ext rcpt} (h : s.InForm k) : (s.raiseTo code source tag data ext rcpt).InForm k :=
  ite (countMasked h) (ite (foldl h countMasked) (ite (rest (foldl h countMasked)) (rest (foldl h countMasked))))
theorem raise {code source owner tag data ext} (h : s.InForm k) : (s.raise code source owner tag data ext).InForm k := by
  unfold State.raise
  split
  · exact h
  · exact raiseTo (emitOut h)
theorem raiseDev {code source data ext} (h : s.InForm k) : (s.raiseDev code source data ext).InForm k := raise h
theorem loseRecord {q n due} (h : s.InForm k) : (s.loseRecord q n due).InForm k := rest (modEvq h)
theorem writeEntry {q bytes} (h : s.InForm k) : (s.writeEntry q bytes).InForm k := modEvq (dmaPhaseLast h)
theorem evSignal {rcpt v} (h : s.InForm k) : (s.evSignal rcpt v).InForm k := by
  unfold State.evSignal
  dsimp only
  split
  · exact ite (modEvq h) (modEvq (signal h))
  · exact modEvq (signal h)
theorem writeLost {q} (h : s.InForm k) : (s.writeLost q).InForm k := ite h (evSignal (modEvq (writeEntry h)))
theorem writeRecord {r rcpt copy fault} (h : s.InForm k) : (s.writeRecord r rcpt copy fault).InForm k := by
  unfold State.writeRecord
  dsimp only
  split
  · exact h
  · split
    · exact loseRecord h
    · split
      · exact loseRecord h
      · exact ite (loseRecord (ite (writeLost h) h)) (evSignal (by
      split
      · exact writeEntry (ite (writeLost h) h)
      · exact modEvq (dmaPhaseLast (dmaPhaseLast (ite (writeLost h) h)))))

/-! ### The command envelope -/

theorem xlateFault {tag iova cause write source} (h : s.InForm k) : (s.xlateFault tag iova cause write source).InForm k :=
  ite (raiseTo (modInst h)) (raise (modInst h))
theorem precheck {d own needs tag io st s'} (h : s.InForm k) (e : s.precheck d own needs tag io = .error (st, s')) :
    s'.InForm k := by
  unfold State.precheck at e
  dsimp only at e
  repeat' split at e
  all_goals cases e
  all_goals first | exact h | exact xlateFault h
theorem defer {d tag args} (h : s.InForm k) : (s.defer d tag args).2.InForm k := h
theorem replay {tag s'} (h : s.InForm k) (e : s.replay tag = some s') : s'.InForm k := by
  unfold State.replay at e
  dsimp only at e
  split at e
  · split at e
    · cases e
      exact count (writeReply h)
    · cases e
  · cases e
theorem answer {tag} : {a : Answer} → a.InForm k → (State.answer tag a).InForm k
  | .reply .., h => take (complete h)
  | .hold .., h => h
  | .silent _, h => h
theorem runWith {d own needs t tag io} (h : s.InForm k) {pre : List Word → State → Except Nat State}
    {body : List Word → State → Answer}
    (hp : ∀ {a s s'}, State.InForm s k → pre a s = .ok s' → s'.InForm k)
      (hb : ∀ {a s}, State.InForm s k → (body a s).InForm k) :
    (s.runWith d own needs pre body t tag io).InForm k := by
  have ht := tick h (t := t)
  unfold State.runWith
  dsimp only
  split
  · exact ht
  · split
    · next e => exact take (replay ht e)
    · split
      · next e => exact take (complete (precheck ht e))
      · split
        · split
          · exact take (complete ht)
          · next e => exact take (complete (defer (hp ht e)))
        · exact answer (hb ht)
theorem barOf {b s'} (h : s.InForm k) (e : barOf b s = .ok s') : s'.InForm k := by
  cases b <;> cases e
  exact h
theorem run {d t tag io} (h : s.InForm k) {body : List Word → State → Answer}
    (hb : ∀ {a s}, State.InForm s k → (body a s).InForm k) : (s.run d body t tag io).InForm k :=
  runWith h same hb

/-! ### The served clock -/

theorem modTim {f} (h : s.InForm k) : (s.modTim f).InForm k := h
theorem modShadow {n f} (h : s.InForm k) : (s.modShadow n f).InForm k := modTim h
theorem modCmp {n f} (h : s.InForm k) : (s.modCmp n f).InForm k := modTim h
theorem step {u} (h : s.InForm k) : (s.step u).InForm k := raiseDev h
theorem switchEvent {old new} (h : s.InForm k) : (s.switchEvent old new).InForm k := raiseDev h
theorem endServoFreeze {n} (h : s.InForm k) : (s.endServoFreeze n).InForm k := ite (raiseDev h) h
theorem setShadow {n st} (h : s.InForm k) : (s.setShadow n st).InForm k := ite (endServoFreeze (modShadow h)) (modShadow h)
theorem servoLimit {n} (h : s.InForm k) : (s.servoLimit n).InForm k := ite (raiseDev h) h
theorem refuse {n} (h : s.InForm k) : (s.refuse n).InForm k := raiseDev (modShadow (setShadow h))
theorem follow {n} (h : s.InForm k) : (s.follow n).InForm k := switchEvent (modTim (ite (step h) h))
theorem holdOver (h : s.InForm k) : s.holdOver.InForm k := ite h (raiseDev (modTim h))
theorem selectN {n} (h : s.InForm k) : (s.selectN n).InForm k := by
  induction n generalizing s with
  | zero => exact holdOver h
  | succ n ih =>
    unfold State.selectN
    split
    · exact holdOver h
    · exact ite h (ite (ih (refuse h)) (follow h))
theorem select (h : s.InForm k) : s.select.InForm k := selectN h
theorem shadowTo {n st} (h : s.InForm k) : (s.shadowTo n st).InForm k := ite (select (holdOver (setShadow h))) (setShadow h)
theorem enterLocked {n} (h : s.InForm k) : (s.enterLocked n).InForm k := ite (refuse h) (select (modShadow h))
theorem listen {n} (h : s.InForm k) : (s.listen n).InForm k := shadowTo (modShadow h)
theorem acquire {n m} (h : s.InForm k) : (s.acquire n m).InForm k := shadowTo (modShadow h)
theorem stepShadow {n u} (h : s.InForm k) : (s.stepShadow n u).InForm k := modShadow h
theorem takeOffset {n o} (h : s.InForm k) : (s.takeOffset n o).InForm k :=
  ite (ite (modShadow (count h)) (stepShadow (shadowTo (count h))))
    (ite (modShadow (stepShadow h)) (ite (enterLocked (servoLimit (modShadow h))) (servoLimit (modShadow h))))
theorem domainCommitted {n old new} (h : s.InForm k) : (s.domainCommitted n old new).InForm k :=
  ite (ite (shadowTo (listen (modShadow h))) h) (ite (listen (modShadow h)) (ite h (listen (modShadow h))))
theorem fireMark {n} (h : s.InForm k) : (s.fireMark n).InForm k := modCmp h
theorem rearm {n} (h : s.InForm k) : (s.rearm n).InForm k := modCmp h
theorem armPps (h : s.InForm k) : s.armPps.InForm k := foldl h modCmp
theorem armBoundary {b} (h : s.InForm k) : (s.armBoundary b).InForm k := modCmp (modCmp h)

/-! ### Staging of manifest entries -/

theorem modMan {id f} (h : s.InForm k) : (s.modMan id f).InForm k := manForm h twf_tupd
theorem stage {tag code op bulk results} (h : s.InForm k) : (s.stage tag code op bulk results).InForm k := by
  unfold State.stage
  dsimp only
  split
  · exact Answer.InForm.status h
  · exact Answer.InForm.ite (Answer.InForm.status h) (Answer.InForm.ok (modMan h))

/-! ### Mailbox words, the block handshake and the general area -/

theorem takeWord {tag} (h : s.InForm k) : (s.takeWord tag).InForm k := modPage h
theorem execWPing {t tag} (h : s.InForm k) : Out.InForm (execWPing t tag s) k := by
  unfold Machine.execWPing
  dsimp only
  split
  · exact Out.InForm.ite (notice (takeWord (tick h))) (tick h)
  · exact tick h
theorem cancelEffect {code} (h : s.InForm k) : (s.cancelEffect code).InForm k := ite h h
theorem execWCancel {t tag} (h : s.InForm k) : Out.InForm (execWCancel t tag s) k := by
  unfold Machine.execWCancel
  dsimp only
  split
  · exact Out.InForm.ite (tick h)
      (Out.InForm.ite (writeReply (takeWord (tick h)))
        (Out.InForm.ite (Out.InForm.ite (take (complete (cancelEffect (takeWord (tick h))))) (takeWord (tick h)))
          (rest (takeWord (tick h)))))
  · exact tick h
theorem execBadWord {t tag} (h : s.InForm k) : Out.InForm (execBadWord t tag s) k := by
  unfold Machine.execBadWord
  dsimp only
  split
  · exact Out.InForm.ite (tick h) (count (takeWord (tick h)))
  · exact tick h
theorem genIdentifyWork {tag io a} (h : s.InForm k) : (genIdentifyWork tag io a s).InForm k := Answer.InForm.ok h
theorem genVersionWork {tag io a} (h : s.InForm k) : (genVersionWork tag io a s).InForm k := Answer.InForm.ok h
theorem genPingWork {tag io a} (h : s.InForm k) : (genPingWork tag io a s).InForm k := Answer.InForm.ok h
theorem genParamGetWork {tag io a} (h : s.InForm k) : (genParamGetWork tag io a s).InForm k := by
  unfold Machine.genParamGetWork
  dsimp only
  split
  · exact Answer.InForm.status h
  · exact Answer.InForm.ok h
theorem liveSet {id} (h : s.InForm k) : (s.liveSet id).InForm k := ite (select h) (ite (armPps h) h)
theorem genParamSetWork {tag io a} (h : s.InForm k) : (genParamSetWork tag io a s).InForm k := by
  unfold Machine.genParamSetWork
  dsimp only
  split
  · exact Answer.InForm.status h
  · exact Answer.InForm.ite (Answer.InForm.status h)
      (Answer.InForm.ite (stage h) (Answer.InForm.ite (Answer.InForm.status h) (Answer.InForm.ok (liveSet (modCfg h)))))
theorem genParamInfoWork {tag io a} (h : s.InForm k) : (genParamInfoWork tag io a s).InForm k := by
  unfold Machine.genParamInfoWork
  split
  · exact Answer.InForm.status h
  · exact Answer.InForm.ok h
theorem genParamNextWork {tag io a} (h : s.InForm k) : (genParamNextWork tag io a s).InForm k := Answer.InForm.ok h
theorem genGpioSetWork {tag io a} (h : s.InForm k) : (genGpioSetWork tag io a s).InForm k := Answer.InForm.ok h
theorem genGpioGetWork {tag io a} (h : s.InForm k) : (genGpioGetWork tag io a s).InForm k := Answer.InForm.ok h

/-! ### Objects, handles and generations -/

theorem setObj {n o} (h : s.InForm k) : (s.setObj n o).InForm k := capForm h (twf_tset _ _ _)
theorem mint {o n s'} (h : s.InForm k) (e : s.mint o = some (n, s')) : s'.InForm k := by
  unfold State.mint at e
  dsimp only at e
  split at e
  · cases e
  · split at e
    · cases e
    · cases e
      exact setObj (capForm h (twf_map fun _ => rfl))
theorem mintRoot {tag level type rights what base len label n s'} (h : s.InForm k)
    (e : s.mintRoot tag level type rights what base len label = some (n, s')) : s'.InForm k := mint h e
theorem bumpAll {hit free} (h : s.InForm k) : (s.bumpAll hit free).InForm k := ite h (capForm h (twf_map fun _ => rfl))
theorem releaseTree {n} (h : s.InForm k) : (s.releaseTree n).InForm k := bumpAll h
theorem revokeTree {n} (h : s.InForm k) : (s.revokeTree n).InForm k := bumpAll h
theorem logRefusal {mpu region a} (h : s.InForm k) : (s.logRefusal mpu region a).InForm k := raise h
theorem mpuCheck {mpu a} (h : s.InForm k) : (s.mpuCheck mpu a).2.InForm k := ite_snd h (logRefusal (ite h h))
theorem mpuCheckAt {a} (h : s.InForm k) : (s.mpuCheckAt a).2.InForm k := by
  unfold State.mpuCheckAt
  split
  · exact mpuCheck h
  · exact logRefusal h
theorem mpuRun {mpu n a len} (h : s.InForm k) : (State.mpuRun mpu n a len s).2.InForm k := by
  induction n generalizing s a len with
  | zero => exact h
  | succ n ih =>
    unfold State.mpuRun
    refine ite_snd h ?_
    dsimp only
    split
    · next e => exact ih (of_snd e (mpuCheck h))
    · next e => exact of_snd e (mpuCheck h)
theorem hostRead_error {tag iova len source walk st s'} (h : s.InForm k)
    (e : s.hostRead tag iova len source walk = .error (st, s')) :
    s'.InForm k := by
  unfold State.hostRead at e
  dsimp only at e
  split at e
  · cases e
    exact xlateFault h
  · split at e <;> cases e
    exact mpuRun h
theorem hostRead_ok {tag iova len source walk s'} (h : s.InForm k) (e : s.hostRead tag iova len source walk = .ok s') :
    s'.InForm k := by
  unfold State.hostRead at e
  dsimp only at e
  split at e
  · cases e
  · split at e <;> cases e
    exact tlbTouch (mpuRun h)
theorem hostWrite {tag iova bytes walk} (h : s.InForm k) : (s.hostWrite tag iova bytes walk).2.InForm k := by
  unfold State.hostWrite
  dsimp only
  split
  · exact xlateFault h
  · exact ite (dmaOut (mpuRun h)) (mpuRun h)
theorem store {a bs} (h : s.InForm k) : (s.store a bs).InForm k := ite h (memForm h (Memory.wf_writeBytes a bs))
theorem storeCap {a r} (h : s.InForm k) : (s.storeCap a r).InForm k := ite (memRest (store h) rfl) (store h)

/-! ### Queue pairs and the enabling of instances -/

theorem qpFail {tag q} (h : s.InForm k) : (s.qpFail tag q).InForm k := modInst (modQp h)
theorem cqSignal {tag q} (h : s.InForm k) : (s.cqSignal tag q).InForm k := signal (modQp h)
theorem cqCoalesce {tag q atOnce} (h : s.InForm k) : (s.cqCoalesce tag q atOnce).InForm k :=
  ite (cqSignal (modQp h)) (modQp h)
theorem cqWrite {tag q cid status type sqHead body fault atOnce} (h : s.InForm k) :
    (s.cqWrite tag q cid status type sqHead body fault atOnce).2.InForm k := by
  unfold State.cqWrite
  dsimp only
  split
  · exact qpFail (modQp h)
  · split
    · exact qpFail (modQp (xlateFault h))
    · exact cqCoalesce (modQp (dmaPhaseLast h))
theorem cqComplete {tag q cid noCqe sqHead status body fault} (h : s.InForm k) :
    (s.cqComplete tag q cid noCqe sqHead status body fault).InForm k := by
  unfold State.cqComplete
  dsimp only
  split
  · exact h
  · split
    · exact modQp h
    · exact modQp (modQp h)
    · exact ite (modQp h) (cqWrite (modQp h))
theorem ringOffer {tag record fault} (h : s.InForm k) : (s.ringOffer tag record fault).2.InForm k := by
  unfold State.ringOffer
  dsimp only
  split
  · exact count h
  · split
    · next e0 =>
        exact of_snd e0 (cqWrite h)
    · next e0 =>
        exact count (of_snd e0 (cqWrite h))
theorem opDone {tag q o status body io} (h : s.InForm k) : (s.opDone tag q o status body io).InForm k := cqComplete h
theorem enable {tag pasid notify} (h : s.InForm k) : (s.enable tag pasid notify).InForm k :=
  ite (notice (ite h (modFunc h))) (ite h (modFunc h))
theorem tlbDrop {tag first count} (h : s.InForm k) : (s.tlbDrop tag first count).InForm k := h

/-! ### Buffer units, queues and admission -/

theorem modPort {n f} (h : s.InForm k) : (s.modPort n f).InForm k := h
theorem modNet {f} (h : s.InForm k) : (s.modNet f).InForm k := h
theorem txFail {w cq} (h : s.InForm k) : (s.txFail w cq).InForm k := by
  unfold State.txFail
  dsimp only
  split
  · split
    · exact cqComplete (modNet (free (free h)))
    · exact h
  · exact h
theorem admitCopy {port queue colour cls origin bytes convoy extra for_ oneStep} (h : s.InForm k) :
    (s.admitCopy port queue colour cls origin bytes convoy extra for_ oneStep).2.InForm k :=
  ite_snd (ite (count (count h)) (modNet (count (count h))))
    (ite_snd (modPort (count (count h))) (txFail (count (count (count h)))))
theorem sendMade {port origin bytes for_ oneStep} (h : s.InForm k) : (s.sendMade port origin bytes for_ oneStep).InForm k :=
  admitCopy h
theorem pfDeliver {port cls malformed rule frame io} (h : s.InForm k) : (s.pfDeliver port cls malformed rule frame io).InForm
    k := by
  unfold State.pfDeliver
  dsimp only
  split
  · exact count h
  · exact cqComplete (hostWrite (modNet h))
theorem sendPtp {port transport event msg for_ oneStep} (h : s.InForm k) :
    (s.sendPtp port transport event msg for_ oneStep).InForm k := by
  unfold State.sendPtp
  split
  · exact sendMade h
  · exact h

/-! ### The capability area -/

theorem capInfoWork {tag io a} (h : s.InForm k) : (capInfoWork tag io a s).InForm k := by
  unfold Machine.capInfoWork
  dsimp only
  split
  · exact Answer.InForm.status h
  · exact Answer.InForm.ok h
theorem child {parent owner level rights off len n s'} (h : s.InForm k)
    (e : s.child parent owner level rights off len = .ok (n, s')) : s'.InForm k := by
  unfold State.child at e
  dsimp only at e
  repeat' split at e
  all_goals cases e
  next e => exact mint h e
theorem capDeriveWork {tag io a} (h : s.InForm k) : (capDeriveWork tag io a s).InForm k := by
  unfold Machine.capDeriveWork
  dsimp only
  split
  · exact Answer.InForm.status h
  · split
    · exact Answer.InForm.status h
    · split
      · exact Answer.InForm.status h
      · next e1 =>
          exact Answer.InForm.ok (child h e1)
theorem capGrantWork {tag io a} (h : s.InForm k) : (capGrantWork tag io a s).InForm k := by
  unfold Machine.capGrantWork
  dsimp only
  split
  · exact Answer.InForm.status h
  · split
    · exact Answer.InForm.status h
    · split
      · exact Answer.InForm.status h
      · split
        · exact Answer.InForm.status h
        · next e1 =>
            exact Answer.InForm.ok (child h e1)
theorem capRevokeWork {tag io a} (h : s.InForm k) : (capRevokeWork tag io a s).InForm k := by
  unfold Machine.capRevokeWork
  dsimp only
  split
  · exact Answer.InForm.status h
  · split
    · exact revokeTree h
    · split
      · exact revokeTree h
      · next e1 =>
          split
          · exact rest (mint (revokeTree h) e1)
          · exact mint (revokeTree h) e1
theorem capReleaseWork {tag io a} (h : s.InForm k) : (capReleaseWork tag io a s).InForm k := by
  unfold Machine.capReleaseWork
  split
  · exact Answer.InForm.status h
  · exact releaseTree h
theorem ackHeld (h : s.InForm k) : s.ackHeld.InForm k := by
  unfold State.ackHeld
  dsimp only
  split
  · exact h
  · split
    · split
      · exact take (complete h)
      · exact h
    · exact h
theorem execGenerationBroadcastAck {t unit} (h : s.InForm k) : Out.InForm (execGenerationBroadcastAck t unit s) k :=
  have ht := tick h (t := t)
  ackHeld (capForm ht id)
theorem capListWork {tag io a} (h : s.InForm k) : (capListWork tag io a s).InForm k := by
  unfold Machine.capListWork
  dsimp only
  split
  · exact Answer.InForm.status h
  · split
    · next e0 =>
        exact Answer.InForm.ok (of_snd e0 (hostWrite h))
    · next e0 =>
        exact Answer.InForm.status (of_snd e0 (hostWrite h))
theorem capGateOpenWork {tag io a} (h : s.InForm k) : (capGateOpenWork tag io a s).InForm k := by
  unfold Machine.capGateOpenWork
  split
  · exact Answer.InForm.status h
  · split
    · exact Answer.InForm.status h
    · split
      · exact Answer.InForm.status h
      · next e1 =>
          exact Answer.InForm.ok (mintRoot h e1)
theorem capGateInfoWork {tag io a} (h : s.InForm k) : (capGateInfoWork tag io a s).InForm k := by
  unfold Machine.capGateInfoWork
  dsimp only
  split
  · exact Answer.InForm.status h
  · exact Answer.InForm.ok h
theorem capFaultGetWork {tag io a} (h : s.InForm k) : (capFaultGetWork tag io a s).InForm k := by
  unfold Machine.capFaultGetWork
  split
  · exact Answer.InForm.status h
  · exact Answer.InForm.ok h
theorem execObjectTableEcc {t obj} (h : s.InForm k) : Out.InForm (execObjectTableEcc t obj s) k :=
  have ht := tick h (t := t)
  Out.InForm.ite ht (raiseDev (setObj (capForm ht id)))

/-! ### Cells, contexts, scores, slots, leases and castes -/

theorem modSeaForm {f} (h : s.InForm k) (cells : ∀ {x : Sea}, twf x.cells = true → twf (f x).cells = true)
    (jobs : ∀ {x : Sea}, twf x.jobs = true → twf (f x).jobs = true) : (s.modSea f).InForm k :=
  seaForm h cells jobs

/-- A change of the cell sea that leaves its cells and its jobs alone. -/
theorem modSea {slots : Sea → Tbl Slot} {targets peaks drainCells drainClusters l2Check deadDies : Sea → List Nat}
    {latency : Sea → Tbl Nat} {waiting : Sea → List Waiting} {placeClock nextJob suspended : Sea → Nat} {leases : Sea → Tbl Lease}
    {shortRaised : Sea → List Caste} {pairs : Sea → Tbl Pair} (h : s.InForm k) :
    (s.modSea fun a => ⟨a.cells, slots a, targets a, peaks a, latency a, drainCells a, drainClusters a, waiting a, placeClock a,
      leases a, a.jobs, nextJob a, shortRaised a, suspended a, pairs a, l2Check a, deadDies a⟩).InForm k := h

theorem modCell {n f} (h : s.InForm k) : (s.modCell n f).InForm k := modSeaForm h (twf_tset _ _ _) id
theorem setCell {n st} (h : s.InForm k) : (s.setCell n st).InForm k := modCell h
theorem giveWork {n w} (h : s.InForm k) : (s.giveWork n w).InForm k := count (modSea (modCell h))
theorem dropWork {w} (h : s.InForm k) : (s.dropWork w).InForm k := modSeaForm h (twf_map fun _ => rfl) id
theorem dropWorkOn {n w} (h : s.InForm k) : (s.dropWorkOn n w).InForm k := modCell h
theorem await {work caste} (h : s.InForm k) : (s.await work caste).InForm k := modSea h
theorem unwait {w} (h : s.InForm k) : (s.unwait w).InForm k := modSea h
theorem setSlot {n x} (h : s.InForm k) : (s.setSlot n x).InForm k := modSea h
theorem grantSlot {n charged} (h : s.InForm k) : (s.grantSlot n charged).InForm k := count (setSlot h)
theorem releaseSlot {n} (h : s.InForm k) : (s.releaseSlot n).InForm k := ite h (count (modSea h))
theorem drainSlot {n} (h : s.InForm k) : (s.drainSlot n).InForm k := ite (setSlot h) h
theorem lease {n holder us slot} (h : s.InForm k) : (s.lease n holder us slot).InForm k := modSea h
theorem renew {slot} (h : s.InForm k) : (s.renew slot).InForm k := by
  unfold State.renew
  dsimp only
  split
  · exact ite (modSea h) h
  · exact h
theorem intent {slot st} (h : s.InForm k) : (s.intent slot st).InForm k := modSea h
theorem dropLease {n} (h : s.InForm k) : (s.dropLease n).InForm k := modSea h
theorem moveTo {n c} (h : s.InForm k) : (s.moveTo n c).InForm k := modCell (setCell h)
theorem fill {c need} (h : s.InForm k) : (s.fill c need).2.InForm k :=
  ite_snd h (ite_snd (foldl (foldl h moveTo) (fun h => moveTo (moveTo h))) (foldl h moveTo))
theorem refillOne {c} (h : s.InForm k) : (s.refillOne c).InForm k :=
  ite h (ite (modSea (fill h)) (ite (fill h) (raiseDev (modSea (fill h)))))
theorem refillShort (h : s.InForm k) : s.refillShort.InForm k := foldl (foldl h moveTo) refillOne
theorem assignBus {b} (h : s.InForm k) : (s.assignBus b).InForm k := by
  unfold State.assignBus
  dsimp only
  split
  · exact h
  · exact h
theorem assignBuses (h : s.InForm k) : s.assignBuses.InForm k :=
  ite (rest (foldl h assignBus)) (ite (foldl h assignBus) (raiseDev (rest (foldl h assignBus))))
theorem auditRequest {die} (h : s.InForm k) : (s.auditRequest die).InForm k := ite h h
theorem measure {island} (h : s.InForm k) : (s.measure island).InForm k := modSea (free h)

/-! ### Sessions -/

theorem modFareForm {f} (h : s.InForm k) (hub : ∀ {x : Fare}, twf x.hub = true → twf (f x).hub = true) :
    (s.modFare f).InForm k := fareForm h hub

/-- A change of the fare part that leaves the hub journal buffer alone. -/
theorem modFare {sessions : Fare → Tbl Session} {records : Fare → Tbl JRec} {nextRec append : Fare → Nat}
    {chains : Fare → Tbl Chain} {shadows : Fare → Tbl Shadow8} {used : Fare → Tbl (List UsedTicket)} (h : s.InForm k) :
    (s.modFare fun a => ⟨sessions a, records a, nextRec a, a.hub, append a, chains a, shadows a, used a⟩).InForm k := h

theorem modSes {lane f} (h : s.InForm k) : (s.modSes lane f).InForm k := modFare h
theorem modSeg {n f} (h : s.InForm k) : (s.modSeg n f).InForm k := h
theorem modUnit {lane f} (h : s.InForm k) : (s.modUnit lane f).InForm k := h
theorem prune (h : s.InForm k) : s.prune.InForm k := h
theorem closeSes {lane} (h : s.InForm k) : (s.closeSes lane).InForm k := by
  unfold State.closeSes
  split
  · exact ite (prune (modFare h)) h
  · exact h
theorem admitTap {lane} (h : s.InForm k) : (s.admitTap lane).InForm k := await (modSeg (modSes h))
theorem admitNext {seg} (h : s.InForm k) : (s.admitNext seg).InForm k := by
  unfold State.admitNext
  split
  · exact ite (admitTap (modSeg h)) h
  · exact h
theorem leaveSeg {lane} (h : s.InForm k) : (s.leaveSeg lane).InForm k := ite (admitNext (modSeg h)) (modSeg h)
theorem countOutcome {lane o} (h : s.InForm k) : (s.countOutcome lane o).InForm k := modSes (count h)
theorem stampDecision {lane} (h : s.InForm k) : (s.stampDecision lane).InForm k := modSes h
theorem queueDecision {lane type} (h : s.InForm k) : (s.queueDecision lane type).InForm k := by
  unfold State.queueDecision
  split
  · exact modSeg h
  · exact h
theorem leaveCell {lane x record} (h : s.InForm k) : (s.leaveCell lane x record).InForm k := by
  unfold State.leaveCell
  dsimp only
  split
  · exact ite (drainSlot (dropLease (unwait (dropWork h)))) (releaseSlot (dropLease (unwait (dropWork h))))
  · exact unwait (dropWork h)
theorem conclude {lane o reason prompt frame} (h : s.InForm k) : (s.conclude lane o reason prompt frame).InForm k := by
  unfold State.conclude
  dsimp only
  split
  · exact h
  · split
    · exact await (modSes (leaveCell h))
    · exact ite (leaveSeg (queueDecision (countOutcome (await (modSes (leaveCell h))))))
        (leaveSeg (stampDecision (countOutcome (await (modSes (leaveCell h))))))
    · exact ite (queueDecision (await (modSes (leaveCell h))))
        (leaveSeg (stampDecision (countOutcome (await (modSes (leaveCell h))))))
theorem abortSes {lane reason} (h : s.InForm k) : (s.abortSes lane reason).InForm k := by
  unfold State.abortSes
  dsimp only
  split
  · exact h
  · exact ite h (ite (conclude (modSes h)) (conclude (modSes h)))
theorem denySes {lane reason prompt} (h : s.InForm k) : (s.denySes lane reason prompt).InForm k := conclude (modSes h)
theorem markAbort {lane reason} (h : s.InForm k) : (s.markAbort lane reason).InForm k := by
  unfold State.markAbort
  split
  · exact h
  · exact ite h (ite (modSes h) (abortSes h))
theorem evaluate {lane} (h : s.InForm k) : (s.evaluate lane).InForm k := by
  unfold State.evaluate
  dsimp only
  split
  · exact h
  · exact ite (denySes (modSes h)) (ite (conclude (modSes (modSes h))) (modSes (modSes h)))
theorem afterDeny {lane} (h : s.InForm k) : (s.afterDeny lane).InForm k := by
  unfold State.afterDeny
  dsimp only
  split
  · exact h
  · exact ite (denySes h) (evaluate h)
theorem denyTest {lane} (h : s.InForm k) : (s.denyTest lane).InForm k := by
  unfold State.denyTest
  split
  · exact h
  · exact ite (modSes h) (afterDeny h)
theorem denySearch {lane} (h : s.InForm k) : (s.denySearch lane).InForm k := by
  unfold State.denySearch
  dsimp only
  split
  · exact h
  · split
    · exact ite (denySes (modSes h)) (afterDeny h)
    · exact afterDeny (count h)
theorem bindSes {lane tenant profile} (h : s.InForm k) : (s.bindSes lane tenant profile).InForm k := by
  unfold State.bindSes
  dsimp only
  split
  · exact h
  · split
    · exact modCell (by
      split
      · exact setSlot (modSes h)
      · exact modSes h)
    · split
      · exact setSlot (modSes h)
      · exact modSes h
theorem ticketCheck {lane} (h : s.InForm k) : (s.ticketCheck lane).InForm k := by
  unfold State.ticketCheck
  dsimp only
  split
  · exact h
  · split
    · exact denySes (modSes (free h))
    · split
      · exact denySes (modSes h)
      · exact ite (denySes (modSes (bindSes (modSes h))))
          (ite (denySes (modSes (bindSes (modSes h)))) (denyTest (modSes (bindSes (modSes h)))))
theorem exchangeDone {lane kind resp} (h : s.InForm k) : (s.exchangeDone lane kind resp).InForm k := by
  unfold State.exchangeDone
  dsimp only
  split
  · exact h
  · split
    · exact ite (conclude (modSes (by
      split
      · exact intent (by
      split
      · exact renew (modSes h)
      · exact modSes h)
      · split
        · exact renew (modSes h)
        · exact modSes h))) (abortSes (by
      split
      · exact renew (modSes h)
      · exact modSes h))
    · exact abortSes (by
      split
      · exact renew (modSes h)
      · exact modSes h)
    · split
      · split
        · exact bindSes (by
      split
      · exact renew (modSes h)
      · exact modSes h)
        · split
          · exact renew (modSes h)
          · exact modSes h
      · exact ite (ite (modSes (by
      split
      · exact renew (modSes h)
      · exact modSes h)) (denySes (by
      split
      · exact renew (modSes h)
      · exact modSes h))) (abortSes (by
      split
      · exact renew (modSes h)
      · exact modSes h))
    · exact ite (ite (denyTest (modSes (by
      split
      · exact renew (modSes h)
      · exact modSes h))) (modSes (by
      split
      · exact renew (modSes h)
      · exact modSes h))) (abortSes (by
      split
      · exact renew (modSes h)
      · exact modSes h))
    · split
      · split
        · exact renew (modSes h)
        · exact modSes h
      · exact abortSes (by
      split
      · exact renew (modSes h)
      · exact modSes h)
theorem exchangeFailed {lane reason} (h : s.InForm k) : (s.exchangeFailed lane reason).InForm k := by
  unfold State.exchangeFailed
  split
  · exact h
  · exact abortSes (modSes h)

/-! ### The journal -/

theorem modJ {n f} (h : s.InForm k) : (s.modJ n f).InForm k := modFare h
theorem modCart {n f} (h : s.InForm k) : (s.modCart n f).InForm k := h
theorem cartEvent {slot code data} (h : s.InForm k) : (s.cartEvent slot code data).InForm k := by
  unfold State.cartEvent
  split
  · exact raise h
  · exact raise h
theorem hubOffer {n} (h : s.InForm k) : (s.hubOffer n).InForm k := by
  unfold State.hubOffer
  split
  · exact modJ (modFareForm h (twf_tset _ _ _))
  · exact modJ h
theorem firstAccept {n} (h : s.InForm k) : (s.firstAccept n).InForm k := by
  unfold State.firstAccept
  split
  · exact h
  · split
    · exact ite (queueDecision (modSes h)) h
    · exact h
theorem unplace {n} (h : s.InForm k) : (s.unplace n).InForm k := by
  unfold State.unplace
  split
  · exact h
  · exact ite h (raise (count (count (modJ h))))
theorem hubFree {i} (h : s.InForm k) : (s.hubFree i).InForm k := by
  have hf {n} := modFareForm (modJ (modFareForm h (f := fun a => { a with hub := terase a.hub i }) twf_terase) (n := n)
    (f := fun r => { r with index := none }))
      (f := fun a => { a with records := a.records.filter (fun p => !(p.1 == n && p.2.done)) }) id
  unfold State.hubFree
  dsimp only
  split
  · exact h
  · split
    · exact firstAccept (hubOffer hf)
    · exact hf
theorem settle {n} (h : s.InForm k) : (s.settle n).InForm k := by
  unfold State.settle
  dsimp only
  split
  · exact firstAccept h
  · exact modFare (by
      split
      · exact ite (hubFree (unplace (by
      split
      · exact firstAccept h
      · split
        · exact ite (releaseSlot (firstAccept h)) (firstAccept h)
        · exact firstAccept h))) (unplace (by
      split
      · exact firstAccept h
      · split
        · exact ite (releaseSlot (firstAccept h)) (firstAccept h)
        · exact firstAccept h))
      · exact unplace (by
      split
      · exact firstAccept h
      · split
        · exact ite (releaseSlot (firstAccept h)) (firstAccept h)
        · exact firstAccept h))
theorem cartAnswer {n ok} (h : s.InForm k) : (s.cartAnswer n ok).InForm k := by
  unfold State.cartAnswer
  dsimp only
  split
  · exact h
  · exact ite h (settle (modJ (count h)))
theorem cartOffer {n tenant} (h : s.InForm k) : (s.cartOffer n tenant).InForm k := by
  unfold State.cartOffer
  dsimp only
  split
  · exact modJ h
  · exact ite (modJ (modCart h)) (count (modJ h))
theorem decOf {x} (h : s.InForm k) : (s.decOf x).2.InForm k := ite_snd h (free h)
theorem sealRecord {lane x} (h : s.InForm k) : (s.sealRecord lane x).2.InForm k :=
  modSes (count (modFare (by
    split
    · exact decOf h
    · exact free (decOf h))))
theorem resealRefer {n} (h : s.InForm k) : (s.resealRefer n).InForm k := by
  unfold State.resealRefer
  dsimp only
  split
  · exact h
  · split
    · exact h
    · exact modFare (modJ (decOf h))
theorem useTicket {tenant u} (h : s.InForm k) : (s.useTicket tenant u).InForm k := ite (modFare h) (count (modFare h))

/-! ### A cell's accesses -/

theorem loadBytes {a n} (h : s.InForm k) : (s.loadBytes a n).2.InForm k := ite_snd (free h) h
theorem setLine {k' l} (h : s.InForm k) : (s.setLine k' l).InForm k := h
theorem setL1 {n line x} (h : s.InForm k) : (s.setL1 n line x).InForm k := modCell h
theorem fillLine {k' line} (h : s.InForm k) : (s.fillLine k' line).InForm k := ite h (setLine (loadBytes h))
theorem readLine {n line} (h : s.InForm k) : (s.readLine n line).InForm k := by
  unfold State.readLine
  dsimp only
  split
  · exact ite (setLine (fillLine h)) (setL1 (setL1 (setLine (fillLine h))))
  · exact setL1 (setLine (fillLine h))
  · exact setL1 (setLine (fillLine h))
theorem ownLine {n line} (h : s.InForm k) : (s.ownLine n line).InForm k :=
  setL1 (setLine (foldl (fillLine h) (fun h => ite h (ite (setL1 h) h))))
theorem writebackLine {n line} (h : s.InForm k) : (s.writebackLine n line).InForm k := setL1 (setLine h)
theorem homeLine {line l} (h : s.InForm k) : (s.homeLine line l).InForm k := by
  unfold State.homeLine
  split
  · exact memRest (store h) rfl
  · exact h
theorem dropCluster {island} (h : s.InForm k) : (s.dropCluster island).InForm k :=
  modSeaForm (memForm h id) (twf_map fun _ => rfl) id
theorem flushCluster {island} (h : s.InForm k) : (s.flushCluster island).InForm k := dropCluster (foldl h homeLine)
theorem drainOne {n} (h : s.InForm k) : (s.drainOne n).InForm k := by
  unfold State.drainOne
  dsimp only
  split
  · exact h
  · split
    · exact setLine (ownLine (modCell h))
    · split
      · exact storeCap (modCell h)
      · exact store (modCell h)
theorem drainAll {n} (h : s.InForm k) : (s.drainAll n).InForm k := foldl h drainOne
theorem bufferStore {n e'} (h : s.InForm k) : (s.bufferStore n e').InForm k := ite (modCell h) (modCell h)
theorem cellAccess_error {n auth off size read write cap c s'} (h : s.InForm k)
    (e : s.cellAccess n auth off size read write cap = .error (c, s')) : s'.InForm k := by
  unfold State.cellAccess at e
  extract_lets r a region found badCap acc host at e
  split at e
  · cases e; exact h
  · split at e
    · cases e; exact h
    · split at e
      · cases e; exact h
      · split at e
        · cases e; exact logRefusal h
        · split at e <;> cases e
          next e => exact of_snd e (mpuCheckAt h)
theorem cellAccess_ok {n auth off size read write cap p} (h : s.InForm k)
    (e : s.cellAccess n auth off size read write cap = .ok p) : p.2.2.InForm k := by
  unfold State.cellAccess at e
  extract_lets r a region found badCap acc host at e
  split at e
  · cases e
  · split at e
    · cases e
    · split at e
      · cases e
      · split at e
        · cases e
        · split at e <;> cases e
          next e => exact of_snd e (mpuCheckAt h)
theorem fetch {n a size cached} (h : s.InForm k) : (s.fetch n a size cached).2.2.InForm k := by
  unfold State.fetch
  split
  · exact ite h (readLine h)
  · exact loadBytes h

/-! ### Batch jobs, traps and cell faults -/

theorem modJob {n f} (h : s.InForm k) : (s.modJob n f).InForm k := modSeaForm h id twf_tupd
theorem freeObject {n} (h : s.InForm k) : (s.freeObject n).InForm k := setObj h
theorem endJob {n status body cq} (h : s.InForm k) : (s.endJob n status body cq).InForm k := by
  unfold State.endJob
  split
  · exact h
  · extract_lets s1 s2 s3 s4 s5
    have h1 : s1.InForm k := modSeaForm h (twf_map fun _ => rfl) id
    have h3 : s3.InForm k := by
      unfold s3
      split
      · exact releaseSlot (dropLease (unwait (dropWork h1)))
      · exact unwait (dropWork h1)
    have h5 : s5.InForm k := modSeaForm (foldl h3 freeObject) id twf_terase
    exact ite h5 (cqComplete h5)
theorem dropLines {n} (h : s.InForm k) : (s.dropLines n).InForm k := modCell h
theorem restoreLock {l} (h : s.InForm k) : (s.restoreLock l).InForm k := by
  unfold State.restoreLock
  split
  · exact store h
  · exact store h
  · exact h
theorem endL2 {island} (h : s.InForm k) : (s.endL2 island).InForm k := foldl (modSea h) (fun h => ite (setCell h) h)
theorem endWork {status cq w} (h : s.InForm k) : (s.endWork status cq w).InForm k := by
  unfold State.endWork
  dsimp only
  split
  · exact abortSes h
  · exact endJob h
  · exact ite (endL2 h) (ite (setCell h) h)
  · exact h
theorem dropLoan {n} (h : s.InForm k) : (s.dropLoan n).InForm k := by
  unfold State.dropLoan
  dsimp only
  split
  · exact dropWorkOn h
  · exact h
theorem audioLost {n} (h : s.InForm k) : (s.audioLost n).InForm k := ite (modSea h) h
theorem cellFault {n status cq} (h : s.InForm k) : (s.cellFault n status cq).InForm k :=
  ite h
    (refillOne
       (ite
          (auditRequest
             (foldl
                (foldl (dropLines (dropLoan (modCell (setCell (audioLost h))))) (fun h => dropLease (ite (restoreLock h) h)))
                endWork))
          (foldl
             (foldl (dropLines (dropLoan (modCell (setCell (audioLost h))))) (fun h => dropLease (ite (restoreLock h) h)))
             endWork)))
theorem quarantine {n} (h : s.InForm k) : (s.quarantine n).InForm k := refillOne (raiseDev (modCell (setCell h)))
theorem faultRecord {n cause i} (h : s.InForm k) : (s.faultRecord n cause i).InForm k := raise h
theorem trap {n cause i cq} (h : s.InForm k) : (s.trap n cause i cq).InForm k := by
  unfold State.trap
  dsimp only
  split
  · exact cellFault (raiseDev (faultRecord (count (drainAll h))))
  · split
    · exact endJob (modCell (faultRecord (count (drainAll h))))
    · exact endWork (dropWorkOn (modCell (faultRecord (count (drainAll h)))))
    · exact modCell (faultRecord (count (drainAll h)))
theorem window {tag level iova len write} (h : s.InForm k) : (s.window tag level iova len write).2.InForm k := by
  unfold State.window
  split
  · exact h
  · split
    · next e0 =>
        exact mint h e0
    · exact h
theorem hubEntry {cell n j g} (h : s.InForm k) : (s.hubEntry cell n j g).InForm k := modCell (modJob (window (window h)))
theorem placePiece {cell n} (h : s.InForm k) : (s.placePiece cell n).InForm k := by
  unfold State.placePiece
  dsimp only
  split
  · exact h
  · split
    · exact ite (modCell (by
      split
      · exact ite (renew (modJob (giveWork h))) (lease (modJob (giveWork h)))
      · exact modJob (giveWork h))) (ite (hubEntry (by
      split
      · exact ite (renew (modJob (giveWork h))) (lease (modJob (giveWork h)))
      · exact modJob (giveWork h))) (trap (hubEntry (by
      split
      · exact ite (renew (modJob (giveWork h))) (lease (modJob (giveWork h)))
      · exact modJob (giveWork h)))))
    · split
      · exact ite (renew (modJob (giveWork h))) (lease (modJob (giveWork h)))
      · exact modJob (giveWork h)
theorem takeSurplus {c t n} (h : s.InForm k) : (s.takeSurplus c t n).InForm k := by
  induction n generalizing s with
  | zero => exact h
  | succ n ih =>
    unfold State.takeSurplus
    dsimp only
    split
    · exact ih (moveTo h)
    · exact h
theorem pairLeaves {k'} (h : s.InForm k) : (s.pairLeaves k').InForm k := ite h (assignBuses (moveTo (moveTo h)))
theorem setTargets (h : s.InForm k) : s.setTargets.InForm k :=
  foldl (foldl (foldl (modSea h) (fun h => ite (fill h) (takeSurplus (fill h)))) (fun h => foldl h moveTo)) pairLeaves

/-! ### Clock islands and die links -/

theorem modIsland {n f} (h : s.InForm k) : (s.modIsland n f).InForm k := h
theorem modLink {die f} (h : s.InForm k) : (s.modLink die f).InForm k := h
theorem loseCredits {island} (h : s.InForm k) : (s.loseCredits island).InForm k := modLink h
theorem ackFor {unit} (h : s.InForm k) : (s.ackFor unit).InForm k := ackHeld h
theorem resetIsland {n} (h : s.InForm k) : (s.resetIsland n).InForm k := by
  unfold State.resetIsland
  refine ackFor (auditRequest
    (loseCredits (modSea (modIsland (dropCluster (free (foldl (rest (ite (endL2 ?_) h)) cellFault)))))))
  split
  · exact dropWorkOn h
  · exact h
theorem clusterEvent {n cause} (h : s.InForm k) : (s.clusterEvent n cause).InForm k := raiseDev h
theorem quarantineAll {cells} (h : s.InForm k) : (s.quarantineAll cells).InForm k :=
  foldl h (fun h => ite h (quarantine (cellFault h)))
theorem linkFail {die} (h : s.InForm k) : (s.linkFail die).InForm k := ite h (quarantineAll (modSea (raiseDev (modLink h))))
theorem judgeLanes {die} (h : s.InForm k) : (s.judgeLanes die).InForm k :=
  ite (linkFail h) (ite (raiseDev (modLink h)) (modLink h))
theorem endLinkFreeze {die} (h : s.InForm k) : (s.endLinkFreeze die).InForm k := ite (raiseDev (modLink h)) h
theorem retrain {die} (h : s.InForm k) : (s.retrain die).InForm k := endLinkFreeze (modLink h)

/-! ### Tickets' ends and the results of tests -/

theorem ticketDone {k' status ws} (h : s.InForm k) : (s.ticketDone k' status ws).InForm k := by
  unfold State.ticketDone
  dsimp only
  split
  · exact h
  · exact ite (notice (raise h)) (raise h)
theorem modTest {f} (h : s.InForm k) : (s.modTest f).InForm k := h
theorem recordTest {cls num r detail} (h : s.InForm k) : (s.recordTest cls num r detail).InForm k := modTest h
theorem testFailed {cls num severity} (h : s.InForm k) : (s.testFailed cls num severity).InForm k := raiseDev h
theorem testFailedFree {cls num} (h : s.InForm k) : (s.testFailedFree cls num).InForm k := testFailed (free h)
theorem markReq {k'} (h : s.InForm k) : (s.markReq k').InForm k := by
  unfold State.markReq
  dsimp only
  split
  · exact h
  · exact ite h (ite (modTest (modSea h)) (ite (modTest (modSea h)) h))
theorem markNext (h : s.InForm k) : s.markNext.InForm k := foldl h markReq
theorem unmark {cls num} (h : s.InForm k) : (s.unmark cls num).InForm k := by
  unfold State.unmark
  split
  · exact modSea h
  · exact modSea h
  · exact h
theorem endReq {cls num status r} (h : s.InForm k) : (s.endReq cls num status r).InForm k := by
  unfold State.endReq
  dsimp only
  split
  · exact h
  · exact markNext (by
      split
      · exact ticketDone (unmark (modTest h))
      · exact unmark (modTest h))
theorem testResult {cls num r detail} (h : s.InForm k) : (s.testResult cls num r detail).InForm k := endReq (recordTest h)
theorem echoClose {lane bad} (h : s.InForm k) : (s.echoClose lane bad).InForm k :=
  ite h
    (ite
       (ite (testResult (modTest (ite (modTest (modUnit h)) (modUnit h))))
          (testFailedFree (testResult (modTest (ite (modTest (modUnit h)) (modUnit h))))))
       (modTest (ite (modTest (modUnit h)) (modUnit h))))
theorem echoCut {g} (h : s.InForm k) : (s.echoCut g).InForm k := modTest (foldl h modUnit)
theorem startCellTest {n sentinel} (h : s.InForm k) : (s.startCellTest n sentinel).InForm k :=
  modTest (modTest (modCell (setCell (giveWork h))))

/-! ### The audio engine -/

theorem modAud {f} (h : s.InForm k) : (s.modAud f).InForm k := h
theorem modRx {n f} (h : s.InForm k) : (s.modRx n f).InForm k := modAud h
theorem rxRestart {n} (h : s.InForm k) : (s.rxRestart n).InForm k := modRx (count h)
theorem rxDiscard {n from_ k'} (h : s.InForm k) : (s.rxDiscard n from_ k').InForm k := modRx (count h)
theorem rxStep {k' n c} (h : s.InForm k) : (s.rxStep k' n c).InForm k :=
  ite h (ite (rxRestart h) (ite (modRx (rxDiscard h)) (modRx h)))
theorem applyStep (h : s.InForm k) : s.applyStep.InForm k := ite h (foldl (modAud h) rxStep)
theorem rxLost {n p} (h : s.InForm k) : (s.rxLost n p).InForm k := modRx (count h)
theorem rxSync {n c} (h : s.InForm k) : (s.rxSync n c).InForm k := rxLost (modRx (count (count (rxDiscard h))))
theorem rxAdaptive {n c} (h : s.InForm k) : (s.rxAdaptive n c).InForm k := by
  unfold State.rxAdaptive
  dsimp only
  split
  · exact modRx (count h)
  · exact rxLost (modRx (count (count h)))
theorem rxBlock {n c} (h : s.InForm k) : (s.rxBlock n c).InForm k :=
  ite (ite (rxRestart h) h) (ite (rxAdaptive (ite (rxRestart h) h)) (rxSync (ite (rxRestart h) h)))
theorem modPrompt {k' f} (h : s.InForm k) : (s.modPrompt k' f).InForm k := modAud h
theorem addPrompt {p} (h : s.InForm k) : (s.addPrompt p).InForm k := ite h (modAud h)
theorem schedulePrompt {lane tenant prompt ver} (h : s.InForm k) : (s.schedulePrompt lane tenant prompt ver).InForm k := by
  unfold State.schedulePrompt
  dsimp only
  split
  · exact h
  · split
    · exact count h
    · exact ite (count h) (addPrompt h)
theorem startPrompt {k'} (h : s.InForm k) : (s.startPrompt k').InForm k := by
  unfold State.startPrompt
  dsimp only
  split
  · exact h
  · exact ite h (modPrompt (count h))
theorem concealBus {src} (h : s.InForm k) : (s.concealBus src).InForm k := foldl h (fun h => ite (count h) h)
theorem mix {tdmIn} (h : s.InForm k) : (s.mix tdmIn).InForm k := foldl h (fun h => modAud (count (ite h (concealBus h))))
theorem meter {tdmIn} (h : s.InForm k) : (s.meter tdmIn).InForm k := modAud h
theorem tdmOut (h : s.InForm k) : s.tdmOut.InForm k := foldl h (fun h => ite h (emitOut h))
theorem convoy {c data} (h : s.InForm k) : (s.convoy c data).InForm k :=
  foldl h (fun h => by
    split
    · exact admitCopy h
    · exact h)
theorem txBlock {n c} (h : s.InForm k) : (s.txBlock n c).InForm k := ite h (ite (modAud h) (convoy (modAud h)))
theorem endPrompts (h : s.InForm k) : s.endPrompts.InForm k := modAud h
theorem audioBlock {tdmIn} (h : s.InForm k) : (s.audioBlock tdmIn).InForm k :=
  endPrompts
    (modAud
       (foldl (tdmOut (mix (meter (foldl (foldl (ite (assignBuses (applyStep h)) (applyStep h)) rxBlock) startPrompt))))
          txBlock))
theorem fadeRemoved {old new bus} (h : s.InForm k) : (s.fadeRemoved old new bus).InForm k := ite h (modAud h)
theorem audioFlush (h : s.InForm k) : s.audioFlush.InForm k :=
  ite h (prune (ite (modAud (modAud (foldl (foldl h fadeRemoved) modRx))) (modAud (foldl (foldl h fadeRemoved) modRx))))

/-! ### The audio commands -/

theorem legHeard {n l ssrc} (h : s.InForm k) : (s.legHeard n l ssrc).InForm k := ite (raiseDev (modRx h)) (modRx h)
theorem rtpTake {n l c seq stamp rows} (h : s.InForm k) : (s.rtpTake n l c seq stamp rows).InForm k := by
  unfold State.rtpTake
  dsimp only
  split
  · split
    · exact h
    · exact modRx h
  · split
    · exact count (by
      split
      · exact h
      · exact modRx h)
    · split
      · exact count (by
      split
      · exact h
      · exact modRx h)
      · split
        · exact ite (count (by
      split
      · exact h
      · exact modRx h)) (ite (count (modRx (by
      split
      · exact h
      · exact modRx h))) (count (count (modRx (by
      split
      · exact h
      · exact modRx h)))))
        · exact count (modRx (by
      split
      · exact h
      · exact modRx h))
theorem execRtpPacket {t stream leg p} (h : s.InForm k) : Out.InForm (execRtpPacket t stream leg p s) k := by
  unfold Machine.execRtpPacket
  dsimp only
  split
  · exact tick h
  · split
    · exact tick h
    · split
      · exact count (tick h)
      · exact Out.InForm.ite (count (tick h)) (Out.InForm.ite (count (tick h)) (rtpTake (legHeard (tick h))))
theorem execAdaptiveMeasure {t stream} (h : s.InForm k) : Out.InForm (execAdaptiveMeasure t stream s) k := by
  unfold Machine.execAdaptiveMeasure
  dsimp only
  split
  · exact Out.InForm.ite (tick h)
      (Out.InForm.ite (modRx (count (rxDiscard (modRx (tick h)))))
        (Out.InForm.ite (modRx (count (modRx (tick h)))) (modRx (tick h))))
  · exact tick h
theorem execPromptStart {t key} (h : s.InForm k) : Out.InForm (execPromptStart t key s) k := by
  unfold Machine.execPromptStart
  split
  · exact Out.InForm.ite (tick h) (startPrompt (tick h))
  · exact tick h
theorem execEmergencyPromptLoop {t} (h : s.InForm k) : Out.InForm (execEmergencyPromptLoop t s) k := by
  unfold Machine.execEmergencyPromptLoop
  dsimp only
  split
  · exact tick h
  · exact Out.InForm.ite (tick h) (modAud (foldl (tick h) addPrompt))
theorem audRxSetWork {tag io a} (h : s.InForm k) : (audRxSetWork tag io a s).InForm k :=
  Answer.InForm.ite (Answer.InForm.status h)
    (Answer.InForm.ite (Answer.InForm.status h) (Answer.InForm.ite (Answer.InForm.status h) (stage h)))
theorem audTxSetWork {tag io a} (h : s.InForm k) : (audTxSetWork tag io a s).InForm k :=
  Answer.InForm.ite (Answer.InForm.status h)
    (Answer.InForm.ite (Answer.InForm.status h) (Answer.InForm.ite (Answer.InForm.status h) (stage h)))
theorem audBusSetWork {tag io a} (h : s.InForm k) : (audBusSetWork tag io a s).InForm k :=
  Answer.InForm.ite (Answer.InForm.status h)
    (Answer.InForm.ite (Answer.InForm.status h) (Answer.InForm.ite (Answer.InForm.status h) (stage h)))
theorem audTdmSetWork {tag io a} (h : s.InForm k) : (audTdmSetWork tag io a s).InForm k := stage h
theorem stageClips {tag code b} (h : s.InForm k) : (s.stageClips tag code b).InForm k :=
  Answer.InForm.ite (Answer.InForm.status h) (stage h)
theorem promptLoad {tag a io} (h : s.InForm k) : (s.promptLoad tag a io).InForm k := by
  unfold State.promptLoad
  dsimp only
  split
  · exact Answer.InForm.status h
  · split
    · next e0 =>
        exact Answer.InForm.status (hostRead_error h e0)
    · next e0 =>
        exact stageClips (hostRead_ok h e0)
theorem audPromptLoadPut {tag a s'} (h : s.InForm k) (e : audPromptLoadPut tag a s = .ok s') : s'.InForm k := by
  unfold Machine.audPromptLoadPut at e
  split at e <;> cases e
  exact h
theorem audPromptLoadWork {tag io a} (h : s.InForm k) : (audPromptLoadWork tag io a s).InForm k := promptLoad h
theorem audPlayWork {tag io a} (h : s.InForm k) : (audPlayWork tag io a s).InForm k := by
  unfold Machine.audPlayWork
  dsimp only
  split
  · exact Answer.InForm.status h
  · split
    · exact Answer.InForm.status h
    · exact Answer.InForm.ok (addPrompt h)
theorem audStreamStatusWork {tag io a} (h : s.InForm k) : (audStreamStatusWork tag io a s).InForm k :=
  Answer.InForm.ite (Answer.InForm.status h) (Answer.InForm.ite (Answer.InForm.ok h) (Answer.InForm.ok h))
theorem audStatusWork {tag io a} (h : s.InForm k) : (audStatusWork tag io a s).InForm k := Answer.InForm.ok h

/-! ### The tariff and the denylist -/

theorem stageTable {tag code b} (h : s.InForm k) : (s.stageTable tag code b).InForm k := by
  unfold State.stageTable
  dsimp only
  split
  · exact Answer.InForm.status h
  · exact Answer.InForm.ite (Answer.InForm.status h)
      (Answer.InForm.ite (Answer.InForm.status h) (Answer.InForm.ite (Answer.InForm.status h) (stage h)))
theorem stageDelta {tag code b} (h : s.InForm k) : (s.stageDelta tag code b).InForm k := by
  unfold State.stageDelta
  dsimp only
  split
  · exact Answer.InForm.status h
  · exact Answer.InForm.ite (Answer.InForm.status h) (stage h)

/-! ### The cell sea -/

theorem placeSession {lane} (h : s.InForm k) : (s.placeSession lane).InForm k := by
  unfold State.placeSession
  dsimp only
  split
  · exact h
  · split
    · exact h
    · split
      · exact modSes (modCell (lease (grantSlot (giveWork (unwait h)))))
      · exact h
theorem placeJob {n} (h : s.InForm k) : (s.placeJob n).InForm k := by
  unfold State.placeJob
  dsimp only
  split
  · exact h
  · split
    · exact h
    · split
      · exact h
      · split
        · exact placePiece (ite (unwait h) h)
        · exact h
theorem execPlacement {t work} (h : s.InForm k) : Out.InForm (execPlacement t work s) k := by
  unfold Machine.execPlacement
  dsimp only
  split
  · exact placeSession (tick h)
  · exact placeJob (tick h)
theorem budgetOver {lane} (h : s.InForm k) : (s.budgetOver lane).InForm k := by
  unfold State.budgetOver
  split
  · exact h
  · exact ite h (ite (abortSes h) (markAbort h))
theorem execPlacementRetry {t lane} (h : s.InForm k) : Out.InForm (execPlacementRetry t lane s) k := by
  unfold Machine.execPlacementRetry
  dsimp only
  split
  · exact tick h
  · exact Out.InForm.ite (tick h) (Out.InForm.ite (budgetOver (tick h)) (placeSession (tick h)))
theorem execSessionBudgetExpired {t lane} (h : s.InForm k) : Out.InForm (execSessionBudgetExpired t lane s) k := by
  unfold Machine.execSessionBudgetExpired
  split
  · exact tick h
  · exact budgetOver (tick h)
theorem execJobRun {t tag q io} (h : s.InForm k) : Out.InForm (execJobRun t tag q io s) k := by
  have ht := tick h (t := t)
  unfold Machine.execJobRun
  dsimp only
  split
  · exact ht
  · split
    · exact ht
    · split
      · exact opDone (modQp ht)
      · split
        · exact ht
        · split
          · exact ht
          · exact await (modSeaForm (grantSlot (modQp ht)) id (twf_tset _ _ _))
theorem execJobBoundary {t cell last} (h : s.InForm k) : Out.InForm (execJobBoundary t cell last s) k := by
  unfold Machine.execJobBoundary
  dsimp only
  split
  · exact tick h
  · split
    · split
      · exact endJob (by
      split
      · exact renew (ite (unwait (modJob (modCell (dropWorkOn (tick h))))) (modJob (modCell (dropWorkOn (tick h)))))
      · exact ite (unwait (modJob (modCell (dropWorkOn (tick h))))) (modJob (modCell (dropWorkOn (tick h)))))
      · split
        · exact renew (ite (unwait (modJob (modCell (dropWorkOn (tick h))))) (modJob (modCell (dropWorkOn (tick h)))))
        · exact ite (unwait (modJob (modCell (dropWorkOn (tick h))))) (modJob (modCell (dropWorkOn (tick h))))
    · exact ite (unwait (modJob (modCell (dropWorkOn (tick h))))) (modJob (modCell (dropWorkOn (tick h))))
theorem execScoreTick {t} (h : s.InForm k) : Out.InForm (execScoreTick t s) k :=
  have ht := tick h (t := t)
  seaForm ht (twf_map fun _ => rfl) id
theorem execCasteMoveDone {t cell} (h : s.InForm k) : Out.InForm (execCasteMoveDone t cell s) k :=
  Out.InForm.ite (tick h)
    (Out.InForm.ite (quarantine (tick h))
       (ite (assignBuses (ite (refillShort (modCell (setCell (tick h)))) (modCell (setCell (tick h)))))
          (ite (refillShort (modCell (setCell (tick h)))) (modCell (setCell (tick h))))))
theorem execCasteGrow {t caste} (h : s.InForm k) : Out.InForm (execCasteGrow t caste s) k := by
  unfold Machine.execCasteGrow
  dsimp only
  split
  · exact tick h
  · exact Out.InForm.ite (tick h) (fill (modSea (tick h)))
theorem execLeaseExpired {t lease} (h : s.InForm k) : Out.InForm (execLeaseExpired t lease s) k := by
  unfold Machine.execLeaseExpired
  dsimp only
  split
  · exact tick h
  · exact Out.InForm.ite (tick h) (cellFault (raiseDev (tick h)))
theorem execCellCheckDone {t cell pass} (h : s.InForm k) : Out.InForm (execCellCheckDone t cell pass s) k :=
  Out.InForm.ite (tick h)
    (Out.InForm.ite (testFailedFree (quarantine (recordTest (tick h))))
       (Out.InForm.ite (quarantine (recordTest (tick h))) (refillShort (modCell (setCell (recordTest (tick h)))))))
theorem setTaskInput {n i x} (h : s.InForm k) : (s.setTaskInput n i x).InForm k := modCell h
theorem suspendDrover (h : s.InForm k) : s.suspendDrover.InForm k := modSea h
theorem drvCastePlanWork {tag io a} (h : s.InForm k) : (drvCastePlanWork tag io a s).InForm k :=
  Answer.InForm.ite (Answer.InForm.status h) (stage h)
theorem drvCasteStatusWork {tag io a} (h : s.InForm k) : (drvCasteStatusWork tag io a s).InForm k :=
  Answer.InForm.ok (free h)
theorem drvCellStatusWork {tag io a} (h : s.InForm k) : (drvCellStatusWork tag io a s).InForm k :=
  Answer.InForm.ite (Answer.InForm.status h) (Answer.InForm.ok h)
theorem drvCellQuarantineWork {tag io a} (h : s.InForm k) : (drvCellQuarantineWork tag io a s).InForm k :=
  Answer.InForm.ite (Answer.InForm.status h)
    (Answer.InForm.ite (Answer.InForm.status h)
       (Answer.InForm.ite (Answer.InForm.ok (modCell h))
          (Answer.InForm.ok
             (ite (assignBuses (modCell (setCell (audioLost (modCell h))))) (modCell (setCell (audioLost (modCell h))))))))
theorem drvCellReturnWork {tag io a} (h : s.InForm k) : (drvCellReturnWork tag io a s).InForm k :=
  Answer.InForm.ite (Answer.InForm.status h) (Answer.InForm.ite (Answer.InForm.status h) (Answer.InForm.ok (modCell h)))
theorem drvSlotStatusWork {tag io a} (h : s.InForm k) : (drvSlotStatusWork tag io a s).InForm k := Answer.InForm.ok h

/-! ### Sealing and the fare commands -/

theorem execDenylistExactSearch {t lane} (h : s.InForm k) : Out.InForm (execDenylistExactSearch t lane s) k := by
  unfold Machine.execDenylistExactSearch
  dsimp only
  split
  · exact Out.InForm.ite (denySearch (tick h)) (tick h)
  · exact tick h
theorem execBarcodeVerify {t lane} (h : s.InForm k) : Out.InForm (execBarcodeVerify t lane s) k := by
  unfold Machine.execBarcodeVerify
  dsimp only
  split
  · exact Out.InForm.ite (ticketCheck (tick h)) (tick h)
  · exact tick h
theorem markUsed {x} (h : s.InForm k) : (s.markUsed x).InForm k := ite (useTicket h) h
theorem offer {n tenant fault} (h : s.InForm k) : (s.offer n tenant fault).InForm k :=
  ite (hubOffer h) (hubOffer (cartOffer (modJ (ringOffer h))))
theorem execJournalSeal {t lane cell io} (h : s.InForm k) : Out.InForm (execJournalSeal t lane cell io s) k := by
  unfold Machine.execJournalSeal
  dsimp only
  split
  · exact tick h
  · exact Out.InForm.ite (tick h)
      (closeSes (settle (dropWorkOn (offer (markUsed (sealRecord (giveWork (unwait (tick h)))))))))
theorem execSealBudgetExpired {t lane} (h : s.InForm k) : Out.InForm (execSealBudgetExpired t lane s) k := by
  unfold Machine.execSealBudgetExpired
  dsimp only
  split
  · exact tick h
  · split
    · exact tick h
    · exact Out.InForm.ite (modSes (tick h)) (Out.InForm.ite (tick h) (queueDecision (by
      split
      · exact resealRefer (modSes (tick h))
      · exact modSes (tick h))))
theorem execCartAcceptTimeout {t rec} (h : s.InForm k) : Out.InForm (execCartAcceptTimeout t rec s) k := by
  unfold Machine.execCartAcceptTimeout
  split
  · exact tick h
  · exact Out.InForm.ite (cartAnswer (tick h)) (tick h)
theorem tableLoad {tag a io} (h : s.InForm k) : (s.tableLoad tag a io).InForm k := by
  unfold State.tableLoad
  dsimp only
  split
  · exact Answer.InForm.status h
  · split
    · next e0 =>
        exact Answer.InForm.status (hostRead_error h e0)
    · next e0 =>
        exact stageTable (hostRead_ok h e0)
theorem fareTableLoadPut {tag a s'} (h : s.InForm k) (e : fareTableLoadPut tag a s = .ok s') : s'.InForm k := by
  unfold Machine.fareTableLoadPut at e
  split at e <;> cases e
  exact h
theorem fareTableLoadWork {tag io a} (h : s.InForm k) : (fareTableLoadWork tag io a s).InForm k := tableLoad h
theorem fareKeyBindWork {tag io a} (h : s.InForm k) : (fareKeyBindWork tag io a s).InForm k := by
  unfold Machine.fareKeyBindWork
  dsimp only
  split
  · exact Answer.InForm.status h
  · split
    · exact Answer.InForm.status h
    · split
      · exact Answer.InForm.status h
      · exact Answer.InForm.ite (Answer.InForm.status h) (stage h)
theorem denyDelta {tag a io} (h : s.InForm k) : (s.denyDelta tag a io).InForm k := by
  unfold State.denyDelta
  dsimp only
  split
  · exact Answer.InForm.status h
  · split
    · next e0 =>
        exact Answer.InForm.status (hostRead_error h e0)
    · next e0 =>
        exact stageDelta (hostRead_ok h e0)
theorem fareDenyDeltaPut {tag a s'} (h : s.InForm k) (e : fareDenyDeltaPut tag a s = .ok s') : s'.InForm k := by
  unfold Machine.fareDenyDeltaPut at e
  split at e <;> cases e
  exact h
theorem fareDenyDeltaWork {tag io a} (h : s.InForm k) : (fareDenyDeltaWork tag io a s).InForm k := denyDelta h
theorem fareDenySwapWork {tag io a} (h : s.InForm k) : (fareDenySwapWork tag io a s).InForm k := by
  unfold Machine.fareDenySwapWork
  split
  · exact Answer.InForm.ite (stage h) (Answer.InForm.status h)
  · exact Answer.InForm.status h
theorem fareDenyStatusWork {tag io a} (h : s.InForm k) : (fareDenyStatusWork tag io a s).InForm k := Answer.InForm.ok h
theorem execFareDenyLoad {t tag q io} (h : s.InForm k) : Out.InForm (execFareDenyLoad t tag q io s) k := by
  unfold Machine.execFareDenyLoad
  dsimp only
  split
  · exact tick h
  · split
    · exact tick h
    · split
      · exact opDone (modQp (tick h))
      · split
        · exact opDone (modQp (tick h))
        · split
          · exact tick h
          · split
            · next e3 =>
                exact opDone (modQp (hostRead_error (dropWorkOn (giveWork (tick h))) e3))
            · next e3 =>
                exact opDone (modQp (modFare (hostRead_ok (dropWorkOn (giveWork (tick h))) e3)))
theorem fareJournalReadWork {tag io a} (h : s.InForm k) : (fareJournalReadWork tag io a s).InForm k := by
  unfold Machine.fareJournalReadWork
  dsimp only
  split
  · exact Answer.InForm.status h
  · split
    · next e0 =>
        exact Answer.InForm.ok (of_snd e0 (hostWrite h))
    · next e0 =>
        exact Answer.InForm.status (of_snd e0 (hostWrite h))
theorem fareJournalAckWork {tag io a} (h : s.InForm k) : (fareJournalAckWork tag io a s).InForm k :=
  Answer.InForm.ite (Answer.InForm.status h) (Answer.InForm.ok (foldl h (fun h => ite (hubFree h) h)))
theorem fareStatusWork {tag io a} (h : s.InForm k) : (fareStatusWork tag io a s).InForm k := Answer.InForm.ok h

/-! ### Doorbells and fetches -/

theorem doorbellError {tag tail} (h : s.InForm k) : (s.doorbellError tag tail).InForm k := count (modInst h)
theorem doorbell {tag q f} (h : s.InForm k) (hf : ∀ {p}, (f p).InForm k) : (s.doorbell tag q f).InForm k := by
  unfold State.doorbell
  split
  · exact h
  · split
    · exact h
    · exact modInst h
    · exact hf
theorem execSqEntryFetch {t tag q io} (h : s.InForm k) : Out.InForm (execSqEntryFetch t tag q io s) k := by
  unfold Machine.execSqEntryFetch
  dsimp only
  split
  · exact tick h
  · split
    · exact qpFail (xlateFault (tick h))
    · split
      · exact opDone (modQp (tlbTouch (tick h)))
      · exact modQp (modQp (tlbTouch (tick h)))
theorem tlbInstall {e'} (h : s.InForm k) : (s.tlbInstall e').InForm k := h
theorem execTlbFill {t tag iova walk} (h : s.InForm k) : Out.InForm (execTlbFill t tag iova walk s) k := by
  unfold Machine.execTlbFill
  dsimp only
  split
  · exact tick h
  · split
    · exact xlateFault (tick h)
    · split
      · exact xlateFault (tick h)
      · exact Out.InForm.ite (tick h) (tlbInstall (tick h))
theorem insQpSetupWork {tag io a} (h : s.InForm k) : (insQpSetupWork tag io a s).InForm k :=
  Answer.InForm.ite (Answer.InForm.status h)
    (Answer.InForm.ite (Answer.InForm.status h)
       (Answer.InForm.ite (Answer.InForm.status h) (Answer.InForm.ite (Answer.InForm.status h) (Answer.InForm.ok (modQp h)))))
theorem qpReset {tag q} (h : s.InForm k) : (s.qpReset tag q).InForm k := seaForm (modQp h) id (twf_map fun _ => rfl)
theorem insQpResetWork {tag io a} (h : s.InForm k) : (insQpResetWork tag io a s).InForm k :=
  Answer.InForm.ite (Answer.InForm.status h) (Answer.InForm.ok (qpReset h))
theorem insQpStatusWork {tag io a} (h : s.InForm k) : (insQpStatusWork tag io a s).InForm k :=
  Answer.InForm.ite (Answer.InForm.status h) (Answer.InForm.ok h)
theorem insEqSetupWork {tag io a} (h : s.InForm k) : (insEqSetupWork tag io a s).InForm k :=
  Answer.InForm.ite (Answer.InForm.status h)
    (Answer.InForm.ite (Answer.InForm.status h) (Answer.InForm.ok (foldl (rest (writeLost (rest (modEvq h)))) raiseTo)))
theorem insXlateSetWork {tag io a} (h : s.InForm k) : (insXlateSetWork tag io a s).InForm k :=
  Answer.InForm.ite (Answer.InForm.status h)
    (Answer.InForm.ite (Answer.InForm.status h) (Answer.InForm.ok (modInst (tlbDrop h))))
theorem insXlateInvalWork {tag io a} (h : s.InForm k) : (insXlateInvalWork tag io a s).InForm k :=
  Answer.InForm.ok (tlbDrop h)
theorem insFaultGetWork {tag io a} (h : s.InForm k) : (insFaultGetWork tag io a s).InForm k :=
  Answer.InForm.ite (Answer.InForm.status h) (Answer.InForm.ok (modInst h))
theorem insSliceCreateWork {tag io a} (h : s.InForm k) : (insSliceCreateWork tag io a s).InForm k := by
  unfold Machine.insSliceCreateWork
  dsimp only
  split
  · exact Answer.InForm.status h
  · split
    · exact Answer.InForm.status h
    · split
      · exact Answer.InForm.status h
      · split
        · exact Answer.InForm.status h
        · split
          · exact Answer.InForm.status h
          · exact Answer.InForm.ok (enable h)
theorem insStatusWork {tag io a} (h : s.InForm k) : (insStatusWork tag io a s).InForm k :=
  Answer.InForm.ite (Answer.InForm.status h) (Answer.InForm.ok h)
theorem insRightsSetWork {tag io a} (h : s.InForm k) : (insRightsSetWork tag io a s).InForm k :=
  Answer.InForm.ite (Answer.InForm.status h) (stage h)

/-! ### Cartridges -/

theorem cartPower {n on} (h : s.InForm k) : (s.cartPower n on).InForm k := emitOut (modCart h)
theorem card {n cmd arg data} (h : s.InForm k) : (s.card n cmd arg data).InForm k := emitOut h
theorem cartRefuseAll {n} (h : s.InForm k) : (s.cartRefuseAll n).InForm k := foldl (modCart h) cartAnswer
theorem cartInit {n} (h : s.InForm k) : (s.cartInit n).InForm k := modCart (cartRefuseAll h)
theorem cartCycle {n} (h : s.InForm k) : (s.cartCycle n).InForm k := modCart (cartPower (cartInit h))
theorem cartFail {n step unsupported} (h : s.InForm k) : (s.cartFail n step unsupported).InForm k :=
  cartEvent (modCart (cartRefuseAll h))
theorem cartRetry {n step} (h : s.InForm k) : (s.cartRetry n step).InForm k := ite (cartFail h) (modCart (cartCycle h))
theorem cartHeader {n} (h : s.InForm k) : (s.cartHeader n).InForm k := modCart (card h)
theorem cartFullCheck {n} (h : s.InForm k) : (s.cartFullCheck n).InForm k :=
  ite (modCart h) (ite (foldl (modCart h) cartAnswer) (cartEvent (foldl (modCart h) cartAnswer)))
theorem cartOff {n} (h : s.InForm k) : (s.cartOff n).InForm k := cartPower (cartRefuseAll h)
theorem cartEject {n header} (h : s.InForm k) : (s.cartEject n header).InForm k := modCart (cartOff (ite (cartHeader h) h))
theorem cartReevaluate {n} (h : s.InForm k) : (s.cartReevaluate n).InForm k := by
  unfold State.cartReevaluate
  dsimp only
  split
  · exact h
  · exact ite (modCart (cartInit h)) (ite (modCart (cartCycle h)) h)
theorem cartErase {n} (h : s.InForm k) : (s.cartErase n).InForm k := ite (modCart (card (card h))) (cartEvent h)
theorem cartFormat {n dataBlocks jrnBlocks cartId} (h : s.InForm k) : (s.cartFormat n dataBlocks jrnBlocks cartId).InForm k :=
  ite h (cartInit (card (card (card (card (foldl (cartRefuseAll h) card))))))

/-! ### Lane Link turns -/

theorem sendUnit {lane type payload retry} (h : s.InForm k) : (s.sendUnit lane type payload retry).InForm k := by
  unfold State.sendUnit
  dsimp only
  split
  · exact emitOut h
  · exact emitOut (modUnit h)
theorem sendPoll {lane} (h : s.InForm k) : (s.sendPoll lane).InForm k := emitOut (modUnit h)
theorem sendZero {seg type payload} (h : s.InForm k) : (s.sendZero seg type payload).2.InForm k := emitOut (modSeg h)
theorem sendAck {seg addr seq} (h : s.InForm k) : (s.sendAck seg addr seq).InForm k := emitOut h
theorem identityEvent {code source id old} (h : s.InForm k) : (s.identityEvent code source id old).InForm k := raiseDev h
theorem heard {seg} (h : s.InForm k) : (s.heard seg).InForm k := modSeg h
theorem clash {seg lane id} (h : s.InForm k) : (s.clash seg lane id).InForm k := ite h (identityEvent (modSeg h))
theorem pruneAssigns {seg} (h : s.InForm k) : (s.pruneAssigns seg).InForm k :=
  foldl h (fun h => ite (ite (modSeg h) (clash (modSeg h))) h)
theorem startCycle {seg} (h : s.InForm k) : (s.startCycle seg).InForm k :=
  modSeg (ite (ite (raiseDev (modSeg (foldl h modUnit))) (modSeg (foldl h modUnit))) h)
theorem probeAnswered {seg lane} (h : s.InForm k) : (s.probeAnswered seg lane).InForm k :=
  ite (identityEvent (heard (modUnit h))) h
theorem decisionSent {d} (h : s.InForm k) : (s.decisionSent d).InForm k := by
  unfold State.decisionSent
  dsimp only
  split
  · exact h
  · exact closeSes (leaveSeg (schedulePrompt (by
      split
      · exact ite (stampDecision h) (countOutcome (stampDecision h))
      · exact stampDecision h)))
theorem turnSend {seg k' retry} (h : s.InForm k) : (s.turnSend seg k' retry).InForm k := by
  unfold State.turnSend
  dsimp only
  split
  · exact ite (sendUnit h) (decisionSent (modSeg (sendUnit h)))
  · split
    · exact modSeg (sendUnit h)
    · exact h
  · exact ite (modSeg (modSes (sendPoll h))) (modSes (sendPoll h))
  · exact sendPoll h
  · exact sendPoll h
  · exact modSeg (sendPoll h)
  · exact modSeg (sendZero h)
  · split
    · exact emitOut h
    · exact modSeg (ite (sendZero h) (modUnit (sendZero h)))
  · exact sendUnit h
theorem noDecision {lane} (h : s.InForm k) : (s.noDecision lane).InForm k := by
  unfold State.noDecision
  dsimp only
  split
  · exact h
  · split
    · exact modSeg h
    · exact ite (modSeg h) (closeSes (leaveSeg (stampDecision (modSes (ite (modSeg h) (countOutcome (modSeg h)))))))
theorem unitAbsent {lane} (h : s.InForm k) : (s.unitAbsent lane).InForm k :=
  modSeg (noDecision (abortSes (echoClose (raiseDev (modUnit h)))))
theorem failTurn {seg} (h : s.InForm k) : (s.failTurn seg).InForm k := by
  unfold State.failTurn
  dsimp only
  split
  · exact h
  · split
    · exact modSeg (count h)
    · exact modSeg (modSeg (count h))
    · exact ite (modSeg (modUnit (modSeg (count h))))
        (ite (unitAbsent (modUnit (modSeg (count h)))) (modSeg (modUnit (modSeg (count h)))))
    · exact ite (modSeg (modUnit (modSeg (count h)))) (unitAbsent (modUnit (modSeg (count h))))
theorem turnDone {seg lane} (h : s.InForm k) : (s.turnDone seg lane).InForm k :=
  ite (probeAnswered (modUnit (modSeg h))) (modUnit (modSeg h))
theorem acceptUp {seg f} (h : s.InForm k) : (s.acceptUp seg f).2.InForm k := modUnit (sendAck (turnDone h))
theorem freeExit {clear} (h : s.InForm k) : (s.freeExit clear).InForm k := rest (foldl h sendZero)
theorem cutTurn {seg} (h : s.InForm k) : (s.cutTurn seg).InForm k := modSeg (ite (echoCut (modSeg h)) (modSeg h))
theorem emergencyAbort {lane} (h : s.InForm k) : (s.emergencyAbort lane).InForm k := by
  unfold State.emergencyAbort
  split
  · exact h
  · exact ite (markAbort h) (abortSes h)

/-! ### The Ethernet rows and the network area -/

theorem localCopy {port cls rule f p io} (h : s.InForm k) : (s.localCopy port cls rule f p io).InForm k := by
  unfold State.localCopy
  dsimp only
  split
  · exact count h
  · exact pfDeliver h
  · exact ite (modNet h) (ite (modNet h) (modNet h))
  · split
    · exact ite (modTim h) h
    · exact h
  · exact h
theorem execFrameReceived {t port frame fcsOk io} (h : s.InForm k) : Out.InForm (execFrameReceived t port frame fcsOk io s) k
    := by
  have ht := tick h (t := t)
  unfold Machine.execFrameReceived
  dsimp only
  split
  · exact ht
  · refine Out.InForm.ite ht
      (Out.InForm.ite (modPort ht) (Out.InForm.ite (count ht) (Out.InForm.ite (count ht) (Out.InForm.ite (count ht)
      (Out.InForm.ite (count ht) (Out.InForm.ite (modPort ht) ?_))))))
    split
    · exact ite (pfDeliver (count (count ht))) (count (count ht))
    · exact Out.InForm.ite (count (ite (count ht) (count (count ht))))
        (ite (localCopy (foldl (count (ite (count ht) (count (count ht)))) admitCopy))
          (foldl (count (ite (count ht) (count (count ht)))) admitCopy))
theorem egressHit {port c} (h : s.InForm k) : (s.egressHit port c).InForm k := by
  unfold State.egressHit
  dsimp only
  split
  · exact count h
  · exact h
theorem txDone {port w cq} (h : s.InForm k) : (s.txDone port w cq).InForm k := by
  unfold State.txDone
  dsimp only
  split
  · exact h
  · split
    · exact cqComplete (modNet h)
    · exact h
  · exact modShadow h
  · split
    · exact sendPtp h
    · exact h
theorem execPortTransmit {t port io} (h : s.InForm k) : Out.InForm (execPortTransmit t port io s) k := by
  unfold Machine.execPortTransmit
  dsimp only
  split
  · exact tick h
  · split
    · exact tick h
    · split
      · exact tick h
      · split
        · exact txFail (count (egressHit (modPort (tick h))))
        · exact txDone (emitOut (count (egressHit (modPort (tick h)))))
theorem endEqFreeze {port} (h : s.InForm k) : (s.endEqFreeze port).InForm k := ite (raiseDev h) h
theorem flushPort {port stat cq} (h : s.InForm k) : (s.flushPort port stat cq).InForm k := foldl (modPort (count h)) txFail
theorem igmpReport {port incl excl} (h : s.InForm k) : (s.igmpReport port incl excl).InForm k := by
  unfold State.igmpReport
  dsimp only
  split
  · exact h
  · exact ite h (sendMade h)
theorem mldReport {port} (h : s.InForm k) : (s.mldReport port).InForm k := by
  unfold State.mldReport
  dsimp only
  split
  · exact h
  · exact ite h (sendMade h)
theorem stewardAnswer {port f} (h : s.InForm k) : (s.stewardAnswer port f).InForm k := by
  unfold State.stewardAnswer
  dsimp only
  split
  · exact h
  · split
    · exact ite (sendMade h) h
    · split
      · exact ite (igmpReport h) h
      · exact ite (sendMade h) h
      · exact ite (sendMade h) (ite (sendMade h) h)
      · exact h
theorem execStewardNetRx {t} (h : s.InForm k) : Out.InForm (execStewardNetRx t s) k := by
  unfold Machine.execStewardNetRx
  dsimp only
  split
  · exact tick h
  · split
    · exact tick h
    · exact stewardAnswer (modNet (tick h))
theorem netPortSetWork {tag io a} (h : s.InForm k) : (netPortSetWork tag io a s).InForm k :=
  Answer.InForm.ite (Answer.InForm.status h) (stage h)
theorem netIfSetWork {tag io a} (h : s.InForm k) : (netIfSetWork tag io a s).InForm k :=
  Answer.InForm.ite (Answer.InForm.status h) (stage h)
theorem ruleWrite {tag a io} (h : s.InForm k) : (s.ruleWrite tag a io).InForm k := by
  unfold State.ruleWrite
  dsimp only
  split
  · exact Answer.InForm.status h
  · split
    · exact Answer.InForm.status h
    · split
      · next e0 =>
          exact Answer.InForm.status (hostRead_error h e0)
      · next e0 =>
          exact Answer.InForm.ite (Answer.InForm.status (hostRead_ok h e0)) (stage (hostRead_ok h e0))
theorem netRuleWriteWork {tag io a} (h : s.InForm k) : (netRuleWriteWork tag io a s).InForm k := ruleWrite h
theorem ruleRead {tag a io size item} (h : s.InForm k) : (s.ruleRead tag a io size item).InForm k := by
  unfold State.ruleRead
  dsimp only
  split
  · exact Answer.InForm.status h
  · split
    · exact Answer.InForm.status h
    · split
      · next e0 =>
          exact Answer.InForm.ok (of_snd e0 (hostWrite h))
      · next e0 =>
          exact Answer.InForm.status (of_snd e0 (hostWrite h))
theorem netRuleReadWork {tag io a} (h : s.InForm k) : (netRuleReadWork tag io a s).InForm k := ruleRead h
theorem netRuleHitsWork {tag io a} (h : s.InForm k) : (netRuleHitsWork tag io a s).InForm k := ruleRead h
theorem netQueueSetWork {tag io a} (h : s.InForm k) : (netQueueSetWork tag io a s).InForm k :=
  Answer.InForm.ite (Answer.InForm.status h) (stage h)
theorem netPortStatusWork {tag io a} (h : s.InForm k) : (netPortStatusWork tag io a s).InForm k := Answer.InForm.ok h
theorem execNetTx {t q io} (h : s.InForm k) : Out.InForm (execNetTx t q io s) k := by
  have hq {rest} := modQp (tick h (t := t)) (tag := 0) (q := q) (f := fun p => { p with ops := rest })
  unfold Machine.execNetTx
  dsimp only
  split
  · exact tick h
  · refine Out.InForm.ite (opDone hq) ?_
    split
    · next e => exact opDone (hostRead_error hq e)
    · next s' e =>
      have hs : s'.InForm k := hostRead_ok hq e
      have ha {l : List Nat} {g : Nat → State → Bool × State} (hg : ∀ {n s}, State.InForm s k → (g n s).2.InForm k) :=
        foldl_snd (f := fun p n => match g n p.2 with | (true, s) => (p.1 ||| 2 ^ n, s) | (false, s) => (p.1, s)) (l := l)
          (p := (0, s')) hs
          fun {p n} hp => by
            split
            · next e => exact of_snd e (hg hp)
            · next e => exact of_snd e (hg hp)
      split
      · exact opDone (ha admitCopy)
      · exact Out.InForm.ite (modPort (modNet (ha admitCopy))) (txFail (modNet (ha admitCopy)))
theorem execNetRxPost {t q io} (h : s.InForm k) : Out.InForm (execNetRxPost t q io s) k := by
  unfold Machine.execNetRxPost
  dsimp only
  split
  · exact tick h
  · exact Out.InForm.ite (opDone (modQp (tick h))) (modNet (modQp (tick h)))

/-! ### A commit point -/

theorem closeMan {id outcome} (h : s.InForm k) : (s.closeMan id outcome).InForm k := by
  unfold State.closeMan
  split
  · exact h
  · exact manForm h fun h => twf_filter (twf_tupd h)
theorem dropImports {id} (h : s.InForm k) : (s.dropImports id).InForm k := foldl h (fun h => rest (releaseTree h))
theorem endMan {id outcome} (h : s.InForm k) : (s.endMan id outcome).InForm k := closeMan (dropImports h)
theorem epochLength (h : s.InForm k) : s.epochLength.InForm k := ite h (armBoundary h)
theorem entryEffect {old op} (h : s.InForm k) : (State.entryEffect old s op).InForm k := by
  unfold State.entryEffect
  dsimp only
  split
  · exact ite (epochLength h) (liveSet h)
  · exact ite h (notice (ite (notice h) h))
  · exact ite (modUnit h) h
  · exact ite (modUnit h) h
  · exact modFare h
  · exact cartReevaluate h
  · exact cartFormat h
  · exact cartErase h
  · exact ite (mldReport (domainCommitted h)) (domainCommitted h)
  · exact foldl h igmpReport
  · exact assignBuses h
  · exact ite h (endEqFreeze (flushPort (modPort h)))
  · exact h
  · exact h
  · exact h
  · exact h
  · exact h
  · exact h
  · exact h
  · exact h
  · exact h
  · exact h
  · exact h
  · exact h
  · exact h
  · exact h
  · exact h
  · exact h
  · exact h
theorem commitPoint {id} (h : s.InForm k) : (s.commitPoint id).InForm k := by
  unfold State.commitPoint
  split
  · exact h
  · exact prune (foldl (manForm h (twf_map fun _ => by split <;> rfl)) entryEffect)

/-! ### Manifests -/

theorem manEvent {code id m a b} (h : s.InForm k) : (s.manEvent code id m a b).InForm k := raise h
theorem withdraw {id status} (h : s.InForm k) : (s.withdraw id status).InForm k := by
  unfold State.withdraw
  split
  · exact h
  · exact manEvent (endMan h)
theorem dropManifests {tag} (h : s.InForm k) : (s.dropManifests tag).InForm k :=
  foldl h (fun h => ite (endMan h) (ite (withdraw h) h))
theorem rollbackOpen (h : s.InForm k) : s.rollbackOpen.InForm k := foldl h endMan
theorem manBeginWork {tag io a} (h : s.InForm k) : (manBeginWork tag io a s).InForm k :=
  Answer.InForm.ite (Answer.InForm.status h) (Answer.InForm.ite (Answer.InForm.status h)
    (Answer.InForm.ok (manForm h (twf_tset _ _ _))))
theorem commitWork {id aligned} (h : s.InForm k) : (s.commitWork id aligned).InForm k := by
  unfold State.commitWork
  split
  · exact Answer.InForm.status h
  · split
    · exact modMan h
    · exact Answer.InForm.ite (Answer.InForm.ok (manRest (modMan h) rfl))
        (Answer.InForm.ite (modMan h) (Answer.InForm.ok (commitPoint h)))
theorem manCommitPut {tag a s'} (h : s.InForm k) (e : manCommitPut tag a s = .ok s') : s'.InForm k := by
  unfold Machine.manCommitPut at e
  split at e <;> cases e
  exact modMan h
theorem manCommitWork {tag io a} (h : s.InForm k) : (manCommitWork tag io a s).InForm k := by
  unfold Machine.manCommitWork
  split
  · exact Answer.InForm.status h
  · exact commitWork h
theorem manRollbackWork {tag io a} (h : s.InForm k) : (manRollbackWork tag io a s).InForm k := by
  unfold Machine.manRollbackWork
  dsimp only
  split
  · exact Answer.InForm.status h
  · exact Answer.InForm.ite (Answer.InForm.status h)
      (Answer.InForm.ite (Answer.InForm.status h)
        (Answer.InForm.ite (Answer.InForm.ok (withdraw h)) (Answer.InForm.ok (endMan h))))
theorem manStatusWork {tag io a} (h : s.InForm k) : (manStatusWork tag io a s).InForm k := by
  unfold Machine.manStatusWork
  dsimp only
  split
  · exact Answer.InForm.status h
  · exact Answer.InForm.ok h
theorem execManOpenTimeout {t tag} (h : s.InForm k) : Out.InForm (execManOpenTimeout t tag s) k := by
  unfold Machine.execManOpenTimeout
  dsimp only
  split
  · exact Out.InForm.ite (tick h) (raise (endMan (tick h)))
  · exact tick h
theorem freezePoint (h : s.InForm k) : s.freezePoint.InForm k :=
  foldl h (fun h => by
    split
    · exact modMan h
    · exact withdraw h)
theorem boundaryCommits (h : s.InForm k) : s.boundaryCommits.InForm k := foldl h commitPoint
theorem execDeferredImmediateCommit {t tag} (h : s.InForm k) : Out.InForm (execDeferredImmediateCommit t tag s) k := by
  unfold Machine.execDeferredImmediateCommit
  dsimp only
  split
  · split
    · exact Out.InForm.ite (tick h) (take (complete (commitPoint (rest (tick h)))))
    · exact tick h
  · exact tick h
theorem execManFlushEnd {t man} (h : s.InForm k) : Out.InForm (execManFlushEnd t man s) k := by
  unfold Machine.execManFlushEnd
  dsimp only
  split
  · exact Out.InForm.ite (tick h) (ite (manEvent (closeMan (tick h))) (audioFlush (manEvent (closeMan (tick h)))))
  · exact tick h

/-! ### The disable sequence -/

theorem abandonCmd {tag} (h : s.InForm k) : (s.abandonCmd tag).InForm k := by
  unfold State.abandonCmd
  dsimp only
  split
  · exact ite (rest (modPage h)) (modPage h)
  · exact modPage h
theorem disableEvents {tag} (h : s.InForm k) : (s.disableEvents tag).InForm k := rest (modEvq h)
theorem discardJobs {tag} (h : s.InForm k) : (s.discardJobs tag).InForm k :=
  foldl h fun h => by
    have hu {n} := unwait (modJob h (n := n) (f := fun j => { j with discard := true })) (w := .piece n)
    dsimp only
    split
    · exact ite (endJob hu) hu
    · exact hu
theorem disable {tag} (h : s.InForm k) : (s.disable tag).InForm k :=
  ite h (take (foldl (discardJobs (dropManifests (disableEvents (abandonCmd (modInst h))))) markAbort))
theorem disableAll {f} (h : s.InForm k) : (s.disableAll f).InForm k := foldl h disable
theorem disabled {tag} (h : s.InForm k) : (s.disabled tag).InForm k :=
  ite (modCfg (ite (rest (modEvq (modInst (tlbDrop h)))) (modEvq (modInst (tlbDrop h)))))
    (ite (rest (modEvq (modInst (tlbDrop h)))) (modEvq (modInst (tlbDrop h))))
theorem reenable {tag} (h : s.InForm k) : (s.reenable tag).InForm k := ite (ite (enable h) h) (ite (enable h) h)
theorem execDisableRevoke {t tag} (h : s.InForm k) : Out.InForm (execDisableRevoke t tag s) k :=
  Out.InForm.ite (tick h) (take (ackHeld (reenable (by
    split
    · exact ite (rest (disabled (bumpAll (tick h)))) (disabled (bumpAll (tick h)))
    · exact disabled (bumpAll (tick h))))))
theorem insSliceDestroyWork {tag io a} (h : s.InForm k) : (insSliceDestroyWork tag io a s).InForm k :=
  Answer.InForm.ite (Answer.InForm.status h) (disable h)
theorem linkLost (h : s.InForm k) : s.linkLost.InForm k := rest (disableAll h)

/-! ### The security event log -/

theorem modSec {f} (h : s.InForm k) : (s.modSec f).InForm k := h
theorem modBat {f} (h : s.InForm k) : (s.modBat f).InForm k := modSec h
theorem secLog {cls source detail detail2} (h : s.InForm k) : (s.secLog cls source detail detail2).InForm k := modBat h

/-! ### In-service test -/

theorem cellBack {n} (h : s.InForm k) : (s.cellBack n).InForm k :=
  ite (refillShort (modCell (setCell h)))
    (ite (moveTo (modCell (setCell h))) (ite (modSea (modCell (setCell h))) (modCell (setCell h))))
theorem execCellTestDone {t cell pass} (h : s.InForm k) : Out.InForm (execCellTestDone t cell pass s) k := by
  unfold Machine.execCellTestDone
  dsimp only
  split
  · exact tick h
  · exact Out.InForm.ite (tick h)
      (ite (testResult (ite (cellBack (modCell (dropLines (dropWorkOn (modTest (tick h))))))
        (quarantine (modCell (dropLines (dropWorkOn (modTest (tick h))))))))
          (testFailedFree (testResult
            (ite (cellBack (modCell (dropLines (dropWorkOn (modTest (tick h))))))
              (quarantine (modCell (dropLines (dropWorkOn (modTest (tick h))))))))))
theorem startL2 {island sentinel} (h : s.InForm k) : (s.startL2 island sentinel).InForm k := by
  unfold State.startL2
  exact modTest (modTest (giveWork (foldl (flushCluster (foldl h drainAll)) fun h => ite (modCell (setCell h)) h)))
theorem execL2TestDone {t island pass} (h : s.InForm k) : Out.InForm (execL2TestDone t island pass s) k :=
  Out.InForm.ite (tick h) (ite (testResult (foldl (endL2 (dropCluster (modTest (by
    split
    · exact dropWorkOn (tick h)
    · exact tick h)))) (fun h => ite (quarantine h) h))) (testFailedFree (testResult (foldl (endL2 (dropCluster (modTest (by
    split
    · exact dropWorkOn (tick h)
    · exact tick h)))) (fun h => ite (quarantine h) h)))))
theorem drainStart {cls num sentinel} (h : s.InForm k) : (s.drainStart cls num sentinel).InForm k :=
  ite (startCellTest h) (startL2 h)
theorem execDrainIdle {t cls num} (h : s.InForm k) : Out.InForm (execDrainIdle t cls num s) k := by
  unfold Machine.execDrainIdle
  dsimp only
  split
  · exact tick h
  · split
    · exact tick h
    · split
      · exact tick h
      · exact Out.InForm.ite (drainStart (tick h)) (Out.InForm.ite (drainStart (modTest (modSea (tick h)))) (tick h))
theorem execDrainTimeout {t cls num} (h : s.InForm k) : Out.InForm (execDrainTimeout t cls num s) k := by
  unfold Machine.execDrainTimeout
  dsimp only
  split
  · exact tick h
  · split
    · exact tick h
    · split
      · exact drainStart (tick h)
      · exact modTest (endReq (tick h))
theorem lineRemap (h : s.InForm k) : s.lineRemap.InForm k := testFailed (modTest h)
theorem execDieLinkLaneTest {t die dir lane errors} (h : s.InForm k) : Out.InForm
    (execDieLinkLaneTest t die dir lane errors s) k :=
  Out.InForm.ite (tick h)
    (Out.InForm.ite (testFailedFree (testResult (modLink (ite (modLink (tick h)) (judgeLanes (modLink (tick h)))))))
       (Out.InForm.ite (ite (modLink (tick h)) (judgeLanes (modLink (tick h))))
          (ite (testResult (auditRequest (modLink (ite (modLink (tick h)) (judgeLanes (modLink (tick h)))))))
             (testFailedFree (testResult
               (auditRequest (modLink (ite (modLink (tick h)) (judgeLanes (modLink (tick h)))))))))))
theorem testRequestWork {tag io a} (h : s.InForm k) : (testRequestWork tag io a s).InForm k :=
  Answer.InForm.ite (Answer.InForm.status h)
    (Answer.InForm.ite (Answer.InForm.status h)
       (Answer.InForm.ite (Answer.InForm.status h)
          (Answer.InForm.ite (Answer.InForm.status h) (markNext (markReq (modTest (ite (defer h) (unmark (defer h)))))))))
theorem testResultWork {tag io a} (h : s.InForm k) : (testResultWork tag io a s).InForm k :=
  Answer.InForm.ite (Answer.InForm.status h)
    (Answer.InForm.ite (Answer.InForm.status h) (Answer.InForm.ite (Answer.InForm.ok h) (Answer.InForm.ok h)))
theorem testCoverageWork {tag io a} (h : s.InForm k) : (testCoverageWork tag io a s).InForm k := Answer.InForm.ok h

/-! ### Islands, hardware loops and thermal steps -/

theorem endAvfsFreeze {n} (h : s.InForm k) : (s.endAvfsFreeze n).InForm k := ite (raiseDev (modIsland h)) h
theorem execTimingError {t cell again} (h : s.InForm k) : Out.InForm (execTimingError t cell again s) k :=
  Out.InForm.ite (tick h)
    (ite
       (trap
          (ite (raiseDev (modIsland (endAvfsFreeze (modIsland (count (tick h))))))
             (endAvfsFreeze (modIsland (count (tick h))))))
       (ite (raiseDev (modIsland (endAvfsFreeze (modIsland (count (tick h)))))) (endAvfsFreeze (modIsland (count (tick h))))))
theorem execThermalSample {t island tj} (h : s.InForm k) : Out.InForm (execThermalSample t island tj s) k :=
  Out.InForm.ite (tick h)
    (Out.InForm.ite
       (ite (raiseDev (modIsland (ite (raiseDev (modIsland (tick h))) (modIsland (tick h)))))
          (modIsland (ite (raiseDev (modIsland (tick h))) (modIsland (tick h)))))
       (Out.InForm.ite
          (Out.InForm.ite (modIsland (ite (raiseDev (modIsland (tick h))) (modIsland (tick h))))
             (raiseDev
                (modIsland
                   (ite (resetIsland (clusterEvent (modIsland (ite (raiseDev (modIsland (tick h))) (modIsland (tick h))))))
                      (modIsland (ite (raiseDev (modIsland (tick h))) (modIsland (tick h))))))))
          (Out.InForm.ite (modIsland (modIsland (ite (raiseDev (modIsland (tick h))) (modIsland (tick h)))))
             (modIsland (ite (raiseDev (modIsland (tick h))) (modIsland (tick h)))))))
theorem execLdoFault {t island} (h : s.InForm k) : Out.InForm (execLdoFault t island s) k :=
  Out.InForm.ite (tick h)
    (ite (quarantineAll (ite (resetIsland (clusterEvent (modIsland (tick h)))) (clusterEvent (modIsland (tick h)))))
       (ite (resetIsland (clusterEvent (modIsland (tick h)))) (clusterEvent (modIsland (tick h)))))
theorem leaveReset {n} (h : s.InForm k) : (s.leaveReset n).InForm k := modIsland h
theorem linkBroken {die} (h : s.InForm k) : (s.linkBroken die).InForm k := secLog (raiseDev (retrain h))
theorem execIntegrityFrame {t die dir f} (h : s.InForm k) : Out.InForm (execIntegrityFrame t die dir f s) k :=
  Out.InForm.ite (tick h)
    (Out.InForm.ite (Out.InForm.ite (modLink (tick h)) (foldl (modLink (tick h)) (fun h => ite (count h) h)))
       (ite (linkBroken (modLink (count (tick h)))) (modLink (count (tick h)))))
theorem linkTrained {die good} (h : s.InForm k) : (s.linkTrained die good).InForm k :=
  ite (linkFail h)
    (ite (raiseDev (ite (raiseDev (rest (modLink (free (free h))))) (rest (modLink (free (free h))))))
       (ite (raiseDev (rest (modLink (free (free h))))) (rest (modLink (free (free h))))))
theorem setFreeze {loop target until_} (h : s.InForm k) : (s.setFreeze loop target until_).InForm k := by
  unfold State.setFreeze
  dsimp only
  split
  · exact modIsland h
  · exact h
  · exact modLink h
  · exact h
  · exact h
  · exact h
theorem execLoopFreezeExpiry {t loop target} (h : s.InForm k) : Out.InForm (execLoopFreezeExpiry t loop target s) k := by
  unfold Machine.execLoopFreezeExpiry
  dsimp only
  split
  · exact Out.InForm.ite (setFreeze (tick h)) (tick h)
  · exact tick h
theorem islStatusWork {tag io a} (h : s.InForm k) : (islStatusWork tag io a s).InForm k :=
  Answer.InForm.ite (Answer.InForm.status h) (Answer.InForm.ite (Answer.InForm.status h) (Answer.InForm.ok h))
theorem islLinkStatusWork {tag io a} (h : s.InForm k) : (islLinkStatusWork tag io a s).InForm k :=
  Answer.InForm.ite (Answer.InForm.status h) (Answer.InForm.ok h)
theorem islLoopFreezeWork {tag io a} (h : s.InForm k) : (islLoopFreezeWork tag io a s).InForm k := by
  unfold Machine.islLoopFreezeWork
  dsimp only
  split
  · exact Answer.InForm.status h
  · exact Answer.InForm.ite (Answer.InForm.ok (setFreeze h))
      (Answer.InForm.ite (Answer.InForm.status h)
        (Answer.InForm.ite (Answer.InForm.status h) (Answer.InForm.ok (setFreeze h))))
theorem loopOut {loop target} (h : s.InForm k) : (s.loopOut loop target).2.InForm k := by
  unfold State.loopOut
  dsimp only
  split
  · exact h
  · exact h
  · exact h
  · exact h
  · exact free h
theorem islLoopStatusWork {tag io a} (h : s.InForm k) : (islLoopStatusWork tag io a s).InForm k := by
  unfold Machine.islLoopStatusWork
  dsimp only
  split
  · exact Answer.InForm.status h
  · exact Answer.InForm.ok (loopOut h)
theorem commandReset {n} (h : s.InForm k) : (s.commandReset n).InForm k := by
  unfold State.commandReset
  exact resetIsland (clusterEvent (modSea h))
theorem islResetWork {tag io a} (h : s.InForm k) : (islResetWork tag io a s).InForm k :=
  Answer.InForm.ite (Answer.InForm.status h)
    (Answer.InForm.ite (Answer.InForm.status h) (Answer.InForm.ite (Answer.InForm.ok (commandReset h)) (modSea (defer h))))
theorem islResetPending {k' c} (h : s.InForm k) : (s.islResetPending k' c).InForm k :=
  ite (ticketDone (modSea h)) (ite (ticketDone (commandReset h)) (ite (ticketDone (modSea h)) h))

/-! ### PTP and the time area -/

theorem ptpTake {n m follow lo hi f} (h : s.InForm k) (hf : ∀ {d x}, (f d x).InForm k) :
    (s.ptpTake n m follow lo hi f).InForm k := by
  unfold State.ptpTake
  split
  · exact h
  · split
    · exact h
    · split
      · exact count h
      · exact ite (count h) (ite (count h) hf)
theorem syncDone {n diff} (h : s.InForm k) : (s.syncDone n diff).InForm k := takeOffset (modShadow h)
theorem execPtpFollowUp {t shadow m} (h : s.InForm k) : Out.InForm (execPtpFollowUp t shadow m s) k :=
  ptpTake (tick h) (by
    intro d x
    split
    · exact ite (syncDone (tick h)) (count (tick h))
    · exact count (tick h))
theorem execPtpAnnounce {t shadow m} (h : s.InForm k) : Out.InForm (execPtpAnnounce t shadow m s) k := by
  have ht := tick h (t := t)
  refine ptpTake ht ?_
  intro d x
  have hb {c c' : Prop} [Decidable c] [Decidable c'] {f g i} := ite (c := c)
    (ite (c := c') (modTim (modShadow (modShadow ht (n := shadow) (f := f)) (n := shadow) (f := g)) (f := i))
    (modShadow (modShadow ht (n := shadow) (f := f)) (n := shadow) (f := g))) (modShadow ht (n := shadow) (f := f))
  dsimp only
  split
  · exact hb
  · exact ite (acquire hb) hb
theorem execPtpDelayResp {t shadow m} (h : s.InForm k) : Out.InForm (execPtpDelayResp t shadow m s) k :=
  ptpTake (tick h) (by
    intro d x
    dsimp only
    split
    · exact ite (modShadow (tick h)) (count (tick h))
    · exact count (tick h))
theorem execDelayReqSend {t shadow} (h : s.InForm k) : Out.InForm (execDelayReqSend t shadow s) k := by
  unfold Machine.execDelayReqSend
  dsimp only
  split
  · exact tick h
  · split
    · exact tick h
    · exact sendPtp (modShadow (tick h))
theorem execAnnounceReceiptTimeout {t shadow} (h : s.InForm k) : Out.InForm (execAnnounceReceiptTimeout t shadow s) k := by
  unfold Machine.execAnnounceReceiptTimeout
  dsimp only
  split
  · exact listen (modShadow (tick h))
  · exact tick h
theorem execSlewEnd {t} (h : s.InForm k) : Out.InForm (execSlewEnd t s) k := by
  unfold Machine.execSlewEnd
  dsimp only
  split
  · exact ite (modTim (tick h)) (tick h)
  · exact tick h
theorem modMaster {port f} (h : s.InForm k) : (s.modMaster port f).InForm k := modTim h
theorem execMasterSyncSend {t port} (h : s.InForm k) : Out.InForm (execMasterSyncSend t port s) k := by
  unfold Machine.execMasterSyncSend
  dsimp only
  split
  · exact tick h
  · exact sendPtp (modMaster (tick h))
theorem execMasterAnnounceSend {t port} (h : s.InForm k) : Out.InForm (execMasterAnnounceSend t port s) k := by
  unfold Machine.execMasterAnnounceSend
  dsimp only
  split
  · exact tick h
  · exact sendPtp (modMaster (tick h))
theorem execMasterDelayReq {t port m} (h : s.InForm k) : Out.InForm (execMasterDelayReq t port m s) k := by
  unfold Machine.execMasterDelayReq
  dsimp only
  split
  · exact tick h
  · exact Out.InForm.ite (tick h) (sendPtp (tick h))
theorem ppsRise {out} (h : s.InForm k) : (s.ppsRise out).InForm k :=
  ite (emitOut (modTim (rearm (fireMark h)))) (rearm (fireMark h))
theorem timeStatusWork {tag io a} (h : s.InForm k) : (timeStatusWork tag io a s).InForm k := Answer.InForm.ok h
theorem timeShadowStatusWork {tag io a} (h : s.InForm k) : (timeShadowStatusWork tag io a s).InForm k := Answer.InForm.ok h
theorem timeDomainSetWork {tag io a} (h : s.InForm k) : (timeDomainSetWork tag io a s).InForm k :=
  Answer.InForm.ite (Answer.InForm.status h) (stage h)
theorem timeMasterSetWork {tag io a} (h : s.InForm k) : (timeMasterSetWork tag io a s).InForm k :=
  Answer.InForm.ite (Answer.InForm.status h) (stage h)
theorem jumpAccept {n} (h : s.InForm k) : (s.jumpAccept n).InForm k := switchEvent (modTim (modShadow (step h)))
theorem timeJumpAcceptWork {tag io a} (h : s.InForm k) : (timeJumpAcceptWork tag io a s).InForm k :=
  Answer.InForm.ite (Answer.InForm.status h) (Answer.InForm.ok (jumpAccept h))
theorem timeCmpSetWork {tag io a} (h : s.InForm k) : (timeCmpSetWork tag io a s).InForm k :=
  Answer.InForm.ite (Answer.InForm.status h)
    (Answer.InForm.ite (Answer.InForm.status h)
       (Answer.InForm.ite (Answer.InForm.ok (modCmp h)) (Answer.InForm.ok (modCmp h))))
theorem timeCmpStatusWork {tag io a} (h : s.InForm k) : (timeCmpStatusWork tag io a s).InForm k := Answer.InForm.ok h
theorem timePpsInGetWork {tag io a} (h : s.InForm k) : (timePpsInGetWork tag io a s).InForm k := Answer.InForm.ok h

/-! ### Epochs and the books -/

theorem epochCounts (h : s.InForm k) : s.epochCounts.InForm k := h
theorem latch {late reset sec ns} (h : s.InForm k) : (s.latch late reset sec ns).InForm k := epochCounts h
theorem boundaryFire (h : s.InForm k) : s.boundaryFire.InForm k :=
  setTargets (boundaryCommits (armBoundary (latch (fireMark (ite (freezePoint (modCmp (fireMark h))) h)))))
theorem checkBooks (h : s.InForm k) : s.checkBooks.InForm k :=
  foldl h (fun h => by
    split
    · exact h
    · exact ite h (raise h))
theorem statEpochWork {tag io a} (h : s.InForm k) : (statEpochWork tag io a s).InForm k := Answer.InForm.ok h
theorem statReadWork {tag io a} (h : s.InForm k) : (statReadWork tag io a s).InForm k := by
  unfold Machine.statReadWork
  extract_lets
  refine Answer.InForm.ite (Answer.InForm.status h) (Answer.InForm.ite (Answer.InForm.status h) ?_)
  split
  · exact Answer.InForm.status h
  · refine Answer.InForm.ite (Answer.InForm.status h) ?_
    extract_lets
    refine Answer.InForm.ite (Answer.InForm.status h) ?_
    extract_lets
    split
    extract_lets
    split
    · next e => exact Answer.InForm.ok (of_snd e (hostWrite h))
    · next e => exact Answer.InForm.status (of_snd e (hostWrite h))
theorem statBooksWork {tag io a} (h : s.InForm k) : (statBooksWork tag io a s).InForm k := by
  unfold Machine.statBooksWork
  split
  · exact Answer.InForm.status h
  · exact Answer.InForm.ok h

/-! ### Restarts and resets -/

theorem modLcy {f} (h : s.InForm k) : (s.modLcy f).InForm k := h
theorem modMbx {f} (h : s.InForm k) : (s.modMbx f).InForm k := h
theorem modEvt {f} (h : s.InForm k) : (s.modEvt f).InForm k := h
theorem warmStart (h : s.InForm k) : s.warmStart.InForm k := foldl (linkLost (modLcy h)) markAbort
theorem restartBegin {warm} (h : s.InForm k) : (s.restartBegin warm).InForm k :=
  ite (warmStart (modMbx (modLcy h))) (modMbx (modLcy h))
theorem releaseHeld (h : s.InForm k) : s.releaseHeld.InForm k := modEvt h
theorem ticketsEnd (h : s.InForm k) : s.ticketsEnd.InForm k := foldl (modTest (modSea h)) ticketDone
theorem zeroiseEnd (h : s.InForm k) : s.zeroiseEnd.InForm k := by
  unfold State.zeroiseEnd
  dsimp only
  split
  · exact h
  · exact modEvt (modSec (secLog h))
theorem netReset (h : s.InForm k) : s.netReset.InForm k :=
  modNet
    (foldl (foldl h (fun h => ite (raiseDev (endEqFreeze (flushPort (modPort h)))) (endEqFreeze (flushPort (modPort h)))))
       count)
theorem audReset (h : s.InForm k) : s.audReset.InForm k := modAud (foldl h rxRestart)
theorem evtReset (h : s.InForm k) : s.evtReset.InForm k :=
  foldl (foldl (modEvt h) (fun h => foldl h loseRecord)) (fun h => ite h (loseRecord h))
theorem isolate {n} (h : s.InForm k) : (s.isolate n).InForm k := modIsland (free h)
theorem execHubIslandReset {t island} (h : s.InForm k) : Out.InForm (execHubIslandReset t island s) k := by
  unfold Machine.execHubIslandReset
  dsimp only
  split
  · exact tick h
  · split
    · exact ite (restartBegin (isolate (tick h))) (isolate (tick h))
    · exact linkLost (isolate (tick h))
    · exact netReset (isolate (tick h))
    · exact assignBuses (audReset (isolate (tick h)))
    · exact suspendDrover (isolate (tick h))
    · exact evtReset (isolate (tick h))
    · exact isolate (tick h)
theorem cellsReset (h : s.InForm k) : s.cellsReset.InForm k := by
  unfold State.cellsReset
  extract_lets works leases s1 s2 s3 s4 s5
  have h1 : s1.InForm k := foldl h fun h => ite (restoreLock h) h
  have h2 : s2.InForm k := modSeaForm h1 (twf_map fun _ => rfl) id
  have h5 : s5.InForm k := foldl (modTest (modTest h2)) endJob
  refine foldl h5 fun h => ?_
  split
  · exact abortSes h
  · exact h
theorem clustersReset (h : s.InForm k) : s.clustersReset.InForm k :=
  foldl (foldl h (fun h => ackFor (loseCredits (isolate h)))) (fun h => ite (auditRequest h) h)
theorem instancesLost (h : s.InForm k) : s.instancesLost.InForm k := rest (foldl (bumpAll h) disabled)
theorem stewardReset (h : s.InForm k) : s.stewardReset.InForm k := modMbx (rollbackOpen h)
theorem warmReset (h : s.InForm k) : s.warmReset.InForm k := by
  unfold State.warmReset
  exact modLcy (foldl (audReset (netReset (stewardReset (instancesLost (clustersReset (cellsReset (latch h))))))) isolate)
theorem startTime (h : s.InForm k) : s.startTime.InForm k := armPps (armBoundary h)
theorem coldReset {last} : (s.coldReset last).InForm k :=
  startTime (of_empty rfl rfl rfl rfl rfl rfl)

/-! ### Detectors, keys and zeroisation -/

theorem burn {w bits burnt} (h : s.InForm k) : (s.burn w bits burnt).2.InForm k := modLcy h
theorem random (h : s.InForm k) : s.random.2.InForm k := h
theorem zeroStop (h : s.InForm k) : s.zeroStop.InForm k := by
  have hc {l : List (Nat × Session)} := foldl h (l := l) (f := fun s p =>
    if p.2.counted then s
    else if p.2.inFlight then s.countOutcome p.1 .abort
    else match p.2.outcome with | some o => s.countOutcome p.1 o | none => s) fun h => ite h (ite (countOutcome h) (by
      split
      · exact countOutcome h
      · exact h))
  unfold State.zeroStop
  exact modAud (foldl (foldl (rest hc) modSeg) fun h => modCart (cartOff h))
theorem zeroCells (h : s.InForm k) : s.zeroCells.InForm k :=
  modTest (memForm (modSeaForm h (twf_map fun _ => rfl) fun _ => rfl) id)
theorem zeroQueues (h : s.InForm k) : s.zeroQueues.InForm k :=
  modNet (rest (modEvt (foldl (evtReset h) (fun h => modEvq (modInst h)))))
theorem zeroStore (h : s.InForm k) : s.zeroStore.InForm k :=
  memCapForm (modAud (modFare (foldl (manForm h fun _ => rfl) domainCommitted))) Memory.wf_filter fun _ => rfl
theorem zeroise {cause} (h : s.InForm k) : (s.zeroise cause).InForm k :=
  ite h (restartBegin (zeroStore (zeroQueues (zeroCells (zeroStop (capForm h id))))))
theorem trip {n value} (h : s.InForm k) : (s.trip n value).InForm k :=
  ite (ite (modBat h) h)
    (ite (ite (zeroise (secLog (ite (modBat h) h))) (modBat (secLog (ite (modBat h) h))))
       (ite (raiseDev (ite (modSec (secLog (ite (modBat h) h))) (secLog (ite (modBat h) h))))
          (ite (modSec (secLog (ite (modBat h) h))) (secLog (ite (modBat h) h)))))
theorem execMemIntegrityFail {t cell} (h : s.InForm k) : Out.InForm (execMemIntegrityFail t cell s) k :=
  Out.InForm.ite (tick h)
    (ite (trip (modSec (ite (trap (raiseDev (secLog (modSec (tick h))))) (raiseDev (secLog (modSec (tick h)))))))
       (ite (trap (raiseDev (secLog (modSec (tick h))))) (raiseDev (secLog (modSec (tick h))))))
theorem execUnlockResponse {t sig} (h : s.InForm k) : Out.InForm (execUnlockResponse t sig s) k := by
  unfold Machine.execUnlockResponse
  dsimp only
  split
  · exact tick h
  · exact ite (modSec (secLog (zeroise (emitOut (modSec (tick h)))))) (emitOut (modSec (tick h)))
theorem importFailed {tag} (h : s.InForm k) : (s.importFailed tag).InForm k :=
  ite (modSec (count h)) (secLog (modSec (count h)))
theorem secImport {tag code b handle} (h : s.InForm k) : (s.secImport tag code b handle).InForm k := by
  unfold State.secImport
  dsimp only
  split
  · exact Answer.InForm.status (importFailed h)
  · split
    · exact Answer.InForm.status h
    · next e =>
      split
      · next e' => exact (e' ▸ stage (modSec (mintRoot h e)) :)
      · exact Answer.InForm.status h
      · exact stage (modSec (mintRoot h e))
theorem secKeyImportWork {tag io a} (h : s.InForm k) : (secKeyImportWork tag io a s).InForm k := by
  unfold Machine.secKeyImportWork
  dsimp only
  split
  · exact Answer.InForm.status h
  · split
    · exact Answer.InForm.status h
    · split
      · next e1 =>
          exact Answer.InForm.status (hostRead_error h e1)
      · next e1 =>
          exact secImport (hostRead_ok h e1)
theorem secStatusWork {tag io a} (h : s.InForm k) : (secStatusWork tag io a s).InForm k :=
  Answer.InForm.ok (modBat (free h))
theorem secLogReadWork {tag io a} (h : s.InForm k) : (secLogReadWork tag io a s).InForm k := by
  unfold Machine.secLogReadWork
  split
  · exact Answer.InForm.ok h
  · exact Answer.InForm.status h
theorem attestation {duk nonce} (h : s.InForm k) : (s.attestation duk nonce).2.InForm k := h
theorem secCertGetWork {tag io a} (h : s.InForm k) : (secCertGetWork tag io a s).InForm k := by
  unfold Machine.secCertGetWork
  dsimp only
  split
  · exact Answer.InForm.status h
  · split
    · exact Answer.InForm.status h
    · split
      · next e1 =>
          exact Answer.InForm.ok (of_snd e1 (hostWrite (attestation h)))
      · next e1 =>
          exact Answer.InForm.status (of_snd e1 (hostWrite (attestation h)))
theorem secLoopSetWork {tag io a} (h : s.InForm k) : (secLoopSetWork tag io a s).InForm k := stage h
theorem secZeroiseWork {tag io a} (h : s.InForm k) : (secZeroiseWork tag io a s).InForm k :=
  Answer.InForm.ite (Answer.InForm.status h) (zeroise h)
theorem trngReady (h : s.InForm k) : s.trngReady.2.InForm k := ite_snd h (ite_snd (modSec (free h)) (free h))
theorem reenrol {io} (h : s.InForm k) : (s.reenrol io).InForm k :=
  Answer.InForm.ite (Answer.InForm.status h)
    (Answer.InForm.ite (Answer.InForm.status (trngReady h))
       (Answer.InForm.ite (Answer.InForm.status (trngReady h))
          (Answer.InForm.ite (Answer.InForm.status (ite_snd (burn (trngReady h)) (trngReady h)))
             (Answer.InForm.ok (secLog (modBat (random (ite_snd (burn (trngReady h)) (trngReady h)))))))))
theorem secReenrolPut {tag a s'} (h : s.InForm k) (e : secReenrolPut tag a s = .ok s') : s'.InForm k := barOf h e
theorem secReenrolWork {tag io a} (h : s.InForm k) : (secReenrolWork tag io a s).InForm k := reenrol h
theorem secDebugArmWork {tag io a} (h : s.InForm k) : (secDebugArmWork tag io a s).InForm k :=
  Answer.InForm.ite (Answer.InForm.status h) (stage h)

/-! ### Cartridge slots -/

theorem cartStep {n k'} (h : s.InForm k) : (s.cartStep n k').InForm k := modCart h
theorem cartLocked {n} (h : s.InForm k) : (s.cartLocked n).InForm k := cartEvent (modCart h)
theorem lockData {n mode pwd} (h : s.InForm k) : (s.lockData n mode pwd).InForm k := card (card h)
theorem speedSwitch {n good l} (h : s.InForm k) : (State.speedSwitch n good l s).InForm k := by
  induction l generalizing s with
  | nil => exact h
  | cons m r ih => exact ite (modCart (card (card h))) (ih (count (card (card (card h)))))
theorem cartScan {n r} (h : s.InForm k) : (s.cartScan n r).InForm k := by
  unfold State.cartScan
  dsimp only
  split
  · exact modCart h
  · exact modCart h
theorem initStep {n r} (h : s.InForm k) : (s.initStep n r).InForm k := by
  unfold State.initStep
  dsimp only
  split
  · exact cartStep h
  · exact cartStep (card h)
  · exact ite (cartFail (card h)) (cartStep (card h))
  · exact ite (cartRetry (card (card h)))
      (ite (card (card h)) (ite (cartFail (card (card h))) (cartStep (modCart (card (card h))))))
  · exact ite (cartStep (modCart h))
      (ite (cartStep (modCart (card (modCart h)))) (cartCycle (modCart (count (card (modCart h))))))
  · exact ite (cartFail (card (card (card h)))) (cartStep (modCart (card (card (card h)))))
  · exact ite (cartRetry (card h)) (cartStep (card h))
  · exact ite (cartRetry (card h)) (cartStep (modCart (card h)))
  · split
    · exact cartStep h
    · split
      · exact ite (cartStep (modCart (lockData h))) (cartLocked (modCart (lockData h)))
      · exact cartLocked h
  · exact ite (cartRetry (card (card h))) (cartStep (modCart (card (card h))))
  · exact cartStep (ite (card (card h))
      (ite (card (card (card (card (card (card h))))))
        (modCart (count (card (card (card (card (card (card (card (card h))))))))))))
  · exact ite (cartEvent (modCart (modCart (card h))))
      (ite (cartStep (modCart (modCart (card h)))) (cartEvent (modCart (modCart (modCart (card h))))))
  · exact cartStep (speedSwitch h)
  · exact cartStep (by
      split
      · exact ite (ite (lockData h) (modCart (lockData h))) h
      · exact h)
  · exact cartStep (cartScan h)
  · exact cartFullCheck (cartEvent (modCart h))
theorem blockStart {n b} (h : s.InForm k) : (s.blockStart n b).InForm k := modCart (card h)
theorem execCartBlockWrite {t slot} (h : s.InForm k) : Out.InForm (execCartBlockWrite t slot s) k := by
  unfold Machine.execCartBlockWrite
  dsimp only
  split
  · exact tick h
  · split
    · exact blockStart (modCart (tick h))
    · split
      · exact modCart (ite (cartHeader (tick h)) (tick h))
      · exact blockStart (modCart (ite (cartHeader (tick h)) (tick h)))
theorem blockAfter {n} (h : s.InForm k) : (s.blockAfter n).InForm k :=
  ite (cartEject (cartFullCheck (ite (cartHeader h) h))) (cartFullCheck (ite (cartHeader h) h))
theorem blockGood {n b} (h : s.InForm k) : (s.blockGood n b).InForm k :=
  blockAfter (ite (count (foldl (modCart h) cartAnswer)) (foldl (modCart h) cartAnswer))
theorem blockBad {n b} (h : s.InForm k) : (s.blockBad n b).InForm k :=
  ite (modCart h) (ite (cartEject (foldl (modCart h) cartAnswer)) (cartRetry h))
theorem execCartBlockDone {t slot good} (h : s.InForm k) : Out.InForm (execCartBlockDone t slot good s) k := by
  unfold Machine.execCartBlockDone
  dsimp only
  split
  · exact ite (blockGood (tick h)) (blockBad (tick h))
  · exact tick h
theorem execCartBusyTimeout {t slot} (h : s.InForm k) : Out.InForm (execCartBusyTimeout t slot s) k := by
  unfold Machine.execCartBusyTimeout
  dsimp only
  split
  · exact ite (blockBad (tick h)) (tick h)
  · exact tick h
theorem cartBindWork {tag io a} (h : s.InForm k) : (cartBindWork tag io a s).InForm k := by
  unfold Machine.cartBindWork
  dsimp only
  split
  · exact Answer.InForm.status h
  · exact Answer.InForm.ite (Answer.InForm.status h)
      (Answer.InForm.ite (stage h) (Answer.InForm.ite (Answer.InForm.status h) (stage h)))
theorem cartStatusWork {tag io a} (h : s.InForm k) : (cartStatusWork tag io a s).InForm k :=
  Answer.InForm.ite (Answer.InForm.status h) (Answer.InForm.ok h)
theorem journalRead {tag a io} (h : s.InForm k) : (s.journalRead tag a io).InForm k := by
  unfold State.journalRead
  dsimp only
  split
  · exact Answer.InForm.status h
  · split
    · exact Answer.InForm.status h
    · split
      · next e2 =>
          exact Answer.InForm.ok (of_snd e2 (hostWrite h))
      · next e2 =>
          exact Answer.InForm.status (of_snd e2 (hostWrite h))
theorem cartJournalReadPut {tag a s'} (h : s.InForm k) (e : cartJournalReadPut tag a s = .ok s') : s'.InForm k := barOf h e
theorem cartJournalReadWork {tag io a} (h : s.InForm k) : (cartJournalReadWork tag io a s).InForm k := journalRead h
theorem cartJournalMarkWork {tag io a} (h : s.InForm k) : (cartJournalMarkWork tag io a s).InForm k := by
  unfold Machine.cartJournalMarkWork
  dsimp only
  split
  · exact Answer.InForm.status h
  · exact Answer.InForm.ite (Answer.InForm.status h)
      (Answer.InForm.ok (cartFullCheck (ite (modCart (modCart h)) (cartHeader (modCart h)))))
theorem cartDataListWork {tag io a} (h : s.InForm k) : (cartDataListWork tag io a s).InForm k := by
  unfold Machine.cartDataListWork
  dsimp only
  split
  · exact Answer.InForm.status h
  · split
    · exact Answer.InForm.status h
    · split
      · exact Answer.InForm.status h
      · split
        · next e2 =>
            exact Answer.InForm.ok (of_snd e2 (hostWrite h))
        · next e2 =>
            exact Answer.InForm.status (of_snd e2 (hostWrite h))
theorem dataStage {tag a io} (h : s.InForm k) : (s.dataStage tag a io).InForm k := by
  unfold State.dataStage
  dsimp only
  split
  · exact Answer.InForm.status h
  · exact Answer.InForm.status h
  · split
    · exact Answer.InForm.status h
    · split
      · exact Answer.InForm.status h
      · exact Answer.InForm.ite (Answer.InForm.status h) (stageTable h)
      · exact Answer.InForm.ite (stageDelta h) (Answer.InForm.status h)
      · exact Answer.InForm.ite (stageClips h) (Answer.InForm.status h)
      · split
        · exact Answer.InForm.status h
        · split
          · exact Answer.InForm.status h
          · exact secImport h
      · exact Answer.InForm.status h
theorem cartDataStagePut {tag a s'} (h : s.InForm k) (e : cartDataStagePut tag a s = .ok s') : s'.InForm k := barOf h e
theorem cartDataStageWork {tag io a} (h : s.InForm k) : (cartDataStageWork tag io a s).InForm k := dataStage h
theorem cartFormatWork {tag io a} (h : s.InForm k) : (cartFormatWork tag io a s).InForm k :=
  Answer.InForm.ite (Answer.InForm.status h)
    (Answer.InForm.ite (Answer.InForm.status h) (Answer.InForm.ite (Answer.InForm.status h) (stage h)))
theorem cartForceEraseWork {tag io a} (h : s.InForm k) : (cartForceEraseWork tag io a s).InForm k := stage h
theorem cartEjectWork {tag io a} (h : s.InForm k) : (cartEjectWork tag io a s).InForm k := by
  unfold Machine.cartEjectWork
  dsimp only
  split
  · exact Answer.InForm.status h
  · split
    · exact Answer.InForm.ok (ite (modCart (foldl (modCart h) cartAnswer)) (cartEject (foldl (modCart h) cartAnswer)))
    · exact Answer.InForm.ok (cartEject h)
    · exact Answer.InForm.ok (cartEject h)
    · exact Answer.InForm.ok (cartEject h)
    · exact Answer.InForm.ok (cartEject h)
    · exact Answer.InForm.status h

/-! ### The event fabric and the host registers -/

theorem deliver {r rcpt copy io} (h : s.InForm k) : (s.deliver r rcpt copy io).InForm k := by
  unfold State.deliver
  dsimp only
  split
  · exact xlateFault (writeRecord h)
  · exact writeRecord h
theorem occur {r io p} (h : s.InForm k) : (s.occur r io p).InForm k := by
  unfold State.occur
  dsimp only
  split
  · split
    · exact h
    · exact rest (deliver h)
  · exact deliver h
theorem execEventRecordWrite {t io} (h : s.InForm k) : Out.InForm (execEventRecordWrite t io s) k := by
  unfold Machine.execEventRecordWrite
  dsimp only
  split
  · exact tick h
  · exact foldl (rest (tick h)) occur
theorem execCoalesceWindowEnd {t tag key io} (h : s.InForm k) : Out.InForm (execCoalesceWindowEnd t tag key io s) k := by
  unfold Machine.execCoalesceWindowEnd
  dsimp only
  split
  · exact tick h
  · split
    · exact tick h
    · split
      · exact rest (tick h)
      · exact deliver (rest (tick h))
theorem execIrqHoldoffEnd {t tag vec} (h : s.InForm k) : Out.InForm (execIrqHoldoffEnd t tag vec s) k := by
  unfold Machine.execIrqHoldoffEnd
  dsimp only
  split
  · exact tick h
  · exact Out.InForm.ite (tick h) (ite (evSignal (modEvq (tick h))) (modEvq (tick h)))
theorem evtMaskSetWork {tag io a} (h : s.InForm k) : (evtMaskSetWork tag io a s).InForm k :=
  Answer.InForm.ite (Answer.InForm.status h)
    (Answer.InForm.ite (Answer.InForm.status h)
       (Answer.InForm.ite (Answer.InForm.status h)
          (Answer.InForm.ite (Answer.InForm.ok (modEvq h)) (Answer.InForm.ok (modEvq h)))))
theorem evtMaskGetWork {tag io a} (h : s.InForm k) : (evtMaskGetWork tag io a s).InForm k :=
  Answer.InForm.ite (Answer.InForm.status h) (Answer.InForm.ite (Answer.InForm.status h) (Answer.InForm.ok h))
theorem evtSrcMaskWork {tag io a} (h : s.InForm k) : (evtSrcMaskWork tag io a s).InForm k :=
  Answer.InForm.ite (Answer.InForm.status h) (Answer.InForm.ok h)
theorem evtStatusWork {tag io a} (h : s.InForm k) : (evtStatusWork tag io a s).InForm k :=
  Answer.InForm.ite (Answer.InForm.status h) (Answer.InForm.ok h)
theorem msxWrite {fn v f} (h : s.InForm k) : (s.msxWrite fn v f).InForm k := ite (msixFlush (modFunc h)) h
theorem execRegisterWrite {t reg v} (h : s.InForm k) : Out.InForm (execRegisterWrite t reg v s) k := by
  unfold Machine.execRegisterWrite
  dsimp only
  split
  · exact Out.InForm.ite (tick h) (modPage (tick h))
  · exact Out.InForm.ite (tick h) (modPage (tick h))
  · exact Out.InForm.ite (tick h) (modPage (tick h))
  · exact Out.InForm.ite (tick h) (modInst (tick h))
  · exact rest (tick h)
  · exact msxWrite (tick h)
  · exact msxWrite (tick h)
  · exact msxWrite (tick h)
  · exact msxWrite (tick h)
  · exact Out.InForm.ite (tick h) (msixFlush (modFunc (tick h)))
  · exact Out.InForm.ite (rest (tick h)) (tick h)
  · exact tick h

/-! ### Capabilities in cells and call gates -/

theorem execCapabilityStore {t cell auth off src} (h : s.InForm k) : Out.InForm (execCapabilityStore t cell auth off src s) k
    := by
  unfold Machine.execCapabilityStore
  dsimp only
  split
  · exact tick h
  · split
    · next e0 =>
        exact trap (cellAccess_error (tick h) e0)
    · next e0 =>
        exact bufferStore (cellAccess_ok (tick h) e0)
theorem execCapabilityLoad {t cell auth off dst} (h : s.InForm k) : Out.InForm (execCapabilityLoad t cell auth off dst s) k :=
    by
  unfold Machine.execCapabilityLoad
  dsimp only
  split
  · exact tick h
  · split
    · next e0 =>
        exact trap (cellAccess_error (tick h) e0)
    · next e0 =>
        split
        · split
          · exact modCell (cellAccess_ok (tick h) e0)
          · exact modCell (cellAccess_ok (tick h) e0)
        · exact modCell (fetch (cellAccess_ok (tick h) e0))
theorem execCallGateEntry {t cell reg ret} (h : s.InForm k) : Out.InForm (execCallGateEntry t cell reg ret s) k := by
  have ht := tick h (t := t)
  unfold Machine.execCallGateEntry
  dsimp only
  split
  · exact ht
  · split
    · exact trap ht
    · exact modCell (capForm ht id)
theorem execCallGateReturn {t cell reg} (h : s.InForm k) : Out.InForm (execCallGateReturn t cell reg s) k := by
  unfold Machine.execCallGateReturn
  dsimp only
  split
  · exact tick h
  · split
    · exact trap (tick h)
    · exact modCell (tick h)
theorem execHubRequestReturn {t cell body io} (h : s.InForm k) : Out.InForm (execHubRequestReturn t cell body io s) k := by
  unfold Machine.execHubRequestReturn
  dsimp only
  split
  · exact Out.InForm.ite (endJob (drainAll (tick h))) (tick h)
  · exact tick h

/-! ### Lane Link rows and commands -/

theorem execTurnStart {t seg mismatch} (h : s.InForm k) : Out.InForm (execTurnStart t seg mismatch s) k := by
  unfold Machine.execTurnStart
  dsimp only
  refine Out.InForm.ite (tick h) ?_
  split
  · exact modSeg (pruneAssigns (tick h))
  · exact ite (failTurn (count (turnSend (modSeg (pruneAssigns (tick h)))))) (turnSend (modSeg (pruneAssigns (tick h))))
theorem execTurnFailed {t seg} (h : s.InForm k) : Out.InForm (execTurnFailed t seg s) k := by
  unfold Machine.execTurnFailed
  dsimp only
  split
  · exact tick h
  · exact tick h
  · exact failTurn (tick h)
theorem execTransmissionDropped {t seg raw} (h : s.InForm k) : Out.InForm (execTransmissionDropped t seg raw s) k := by
  unfold Machine.execTransmissionDropped
  dsimp only
  split
  · exact tick h
  · split
    · exact Out.InForm.ite (modUnit (count (tick h))) (count (tick h))
    · exact count (tick h)
theorem newTap {lane b} (h : s.InForm k) : (s.newTap lane b).InForm k :=
  ite (ite (modFare (count h)) (await (modFare (count h))))
    (ite (admitTap (modFare (count h))) (modSeg (modFare (count h))))
theorem execTapReceived {t seg f} (h : s.InForm k) : Out.InForm (execTapReceived t seg f s) k :=
  Out.InForm.ite (tick h)
    (Out.InForm.ite (count (tick h))
       (Out.InForm.ite (tick h)
          (Out.InForm.ite (acceptUp (tick h))
             (Out.InForm.ite (count (acceptUp (tick h)))
                (Out.InForm.ite (count (acceptUp (tick h)))
                   (Out.InForm.ite (count (acceptUp (tick h))) (newTap (acceptUp (tick h)))))))))
theorem execContReceived {t seg f} (h : s.InForm k) : Out.InForm (execContReceived t seg f s) k := by
  unfold Machine.execContReceived
  dsimp only
  split
  · exact tick h
  · split
    · exact acceptUp (tick h)
    · split
      · exact acceptUp (tick h)
      · exact Out.InForm.ite (acceptUp (tick h))
          (Out.InForm.ite (abortSes (count (acceptUp (tick h))))
            (Out.InForm.ite (modSes (acceptUp (tick h))) (await (modSes (acceptUp (tick h))))))
theorem execApduRReceived {t seg f} (h : s.InForm k) : Out.InForm (execApduRReceived t seg f s) k := by
  unfold Machine.execApduRReceived
  dsimp only
  split
  · exact tick h
  · split
    · exact acceptUp (tick h)
    · split
      · exact ite (exchangeFailed (count (acceptUp (tick h)))) (count (acceptUp (tick h)))
      · split
        · exact count (acceptUp (tick h))
        · exact Out.InForm.ite (exchangeDone (acceptUp (tick h))) (exchangeFailed (acceptUp (tick h)))
theorem assigned {seg a} (h : s.InForm k) : (s.assigned seg a).InForm k :=
  ite (modUnit (modSeg h)) (ite (identityEvent (modUnit (modSeg h))) (identityEvent (modUnit (modSeg h))))
theorem execAckReceived {t seg addr seq} (h : s.InForm k) : Out.InForm (execAckReceived t seg addr seq s) k := by
  unfold Machine.execAckReceived
  dsimp only
  split
  · exact tick h
  · split
    · exact Out.InForm.ite (modUnit (turnDone (tick h))) (tick h)
    · exact Out.InForm.ite (modSes (modUnit (turnDone (tick h)))) (tick h)
    · split
      · exact Out.InForm.ite (assigned (tick h)) (tick h)
      · exact tick h
    · exact tick h
theorem garble {seg plen pfx slot} (h : s.InForm k) : (s.garble seg plen pfx slot).InForm k :=
  ite (identityEvent (modSeg (count (count h)))) (modSeg (count h))
theorem execHereReceived {t seg slot f} (h : s.InForm k) : Out.InForm (execHereReceived t seg slot f s) k := by
  unfold Machine.execHereReceived
  dsimp only
  split
  · exact Out.InForm.ite (tick h)
      (Out.InForm.ite (count (tick h))
        (Out.InForm.ite (garble (tick h))
          (Out.InForm.ite (count (heard (tick h)))
            (Out.InForm.ite (clash (heard (tick h))) (Out.InForm.ite (heard (tick h)) (modSeg (heard (tick h))))))))
  · exact tick h
theorem execHereGarble {t seg slot} (h : s.InForm k) : Out.InForm (execHereGarble t seg slot s) k := by
  unfold Machine.execHereGarble
  dsimp only
  split
  · exact Out.InForm.ite (tick h) (garble (tick h))
  · exact tick h
theorem execBarcodeTransferTimeout {t lane} (h : s.InForm k) : Out.InForm (execBarcodeTransferTimeout t lane s) k := by
  unfold Machine.execBarcodeTransferTimeout
  dsimp only
  split
  · exact Out.InForm.ite (abortSes (tick h)) (tick h)
  · exact tick h
theorem abortFree {lane} (h : s.InForm k) : (s.abortFree lane).InForm k := by
  unfold State.abortFree
  dsimp only
  split
  · exact h
  · exact ite (abortSes h) (conclude (modSes (free (free h))))
theorem execApduCommandQueue {t lane kind apdu} (h : s.InForm k) : Out.InForm (execApduCommandQueue t lane kind apdu s) k :=
    by
  unfold Machine.execApduCommandQueue
  dsimp only
  split
  · exact tick h
  · split
    · exact tick h
    · split
      · exact denySes (tick h)
      · split
        · exact tick h
        · exact Out.InForm.ite (abortFree (tick h)) (Out.InForm.ite (abortSes (tick h)) (modSes (by
      split
      · split
        · exact intent (by
      split
      · exact renew (tick h)
      · exact tick h)
        · split
          · exact renew (tick h)
          · exact tick h
      · split
        · exact renew (tick h)
        · exact tick h)))
theorem execExchangeTimeout {t lane} (h : s.InForm k) : Out.InForm (execExchangeTimeout t lane s) k := by
  unfold Machine.execExchangeTimeout
  dsimp only
  split
  · split
    · exact Out.InForm.ite (exchangeFailed (tick h)) (tick h)
    · exact tick h
  · exact tick h
theorem laneBindWork {tag io a} (h : s.InForm k) : (laneBindWork tag io a s).InForm k :=
  Answer.InForm.ite (Answer.InForm.status h) (Answer.InForm.ite (Answer.InForm.status h) (stage h))
theorem laneUnbindWork {tag io a} (h : s.InForm k) : (laneUnbindWork tag io a s).InForm k :=
  Answer.InForm.ite (Answer.InForm.status h) (stage h)
theorem laneStatusWork {tag io a} (h : s.InForm k) : (laneStatusWork tag io a s).InForm k :=
  Answer.InForm.ite (Answer.InForm.status h) (Answer.InForm.ok h)
theorem laneSegStatusWork {tag io a} (h : s.InForm k) : (laneSegStatusWork tag io a s).InForm k := Answer.InForm.ok h
theorem laneSegEnableWork {tag io a} (h : s.InForm k) : (laneSegEnableWork tag io a s).InForm k := stage h
theorem laneRollcallWork {tag io a} (h : s.InForm k) : (laneRollcallWork tag io a s).InForm k :=
  Answer.InForm.ite (Answer.InForm.status h)
    (Answer.InForm.ite (Answer.InForm.status h) (Answer.InForm.ok (ite (startCycle h) h)))
theorem laneForgetWork {tag io a} (h : s.InForm k) : (laneForgetWork tag io a s).InForm k := by
  unfold Machine.laneForgetWork
  dsimp only
  split
  · exact Answer.InForm.status h
  · exact Answer.InForm.ok (modSeg (modUnit h))
  · exact Answer.InForm.ok h

/-! ### Loads, stores, the directory and DMA pieces -/

theorem execCellLoad {t cell auth off size} (h : s.InForm k) : Out.InForm (execCellLoad t cell auth off size s) k := by
  unfold Machine.execCellLoad
  dsimp only
  split
  · exact tick h
  · split
    · next e0 =>
        exact trap (cellAccess_error (tick h) e0)
    · next e0 =>
        split
        · exact Out.InForm.ite (modCell (cellAccess_ok (tick h) e0)) (modCell (cellAccess_ok (tick h) e0))
        · exact modCell (fetch (cellAccess_ok (tick h) e0))
theorem execCellStore {t cell auth off data} (h : s.InForm k) : Out.InForm (execCellStore t cell auth off data s) k := by
  unfold Machine.execCellStore
  dsimp only
  split
  · exact tick h
  · split
    · next e0 =>
        exact trap (cellAccess_error (tick h) e0)
    · next e0 =>
        exact bufferStore (cellAccess_ok (tick h) e0)
theorem performAtomic {a v} (h : s.InForm k) : (s.performAtomic a v).InForm k := by
  unfold State.performAtomic
  split
  · exact ite (dropLease h) (modSea h)
  · exact store h
theorem execAtomicOperation {t cell auth off expect new} (h : s.InForm k) : Out.InForm
    (execAtomicOperation t cell auth off expect new s) k := by
  unfold Machine.execAtomicOperation
  dsimp only
  split
  · exact tick h
  · split
    · next e0 =>
        exact trap (cellAccess_error (drainAll (tick h)) e0)
    · next e0 =>
        exact Out.InForm.ite (trap (cellAccess_ok (drainAll (tick h)) e0))
          (modCell (ite (performAtomic (loadBytes (cellAccess_ok (drainAll (tick h)) e0)))
            (loadBytes (cellAccess_ok (drainAll (tick h)) e0))))
theorem writeback1 {line cell} (h : s.InForm k) : (s.writeback1 line cell).InForm k := ite (writebackLine h) h
theorem request {t cell line serve} (h : s.InForm k) (hs : ∀ {s}, State.InForm s k → (serve s).InForm k) :
    (s.request t cell line serve).InForm k :=
  have hw := foldl h writeback1
  ite (modCell (hs hw)) (modCell hw)
theorem dmaCell {n j} (h : s.InForm k) : (s.dmaCell n j).InForm k := by
  unfold State.dmaCell
  dsimp only
  split
  · exact trap h
  · split
    · split
      · split
        · exact endJob (xlateFault h)
        · exact endWork (dropWorkOn (xlateFault h))
        · exact xlateFault h
      · exact ite (trap (ite (dmaOut (mpuRun h)) (mpuRun h))) (ite (dmaOut (mpuRun h)) (mpuRun h))
    · split
      · exact trap (logRefusal h)
      · exact ite (trap (ite (store (mpuRun h)) (mpuRun h))) (ite (store (mpuRun h)) (mpuRun h))
theorem dmaHost {j} (h : s.InForm k) : (s.dmaHost j).InForm k := by
  unfold State.dmaHost
  dsimp only
  split
  · split
    · next e0 =>
        exact hostRead_error h e0
    · next e0 =>
        exact store (by
      split
      · exact logRefusal (hostRead_ok h e0)
      · exact mpuRun (hostRead_ok h e0))
  · exact ite (loadBytes (by
      split
      · exact logRefusal h
      · exact mpuRun h)) (hostWrite (loadBytes (by
      split
      · exact logRefusal h
      · exact mpuRun h)))
theorem execDmaPiece {t j} (h : s.InForm k) : Out.InForm (execDmaPiece t j s) k := by
  unfold Machine.execDmaPiece
  dsimp only
  split
  · exact Out.InForm.ite (dmaCell (tick h)) (tick h)
  · exact Out.InForm.ite (dmaHost (tick h)) (tick h)

/-! ### Boot and lifecycle -/

theorem emgReset (h : s.InForm k) : s.emgReset.InForm k := h
theorem execPowerGoodLost {t cause} (h : s.InForm k) : Out.InForm (execPowerGoodLost t cause s) k := by
  unfold Machine.execPowerGoodLost
  dsimp only
  split
  · exact tick h
  · split
    · exact coldReset
    · exact ite (emgReset coldReset) coldReset
theorem bootStop {cause} (h : s.InForm k) : (s.bootStop cause).InForm k := emitOut (modMbx (modLcy h))
theorem stageFuses {l} (h : s.InForm k) : (s.stageFuses l).InForm k :=
  ite (modBat (recordTest (modSec (modLcy h)))) (recordTest (modSec (modLcy h)))
theorem stageKeys {burnt} (h : s.InForm k) : (s.stageKeys burnt).InForm k := ite (burn (capForm h id)) (capForm h id)
theorem stageFlash {r s'} (h : s.InForm k) (e : s.stageFlash r = .ok s') : s'.InForm k := by
  unfold State.stageFlash at e
  dsimp only at e
  repeat' split at e
  all_goals cases e
  all_goals exact modLcy (modLcy h)
theorem stageMemory {mib} (h : s.InForm k) : (s.stageMemory mib).InForm k := memForm h Memory.wf_filter
theorem stageDie {good die} (h : s.InForm k) : (s.stageDie good die).InForm k :=
  ite (recordTest (foldl (linkTrained h) leaveReset)) (foldl (linkTrained h) modIsland)
theorem stageLinks {links} (h : s.InForm k) : (s.stageLinks links).InForm k := foldl h stageDie
theorem startCells {bad} (h : s.InForm k) : (s.startCells bad).InForm k :=
  foldl (foldl h (fun h => ite (modCell h) (recordTest (modCell h)))) quarantine
theorem startCastes (h : s.InForm k) : s.startCastes.InForm k := by
  unfold State.startCastes
  extract_lets s1
  have h1 : s1.InForm k := foldl h refillOne
  clear_value s1
  exact modSeaForm h1 (twf_map fun _ => rfl) id
theorem mintLanes (h : s.InForm k) : s.mintLanes.InForm k :=
  foldl h (fun h => by
    split
    · next e0 =>
        exact mintRoot h e0
    · exact h)
theorem measureAll (h : s.InForm k) : s.measureAll.InForm k := foldl h measure
theorem stageFrenal {r} (h : s.InForm k) : (s.stageFrenal r).InForm k := measureAll (startCastes (startCells (mintLanes h)))
theorem stageWarm {r} (h : s.InForm k) : (s.stageWarm r).InForm k := by
  unfold State.stageWarm
  extract_lets ns s1 back s2 s3 s4
  have h1 : s1.InForm k := foldl h leaveReset
  have h2 : s2.InForm k := foldl h1 fun h => modCell (setCell h)
  have h3 : s3.InForm k := foldl h2 quarantine
  have h4 : s4.InForm k := foldl h3 recordTest
  exact assignBuses (refillShort (measureAll h4))
theorem hostService (h : s.InForm k) : s.hostService.InForm k :=
  ite (releaseHeld (modLcy (modMbx h)))
    (take
       (ite
          (notice (notice (ite (enable (rest (releaseHeld (modLcy (modMbx h))))) (rest (releaseHeld (modLcy (modMbx h)))))))
          (ite (enable (rest (releaseHeld (modLcy (modMbx h))))) (rest (releaseHeld (modLcy (modMbx h)))))))
theorem toStage {n} (h : s.InForm k) : (s.toStage n).InForm k := emitOut (modLcy h)
theorem sideDone {n} (h : s.InForm k) : (s.sideDone n).InForm k := ite (toStage (modLcy h)) (modLcy h)
theorem execBootStageComplete {t r} (h : s.InForm k) : Out.InForm (execBootStageComplete t r s) k := by
  unfold Machine.execBootStageComplete
  dsimp only
  split
  · exact tick h
  · split
    · exact toStage (foldl (tick h) leaveReset)
    · exact toStage (stageFuses (tick h))
    · exact Out.InForm.ite (bootStop (tick h))
        (Out.InForm.ite (toStage (stageKeys (tick h))) (Out.InForm.ite (tick h) (bootStop (tick h))))
    · split
      · exact bootStop (tick h)
      · next e1 =>
          exact sideDone (stageFlash (tick h) e1)
    · exact Out.InForm.ite (sideDone (stageMemory (tick h))) (bootStop (tick h))
    · exact sideDone (stageLinks (tick h))
    · exact toStage (ite (stageWarm (tick h)) (stageFrenal (tick h)))
    · exact hostService (tick h)
    · exact tick h
theorem lcyStatusWork {tag io a} (h : s.InForm k) : (lcyStatusWork tag io a s).InForm k := Answer.InForm.ok h
theorem lcyAdvanceWork {tag io a} (h : s.InForm k) : (lcyAdvanceWork tag io a s).InForm k :=
  Answer.InForm.ite (Answer.InForm.status h)
    (Answer.InForm.ite (Answer.InForm.status h)
       (Answer.InForm.ite (Answer.InForm.status (burn h)) (Answer.InForm.ite (Answer.InForm.ok (burn h)) (zeroise (burn h)))))
theorem lcyFuseReadWork {tag io a} (h : s.InForm k) : (lcyFuseReadWork tag io a s).InForm k := Answer.InForm.ok h
theorem setBank {b i} (h : s.InForm k) : (s.setBank b i).InForm k := modLcy h
theorem lcyFwWriteWork {tag io a} (h : s.InForm k) : (lcyFwWriteWork tag io a s).InForm k :=
  Answer.InForm.ite (Answer.InForm.status h) (setBank (defer h))
theorem fwWrite {tag a io} (h : s.InForm k) : (State.fwWrite tag a io s).2.2.InForm k := by
  unfold State.fwWrite
  dsimp only
  split
  · next e => exact hostRead_error h e
  · next e =>
    have hr := hostRead_ok h e
    split
    · exact hr
    · split
      · exact hr
      · exact setBank hr
theorem lcyFwSelectWork {tag io a} (h : s.InForm k) : (lcyFwSelectWork tag io a s).InForm k :=
  Answer.InForm.ite (Answer.InForm.status h)
    (Answer.InForm.ite (Answer.InForm.status (modLcy h)) (Answer.InForm.ok (modLcy h)))
theorem lcyRollbackAdvanceWork {tag io a} (h : s.InForm k) : (lcyRollbackAdvanceWork tag io a s).InForm k :=
  Answer.InForm.ite (Answer.InForm.status h)
    (Answer.InForm.status (ite_snd (ite_snd h (burn h)) (burn (ite_snd h (burn h)))))
theorem lcySlotRevokeWork {tag io a} (h : s.InForm k) : (lcySlotRevokeWork tag io a s).InForm k :=
  Answer.InForm.ite (Answer.InForm.status h) (Answer.InForm.ite (Answer.InForm.ok h) (Answer.InForm.status (burn h)))
theorem lcyResetWork {tag io a} (h : s.InForm k) : (lcyResetWork tag io a s).InForm k :=
  Answer.InForm.ite (Answer.InForm.status h) (Answer.InForm.ite coldReset (modMbx (warmStart h)))

/-! ### Tickets and unknown codes -/

theorem ticketAnswer {n} (h : s.InForm k) : {a : Answer} → a.InForm k → (s.ticketAnswer n a).InForm k
  | .reply .., ha => ticketDone ha
  | .hold .., _ => h
  | .silent _, ha => ha
theorem testPending {c} (h : s.InForm k) : (s.testPending c).InForm k := by
  unfold State.testPending
  dsimp only
  split
  · exact ite (endReq h) h
  · exact h
theorem ticketWork {c io} (h : s.InForm k) : (s.ticketWork c io).InForm k :=
  Answer.InForm.ite (commitWork h)
    (Answer.InForm.ite (tableLoad h)
       (Answer.InForm.ite (denyDelta h)
          (Answer.InForm.ite (journalRead h)
             (Answer.InForm.ite (dataStage h)
                (Answer.InForm.ite (promptLoad h)
                   (Answer.InForm.ite (ruleWrite h) (Answer.InForm.ite (reenrol h) (fwWrite h))))))))
theorem execPendingDone {t ticket io} (h : s.InForm k) : Out.InForm (execPendingDone t ticket io s) k := by
  unfold Machine.execPendingDone
  dsimp only
  split
  · exact tick h
  · exact Out.InForm.ite (tick h)
      (Out.InForm.ite (islResetPending (tick h))
        (Out.InForm.ite (testPending (tick h))
          (Out.InForm.ite (ticketDone (tick h)) (ticketAnswer (tick h) (ticketWork (tick h))))))
theorem execUnknownCommand {t tag io} (h : s.InForm k) : Out.InForm (execUnknownCommand t tag io s) k := by
  unfold Machine.execUnknownCommand
  dsimp only
  refine Out.InForm.ite (tick h) ?_
  split
  · next e => exact take (replay (tick h) e)
  · exact take (complete (tick h))

/-! ### The memory area -/

theorem memMpuModeWork {tag io a} (h : s.InForm k) : (memMpuModeWork tag io a s).InForm k :=
  Answer.InForm.ite (Answer.InForm.status h) (stage h)
theorem memMpuRegionWork {tag io a} (h : s.InForm k) : (memMpuRegionWork tag io a s).InForm k :=
  Answer.InForm.ite (Answer.InForm.status h)
    (Answer.InForm.ite (Answer.InForm.status h) (Answer.InForm.ite (Answer.InForm.status h) (stage h)))
theorem memMpuReadWork {tag io a} (h : s.InForm k) : (memMpuReadWork tag io a s).InForm k :=
  Answer.InForm.ite (Answer.InForm.status h) (Answer.InForm.ok h)
theorem memMpuFaultGetWork {tag io a} (h : s.InForm k) : (memMpuFaultGetWork tag io a s).InForm k := by
  unfold Machine.memMpuFaultGetWork
  split
  · exact Answer.InForm.status h
  · exact Answer.InForm.ok h
theorem memMapWork {tag io a} (h : s.InForm k) : (memMapWork tag io a s).InForm k :=
  Answer.InForm.ite (Answer.InForm.status h) (Answer.InForm.ok h)
theorem execMpuEcc {t mpu} (h : s.InForm k) : Out.InForm (execMpuEcc t mpu s) k :=
  have ht := tick h (t := t)
  Out.InForm.ite ht (raise (memForm ht id))
/-- Every command keeps every part in its form, whatever the state. -/
theorem exec {i} (h : s.InForm k) : Out.InForm (Machine.exec i s) k := by
  cases i
  case mbxH2sWrite => exact Out.InForm.ite (tick h) (modPage (tick h))
  case wPing => exact execWPing h
  case wCancel => exact execWCancel h
  case badWord => exact execBadWord h
  case mbxBlkWrite => exact Out.InForm.ite (tick h) (modPage (tick h))
  case go => exact Out.InForm.ite (tick h) (take (modPage (tick h)))
  case rateToken => exact Out.InForm.ite (tick h) (take (modRec (tick h)))
  case pendingDone => exact execPendingDone h
  case stewardReset => exact Out.InForm.ite (tick h) (restartBegin (tick h))
  case stewardRestartDone =>
    exact Out.InForm.ite (tick h)
      (take (zeroiseEnd (ticketsEnd
        (releaseHeld (modMbx (foldl (foldl (modMbx (rollbackOpen (foldl (modMbx (tick h)) complete))) notice) modPage))))))
  case genIdentify => exact run h genIdentifyWork
  case genVersion => exact run h genVersionWork
  case genPing => exact run h genPingWork
  case genParamGet => exact runWith h same genParamGetWork
  case genParamSet => exact runWith h same genParamSetWork
  case genParamInfo => exact runWith h same genParamInfoWork
  case genParamNext => exact run h genParamNextWork
  case genGpioSet => exact run h genGpioSetWork
  case genGpioGet => exact run h genGpioGetWork
  case manBegin => exact run h manBeginWork
  case manCommit => exact runWith h manCommitPut manCommitWork
  case manRollback => exact run h manRollbackWork
  case manStatus => exact run h manStatusWork
  case manOpenTimeout => exact execManOpenTimeout h
  case freezePoint => exact ite (freezePoint (modCmp (fireMark (tick h)))) (tick h)
  case deferredImmediateCommit => exact execDeferredImmediateCommit h
  case manFlushEnd => exact execManFlushEnd h
  case epochBoundary => exact ite (boundaryFire (tick h)) (tick h)
  case booksCheck => exact ite (checkBooks (tick h)) (tick h)
  case qdbSqTailWrite => exact doorbell (tick h) (ite (doorbellError (tick h)) (modQp (tick h)))
  case qdbCqHeadWrite => exact doorbell (tick h) (ite (doorbellError (tick h)) (modQp (tick h)))
  case qdbEqHeadWrite =>
    exact Out.InForm.ite (tick h)
      (Out.InForm.ite (doorbellError (tick h)) (ite (modEvq (tick h)) (writeLost (modEvq (tick h)))))
  case sqEntryFetch => exact execSqEntryFetch h
  case cqCoalesceTimeout => exact Out.InForm.ite (tick h) (cqSignal (tick h))
  case msixVectorUnmask => exact Out.InForm.ite (tick h) (msixFlush (modFunc (tick h)))
  case tlbFill => exact execTlbFill h
  case insQpSetup => exact run h insQpSetupWork
  case insQpReset => exact run h insQpResetWork
  case insQpStatus => exact run h insQpStatusWork
  case insEqSetup => exact runWith h same insEqSetupWork
  case insXlateSet => exact run h insXlateSetWork
  case insXlateInval => exact run h insXlateInvalWork
  case insFaultGet => exact run h insFaultGetWork
  case insSliceCreate => exact run h insSliceCreateWork
  case insSliceDestroy => exact run h insSliceDestroyWork
  case insStatus => exact runWith h same insStatusWork
  case insRightsSet => exact run h insRightsSetWork
  case functionLevelReset =>
    exact Out.InForm.ite (rest (disableAll (tick h))) (Out.InForm.ite (modFunc (disable (tick h))) (tick h))
  case vfEnableChange =>
    exact Out.InForm.ite (rest (ite (disableAll (tick h)) (tick h)))
      (take (foldl (rest (ite (disableAll (tick h)) (tick h))) (fun h => ite (enable h) h)))
  case pcieLinkDown => exact Out.InForm.ite (linkLost (tick h)) (tick h)
  case pasidEnableClear => exact rest (disableAll (tick h))
  case busMasterEnableChange =>
    exact Out.InForm.ite (tick h) (ite (writeLost (msixFlush (modFunc (tick h)))) (modFunc (tick h)))
  case disableRevoke => exact execDisableRevoke h
  case perstNFall => exact rest (ite (linkLost (tick h)) (tick h))
  case perstNRise => exact Out.InForm.ite (tick h) (rest (tick h))
  case pfPageReady => exact Out.InForm.ite (tick h) (take (enable (rest (tick h))))
  case memMpuMode => exact run h memMpuModeWork
  case memMpuRegion => exact run h memMpuRegionWork
  case memMpuRead => exact run h memMpuReadWork
  case memMpuFaultGet => exact run h memMpuFaultGetWork
  case memMap => exact run h memMapWork
  case capInfo => exact run h capInfoWork
  case capDerive => exact run h capDeriveWork
  case capRevoke => exact run h capRevokeWork
  case generationBroadcastAck => exact execGenerationBroadcastAck h
  case capRelease => exact run h capReleaseWork
  case capGrant => exact run h capGrantWork
  case capList => exact run h capListWork
  case capGateOpen => exact run h capGateOpenWork
  case capGateInfo => exact run h capGateInfoWork
  case capFaultGet => exact run h capFaultGetWork
  case capabilityStore => exact execCapabilityStore h
  case capabilityLoad => exact execCapabilityLoad h
  case registerDerive => exact Out.InForm.ite (tick h) (modCell (tick h))
  case callGateEntry => exact execCallGateEntry h
  case callGateReturn => exact execCallGateReturn h
  case hubRequestReturn => exact execHubRequestReturn h
  case cellTrap => exact Out.InForm.ite (trap (tick h)) (tick h)
  case objectTableEcc => exact execObjectTableEcc h
  case turnStart => exact execTurnStart h
  case turnFailed => exact execTurnFailed h
  case transmissionDropped => exact execTransmissionDropped h
  case tapReceived => exact execTapReceived h
  case contReceived => exact execContReceived h
  case apduRReceived => exact execApduRReceived h
  case echoRReceived =>
    exact Out.InForm.ite (tick h)
      (Out.InForm.ite (echoClose (count (acceptUp (modUnit (tick h))))) (echoClose (acceptUp (modUnit (tick h)))))
  case ackReceived => exact execAckReceived h
  case nilReceived => exact Out.InForm.ite (tick h) (modUnit (turnDone (tick h)))
  case hereReceived => exact execHereReceived h
  case hereGarble => exact execHereGarble h
  case rollcallCycle => exact Out.InForm.ite (startCycle (tick h)) (tick h)
  case barcodeTransferTimeout => exact execBarcodeTransferTimeout h
  case emgFilterAssert =>
    exact Out.InForm.ite (tick h) (foldl (foldl (freeExit (rest (foldl (tick h) cutTurn))) raiseDev) emergencyAbort)
  case freeExitRepeat => exact Out.InForm.ite (freeExit (tick h)) (tick h)
  case emgFilterRelease => exact Out.InForm.ite (tick h) (freeExit (modAud (rest (tick h))))
  case freeExitClearRepeat =>
    exact Out.InForm.ite (tick h)
      (Out.InForm.ite (rest (freeExit (tick h)))
        (foldl (rest (rest (freeExit (tick h)))) (fun h => raiseDev (ite (startCycle h) h))))
  case apduCommandQueue => exact execApduCommandQueue h
  case exchangeTimeout => exact execExchangeTimeout h
  case laneBind => exact run h laneBindWork
  case laneUnbind => exact run h laneUnbindWork
  case laneStatus => exact run h laneStatusWork
  case laneSegStatus => exact run h laneSegStatusWork
  case laneSegEnable => exact run h laneSegEnableWork
  case laneRollcall => exact run h laneRollcallWork
  case laneForget => exact run h laneForgetWork
  case placement => exact execPlacement h
  case placementRetry => exact execPlacementRetry h
  case sessionBudgetExpired => exact execSessionBudgetExpired h
  case denylistExactSearch => exact execDenylistExactSearch h
  case barcodeVerify => exact execBarcodeVerify h
  case journalSeal => exact execJournalSeal h
  case usedTicketPurge => exact modFare (tick h)
  case sealBudgetExpired => exact execSealBudgetExpired h
  case cartAcceptTimeout => exact execCartAcceptTimeout h
  case fareTableLoad => exact runWith h fareTableLoadPut fareTableLoadWork
  case fareKeyBind => exact run h fareKeyBindWork
  case fareDenyDelta => exact runWith h fareDenyDeltaPut fareDenyDeltaWork
  case fareDenySwap => exact run h fareDenySwapWork
  case fareDenyStatus => exact run h fareDenyStatusWork
  case fareDenyLoad => exact execFareDenyLoad h
  case fareJournalRead => exact run h fareJournalReadWork
  case fareJournalAck => exact run h fareJournalAckWork
  case fareStatus => exact run h fareStatusWork
  case jobRun => exact execJobRun h
  case jobBoundary => exact execJobBoundary h
  case scoreTick => exact execScoreTick h
  case casteImageLoad =>
    exact Out.InForm.ite (tick h)
      (Out.InForm.ite (quarantine (modCell (dropLines (drainAll (tick h)))))
        (modCell (modCell (dropLines (drainAll (tick h))))))
  case casteMoveDone => exact execCasteMoveDone h
  case casteGrow => exact execCasteGrow h
  case leaseExpired => exact execLeaseExpired h
  case cellCheckDone => exact execCellCheckDone h
  case clusterL2Error => exact Out.InForm.ite (tick h) (resetIsland (clusterEvent (tick h)))
  case taskInputEvent => exact Out.InForm.ite (tick h) (count (setTaskInput (tick h)))
  case taskInputTake => exact Out.InForm.ite (tick h) (setTaskInput (tick h))
  case taskOvfClear => exact Out.InForm.ite (tick h) (setTaskInput (tick h))
  case hotSpareSwitch => exact Out.InForm.ite (modSea (modTest (tick h))) (tick h)
  case droverReset => exact suspendDrover (tick h)
  case drvCastePlan => exact run h drvCastePlanWork
  case drvCasteStatus => exact run h drvCasteStatusWork
  case drvCellStatus => exact run h drvCellStatusWork
  case drvCellQuarantine => exact run h drvCellQuarantineWork
  case drvCellReturn => exact run h drvCellReturnWork
  case drvSlotStatus => exact run h drvSlotStatusWork
  case cartInserted => exact Out.InForm.ite (tick h) (cartPower (cartEvent (modCart (tick h))))
  case cartRemoved =>
    exact Out.InForm.ite (tick h)
      (modCart (cartEvent (ite (cartEvent (foldl (cartOff (tick h)) ticketDone)) (foldl (cartOff (tick h)) ticketDone))))
  case cartInitStep => exact Out.InForm.ite (tick h) (initStep (tick h))
  case cartPowerCycleEnd => exact Out.InForm.ite (tick h) (modCart (cartPower (tick h)))
  case cartBlockWrite => exact execCartBlockWrite h
  case cartBlockDone => exact execCartBlockDone h
  case cartBusyTimeout => exact execCartBusyTimeout h
  case cartEraseDone => exact Out.InForm.ite (tick h) (cartCycle (cartEvent (tick h)))
  case cartBind => exact run h cartBindWork
  case cartStatus => exact run h cartStatusWork
  case cartJournalRead => exact runWith h cartJournalReadPut cartJournalReadWork
  case cartJournalMark => exact run h cartJournalMarkWork
  case cartDataList => exact run h cartDataListWork
  case cartDataStage => exact runWith h cartDataStagePut cartDataStageWork
  case cartFormat => exact run h cartFormatWork
  case cartForceErase => exact run h cartForceEraseWork
  case cartEject => exact run h cartEjectWork
  case ptpSync => exact ptpTake (tick h) (ite (modShadow (modShadow (tick h))) (syncDone (modShadow (tick h))))
  case ptpFollowUp => exact execPtpFollowUp h
  case ptpAnnounce => exact execPtpAnnounce h
  case ptpDelayResp => exact execPtpDelayResp h
  case delayReqSend => exact execDelayReqSend h
  case announceReceiptTimeout => exact execAnnounceReceiptTimeout h
  case syncTimeout => exact Out.InForm.ite (tick h) (listen (tick h))
  case refusedRecheck => exact Out.InForm.ite (tick h) (Out.InForm.ite (select (modShadow (tick h))) (refuse (tick h)))
  case preferredRevert => exact Out.InForm.ite (select (tick h)) (tick h)
  case slewEnd => exact execSlewEnd h
  case holdoverAlarm => exact Out.InForm.ite (raiseDev (modTim (tick h))) (tick h)
  case masterSyncSend => exact execMasterSyncSend h
  case masterAnnounceSend => exact execMasterAnnounceSend h
  case masterDelayReq => exact execMasterDelayReq h
  case compareFire =>
    exact Out.InForm.ite (tick h)
      (Out.InForm.ite (boundaryFire (tick h))
        (Out.InForm.ite (freezePoint (modCmp (fireMark (tick h))))
          (Out.InForm.ite (ppsRise (tick h)) (raiseDev (rearm (fireMark (tick h)))))))
  case ppsOutRise => exact Out.InForm.ite (tick h) (ppsRise (tick h))
  case ppsOutFall => exact Out.InForm.ite (tick h) (emitOut (modTim (tick h)))
  case ppsInEdge => exact Out.InForm.ite (count (tick h)) (modTim (tick h))
  case timeStatus => exact run h timeStatusWork
  case timeShadowStatus => exact run h timeShadowStatusWork
  case timeDomainSet => exact run h timeDomainSetWork
  case timeMasterSet => exact run h timeMasterSetWork
  case timeJumpAccept => exact run h timeJumpAcceptWork
  case timeCmpSet => exact run h timeCmpSetWork
  case timeCmpStatus => exact run h timeCmpStatusWork
  case timePpsInGet => exact run h timePpsInGetWork
  case timServedNsRead => exact Out.InForm.ite (tick h) (modInst (tick h))
  case rtpPacket => exact execRtpPacket h
  case audioBlock => exact Out.InForm.ite (tick h) (audioBlock (tick h))
  case legStale => exact Out.InForm.ite (tick h) (ite (modRx (tick h)) (raiseDev (modRx (tick h))))
  case adaptiveMeasure => exact execAdaptiveMeasure h
  case promptStart => exact execPromptStart h
  case emergencyPromptLoop => exact execEmergencyPromptLoop h
  case audRxSet => exact run h audRxSetWork
  case audTxSet => exact run h audTxSetWork
  case audBusSet => exact run h audBusSetWork
  case audTdmSet => exact run h audTdmSetWork
  case audPromptLoad => exact runWith h audPromptLoadPut audPromptLoadWork
  case audPlay => exact run h audPlayWork
  case audStreamStatus => exact run h audStreamStatusWork
  case audStatus => exact run h audStatusWork
  case frameReceived => exact execFrameReceived h
  case portTransmit => exact execPortTransmit h
  case ethLinkDown => exact Out.InForm.ite (tick h) (raiseDev (endEqFreeze (flushPort (modPort (tick h)))))
  case ethLinkUp =>
    exact Out.InForm.ite (tick h)
      (raiseDev (modPort (rest
        (ite (ite (raiseDev (rest (modPort (free (free (free (tick h))))))) (rest (modPort (free (free (free (tick h)))))))
          (tick h)))))
  case stewardNetRx => exact execStewardNetRx h
  case netPortSet => exact run h netPortSetWork
  case netIfSet => exact run h netIfSetWork
  case netRuleWrite => exact run h netRuleWriteWork
  case netRuleRead => exact run h netRuleReadWork
  case netRuleHits => exact run h netRuleHitsWork
  case netQueueSet => exact run h netQueueSetWork
  case netPortStatus => exact run h netPortStatusWork
  case netTx => exact execNetTx h
  case netRxPost => exact execNetRxPost h
  case cellLoad => exact execCellLoad h
  case cellStore => exact execCellStore h
  case storeDrain => exact drainOne (tick h)
  case fence => exact drainAll (tick h)
  case atomicOperation => exact execAtomicOperation h
  case read => exact Out.InForm.ite (request (tick h) readLine) (tick h)
  case own => exact Out.InForm.ite (request (tick h) ownLine) (tick h)
  case writeback => exact writeback1 (tick h)
  case dmaPiece => exact execDmaPiece h
  case mpuEcc => exact execMpuEcc h
  case loopPeriod => exact Out.InForm.ite (tick h) (ite (raiseDev (modIsland (tick h))) (modIsland (tick h)))
  case timingError => exact execTimingError h
  case thermalSample => exact execThermalSample h
  case ldoFault => exact execLdoFault h
  case clusterResetDone => exact Out.InForm.ite (tick h) (leaveReset (tick h))
  case hubIslandReset => exact execHubIslandReset h
  case isolationTimeout => exact Out.InForm.ite (tick h) (modIsland (count (tick h)))
  case integrityFrame => exact execIntegrityFrame h
  case linkTrained => exact Out.InForm.ite (tick h) (linkTrained (tick h))
  case keyRollover => exact Out.InForm.ite (tick h) (modLink (tick h))
  case auditMarkerReturn =>
    exact Out.InForm.ite (tick h)
      (Out.InForm.ite (linkBroken (modLink (tick h))) (foldl (modLink (foldl (tick h) count)) (fun h => ite h (measure h))))
  case ddrOscRead =>
    exact Out.InForm.ite (tick h)
      (rest (ite (raiseDev (ite (raiseDev (rest (tick h))) (tick h))) (ite (raiseDev (rest (tick h))) (tick h))))
  case loopFreezeExpiry => exact execLoopFreezeExpiry h
  case islSelWrite => exact rest (tick h)
  case islStatus => exact run h islStatusWork
  case islLinkStatus => exact run h islLinkStatusWork
  case islLoopFreeze => exact run h islLoopFreezeWork
  case islLoopStatus => exact run h islLoopStatusWork
  case islReset => exact run h islResetWork
  case detectorTrip => exact trip (tick h)
  case tamperLoopSample =>
    exact Out.InForm.ite (tick h) (ite (trip (emitOut (modSec (random (tick h))))) (emitOut (modSec (random (tick h)))))
  case batterySwitch => exact ite (rest (modBat (tick h))) (modBat (tick h))
  case batteryLoss => exact Out.InForm.ite (tick h) (ite (secLog (free (modBat (tick h)))) (free (modBat (tick h))))
  case memIntegrityFail => exact execMemIntegrityFail h
  case unlockChallenge => exact Out.InForm.ite (tick h) (emitOut (modSec (random (tick h))))
  case unlockResponse => exact execUnlockResponse h
  case secStatus => exact run h secStatusWork
  case secLogRead => exact run h secLogReadWork
  case secCertGet => exact run h secCertGetWork
  case secKeyImport => exact run h secKeyImportWork
  case secLoopSet => exact run h secLoopSetWork
  case secZeroise => exact run h secZeroiseWork
  case secReenrol => exact runWith h secReenrolPut secReenrolWork
  case secDebugArm => exact run h secDebugArmWork
  case statEpoch => exact run h statEpochWork
  case statRead => exact runWith h same statReadWork
  case statBooks => exact run h statBooksWork
  case testLoan =>
    exact Out.InForm.ite (tick h)
      (Out.InForm.ite (Out.InForm.ite (modSea (tick h)) (tick h)) (Out.InForm.ite (tick h) (startCellTest (tick h))))
  case cellTestDone => exact execCellTestDone h
  case l2TestDone => exact execL2TestDone h
  case drainIdle => exact execDrainIdle h
  case drainTimeout => exact execDrainTimeout h
  case hubMarchLine =>
    exact Out.InForm.ite (modTest (ite (tick h) (lineRemap (tick h))))
      (testResult (modTest (ite (tick h) (lineRemap (tick h)))))
  case dieLinkLaneTest => exact execDieLinkLaneTest h
  case segmentEchoTest =>
    exact Out.InForm.ite (tick h)
      (Out.InForm.ite (testResult (modTest (foldl (tick h) modUnit))) (modTest (modTest (foldl (tick h) modUnit))))
  case portTest =>
    exact Out.InForm.ite (tick h)
      (Out.InForm.ite (ite (testFailedFree (testResult (modPort (tick h)))) (testResult (modPort (tick h))))
        (modTest (tick h)))
  case fuseReread => exact testResult (foldl (rest (tick h)) raiseDev)
  case forcedRequest => exact Out.InForm.ite (tick h) (markReq (modTest (tick h)))
  case testOverdue => exact Out.InForm.ite (tick h) (raiseDev (modTest (tick h)))
  case testRequest => exact run h testRequestWork
  case testResult => exact run h testResultWork
  case testCoverage => exact run h testCoverageWork
  case eventRecordWrite => exact execEventRecordWrite h
  case coalesceWindowEnd => exact execCoalesceWindowEnd h
  case irqHoldoffEnd => exact execIrqHoldoffEnd h
  case evtMaskSet => exact runWith h same evtMaskSetWork
  case evtMaskGet => exact runWith h same evtMaskGetWork
  case evtSrcMask => exact run h evtSrcMaskWork
  case evtStatus => exact runWith h same evtStatusWork
  case powerGood => exact Out.InForm.ite (tick h) (emitOut (startTime (rest (modLcy (tick h)))))
  case powerGoodLost => exact execPowerGoodLost h
  case emergencyPathStart => exact Out.InForm.ite (tick h) (rest (tick h))
  case bootStageComplete => exact execBootStageComplete h
  case bootFailCrsEnd => exact Out.InForm.ite (tick h) (rest (modLcy (tick h)))
  case segmentControllerStart => exact Out.InForm.ite (tick h) (foldl (tick h) modSeg)
  case warmReset =>
    exact Out.InForm.ite (tick h) (ite (warmReset (warmStart (tick h))) coldReset)
  case lcyStatus => exact run h lcyStatusWork
  case lcyAdvance => exact run h lcyAdvanceWork
  case lcyFuseRead => exact run h lcyFuseReadWork
  case lcyFwWrite => exact run h lcyFwWriteWork
  case lcyFwSelect => exact run h lcyFwSelectWork
  case lcyRollbackAdvance => exact run h lcyRollbackAdvanceWork
  case lcySlotRevoke => exact run h lcySlotRevokeWork
  case lcyReset => exact run h lcyResetWork
  case registerWrite => exact execRegisterWrite h
  case unknownCommand io => exact execUnknownCommand (io := io) h
  case emgOpenNChange => exact Out.InForm.ite (tick h) (rest (tick h))
  case cardDetectChange => exact Out.InForm.ite (tick h) (modCart (tick h))
  case l2CheckDone => exact Out.InForm.ite (tick h) (ite (measure (modSea (tick h))) (quarantineAll (modSea (tick h))))
  case portLoopbackDone =>
    exact Out.InForm.ite (tick h) (ite (testResult (modTest (tick h))) (testFailedFree (testResult (modTest (tick h)))))

end Sys2Proof.Machine.State.InForm

namespace Sys2Proof.Machine

/-- A step keeps every part in its form: it idles or runs one command. -/
theorem State.InForm.machineStep {s : State} {k : FormOf} (h : s.InForm k) : Out.InForm (Machine.step s) k := by
  unfold Machine.step
  split
  · exact h
  · exact (h.rest).exec

/-- A form stands after a step that answered a next state when it stood before. -/
theorem State.InForm.of_step {s s' : State} {k : FormOf} (h : s.InForm k) (e : Machine.step s = .next s') : s'.InForm k := by
  have := h.machineStep
  rwa [e] at this

/-- Settles O27: the bytes are one of the parts whose form every operation keeps. -/
theorem memoryFormKept : Obligations.MemoryFormKept :=
  fun _ _ h e => State.InForm.of_step (k := .bytes) h e

/-- Settles O28: the five tables are parts whose form every operation keeps. -/
theorem tablesKeepForm : Obligations.TablesKeepForm := by
  intro s s' ⟨hcells, hjobs, hmans, hobjs, hhub⟩ e
  exact ⟨State.InForm.of_step (k := .cells) hcells e, State.InForm.of_step (k := .jobs) hjobs e,
    State.InForm.of_step (k := .mans) hmans e, State.InForm.of_step (k := .objs) hobjs e,
    State.InForm.of_step (k := .hub) hhub e⟩

/-- Settles O29: nothing stands in the memory or in the tables at reset. -/
theorem formsAtReset : Obligations.FormsAtReset := ⟨⟨rfl, nofun⟩, rfl, rfl, rfl, rfl, rfl⟩

/-- Settles O30, by the form and the read-back of a write of bytes. -/
theorem memoryWrites : Obligations.MemoryWrites :=
  fun m a bs h => ⟨Memory.wf_writeBytes a bs h, readByte_writeBytes m a bs⟩

/-- Settles O1, by the two cases of a step. -/
theorem queueStep : Obligations.QueueStep :=
  ⟨fun _ _ _ h => by rw [step, h], fun _ h => by rw [step, h]⟩

end Sys2Proof.Machine
end

section
/-! PROOFS. Which region of an MPU decides, and the log of its refusals (R345, R347, R348, R351). -/

namespace Sys2Proof.Machine

/-! ### The region that decides (R345, R347) -/

section
variable {s : State} {mpu charge addr : Nat}

theorem State.mpuRegion_of_strict (hecc : tget s.mem.eccBad mpu 0 ≤ s.now) (hs : s.cfg.layered mpu = false) :
    s.mpuRegion mpu charge addr =
      match (List.range 32).filter (fun r => (s.region s.cfg mpu r).matchStrict charge addr) with
      | [r] => r
      | [] => 0xFF
      | _ => 0xFE := by
  simp [State.mpuRegion, hs, Nat.not_lt.2 hecc] <;> rfl

theorem State.mpuRegion_of_layered (hecc : tget s.mem.eccBad mpu 0 ≤ s.now) (hl : s.cfg.layered mpu = true) :
    s.mpuRegion mpu charge addr =
      ((List.range 32).find? (fun r => (s.region s.cfg mpu r).matchLayered charge addr)).getD 0xFF := by
  simp only [State.mpuRegion, hl, Nat.not_lt.2 hecc, decide_false, Bool.false_eq_true, ↓reduceIte]
  split <;> simp [*]

/-- Exactly one region matches: the filter holds that one. -/
theorem filter_range_eq_singleton {n r : Nat} {p : Nat → Bool} (hr : r < n) (hp : p r = true)
    (hne : ∀ k, k < n → k ≠ r → p k = false) : (List.range n).filter p = [r] := by
  rw [List.filter_congr (q := fun k => k == r), List.filter_beq, List.count_eq_one_of_mem List.nodup_range (List.mem_range.2 hr)]
  · rfl
  · intro k hk
    by_cases h : k = r
    · simp [h, hp]
    · simp [h, hne k (List.mem_range.1 hk) h]

theorem State.mpuRegion_strict_of_unique {r : Nat} (hecc : tget s.mem.eccBad mpu 0 ≤ s.now) (hs : s.cfg.layered mpu = false)
    (hr : r < 32) (hm : (s.region s.cfg mpu r).matchStrict charge addr = true)
    (hne : ∀ k, k < 32 → k ≠ r → (s.region s.cfg mpu k).matchStrict charge addr = false) :
    s.mpuRegion mpu charge addr = r := by
  rw [State.mpuRegion_of_strict hecc hs, filter_range_eq_singleton hr hm hne]

theorem State.mpuRegion_strict_of_two {r k : Nat} (hecc : tget s.mem.eccBad mpu 0 ≤ s.now) (hs : s.cfg.layered mpu = false)
    (hr : r < 32) (hk : k < 32) (hne : r ≠ k) (hmr : (s.region s.cfg mpu r).matchStrict charge addr = true)
    (hmk : (s.region s.cfg mpu k).matchStrict charge addr = true) : s.mpuRegion mpu charge addr = 0xFE := by
  have hr' := List.mem_filter (p := fun r => (s.region s.cfg mpu r).matchStrict charge addr).2 ⟨List.mem_range.2 hr, hmr⟩
  have hk' := List.mem_filter (p := fun r => (s.region s.cfg mpu r).matchStrict charge addr).2 ⟨List.mem_range.2 hk, hmk⟩
  rw [State.mpuRegion_of_strict hecc hs]
  split
  · next x e =>
    rw [e, List.mem_singleton] at hr' hk'
    exact absurd (hr'.trans hk'.symm) hne
  · next e =>
    rw [e] at hr'
    exact absurd hr' List.not_mem_nil
  · rfl

theorem State.mpuRegion_layered_of_first {r : Nat} (hecc : tget s.mem.eccBad mpu 0 ≤ s.now) (hl : s.cfg.layered mpu = true)
    (hr : r < 32) (hm : (s.region s.cfg mpu r).matchLayered charge addr = true)
    (hlt : ∀ k, k < r → (s.region s.cfg mpu k).matchLayered charge addr = false) : s.mpuRegion mpu charge addr = r := by
  have hfind : (List.range 32).find? (fun r => (s.region s.cfg mpu r).matchLayered charge addr) = some r :=
    List.find?_range_eq_some.2 ⟨hm, List.mem_range.2 hr, fun k hk => by simp [hlt k hk]⟩
  rw [State.mpuRegion_of_layered hecc hl, hfind, Option.getD_some]

theorem State.mpuRegion_of_none
    (h : ∀ k, k < 32 → (s.region s.cfg mpu k).matchLayered charge addr = false ∧
      (s.region s.cfg mpu k).matchStrict charge addr = false) : s.mpuRegion mpu charge addr = 0xFF := by
  have hfind : (List.range 32).find? (fun r => (s.region s.cfg mpu r).matchLayered charge addr) = none :=
    List.find?_eq_none.2 fun k hk => by simp [(h k (List.mem_range.1 hk)).1]
  have hfilter : (List.range 32).filter (fun r => (s.region s.cfg mpu r).matchStrict charge addr) = [] :=
    List.filter_eq_nil_iff.2 fun k hk => by simp [(h k (List.mem_range.1 hk)).2]
  simp only [State.mpuRegion, hfind, hfilter, ite_self]

end

/-! ### What a check answers (R345, R351) -/

section
variable {s : State} {mpu : Nat} {a : Access}

theorem State.mpuCheck_of_region {r : Nat} (h : s.mpuRegion mpu a.charge a.addr = r) (hr : r < 32) :
    s.mpuCheck mpu a = if (s.region s.cfg mpu r).permits a then (true, s) else (false, s.logRefusal mpu r a) := by
  simp [State.mpuCheck, h, hr, show r ≠ 0xFE by omega]

theorem State.mpuCheck_of_overlap (h : s.mpuRegion mpu a.charge a.addr = 0xFE) : s.mpuCheck mpu a =
    (false, { s with mem := { s.mem with
      overlap := tset s.mem.overlap mpu (tget s.mem.overlap mpu 0 + 1) } }.logRefusal mpu 0xFE a) := by
  simp [State.mpuCheck, h]

theorem State.mpuCheck_of_no_region (h : s.mpuRegion mpu a.charge a.addr = 0xFF) :
    s.mpuCheck mpu a = (false, s.logRefusal mpu 0xFF a) := by
  simp [State.mpuCheck, h]

theorem State.logRefusal_mem (s : State) (mpu r : Nat) (a : Access) : (s.logRefusal mpu r a).mem =
    { s.mem with
      refusals := ({ seq := s.mem.refusalSeq, mpu, region := r, write := a.write, exec := a.exec, level := a.level, dma := a.dma,
                     strict := !s.cfg.layered mpu, tag := a.charge, cell := a.cell, address := a.addr, sec := s.sec32,
                     ns := s.servedNs } :: s.mem.refusals).take 64
      refusalSeq := s.mem.refusalSeq + 1 } := by
  simp [State.logRefusal]

/-- A refusal takes the next sequence number and its record is the newest (R351). -/
theorem State.mpuCheck_logs (h : (s.mpuCheck mpu a).1 = false) :
    ∃ r, (s.mpuCheck mpu a).2.mem.refusals = (r :: s.mem.refusals).take 64 ∧
    r.seq = s.mem.refusalSeq ∧ r.mpu = mpu ∧ r.address = a.addr ∧ r.tag = a.charge ∧
    (s.mpuCheck mpu a).2.mem.refusalSeq = s.mem.refusalSeq + 1 := by
  unfold State.mpuCheck at h ⊢
  dsimp only at h ⊢
  split at h
  · cases h
  · rename_i hno
    rw [if_neg hno]
    dsimp only
    split <;> exact ⟨_, by rw [State.logRefusal_mem], rfl, rfl, rfl, rfl, by rw [State.logRefusal_mem]⟩

end

/-- Settles O25: the region that decides in each mode, then what the check makes of it. -/
theorem mpuDecides : Obligations.MpuDecides := by
  intro s mpu a hecc
  refine ⟨fun r hs hr hm hne => ?strict, fun r k hs hr hk hne hmr hmk => ?overlap, fun r hl hr hm hlt => ?layered, fun h => ?none,
    State.mpuCheck_logs⟩
  case strict =>
    rw [State.mpuCheck_of_region (State.mpuRegion_strict_of_unique hecc hs hr hm hne) hr]
    exact ⟨fun hp => by rw [if_pos hp], fun hp => by simp [hp]⟩
  case overlap =>
    rw [State.mpuCheck_of_overlap (State.mpuRegion_strict_of_two hecc hs hr hk hne hmr hmk)]
    exact ⟨rfl, by simp [State.logRefusal_mem]⟩
  case layered =>
    rw [State.mpuCheck_of_region (State.mpuRegion_layered_of_first hecc hl hr hm hlt) hr]
    split <;> simp [*]
  case none => rw [State.mpuCheck_of_no_region (State.mpuRegion_of_none h)]

end Sys2Proof.Machine
end

section
/-! PROOFS. Loads, stores, drains, fences and atomic operations of a cell (R350, R355 to R357). -/

namespace Sys2Proof.Machine
open Sys2Proof.Say

/-! ### What a draining store leaves of the store buffers (R356) -/

/-- Every cell's store buffer is as it was. -/
def State.SameStores (s s' : State) : Prop := ∀ k, (s'.cell k).stores = (s.cell k).stores

section
variable (s : State)

theorem State.SameStores.of_sea {s s' : State} (h : s'.sea = s.sea) : s.SameStores s' := fun k => by simp [State.cell, h]

theorem State.SameStores.trans {a b c : State} (h1 : a.SameStores b) (h2 : b.SameStores c) : a.SameStores c :=
  fun k => (h2 k).trans (h1 k)

theorem State.modCell_sameStores (n : Nat) (f : Cell → Cell) (h : ∀ c, (f c).stores = c.stores) : s.SameStores (s.modCell n f) := by
  intro k
  by_cases hk : k = n
  · rw [hk, State.cell_modCell_same, h]
  · rw [State.cell_modCell_ne _ _ hk]

theorem State.setL1_sameStores (n line : Nat) (x : Option L1State) : s.SameStores (s.setL1 n line x) :=
  s.modCell_sameStores n _ fun _ => rfl

theorem State.loadBytes_sea (a n : Nat) : (s.loadBytes a n).2.sea = s.sea := by
  unfold State.loadBytes
  split <;> rfl

theorem State.ownLine_sameStores (n line : Nat) : s.SameStores (s.ownLine n line) := by
  unfold State.ownLine
  refine ((State.SameStores.of_sea (s.fillLine_sea _ _)).trans
    (foldl_rel State.SameStores (fun _ _ => rfl) (fun _ _ _ => .trans) _ (fun s p => ?_) _ _)).trans
      ((State.SameStores.of_sea rfl).trans (State.setL1_sameStores _ _ _ _))
  split
  · exact fun _ => rfl
  · split
    · exact s.setL1_sameStores _ _ _
    · exact fun _ => rfl

/-- The oldest store leaves the buffer. -/
theorem State.stores_drainOne (n : Nat) : ((s.drainOne n).cell n).stores = (s.cell n).stores.tail := by
  unfold State.drainOne
  split
  · next h => rw [h]; rfl
  · next e r h =>
    have hpop : ((s.modCell n (fun c => { c with stores := r })).cell n).stores = r := by rw [State.cell_modCell_same]
    rw [h, List.tail_cons]
    dsimp only
    split
    · exact ((State.ownLine_sameStores _ n _).trans (State.SameStores.of_sea rfl) n).trans hpop
    · split
      · exact (State.SameStores.of_sea (State.storeCap_sea _ _ _) n).trans hpop
      · exact (State.SameStores.of_sea (State.store_sea _ _ _) n).trans hpop

/-- As many drains as there are stores leave none. -/
theorem State.stores_drainAll (n : Nat) : ((s.drainAll n).cell n).stores = [] := by
  unfold State.drainAll
  generalize hl : (s.cell n).stores = l
  induction l generalizing s with
  | nil => exact hl
  | cons e r ih => exact ih _ (by rw [State.stores_drainOne, hl, List.tail_cons])

/-- An uncached store of bytes drains to its home. -/
theorem State.drainOne_uncached {n : Nat} {e : StoreEntry} {r : List StoreEntry} (h : (s.cell n).stores = e :: r)
    (hc : e.cached = false) (hp : e.cap = none) :
    s.drainOne n = (s.modCell n (fun c => { c with stores := r })).store e.addr e.data := by
  simp [State.drainOne, h, hc, hp]

@[simp] theorem State.cell_store (a k : Nat) (bs : List Byte) : (s.store a bs).cell k = s.cell k := by simp [State.cell]

/-- The hidden tags of the granules that a store touches are cleared. -/
theorem State.mem_tags_store {a g : Nat} {bs : List Byte} (h : bs ≠ []) :
    g ∈ (s.store a bs).mem.tags ↔ g ∈ s.mem.tags ∧ (g < a / 16 ∨ (a + bs.length - 1) / 16 < g) := by
  simp [State.store, h]

end

/-! ### The instructions (R350, R355 to R357) -/

section
variable {t cell auth off m r : Nat} {s : State}

section
variable {size : Nat} (h : Reach (s.tick t) cell auth off size true false m r)
include h

theorem exec_cellLoad_of_overlap {e : StoreEntry} (he : (s.cell cell).overlap (addrOf s cell auth off) size = some e) :
    exec (.cellLoad t cell auth off size) s =
      .next (if e.addr ≤ addrOf s cell auth off ∧ addrOf s cell auth off + size ≤ e.addr + e.data.length then
          (s.tick t).modCell cell
            (fun c => { c with loaded := slice e.data (addrOf s cell auth off - e.addr) size, stalled := false })
        else (s.tick t).modCell cell (fun c => { c with stalled := true })) := by
  have haddr : addrOf (s.tick t) cell auth off = addrOf s cell auth off := by simp [addrOf, State.capAddr]
  have hsize : size ≠ 0 := Nat.one_le_iff_ne_zero.1 h.2.1
  change execCellLoad t cell auth off size s = _
  simp only [execCellLoad, h.1, hsize, State.cellAccess_of_reach h, Option.any_none, haddr, State.tick_cell, he, Bool.not_true,
    Bool.false_eq_true, or_self, ↓reduceIte]
  split <;> rfl

theorem exec_cellLoad_of_memory (ho : (s.cell cell).overlap (addrOf s cell auth off) size = none)
    (hc : (s.region s.cfg m r).cacheable = false) (ha : openArea (addrOf s cell auth off) = false) :
    exec (.cellLoad t cell auth off size) s = .next ((s.tick t).modCell cell (fun c =>
      { c with loaded := (List.range size).map (fun i => s.memByte (addrOf s cell auth off + i)), stalled := false })) := by
  have haddr : addrOf (s.tick t) cell auth off = addrOf s cell auth off := by simp [addrOf, State.capAddr]
  have hsize : size ≠ 0 := Nat.one_le_iff_ne_zero.1 h.2.1
  have hregion : ((s.tick t).region (s.tick t).cfg m r).cacheable = false := by simpa using hc
  change execCellLoad t cell auth off size s = _
  simp only [execCellLoad, h.1, hsize, State.cellAccess_of_reach h, Option.any_none, haddr, State.tick_cell, ho, hregion,
    State.fetch_uncached ha, Bool.not_true, Bool.false_eq_true, or_self, ↓reduceIte]
  simp [State.memByte]

end

theorem exec_cellStore_of_reach {data : List Byte} (h : Reach (s.tick t) cell auth off data.length false true m r) :
    exec (.cellStore t cell auth off data) s = .next ((s.tick t).bufferStore cell
      { addr := addrOf s cell auth off, data, cached := (s.region s.cfg m r).cacheable }) := by
  have hdata : data.isEmpty = false := by
    obtain ⟨-, hlen, -⟩ := h
    cases data <;> simp_all
  change execCellStore t cell auth off data s = _
  simp only [execCellStore, h.1, hdata, State.cellAccess_of_reach h, Option.any_none, Bool.not_true, Bool.false_eq_true, or_self,
    ↓reduceIte]
  simp [addrOf, State.capAddr]

/-- A store that fails its checks traps with the cause that they give. -/
theorem exec_cellStore_of_error {data : List Byte} {cause : Nat} {s1 : State} (hruns : s.cellRuns cell = true) (hlen : 1 ≤ data.length)
    (h : (s.tick t).cellAccess cell auth off data.length false true none = .error (cause, s1)) :
    exec (.cellStore t cell auth off data) s =
      .next (s1.trap cell cause { reg := auth, offset := off, size := data.length, write := true } none) := by
  have hdata : data.isEmpty = false := by cases data <;> simp_all
  change execCellStore t cell auth off data s = _
  simp only [execCellStore, State.tick_cellRuns, hruns, hdata, h, accessInfo, Bool.not_true, Bool.false_eq_true, or_self, ↓reduceIte]

theorem State.cellAccess_of_cause {size : Nat} {read write : Bool} {cap : Option CapReg} {cause : Nat}
    (hspan : addrOf s cell auth off % 16 + size ≤ 16)
    (h : s.capCause cell (tget (s.cell cell).c auth {}) off size read write = some cause) :
    s.cellAccess cell auth off size read write cap = .error (cause, s) := by
  have hfits : ¬(16 < size ∨ 16 < s.capAddr (tget (s.cell cell).c auth {} : CapReg).cap off % 16 + size) := by
    unfold addrOf at hspan
    omega
  simp only [State.cellAccess, hfits, h, ↓reduceIte]

theorem State.cellAccess_of_crossing {size : Nat} {read write : Bool} {cap : Option CapReg}
    (hspan : 16 < addrOf s cell auth off % 16 + size) :
    s.cellAccess cell auth off size read write cap = .error (0x0C, s) :=
  if_pos (.inr hspan)

/-- A compare-and-swap outside the lease table, with nothing buffered, writes where the expected value stands (R357). -/
theorem exec_atomicOperation_of_reach {old new : BitVec 64} (h : Reach (s.tick t) cell auth off 8 true true m r)
    (hs : (s.cell cell).stores = []) (hc : (s.region s.cfg m r).cacheable = false)
    (ha : openArea (addrOf s cell auth off) = false) (hl : leaseAt (addrOf s cell auth off) = none) :
    let b := (List.range 8).map (fun i => s.memByte (addrOf s cell auth off + i))
    exec (.atomicOperation t cell auth off old new) s = .next
      ((if leNat b = old.toNat then (s.tick t).store (addrOf s cell auth off) (toLe 8 new.toNat) else s.tick t).modCell cell
        (fun c => { c with loaded := b, stalled := false })) := by
  have haddr : addrOf (s.tick t) cell auth off = addrOf s cell auth off := by simp [addrOf, State.capAddr]
  have hregion : ((s.tick t).region (s.tick t).cfg m r).cacheable = false := by simpa using hc
  have hdrained : (s.tick t).drainAll cell = s.tick t := State.drainAll_of_empty _ (by simpa using hs)
  change execAtomicOperation t cell auth off old new s = _
  simp only [execAtomicOperation, h.1, hdrained, State.cellAccess_of_reach h, Option.any_none, haddr, hregion, State.loadBytes, ha,
    State.performAtomic, hl, Bool.not_true, Bool.false_eq_true, ↓reduceIte]
  simp [State.memByte]

end

/-- Settles O23: loads, stores and their traps, drains, fences and the compare-and-swap. -/
theorem cellMemory : Obligations.CellMemory := by
  intro t cell auth off s
  have haddr : addrOf (s.tick t) cell auth off = addrOf s cell auth off := by simp [addrOf, State.capAddr]
  refine ⟨fun size m r h => ⟨fun e he hin => ?_, fun e he hout => ?_, exec_cellLoad_of_memory h⟩, fun data m r h => ?store,
    fun data cause hruns hlen hspan hcause => ?cause, fun data hruns hlen hspan => ?crossing, fun e r hs hc hp hd => ?drain, ?fence,
    fun m r old new h hs hc ha hl => ?swap⟩
  · rw [exec_cellLoad_of_overlap h he, if_pos hin]
  · rw [exec_cellLoad_of_overlap h he, if_neg hout]
  case store =>
    refine ⟨_, exec_cellStore_of_reach h, ?_⟩
    unfold State.bufferStore
    simp only [State.tick_cell]
    split <;> exact s.tick_modCell_effect t cell _
  case cause =>
    exact exec_cellStore_of_error hruns hlen (State.cellAccess_of_cause (by rwa [haddr]) (by simpa using hcause))
  case crossing => exact exec_cellStore_of_error hruns hlen (State.cellAccess_of_crossing (by rwa [haddr]))
  case drain =>
    refine ⟨(s.tick t).drainOne cell, rfl, ?_⟩
    rw [State.drainOne_uncached (s.tick t) (by simpa using hs) hc hp]
    obtain ⟨hcell, hothers, -⟩ := s.tick_modCell_effect t cell (fun c => { c with stores := r })
    refine ⟨by rw [State.cell_store, hcell], fun k hk => by rw [State.cell_store, hothers k hk], fun b => ?_, fun g => ?_, ?_⟩
    · rw [State.bytes_store, readByte_writeBytes]
      simp [State.modCell, State.modSea]
    · rw [State.mem_tags_store _ hd]
      simp [State.modCell, State.modSea]
    · rw [State.store_frame]
      simp [State.modCell, State.modSea]
  case fence =>
    refine ⟨(s.tick t).drainAll cell, rfl, State.stores_drainAll _ cell, fun h => State.drainAll_of_empty _ (by simpa using h), ?_⟩
    rw [((s.tick t).drainAll_drains cell).frame]
  case swap =>
    refine ⟨_, exec_atomicOperation_of_reach h hs hc ha hl, ?_, fun heq => ?_, fun hne => ?_, fun k hk => ?_, ?_⟩
    · rw [State.cell_modCell_same]
    · rw [if_pos heq]
      change ((s.tick t).store _ _).mem = _
      simp only [State.store, State.tick_mem]
      split
      · exact s.tick_mem t
      · rfl
    · rw [if_neg hne]
      exact s.tick_mem t
    · rw [State.cell_modCell_ne _ _ hk]
      split <;> simp
    · split
      · rw [State.store_frame]
        simp [State.modCell, State.modSea]
      · simp [State.modCell, State.modSea]

end Sys2Proof.Machine
end

section
/-! PROOFS. The directory of a cluster's lines: READ, OWN, WRITEBACK and the loser of a cycle (R352, R353). -/

namespace Sys2Proof.Machine
open Sys2Proof.Say

/-! ### One line of the directory, one cell's copy of it -/

section
variable (s : State)

@[simp] theorem State.line_setLine_same (k : Nat) (l : Line) : (s.setLine k l).line k = l := by simp [State.line, State.setLine]

theorem State.line_setLine_ne {k j : Nat} (l : Line) (h : j ≠ k) : (s.setLine k l).line j = s.line j := by
  simp [State.line, State.setLine, tget_tset_ne _ _ _ h.symm]

@[simp] theorem State.line_setL1 (n line k : Nat) (x : Option L1State) : (s.setL1 n line x).line k = s.line k := rfl
@[simp] theorem State.line_modCell (n k : Nat) (f : Cell → Cell) : (s.modCell n f).line k = s.line k := rfl
@[simp] theorem State.line_tick (t k : Nat) : (s.tick t).line k = s.line k := by simp [State.line]
@[simp] theorem State.cell_setLine (k n : Nat) (l : Line) : (s.setLine k l).cell n = s.cell n := rfl
@[simp] theorem State.cell_fillLine (k line n : Nat) : (s.fillLine k line).cell n = s.cell n := by simp [State.cell]

@[simp] theorem State.l1_setL1_same (n line : Nat) (x : Option L1State) : tfind ((s.setL1 n line x).cell n).l1 line = x := by
  rw [State.setL1, State.cell_modCell_same]
  cases x with
  | none => exact tfind_terase_same _ _
  | some v => exact tfind_tset_same _ _ _

theorem State.cell_setL1_ne {n k : Nat} (line : Nat) (x : Option L1State) (h : k ≠ n) : (s.setL1 n line x).cell k = s.cell k :=
  State.cell_modCell_ne _ _ h

/-! ### A line read in from its home -/

theorem State.line_loadBytes (a n k : Nat) : (s.loadBytes a n).2.line k = s.line k := by
  unfold State.loadBytes
  split <;> rfl

theorem State.line_fillLine_ne {k j : Nat} (line : Nat) (h : j ≠ k) : (s.fillLine k line).line j = s.line j := by
  unfold State.fillLine
  dsimp only
  split
  · rfl
  · rw [State.line_setLine_ne _ _ h, State.line_loadBytes]

@[simp] theorem State.dir_fillLine (k line : Nat) : ((s.fillLine k line).line k).dir = (s.line k).dir := by
  unfold State.fillLine
  dsimp only
  split
  · rfl
  · rw [State.line_setLine_same]

@[simp] theorem State.data_fillLine (k line : Nat) : ((s.fillLine k line).line k).data.isSome = true := by
  unfold State.fillLine
  dsimp only
  split
  · assumption
  · rw [State.line_setLine_same]; rfl

/-! ### What a request leaves unchanged -/

/-- A request changes the cells and the lines alone; the bytes of an area without a layout are free. -/
def State.Directs (s s' : State) : Prop :=
  s' = { s with sea := { s.sea with cells := s'.sea.cells }, mem := { s.mem with lines := s'.mem.lines }, freeCtr := s'.freeCtr }

theorem State.Directs.refl : s.Directs s := rfl

theorem State.Directs.trans {a b c : State} (h1 : a.Directs b) (h2 : b.Directs c) : a.Directs c := by
  unfold State.Directs at *
  rw [h2, h1]

theorem State.modCell_directs (n : Nat) (f : Cell → Cell) : s.Directs (s.modCell n f) := rfl
theorem State.setL1_directs (n line : Nat) (x : Option L1State) : s.Directs (s.setL1 n line x) := rfl
theorem State.setLine_directs (k : Nat) (l : Line) : s.Directs (s.setLine k l) := rfl

theorem State.fillLine_directs (k line : Nat) : s.Directs (s.fillLine k line) := by
  unfold State.fillLine State.loadBytes
  dsimp only
  split
  · exact .refl s
  · split <;> rfl

theorem State.readLine_directs (n line : Nat) : s.Directs (s.readLine n line) := by
  unfold State.readLine
  have hfill := s.fillLine_directs (lineKey n line) line
  dsimp only
  split
  · split
    · exact hfill.trans rfl
    · exact hfill.trans rfl
  · exact hfill.trans rfl
  · exact hfill.trans rfl

/-! ### READ (R352) -/

theorem State.readLine_l1 {n line : Nat} (h : (s.line (lineKey n line)).dir ≠ .owned (n % 8)) :
    tfind ((s.readLine n line).cell n).l1 line = some .shared := by
  unfold State.readLine
  dsimp only
  rw [State.dir_fillLine]
  split
  · next p hp => rw [if_neg (fun e => h (by rw [hp, e]))]; exact State.l1_setL1_same ..
  · exact State.l1_setL1_same ..
  · exact State.l1_setL1_same ..

/-- The owner's copy becomes Shared, and the line with it. -/
theorem State.readLine_of_owned {n line p : Nat} (hp : p ≠ n % 8) (h : (s.line (lineKey n line)).dir = .owned p) :
    tfind ((s.readLine n line).cell (8 * clusterOf n + p)).l1 line = some .shared ∧
      ((s.readLine n line).line (lineKey n line)).dir = .shared (linsert [p] (n % 8)) := by
  unfold State.readLine
  simp only [State.dir_fillLine, h, if_neg hp, State.line_setL1, State.line_setLine_same, and_true]
  by_cases hn : 8 * clusterOf n + p = n
  · rw [hn, State.l1_setL1_same]
  · rw [State.cell_setL1_ne _ _ _ hn, State.l1_setL1_same]

theorem State.readLine_of_shared {n line : Nat} {ps : List Nat} (h : (s.line (lineKey n line)).dir = .shared ps) :
    ((s.readLine n line).line (lineKey n line)).dir = .shared (linsert ps (n % 8)) := by
  simp [State.readLine, h]

/-- The requester has priority last, and the cluster holds the line's bytes. -/
theorem State.readLine_line (n line : Nat) : ((s.readLine n line).line (lineKey n line)).ptr = (n % 8 + 1) % 8 ∧
    ((s.readLine n line).line (lineKey n line)).data.isSome = true := by
  unfold State.readLine
  dsimp only
  split
  · split <;> simp
  · simp
  · simp

theorem State.readLine_line_ne (n line : Nat) {k : Nat} (h : k ≠ lineKey n line) : (s.readLine n line).line k = s.line k := by
  unfold State.readLine
  dsimp only
  split
  · split <;> simp [State.line_setLine_ne _ _ h, State.line_fillLine_ne _ _ h]
  · simp [State.line_setLine_ne _ _ h, State.line_fillLine_ne _ _ h]
  · simp [State.line_setLine_ne _ _ h, State.line_fillLine_ne _ _ h]

/-! ### OWN (R352) -/

/-- The copies of a line that the other cells of the requester's cluster hold become Invalid. -/
def State.invalidateOthers (s : State) (n line : Nat) : State :=
  (List.range 8).foldl (fun s p => if p = n % 8 then s else
    if tmem (s.cell (8 * clusterOf n + p)).l1 line then s.setL1 (8 * clusterOf n + p) line none else s) s

theorem State.ownLine_eq (n line : Nat) : s.ownLine n line =
    let s1 := (s.fillLine (lineKey n line) line).invalidateOthers n line
    (s1.setLine (lineKey n line) { s1.line (lineKey n line) with dir := .owned (n % 8), ptr := (n % 8 + 1) % 8 }).setL1 n line
      (some .modified) := rfl

theorem State.invalidateOthers_directs (n line : Nat) : s.Directs (s.invalidateOthers n line) := by
  refine foldl_rel State.Directs .refl (fun _ _ _ => .trans) _ (fun s p => ?_) _ s
  split
  · rfl
  · split <;> rfl

theorem State.line_invalidateOthers (n line k : Nat) : (s.invalidateOthers n line).line k = s.line k := by
  refine foldl_rel (fun a b : State => b.line k = a.line k) (fun _ => rfl) (fun _ _ _ h1 h2 => h2.trans h1) _ (fun s p => ?_) _ s
  split
  · rfl
  · split <;> rfl

theorem State.l1_invalidateOthers {n line p : Nat} (hp : p < 8) (hne : p ≠ n % 8) :
    tfind ((s.invalidateOthers n line).cell (8 * clusterOf n + p)).l1 line = none := by
  refine foldl_reaches (fun (s : State) p => p ≠ n % 8 → tfind (s.cell (8 * clusterOf n + p)).l1 line = none) _ (fun s p hne => ?_)
    (fun s p q hq hne => ?_) _ s p (List.mem_range.2 hp) hne
  · rw [if_neg hne]
    split
    · exact State.l1_setL1_same ..
    · next h => simpa [tmem] using h
  · split
    · exact hq hne
    · split
      · by_cases hpq : q = p
        · rw [hpq, State.l1_setL1_same]
        · rw [State.cell_setL1_ne _ _ _ (by omega), hq hne]
      · exact hq hne

theorem State.ownLine_directs (n line : Nat) : s.Directs (s.ownLine n line) :=
  ((s.fillLine_directs _ line).trans (State.invalidateOthers_directs _ n line)).trans rfl

theorem State.ownLine_line (n line : Nat) : ((s.ownLine n line).line (lineKey n line)).dir = .owned (n % 8) ∧
    ((s.ownLine n line).line (lineKey n line)).ptr = (n % 8 + 1) % 8 := by
  simp [State.ownLine_eq]

theorem State.ownLine_line_ne (n line : Nat) {k : Nat} (h : k ≠ lineKey n line) : (s.ownLine n line).line k = s.line k := by
  simp [State.ownLine_eq, State.line_setLine_ne _ _ h, State.line_invalidateOthers, State.line_fillLine_ne _ _ h]

theorem State.ownLine_l1 (n line : Nat) : tfind ((s.ownLine n line).cell n).l1 line = some .modified := by
  rw [State.ownLine_eq, State.l1_setL1_same]

theorem State.ownLine_others {n line p : Nat} (hp : p < 8) (hne : p ≠ n % 8) :
    tfind ((s.ownLine n line).cell (8 * clusterOf n + p)).l1 line = none := by
  rw [State.ownLine_eq, State.cell_setL1_ne _ _ _ (by omega)]
  exact State.l1_invalidateOthers _ hp hne

/-! ### A cycle's requests (R353) -/

/-- A requester without rivals is the winner, wherever the priority pointer stands. -/
theorem winner_singleton (ptr : Nat) {pos : Nat} (h : pos < 8) : winner ptr [pos] = some pos := by
  have hsome : (winner ptr [pos]).isSome = true := by
    rw [winner, List.find?_isSome]
    exact ⟨pos, List.mem_map.2 ⟨(pos + 8 - ptr % 8) % 8, List.mem_range.2 (Nat.mod_lt _ (by omega)), by omega⟩, by simp⟩
  obtain ⟨p, hp⟩ := Option.isSome_iff_exists.1 hsome
  have heq : p = pos := by simpa using List.find?_some hp
  rw [hp, heq]

/-- A request with no other in its cycle is served. -/
theorem State.request_alone {t cell line : Nat} (serve : State → State) (h : s.pending = []) :
    s.request t cell line serve = (serve s).modCell cell (fun c => { c with retry := false }) := by
  simp [State.request, h, winner_singleton _ (Nat.mod_lt cell (by omega : 0 < 8))]

/-- A request that the pointer passes over receives RETRY and changes nothing else. -/
theorem State.request_loses {t cell line : Nat} (serve : State → State)
    (hr : s.pending.filterMap (rival t (clusterOf cell) line) = [])
    (hw : winner (s.line (lineKey cell line)).ptr (cell % 8 :: s.pending.filterMap (contender t (clusterOf cell) line)) ≠
      some (cell % 8)) : s.request t cell line serve = s.modCell cell (fun c => { c with retry := true }) := by
  simp [State.request, hr, hw]

end

/-- The end of a served request clears RETRY and keeps every copy. -/
theorem State.cell_served (s : State) (n k : Nat) :
    ((s.modCell n (fun c => { c with retry := false })).cell k).l1 = (s.cell k).l1 := by
  by_cases h : k = n
  · rw [h, State.cell_modCell_same]
  · rw [State.cell_modCell_ne _ _ h]

/-- Settles O24: a request alone in its cycle, a WRITEBACK, and a request that loses its cycle. -/
theorem directory : Obligations.Directory := by
  intro t cell line s
  have hpos : cell % 8 < 8 := Nat.mod_lt _ (by omega)
  have hline (k : Nat) : (s.tick t).line k = s.line k := s.line_tick t k
  refine ⟨fun hc hp => ?read, fun hc hp => ?own, fun hm => ?writeback, fun hm => ?kept, fun c hcmd hc hr hw => ?loses⟩
  case read =>
    have hexec : exec (.read t cell line) s =
        .next (((s.tick t).readLine cell line).modCell cell (fun c => { c with retry := false })) := by
      change execRead t cell line s = _
      rw [execRead, if_pos hc, State.request_alone _ _ (by simpa using hp)]
    refine ⟨_, hexec, by simp, fun hd => ?_, fun p _ hne hd => ?_, fun ps hd => ?_, (State.readLine_line _ _ _).1,
      (State.readLine_line _ _ _).2, fun k hk => ?_, ?_⟩
    · rw [State.cell_served]
      exact State.readLine_l1 _ (by rwa [hline])
    · rw [State.cell_served]
      exact State.readLine_of_owned _ hne (by rwa [hline])
    · exact State.readLine_of_shared _ (by rwa [hline])
    · exact (State.readLine_line_ne _ _ _ hk).trans (hline k)
    · have := (((s.tick t).readLine_directs cell line).trans (State.modCell_directs _ cell (fun c => { c with retry := false })))
      simpa [State.Directs] using this
  case own =>
    have hexec : exec (.own t cell line) s =
        .next (((s.tick t).ownLine cell line).modCell cell (fun c => { c with retry := false })) := by
      change execOwn t cell line s = _
      rw [execOwn, if_pos hc, State.request_alone _ _ (by simpa using hp)]
    refine ⟨_, hexec, by simp, ?_, (State.ownLine_line _ _ _).1, (State.ownLine_line _ _ _).2, fun p hp hne => ?_, fun k hk => ?_, ?_⟩
    · rw [State.cell_served]
      exact State.ownLine_l1 _ _ _
    · rw [State.cell_served]
      exact State.ownLine_others _ hp hne
    · exact (State.ownLine_line_ne _ _ _ hk).trans (hline k)
    · have := (((s.tick t).ownLine_directs cell line).trans (State.modCell_directs _ cell (fun c => { c with retry := false })))
      simpa [State.Directs] using this
  case writeback =>
    have hexec : exec (.writeback t cell line) s = .next ((s.tick t).writebackLine cell line) := by
      change execWriteback t cell line s = _
      rw [execWriteback, State.writeback1, if_pos (by simpa using hm)]
    refine ⟨_, hexec, State.l1_setL1_same .., by simp [State.writebackLine],
      fun k hk => (State.cell_setL1_ne _ _ _ hk).trans (s.tick_cell t k), ?_⟩
    simp [State.writebackLine, State.setL1, State.setLine, State.modCell, State.modSea]
  case kept =>
    change execWriteback t cell line s = _
    rw [execWriteback, State.writeback1, if_neg (by simpa using hm)]
  case loses =>
    have hlost (serve : State → State) : (s.tick t).request t cell line serve =
        (s.tick t).modCell cell (fun c => { c with retry := true }) :=
      State.request_loses _ serve (by simpa using hr) (by simpa using hw)
    rcases hcmd with rfl | rfl
    · change execRead t cell line s = _
      rw [execRead, if_pos hc, hlost]
    · change execOwn t cell line s = _
      rw [execOwn, if_pos hc, hlost]

end Sys2Proof.Machine
end

section
/-! PROOFS. Event records, their windows and the holdoff of their vectors (R447 to R453). -/

namespace Sys2Proof.Machine

/-! ### A vector signalled for a recipient's records (R453) -/

section
variable (s : State)

/-- A message that falls due leaves, or its pending bit is set; what was sent stays sent. -/
theorem State.mem_out_signal {n v : Nat} {o : Output} (h : o ∈ s.out) : o ∈ (s.signal n v).out := by
  unfold State.signal State.msix
  dsimp only
  split
  · exact h
  · exact List.mem_cons_of_mem _ h

@[simp] theorem State.evq_signal (n v k : Nat) : (s.signal n v).evq k = s.evq k := State.evq_of_evt (by rw [State.signal_form]) k

/-- A message of a vector that nothing holds back is sent. -/
theorem State.out_signal_of_sent {n v : Nat} (hm : (tget (s.func (fnOf n)).msix v {} : MsixEntry).mask = false)
    (hf : (s.func (fnOf n)).fnMask = false) (he : (s.func (fnOf n)).msixEn = true) (hb : s.bme n = true) :
    (s.signal n v).out = .msix (fnOf n) v
      (ofTwo (tget (s.func (fnOf n)).msix v {} : MsixEntry).addrLo (tget (s.func (fnOf n)).msix v {} : MsixEntry).addrHi)
      (tget (s.func (fnOf n)).msix v {} : MsixEntry).data :: s.out := by
  have hb' : (s.func (fnOf n)).bme = true := hb
  simp only [State.signal, State.msix, hm, hf, he, hb', Bool.not_true, Bool.or_self, Bool.false_eq_true, ↓reduceIte]
  rfl

/-- A message of a masked vector sets its pending bit. -/
theorem State.signal_of_masked {n v : Nat} (hm : (tget (s.func (fnOf n)).msix v {} : MsixEntry).mask = true) :
    (tget ((s.signal n v).func (fnOf n)).msix v {} : MsixEntry).pend = true := by
  simp only [State.signal, State.msix, hm, Bool.true_or, ↓reduceIte, State.func_modFunc_same, tget_tmod_same]

/-- The signal of a vector changes nothing of the recipient's queue but its holdoffs. -/
theorem State.evSignal_evq (n v : Nat) : (s.evSignal n v).evq n = { s.evq n with holdoff := ((s.evSignal n v).evq n).holdoff } := by
  unfold State.evSignal
  dsimp only
  split
  · split <;> simp
  · simp

theorem State.evSignal_evq_ne {n k : Nat} (v : Nat) (h : k ≠ n) : (s.evSignal n v).evq k = s.evq k := by
  unfold State.evSignal
  dsimp only
  split
  · split <;> simp [State.evq_modEvq_ne _ _ h]
  · simp [State.evq_modEvq_ne _ _ h]

@[simp] theorem State.evSignal_raised (n v : Nat) : (s.evSignal n v).evt.raised = s.evt.raised := by
  have hsignal : (s.signal n v).evt.raised = s.evt.raised := by rw [State.signal_form]
  unfold State.evSignal
  dsimp only
  split
  · split
    · rfl
    · exact hsignal
  · exact hsignal

theorem State.mem_out_evSignal {n v : Nat} {o : Output} (h : o ∈ s.out) : o ∈ (s.evSignal n v).out := by
  unfold State.evSignal
  dsimp only
  split
  · split
    · exact h
    · exact s.mem_out_signal h
  · exact s.mem_out_signal h

/-- A vector without a holdoff is signalled, which starts one. -/
theorem State.evSignal_of_none {n v : Nat} (h : tfind (s.evq n).holdoff v = none) :
    s.evSignal n v = (s.signal n v).modEvq n (fun e =>
      { e with holdoff := if s.insN n 0x0E02 * 1000 = 0 then terase e.holdoff v
                          else tset e.holdoff v (s.now + s.insN n 0x0E02 * 1000, false) }) := by
  unfold State.evSignal
  dsimp only
  rw [h]

/-- The holdoff that a signal starts (R453). -/
theorem State.holdoff_evSignal_of_none {n v : Nat} (h : tfind (s.evq n).holdoff v = none) :
    tfind ((s.evSignal n v).evq n).holdoff v =
      if s.insN n 0x0E02 = 0 then none else some (s.now + s.insN n 0x0E02 * 1000, false) := by
  rw [State.evSignal_of_none s h, State.evq_modEvq_same]
  by_cases hn : s.insN n 0x0E02 = 0
  · simp [hn, tfind_terase_same]
  · simp [hn]

/-! ### An entry written at the tail (R447, R448) -/

theorem State.dmaPhaseLast_out (n iova : Nat) (bytes : List Byte) (pos : Nat) : (s.dmaPhaseLast n iova bytes pos).out =
    .dma n (iova + pos) (slice bytes pos 1) :: .dma n (iova + pos + 1) (bytes.drop (pos + 1)) :: .dma n iova (bytes.take pos) :: s.out := by
  simp [State.dmaPhaseLast, State.dmaOut, State.emitOut]

theorem State.writeEntry_evq (n : Nat) (bytes : Bool → List Byte) : (s.writeEntry n bytes).evq n = (s.evq n).push := by
  rw [State.writeEntry, State.evq_modEvq_same, State.evq_of_evt (State.dmaPhaseLast_evt ..)]

theorem State.writeEntry_evq_ne {n k : Nat} (bytes : Bool → List Byte) (h : k ≠ n) : (s.writeEntry n bytes).evq k = s.evq k := by
  rw [State.writeEntry, State.evq_modEvq_ne _ _ h, State.evq_of_evt (State.dmaPhaseLast_evt ..)]

@[simp] theorem State.writeEntry_raised (n : Nat) (bytes : Bool → List Byte) :
    (s.writeEntry n bytes).evt.raised = s.evt.raised := by
  simp [State.writeEntry, State.modEvq]

theorem EvQueue.push_tail (q : EvQueue) : q.push.tail = if q.tail + 1 = 2 ^ q.log2 then 0 else q.tail + 1 := by
  unfold EvQueue.push; split <;> rfl

theorem EvQueue.push_phase (q : EvQueue) : q.push.phase = if q.tail + 1 = 2 ^ q.log2 then !q.phase else q.phase := by
  unfold EvQueue.push; split <;> rfl

theorem EvQueue.push_used (q : EvQueue) : q.push.used = q.used + 1 := by
  unfold EvQueue.push; split <;> rfl

theorem EvQueue.push_lost (q : EvQueue) : q.push.lost = q.lost := by
  unfold EvQueue.push; split <;> rfl

/-! ### A record for a recipient (R448, R449, R451) -/

section
variable {s} {r : Raise} {p : Nat} {copy : Bool} (hon : isSlice p = false ∨ s.enabled p = true)
include hon

/-- A queue that is not set up, or whose function may not write, loses the record. -/
theorem State.writeRecord_of_down {fault : Option Nat} (h : (s.evq (queueOf p)).active = false ∨ s.bme (queueOf p) = false) :
    s.writeRecord r p copy fault = s.loseRecord (queueOf p) 1 true := by
  have hgone : (isSlice p && !s.enabled p) = false := by rcases hon with h | h <;> simp [h]
  have hdown : (!(s.evq (queueOf p)).active || !s.bme (queueOf p)) = true := by rcases h with h | h <;> simp [h]
  simp only [State.writeRecord, hgone, hdown, Bool.false_eq_true, ↓reduceIte]

variable (ha : (s.evq (queueOf p)).active = true) (hb : s.bme (queueOf p) = true) (hd : (s.evq (queueOf p)).lostDue = false)
  (hx : r.ext = none)
include ha hb hd

/-- A queue that is full but for one entry loses the record. -/
theorem State.writeRecord_of_full (hfull : 2 ^ (s.evq (queueOf p)).log2 < (s.evq (queueOf p)).used + 2) :
    s.writeRecord r p copy none = s.loseRecord (queueOf p) := by
  have hgone : (isSlice p && !s.enabled p) = false := by rcases hon with h | h <;> simp [h]
  have hfree : ∀ need, 1 ≤ need → (s.evq (queueOf p)).free < need + 1 := fun need hn => by unfold EvQueue.free; omega
  simp only [State.writeRecord, hgone, ha, hb, hd, Bool.false_eq_true, ↓reduceIte, Bool.not_true, Bool.or_self, Bool.false_or,
    hfree (if r.ext.isSome then 2 else 1) (by split <;> omega), decide_true]

include hx

/-- A queue with room takes the record at its tail, and the recipient's vector is signalled. -/
theorem State.writeRecord_of_room (hroom : (s.evq (queueOf p)).used + 2 ≤ 2 ^ (s.evq (queueOf p)).log2) :
    ∃ v, s.writeRecord r p copy none =
      (s.writeEntry (queueOf p) (fun ph => recordBytes r.code (b2n ph + (4 * b2n copy + 8 * b2n r.coalesced)) (min 255 r.count) r.source
        (if isSlice p then p else r.tag) (stampOf r.sec r.ns) r.data)).evSignal p v := by
  have hgone : (isSlice p && !s.enabled p) = false := by rcases hon with h | h <;> simp [h]
  have hfree : ¬(s.evq (queueOf p)).free < 1 + 1 := by unfold EvQueue.free; omega
  simp only [State.writeRecord, hgone, ha, hb, hd, hx, hfree, Option.isSome_none, decide_false, Bool.false_eq_true, ↓reduceIte,
    Bool.not_true, Bool.or_self]
  simp only [b2n, Bool.false_eq_true, ↓reduceIte, Nat.mul_zero, Nat.zero_add]
  exact ⟨_, rfl⟩

end

/-- A record that no write fault meets is written, or lost, and nothing else happens. -/
theorem State.deliver_of_clear {r : Raise} {p : Nat} {copy : Bool} {io : HostIo} (h : s.eqCause p io = none) :
    s.deliver r p copy io = s.writeRecord r p copy none := by
  simp only [State.deliver, h]

theorem State.eqCause_of_down {p : Nat} {io : HostIo} (h : (s.evq (queueOf p)).active = false ∨ s.bme (queueOf p) = false) :
    s.eqCause p io = none := by
  rcases h with h | h <;> simp [State.eqCause, h]

/-- An occurrence of a code that no window holds back is delivered at once. -/
theorem State.occur_of_plain {r : Raise} {p : Nat} {io : HostIo} (h : evC r.code = false ∨ s.insN p 0x0E01 = 0) :
    s.occur r io (p, false) = s.deliver r p false io := by
  rcases h with h | h <;> simp [State.occur, h]

theorem State.occur_of_window {r : Raise} {p k : Nat} {w : Window} {io : HostIo} (hc : evC r.code = true) (hn : s.insN p 0x0E01 ≠ 0)
    (hw : s.evt.windows.find? (fun x => x.2.matches_ r (p, false)) = some (k, w)) : s.occur r io (p, false) =
      { s with evt := { s.evt with windows := tupd s.evt.windows k (fun w => { w with held := w.held + 1, last := some r }) } } := by
  simp [State.occur, hc, hn, hw]

end

/-! ### The rows -/

section
variable {t p : Nat} {io : HostIo} {s : State}

/-- The device time at which the oldest event is written, with the others still waiting. -/
def State.oldestTaken (s : State) (t : Nat) (rest : List Raise) : State := { s.tick t with evt := { s.evt with raised := rest } }

theorem State.oldestTaken_insN (t p id : Nat) (rest : List Raise) : (s.oldestTaken t rest).insN p id = s.insN p id := s.tick_insN t p id

theorem State.oldestTaken_enabled (t p : Nat) (rest : List Raise) : (s.oldestTaken t rest).enabled p = s.enabled p := s.tick_enabled t p

theorem State.oldestTaken_bme (t p : Nat) (rest : List Raise) : (s.oldestTaken t rest).bme p = s.bme p := s.tick_bme t p

/-- The oldest event raised reaches its one recipient. -/
theorem exec_eventRecordWrite_of_one {r : Raise} {rest : List Raise} (hr : s.evt.raised = r :: rest) (hp : r.rcpt = [(p, false)]) :
    exec (.eventRecordWrite t io) s = .next ((s.oldestTaken t rest).occur r io (p, false)) := by
  change execEventRecordWrite t io s = _
  simp [execEventRecordWrite, hr, hp, State.oldestTaken]

/-- A code that no window holds back is written, or lost, when no write fault meets it. -/
theorem exec_eventRecordWrite_of_plain {r : Raise} {rest : List Raise} (hr : s.evt.raised = r :: rest) (hp : r.rcpt = [(p, false)])
    (hplain : evC r.code = false ∨ s.insN p 0x0E01 = 0) (hc : (s.oldestTaken t rest).eqCause p io = none) :
    exec (.eventRecordWrite t io) s = .next ((s.oldestTaken t rest).writeRecord r p false none) := by
  rw [exec_eventRecordWrite_of_one hr hp, State.occur_of_plain _ (by rwa [State.oldestTaken_insN]), State.deliver_of_clear _ hc]

/-- The record stands in the queue: its 16 bytes at the tail, the byte with PHASE written last. -/
theorem State.writeRecord_effect (s1 : State) {r : Raise} (hon : isSlice p = false ∨ s1.enabled p = true)
    (ha : (s1.evq (queueOf p)).active = true) (hb : s1.bme (queueOf p) = true) (hd : (s1.evq (queueOf p)).lostDue = false)
    (hx : r.ext = none) (hroom : (s1.evq (queueOf p)).used + 2 ≤ 2 ^ (s1.evq (queueOf p)).log2) :
    let q := queueOf p
    let e := s1.evq q
    let us := recordBytes r.code (b2n e.phase + 8 * b2n r.coalesced) (min 255 r.count) r.source (if isSlice p then p else r.tag)
      (stampOf r.sec r.ns) r.data
    let s' := s1.writeRecord r p false none
    s'.evt.raised = s1.evt.raised ∧ (s'.evq q).tail = (if e.tail + 1 = 2 ^ e.log2 then 0 else e.tail + 1) ∧
      (s'.evq q).used = e.used + 1 ∧ (s'.evq q).phase = (if e.tail + 1 = 2 ^ e.log2 then !e.phase else e.phase) ∧
      (s'.evq q).lost = e.lost ∧ Output.dma q (e.base + 16 * e.tail) (us.take 2) ∈ s'.out ∧
      Output.dma q (e.base + 16 * e.tail + 3) (us.drop 3) ∈ s'.out ∧
      Output.dma q (e.base + 16 * e.tail + 2) ((us.drop 2).take 1) ∈ s'.out ∧
      (∀ k, k ≠ q → k ≠ p → s'.evq k = s1.evq k) ∧ s' = { s1 with evt := s'.evt, ins := s'.ins, out := s'.out } := by
  intro q e us s'
  obtain ⟨v, hv⟩ := State.writeRecord_of_room (copy := false) hon ha hb hd hx hroom
  have hs' : s' = (s1.writeEntry q (fun ph => recordBytes r.code (b2n ph + 8 * b2n r.coalesced) (min 255 r.count) r.source
      (if isSlice p then p else r.tag) (stampOf r.sec r.ns) r.data)).evSignal p v := by
    simpa only [b2n, Bool.false_eq_true, ↓reduceIte, Nat.mul_zero, Nat.zero_add] using hv
  have hq : ∃ h, s'.evq q = { e.push with holdoff := h } := by
    by_cases hpq : q = p
    · exact ⟨_, by rw [hs', hpq, State.evSignal_evq, ← hpq, State.writeEntry_evq]⟩
    · exact ⟨e.push.holdoff, by rw [hs', State.evSignal_evq_ne _ _ hpq, State.writeEntry_evq]⟩
  have hout {o : Output} (ho : o ∈ (s1.dmaPhaseLast q (e.base + 16 * e.tail) us 2).out) : o ∈ s'.out := by
    rw [hs']
    exact State.mem_out_evSignal _ ho
  obtain ⟨h, hq⟩ := hq
  rw [hq, State.dmaPhaseLast_out] at *
  refine ⟨?_, e.push_tail, e.push_used, e.push_phase, e.push_lost, hout (by simp), hout (by simp), hout (by simp [slice]),
    fun k hkq hkp => ?_, ?_⟩
  · rw [hs', State.evSignal_raised, State.writeEntry_raised]
  · rw [hs', State.evSignal_evq_ne _ _ hkp, State.writeEntry_evq_ne _ _ hkq]
  · rw [hs', State.evSignal_frame, State.writeEntry_frame]

/-- A window that another recipient has, or whose end has not come, stays open. -/
theorem exec_coalesceWindowEnd_of_early {k : Nat} {w : Window} (hw : tfind s.evt.windows k = some w)
    (h : w.rcpt ≠ p ∨ (s.tick t).now < w.ends) : exec (.coalesceWindowEnd t p k io) s = .next (s.tick t) := by
  change execCoalesceWindowEnd t p k io s = _
  simp only [execCoalesceWindowEnd, State.tick_evt, hw, if_pos h]

theorem exec_coalesceWindowEnd_of_due {k : Nat} {w : Window} (hw : tfind s.evt.windows k = some w) (hp : w.rcpt = p)
    (hend : w.ends ≤ (s.tick t).now) :
    let s1 : State := { s.tick t with evt := { s.evt with windows := terase s.evt.windows k } }
    (w.last = none → exec (.coalesceWindowEnd t p k io) s = .next s1) ∧
    (∀ r, w.last = some r → exec (.coalesceWindowEnd t p k io) s =
      .next (s1.deliver { r with count := w.held, coalesced := true } p w.copy io)) := by
  change (_ → execCoalesceWindowEnd t p k io s = _) ∧ ∀ r, _ → execCoalesceWindowEnd t p k io s = _
  have hdue : ¬(w.rcpt ≠ p ∨ (s.tick t).now < w.ends) := by rw [hp]; simpa using hend
  simp only [execCoalesceWindowEnd, State.tick_evt, hw, if_neg hdue]
  exact ⟨fun hl => by rw [hl], fun r hl => by rw [hl, hp]⟩

/-- A holdoff that ends is gone, and what waited for its end is signalled (R453). -/
theorem exec_irqHoldoffEnd_of_due {v ends : Nat} {waiting : Bool} (h : tfind (s.evq p).holdoff v = some (ends, waiting))
    (hend : ends ≤ (s.tick t).now) : exec (.irqHoldoffEnd t p v) s =
      .next (if waiting then ((s.tick t).modEvq p (fun e => { e with holdoff := terase e.holdoff v })).evSignal p v
        else (s.tick t).modEvq p (fun e => { e with holdoff := terase e.holdoff v })) := by
  change execIrqHoldoffEnd t p v s = _
  simp only [execIrqHoldoffEnd, State.tick_evq, h, if_neg (Nat.not_lt.2 hend)]

end

/-- Settles O55: the write of the oldest event, the records lost, the ends of windows and those of holdoffs. -/
theorem eventRecords : Obligations.EventRecords := by
  intro t p io s
  refine ⟨fun h => ?idle, fun r rest hr hp => ⟨fun hon hplain => ⟨fun us ha hb hc hd hx hroom hus => ?room, fun hdown => ?down,
    fun ha hb hc hd hfull => ?full⟩, fun hc hn k w hw => ?held⟩,
    fun n due => ?lost, fun k hk => ?closed, fun k w hw => ⟨?early, ?due⟩,
    fun v hv => ?free, fun v ends hv hend => ?quiet, fun v ends hv hend => ?waiting⟩
  case idle =>
    change execEventRecordWrite t io s = _
    simp [execEventRecordWrite, h]
  case room =>
    subst hus
    exact ⟨_, exec_eventRecordWrite_of_plain hr hp hplain hc,
      State.writeRecord_effect (s.oldestTaken t rest) (by rwa [State.oldestTaken_enabled]) ha
        (by rwa [State.oldestTaken_bme]) hd hx hroom⟩
  case down =>
    have hdown1 : ((s.oldestTaken t rest).evq (queueOf p)).active = false ∨ (s.oldestTaken t rest).bme (queueOf p) = false := by
      rwa [State.oldestTaken_bme]
    rw [exec_eventRecordWrite_of_plain hr hp hplain (State.eqCause_of_down _ hdown1),
      State.writeRecord_of_down (by rwa [State.oldestTaken_enabled]) hdown1]
    rfl
  case full =>
    rw [exec_eventRecordWrite_of_plain hr hp hplain hc,
      State.writeRecord_of_full (s := s.oldestTaken t rest) (by rwa [State.oldestTaken_enabled]) ha
        (by rwa [State.oldestTaken_bme]) hd hfull]
    rfl
  case held =>
    rw [exec_eventRecordWrite_of_one hr hp, State.occur_of_window (s.oldestTaken t rest) hc (by rwa [State.oldestTaken_insN]) hw]
    rfl
  case lost => simp [State.loseRecord, State.evq, State.modEvq]
  case closed =>
    change execCoalesceWindowEnd t p k io s = _
    simp [execCoalesceWindowEnd, hk]
  case early => exact exec_coalesceWindowEnd_of_early hw
  case due => exact exec_coalesceWindowEnd_of_due hw
  case free =>
    change execIrqHoldoffEnd t p v s = _
    simp [execIrqHoldoffEnd, hv]
  case quiet =>
    obtain ⟨hq, -, hframe⟩ := s.tick_modEvq_effect t p (fun e => { e with holdoff := terase e.holdoff v })
    exact ⟨_, exec_irqHoldoffEnd_of_due hv hend, hq, hframe⟩
  case waiting =>
    obtain ⟨hq, -, hframe⟩ := s.tick_modEvq_effect t p (fun e => { e with holdoff := terase e.holdoff v })
    have hexec := exec_irqHoldoffEnd_of_due hv hend
    set s1 := (s.tick t).modEvq p (fun e => { e with holdoff := terase e.holdoff v }) with hs1
    have hfunc (k : Nat) : s1.func k = s.func k := s.tick_func t k
    have hnone : tfind (s1.evq p).holdoff v = none := by rw [hq]; exact tfind_terase_same _ _
    rw [if_pos rfl] at hexec
    refine ⟨_, hexec, ?_, ?_, fun ⟨hm, hf, he, hb⟩ => ?_, fun hm => ?_⟩
    · rw [State.holdoff_evSignal_of_none s1 hnone, show s1.insN p 0x0E02 = s.insN p 0x0E02 from s.tick_insN t p _]
      rfl
    · rw [State.evSignal_of_none s1 hnone, State.signal_form, hframe]
      simp [State.modEvq]
    · rw [State.evSignal_of_none s1 hnone]
      refine (State.out_signal_of_sent s1 (by rwa [hfunc]) (by rwa [hfunc]) (by rwa [hfunc]) ((s.tick_bme t p).trans hb)).trans ?_
      rw [hfunc, hframe]
      simp
    · rw [State.evSignal_of_none s1 hnone]
      exact State.signal_of_masked s1 (by rwa [hfunc])

end Sys2Proof.Machine
end

section
/-! PROOFS. The test and the event commands, and the marks of a test's requests (R427, R440, R441, R454, R455). -/

namespace Sys2Proof.Machine
open Sys2Proof.Say

/-! ### Requests and their drain marks (R427, R440, R441) -/

/-- What a mark does not change of a request. -/
def TestReq.asked (r : TestReq) : Option Nat × Bool × Bool := (r.ticket, r.drain, r.running)

/-- What the marking of requests may change: their marks, with the times that run from them, and the drain marks of the units
that requests name. -/
structure State.Marks (s s' : State) : Prop where
  frame : s' = { s with
    test := { s.test with reqs := s'.test.reqs }
    sea := { s.sea with drainCells := s'.sea.drainCells, drainClusters := s'.sea.drainClusters } }
  req : ∀ k, (tfind s'.test.reqs k).map TestReq.asked = (tfind s.test.reqs k).map TestReq.asked
  cells : ∀ n, n ∈ s'.sea.drainCells → n ∈ s.sea.drainCells ∨ tfind s.test.reqs (testKey 0 n) ≠ none
  clusters : ∀ n, n ∈ s'.sea.drainClusters → n ∈ s.sea.drainClusters ∨ tfind s.test.reqs (testKey 1 n) ≠ none

theorem State.Marks.refl (s : State) : s.Marks s := ⟨rfl, fun _ => rfl, fun _ => .inl, fun _ => .inl⟩

theorem State.Marks.none_iff {s s' : State} (h : s.Marks s') (k : Nat) :
    tfind s'.test.reqs k = none ↔ tfind s.test.reqs k = none := by
  rw [← Option.map_eq_none_iff (f := TestReq.asked), h.req, Option.map_eq_none_iff]

theorem State.Marks.trans {a b c : State} (h1 : a.Marks b) (h2 : b.Marks c) : a.Marks c where
  frame := by rw [h2.frame, h1.frame]
  req k := (h2.req k).trans (h1.req k)
  cells n hn := (h2.cells n hn).elim (h1.cells n) (fun h => .inr (mt (h1.none_iff _).2 h))
  clusters n hn := (h2.clusters n hn).elim (h1.clusters n) (fun h => .inr (mt (h1.none_iff _).2 h))

theorem State.markReq_marks (s : State) (k : Nat) : s.Marks (s.markReq k) := by
  unfold State.markReq
  split
  · exact .refl s
  · next r hr =>
    have hset (q : Nat) : (tfind (tset s.test.reqs k { r with marked := true, until_ := s.now + 2000000000 }) q).map TestReq.asked =
        (tfind s.test.reqs q).map TestReq.asked := by
      by_cases hq : q = k
      · rw [hq, tfind_tset_same, hr]; rfl
      · rw [tfind_tset_ne _ _ (Ne.symm hq)]
    have hkey (c n : Nat) (hc : k / 1024 = c) (hn : n = k % 1024) : tfind s.test.reqs (testKey c n) ≠ none := by
      rw [show testKey c n = k by unfold testKey; omega, hr]
      simp
    dsimp only
    split
    · exact .refl s
    · split
      · next hc =>
        refine ⟨rfl, hset, fun n hn => ?_, fun _ => .inl⟩
        exact (mem_linsert_iff.1 hn).elim (fun h => .inr (hkey 0 n (of_decide_eq_true (Bool.and_eq_true_iff.1 hc).1) h)) .inl
      · split
        · next hc =>
          refine ⟨rfl, hset, fun _ => .inl, fun n hn => ?_⟩
          have hcls := of_decide_eq_true (Bool.and_eq_true_iff.1 (Bool.and_eq_true_iff.1 hc).1).1
          exact (mem_linsert_iff.1 hn).elim (fun h => .inr (hkey 1 n hcls h)) .inl
        · exact .refl s

theorem State.markNext_marks (s : State) : s.Marks s.markNext :=
  foldl_rel State.Marks .refl (fun _ _ _ => .trans) State.markReq State.markReq_marks _ s

/-- The marks of a request that is there leave it asked for as it was. -/
theorem State.Marks.asked {s s' : State} (h : s.Marks s') {k : Nat} {r : TestReq} (hr : tfind s.test.reqs k = some r) :
    ∃ r', tfind s'.test.reqs k = some r' ∧ r'.ticket = r.ticket ∧ r'.drain = r.drain ∧ r'.running = r.running := by
  have hreq := h.req k
  rw [hr, Option.map_some, Option.map_eq_some_iff] at hreq
  obtain ⟨r', hr', hasked⟩ := hreq
  simp only [TestReq.asked, Prod.mk.injEq] at hasked
  exact ⟨r', hr', hasked⟩

theorem State.unmark_mbx (s : State) (cls num : Nat) : (s.unmark cls num).mbx = s.mbx := by
  unfold State.unmark
  split <;> rfl

theorem State.unmark_test (s : State) (cls num : Nat) : (s.unmark cls num).test = s.test := by
  unfold State.unmark
  split <;> rfl

/-! ### TEST_REQUEST, TEST_RESULT and TEST_COVERAGE (R440, R441, R444) -/

/-- A unit without a request gets one under the next ticket. -/
theorem testRequestWork_of_none {tag cls mode n : Nat} {io : HostIo} {a : List Word} {s : State} (hcls : fld (arg a 1) 2 0 = cls)
    (hmode : fld (arg a 1) 15 8 = mode) (hnum : fld (arg a 1) 25 16 = n) (hm : mode ≤ 1) (hc : cls ≤ 6) (hn : n < testCount cls)
    (hr : tfind s.test.reqs (testKey cls n) = none) (hb : s.testBarred cls n = false) :
    ∃ s1 r, testRequestWork tag io a s = .reply 0x0001 [wd s.mbx.nextTicket] s1 ∧ tfind s1.test.reqs (testKey cls n) = some r ∧
      r.ticket = some s.mbx.nextTicket ∧ r.drain = (decide (mode = 1) && decide (cls ≤ 1)) ∧ r.running = false ∧
      (tfind s1.mbx.tickets s.mbx.nextTicket).map (fun c => (c.tag, c.code, c.args)) = some (tag, 0x0C01, a) := by
  let q : TestReq := { ticket := some s.mbx.nextTicket, drain := mode == 1 && decide (cls ≤ 1), until_ := 0, marked := false
                       running := false }
  let s2 : State := ((s.defer testRequestDef tag a).2.unmark cls n).modTest
    (fun x => { x with again := terase x.again (testKey cls n), reqs := tset x.reqs (testKey cls n) q })
  have hwork : testRequestWork tag io a s = .reply 0x0001 [wd s.mbx.nextTicket] (s2.markReq (testKey cls n)).markNext := by
    have hrange : ¬(6 < cls ∨ testCount cls ≤ n) := by omega
    have hdefer : (s.defer testRequestDef tag a).2.test = s.test := rfl
    simp only [testRequestWork, hcls, hmode, hnum, Nat.not_lt.2 hm, hrange, hr, hb, hdefer, Bool.false_eq_true, ↓reduceIte]
    rfl
  have hmarks := (s2.markReq_marks (testKey cls n)).trans (State.markNext_marks _)
  obtain ⟨r, hr1, hticket, hdrain, hrunning⟩ := hmarks.asked (k := testKey cls n) (r := q) (tfind_tset_same _ _ _)
  refine ⟨_, r, hwork, hr1, hticket, hdrain, hrunning, ?_⟩
  rw [hmarks.frame]
  change (tfind s2.mbx.tickets _).map _ = _
  rw [State.modTest_mbx, State.unmark_mbx]
  simp [State.defer, testRequestDef]

/-- The older of two units, the first of equals; none is younger than any. -/
def State.older (s : State) (b : Option (Nat × Nat)) (p : Nat × Nat) : Option (Nat × Nat) :=
  match b with
  | none => some p
  | some q => if s.ageStart p.1 p.2 < s.ageStart q.1 q.2 then some p else b

theorem State.older_le (s : State) (b : Option (Nat × Nat)) (p : Nat × Nat) : ∃ q, s.older b p = some q ∧
    s.ageStart q.1 q.2 ≤ s.ageStart p.1 p.2 ∧ ∀ r, b = some r → s.ageStart q.1 q.2 ≤ s.ageStart r.1 r.2 := by
  unfold State.older
  split
  · exact ⟨p, rfl, le_rfl, fun r h => by cases h⟩
  · next q =>
    split
    · next h => exact ⟨p, rfl, le_rfl, fun r hr => Option.some.inj hr ▸ h.le⟩
    · next h => exact ⟨q, rfl, Nat.not_lt.1 h, fun r hr => Option.some.inj hr ▸ le_rfl⟩

theorem State.foldl_older_le (s : State) (l : List (Nat × Nat)) (p : Nat × Nat) : ∃ q, l.foldl s.older (some p) = some q ∧
    s.ageStart q.1 q.2 ≤ s.ageStart p.1 p.2 ∧ ∀ r ∈ l, s.ageStart q.1 q.2 ≤ s.ageStart r.1 r.2 := by
  induction l generalizing p with
  | nil => exact ⟨p, rfl, le_rfl, fun r h => absurd h List.not_mem_nil⟩
  | cons x l ih =>
    obtain ⟨y, hy, hyx, hyp⟩ := s.older_le (some p) x
    obtain ⟨q, hq, hqy, hql⟩ := ih y
    refine ⟨q, by rw [List.foldl_cons, hy, hq], hqy.trans (hyp p rfl), fun r hr => ?_⟩
    rcases List.mem_cons.1 hr with rfl | hr
    · exact hqy.trans hyx
    · exact hql r hr

/-- No unit of a list is older than its oldest. -/
theorem State.oldestOf_le {s : State} {l : List (Nat × Nat)} {r : Nat × Nat} (hr : r ∈ l) (d : Nat × Nat) :
    s.ageStart ((s.oldestOf l).getD d).1 ((s.oldestOf l).getD d).2 ≤ s.ageStart r.1 r.2 := by
  have holdest : s.oldestOf l = l.foldl s.older none := rfl
  cases l with
  | nil => exact absurd hr List.not_mem_nil
  | cons p l =>
    obtain ⟨q, hq, hqp, hql⟩ := s.foldl_older_le l p
    rw [holdest, List.foldl_cons, show s.older none p = some p from rfl, hq, Option.getD_some]
    rcases List.mem_cons.1 hr with rfl | hr
    · exact hqp
    · exact hql r hr

theorem State.mem_coveredUnits {s : State} {c n : Nat} (hc : covered c = true) (hn : n < testCount c) (hp : s.testPresent c n = true) :
    (c, n) ∈ s.coveredUnits := by
  have hcls : c ∈ [0, 1, 2, 3, 6] := by
    simp only [covered, Bool.or_eq_true, decide_eq_true_eq, beq_iff_eq] at hc
    simp only [List.mem_cons, List.not_mem_nil, or_false]
    omega
  exact List.mem_filter.2 ⟨List.mem_flatMap.2 ⟨c, hcls, List.mem_map.2 ⟨n, List.mem_range.2 hn, rfl⟩⟩, hp⟩

theorem testCommands : testCommandsSay := by
  intro t tag io s a s0 cls mode n k u
  refine ⟨fun hm => ?mode, fun hm h => ?unit, fun hm hc hn => ⟨fun r hr ht => ?asked, fun hr hb => ?barred, fun hr hb => ?taken⟩,
    fun hc hw => ?word, fun hw h => ?resultUnit, fun hw hc hn => ?result, ?coverage⟩
  case mode => exact answers_of_work rfl (if_pos hm)
  case unit => exact answers_of_work rfl ((if_neg (Nat.not_lt.2 hm)).trans (if_pos h))
  case asked =>
    refine answers_of_work rfl ((if_neg (Nat.not_lt.2 hm)).trans ((if_neg (not_or.2 ⟨Nat.not_lt.2 hc, Nat.not_le.2 hn⟩)).trans
      (if_pos ?_)))
    rw [show tfind (s.tick t).test.reqs (testKey cls n) = some r by simpa using hr]
    exact ht
  case barred =>
    refine answers_of_work rfl ((if_neg (Nat.not_lt.2 hm)).trans ((if_neg (not_or.2 ⟨Nat.not_lt.2 hc, Nat.not_le.2 hn⟩)).trans
      ((if_neg ?_).trans (if_pos ?_))))
    · rw [show tfind (s.tick t).test.reqs (testKey cls n) = none by simpa using hr]
      exact Bool.false_ne_true
    · exact (s.tick_testBarred t cls n).trans hb
  case taken =>
    obtain ⟨s1, r, hwork, hreq⟩ := testRequestWork_of_none (s := s0) (tag := tag) (io := io) (a := a) rfl rfl rfl hm hc hn
      (by simpa [s0] using hr) ((s.tick_testBarred t cls n).trans hb)
    rw [show s0.mbx = s.mbx from s.tick_mbx t] at hwork hreq
    exact ⟨s1, r, answers_of_work rfl hwork, hreq⟩
  case word => exact answers_of_work rfl (if_pos ⟨hc, hw⟩)
  case resultUnit => exact answers_of_work rfl ((if_neg (by omega)).trans (if_pos h))
  case result =>
    have hu : s0.testUnit cls n = u := s.tick_testUnit t cls n
    have hrange : ¬(6 < cls ∨ testCount cls ≤ n) := by omega
    refine answers_of_work rfl ((if_neg (fun h => h.2 hw)).trans ((if_neg hrange).trans ((if_pos (.inl (by omega))).trans ?_)))
    rw [← hu]
    rfl
  case coverage =>
    let o := (s0.oldestOf s0.coveredUnits).getD (0, 0)
    refine ⟨_, o.1, o.2, answers_of_work rfl rfl, rfl, rfl, rfl, fun _ _ c m hc hm hp => ?_, ?_, ?_⟩
    · rw [← s.tick_ageStart t, ← s.tick_ageStart t]
      exact State.oldestOf_le (s := s0) (State.mem_coveredUnits hc hm ((s.tick_testPresent t c m).trans hp)) (0, 0)
    · simp
    · simp

/-! ### The event commands (R454, R455, R457) -/

theorem mem_lput_same {l : List Nat} {k : Nat} {on : Bool} : k ∈ lput l k on ↔ on = true := by
  cases on with
  | false => simp [lput]
  | true => simp [lput, mem_linsert]

theorem mem_lput_ne {l : List Nat} {k j : Nat} {on : Bool} (h : j ≠ k) : j ∈ lput l k on ↔ j ∈ l := by
  cases on with
  | false => simp [lput, h]
  | true => simp [lput, mem_linsert_iff, h]

/-- EVT_MASK_SET of a code of the table, for a tag that the caller may name. -/
theorem evtMaskSetWork_of_named {tag : Nat} {io : HostIo} {a : List Word} {s : State}
    (h : s.evGone tag (fld (arg a 1) 29 20) = false) (hi : (evInfo (fld (arg a 1) 15 0)).isSome = true) :
    evtMaskSetWork tag io a s = if evU (fld (arg a 1) 15 0) then .status (if bit (arg a 1) 16 then 0x0E02 else 0) s
      else if bit (arg a 1) 17 then
        .ok [] (s.modEvq 0 (fun e => { e with copyMask := lput e.copyMask (fld (arg a 1) 15 0) (bit (arg a 1) 16) }))
      else .ok [] (s.modEvq (evTag tag (fld (arg a 1) 29 20))
        (fun e => { e with mask := lput e.mask (fld (arg a 1) 15 0) (bit (arg a 1) 16) })) :=
  (if_neg (ne_true_of_eq_false h)).trans (if_neg (ne_true_of_eq_false (Option.isNone_eq_false_iff.2 hi)))

theorem eventCommands : eventCommandsSay := by
  intro t tag io s a s0 w code named
  have hgone : s0.evGone tag named = s.evGone tag named := s.tick_evGone t tag named
  have hmask (h : s.evGone tag named = false) := evtMaskSetWork_of_named (io := io) (hgone.trans h)
  refine ⟨fun h => ⟨?setGone, ?getGone⟩, fun h hi => ⟨?setNone, ?getNone⟩,
    fun h hi => ⟨fun hu ho => ?barred, fun hu ho => ?unmaskable, fun hu hp => ?copy, fun hu hp => ?own, ?get⟩, fun hn => ?noSource,
    fun hn => ?source, fun h => ?statusGone, fun h => ?status⟩
  case setGone | getGone => exact answers_of_work rfl (if_pos (hgone.trans h))
  case statusGone => exact answers_of_work rfl (if_pos ((s.tick_evGone ..).trans h))
  case setNone | getNone =>
    exact answers_of_work rfl ((if_neg (ne_true_of_eq_false (hgone.trans h))).trans (if_pos (Option.isNone_iff_eq_none.2 hi)))
  case get =>
    refine answers_of_work rfl ((if_neg (ne_true_of_eq_false (hgone.trans h))).trans
      ((if_neg (ne_true_of_eq_false (Option.isNone_eq_false_iff.2 hi))).trans ?_))
    rw [State.tick_evq, State.tick_evq]
    rfl
  case noSource => exact answers_of_work rfl (if_pos hn)
  case source =>
    refine ⟨_, answers_of_work rfl (if_neg (Nat.not_le.2 hn)), mem_lput_same, fun c hc => ?_, ?_⟩
    · exact (mem_lput_ne hc).trans (by rw [State.tick_evt])
    · simp [s0]
  case status =>
    refine answers_of_work rfl ((if_neg (ne_true_of_eq_false ((s.tick_evGone ..).trans h))).trans ?_)
    rw [State.tick_evq, State.tick_evq]
    rfl
  case barred => exact answers_of_work rfl ((hmask h hi).trans ((if_pos hu).trans (by rw [if_pos ho]; rfl)))
  case unmaskable => exact answers_of_work rfl ((hmask h hi).trans ((if_pos hu).trans (by rw [if_neg (ne_true_of_eq_false ho)]; rfl)))
  case copy =>
    have hmask := hmask h hi
    rw [hu, if_neg Bool.false_ne_true, if_pos hp] at hmask
    obtain ⟨hq, hothers, hframe⟩ := s.tick_modEvq_effect t 0 (fun e => { e with copyMask := lput e.copyMask code (bit w 16) })
    refine ⟨_, answers_of_work rfl hmask, ?_, fun c hc => ?_, fun k => ?_, hframe⟩
    · rw [hq]; exact mem_lput_same
    · rw [hq]; exact mem_lput_ne hc
    · by_cases hk : k = 0
      · rw [hk, hq]
      · rw [hothers k hk]
  case own =>
    have hmask := hmask h hi
    rw [hu, if_neg Bool.false_ne_true, if_neg (ne_true_of_eq_false hp)] at hmask
    obtain ⟨hq, hothers, hframe⟩ := s.tick_modEvq_effect t (evTag tag named) (fun e => { e with mask := lput e.mask code (bit w 16) })
    refine ⟨_, answers_of_work rfl hmask, ?_, fun c hc => ?_, hothers, hframe⟩
    · rw [hq]; exact mem_lput_same
    · rw [hq]; exact mem_lput_ne hc

/-- Settles O57: the test commands by the requests they leave, the event commands by the masks. -/
theorem testAndEventCommands : Obligations.TestAndEventCommands := ⟨testCommands, eventCommands⟩

end Sys2Proof.Machine
end

section
/-! PROOFS. The network and the island commands (R316, R319, R338, R380, R384). -/

namespace Sys2Proof.Machine
open Sys2Proof.Say

/-! ### The network commands (R316, R319, R338, Tables 12-6, 12-7 and 12-9) -/

/-- NET_RULE_WRITE of whole rules in range, once their bytes have been read. -/
theorem State.ruleWrite_of_read {tag : Nat} {a : List Word} {io : HostIo} {s s1 : State}
    (hlen : (arg a 3).toNat % ruleSize (bit (arg a 4) 0) = 0)
    (hroom : fld (arg a 4) 26 16 + (arg a 3).toNat / ruleSize (bit (arg a 4) 0) ≤ ruleCount (bit (arg a 4) 0))
    (hread : s.hostRead tag (ofTwo (arg a 1) (arg a 2)) (arg a 3).toNat 3 io.dataFault = .ok s1) :
    s.ruleWrite tag a io =
      let rules := chunks (ruleSize (bit (arg a 4) 0)) ((arg a 3).toNat / ruleSize (bit (arg a 4) 0))
        ((io.data ++ List.replicate (arg a 3).toNat 0).take (arg a 3).toNat)
      if !rules.all (if bit (arg a 4) 0 then egressFormat else ingressFormat) then .status 0x0A04 s1
      else s1.stage tag 0x0A03 (.netRules (bit (arg a 4) 0) (fld (arg a 4) 26 16) rules) (arg a 3).toNat := by
  refine (if_neg (not_not.2 hlen)).trans ((if_neg (Nat.not_lt.2 hroom)).trans ?_)
  rw [hread]

/-- A read of items that lie in range, when the write to host memory passes. -/
theorem State.ruleRead_of_written {tag size : Nat} {a : List Word} {io : HostIo} {item : Bool → Nat → List Byte} {s s1 : State}
    (hlen : (arg a 3).toNat % size = 0) (hroom : fld (arg a 4) 26 16 + (arg a 3).toNat / size ≤ ruleCount (bit (arg a 4) 0))
    (hwrite : s.hostWrite tag (ofTwo (arg a 1) (arg a 2))
      ((List.range ((arg a 3).toNat / size)).flatMap (fun i => item (bit (arg a 4) 0) (fld (arg a 4) 26 16 + i))) io.dataFault = (0, s1)) :
    s.ruleRead tag a io size item = .ok [wd ((arg a 3).toNat / size)] s1 := by
  refine (if_neg (not_not.2 hlen)).trans ((if_neg (Nat.not_lt.2 hroom)).trans ?_)
  dsimp only
  rw [hwrite]
  rfl

/-- NET_PORT_STATUS of a port that the page sets. -/
theorem netPortStatusWork_of_set {tag : Nat} {io : HostIo} {a : List Word} {s : State} {c : NetPortCfg}
    (hc : tfind s.cfg.ports (fld (arg a 1) 1 0) = some c) :
    let p := s.port (fld (arg a 1) 1 0)
    let k (i : Nat) : Nat := s.counter 12 (fld (arg a 1) 1 0) i
    netPortStatusWork tag io a s = .ok
      [ wd (b2n (s.linkUp (fld (arg a 1) 1 0)) + 2 * c.mode + 8 * c.speed), wd (p.ctle + 256 * unsgn 8 (p.dfe.getD 0 0) + 65536 * p.eye)
      , wd p.units, wd (k 0), wd (k 1 + k 2 + k 3 + p.macErrors), wd (k 5), wd (k 6), wd (k 10), wd (k 14), wd (k 12) ] s := by
  unfold netPortStatusWork
  dsimp only
  rw [hc]

theorem networkCommands : networkCommandsSay := by
  intro t tag io s a s0 w q vid len e first n port p
  refine ⟨fun h => ?portBad, fun h1 h2 h3 => ?port, fun h => ?ifBad, fun h1 h2 => ?iface, fun h => ⟨?writeLen, ?readLen⟩,
    fun h1 h2 => ⟨?writeRange, ?readRange⟩, fun s1 id m h1 h2 hr ho => ⟨fun hf => ?format, fun hf hn hb => ?write⟩,
    fun s1 h1 h2 hw => ?read, fun h => ?hitsLen, fun s1 h1 h2 hw => ?hits, fun h => ?queueBad, fun h1 h2 => ?queue, fun c hc => ?status⟩
  case portBad | ifBad | writeLen | readLen | hitsLen | queueBad => exact answers_of_work rfl (if_pos h)
  case port => exact stages_of_work rfl (if_neg (by simp only [not_or]; exact ⟨h1, h2, not_not.2 h3⟩))
  case iface => exact stages_of_work rfl (if_neg (not_or.2 ⟨h1, Nat.not_lt.2 h2⟩))
  case queue => exact stages_of_work rfl (if_neg (not_or.2 ⟨Nat.one_le_iff_ne_zero.1 h1, Nat.not_lt.2 h2⟩))
  case writeRange | readRange => exact answers_of_work rfl ((if_neg (not_not.2 h1)).trans (if_pos h2))
  case format =>
    exact answers_of_work rfl ((State.ruleWrite_of_read h1 h2 hr).trans (if_pos (by simpa using hf)))
  case write =>
    exact answers_of_work rfl ((State.ruleWrite_of_read h1 h2 hr).trans ((if_neg (by simpa using hf)).trans
      (State.stage_of_room ho hn hb 0x0A03 _ [])))
  case read =>
    have hwork : netRuleReadWork tag io a s0 = .ok [wd n] s1 :=
      State.ruleRead_of_written h1 h2 (by simp only [s0, State.tick_cfg]; exact hw)
    exact answers_of_work rfl hwork
  case hits =>
    have hwork : netRuleHitsWork tag io a s0 = .ok [wd (len / 8)] s1 :=
      State.ruleRead_of_written h1 h2 (by simp only [s0, State.tick_counter]; exact hw)
    exact answers_of_work rfl hwork
  case status =>
    have hwork := netPortStatusWork_of_set (s := s0) (tag := tag) (io := io) (a := a) (by rw [State.tick_cfg]; exact hc)
    simp only [s0, State.tick_port, State.tick_linkUp, State.tick_counter] at hwork
    exact answers_of_work rfl hwork

/-! ### The island commands (R380, R384, Tables 14-8 and 14-10) -/

/-- ISL_LINK_STATUS of a link that is up. -/
theorem islLinkStatusWork_of_up {tag : Nat} {io : HostIo} {a : List Word} {s : State} (hd : fld (arg a 1) 1 0 < s.lcy.dies)
    (hup : (s.link (fld (arg a 1) 1 0)).state = .up) :
    let die := fld (arg a 1) 1 0
    let l := s.link die
    ∃ w, islLinkStatusWork tag io a s = .ok [ wd (2 + (if l.half then 8 else 16) * 16 +
        (if l.half then 0 else max l.toHub.badLanes.length l.fromHub.badLanes.length) % 8 * 512)
      , wd (s.counter 16 (linkStat die 0 0) 6 + s.counter 16 (linkStat die 1 0) 6), wd l.retrains, wd l.audits, w ] s := by
  unfold islLinkStatusWork
  simp only [hup, Nat.not_le.2 hd, ne_eq, not_true_eq_false, false_or, ↓reduceIte]
  exact ⟨_, rfl⟩

/-- ISL_LOOP_STATUS of an island's loop that is frozen: its end, and its two codes. -/
theorem islLoopStatusWork_of_frozen {tag e : Nat} {io : HostIo} {a : List Word} {s : State} (hl : fld (arg a 1) 3 0 = 0)
    (ht : fld (arg a 1) 14 8 ≤ 107) (he : (s.island (fld (arg a 1) 14 8)).frozen = some e) :
    let i := s.island (fld (arg a 1) 14 8)
    islLoopStatusWork tag io a s = .ok ([wd (1 + 2 * b2n i.limitRaised), wd ((e - s.now + 999999999) / 1000000000)] ++
      leWords (([BitVec.ofNat 8 i.vcode, BitVec.ofNat 8 i.fcode] ++ List.replicate 16 0).take 16)) s := by
  unfold islLoopStatusWork
  dsimp only
  rw [hl]
  split
  · next hst =>
    simp only [State.loopStatus, Nat.not_lt.2 ht, ↓reduceIte] at hst
    split at hst <;> cases hst
  · simp only [State.loopOut, State.freezeEnd, he, State.loopAtLimit, Option.isSome_some, BitVec.ofInt_natCast]
    rfl

/-- ISL_LOOP_FREEZE of a loop that is there (R380). -/
theorem islLoopFreezeWork_of_loop {tag : Nat} {io : HostIo} {a : List Word} {s : State}
    (h : s.loopStatus (fld (arg a 1) 3 0) (fld (arg a 1) 14 8) = none) : islLoopFreezeWork tag io a s =
      if !bit (arg a 1) 16 then .ok [] (s.setFreeze (fld (arg a 1) 3 0) (fld (arg a 1) 14 8) none)
      else if (arg a 2).toNat = 0 ∨ 3600 < (arg a 2).toNat then .status 0x0012 s
      else if fld (arg a 1) 3 0 = 4 ∧ s.tim.following = .shadow (fld (arg a 1) 14 8) then .status 0x0CC3 s
      else .ok [] (s.setFreeze (fld (arg a 1) 3 0) (fld (arg a 1) 14 8) (some (s.now + (arg a 2).toNat * 1000000000))) := by
  unfold islLoopFreezeWork
  dsimp only
  rw [h]

theorem islandCommands : islandCommandsSay := by
  intro t tag io s a s0 n i die l loop target sec
  have hisland : s0.island n = i := s.tick_island t n
  have hpresent : s0.islandPresent n = s.islandPresent n := s.tick_islandPresent t n
  have hfreeze (h : s0.loopStatus loop target = none) := islLoopFreezeWork_of_loop (tag := tag) (io := io) h
  have hruns (hp : s.islandPresent n = true) (hr : i.state = .run) : ¬(!s0.islandPresent n || (s0.island n).state != .run) = true := by
    rw [hisland, hpresent, hp, hr]
    decide
  refine ⟨fun h => ?statusNone, fun hn h => ?statusState, fun hn hp ha => ?status, fun h => ?linkNone, fun hd hup => ?link,
    fun st h => ?freezeBad, fun h => ⟨fun hoff => ?release, fun hon hs => ?freezeTime, fun hon h1 h2 hl hf => ?followed,
    fun hon h1 h2 hf => ?freeze⟩, fun h => ?loopNone, fun hl ht e he => ?loop, fun h => ?resetNone, fun hn h => ?resetState,
    fun hn hp hr => ⟨fun hi => ?reset, fun hi => ?resetLater⟩⟩
  case statusNone | resetNone => exact answers_of_work rfl (if_pos h)
  case statusState =>
    refine answers_of_work rfl ((if_neg (Nat.not_lt.2 hn)).trans (if_pos ?_))
    change (!s0.islandPresent n || (s0.island n).state == .absent) = true
    rw [hisland, hpresent]
    rcases h with h | h <;> simp [h]
  case status =>
    refine answers_of_work rfl ((if_neg (Nat.not_lt.2 hn)).trans ((if_neg ?_).trans ?_))
    · change ¬(!s0.islandPresent n || (s0.island n).state == .absent) = true
      rw [hisland, hpresent]
      simp [hp, ha]
    · change Answer.ok [(s0.telem n).1, (s0.telem n).2, wd (s0.island n).errorsTotal, wd (s0.island n).replayTraps] s0 = _
      rw [hisland, show s0.telem n = s.telem n from s.tick_telem t n]
      rfl
  case linkNone => exact answers_of_work rfl (if_pos (by rwa [State.tick_lcy]))
  case link =>
    obtain ⟨w, hwork⟩ := islLinkStatusWork_of_up (s := s0) (tag := tag) (io := io) (a := a) (by rwa [State.tick_lcy])
      (by rw [State.tick_link]; exact hup)
    simp only [s0, State.tick_link, State.tick_counter] at hwork
    exact ⟨w, answers_of_work rfl hwork⟩
  case freezeBad =>
    have hwork : islLoopFreezeWork tag io a s0 = .status st s0 := by
      unfold islLoopFreezeWork
      dsimp only
      rw [show s0.loopStatus (fld (arg a 1) 3 0) (fld (arg a 1) 14 8) = some st from h]
    exact answers_of_work rfl hwork
  case release => exact answers_of_work rfl ((hfreeze h).trans (if_pos (by rw [hoff]; rfl)))
  case freezeTime => exact answers_of_work rfl ((hfreeze h).trans ((if_neg (by rw [hon]; simp)).trans (if_pos hs)))
  case followed =>
    exact answers_of_work rfl ((hfreeze h).trans ((if_neg (by rw [hon]; simp)).trans ((if_neg (by omega)).trans
      (if_pos ⟨hl, by simpa [s0] using hf⟩))))
  case freeze =>
    refine answers_of_work rfl ((hfreeze h).trans ((if_neg (by rw [hon]; simp)).trans ((if_neg (by omega)).trans (if_neg ?_))))
    rintro ⟨hl, hfol⟩
    exact hf.elim (fun h => h hl) (fun h => h (by simpa [s0] using hfol))
  case loopNone =>
    have hwork : islLoopStatusWork tag io a s0 = .status 0x0012 s0 := by
      unfold islLoopStatusWork
      dsimp only
      rw [show s0.loopStatus (fld (arg a 1) 3 0) (fld (arg a 1) 14 8) = some 0x0012 from h]
      rfl
    exact answers_of_work rfl hwork
  case loop =>
    have hwork := islLoopStatusWork_of_frozen (s := s0) (tag := tag) (io := io) (a := a) hl ht (by rwa [State.tick_island])
    simp only [s0, State.tick_island] at hwork
    exact answers_of_work rfl hwork
  case resetState =>
    refine answers_of_work rfl ((if_neg (Nat.not_lt.2 hn)).trans (if_pos ?_))
    change (!s0.islandPresent n || (s0.island n).state != .run) = true
    rw [hisland, hpresent]
    rcases h with h | h <;> simp [h]
  case reset =>
    exact answers_of_work rfl ((if_neg (Nat.not_lt.2 hn)).trans ((if_neg (hruns hp hr)).trans (if_pos hi)))
  case resetLater =>
    exact ⟨_, answers_of_work rfl ((if_neg (Nat.not_lt.2 hn)).trans ((if_neg (hruns hp hr)).trans (if_neg (ne_true_of_eq_false hi)))),
      mem_linsert _ _⟩

/-- Settles O49, one half for each chapter's commands. -/
theorem networkAndIslandCommands : Obligations.NetworkAndIslandCommands := ⟨networkCommands, islandCommands⟩

end Sys2Proof.Machine
end

section
/-! PROOFS. What zeroisation leaves of the part (R403, R404, Table 15-7). -/

namespace Sys2Proof.Machine

/-! ### What zeroisation's steps leave alone (R403) -/

/-- The parts of the state that a zeroisation's step changes in its own way only. -/
structure Core where
  sec : Sec
  lcy : Lcy
  mbx : Mbx
  cap : CapSt
  mem : MemSt
  tlb : List TlbEntry
  muted : Bool

def State.core (s : State) : Core :=
  { sec := s.sec, lcy := s.lcy, mbx := s.mbx, cap := s.cap, mem := s.mem, tlb := s.ins.tlb, muted := s.aud.muted }

/-- Audio is muted. -/
def Core.mute (c : Core) : Core := { c with muted := true }

/-- No cluster holds a line. -/
def Core.noLines (c : Core) : Core := { c with mem := { c.mem with lines := [] } }

/-- No translation is cached. -/
def Core.noTlb (c : Core) : Core := { c with tlb := [] }

/-- The hub store is cleared, and the object table with it. -/
def Core.noStore (c : Core) : Core :=
  { c with cap := { c.cap with objs := [], broadcasts := [], faults := [] }
           mem := { c.mem with bytes := c.mem.bytes.filter (fun p => !decide (p.1 < 0x100000000))
                               tags := c.mem.tags.filter (fun g => !decide (16 * g < 0x100000000)), refusals := [] } }

/-- The state has the core c. -/
def State.HasCore (s : State) (c : Core) : Prop := s.core = c

end Sys2Proof.Machine

namespace Sys2Proof.Machine.State.HasCore
variable {s : State} {c : Core}

theorem ite {p : Prop} {_ : Decidable p} {x y : State} (hx : x.HasCore c) (hy : y.HasCore c) : (if p then x else y).HasCore c := by
  split <;> assumption

theorem foldl {α : Type} {f : State → α → State} (h : s.HasCore c) (hf : ∀ {s : State} {x : α}, s.HasCore c → (f s x).HasCore c)
    {l : List α} : (l.foldl f s).HasCore c := by
  induction l generalizing s with
  | nil => exact h
  | cons x xs ih => exact ih (hf h)

theorem raise {code source owner tag data ext} (h : s.HasCore c) : (s.raise code source owner tag data ext).HasCore c := by
  rw [State.raise_frame]
  exact h

theorem raiseDev {code source data ext} (h : s.HasCore c) : (s.raiseDev code source data ext).HasCore c := raise h

theorem count {group n i by_} (h : s.HasCore c) : (s.count group n i by_).HasCore c := ite h h

theorem countOutcome {lane o} (h : s.HasCore c) : (s.countOutcome lane o).HasCore c := count h

theorem modCart {n f} (h : s.HasCore c) : (s.modCart n f).HasCore c := h

/-! ### A record refused by its cartridge -/

theorem queueDecision {lane type} (h : s.HasCore c) : (s.queueDecision lane type).HasCore c := by
  unfold State.queueDecision
  split <;> exact h

theorem hubOffer {n} (h : s.HasCore c) : (s.hubOffer n).HasCore c := by
  unfold State.hubOffer
  split <;> exact h

theorem firstAccept {n} (h : s.HasCore c) : (s.firstAccept n).HasCore c := by
  unfold State.firstAccept
  split
  · exact h
  · split
    · exact ite (queueDecision h) h
    · exact h

theorem unplace {n} (h : s.HasCore c) : (s.unplace n).HasCore c := by
  unfold State.unplace
  split
  · exact h
  · exact ite h (raise (count (count h)))

theorem hubFree {i} (h : s.HasCore c) : (s.hubFree i).HasCore c := by
  unfold State.hubFree
  split
  · exact h
  · dsimp only
    split
    · exact firstAccept (hubOffer h)
    · exact h

theorem slotFreed {r} (h : s.HasCore c) : (s.slotFreed r).HasCore c := by
  unfold State.slotFreed
  refine ite h ?_
  split
  · exact ite (ite h (count h)) h
  · exact h

theorem hubKept {r} (h : s.HasCore c) : (s.hubKept r).HasCore c := by
  unfold State.hubKept
  split
  · exact ite (hubFree h) h
  · exact h

theorem settle {n} (h : s.HasCore c) : (s.settle n).HasCore c := by
  cases hr : (s.firstAccept n).jrec n with
  | none =>
    simp only [State.settle, hr]
    exact firstAccept h
  | some r =>
    rw [s.settle_of_record hr]
    exact hubKept (unplace (slotFreed (firstAccept h)))

theorem cartAnswer {n ok} (h : s.HasCore c) : (s.cartAnswer n ok).HasCore c := by
  unfold State.cartAnswer
  split
  · exact h
  · exact ite h (settle (count h))

theorem cartOff {n} (h : s.HasCore c) : (s.cartOff n).HasCore c := by
  unfold State.cartOff State.cartPower State.cartRefuseAll
  exact foldl (modCart h) cartAnswer

/-! ### A time domain that the zeroised pages no longer have -/

theorem endServoFreeze {n} (h : s.HasCore c) : (s.endServoFreeze n).HasCore c := ite (raiseDev h) h

theorem setShadow {n st} (h : s.HasCore c) : (s.setShadow n st).HasCore c := ite (endServoFreeze h) h

theorem holdOver (h : s.HasCore c) : s.holdOver.HasCore c := ite h (raiseDev h)

theorem refuse {n} (h : s.HasCore c) : (s.refuse n).HasCore c := by
  unfold State.refuse
  exact raiseDev (setShadow h)

theorem step {u} (h : s.HasCore c) : (s.step u).HasCore c := by
  unfold State.step
  exact raiseDev h

theorem follow {n} (h : s.HasCore c) : (s.follow n).HasCore c := by
  unfold State.follow State.switchEvent
  exact raiseDev (ite (step h) h)

theorem selectN {n} (h : s.HasCore c) : (s.selectN n).HasCore c := by
  induction n generalizing s with
  | zero => exact holdOver h
  | succ n ih =>
    unfold State.selectN
    split
    · exact holdOver h
    · exact ite h (ite (ih (refuse h)) (follow h))

theorem shadowTo {n st} (h : s.HasCore c) : (s.shadowTo n st).HasCore c := by
  unfold State.shadowTo
  exact ite (selectN (holdOver (setShadow h))) (setShadow h)

theorem listen {n} (h : s.HasCore c) : (s.listen n).HasCore c := by
  unfold State.listen
  exact shadowTo h

theorem domainCommitted {n old new} (h : s.HasCore c) : (s.domainCommitted n old new).HasCore c := by
  unfold State.domainCommitted
  exact ite (ite (shadowTo (listen h)) h) (ite (listen h) (ite h (listen h)))

/-! ### The steps (Table 15-7) -/

theorem withLane {l} (h : s.HasCore c) : ({ s with lane := l } : State).HasCore c := h

theorem modSeg {n f} (h : s.HasCore c) : (s.modSeg n f).HasCore c := h

theorem map (f : Core → Core) (h : s.HasCore c) {s' : State} (hs : s'.core = f s.core) : s'.HasCore (f c) :=
  hs.trans (congrArg f h)

theorem audioOff (h : s.HasCore c) : (s.modAud (fun a => { a with muted := true, prompts := [], tx := [] })).HasCore c.mute :=
  map Core.mute h rfl

theorem zeroStop (h : s.HasCore c) : s.zeroStop.HasCore c.mute := by
  have houtcomes := foldl h (l := s.fare.sessions) (f := fun s p =>
    if p.2.counted then s
    else if p.2.inFlight then s.countOutcome p.1 .abort
    else match p.2.outcome with | some o => s.countOutcome p.1 o | none => s) fun h => ite h (ite (countOutcome h) (by
      split
      · exact countOutcome h
      · exact h))
  unfold State.zeroStop
  exact audioOff (foldl (foldl (withLane houtcomes) modSeg) fun h => modCart (cartOff h))

theorem zeroCells (h : s.HasCore c) : s.zeroCells.HasCore c.noLines := map Core.noLines h rfl

theorem evtReset (h : s.HasCore c) : s.evtReset.HasCore c := by
  rw [s.evtReset_loses]
  exact h

theorem queuesOff {t} (h : s.HasCore c) :
    ((s.modInst t (fun i => { i with qps := [], root := none })).modEvq t (fun e => { e with active := false })).HasCore c := h

theorem zeroQueues (h : s.HasCore c) : s.zeroQueues.HasCore c.noTlb :=
  map Core.noTlb (foldl (l := s.evtReset.ins.insts.map (·.1)) (evtReset h) queuesOff) rfl

theorem withPages {x} (h : s.HasCore c) : ({ s with man := x } : State).HasCore c := h

theorem zeroStore (h : s.HasCore c) : s.zeroStore.HasCore c.noStore :=
  map Core.noStore (foldl (l := s.cfg.domains) (withPages h) domainCommitted) rfl

end Sys2Proof.Machine.State.HasCore

namespace Sys2Proof.Machine

/-! ### The whole of it -/

section
variable (s : State)

/-- The keys and the BKR go (Table 15-7 step 1); `counts` tells the sessions in flight and the records unsent. -/
def State.keysCleared (s : State) (cause : Nat) (counts : Nat × Nat) : State :=
  let x := { s.sec with bat := { s.sec.bat with bkr := none } }
  { s with sec := { x with keys := [], keysMade := false, zeroising := some (cause, counts), debugArmed := none
                           importFails := [], importUntil := [] }
           cap := { s.cap with sealKey := none } }

variable {s} in
theorem State.zeroise_eq (hz : s.sec.zeroised = false) (hg : s.sec.zeroising = none) (cause : Nat) : ∃ counts,
    s.zeroise cause = (s.keysCleared cause counts).zeroStop.zeroCells.zeroQueues.zeroStore.restartBegin false :=
  ⟨_, if_neg (by simp [hz, hg])⟩

/-- What the stores of the part hold before the restart of the steward. -/
theorem State.zeroStore_core (cause : Nat) (counts : Nat × Nat) :
    (s.keysCleared cause counts).zeroStop.zeroCells.zeroQueues.zeroStore.core =
      (s.keysCleared cause counts).core.mute.noLines.noTlb.noStore :=
  State.HasCore.zeroStore (.zeroQueues (.zeroCells (.zeroStop rfl)))


/-- A restart of the steward that cannot become a warm reset. -/
theorem State.lcy_restartBegin_false : (s.restartBegin false).lcy = { s.lcy with restartTimes := s.recentRestarts } := by
  simp only [State.restartBegin, Bool.false_and, Bool.false_eq_true, ↓reduceIte, Bool.or_false]
  rfl

theorem State.mbx_restartBegin_false : (s.restartBegin false).mbx = s.dropped.mbx := rfl

variable {s} in
/-- What a zeroisation of a part that is not zeroised leaves (R403, R404). -/
theorem State.zeroise_zeroised (hz : s.sec.zeroised = false) (hg : s.sec.zeroising = none) (cause : Nat) : ∃ counts,
    Say.zeroised s (s.zeroise cause) cause ∧ (s.zeroise cause).sec = (s.keysCleared cause counts).sec ∧
      ∃ times, (s.zeroise cause).lcy = { s.lcy with restartTimes := times } := by
  obtain ⟨counts, heq⟩ := State.zeroise_eq hz hg cause
  have hcore := s.zeroStore_core cause counts
  have hfare : (s.keysCleared cause counts).zeroStop.zeroCells.zeroQueues.zeroStore.fare.sessions = [] ∧
    (s.keysCleared cause counts).zeroStop.zeroCells.zeroQueues.zeroStore.fare.used = [] := ⟨rfl, rfl⟩
  rw [heq]
  generalize (s.keysCleared cause counts).zeroStop.zeroCells.zeroQueues.zeroStore = z at hcore hfare
  have hsec : z.sec = (s.keysCleared cause counts).sec := congrArg Core.sec hcore
  have hseal : z.cap.sealKey = none := congrArg (·.cap.sealKey) hcore
  have hobjs : z.cap.objs = [] := congrArg (·.cap.objs) hcore
  have hlines : z.mem.lines = [] := congrArg (·.mem.lines) hcore
  have htlb : z.ins.tlb = [] := congrArg Core.tlb hcore
  have hmuted : z.aud.muted = true := congrArg Core.muted hcore
  have hready (tag : Nat) : ((z.restartBegin false).page tag).ready = false := by
    rw [State.page_of_mbx z.mbx_restartBegin_false tag, State.page_dropped]
  have hlcy : (z.restartBegin false).lcy = { s.lcy with restartTimes := z.recentRestarts } :=
    z.lcy_restartBegin_false.trans (congrArg (fun l : Lcy => { l with restartTimes := z.recentRestarts }) (congrArg Core.lcy hcore))
  exact ⟨counts, ⟨congrArg (·.bat.bkr) hsec, congrArg Sec.keys hsec, hseal, hobjs, hfare.1, hfare.2, hlines, htlb, hmuted, rfl,
    congrArg (fun x : Sec => x.zeroising.map (·.1)) hsec, hready, by rw [hlcy],
    by rw [hlcy], congrArg (·.bat.mask) hsec⟩, hsec, _, hlcy⟩
end

end Sys2Proof.Machine
end

section
/-! PROOFS. Detectors, tamper loops, battery, memory integrity and the debug unlock (R388 to R391, R400, R407). -/

/-! ### Detectors and what they log (R388, R389, R391) -/

namespace Sys2Proof.Machine

section
variable (s : State)

theorem State.secLog_logged (cls source d d2 : Nat) : Say.logged (s.secLog cls source d d2) cls source d d2 := rfl

/-- The clear of the keys keeps the log. -/
theorem State.logged_of_cleared {s s' : State} {cause cls source d d2 : Nat} {counts : Nat × Nat}
    (h : s'.sec = (s.keysCleared cause counts).sec) (hlog : Say.logged s cls source d d2) : Say.logged s' cls source d d2 := by
  unfold Say.logged
  rw [h]
  exact hlog

theorem zeroised_of_base {a b s' : State} {cause : Nat} (h : Say.zeroised a s' cause) (hl : a.lcy = b.lcy)
    (hm : a.sec.bat.mask = b.sec.bat.mask) : Say.zeroised b s' cause := by
  simpa only [Say.zeroised, hl, hm] using h

theorem zeroised_tick {s s' : State} {t cause : Nat} (h : Say.zeroised (s.tick t) s' cause) : Say.zeroised s s' cause :=
  zeroised_of_base h (s.tick_lcy t) (by rw [State.tick_sec])

/-- The debug lock opens after the zeroisation (R407). -/
theorem zeroised_opened {s z : State} {cause : Nat} (h : Say.zeroised s z cause) :
    Say.zeroised s ((z.secLog 5 0xFF).modSec (fun x => { x with debugOpen := true })) cause ∧
      Say.logged ((z.secLog 5 0xFF).modSec (fun x => { x with debugOpen := true })) 5 0xFF 0 0 := ⟨h, rfl⟩

theorem State.trip_of_rest {n : Nat} (v : Nat) (hn : n ≠ 16) (h : s.detRuns n = false) : s.trip n v = s := by
  simp [State.trip, hn, h]

/-- The trip of a zeroising detector while the part is not powered (R388, R404). -/
theorem State.trip_of_unpowered {n : Nat} (v : Nat) (hn : n < 16) (h : s.detRuns n = true) (hp : s.lcy.powerGood = false) :
    s.trip n v = (s.secLog 1 n v).modBat (fun b => { b with bkr := none }) := by
  have hoff : (s.secLog 1 n v).lcy.powerGood = false := hp
  simp [State.trip, hn, hn.ne, h, hoff]

theorem State.trip_of_powered {n : Nat} (v : Nat) (hn : n < 16) (h : s.detRuns n = true) (hp : s.lcy.powerGood = true) :
    s.trip n v = (s.secLog 1 n v).zeroise 0 := by
  have hon : (s.secLog 1 n v).lcy.powerGood = true := hp
  simp [State.trip, hn, hn.ne, h, hon]

variable {s} in
/-- A zeroising detector trips in a part that is not zeroised. -/
theorem State.trip_zeroises {n : Nat} (v : Nat) (hn : n < 16) (h : s.detRuns n = true) (hp : s.lcy.powerGood = true)
    (hz : s.sec.zeroised = false) (hg : s.sec.zeroising = none) :
    Say.zeroised s (s.trip n v) 0 ∧ Say.logged (s.trip n v) 1 n v 0 ∧ (s.trip n v).sec.memFails = s.sec.memFails ∧
      ∃ times, (s.trip n v).lcy = { s.lcy with restartTimes := times } := by
  rw [s.trip_of_powered v hn h hp]
  obtain ⟨counts, hzeroised, hsec, times, hlcy⟩ := State.zeroise_zeroised (s := s.secLog 1 n v) hz hg 0
  exact ⟨hzeroised, State.logged_of_cleared hsec (s.secLog_logged 1 n v 0), by rw [hsec]; rfl, times, hlcy⟩

/-- A detector that only logs trips (R388). -/
theorem State.sec_trip_of_logging {n : Nat} (v : Nat) (hn : 16 ≤ n) (h : s.detRuns n = true) : (s.trip n v).sec =
    let s1 := (if n = 16 then s.modBat (fun b => { b with vbat := v % 65536 }) else s).secLog 2 n v
    (if n = 17 then s1.modSec (fun x => { x with trngOk := false }) else s1).sec := by
  have hruns : (if n = 16 then s.modBat (fun b => { b with vbat := v % 65536 }) else s).detRuns n = true := by
    split <;> exact h
  unfold State.trip
  dsimp only
  rw [hruns, if_neg (by simp), if_neg (Nat.not_lt.2 hn)]
  generalize (if n = 17 then _ else _ : State) = s2
  split
  · rw [State.raiseDev_sec]
  · rfl

end

/-! ### Tamper loops (R389) -/

section
variable {s : State} {t loop : Nat}

/-- A loop's sample: the free level that follows and the mismatch it leaves. -/
def State.sampled (s : State) (loop : Nat) (bad : Bool) : State :=
  let v := (s.random).1
  ((s.random).2.modSec (fun x => { x with mismatch := lput x.mismatch loop bad, loopOut := lput x.loopOut loop (v % 2 == 1) })).emitOut
    (.pin ("TMP" ++ toString loop ++ "_OUT") (v % 2 == 1))

theorem exec_tamperLoopSample_of_off {level : Bool} (h : 3 < loop ∨ s.sec.bat.mask.getLsbD loop = false) :
    exec (.tamperLoopSample t loop level) s = .next (s.tick t) := by
  obtain h | h := h <;> simp [exec, execTamperLoopSample, h]

theorem exec_tamperLoopSample_of_on {level : Bool} (hl : loop ≤ 3) (hm : s.sec.bat.mask.getLsbD loop = true) :
    exec (.tamperLoopSample t loop level) s =
      let bad := s.sec.loopOut.contains loop != level
      let twice := bad && s.sec.mismatch.contains loop
      let s1 := (s.tick t).sampled loop (bad && !twice)
      .next (if twice then s1.trip (10 + loop) (b2n level) else s1) := by
  simp only [exec, execTamperLoopSample, State.tick_sec, hm, Nat.not_lt.2 hl, decide_false, Bool.not_true, Bool.or_self, Bool.false_eq_true,
    ↓reduceIte]
  rfl

/-- An enabled loop's detector runs on either supply. -/
theorem State.detRuns_loop (hl : loop ≤ 3) (hm : s.sec.bat.mask.getLsbD loop = true) (hp : s.lcy.powerGood = true) :
    s.detRuns (10 + loop) = true := by
  have h1 : ¬ 18 ≤ 10 + loop := by omega
  have h2 : 10 + loop ≤ 14 := by omega
  simp [State.detRuns, hm, hp, onBatteryDet]
  omega

end

theorem State.devN_of_man {s s' : State} (h : s'.man = s.man) (id : Nat) : s'.devN id = s.devN id := by
  simp only [State.devN, State.dev, State.cfg_of_man h]

/-! ### Battery and memory integrity (R391, R400) -/

section
variable {s : State} {t : Nat}

/-- The integrity failures of the last second, this one among them. -/
def State.recentFails (s : State) : List Nat := s.now :: s.sec.memFails.filter (fun x => decide (s.now < x + 1000000000))

/-- A failure is counted, logged and raised. -/
def State.failLogged (s : State) : State :=
  ((s.modSec (fun x => { x with memFails := s.recentFails })).secLog 7 0xFF).raiseDev 0x0D02 srcSecurity s.recentFails.length

theorem State.failLogged_frame (s : State) : s.failLogged =
    { (s.modSec (fun x => { x with memFails := s.recentFails })).secLog 7 0xFF with evt := s.failLogged.evt, out := s.failLogged.out } :=
  State.raiseDev_frame _ _ _ _ _

theorem State.failLogged_lcy (s : State) : s.failLogged.lcy = s.lcy := by
  rw [State.failLogged_frame]
  rfl

/-- What a failure's record is, and what it leaves (R400). -/
theorem State.failLogged_records (s : State) : s.failLogged.sec.memFails = s.recentFails ∧ Say.logged s.failLogged 7 0xFF 0 0 ∧
    s.failLogged = { s with sec := s.failLogged.sec, evt := s.failLogged.evt, out := s.failLogged.out } := by
  have hframe := s.failLogged_frame
  have hsec : s.failLogged.sec = ((s.modSec (fun x => { x with memFails := s.recentFails })).secLog 7 0xFF).sec := by rw [hframe]
  refine ⟨by rw [hsec]; rfl, ?_, hframe.trans (by rw [hsec]; rfl)⟩
  unfold Say.logged
  rw [hsec]
  rfl

/-- All of the security state that a failure's record leaves as it was, but for the count. -/
theorem State.failLogged_spares (s : State) : s.failLogged.sec.bat.mask = s.sec.bat.mask ∧
    s.failLogged.sec.bat.onBattery = s.sec.bat.onBattery ∧ s.failLogged.sec.zeroised = s.sec.zeroised ∧
    s.failLogged.sec.zeroising = s.sec.zeroising := by
  rw [State.failLogged_frame]
  exact ⟨rfl, rfl, rfl, rfl⟩

/-- A burst of failures trips detector 15 (R400). -/
theorem State.burst_zeroises (v : Nat) (hr : s.detRuns 15 = true) (hp : s.lcy.powerGood = true) (hz : s.sec.zeroised = false)
    (hg : s.sec.zeroising = none) :
    Say.zeroised s ((s.failLogged.modSec (fun x => { x with memFails := [] })).trip 15 v) 0 ∧
      ((s.failLogged.modSec (fun x => { x with memFails := [] })).trip 15 v).sec.memFails = [] := by
  obtain ⟨hmask, hbattery, hzeroised, hzeroising⟩ := s.failLogged_spares
  have hlcy := s.failLogged_lcy
  generalize s.failLogged = f at *
  obtain ⟨h, -, hfails, -⟩ := State.trip_zeroises (s := f.modSec (fun x => { x with memFails := [] })) (n := 15) v (by decide)
    (by simpa only [State.detRuns, State.modSec, hmask, hbattery, hlcy] using hr) (hlcy ▸ hp) (hzeroised.trans hz) (hzeroising.trans hg)
  refine ⟨?_, hfails⟩
  simpa only [Say.zeroised, State.modSec, hlcy, hmask] using h

theorem exec_memIntegrityFail_of_powered {cell : Nat} (hp : s.lcy.powerGood = true) (hc : 768 ≤ cell) :
    exec (.memIntegrityFail t cell) s =
      let s0 := s.tick t
      .next (if s.devN 0x0D02 ≤ s0.recentFails.length then
          (s0.failLogged.modSec (fun x => { x with memFails := [] })).trip 15 s0.recentFails.length
        else s0.failLogged) := by
  simp only [exec, execMemIntegrityFail, State.tick_lcy, hp, Bool.not_true, Bool.false_eq_true, ↓reduceIte, Nat.not_lt.2 hc]
  have hdev : (s.tick t).failLogged.devN 0x0D02 = s.devN 0x0D02 :=
    (State.devN_of_man (by rw [State.failLogged_frame]; rfl) _).trans (s.tick_devN t _)
  rw [← hdev]
  rfl

end

/-! ### The debug lock (R407) -/

section
variable {s : State} {t : Nat}

theorem exec_unlockChallenge_of_offered (hp : s.lcy.powerGood = true) (hl : s.lifecycle ≠ 3) :
    exec (.unlockChallenge t) s =
      let s0 := s.tick t
      let nonce := BitVec.ofNat 128 s0.random.1
      .next ((s0.random.2.modSec (fun x => { x with nonce := some (nonce, s0.now) })).emitOut
        (.jtag (s0.serialBytes ++ toBe 16 nonce.toNat))) := by
  simp only [exec, execUnlockChallenge, State.tick_lcy, hp, State.tick_lifecycle, hl, Bool.not_true, decide_false, Bool.or_self,
    Bool.false_eq_true, ↓reduceIte]
  rfl

/-- A response to a nonce: the nonce is used up, and a passing one opens the part (R407). -/
theorem exec_unlockResponse_of_nonce {r : List Byte} {nonce : BitVec 128} {at_ : Nat} (hn : s.sec.nonce = some (nonce, at_)) :
    exec (.unlockResponse t r) s =
      let s0 := s.tick t
      let pass := decide (s0.now < at_ + 60000000000) && s.lcy.powerGood && s0.unlockOffered && s.unlockOk nonce r
      let s1 := (s0.modSec (fun x => { x with nonce := none })).emitOut (.jtag [if pass then 1 else 0])
      .next (if pass then ((s1.zeroise 2).secLog 5 0xFF).modSec (fun x => { x with debugOpen := true }) else s1) := by
  simp only [exec, execUnlockResponse, State.tick_sec, hn]
  rw [← s.tick_unlockOk t, ← s.tick_lcy t]
  rfl

end

end Sys2Proof.Machine

namespace Sys2Proof.Machine
open Sys2Proof.Say

/-- Settles O50, event by event: zeroisation's own lemma says what each of them that starts it leaves. -/
theorem securityEvents : Obligations.SecurityEvents := by
  intro t s hz hg s0
  have hz0 : s0.sec.zeroised = false := by simpa [s0] using hz
  have hg0 : s0.sec.zeroising = none := by simpa [s0] using hg
  refine ⟨fun n v hn hr hp => ?powered, fun n v hn hr hp => ?unpowered, fun n v hn hr => ?rests, fun v hr => ?trng, fun v hr => ?vbat,
    fun loop level h => exec_tamperLoopSample_of_off h, fun loop hl hm => ⟨?agrees, fun hin => ?first, fun hin hp => ?second⟩,
    ?onBattery, ?offBattery, fun hb => ?loss, fun hb => ?noLoss, fun hp cell => ?noPower, fun cell hp hc => ⟨fun hf => ?counted, fun hf hr => ?burst⟩,
    fun hp hl => ?challenge, fun h => ?noChallenge, fun r hn => ?noNonce, fun r nonce at_ hn => ⟨fun h => ?refused, fun h1 hp h2 h3 => ?opened⟩⟩
  case powered =>
    obtain ⟨h, hlog, -⟩ := State.trip_zeroises (s := s0) v hn (by simpa [s0] using hr) (by simpa [s0] using hp) hz0 hg0
    exact ⟨_, rfl, zeroised_tick h, hlog⟩
  case unpowered =>
    refine ⟨_, rfl, ?_⟩
    rw [s0.trip_of_unpowered v hn (by simpa [s0] using hr) (by simpa [s0] using hp)]
    refine ⟨rfl, rfl, ?_⟩
    simp [State.modBat, State.modSec, State.secLog, s0]
  case rests =>
    rw [exec, execDetectorTrip, State.trip_of_rest _ v hn (by simpa using hr)]
  case trng =>
    have hsec := s0.sec_trip_of_logging (n := 17) v (by decide) (by simpa [s0] using hr)
    refine ⟨_, rfl, ?_⟩
    unfold logged
    rw [hsec]
    simp [State.modSec, State.secLog, State.modBat, s0]
  case vbat =>
    have hsec := s0.sec_trip_of_logging (n := 16) v (by decide) (by simpa [s0] using hr)
    refine ⟨_, rfl, ?_⟩
    unfold logged
    rw [hsec]
    simp [State.modSec, State.secLog, State.modBat, s0]
  case agrees =>
    have hexec := exec_tamperLoopSample_of_on (t := t) (level := s.sec.loopOut.contains loop) hl hm
    simp only [bne_self_eq_false, Bool.false_and, Bool.false_eq_true, ↓reduceIte] at hexec
    refine ⟨_, hexec, by simp [State.sampled, State.modSec, mem_lput_same], by simp [State.sampled, State.modSec, State.random], fun k hk => ?_⟩
    simp [State.sampled, State.modSec, State.random, mem_lput_ne hk]
  case first =>
    have hnot : s.sec.mismatch.contains loop = false := by simpa using hin
    have hexec := exec_tamperLoopSample_of_on (t := t) (level := !s.sec.loopOut.contains loop) hl hm
    simp only [hnot, Bool.and_false, Bool.false_eq_true, ↓reduceIte] at hexec
    exact ⟨_, hexec, by simp [State.sampled, State.modSec, mem_lput_same], by simp [State.sampled, State.modSec, State.random]⟩
  case second =>
    have hyes : s.sec.mismatch.contains loop = true := by simpa using hin
    have hexec := exec_tamperLoopSample_of_on (t := t) (level := !s.sec.loopOut.contains loop) hl hm
    have hbad : (s.sec.loopOut.contains loop != !s.sec.loopOut.contains loop) = true := by simp
    simp only [hyes, hbad, Bool.and_true, ↓reduceIte] at hexec
    have hdet : s0.detRuns (10 + loop) = true := by simpa [s0] using State.detRuns_loop hl hm hp
    obtain ⟨h, hlog, -⟩ := State.trip_zeroises (s := s0.sampled loop (true && !true)) (b2n !s.sec.loopOut.contains loop)
      (by omega) hdet (s.tick_lcy t ▸ hp) hz0 hg0
    exact ⟨_, hexec, zeroised_tick h, hlog⟩
  case onBattery =>
    refine ⟨_, rfl, ?_⟩
    simp [State.modBat, State.modSec]
  case offBattery =>
    simp [exec, execBatterySwitch, State.modBat, State.modSec, s0]
  case loss =>
    simp only [exec, execBatteryLoss, State.tick_sec, hb, Bool.not_true, Bool.false_eq_true, ↓reduceIte]
    refine ⟨_, rfl, ?_⟩
    split <;> simp [State.free, State.secLog, State.modBat, State.modSec, s0]
  case noLoss => simp [exec, execBatteryLoss, hb, s0]
  case noPower => simp [exec, execMemIntegrityFail, hp, s0]
  case counted =>
    have hexec := exec_memIntegrityFail_of_powered (t := t) hp hc
    have hfails : s0.recentFails = s0.now :: s.sec.memFails.filter (fun x => decide (s0.now < x + 1000000000)) := by
      simp [State.recentFails, s0]
    rw [← hfails] at hf ⊢
    exact ⟨_, hexec.trans (congrArg Host.Outcome.next (if_neg (Nat.not_le.2 hf))), s0.failLogged_records⟩
  case burst =>
    have hexec := exec_memIntegrityFail_of_powered (t := t) hp hc
    have hfails : s0.recentFails = s0.now :: s.sec.memFails.filter (fun x => decide (s0.now < x + 1000000000)) := by
      simp [State.recentFails, s0]
    rw [← hfails] at hf
    obtain ⟨h, hnone⟩ := s0.burst_zeroises s0.recentFails.length (by rwa [State.tick_detRuns]) (by rwa [State.tick_lcy]) hz0 hg0
    exact ⟨_, hexec.trans (congrArg Host.Outcome.next (if_pos hf)), zeroised_tick h, hnone⟩
  case challenge =>
    refine ⟨_, _, exec_unlockChallenge_of_offered hp hl, rfl, ?_, ?_⟩
    · rw [← s.tick_serialBytes t]
      exact List.mem_cons_self
    · simp [State.modSec, State.emitOut, State.random, s0]
  case noChallenge => obtain h | h := h <;> simp [exec, execUnlockChallenge, h, s0]
  case noNonce => simp [exec, execUnlockResponse, hn, s0]
  case refused =>
    have hpass : (decide (s0.now < at_ + 60000000000) && s.lcy.powerGood && s0.unlockOffered && s.unlockOk nonce r) = false := by
      obtain h | h | h := h <;> simp [h]
    rw [exec_unlockResponse_of_nonce hn]
    simp only [s0] at hpass
    simp [hpass, State.emitOut, State.modSec, s0]
  case opened =>
    have hpass : (decide (s0.now < at_ + 60000000000) && s.lcy.powerGood && s0.unlockOffered && s.unlockOk nonce r) = true := by
      simp [h1, hp, h2, h3]
    have hexec := exec_unlockResponse_of_nonce (t := t) (r := r) hn
    refine ⟨_, hexec.trans (congrArg Host.Outcome.next (if_pos hpass)), ?_⟩
    obtain ⟨counts, h, hsec, -⟩ := State.zeroise_zeroised
      (s := (s0.modSec (fun x => { x with nonce := none })).emitOut (.jtag [1])) hz0 hg0 2
    rw [if_pos hpass]
    generalize State.zeroise _ 2 = z at h hsec
    have hnonce : z.sec.nonce = none := congrArg Sec.nonce hsec
    obtain ⟨hopened, hlog⟩ := zeroised_opened (zeroised_tick (zeroised_of_base h rfl rfl))
    exact ⟨hopened, rfl, hnonce, hlog⟩

end Sys2Proof.Machine
end

section
/-! PROOFS. Power-good and its loss, and the first starts (R459 to R463, R471, R475). -/

namespace Sys2Proof.Machine

/-! ### The time engine's start (R284, R410) -/

section
variable (s : State)

theorem State.tick_of_unpowered {t : Nat} (h : s.lcy.powerGood = false) : ∃ now, s.tick t = { s with now := now } := by
  unfold State.tick
  split
  · exact ⟨s.now, rfl⟩
  · exact ⟨t, by rw [h]; rfl⟩

theorem State.armBoundary_stat (b : Nat) :
    (s.armBoundary b).stat = { s.stat with boundary := b, frozenPast := false, lateDue := false } := rfl

theorem State.armPps_tim : s.armPps.tim = { s.tim with cmps := s.armPps.tim.cmps } := by
  unfold State.armPps
  rfl

theorem State.startTime_stat :
    s.startTime.stat = { s.stat with boundary := nextMultiple s.servedSec (s.devN 0x0B01), frozenPast := false, lateDue := false } := by
  unfold State.startTime
  rw [State.armPps_frame]
  rfl

/-- The units that the start arms (R284, R410). -/
theorem State.startTime_cmps : 
    let b := nextMultiple s.servedSec (s.devN 0x0B01)
    (s.startTime.cmp 0).armed = true ∧ (s.startTime.cmp 0).sec = b % 2 ^ 32 ∧ (s.startTime.cmp 0).ns = 0 ∧
      (s.startTime.cmp 1).armed = true ∧ (s.startTime.cmp 1).ns = 995000000 ∧ (s.startTime.cmp 2).armed = true ∧
      (s.startTime.cmp 3).armed = true := by
  unfold State.startTime State.armPps State.armBoundary
  generalize nextMultiple s.servedSec (s.devN 0x0B01) = b
  simp [State.cmp, State.modCmp, State.modTim, tget_tmod_ne]

end

/-! ### Power-good and the reset inputs (R459 to R461) -/

section
variable {s : State} {t : Nat}

theorem exec_powerGood_of_powered (h : s.lcy.powerGood = true) : exec (.powerGood t) s = .next (s.tick t) := by
  simp [exec, execPowerGood, h]

theorem exec_powerGoodLost_of_unpowered (c : PowerLoss) (h : s.lcy.powerGood = false) :
    exec (.powerGoodLost t c) s = .next (s.tick t) := by
  simp [exec, execPowerGoodLost, h]

/-- The cold boot's begin, before the time engine starts (R462). -/
def State.booted (s : State) : State :=
  { s.modLcy (fun l => { l with powerGood := true, bootStart := s.now, stage := 1 }) with
    cart := tmap s.cart (fun _ c => { c with cdSince := s.now }) }

theorem State.startTime_tim (s : State) : s.startTime.tim = { s.tim with cmps := s.startTime.tim.cmps } := by
  unfold State.startTime
  rw [State.armPps_tim]
  rfl

theorem State.booted_startTime_frame (s : State) : s.booted.startTime =
    { s with lcy := { s.lcy with powerGood := true, bootStart := s.now, stage := 1 }, stat := s.booted.startTime.stat
             tim := { s.tim with cmps := s.booted.startTime.tim.cmps }, cart := s.booted.cart } := by
  conv_lhs => rw [State.startTime_frame, State.startTime_tim]
  rfl

theorem exec_powerGood_of_unpowered (h : s.lcy.powerGood = false) :
    exec (.powerGood t) s = .next ((s.tick t).booted.startTime.emitOut (.console "stage" 1)) := by
  simp only [exec, execPowerGood, State.tick_lcy, h, Bool.false_eq_true, ↓reduceIte]
  rfl

theorem exec_segmentControllerStart_of_early
    (h : s.lcy.powerGood = false ∨ s.lcy.stage = 15 ∨ (s.tick t).now < s.lcy.bootStart + 600000000) :
    exec (.segmentControllerStart t) s = .next (s.tick t) := by
  obtain h | h | h := h <;> simp [exec, execSegmentControllerStart, h]

/-- A segment's controller starts. -/
def Seg.start (g : Seg) : Seg := { g with started := true }

/-- Every segment controller starts (R463). -/
theorem exec_segmentControllerStart_of_due (hp : s.lcy.powerGood = true) (hst : s.lcy.stage ≠ 15) (hz : s.sec.zeroised = false)
    (hg : s.sec.zeroising = none) (hseg : (s.seg 0).started = false) (hd : s.lcy.bootStart + 600000000 ≤ (s.tick t).now) :
    exec (.segmentControllerStart t) s =
      .next ((List.range 8).foldl (fun s n => s.modSeg n Seg.start) (s.tick t)) := by
  have hnot : (List.range 8).all (fun n => ((s.tick t).seg n).started) = false := 
    List.all_eq_false.2 ⟨0, by simp, by simp [hseg]⟩
  simp only [exec, execSegmentControllerStart, State.tick_lcy, State.tick_sec, hp, hst, hz, hg, hnot, Nat.not_lt.2 hd]
  rfl

/-- One idempotent change of each segment listed. -/
theorem State.seg_foldl_modSeg {f : Seg → Seg} (hf : ∀ g, f (f g) = f g) (l : List Nat) (s : State) (n : Nat) :
    (l.foldl (fun s n => s.modSeg n f) s).seg n = if n ∈ l then f (s.seg n) else s.seg n := by
  induction l generalizing s with
  | nil => rfl
  | cons k l ih =>
    rw [List.foldl_cons, ih]
    by_cases h : n = k
    · subst h
      simp [hf]
    · simp [State.seg_modSeg_ne _ _ h, h]

theorem State.foldl_modSeg_frame (f : Seg → Seg) (l : List Nat) (s : State) : l.foldl (fun s n => s.modSeg n f) s =
    { s with lane := { s.lane with segs := (l.foldl (fun s n => s.modSeg n f) s).lane.segs } } :=
  foldl_rel (fun a b : State => b = { a with lane := { a.lane with segs := b.lane.segs } }) (fun _ => rfl)
    (fun a b c h1 h2 => by rw [h2, h1]) _ (fun _ _ => rfl) l s

/-! ### What a cold reset keeps (R459, R460) -/

/-- The part loses its power: a cold reset that no boot follows. -/
def State.powerLost (s : State) (last : LastReset) : State := (s.modLcy (fun l => { l with powerGood := false })).coldReset last

theorem State.powerLost_leaves (s : State) (last : LastReset) :
    let s' := s.powerLost last
    s'.lcy.powerGood = false ∧ s'.lcy.stage = 0 ∧ s'.lcy.lastReset = last ∧ s'.lcy.fuses = s.lcy.fuses ∧ s'.sec.bat = s.sec.bat ∧
      s'.mbx = {} ∧ s'.man = {} ∧ s'.fare = {} ∧ s'.mem.bytes = [] ∧ s'.cap.sealKey = none ∧ s'.cap.objs = [] ∧
      s'.stat.epoch = 1 ∧ s'.lane.segs = [] ∧ s'.lane.emgPath = s.lane.emgPath := by
  unfold State.powerLost State.coldReset
  rw [State.startTime_frame]
  refine ⟨rfl, rfl, rfl, rfl, rfl, rfl, rfl, rfl, rfl, rfl, rfl, ?_, rfl, rfl⟩
  rw [State.startTime_stat]

theorem exec_powerGoodLost_of_sysReset (h : s.lcy.powerGood = true) : exec (.powerGoodLost t .sysReset) s =
    .next ((s.tick t).powerLost .cold) := by
  simp only [exec, execPowerGoodLost, State.tick_lcy, h, Bool.not_true, Bool.false_eq_true, ↓reduceIte]
  rfl

theorem exec_powerGoodLost_of_rail {n : Nat} (h : s.lcy.powerGood = true) : exec (.powerGoodLost t (.rail n)) s =
    let s1 := ((s.tick t).trip (if n = 1 then 8 else 6) 0).powerLost .powerOn
    .next (if n = 0 ∨ n = 7 then s1.emgReset else s1) := by
  simp only [exec, execPowerGoodLost, State.tick_lcy, h, Bool.not_true, Bool.false_eq_true, ↓reduceIte]
  rfl

theorem exec_bootFailCrsEnd_of_due (hp : s.lcy.powerGood = true) (hst : s.lcy.stage = 15) (hc : s.lcy.crs = true)
    (hn : s.ins.perstN = true) (hd : max s.lcy.bootStart s.ins.perstAt + 900000000 ≤ (s.tick t).now) :
    exec (.bootFailCrsEnd t) s =
      .next { (s.tick t).modLcy (fun l => { l with crs := false }) with ins := { s.ins with linkUp := true } } := by
  simp [exec, execBootFailCrsEnd, hp, hst, hc, hn, Nat.not_lt.2 hd]

theorem exec_bootFailCrsEnd_of_not (h : s.lcy.stage ≠ 15 ∨ s.lcy.crs = false ∨ s.ins.perstN = false) :
    exec (.bootFailCrsEnd t) s = .next (s.tick t) := by
  obtain h | h | h := h <;> simp [exec, execBootFailCrsEnd, h]

end
/-- Settles O58: power-good and its loss by what the time engine's start and a cold reset leave, the starts and the end of Retry Status
by their conditions. -/
theorem powerAndPins : Obligations.PowerAndPins := by
  intro t s s0 len
  refine ⟨exec_powerGood_of_powered, fun hp => ⟨fun c => exec_powerGoodLost_of_unpowered c hp, ?boot⟩, fun hp => ?reset,
    fun n hp hz hg hr => ?rail, fun h => ?pathOn, fun h => ?pathStarts, fun hp hst hz hg hseg hd => ?segments,
    exec_segmentControllerStart_of_early, fun hp hst hc hn hd => ?crs, exec_bootFailCrsEnd_of_not⟩
  case boot =>
    refine ⟨_, exec_powerGood_of_unpowered hp, ?_⟩
    obtain ⟨now, htick⟩ := s.tick_of_unpowered (t := t) hp
    have hs0 : s0 = { s with now := now } := htick
    rw [htick]
    obtain ⟨h0, hsec0, hns0, h1, hns1, h2, h3⟩ := ({ s with now := now } : State).booted.startTime_cmps
    have hstat := ({ s with now := now } : State).booted.startTime_stat
    have hframe := ({ s with now := now } : State).booted_startTime_frame
    rw [hs0]
    generalize ({ s with now := now } : State).booted.startTime = z at *
    refine ⟨?_, hstat, h0, hsec0, hns0, h1, hns1, h2, h3, ?_, ?_⟩
    · rw [hframe]
      rfl
    · rw [hframe]
      rfl
    · rw [hframe]
      rfl
  case reset =>
    refine ⟨_, exec_powerGoodLost_of_sysReset hp, ?_⟩
    simpa [s0] using s0.powerLost_leaves .cold
  case rail =>
    have hexec := exec_powerGoodLost_of_rail (t := t) (n := n) hp
    have hn : (if n = 1 then 8 else 6) < 16 := by split <;> decide
    generalize (if n = 1 then 8 else 6) = d at *
    obtain ⟨hz1, hlog, -, times, hlcy⟩ := State.trip_zeroises (s := s0) 0 hn (by rwa [State.tick_detRuns]) (by rwa [State.tick_lcy])
      (by rwa [State.tick_sec]) (by rwa [State.tick_sec])
    have hbkr : (s0.trip d 0).sec.bat.bkr = none := hz1.1
    have hfuses : (s0.trip d 0).lcy.fuses = s.lcy.fuses := by
      rw [hlcy, State.tick_lcy]
    have hrec : ((s0.trip d 0).sec.bat.log.head?).map (fun r => (r.cls, r.source)) = some (1, d) := by
      have h := congrArg (Option.map (fun p : Nat × Nat × Nat × Nat => (p.1, p.2.1))) hlog
      rwa [Option.map_map] at h
    obtain ⟨hoff, -, hlast, hkept, hbat, -⟩ := (s0.trip d 0).powerLost_leaves .powerOn
    refine ⟨_, hexec, ?_⟩
    change (ite _ (State.emgReset ((s0.trip d 0).powerLost .powerOn)) ((s0.trip d 0).powerLost .powerOn) : State).lcy.powerGood = false ∧ _
    generalize (s0.trip d 0).powerLost .powerOn = lost at *
    have hleaves : lost.lcy.powerGood = false ∧ lost.lcy.lastReset = .powerOn ∧ lost.sec.bat.bkr = none ∧
        (lost.sec.bat.log.head?).map (fun r => (r.cls, r.source)) = some (1, d) ∧ lost.lcy.fuses = s.lcy.fuses :=
      ⟨hoff, hlast, by rw [hbat, hbkr], by rw [hbat, hrec], hkept.trans hfuses⟩
    by_cases h : n = 0 ∨ n = 7
    · simpa [h, State.emgReset] using hleaves
    · simpa [h] using hleaves
  case pathOn => simp [exec, execEmergencyPathStart, h, s0]
  case pathStarts => simp [exec, execEmergencyPathStart, h, s0]
  case segments =>
    refine ⟨_, exec_segmentControllerStart_of_due hp hst hz hg hseg hd, fun n hn => ?_, ?_⟩
    · rw [State.seg_foldl_modSeg (f := Seg.start) (fun _ => rfl), if_pos (List.mem_range.2 (by omega)), State.tick_seg]
      rfl
    · rw [State.foldl_modSeg_frame]
      simp [s0]
  case crs =>
    rw [exec_bootFailCrsEnd_of_due hp hst hc hn hd]
    simp [State.modLcy, s0]

end Sys2Proof.Machine
end

section
/-! PROOFS. The security commands (R390, R396 to R398, R405 to R408, Table 15-11). -/

namespace Sys2Proof.Machine
open Sys2Proof.Say

/-! ### The lifecycle a command runs in (R405, R472) -/

theorem State.lifecycleStatus_of_precheck {s : State} {d : CmdDef} {own needs : List Word → Bool} {tag : Nat} {io : HostIo}
    {a : List Word} (h : s.precheck d own needs tag io = .ok a) : s.lifecycleStatus d = none := by
  cases hst : s.lifecycleStatus d with
  | none => rfl
  | some st =>
    unfold State.precheck at h
    simp only [hst] at h
    split_ifs at h

/-- A command that is not always open runs in a part that is neither zeroised nor decommissioned. -/
theorem not_zeroised_of_runs {c : Instr} {b : BlockRow} {s : State} {a : List Word} (hb : blockRow c = some b) (h : Runs c s a)
    (hd : b.d.always = false) : s.sec.zeroised = false := by
  unfold Runs at h
  rw [hb] at h
  obtain ⟨-, -, hc, -⟩ := h
  have hstatus : (s.tick b.t).lifecycleStatus b.d = none := by
    split at hc
    · next hx => exact State.lifecycleStatus_of_precheck hx
    · exact hc.elim
  by_contra hz
  simp only [State.lifecycleStatus, State.tick_sec, hd, Bool.eq_true_of_not_eq_false hz, Bool.false_eq_true, ↓reduceIte] at hstatus
  split at hstatus <;> cases hstatus

/-! ### The security commands (Table 15-11) -/

section
variable {tag : Nat} {io : HostIo} {a : List Word} {s : State}

/-- The battery's voltage measured: a free value (log entry 55). -/
def State.vbatRead (s : State) : State := s.free.2.modBat (fun b => { b with vbat := s.free.1 % 65536 })

theorem secStatusWork_eq : secStatusWork tag io a s =
    .ok ([ wd (s.lifecycle + 4 * b2n s.sec.bat.bkr.isSome + 8 * b2n s.sec.zeroised + 16 * b2n s.sec.debugOpen + 256 * s.zcount)
         , wd (s.sec.bat.mask.toNat + 16 * bitsOf s.sec.mismatch), wd (s.free.1 % 65536) ] ++ s.enrolWords ++
        [wd (min (2 ^ 32 - 1) (s.counter 3 tag 6))]) s.vbatRead := by
  have hv : s.vbatRead.sec.bat.vbat % 65536 = s.free.1 % 65536 := Nat.mod_mod _ _
  rw [← hv]
  rfl

theorem State.lcy_attestation (d : Nat) (nonce : List Byte) : (s.attestation d nonce).2.lcy = s.lcy := rfl

theorem secCertGetWork_of_no_duk (hl : 7664 ≤ (arg a 3).toNat) (hd : s.sec.duk = none) :
    secCertGetWork tag io a s = .status 0x0D09 s := by
  refine (if_neg (Nat.not_lt.2 hl)).trans ?_
  rw [hd]

/-- SEC_CERT_GET, when its write to host memory passes (R398). -/
theorem secCertGetWork_of_written {d : Nat} {s1 : State} (hl : 7664 ≤ (arg a 3).toNat) (hd : s.sec.duk = some d)
    (hw : (s.attestation d (wordsLe ((a.drop 3).take 4))).2.hostWrite tag (ofTwo (arg a 1) (arg a 2))
      (((s.attestation d (wordsLe ((a.drop 3).take 4))).2.lcy.cert ++ List.replicate 3880 0).take 3880 ++
        (s.attestation d (wordsLe ((a.drop 3).take 4))).1) io.dataFault = (0, s1)) :
    secCertGetWork tag io a s = .ok [wd 7664] s1 := by
  refine (if_neg (Nat.not_lt.2 hl)).trans ?_
  rw [hd]
  dsimp only
  rw [hw]
  rfl

theorem secKeyImportWork_of_bar {st : Nat} (hlo : 92 ≤ (arg a 3).toNat) (hhi : (arg a 3).toNat ≤ 1340) (hb : s.importBar tag = some st) :
    secKeyImportWork tag io a s = .status st s := by
  refine (if_neg (by omega)).trans ?_
  rw [hb]

/-- SEC_KEY_IMPORT, once its envelope has been read. -/
theorem secKeyImportWork_of_read {s1 : State} (hlo : 92 ≤ (arg a 3).toNat) (hhi : (arg a 3).toNat ≤ 1340)
    (hb : s.importBar tag = none)
    (hread : s.hostRead tag (ofTwo (arg a 1) (arg a 2)) (arg a 3).toNat 3 io.dataFault = .ok s1) :
    secKeyImportWork tag io a s = s1.secImport tag 0x0D04 ((io.data ++ List.replicate (arg a 3).toNat 0).take (arg a 3).toNat) true := by
  refine (if_neg (by omega)).trans ?_
  rw [hb]
  dsimp only
  rw [hread]

theorem State.secImport_of_none {code : Nat} {b : List Byte} (h : s.openEnvelope tag b = none) (handle : Bool) :
    s.secImport tag code b handle = .status 0x0D01 (s.importFailed tag) := by
  unfold State.secImport
  rw [h]

/-- A KEY object minted for the key that an envelope brings (R396). -/
def State.withKey (s : State) (slot type n : Nat) (key : List Byte) (pending : Option Nat) : State :=
  s.modSec (fun x => { x with keys := tset x.keys slot { type, bytes := key, object := n, pending }, nextKey := slot + 1 })

theorem State.secImport_of_room {code type n id : Nat} {b key : List Byte} {rights : BitVec 16} {label : Word} {s2 : State}
    {m : Manifest} (h : s.openEnvelope tag b = some (type, key, rights, label))
    (hmint : s.mintRoot tag (accessLevel tag) 3 rights (.key s.sec.nextKey) 0 0 label = some (n, s2))
    (ho1 : s.openMan tag = some (id, m)) (ho2 : s2.openMan tag = some (id, m)) (hn : m.entries.length < entryLimit tag)
    (hb : m.bulk + b.length ≤ bulkLimit tag) :
    s.secImport tag code b true = .ok (handleWords (s2.sealed ((s2.obj n).cap n)))
      ((s2.withKey s.sec.nextKey type n key (some id)).entered id code (.keyImport s.sec.nextKey n) b.length) := by
  unfold State.secImport
  rw [h]
  dsimp only
  rw [hmint]
  dsimp only
  rw [ho1, Option.map_some]
  rw [State.stage_of_room (s := s2.modSec _) ho2 hn hb]
  rfl

/-! ### SEC_REENROL (R405, R467) -/

theorem State.trngReady_of_ok (h : s.sec.trngOk = true) : s.trngReady = (true, s) := if_pos h

section
variable (hb : s.sec.bat.bkr = none) (ht : s.sec.trngOk = true)
include hb ht

theorem State.reenrol_of_no_duk (hd : s.sec.duk = none) : s.reenrol io = .status 0x0D09 s := by
  simp [State.reenrol, State.trngReady_of_ok ht, hb, hd]

theorem State.reenrol_of_failed_burn (hd : s.sec.duk.isSome = true) (he : s.enrols < 32) (hi : io.burnt ≠ 7) :
    s.reenrol io = .status 0x0D43 (s.burn 4 (stepBit (s.enrols + 1)) io.burnt).2 := by
  obtain ⟨d, hd⟩ := Option.isSome_iff_exists.1 hd
  have hburnt : (s.burn 4 (stepBit (s.enrols + 1)) io.burnt).1 = false := beq_false_of_ne hi
  simp [State.reenrol, State.trngReady_of_ok ht, hb, hd, he, hburnt]

/-- The state in which the BKR is filled: an ENROLS step burnt while there is one. -/
def State.enrolBurnt (s : State) (io : HostIo) : State :=
  if s.enrols < 32 then (s.burn 4 (stepBit (s.enrols + 1)) io.burnt).2 else s

/-- The BKR filled from the TRNG. -/
def State.bkrFilled (s : State) : State := s.random.2.modBat (fun b => { b with bkr := some (BitVec.ofNat 256 s.random.1) })

/-- The new ENROL_ID logged. -/
def State.enrolLogged (s : State) : State := s.secLog 4 0xFF (beNat (s.enrolId.take 4))

theorem State.reenrol_of_burnt (hd : s.sec.duk.isSome = true) (hi : io.burnt = 7 ∨ 32 ≤ s.enrols) : s.reenrol io =
    .ok (s.enrolBurnt io).bkrFilled.enrolLogged.enrolWords (s.enrolBurnt io).bkrFilled.enrolLogged := by
  obtain ⟨d, hd⟩ := Option.isSome_iff_exists.1 hd
  by_cases he : s.enrols < 32
  · have hburnt : (s.burn 4 (stepBit (s.enrols + 1)) io.burnt).1 = true := beq_iff_eq.2 (hi.resolve_right (by omega))
    simp only [State.reenrol, State.trngReady_of_ok ht, hb, hd, he, hburnt, State.enrolBurnt, Option.isSome_none, Option.isNone_some,
      Bool.not_true, Bool.false_eq_true, ↓reduceIte]
    rfl
  · simp only [State.reenrol, State.trngReady_of_ok ht, hb, hd, he, State.enrolBurnt, Option.isSome_none, Option.isNone_some, Bool.not_true,
      Bool.false_eq_true, ↓reduceIte]
    rfl

end

end

theorem securityCommands : securityCommandsSay := by
  intro t tag io s a s0 x len
  refine ⟨?status, fun r hr => ?logRead, fun hr => ?logNone, fun h => ?certShort, fun h hd => ?certNoKey, fun d s1 h hd hw => ?cert,
    fun h => ?importLen, fun h1 h2 => ⟨fun hd => ?importNoDuk, fun hd hb => ?importNoBkr, fun hd hb hu => ?importLocked,
      fun s1 hbar hread => ⟨fun hopen => ?importFails, fun type key rights label n s2 id m hopen hmint ho2 ho1 hn hb => ?imported⟩⟩,
    ?loops, fun h => ?zeroiseWord, fun hr hw hg => ?zeroise, fun hb => ?enrolled, fun hb ht hd => ?enrolNoDuk,
    fun hb ht hd => ⟨fun he hi => ?enrolFails, fun he => ?enrols⟩, fun h => ?arm, fun h => ?armState⟩
  case status =>
    have hwork := secStatusWork_eq (tag := tag) (io := io) (a := a) (s := s0)
    rw [show s0.zcount = s.zcount from s.tick_zcount t, show s0.lifecycle = s.lifecycle from s.tick_lifecycle t,
      show s0.enrolWords = s.enrolWords from s.tick_enrolWords t, show s0.counter 3 tag 6 = s.counter 3 tag 6 from s.tick_counter t 3 tag 6,
      show s0.sec = s.sec from s.tick_sec t] at hwork
    refine ⟨s0.free.1 % 65536, s0.vbatRead, answers_of_work rfl hwork, Nat.mod_lt _ (by decide), rfl, ?_⟩
    rw [← s.tick_freeCtr t]
    rfl
  case logRead =>
    have hwork : secLogReadWork tag io a s0 = .ok (leWords r.bytes) s0 := by
      rw [secLogReadWork, State.tick_sec, hr]
    exact answers_of_work rfl hwork
  case logNone => 
    have hfind : s.sec.bat.log.find? (fun r => r.seq == (arg a 1).toNat) = none := by
      simpa using hr
    have hwork : secLogReadWork tag io a s0 = .status 0x0D0B s0 := by
      rw [secLogReadWork, State.tick_sec, hfind]
    exact answers_of_work rfl hwork
  case certShort | importLen => exact answers_of_work rfl (if_pos h)
  case certNoKey =>
    exact answers_of_work rfl (secCertGetWork_of_no_duk h (by rw [State.tick_sec]; exact hd))
  case cert =>
    refine answers_of_work rfl (secCertGetWork_of_written h (by rw [State.tick_sec]; exact hd) ?_)
    rw [State.lcy_attestation, State.tick_lcy]
    exact hw
  case importNoDuk =>
    exact answers_of_work rfl (secKeyImportWork_of_bar h1 h2 (if_pos (by simpa [x] using hd)))
  case importNoBkr =>
    refine answers_of_work rfl (secKeyImportWork_of_bar h1 h2 ((if_neg ?_).trans (if_pos ?_)))
    · simpa [Option.isSome_iff_ne_none] using hd
    · simpa using hb
  case importLocked =>
    refine answers_of_work rfl (secKeyImportWork_of_bar h1 h2 ((if_neg ?_).trans ((if_neg ?_).trans (if_pos ?_))))
    · simpa [Option.isSome_iff_ne_none] using hd
    · simpa [Option.isSome_iff_ne_none] using hb
    · simpa [x] using hu
  case importFails =>
    exact answers_of_work rfl ((secKeyImportWork_of_read h1 h2 hbar hread).trans (State.secImport_of_none hopen true))
  case imported =>
    refine ⟨_, answers_of_work rfl ((secKeyImportWork_of_read h1 h2 hbar hread).trans
      (State.secImport_of_room hopen hmint ho1 ho2 hn (by simpa using hb))), ?_, rfl⟩
    exact tfind_tset_same _ _ _
  case loops => exact stages_of_work rfl rfl
  case zeroiseWord => exact answers_of_work rfl (if_pos h)
  case zeroise =>
    have hz := not_zeroised_of_runs rfl hr rfl
    obtain ⟨-, h, -⟩ := State.zeroise_zeroised (s := s0) (by rwa [State.tick_sec]) (by rwa [State.tick_sec]) 1
    have hwork : secZeroiseWork tag io a s0 = .silent (s0.zeroise 1) := if_neg (not_not.2 hw)
    have hexec : exec (.secZeroise t tag io) s = .next (State.answer tag (secZeroiseWork tag io a s0)) := exec_of_runs rfl hr
    rw [hwork] at hexec
    exact ⟨_, hexec, zeroised_tick h⟩
  case enrolled =>
    exact answers_of_work rfl (if_pos (by rw [State.tick_sec]; exact hb))
  case enrolNoDuk =>
    exact answers_of_work rfl (State.reenrol_of_no_duk (by rwa [State.tick_sec]) (by rwa [State.tick_sec]) (by rwa [State.tick_sec]))
  case enrolFails =>
    exact ⟨_, answers_of_work rfl (State.reenrol_of_failed_burn (by rwa [State.tick_sec]) (by rwa [State.tick_sec])
      (by rwa [State.tick_sec]) (by rwa [State.tick_enrols]) hi), s.tick_sec t⟩
  case enrols =>
    exact ⟨(s0.enrolBurnt io).bkrFilled.enrolLogged, answers_of_work rfl (State.reenrol_of_burnt (by rwa [State.tick_sec]) (by rwa [State.tick_sec])
      (by rwa [State.tick_sec]) (by rwa [State.tick_enrols])), rfl, rfl⟩
  case arm => exact stages_of_work rfl (if_neg (not_not.2 (by rwa [State.tick_lifecycle])))
  case armState => exact answers_of_work rfl (if_pos (by rwa [State.tick_lifecycle]))

end Sys2Proof.Machine
end

section
/-! PROOFS. The lifecycle commands (R467 to R470, R473, R474, R477, R479, Table 19-11). -/

namespace Sys2Proof.Machine
open Sys2Proof.Say

/-! ### Fuses burnt (R466) -/

section
variable {s : State} {w k : Nat} {bits : Word} {burnt : BitVec 3}

theorem State.burn_fst : (s.burn w bits burnt).1 = (burnt == 7) := rfl

theorem State.burn_frame : (s.burn w bits burnt).2 =
    { s with lcy := { s.lcy with fuses := (s.burn w bits burnt).2.lcy.fuses, use := (s.burn w bits burnt).2.lcy.use } } := rfl

theorem State.fuse_burn_same (h : burnt = 7) : (s.burn w bits burnt).2.fuse w = s.fuse w ||| bits := by
  subst h
  simp [State.burn, State.fuse, State.modLcy]

theorem State.fuse_burn_ne (h : k ≠ w) : (s.burn w bits burnt).2.fuse k = s.fuse k := by
  simp only [State.burn, State.fuse, State.modLcy]
  split
  · rfl
  · exact tget_tmod_ne _ _ _ h.symm

end

/-! ### LCY_ADVANCE (R473, R474) -/

section
variable {tag : Nat} {io : HostIo} {a : List Word} {s : State}

theorem lcyAdvanceWork_of_dev (hl : s.lifecycle = 1) (ha : (arg a 1).toNat = 0x4445504C) : lcyAdvanceWork tag io a s =
    if s.sec.bat.bkr.isNone ∨ s.cfg.casteMin 4 < 2 then .status 0x0D42 s
    else if io.burnt = 7 then .ok [] (s.burn 0 0x20202 io.burnt).2 else .status 0x0D43 (s.burn 0 0x20202 io.burnt).2 := by
  have hbits : lifeBits (1 + 1) = 0x20202 := by decide
  unfold lcyAdvanceWork
  simp only [hl, ha, hbits, ne_eq, not_true_eq_false, ↓reduceIte, false_and, true_and, false_or]
  by_cases hi : io.burnt = 7 <;> simp [State.burn, hi]

theorem lcyAdvanceWork_of_deployed (hl : s.lifecycle = 2) (ha : (arg a 1).toNat = 0x44434F4D) (hi : io.burnt = 7) :
    lcyAdvanceWork tag io a s = .silent ((s.burn 0 0x40404 io.burnt).2.zeroise 3) := by
  have hbits : lifeBits (2 + 1) = 0x40404 := by decide
  unfold lcyAdvanceWork
  simp [hl, ha, hbits, State.burn, hi]

/-! ### LCY_FUSE_READ (R537) -/

theorem lcyFuseReadWork_of_key (h1 : 64 ≤ fld (arg a 1) 8 0) (h2 : fld (arg a 1) 8 0 ≤ 79) :
    lcyFuseReadWork tag io a s = .ok [0, 0, 0, 0, wd (b2n (s.lcy.marginal.contains (fld (arg a 1) 8 0)))] s := by
  have hcls : fuseClass (fld (arg a 1) 8 0) = .key := by
    unfold fuseClass
    rw [if_neg (by omega), if_neg (by omega), if_pos ⟨h1, h2⟩]
  unfold lcyFuseReadWork
  dsimp only
  rw [hcls]
  rfl

theorem lcyFuseReadWork_of_open (h : fld (arg a 1) 8 0 < 64 ∨ 79 < fld (arg a 1) 8 0) : lcyFuseReadWork tag io a s =
    let f := fld (arg a 1) 8 0
    let r := tget s.lcy.bootReads f { normal := s.fuse f, low := s.fuse f, high := s.fuse f }
    .ok [r.normal, r.low, r.high, s.fuse f, wd (b2n (s.lcy.marginal.contains f))] s := by
  have hcls : (fuseClass (fld (arg a 1) 8 0) == .key) = false := by
    unfold fuseClass
    split_ifs <;> first | rfl | omega
  unfold lcyFuseReadWork
  dsimp only
  rw [hcls]
  rfl

/-! ### The boot flash (R468, R469) -/

theorem lcyFwWriteWork_of_len (h1 : 3924 ≤ (arg a 3).toNat) (h2 : (arg a 3).toNat ≤ 8388608) : lcyFwWriteWork tag io a s =
    .reply 0x0001 [wd s.mbx.nextTicket] ((s.defer fwWriteDef tag a).2.setBank (1 - s.lcy.bank) none) :=
  if_neg (by omega)

section
variable {s1 : State}
  (hread : s.hostRead tag (ofTwo (arg a 1) (arg a 2)) (arg a 3).toNat 3 io.dataFault = .ok s1)
include hread

theorem State.fwWrite_of_read : s.fwWrite tag a io =
    if io.flashBad then (0x0D45, [], s1)
    else
      let i := imageOf ((io.data ++ List.replicate (arg a 3).toNat 0).take (arg a 3).toNat)
      if (s1.accepts i).isNone then (0x0D44, [], s1) else (0, [wd (1 - s.lcy.bank)], s1.setBank (1 - s.lcy.bank) (some i)) := by
  unfold State.fwWrite
  dsimp only
  rw [hread]

end

/-- A copy of the boot descriptor written. -/
def State.withDesc (s : State) (copy : Nat) (d : Descriptor) : State := s.modLcy (fun l => { l with desc := tset l.desc copy d })

/-- LCY_FW_SELECT of an image that passes, with both copies of the descriptor valid. -/
theorem lcyFwSelectWork_of_two {k : Nat} {x y : Descriptor} (hacc : s.accepts (tget s.lcy.banks (fld (arg a 1) 0 0) {}) = some k)
    (hx : tfind s.lcy.desc 0 = some x) (hy : tfind s.lcy.desc 1 = some y) :
    let old := if x.dserial < y.dserial then 0 else 1
    lcyFwSelectWork tag io a s =
      if io.flashBad then .status 0x0D45 (s.modLcy (fun l => { l with desc := terase l.desc old }))
      else .ok [] (s.withDesc old { dserial := (max x.dserial y.dserial + 1) % 2 ^ 32, bank := fld (arg a 1) 0 0 }) := by
  intro old
  unfold lcyFwSelectWork
  dsimp only
  rw [hacc, hx, hy]
  by_cases h : x.dserial < y.dserial
  · simp only [old, h, ↓reduceIte, max_eq_right h.le]
    rfl
  · simp only [old, h, ↓reduceIte, max_eq_left (Nat.le_of_not_lt h)]
    rfl

/-! ### LCY_ROLLBACK_ADVANCE and LCY_SLOT_REVOKE (R467, R470) -/

/-- Bits are burnt unless there are none. -/
def State.burnSome (s : State) (w : Nat) (bits : Word) (burnt : BitVec 3) : State :=
  if bits = 0 then s else (s.burn w bits burnt).2

theorem State.fuse_burnSome_same {w : Nat} {bits : Word} : (s.burnSome w bits 7).fuse w = s.fuse w ||| bits := by
  unfold State.burnSome
  split
  · next h => simp [h]
  · exact State.fuse_burn_same rfl

theorem State.fuse_burnSome_ne {w k : Nat} {bits : Word} {burnt : BitVec 3} (h : k ≠ w) :
    (s.burnSome w bits burnt).fuse k = s.fuse k := by
  unfold State.burnSome
  split
  · rfl
  · exact State.fuse_burn_ne h

theorem lcyRollbackAdvanceWork_of_burnt (h1 : s.rollbackStep < fld (arg a 1) 6 0) (h2 : fld (arg a 1) 6 0 ≤ s.lcy.rollback)
    (hi : io.burnt = 7) : lcyRollbackAdvanceWork tag io a s =
      .status 0 ((s.burnSome 1 (stepBits 0 s.rollbackStep (fld (arg a 1) 6 0)) 7).burnSome 2
        (stepBits 32 s.rollbackStep (fld (arg a 1) 6 0)) 7) := by
  have hok (s1 : State) (w : Nat) (bits : Word) : (if bits = 0 then (true, s1) else s1.burn w bits io.burnt) = (true, s1.burnSome w bits 7) := by
    unfold State.burnSome
    split
    · rfl
    · rw [hi]
      rfl
  unfold lcyRollbackAdvanceWork
  dsimp only
  rw [if_neg (by omega), hok, hok]
  rfl

theorem lcySlotRevokeWork_of_allowed
    (h : ((arg a 1).getLsbD s.lcy.slot ||
        (!([0, 1, 2, 3].filter s.fwUsable).isEmpty && ([0, 1, 2, 3].filter s.fwUsable).all (fun k => (arg a 1).getLsbD (0 + k))) ||
        (!([0, 1].filter s.debugUsable).isEmpty && ([0, 1].filter s.debugUsable).all (fun k => (arg a 1).getLsbD (8 + k)))) = false)
    (hw : arg a 1 ≠ 0) : lcySlotRevokeWork tag io a s =
      .status (if io.burnt == 7 then 0 else 0x0D43) (s.burn 5 (arg a 1) io.burnt).2 :=
  (if_neg (ne_true_of_eq_false h)).trans (if_neg hw)

/-! ### LCY_RESET (R479) -/

theorem State.coldReset_empty (last : LastReset) : (s.coldReset last).mbx = {} ∧ (s.coldReset last).cap.objs = [] := by
  unfold State.coldReset
  rw [State.startTime_frame]
  exact ⟨rfl, rfl⟩

/-- The start of a warm reset takes the link down (R477). -/
theorem State.linkUp_warmStart : s.warmStart.ins.linkUp = false := by
  have hlost : (s.modLcy (fun l => { l with warm := true })).linkLost.ins.linkUp = false := rfl
  unfold State.warmStart
  dsimp only
  generalize (s.modLcy (fun l => { l with warm := true })).linkLost = d at hlost
  refine Eq.trans ?_ hlost
  exact congrArg Ins.linkUp (foldl_rel (fun a b : State => b.ins = a.ins) (fun _ => rfl) (fun _ _ _ h1 h2 => h2.trans h1) _
    (fun s p => by rw [(s.markAbort_ends p.1 0x36).frame]) _ d)

end

theorem lifecycleCommands : lifecycleCommandsSay := by
  intro t tag io s a s0 w l f len img steps last barred
  have hfw : s0.fwUsable = s.fwUsable := funext (s.tick_fwUsable t)
  have hdbg : s0.debugUsable = s.debugUsable := funext (s.tick_debugUsable t)
  refine ⟨?status, fun h => ?advanceWord, fun hl hw => ⟨fun h => ?advanceBarred, fun hb hc => ⟨fun hi => ?deploys, fun hi => ?deployFails⟩⟩,
    fun hr hl hw hi hg hz => ?decommissions, fun h1 h2 => ?fuseKey, fun h => ?fuseRead, fun h => ?writeLen, fun h1 h2 => ?write,
    fun s1 hread => ⟨fun hbad => ?flashBad, fun hbad hacc => ?imageBad, fun k hbad hacc => ?written⟩, fun h => ?selectBad,
    fun k x y hacc hx hy => ⟨fun hbad => ?selects, fun hbad => ?selectFails⟩, fun h => ?rollbackBar, fun h1 h2 h3 hi => ?rollback,
    fun h => ?revokeBar, fun h hw => ⟨fun hi => ?revokes, fun hi => ?revokeFails⟩, fun h => ?resetWord, fun hr hw => ?resets⟩
  case status =>
    have hwork : lcyStatusWork tag io a s0 = .ok [ wd s0.bootStatus
      , wd (s0.lifecycle + s0.rollbackStep * 2 ^ 8 + s0.zcount * 2 ^ 16 + s0.enrols * 2 ^ 24), s0.fuse 5 &&& 0x30F
      , s0.bankVersion 0, s0.bankVersion 1, wd s0.preferred ] s0 := rfl
    simp only [s0, State.tick_bootStatus, State.tick_lifecycle, State.tick_rollbackStep, State.tick_zcount, State.tick_enrols,
      State.tick_fuse, State.tick_bankVersion, State.tick_preferred] at hwork
    exact answers_of_work rfl hwork
  case advanceWord => exact answers_of_work rfl (if_pos (by rwa [State.tick_lifecycle]))
  case advanceBarred =>
    refine answers_of_work rfl ((lcyAdvanceWork_of_dev (tag := tag) (by rwa [State.tick_lifecycle]) hw).trans (if_pos ?_))
    rw [State.tick_sec, State.tick_cfg, Option.isNone_iff_eq_none]
    exact h
  case deploys =>
    have hopen : ¬(s0.sec.bat.bkr.isNone ∨ s0.cfg.casteMin 4 < 2) := by
      simp only [s0, State.tick_sec, State.tick_cfg]
      simpa [Option.isSome_iff_ne_none.1 hb] using Nat.lt_of_succ_le hc
    refine ⟨_, answers_of_work rfl ((lcyAdvanceWork_of_dev (tag := tag) (by rwa [State.tick_lifecycle]) hw).trans ((if_neg hopen).trans (if_pos hi))),
      ?_, fun k hk => ?_, ?_⟩
    · exact (State.fuse_burn_same hi).trans (by rw [State.tick_fuse])
    · exact (State.fuse_burn_ne hk).trans (s.tick_fuse t k)
    · rw [State.burn_frame, ← s.tick_lcy t]
  case deployFails =>
    have hopen : ¬(s0.sec.bat.bkr.isNone ∨ s0.cfg.casteMin 4 < 2) := by
      simp only [s0, State.tick_sec, State.tick_cfg]
      simpa [Option.isSome_iff_ne_none.1 hb] using Nat.lt_of_succ_le hc
    exact ⟨_, answers_of_work rfl ((lcyAdvanceWork_of_dev (tag := tag) (by rwa [State.tick_lifecycle]) hw).trans ((if_neg hopen).trans (if_neg hi)))⟩
  case decommissions =>
    have hexec : exec (.lcyAdvance t tag io) s = .next (State.answer tag (lcyAdvanceWork tag io a s0)) := exec_of_runs rfl hr
    rw [lcyAdvanceWork_of_deployed (by rwa [State.tick_lifecycle]) hw hi] at hexec
    obtain ⟨counts, hzeroised, hsec, times, hlcy⟩ := State.zeroise_zeroised (s := (s0.burn 0 0x40404 io.burnt).2)
      (by rw [State.burn_frame, State.tick_sec, hz]) (by rw [State.burn_frame, State.tick_sec, hg]) 3
    obtain ⟨hbkr, -, -, -, -, -, -, -, -, hstate, hzeroising, -⟩ := hzeroised
    refine ⟨_, hexec, ?_, hbkr, hzeroising, hstate⟩
    have hfuse : ((s0.burn 0 0x40404 io.burnt).2.zeroise 3).fuse 0 = (s0.burn 0 0x40404 io.burnt).2.fuse 0 := by
      simp only [State.fuse, hlcy]
    exact hfuse.trans ((State.fuse_burn_same hi).trans (by rw [State.tick_fuse]))
  case fuseKey => exact ⟨_, answers_of_work rfl (lcyFuseReadWork_of_key (tag := tag) (io := io) h1 h2)⟩
  case fuseRead =>
    have hwork := lcyFuseReadWork_of_open (tag := tag) (io := io) (s := s0) h
    simp only [s0, State.tick_lcy, State.tick_fuse] at hwork
    exact answers_of_work rfl hwork
  case writeLen | resetWord => exact answers_of_work rfl (if_pos h)
  case write =>
    have hwork := lcyFwWriteWork_of_len (tag := tag) (io := io) (s := s0) h1 h2
    rw [show s0.mbx = s.mbx from s.tick_mbx t, show s0.lcy = s.lcy from s.tick_lcy t] at hwork
    refine ⟨_, answers_of_work rfl hwork, tfind_terase_same _ _, fun b hb => ?_, ?_⟩
    · refine (tfind_terase_ne _ hb).trans ?_
      change tfind s0.lcy.banks b = _
      rw [State.tick_lcy]
    · have htickets := s0.tickets_defer fwWriteDef tag a
      rw [show s0.mbx = s.mbx from s.tick_mbx t] at htickets
      exact congrArg (Option.map (fun c : PendingCmd => (c.tag, c.code, c.args))) htickets
  case flashBad => exact (State.fwWrite_of_read hread).trans (if_pos hbad)
  case imageBad =>
    exact (State.fwWrite_of_read hread).trans ((if_neg (ne_true_of_eq_false hbad)).trans (if_pos (Option.isNone_iff_eq_none.2 hacc)))
  case written =>
    refine (State.fwWrite_of_read hread).trans ((if_neg (ne_true_of_eq_false hbad)).trans ((if_neg ?_).trans ?_))
    · rw [hacc]
      simp
    · rw [State.tick_lcy]
  case selectBad =>
    refine answers_of_work rfl (if_pos ?_)
    rw [State.tick_accepts, State.tick_lcy, Option.isNone_iff_eq_none]
    exact h
  case selects =>
    have hwork := lcyFwSelectWork_of_two (tag := tag) (io := io) (s := s0) (k := k) (by rw [State.tick_accepts, State.tick_lcy]; exact hacc)
      (by rwa [State.tick_lcy]) (by rwa [State.tick_lcy])
    refine ⟨_, answers_of_work rfl (hwork.trans (if_neg (ne_true_of_eq_false hbad))), tfind_tset_same _ _ _, ?_, ?_⟩
    · refine (tfind_tset_ne _ _ ?_).trans (by rw [State.tick_lcy])
      split <;> decide
    · rw [← s.tick_lcy t]
      rfl
  case selectFails =>
    have hwork := lcyFwSelectWork_of_two (tag := tag) (io := io) (s := s0) (k := k) (by rw [State.tick_accepts, State.tick_lcy]; exact hacc)
      (by rwa [State.tick_lcy]) (by rwa [State.tick_lcy])
    refine ⟨_, answers_of_work rfl (hwork.trans (if_pos hbad)), ?_, show s0.lcy.banks = s.lcy.banks by rw [State.tick_lcy]⟩
    refine (tfind_terase_ne _ ?_).trans (by rw [State.tick_lcy])
    split <;> decide
  case rollbackBar =>
    refine answers_of_work rfl (if_pos ?_)
    rw [State.tick_rollbackStep, State.tick_lcy]
    exact h
  case rollback =>
    have hwork := lcyRollbackAdvanceWork_of_burnt (tag := tag) (s := s0) (by rwa [State.tick_rollbackStep]) (by rwa [State.tick_lcy]) hi
    rw [show s0.rollbackStep = s.rollbackStep from s.tick_rollbackStep t] at hwork
    refine ⟨_, answers_of_work rfl hwork, ?_, ?_, fun k hk1 hk2 => ?_⟩
    · rw [State.fuse_burnSome_ne (by decide), State.fuse_burnSome_same, State.tick_fuse]
    · rw [State.fuse_burnSome_same, State.fuse_burnSome_ne (by decide), State.tick_fuse]
    · rw [State.fuse_burnSome_ne hk2, State.fuse_burnSome_ne hk1, State.tick_fuse]
  case revokeBar =>
    refine answers_of_work rfl (if_pos ?_)
    rw [hfw, hdbg, State.tick_lcy]
    exact h
  case revokes =>
    have hwork := lcySlotRevokeWork_of_allowed (tag := tag) (io := io) (s := s0) (by rw [hfw, hdbg, State.tick_lcy]; exact h) hw
    rw [hi] at hwork
    exact ⟨_, answers_of_work rfl hwork, (State.fuse_burn_same rfl).trans (by rw [State.tick_fuse]),
      fun k hk => (State.fuse_burn_ne hk).trans (s.tick_fuse t k)⟩
  case revokeFails =>
    have hwork := lcySlotRevokeWork_of_allowed (tag := tag) (io := io) (s := s0) (by rw [hfw, hdbg, State.tick_lcy]; exact h) hw
    rw [beq_false_of_ne hi] at hwork
    exact ⟨_, answers_of_work rfl hwork⟩
  case resets =>
    have hexec : exec (.lcyReset t tag io) s = .next (State.answer tag (lcyResetWork tag io a s0)) := exec_of_runs rfl hr
    cases hc : bit w 0 with
    | true =>
      have hwork : lcyResetWork tag io a s0 = .silent (s0.coldReset .cold) := (if_neg (not_not.2 hw)).trans (if_pos hc)
      rw [hwork] at hexec
      obtain ⟨hstage, hfuses, hbat, hbytes, -⟩ := s0.coldReset_cold .cold
      refine ⟨_, hexec, fun _ => ⟨s0.coldReset_lastReset .cold, ?_, ?_, hbytes, ?_, ?_, ?_⟩, fun h => absurd h (by simp)⟩
      · exact hstage.trans (by rw [State.tick_lcy])
      · exact (s0.coldReset_empty .cold).1
      · exact (s0.coldReset_empty .cold).2
      · exact hbat.trans (by rw [State.tick_sec])
      · exact hfuses.trans (by rw [State.tick_lcy])
    | false =>
      have hwork : lcyResetWork tag io a s0 = .silent (s0.warmStart.modMbx (fun m => { m with state := .restarting })) :=
        (if_neg (not_not.2 hw)).trans (if_neg (ne_true_of_eq_false hc))
      rw [hwork] at hexec
      have hstart := s0.warmStart_resets
      refine ⟨_, hexec, fun h => absurd h (by simp), fun _ => ⟨?_, rfl, s0.linkUp_warmStart, ?_⟩⟩
      · exact congrArg Lcy.warm hstart.lcy
      · exact hstart.bat.trans (congrArg Sec.bat (s.tick_sec t))

/-- Settles O60, command by command. -/
theorem securityAndLifecycleCommands : Obligations.SecurityAndLifecycleCommands := ⟨securityCommands, lifecycleCommands⟩

end Sys2Proof.Machine
end

section
/-! PROOFS. What the end of each boot stage leaves (R402, R462 to R471, R475): O59. -/

namespace Sys2Proof.Machine

/-! ### What the faults and quarantines of cells leave of the die links and of the boot (R206, R368) -/

/-- A die link without its audit. -/
def DieLink.unaudited (l : DieLink) : DieLink := { l with auditing := false, auditAgain := false }

/-- The boot, the islands, and the die links but for their audits. -/
structure LinkCore where
  lcy : Lcy
  islands : Tbl Island
  link : Nat → DieLink

def State.linkCore (s : State) : LinkCore := { lcy := s.lcy, islands := s.isl.islands, link := fun d => (s.link d).unaudited }

/-- The state has the links and the boot of c. -/
def State.HasLinks (s : State) (c : LinkCore) : Prop := s.linkCore = c

end Sys2Proof.Machine

namespace Sys2Proof.Machine.State.HasLinks
variable {s : State} {c : LinkCore}

theorem ite {p : Prop} {_ : Decidable p} {x y : State} (hx : x.HasLinks c) (hy : y.HasLinks c) : (if p then x else y).HasLinks c := by
  split <;> assumption

theorem foldl {α : Type} {f : State → α → State} (h : s.HasLinks c) (hf : ∀ {s : State} {x : α}, s.HasLinks c → (f s x).HasLinks c)
    {l : List α} : (l.foldl f s).HasLinks c := by
  induction l generalizing s with
  | nil => exact h
  | cons x xs ih => exact ih (hf h)

theorem raiseDev {code source data ext} (h : s.HasLinks c) : (s.raiseDev code source data ext).HasLinks c := by
  rw [State.raiseDev_frame]
  exact h

theorem modCell {n f} (h : s.HasLinks c) : (s.modCell n f).HasLinks c := h

theorem modSea {f} (h : s.HasLinks c) : (s.modSea f).HasLinks c := h

theorem modSes {lane f} (h : s.HasLinks c) : (s.modSes lane f).HasLinks c := h

/-! ### Sessions and jobs that a lost cell held -/

theorem queueDecision {lane type} (h : s.HasLinks c) : (s.queueDecision lane type).HasLinks c := by
  rw [State.queueDecision_frame]
  exact h

theorem leaveCell {lane x} (h : s.HasLinks c) : (s.leaveCell lane x true).HasLinks c := by
  rw [State.leaveCell_frame]
  exact h

theorem countOutcome {lane o} (h : s.HasLinks c) : (s.countOutcome lane o).HasLinks c := by
  unfold State.countOutcome
  rw [State.count_frame]
  exact h

theorem leaveSeg {lane} (h : s.HasLinks c) : (s.leaveSeg lane).HasLinks c := by
  unfold State.leaveSeg State.admitNext
  dsimp only
  split
  · split
    · split <;> exact h
    · exact h
  · exact h

theorem conclude {lane o reason prompt frame} (h : s.HasLinks c) : (s.conclude lane o reason prompt frame).HasLinks c := by
  unfold State.conclude
  split
  · exact h
  · rename_i x hx
    have hfixed (f : Session → Session) : (((s.leaveCell lane x true).modSes lane f).await (.sealing lane) .ledger).HasLinks c := leaveCell h
    cases o with
    | accept => exact hfixed _
    | abort => exact ite (leaveSeg (queueDecision (countOutcome (hfixed _)))) (leaveSeg (modSes (countOutcome (hfixed _))))
    | deny | refer => exact ite (queueDecision (hfixed _)) (leaveSeg (modSes (countOutcome (hfixed _))))

theorem abortSes {lane reason} (h : s.HasLinks c) : (s.abortSes lane reason).HasLinks c := by
  unfold State.abortSes
  split
  · exact h
  · exact ite h (ite (conclude (modSes h)) (conclude (modSes h)))

theorem endJob {n st b cq} (h : s.HasLinks c) : (s.endJob n st b cq).HasLinks c := by
  cases hj : s.job n with
  | none => simpa only [State.endJob, hj] using h
  | some j =>
    have hfreed : (s.jobFreed n j).HasLinks c := by
      rw [State.jobFreed_frame]
      exact h
    rw [(s.endJob_completes hj st b cq).frame]
    exact hfreed

/-! ### Tests, leases and credits of a lost cell -/

theorem endL2 {island} (h : s.HasLinks c) : (s.endL2 island).HasLinks c := by
  unfold State.endL2
  refine foldl ?_ (fun {s p} h => ?_)
  · exact h
  · split <;> exact h

theorem endWork {st cq w} (h : s.HasLinks c) : (s.endWork st cq w).HasLinks c := by
  unfold State.endWork
  split
  · exact abortSes h
  · exact endJob h
  · exact ite (endL2 h) (ite h h)
  · exact h

theorem dropLoan {n} (h : s.HasLinks c) : (s.dropLoan n).HasLinks c := by
  unfold State.dropLoan
  split <;> exact h

theorem voidLease {p} (h : s.HasLinks c) : (s.voidLease p).HasLinks c := by
  have hstore (a : Nat) (bs : List Byte) : (s.store a bs).HasLinks c := by
    rw [State.store_frame]
    exact h
  unfold State.voidLease State.restoreLock
  split
  · split
    · exact hstore _ _
    · exact hstore _ _
    · exact h
  · exact h

theorem auditRequest {die} (h : s.HasLinks c) : (s.auditRequest die).HasLinks c := by
  refine Eq.trans (LinkCore.mk.injEq .. |>.mpr ⟨?_, ?_, funext fun d => ?_⟩) h
  · exact apply_ite State.lcy _ _ _ |>.trans (ite_self _)
  · exact apply_ite (fun s : State => s.isl.islands) _ _ _ |>.trans (ite_self _)
  · unfold State.auditRequest
    dsimp only
    by_cases hd : die = d
    · subst hd
      split_ifs <;> simp [State.link, DieLink.unaudited]
    · split_ifs <;> simp [State.link, hd]

theorem refillOne {caste} (h : s.HasLinks c) : (s.refillOne caste).HasLinks c := by
  have hfill (need : Nat) : (s.fill caste need).2.HasLinks c := by
    rw [State.fill_frame]
    exact h
  exact ite h (ite (modSea (hfill _)) (ite (hfill _) (raiseDev (modSea (hfill _)))))

theorem cellFault {n st cq} (h : s.HasLinks c) : (s.cellFault n st cq).HasLinks c := by
  by_cases hout : (s.cell n).Out ∨ (s.cell n).state = .absent
  · rwa [s.cellFault_of_out hout]
  · rw [s.cellFault_of_in hout]
    have hlost : (s.audioLost n).HasLinks c := ite h h
    have hfaulted : (s.faulted n).HasLinks c := dropLoan (s := State.modCell _ _ _) hlost
    have hended : (s.unburdened n st cq).HasLinks c := foldl (foldl hfaulted voidLease) endWork
    exact refillOne (ite (auditRequest hended) hended)

theorem quarantine {n} (h : s.HasLinks c) : (s.quarantine n).HasLinks c := refillOne (raiseDev h)

theorem quarantineAll {cells} (h : s.HasLinks c) : (s.quarantineAll cells).HasLinks c :=
  foldl h (fun h => ite h (quarantine (cellFault h)))

end Sys2Proof.Machine.State.HasLinks
namespace Sys2Proof.Machine
open Sys2Proof.Say

/-! ### The step that ends a boot stage (R462) -/

/-- What a stage's end does once the stage is due, by the stage. -/
def State.endStage (s : State) (r : StageResult) : Nat → Out
  | 1 => .next (((List.range 12).foldl (fun s i => s.leaveReset (96 + i)) s).toStage 2)
  | 2 => .next ((s.stageFuses r.fuses).toStage 3)
  | 3 =>
    if s.lifecycle = 0 then .next (s.bootStop 1)
    else if r.trngOk then .next ((s.stageKeys r.burnt).toStage 4)
    else if s.now < s.lcy.bootStart + 800000000 then .next s
    else .next (s.bootStop 5)
  | 4 => (match s.stageFlash r with
    | .error c => .next (s.bootStop c)
    | .ok s' => .next (s'.sideDone 4))
  | 5 => if r.ddrOk then .next ((s.stageMemory r.extMib).sideDone 5) else .next (s.bootStop 6)
  | 6 => .next ((s.stageLinks r.links).sideDone 6)
  | 7 => .next ((if s.lcy.warm then s.stageWarm r else s.stageFrenal r).toStage 8)
  | 8 => .next s.hostService
  | _ => .next s

section
variable {s : State} {r : StageResult} {n : Nat} (t : Nat)

theorem exec_bootStageComplete_of_not_due (h : s.stageDue r.stage = false) : exec (.bootStageComplete t r) s = .next (s.tick t) :=
  if_pos (by simp [h])

theorem exec_bootStageComplete_of_due (h : s.stageDue r.stage = true) (hm : s.mbx.state ≠ .serving) (hr : r.stage = n) :
    exec (.bootStageComplete t r) s = (s.tick t).endStage r n := by
  subst hr
  exact if_neg (by simp [h, hm])

end

/-- A boot that stops: stage 15 with its cause, and the steward stopped (R471). -/
theorem State.bootStop_stops {s s0 : State} (h : s0.lcy = s.lcy) (c : Nat) : (s0.bootStop c).lcy.stage = 15 ∧ (s0.bootStop c).lcy.fail = c ∧
    (s0.bootStop c).mbx.state = .stopped ∧ (s0.bootStop c).lcy.fuses = s.lcy.fuses :=
  ⟨rfl, rfl, rfl, (congrArg Lcy.fuses h : s0.lcy.fuses = s.lcy.fuses)⟩

/-- One of stages 4, 5 and 6 ends (R462). -/
theorem State.sideDone_after {s s0 : State} {n : Nat} (hs : s.lcy.stage = 4) (he : s.lcy.ended = s0.lcy.ended) :
    (s.sideDone n).lcy.stage = (if [4, 5, 6].all (linsert s0.lcy.ended n).contains then 7 else 4) ∧
      (s.sideDone n).lcy.ended = linsert s0.lcy.ended n := by
  rw [← he]
  unfold State.sideDone
  dsimp only [State.modLcy]
  split
  · exact ⟨rfl, rfl⟩
  · exact ⟨hs, rfl⟩

theorem State.sideDone_frame (s : State) (n : Nat) : s.sideDone n =
    { s with lcy := { s.lcy with stage := (s.sideDone n).lcy.stage, ended := (s.sideDone n).lcy.ended }, out := (s.sideDone n).out } := by
  unfold State.sideDone
  dsimp only
  split <;> rfl

theorem State.stage_of_due {s : State} {n : Nat} (h : s.stageDue n = true) (hn : n = 4 ∨ n = 5 ∨ n = 6) : s.lcy.stage = 4 := by
  simp only [State.stageDue, hn, if_true, Bool.and_eq_true, decide_eq_true_eq] at h
  exact h.2.1

/-! ### Stage 1: the hub's islands leave reset -/

/-- An island as it leaves reset (R462). -/
def Island.left (n : Nat) (i : Island) : Island :=
  { i with state := .run, isolated := false, heldTransfers := 0, vcode := 50, fcode := (islandRange n).1
           flagged := false, extraDown := 0, hold := 0, limitRaised := false }

/-- Islands changed one by one, each in a way that a second time does not add to. -/
theorem State.island_foldl_modIsland {f : Nat → Island → Island} (hf : ∀ n i, f n (f n i) = f n i) (l : List Nat) (s : State) (n : Nat) :
    (l.foldl (fun s n => s.modIsland n (f n)) s).island n = if n ∈ l then f n (s.island n) else s.island n := by
  induction l generalizing s with
  | nil => simp
  | cons k l ih =>
    rw [List.foldl_cons, ih]
    by_cases h : n = k
    · subst h
      simp [hf]
    · simp [h, State.island_modIsland_ne s (f k) h]

theorem State.foldl_modIsland_frame (f : Nat → Island → Island) (l : List Nat) (s : State) : l.foldl (fun s n => s.modIsland n (f n)) s =
    { s with isl := { s.isl with islands := (l.foldl (fun s n => s.modIsland n (f n)) s).isl.islands } } :=
  foldl_rel (fun a b : State => b = { a with isl := { a.isl with islands := b.isl.islands } }) (fun _ => rfl)
    (fun a b c h1 h2 => by rw [h2, h1]) _ (fun _ _ => rfl) l s

theorem State.island_foldl_leaveReset (l : List Nat) (s : State) (n : Nat) :
    (l.foldl State.leaveReset s).island n = if n ∈ l then (s.island n).left n else s.island n :=
  State.island_foldl_modIsland (f := Island.left) (fun _ _ => rfl) l s n

theorem stageOne {t : Nat} {r : StageResult} {s : State} (hd : s.stageDue r.stage = true) (hm : s.mbx.state ≠ .serving) (hr : r.stage = 1) :
    ∃ s', exec (.bootStageComplete t r) s = .next s' ∧ s'.lcy.stage = 2 ∧
      ∀ n, 96 ≤ n → n ≤ 107 → (s'.island n).state = .run ∧ (s'.island n).isolated = false ∧ (s'.island n).vcode = 50 := by
  refine ⟨_, exec_bootStageComplete_of_due t hd hm hr, rfl, fun n h1 h2 => ?_⟩
  have hleft := State.island_foldl_leaveReset ((List.range 12).map (96 + ·)) (s.tick t) n
  have hmem : n ∈ (List.range 12).map (96 + ·) := List.mem_map.mpr ⟨n - 96, by simp; omega, by omega⟩
  rw [List.foldl_map, if_pos hmem] at hleft
  generalize (List.range 12).foldl (fun s i => s.leaveReset (96 + i)) (s.tick t) = s1 at hleft
  have hkept : (s1.toStage 2).island n = s1.island n := rfl
  rw [hkept, hleft]
  exact ⟨rfl, rfl, rfl⟩

/-! ### Stage 2: the fuse words in use (R464, R465) -/

theorem tfind_map_words {α : Type} (l : List Nat) (g : Nat → α) (w : Nat) :
    tfind (l.map (fun w => (w, g w))) w = if w ∈ l then some (g w) else none := by
  induction l with
  | nil => rfl
  | cons k l ih =>
    simp only [List.map_cons, tfind, ih, List.mem_cons]
    by_cases h : k = w
    · simp [h]
    · simp [h, Ne.symm h]

section
variable (s : State) (l : Tbl FuseReads)

/-- A word that neither the array nor the results list reads 0 three times. -/
theorem State.fuseReads_unlisted {w : Nat} (hw : w < 512) (h : w ∉ s.fuseWords l) : s.fuseReads l w = {} := by
  simp only [State.fuseWords, List.mem_filter, List.mem_range, hw, true_and, Bool.or_eq_true, not_or, tmem, Bool.not_eq_true,
    Option.isSome_eq_false_iff, Option.isNone_iff_eq_none] at h
  simp [State.fuseReads, tget, h]

/-- What stage 2 does besides leaves the fuse words alone. -/
theorem State.lcy_afterReads (s : State) (f : Sec → Sec) (g : Battery → Battery) :
    (if ((s.modSec f).recordTest 6 0 .pass 0).lifecycle = 3 then ((s.modSec f).recordTest 6 0 .pass 0).modBat g
      else (s.modSec f).recordTest 6 0 .pass 0).lcy = s.lcy := by
  split <;> rfl

theorem State.stageFuses_use : (s.stageFuses l).lcy.use = (s.fuseWords l).map (fun w => (w, (s.fuseReads l w).value w)) := by
  unfold State.stageFuses
  generalize s.fuseWords l = words
  dsimp only
  rw [State.lcy_afterReads]
  exact List.map_map

theorem State.stageFuses_marginal :
    (s.stageFuses l).lcy.marginal = (s.fuseWords l).filter (fun w => (s.fuseReads l w).marginal) := by
  unfold State.stageFuses
  generalize s.fuseWords l = words
  dsimp only
  rw [State.lcy_afterReads]
  simp only [State.modLcy, List.filter_map, List.map_map]
  exact List.map_id _

theorem State.fuse_stageFuses {w : Nat} (hw : w < 512) : (s.stageFuses l).fuse w = (s.fuseReads l w).value w := by
  rw [State.fuse, State.stageFuses_use, tget]
  refine (congrArg (fun o : Option Word => o.getD 0) (tfind_map_words _ (fun w => (s.fuseReads l w).value w) w)).trans ?_
  split
  · rfl
  · rename_i h
    rw [s.fuseReads_unlisted l hw h]
    unfold FuseReads.value
    split <;> rfl

theorem State.mem_marginal_stageFuses {w : Nat} (hw : w < 512) :
    w ∈ (s.stageFuses l).lcy.marginal ↔ (s.fuseReads l w).marginal = true := by
  rw [State.stageFuses_marginal, List.mem_filter]
  refine ⟨And.right, fun h => ⟨?_, h⟩⟩
  by_contra hmem
  rw [s.fuseReads_unlisted l hw hmem] at h
  cases h

end

section
variable (x : FuseReads) {w : Nat}

/-! Values in use by class (Table 19-3) -/

theorem FuseReads.value_of_monotonic (h : w ≤ 5) : x.value w = x.normal ||| x.low ||| x.high := by
  simp [FuseReads.value, fuseClass, h]

theorem FuseReads.value_of_key (h1 : 8 ≤ w) (h2 : w ≤ 55 ∨ 64 ≤ w) (h3 : w ≤ 79) :
    x.value w = if x.marginal then 0 else x.normal := by
  have hclass : fuseClass w = .keyHash ∨ fuseClass w = .key := by
    unfold fuseClass
    rw [if_neg (by omega)]
    by_cases h : w ≤ 55
    · exact .inl (if_pos ⟨h1, h⟩)
    · exact .inr ((if_neg (by omega)).trans (if_pos (by omega)))
  obtain h | h := hclass <;> simp [FuseReads.value, h]

theorem FuseReads.value_of_data (h : 80 ≤ w) : x.value w = x.normal := by
  have hclass : fuseClass w = .data := by
    unfold fuseClass
    rw [if_neg (by omega), if_neg (by omega), if_neg (by omega)]
  simp [FuseReads.value, hclass]

end

theorem stageTwo {t : Nat} {r : StageResult} {s : State} (hd : s.stageDue r.stage = true) (hm : s.mbx.state ≠ .serving) (hr : r.stage = 2) :
    ∃ s', exec (.bootStageComplete t r) s = .next s' ∧ s'.lcy.stage = 3 ∧ ∀ w, w < 512 →
      let x := s.fuseReads r.fuses w
      (w ∈ s'.lcy.marginal ↔ x.marginal = true) ∧ (w ≤ 5 → s'.fuse w = x.normal ||| x.low ||| x.high) ∧
      (8 ≤ w → w ≤ 55 ∨ 64 ≤ w → w ≤ 79 → s'.fuse w = if x.marginal then 0 else x.normal) ∧ (80 ≤ w → s'.fuse w = x.normal) := by
  refine ⟨_, exec_bootStageComplete_of_due t hd hm hr, rfl, fun w hw => ?_⟩
  have hmarg := (s.tick t).mem_marginal_stageFuses r.fuses hw
  have hfuse := (s.tick t).fuse_stageFuses r.fuses hw
  rw [State.tick_fuseReads] at hmarg hfuse
  have hkept : (((s.tick t).stageFuses r.fuses).toStage 3).fuse w = (s.fuseReads r.fuses w).value w := hfuse
  exact ⟨hmarg, fun h => hkept.trans (FuseReads.value_of_monotonic _ h), fun h1 h2 h3 => hkept.trans (FuseReads.value_of_key _ h1 h2 h3),
    fun h => hkept.trans (FuseReads.value_of_data _ h)⟩

/-! ### Stage 3: keys (R402, R470) -/

section
variable (s : State) (burnt : BitVec 3)

/-- The keys made, before R470's burn. -/
def State.keysUp (s : State) : State :=
  { s with sec := { s.sec with trngOk := true, keysMade := true, memKey := s.sec.memKey + 1 }
           cap := { s.cap with sealKey := some (s.sec.memKey + 1) } }

theorem State.stageKeys_eq : s.stageKeys burnt =
    if s.sec.bat.bkr.isNone && decide (s.zcount < s.enrols) then (s.keysUp.burn 3 (stepBit (s.zcount + 1)) burnt).2 else s.keysUp := rfl

theorem State.stageKeys_frame : s.stageKeys burnt =
    { s.keysUp with lcy := { s.lcy with fuses := (s.stageKeys burnt).lcy.fuses, use := (s.stageKeys burnt).lcy.use } } := by
  rw [State.stageKeys_eq]
  split <;> rfl

end

theorem stageThree {t : Nat} {r : StageResult} {s : State} (hd : s.stageDue r.stage = true) (hm : s.mbx.state ≠ .serving) (hr : r.stage = 3)
    (hl : s.lifecycle ≠ 0) (ht : r.trngOk = true) : ∃ s', exec (.bootStageComplete t r) s = .next s' ∧ s'.lcy.stage = 4 ∧
      s'.sec.keysMade = true ∧ s'.sec.memKey = s.sec.memKey + 1 ∧ s'.cap.sealKey = some (s.sec.memKey + 1) ∧
      (s.sec.bat.bkr.isSome = true ∨ s.enrols ≤ s.zcount → s'.lcy.fuses = s.lcy.fuses) ∧
      (s.sec.bat.bkr = none → s.zcount < s.enrols → r.burnt = 7 → s'.fuse 3 = s.fuse 3 ||| ((1 : Word) <<< s.zcount)) := by
  have hexec : exec (.bootStageComplete t r) s = .next (((s.tick t).stageKeys r.burnt).toStage 4) := by
    rw [exec_bootStageComplete_of_due t hd hm hr, State.endStage, if_neg (by rwa [State.tick_lifecycle]), if_pos ht]
  have hframe := (s.tick t).stageKeys_frame r.burnt
  have heq := (s.tick t).stageKeys_eq r.burnt
  rw [State.tick_sec, State.tick_zcount, State.tick_enrols] at heq
  refine ⟨_, hexec, rfl, ?_, ?_, ?_, fun h => ?_, fun hb he h7 => ?_⟩
  · exact congrArg (fun s : State => s.sec.keysMade) hframe
  · exact (congrArg (fun s : State => s.sec.memKey) hframe).trans (by rw [← s.tick_sec t]; rfl)
  · exact (congrArg (fun s : State => s.cap.sealKey) hframe).trans (by rw [← s.tick_sec t]; rfl)
  · have hno : ¬ (s.sec.bat.bkr.isNone && decide (s.zcount < s.enrols)) = true := by
      obtain h | h := h
      · simp [Option.isSome_iff_ne_none.mp h]
      · simp [Nat.not_lt.mpr h]
    rw [if_neg hno] at heq
    exact (congrArg (fun s : State => s.lcy.fuses) heq).trans (congrArg Lcy.fuses (s.tick_lcy t))
  · have hyes : (s.sec.bat.bkr.isNone && decide (s.zcount < s.enrols)) = true := by simp [hb, he]
    rw [if_pos hyes] at heq
    refine (congrArg (fun s : State => s.fuse 3) heq).trans ((State.fuse_burn_same h7).trans ?_)
    rw [show (s.tick t).keysUp.fuse 3 = (s.tick t).fuse 3 from rfl, State.tick_fuse]
    rfl

end Sys2Proof.Machine
namespace Sys2Proof.Machine
open Sys2Proof.Say

/-! ### Stage 4: boot flash (R468, R469) -/

section
variable {s : State} {r : StageResult}

/-- What the boot flash holds, read. -/
def State.flashRead (s : State) (r : StageResult) : State :=
  s.modLcy (fun l => { l with flashOk := true, desc := r.desc, banks := r.banks, cert := r.cert, romVersion := r.romVersion })

/-- The image of bank b runs, verified under slot k. -/
def State.imageRuns (s : State) (r : StageResult) (b k : Nat) : State :=
  let img : Image := tget r.banks b {}
  (s.flashRead r).modLcy (fun l =>
    { l with bank := b, fallback := b != (s.flashRead r).preferred, slot := k, version := img.version, casteSet := img.casteSet
             rollback := img.rollback })

theorem State.stageFlash_of_dead (h : r.flashOk = false) : s.stageFlash r = .error 4 := if_pos (by simp [h])

theorem State.stageFlash_of_read (h : r.flashOk = true) : s.stageFlash r =
    if [0, 1, 2, 3].any s.fwUsable then
      match s.accepts (tget r.banks (s.flashRead r).preferred {}), s.accepts (tget r.banks (1 - (s.flashRead r).preferred) {}) with
      | some k, _ => .ok (s.imageRuns r (s.flashRead r).preferred k)
      | none, some k => .ok (s.imageRuns r (1 - (s.flashRead r).preferred) k)
      | none, none => .error 2
    else .error 3 := by
  unfold State.stageFlash
  rw [if_neg (by simp [h])]
  by_cases hu : [0, 1, 2, 3].any s.fwUsable = true
  · rw [if_pos hu]
    exact if_neg (c := (!([0, 1, 2, 3].any s.fwUsable)) = true) (by simp [hu])
  · rw [if_neg hu]
    exact if_pos (c := (!([0, 1, 2, 3].any s.fwUsable)) = true) (by simp [hu])

end

section
variable {t : Nat} {r : StageResult} {s : State}

theorem exec_stageFour_of_error {c : Nat} (hd : s.stageDue r.stage = true) (hm : s.mbx.state ≠ .serving) (hr : r.stage = 4)
    (h : (s.tick t).stageFlash r = .error c) : exec (.bootStageComplete t r) s = .next ((s.tick t).bootStop c) := by
  rw [exec_bootStageComplete_of_due t hd hm hr, State.endStage, h]

theorem exec_stageFour_of_ok {s' : State} (hd : s.stageDue r.stage = true) (hm : s.mbx.state ≠ .serving) (hr : r.stage = 4)
    (h : (s.tick t).stageFlash r = .ok s') : exec (.bootStageComplete t r) s = .next (s'.sideDone r.stage) := by
  rw [exec_bootStageComplete_of_due t hd hm hr, State.endStage, h, hr]

end

/-- The state in which an image runs and stage 4 has ended. -/
theorem State.imageRuns_sideDone {s s0 : State} {r : StageResult} {n : Nat} (hs : s.stageDue n = true) (hn : n = 4) (h : s0.lcy = s.lcy)
    (b k : Nat) : let s' := (s0.imageRuns r b k).sideDone n
    s'.lcy.bank = b ∧ s'.lcy.fallback = (b != (s0.flashRead r).preferred) ∧ s'.lcy.slot = k ∧
      s'.lcy.version = ((tget r.banks b {} : Image)).version ∧
      s'.lcy.stage = (if [4, 5, 6].all (linsert s.lcy.ended n).contains then 7 else 4) ∧ s'.lcy.ended = linsert s.lcy.ended n := by
  have hstage : (s0.imageRuns r b k).lcy.stage = 4 := (congrArg Lcy.stage h : s0.lcy.stage = _).trans (State.stage_of_due hs (.inl hn))
  have hended : (s0.imageRuns r b k).lcy.ended = s.lcy.ended := (congrArg Lcy.ended h : s0.lcy.ended = _)
  have hafter := State.sideDone_after (n := n) hstage hended
  refine ⟨?_, ?_, ?_, ?_, hafter⟩ <;> rw [State.sideDone_frame] <;> rfl

theorem stageFour {t : Nat} {r : StageResult} {s : State} (hd : s.stageDue r.stage = true) (hm : s.mbx.state ≠ .serving)
    (hr : r.stage = 4) :
    let stops (c : Nat) : Prop := ∃ s', exec (.bootStageComplete t r) s = .next s' ∧ s'.lcy.stage = 15 ∧ s'.lcy.fail = c ∧
      s'.mbx.state = .stopped ∧ s'.lcy.fuses = s.lcy.fuses
    let after (s' : State) : Prop := s'.lcy.stage = (if [4, 5, 6].all (linsert s.lcy.ended r.stage).contains then 7 else 4) ∧
      s'.lcy.ended = linsert s.lcy.ended r.stage
    let p := match tfind r.desc 0, tfind r.desc 1 with
      | some a, some b => if a.dserial < b.dserial then b.bank else a.bank
      | some a, none => a.bank
      | none, some b => b.bank
      | none, none => 0
    let img (b : Nat) : Image := tget r.banks b {}
    let usable := [0, 1, 2, 3].any s.fwUsable
    (r.flashOk = false → stops 4) ∧
    (r.flashOk = true → usable = false → stops 3) ∧
    (r.flashOk = true → usable = true → s.accepts (img p) = none → s.accepts (img (1 - p)) = none → stops 2) ∧
    (∀ k, r.flashOk = true → usable = true → s.accepts (img p) = some k → ∃ s', exec (.bootStageComplete t r) s = .next s' ∧
      s'.lcy.bank = p ∧ s'.lcy.fallback = false ∧ s'.lcy.slot = k ∧ s'.lcy.version = (img p).version ∧ after s') ∧
    (∀ k, r.flashOk = true → usable = true → s.accepts (img p) = none → s.accepts (img (1 - p)) = some k → p ≤ 1 → ∃ s',
      exec (.bootStageComplete t r) s = .next s' ∧ s'.lcy.bank = 1 - p ∧ s'.lcy.fallback = true ∧ s'.lcy.slot = k ∧ after s') := by
  intro stops after p img usable
  have hp : p = ((s.tick t).flashRead r).preferred := rfl
  have hu : usable = [0, 1, 2, 3].any (s.tick t).fwUsable := by rw [funext (s.tick_fwUsable t)]
  have hacc (b : Nat) : s.accepts (img b) = (s.tick t).accepts (tget r.banks b {}) := (s.tick_accepts t _).symm
  have hstops {c : Nat} (h : (s.tick t).stageFlash r = .error c) : stops c :=
    ⟨_, exec_stageFour_of_error hd hm hr h, State.bootStop_stops (s.tick_lcy t) c⟩
  have hruns {b k : Nat} (h : (s.tick t).stageFlash r = .ok ((s.tick t).imageRuns r b k)) : ∃ s',
      exec (.bootStageComplete t r) s = .next s' ∧ s'.lcy.bank = b ∧ s'.lcy.fallback = (b != p) ∧ s'.lcy.slot = k ∧
      s'.lcy.version = (img b).version ∧ after s' := by
    rw [hp]
    exact ⟨_, exec_stageFour_of_ok hd hm hr h, State.imageRuns_sideDone hd hr (s.tick_lcy t) b k⟩
  clear_value p usable
  subst hp hu
  refine ⟨fun h => hstops (State.stageFlash_of_dead h), fun h hn => hstops ?_, fun h hy h1 h2 => hstops ?_, fun k h hy h1 => ?_,
    fun k h hy h1 h2 hb => ?_⟩
  · rw [State.stageFlash_of_read h, if_neg (by simp [hn])]
  · rw [hacc] at h1 h2
    rw [State.stageFlash_of_read h, if_pos hy, h1, h2]
  · rw [hacc] at h1
    obtain ⟨s', hexec, hbank, hfall, hrest⟩ := hruns (by rw [State.stageFlash_of_read h, if_pos hy, h1])
    exact ⟨s', hexec, hbank, hfall.trans (bne_self_eq_false _), hrest⟩
  · rw [hacc] at h1 h2
    obtain ⟨s', hexec, hbank, hfall, hslot, -, hafter⟩ := hruns (by rw [State.stageFlash_of_read h, if_pos hy, h1, h2])
    refine ⟨s', hexec, hbank, hfall.trans ?_, hslot, hafter⟩
    simp only [bne_iff_ne]
    omega

/-! ### Stage 5: external memory (R399) -/

theorem stageFive {t : Nat} {r : StageResult} {s : State} (hd : s.stageDue r.stage = true) (hm : s.mbx.state ≠ .serving)
    (hr : r.stage = 5) (h : r.ddrOk = true) : ∃ s', exec (.bootStageComplete t r) s = .next s' ∧ s'.mem.extMib = r.extMib * 15 / 16 ∧
      (s'.lcy.stage = (if [4, 5, 6].all (linsert s.lcy.ended r.stage).contains then 7 else 4) ∧
        s'.lcy.ended = linsert s.lcy.ended r.stage) ∧ ∀ x ∈ s'.mem.bytes, x.1 < 0x100000000 := by
  have hexec : exec (.bootStageComplete t r) s = .next (((s.tick t).stageMemory r.extMib).sideDone r.stage) := by
    rw [exec_bootStageComplete_of_due t hd hm hr, State.endStage, if_pos h, hr]
  have hlcy : ((s.tick t).stageMemory r.extMib).lcy = s.lcy := s.tick_lcy t
  refine ⟨_, hexec, ?_, ?_, fun x hx => ?_⟩
  · rw [State.sideDone_frame]
    rfl
  · exact State.sideDone_after (by rw [hlcy, State.stage_of_due hd (by omega)]) (by rw [hlcy])
  · rw [State.sideDone_frame] at hx
    exact of_decide_eq_true (List.mem_filter.mp hx).2

/-! ### Stage 8: host service (R67, R475) -/

section
variable (s : State)

/-- The steward serves, before the PF's page is looked at. -/
def State.served (s : State) : State :=
  ((s.modMbx (fun m => { m with state := .serving })).modLcy (fun l =>
    { l with warm := false, warmByRestart := false, crs := l.crs && !s.ins.perstN })).releaseHeld

/-- The PF's page made ready if it is off. -/
def State.pfReady (s : State) : State := if (s.inst 0).phase = .off then s.enable 0 else s

/-- The steward serves, with the link up. -/
def State.linked (s : State) : State := { s.served with ins := { s.ins with linkUp := true } }

/-- A steward that restarted posts two notices on the PF's page. -/
def State.serviceNotices (s : State) (byRestart : Bool) : State :=
  if byRestart then (s.notice 0 (noticeWord 0x03 s.mbx.restarts)).notice 0 s.readyWord else s

theorem State.hostService_of_reset (h : s.ins.perstN = false) : s.hostService = s.served :=
  if_pos (c := (!s.ins.perstN) = true) (by simp [h])

theorem State.hostService_of_linked (h : s.ins.perstN = true) : s.hostService =
    (s.linked.pfReady.serviceNotices s.lcy.warmByRestart).take :=
  if_neg (c := (!s.ins.perstN) = true) (by simp [h])

/-- What the notices and the taking of a command leave of a served page. -/
structure State.Serves (s s' : State) : Prop where
  state : s'.mbx.state = s.mbx.state
  lcy : s'.lcy = s.lcy
  link : s'.ins.linkUp = s.ins.linkUp
  insts : s'.ins.insts = s.ins.insts
  ready : (s'.page 0).ready = (s.page 0).ready
  full : (s.page 0).s2hFull = true → (s'.page 0).s2hFull = true

variable {s}

theorem State.Serves.refl (s : State) : s.Serves s := ⟨rfl, rfl, rfl, rfl, rfl, id⟩

theorem State.Serves.trans {a b c : State} (h1 : a.Serves b) (h2 : b.Serves c) : a.Serves c :=
  ⟨h2.state.trans h1.state, h2.lcy.trans h1.lcy, h2.link.trans h1.link, h2.insts.trans h1.insts, h2.ready.trans h1.ready,
    fun h => h2.full (h1.full h)⟩

theorem State.notice_serves (s : State) (w : Word) : s.Serves (s.notice 0 w) where
  state := by rw [State.notice_frame]
  lcy := by rw [State.notice_frame]
  link := by rw [State.notice_frame]
  insts := by rw [State.notice_frame]
  ready := by rw [State.page_notice]
  full _ := by rw [State.page_notice]

theorem State.take_serves (s : State) : s.Serves s.take where
  state := by rw [State.take_frame]
  lcy := by rw [State.take_frame]
  link := by rw [State.take_frame]
  insts := by rw [State.take_frame]
  ready := by obtain h | ⟨-, h⟩ := s.page_take 0 <;> rw [h]
  full hf := by obtain h | ⟨-, h⟩ := s.page_take 0 <;> rw [h] <;> exact hf

theorem State.serviceNotices_serves (s : State) (b : Bool) : s.Serves (s.serviceNotices b) := by
  unfold State.serviceNotices
  split
  · exact (s.notice_serves _).trans (State.notice_serves _ _)
  · exact .refl s

theorem State.pfReady_frame (s : State) : s.pfReady = { s with
    ins := { s.ins with insts := s.pfReady.ins.insts, fns := s.pfReady.ins.fns }, mbx := s.pfReady.mbx } := by
  unfold State.pfReady
  split
  · rw [State.enable_frame]
  · rfl

theorem State.mbxState_pfReady (s : State) : s.pfReady.mbx.state = s.mbx.state := by
  unfold State.pfReady
  split
  · rw [State.enable_eq]
    split
    · rw [State.notice_frame, State.freshInst_frame]
    · rw [State.freshInst_frame]
  · rfl

end

theorem stageEight {t : Nat} {r : StageResult} {s : State} (hd : s.stageDue r.stage = true) (hm : s.mbx.state ≠ .serving)
    (hr : r.stage = 8) : ∃ s', exec (.bootStageComplete t r) s = .next s' ∧ s'.mbx.state = .serving ∧ s'.lcy.warm = false ∧
      (s.ins.perstN = true → s'.lcy.crs = false ∧ s'.ins.linkUp = true) ∧
      (s.ins.perstN = true → (s.inst 0).phase = .off → s'.enabled 0 = true ∧ (s'.page 0).ready = true ∧ (s'.page 0).s2hFull = true) ∧
      (s.ins.perstN = false → s'.ins = s.ins ∧ s'.lcy.crs = s.lcy.crs) := by
  refine ⟨_, exec_bootStageComplete_of_due t hd hm hr, ?_⟩
  have hins : (s.tick t).ins = s.ins := s.tick_ins t
  have hlcy : (s.tick t).lcy = s.lcy := s.tick_lcy t
  have hinst : (s.tick t).inst 0 = s.inst 0 := State.inst_of_ins hins 0
  rw [← hins, ← hinst, ← hlcy]
  generalize s.tick t = s0
  cases hp : s0.ins.perstN with
  | false =>
    rw [State.hostService_of_reset s0 hp]
    refine ⟨rfl, rfl, fun h => (nomatch h), fun h => (nomatch h), fun _ => ⟨rfl, ?_⟩⟩
    exact (congrArg (fun b => s0.lcy.crs && !b) hp).trans (Bool.and_true _)
  | true =>
    have hserves := (s0.linked.pfReady.serviceNotices_serves s0.lcy.warmByRestart).trans (State.take_serves _)
    rw [← State.hostService_of_linked s0 hp] at hserves
    have hframe := State.pfReady_frame s0.linked
    have hcrs : (s0.lcy.crs && !s0.ins.perstN) = false := by simp [hp]
    refine ⟨hserves.state.trans (State.mbxState_pfReady _), ?_, fun _ => ⟨?_, ?_⟩, fun _ hoff => ?_, fun h => (nomatch h)⟩
    · exact (congrArg Lcy.warm hserves.lcy).trans (congrArg (fun s : State => s.lcy.warm) hframe)
    · exact ((congrArg Lcy.crs hserves.lcy).trans (congrArg (fun s : State => s.lcy.crs) hframe)).trans hcrs
    · exact hserves.link.trans (congrArg (fun s : State => s.ins.linkUp) hframe)
    · have hready : s0.linked.pfReady = s0.linked.enable 0 := if_pos hoff
      rw [hready] at hserves
      have hpage := s0.linked.page_enable_of_serving 0 0 0 rfl
      refine ⟨?_, ?_, hserves.full (by rw [hpage])⟩
      · rw [State.enabled, State.inst, hserves.insts]
        exact beq_iff_eq.mpr (congrArg Inst.phase (State.inst_enable_same _ 0 0 0))
      · rw [hserves.ready, hpage]

end Sys2Proof.Machine
namespace Sys2Proof.Machine
open Sys2Proof.Say

/-! ### Stage 6: the die links (R368, 14 Start-up) -/

section
variable {s : State} {d good : Nat}

theorem DieLink.state_of_unaudited {l l' : DieLink} (h : l'.unaudited = l.unaudited) : l'.state = l.state := (congrArg DieLink.state h : _)

theorem DieLink.half_of_unaudited {l l' : DieLink} (h : l'.unaudited = l.unaudited) : l'.half = l.half := (congrArg DieLink.half h : _)

/-- What the training of die d leaves of the boot and of the other dies. -/
structure State.OtherDies (d : Nat) (s s' : State) : Prop where
  lcy : s'.lcy = s.lcy
  link : ∀ k, k ≠ d → (s'.link k).unaudited = (s.link k).unaudited
  island : ∀ k, k / 24 ≠ d → s'.island k = s.island k

theorem State.OtherDies.trans {a b c : State} (h1 : a.OtherDies d b) (h2 : b.OtherDies d c) : a.OtherDies d c :=
  ⟨h2.lcy.trans h1.lcy, fun k h => (h2.link k h).trans (h1.link k h), fun k h => (h2.island k h).trans (h1.island k h)⟩

theorem State.OtherDies.of_links {s' : State} (h : s'.HasLinks s.linkCore) : s.OtherDies d s' where
  lcy := congrArg LinkCore.lcy h
  link k _ := congrFun (congrArg LinkCore.link h) k
  island k _ := by rw [State.island, State.island, show s'.isl.islands = s.isl.islands from congrArg LinkCore.islands h]

theorem State.OtherDies.of_modLink (f : DieLink → DieLink) : s.OtherDies d (s.modLink d f) :=
  ⟨rfl, fun _ h => by rw [State.link_modLink_ne s f h], fun _ _ => rfl⟩

theorem State.OtherDies.raiseDev {s' : State} (h : s.OtherDies d s') {code source data : Nat} :
    s.OtherDies d (s'.raiseDev code source data) := h.trans (.of_links (State.HasLinks.raiseDev rfl))

theorem State.OtherDies.raiseIf {p : Prop} {_ : Decidable p} {x : State} (hx : s.OtherDies d x) {code source data : Nat} :
    s.OtherDies d (if p then x.raiseDev code source data else x) := by
  split
  · exact hx.raiseDev
  · exact hx

theorem State.linkFail_otherDies : s.OtherDies d (s.linkFail d) := by
  unfold State.linkFail
  split
  · exact ⟨rfl, fun _ _ => rfl, fun _ _ => rfl⟩
  · exact (State.OtherDies.of_modLink _).trans
      (.of_links (State.HasLinks.quarantineAll (State.HasLinks.modSea (State.HasLinks.raiseDev rfl))))

theorem State.linkTrained_otherDies : s.OtherDies d (s.linkTrained d good) := by
  unfold State.linkTrained
  dsimp only
  split
  · exact State.linkFail_otherDies
  · have hup (f : DieLink → DieLink) (x : List Nat) : s.OtherDies d
        { s.free.2.free.2.modLink d f with isl := { (s.free.2.free.2.modLink d f).isl with dieLimit := x } } :=
      ⟨rfl, (State.OtherDies.of_modLink (s := s) f).link, fun _ _ => rfl⟩
    exact (hup _ _).raiseIf.raiseIf

/-- A link that trains on fewer than 8 lanes is FAILED (R368). -/
theorem State.linkTrained_failed (h : good < 8) : ((s.linkTrained d good).link d).state = .failed := by
  rw [State.linkTrained, if_pos h]
  by_cases hf : (s.link d).state = .failed
  · rw [State.linkFail, if_pos (by simp [hf]), hf]
  · exact (s.linkFail_effect hf).1

end

/-! Islands changed one by one leave the boot, the links and the other islands -/

section
variable (f : Nat → Island → Island) (l : List Nat) (s : State)

theorem State.lcy_foldl_modIsland : (l.foldl (fun s n => s.modIsland n (f n)) s).lcy = s.lcy := by
  rw [State.foldl_modIsland_frame]

theorem State.link_foldl_modIsland (k : Nat) : (l.foldl (fun s n => s.modIsland n (f n)) s).link k = s.link k := by
  rw [State.foldl_modIsland_frame]
  rfl

theorem State.foldl_leaveReset : l.foldl State.leaveReset s = l.foldl (fun s n => s.modIsland n (Island.left n)) s := rfl

end

/-- The islands of a die. -/
def dieIslands (d : Nat) : List Nat := (List.range 24).map (fun i => 24 * d + i)

theorem mem_dieIslands {d k : Nat} : k ∈ dieIslands d ↔ k / 24 = d := by
  simp only [dieIslands, List.mem_map, List.mem_range]
  exact ⟨fun ⟨i, hi, h⟩ => by omega, fun h => ⟨k % 24, by omega, by omega⟩⟩

theorem State.foldl_modIsland_otherDies {f : Nat → Island → Island} (hf : ∀ n i, f n (f n i) = f n i) (s : State) (d : Nat) :
    s.OtherDies d ((dieIslands d).foldl (fun s n => s.modIsland n (f n)) s) where
  lcy := State.lcy_foldl_modIsland f _ s
  link k _ := by rw [State.link_foldl_modIsland]
  island k hk := by rw [State.island_foldl_modIsland hf, if_neg (fun h => hk (mem_dieIslands.mp h))]

/-- An island of a die that is not there. -/
def Island.gone (_n : Nat) (i : Island) : Island := { i with state := .absent }

/-- Die d as its training on `good` lanes leaves it. -/
def State.DieTrained (s : State) (d good : Nat) : Prop :=
  (16 ≤ good → (s.link d).state = .up ∧ (s.link d).half = false) ∧
  (8 ≤ good → good < 16 → (s.link d).state = .up ∧ (s.link d).half = true) ∧
  (good < 8 → (s.link d).state = .failed ∧ ∀ i, i < 24 → (s.island (24 * d + i)).state = .absent)

theorem State.DieTrained.of_otherDies {s s' : State} {d k good : Nat} (h : s.DieTrained d good) (hs : s.OtherDies k s') (hk : d ≠ k) :
    s'.DieTrained d good := by
  have hlink := hs.link d hk
  have hisland (i : Nat) (hi : i < 24) : s'.island (24 * d + i) = s.island (24 * d + i) := hs.island _ (by omega)
  obtain ⟨hfull, hhalf, hfail⟩ := h
  rw [← DieLink.state_of_unaudited hlink, ← DieLink.half_of_unaudited hlink] at hfull hhalf
  rw [← DieLink.state_of_unaudited hlink] at hfail
  exact ⟨hfull, hhalf, fun h => ⟨(hfail h).1, fun i hi => by rw [hisland i hi]; exact (hfail h).2 i hi⟩⟩

theorem State.stageDie_of_up {s : State} {good d : Nat} (h : 8 ≤ good) : s.stageDie good d =
    ((dieIslands d).foldl (fun s n => s.modIsland n (Island.left n)) (s.linkTrained d good)).recordTest 3 d .pass 0 := by
  rw [← State.foldl_leaveReset]
  exact if_pos (beq_iff_eq.mpr (s.linkTrained_up h).1)

theorem State.stageDie_of_failed {s : State} {good d : Nat} (h : good < 8) : s.stageDie good d =
    (dieIslands d).foldl (fun s n => s.modIsland n (Island.gone n)) (s.linkTrained d good) :=
  if_neg (by rw [State.linkTrained_failed h]; decide)

theorem State.stageDie_otherDies (s : State) (good d : Nat) : s.OtherDies d (s.stageDie good d) := by
  by_cases h : 8 ≤ good
  · have hislands := State.foldl_modIsland_otherDies (f := Island.left) (fun _ _ => rfl) (s.linkTrained d good) d
    rw [State.stageDie_of_up h]
    generalize (dieIslands d).foldl (fun s n => s.modIsland n (Island.left n)) (s.linkTrained d good) = s1 at hislands
    exact State.linkTrained_otherDies.trans (hislands.trans ⟨rfl, fun _ _ => rfl, fun _ _ => rfl⟩)
  · rw [State.stageDie_of_failed (Nat.lt_of_not_le h)]
    exact State.linkTrained_otherDies.trans (State.foldl_modIsland_otherDies (f := Island.gone) (fun _ _ => rfl) _ d)

theorem State.stageDie_trained (s : State) (good d : Nat) : (s.stageDie good d).DieTrained d good := by
  by_cases h : 8 ≤ good
  · have hlink : (s.stageDie good d).link d = (s.linkTrained d good).link d := by
      have hfold := State.link_foldl_modIsland Island.left (dieIslands d) (s.linkTrained d good) d
      rw [State.stageDie_of_up h]
      generalize (dieIslands d).foldl (fun s n => s.modIsland n (Island.left n)) (s.linkTrained d good) = s1 at hfold
      exact hfold
    obtain ⟨hup, hhalf⟩ := s.linkTrained_up (d := d) h
    rw [State.DieTrained, hlink, hup, hhalf]
    exact ⟨fun h => ⟨rfl, by simpa using h⟩, fun _ h => ⟨rfl, by simpa using h⟩, fun h' => by omega⟩
  · rw [State.stageDie_of_failed (Nat.lt_of_not_le h)]
    refine ⟨fun h' => by omega, fun h' => (h h').elim, fun h => ⟨?_, fun i hi => ?_⟩⟩
    · rw [State.link_foldl_modIsland]
      exact State.linkTrained_failed h
    · rw [State.island_foldl_modIsland (f := Island.gone) (fun _ _ => rfl), if_pos (mem_dieIslands.mpr (by omega))]
      rfl

theorem State.stageLinks_lcy (s : State) (links : Tbl Nat) : (s.stageLinks links).lcy = s.lcy :=
  foldl_rel (fun a b : State => b.lcy = a.lcy) (fun _ => rfl) (fun _ _ _ h1 h2 => h2.trans h1) _
    (fun s d => (s.stageDie_otherDies _ d).lcy) _ s

theorem State.stageLinks_trained (s : State) (links : Tbl Nat) {d : Nat} (h : d < s.lcy.dies) :
    (s.stageLinks links).DieTrained d (tget links d 18) :=
  foldl_reaches (fun s d => s.DieTrained d (tget links d 18)) (fun s d => s.stageDie (tget links d 18) d)
    (fun s d => s.stageDie_trained _ d)
    (fun s k d hd => by
      by_cases hk : d = k
      · subst hk
        exact s.stageDie_trained _ d
      · exact hd.of_otherDies (s.stageDie_otherDies _ k) hk) _ s d (List.mem_range.mpr h)

theorem stageSix {t : Nat} {r : StageResult} {s : State} (hd : s.stageDue r.stage = true) (hm : s.mbx.state ≠ .serving)
    (hr : r.stage = 6) : ∃ s', exec (.bootStageComplete t r) s = .next s' ∧
      (s'.lcy.stage = (if [4, 5, 6].all (linsert s.lcy.ended r.stage).contains then 7 else 4) ∧
        s'.lcy.ended = linsert s.lcy.ended r.stage) ∧ ∀ d, d < s.lcy.dies → s'.DieTrained d (tget r.links d 18) := by
  have hexec : exec (.bootStageComplete t r) s = .next (((s.tick t).stageLinks r.links).sideDone r.stage) := by
    rw [exec_bootStageComplete_of_due t hd hm hr, State.endStage, hr]
  have hlcy : ((s.tick t).stageLinks r.links).lcy = s.lcy := (State.stageLinks_lcy _ _).trans (s.tick_lcy t)
  refine ⟨_, hexec, State.sideDone_after (by rw [hlcy, State.stage_of_due hd (by omega)]) (by rw [hlcy]), fun d h => ?_⟩
  rw [State.sideDone_frame]
  exact State.stageLinks_trained _ _ (by rwa [State.tick_lcy])

end Sys2Proof.Machine
namespace Sys2Proof.Machine
open Sys2Proof.Say

/-! ### The cells that refills and quarantines leave (R191, R192, R205) -/

/-- A cell that is in service, in its caste or on its way to one. -/
def Cell.Fit (c : Cell) : Prop := c.state = .available ∨ c.state = .moving

/-- A cell that a refill leaves alone, or moves. -/
def Cell.Moves (c c' : Cell) : Prop := c' = c ∨ (c.state = .available ∧ c'.state = .moving)

theorem Cell.Moves.trans {a b c : Cell} (h1 : a.Moves b) (h2 : b.Moves c) : a.Moves c := by
  obtain rfl | ⟨ha, hb⟩ := h1
  · exact h2
  · obtain rfl | ⟨hb', -⟩ := h2
    · exact .inr ⟨ha, hb⟩
    · rw [hb] at hb'
      cases hb'

theorem Cell.Moves.fit {a b : Cell} (h : a.Moves b) (ha : a.Fit) : b.Fit := by
  obtain rfl | ⟨-, hb⟩ := h
  · exact ha
  · exact .inr hb

theorem Cell.Moves.quarantined {a b : Cell} (h : a.Moves b) (ha : a.state = .quarantined) : b.state = .quarantined := by
  obtain rfl | ⟨hb, -⟩ := h
  · exact ha
  · rw [hb] at ha
    cases ha

/-- What a refill changes: cells that move, and the events it raises. -/
structure State.Refills (s s' : State) : Prop where
  frame : s' = { s with sea := s'.sea, evt := s'.evt, out := s'.out }
  rising : twf s'.sea.cells = true
  moves : ∀ k, (s.cell k).Moves (s'.cell k)

section
variable {s : State}

theorem State.Refills.refl (hwf : twf s.sea.cells = true) : s.Refills s := ⟨rfl, hwf, fun _ => .inl rfl⟩

theorem State.Refills.trans {a b c : State} (h1 : a.Refills b) (h2 : b.Refills c) : a.Refills c :=
  ⟨by rw [h2.frame, h1.frame], h2.rising, fun k => (h1.moves k).trans (h2.moves k)⟩

/-- Cells AVAILABLE when the list was made move one by one. -/
theorem State.foldl_moves {α : Type} (f : State → α → State) (P : α → State → Prop)
    (hf : ∀ (s1 : State) x, s.Refills s1 → P x s → s.Refills (f s1 x)) (l : List α) (hl : ∀ x ∈ l, P x s) {s1 : State} (h : s.Refills s1) :
    s.Refills (l.foldl f s1) := by
  induction l generalizing s1 with
  | nil => exact h
  | cons x r ih => exact ih (fun y hy => hl y (List.mem_cons_of_mem _ hy)) (hf s1 x h (hl x List.mem_cons_self))

/-- A cell AVAILABLE before the refill moves. -/
theorem State.Refills.moveTo {s1 : State} (h : s.Refills s1) {n : Nat} (hn : (s.cell n).state = .available) (c : Caste) :
    s.Refills (s1.moveTo n c) := by
  rw [State.moveTo_frame]
  refine ⟨?_, twf_tset _ _ _ h.rising, fun k => ?_⟩
  · rw [h.frame]
    rfl
  · by_cases hk : k = n
    · subst hk
      rw [State.cell_modCell_same]
      exact .inr ⟨hn, rfl⟩
    · rw [State.cell_modCell_ne _ _ hk]
      exact h.moves k

theorem State.moveEach_refills (hwf : twf s.sea.cells = true) (c : Caste) (l : List Nat) (h : ∀ n ∈ l, (s.cell n).state = .available) :
    s.Refills (l.foldl (fun s n => s.moveTo n c) s) :=
  State.foldl_moves _ (fun n s => (s.cell n).state = .available) (fun _ _ h hn => h.moveTo hn c) l h (.refl hwf)

theorem State.movePairs_refills (hwf : twf s.sea.cells = true) (c : Caste) (l : List Nat)
    (h : ∀ n ∈ l, (s.cell n).state = .available ∧ (s.cell (n + 1)).state = .available) :
    s.Refills (l.foldl (fun s n => (s.moveTo n c).moveTo (n + 1) c) s) :=
  State.foldl_moves _ (fun n s => (s.cell n).state = .available ∧ (s.cell (n + 1)).state = .available)
    (fun _ _ h hn => (h.moveTo hn.1 c).moveTo hn.2 c) l h (.refl hwf)

theorem State.fill_refills (hwf : twf s.sea.cells = true) (c : Caste) (need : Nat) : s.Refills (s.fill c need).2 := by
  unfold State.fill
  split
  · exact .refl hwf
  · split
    · have hone := State.moveEach_refills hwf .audio (s.spareCells.take need)
        fun n hn => (State.lowest_available hwf (List.mem_of_mem_take hn)).1
      refine hone.trans (State.movePairs_refills hone.rising .audio _ fun n hn => ?_)
      obtain ⟨hstate, -, hmate⟩ := State.lowest_available hone.rising (List.mem_of_mem_take hn)
      simp only [Bool.and_eq_true, beq_iff_eq] at hmate
      exact ⟨hstate, hmate.1.2⟩
    · exact State.moveEach_refills hwf c _ fun n hn => (State.lowest_available hwf (List.mem_of_mem_take hn)).1

theorem State.Refills.modSea {s' : State} (h : s.Refills s') (f : Sea → Sea) (hf : (f s'.sea).cells = s'.sea.cells) :
    s.Refills (s'.modSea f) :=
  ⟨h.frame ▸ rfl, (congrArg (fun t => twf t = true) hf).mpr h.rising, fun k => by
    rw [State.cell_of_cells (s := s') (s' := s'.modSea f) hf]
    exact h.moves k⟩

theorem State.Refills.raiseDev {s' : State} (h : s.Refills s') (code src data : Nat) : s.Refills (s'.raiseDev code src data) := by
  refine ⟨?_, ?_, fun k => ?_⟩
  · rw [State.raiseDev_frame, h.frame]
  · rw [State.raiseDev_frame]
    exact h.rising
  · rw [State.raiseDev_frame]
    exact h.moves k

theorem State.refillOne_refills (hwf : twf s.sea.cells = true) (c : Caste) : s.Refills (s.refillOne c) := by
  have hfill := State.fill_refills hwf c (s.cfg.casteMin (casteNum c) - s.casteSize c)
  unfold State.refillOne
  split
  · exact .refl hwf
  · dsimp only
    split
    · exact hfill.modSea _ rfl
    · split
      · exact hfill
      · exact (hfill.modSea _ rfl).raiseDev _ _ _

theorem State.refillAll_refills (l : List Caste) {s1 : State} (h : s.Refills s1) : s.Refills (l.foldl State.refillOne s1) := by
  induction l generalizing s1 with
  | nil => exact h
  | cons c l ih => exact ih (h.trans (State.refillOne_refills h.rising c))

theorem State.refillShort_refills (hwf : twf s.sea.cells = true) : s.Refills s.refillShort :=
  State.refillAll_refills _ (State.moveEach_refills hwf .audio s.spareCells fun _ hn => (State.lowest_available hwf hn).1)

/-! ### Quarantines one after the other -/

/-- What quarantines change: the cells, and the events they raise. -/
structure State.Culls (l : List Nat) (s s' : State) : Prop where
  frame : s' = { s with sea := s'.sea, evt := s'.evt, out := s'.out }
  rising : twf s'.sea.cells = true
  culled : ∀ k ∈ l, (s'.cell k).state = .quarantined
  others : ∀ k, k ∉ l → (s.cell k).Moves (s'.cell k)

theorem State.quarantine_culls (hwf : twf s.sea.cells = true) (n : Nat) : State.Culls [n] s (s.quarantine n) := by
  have hrefill : (s.modCell n (Cell.quarantined s.sec32)).Refills (s.quarantine n) := by
    rw [State.quarantine_eq]
    have hbefore := ((State.Refills.refl (twf_tset _ _ _ hwf)).raiseDev 0x0605 srcDrover n : (s.modCell n (Cell.quarantined s.sec32)).Refills _)
    exact hbefore.trans (State.refillOne_refills hbefore.rising _)
  refine ⟨?_, hrefill.rising, fun k hk => ?_, fun k hk => ?_⟩
  · rw [hrefill.frame]
    rfl
  · rw [List.mem_singleton.mp hk]
    exact (s.quarantine_effect hwf n).1
  · have hne : k ≠ n := fun h => hk (List.mem_singleton.mpr h)
    have hmoves := hrefill.moves k
    rwa [s.cell_modCell_ne _ hne] at hmoves

theorem State.quarantines_culls (hwf : twf s.sea.cells = true) (l : List Nat) : State.Culls l s (l.foldl State.quarantine s) := by
  induction l generalizing s with
  | nil => exact ⟨rfl, hwf, fun _ h => (nomatch h), fun _ _ => .inl rfl⟩
  | cons n l ih =>
    have hone := State.quarantine_culls hwf n
    have hrest := ih hone.rising
    refine ⟨by rw [List.foldl_cons, hrest.frame, hone.frame], hrest.rising, fun k hk => ?_, fun k hk => ?_⟩
    · by_cases hl : k ∈ l
      · exact hrest.culled k hl
      · have hkn : k = n := (List.mem_cons.mp hk).resolve_right hl
        exact (hrest.others k hl).quarantined (hone.culled k (List.mem_singleton.mpr hkn))
    · rw [List.mem_cons, not_or] at hk
      exact (hone.others k (fun h => hk.1 (List.mem_singleton.mp h))).trans (hrest.others k hk.2)

end

end Sys2Proof.Machine
namespace Sys2Proof.Machine
open Sys2Proof.Say

/-! ### Stage 7 of a cold boot (R215, R443) -/

section
variable {s : State}

/-- Steps that change nothing but the object table. -/
theorem State.foldl_objs_frame {f : State → Nat → State} (hf : ∀ s n, f s n = { s with cap := { s.cap with objs := (f s n).cap.objs } })
    (l : List Nat) (s : State) : l.foldl f s = { s with cap := { s.cap with objs := (l.foldl f s).cap.objs } } :=
  foldl_rel (fun a b : State => b = { a with cap := { a.cap with objs := b.cap.objs } }) (fun _ => rfl)
    (fun a b c h1 h2 => by rw [h2, h1]) f hf l s

theorem State.mintLanes_frame (s : State) : s.mintLanes = { s with cap := { s.cap with objs := s.mintLanes.cap.objs } } := by
  unfold State.mintLanes
  refine State.foldl_objs_frame (fun s n => ?_) _ s
  split
  · rename_i heq
    obtain ⟨-, -, rfl⟩ := s.mint_eq_some heq
    rfl
  · rfl

theorem State.measureAll_frame (s : State) : s.measureAll =
    { s with sea := { s.sea with latency := s.measureAll.sea.latency }, freeCtr := s.measureAll.freeCtr } :=
  foldl_rel (fun a b : State => b = { a with sea := { a.sea with latency := b.sea.latency }, freeCtr := b.freeCtr }) (fun _ => rfl)
    (fun a b c h1 h2 => by rw [h2, h1]) _ (fun _ _ => rfl) _ s

/-- A cell answers at start-up; its check is its first test unless it failed it. -/
def State.startCell (bad : List Nat) (s : State) (n : Nat) : State :=
  if bad.contains n then s.modCell n (fun c => { c with state := .available })
  else (s.modCell n (fun c => { c with state := .available, changed := s.sec32 })).recordTest 0 n .pass 0

theorem State.cell_startCell_same (bad : List Nat) (n : Nat) : ((s.startCell bad n).cell n).state = .available := by
  unfold State.startCell
  split
  · rw [State.cell_modCell_same]
  · exact congrArg Cell.state (s.cell_modCell_same n _)

theorem State.cell_startCell_ne (bad : List Nat) {n k : Nat} (h : k ≠ n) : (s.startCell bad n).cell k = s.cell k := by
  unfold State.startCell
  split
  · exact s.cell_modCell_ne _ h
  · exact s.cell_modCell_ne _ h

/-- The cells that answer, all AVAILABLE, before the bad ones are quarantined. -/
def State.cellsUp (s : State) (bad ns : List Nat) : State := ns.foldl (State.startCell bad) s

theorem State.cellsUp_frame (bad ns : List Nat) (s : State) : s.cellsUp bad ns =
    { s with sea := (s.cellsUp bad ns).sea, test := (s.cellsUp bad ns).test } :=
  foldl_rel (fun a b : State => b = { a with sea := b.sea, test := b.test }) (fun _ => rfl) (fun a b c h1 h2 => by rw [h2, h1]) _
    (fun s n => by unfold State.startCell; split <;> rfl) ns s

theorem State.cellsUp_rising (bad ns : List Nat) (hwf : twf s.sea.cells = true) : twf (s.cellsUp bad ns).sea.cells = true :=
  foldl_rel (fun a b : State => twf a.sea.cells = true → twf b.sea.cells = true) (fun _ => id) (fun _ _ _ h1 h2 h => h2 (h1 h)) _
    (fun s n h => by unfold State.startCell; split <;> exact twf_tset _ _ _ h) ns s hwf

theorem State.cellsUp_available (bad ns : List Nat) {n : Nat} (h : n ∈ ns) : ((s.cellsUp bad ns).cell n).state = .available :=
  foldl_reaches (fun (s : State) n => (s.cell n).state = .available) (State.startCell bad) (fun _ n => State.cell_startCell_same bad n)
    (fun s k n hn => by
      by_cases hk : n = k
      · subst hk
        exact State.cell_startCell_same bad n
      · rwa [State.cell_startCell_ne bad hk]) ns s n h

/-- The cells of the dies whose links are up. -/
def State.answering (s : State) : List Nat := (List.range (192 * s.lcy.dies)).filter (fun n => (s.link (n / 192)).state == .up)

theorem State.startCells_culls (hwf : twf s.sea.cells = true) (bad : List Nat) :
    State.Culls (s.answering.filter bad.contains) (s.cellsUp bad s.answering) (s.startCells bad) :=
  State.quarantines_culls (State.cellsUp_rising bad _ hwf) _

/-- Each cell that answers, once those that failed their check are quarantined. -/
theorem State.startCells_cell (hwf : twf s.sea.cells = true) (bad : List Nat) {n : Nat} (h : n ∈ s.answering) :
    (n ∈ bad → ((s.startCells bad).cell n).state = .quarantined) ∧ (n ∉ bad → ((s.startCells bad).cell n).Fit) := by
  have hculls := State.startCells_culls hwf bad
  refine ⟨fun hb => hculls.culled n (by simp [h, hb]), fun hb => (hculls.others n (by simp [hb])).fit (.inl ?_)⟩
  exact State.cellsUp_available bad _ h

/-- A cell on its way to a caste arrives (R215). -/
def Cell.arrived (c : Cell) : Cell := if c.state = .moving then { c with state := .available, caste := c.next, next := .reserve } else c

theorem Cell.Fit.arrived {c : Cell} (h : c.Fit) : c.arrived.state = .available := by
  unfold Cell.arrived
  split
  · rfl
  · rename_i hm
    exact h.resolve_right hm

theorem Cell.arrived_of_quarantined {c : Cell} (h : c.state = .quarantined) : c.arrived.state = .quarantined := by
  unfold Cell.arrived
  rw [if_neg (by simp [h]), h]

/-- The castes filled, before the cells arrive. -/
def State.castesFilled (s : State) : State := [Caste.validator, .ledger, .audio, .sentinel, .cipher].foldl State.refillOne s

theorem State.startCastes_eq :
    s.startCastes = s.castesFilled.modSea (fun a => { a with cells := tmap a.cells (fun _ => Cell.arrived) }) := rfl

theorem State.cell_startCastes (n : Nat) : s.startCastes.cell n = (s.castesFilled.cell n).arrived := by
  rw [State.startCastes_eq]
  generalize s.castesFilled = filled
  exact tget_tmap filled.sea.cells (fun _ => Cell.arrived) n rfl

theorem State.castesFilled_refills (hwf : twf s.sea.cells = true) : s.Refills s.castesFilled := State.refillAll_refills _ (.refl hwf)

/-- Each cell that answers, once the castes are filled. -/
theorem State.startCastes_cell (hwf : twf s.sea.cells = true) (bad : List Nat) {n : Nat} (h : n ∈ s.answering) :
    (n ∈ bad → ((s.startCells bad).startCastes.cell n).state = .quarantined) ∧
      (n ∉ bad → ((s.startCells bad).startCastes.cell n).state = .available) := by
  obtain ⟨hbad, hgood⟩ := State.startCells_cell hwf bad h
  have hmoves := (State.castesFilled_refills (State.startCells_culls hwf bad).rising).moves n
  rw [State.cell_startCastes]
  exact ⟨fun hb => Cell.arrived_of_quarantined (hmoves.quarantined (hbad hb)), fun hb => (hmoves.fit (hgood hb)).arrived⟩

/-! Neither the cells' start nor the measurement touches the gates or the MPU regions -/

theorem State.Refills.cap_mem {s' : State} (h : s.Refills s') : s'.cap = s.cap ∧ s'.mem = s.mem := by
  rw [h.frame]
  exact ⟨rfl, rfl⟩

theorem State.Culls.cap_mem {l : List Nat} {s' : State} (h : State.Culls l s s') : s'.cap = s.cap ∧ s'.mem = s.mem := by
  rw [h.frame]
  exact ⟨rfl, rfl⟩

theorem State.cellsUp_cap_mem (s : State) (bad ns : List Nat) : (s.cellsUp bad ns).cap = s.cap ∧ (s.cellsUp bad ns).mem = s.mem := by
  rw [State.cellsUp_frame]
  exact ⟨rfl, rfl⟩

theorem State.startCastes_cap_mem (hwf : twf s.sea.cells = true) : s.startCastes.cap = s.cap ∧ s.startCastes.mem = s.mem := by
  have hfilled := (State.castesFilled_refills hwf).cap_mem
  rw [State.startCastes_eq]
  generalize s.castesFilled = filled at hfilled
  exact hfilled

theorem State.measureAll_keeps (s : State) : s.measureAll.cap = s.cap ∧ s.measureAll.mem = s.mem ∧ s.measureAll.sea.cells = s.sea.cells := by
  rw [State.measureAll_frame]
  exact ⟨rfl, rfl, rfl⟩

theorem State.cellsStarted_cap_mem (hwf : twf s.sea.cells = true) (bad : List Nat) :
    (s.startCells bad).startCastes.measureAll.cap = s.cap ∧ (s.startCells bad).startCastes.measureAll.mem = s.mem := by
  have hculls := State.startCells_culls hwf bad
  obtain ⟨hcap1, hmem1⟩ := s.cellsUp_cap_mem bad s.answering
  obtain ⟨hcap2, hmem2⟩ := hculls.cap_mem
  obtain ⟨hcap3, hmem3⟩ := State.startCastes_cap_mem hculls.rising
  obtain ⟨hcap4, hmem4, -⟩ := (s.startCells bad).startCastes.measureAll_keeps
  exact ⟨hcap4.trans (hcap3.trans (hcap2.trans hcap1)), hmem4.trans (hmem3.trans (hmem2.trans hmem1))⟩

/-- The call gates and the firmware's MPU regions of the image, set. -/
def State.imageSet (s : State) (r : StageResult) : State :=
  let fw := (r.regions.filter (fun p => decide (24 ≤ p.1 % 32) && decide (p.1 < 192))).foldl (fun t p => tset t p.1 p.2) []
  { s with mem := { s.mem with fwRegions := tset fw 95 hdmaRegion }, cap := { s.cap with gates := r.gates } }

theorem State.stageFrenal_eq (r : StageResult) :
    s.stageFrenal r = ((s.imageSet r).mintLanes.startCells r.badCells).startCastes.measureAll := rfl

/-- What a cold stage 7 leaves of the gates, HDMA's region and the cells. -/
theorem State.stageFrenal_leaves (hwf : twf s.sea.cells = true) (r : StageResult) : (s.stageFrenal r).cap.gates = r.gates ∧
    tfind (s.stageFrenal r).mem.fwRegions 95 = some hdmaRegion ∧ ∀ n, n < 192 * s.lcy.dies → (s.link (n / 192)).state = .up →
      (n ∈ r.badCells → ((s.stageFrenal r).cell n).state = .quarantined) ∧
      (n ∉ r.badCells → ((s.stageFrenal r).cell n).state = .available) := by
  have hmint := (s.imageSet r).mintLanes_frame
  rw [State.stageFrenal_eq]
  generalize (s.imageSet r).mintLanes = minted at hmint ⊢
  have hgates : minted.cap.gates = r.gates := by rw [hmint]; rfl
  have hregion : tfind minted.mem.fwRegions 95 = some hdmaRegion := by
    rw [hmint]
    exact tfind_tset_same _ _ _
  have hwf1 : twf minted.sea.cells = true := by rw [hmint]; exact hwf
  have hans : minted.answering = s.answering := by rw [hmint]; rfl
  obtain ⟨hcap, hmem⟩ := State.cellsStarted_cap_mem hwf1 r.badCells
  refine ⟨by rw [hcap, hgates], by rw [hmem, hregion], fun n hn hup => ?_⟩
  rw [State.cell_of_cells (State.measureAll_keeps _).2.2]
  refine State.startCastes_cell hwf1 r.badCells ?_
  rw [hans]
  simp [State.answering, hn, hup]

end

theorem stageSevenCold {t : Nat} {r : StageResult} {s : State} (hwf : twf s.sea.cells = true) (hd : s.stageDue r.stage = true)
    (hm : s.mbx.state ≠ .serving) (hr : r.stage = 7) (hw : s.lcy.warm = false) : ∃ s', exec (.bootStageComplete t r) s = .next s' ∧
      s'.lcy.stage = 8 ∧ s'.cap.gates = r.gates ∧ tfind s'.mem.fwRegions 95 = some hdmaRegion ∧
      ∀ n, n < 192 * s.lcy.dies → (s.link (n / 192)).state = .up →
        (n ∈ r.badCells → (s'.cell n).state = .quarantined) ∧ (n ∉ r.badCells → (s'.cell n).state = .available) := by
  have hexec : exec (.bootStageComplete t r) s = .next (((s.tick t).stageFrenal r).toStage 8) := by
    rw [exec_bootStageComplete_of_due t hd hm hr, State.endStage, State.tick_lcy, if_neg (by simp [hw])]
  have hleaves := State.stageFrenal_leaves (s := s.tick t) (by rwa [State.tick_sea]) r
  rw [State.tick_lcy] at hleaves
  simp only [State.link_of_isl (s.tick_isl t)] at hleaves
  generalize (s.tick t).stageFrenal r = s1 at hexec hleaves
  obtain ⟨hgates, hregion, hcells⟩ := hleaves
  exact ⟨_, hexec, rfl, hgates, hregion, hcells⟩

end Sys2Proof.Machine
namespace Sys2Proof.Machine
open Sys2Proof.Say

/-! ### Stage 7 of a warm reset (R215, R477) -/

section
variable {s : State}

/-- A cell back in the caste it had. -/
def State.cellReturns (s : State) (n : Nat) : State :=
  (s.setCell n .available).modCell n (fun c => { c with caste := c.lentCaste, lentCaste := .reserve })

theorem State.cell_cellReturns_same (s : State) (n : Nat) : ((s.cellReturns n).cell n).state = .available := by
  simp [State.cellReturns, State.setCell]

theorem State.cell_cellReturns_ne (s : State) {n k : Nat} (h : k ≠ n) : (s.cellReturns n).cell k = s.cell k := by
  rw [State.cellReturns, State.cell_modCell_ne _ _ h, State.setCell, State.cell_modCell_ne _ _ h]

theorem State.cellsReturn_rising (l : List Nat) (hwf : twf s.sea.cells = true) : twf (l.foldl State.cellReturns s).sea.cells = true :=
  foldl_rel (fun a b : State => twf a.sea.cells = true → twf b.sea.cells = true) (fun _ => id) (fun _ _ _ h1 h2 h => h2 (h1 h)) _
    (fun _ _ h => twf_tset _ _ _ (twf_tset _ _ _ h)) l s hwf

theorem State.cellsReturn_available {l : List Nat} {n : Nat} (h : n ∈ l) : ((l.foldl State.cellReturns s).cell n).state = .available :=
  foldl_reaches (fun (s : State) n => (s.cell n).state = .available) State.cellReturns (fun s n => s.cell_cellReturns_same n)
    (fun s k n hn => by
      by_cases hk : n = k
      · subst hk
        exact s.cell_cellReturns_same n
      · rwa [s.cell_cellReturns_ne hk]) l s n h

/-- Cells come back, and those that failed their check are quarantined. -/
def State.cellsBack (s : State) (back bad : List Nat) : State :=
  (back.filter bad.contains).foldl State.quarantine (back.foldl State.cellReturns s)

theorem State.cellsBack_culls (hwf : twf s.sea.cells = true) (back bad : List Nat) :
    State.Culls (back.filter bad.contains) (back.foldl State.cellReturns s) (s.cellsBack back bad) :=
  State.quarantines_culls (State.cellsReturn_rising back hwf) _

theorem State.cellsBack_cell (hwf : twf s.sea.cells = true) {back : List Nat} (bad : List Nat) {n : Nat} (h : n ∈ back) :
    (n ∈ bad → ((s.cellsBack back bad).cell n).state = .quarantined) ∧ (n ∉ bad → ((s.cellsBack back bad).cell n).Fit) := by
  have hculls := State.cellsBack_culls hwf back bad
  exact ⟨fun hb => hculls.culled n (by simp [h, hb]),
    fun hb => (hculls.others n (by simp [hb])).fit (.inl (State.cellsReturn_available h))⟩

/-- The checks of the cells that came back, kept. -/
def State.checksKept (s : State) (l : List Nat) : State := l.foldl (fun s n => s.recordTest 0 n .pass 0) s

theorem State.checksKept_sea (s : State) (l : List Nat) : (s.checksKept l).sea = s.sea :=
  foldl_rel (fun a b : State => b.sea = a.sea) (fun _ => rfl) (fun _ _ _ h1 h2 => h2.trans h1)
    (fun s n => s.recordTest 0 n .pass 0) (fun _ _ => rfl) l s

/-- What follows the return of the cells: measurement, the castes, the buses. -/
theorem State.settled_moves (hwf : twf s.sea.cells = true) (n : Nat) :
    (s.cell n).Moves (s.measureAll.refillShort.assignBuses.cell n) := by
  have hcells := s.measureAll_keeps.2.2
  have hrefills := State.refillShort_refills (s := s.measureAll) (by rwa [hcells])
  have hbuses : s.measureAll.refillShort.assignBuses.sea = s.measureAll.refillShort.sea := by rw [State.assignBuses_frame]
  rw [State.cell_of_cells (congrArg Sea.cells hbuses), ← State.cell_of_cells hcells]
  exact hrefills.moves n

/-- The cells that a warm reset found FAULTED. -/
def State.faultedCells (s : State) : List Nat := (s.sea.cells.filter (fun p => p.2.state == .faulted)).map (·.1)

theorem State.mem_faultedCells (hwf : twf s.sea.cells = true) {n : Nat} (h : n ∈ tkeys s.sea.cells) (hf : (s.cell n).state = .faulted) :
    n ∈ s.faultedCells := by
  obtain ⟨p, hp, rfl⟩ := List.mem_map.mp h
  rw [State.cell_of_mem hwf hp] at hf
  exact List.mem_map.mpr ⟨p, List.mem_filter.mpr ⟨hp, beq_iff_eq.mpr hf⟩, rfl⟩

/-- The islands that a warm reset held in reset leave it. -/
def State.islandsBack (s : State) : State :=
  ((List.range 108).filter (fun n => s.islandPresent n && (s.island n).state == .reset)).foldl State.leaveReset s

theorem State.islandsBack_sea (s : State) : s.islandsBack.sea = s.sea := by
  unfold State.islandsBack
  generalize (List.range 108).filter _ = l
  exact foldl_rel (fun a b : State => b.sea = a.sea) (fun _ => rfl) (fun _ _ _ h1 h2 => h2.trans h1) State.leaveReset
    (fun _ _ => rfl) l s

theorem State.stageWarm_eq (r : StageResult) : s.stageWarm r =
    ((s.islandsBack.cellsBack s.islandsBack.faultedCells r.badCells).checksKept
      (s.islandsBack.faultedCells.filter (fun n => !r.badCells.contains n))).measureAll.refillShort.assignBuses := rfl

/-- What a warm stage 7 leaves of the cells that were FAULTED. -/
theorem State.stageWarm_cell (hwf : twf s.sea.cells = true) (r : StageResult) {n : Nat} (h : n ∈ tkeys s.sea.cells)
    (hf : (s.cell n).state = .faulted) : (n ∈ r.badCells → ((s.stageWarm r).cell n).state = .quarantined) ∧
      (n ∉ r.badCells → ((s.stageWarm r).cell n).Fit) := by
  have hsea := s.islandsBack_sea
  rw [State.stageWarm_eq]
  generalize s.islandsBack = up at hsea
  rw [← hsea] at hwf h
  rw [← State.cell_of_cells (congrArg Sea.cells hsea)] at hf
  have hback := State.mem_faultedCells hwf h hf
  obtain ⟨hbad, hgood⟩ := State.cellsBack_cell hwf r.badCells hback
  have hrising := (State.cellsBack_culls hwf up.faultedCells r.badCells).rising
  generalize up.cellsBack up.faultedCells r.badCells = culled at hbad hgood hrising
  have hkept := culled.checksKept_sea (up.faultedCells.filter (fun n => !r.badCells.contains n))
  have hmoves := State.settled_moves (s := culled.checksKept (up.faultedCells.filter (fun n => !r.badCells.contains n)))
    (by rwa [hkept]) n
  rw [State.cell_of_cells (congrArg Sea.cells hkept)] at hmoves
  exact ⟨fun hb => hmoves.quarantined (hbad hb), fun hb => hmoves.fit (hgood hb)⟩

end

theorem stageSevenWarm {t : Nat} {r : StageResult} {s : State} (hwf : twf s.sea.cells = true) (hd : s.stageDue r.stage = true)
    (hm : s.mbx.state ≠ .serving) (hr : r.stage = 7) (hw : s.lcy.warm = true) : ∃ s', exec (.bootStageComplete t r) s = .next s' ∧
      s'.lcy.stage = 8 ∧ ∀ n, n ∈ tkeys s.sea.cells → (s.cell n).state = .faulted → (n ∈ r.badCells → (s'.cell n).state = .quarantined) ∧
        (n ∉ r.badCells → (s'.cell n).state = .available ∨ (s'.cell n).state = .moving) := by
  have hexec : exec (.bootStageComplete t r) s = .next (((s.tick t).stageWarm r).toStage 8) := by
    rw [exec_bootStageComplete_of_due t hd hm hr, State.endStage, State.tick_lcy, if_pos hw]
  refine ⟨_, hexec, rfl, fun n hn hf => ?_⟩
  have hcell := State.stageWarm_cell (s := s.tick t) (by rwa [State.tick_sea]) r (by rwa [State.tick_sea]) (by rwa [State.tick_cell] : _ = _)
  generalize (s.tick t).stageWarm r = s1 at hcell
  exact hcell

/-- Settles O59, stage by stage. -/
theorem bootStages : Obligations.BootStages := by
  intro t r s hformed hm s0 stops after
  obtain ⟨hwf, -⟩ := hformed
  have hstops {c : Nat} (h : exec (.bootStageComplete t r) s = .next (s0.bootStop c)) : stops c :=
    ⟨_, h, State.bootStop_stops (s.tick_lcy t) c⟩
  refine ⟨exec_bootStageComplete_of_not_due t, fun hd => ⟨stageOne hd hm, stageTwo hd hm,
    fun hr => ⟨fun hl => hstops ?_, fun hl ht hn => ?_, fun hl ht hn => hstops ?_, stageThree hd hm hr⟩, stageFour hd hm,
    fun hr => ⟨fun h => hstops ?_, stageFive hd hm hr⟩, stageSix hd hm, stageSevenCold hwf hd hm, stageSevenWarm hwf hd hm, stageEight hd hm⟩⟩
  · rw [exec_bootStageComplete_of_due t hd hm hr, State.endStage, if_pos (by rwa [State.tick_lifecycle])]
  · rw [exec_bootStageComplete_of_due t hd hm hr, State.endStage, if_neg (by rwa [State.tick_lifecycle]), if_neg (by simp [ht]),
      if_pos (by rwa [State.tick_lcy])]
  · rw [exec_bootStageComplete_of_due t hd hm hr, State.endStage, if_neg (by rwa [State.tick_lifecycle]), if_neg (by simp [ht]),
      if_neg (by rw [State.tick_lcy]; exact Nat.not_lt.mpr hn)]
  · rw [exec_bootStageComplete_of_due t hd hm hr, State.endStage, if_neg (by simp [h])]

end Sys2Proof.Machine
end

section
/-! PROOFS. In-service tests, their requests and their results (R427 to R440): O54. -/

namespace Sys2Proof.Machine
open Sys2Proof.Say

/-! ### The end of a request, and a test's result (R438, R440) -/

section
variable {s : State}

/-- What the end of a request may change besides the requests and the drain marks: its ticket, with the notice and the event. -/
structure State.Notifies (s s' : State) : Prop where
  frame : s' = { s with mbx := s'.mbx, ins := s'.ins, evt := s'.evt, out := s'.out }

theorem State.Notifies.refl (s : State) : s.Notifies s := ⟨rfl⟩

theorem State.Notifies.trans {a b c : State} (h1 : a.Notifies b) (h2 : b.Notifies c) : a.Notifies c := ⟨by rw [h2.frame, h1.frame]⟩

theorem State.Notifies.raise {s' : State} (h : s.Notifies s') {code src o tag d : Nat} {e : Option (Word × Word × Word)} :
    s.Notifies (s'.raise code src o tag d e) := h.trans ⟨by rw [State.raise_frame]⟩

theorem State.Notifies.notice {s' : State} (h : s.Notifies s') {k : Nat} {w : Word} : s.Notifies (s'.notice k w) :=
  h.trans ⟨by rw [State.notice_frame]⟩

theorem State.ticketDone_notifies (s : State) (k st : Nat) (ws : List Word) : s.Notifies (s.ticketDone k st ws) := by
  unfold State.ticketDone
  split
  · exact .refl s
  · dsimp only
    split
    · exact State.Notifies.notice (State.Notifies.raise ⟨rfl⟩)
    · exact State.Notifies.raise ⟨rfl⟩

theorem State.tickets_ticketDone (s : State) (k st : Nat) (ws : List Word) : tfind (s.ticketDone k st ws).mbx.tickets k = none := by
  unfold State.ticketDone
  split
  · assumption
  · dsimp only
    split
    · rw [State.notice_frame, State.raise_frame]
      exact tfind_terase_same _ _
    · rw [State.raise_frame]
      exact tfind_terase_same _ _

/-- A request's end, before marks go on to the requests left. -/
def State.reqGone (s : State) (cls num status : Nat) (r : Option TestResult) (q : TestReq) : State :=
  let s := (s.modTest (fun x => { x with reqs := terase x.reqs (testKey cls num) })).unmark cls num
  match q.ticket with
  | some k => s.ticketDone k status (match r with | some r => [wd (testCode r)] | none => [])
  | none => s

variable {cls num : Nat}

theorem State.endReq_of_none (h : tfind s.test.reqs (testKey cls num) = none) (st : Nat) (r : Option TestResult) :
    s.endReq cls num st r = s := by
  simp only [State.endReq, h]

theorem State.endReq_of_some {q : TestReq} (h : tfind s.test.reqs (testKey cls num) = some q) (st : Nat) (r : Option TestResult) :
    s.endReq cls num st r = (s.reqGone cls num st r q).markNext := by
  simp only [State.endReq, h]
  rfl

theorem State.unmark_frame (s : State) (cls num : Nat) : s.unmark cls num = { s with
    sea := { s.sea with drainCells := (s.unmark cls num).sea.drainCells, drainClusters := (s.unmark cls num).sea.drainClusters } } := by
  unfold State.unmark
  split <;> rfl

theorem State.reqGone_notifies (st : Nat) (r : Option TestResult) (q : TestReq) :
    ((s.modTest (fun x => { x with reqs := terase x.reqs (testKey cls num) })).unmark cls num).Notifies (s.reqGone cls num st r q) := by
  unfold State.reqGone
  dsimp only
  split
  · exact State.ticketDone_notifies _ _ _ _
  · exact .refl _

/-- The end of a request changes requests, drain marks, its ticket and what tells of it. -/
theorem State.endReq_frame (s : State) (cls num st : Nat) (r : Option TestResult) : s.endReq cls num st r = { s with
    test := { s.test with reqs := (s.endReq cls num st r).test.reqs }
    sea := { s.sea with drainCells := (s.endReq cls num st r).sea.drainCells, drainClusters := (s.endReq cls num st r).sea.drainClusters }
    mbx := (s.endReq cls num st r).mbx, ins := (s.endReq cls num st r).ins, evt := (s.endReq cls num st r).evt
    out := (s.endReq cls num st r).out } := by
  cases hq : tfind s.test.reqs (testKey cls num) with
  | none => rw [State.endReq_of_none hq]
  | some q =>
    rw [State.endReq_of_some hq, (s.reqGone cls num st r q).markNext_marks.frame, (State.reqGone_notifies st r q).frame, State.unmark_frame]
    rfl

/-- What a test's end leaves: the result kept, its request ended, and whatever tells of it. -/
structure State.Tested (cls num : Nat) (r : TestResult) (d : Nat) (s s' : State) : Prop where
  frame : s' = { s with
    test := { s.test with units := (s.recordTest cls num r d).test.units, reqs := s'.test.reqs }
    sea := { s.sea with drainCells := s'.sea.drainCells, drainClusters := s'.sea.drainClusters }
    mbx := s'.mbx, ins := s'.ins, evt := s'.evt, out := s'.out, freeCtr := s'.freeCtr }

theorem State.testResult_tested (s : State) (cls num : Nat) (r : TestResult) (d : Nat) :
    State.Tested cls num r d s (s.testResult cls num r d) := by
  refine ⟨?_⟩
  unfold State.testResult
  rw [State.endReq_frame]
  rfl

end

end Sys2Proof.Machine
namespace Sys2Proof.Machine
open Sys2Proof.Say

section
variable {s s0 s1 s' : State} {cls num n d : Nat} {r : TestResult}

theorem State.Tested.failed (h : State.Tested cls num r d s s') (c k : Nat) : State.Tested cls num r d s (s'.testFailedFree c k) := by
  have hfailed (s1 : State) : s1.testFailedFree c k = { s1 with
      evt := (s1.testFailedFree c k).evt, out := (s1.testFailedFree c k).out, freeCtr := (s1.testFailedFree c k).freeCtr } := by
    unfold State.testFailedFree State.testFailed
    dsimp only
    rw [State.raiseDev_frame]
    rfl
  exact ⟨by rw [hfailed, h.frame]⟩

/-- A failed test raises its event as well (R442). -/
theorem State.Tested.failedIf {p : Prop} [Decidable p] (h : State.Tested cls num r d s s') (c k : Nat) :
    State.Tested cls num r d s (if p then s' else s'.testFailedFree c k) := by
  split
  · exact h
  · exact h.failed c k

/-! What a test's end does not touch -/

theorem State.Tested.cell (h : State.Tested cls num r d s s') (k : Nat) : s'.cell k = s.cell k :=
  State.cell_of_cells (by rw [h.frame]) k

theorem State.Tested.test (h : State.Tested cls num r d s s') :
    s'.test = { s.test with units := (s.recordTest cls num r d).test.units, reqs := s'.test.reqs } := by
  rw [h.frame]

theorem State.Tested.others (h : State.Tested cls num r d s s') :
    s'.isl = s.isl ∧ s'.lane = s.lane ∧ s'.net = s.net ∧ s'.lcy = s.lcy := by
  rw [h.frame]
  exact ⟨rfl, rfl, rfl, rfl⟩

/-- The result of unit `n` of class `cls` as a test that began in s and ended in s0 leaves it. -/
def State.HasResult (s s0 : State) (n : Nat) (s' : State) (cls : Nat) (r : TestResult) : Prop :=
  (s'.testUnit cls n).result = r ∧ (s'.testUnit cls n).lastTry = s0.sec32 ∧
    (s'.testUnit cls n).lastPass = (if r = .pass ∨ r = .part then s0.sec32 else (s.testUnit cls n).lastPass) ∧
    (∀ k, k ≠ testKey cls n → tfind s'.test.units k = tfind s.test.units k)

theorem State.sec32_of_tim (ht : s1.tim = s0.tim) : s1.sec32 = s0.sec32 := by rw [State.sec32, State.servedSec, ht, ← State.servedSec, ← State.sec32]

theorem State.Tested.unit (h : State.Tested cls n r d s1 s') : (s'.testUnit cls n).result = r ∧ (s'.testUnit cls n).lastTry = s1.sec32 ∧
    (s'.testUnit cls n).lastPass = (if r = .pass ∨ r = .part then s1.sec32 else (s1.testUnit cls n).lastPass) ∧
    (s'.testUnit cls n).detail = d := by
  have hunit : s'.testUnit cls n = tget (s1.recordTest cls n r d).test.units (testKey cls n) {} := by
    rw [State.testUnit, h.test]
  rw [hunit, State.recordTest, State.modTest, tmod, tget_tset_same]
  exact ⟨rfl, rfl, by simp [State.testUnit], rfl⟩

theorem State.Tested.hasResult_of (h : State.Tested cls n r d s1 s') (ht : s1.tim = s0.tim)
    (hpass : (s1.testUnit cls n).lastPass = (s.testUnit cls n).lastPass)
    (hu : ∀ k, k ≠ testKey cls n → tfind s1.test.units k = tfind s.test.units k) : s.HasResult s0 n s' cls r := by
  obtain ⟨hres, htry, hlast, -⟩ := h.unit
  rw [State.sec32_of_tim ht] at htry hlast
  refine ⟨hres, htry, hpass ▸ hlast, fun k hk => ?_⟩
  rw [h.test]
  exact (tfind_tset_ne _ _ (Ne.symm hk)).trans (hu k hk)

theorem State.Tested.hasResult (h : State.Tested cls n r d s1 s') (ht : s1.tim = s0.tim)
    (hu : s1.test.units = s.test.units) : s.HasResult s0 n s' cls r :=
  h.hasResult_of ht (by rw [State.testUnit, hu, State.testUnit]) fun k _ => by rw [hu]

end

/-! ### A cell's test begins and ends (R427, R428) -/

section
variable {s : State} {t n k : Nat}

theorem exec_testLoan_of_not_lendable (h : s.lendable n k = false) : exec (.testLoan t n k) s = .next (s.tick t) :=
  if_pos (by simp [h])

theorem State.startCellTest_effect (s : State) (hnk : n ≠ k) : let s' := s.startCellTest n k
    (s'.cell n).state = .testing ∧ (s'.cell n).lentCaste = (s.cell n).caste ∧ tfind s'.test.loans n = some k ∧
      (s'.cell k).work = (s.cell k).work ++ [.check n] ∧ (∀ j, j ≠ n → j ≠ k → s'.cell j = s.cell j) ∧
      s'.test.reqs = tupd s.test.reqs (testKey 0 n) (fun r => { r with running := true }) := by
  intro s'
  have hgiven (j : Nat) : (s.giveWork k (.check n)).cell j =
      (s.modCell k (fun c => { c with work := c.work ++ [.check n], placed := s.sea.placeClock, scratchUsed := true })).cell j :=
    State.cell_of_cells (by rw [State.giveWork, State.count_frame]; rfl) j
  have hcell (j : Nat) : s'.cell j = (((s.giveWork k (.check n)).setCell n .testing).modCell n (fun c => { c with lentCaste := c.caste })).cell j :=
    rfl
  have hn : s'.cell n = { s.cell n with state := .testing, changed := (s.giveWork k (.check n)).sec32, lentCaste := (s.cell n).caste } := by
    rw [hcell, State.cell_modCell_same, State.setCell, State.cell_modCell_same, hgiven, State.cell_modCell_ne _ _ hnk]
  have hother (j : Nat) (hj : j ≠ n) : s'.cell j = (s.giveWork k (.check n)).cell j := by
    rw [hcell, State.cell_modCell_ne _ _ hj, State.setCell, State.cell_modCell_ne _ _ hj]
  refine ⟨by rw [hn], by rw [hn], tfind_tset_same _ _ _, ?_, fun j hj hjk => ?_, ?_⟩
  · rw [hother k hnk.symm, hgiven, State.cell_modCell_same]
  · rw [hother j hj, hgiven, State.cell_modCell_ne _ _ hjk]
  · have htest : (s.giveWork k (.check n)).test = s.test := by rw [State.giveWork, State.count_frame]; rfl
    rw [← htest]
    rfl

theorem exec_testLoan_of_idle (hl : s.lendable n k = true) (hi : s.cellIdle n = true)
    (hload : n ∈ s.sea.drainCells ∨ s.testLoad < s.devN 0x0C03) (hreq : tmem s.test.reqs (testKey 0 n) = true) :
    exec (.testLoan t n k) s = .next ((s.tick t).startCellTest n k) := by
  have hbusy : s.audioBusy n = false := by
    simp only [State.cellIdle, Bool.and_eq_true, Bool.not_eq_true'] at hi
    exact hi.2
  have hmarked : (s.sea.drainCells.contains n || decide (s.testLoad < s.devN 0x0C03)) = true := by
    obtain h | h := hload <;> simp [h]
  have hexec : exec (.testLoan t n k) s = execTestLoan t n k s := rfl
  rw [hexec, execTestLoan]
  simp only [State.tick_lendable, State.tick_sea, State.tick_testLoad, State.tick_devN, State.tick_test, State.tick_cell,
    State.tick_oldestLendable, State.tick_audioBusy, State.tick_cellIdle, hl, hmarked, hreq, hbusy, hi]
  rfl

/-- The Sentinel cell of a loan is another cell. -/
theorem State.ne_of_lendable (h : s.lendable n k = true) : n ≠ k := by
  simp only [State.lendable, State.sentinelFree, Bool.and_eq_true, bne_iff_ne] at h
  exact fun he => h.2.2 he.symm

end

end Sys2Proof.Machine
namespace Sys2Proof.Machine
open Sys2Proof.Say

section
variable {s : State} {t n k : Nat}

/-- A step that changes cells and raises events alone. -/
def State.MovesCells (s s' : State) : Prop := s' = { s with sea := s'.sea, evt := s'.evt, out := s'.out }

theorem State.MovesCells.keeps {s' : State} (h : s.MovesCells s') : s'.test = s.test ∧ s'.tim = s.tim := by
  rw [show s' = _ from h]
  exact ⟨rfl, rfl⟩

/-- A cell back from its test, before its caste is looked at (Table 17-7). -/
def State.cellKept (s : State) (n : Nat) : State :=
  (s.setCell n .available).modCell n (fun x =>
    { x with returnTest := false, caste := if (s.cell n).returnTest then .reserve else (s.cell n).lentCaste })

theorem State.cellKept_cell (s : State) (n : Nat) : ((s.cellKept n).cell n).state = .available := by
  simp [State.cellKept, State.setCell]

theorem State.cellKept_rising (hwf : twf s.sea.cells = true) (n : Nat) : twf (s.cellKept n).sea.cells = true :=
  twf_tset _ _ _ (twf_tset _ _ _ hwf)

theorem State.cellKept_cellBack (hwf : twf s.sea.cells = true) (n : Nat) : (s.cellKept n).Refills (s.cellBack n) := by
  have hkept := s.cellKept_cell n
  have hrefl := State.Refills.refl (State.cellKept_rising hwf n)
  have hshort := State.refillShort_refills (State.cellKept_rising hwf n)
  have heq : s.cellBack n = (let s := s.cellKept n
      let caste := (s.cell n).caste
      if caste = .reserve then s.refillShort
      else if s.sea.targets.getD (casteNum caste) 0 < s.casteSize caste && caste != .audio then s.moveTo n .reserve
      else if caste = .audio ∧ !s.pairMixes (n / 2) then
        s.modSea (fun a => { a with pairs := tmod a.pairs (n / 2) {} (fun p => { p with due := true, byTest := false }) })
      else s) := rfl
  rw [heq]
  generalize s.cellKept n = kept at hkept hrefl hshort
  dsimp only
  split
  · exact hshort
  · split
    · exact hrefl.moveTo hkept _
    · split
      · exact hrefl.modSea _ rfl
      · exact hrefl

/-- A cell whose test passed is AVAILABLE, or on its way to Reserve or to a caste. -/
theorem State.cellBack_fit (hwf : twf s.sea.cells = true) (n : Nat) : ((s.cellBack n).cell n).Fit ∧ s.MovesCells (s.cellBack n) := by
  have hrefills := State.cellKept_cellBack hwf n
  refine ⟨(hrefills.moves n).fit (.inl (s.cellKept_cell n)), ?_⟩
  rw [State.MovesCells, hrefills.frame]
  rfl

theorem State.quarantine_movesCells (hwf : twf s.sea.cells = true) (n : Nat) : s.MovesCells (s.quarantine n) :=
  (State.quarantine_culls hwf n).frame

/-- The loan of a cell ended, its lines and its registers gone (R428). -/
def State.loanEnded (s : State) (n k : Nat) : State :=
  (((s.modTest (fun x => { x with loans := terase x.loans n })).dropWorkOn k (.check n)).dropLines n).modCell n (fun c =>
    { c.clearRegs with scratchUsed := false, stores := [] })

theorem State.loanEnded_keeps (s : State) (n k : Nat) : (s.loanEnded n k).tim = s.tim ∧
    (s.loanEnded n k).test = { s.test with loans := terase s.test.loans n } := ⟨rfl, rfl⟩

theorem State.loanEnded_rising (hwf : twf s.sea.cells = true) (n k : Nat) : twf (s.loanEnded n k).sea.cells = true :=
  twf_tset _ _ _ (twf_tset _ _ _ (twf_tset _ _ _ hwf))

theorem State.cell_dropLines (s : State) (n : Nat) : (s.dropLines n).cell n = { s.cell n with l1 := [] } :=
  State.cell_modCell_same _ n _

theorem State.toQuarantine_loanEnded (s : State) (n k : Nat) : ((s.loanEnded n k).cell n).toQuarantine = (s.cell n).toQuarantine := by
  have hdropped : (((s.modTest (fun x => { x with loans := terase x.loans n })).dropWorkOn k (.check n)).cell n).toQuarantine =
      (s.cell n).toQuarantine := by
    by_cases hk : n = k
    · subst hk
      rw [State.dropWorkOn, State.cell_modCell_same]
      rfl
    · rw [State.dropWorkOn, State.cell_modCell_ne _ _ hk]
      rfl
  rw [State.loanEnded, State.cell_modCell_same, State.cell_dropLines]
  exact hdropped

theorem exec_cellTestDone_of_none (h : tfind s.test.loans n = none) (p : Bool) : exec (.cellTestDone t n p) s = .next (s.tick t) := by
  have hexec : exec (.cellTestDone t n p) s = execCellTestDone t n p s := rfl
  rw [hexec, execCellTestDone, State.tick_test, h]

theorem exec_cellTestDone_of_lent (hn : n ≤ 767) (h : tfind s.test.loans n = some k) (hst : (s.cell n).state = .testing) (p : Bool) :
    exec (.cellTestDone t n p) s = .next (
      let s1 := (s.tick t).loanEnded n k
      let s2 := (if p && !(s.cell n).toQuarantine then s1.cellBack n else s1.quarantine n).testResult 0 n (if p then .pass else .fail) 0
      if p then s2 else s2.testFailedFree 0 n) := by
  have hexec : exec (.cellTestDone t n p) s = execCellTestDone t n p s := rfl
  have hquar := (s.tick t).toQuarantine_loanEnded n k
  rw [State.tick_cell] at hquar
  rw [hexec, execCellTestDone, State.tick_test, h, ← hquar]
  refine if_neg ?_
  rintro (hbig | hnot)
  · omega
  · exact hnot (by rw [State.tick_cell, hst])

/-- The end of a cell's test, by what it makes of the cell. -/
theorem cellTestDone_of_cell (hn : n ≤ 767) (h : tfind s.test.loans n = some k) (hst : (s.cell n).state = .testing) (p : Bool) {s2 : State}
    (hs2 : (if p && !(s.cell n).toQuarantine then ((s.tick t).loanEnded n k).cellBack n else ((s.tick t).loanEnded n k).quarantine n) = s2)
    (hmoves : ((s.tick t).loanEnded n k).MovesCells s2) : ∃ s', exec (.cellTestDone t n p) s = .next s' ∧ s'.cell n = s2.cell n ∧
      tfind s'.test.loans n = none ∧ s.HasResult (s.tick t) n s' 0 (if p then .pass else .fail) := by
  refine ⟨_, exec_cellTestDone_of_lent hn h hst p, ?_⟩
  dsimp only
  rw [hs2]
  obtain ⟨htest, htim⟩ := hmoves.keeps
  obtain ⟨htim1, htest1⟩ := (s.tick t).loanEnded_keeps n k
  have htested := (s2.testResult_tested 0 n (if p then .pass else .fail) 0).failedIf (p := p = true) 0 n
  refine ⟨htested.cell n, ?_, htested.hasResult (htim.trans htim1) ?_⟩
  · rw [htested.test, htest, htest1]
    exact tfind_terase_same _ _
  · rw [htest, htest1, State.tick_test]

end

/-- The tests of cells that end (R427, R428). -/
theorem cellTests {t n k : Nat} {s : State} (hwf : twf s.sea.cells = true) (hn : n ≤ 767) (h : tfind s.test.loans n = some k)
    (hst : (s.cell n).state = .testing) :
    (∃ s', exec (.cellTestDone t n false) s = .next s' ∧ (s'.cell n).state = .quarantined ∧ tfind s'.test.loans n = none ∧
      s.HasResult (s.tick t) n s' 0 .fail) ∧
    ((s.cell n).toQuarantine = true → ∃ s', exec (.cellTestDone t n true) s = .next s' ∧ (s'.cell n).state = .quarantined ∧
      s.HasResult (s.tick t) n s' 0 .pass) ∧
    ((s.cell n).toQuarantine = false → ∃ s', exec (.cellTestDone t n true) s = .next s' ∧ tfind s'.test.loans n = none ∧
      ((s'.cell n).state = .available ∨ (s'.cell n).state = .moving) ∧ s.HasResult (s.tick t) n s' 0 .pass) := by
  have hrising : twf ((s.tick t).loanEnded n k).sea.cells = true := State.loanEnded_rising (by rwa [State.tick_sea]) n k
  have hquar := (State.quarantine_effect hrising n).1
  have hmoves := State.quarantine_movesCells hrising n
  refine ⟨?_, fun hq => ?_, fun hq => ?_⟩
  · obtain ⟨s', hexec, hcell, hloan, hres⟩ := cellTestDone_of_cell (t := t) hn h hst false rfl hmoves
    exact ⟨s', hexec, by rw [hcell]; exact hquar, hloan, hres⟩
  · obtain ⟨s', hexec, hcell, -, hres⟩ := cellTestDone_of_cell (t := t) hn h hst true (if_neg (by simp [hq])) hmoves
    exact ⟨s', hexec, by rw [hcell]; exact hquar, hres⟩
  · obtain ⟨hfit, hback⟩ := State.cellBack_fit hrising n
    obtain ⟨s', hexec, hcell, hloan, hres⟩ := cellTestDone_of_cell (t := t) hn h hst true (if_pos (by simp [hq])) hback
    exact ⟨s', hexec, hloan, by rw [hcell]; exact hfit, hres⟩

end Sys2Proof.Machine
namespace Sys2Proof.Machine
open Sys2Proof.Say

/-! ### An L2's test ends (R429) -/

section
variable {s : State} {t n : Nat}

/-- A cell leaves test. -/
def State.leaveTest (s : State) (n : Nat) : State := if (s.cell n).state == .testing then s.setCell n .available else s

/-- A cell after its test. -/
def Cell.tested (sec : Nat) (c : Cell) : Cell := if c.state = .testing then { c with state := .available, changed := sec } else c

theorem State.cell_leaveTest (s : State) (n j : Nat) : (s.leaveTest n).cell j = if j = n then (s.cell j).tested s.sec32 else s.cell j := by
  unfold State.leaveTest Cell.tested
  by_cases hj : j = n
  · subst hj
    by_cases ht : (s.cell j).state = .testing <;> simp [ht, State.setCell]
  · by_cases ht : (s.cell n).state = .testing
    · simp [ht, hj, State.setCell, State.cell_modCell_ne]
    · simp [ht, hj]

theorem Cell.tested_tested (sec : Nat) (c : Cell) : (c.tested sec).tested sec = c.tested sec := by
  unfold Cell.tested
  by_cases h : c.state = .testing <;> simp [h]

theorem State.leaveTest_sea (s : State) (n : Nat) : s.leaveTest n = { s with sea := { s.sea with cells := (s.leaveTest n).sea.cells } } := by
  unfold State.leaveTest
  split <;> rfl

theorem State.cell_leaveTests (l : List Nat) (s : State) (j : Nat) :
    (l.foldl State.leaveTest s).cell j = if j ∈ l then (s.cell j).tested s.sec32 else s.cell j := by
  induction l generalizing s with
  | nil => rfl
  | cons n l ih =>
    have hsec : (s.leaveTest n).sec32 = s.sec32 := State.sec32_of_tim (by rw [State.leaveTest_sea])
    rw [List.foldl_cons, ih, hsec, State.cell_leaveTest]
    by_cases hj : j = n
    · subst hj
      simp [Cell.tested_tested]
    · simp [hj]

theorem State.leaveTests_frame (l : List Nat) (s : State) :
    l.foldl State.leaveTest s = { s with sea := { s.sea with cells := (l.foldl State.leaveTest s).sea.cells } } :=
  foldl_rel (fun a b : State => b = { a with sea := { a.sea with cells := b.sea.cells } }) (fun _ => rfl)
    (fun a b c h1 h2 => by rw [h2, h1]) _ State.leaveTest_sea l s

theorem State.leaveTests_keeps (l : List Nat) (s : State) :
    (l.foldl State.leaveTest s).tim = s.tim ∧ (l.foldl State.leaveTest s).test = s.test := by
  rw [State.leaveTests_frame]
  exact ⟨rfl, rfl⟩

theorem State.leaveTests_rising (l : List Nat) (hwf : twf s.sea.cells = true) : twf (l.foldl State.leaveTest s).sea.cells = true :=
  foldl_rel (fun a b : State => twf a.sea.cells = true → twf b.sea.cells = true) (fun _ => id) (fun _ _ _ h1 h2 h => h2 (h1 h))
    State.leaveTest (fun s n h => by unfold State.leaveTest; split <;> [exact twf_tset _ _ _ h; exact h]) l s hwf

/-- The cells of a cluster. -/
@[irreducible] def clusterCells (n : Nat) : List Nat := (List.range 8).map (fun p => 8 * n + p)

/-- The Sentinel cell of an L2's test is free of it. -/
def State.testerFreed (s : State) (n : Nat) : State :=
  match tfind s.test.loans (1024 + n) with
  | some c => s.dropWorkOn c (.check (1024 + n))
  | none => s

/-- The L2's test over, before its cells leave test. -/
def State.l2Gone (s : State) (n : Nat) : State :=
  let s := (s.modTest (fun x => { x with loans := terase x.loans (1024 + n) })).dropCluster n
  ({ s with test := { s.test with
      l2 := s.test.l2.filter (· ≠ n), reqs := tupd s.test.reqs (1024 + n) (fun r => { r with running := false, marked := false }) } }).modSea
    (fun a => { a with drainClusters := a.drainClusters.filter (· ≠ n) })

def State.l2Over (s : State) (n : Nat) : State := (s.testerFreed n).l2Gone n

/-- The L2's test over and its cells out of test. -/
def State.l2Ended (s : State) (n : Nat) : State := (clusterCells n).foldl State.leaveTest (s.l2Over n)

/-- A cell leaves a failed cluster, or a cluster that it was to be quarantined in. -/
def State.cullIf (pass : Bool) (s : State) (n : Nat) : State :=
  if (s.cell n).state != .absent && (s.cell n).state != .quarantined && (!pass || (s.cell n).toQuarantine) then s.quarantine n else s

theorem exec_l2TestDone_of_not (h : s.test.l2.contains n = false) (p : Bool) : exec (.l2TestDone t n p) s = .next (s.tick t) :=
  if_pos (by rw [State.tick_test, h]; rfl)

/-- The cells of a cluster whose L2's test has ended, with their fate decided. -/
def State.l2Judged (s : State) (n : Nat) (pass : Bool) : State := (clusterCells n).foldl (State.cullIf pass) (s.l2Ended n)

theorem State.l2Ended_eq (s : State) (n : Nat) :
    s.l2Ended n = (((s.testerFreed n).modTest (fun x => { x with loans := terase x.loans (1024 + n) })).dropCluster n).endL2 n := by
  unfold State.l2Ended clusterCells
  exact List.foldl_map

theorem exec_l2TestDone_of_lent (h : s.test.l2.contains n = true) (p : Bool) : exec (.l2TestDone t n p) s = .next (
    let s1 := ((s.tick t).l2Judged n p).testResult 1 n (if p then .pass else .fail) 0
    if p then s1 else s1.testFailedFree 1 n) := by
  rw [State.l2Judged, State.l2Ended_eq]
  unfold clusterCells
  refine if_neg ?_
  rw [State.tick_test, h]
  decide

theorem exec_l2TestDone_of_failed (h : s.test.l2.contains n = true) : exec (.l2TestDone t n false) s = .next
    ((((s.tick t).l2Judged n false).testResult 1 n .fail 0).testFailedFree 1 n) := exec_l2TestDone_of_lent h false

theorem exec_l2TestDone_of_passed (h : s.test.l2.contains n = true) : exec (.l2TestDone t n true) s = .next
    (((s.tick t).l2Judged n true).testResult 1 n .pass 0) := exec_l2TestDone_of_lent h true

theorem State.testerFreed_frame (s : State) (n : Nat) : s.testerFreed n = { s with sea := (s.testerFreed n).sea } := by
  unfold State.testerFreed
  split <;> rfl

theorem State.l2Over_keeps (s : State) (n : Nat) : (s.l2Over n).tim = s.tim ∧ (s.l2Over n).test.units = s.test.units ∧
    (s.l2Over n).test.loans = terase s.test.loans (1024 + n) ∧ (s.l2Over n).test.l2 = s.test.l2.filter (· ≠ n) := by
  rw [State.l2Over, State.testerFreed_frame]
  exact ⟨rfl, rfl, rfl, rfl⟩

theorem State.cell_l2Gone (s : State) (n j : Nat) :
    (s.l2Gone n).cell j = if clusterOf j = n then { s.cell j with l1 := [] } else s.cell j :=
  tget_tmap s.sea.cells (fun m c => if clusterOf m = n then { c with l1 := [] } else c) j (by simp)

/-- What the end of an L2's test leaves of a cell's place, before the cell leaves test. -/
theorem State.l2Over_cell (s : State) (n j : Nat) : ((s.l2Over n).cell j).state = (s.cell j).state ∧
    ((s.l2Over n).cell j).toQuarantine = (s.cell j).toQuarantine := by
  have hdrop : ((s.testerFreed n).cell j).state = (s.cell j).state ∧ ((s.testerFreed n).cell j).toQuarantine = (s.cell j).toQuarantine := by
    unfold State.testerFreed
    split
    · rename_i c hc
      by_cases hj : j = c
      · subst hj
        rw [State.dropWorkOn, State.cell_modCell_same]
        exact ⟨rfl, rfl⟩
      · rw [State.dropWorkOn, State.cell_modCell_ne _ _ hj]
        exact ⟨rfl, rfl⟩
    · exact ⟨rfl, rfl⟩
  rw [State.l2Over, State.cell_l2Gone]
  split <;> exact hdrop

theorem State.l2Over_rising (hwf : twf s.sea.cells = true) (n : Nat) : twf (s.l2Over n).sea.cells = true := by
  have hfreed : twf (s.testerFreed n).sea.cells = true := by
    unfold State.testerFreed
    split
    · exact twf_tset _ _ _ hwf
    · exact hwf
  exact twf_tmap (fun m c => if clusterOf m = n then { c with l1 := [] } else c) hfreed

theorem Cell.tested_toQuarantine (sec : Nat) (c : Cell) : (c.tested sec).toQuarantine = c.toQuarantine := by
  unfold Cell.tested
  split <;> rfl

theorem mem_clusterCells {j : Nat} : j ∈ clusterCells n ↔ ∃ p, p < 8 ∧ 8 * n + p = j := by
  simp [clusterCells]

/-- A cell of the cluster once its L2's test has ended. -/
theorem State.l2Ended_cell (s : State) {j : Nat} (hj : j ∈ clusterCells n) :
    ((s.l2Ended n).cell j).state = (if (s.cell j).state = .testing then .available else (s.cell j).state) ∧
      ((s.l2Ended n).cell j).toQuarantine = (s.cell j).toQuarantine := by
  obtain ⟨hstate, hquar⟩ := s.l2Over_cell n j
  rw [State.l2Ended, State.cell_leaveTests, if_pos hj, Cell.tested_toQuarantine, hquar, ← hstate]
  refine ⟨?_, rfl⟩
  unfold Cell.tested
  split <;> rfl

theorem State.l2Ended_rising (hwf : twf s.sea.cells = true) (n : Nat) : twf (s.l2Ended n).sea.cells = true :=
  State.leaveTests_rising (clusterCells n) (State.l2Over_rising hwf n)

theorem State.l2Ended_keeps (s : State) (n : Nat) : (s.l2Ended n).tim = s.tim ∧ (s.l2Ended n).test.units = s.test.units ∧
    (s.l2Ended n).test.loans = terase s.test.loans (1024 + n) ∧ (s.l2Ended n).test.l2 = s.test.l2.filter (· ≠ n) := by
  obtain ⟨htim, htest⟩ := State.leaveTests_keeps (clusterCells n) (s.l2Over n)
  rw [State.l2Ended, htim, htest]
  exact s.l2Over_keeps n

/-! The cells of a failed cluster go -/

/-- What the quarantine of cells that are there leaves. -/
structure State.CullsAll (l : List Nat) (s s' : State) : Prop where
  frame : s.MovesCells s'
  rising : twf s'.sea.cells = true
  gone : ∀ k ∈ l, (s.cell k).state ≠ .absent → (s'.cell k).state = .quarantined
  quarantined : ∀ k, (s.cell k).state = .quarantined → (s'.cell k).state = .quarantined
  present : ∀ k, (s.cell k).state ≠ .absent → (s'.cell k).state ≠ .absent

theorem State.cullIf_cullsAll (hwf : twf s.sea.cells = true) (n : Nat) : State.CullsAll [n] s (s.cullIf false n) := by
  unfold State.cullIf
  split
  · have hculls := State.quarantine_culls hwf n
    refine ⟨hculls.frame, hculls.rising, fun k hk _ => hculls.culled k hk, fun k hk => ?_, fun k hk => ?_⟩
    · by_cases hn : k ∈ [n]
      · exact hculls.culled k hn
      · exact (hculls.others k hn).quarantined hk
    · by_cases hn : k ∈ [n]
      · rw [hculls.culled k hn]
        decide
      · obtain h | ⟨-, h⟩ := hculls.others k hn
        · rwa [h]
        · rw [h]
          decide
  · rename_i hnot
    refine ⟨rfl, hwf, fun k hk hpresent => ?_, fun _ => id, fun _ => id⟩
    rw [List.mem_singleton.mp hk] at hpresent ⊢
    simpa [hpresent] using hnot

theorem State.cullEach_cullsAll (hwf : twf s.sea.cells = true) (l : List Nat) : State.CullsAll l s (l.foldl (State.cullIf false) s) := by
  induction l generalizing s with
  | nil => exact ⟨rfl, hwf, fun _ h => (nomatch h), fun _ => id, fun _ => id⟩
  | cons n l ih =>
    have hone := State.cullIf_cullsAll hwf n
    have hrest := ih hone.rising
    refine ⟨?_, hrest.rising, fun k hk hp => ?_, fun k hk => hrest.quarantined k (hone.quarantined k hk),
      fun k hk => hrest.present k (hone.present k hk)⟩
    · rw [List.foldl_cons, State.MovesCells, show _ = _ from hrest.frame, show _ = _ from hone.frame]
    · obtain rfl | hl := List.mem_cons.mp hk
      · exact hrest.quarantined _ (hone.gone _ (List.mem_singleton_self _) hp)
      · exact hrest.gone k hl (hone.present k hp)

/-- None of the cells is to be quarantined: the cluster that passed keeps them. -/
theorem State.cullEach_of_passed (l : List Nat) (h : ∀ k ∈ l, (s.cell k).toQuarantine = false) : l.foldl (State.cullIf true) s = s := by
  induction l with
  | nil => rfl
  | cons n l ih =>
    have hn : s.cullIf true n = s := if_neg (by simp [h n List.mem_cons_self])
    rw [List.foldl_cons, hn]
    exact ih fun k hk => h k (List.mem_cons_of_mem _ hk)

end

/-- The test of a cluster's L2 ends (R429). -/
theorem l2Tests {t n : Nat} {s : State} (hwf : twf s.sea.cells = true) (h : s.test.l2.contains n = true) :
    (∃ s', exec (.l2TestDone t n false) s = .next s' ∧ n ∉ s'.test.l2 ∧ tfind s'.test.loans (1024 + n) = none ∧
      s.HasResult (s.tick t) n s' 1 .fail ∧
      ∀ p, p < 8 → (s.cell (8 * n + p)).state ≠ .absent → (s'.cell (8 * n + p)).state = .quarantined) ∧
    ((∀ p, p < 8 → (s.cell (8 * n + p)).toQuarantine = false) → ∃ s', exec (.l2TestDone t n true) s = .next s' ∧ n ∉ s'.test.l2 ∧
      s.HasResult (s.tick t) n s' 1 .pass ∧
      ∀ p, p < 8 → (s.cell (8 * n + p)).state = .testing → (s'.cell (8 * n + p)).state = .available) := by
  obtain ⟨htim, hunits, hloans, hl2⟩ := (s.tick t).l2Ended_keeps n
  have hrising : twf ((s.tick t).l2Ended n).sea.cells = true := State.l2Ended_rising (by rwa [State.tick_sea]) n
  have hcell {j : Nat} (hj : j ∈ clusterCells n) := (s.tick t).l2Ended_cell hj
  simp only [State.tick_cell, State.tick_test] at hcell hunits hloans hl2
  refine ⟨⟨_, exec_l2TestDone_of_failed h, ?_⟩, fun hq => ⟨_, exec_l2TestDone_of_passed h, ?_⟩⟩
  · have hculls := State.cullEach_cullsAll hrising (clusterCells n)
    obtain ⟨htest, htim1⟩ := hculls.frame.keeps
    have htested := ((((s.tick t).l2Judged n false).testResult_tested 1 n .fail 0).failed 1 n)
    rw [← State.l2Judged] at hculls htest htim1
    refine ⟨?_, ?_, htested.hasResult (htim1.trans htim) (by rw [htest, hunits]), fun p hp hpresent => ?_⟩
    · rw [htested.test, htest, hl2]
      simp
    · rw [htested.test, htest, hloans]
      exact tfind_terase_same _ _
    · have hmem : 8 * n + p ∈ clusterCells n := mem_clusterCells.mpr ⟨p, hp, rfl⟩
      refine (congrArg Cell.state (htested.cell _)).trans (hculls.gone _ hmem ?_)
      rw [(hcell hmem).1]
      split
      · decide
      · exact hpresent
  · have hkept := State.cullEach_of_passed (s := (s.tick t).l2Ended n) (clusterCells n) fun k hk => by
      obtain ⟨p, hp, rfl⟩ := mem_clusterCells.mp hk
      rw [(hcell hk).2]
      exact hq p hp
    rw [State.l2Judged, hkept]
    have htested := ((s.tick t).l2Ended n).testResult_tested 1 n .pass 0
    refine ⟨?_, htested.hasResult htim (by rw [hunits]), fun p hp htesting => ?_⟩
    · rw [htested.test, hl2]
      simp
    · rw [htested.cell, (hcell (mem_clusterCells.mpr ⟨p, hp, rfl⟩)).1, if_pos htesting]

end Sys2Proof.Machine
namespace Sys2Proof.Machine
open Sys2Proof.Say

/-! ### Drains (R211, R440) -/

section
variable {s : State} {t n cls : Nat} {r : TestReq}

theorem exec_drainIdle_of_none (h : tfind s.test.reqs (testKey cls n) = none) : exec (.drainIdle t cls n) s = .next (s.tick t) := by
  have hexec : exec (.drainIdle t cls n) s = execDrainIdle t cls n s := rfl
  rw [hexec, execDrainIdle, State.tick_test, h]

theorem exec_drainTimeout_of_none (h : tfind s.test.reqs (testKey cls n) = none) : exec (.drainTimeout t cls n) s = .next (s.tick t) := by
  have hexec : exec (.drainTimeout t cls n) s = execDrainTimeout t cls n s := rfl
  rw [hexec, execDrainTimeout]
  simp only [State.tick_test, h]

/-- A marked cell without busy contexts is tested by the Sentinel cell that fits best (R211). -/
theorem exec_drainIdle_of_ready {k : Nat} (h : tfind s.test.reqs (testKey 0 n) = some r) (hrun : r.running = false) (hm : r.marked = true)
    (hk : s.bestCell .sentinel false = some k) (hl : s.lendable n k = true) (hi : s.cellIdle n = true) :
    exec (.drainIdle t 0 n) s = .next ((s.tick t).startCellTest n k) := by
  have hready : (s.tick t).drainReady 0 n = some k := by
    rw [State.tick_drainReady, State.drainReady, hk]
    simp [hl, hi]
  have hexec : exec (.drainIdle t 0 n) s = execDrainIdle t 0 n s := rfl
  rw [hexec, execDrainIdle, State.tick_test, h]
  simp only [hready, hm, hrun]
  rfl

theorem exec_drainTimeout_of_early (h : tfind s.test.reqs (testKey cls n) = some r) (hu : (s.tick t).now < r.until_) :
    exec (.drainTimeout t cls n) s = .next (s.tick t) := by
  have hexec : exec (.drainTimeout t cls n) s = execDrainTimeout t cls n s := rfl
  rw [hexec, execDrainTimeout]
  simp only [State.tick_test, h]
  exact if_pos (by simp [hu])

/-- A drain given up (R440). -/
def State.deferredTest (s : State) (cls n : Nat) (again : Bool) : State :=
  (s.endReq cls n 0x0C01 none).modTest (fun x =>
    { x with deferred := x.deferred + 1
             again := if again then tset x.again (testKey cls n) ((s.endReq cls n 0x0C01 none).now + 600000000000) else x.again })

theorem exec_drainTimeout_of_late (h : tfind s.test.reqs (testKey cls n) = some r) (hd : r.drain = true) (hm : r.marked = true)
    (hrun : r.running = false) (hu : r.until_ ≤ (s.tick t).now) (hb : s.bestCell .sentinel false = none) :
    exec (.drainTimeout t cls n) s = .next ((s.tick t).deferredTest cls n r.ticket.isNone) := by
  have hready : (s.tick t).drainReady cls n = none := by
    rw [State.tick_drainReady, State.drainReady, hb]
  have hexec : exec (.drainTimeout t cls n) s = execDrainTimeout t cls n s := rfl
  rw [hexec, execDrainTimeout]
  simp only [State.tick_test, h, hready]
  exact if_neg (by simp [hd, hm, hrun, hu])

/-- The requests, once a request has gone and marks have gone on. -/
theorem State.endReq_reqs (h : tfind s.test.reqs (testKey cls n) = some r) (st : Nat) (x : Option TestResult) :
    tfind (s.endReq cls n st x).test.reqs (testKey cls n) = none := by
  rw [State.endReq_of_some h, (State.markNext_marks _).none_iff, (State.reqGone_notifies st x r).frame, State.unmark_frame]
  exact tfind_terase_same _ _

theorem State.tickets_endReq {k : Nat} (h : tfind s.test.reqs (testKey cls n) = some r) (hk : r.ticket = some k) (st : Nat)
    (x : Option TestResult) : tfind (s.endReq cls n st x).mbx.tickets k = none := by
  rw [State.endReq_of_some h, (State.markNext_marks _).frame]
  simp only [State.reqGone, hk]
  exact State.tickets_ticketDone _ _ _ _

/-- A unit whose request has gone keeps no drain mark. -/
theorem State.unmarked_endReq (h : tfind s.test.reqs (testKey cls n) = some r) (st : Nat) (x : Option TestResult) :
    (cls = 0 → n ∉ (s.endReq cls n st x).sea.drainCells) ∧ (cls = 1 → n ∉ (s.endReq cls n st x).sea.drainClusters) := by
  have hmarks := (s.reqGone cls n st x r).markNext_marks
  have hframe := (State.reqGone_notifies (s := s) (cls := cls) (num := n) st x r).frame
  have hgone : tfind (s.reqGone cls n st x r).test.reqs (testKey cls n) = none := by
    rw [hframe, State.unmark_frame]
    exact tfind_terase_same _ _
  rw [State.endReq_of_some h]
  refine ⟨fun hc hn => ?_, fun hc hn => ?_⟩ <;> subst hc
  · obtain hn | hn := hmarks.cells n hn
    · rw [hframe] at hn
      simp [State.unmark, State.modSea] at hn
    · exact hn hgone
  · obtain hn | hn := hmarks.clusters n hn
    · rw [hframe] at hn
      simp [State.unmark, State.modSea] at hn
    · exact hn hgone

/-- A drain that has lasted 2 s ends without a test while no Sentinel cell is free (R440). -/
theorem drainGivenUp (h : tfind s.test.reqs (testKey cls n) = some r) (hd : r.drain = true) (hm : r.marked = true)
    (hrun : r.running = false) (hu : r.until_ ≤ (s.tick t).now) (hb : s.bestCell .sentinel false = none) : ∃ s',
      exec (.drainTimeout t cls n) s = .next s' ∧ tfind s'.test.reqs (testKey cls n) = none ∧ s'.test.deferred = s.test.deferred + 1 ∧
      s'.test.units = s.test.units ∧ (cls = 0 → n ∉ s'.sea.drainCells) ∧ (cls = 1 → n ∉ s'.sea.drainClusters) ∧
      (r.ticket = none → tfind s'.test.again (testKey cls n) = some ((s.tick t).now + 600000000000)) ∧
      (∀ k, r.ticket = some k → tfind s'.mbx.tickets k = none) := by
  refine ⟨_, exec_drainTimeout_of_late h hd hm hrun hu hb, ?_⟩
  rw [← s.tick_test t] at h ⊢
  generalize s.tick t = s0 at h
  have hreqs := State.endReq_reqs h 0x0C01 none
  have hframe := s0.endReq_frame cls n 0x0C01 none
  have htest : (s0.endReq cls n 0x0C01 none).test = { s0.test with reqs := (s0.endReq cls n 0x0C01 none).test.reqs } := by rw [hframe]
  have hdeferred : (s0.endReq cls n 0x0C01 none).test.deferred = s0.test.deferred := by rw [htest]
  have hunits : (s0.endReq cls n 0x0C01 none).test.units = s0.test.units := by rw [htest]
  have hnow : (s0.endReq cls n 0x0C01 none).now = s0.now := by rw [hframe]
  have htickets (k : Nat) (hk : r.ticket = some k) := State.tickets_endReq h hk 0x0C01 none
  obtain ⟨hcells, hclusters⟩ := State.unmarked_endReq h 0x0C01 none
  rw [State.deferredTest, ← hnow]
  generalize s0.endReq cls n 0x0C01 none = s1 at *
  refine ⟨hreqs, congrArg (· + 1) hdeferred, hunits, hcells, hclusters, fun hk => ?_, htickets⟩
  rw [hk]
  exact tfind_tset_same _ _ _

end

/-! ### The hub store's march (R432, R433) -/

section
variable {s : State} {t : Nat} {ok : Bool}

/-- A failing line is remapped while spares are left. -/
def State.lineChecked (s : State) (ok : Bool) : State := if ok then s else s.lineRemap

theorem State.lineChecked_frame (s : State) (ok : Bool) : s.lineChecked ok =
    { s with test := { s.test with
      passFailed := s.test.passFailed || !ok
      remapped := if ok = true ∨ 64 ≤ s.test.remapped.length then s.test.remapped else s.test.remapped ++ [s.test.line] }
             evt := (s.lineChecked ok).evt, out := (s.lineChecked ok).out } := by
  cases ok with
  | true => simp [State.lineChecked]
  | false =>
    simp only [State.lineChecked, State.lineRemap, State.testFailed, Bool.false_eq_true, ↓reduceIte]
    rw [State.raiseDev_frame]
    by_cases hroom : s.test.remapped.length < 64 <;> simp [hroom, State.modTest]

theorem exec_hubMarchLine_of_within (h : s.test.line < 131071) : exec (.hubMarchLine t ok) s =
    .next (((s.tick t).lineChecked ok).modTest (fun x => { x with line := x.line + 1 })) := by
  have hline : ((s.tick t).lineChecked ok).test.line = s.test.line := by rw [State.lineChecked_frame, State.tick_test]
  exact if_pos (c := ((s.tick t).lineChecked ok).test.line < 131071) (by rwa [hline])

/-- The pass of the march ended, before its result is kept. -/
def State.marchOver (s : State) : State := s.modTest (fun x => { x with line := 0, passFailed := false })

theorem exec_hubMarchLine_of_last (h : 131071 ≤ s.test.line) : exec (.hubMarchLine t ok) s =
    .next (((s.tick t).lineChecked ok).marchOver.testResult 2 0 (if (s.test.passFailed || !ok) then .fail else .pass)
      ((s.tick t).lineChecked ok).test.remapped.length) := by
  have hline : ((s.tick t).lineChecked ok).test.line = s.test.line := by rw [State.lineChecked_frame, State.tick_test]
  have hfailed : ((s.tick t).lineChecked ok).test.passFailed = (s.test.passFailed || !ok) := by
    rw [State.lineChecked_frame, State.tick_test]
  rw [← hfailed]
  exact if_neg (c := ((s.tick t).lineChecked ok).test.line < 131071) (by rw [hline]; omega)

end

/-- One line of the march, and the end of its pass (R432, R433). -/
theorem hubMarch {t n : Nat} {s : State} (ok : Bool) : ∃ s', exec (.hubMarchLine t ok) s = .next s' ∧
    s'.test.line = (if s.test.line < 131071 then s.test.line + 1 else 0) ∧
    s'.test.remapped = (if ok = true ∨ 64 ≤ s.test.remapped.length then s.test.remapped else s.test.remapped ++ [s.test.line]) ∧
    (s.test.line < 131071 → s'.test.passFailed = (s.test.passFailed || !ok) ∧ s'.test.units = s.test.units ∧
      s' = { s.tick t with test := s'.test, evt := s'.evt, out := s'.out }) ∧
    (131071 ≤ s.test.line → s'.test.passFailed = false ∧
      (n = 0 → s.HasResult (s.tick t) n s' 2 (if s.test.passFailed || !ok then .fail else .pass)) ∧
      (s'.testUnit 2 0).detail = s'.test.remapped.length) := by
  have hframe := (s.tick t).lineChecked_frame ok
  rw [State.tick_test] at hframe
  by_cases h : s.test.line < 131071
  · refine ⟨_, exec_hubMarchLine_of_within h, ?_⟩
    generalize (s.tick t).lineChecked ok = s1 at hframe
    refine ⟨?_, ?_, fun _ => ⟨?_, ?_, ?_⟩, fun h' => by omega⟩
    · rw [if_pos h, hframe]
      rfl
    · rw [hframe]
      rfl
    · rw [hframe]
      rfl
    · rw [hframe]
      rfl
    · rw [hframe]
      rfl
  · have hlast : 131071 ≤ s.test.line := Nat.le_of_not_lt h
    refine ⟨_, exec_hubMarchLine_of_last hlast, ?_⟩
    generalize (s.tick t).lineChecked ok = s1 at hframe
    have htested := s1.marchOver.testResult_tested 2 0 (if s.test.passFailed || !ok then .fail else .pass) s1.test.remapped.length
    have hremapped : s1.test.remapped =
        if ok = true ∨ 64 ≤ s.test.remapped.length then s.test.remapped else s.test.remapped ++ [s.test.line] := by rw [hframe]
    rw [htested.test, if_neg h]
    refine ⟨rfl, hremapped, fun h' => (h h').elim, fun _ => ⟨rfl, fun hn => ?_, htested.unit.2.2.2⟩⟩
    subst hn
    exact htested.hasResult (by rw [hframe]; rfl) (by rw [hframe]; rfl)

end Sys2Proof.Machine
namespace Sys2Proof.Machine
open Sys2Proof.Say

/-! ### Die links (R434, R368, R373) -/

section
variable {s : State} {t n dir lane errors : Nat}

@[simp] theorem DieLink.setDir_dir (l : DieLink) (d : Nat) : l.setDir d (l.dir d) = l := by
  unfold DieLink.setDir DieLink.dir
  split <;> rfl

/-- A link with one more lane tested. -/
def DieLink.laneTested (l : DieLink) (dir lane errors : Nat) : DieLink :=
  let x := l.dir dir
  let x := if errors = 0 then x else { x with badLanes := linsert x.badLanes lane }
  { l.setDir dir x with testLanes := l.testLanes + 1, testErrors := l.testErrors + b2n (decide (0 < errors)) }

theorem DieLink.laneTested_of_clean (l : DieLink) (dir lane : Nat) : l.laneTested dir lane 0 = { l with testLanes := l.testLanes + 1 } := by
  simp [DieLink.laneTested, b2n]

/-- A lane's test counted, and the lanes left judged. -/
def State.laneJudged (s : State) (n dir lane errors : Nat) : State :=
  let s := s.modLink n (fun l => l.laneTested dir lane errors)
  if errors = 0 then s else s.judgeLanes n

/-- A link with its test begun anew. -/
def DieLink.restarted (l : DieLink) : DieLink := { l with testLanes := 0, testErrors := 0 }

/-- A link whose lanes have all been tested: its result. -/
def State.linkTested (s : State) (n : Nat) : State :=
  let l := s.link n
  let s := (s.modLink n DieLink.restarted).auditRequest n
  let r := if l.testErrors ≠ 0 then TestResult.fail else if l.half then .part else .pass
  let s := s.testResult 3 n r (lanesWanted l.half / 2)
  if l.testErrors = 0 then s else s.testFailedFree 3 n

/-- What a lane's test leads to: a failed link's result, more lanes, or the link's result. -/
def State.laneOutcome (s : State) (n : Nat) : Out :=
  if (s.link n).state = .failed then
    .next (((s.modLink n DieLink.restarted).testResult 3 n .fail ((s.link n).testLanes / 2)).testFailedFree 3 n)
  else if (s.link n).testLanes < lanesWanted (s.link n).half then .next s
  else .next (s.linkTested n)

theorem exec_dieLinkLaneTest_of_not (h : (s.link n).state ≠ .up ∨ 1 < dir ∨ 17 < lane) (e : Nat) :
    exec (.dieLinkLaneTest t n dir lane e) s = .next (s.tick t) := if_pos (by rwa [State.link_of_isl (s.tick_isl t)])

theorem exec_dieLinkLaneTest_of_up (hup : (s.link n).state = .up) (hd : dir ≤ 1) (hl : lane ≤ 17) :
    exec (.dieLinkLaneTest t n dir lane errors) s = ((s.tick t).laneJudged n dir lane errors).laneOutcome n := by
  refine if_neg ?_
  rw [State.link_of_isl (s.tick_isl t), hup]
  rintro (h | h | h)
  · exact h rfl
  · omega
  · omega

theorem State.link_laneJudged_of_clean : (s.laneJudged n dir lane 0).link n = { s.link n with testLanes := (s.link n).testLanes + 1 } := by
  rw [State.laneJudged, if_pos rfl, State.link_modLink_same, DieLink.laneTested_of_clean]

theorem State.laneJudged_of_clean : s.laneJudged n dir lane 0 = s.modLink n (fun l => { l with testLanes := l.testLanes + 1 }) := by
  rw [State.laneJudged, if_pos rfl]
  exact congrArg (s.modLink n) (funext fun l => l.laneTested_of_clean dir lane)

/-- A lane without errors while lanes are left to test (R434). -/
theorem cleanLane (hup : (s.link n).state = .up) (hd : dir ≤ 1) (hl : lane ≤ 17)
    (hmore : (s.link n).testLanes + 1 < (if (s.link n).half then 20 else 36)) : exec (.dieLinkLaneTest t n dir lane 0) s =
      .next ((s.tick t).modLink n (fun l => { l with testLanes := l.testLanes + 1 })) := by
  have hlink := State.link_laneJudged_of_clean (s := s.tick t) (n := n) (dir := dir) (lane := lane)
  rw [State.link_of_isl (s.tick_isl t)] at hlink
  rw [exec_dieLinkLaneTest_of_up hup hd hl, ← State.laneJudged_of_clean (dir := dir) (lane := lane), State.laneOutcome, hlink, if_neg (by rw [hup]; decide)]
  exact if_pos hmore

theorem State.link_auditRequest (h : (s.link n).state = .up) : (s.auditRequest n).link n =
    if (s.link n).auditing then { s.link n with auditAgain := true } else { s.link n with auditing := true } := by
  have hup : ¬ (tget s.isl.links n {} : DieLink).state ≠ .up := not_not.mpr h
  unfold State.auditRequest
  dsimp only
  rw [if_neg hup]
  exact tget_tset_same _ _ _ _

theorem State.link_auditRequest_restarted (h : (s.link n).state = .up) :
    (((s.modLink n DieLink.restarted).auditRequest n).link n).testLanes = 0 ∧
      (((s.modLink n DieLink.restarted).auditRequest n).link n).auditing = true := by
  rw [State.link_auditRequest (by rw [State.link_modLink_same]; exact h), State.link_modLink_same]
  split
  · rename_i ha
    exact ⟨rfl, ha⟩
  · exact ⟨rfl, rfl⟩

theorem State.auditRequest_keeps (s : State) (n : Nat) : (s.auditRequest n).test = s.test ∧ (s.auditRequest n).tim = s.tim := by
  unfold State.auditRequest
  dsimp only
  split <;> exact ⟨rfl, rfl⟩

theorem State.linkTested_tested (s : State) (n : Nat) : State.Tested 3 n
    (if (s.link n).testErrors ≠ 0 then .fail else if (s.link n).half then .part else .pass) (lanesWanted (s.link n).half / 2)
    ((s.modLink n DieLink.restarted).auditRequest n) (s.linkTested n) :=
  (State.testResult_tested _ _ _ _ _).failedIf 3 n

/-- The last lane of a link's test, without errors (R434, R373). -/
theorem lastLane (hup : (s.link n).state = .up) (hd : dir ≤ 1) (hl : lane ≤ 17)
    (hlast : (if (s.link n).half then 20 else 36) ≤ (s.link n).testLanes + 1) : ∃ s', exec (.dieLinkLaneTest t n dir lane 0) s = .next s' ∧
      s.HasResult (s.tick t) n s' 3 (if (s.link n).testErrors ≠ 0 then .fail else if (s.link n).half then .part else .pass) ∧
      (s'.link n).testLanes = 0 ∧ (s'.link n).auditing = true := by
  have hlink := State.link_laneJudged_of_clean (s := s.tick t) (n := n) (dir := dir) (lane := lane)
  have hsame := State.laneJudged_of_clean (s := s.tick t) (n := n) (dir := dir) (lane := lane)
  rw [State.link_of_isl (s.tick_isl t)] at hlink
  rw [exec_dieLinkLaneTest_of_up hup hd hl]
  have htim : ((s.tick t).laneJudged n dir lane 0).tim = (s.tick t).tim := by rw [hsame]; rfl
  have htest : ((s.tick t).laneJudged n dir lane 0).test = s.test := by rw [hsame, ← s.tick_test t]; rfl
  generalize (s.tick t).laneJudged n dir lane 0 = s1 at hlink htim htest
  rw [State.laneOutcome, if_neg (by rw [hlink, hup]; decide), if_neg (by rw [hlink]; exact Nat.not_lt.mpr hlast)]
  have htested := s1.linkTested_tested n
  obtain ⟨haudit, hauditTim⟩ := State.auditRequest_keeps (s1.modLink n DieLink.restarted) n
  obtain ⟨hlanes, haudits⟩ := State.link_auditRequest_restarted (s := s1) (n := n) (by rw [hlink]; exact hup)
  have hisl := htested.others.1
  rw [hlink] at htested
  rw [← State.link_of_isl hisl] at hlanes haudits
  exact ⟨_, rfl, htested.hasResult (hauditTim.trans htim) (by rw [haudit, ← htest]; rfl), hlanes, haudits⟩

/-! A lane with errors is bad from then on -/

theorem DieLink.dir_of_unaudited {l l' : DieLink} (h : l'.unaudited = l.unaudited) (d : Nat) : l'.dir d = l.dir d :=
  (congrArg (fun l : DieLink => l.dir d) h : _)

theorem State.dir_of_links {s1 s2 : State} (h : s2.HasLinks s1.linkCore) (n d : Nat) : (s2.link n).dir d = (s1.link n).dir d :=
  DieLink.dir_of_unaudited (congrFun (congrArg LinkCore.link h) n) d

theorem State.dir_modLink (f : DieLink → DieLink) (hf : ∀ l d, (f l).dir d = l.dir d) (n d : Nat) :
    ((s.modLink n f).link n).dir d = (s.link n).dir d := by
  rw [State.link_modLink_same, hf]

theorem State.dir_linkFail (n d : Nat) : ((s.linkFail n).link n).dir d = (s.link n).dir d := by
  unfold State.linkFail
  split
  · rfl
  · refine (State.dir_of_links (State.HasLinks.quarantineAll (State.HasLinks.modSea (State.HasLinks.raiseDev rfl))) n d).trans ?_
    exact State.dir_modLink (fun l => { l with state := .failed, auditing := false, auditAgain := false }) (fun _ _ => rfl) n d

theorem State.dir_judgeLanes (n d : Nat) : ((s.judgeLanes n).link n).dir d = (s.link n).dir d := by
  have hhalf (b : Bool) := State.dir_modLink (s := s) (fun l => { l with half := b }) (fun _ _ => rfl) n d
  unfold State.judgeLanes
  dsimp only
  split
  · exact State.dir_linkFail n d
  · split
    · rw [State.link_raiseDev]
      exact hhalf _
    · exact hhalf _

theorem State.badLanes_laneJudged (h : errors ≠ 0) : lane ∈ (((s.laneJudged n dir lane errors).link n).dir dir).badLanes := by
  rw [State.laneJudged, if_neg h, State.dir_judgeLanes, State.link_modLink_same]
  have hdir : ((s.link n).laneTested dir lane errors).dir dir =
      { (s.link n).dir dir with badLanes := linsert ((s.link n).dir dir).badLanes lane } := by
    unfold DieLink.laneTested
    dsimp only
    rw [if_neg h]
    exact DieLink.dir_setDir _ dir _
  rw [hdir]
  exact mem_linsert _ lane

theorem State.dir_laneOutcome (n d : Nat) : ∃ s', s.laneOutcome n = .next s' ∧ (s'.link n).dir d = (s.link n).dir d := by
  have hrestarted := State.dir_modLink (s := s) DieLink.restarted (fun _ _ => rfl) n d
  unfold State.laneOutcome
  split
  · have htested := ((s.modLink n DieLink.restarted).testResult_tested 3 n .fail ((s.link n).testLanes / 2)).failed 3 n
    exact ⟨_, rfl, by rw [State.link_of_isl htested.others.1, hrestarted]⟩
  · split
    · exact ⟨s, rfl, rfl⟩
    · refine ⟨_, rfl, ?_⟩
      rw [State.link_of_isl (s.linkTested_tested n).others.1, State.dir_of_links (State.HasLinks.auditRequest rfl), hrestarted]

/-- A lane whose test shows an error is bad (R368). -/
theorem badLane (hup : (s.link n).state = .up) (hd : dir ≤ 1) (hl : lane ≤ 17) (he : 0 < errors) : ∃ s',
    exec (.dieLinkLaneTest t n dir lane errors) s = .next s' ∧ lane ∈ ((s'.link n).dir dir).badLanes := by
  obtain ⟨s', hout, hdir⟩ := ((s.tick t).laneJudged n dir lane errors).dir_laneOutcome n dir
  refine ⟨s', (exec_dieLinkLaneTest_of_up hup hd hl).trans hout, ?_⟩
  rw [hdir]
  exact State.badLanes_laneJudged (Nat.pos_iff_ne_zero.mp he)

end

end Sys2Proof.Machine
namespace Sys2Proof.Machine
open Sys2Proof.Say

/-! ### Segments (R435) -/

section
variable {s : State} {t n : Nat}

/-- The PRESENT units of a segment. -/
def State.echoLanes (s : State) (n : Nat) : List Nat := (segLanes n).filter (fun l => (s.unit l).state == .present)

theorem State.mem_echoLanes {k : Nat} : k ∈ s.echoLanes n ↔ (16 * n ≤ k ∧ k < 16 * n + 16) ∧ (s.unit k).state = .present := by
  rw [State.echoLanes, List.mem_filter, mem_segLanes, beq_iff_eq]

/-- A segment's ECHOs fall due, and its last failures are forgotten. -/
def State.echoDue (s : State) (n : Nat) : State :=
  let bytes := echoPattern (s.test.echoCount.contains n)
  ((s.echoLanes n).foldl (fun s l => s.modUnit l (fun u => { u with echo := some bytes })) s).modTest (fun x =>
    { x with echoCount := lput x.echoCount n (!x.echoCount.contains n)
             units := tmod x.units (testKey 4 n) {} (fun u => { u with detail := 0 }) })

theorem exec_segmentEchoTest_of_not (h : 7 < n ∨ (s.seg n).started = false ∨ s.lane.emg = true) :
    exec (.segmentEchoTest t n) s = .next (s.tick t) := by
  refine if_pos ?_
  rw [State.tick_seg, State.tick_lane]
  obtain h | h | h := h <;> simp [h]

theorem exec_segmentEchoTest_of_free (hn : n ≤ 7) (hst : (s.seg n).started = true) (hsp : (s.seg n).stopped = false)
    (hc : n ∈ s.cfg.segs) (he : s.lane.emg = false) (hr : s.lane.releasing = false) (ho : tmem s.test.echoOpen n = false) :
    exec (.segmentEchoTest t n) s = if (s.echoLanes n).isEmpty then .next (((s.tick t).echoDue n).testResult 4 n .pass 0)
      else .next (((s.tick t).echoDue n).modTest (fun x => { x with echoOpen := tset x.echoOpen n (s.echoLanes n) })) := by
  have hlanes : (s.tick t).echoLanes n = s.echoLanes n := by simp only [State.echoLanes, State.tick_unit]
  rw [← hlanes]
  refine if_neg ?_
  rw [State.tick_seg, State.tick_lane, State.tick_test, State.tick_cfg]
  simp [hst, hsp, hc, he, hr, ho, hn]

theorem State.echoDue_units (s : State) (n k : Nat) : (s.echoDue n).unit k =
    if k ∈ s.echoLanes n then { s.unit k with echo := some (echoPattern (s.test.echoCount.contains n)) } else s.unit k :=
  State.unit_foldl_modUnit s (fun u => { u with echo := some (echoPattern (s.test.echoCount.contains n)) })
    ((segLanes_nodup n).filter _) k

/-- What the ECHOs' due leaves of the tests. -/
theorem State.echoDue_keeps (s : State) (n : Nat) : (s.echoDue n).tim = s.tim ∧ (s.echoDue n).test = { s.test with
    echoCount := lput s.test.echoCount n (!s.test.echoCount.contains n)
    units := tmod s.test.units (testKey 4 n) {} (fun u => { u with detail := 0 }) } := by
  have hfold (l : List Nat) (f : LaneUnit → LaneUnit) (s : State) :
      l.foldl (fun s k => s.modUnit k f) s = { s with lane := (l.foldl (fun s k => s.modUnit k f) s).lane } :=
    foldl_rel (fun a b : State => b = { a with lane := b.lane }) (fun _ => rfl) (fun a b c h1 h2 => by rw [h2, h1]) _ (fun _ _ => rfl) l s
  unfold State.echoDue
  dsimp only
  rw [hfold]
  exact ⟨rfl, rfl⟩

/-- A segment's test begins, or passes at once where no unit is PRESENT (R435). -/
theorem segmentTest (hn : n ≤ 7) (hst : (s.seg n).started = true) (hsp : (s.seg n).stopped = false) (hc : n ∈ s.cfg.segs)
    (he : s.lane.emg = false) (hr : s.lane.releasing = false) (ho : tmem s.test.echoOpen n = false) : ∃ s',
      exec (.segmentEchoTest t n) s = .next s' ∧ (n ∈ s'.test.echoCount ↔ n ∉ s.test.echoCount) ∧
      ((∀ k, 16 * n ≤ k → k < 16 * n + 16 → (s.unit k).state ≠ .present) → s.HasResult (s.tick t) n s' 4 .pass ∧
        tfind s'.test.echoOpen n = none) ∧
      (∀ k, 16 * n ≤ k → k < 16 * n + 16 → (s.unit k).state = .present →
        s'.unit k = { s.unit k with echo := some (echoPattern (s.test.echoCount.contains n)) } ∧ k ∈ tget s'.test.echoOpen n []) := by
  obtain ⟨htim, htest⟩ := (s.tick t).echoDue_keeps n
  have hunit := (s.tick t).echoDue_units n
  have hlanes : (s.tick t).echoLanes n = s.echoLanes n := by simp only [State.echoLanes, State.tick_unit]
  rw [State.tick_test] at htest
  simp only [hlanes, State.tick_test, State.tick_unit] at hunit
  have hopen : tfind s.test.echoOpen n = none := by simpa [tmem] using ho
  have hcount : n ∈ ((s.tick t).echoDue n).test.echoCount ↔ n ∉ s.test.echoCount := by
    rw [htest]
    exact mem_lput_same.trans (by simp)
  rw [exec_segmentEchoTest_of_free hn hst hsp hc he hr ho]
  generalize (s.tick t).echoDue n = due at htim htest hunit hcount
  by_cases hnone : (s.echoLanes n).isEmpty = true
  · have htested := due.testResult_tested 4 n .pass 0
    rw [if_pos hnone]
    have hempty : s.echoLanes n = [] := List.isEmpty_iff.mp hnone
    refine ⟨_, rfl, by rw [htested.test]; exact hcount, fun _ => ⟨htested.hasResult_of htim ?_ fun k hk => ?_, ?_⟩, fun k h1 h2 hp => ?_⟩
    · rw [State.testUnit, htest]
      dsimp only
      rw [tmod, tget_tset_same]
      rfl
    · rw [htest]
      exact tfind_tset_ne _ _ hk.symm
    · rw [htested.test, htest]
      exact hopen
    · have hmem : k ∈ s.echoLanes n := State.mem_echoLanes.mpr ⟨⟨h1, h2⟩, hp⟩
      rw [hempty] at hmem
      cases hmem
  · rw [if_neg hnone]
    refine ⟨_, rfl, hcount, fun hall => ?_, fun k h1 h2 hp => ?_⟩
    · refine (hnone (List.isEmpty_iff.mpr (List.eq_nil_iff_forall_not_mem.mpr fun k hk => ?_))).elim
      obtain ⟨⟨h1, h2⟩, hp⟩ := State.mem_echoLanes.mp hk
      exact hall k h1 h2 hp
    · have hmem : k ∈ s.echoLanes n := State.mem_echoLanes.mpr ⟨⟨h1, h2⟩, hp⟩
      refine ⟨(hunit k).trans (if_pos hmem), ?_⟩
      exact (congrArg (k ∈ ·) (tget_tset_same _ _ _ _)).mpr hmem

/-! ### Ports (R436) -/

theorem exec_portTest_of_none (h : 1 < n) (e : Nat) : exec (.portTest t n e) s = .next (s.tick t) := if_pos h

theorem exec_portTest_of_down (hn : n ≤ 1) (h : s.linkUp n = false) (e : Nat) : exec (.portTest t n e) s =
    .next ((s.tick t).modTest (fun x => { x with loopback := linsert x.loopback n })) :=
  (if_neg (Nat.not_lt.mpr hn)).trans (if_neg (by simp [h]))

theorem exec_portTest_of_up (hn : n ≤ 1) (h : s.linkUp n = true) {e : Nat} (he : e < 256) : exec (.portTest t n e) s = .next (
    let s1 := ((s.tick t).modPort n (fun p => { p with eye := e })).testResult 5 n (if e < s.devN 0x0C07 then .fail else .pass) e
    if e < s.devN 0x0C07 then s1.testFailedFree 5 n else s1) := by
  refine (if_neg (Nat.not_lt.mpr hn)).trans ((if_pos (by rwa [State.tick_linkUp])).trans ?_)
  simp only [Nat.mod_eq_of_lt he, State.tick_devN, decide_eq_true_eq]

theorem State.Tested.raisedIf {s1 s' : State} {cls num d : Nat} {r : TestResult} {p : Prop} [Decidable p]
    (h : State.Tested cls num r d s1 s') (c k : Nat) : State.Tested cls num r d s1 (if p then s'.testFailedFree c k else s') := by
  split
  · exact h.failed c k
  · exact h

/-- A port's eye, tested while its link is up (R436). -/
theorem portEye (hn : n ≤ 1) (h : s.linkUp n = true) {e : Nat} (he : e < 256) : ∃ s', exec (.portTest t n e) s = .next s' ∧
    (s'.port n).eye = e ∧ s.HasResult (s.tick t) n s' 5 (if e < s.devN 0x0C07 then .fail else .pass) ∧ (s'.testUnit 5 n).detail = e ∧
    s'.test.loopback = s.test.loopback := by
  refine ⟨_, exec_portTest_of_up hn h he, ?_⟩
  have htested := (((s.tick t).modPort n (fun p => { p with eye := e })).testResult_tested 5 n
    (if e < s.devN 0x0C07 then .fail else .pass) e).raisedIf (p := e < s.devN 0x0C07) 5 n
  dsimp only
  generalize (if e < s.devN 0x0C07 then _ else _ : State) = s' at htested ⊢
  refine ⟨?_, htested.hasResult rfl (congrArg TestSt.units (s.tick_test t) : (s.tick t).test.units = _), htested.unit.2.2.2, ?_⟩
  · rw [State.port, htested.others.2.2.1]
    exact congrArg Port.eye (State.port_modPort_same _ n _)
  · rw [htested.test]
    exact (congrArg TestSt.loopback (s.tick_test t) : (s.tick t).test.loopback = _)

theorem exec_portLoopbackDone_of_not (h : n ∉ s.test.loopback) (e : Nat) : exec (.portLoopbackDone t n e) s = .next (s.tick t) :=
  if_pos (by simpa using h)

/-- A port's loopback is over. -/
def State.loopbackOver (s : State) (n : Nat) : State := s.modTest (fun x => { x with loopback := x.loopback.filter (· ≠ n) })

theorem exec_portLoopbackDone_of_open (h : n ∈ s.test.loopback) (e : Nat) : exec (.portLoopbackDone t n e) s = .next (
    let s1 := ((s.tick t).loopbackOver n).testResult 5 n (if e = 0 then .pass else .fail) (s.testUnit 5 n).detail
    if e = 0 then s1 else s1.testFailedFree 5 n) := by
  have hunit : ((s.tick t).loopbackOver n).testUnit 5 n = s.testUnit 5 n := s.tick_testUnit t 5 n
  rw [← hunit]
  exact if_neg (by simpa using h)

/-- The loopback of a port that is down ends (R436). -/
theorem portLoopback (h : n ∈ s.test.loopback) (e : Nat) : ∃ s', exec (.portLoopbackDone t n e) s = .next s' ∧ n ∉ s'.test.loopback ∧
    s.HasResult (s.tick t) n s' 5 (if e = 0 then .pass else .fail) ∧ (s'.testUnit 5 n).detail = (s.testUnit 5 n).detail := by
  refine ⟨_, exec_portLoopbackDone_of_open h e, ?_⟩
  have htested := (((s.tick t).loopbackOver n).testResult_tested 5 n (if e = 0 then .pass else .fail)
    (s.testUnit 5 n).detail).failedIf (p := e = 0) 5 n
  dsimp only
  generalize (if e = 0 then _ else _ : State) = s' at htested ⊢
  refine ⟨?_, htested.hasResult rfl (congrArg TestSt.units (s.tick_test t) : (s.tick t).test.units = _), htested.unit.2.2.2⟩
  rw [htested.test]
  simp [State.loopbackOver, State.modTest]

end

end Sys2Proof.Machine
namespace Sys2Proof.Machine
open Sys2Proof.Say

/-! ### Fuses (R437) -/

section
variable {s : State} {t n : Nat} {reads : Tbl FuseReads}

/-- The words read that differ from what they read at boot. -/
def State.drift (s : State) (reads : Tbl FuseReads) : Tbl FuseReads :=
  (List.range 512).filterMap (fun w => match tfind reads w with
    | some r => if r = s.bootRead w then none else some (w, r)
    | none => none)

/-- The drift kept, and raised word by word. -/
def State.driftKept (s : State) (drift : Tbl FuseReads) : State :=
  drift.foldl (fun s p => s.raiseDev 0x0C03 srcFuse p.1) { s with lcy := { s.lcy with drifted := drift } }

theorem State.driftKept_frame (s : State) (drift : Tbl FuseReads) : s.driftKept drift =
    { s with lcy := { s.lcy with drifted := drift }, evt := (s.driftKept drift).evt, out := (s.driftKept drift).out } := by
  have hfold (s : State) : drift.foldl (fun s p => s.raiseDev 0x0C03 srcFuse p.1) s =
      { s with evt := (drift.foldl (fun s p => s.raiseDev 0x0C03 srcFuse p.1) s).evt
               out := (drift.foldl (fun s p => s.raiseDev 0x0C03 srcFuse p.1) s).out } :=
    foldl_rel (fun a b : State => b = { a with evt := b.evt, out := b.out }) (fun _ => rfl) (fun a b c h1 h2 => by rw [h2, h1]) _
      (fun s p => State.raiseDev_frame s _ _ _ _) drift s
  unfold State.driftKept
  rw [hfold]

theorem exec_fuseReread : exec (.fuseReread t reads) s = .next (((s.tick t).driftKept ((s.tick t).drift reads)).testResult 6 0
    (if ((s.tick t).drift reads).isEmpty then .pass else .drift) ((s.tick t).drift reads).length) := rfl

/-- A re-read of the fuses keeps its drift and its result (R437). -/
theorem fusesRead (t : Nat) (reads : Tbl FuseReads) : ∃ s', exec (.fuseReread t reads) s = .next s' ∧
    s'.lcy = { s.lcy with drifted := s.drift reads } ∧ s.HasResult (s.tick t) 0 s' 6 (if (s.drift reads).isEmpty then .pass else .drift) := by
  have hdrift : (s.tick t).drift reads = s.drift reads := by simp only [State.drift, State.tick_bootRead]
  refine ⟨_, exec_fuseReread, ?_⟩
  rw [hdrift]
  have hframe := (s.tick t).driftKept_frame (s.drift reads)
  rw [State.tick_lcy] at hframe
  have htested := ((s.tick t).driftKept (s.drift reads)).testResult_tested 6 0 (if (s.drift reads).isEmpty then .pass else .drift)
    (s.drift reads).length
  generalize (s.tick t).driftKept (s.drift reads) = kept at hframe htested ⊢
  refine ⟨?_, htested.hasResult (by rw [hframe]) (by rw [hframe, ← s.tick_test t])⟩
  rw [htested.others.2.2.2, hframe]

theorem tfind_filterMap_words {α : Type} (f : Nat → Option α) (l : List Nat) (w : Nat) :
    tfind (l.filterMap (fun w => (f w).map (fun r => (w, r)))) w = if w ∈ l then f w else none := by
  induction l with
  | nil => rfl
  | cons k l ih =>
    cases hk : f k with
    | none =>
      simp only [List.filterMap_cons, hk, Option.map_none, ih, List.mem_cons]
      by_cases h : w = k
      · subst h
        simp [hk]
      · simp [h]
    | some r =>
      simp only [List.filterMap_cons, hk, Option.map_some, tfind, ih, List.mem_cons]
      by_cases h : k = w
      · subst h
        simp [hk]
      · simp [h, Ne.symm h]

/-- A word that reads otherwise than at boot has drifted. -/
theorem State.tfind_drift {w : Nat} {r : FuseReads} (hw : w < 512) (h : tfind reads w = some r) (hr : r ≠ s.bootRead w) :
    tfind (s.drift reads) w = some r := by
  have hform : s.drift reads = (List.range 512).filterMap (fun w =>
      ((tfind reads w).filter (fun r => r ≠ s.bootRead w)).map (fun r => (w, r))) := by
    unfold State.drift
    refine congrArg (fun f => List.filterMap f (List.range 512)) (funext fun w => ?_)
    cases tfind reads w with
    | none => rfl
    | some r => by_cases hr : r = s.bootRead w <;> simp [hr, Option.filter]
  rw [hform, tfind_filterMap_words, if_pos (List.mem_range.mpr hw), h]
  simp [Option.filter, hr]

theorem State.drift_nil : s.drift [] = [] := by
  refine List.eq_nil_iff_forall_not_mem.mpr fun p hp => ?_
  simp [State.drift] at hp

end

/-! ### Requests that fall due, and units overdue (R438, R439) -/

section
variable {s : State} {t n cls : Nat}

theorem exec_forcedRequest_of_not_covered (h : covered cls = false ∨ testCount cls ≤ n) : exec (.forcedRequest t cls n) s = .next (s.tick t) := by
  refine if_pos ?_
  obtain h | h := h <;> simp [h]

theorem exec_testOverdue_of_not_covered (h : covered cls = false ∨ testCount cls ≤ n) : exec (.testOverdue t cls n) s = .next (s.tick t) := by
  refine if_pos ?_
  obtain h | h := h <;> simp [h]

theorem exec_forcedRequest_of_young (ha : tfind s.test.again (testKey cls n) = none)
    (hage : (s.tick t).now < s.ageStart cls n + (s.devN 0x0C01 - s.devN 0x0C02) * 3600000000000) :
    exec (.forcedRequest t cls n) s = .next (s.tick t) := by
  have hexec : exec (.forcedRequest t cls n) s = execForcedRequest t cls n s := rfl
  rw [hexec, execForcedRequest]
  refine if_pos ?_
  rw [State.tick_test, ha]
  simp [State.forceAge, hage]

variable (hc : covered cls = true) (hn : n < testCount cls) (hp : s.testPresent cls n = true)
include hc hn hp

/-- The request of a unit come of age. -/
def forcedReq (cls : Nat) : TestReq := { ticket := none, drain := decide (cls ≤ 1), until_ := 0, marked := false }

theorem exec_forcedRequest_of_due (hq : tfind s.test.reqs (testKey cls n) = none) (ha : tfind s.test.again (testKey cls n) = none)
    (hage : s.ageStart cls n + (s.devN 0x0C01 - s.devN 0x0C02) * 3600000000000 ≤ (s.tick t).now) :
    exec (.forcedRequest t cls n) s = .next (((s.tick t).modTest (fun x =>
      { x with again := terase x.again (testKey cls n), reqs := tset x.reqs (testKey cls n) (forcedReq cls) })).markReq (testKey cls n)) := by
  have hexec : exec (.forcedRequest t cls n) s = execForcedRequest t cls n s := rfl
  rw [hexec, execForcedRequest]
  refine if_neg ?_
  rw [State.tick_test, ha]
  simp [State.forceAge, hage, hc, hn, hp, hq, tmem]

omit hc hn hp in
/-- The marking of one request leaves the others. -/
theorem State.tfind_markReq_ne {k j : Nat} (h : j ≠ k) : tfind (s.markReq k).test.reqs j = tfind s.test.reqs j := by
  unfold State.markReq
  split
  · rfl
  · dsimp only
    split
    · rfl
    · split
      · exact tfind_tset_ne _ _ h.symm
      · split
        · exact tfind_tset_ne _ _ h.symm
        · rfl

/-- A covered unit come of age gets a request (R438). -/
theorem forcedRequests (hq : tfind s.test.reqs (testKey cls n) = none) (ha : tfind s.test.again (testKey cls n) = none)
    (hage : s.ageStart cls n + (s.devN 0x0C01 - s.devN 0x0C02) * 3600000000000 ≤ (s.tick t).now) : ∃ s' r,
      exec (.forcedRequest t cls n) s = .next s' ∧ tfind s'.test.reqs (testKey cls n) = some r ∧ r.ticket = none ∧
      r.drain = decide (cls ≤ 1) ∧ r.running = false ∧ (∀ k, k ≠ testKey cls n → tfind s'.test.reqs k = tfind s.test.reqs k) ∧
      s' = { s.tick t with test := s'.test, sea := s'.sea } := by
  have hmarks := ((s.tick t).modTest (fun x =>
    { x with again := terase x.again (testKey cls n), reqs := tset x.reqs (testKey cls n) (forcedReq cls) })).markReq_marks (testKey cls n)
  obtain ⟨r, hr, hticket, hdrain, hrun⟩ := hmarks.asked (tfind_tset_same _ _ _)
  refine ⟨_, r, exec_forcedRequest_of_due hc hn hp hq ha hage, hr, hticket, hdrain, hrun, fun k hk => ?_, ?_⟩
  · rw [State.tfind_markReq_ne hk]
    exact (tfind_tset_ne _ _ hk.symm).trans (by rw [State.tick_test])
  · rw [hmarks.frame]
    rfl

/-- A covered unit past its period is reported, and its count of days goes on (R439). -/
theorem overdueUnits (hage : s.ageStart cls n + s.devN 0x0C01 * 3600000000000 + (s.testUnit cls n).overdue * 86400000000000 < (s.tick t).now) :
    ∃ s', exec (.testOverdue t cls n) s = .next s' ∧ s'.testUnit cls n = { s.testUnit cls n with overdue := (s.testUnit cls n).overdue + 1 } ∧
      s' = { s.tick t with test := { s.test with units := s'.test.units }, evt := s'.evt, out := s'.out } := by
  refine ⟨_, if_neg ?_, ?_, ?_⟩
  · simp [hc, hn, hp, State.testPeriod, hage]
  · rw [State.raiseDev_frame, ← s.tick_testUnit t]
    exact tget_tset_same _ _ _ _
  · rw [State.raiseDev_frame, ← s.tick_test t]
    rfl

end

/-- Settles O54, test by test. -/
theorem testEngine : Obligations.TestEngine := by
  intro t n s hformed s0 result
  obtain ⟨hwf, -⟩ := hformed
  refine ⟨fun k => exec_testLoan_of_not_lendable, fun k hl hi hn hload hreq => ?loan, fun k hn h hst => cellTests hwf hn h hst,
    fun h p => exec_cellTestDone_of_none h p, fun h p => exec_l2TestDone_of_not h p, fun _ h => l2Tests hwf h,
    fun cls h => ⟨exec_drainIdle_of_none h, exec_drainTimeout_of_none h⟩, fun r k hn h hrun hm hk hl hi => ?drain,
    fun cls r _ _ h hd hm hrun => ⟨exec_drainTimeout_of_early h, fun hu hb => drainGivenUp h hd hm hrun hu hb⟩, fun ok => hubMarch ok,
    fun dir lane e h => exec_dieLinkLaneTest_of_not h e, fun dir lane hup hd hl _ => cleanLane hup hd hl,
    fun dir lane hup hd hl _ => lastLane hup hd hl, fun dir lane e hup hd hl _ => badLane hup hd hl, exec_segmentEchoTest_of_not,
    fun hn hst hsp hc he hr ho => segmentTest hn hst hsp hc he hr ho, fun hn e => exec_portTest_of_none hn e,
    fun hn => ⟨fun h e => exec_portTest_of_down hn h e, fun h e he => portEye hn h he⟩, fun h e => exec_portLoopbackDone_of_not h e,
    fun _ h e => portLoopback h e, fun hn => ?noDrift, fun reads w r hn hw h hr => ?drift,
    fun cls h => ⟨exec_forcedRequest_of_not_covered h, exec_testOverdue_of_not_covered h⟩,
    fun cls hc hn hp => ⟨fun hq ha hage => forcedRequests hc hn hp hq ha hage,
      fun _ ha hage => exec_forcedRequest_of_young ha hage, fun hage => overdueUnits hc hn hp hage⟩⟩
  case loan =>
    obtain ⟨hstate, hcaste, hloan, hwork, hother, -⟩ := (s.tick t).startCellTest_effect (State.ne_of_lendable hl)
    simp only [State.tick_cell] at hcaste hwork hother
    exact ⟨_, exec_testLoan_of_idle hl hi hload hreq, hstate, hcaste, hloan, hwork, hother⟩
  case drain =>
    obtain ⟨hstate, -, hloan, -, -, hreqs⟩ := (s.tick t).startCellTest_effect (State.ne_of_lendable hl)
    refine ⟨_, exec_drainIdle_of_ready h hrun hm hk hl hi, hstate, hloan, ?_⟩
    rw [hreqs, tfind_tupd_same, State.tick_test, h]
    rfl
  case noDrift =>
    subst hn
    obtain ⟨s', hexec, hlcy, hres⟩ := fusesRead (s := s) t []
    rw [State.drift_nil] at hlcy
    rw [State.drift_nil, if_pos List.isEmpty_nil] at hres
    exact ⟨s', hexec, hlcy, hres⟩
  case drift =>
    subst hn
    obtain ⟨s', hexec, hlcy, hres⟩ := fusesRead (s := s) t reads
    have hfind := State.tfind_drift hw h hr
    have hdrifted : s'.lcy.drifted = s.drift reads := by rw [hlcy]
    refine ⟨s', hexec, by rw [hdrifted, hfind], by rw [hdrifted, hlcy], ?_⟩
    rwa [if_neg] at hres
    rw [List.isEmpty_iff]
    intro hnil
    rw [hnil] at hfind
    cases hfind

end Sys2Proof.Machine
end

section
/-! PROOFS. Frames received and sent, links and the PF's network queues (O47). -/

namespace Sys2Proof.Machine
open Sys2Proof.Say

/-! ### A frame at a port's MAC (R316, R317, R323) -/

@[simp] theorem State.decideFrame_count (s : State) (g n i : Nat) (port : Nat) (c : NetPortCfg) (f : List Byte) (p : Parsed) :
    (s.count g n i).decideFrame port c f p = s.decideFrame port c f p := by
  simp [State.decideFrame, State.cfg_of_man (State.count_man _ _ _ _ _)]

section
variable {t port : Nat} {f : List Byte} {ok : Bool} {io : HostIo} {s : State}

theorem exec_frameReceived_of_unset (h : tfind s.cfg.ports port = none) : exec (.frameReceived t port f ok io) s = .next (s.tick t) := by
  simp [exec, execFrameReceived, h]

variable {c : NetPortCfg} (h : tfind s.cfg.ports port = some c)
include h

theorem exec_frameReceived_of_disabled (hc : c.enable = false) : exec (.frameReceived t port f ok io) s = .next (s.tick t) := by
  simp [exec, execFrameReceived, h, hc]

variable (hc : c.enable = true)
include hc

theorem exec_frameReceived_of_down (hl : (s.port port).link = false) : exec (.frameReceived t port f ok io) s =
    .next ((s.tick t).modPort port (fun p => { p with macErrors := p.macErrors + 1 })) := by
  simp [exec, execFrameReceived, h, hc, hl]

variable (hl : (s.port port).link = true)
include hl

theorem exec_frameReceived_of_short (hlen : f.length < 60) :
    exec (.frameReceived t port f ok io) s = .next ((s.tick t).count 12 port 1) := by
  simp [exec, execFrameReceived, h, hc, hl, hlen]

theorem exec_frameReceived_of_long (hlen : 2044 < f.length) :
    exec (.frameReceived t port f ok io) s = .next ((s.tick t).count 12 port 2) := by
  have : ¬ f.length < 60 := by omega
  simp [exec, execFrameReceived, h, hc, hl, hlen, this]

variable (hmin : 60 ≤ f.length) (hmax : f.length ≤ 2044)
include hmin hmax

theorem exec_frameReceived_of_bad_check :
    exec (.frameReceived t port f false io) s = .next ((s.tick t).count 12 port 3) := by
  simp [exec, execFrameReceived, h, hc, hl, hmin.not_gt, hmax.not_gt]

theorem exec_frameReceived_of_filtered (hf : s.macFilter port c f = false) :
    exec (.frameReceived t port f true io) s = .next ((s.tick t).count 12 port 4) := by
  simp [exec, execFrameReceived, h, hc, hl, hmin.not_gt, hmax.not_gt, hf]

variable (hf : s.macFilter port c f = true)
include hf

theorem exec_frameReceived_of_pause (he : be16 f 12 = 0x8808) : exec (.frameReceived t port f true io) s =
    .next ((s.tick t).modPort port (fun p => { p with pauses := p.pauses + 1 })) := by
  simp [exec, execFrameReceived, h, hc, hl, hmin.not_gt, hmax.not_gt, hf, he]

variable (he : be16 f 12 ≠ 0x8808)
include he

theorem exec_frameReceived_of_malformed {m : Nat} (hm : malformedCause f (parseFrame f) = some m) (hpf : c.malformedToPf = false) :
    exec (.frameReceived t port f true io) s = .next (((s.tick t).count 12 port 0).count 12 port 5) := by
  simp [exec, execFrameReceived, h, hc, hl, hmin.not_gt, hmax.not_gt, hf, he, hm, hpf]

variable {dest qos : Nat} (hm : malformedCause f (parseFrame f) = none)
  (hd : s.decideFrame port c f (parseFrame f) = (0xFFFF, dest, qos)) (hlocal : nbit dest 0 = false)
include hm hd hlocal

theorem exec_frameReceived_of_one_port {n : Nat} (hn : (List.range 4).filter (fun n => nbit dest (n + 1) && n ≠ port) = [n]) :
    exec (.frameReceived t port f true io) s = .next ((((s.tick t).count 12 port 0).count 12 port 7).admitCopy n (nfld qos 7 4)
      (nfld qos 1 0) (nfld dest 7 5) .forwarded f false (rxUnits f.length)).2 := by
  simp only [exec, execFrameReceived, State.tick_cfg, h, hc, State.tick_port, hl, if_neg hmin.not_gt, if_neg hmax.not_gt,
    State.tick_macFilter, hf, if_neg he, hm, State.decideFrame_count, State.tick_decideFrame, hd, hn, hlocal, Bool.not_true,
    Bool.false_eq_true, ↓reduceIte]
  rfl

theorem exec_frameReceived_of_no_port (hn : (List.range 4).filter (fun n => nbit dest (n + 1) && n ≠ port) = []) :
    exec (.frameReceived t port f true io) s = .next (((s.tick t).count 12 port 0).count 12 port 6) := by
  simp only [exec, execFrameReceived, State.tick_cfg, h, hc, State.tick_port, hl, if_neg hmin.not_gt, if_neg hmax.not_gt,
    State.tick_macFilter, hf, if_neg he, hm, State.decideFrame_count, State.tick_decideFrame, hd, hn, hlocal, Bool.not_true,
    Bool.false_eq_true, ↓reduceIte]
  rfl

end

/-! ### A copy at its queue (R329, R330, R336) -/

section
variable {s s' : State}

theorem State.port_of_net (h : s'.net = s.net) (k : Nat) : s'.port k = s.port k := by simp [State.port, h]

@[simp] theorem State.port_count (g n i by_ k : Nat) : (s.count g n i by_).port k = s.port k := State.port_of_net (by simp) k

@[simp] theorem State.cfg_count (g n i by_ : Nat) : (s.count g n i by_).cfg = s.cfg := State.cfg_of_man (by simp)

@[simp] theorem State.freeUnits_count (g n i by_ x : Nat) : (s.count g n i by_).freeUnits x = s.freeUnits x := by
  simp [State.freeUnits, State.heldUnits, State.stewardUnits]

@[simp] theorem State.linkUp_count (g n i by_ k : Nat) : (s.count g n i by_).linkUp k = s.linkUp k := by
  simp [State.linkUp]

/-- What a copy's failure may change: the queue pairs with their entries, the waits, and two words left open. -/
structure State.FailsTx (s s' : State) : Prop where
  frame : s' = { s with
    ins := s'.ins, net := { s.net with txWaits := s'.net.txWaits }, evt := s'.evt, out := s'.out, freeCtr := s'.freeCtr }

theorem State.FailsTx.refl (s : State) : s.FailsTx s := ⟨rfl⟩

theorem State.FailsTx.trans {a b c : State} (h1 : a.FailsTx b) (h2 : b.FailsTx c) : a.FailsTx c where
  frame := by rw [h2.frame, h1.frame]

theorem State.Completes.failsTx (h : s.Completes s') : s.FailsTx s' := ⟨by rw [h.frame]⟩

theorem State.txFail_failsTx (s : State) (w : TxFor) (cq : Option Nat) : s.FailsTx (s.txFail w cq) := by
  unfold State.txFail
  split
  next k =>
    split
    · exact State.FailsTx.trans (b := ({ s with freeCtr := s.freeCtr + 1 + 1 } : State).modNet (fun n =>
        { n with txWaits := terase n.txWaits k })) ⟨rfl⟩ (State.cqComplete_completes _ _ _ _ _ _ _ _ _).failsTx
    · exact .refl s
  · exact .refl s

theorem State.FailsTx.port (h : s.FailsTx s') (k : Nat) : s'.port k = s.port k := by
  rw [h.frame]
  rfl

theorem State.FailsTx.counter (h : s.FailsTx s') (g n i : Nat) : s'.counter g n i = s.counter g n i := by
  rw [h.frame]
  rfl

/-- The counter of one statistic under a count of another of the same part. -/
theorem State.counter_count_other {g n i g' n' i' by_ : Nat} (hi : i % 32 ≠ i' % 32) :
    (s.count g n i by_).counter g' n' i' = s.counter g' n' i' := by
  have : statKey g n i ≠ statKey g' n' i' := by unfold statKey; omega
  unfold State.count
  split
  · rfl
  · simp [State.counter, this]

/-- Room for a copy in the buffer and under its queue's threshold (R329, R330). -/
def State.hasRoom (s : State) (port queue colour len extra : Nat) : Prop :=
  copyUnits len ≤ s.freeUnits extra ∧ sumOf ((tget (s.port port).queues queue ([] : List Copy)).map (·.units)) + copyUnits len ≤
    (s.cfg.queue port queue).threshold colour

section
variable {port queue colour cls : Nat} {origin : Origin} {b : List Byte} {convoy : Bool} {extra : Nat}

/-- A dropped copy, counted as an abandoned convoy or under its queue and colour. -/
def State.copyDropped (s : State) (port queue colour : Nat) (convoy : Bool) : State :=
  if convoy then s.count 12 port 10
  else (s.count 12 port 11).modNet (fun n =>
    { n with queueDrops := tmod n.queueDrops (port * 64 + queue * 4 + colour) 0 (· + 1) })

theorem State.copyDropped_effect (s : State) (port queue colour : Nat) (convoy : Bool) :
    (s.copyDropped port queue colour convoy).counter 12 port 8 = s.counter 12 port 8 ∧
      ∀ k, (s.copyDropped port queue colour convoy).port k = s.port k := by
  unfold State.copyDropped
  split
  · exact ⟨State.counter_count_other (by decide), fun k => State.port_count _ _ _ _ k⟩
  · exact ⟨State.counter_count_other (s := s) (i := 11) (by decide), fun k => State.port_count (s := s) 12 port 11 1 k⟩

theorem State.admitCopy_of_full (h : ¬ s.hasRoom port queue colour b.length extra) :
    s.admitCopy port queue colour cls origin b convoy extra = (false, (s.count 12 port 8).copyDropped port queue colour convoy) := by
  refine if_pos ?_
  simp only [State.hasRoom, State.freeUnits_count, State.port_count, State.cfg_count] at h ⊢
  omega

theorem State.admitCopy_of_room (h : s.hasRoom port queue colour b.length extra) (hup : s.linkUp port = true) :
    s.admitCopy port queue colour cls origin b convoy extra = (true, ((s.count 12 port 8).count 12 port 9).modPort port (fun p =>
      { p with queues := tset p.queues queue (tget (s.port port).queues queue [] ++
        [{ bytes := b, origin, cls, colour, units := copyUnits b.length, cfg := s.man.cur }]) })) := by
  refine (if_neg ?_).trans ((if_pos ?_).trans ?_)
  · simp only [State.hasRoom, State.freeUnits_count, State.port_count, State.cfg_count] at h ⊢
    omega
  · simpa using hup
  · simp

theorem State.admitCopy_of_room_down (h : s.hasRoom port queue colour b.length extra) (hdown : s.linkUp port = false) :
    s.admitCopy port queue colour cls origin b convoy extra =
      (true, ((s.count 12 port 8).count 12 port 9).count 12 port 14) := by
  refine (if_neg ?_).trans (if_neg ?_)
  · simp only [State.hasRoom, State.freeUnits_count, State.port_count, State.cfg_count] at h ⊢
    omega
  · simp [hdown]

end

/-- A copy's admission: its test, the count of copies that came, and its queue. -/
theorem copyAdmitted (s : State) (port queue colour cls : Nat) (origin : Origin) (b : List Byte) (convoy : Bool) (extra : Nat) :
    let r := s.admitCopy port queue colour cls origin b convoy extra
    let room := s.hasRoom port queue colour b.length extra
    (r.1 = true ↔ room) ∧ r.2.counter 12 port 8 = min statMax (s.counter 12 port 8 + 1) ∧
    (room → s.linkUp port = true → tget (r.2.port port).queues queue [] =
      tget (s.port port).queues queue [] ++ [{ bytes := b, origin, cls, colour, units := copyUnits b.length, cfg := s.man.cur }]) ∧
    (¬ room → (r.2.port port).queues = (s.port port).queues) ∧ (∀ k, k ≠ port → r.2.port k = s.port k) := by
  intro r room
  by_cases h : room
  · rcases hup : s.linkUp port
    · have hr : r = _ := State.admitCopy_of_room_down h hup
      rw [hr]
      refine ⟨⟨fun _ => h, fun _ => rfl⟩, ?_, fun _ h => (nomatch h), fun hn => absurd h hn, fun k _ => by simp⟩
      rw [State.counter_count_other (by decide), State.counter_count_other (by decide), State.counter_count_same]
    · have hr : r = _ := State.admitCopy_of_room h hup
      rw [hr]
      refine ⟨⟨fun _ => h, fun _ => rfl⟩, ?_, fun _ _ => by simp, fun hn => absurd h hn, fun k hk => ?_⟩
      · rw [State.counter_of_stat (State.modPort_stat _ _ _), State.counter_count_other (by decide), State.counter_count_same]
      · rw [State.port_modPort_ne _ _ hk, State.port_count, State.port_count]
  · have hr : r = _ := State.admitCopy_of_full h
    obtain ⟨hcount, hport⟩ := (s.count 12 port 8).copyDropped_effect port queue colour convoy
    rw [hr]
    refine ⟨⟨fun h => (nomatch h), fun hr => absurd hr h⟩, ?_, fun hr => absurd hr h, fun _ => ?_, fun k _ => ?_⟩
    · rw [hcount, State.counter_count_same]
    · rw [hport, State.port_count]
    · rw [hport, State.port_count]

end

/-! ### Transmission (R331, R333, R334) -/

/-- No queue holds a copy, so the round robin finds none. -/
theorem drrPick_of_empty {qs : Tbl (List Copy)} (h : ∀ q, tget qs q [] = []) (w : Nat → Nat) (fuel q : Nat) (d : Tbl Nat) :
    drrPick qs w fuel q d = none := by
  induction fuel generalizing q d with
  | zero => rfl
  | succ fuel ih =>
    unfold drrPick
    rw [h q]
    exact ih _ _

section
variable {t port : Nat} {io : HostIo} {s : State}

theorem exec_portTransmit_of_down (h : s.linkUp port = false) : exec (.portTransmit t port io) s = .next (s.tick t) := by
  simp [exec, execPortTransmit, h]

theorem State.pickQueue_of_empty (h : ∀ q, tget (s.port port).queues q [] = []) : s.pickQueue port = none := by
  simp [State.pickQueue, h, drrPick_of_empty h]

theorem exec_portTransmit_of_empty (h : ∀ q, tget (s.port port).queues q [] = []) :
    exec (.portTransmit t port io) s = .next (s.tick t) := by
  simp [exec, execPortTransmit, State.pickQueue_of_empty h]

variable {q : Nat} {c : Copy} {r : List Copy}

/-- Strict priority: the highest of queues 15 to 12 that holds a copy goes first (R331). -/
theorem State.pickQueue_of_strict (hmin : 12 ≤ q) (hmax : q ≤ 15) (hq : tget (s.port port).queues q [] = c :: r)
    (hfirst : ∀ k, q < k → k ≤ 15 → tget (s.port port).queues k [] = []) :
    s.pickQueue port = some (q, (s.port port).deficits, (s.port port).next) := by
  have hfind : [15, 14, 13, 12].find? (fun q => !(tget (s.port port).queues q []).isEmpty) = some q := by
    obtain rfl | rfl | rfl | rfl : q = 12 ∨ q = 13 ∨ q = 14 ∨ q = 15 := by omega
    · simp [hq, hfirst 13, hfirst 14, hfirst 15]
    · simp [hq, hfirst 14, hfirst 15]
    · simp [hq, hfirst 15]
    · simp [hq]
  unfold State.pickQueue
  dsimp only
  rw [hfind]

/-- A port whose queue `q` has given up its oldest copy. -/
def Port.without (p : Port) (q : Nat) (r : List Copy) : Port :=
  { p with queues := if r.isEmpty then terase p.queues q else tset p.queues q r }

theorem Port.tget_without_same (p : Port) (q : Nat) (r : List Copy) : tget (p.without q r).queues q [] = r := by
  cases r with
  | nil => exact congrArg (fun o : Option (List Copy) => o.getD []) (tfind_terase_same _ _)
  | cons c r => exact tget_tset_same _ _ _ _

theorem Port.tget_without_ne (p : Port) {q k : Nat} (r : List Copy) (h : k ≠ q) :
    tget (p.without q r).queues k [] = tget p.queues k [] := by
  cases r with
  | nil => exact congrArg (fun o : Option (List Copy) => o.getD []) (tfind_terase_ne _ h)
  | cons c r => exact tget_tset_ne _ _ _ h.symm

theorem State.egressHit_effect (s : State) (port : Nat) (c : Copy) : (∀ k, (s.egressHit port c).port k = s.port k) ∧
    (s.egressHit port c).egress port c = s.egress port c ∧ (s.egressHit port c).counter 12 port 12 = s.counter 12 port 12 := by
  unfold State.egressHit
  dsimp only
  split
  · refine ⟨fun k => State.port_count _ _ _ _ k, ?_, State.counter_count_other (by decide)⟩
    simp [State.egress, State.cfgOf]
  · exact ⟨fun _ => rfl, rfl, rfl⟩

variable {f : List Byte}

theorem State.modPort_congr {p : Nat} {f g : Port → Port} (h : f (s.port p) = g (s.port p)) : s.modPort p f = s.modPort p g := by
  rw [State.port] at h
  simp [State.modPort, tmod, h]

@[simp] theorem State.egress_modPort (s : State) (p : Nat) (f : Port → Port) (port : Nat) (c : Copy) :
    (s.modPort p f).egress port c = s.egress port c := rfl

theorem exec_portTransmit_of_strict (hup : s.linkUp port = true) (hmin : 12 ≤ q) (hmax : q ≤ 15)
    (hq : tget (s.port port).queues q [] = c :: r) (hfirst : ∀ k, q < k → k ≤ 15 → tget (s.port port).queues k [] = [])
    (hfor : c.for_ = .nothing) (hstep : c.oneStep = false) (hf : s.egress port c = some f) :
    exec (.portTransmit t port io) s = .next (((((s.tick t).modPort port (fun p => p.without q r)).egressHit port c).count 12 port
      12).emitOut (.eth port f)) := by
  have hport : (s.tick t).modPort port (fun p => { p with
      queues := if r.isEmpty then terase p.queues q else tset p.queues q r
      deficits := (s.port port).deficits, next := (s.port port).next }) = (s.tick t).modPort port (fun p => p.without q r) :=
    State.modPort_congr (by rw [State.tick_port]; rfl)
  obtain ⟨-, hegress, -⟩ := ((s.tick t).modPort port (fun p => p.without q r)).egressHit_effect port c
  simp only [exec, execPortTransmit, State.tick_linkUp, hup, State.tick_pickQueue, State.pickQueue_of_strict hmin hmax hq hfirst,
    State.tick_port, hq, Bool.not_true, Bool.false_eq_true, ↓reduceIte, hport, hegress, State.egress_modPort, State.tick_egress, hf,
    hstep, hfor, State.txDone]

/-- A sent frame: its queue, the other queues, the port's count of frames sent, and the other ports. -/
theorem frameSent (hup : s.linkUp port = true) (hmin : 12 ≤ q) (hmax : q ≤ 15)
    (hq : tget (s.port port).queues q [] = c :: r) (hfirst : ∀ k, q < k → k ≤ 15 → tget (s.port port).queues k [] = [])
    (hfor : c.for_ = .nothing) (hstep : c.oneStep = false) (hf : s.egress port c = some f) :
    ∃ s', exec (.portTransmit t port io) s = .next s' ∧ tget (s'.port port).queues q [] = r ∧
      (∀ k, k ≠ q → tget (s'.port port).queues k [] = tget (s.port port).queues k []) ∧ .eth port f ∈ s'.out ∧
      s'.counter 12 port 12 = min statMax (s.counter 12 port 12 + 1) ∧ (∀ k, k ≠ port → s'.port k = s.port k) := by
  obtain ⟨hports, -, hcount⟩ := ((s.tick t).modPort port (fun p => p.without q r)).egressHit_effect port c
  refine ⟨_, exec_portTransmit_of_strict hup hmin hmax hq hfirst hfor hstep hf, ?_, fun k hk => ?_, ?_, ?_, fun k hk => ?_⟩
  · rw [State.port_of_net (State.emitOut_net _ _), State.port_count, hports, State.port_modPort_same, Port.tget_without_same]
  · rw [State.port_of_net (State.emitOut_net _ _), State.port_count, hports, State.port_modPort_same, Port.tget_without_ne _ _ hk,
      State.tick_port]
  · simp [State.emitOut]
  · rw [State.counter_of_stat (State.emitOut_stat _ _), State.counter_count_same, hcount,
      State.counter_of_stat (State.modPort_stat _ _ _), State.tick_counter]
  · rw [State.port_of_net (State.emitOut_net _ _), State.port_count, hports, State.port_modPort_ne _ _ hk, State.tick_port]

end

/-! ### Links (R316, R336, R380, R436) -/

section
variable {t port : Nat} {io : HostIo} {s : State}

theorem exec_ethLinkDown_of_down (h : (s.port port).link = false) : exec (.ethLinkDown t port io) s = .next (s.tick t) := by
  simp [exec, execEthLinkDown, h]

theorem State.flushPort_failsTx (s : State) (p stat : Nat) (cq : Option Nat) : (s.emptied p stat).FailsTx (s.flushPort p stat cq) :=
  foldl_rel State.FailsTx .refl (fun _ _ _ => .trans) (fun s (c : Copy) => s.txFail c.for_ cq) (fun s _ => s.txFail_failsTx _ _) _ _

theorem State.endEqFreeze_effect (s : State) (p : Nat) :
    (s.endEqFreeze p).net = s.net ∧ (s.endEqFreeze p).stat = s.stat := by
  unfold State.endEqFreeze
  split
  · exact ⟨State.raiseDev_net _ _ _ _ _, State.raiseDev_stat _ _ _ _ _⟩
  · exact ⟨rfl, rfl⟩

theorem linkLost (hup : (s.port port).link = true) (hmax : s.counter 12 port 14 ≤ statMax) :
    ∃ s', exec (.ethLinkDown t port io) s = .next s' ∧
      (s'.port port).link = false ∧ (s'.port port).queues = [] ∧ (∀ k, k ≠ port → s'.port k = s.port k) ∧
      s'.counter 12 port 14 = min statMax (s.counter 12 port 14 + ((s.port port).queues.flatMap (·.2)).length) := by
  let s1 := (s.tick t).modPort port (fun p => { p with link := false })
  have hf := s1.flushPort_failsTx port 14 io.cqFault
  obtain ⟨hnet, hstat⟩ := (s1.flushPort port 14 io.cqFault).endEqFreeze_effect port
  have hport (k : Nat) : (((s1.flushPort port 14 io.cqFault).endEqFreeze port).raiseDev 0x0A01 (srcPort port) 0).port k =
      (s1.emptied port 14).port k := by
    rw [State.port_of_net (State.raiseDev_net _ _ _ _ _), State.port_of_net hnet, hf.port]
  refine ⟨_, if_neg ?_, ?_, ?_, fun k hk => ?_, ?_⟩
  · simp [hup]
  · rw [hport, State.emptied, State.port_modPort_same, State.port_count, State.port_modPort_same]
  · rw [hport, State.emptied, State.port_modPort_same]
  · rw [hport, State.emptied, State.port_modPort_ne _ _ hk, State.port_count, State.port_modPort_ne _ _ hk, State.tick_port]
  · rw [State.counter_of_stat (State.raiseDev_stat _ _ _ _ _), State.counter_of_stat hstat, hf.counter, State.emptied,
      State.counter_of_stat (State.modPort_stat _ _ _), State.counter_count_by, State.port_modPort_same, State.tick_port,
      State.counter_of_stat (State.modPort_stat _ _ _), State.tick_counter]
    rwa [State.counter_of_stat (State.modPort_stat _ _ _), State.tick_counter]

theorem exec_ethLinkUp_of_up (h : (s.port port).link = true) : exec (.ethLinkUp t port) s = .next (s.tick t) := by
  simp [exec, execEthLinkUp, h]

/-- A DFE tap's code, of a value left open. -/
def dfeTap (b i : Nat) : Int := ((b / 63 ^ i % 63 : Nat) : Int) - 31

theorem dfeTap_bounds (b i : Nat) : -31 ≤ dfeTap b i ∧ dfeTap b i ≤ 31 := by
  have : b / 63 ^ i % 63 < 63 := Nat.mod_lt _ (by decide)
  unfold dfeTap
  omega

/-- The codes that an adaptation leaves in a port's equaliser, of three values left open. -/
def Port.adapted (p : Port) (a b c : Nat) : Port :=
  { p with ctle := a % 16, dfe := [dfeTap b 0, dfeTap b 1, dfeTap b 2, dfeTap b 3, dfeTap b 4], eye := c % 256 }

/-- A port's equaliser adapts, and a code that stands at its limit is reported once (R380). -/
def State.adaptEq (s : State) (port : Nat) : State :=
  let s3 := s.free.2.free.2.free.2
  let p := (s.port port).adapted s.free.1 s.free.2.free.1 s.free.2.free.2.free.1
  let at_ := p.ctle == 0 || p.ctle == 15 || p.dfe.any (fun x => decide (31 ≤ x.natAbs))
  let s4 := s3.modPort port (fun p => p.adapted s.free.1 s.free.2.free.1 s.free.2.free.2.free.1)
  let s5 : State := { s4 with isl := { s4.isl with eqLimit := lput s4.isl.eqLimit port at_ } }
  if at_ && !s4.isl.eqLimit.contains port then s5.raiseDev 0x0CC4 (srcIsland 98) 1 else s5

theorem State.adaptEq_port (s : State) (port : Nat) :
    (∃ a b c, (s.adaptEq port).port port = (s.port port).adapted a b c) ∧ ∀ k, k ≠ port → (s.adaptEq port).port k = s.port k := by
  have hnet : (s.adaptEq port).net = (s.modPort port (fun p => p.adapted s.free.1 s.free.2.free.1 s.free.2.free.2.free.1)).net := by
    unfold State.adaptEq
    dsimp only
    split
    · exact State.raiseDev_net _ _ _ _ _
    · rfl
  exact ⟨⟨_, _, _, (State.port_of_net hnet _).trans (State.port_modPort_same _ _ _)⟩,
    fun k hk => (State.port_of_net hnet k).trans (State.port_modPort_ne _ _ hk)⟩

theorem Port.adapted_bounds (p : Port) (a b c : Nat) :
    (p.adapted a b c).ctle < 16 ∧ ∀ x ∈ (p.adapted a b c).dfe, -31 ≤ x ∧ x ≤ 31 := by
  refine ⟨Nat.mod_lt _ (by decide), fun x hx => ?_⟩
  simp only [Port.adapted, List.mem_cons, List.not_mem_nil, or_false] at hx
  obtain rfl | rfl | rfl | rfl | rfl := hx <;> exact dfeTap_bounds _ _

/-- A port's link stands, after what its equaliser adapted (R316, R436). -/
def State.portLinked (s : State) (port : Nat) : State :=
  (({ s with test := { s.test with loopback := s.test.loopback.filter (· ≠ port) } } : State).modPort port
    (fun p => { p with link := true })).raiseDev 0x0A01 (srcPort port) 1

theorem State.portLinked_effect (s : State) (port : Nat) : (s.portLinked port).port port = { s.port port with link := true } ∧
    (∀ k, k ≠ port → (s.portLinked port).port k = s.port k) ∧ port ∉ (s.portLinked port).test.loopback := by
  refine ⟨?_, fun k hk => ?_, ?_⟩
  · exact (State.port_of_net (State.raiseDev_net _ _ _ _ _) _).trans (State.port_modPort_same _ _ _)
  · exact (State.port_of_net (State.raiseDev_net _ _ _ _ _) _).trans (State.port_modPort_ne _ _ hk)
  · rw [State.portLinked, State.raiseDev_test]
    simp

theorem exec_ethLinkUp_of_down {c : NetPortCfg} (hc : tfind s.cfg.ports port = some c) (hon : c.enable = true)
    (hdown : (s.port port).link = false) : exec (.ethLinkUp t port) s =
      .next ((if port < 2 then (s.tick t).adaptEq port else s.tick t).portLinked port) := by
  simp only [exec, execEthLinkUp, State.tick_cfg, hc, hon, State.tick_port, hdown, Bool.not_true, Bool.or_self, Bool.false_eq_true,
    ↓reduceIte]
  rfl

theorem linkFound {c : NetPortCfg} (hc : tfind s.cfg.ports port = some c) (hon : c.enable = true) (hdown : (s.port port).link = false) :
    ∃ s', exec (.ethLinkUp t port) s = .next s' ∧ (s'.port port).link = true ∧ (s'.port port).queues = (s.port port).queues ∧
      (port < 2 → (s'.port port).ctle < 16 ∧ ∀ x ∈ (s'.port port).dfe, -31 ≤ x ∧ x ≤ 31) ∧
      (∀ k, k ≠ port → s'.port k = s.port k) ∧ port ∉ s'.test.loopback := by
  refine ⟨_, exec_ethLinkUp_of_down hc hon hdown, ?_⟩
  obtain ⟨hport, hports, hloop⟩ := State.portLinked_effect (if port < 2 then (s.tick t).adaptEq port else s.tick t) port
  by_cases hp : port < 2
  · rw [if_pos hp] at hport hports hloop ⊢
    obtain ⟨⟨a, b, c, hadapt⟩, hothers⟩ := (s.tick t).adaptEq_port port
    rw [hport, hadapt]
    refine ⟨rfl, ?_, fun _ => Port.adapted_bounds ((s.tick t).port port) a b c, fun k hk => ?_, hloop⟩
    · rw [State.tick_port]
      rfl
    · rw [hports k hk, hothers k hk, State.tick_port]
  · rw [if_neg hp] at hport hports hloop ⊢
    rw [hport]
    exact ⟨rfl, by rw [State.tick_port], fun h => absurd h hp, fun k hk => by rw [hports k hk, State.tick_port], hloop⟩

end

/-! ### The steward's frames, and the PF's queue operations (R327, R335, R338) -/

section
variable {t port : Nat} {io : HostIo} {s : State}

theorem exec_stewardNetRx_of_idle (h : s.mbx.state ≠ .serving ∨ s.net.stewardIn = []) :
    exec (.stewardNetRx t) s = .next (s.tick t) := by
  by_cases hs : s.mbx.state = .serving
  · simp [exec, execStewardNetRx, hs, h.resolve_left (not_not_intro hs)]
  · simp [exec, execStewardNetRx, hs]

theorem exec_stewardNetRx_of_frame {p : Nat} {f : List Byte} {r : List (Nat × List Byte)} (hs : s.mbx.state = .serving)
    (h : s.net.stewardIn = (p, f) :: r) :
    exec (.stewardNetRx t) s = .next (((s.tick t).modNet (fun n => { n with stewardIn := r })).stewardAnswer p f) := by
  simp [exec, execStewardNetRx, hs, h]

theorem State.txFail_stewardIn (s : State) (w : TxFor) (cq : Option Nat) : (s.txFail w cq).net.stewardIn = s.net.stewardIn := by
  rw [(s.txFail_failsTx w cq).frame]

theorem State.admitCopy_stewardIn (s : State) (port queue colour cls : Nat) (origin : Origin) (b : List Byte) (convoy : Bool)
    (extra : Nat) (w : TxFor) (one : Bool) :
    (s.admitCopy port queue colour cls origin b convoy extra w one).2.net.stewardIn = s.net.stewardIn := by
  unfold State.admitCopy
  dsimp only
  split
  · split
    · simp
    · exact Eq.trans (b := ((s.count 12 port 8).count 12 port 11).net.stewardIn) rfl (by simp)
  · split
    · exact Eq.trans (b := ((s.count 12 port 8).count 12 port 9).net.stewardIn) rfl (by simp)
    · rw [State.txFail_stewardIn]
      simp

theorem State.sendMade_stewardIn (s : State) (port : Nat) (origin : Origin) (b : List Byte) (w : TxFor) (one : Bool) :
    (s.sendMade port origin b w one).net.stewardIn = s.net.stewardIn := State.admitCopy_stewardIn _ _ _ _ _ _ _ _ _ _ _

theorem State.igmpReport_stewardIn (s : State) (port incl excl : Nat) :
    (s.igmpReport port incl excl).net.stewardIn = s.net.stewardIn := by
  unfold State.igmpReport
  dsimp only
  split
  · rfl
  · split
    · rfl
    · exact State.sendMade_stewardIn _ _ _ _ _ _

theorem State.stewardAnswer_stewardIn (s : State) (port : Nat) (f : List Byte) :
    (s.stewardAnswer port f).net.stewardIn = s.net.stewardIn := by
  unfold State.stewardAnswer
  dsimp only
  split
  · rfl
  · split
    · split
      · exact State.sendMade_stewardIn _ _ _ _ _ _
      · rfl
    · split
      · split
        · exact State.igmpReport_stewardIn _ _ _ _
        · rfl
      · split
        · exact State.sendMade_stewardIn _ _ _ _ _ _
        · rfl
      · split
        · exact State.sendMade_stewardIn _ _ _ _ _ _
        · split
          · exact State.sendMade_stewardIn _ _ _ _ _ _
          · rfl
      · rfl

variable {q : Nat} {o : SqOp} {rest : List SqOp}

theorem exec_netTx_of_refused (h : takeOp 0x0A08 (s.qp 0 q).ops = some (o, rest))
    (hbad : onesOf 4 (fld (o.params.getD 0 0) 3 0) = [] ∨ o.dataLen < 60 ∨ 2044 < o.dataLen ∨ fld (o.params.getD 0 0) 9 8 = 3) :
    exec (.netTx t q io) s = .next (((s.tick t).modQp 0 q (fun p => { p with ops := rest })).opDone 0 q o 0x0A06 [] io) := by
  simp only [exec, execNetTx, State.tick_qp, h]
  refine if_pos ?_
  obtain hp | hlen | hlen | hcol := hbad
  · exact .inl (by rw [hp]; rfl)
  · exact .inr (.inr (.inl hlen))
  · exact .inr (.inr (.inr (.inl hlen)))
  · exact .inr (.inr (.inr (.inr hcol)))

theorem exec_netTx_of_one_port {n : Nat} {c : NetPortCfg} {s2 : State} (h : takeOp 0x0A08 (s.qp 0 q).ops = some (o, rest))
    (hn : onesOf 4 (fld (o.params.getD 0 0) 3 0) = [n]) (hc : tfind s.cfg.ports n = some c) (hon : c.enable = true)
    (hmin : 60 ≤ o.dataLen) (hmax : o.dataLen ≤ 2044) (hcol : fld (o.params.getD 0 0) 9 8 ≠ 3) (hstamp : bit (o.params.getD 0 0) 15 = false)
    (hread : ((s.tick t).modQp 0 q (fun p => { p with ops := rest })).hostRead 0 o.dataIova o.dataLen 3 io.dataFault = .ok s2) :
    let w := o.params.getD 0 0
    let r := s2.admitCopy n (fld w 7 4) (fld w 9 8) (fld w 14 12) .pf ((io.data ++ List.replicate o.dataLen 0).take o.dataLen) false
    exec (.netTx t q io) s = .next (r.2.opDone 0 q o 0 (toLe 4 (if r.1 then 2 ^ n else 0) ++ toLe 8 0) io) := by
  intro w r
  have hcfg : ((s.tick t).modQp 0 q (fun p => { p with ops := rest })).cfg = s.cfg := by
    rw [State.cfg_of_man (State.modQp_man _ _ _ _), State.tick_cfg]
  simp only [exec, execNetTx, State.tick_qp, h]
  refine (if_neg ?_).trans ?_
  · rw [hn, hcfg]
    rintro (hnil | hoff | hlen | hlen | hthree)
    · cases hnil
    · simp [hc, hon] at hoff
    · omega
    · omega
    · exact hcol hthree
  · rw [hread, hn]
    simp only [hstamp, Bool.false_eq_true, ↓reduceIte, List.foldl_cons, List.foldl_nil]
    rcases hr : r with ⟨admitted, s3⟩
    have hadmit : s2.admitCopy n (fld w 7 4) (fld w 9 8) (fld w 14 12) .pf ((io.data ++ List.replicate o.dataLen 0).take o.dataLen)
        (decide (2 ≤ [n].length)) = (admitted, s3) := hr
    rw [hadmit]
    cases admitted
    · rfl
    · simp

theorem exec_netRxPost_of_short (h : takeOp 0x0A09 (s.qp 0 q).ops = some (o, rest)) (hlen : o.resLen < 2048) :
    exec (.netRxPost t q io) s = .next (((s.tick t).modQp 0 q (fun p => { p with ops := rest })).opDone 0 q o 0x0011 [] io) := by
  simp [exec, execNetRxPost, h, hlen]

theorem exec_netRxPost_of_taken (h : takeOp 0x0A09 (s.qp 0 q).ops = some (o, rest)) (hlen : 2048 ≤ o.resLen) :
    exec (.netRxPost t q io) s = .next { ((s.tick t).modQp 0 q (fun p => { p with ops := rest })) with
      net := { s.net with rxPosts := s.net.rxPosts ++
        [{ cid := o.cid, noCqe := o.noCqe, resIova := o.resIova, resLen := o.resLen, sqHead := o.sqHead, qp := q }] } } := by
  simp [exec, execNetRxPost, h, hlen.not_gt, State.modNet]

end

/-- Settles O47: receipt by what the frame's port and bytes say, admission by the copy's room, and an equation for each step. -/
theorem ethernet : Obligations.Ethernet := by
  intro t port io s s0
  refine ⟨fun f ok => ⟨exec_frameReceived_of_unset, fun c h => ⟨exec_frameReceived_of_disabled h, fun hc hl =>
      exec_frameReceived_of_down h hc hl, fun hc hl => ⟨exec_frameReceived_of_short h hc hl, exec_frameReceived_of_long h hc hl,
        fun hmin hmax => ?received⟩⟩⟩, fun queue colour cls origin b convoy extra => ?admitted, exec_portTransmit_of_down,
    exec_portTransmit_of_empty, fun q c r f hup hmin hmax hq hfirst hfor hstep hf _ => frameSent hup hmin hmax hq hfirst hfor hstep hf,
    linkLost, exec_ethLinkDown_of_down, fun c hc hon hdown => linkFound hc hon hdown, exec_ethLinkUp_of_up, exec_stewardNetRx_of_idle,
    fun p f r hs h => ⟨_, exec_stewardNetRx_of_frame hs h, ?_, rfl⟩, fun q o rest h => ⟨exec_netTx_of_refused h,
      fun n c s2 hn hc hon hmin hmax hcol hstamp hread => exec_netTx_of_one_port h hn hc hon hmin hmax hcol hstamp hread⟩,
    fun q o rest h => ⟨exec_netRxPost_of_short h, exec_netRxPost_of_taken h⟩⟩
  case received =>
    refine ⟨?_, ?_, ?_⟩
    · rintro rfl
      exact exec_frameReceived_of_bad_check h hc hl hmin hmax
    · rintro rfl hf
      exact exec_frameReceived_of_filtered h hc hl hmin hmax hf
    · rintro rfl hf
      exact ⟨exec_frameReceived_of_pause h hc hl hmin hmax hf,
        fun m he hm hpf => exec_frameReceived_of_malformed h hc hl hmin hmax hf he hm hpf,
        fun n dest qos he hm hd hlocal => ⟨exec_frameReceived_of_one_port h hc hl hmin hmax hf he hm hd hlocal,
          exec_frameReceived_of_no_port h hc hl hmin hmax hf he hm hd hlocal⟩⟩
  case admitted => exact copyAdmitted s port queue colour cls origin b convoy extra
  case _ => rw [State.stewardAnswer_stewardIn]; rfl

end Sys2Proof.Machine
end

section
/-! PROOFS. RTP packets, blocks, buses, prompts and the emergency prompt (O45). -/

namespace Sys2Proof.Machine
open Sys2Proof.Say

/-! ### A receive stream and its legs (R294, R300) -/

section
variable {s s' : State}

theorem State.rxs_of_aud (h : s'.aud = s.aud) (n : Nat) : s'.rxs n = s.rxs n := by simp [State.rxs, h]

@[simp] theorem State.rxs_modRx_same (s : State) (n : Nat) (f : RxStream → RxStream) : (s.modRx n f).rxs n = f (s.rxs n) := by
  simp [State.rxs, State.modRx, State.modAud]

theorem State.rxs_modRx_ne (s : State) {n k : Nat} (f : RxStream → RxStream) (h : k ≠ n) : (s.modRx n f).rxs k = s.rxs k := by
  simp [State.rxs, State.modRx, State.modAud, h.symm]

@[simp] theorem State.rxs_count (s : State) (g i by_ m n : Nat) : (s.count g m i by_).rxs n = s.rxs n :=
  State.rxs_of_aud (by simp) n

@[simp] theorem RxStream.leg_setLeg_same (x : RxStream) (l : Nat) (v : Leg) : (x.setLeg l v).leg l = v := by
  by_cases h : l = 0 <;> simp [RxStream.leg, RxStream.setLeg, h]

theorem RxStream.leg_setLeg_other (x : RxStream) {l : Nat} (v : Leg) (h : l ≤ 1) : (x.setLeg l v).leg (1 - l) = x.leg (1 - l) := by
  obtain rfl | rfl : l = 0 ∨ l = 1 := by omega
  · rfl
  · rfl

@[simp] theorem RxStream.buf_setLeg (x : RxStream) (l : Nat) (v : Leg) : (x.setLeg l v).buf = x.buf := by
  unfold RxStream.setLeg
  split <;> rfl

/-- What a packet's samples leave of their stream: its legs. -/
structure State.KeepsLegs (n : Nat) (s s' : State) : Prop where
  leg : ∀ k, (s'.rxs n).leg k = (s.rxs n).leg k

theorem State.KeepsLegs.refl (n : Nat) (s : State) : s.KeepsLegs n s := ⟨fun _ => rfl⟩

theorem State.KeepsLegs.trans {n : Nat} {a b c : State} (h1 : a.KeepsLegs n b) (h2 : b.KeepsLegs n c) : a.KeepsLegs n c :=
  ⟨fun k => (h2.leg k).trans (h1.leg k)⟩

theorem State.KeepsLegs.count {n : Nat} (h : s.KeepsLegs n s') (g m i by_ : Nat) : s.KeepsLegs n (s'.count g m i by_) :=
  ⟨fun k => by rw [State.rxs_count, h.leg]⟩

theorem State.KeepsLegs.modRx {n : Nat} (h : s.KeepsLegs n s') {f : RxStream → RxStream} (hf : ∀ x k, (f x).leg k = x.leg k) :
    s.KeepsLegs n (s'.modRx n f) := ⟨fun k => by rw [State.rxs_modRx_same, hf, h.leg]⟩

@[simp] theorem RxStream.leg_note (x : RxStream) (seq stamp per k : Nat) : (x.note seq stamp per).leg k = x.leg k := by
  unfold RxStream.note
  split
  · rfl
  · dsimp only
    split <;> rfl

/-- A datagram against a play point: late, early, a duplicate, merged, or written (R297, R299). -/
def State.rtpAt (s : State) (n l : Nat) (c : RxCfg) (seq stamp : Nat) (rows : List (List Int)) (p : Nat) : State :=
  if sgn 32 (stamp + 2 ^ 32 - p) < s.khz / 2 then s.count 10 n 4
  else if sgn 32 (stamp + 2 ^ 32 - p) + c.perPacket s.khz > c.offsetSamples s.khz + 2 * c.perPacket s.khz then s.count 10 n 5
  else match tfind (s.rxs n).buf stamp with
    | some f =>
      if f.leg = l then s.count 10 n 6
      else
        let s1 := (s.modRx n (fun x => { x.note seq stamp (c.perPacket s.khz) with
          buf := if f.at_ == s.now && decide (c.legPort l < c.legPort (1 - l)) then (putRows l s.now true stamp rows (s.rxs n).buf).2
            else (s.rxs n).buf })).count 10 n 9
        if (List.range rows.length).all (fun i =>
          match tfind (s.rxs n).buf ((stamp + i) % 2 ^ 32) with | some g => g.samples == rows.getD i [] | none => true) then s1
        else s1.count 10 n 10
    | none => (s.modRx n (fun x => { x.note seq stamp (c.perPacket s.khz) with
        buf := (putRows l s.now false stamp rows (s.rxs n).buf).2, packets := x.packets + 1 })).count 10 n 0
          (putRows l s.now false stamp rows (s.rxs n).buf).1

theorem State.rtpTake_of_play {n l : Nat} {c : RxCfg} {seq stamp p : Nat} {rows : List (List Int)} (h : s.nextPlay n c = some p) :
    s.rtpTake n l c seq stamp rows = s.rtpAt n l c seq stamp rows p := by
  unfold State.rtpTake State.rtpAt
  dsimp only
  rw [h]
  dsimp only
  rw [h]
  rfl

/-- An adaptive stream's first datagram sets its play point (R301). -/
def State.withPlay (s : State) (n : Nat) (c : RxCfg) (stamp : Nat) : State :=
  s.modRx n (fun x => { x with play := some (m32 ((stamp : Int) - (c.offsetSamples s.khz - c.perPacket s.khz : Nat))) })

theorem State.nextPlay_withPlay {n : Nat} {c : RxCfg} (stamp : Nat) (h : s.nextPlay n c = none) :
    (s.withPlay n c stamp).nextPlay n c = some (m32 ((stamp : Int) - (c.offsetSamples s.khz - c.perPacket s.khz : Nat))) := by
  unfold State.nextPlay at h ⊢
  split at h
  next ha => rw [if_pos ha, State.withPlay, State.rxs_modRx_same]
  · cases h

theorem State.rtpTake_of_no_play {n l : Nat} {c : RxCfg} {seq stamp : Nat} {rows : List (List Int)} (h : s.nextPlay n c = none) :
    s.rtpTake n l c seq stamp rows = (s.withPlay n c stamp).rtpAt n l c seq stamp rows
      (m32 ((stamp : Int) - (c.offsetSamples s.khz - c.perPacket s.khz : Nat))) := by
  have hplay := State.nextPlay_withPlay stamp h
  unfold State.rtpTake State.rtpAt
  dsimp only
  rw [h]
  dsimp only
  rw [State.withPlay] at hplay
  rw [hplay]
  rfl

theorem State.KeepsLegs.rtpAt {n : Nat} (h : s.KeepsLegs n s') (l : Nat) (c : RxCfg) (seq stamp : Nat) (rows : List (List Int)) (p : Nat) :
    s.KeepsLegs n (s'.rtpAt n l c seq stamp rows p) := by
  have hnote (x : RxStream) (k : Nat) := x.leg_note seq stamp (c.perPacket s'.khz) k
  unfold State.rtpAt
  split
  · exact h.count _ _ _ _
  split
  · exact h.count _ _ _ _
  split
  · split
    · exact h.count _ _ _ _
    · dsimp only
      split
      · refine State.KeepsLegs.count (State.KeepsLegs.modRx h ?_) _ _ _ _
        exact hnote
      · refine State.KeepsLegs.count (State.KeepsLegs.count (State.KeepsLegs.modRx h ?_) _ _ _ _) _ _ _ _
        exact hnote
  · refine State.KeepsLegs.count (State.KeepsLegs.modRx h ?_) _ _ _ _
    exact hnote

theorem State.rtpTake_keepsLegs (s : State) (n l : Nat) (c : RxCfg) (seq stamp : Nat) (rows : List (List Int)) :
    s.KeepsLegs n (s.rtpTake n l c seq stamp rows) := by
  rcases h : s.nextPlay n c with _ | p
  · rw [State.rtpTake_of_no_play h]
    refine State.KeepsLegs.rtpAt (State.KeepsLegs.modRx (.refl n s) ?_) _ _ _ _ _ _
    exact fun _ _ => rfl
  · rw [State.rtpTake_of_play h]
    exact (State.KeepsLegs.refl n s).rtpAt _ _ _ _ _ _

theorem State.leg_legHeard (s : State) (n l : Nat) (ssrc : Word) :
    ((s.legHeard n l ssrc).rxs n).leg l = { state := .running, ssrc := some ssrc, heard := s.now } := by
  unfold State.legHeard
  dsimp only
  split
  · rw [State.rxs_of_aud (State.raiseDev_aud _ _ _ _ _), State.rxs_modRx_same, RxStream.leg_setLeg_same]
  · rw [State.rxs_modRx_same, RxStream.leg_setLeg_same]

theorem State.khz_of_ver (haud : s'.aud.ver = s.aud.ver) (hman : s'.man = s.man) : s'.khz = s.khz := by
  simp [State.khz, State.audCfg, State.cfgOf, haud, hman]

@[simp] theorem State.khz_legHeard (s : State) (n l : Nat) (ssrc : Word) : (s.legHeard n l ssrc).khz = s.khz := by
  unfold State.legHeard
  dsimp only
  split
  · refine State.khz_of_ver ?_ (State.raiseDev_man _ _ _ _ _)
    rw [State.raiseDev_aud]
    rfl
  · rfl

/-! ### A packet (R294, R297) -/

theorem rtpPacket_ok {c : RxCfg} {pt khz : Nat} {body : List Byte} {source : Word} (hpt : pt = c.payloadType)
    (hlen : body.length = c.payload khz) (hsrc : c.source = 0 ∨ source = c.source) :
    ¬ (pt ≠ c.payloadType ∨ body.length ≠ c.payload khz ∨ (c.source ≠ 0 ∧ source ≠ c.source)) := by
  rintro (hbad | hbad | ⟨hset, hother⟩)
  · exact hbad hpt
  · exact hbad hlen
  · exact hsrc.elim hset hother

section
variable {t n l : Nat} {p : RtpPkt}

theorem exec_rtpPacket_of_unset (h : tfind s.audCfg.rx n = none) : exec (.rtpPacket t n l p) s = .next (s.tick t) := by
  simp [exec, execRtpPacket, h]

variable {c : RxCfg} (h : tfind s.audCfg.rx n = some c)

/-- A packet is looked at: its stream is enabled and has the leg. -/
theorem rtpPacket_guard (hon : c.enable = true) (hl : l ≤ 1) (hb : l = 1 → c.portB.isSome = true) :
    (!c.enable || decide (1 < l) || (l == 1 && c.portB.isNone)) = false := by
  obtain rfl | rfl : l = 0 ∨ l = 1 := by omega
  · simp [hon]
  · simp [hon, hb rfl]

variable (hguard : (!c.enable || decide (1 < l) || (l == 1 && c.portB.isNone)) = false)
include h hguard

theorem exec_rtpPacket_of_bad_form (hp : rtpParse p.bytes = none) : exec (.rtpPacket t n l p) s = .next ((s.tick t).count 10 n 12) := by
  simp only [exec, execRtpPacket, State.tick_audCfg, h, hguard, hp, Bool.false_eq_true, ↓reduceIte]

variable {pt seq stamp : Nat} {ssrc : Word} {body : List Byte} (hp : rtpParse p.bytes = some (pt, seq, stamp, ssrc, body))
include hp

theorem exec_rtpPacket_of_other (hbad : pt ≠ c.payloadType ∨ body.length ≠ c.payload s.khz ∨ (c.source ≠ 0 ∧ p.source ≠ c.source)) :
    exec (.rtpPacket t n l p) s = .next ((s.tick t).count 10 n 12) := by
  simp only [exec, execRtpPacket, State.tick_audCfg, State.tick_khz, h, hguard, hp, Bool.false_eq_true, ↓reduceIte]
  exact if_pos hbad

variable (hpt : pt = c.payloadType) (hlen : body.length = c.payload s.khz) (hsrc : c.source = 0 ∨ p.source = c.source)
include hpt hlen hsrc

theorem exec_rtpPacket_of_other_source {x : Word} (hx : ((s.rxs n).leg l).ssrc = some x) (hne : x ≠ ssrc) :
    exec (.rtpPacket t n l p) s = .next ((s.tick t).count 10 n 11) := by
  simp only [exec, execRtpPacket, State.tick_audCfg, State.tick_khz, State.tick_rxs, h, hguard, hp, hx, Bool.false_eq_true, ↓reduceIte]
  exact (if_neg (rtpPacket_ok hpt hlen hsrc)).trans (if_pos (by simpa using hne))

theorem exec_rtpPacket_of_accepted (hx : ∀ x, ((s.rxs n).leg l).ssrc = some x → x = ssrc) :
    exec (.rtpPacket t n l p) s = .next (((s.tick t).legHeard n l ssrc).rtpTake n l c seq stamp
      (rowsOf c.encoding c.channels (c.perPacket s.khz) body)) := by
  simp only [exec, execRtpPacket, State.tick_audCfg, State.tick_khz, State.khz_legHeard, State.tick_rxs, h, hguard, hp,
    Bool.false_eq_true, ↓reduceIte]
  refine (if_neg (rtpPacket_ok hpt hlen hsrc)).trans (if_neg ?_)
  split
  next x hs => simp [hx x hs]
  · exact Bool.false_ne_true

end

/-- An accepted packet's leg runs, locked to its source. -/
theorem packetTaken (s : State) (n l : Nat) (ssrc : Word) (c : RxCfg) (seq stamp : Nat) (rows : List (List Int)) :
    let s' := (s.legHeard n l ssrc).rtpTake n l c seq stamp rows
    ((s'.rxs n).leg l).state = .running ∧ ((s'.rxs n).leg l).ssrc = some ssrc ∧ ((s'.rxs n).leg l).heard = s.now := by
  intro s'
  rw [((s.legHeard n l ssrc).rtpTake_keepsLegs n l c seq stamp rows).leg, State.leg_legHeard]
  exact ⟨rfl, rfl, rfl⟩

/-! ### A packet's samples in their positions (R297) -/

theorem tfind_putRows_of_filled {leg at_ : Nat} {k : Nat} {v : Filled} (rows : List (List Int)) (p : Nat) (t : Tbl Filled)
    (h : tfind t k = some v) : tfind (putRows leg at_ false p rows t).2 k = some v := by
  induction rows generalizing p t with
  | nil => exact h
  | cons r rs ih =>
    refine ih _ _ ?_
    split
    next hfree =>
      have hp : p ≠ k := by
        rintro rfl
        simp [tmem, h] at hfree
      rwa [tfind_tset_ne _ _ hp]
    · exact h

theorem tfind_putRows_of_free {leg at_ : Nat} (rows : List (List Int)) {p : Nat} (t : Tbl Filled) (hp : p < 2 ^ 32)
    (hlen : rows.length < 2 ^ 32) {i : Nat} (hi : i < rows.length) (h : tfind t ((p + i) % 2 ^ 32) = none) :
    tfind (putRows leg at_ false p rows t).2 ((p + i) % 2 ^ 32) = some { samples := rows.getD i [], leg, at_ } := by
  induction rows generalizing p t i with
  | nil => cases hi
  | cons r rs ih =>
    cases i with
    | zero =>
      rw [Nat.add_zero, Nat.mod_eq_of_lt hp] at h ⊢
      refine tfind_putRows_of_filled rs _ _ ?_
      have hfree : (!tmem t p || false) = true := by simp [tmem, h]
      rw [if_pos hfree]
      exact tfind_tset_same _ _ _
    | succ i =>
      have hpos : (p + (i + 1)) % 2 ^ 32 = ((p + 1) % 2 ^ 32 + i) % 2 ^ 32 := by omega
      have hne : p ≠ (p + (i + 1)) % 2 ^ 32 := by
        rw [List.length_cons] at hlen hi
        omega
      rw [hpos] at h hne ⊢
      refine ih _ (Nat.mod_lt _ (by decide)) (by rw [List.length_cons] at hlen; omega) (Nat.lt_of_succ_lt_succ hi) ?_
      split
      · rwa [tfind_tset_ne _ _ hne]
      · exact h

theorem State.rtpAt_of_new {n l : Nat} {c : RxCfg} {seq stamp p : Nat} {rows : List (List Int)}
    (hlate : ¬ sgn 32 (stamp + 2 ^ 32 - p) < s.khz / 2)
    (hearly : ¬ sgn 32 (stamp + 2 ^ 32 - p) + c.perPacket s.khz > c.offsetSamples s.khz + 2 * c.perPacket s.khz)
    (hnew : tfind (s.rxs n).buf stamp = none) :
    (s.rtpAt n l c seq stamp rows p).rxs n = { (s.rxs n).note seq stamp (c.perPacket s.khz) with
      buf := (putRows l s.now false stamp rows (s.rxs n).buf).2, packets := (s.rxs n).packets + 1 } := by
  rw [State.rtpAt, if_neg hlate, if_neg hearly, hnew]
  dsimp only
  rw [State.rxs_count, State.rxs_modRx_same]

/-- The fate of a synchronous stream's datagram by its distance from the play point. -/
theorem datagramPlaced (s : State) (n l seq stamp : Nat) (c : RxCfg) (rows : List (List Int)) (hsync : c.adaptive = false) :
    let d := sgn 32 (stamp + 2 ^ 32 - s.playPoint c)
    let x := s.rxs n
    let per := c.perPacket s.khz
    let off := c.offsetSamples s.khz
    (d < s.khz / 2 → s.rtpTake n l c seq stamp rows = s.count 10 n 4) ∧
    ((s.khz / 2 : Nat) ≤ d → ((off + 2 * per : Nat) : Int) < d + per → s.rtpTake n l c seq stamp rows = s.count 10 n 5) ∧
    ((s.khz / 2 : Nat) ≤ d → d + per ≤ ((off + 2 * per : Nat) : Int) →
      (∀ f, tfind x.buf stamp = some f → f.leg = l → s.rtpTake n l c seq stamp rows = s.count 10 n 6) ∧
      (tfind x.buf stamp = none → stamp < 2 ^ 32 → rows.length < 2 ^ 32 →
        ((s.rtpTake n l c seq stamp rows).rxs n).packets = x.packets + 1 ∧
        ∀ i, i < rows.length → tfind x.buf ((stamp + i) % 2 ^ 32) = none →
          tfind ((s.rtpTake n l c seq stamp rows).rxs n).buf ((stamp + i) % 2 ^ 32) =
            some { samples := rows.getD i [], leg := l, at_ := s.now })) := by
  intro d x per off
  have htake : s.rtpTake n l c seq stamp rows = s.rtpAt n l c seq stamp rows (s.playPoint c) :=
    State.rtpTake_of_play (if_neg (by simp [hsync]))
  rw [htake]
  refine ⟨fun hd => if_pos hd, fun hd hper => ?early, fun hd hper => ⟨fun f hf hleg => ?twice, fun hnew hstamp hlen => ?fresh⟩⟩
  all_goals have hlate : ¬ sgn 32 (stamp + 2 ^ 32 - s.playPoint c) < s.khz / 2 := by omega
  case early => exact (if_neg hlate).trans (if_pos (by omega))
  all_goals have hearly : ¬ sgn 32 (stamp + 2 ^ 32 - s.playPoint c) + c.perPacket s.khz >
    c.offsetSamples s.khz + 2 * c.perPacket s.khz := by omega
  case twice =>
    rw [State.rtpAt, if_neg hlate, if_neg hearly, hf]
    exact if_pos hleg
  case fresh =>
    rw [State.rtpAt_of_new hlate hearly hnew]
    exact ⟨rfl, fun i hi hfree => tfind_putRows_of_free rows _ hstamp hlen hi hfree⟩

end

/-! ### A silent leg and the adaptive ratio (R300, R301) -/

section
variable {s : State} {t n l : Nat}

theorem exec_legStale_of_not_running (h : ((s.rxs n).leg l).state ≠ .running) : exec (.legStale t n l) s = .next (s.tick t) :=
  if_pos (.inl h)

theorem exec_legStale_of_running (hl : l ≤ 1) (h : ((s.rxs n).leg l).state = .running) :
    ∃ s', exec (.legStale t n l) s = .next s' ∧
      s'.aud = ((s.tick (max t (((s.rxs n).leg l).heard + s.devN 0x0907 * 1000000))).modRx n (fun x => x.setLeg l
        { x.leg l with state := .stale, ssrc := none })).aud ∧
      s'.now = (s.tick (max t (((s.rxs n).leg l).heard + s.devN 0x0907 * 1000000))).now := by
  refine ⟨_, if_neg ?_, ?_, ?_⟩
  · rintro (hr | h1)
    · exact hr h
    · omega
  · split
    · rfl
    · exact State.raiseDev_aud _ _ _ _ _
  · split
    · rfl
    · exact State.raiseDev_now _ _ _ _ _

theorem legSilent (hl : l ≤ 1) (h : ((s.rxs n).leg l).state = .running) : ∃ s', exec (.legStale t n l) s = .next s' ∧
    ((s'.rxs n).leg l).state = .stale ∧ ((s'.rxs n).leg l).ssrc = none ∧ (s'.rxs n).leg (1 - l) = (s.rxs n).leg (1 - l) ∧
    (s'.rxs n).buf = (s.rxs n).buf ∧ (∀ k, k ≠ n → s'.rxs k = s.rxs k) ∧
    s'.now = (s.tick (max t (((s.rxs n).leg l).heard + s.devN 0x0907 * 1000000))).now := by
  obtain ⟨s', hexec, haud, hnow⟩ := exec_legStale_of_running (t := t) hl h
  have hn : s'.rxs n = (s.rxs n).setLeg l { (s.rxs n).leg l with state := .stale, ssrc := none } := by
    rw [State.rxs_of_aud haud, State.rxs_modRx_same, State.tick_rxs]
  refine ⟨s', hexec, ?_, ?_, ?_, ?_, fun k hk => ?_, hnow⟩
  · rw [hn, RxStream.leg_setLeg_same]
  · rw [hn, RxStream.leg_setLeg_same]
  · rw [hn, RxStream.leg_setLeg_other _ _ hl]
  · rw [hn, RxStream.buf_setLeg]
  · rw [State.rxs_of_aud haud, State.rxs_modRx_ne _ _ hk, State.tick_rxs]

/-- The limits of a ratio: 300 ppm (R301). -/
def ratioHeld (v : Int) : Int := if 30000 < v then 30000 else if v < -30000 then -30000 else v

theorem ratioHeld_bounds (v : Int) : -30000 ≤ ratioHeld v ∧ ratioHeld v ≤ 30000 := by
  unfold ratioHeld
  omega

/-- A stream's ratio by its fill, before its limits (R301). -/
def State.nextRatio (s : State) (n : Nat) (c : RxCfg) : Int := Config.adaptive (s.audCfg.param 0 0x0908).toNat (s.rxs n).ratio
  (((s.rxs n).buf.length : Int) - (c.offsetSamples s.khz - c.perPacket s.khz : Nat))

/-- What a measurement leaves of its stream besides its new ratio, within the bounds of its fill. -/
structure State.Measured (n : Nat) (r : Int) (inside : Prop) (s s' : State) : Prop where
  ratio : (s'.rxs n).ratio = r
  same : inside → s'.rxs n = { s.rxs n with ratio := r }
  others : ∀ k, k ≠ n → s'.rxs k = s.rxs k

theorem State.Measured.outside {r : Int} {inside : Prop} {s1 s2 : State} (h : s.Measured n r True s1) (hout : ¬ inside)
    (hratio : (s2.rxs n).ratio = (s1.rxs n).ratio) (hothers : ∀ k, k ≠ n → s2.rxs k = s1.rxs k) : s.Measured n r inside s2 where
  ratio := hratio.trans h.ratio
  same hin := absurd hin hout
  others k hk := (hothers k hk).trans (h.others k hk)

variable {c : RxCfg} (hc : tfind s.audCfg.rx n = some c)
include hc

theorem exec_adaptiveMeasure_of_synchronous (ha : c.adaptive = false) : exec (.adaptiveMeasure t n) s = .next (s.tick t) := by
  rcases hp : (s.rxs n).play with _ | p <;> simp [exec, execAdaptiveMeasure, hc, hp, ha]

theorem exec_adaptiveMeasure_of_adaptive {p : Nat} (hp : (s.rxs n).play = some p) (hon : c.enable = true) (ha : c.adaptive = true) :
    ∃ s' v, exec (.adaptiveMeasure t n) s = .next s' ∧ s.Measured n (ratioHeld v)
      (c.perPacket s.khz ≤ (s.rxs n).buf.length ∧ (s.rxs n).buf.length ≤ c.offsetSamples s.khz) s' := by
  simp only [exec, execAdaptiveMeasure, State.tick_audCfg, hc, State.tick_rxs, hp, hon, ha, Bool.not_true, Bool.or_self,
    Bool.false_eq_true, ↓reduceIte, State.tick_khz]
  have hmeasured (v : Int) : s.Measured n (ratioHeld v) True ((s.tick t).modRx n (fun x => { x with ratio := ratioHeld v })) := {
    ratio := by rw [State.rxs_modRx_same]
    same := fun _ => by rw [State.rxs_modRx_same, State.tick_rxs]
    others := fun k hk => by rw [State.rxs_modRx_ne _ _ hk, State.tick_rxs] }
  by_cases hhigh : c.offsetSamples s.khz < (s.rxs n).buf.length
  · refine ⟨_, s.nextRatio n c, if_pos hhigh, (hmeasured _).outside (by omega) ?_ fun k hk => ?_⟩
    · rw [State.rxs_modRx_same, State.rxs_count, State.rxDiscard, State.rxs_modRx_same, State.rxs_count]
      simp only [State.rxs_modRx_same, State.tick_rxs]
      rfl
    · rw [State.rxs_modRx_ne _ _ hk, State.rxs_count, State.rxDiscard, State.rxs_modRx_ne _ _ hk, State.rxs_count]
      exact (State.rxs_modRx_ne _ _ hk).trans (State.rxs_modRx_ne _ _ hk).symm
  by_cases hlow : (s.rxs n).buf.length < c.perPacket s.khz
  · refine ⟨_, s.nextRatio n c, (if_neg hhigh).trans (if_pos hlow), (hmeasured _).outside (by omega) ?_ fun k hk => ?_⟩
    · simp only [State.rxs_modRx_same, State.rxs_count, State.tick_rxs]
      rfl
    · rw [State.rxs_modRx_ne _ _ hk, State.rxs_count]
      exact (State.rxs_modRx_ne _ _ hk).trans (State.rxs_modRx_ne _ _ hk).symm
  · refine ⟨_, s.nextRatio n c, (if_neg hhigh).trans (if_neg hlow), ?_, fun _ => ?_, fun k hk => ?_⟩
    · simp only [State.rxs_modRx_same, State.tick_rxs]
      rfl
    · simp only [State.rxs_modRx_same, State.tick_rxs]
      rfl
    · rw [State.rxs_modRx_ne _ _ hk, State.tick_rxs]

theorem ratioMeasured {p : Nat} (hp : (s.rxs n).play = some p) (hon : c.enable = true) (ha : c.adaptive = true) : ∃ s',
    exec (.adaptiveMeasure t n) s = .next s' ∧ -30000 ≤ (s'.rxs n).ratio ∧ (s'.rxs n).ratio ≤ 30000 ∧
    (c.perPacket s.khz ≤ (s.rxs n).buf.length → (s.rxs n).buf.length ≤ c.offsetSamples s.khz →
      s'.rxs n = { s.rxs n with ratio := (s'.rxs n).ratio }) ∧ (∀ k, k ≠ n → s'.rxs k = s.rxs k) := by
  obtain ⟨s', v, hexec, hmeasured⟩ := exec_adaptiveMeasure_of_adaptive (t := t) hc hp hon ha
  obtain ⟨hlow, hhigh⟩ := ratioHeld_bounds v
  refine ⟨s', hexec, ?_, ?_, fun hmin hmax => ?_, hmeasured.others⟩
  · rwa [hmeasured.ratio]
  · rwa [hmeasured.ratio]
  · rw [hmeasured.ratio]
    exact hmeasured.same ⟨hmin, hmax⟩

end

/-! ### Frames played and concealed, and the buses (R298, R306 to R308) -/

theorem RxStream.frames_counts (chans n pos : Nat) (x : RxStream) : (RxStream.frames chans n pos x).1.length = n ∧
    (RxStream.frames chans n pos x).2.1 + (RxStream.frames chans n pos x).2.2.1 = n := by
  induction n generalizing pos x with
  | zero => exact ⟨rfl, rfl⟩
  | succ n ih =>
    rcases hx : x.frame pos chans with ⟨o, hit, x'⟩
    obtain ⟨hrows, hcount⟩ := ih ((pos + 1) % 2 ^ 32) x'
    simp only [RxStream.frames, hx, List.length_cons]
    refine ⟨by rw [hrows], ?_⟩
    rcases hr : RxStream.frames chans n ((pos + 1) % 2 ^ 32) x' with ⟨rows, played, concealed, x''⟩
    rw [hr] at hcount
    cases hit
    · exact congrArg (· + 1) hcount
    · exact (Nat.add_right_comm played 1 concealed).trans (congrArg (· + 1) hcount)

/-- A sample held at 24 bits. -/
def sat24 (v : Int) : Int := if full24 < v then full24 else if v < -full24 - 1 then -full24 - 1 else v

theorem sat24_bounds (v : Int) : -full24 - 1 ≤ sat24 v ∧ sat24 v ≤ full24 := by
  have : full24 = 8388607 := rfl
  unfold sat24
  omega

theorem duckStep_le {depth attack release att : Nat} {active : Bool} (h : att ≤ depth) : duckStep depth attack release active att ≤ depth := by
  unfold duckStep
  split
  · exact Nat.min_le_left _ _
  · exact (Nat.sub_le _ _).trans h

theorem getD_le_of_forall {l : List Nat} {b : Nat} (h : ∀ a ∈ l, a ≤ b) (i : Nat) : l.getD i 0 ≤ b := by
  rcases hi : l[i]? with _ | a
  · simp [List.getD, hi]
  · simpa [List.getD, hi] using h a (List.mem_of_getElem? hi)

/-- A bus's block: its length, its samples within 24 bits, the clipped ones among them, and its attenuations. -/
theorem busMixed (s : State) (tdmIn : List (List Int)) (bus : Nat) (src : List BusSource) (live : Bool) :
    let r := s.busBlock tdmIn bus src live
    r.2.out.length = s.blockLen ∧ (∀ v ∈ r.2.out, -full24 - 1 ≤ v ∧ v ≤ full24) ∧ r.1 ≤ s.blockLen ∧
      ((∀ a ∈ (tget s.aud.buses bus {} : BusState).duck, a ≤ s.devN 0x0903 * 1000) → ∀ a ∈ r.2.duck, a ≤ s.devN 0x0903 * 1000) := by
  intro r
  have hduck : (∀ a ∈ (tget s.aud.buses bus {} : BusState).duck, a ≤ s.devN 0x0903 * 1000) → ∀ a ∈ r.2.duck, a ≤ s.devN 0x0903 * 1000 := by
    intro h a ha
    cases live
    all_goals
      obtain ⟨i, -, rfl⟩ := List.mem_map.mp ha
      exact duckStep_le (getD_le_of_forall h i)
  cases live
  case false =>
    refine ⟨List.length_replicate, fun v hv => ?_, Nat.zero_le _, hduck⟩
    rw [List.eq_of_mem_replicate hv]
    decide
  case true =>
    refine ⟨?_, fun v hv => ?_, ?_, hduck⟩
    · exact (List.length_map _).trans ((List.length_map _).trans List.length_range)
    · obtain ⟨x, -, rfl⟩ := List.mem_map.mp hv
      exact sat24_bounds x
    · exact (List.length_filter_le _ _).trans_eq ((List.length_map _).trans List.length_range)

/-! ### Prompts (R308, R310, R312) -/

section
variable {s : State} {t key : Nat} {p : Prompt}

/-- A prompt that starts at frame `f`, silent on the buses of an emergency. -/
def Prompt.start (p : Prompt) (f : Int) (muted : List Nat) : Prompt :=
  { p with started := true, mutedOn := muted, frame := max p.frame f }

theorem State.startPrompt_of_waiting (h : tfind s.aud.prompts key = some p) (hs : p.started = false) :
    ∃ muted, s.startPrompt key = (s.count 11 0 4 muted.length).modPrompt key (fun p => p.start s.aud.f muted) := by
  unfold State.startPrompt
  rw [h]
  dsimp only
  rw [hs, if_neg Bool.false_ne_true]
  exact ⟨_, rfl⟩

theorem exec_promptStart_of_started (h : tfind s.aud.prompts key = some p) (hs : p.started = true) :
    exec (.promptStart t key) s = .next (s.tick t) := by
  simp [exec, execPromptStart, h, hs]

theorem exec_promptStart_of_waiting (h : tfind s.aud.prompts key = some p) (hs : p.started = false) :
    exec (.promptStart t key) s = .next ((s.tick (max t (s.mediaTime (p.frame + s.aud.diff)))).startPrompt key) := by
  simp [exec, execPromptStart, h, hs]

theorem promptStarts (h : tfind s.aud.prompts key = some p) (hs : p.started = false) :
    ∃ s' q, exec (.promptStart t key) s = .next s' ∧ tfind s'.aud.prompts key = some q ∧ q.started = true ∧
      q.frame = max p.frame s.aud.f ∧ q.clip = p.clip ∧ (∀ k, k ≠ key → tfind s'.aud.prompts k = tfind s.aud.prompts k) ∧
      s'.now = (s.tick (max t (s.mediaTime (p.frame + s.aud.diff)))).now := by
  have haud := s.tick_aud (max t (s.mediaTime (p.frame + s.aud.diff)))
  obtain ⟨muted, hstart⟩ := State.startPrompt_of_waiting (s := s.tick (max t (s.mediaTime (p.frame + s.aud.diff))))
    (by rwa [haud]) hs
  rw [haud] at hstart
  have hprompts : ((s.tick (max t (s.mediaTime (p.frame + s.aud.diff)))).startPrompt key).aud.prompts =
      tupd s.aud.prompts key (fun p => p.start s.aud.f muted) := by
    rw [hstart, State.modPrompt, State.modAud, State.count_aud, haud]
  refine ⟨_, p.start s.aud.f muted, exec_promptStart_of_waiting h hs, ?_, rfl, rfl, rfl, fun k hk => ?_, ?_⟩
  · rw [hprompts, tfind_tupd_same, h]
    rfl
  · rw [hprompts, tfind_tupd_ne _ _ hk.symm]
  · rw [hstart, State.modPrompt_now, State.count_now]

theorem exec_emergencyPromptLoop_of_idle (h : s.cfg.clip 0 (s.devN 0x090B) = none ∨ s.lane.emg = false) :
    exec (.emergencyPromptLoop t) s = .next (s.tick t) := by
  rcases hclip : s.cfg.clip 0 (s.devN 0x090B) with _ | l
  · simp [exec, execEmergencyPromptLoop, hclip]
  · have hemg := h.resolve_left (by simp [hclip])
    simp [exec, execEmergencyPromptLoop, hclip, hemg]

/-- A lane's repeat of the emergency prompt, from frame `start` (R312). -/
def State.emgPrompt (s : State) (lane : Nat) (start : Int) (l : List Int) : Prompt :=
  { source := lane, tenant := 0, prompt := s.devN 0x090B, frame := start, stamp := s.tim.served, clip := clipAt s.khz l, emg := true }

theorem exec_emergencyPromptLoop_of_lane {l : List Int} {lane : Nat} (hclip : s.cfg.clip 0 (s.devN 0x090B) = some l)
    (hemg : s.lane.emg = true) (hlane : s.audCfg.laneSources = [lane]) : let at_ := s.aud.emgNext.getD s.aud.f
    let s1 := s.tick (max t (s.mediaTime (at_ + s.aud.diff)))
    exec (.emergencyPromptLoop t) s = .next ((s1.addPrompt (s1.emgPrompt lane (max at_ s.aud.f) l)).modAud
      (fun a => { a with emgNext := some (max at_ s.aud.f + (clipAt s.khz l).length + 1000 * s.khz) })) := by
  intro at_ s1
  simp only [exec, execEmergencyPromptLoop, State.tick_cfg, State.tick_devN, hclip, State.tick_lane, hemg, Bool.not_true,
    Bool.false_eq_true, ↓reduceIte, State.tick_audCfg, hlane, List.foldl_cons, List.foldl_nil, State.tick_aud, State.tick_khz]
  have hkhz (p : Prompt) : (s1.addPrompt p).khz = s.khz := by
    refine (State.khz_of_ver (s := s1) ?_ ?_).trans (s.tick_khz _)
    · unfold State.addPrompt
      dsimp only
      split <;> rfl
    · rw [State.addPrompt_frame]
  rw [hkhz, State.emgPrompt, s.tick_devN, s.tick_khz]

theorem State.addPrompt_of_none (h : s.aud.prompts = []) : s.addPrompt p =
    s.modAud (fun a => { a with nextKey := s.aud.nextKey + 1, prompts := [(s.aud.nextKey, p)] }) := by
  unfold State.addPrompt
  rw [h]
  refine (if_neg Bool.false_ne_true).trans ?_
  simp [State.modAud, h, tset]

theorem emergencyPrompts {l : List Int} {lane : Nat} (hclip : s.cfg.clip 0 (s.devN 0x090B) = some l) (hemg : s.lane.emg = true)
    (hlane : s.audCfg.laneSources = [lane]) (hnone : s.aud.prompts = []) :
    let start : Int := max (s.aud.emgNext.getD s.aud.f) s.aud.f
    ∃ s' q, exec (.emergencyPromptLoop t) s = .next s' ∧ s'.aud.prompts = [(s.aud.nextKey, q)] ∧ q.source = lane ∧ q.tenant = 0 ∧
      q.prompt = s.devN 0x090B ∧ q.frame = start ∧ q.clip = clipAt s.khz l ∧ q.emg = true ∧ q.started = false ∧
      s'.aud.emgNext = some (start + (clipAt s.khz l).length + 1000 * s.khz) := by
  intro start
  let s1 := s.tick (max t (s.mediaTime (s.aud.emgNext.getD s.aud.f + s.aud.diff)))
  have haud : s1.aud = s.aud := s.tick_aud _
  have hadd := State.addPrompt_of_none (s := s1) (p := s1.emgPrompt lane start l) (by rwa [haud])
  refine ⟨_, s1.emgPrompt lane start l, exec_emergencyPromptLoop_of_lane hclip hemg hlane, ?_, rfl, rfl, s.tick_devN _ _, rfl,
    congrArg (clipAt · l) (s.tick_khz _), rfl, rfl, rfl⟩
  rw [haud] at hadd
  exact congrArg (·.aud.prompts) hadd

end

/-! ### A block (R291, R293) -/

/-- What a block's work may change: streams, buses and prompts, what is sent and counted, and not the block's own clock. -/
structure State.Mixes (s s' : State) : Prop where
  frame : s' = { s with
    ins := s'.ins, net := s'.net, stat := s'.stat, evt := s'.evt, out := s'.out, freeCtr := s'.freeCtr
    aud := { s.aud with
      rx := s'.aud.rx, tx := s'.aud.tx, buses := s'.aud.buses, prompts := s'.aud.prompts, power := s'.aud.power
      noCells := s'.aud.noCells } }

theorem State.Mixes.refl (s : State) : s.Mixes s := ⟨rfl⟩

theorem State.Mixes.trans {a b c : State} (h1 : a.Mixes b) (h2 : b.Mixes c) : a.Mixes c where
  frame := by rw [h2.frame, h1.frame]

section
variable {s s' : State}

theorem State.Sends.mixes (h : s.Sends s') : s.Mixes s' := ⟨by rw [h.frame]⟩

theorem State.Mixes.foldl {α : Type} (h : s.Mixes s') {f : State → α → State} (hf : ∀ (s : State) (x : α), s.Mixes (f s x)) (l : List α) :
    s.Mixes (l.foldl f s') := h.trans (foldl_rel State.Mixes .refl (fun _ _ _ => .trans) f hf l s')

theorem State.Mixes.count (h : s.Mixes s') {g n i by_ : Nat} : s.Mixes (s'.count g n i by_) :=
  h.trans ⟨by rw [State.count_by_frame]⟩

theorem State.Mixes.modRx (h : s.Mixes s') {n : Nat} {f : RxStream → RxStream} : s.Mixes (s'.modRx n f) := h.trans ⟨rfl⟩

theorem State.Mixes.emitOut (h : s.Mixes s') {o : Output} : s.Mixes (s'.emitOut o) := h.trans ⟨rfl⟩

theorem State.rxRestart_mixes (s : State) (n : Nat) : s.Mixes (s.rxRestart n) := (State.Mixes.refl s).count.modRx

theorem State.rxDiscard_mixes (s : State) (n p k : Nat) : s.Mixes (s.rxDiscard n p k) := (State.Mixes.refl s).count.modRx

theorem State.rxStep_mixes (s : State) (k : Int) (n : Nat) (c : RxCfg) : s.Mixes (s.rxStep k n c) := by
  unfold State.rxStep
  split
  · exact .refl s
  split
  · exact s.rxRestart_mixes n
  split
  · exact (s.rxDiscard_mixes _ _ _).modRx
  · exact (State.Mixes.refl s).modRx

theorem State.rxLost_mixes (s : State) (n p : Nat) : s.Mixes (s.rxLost n p) := (State.Mixes.refl s).count.modRx

theorem State.rxSync_mixes (s : State) (n : Nat) (c : RxCfg) : s.Mixes (s.rxSync n c) :=
  (s.rxDiscard_mixes _ _ _).count.count.modRx.trans (State.rxLost_mixes _ _ _)

theorem State.rxAdaptive_mixes (s : State) (n : Nat) (c : RxCfg) : s.Mixes (s.rxAdaptive n c) := by
  unfold State.rxAdaptive
  dsimp only
  split
  · exact (State.Mixes.refl s).count.modRx
  · exact (State.Mixes.refl s).count.count.modRx.trans (State.rxLost_mixes _ _ _)

theorem State.rxBlock_mixes (s : State) (n : Nat) (c : RxCfg) : s.Mixes (s.rxBlock n c) := by
  have hfresh : s.Mixes (if (s.rxs n).restart then s.rxRestart n else s) := by
    split
    · exact s.rxRestart_mixes n
    · exact .refl s
  unfold State.rxBlock
  dsimp only
  split
  · exact hfresh
  split
  · exact hfresh.trans (State.rxAdaptive_mixes _ _ _)
  · exact hfresh.trans (State.rxSync_mixes _ _ _)

theorem State.assignBuses_mixes (s : State) : s.Mixes s.assignBuses := ⟨by rw [State.assignBuses_frame]⟩

theorem State.startPrompt_mixes (s : State) (k : Nat) : s.Mixes (s.startPrompt k) := by
  unfold State.startPrompt
  split
  · exact .refl s
  · dsimp only
    split
    · exact .refl s
    · exact (State.Mixes.refl s).count.trans ⟨rfl⟩

theorem State.meter_mixes (s : State) (tdmIn : List (List Int)) : s.Mixes (s.meter tdmIn) := ⟨rfl⟩

theorem State.concealBus_mixes (s : State) (src : List BusSource) : s.Mixes (s.concealBus src) :=
  (State.Mixes.refl s).foldl (fun s b => by
    split
    · exact (State.Mixes.refl s).count
    · exact .refl s) src

/-- One bus's block, kept (R306). -/
theorem State.mix_mixes (s : State) (tdmIn : List (List Int)) : s.Mixes (s.mix tdmIn) :=
  (State.Mixes.refl s).foldl (fun s p => by
    refine State.Mixes.trans (State.Mixes.count ?_) ⟨rfl⟩
    split
    · exact .refl s
    · exact s.concealBus_mixes p.2) _

theorem State.tdmOut_mixes (s : State) : s.Mixes s.tdmOut :=
  (State.Mixes.refl s).foldl (fun s p => by
    split
    · exact .refl s
    · exact (State.Mixes.refl s).emitOut) _

theorem State.convoy_mixes (s : State) (c : TxCfg) (data : List Byte) : s.Mixes (s.convoy c data) :=
  (State.Mixes.refl s).foldl (fun s port => by
    split
    · exact (State.admitCopy_sends _ _ _ _ _ _ _ _ _ _ _).mixes
    · exact .refl s) _

theorem State.txBlock_mixes (s : State) (n : Nat) (c : TxCfg) : s.Mixes (s.txBlock n c) := by
  unfold State.txBlock
  split
  · exact .refl s
  · dsimp only
    split
    · exact ⟨rfl⟩
    · exact State.Mixes.trans ⟨rfl⟩ (State.convoy_mixes _ _ _)

theorem State.endPrompts_mixes (s : State) : s.Mixes s.endPrompts := ⟨rfl⟩

/-- A block's work between its step and its end: streams, prompts, buses and outputs. -/
def State.blockWork (s : State) (tdmIn : List (List Int)) : State :=
  let s := if s.aud.noCells then s.assignBuses else s
  let s := s.audCfg.rx.foldl (fun s p => s.rxBlock p.1 p.2) s
  let due := s.aud.prompts.filter (fun q => !q.2.started && decide (q.2.frame < ((s.aud.f + s.blockLen : Nat) : Int)))
  let s := due.foldl (fun s q => s.startPrompt q.1) s
  let s := ((s.meter tdmIn).mix tdmIn).tdmOut
  s.audCfg.tx.foldl (fun s p => s.txBlock p.1 p.2) s

/-- The frame index of the next block, `n` frames on. -/
def State.advance (s : State) (n : Nat) : State := s.modAud (fun a => { a with f := a.f + n })

theorem State.advance_f (s : State) (n : Nat) : (s.advance n).aud.f = s.aud.f + n := rfl

theorem State.advance_now (s : State) (n : Nat) : (s.advance n).now = s.now := rfl

theorem State.advance_diff (s : State) (n : Nat) : (s.advance n).aud.diff = s.aud.diff := rfl

theorem State.advance_stepDue (s : State) (n : Nat) : (s.advance n).aud.stepDue = s.aud.stepDue := rfl

theorem State.audioBlock_eq (s : State) (tdmIn : List (List Int)) : s.audioBlock tdmIn =
    ((s.applyStep.blockWork tdmIn).advance (s.applyStep.blockWork tdmIn).blockLen).endPrompts := rfl

theorem State.blockWork_mixes (s : State) (tdmIn : List (List Int)) : s.Mixes (s.blockWork tdmIn) := by
  have hbuses : s.Mixes (if s.aud.noCells then s.assignBuses else s) := by
    split
    · exact s.assignBuses_mixes
    · exact .refl s
  unfold State.blockWork
  dsimp only
  generalize (if s.aud.noCells then s.assignBuses else s) = s1 at hbuses ⊢
  have hrx := hbuses.foldl (fun s (p : Nat × RxCfg) => s.rxBlock_mixes p.1 p.2) s1.audCfg.rx
  generalize s1.audCfg.rx.foldl (fun s p => s.rxBlock p.1 p.2) s1 = s2 at hrx ⊢
  have hprompts (l : List (Nat × Prompt)) := hrx.foldl (fun s (q : Nat × Prompt) => s.startPrompt_mixes q.1) l
  generalize s2.aud.prompts.filter _ = due
  have hdue := hprompts due
  generalize due.foldl (fun s q => s.startPrompt q.1) s2 = s3 at hdue ⊢
  have hout := ((hdue.trans (s3.meter_mixes tdmIn)).trans (State.mix_mixes _ tdmIn)).trans (State.tdmOut_mixes _)
  generalize ((s3.meter tdmIn).mix tdmIn).tdmOut = s4 at hout ⊢
  exact hout.foldl (fun s (p : Nat × TxCfg) => s.txBlock_mixes p.1 p.2) s4.audCfg.tx

theorem State.Mixes.now (h : s.Mixes s') : s'.now = s.now := by rw [h.frame]

theorem State.Mixes.f (h : s.Mixes s') : s'.aud.f = s.aud.f := by rw [h.frame]

theorem State.Mixes.diff (h : s.Mixes s') : s'.aud.diff = s.aud.diff := by rw [h.frame]

theorem State.Mixes.stepDue (h : s.Mixes s') : s'.aud.stepDue = s.aud.stepDue := by rw [h.frame]

theorem State.Mixes.blockLen (h : s.Mixes s') : s'.blockLen = s.blockLen :=
  congrArg (· / 8) (State.khz_of_ver (by rw [h.frame]) (by rw [h.frame]))

/-- The clock of a block under a step that is due (R293). -/
theorem State.applyStep_effect (s : State) : s.applyStep.now = s.now ∧ s.applyStep.aud.f = s.aud.f ∧ s.applyStep.blockLen = s.blockLen ∧
    (s.aud.stepDue = 0 → s.applyStep.aud.diff = s.aud.diff) ∧
    (s.aud.stepDue ≠ 0 → s.aud.stepAt ≠ s.now → s.applyStep.aud.diff = s.aud.diff + s.aud.stepDue ∧ s.applyStep.aud.stepDue = 0) := by
  unfold State.applyStep
  dsimp only
  split
  next h => exact ⟨rfl, rfl, rfl, fun _ => rfl, fun hdue hat => (h.elim hdue hat).elim⟩
  next h =>
    have hmix := (State.Mixes.refl (s.modAud (fun a => { a with
      diff := a.diff + s.aud.stepDue, stepDue := 0, tx := tmap a.tx (fun _ x => { x with marker := true }) }))).foldl
      (fun (s1 : State) p => s1.rxStep_mixes s.aud.stepDue p.1 p.2) (s.modAud (fun a => { a with
      diff := a.diff + s.aud.stepDue, stepDue := 0, tx := tmap a.tx (fun _ x => { x with marker := true }) })).audCfg.rx
    refine ⟨?_, ?_, hmix.blockLen, fun hdue => absurd (.inl hdue) h, fun _ _ => ⟨?_, ?_⟩⟩
    · rw [hmix.frame]
      rfl
    · rw [hmix.frame]
      rfl
    · rw [hmix.frame]
      rfl
    · rw [hmix.frame]
      rfl

/-- A block: its clock moves on by its frames, and by a step that is due. -/
theorem State.audioBlock_effect (s : State) (tdmIn : List (List Int)) : (s.audioBlock tdmIn).aud.f = s.aud.f + s.blockLen ∧
    (s.audioBlock tdmIn).now = s.now ∧ (s.aud.stepDue = 0 → (s.audioBlock tdmIn).aud.diff = s.aud.diff) ∧
    (s.aud.stepDue ≠ 0 → s.aud.stepAt ≠ s.now → (s.audioBlock tdmIn).aud.diff = s.aud.diff + s.aud.stepDue ∧
      (s.audioBlock tdmIn).aud.stepDue = 0) := by
  have hwork := s.applyStep.blockWork_mixes tdmIn
  obtain ⟨hnow, hf, hlen, hstill, hstep⟩ := s.applyStep_effect
  have hblock : s.audioBlock tdmIn = ((s.applyStep.blockWork tdmIn).advance s.blockLen).endPrompts := by
    rw [State.audioBlock_eq, hwork.blockLen, hlen]
  have hend := ((s.applyStep.blockWork tdmIn).advance s.blockLen).endPrompts_mixes
  rw [← hblock] at hend
  refine ⟨?_, ?_, fun hdue => ?_, fun hdue hat => ⟨?_, ?_⟩⟩
  · rw [hend.f, State.advance_f, hwork.f, hf]
  · rw [hend.now, State.advance_now, hwork.now, hnow]
  · rw [hend.diff, State.advance_diff, hwork.diff, hstill hdue]
  · rw [hend.diff, State.advance_diff, hwork.diff, (hstep hdue hat).1]
  · rw [hend.stepDue, State.advance_stepDue, hwork.stepDue, (hstep hdue hat).2]

theorem exec_audioBlock_of_unpowered {t : Nat} {tdmIn : List (List Int)} (h : s.lcy.powerGood = false) :
    exec (.audioBlock t tdmIn) s = .next (s.tick t) := by
  simp [exec, execAudioBlock, h]

theorem exec_audioBlock_of_powered {t : Nat} {tdmIn : List (List Int)} (h : s.lcy.powerGood = true) :
    exec (.audioBlock t tdmIn) s = .next ((s.tick (max t s.blockTime)).audioBlock tdmIn) := by
  simp [exec, execAudioBlock, h]

theorem blockPlayed {t : Nat} {tdmIn : List (List Int)} (h : s.lcy.powerGood = true) : let s1 := s.tick (max t s.blockTime)
    ∃ s', exec (.audioBlock t tdmIn) s = .next s' ∧ s'.aud.f = s.aud.f + s.blockLen ∧ s'.now = s1.now ∧
      (s.aud.stepDue = 0 → s'.aud.diff = s.aud.diff) ∧
      (s.aud.stepDue ≠ 0 → s.aud.stepAt ≠ s1.now → s'.aud.diff = s.aud.diff + s.aud.stepDue ∧ s'.aud.stepDue = 0) := by
  intro s1
  have heffect := s1.audioBlock_effect tdmIn
  rw [s.tick_aud, s.tick_blockLen] at heffect
  exact ⟨s1.audioBlock tdmIn, exec_audioBlock_of_powered h, heffect⟩

end

/-- Settles O45: a packet's fate by its form, its source and its distance, a block's clock, and the bounds of what it mixes. -/
theorem audioEngine : Obligations.AudioEngine := by
  refine ⟨fun t n l p s => ⟨exec_rtpPacket_of_unset, fun c h hon hl hb => ?packet⟩,
    fun s n l seq stamp c rows hsync => datagramPlaced s n l seq stamp c rows hsync,
    fun t n l s hl => ⟨legSilent hl, exec_legStale_of_not_running⟩,
    fun t n s => ⟨fun c p hc hp hon ha => ratioMeasured hc hp hon ha, fun c hc ha => exec_adaptiveMeasure_of_synchronous hc ha⟩,
    fun t tdmIn s => ⟨exec_audioBlock_of_unpowered, blockPlayed⟩, fun chans n pos x => RxStream.frames_counts chans n pos x, busMixed,
    fun t key s p h => ⟨promptStarts h, exec_promptStart_of_started h⟩,
    fun t s => ⟨exec_emergencyPromptLoop_of_idle, fun l lane hclip hemg hlane hnone => emergencyPrompts hclip hemg hlane hnone⟩⟩
  case packet =>
    have hguard := rtpPacket_guard hon hl hb
    refine ⟨exec_rtpPacket_of_bad_form h hguard, fun pt seq stamp ssrc body hp => ⟨exec_rtpPacket_of_other h hguard hp,
      fun hpt hlen hsrc => ⟨fun x hx hne => exec_rtpPacket_of_other_source h hguard hp hpt hlen hsrc hx hne, fun hx =>
        ⟨_, exec_rtpPacket_of_accepted h hguard hp hpt hlen hsrc hx, rfl, ?_⟩⟩⟩⟩
    exact packetTaken (s.tick t) n l ssrc c seq stamp _

end Sys2Proof.Machine
end
